-- ==== Sys2Proof/Word.lean ====
section
/-!
DEFINITION. The plain word types of the FLB-1640 (R1, R2) and nothing else: a 64-bit register or semaphore word,
a byte, a 16-bit reason code.  Bit fields, byte order and the other helpers stand in Machine/Bits.lean.
-/
namespace Sys2Proof

/-- A 64-bit register, semaphore or payload word (R2, R20). -/
abbrev Word64 := BitVec 64

/-- One byte of memory. -/
abbrev Byte := BitVec 8

/-- A 16-bit reason code (R38); 0 is success. -/
abbrev Code := Nat

end Sys2Proof
end

