-- ==== Sys2Proof/Syntax.lean ====
section
/-!
DEFINITION. The commands the device takes: one constructor of `Instr` per row of spec/opcode_table.json, in the table's
order.  The table gives no row any operand field, so a command's operands are the model's: who writes (a requester of
Table 2.10 or a virtual function), which page, ring or port, the value written, and for an event of the device's
surroundings what was observed (log 4).
-/
namespace Sys2Proof

/-- What the boot ROMs, stage one and the dies' self-tests find at a cold power-on or package reset (Table 20.3): facts of the
device's surroundings and of its silicon. -/
structure BootReport where
  /-- Units that fail built-in self-test: kind and physical index (R446).  A kind is the unit's page class, with 0 for a
  Crown, 13 for a host port, 16 for a matrix engine and 17 for a Factor Engine. -/
  bist : List (Nat × Nat)
  /-- Channels with failing lanes, and how many fail (R315). -/
  lanes : List (Nat × Nat)
  /-- Crowns whose ROM self-test passes and whose own verification of the chain succeeds (R453, R456). -/
  sound : List Nat
  /-- Crowns whose device key is reconstructed (R462). -/
  keys : List Nat
  /-- A copy of the anti-rollback counters authenticates (R459). -/
  counters : Bool
  /-- An Ezquin-signed counter-repair record bound to the package serial, with the counters it carries (R459). -/
  repair : Option (List Nat) := none
  /-- The signing certificates' validity periods hold at the calendar's time (R457). -/
  certWithin : Bool
  /-- The package NVM can be read (R449). -/
  nvm : Bool
  /-- REFCLK_B0 runs (R477). -/
  refclk : Bool
  /-- Milliseconds from PWR_GOOD or reset to step 10 of Table 20.3. -/
  ms : Nat
  deriving DecidableEq, Repr

/-- A firmware image as a PLDM update delivers it (R455, R461). -/
structure FwImage where
  /-- For the bundle slots; otherwise for the stage-one slots. -/
  bundle : Bool
  /-- Slot named: 0 A, 1 B. -/
  slot : Nat
  /-- The image as written and read back passes every check of R455; a reset during the write leaves it false. -/
  valid : Bool
  /-- Security version (Table 20.2). -/
  svn : Nat
  /-- Record sequence number (Table 20.2). -/
  seq : Nat
  /-- Body of the record. -/
  body : List Byte
  deriving DecidableEq, Repr

/-- Who makes a register access (R21, R28, Table 2.10). -/
inductive Requester where
  /-- The physical function of host port H0 (0) or H1 (1). -/
  | pf (port : Nat)
  /-- Virtual function `vf` of a host port, numbered from 0 as HP_VF_MAP numbers them (Table 15.7). -/
  | vf (port vf : Nat)
  /-- Crown 0 or Crown 1. -/
  | crown (n : Nat)
  /-- The runtime on the host-side cores. -/
  | hsc
  /-- The tidy core of a physical core, through its own address map. -/
  | tidy (core : Nat)
  deriving DecidableEq, Repr

/-- The width and half of a register access (R6, R20). -/
inductive Width where | w64 | lo32 | hi32
  deriving DecidableEq, Repr

/-- A write of SHP_CTRL with COMMIT (R30), and the trim overrides of the Shape that come with it (R27, R34): the spec names no register
of theirs. -/
structure CommitWrite where
  /-- The word written. -/
  word : Word64
  /-- Kind of unit, its index, and whether the override removes it or would restore it. -/
  overrides : List (Nat × Nat × Bool)
  deriving DecidableEq, Repr

/-- What became of one 64-byte HBM access (R310, R311, R312). -/
structure HbmAccess where
  /-- A write; otherwise a read. -/
  write : Bool
  /-- Channel-local address of the access, 64-byte aligned (R303). -/
  addr : Nat
  /-- Tries that failed parity, or that the stack reported as a write-parity error: 0 to 3. -/
  fails : Nat
  /-- Failing bytes of the last failed try, bit n for byte n. -/
  bytes : Nat
  /-- On-die ECC corrections made by the stack (R310). -/
  odecc : Nat
  /-- Time in µs, for the count within 1 ms of R317. -/
  us : Nat
  /-- Ring and position of the command that needed the access, if any. -/
  cmd : Option (Nat × Nat)
  deriving DecidableEq, Repr

/-- A PTP message as received (R51): its domain, and whether the port is a PTP slave once the default best master clock
algorithm, which the spec takes from IEEE 1588-2019, has judged it. -/
structure PtpMessage where
  /-- messageType of IEEE 1588-2019: 0 Sync, 1 Delay_Req, 2 Pdelay_Req, 3 Pdelay_Resp, 8 Follow_Up, 9 Delay_Resp,
  10 Pdelay_Resp_Follow_Up, 11 Announce. -/
  kind : Nat
  /-- domainNumber. -/
  domain : Nat
  /-- The port is in the slave state after the message. -/
  slave : Bool
  deriving DecidableEq, Repr

/-- An LLDPDU (R377, R378): whether its mandatory TLVs are sound, its chassis and port IDs, its source MAC address, its TTL in seconds, and the
information strings of its organisationally specific TLVs (type 127), each without its 2-byte header. -/
structure Lldpdu where
  /-- The mandatory TLVs are present and sound. -/
  valid : Bool
  /-- Chassis ID, its subtype first (R377). -/
  chassis : List Byte
  /-- Port ID, its subtype first (R377). -/
  portId : List Byte
  /-- Source MAC address. -/
  mac : Nat
  /-- TTL in seconds. -/
  ttl : Nat
  /-- Organisationally specific TLVs, OUI included (Table 16.2). -/
  orgs : List (List Byte)
  deriving DecidableEq, Repr

/-- The payload of a Brim frame by what it says; the spec gives the fields a payload carries and not its layout (log 29). -/
inductive BrimBody where
  /-- No payload (ACK). -/
  | none
  /-- Bytes of a PUT, from TARGET on (R388). -/
  | put (data : List Byte)
  /-- Bytes of a collective: the digest of its parameters (R390), the sending rank, its input's non-finite count (R392), and a
  segment of the part the receiver needs, from the byte offset in TARGET (Table 16.3). -/
  | coll (digest : List Nat) (rank nonfinite : Nat) (data : List Byte)
  /-- A vote-path word (R392): the group's key and parameters, the values, how many contributions they combine, the node they
  come from or go to, whether they travel up, and for a downward one the status. -/
  | vote (key params vals : List Nat) (count node : Nat) (up : Bool) (code : Nat)
  /-- A remote signal: SIG_OP and SIG_VAL (R388). -/
  | signal (op val : Nat)
  /-- An announcement (R380): epoch, effective stroke and bitmap, bit n for node n. -/
  | announce (epoch stroke bitmap : Nat)
  /-- A lost node and the epoch of its loss (R394). -/
  | lost (node epoch : Nat)
  /-- A refusal of the frame with a sequence number, or of a collective's parameters (R387, R390). -/
  | nak (code seq : Nat)
  deriving DecidableEq, Repr

/-- A Brim frame (R383, Table 16.3): its header fields, whether its CRC-32C is sound, and its payload. -/
structure BrimFrame where
  /-- VER. -/
  ver : Nat
  /-- TYPE: 0 DATA, 1 ACK, 2 VOTE, 3 SIGNAL, 4 ANNOUNCE, 5 LOST, 6 NAK. -/
  typ : Nat
  /-- HOPS. -/
  hops : Nat
  /-- SRC_NODE. -/
  src : Nat
  /-- DST_NODE. -/
  dst : Nat
  /-- SEQ. -/
  seq : Nat
  /-- ACK. -/
  ack : Nat
  /-- EPOCH. -/
  epoch : Nat
  /-- CREDITS. -/
  credits : Nat
  /-- JOB. -/
  job : Nat
  /-- TARGET. -/
  target : Nat
  /-- The CRC over header and payload is sound. -/
  crcOk : Bool
  /-- Payload. -/
  body : BrimBody
  deriving DecidableEq, Repr

/-- The commands of the device: one constructor per row of the table. -/
inductive Instr where
  /-- REGISTER_WRITE (R4): A write to a register that has no row of its own takes effect by its access type, including W1C clears, held 32-bit halves and ignored writes to pages a function may not write. -/
  | registerWrite (who : Requester) (off : Nat) (w : Width) (v : Word64)
  /-- BLOCK_ENABLE (R24): Writing BLK_CTRL.EN = 1 to a block that is not LIVE sets BUSY and starts the configuration-consistency check. -/
  | blockEnable (who : Requester) (page : Nat)
  /-- BLOCK_CHECK_DONE (R25): The consistency check ends within 50 µs and sets LIVE, or records a refusal in BLK_REASON, or abandons the enable after EN = 0. -/
  | blockCheckDone (page : Nat)
  /-- BLOCK_DISABLE (R24): Writing BLK_CTRL.EN = 0 stops new work, or abandons an enable whose check is running. -/
  | blockDisable (who : Requester) (page : Nat)
  /-- BLOCK_DRAIN_DONE (R24): Once a disabled block's work in flight has completed, LIVE clears. -/
  | blockDrainDone (page : Nat)
  /-- ENGINE_RESET (R22): BLK_CTRL.RST resets one block: its work in flight ends with 0xF005 and its block-specific registers take their engine-reset values. -/
  | engineReset (who : Requester) (page : Nat)
  /-- ENGINE_RESET_DONE (R422): An engine reset completes within 100 µs and the block accepts work again. -/
  | engineResetDone (page : Nat)
  /-- SH_FIELD_WRITE (R27): A write to an SH field changes only the Pending bank; it is refused with 0x0203 while a commit or revert is in progress. -/
  | shFieldWrite (who : Requester) (off : Nat) (w : Width) (v : Word64)
  /-- SHP_LOCK_WRITE (R28): A requester claims SHP_LOCK by writing its own ID while HOLDER is 0 and releases it by writing 0; other writes are refused with 0x0208. -/
  | shpLockWrite (who : Requester) (v : Word64)
  /-- SHAPE_COMMIT (R30): Writing SHP_CTRL.COMMIT sets BUSY, holds fetches for changed partitions and checks the Pending bank. -/
  | shapeCommit (who : Requester) (ctrl : CommitWrite)
  /-- SHAPE_COMMIT_CHECK_DONE (R482): The commit check ends; on failure the first failure is reported in LAST_RESULT and SHP_FAIL and the banks are unchanged. -/
  | shapeCommitCheckDone
  /-- SHAPE_SWAP (R32): All blocks switch to the new Live bank in one swap within 2 ms of COMMIT or REVERT, and BLK_SHAPE_GEN and SHAPE_APPLIED are updated on every present page. -/
  | shapeSwap
  /-- SHAPE_REVERT (R35): Writing SHP_CTRL.REVERT swaps Live and Prior, or is refused if Prior is empty, Pending is dirty or a changed partition is not idle. -/
  | shapeRevert (who : Requester) (ctrl : Word64)
  /-- SHAPE_PIN (R36): Writing SHP_CTRL.PIN starts writing the Live bank to the NVM slot that does not hold the current pinned Shape. -/
  | shapePin (who : Requester) (ctrl : Word64)
  /-- SHAPE_PIN_DONE (R36): The pin write and its read-back end within 400 ms, updating PINNED or reporting 0x020D. -/
  | shapePinDone (ok : Bool)
  /-- SHAPE_DISCARD (R33): Writing SHP_CTRL.DISCARD replaces Pending with a copy of Live. -/
  | shapeDiscard (who : Requester) (ctrl : Word64)
  /-- STROKE_BOUNDARY (R43): At each stroke boundary the stroke counter takes its next value and every stroke-driven action of the device is taken. -/
  | strokeBoundary (phaseNs : Int) (ptpNs : Nat)
  /-- STROKE_OUT_FALL (R56): STROKE_OUT falls after 1 µs or half of DIVIDE × period, whichever is shorter. -/
  | strokeOutFall
  /-- PARK_STROKES_REACHED (R240): When BELOW_STROKES reaches a non-zero PARK_STROKES, PARK_NEEDED is set and BLOCK_EVT bit 26 is raised. -/
  | parkStrokesReached (part : Nat)
  /-- QUANTUM_EXPIRY (R404): A resident context's quantum expires and its pre-emption is requested if another context is READY. -/
  | quantumExpiry (part : Nat)
  /-- STROKE_IN_EDGE (R47): A rising edge on STROKE_IN is judged against its acceptance window and either drives a boundary or is counted in STR_IN_ERR. -/
  | strokeInEdge (offsetNs : Int)
  /-- STROKE_SOURCE_PRESENT (R47): Four or sixteen consecutive acceptable edges, or PTP slave state, move the unit to ACQUIRING. -/
  | strokeSourcePresent
  /-- STROKE_LOCK_ACQUIRED (R47): Sixteen consecutive boundaries within ±20 ns move the unit from ACQUIRING to LOCKED. -/
  | strokeLockAcquired (ptpNs : Nat)
  /-- STROKE_SOURCE_LOST (R47): Four consecutive missing or unacceptable edges, or loss of PTP slave state on both ports, move the unit to HOLDOVER or UNLOCKED. -/
  | strokeSourceLost
  /-- HOLDOVER_EXPIRY (R47): After 10,000 strokes in HOLDOVER the unit falls to UNLOCKED and raises BLOCK_EVT bit 19. -/
  | holdoverExpiry
  /-- PTP_MESSAGE_RX (R51): A received PTP message disciplines the stroke unit and may change slave state or move PTP to the alternate port. -/
  | ptpMessageRx (port : Nat) (msg : PtpMessage)
  /-- STR_LOAD (R54): Writing STR_CMD.LOAD arms STR_COUNT_LOAD, which replaces the counter's increment at the next boundary if greater, or is refused with 0x0102. -/
  | strLoad (who : Requester)
  /-- CC_TIME_S_READ (R68): A read of CC_TIME_S latches the fraction for a following read of CC_TIME_F. -/
  | ccTimeSRead (who : Requester)
  /-- CC_TIME_F_WRITE (R68): A write of CC_TIME_F is held for the next write of CC_TIME_S. -/
  | ccTimeFWrite (who : Requester) (v : Word64)
  /-- CC_TIME_S_WRITE (R68): A write of CC_TIME_S sets seconds and the held fraction, clears TIME_INVALID and clears the held fraction. -/
  | ccTimeSWrite (who : Requester) (v : Word64)
  /-- XTAL_STOP (R69): The calendar crystal stops while main power is present; XTAL_FAIL and TIME_INVALID are set and the clock runs from the reference oscillator. -/
  | xtalStop
  /-- XTAL_CHECK (R70): Once a second the always-on island checks a failed crystal and returns the clock to it after 1 s with no missing tick. -/
  | xtalCheck (ticking : Bool)
  /-- VBAT_SAMPLE (R66): Once a second while main power is present VBAT is sampled and VBAT_LOW updated. -/
  | vbatSample (mV : Nat)
  /-- RING_ENABLE (R73): Writing PART_RING_CFG.EN = 1 to a DISABLED ring checks it and sets its pointers to 0 and STATE to RUNNING, or refuses it. -/
  | ringEnable (who : Requester) (part : Nat) (v : Word64)
  /-- RING_DISABLE (R73): Writing PART_RING_CFG.EN = 0 stops fetching and sets STATE to DRAINING. -/
  | ringDisable (who : Requester) (part : Nat) (v : Word64)
  /-- RING_DRAIN_DONE (R73): A DRAINING ring becomes DISABLED when INFLIGHT reaches 0. -/
  | ringDrainDone (ring : Nat)
  /-- DB_TAIL_WRITE (R75): A write of DB_TAIL is accepted and advances TAIL, or stops the ring with 0x0306, or is ignored for a ring not RUNNING. -/
  | dbTailWrite (who : Requester) (ring : Nat) (v : Word64)
  /-- DB_CQ_HEAD_WRITE (R75): A write of DB_CQ_HEAD releases completion-ring entries, or is ignored and recorded with 0x0306. -/
  | dbCqHeadWrite (who : Requester) (ring : Nat) (v : Word64)
  /-- COMMAND_FETCH (R76): A command processor reads the next covered command of a ring in round-robin order when it has in-flight and completion room, advances HEAD and checks the command. -/
  | commandFetch (ccp : Nat)
  /-- COMMAND_COMPLETE (R86): A command completes: it performs or withholds its signal, writes its completion record or log entry, advances CQ_TAIL and may raise its ring's interrupt. -/
  | commandComplete (ring : Nat) (seq : Nat)
  /-- NOP (R81): NOP completes once its waits and not-before are met. -/
  | nop (ring : Nat) (seq : Nat)
  /-- FENCE (R81): FENCE completes when every earlier-fetched command of its ring, or of its context, has completed, and holds later commands until then. -/
  | fence (ring : Nat) (seq : Nat)
  /-- WAIT_STROKE (R60): WAIT_STROKE waits for its target stroke, acting as a barrier with BARRIER and SYNC flags. -/
  | waitStroke (ring : Nat) (seq : Nat)
  /-- SYNC_BARRIER_PROPOSE (R62): When a SYNC barrier's waits are met, the package proposes its readiness boundary to the Brim vote path. -/
  | syncBarrierPropose (ring : Nat) (seq : Nat) (nodes : List Nat)
  /-- SIGNAL (R81): SIGNAL performs its signal and completes. -/
  | semSignal (ring : Nat) (seq : Nat)
  /-- ATOMIC (R81): ATOMIC performs one read-modify-write of an 8-byte word and returns the old value in GOOD_BYTES. -/
  | atomic (ring : Nat) (seq : Nat)
  /-- POUNCE (R112): POUNCE measures the amax of a tensor piece and contributes it to a pounce group. -/
  | pounce (ring : Nat) (seq : Nat)
  /-- GEMM (R145): GEMM multiplies SP operands on the core's matrix engines and drains the result through the drain path. -/
  | gemm (ring : Nat) (seq : Nat)
  /-- VEC_STREAM (R166): VEC_STREAM runs a chain of element-wise steps and reductions, or a top-k, on the vector engine. -/
  | vecStream (ring : Nat) (seq : Nat)
  /-- TC_INSTRUCTION (R180): The tidy core executes one instruction, raising an access fault to itself for an access outside its map or partition. -/
  | tcInstruction (core : Nat)
  /-- TC_ISSUE (R181): A write of the TC_ISSUE CSR issues a command from LDM as if fetched from TC_ISSUE_RING, stalling while the queue is full. -/
  | tcIssue (core : Nat) (addr : Nat)
  /-- TC_STICKY_CLR (R181): A write of TC_STICKY_CLR clears the named bits of CORE_ARITH_STICKY. -/
  | tcStickyClr (core : Nat) (v : Word64)
  /-- TC_WDOG_WRITE (R181): A write of TC_WDOG sets and reloads the tidy-core watchdog period. -/
  | tcWdogWrite (core : Nat) (v : Word64)
  /-- TC_WATCHDOG_EXPIRY (R183): The tidy-core watchdog expires, setting WDOG_WARN, or halting the tidy core on a second expiry with no reload. -/
  | tcWatchdogExpiry (core : Nat)
  /-- TC_RUN_WRITE (R180): Writing CORE_TC_CTRL.RUN = 1 starts the tidy core at CORE_TC_BOOT, and 0 halts it at the next instruction. -/
  | tcRunWrite (who : Requester) (core : Nat) (v : Word64)
  /-- TC_MBOX_WRITE (R184): A write of CORE_TC_MBOX sets HOST_MSG in the tidy core's TC_IP. -/
  | tcMboxWrite (who : Requester) (core : Nat) (v : Word64)
  /-- CONV (R186): CONV runs a convolution, its backward passes or pooling through the window walker. -/
  | convolve (ring : Nat) (seq : Nat)
  /-- ATTN_FWD (R214): ATTN_FWD computes attention over paged keys and values with an online softmax and writes O and LSE. -/
  | attnFwd (ring : Nat) (seq : Nat)
  /-- ATTN_BWD (R217): ATTN_BWD computes dK, dV and dQ in two sweeps of fixed order. -/
  | attnBwd (ring : Nat) (seq : Nat)
  /-- HEAD_EDIT_RETRY (R238): Every 1 µs a sequencer that met EDIT = 1 re-reads the table head with a fresh epoch until EDIT is 0. -/
  | headEditRetry (ring : Nat) (seq : Nat)
  /-- KV_ALLOC (R232): PART_KV_ALLOC.ALLOC takes the lowest-indexed run of FREE slots and returns it in SLOT, or sets NONE. -/
  | kvAlloc (who : Requester) (part : Nat) (v : Word64)
  /-- KV_FREE (R232): PART_KV_ALLOC.FREE releases an ALLOCATED unpinned run to LIMBO. -/
  | kvFree (who : Requester) (part : Nat) (v : Word64)
  /-- KV_REOWN (R232): PART_KV_ALLOC.REOWN sets the OWNER of a run to PART_KV_OWNER. -/
  | kvReown (who : Requester) (part : Nat) (v : Word64)
  /-- EPOCH_ADV (R233): Writing PART_KV_CMD.EPOCH_ADV adds 1 to the partition's walk epoch. -/
  | epochAdv (who : Requester) (part : Nat)
  /-- LIMBO_RELEASE (R236): A LIMBO run becomes FREE once PART_KV_EPOCH_OLD reaches its tag. -/
  | limboRelease (part : Nat)
  /-- SPILL (R241): SPILL moves listed or oldest-first pool pages to the host tier. -/
  | kvSpill (ring : Nat) (seq : Nat)
  /-- FETCH (R244): FETCH moves listed or ranged tier-1 pages into the pool. -/
  | kvFetch (ring : Nat) (seq : Nat)
  /-- SEQ_PARK (R243): SEQ_PARK moves every tier-0 page of a sequence to the host tier and marks its head PARKED. -/
  | seqPark (ring : Nat) (seq : Nat)
  /-- SEQ_UNPARK (R243): SEQ_UNPARK moves a parked sequence's pages back to the pool and clears PARKED. -/
  | seqUnpark (ring : Nat) (seq : Nat)
  /-- KV_MOVE_COMMIT (R245): When a page copy completes, the entry is replaced atomically if unchanged and unpinned, and the source run goes to LIMBO, or the move fails. -/
  | kvMoveCommit (part : Nat)
  /-- FUL_PACK (R255): FUL_PACK packs a tensor view into a chunked container in PACK, SHRINK or CAST mode. -/
  | fulPack (ring : Nat) (seq : Nat)
  /-- FUL_UNPACK (R266): FUL_UNPACK checks and expands a container into a tensor view chunk by chunk. -/
  | fulUnpack (ring : Nat) (seq : Nat)
  /-- UPD_CHECK (R283): UPD_CHECK gathers gate inputs and step-counter votes from every Update Unit and writes the gate record. -/
  | updCheck (ring : Nat) (seq : Nat)
  /-- UPD_APPLY (R285): UPD_APPLY reads the gate once and either applies the optimiser step in every Update Unit or skips it. -/
  | updApply (ring : Nat) (seq : Nat)
  /-- UPD_STATS (R294): UPD_STATS scans parameters and writes statistics records without changing parameter state. -/
  | updStats (ring : Nat) (seq : Nat)
  /-- FACTOR_REFRESH (R299): FACTOR_REFRESH computes damped inverse roots of a list of blocks on the Factor Engine. -/
  | factorRefresh (ring : Nat) (seq : Nat)
  /-- MC_UU_STEP_WRITE (R282): A write to MC_UU_STEP sets the selected group's step counter, or is refused with 0x0105 while the Update Unit holds a command. -/
  | mcUuStepWrite (who : Requester) (ch : Nat) (v : Word64)
  /-- HBM_ACCESS_COMPLETE (R311): A 64-byte HBM access returns and is checked for parity, leading to re-reads, an uncorrectable outcome, a row remap or a retrain trigger. -/
  | hbmAccessComplete (ch : Nat) (acc : HbmAccess)
  /-- RETRAIN_DONE (R317): An unscheduled retrain ends within 60 µs, releasing held traffic on a pass or marking the channel out on a failure. -/
  | retrainDone (ch : Nat) (pass : Bool) (us : Nat) (lanes : Nat)
  /-- ROW_REMAP_COPY_DONE (R322): The copy of a failing row to its spare completes within 2 µs and access to the row resumes. -/
  | rowRemapCopyDone (ch : Nat) (entry : Nat)
  /-- STACK_TEMP_SAMPLE (R313): Every 100 µs a stack's sensors are sampled, stepping refresh and access limits or halting the stack above 105 °C. -/
  | stackTempSample (stk : Nat) (tempC : Int)
  /-- RECAL_DUE (R316): A channel becomes due for recalibration 60 s after its last recalibration, or on a 10 °C temperature move. -/
  | recalDue (ch : Nat)
  /-- RECAL_OVERDUE (R316): A channel still due 120 s after its last recalibration is recalibrated at once. -/
  | recalOverdue (ch : Nat)
  /-- RECAL_DONE (R316): A channel's recalibration ends and the die set's next due channel in the window may start. -/
  | recalDone (ch : Nat)
  /-- EVACUATE (R320): EVACUATE copies the readable part of a set range and writes a loss map for the rest. -/
  | evacuate (ring : Nat) (seq : Nat)
  /-- FRAME_ATTR_WRITE (R307): A write to CDIE_FRAME_ATTR sets a frame's granule, run ordinal or ALLOC bit, or is refused with 0x0A08 or 0x0A03. -/
  | frameAttrWrite (who : Requester) (die : Nat) (v : Word64)
  /-- FRAME_RELEASE (R324): Writing CDIE_FRAME_ATTR.RELEASE moves a RETIRING frame to RETIRED and frees remap entries within it. -/
  | frameRelease (who : Requester) (die : Nat) (v : Word64)
  /-- MARGIN_START (R326): Writing STK_MARGIN.START steps one channel's timing or reference from its trained point and runs a pattern in the reserve. -/
  | marginStart (who : Requester) (stk : Nat) (v : Word64)
  /-- MARGIN_DONE (R326): Within 2 ms the margining point reports its failing bytes, restores the trained point and sets DONE. -/
  | marginDone (stk : Nat) (errors : Nat) (lanes : Nat)
  /-- NVM_WRITE_DONE (R325): A device-signed NVM record write completes, or fails and raises an error record with 0x1009. -/
  | nvmWriteDone (ok : Bool)
  /-- VC_OPEN (R332): VC_OPEN opens a decode or encode session in a CLOSED slot after checking its parameters and buffer table. -/
  | vcOpen (ring : Nat) (seq : Nat)
  /-- VC_CLOSE (R332): VC_CLOSE marks every buffer FREE and closes the slot once earlier commands of the slot have completed. -/
  | vcClose (ring : Nat) (seq : Nat)
  /-- VC_DECODE (R337): VC_DECODE decodes one access unit or temporal unit into a buffer with concealment and a damage map. -/
  | vcDecode (ring : Nat) (seq : Nat)
  /-- VC_ENCODE (R340): VC_ENCODE codes one source picture under rate control and writes slice records and a report. -/
  | vcEncode (ring : Nat) (seq : Nat)
  /-- VC_ENCODE_ROW_START (R342): The encoder starts a CTU row once the source row fence reaches FENCE_BASE + NEED(r). -/
  | vcEncodeRowStart (ring : Nat) (seq : Nat)
  /-- VC_RELEASE (R334): VC_RELEASE clears OUT on the named buffers, or is refused with 0x0B0C. -/
  | vcRelease (ring : Nat) (seq : Nat)
  /-- BAR2_WRITE (R356): A BAR2 or CXL.mem write is checked against its Region Window Table entry and reaches device memory or is discarded. -/
  | bar2Write (who : Requester) (rid : Nat) (addr : Nat) (data : List Byte)
  /-- BAR2_READ (R356): A BAR2 or CXL.mem read is checked against its Region Window Table entry and returns data or Completer Abort. -/
  | bar2Read (who : Requester) (rid : Nat) (addr : Nat) (len : Nat)
  /-- RWT_ENTRY_COMMIT (R357): Writing PART_RWT_W0 replaces the selected Region Window Table entry on all replicas, or is refused. -/
  | rwtEntryCommit (who : Requester) (part : Nat) (v : Word64)
  /-- RWT_SEL_READ (R358): A read of PART_RWT_SEL returns only after earlier entry writes and requests checked against replaced entries have drained. -/
  | rwtSelRead (who : Requester) (part : Nat)
  /-- PLACE_DONE (R360): A write of PART_PLACE_DONE, after earlier BAR2 writes of its requester are visible, adds ADD to the entry's semaphore or is refused. -/
  | placeDone (who : Requester) (part : Nat) (v : Word64)
  /-- MOVE (R361): MOVE copies rectangles of bytes between device memory and host memory or within device memory. -/
  | moveRect (ring : Nat) (seq : Nat)
  /-- ATS_INVALIDATE (R355): An ATS invalidation request is completed within 20 µs after requests under the old translation complete. -/
  | atsInvalidate (port : Nat) (addr : Nat) (len : Nat)
  /-- RT_DOORBELL (R364): A write of PART_RT_DB gives the runtime a new request tail and wakes it. -/
  | rtDoorbell (who : Requester) (part : Nat) (v : Word64)
  /-- MODEL_LOAD (R365): A MODEL_LOAD request starts loading a model's image into the Resident Model Table's hot set. -/
  | modelLoad (part : Nat) (list : Nat) (regions : List (Nat × Nat))
  /-- MODEL_LOAD_DONE (R365): A model load finishes and its response with RMT index and address is written. -/
  | modelLoadDone (part : Nat)
  /-- MODEL_EVICT (R417): A MODEL_EVICT request evicts an unpinned resident model after clearing its window entries. -/
  | modelEvict (part : Nat)
  /-- MODEL_PIN (R365): A MODEL_PIN request adds or removes one pin of a Resident Model Table entry. -/
  | modelPin (part : Nat)
  /-- CONTEXT_CREATE (R365): A CONTEXT_CREATE request creates a context of the partition with runtime-allocated save areas. -/
  | contextCreate (part : Nat) (map : Nat) (areas : List Nat)
  /-- CONTEXT_DESTROY (R365): A CONTEXT_DESTROY request destroys a context that is not resident. -/
  | contextDestroy (part : Nat)
  /-- TIER_POLICY (R365): A TIER_POLICY request sets the KV watermarks and spill and park policy. -/
  | tierPolicy (part : Nat)
  /-- RWT_GRANT (R365): An RWT_GRANT request fills window entries of the partition's range with one fresh key and returns them. -/
  | rwtGrant (part : Nat) (alloc : Nat)
  /-- QUERY (R365): A QUERY request returns the runtime version and partition state. -/
  | query (part : Nat)
  /-- LINK_RECOVERY (R366): A host link retrains through Recovery, replaying unacknowledged TLPs and losing nothing. -/
  | linkRecovery (port : Nat)
  /-- LINK_UP (R373): A host port's link comes up and raises BLOCK_EVT bit 17, drawing a new retain ID at the first link-up after a fresh start. -/
  | linkUp (port : Nat) (speed : Nat) (width : Nat) (cxl : Bool)
  /-- HOST_LOSS (R367): Link down, hot reset or fundamental reset of a port stops host-facing rings and commands and logs their records. -/
  | hostLoss (port : Nat)
  /-- RETAIN_CLAIM (R370): A write of HP_RETAIN_CLAIM in HELD leaves Block-hold on a matching ID, or is refused with 0x0C09. -/
  | retainClaim (who : Requester) (port : Nat) (ms : Nat) (v : Word64)
  /-- RETAIN_DISCARD (R370): Writing HP_RETAIN_CTRL.DISCARD performs an unretained package reset. -/
  | retainDiscard (who : Requester) (port : Nat)
  /-- FLR (R350): Function-level reset of a VF or PF performs a partition reset of the partitions it maps to. -/
  | flr (who : Requester)
  /-- DW_QUEUE_ENABLE (R372): Writing HP_DW_CFG.EN = 1 checks and enables the Dwerdo queue pair. -/
  | dwQueueEnable (who : Requester) (port : Nat) (v : Word64)
  /-- DW_SQ_TAIL_WRITE (R372): A write of DW_SQ_TAIL advances the Dwerdo submission tail or stops the queue with 0x0306. -/
  | dwSqTailWrite (who : Requester) (port : Nat) (v : Word64)
  /-- DW_CQ_HEAD_WRITE (R372): A write of DW_CQ_HEAD releases Dwerdo completion entries, or is ignored when out of range. -/
  | dwCqHeadWrite (who : Requester) (port : Nat) (v : Word64)
  /-- DW_COMMAND (R372): The host-side cores take a Dwerdo command and build its Brutar counterpart, or complete it at once with a refusal. -/
  | dwCommand (port : Nat) (ring : Nat)
  /-- PF_D3HOT (R430): A PF enters D3hot, and Block-hold is entered when every linked PF is in D3hot. -/
  | pfD3hot (port : Nat)
  /-- PF_D0 (R430): A PF returns to D0 and leaves Block-hold with no claim. -/
  | pfD0 (port : Nat)
  /-- BRIM_LINK_UP (R376): PCS lock and alignment held for 10 ms move a SENSING port to TRAINED. -/
  | brimLinkUp (port : Nat)
  /-- BRIM_LINK_LOSS (R376): A Brim port that loses its link returns to SENSING. -/
  | brimLinkLoss (port : Nat)
  /-- LLDP_TX (R377): A port from TRAINED onward sends an LLDPDU every 1 s, or every 250 ms in fast start. -/
  | lldpTx (port : Nat)
  /-- LLDPDU_RX (R378): A received LLDPDU is stored and moves the port to DISCOVERED, or leaves it TRAINED on a mismatch. -/
  | lldpduRx (port : Nat) (du : Lldpdu)
  /-- UDP_DISCOVERY_TIMEOUT (R378): A UDP port enters DISCOVERED 2 s after TRAINED with no LLDPDU. -/
  | udpDiscoveryTimeout (port : Nat)
  /-- BRIM_DRAIN_DONE (R376): A DRAINING port becomes DARK when no frame is unacknowledged, or after 1 ms. -/
  | brimDrainDone (port : Nat)
  /-- ANNOUNCE (R380): Writing EDIE_MEMB_CMD.ANNOUNCE checks a proposed epoch and sends it in ANNOUNCE frames, setting PENDING. -/
  | announce (who : Requester) (edie : Nat)
  /-- ANNOUNCE_RX (R380): A received ANNOUNCE frame becomes pending under the same checks, or is refused as late or conflicting. -/
  | announceRx (port : Nat) (frame : BrimFrame)
  /-- DATA_RX (R386): A received DATA frame is sequence- and CRC-checked, forwarded, held by epoch or applied exactly once. -/
  | dataRx (port : Nat) (frame : BrimFrame)
  /-- ACK_RX (R385): A received ACK advances the connection's acknowledged point and returns credits. -/
  | ackRx (port : Nat) (frame : BrimFrame)
  /-- VOTE_RX (R392): A received VOTE frame combines a vote-path contribution upward or carries the result downward. -/
  | voteRx (port : Nat) (frame : BrimFrame)
  /-- SIGNAL_RX (R388): A received SIGNAL frame applies a remote semaphore signal after the JOB and window checks, or is answered with NAK. -/
  | signalRx (port : Nat) (frame : BrimFrame)
  /-- LOST_RX (R394): A received LOST frame marks the named node lost and fails in-flight work that depends on it. -/
  | lostRx (port : Nat) (frame : BrimFrame)
  /-- NAK_RX (R387): A received NAK stops the sending command with its code. -/
  | nakRx (port : Nat) (frame : BrimFrame)
  /-- RTO_EXPIRY (R385): With no ACK advance for RTO_US µs the sender resends from the first unacknowledged frame, and fails the connection after RETRY_MAX timeouts. -/
  | rtoExpiry (port : Nat) (node : Nat)
  /-- ALL_REDUCE (R391): ALL_REDUCE reduces every rank's input in a fixed tree and writes the result on every rank. -/
  | allReduce (ring : Nat) (seq : Nat)
  /-- REDUCE_SCATTER (R391): REDUCE_SCATTER reduces and gives each rank its own slice. -/
  | reduceScatter (ring : Nat) (seq : Nat)
  /-- ALL_GATHER (R389): ALL_GATHER gives every rank every rank's input. -/
  | allGather (ring : Nat) (seq : Nat)
  /-- ALL_TO_ALL (R389): ALL_TO_ALL sends each rank's blocks to their ranks. -/
  | allToAll (ring : Nat) (seq : Nat)
  /-- BROADCAST (R389): BROADCAST copies the root's input to every rank. -/
  | broadcast (ring : Nat) (seq : Nat)
  /-- PUT (R388): PUT copies local bytes to a remote package's partition of JOB. -/
  | putRemote (ring : Nat) (seq : Nat)
  /-- VOTE (R392): VOTE combines one 64-bit word from every rank by OR, MAX or SUM over the vote path. -/
  | voteWord (ring : Nat) (seq : Nat)
  /-- CONTEXT_ENABLE (R402): Writing PART_CTX_CFG.EN = 1 checks a context's configuration, windows, save map and bindings and makes it READY. -/
  | contextEnable (who : Requester) (part : Nat) (v : Word64)
  /-- CONTEXT_DISABLE (R402): Writing PART_CTX_CFG.EN = 0 makes a READY, SUSPENDED or ABORTED context with disabled rings EMPTY. -/
  | contextDisable (who : Requester) (part : Nat) (v : Word64)
  /-- SWITCH_TO (R403): PART_CTX_CMD.SWITCH_TO makes a READY context the next one chosen, once. -/
  | switchTo (who : Requester) (part : Nat)
  /-- SUSPEND (R403): PART_CTX_CMD.SUSPEND stops a context being chosen and requests its pre-emption if resident. -/
  | suspend (who : Requester) (part : Nat)
  /-- RESUME (R403): PART_CTX_CMD.RESUME returns a SUSPENDED context to READY. -/
  | resume (who : Requester) (part : Nat)
  /-- ABORT (R411): PART_CTX_CMD.ABORT aborts a context, ending its commands with 0xF003 and discarding its image. -/
  | ctxAbort (who : Requester) (part : Nat)
  /-- PREEMPT_DRAIN_DONE (R406): When every unit of a pre-empted context has reached its pre-emption point and every parked window is redirected, the save of its frames starts. -/
  | preemptDrainDone (part : Nat)
  /-- CONTEXT_SAVE_DONE (R410): A context's frames are written and it becomes READY or SUSPENDED, and the next restore may start. -/
  | contextSaveDone (part : Nat) (ns : Nat)
  /-- CONTEXT_RESTORE_DONE (R410): A context's image has been read back and checked, and the context becomes RESIDENT, or is aborted with 0x0E0E. -/
  | contextRestoreDone (part : Nat) (ns : Nat)
  /-- PREEMPT_DEADLINE_EXPIRY (R411): A drain not ended PREEMPT_DL µs after the request aborts the context with 0x0E0C. -/
  | preemptDeadlineExpiry (part : Nat)
  /-- PROGRESS_WATCHDOG_EXPIRY (R448): A context's progress watchdog count reaches LIMIT and the context is aborted with 0xF004. -/
  | progressWatchdogExpiry (part : Nat)
  /-- CRN_RESET_PART (R423): CRN_RESET.PART performs a partition reset of PART_IDX. -/
  | crnResetPart (who : Requester) (crown : Nat) (v : Word64)
  /-- PARTITION_RESET_DONE (R422): A partition reset completes within 10 ms and the partition accepts work again. -/
  | partitionResetDone (part : Nat)
  /-- CRN_RESET_PKG (R424): CRN_RESET.PKG performs a package reset, retained when RETAIN = 1 after saving resident contexts. -/
  | crnResetPkg (who : Requester) (crown : Nat) (v : Word64)
  /-- RESET_N_ASSERT (R425): RESET_N held low for 10 µs or more starts a package reset, retained or not by RESETN_RETAIN. -/
  | resetNAssert
  /-- RESET_N_RELEASE (R425): RESET_N rising lets a held package reset or a waiting cold power-on continue. -/
  | resetNRelease
  /-- PACKAGE_RESET_DONE (R424): A package reset completes within 300 ms and the host ports accept configuration requests. -/
  | packageResetDone (found : BootReport)
  /-- STANDBY_POWER_ON (R475): V12SB is applied and the always-on island and Crown islands start. -/
  | standbyPowerOn (vbatHeld : Bool)
  /-- COLD_POWER_ON (R458): PWR_GOOD rising with main power present starts the boot ROMs and the cold power-on sequence. -/
  | coldPowerOn
  /-- BOOT_COMPLETE (R458): The boot ends with host ports accepting configuration requests and MIN_MET set if the minimum service set is met. -/
  | bootComplete (found : BootReport)
  /-- PWR_GOOD_FALL (R476): PWR_GOOD falling stops every C-die within 1 ms. -/
  | pwrGoodFall
  /-- V48_THRESHOLD (R473): V48 leaving or returning to its operating range asserts or clears ALERT_N and a PLDM threshold event. -/
  | v48Threshold (mV : Nat)
  /-- V48_LOSS (R473): V48 below 38 V for 50 µs or above 63 V for 10 µs stops the conversion as a loss of main power. -/
  | v48Loss
  /-- CLUSTER_NAP (R427): A cluster idle for NAP_DELAY µs with its tidy cores stopped or in WFI enters Nap. -/
  | clusterNap (clu : Nat)
  /-- DEEP_NAP_ENTER (R428): Writing PART_PWR.DEEP_NAP = 1 power-gates an idle partition's clusters, or is refused with 0x0F01. -/
  | deepNapEnter (who : Requester) (part : Nat) (v : Word64)
  /-- DEEP_NAP_ENTRY_DONE (R428): The partition's clusters are power-gated within 50 µs and STATE becomes DEEP_NAP. -/
  | deepNapEntryDone (part : Nat)
  /-- DEEP_NAP_EXIT (R428): Writing DEEP_NAP = 0, or a doorbell or CM frame with AUTO_WAKE, starts the partition's wake. -/
  | deepNapExit (who : Requester) (part : Nat) (v : Word64)
  /-- DEEP_NAP_WAKE_DONE (R426): The partition's wake ends within 200 µs and fetching begins. -/
  | deepNapWakeDone (part : Nat)
  /-- BLOCK_HOLD_ENTRY_DONE (R429): After the last save the C-dies are powered off within 1 ms with HBM in self-refresh, and STATE becomes BLOCK_HOLD. -/
  | blockHoldEntryDone
  /-- BLOCK_HOLD_EXIT_DONE (R429): The Block-hold exit ends within 40 ms with the C-dies up, channels recalibrated and counters restored. -/
  | blockHoldExitDone
  /-- POWER_SAMPLE (R435): Every 10 µs the power controller samples input power and steps ACLK up or down. -/
  | powerSample (inputW : Nat)
  /-- JUNCTION_TEMP_SAMPLE (R437): Every 100 µs the die junction sensors set the thermal floor and may trip the package. -/
  | junctionTempSample (tj : Int)
  /-- COALESCE_WINDOW_END (R443): At the end of a 1 s coalescing window one record with COALESCED = 1 and the count is written. -/
  | coalesceWindowEnd (source code : Nat)
  /-- ERROR_RING_HEAD_WRITE (R489): A write of CRN_ERR_PTR.HEAD passes read records, releasing ALERT_N once past the asserting record, or is ignored. -/
  | errorRingHeadWrite (who : Requester) (crown : Nat) (v : Word64)
  /-- SVN_COMMIT (R460): SEC_SVN_CMD.COMMIT raises the selected anti-rollback counter to the SVN of the running image. -/
  | svnCommit (who : Requester) (v : Word64)
  /-- PLDM_FW_UPDATE (R461): A PLDM firmware update writes a new image into the slot that is not running, or is refused with 0x1008. -/
  | pldmFwUpdate (image : FwImage)
  /-- GET_VERSION (R464): An SPDM GET_VERSION request is answered by the Crown's responder. -/
  | getVersion (via : Nat)
  /-- GET_CAPABILITIES (R464): An SPDM GET_CAPABILITIES request is answered with CERT_CAP, CHAL_CAP and MEAS_CAP. -/
  | getCapabilities (via : Nat)
  /-- NEGOTIATE_ALGORITHMS (R464): An SPDM NEGOTIATE_ALGORITHMS request settles ECDSA P-256 and SHA-256. -/
  | negotiateAlgorithms (via : Nat)
  /-- GET_DIGESTS (R464): An SPDM GET_DIGESTS request returns the digest of the slot-0 chain. -/
  | getDigests (via : Nat)
  /-- GET_CERTIFICATE (R465): An SPDM GET_CERTIFICATE request returns a chunk of the slot-0 certificate chain. -/
  | getCertificate (via slot off len : Nat)
  /-- CHALLENGE (R464): An SPDM CHALLENGE request is answered with a response signed by the Alias key. -/
  | challenge (via slot : Nat)
  /-- GET_MEASUREMENTS (R465): An SPDM GET_MEASUREMENTS request returns the measurement blocks, signed or not. -/
  | getMeasurements (via index : Nat) (signed : Bool)
  /-- SPDM_UNSUPPORTED_REQUEST (R464): Any other SPDM request receives ERROR UnsupportedRequest. -/
  | spdmUnsupportedRequest (via : Nat)
  /-- DEBUG_CHALLENGE_READ (R466): A read of the SEC_CHAL data register draws a new 32-byte debug challenge. -/
  | debugChallengeRead
  /-- DEBUG_UNLOCK_RESPONSE (R466): A debug response unlocks the TAP at level 1 or 2, or is refused, locking the TAP after three refusals. -/
  | debugUnlockResponse (level : Nat) (sound : Bool)
  /-- DEBUG_CHALLENGE_EXPIRY (R466): A debug challenge expires 10 s after it is read. -/
  | debugChallengeExpiry
  /-- CRYSTAL_TICK (R66): Each 32.768 kHz crystal tick advances the calendar clock by 131,072 fraction units, adjusted by CC_TRIM. -/
  | crystalTick
  /-- PTP_MESSAGE_TX (R51): The stroke unit sends its own PTP messages: delay requests as slave and Sync and Announce as boundary-clock master on other member ports. -/
  | ptpMessageTx (port : Nat)
  /-- LLDP_TTL_EXPIRY (R377): A stored LLDPDU is discarded when its TTL runs out. -/
  | lldpTtlExpiry (port : Nat)
  /-- RUNTIME_RESTART (R29): The runtime is restarted on the host-side cores, and the device releases an SHP_LOCK held by 0x0020 and sets LAST_LOST. -/
  | runtimeRestart
  /-- RECORD_FLUSHING_READ (R368): Within 100 µs of writing a completion record through a port, the device issues a flushing read there, and its completion marks the record as covered. -/
  | recordFlushingRead (port : Nat)
  /-- MESH_LINK_FAILED (R441): A mesh link between dies fails and a device-fatal error with 0xF009 is recorded. -/
  | meshLinkFailed (link : Nat)
  /-- EDIE_CROWN_FAILED (R441): An E-die or Crown fails and a device-fatal error with 0xF00A is recorded. -/
  | edieCrownFailed (unit : Nat)
  /-- PLDM_REQUEST (R449): An MCTP PLDM request over I3C is answered by the lead Crown, reporting sensors, the trim map, the fatal log and CRN_SERVICE. -/
  | pldmRequest
  /-- SELF_TEST_SWEEP_DONE (R64): An in-service self-test sweep of a maintenance window ends, failing in service any unit that did not pass (R446). -/
  | selfTestSweepDone (failing : List (Nat × Nat))
  /-- MAIN_POWER_APPLY (R475): V48 rising above 36 V starts the integrated conversion's soft-start. -/
  | mainPowerApply
  /-- SOFT_START_DONE (R477): The conversion's soft-start ends within 20 ms, and a cold power-on waiting on it begins. -/
  | softStartDone
  /-- STANDBY_POWER_LOSS (R476): V12SB is removed, leaving the always-on island on VBAT and losing the Crown islands' state. -/
  | standbyPowerLoss
  deriving DecidableEq, Repr

end Sys2Proof
end

