-- ==== Sys2Proof/Config.lean ====
section
/-!
DEFINITION. What the spec leaves open: constants without a body, so that no proof can see their values (log 3).
-/
namespace Sys2Proof

/-- What a byte of device memory that nothing has written holds: by the number of times its contents were lost, and by
its key (Table 18.4, code L; R402: undefined). -/
opaque Config.memByte : Nat → Nat → Byte

/-- What a byte of host memory that the model has not seen written holds (the host's own matter). -/
opaque Config.hostByte : Nat → Byte

/-- The free value of a draw: random numbers of the device and results the spec does not fix, by the index of the draw. -/
opaque Config.free : Nat → Word64

/-- The version of a runtime bundle, by the body of its record (Table 15.12, QUERY). -/
opaque Config.runtimeVersion : List Byte → Nat

/-- A numeric function that the spec bounds and does not fix (Table 5.9): by function number and FP32 word, an FP32 word. -/
opaque Config.fn32 : Nat → Nat → Nat

/-- A hash that the spec names and does not give: of a command's traffic over ports (R384), of a frame over UDP source ports
(R383), by its arguments. -/
opaque Config.hash : List Nat → Nat

/-- What a video standard's decoding process, or the engine's encoder, decides: the spec names the standards and gives neither.
By the number of the fact and its arguments; the same arguments give the same fact (R127, log 33). -/
opaque Config.video : List Nat → Nat

/-- mvendorid, marchid, mimpid and mhartid of a tidy core, by CSR number and core: the spec states none (R180, log 35). -/
opaque Config.tcId : Nat → Nat → Word64

/-- A SHA-256 digest of an object whose bytes the spec does not lay out: the boot ROM, an image or part of one, the Live Shape,
the identity record, the trim map, a certificate chain; by the object's number and what it depends on (R465, log 36). -/
opaque Config.digest : Nat → List Nat → BitVec 256

/-- The bytes of the slot-0 certificate chain of a Crown, by what its Alias certificate depends on (R465, log 36). -/
opaque Config.chain : Nat → List Nat → List Byte

/-- An ECDSA P-256 signature of a Crown, by a draw (R465). -/
opaque Config.signature : Nat → Word64 → BitVec 512

end Sys2Proof
end

