-- ==== Sys2Proof/Machine/Bits.lean ====
section
/-!
DEFINITION. Bit fields of a 64-bit register, byte order (R2) and the finite maps the state is built from.
A field is named by its highest and lowest bit, as the register tables of the spec name it.
-/
namespace Sys2Proof.Machine

/-- All-ones mask of bits `[hi:lo]` of a 64-bit word. -/
def fieldMask (hi lo : Nat) : Word64 := (BitVec.allOnes 64 >>> (63 + lo - hi)) <<< lo

/-- The value of bits `[hi:lo]` (R1). -/
def getBits (v : Word64) (hi lo : Nat) : Nat := (v.toNat >>> lo) % 2 ^ (hi + 1 - lo)

/-- `v` with bits `[hi:lo]` replaced by `x` (R1). -/
def setBits (v : Word64) (hi lo : Nat) (x : Nat) : Word64 :=
  (v &&& ~~~(fieldMask hi lo)) ||| ((BitVec.ofNat 64 x <<< lo) &&& fieldMask hi lo)

/-- One bit of a word. -/
def bitOf (v : Nat) (i : Nat) : Bool := v.testBit i

/-- Sign-extended value of an `n`-bit number. -/
def sext (n : Nat) (v : Nat) : Int :=
  let v := v % 2 ^ n
  if 2 ^ (n - 1) ≤ v then (v : Int) - (2 ^ n : Nat) else v

/-- `n`-bit two's complement encoding of an integer. -/
def twos (n : Nat) (x : Int) : Nat := (x % ((2 ^ n : Nat) : Int)).toNat

/-- Little-endian value of a list of bytes (R2): the first byte holds bits [7:0]. -/
def leNat : List Byte → Nat
  | [] => 0
  | b :: bs => b.toNat + 256 * leNat bs

/-- The `n` little-endian bytes of a number (R2). -/
def leBytes : Nat → Nat → List Byte
  | 0, _ => []
  | n + 1, v => BitVec.ofNat 8 v :: leBytes n (v / 256)

/-- Big-endian value of a list of bytes (network order). -/
def beNat (bs : List Byte) : Nat := leNat bs.reverse

/-- The `n` big-endian bytes of a number. -/
def beBytes (n v : Nat) : List Byte := (leBytes n v).reverse

/-- Little-endian field of a byte list: `n` bytes at offset `o`. -/
def leAt (bs : List Byte) (o n : Nat) : Nat := leNat ((bs.drop o).take n)

/-- Bits `[hi:lo]` of the little-endian number that starts at byte `o` of a byte list. -/
def bitsAt (bs : List Byte) (o hi lo : Nat) : Nat :=
  (leAt bs o (hi / 8 + 1) >>> lo) % 2 ^ (hi + 1 - lo)

/-- Signed little-endian field of `n` bytes. -/
def sleAt (bs : List Byte) (o n : Nat) : Int := sext (8 * n) (leAt bs o n)

/-- Saturating increment of a counter of `n` bits. -/
def satAdd (n v k : Nat) : Nat := min (v + k) (2 ^ n - 1)

/-- Number of set bits among the low `n`. -/
def popcount : Nat → Nat → Nat
  | 0, _ => 0
  | n + 1, v => (if v.testBit n then 1 else 0) + popcount n v

/-- The set bits of a number below `n`, lowest first. -/
def bitList (n v : Nat) : List Nat := (List.range n).filter (fun i => v.testBit i)

/-- `x` rounded up to a multiple of `a`. -/
def alignUp (x a : Nat) : Nat := if a = 0 then x else (x + a - 1) / a * a

/-- Ceiling of a division. -/
def ceilDiv (x a : Nat) : Nat := (x + a - 1) / a

/-! ### Finite maps keyed by a number: a key listed at most once, the newest first. -/

/-- A finite map from numbers to values. -/
abbrev SMap (α : Type) := List (Nat × α)

/-- The value under a key, if the key is listed. -/
def SMap.get? {α : Type} (m : SMap α) (k : Nat) : Option α :=
  match m with
  | [] => none
  | (k', v) :: r => if k' = k then some v else SMap.get? r k

/-- The map without a key. -/
def SMap.erase {α : Type} (m : SMap α) (k : Nat) : SMap α := m.filter (fun p => p.1 != k)

/-- The map with a key set to a value. -/
def SMap.put {α : Type} (m : SMap α) (k : Nat) (v : α) : SMap α := (k, v) :: SMap.erase m k

/-- The value under a key, or a default. -/
def SMap.getD {α : Type} (m : SMap α) (k : Nat) (d : α) : α := (SMap.get? m k).getD d

/-- Apply a function to every value. -/
def SMap.mapVal {α β : Type} (m : SMap α) (f : Nat → α → β) : SMap β := m.map (fun p => (p.1, f p.1 p.2))

/-- Drop the keys a test names. -/
def SMap.dropKeys {α : Type} (m : SMap α) (p : Nat → Bool) : SMap α := m.filter (fun x => !p x.1)

/-- Remove the first element that meets a test. -/
def eraseFirst {α : Type} (p : α → Bool) : List α → List α
  | [] => []
  | a :: r => if p a then r else a :: eraseFirst p r

/-- Replace every element that meets a test. -/
def updateWhere {α : Type} (p : α → Bool) (f : α → α) (l : List α) : List α :=
  l.map (fun a => if p a then f a else a)

/-- Fold a step over `0 … n-1`. -/
def forRange {σ : Type} (n : Nat) (s : σ) (f : σ → Nat → σ) : σ := (List.range n).foldl f s

end Sys2Proof.Machine
end

