-- ==== Sys2Proof/Machine/RegMap.lean ====
section
/-!
DEFINITION. The register map of the device, class by class, as the register tables of the spec give it (R18, R22 and the
tables of every block chapter): each register's offset in its page and its fields with bits, access type (R4) and the
value of the Reset column.  A Reset of `pinned` is in the Shape banks and stands here as 0; a Reset that depends on the
boot, the trim map or the NVM is computed where it is read and stands here as 0; a dash (R7: undefined until written)
stands as 0 (DESIGN CHOICE, log 1).
-/
namespace Sys2Proof.Machine

/-- Register access types of R4. -/
inductive Access where | ro | rw | w1c | wo | sh
  deriving DecidableEq, Repr

/-- One field of a register: bits `[hi:lo]`, access type, reset value. -/
structure RegField where
  hi : Nat
  lo : Nat
  acc : Access
  rst : Nat
  deriving DecidableEq, Repr

/-- One register of a page: offset and fields that are not reserved. -/
structure RegRow where
  off : Nat
  fields : List RegField
  deriving DecidableEq, Repr

/-- A field named by its register's offset and its bits. -/
structure Fld where
  off : Nat
  hi : Nat
  lo : Nat
  deriving DecidableEq, Repr

/-- The common header of every page (Tables 2.2 to 2.9; BLK_CAP has no field of its own). -/
def commonHeader : List RegRow := [
  -- BLK_ID
  ⟨0x0, [⟨7, 0, .ro, 0⟩, ⟨19, 8, .ro, 0⟩, ⟨31, 24, .ro, 1⟩, ⟨39, 32, .ro, 0⟩]⟩,
  -- BLK_CAP
  ⟨0x8, []⟩,
  -- BLK_CTRL
  ⟨0x10, [⟨0, 0, .rw, 0⟩, ⟨1, 1, .wo, 0⟩, ⟨2, 2, .ro, 0⟩]⟩,
  -- BLK_STATUS
  ⟨0x18, [⟨0, 0, .ro, 0⟩, ⟨1, 1, .ro, 0⟩, ⟨2, 2, .ro, 0⟩, ⟨3, 3, .ro, 0⟩, ⟨4, 4, .ro, 0⟩]⟩,
  -- BLK_REASON
  ⟨0x20, [⟨15, 0, .ro, 0⟩, ⟨31, 16, .ro, 0⟩, ⟨37, 32, .ro, 0⟩]⟩,
  -- BLK_ERR_SUM
  ⟨0x28, [⟨23, 0, .ro, 0⟩, ⟨39, 24, .ro, 0⟩, ⟨51, 40, .ro, 0⟩, ⟨63, 52, .ro, 0⟩]⟩,
  -- BLK_INT_STATUS
  ⟨0x30, [⟨0, 0, .w1c, 0⟩, ⟨1, 1, .w1c, 0⟩, ⟨2, 2, .w1c, 0⟩, ⟨3, 3, .w1c, 0⟩, ⟨31, 16, .w1c, 0⟩]⟩,
  -- BLK_INT_MASK
  ⟨0x38, [⟨3, 0, .rw, 15⟩, ⟨31, 16, .rw, 65535⟩]⟩,
  -- BLK_SHAPE_GEN
  ⟨0x40, [⟨31, 0, .ro, 0⟩]⟩]

/-- Class 0x0, prefix CRN. -/
def regsCRN : List RegRow := [
  -- CRN_RESET
  ⟨0x100, [⟨0, 0, .wo, 0⟩, ⟨1, 1, .wo, 0⟩, ⟨2, 2, .wo, 0⟩, ⟨8, 3, .wo, 0⟩]⟩,
  -- CRN_PWR_CFG
  ⟨0x108, [⟨15, 0, .sh, 0⟩, ⟨31, 16, .sh, 0⟩, ⟨35, 32, .sh, 0⟩, ⟨36, 36, .sh, 0⟩, ⟨49, 40, .sh, 0⟩]⟩,
  -- CRN_PWR_STATUS
  ⟨0x110, [⟨2, 0, .ro, 0⟩, ⟨11, 8, .ro, 0⟩, ⟨18, 16, .ro, 0⟩, ⟨19, 19, .ro, 0⟩, ⟨47, 32, .ro, 0⟩, ⟨55, 48, .ro, 0⟩]⟩,
  -- CRN_PWR_STATS
  ⟨0x118, [⟨31, 0, .ro, 0⟩, ⟨63, 32, .ro, 0⟩]⟩,
  -- CRN_ACLK_STROKE
  ⟨0x120, [⟨3, 0, .ro, 0⟩, ⟨63, 32, .ro, 0⟩]⟩,
  -- CRN_ERR_CFG
  ⟨0x140, [⟨1, 0, .rw, 1⟩, ⟨3, 2, .rw, 2⟩, ⟨4, 4, .rw, 1⟩]⟩,
  -- CRN_ERR_PTR
  ⟨0x148, [⟨11, 0, .rw, 0⟩, ⟨27, 16, .ro, 0⟩]⟩,
  -- CRN_ERR_LOST
  ⟨0x150, [⟨63, 0, .ro, 0⟩]⟩,
  -- CRN_ERR_DATA0
  ⟨0x158, [⟨63, 0, .ro, 0⟩]⟩,
  -- CRN_ERR_DATA1
  ⟨0x160, [⟨63, 0, .ro, 0⟩]⟩,
  -- CRN_ERR_DATA2
  ⟨0x168, [⟨63, 0, .ro, 0⟩]⟩,
  -- CRN_ERR_DATA3
  ⟨0x170, [⟨63, 0, .ro, 0⟩]⟩,
  -- CRN_ERR_DATA4
  ⟨0x178, [⟨63, 0, .ro, 0⟩]⟩,
  -- CRN_ERR_DATA5
  ⟨0x180, [⟨63, 0, .ro, 0⟩]⟩,
  -- CRN_ERR_DATA6
  ⟨0x188, [⟨63, 0, .ro, 0⟩]⟩,
  -- CRN_ERR_DATA7
  ⟨0x190, [⟨63, 0, .ro, 0⟩]⟩,
  -- CRN_TRIM_SUM
  ⟨0x198, [⟨4, 0, .ro, 0⟩, ⟨12, 5, .ro, 0⟩, ⟨23, 13, .ro, 0⟩, ⟨36, 24, .ro, 0⟩, ⟨47, 37, .ro, 0⟩, ⟨53, 48, .ro, 0⟩, ⟨58, 54, .ro, 0⟩, ⟨63, 59, .ro, 0⟩]⟩,
  -- CRN_TRIM_SUM2
  ⟨0x1A0, [⟨4, 0, .ro, 0⟩, ⟨11, 5, .ro, 0⟩, ⟨13, 12, .ro, 0⟩, ⟨15, 14, .ro, 0⟩, ⟨18, 16, .ro, 0⟩]⟩,
  -- CRN_SERVICE
  ⟨0x1A8, [⟨0, 0, .ro, 0⟩, ⟨1, 1, .ro, 0⟩, ⟨2, 2, .ro, 0⟩]⟩]

/-- Class 0x1, prefix SHP. -/
def regsSHP : List RegRow := [
  -- SHP_CTRL
  ⟨0x100, [⟨0, 0, .wo, 0⟩, ⟨1, 1, .wo, 0⟩, ⟨2, 2, .wo, 0⟩, ⟨3, 3, .wo, 0⟩]⟩,
  -- SHP_STATUS
  ⟨0x108, [⟨0, 0, .ro, 0⟩, ⟨1, 1, .ro, 0⟩, ⟨2, 2, .ro, 0⟩, ⟨3, 3, .ro, 0⟩, ⟨4, 4, .ro, 0⟩, ⟨15, 8, .ro, 0⟩, ⟨31, 16, .ro, 0⟩]⟩,
  -- SHP_LOCK
  ⟨0x110, [⟨15, 0, .rw, 0⟩, ⟨31, 16, .ro, 0⟩]⟩,
  -- SHP_GEN_LP
  ⟨0x118, [⟨31, 0, .ro, 0⟩, ⟨63, 32, .ro, 0⟩]⟩,
  -- SHP_GEN_PP
  ⟨0x120, [⟨31, 0, .ro, 0⟩, ⟨63, 32, .ro, 0⟩]⟩,
  -- SHP_FAIL
  ⟨0x128, [⟨27, 0, .ro, 0⟩, ⟨47, 32, .ro, 0⟩, ⟨63, 48, .ro, 0⟩]⟩,
  -- SHP_ACC_ADDR
  ⟨0x130, [⟨27, 0, .rw, 0⟩, ⟨29, 28, .rw, 0⟩]⟩,
  -- SHP_ACC_DATA
  ⟨0x138, [⟨63, 0, .ro, 0⟩]⟩]

/-- Class 0x2, prefix STR. -/
def regsSTR : List RegRow := [
  -- STR_CFG
  ⟨0x100, [⟨1, 0, .sh, 0⟩, ⟨9, 4, .sh, 0⟩, ⟨10, 10, .sh, 0⟩, ⟨17, 12, .sh, 0⟩, ⟨30, 24, .sh, 0⟩, ⟨31, 31, .sh, 0⟩, ⟨58, 32, .sh, 0⟩]⟩,
  -- STR_EPOCH
  ⟨0x108, [⟨47, 0, .sh, 0⟩]⟩,
  -- STR_MAINT
  ⟨0x110, [⟨16, 0, .sh, 0⟩, ⟨47, 32, .sh, 0⟩, ⟨57, 48, .sh, 0⟩]⟩,
  -- STR_OUT
  ⟨0x118, [⟨15, 0, .sh, 0⟩]⟩,
  -- STR_STATUS
  ⟨0x140, [⟨1, 0, .ro, 0⟩, ⟨3, 2, .ro, 0⟩, ⟨4, 4, .ro, 0⟩, ⟨5, 5, .ro, 0⟩, ⟨31, 16, .ro, 10000⟩, ⟨63, 32, .ro, 0⟩]⟩,
  -- STR_COUNT
  ⟨0x148, [⟨63, 0, .ro, 0⟩]⟩,
  -- STR_COUNT_LOAD
  ⟨0x150, [⟨63, 0, .rw, 0⟩]⟩,
  -- STR_CMD
  ⟨0x158, [⟨0, 0, .wo, 0⟩]⟩,
  -- STR_SLIP_COUNT
  ⟨0x160, [⟨63, 0, .ro, 0⟩]⟩,
  -- STR_SLIP_STROKES
  ⟨0x168, [⟨63, 0, .ro, 0⟩]⟩,
  -- STR_LATE_COUNT
  ⟨0x170, [⟨63, 0, .ro, 0⟩]⟩,
  -- STR_IN_ERR
  ⟨0x178, [⟨63, 0, .ro, 0⟩]⟩,
  -- STR_STEP_COUNT
  ⟨0x180, [⟨63, 0, .ro, 0⟩]⟩,
  -- STR_STRETCH
  ⟨0x188, [⟨63, 0, .ro, 0⟩]⟩,
  -- STR_LAST_SLIP
  ⟨0x190, [⟨15, 0, .ro, 0⟩, ⟨25, 16, .ro, 0⟩]⟩]

/-- Class 0x3, prefix CC. -/
def regsCC : List RegRow := [
  -- CC_TIME_S
  ⟨0x100, [⟨63, 0, .rw, 0⟩]⟩,
  -- CC_TIME_F
  ⟨0x108, [⟨31, 0, .rw, 0⟩]⟩,
  -- CC_TRIM
  ⟨0x110, [⟨15, 0, .rw, 0⟩]⟩,
  -- CC_STATUS
  ⟨0x118, [⟨0, 0, .ro, 1⟩, ⟨1, 1, .ro, 0⟩, ⟨2, 2, .ro, 0⟩]⟩]

/-- Class 0x4, prefix EDIE. -/
def regsEDIE : List RegRow := [
  -- EDIE_SYS
  ⟨0x100, [⟨31, 0, .sh, 0⟩, ⟨44, 32, .sh, 0⟩]⟩,
  -- EDIE_ROUTE_BASE
  ⟨0x108, [⟨47, 0, .sh, 0⟩]⟩,
  -- EDIE_MEMB
  ⟨0x140, [⟨31, 0, .ro, 0⟩, ⟨45, 32, .ro, 0⟩]⟩,
  -- EDIE_MEMB_NEXT_ADDR
  ⟨0x148, [⟨47, 0, .rw, 0⟩]⟩,
  -- EDIE_MEMB_NEXT
  ⟨0x150, [⟨31, 0, .rw, 0⟩]⟩,
  -- EDIE_MEMB_STROKE
  ⟨0x158, [⟨63, 0, .rw, 0⟩]⟩,
  -- EDIE_MEMB_CMD
  ⟨0x160, [⟨0, 0, .wo, 0⟩, ⟨1, 1, .ro, 0⟩, ⟨31, 16, .ro, 0⟩]⟩,
  -- EDIE_LOST0
  ⟨0x180, [⟨63, 0, .w1c, 0⟩]⟩,
  -- EDIE_LOST1
  ⟨0x188, [⟨63, 0, .w1c, 0⟩]⟩,
  -- EDIE_LOST2
  ⟨0x190, [⟨63, 0, .w1c, 0⟩]⟩,
  -- EDIE_LOST3
  ⟨0x198, [⟨63, 0, .w1c, 0⟩]⟩,
  -- EDIE_LOST4
  ⟨0x1A0, [⟨63, 0, .w1c, 0⟩]⟩,
  -- EDIE_LOST5
  ⟨0x1A8, [⟨63, 0, .w1c, 0⟩]⟩,
  -- EDIE_LOST6
  ⟨0x1B0, [⟨63, 0, .w1c, 0⟩]⟩,
  -- EDIE_LOST7
  ⟨0x1B8, [⟨63, 0, .w1c, 0⟩]⟩,
  -- EDIE_RMT_BASE
  ⟨0x200, [⟨47, 0, .sh, 0⟩]⟩]

/-- Class 0x5, prefix CDIE. -/
def regsCDIE : List RegRow := [
  -- CDIE_FE_STATUS
  ⟨0x600, [⟨0, 0, .ro, 0⟩, ⟨7, 1, .ro, 0⟩, ⟨8, 8, .ro, 0⟩]⟩,
  -- CDIE_FE_BLOCKS
  ⟨0x608, [⟨63, 0, .ro, 0⟩]⟩,
  -- CDIE_FE_FALLBACK
  ⟨0x610, [⟨63, 0, .ro, 0⟩]⟩,
  -- CDIE_FRAME_SEL
  ⟨0x700, [⟨20, 0, .rw, 0⟩, ⟨21, 21, .rw, 0⟩, ⟨22, 22, .rw, 0⟩]⟩,
  -- CDIE_FRAME_ATTR
  ⟨0x708, [⟨3, 0, .rw, 8⟩, ⟨28, 8, .rw, 0⟩, ⟨29, 29, .rw, 0⟩, ⟨31, 30, .ro, 0⟩, ⟨32, 32, .wo, 0⟩]⟩,
  -- CDIE_FRAMES
  ⟨0x710, [⟨20, 0, .ro, 130560⟩, ⟨41, 21, .ro, 0⟩, ⟨61, 42, .ro, 0⟩]⟩]

/-- Class 0x6, prefix CLU. -/
def regsCLU : List RegRow := [
  -- CLU_AS_STATUS
  ⟨0x300, [⟨0, 0, .ro, 0⟩, ⟨8, 1, .ro, 0⟩, ⟨15, 9, .ro, 0⟩]⟩,
  -- CLU_AS_PAGES
  ⟨0x308, [⟨63, 0, .ro, 0⟩]⟩,
  -- CLU_AS_WIDENED
  ⟨0x310, [⟨63, 0, .ro, 0⟩]⟩,
  -- CLU_AS_READTHRU
  ⟨0x318, [⟨63, 0, .ro, 0⟩]⟩,
  -- CLU_AS_SKIPPED
  ⟨0x320, [⟨63, 0, .ro, 0⟩]⟩,
  -- CLU_AS_EPOCH_OLD
  ⟨0x328, [⟨63, 0, .ro, 0⟩]⟩]

/-- Class 0x7, prefix CORE. -/
def regsCORE : List RegRow := [
  -- CORE_ARITH_STICKY
  ⟨0x180, [⟨0, 0, .w1c, 0⟩, ⟨1, 1, .w1c, 0⟩, ⟨2, 2, .w1c, 0⟩, ⟨3, 3, .w1c, 0⟩, ⟨4, 4, .w1c, 0⟩, ⟨5, 5, .w1c, 0⟩]⟩,
  -- CORE_ME_STATUS
  ⟨0x200, [⟨3, 0, .ro, 0⟩, ⟨7, 4, .ro, 0⟩, ⟨14, 8, .ro, 0⟩, ⟨22, 16, .ro, 0⟩, ⟨30, 24, .ro, 0⟩, ⟨38, 32, .ro, 0⟩]⟩,
  -- CORE_SP_CONFLICT
  ⟨0x208, [⟨63, 0, .ro, 0⟩]⟩,
  -- CORE_ME_ACTIVE
  ⟨0x210, [⟨63, 0, .ro, 0⟩]⟩,
  -- CORE_SP_ECC
  ⟨0x218, [⟨8, 0, .ro, 0⟩, ⟨14, 9, .ro, 0⟩, ⟨15, 15, .ro, 0⟩, ⟨31, 16, .ro, 0⟩]⟩,
  -- CORE_VE_STATUS
  ⟨0x220, [⟨0, 0, .ro, 0⟩, ⟨7, 1, .ro, 0⟩, ⟨8, 8, .ro, 0⟩, ⟨14, 9, .ro, 32⟩]⟩,
  -- CORE_VE_ACTIVE
  ⟨0x228, [⟨63, 0, .ro, 0⟩]⟩,
  -- CORE_TC_CTRL
  ⟨0x230, [⟨0, 0, .rw, 0⟩]⟩,
  -- CORE_TC_BOOT
  ⟨0x238, [⟨47, 0, .rw, 0⟩]⟩,
  -- CORE_TC_STATUS
  ⟨0x240, [⟨1, 0, .ro, 0⟩, ⟨2, 2, .ro, 0⟩, ⟨3, 3, .ro, 0⟩, ⟨15, 8, .ro, 0⟩]⟩,
  -- CORE_TC_FAULT_PC
  ⟨0x248, [⟨63, 0, .ro, 0⟩]⟩,
  -- CORE_TC_MBOX
  ⟨0x250, [⟨63, 0, .rw, 0⟩]⟩,
  -- CORE_SLOT0
  ⟨0x280, [⟨63, 0, .ro, 0⟩]⟩,
  -- CORE_SLOT1
  ⟨0x288, [⟨63, 0, .ro, 0⟩]⟩,
  -- CORE_SLOT2
  ⟨0x290, [⟨63, 0, .ro, 0⟩]⟩,
  -- CORE_SLOT3
  ⟨0x298, [⟨63, 0, .ro, 0⟩]⟩,
  -- CORE_SLOT4
  ⟨0x2A0, [⟨63, 0, .ro, 0⟩]⟩,
  -- CORE_SLOT5
  ⟨0x2A8, [⟨63, 0, .ro, 0⟩]⟩,
  -- CORE_SLOT6
  ⟨0x2B0, [⟨63, 0, .ro, 0⟩]⟩,
  -- CORE_SLOT7
  ⟨0x2B8, [⟨63, 0, .ro, 0⟩]⟩,
  -- CORE_SLOT8
  ⟨0x2C0, [⟨63, 0, .ro, 0⟩]⟩,
  -- CORE_SLOT9
  ⟨0x2C8, [⟨63, 0, .ro, 0⟩]⟩,
  -- CORE_SLOT10
  ⟨0x2D0, [⟨63, 0, .ro, 0⟩]⟩,
  -- CORE_SLOT11
  ⟨0x2D8, [⟨63, 0, .ro, 0⟩]⟩,
  -- CORE_SLOT12
  ⟨0x2E0, [⟨63, 0, .ro, 0⟩]⟩,
  -- CORE_SLOT13
  ⟨0x2E8, [⟨63, 0, .ro, 0⟩]⟩,
  -- CORE_SLOT14
  ⟨0x2F0, [⟨63, 0, .ro, 0⟩]⟩,
  -- CORE_SLOT15
  ⟨0x2F8, [⟨63, 0, .ro, 0⟩]⟩]

/-- Class 0x8, prefix MC. -/
def regsMC : List RegRow := [
  -- MC_STATUS
  ⟨0x100, [⟨1, 0, .ro, 0⟩, ⟨2, 2, .ro, 0⟩, ⟨9, 8, .ro, 0⟩]⟩,
  -- MC_PARITY
  ⟨0x108, [⟨31, 0, .ro, 0⟩, ⟨63, 32, .ro, 0⟩]⟩,
  -- MC_LAST_ERR
  ⟨0x110, [⟨31, 0, .ro, 0⟩, ⟨39, 32, .ro, 0⟩, ⟨40, 40, .ro, 0⟩]⟩,
  -- MC_RETRAIN
  ⟨0x118, [⟨31, 0, .ro, 0⟩, ⟨47, 32, .ro, 0⟩]⟩,
  -- MC_RECAL
  ⟨0x120, [⟨47, 0, .ro, 0⟩, ⟨63, 48, .ro, 0⟩]⟩,
  -- MC_REMAP_SEL
  ⟨0x128, [⟨5, 0, .rw, 0⟩]⟩,
  -- MC_REMAP
  ⟨0x130, [⟨21, 0, .ro, 0⟩, ⟨45, 32, .ro, 0⟩, ⟨47, 46, .ro, 0⟩, ⟨63, 63, .ro, 0⟩]⟩,
  -- MC_REMAP_STAT
  ⟨0x138, [⟨6, 0, .ro, 0⟩, ⟨29, 16, .ro, 0⟩, ⟨63, 32, .ro, 0⟩]⟩,
  -- MC_UU_STATUS
  ⟨0x400, [⟨0, 0, .ro, 0⟩, ⟨7, 1, .ro, 0⟩]⟩,
  -- MC_UU_STEP_SEL
  ⟨0x408, [⟨7, 0, .rw, 0⟩]⟩,
  -- MC_UU_STEP
  ⟨0x410, [⟨39, 0, .rw, 0⟩]⟩,
  -- MC_UU_ELEMS
  ⟨0x418, [⟨63, 0, .ro, 0⟩]⟩,
  -- MC_UU_HELD
  ⟨0x420, [⟨63, 0, .ro, 0⟩]⟩,
  -- MC_UU_SKIPPED
  ⟨0x428, [⟨63, 0, .ro, 0⟩]⟩]

/-- Class 0x9, prefix STK. -/
def regsSTK : List RegRow := [
  -- STK_SET_CFG
  ⟨0x100, [⟨1, 0, .sh, 0⟩, ⟨27, 16, .sh, 0⟩]⟩,
  -- STK_STATUS
  ⟨0x108, [⟨1, 0, .ro, 0⟩, ⟨3, 2, .ro, 0⟩, ⟨4, 4, .ro, 0⟩, ⟨23, 16, .ro, 0⟩, ⟨63, 32, .ro, 0⟩]⟩,
  -- STK_TEMP_MAX
  ⟨0x110, [⟨7, 0, .ro, 0⟩]⟩,
  -- STK_ODECC
  ⟨0x118, [⟨63, 0, .ro, 0⟩]⟩,
  -- STK_MARGIN
  ⟨0x120, [⟨4, 0, .rw, 0⟩, ⟨6, 5, .rw, 0⟩, ⟨13, 8, .rw, 0⟩, ⟨16, 16, .wo, 0⟩, ⟨17, 17, .ro, 0⟩]⟩,
  -- STK_MARGIN_RES
  ⟨0x128, [⟨31, 0, .ro, 0⟩, ⟨39, 32, .ro, 0⟩]⟩]

/-- Class 0xa, prefix FUL. -/
def regsFUL : List RegRow := [
  -- FUL_STATUS
  ⟨0x100, [⟨2, 0, .ro, 0⟩, ⟨9, 3, .ro, 0⟩]⟩,
  -- FUL_UNC_BYTES
  ⟨0x108, [⟨63, 0, .ro, 0⟩]⟩,
  -- FUL_CONT_BYTES
  ⟨0x110, [⟨63, 0, .ro, 0⟩]⟩,
  -- FUL_RAW_BLOCKS
  ⟨0x118, [⟨63, 0, .ro, 0⟩]⟩,
  -- FUL_STORED
  ⟨0x120, [⟨63, 0, .ro, 0⟩]⟩,
  -- FUL_CORRUPT
  ⟨0x128, [⟨63, 0, .ro, 0⟩]⟩,
  -- FUL_LAST_CORRUPT
  ⟨0x130, [⟨15, 0, .ro, 0⟩, ⟨47, 16, .ro, 0⟩]⟩]

/-- Class 0xb, prefix VC. -/
def regsVC : List RegRow := [
  -- VC_STATUS
  ⟨0x100, [⟨15, 0, .ro, 0⟩, ⟨16, 16, .ro, 0⟩, ⟨23, 17, .ro, 0⟩, ⟨24, 24, .ro, 0⟩]⟩,
  -- VC_PIX_DEC
  ⟨0x108, [⟨63, 0, .ro, 0⟩]⟩,
  -- VC_PIX_ENC
  ⟨0x110, [⟨63, 0, .ro, 0⟩]⟩,
  -- VC_DAMAGED
  ⟨0x118, [⟨63, 0, .ro, 0⟩]⟩,
  -- VC_CAP_EXC
  ⟨0x120, [⟨63, 0, .ro, 0⟩]⟩,
  -- VC_SESSION_SEL
  ⟨0x128, [⟨3, 0, .rw, 0⟩]⟩,
  -- VC_SESSION
  ⟨0x130, [⟨1, 0, .ro, 0⟩, ⟨13, 8, .ro, 0⟩, ⟨47, 16, .ro, 0⟩]⟩]

/-- Class 0xc, prefix BRM. -/
def regsBRM : List RegRow := [
  -- BRM_CFG
  ⟨0x100, [⟨0, 0, .sh, 0⟩, ⟨1, 1, .sh, 0⟩, ⟨2, 2, .sh, 0⟩, ⟨3, 3, .sh, 0⟩, ⟨4, 4, .sh, 0⟩, ⟨19, 10, .sh, 0⟩, ⟨23, 20, .sh, 0⟩, ⟨29, 24, .sh, 0⟩, ⟨47, 32, .sh, 0⟩]⟩,
  -- BRM_MAC
  ⟨0x108, [⟨47, 0, .sh, 0⟩]⟩,
  -- BRM_IP0
  ⟨0x110, [⟨63, 0, .sh, 0⟩]⟩,
  -- BRM_IP1
  ⟨0x118, [⟨63, 0, .sh, 0⟩]⟩,
  -- BRM_STATUS
  ⟨0x140, [⟨2, 0, .ro, 0⟩, ⟨3, 3, .ro, 0⟩, ⟨5, 4, .ro, 0⟩, ⟨28, 16, .ro, 0⟩, ⟨34, 29, .ro, 0⟩, ⟨35, 35, .ro, 0⟩]⟩,
  -- BRM_FEC
  ⟨0x148, [⟨63, 0, .ro, 0⟩]⟩,
  -- BRM_TX
  ⟨0x150, [⟨63, 0, .ro, 0⟩]⟩,
  -- BRM_RX
  ⟨0x158, [⟨63, 0, .ro, 0⟩]⟩,
  -- BRM_RETX
  ⟨0x160, [⟨63, 0, .ro, 0⟩]⟩,
  -- BRM_DROPPED
  ⟨0x168, [⟨63, 0, .ro, 0⟩]⟩]

/-- Class 0xd, prefix HP. -/
def regsHP : List RegRow := [
  -- HP_CFG
  ⟨0x100, [⟨0, 0, .sh, 0⟩, ⟨1, 1, .sh, 0⟩, ⟨2, 2, .sh, 0⟩, ⟨3, 3, .sh, 0⟩, ⟨10, 4, .sh, 0⟩, ⟨16, 11, .sh, 0⟩]⟩,
  -- HP_PF_PARTS
  ⟨0x108, [⟨63, 0, .sh, 0⟩]⟩,
  -- HP_VF_MAP0
  ⟨0x110, [⟨5, 0, .sh, 0⟩, ⟨7, 7, .sh, 0⟩, ⟨13, 8, .sh, 0⟩, ⟨15, 15, .sh, 0⟩, ⟨21, 16, .sh, 0⟩, ⟨23, 23, .sh, 0⟩, ⟨29, 24, .sh, 0⟩, ⟨31, 31, .sh, 0⟩, ⟨37, 32, .sh, 0⟩, ⟨39, 39, .sh, 0⟩, ⟨45, 40, .sh, 0⟩, ⟨47, 47, .sh, 0⟩, ⟨53, 48, .sh, 0⟩, ⟨55, 55, .sh, 0⟩, ⟨61, 56, .sh, 0⟩, ⟨63, 63, .sh, 0⟩]⟩,
  -- HP_VF_MAP1
  ⟨0x118, [⟨5, 0, .sh, 0⟩, ⟨7, 7, .sh, 0⟩, ⟨13, 8, .sh, 0⟩, ⟨15, 15, .sh, 0⟩, ⟨21, 16, .sh, 0⟩, ⟨23, 23, .sh, 0⟩, ⟨29, 24, .sh, 0⟩, ⟨31, 31, .sh, 0⟩, ⟨37, 32, .sh, 0⟩, ⟨39, 39, .sh, 0⟩, ⟨45, 40, .sh, 0⟩, ⟨47, 47, .sh, 0⟩, ⟨53, 48, .sh, 0⟩, ⟨55, 55, .sh, 0⟩, ⟨61, 56, .sh, 0⟩, ⟨63, 63, .sh, 0⟩]⟩,
  -- HP_VF_MAP2
  ⟨0x120, [⟨5, 0, .sh, 0⟩, ⟨7, 7, .sh, 0⟩, ⟨13, 8, .sh, 0⟩, ⟨15, 15, .sh, 0⟩, ⟨21, 16, .sh, 0⟩, ⟨23, 23, .sh, 0⟩, ⟨29, 24, .sh, 0⟩, ⟨31, 31, .sh, 0⟩, ⟨37, 32, .sh, 0⟩, ⟨39, 39, .sh, 0⟩, ⟨45, 40, .sh, 0⟩, ⟨47, 47, .sh, 0⟩, ⟨53, 48, .sh, 0⟩, ⟨55, 55, .sh, 0⟩, ⟨61, 56, .sh, 0⟩, ⟨63, 63, .sh, 0⟩]⟩,
  -- HP_VF_MAP3
  ⟨0x128, [⟨5, 0, .sh, 0⟩, ⟨7, 7, .sh, 0⟩, ⟨13, 8, .sh, 0⟩, ⟨15, 15, .sh, 0⟩, ⟨21, 16, .sh, 0⟩, ⟨23, 23, .sh, 0⟩, ⟨29, 24, .sh, 0⟩, ⟨31, 31, .sh, 0⟩, ⟨37, 32, .sh, 0⟩, ⟨39, 39, .sh, 0⟩, ⟨45, 40, .sh, 0⟩, ⟨47, 47, .sh, 0⟩, ⟨53, 48, .sh, 0⟩, ⟨55, 55, .sh, 0⟩, ⟨61, 56, .sh, 0⟩, ⟨63, 63, .sh, 0⟩]⟩,
  -- HP_VF_MAP4
  ⟨0x130, [⟨5, 0, .sh, 0⟩, ⟨7, 7, .sh, 0⟩, ⟨13, 8, .sh, 0⟩, ⟨15, 15, .sh, 0⟩, ⟨21, 16, .sh, 0⟩, ⟨23, 23, .sh, 0⟩, ⟨29, 24, .sh, 0⟩, ⟨31, 31, .sh, 0⟩, ⟨37, 32, .sh, 0⟩, ⟨39, 39, .sh, 0⟩, ⟨45, 40, .sh, 0⟩, ⟨47, 47, .sh, 0⟩, ⟨53, 48, .sh, 0⟩, ⟨55, 55, .sh, 0⟩, ⟨61, 56, .sh, 0⟩, ⟨63, 63, .sh, 0⟩]⟩,
  -- HP_VF_MAP5
  ⟨0x138, [⟨5, 0, .sh, 0⟩, ⟨7, 7, .sh, 0⟩, ⟨13, 8, .sh, 0⟩, ⟨15, 15, .sh, 0⟩, ⟨21, 16, .sh, 0⟩, ⟨23, 23, .sh, 0⟩, ⟨29, 24, .sh, 0⟩, ⟨31, 31, .sh, 0⟩, ⟨37, 32, .sh, 0⟩, ⟨39, 39, .sh, 0⟩, ⟨45, 40, .sh, 0⟩, ⟨47, 47, .sh, 0⟩, ⟨53, 48, .sh, 0⟩, ⟨55, 55, .sh, 0⟩, ⟨61, 56, .sh, 0⟩, ⟨63, 63, .sh, 0⟩]⟩,
  -- HP_VF_MAP6
  ⟨0x140, [⟨5, 0, .sh, 0⟩, ⟨7, 7, .sh, 0⟩, ⟨13, 8, .sh, 0⟩, ⟨15, 15, .sh, 0⟩, ⟨21, 16, .sh, 0⟩, ⟨23, 23, .sh, 0⟩, ⟨29, 24, .sh, 0⟩, ⟨31, 31, .sh, 0⟩, ⟨37, 32, .sh, 0⟩, ⟨39, 39, .sh, 0⟩, ⟨45, 40, .sh, 0⟩, ⟨47, 47, .sh, 0⟩, ⟨53, 48, .sh, 0⟩, ⟨55, 55, .sh, 0⟩, ⟨61, 56, .sh, 0⟩, ⟨63, 63, .sh, 0⟩]⟩,
  -- HP_VF_MAP7
  ⟨0x148, [⟨5, 0, .sh, 0⟩, ⟨7, 7, .sh, 0⟩, ⟨13, 8, .sh, 0⟩, ⟨15, 15, .sh, 0⟩, ⟨21, 16, .sh, 0⟩, ⟨23, 23, .sh, 0⟩, ⟨29, 24, .sh, 0⟩, ⟨31, 31, .sh, 0⟩, ⟨37, 32, .sh, 0⟩, ⟨39, 39, .sh, 0⟩, ⟨45, 40, .sh, 0⟩, ⟨47, 47, .sh, 0⟩, ⟨53, 48, .sh, 0⟩, ⟨55, 55, .sh, 0⟩, ⟨61, 56, .sh, 0⟩, ⟨63, 63, .sh, 0⟩]⟩,
  -- HP_LINK
  ⟨0x180, [⟨1, 0, .ro, 0⟩, ⟨4, 2, .ro, 0⟩, ⟨9, 5, .ro, 0⟩, ⟨10, 10, .ro, 0⟩, ⟨63, 32, .ro, 0⟩]⟩,
  -- HP_LOSS
  ⟨0x188, [⟨31, 0, .ro, 0⟩]⟩,
  -- HP_RWT_MISS
  ⟨0x190, [⟨63, 0, .ro, 0⟩]⟩,
  -- HP_PLACE_REFUSED
  ⟨0x198, [⟨63, 0, .ro, 0⟩]⟩,
  -- HP_CLOG_PTR
  ⟨0x1A0, [⟨15, 0, .rw, 0⟩, ⟨31, 16, .ro, 0⟩]⟩,
  -- HP_CLOG_LOST
  ⟨0x1A8, [⟨63, 0, .ro, 0⟩]⟩,
  -- HP_CLOG_DATA0
  ⟨0x1B0, [⟨63, 0, .ro, 0⟩]⟩,
  -- HP_CLOG_DATA1
  ⟨0x1B8, [⟨63, 0, .ro, 0⟩]⟩,
  -- HP_CLOG_DATA2
  ⟨0x1C0, [⟨63, 0, .ro, 0⟩]⟩,
  -- HP_CLOG_DATA3
  ⟨0x1C8, [⟨63, 0, .ro, 0⟩]⟩,
  -- HP_CLOG_DATA4
  ⟨0x1D0, [⟨63, 0, .ro, 0⟩]⟩,
  -- HP_CLOG_DATA5
  ⟨0x1D8, [⟨63, 0, .ro, 0⟩]⟩,
  -- HP_CLOG_DATA6
  ⟨0x1E0, [⟨63, 0, .ro, 0⟩]⟩,
  -- HP_CLOG_DATA7
  ⟨0x1E8, [⟨63, 0, .ro, 0⟩]⟩,
  -- HP_RETAIN_ID
  ⟨0x1F0, [⟨63, 0, .ro, 0⟩]⟩,
  -- HP_RETAIN_CLAIM
  ⟨0x1F8, [⟨63, 0, .wo, 0⟩]⟩,
  -- HP_RETAIN_CTRL
  ⟨0x200, [⟨1, 0, .ro, 0⟩, ⟨2, 2, .wo, 0⟩, ⟨31, 16, .ro, 0⟩]⟩,
  -- HP_DW_SQ_BASE
  ⟨0x300, [⟨63, 0, .rw, 0⟩]⟩,
  -- HP_DW_CQ_BASE
  ⟨0x308, [⟨63, 0, .rw, 0⟩]⟩,
  -- HP_DW_CFG
  ⟨0x310, [⟨3, 0, .rw, 0⟩, ⟨4, 4, .rw, 0⟩]⟩,
  -- HP_DW_EVT_BASE
  ⟨0x318, [⟨47, 0, .rw, 0⟩]⟩,
  -- HP_DW_STATUS
  ⟨0x320, [⟨1, 0, .ro, 0⟩, ⟨31, 16, .ro, 0⟩, ⟨47, 32, .ro, 0⟩, ⟨63, 48, .ro, 0⟩]⟩]

/-- Class 0xe, prefix PART. -/
def regsPART : List RegRow := [
  -- PART_DEF
  ⟨0x100, [⟨0, 0, .sh, 0⟩, ⟨5, 1, .sh, 0⟩, ⟨6, 6, .sh, 0⟩, ⟨9, 7, .sh, 0⟩]⟩,
  -- PART_STACKS
  ⟨0x108, [⟨31, 0, .sh, 0⟩]⟩,
  -- PART_CLUSTERS0
  ⟨0x110, [⟨63, 0, .sh, 0⟩]⟩,
  -- PART_CLUSTERS1
  ⟨0x118, [⟨63, 0, .sh, 0⟩]⟩,
  -- PART_PORTS
  ⟨0x120, [⟨63, 0, .sh, 0⟩]⟩,
  -- PART_CODECS
  ⟨0x128, [⟨15, 0, .sh, 0⟩]⟩,
  -- PART_SCHED
  ⟨0x200, [⟨3, 0, .ro, 0⟩, ⟨4, 4, .ro, 0⟩, ⟨5, 5, .ro, 0⟩, ⟨31, 16, .ro, 0⟩]⟩,
  -- PART_CTX_SEL
  ⟨0x300, [⟨3, 0, .rw, 0⟩]⟩,
  -- PART_CTX_CFG
  ⟨0x308, [⟨0, 0, .rw, 0⟩, ⟨16, 1, .rw, 1⟩, ⟨21, 17, .rw, 0⟩, ⟨22, 22, .rw, 0⟩, ⟨51, 32, .rw, 1000⟩]⟩,
  -- PART_CTX_SAVE
  ⟨0x310, [⟨47, 0, .rw, 0⟩]⟩,
  -- PART_CTX_WIN
  ⟨0x318, [⟨47, 0, .rw, 0⟩, ⟨52, 48, .rw, 0⟩]⟩,
  -- PART_CTX_BIND
  ⟨0x320, [⟨47, 0, .rw, 0⟩, ⟨51, 48, .rw, 0⟩]⟩,
  -- PART_CTX_CMD
  ⟨0x328, [⟨0, 0, .wo, 0⟩, ⟨1, 1, .wo, 0⟩, ⟨2, 2, .wo, 0⟩, ⟨3, 3, .wo, 0⟩]⟩,
  -- PART_CTX_STATUS
  ⟨0x330, [⟨2, 0, .ro, 0⟩, ⟨3, 3, .ro, 0⟩, ⟨31, 16, .ro, 0⟩]⟩,
  -- PART_CTX_SLIP
  ⟨0x338, [⟨63, 0, .ro, 0⟩]⟩,
  -- PART_CTX_TIMES
  ⟨0x340, [⟨31, 0, .ro, 0⟩, ⟨63, 32, .ro, 0⟩]⟩,
  -- PART_CTX_COUNTS
  ⟨0x348, [⟨31, 0, .ro, 0⟩, ⟨63, 32, .ro, 0⟩]⟩,
  -- PART_RING_ALLOC
  ⟨0x800, [⟨13, 0, .sh, 0⟩, ⟨30, 16, .sh, 0⟩]⟩,
  -- PART_RING_SEL
  ⟨0x808, [⟨13, 0, .rw, 0⟩]⟩,
  -- PART_RING_BASE
  ⟨0x810, [⟨63, 0, .rw, 0⟩]⟩,
  -- PART_RING_CFG
  ⟨0x818, [⟨4, 0, .rw, 0⟩, ⟨5, 5, .rw, 0⟩, ⟨6, 6, .rw, 0⟩, ⟨14, 8, .rw, 0⟩, ⟨19, 16, .rw, 0⟩, ⟨20, 20, .rw, 0⟩, ⟨42, 32, .rw, 0⟩]⟩,
  -- PART_RING_CQ_BASE
  ⟨0x820, [⟨63, 0, .rw, 0⟩]⟩,
  -- PART_RING_CQ_CFG
  ⟨0x828, [⟨4, 0, .rw, 0⟩, ⟨5, 5, .rw, 0⟩, ⟨6, 6, .rw, 0⟩]⟩,
  -- PART_RING_SAT
  ⟨0x830, [⟨63, 0, .rw, 0⟩]⟩,
  -- PART_RING_PTR
  ⟨0x838, [⟨31, 0, .ro, 0⟩, ⟨63, 32, .ro, 0⟩]⟩,
  -- PART_RING_CQ_PTR
  ⟨0x840, [⟨31, 0, .ro, 0⟩, ⟨63, 32, .ro, 0⟩]⟩,
  -- PART_RING_STATUS
  ⟨0x848, [⟨1, 0, .ro, 0⟩, ⟨31, 16, .ro, 0⟩, ⟨40, 32, .ro, 0⟩]⟩,
  -- PART_KV_POOL_BASE
  ⟨0x900, [⟨47, 0, .sh, 0⟩]⟩,
  -- PART_KV_POOL_GEOM
  ⟨0x908, [⟨23, 0, .sh, 0⟩, ⟨55, 32, .sh, 0⟩]⟩,
  -- PART_KV_HOST_BASE
  ⟨0x910, [⟨63, 0, .sh, 0⟩]⟩,
  -- PART_KV_HOST_GEOM
  ⟨0x918, [⟨23, 0, .sh, 0⟩, ⟨32, 32, .sh, 0⟩]⟩,
  -- PART_KV_STATE_BASE
  ⟨0x920, [⟨47, 0, .sh, 0⟩]⟩,
  -- PART_KV_WM
  ⟨0x928, [⟨31, 0, .rw, 0⟩, ⟨63, 32, .rw, 0⟩]⟩,
  -- PART_KV_PARK
  ⟨0x930, [⟨15, 0, .rw, 0⟩]⟩,
  -- PART_KV_FREE
  ⟨0x938, [⟨31, 0, .ro, 0⟩, ⟨63, 32, .ro, 0⟩]⟩,
  -- PART_KV_LIMBO
  ⟨0x940, [⟨31, 0, .ro, 0⟩, ⟨63, 32, .ro, 0⟩]⟩,
  -- PART_KV_OWNER
  ⟨0x948, [⟨47, 0, .rw, 0⟩]⟩,
  -- PART_KV_ALLOC
  ⟨0x950, [⟨31, 0, .rw, 0⟩, ⟨36, 32, .rw, 1⟩, ⟨37, 37, .rw, 0⟩, ⟨40, 40, .wo, 0⟩, ⟨41, 41, .wo, 0⟩, ⟨42, 42, .wo, 0⟩, ⟨62, 62, .ro, 0⟩, ⟨63, 63, .ro, 0⟩]⟩,
  -- PART_KV_EPOCH_CUR
  ⟨0x958, [⟨63, 0, .ro, 0⟩]⟩,
  -- PART_KV_EPOCH_OLD
  ⟨0x960, [⟨63, 0, .ro, 0⟩]⟩,
  -- PART_KV_CMD
  ⟨0x968, [⟨0, 0, .wo, 0⟩]⟩,
  -- PART_KV_STATUS
  ⟨0x970, [⟨0, 0, .ro, 0⟩, ⟨1, 1, .ro, 0⟩, ⟨31, 16, .ro, 0⟩]⟩,
  -- PART_KV_SPILLED
  ⟨0x978, [⟨63, 0, .ro, 0⟩]⟩,
  -- PART_KV_FETCHED
  ⟨0x980, [⟨63, 0, .ro, 0⟩]⟩,
  -- PART_RWT_ALLOC
  ⟨0xA00, [⟨14, 0, .sh, 0⟩, ⟨31, 16, .sh, 0⟩]⟩,
  -- PART_RWT_SEL
  ⟨0xA08, [⟨14, 0, .rw, 0⟩]⟩,
  -- PART_RWT_W1
  ⟨0xA10, [⟨9, 0, .rw, 0⟩, ⟨31, 16, .rw, 0⟩, ⟨37, 32, .ro, 0⟩, ⟨63, 48, .rw, 0⟩]⟩,
  -- PART_RWT_W2
  ⟨0xA18, [⟨47, 0, .rw, 0⟩]⟩,
  -- PART_RWT_W0
  ⟨0xA20, [⟨0, 0, .rw, 0⟩, ⟨1, 1, .rw, 0⟩, ⟨2, 2, .rw, 0⟩, ⟨47, 12, .rw, 0⟩]⟩,
  -- PART_PLACE_DONE
  ⟨0xA28, [⟨14, 0, .wo, 0⟩, ⟨31, 16, .wo, 0⟩, ⟨63, 32, .wo, 0⟩]⟩,
  -- PART_RT_BASE
  ⟨0xA30, [⟨63, 0, .rw, 0⟩]⟩,
  -- PART_RT_CFG
  ⟨0xA38, [⟨3, 0, .rw, 0⟩, ⟨4, 4, .rw, 0⟩, ⟨5, 5, .rw, 0⟩, ⟨6, 6, .rw, 0⟩]⟩,
  -- PART_RT_DB
  ⟨0xA40, [⟨31, 0, .wo, 0⟩]⟩,
  -- PART_RT_PTR
  ⟨0xA48, [⟨31, 0, .ro, 0⟩, ⟨63, 32, .ro, 0⟩]⟩,
  -- PART_BRIM
  ⟨0xB00, [⟨15, 0, .sh, 0⟩]⟩,
  -- PART_BRIM_STAGE
  ⟨0xB08, [⟨47, 0, .sh, 0⟩, ⟨63, 48, .sh, 0⟩]⟩,
  -- PART_PWR
  ⟨0xC00, [⟨0, 0, .rw, 0⟩, ⟨1, 1, .rw, 0⟩, ⟨2, 2, .rw, 1⟩, ⟨5, 4, .ro, 0⟩]⟩,
  -- PART_WDOG
  ⟨0xD00, [⟨15, 0, .rw, 1000⟩, ⟨31, 16, .ro, 0⟩]⟩,
  -- PART_LMAP_SEL
  ⟨0xD10, [⟨9, 0, .rw, 0⟩]⟩,
  -- PART_LMAP
  ⟨0xD18, [⟨9, 0, .ro, 0⟩, ⟨16, 10, .ro, 0⟩, ⟨17, 17, .ro, 0⟩]⟩]

/-- Class 0xf, prefix SEC. -/
def regsSEC : List RegRow := [
  -- SEC_STATUS
  ⟨0x100, [⟨0, 0, .ro, 0⟩, ⟨1, 1, .ro, 0⟩, ⟨2, 2, .ro, 0⟩, ⟨3, 3, .ro, 0⟩, ⟨5, 4, .ro, 0⟩, ⟨7, 6, .ro, 0⟩, ⟨31, 16, .ro, 0⟩]⟩,
  -- SEC_SVN_SEL
  ⟨0x108, [⟨3, 0, .rw, 0⟩]⟩,
  -- SEC_SVN
  ⟨0x110, [⟨15, 0, .ro, 0⟩, ⟨31, 16, .ro, 0⟩]⟩,
  -- SEC_SVN_CMD
  ⟨0x118, [⟨0, 0, .wo, 0⟩, ⟨31, 16, .ro, 0⟩]⟩,
  -- SEC_JTAG
  ⟨0x120, [⟨1, 0, .ro, 0⟩, ⟨3, 2, .ro, 0⟩, ⟨4, 4, .ro, 0⟩]⟩,
  -- SEC_SERIAL0
  ⟨0x128, [⟨63, 0, .ro, 0⟩]⟩,
  -- SEC_SERIAL1
  ⟨0x130, [⟨63, 0, .ro, 0⟩]⟩]

/-- The block-specific registers of a page class (Table 2.1). -/
def classRegs : Nat → List RegRow
  | 0 => regsCRN
  | 1 => regsSHP
  | 2 => regsSTR
  | 3 => regsCC
  | 4 => regsEDIE
  | 5 => regsCDIE
  | 6 => regsCLU
  | 7 => regsCORE
  | 8 => regsMC
  | 9 => regsSTK
  | 10 => regsFUL
  | 11 => regsVC
  | 12 => regsBRM
  | 13 => regsHP
  | 14 => regsPART
  | 15 => regsSEC
  | _ => []

/-- The row of the register at an offset of a page of a class, if a register occupies it (R19, R22). -/
def regRow? (cls off : Nat) : Option RegRow :=
  if off < 0x100 then commonHeader.find? (fun r => r.off == off)
  else (classRegs cls).find? (fun r => r.off == off)

end Sys2Proof.Machine
end

