-- ==== Sys2Proof/Machine/Regs.lean ====
section
/-!
DEFINITION. Names for the registers and register fields the meanings use: the offset in the page, and the bits, from the
register tables of the spec.
-/
namespace Sys2Proof.Machine

def Fld.BLK_CTRL_EN : Fld := ⟨0x10, 0, 0⟩
def Fld.BLK_ERR_SUM_CONTAINED : Fld := ⟨0x28, 39, 24⟩
def Fld.BLK_ERR_SUM_CORRECTED : Fld := ⟨0x28, 23, 0⟩
def Fld.BLK_ERR_SUM_DEV_FATAL : Fld := ⟨0x28, 63, 52⟩
def Fld.BLK_ERR_SUM_PART_FATAL : Fld := ⟨0x28, 51, 40⟩
def Fld.BLK_REASON_CODE : Fld := ⟨0x20, 15, 0⟩
def Fld.BLK_REASON_FIELD_LSB : Fld := ⟨0x20, 37, 32⟩
def Fld.BLK_REASON_FIELD_OFFSET : Fld := ⟨0x20, 31, 16⟩
def Fld.BLK_STATUS_FAULT : Fld := ⟨0x18, 3, 3⟩
def Fld.BLK_STATUS_LIVE : Fld := ⟨0x18, 0, 0⟩
def Fld.BLK_STATUS_REFUSED : Fld := ⟨0x18, 1, 1⟩
def Fld.BRM_CFG_DSCP : Fld := ⟨0x100, 29, 24⟩
def Fld.BRM_CFG_EN : Fld := ⟨0x100, 0, 0⟩
def Fld.BRM_CFG_IPV6 : Fld := ⟨0x100, 2, 2⟩
def Fld.BRM_CFG_PTP_EN : Fld := ⟨0x100, 3, 3⟩
def Fld.BRM_CFG_RATE_400 : Fld := ⟨0x100, 4, 4⟩
def Fld.BRM_CFG_RETRY_MAX : Fld := ⟨0x100, 23, 20⟩
def Fld.BRM_CFG_RTO_US : Fld := ⟨0x100, 19, 10⟩
def Fld.BRM_CFG_UDP : Fld := ⟨0x100, 1, 1⟩
def Fld.BRM_CFG_UDP_PORT : Fld := ⟨0x100, 47, 32⟩
def Fld.BRM_DROPPED_FRAMES : Fld := ⟨0x168, 63, 0⟩
def Fld.BRM_IP0_ADDR : Fld := ⟨0x110, 63, 0⟩
def Fld.BRM_IP1_ADDR : Fld := ⟨0x118, 63, 0⟩
def Fld.BRM_MAC_MAC : Fld := ⟨0x108, 47, 0⟩
def Fld.BRM_RETX_FRAMES : Fld := ⟨0x160, 63, 0⟩
def Fld.BRM_RX_FRAMES : Fld := ⟨0x158, 63, 0⟩
def Fld.BRM_STATUS_MISMATCH : Fld := ⟨0x140, 5, 4⟩
def Fld.BRM_STATUS_PARTNER_NODE : Fld := ⟨0x140, 28, 16⟩
def Fld.BRM_STATUS_PARTNER_PORT : Fld := ⟨0x140, 34, 29⟩
def Fld.BRM_STATUS_PARTNER_VALID : Fld := ⟨0x140, 35, 35⟩
def Fld.BRM_STATUS_RATE : Fld := ⟨0x140, 3, 3⟩
def Fld.BRM_STATUS_STATE : Fld := ⟨0x140, 2, 0⟩
def Fld.BRM_TX_FRAMES : Fld := ⟨0x150, 63, 0⟩
def Fld.CC_STATUS_TIME_INVALID : Fld := ⟨0x118, 0, 0⟩
def Fld.CC_STATUS_VBAT_LOW : Fld := ⟨0x118, 1, 1⟩
def Fld.CC_STATUS_XTAL_FAIL : Fld := ⟨0x118, 2, 2⟩
def Fld.CC_TRIM_PPM : Fld := ⟨0x110, 15, 0⟩
def Fld.CDIE_FE_BLOCKS_COUNT : Fld := ⟨0x608, 63, 0⟩
def Fld.CDIE_FE_FALLBACK_COUNT : Fld := ⟨0x610, 63, 0⟩
def Fld.CDIE_FRAME_ATTR_ALLOC : Fld := ⟨0x708, 29, 29⟩
def Fld.CDIE_FRAME_ATTR_GRAN : Fld := ⟨0x708, 3, 0⟩
def Fld.CDIE_FRAME_ATTR_RUN_ORD : Fld := ⟨0x708, 28, 8⟩
def Fld.CDIE_FRAME_SEL_FRAME : Fld := ⟨0x700, 20, 0⟩
def Fld.CDIE_FRAME_SEL_PKG : Fld := ⟨0x700, 22, 22⟩
def Fld.CDIE_FRAME_SEL_STACK : Fld := ⟨0x700, 21, 21⟩
def Fld.CLU_AS_PAGES_COUNT : Fld := ⟨0x308, 63, 0⟩
def Fld.CLU_AS_READTHRU_COUNT : Fld := ⟨0x318, 63, 0⟩
def Fld.CLU_AS_SKIPPED_COUNT : Fld := ⟨0x320, 63, 0⟩
def Fld.CLU_AS_WIDENED_COUNT : Fld := ⟨0x310, 63, 0⟩
def Fld.CORE_ME_ACTIVE_CYCLES : Fld := ⟨0x210, 63, 0⟩
def Fld.CORE_SP_CONFLICT_CYCLES : Fld := ⟨0x208, 63, 0⟩
def Fld.CORE_SP_ECC_BANK : Fld := ⟨0x218, 14, 9⟩
def Fld.CORE_SP_ECC_BLANK : Fld := ⟨0x218, 8, 0⟩
def Fld.CORE_SP_ECC_COUNT : Fld := ⟨0x218, 31, 16⟩
def Fld.CORE_SP_ECC_IN_AM : Fld := ⟨0x218, 15, 15⟩
def Fld.CORE_TC_BOOT_ADDR : Fld := ⟨0x238, 47, 0⟩
def Fld.CORE_TC_CTRL_RUN : Fld := ⟨0x230, 0, 0⟩
def Fld.CORE_TC_STATUS_ACC_FAULT : Fld := ⟨0x240, 3, 3⟩
def Fld.CORE_TC_STATUS_MCAUSE : Fld := ⟨0x240, 15, 8⟩
def Fld.CORE_TC_STATUS_STATE : Fld := ⟨0x240, 1, 0⟩
def Fld.CORE_TC_STATUS_WDOG : Fld := ⟨0x240, 2, 2⟩
def Fld.CORE_VE_ACTIVE_CYCLES : Fld := ⟨0x228, 63, 0⟩
def Fld.CRN_ACLK_STROKE_CYCLES_LOST : Fld := ⟨0x120, 63, 32⟩
def Fld.CRN_ACLK_STROKE_MAX_STEP : Fld := ⟨0x120, 3, 0⟩
def Fld.CRN_ERR_CFG_ALERT_MIN : Fld := ⟨0x140, 3, 2⟩
def Fld.CRN_ERR_CFG_COALESCE : Fld := ⟨0x140, 4, 4⟩
def Fld.CRN_ERR_CFG_IRQ_MIN : Fld := ⟨0x140, 1, 0⟩
def Fld.CRN_ERR_LOST_COUNT : Fld := ⟨0x150, 63, 0⟩
def Fld.CRN_ERR_PTR_HEAD : Fld := ⟨0x148, 11, 0⟩
def Fld.CRN_ERR_PTR_TAIL : Fld := ⟨0x148, 27, 16⟩
def Fld.CRN_PWR_CFG_EXCURSION : Fld := ⟨0x108, 31, 16⟩
def Fld.CRN_PWR_CFG_FLOOR_STEP : Fld := ⟨0x108, 35, 32⟩
def Fld.CRN_PWR_CFG_NAP_DELAY : Fld := ⟨0x108, 49, 40⟩
def Fld.CRN_PWR_CFG_RESETN_RETAIN : Fld := ⟨0x108, 36, 36⟩
def Fld.CRN_PWR_CFG_SUSTAIN : Fld := ⟨0x108, 15, 0⟩
def Fld.CRN_PWR_STATS_STEP_DOWNS : Fld := ⟨0x118, 31, 0⟩
def Fld.CRN_PWR_STATS_THROTTLED_STROKES : Fld := ⟨0x118, 63, 32⟩
def Fld.CRN_PWR_STATUS_INPUT : Fld := ⟨0x110, 47, 32⟩
def Fld.CRN_PWR_STATUS_LAST_CAUSE : Fld := ⟨0x110, 18, 16⟩
def Fld.CRN_PWR_STATUS_LAST_RETAINED : Fld := ⟨0x110, 19, 19⟩
def Fld.CRN_PWR_STATUS_STATE : Fld := ⟨0x110, 2, 0⟩
def Fld.CRN_PWR_STATUS_STEP : Fld := ⟨0x110, 11, 8⟩
def Fld.CRN_PWR_STATUS_TJ_MAX : Fld := ⟨0x110, 55, 48⟩
def Fld.CRN_RESET_PART_IDX : Fld := ⟨0x100, 8, 3⟩
def Fld.CRN_RESET_PKG : Fld := ⟨0x100, 0, 0⟩
def Fld.CRN_SERVICE_FAILED_PENDING : Fld := ⟨0x1A8, 2, 2⟩
def Fld.CRN_SERVICE_MIN_MET : Fld := ⟨0x1A8, 0, 0⟩
def Fld.CRN_SERVICE_SERVING_EDIE : Fld := ⟨0x1A8, 1, 1⟩
def Fld.EDIE_MEMB_CMD_ANNOUNCE : Fld := ⟨0x160, 0, 0⟩
def Fld.EDIE_MEMB_CMD_LAST_RESULT : Fld := ⟨0x160, 31, 16⟩
def Fld.EDIE_MEMB_CMD_PENDING : Fld := ⟨0x160, 1, 1⟩
def Fld.EDIE_MEMB_EPOCH : Fld := ⟨0x140, 31, 0⟩
def Fld.EDIE_MEMB_MEMBERS : Fld := ⟨0x140, 45, 32⟩
def Fld.EDIE_MEMB_NEXT_ADDR_ADDR : Fld := ⟨0x148, 47, 0⟩
def Fld.EDIE_MEMB_NEXT_EPOCH : Fld := ⟨0x150, 31, 0⟩
def Fld.EDIE_MEMB_STROKE_STROKE : Fld := ⟨0x158, 63, 0⟩
def Fld.EDIE_RMT_BASE_ADDR : Fld := ⟨0x200, 47, 0⟩
def Fld.EDIE_ROUTE_BASE_ADDR : Fld := ⟨0x108, 47, 0⟩
def Fld.EDIE_SYS_NODE_ID : Fld := ⟨0x100, 44, 32⟩
def Fld.EDIE_SYS_SYSTEM_ID : Fld := ⟨0x100, 31, 0⟩
def Fld.FUL_CONT_BYTES_COUNT : Fld := ⟨0x110, 63, 0⟩
def Fld.FUL_CORRUPT_COUNT : Fld := ⟨0x128, 63, 0⟩
def Fld.FUL_LAST_CORRUPT_CHUNK : Fld := ⟨0x130, 47, 16⟩
def Fld.FUL_LAST_CORRUPT_CODE : Fld := ⟨0x130, 15, 0⟩
def Fld.FUL_RAW_BLOCKS_COUNT : Fld := ⟨0x118, 63, 0⟩
def Fld.FUL_STORED_COUNT : Fld := ⟨0x120, 63, 0⟩
def Fld.FUL_UNC_BYTES_COUNT : Fld := ⟨0x108, 63, 0⟩
def Fld.HP_CFG_ATS_EN : Fld := ⟨0x100, 3, 3⟩
def Fld.HP_CFG_CXL_MEM_EN : Fld := ⟨0x100, 2, 2⟩
def Fld.HP_CFG_EDIE_RT_PART : Fld := ⟨0x100, 16, 11⟩
def Fld.HP_CFG_HOLD_ON_HOST_LOSS : Fld := ⟨0x100, 1, 1⟩
def Fld.HP_CFG_PERSONALITY : Fld := ⟨0x100, 0, 0⟩
def Fld.HP_CFG_TOTAL_VFS : Fld := ⟨0x100, 10, 4⟩
def Fld.HP_CLOG_LOST_COUNT : Fld := ⟨0x1A8, 63, 0⟩
def Fld.HP_CLOG_PTR_HEAD : Fld := ⟨0x1A0, 15, 0⟩
def Fld.HP_CLOG_PTR_TAIL : Fld := ⟨0x1A0, 31, 16⟩
def Fld.HP_DW_CFG_EN : Fld := ⟨0x310, 4, 4⟩
def Fld.HP_DW_CFG_LOG2 : Fld := ⟨0x310, 3, 0⟩
def Fld.HP_DW_EVT_BASE_ADDR : Fld := ⟨0x318, 47, 0⟩
def Fld.HP_DW_STATUS_CQ_TAIL : Fld := ⟨0x320, 63, 48⟩
def Fld.HP_DW_STATUS_FAULT : Fld := ⟨0x320, 31, 16⟩
def Fld.HP_DW_STATUS_SQ_HEAD : Fld := ⟨0x320, 47, 32⟩
def Fld.HP_DW_STATUS_STATE : Fld := ⟨0x320, 1, 0⟩
def Fld.HP_LINK_CXL : Fld := ⟨0x180, 10, 10⟩
def Fld.HP_LINK_RETRAINS : Fld := ⟨0x180, 63, 32⟩
def Fld.HP_LINK_SPEED : Fld := ⟨0x180, 4, 2⟩
def Fld.HP_LINK_STATE : Fld := ⟨0x180, 1, 0⟩
def Fld.HP_LINK_WIDTH : Fld := ⟨0x180, 9, 5⟩
def Fld.HP_LOSS_LOSS_SEQ : Fld := ⟨0x188, 31, 0⟩
def Fld.HP_PF_PARTS_PARTS : Fld := ⟨0x108, 63, 0⟩
def Fld.HP_PLACE_REFUSED_COUNT : Fld := ⟨0x198, 63, 0⟩
def Fld.HP_RETAIN_CLAIM_ID : Fld := ⟨0x1F8, 63, 0⟩
def Fld.HP_RETAIN_CTRL_REFUSED : Fld := ⟨0x200, 31, 16⟩
def Fld.HP_RETAIN_CTRL_STATE : Fld := ⟨0x200, 1, 0⟩
def Fld.HP_RWT_MISS_COUNT : Fld := ⟨0x190, 63, 0⟩
def Fld.MC_LAST_ERR_BYTES : Fld := ⟨0x110, 39, 32⟩
def Fld.MC_LAST_ERR_CH_ADDR : Fld := ⟨0x110, 31, 0⟩
def Fld.MC_LAST_ERR_WRITE : Fld := ⟨0x110, 40, 40⟩
def Fld.MC_PARITY_REREAD_OK : Fld := ⟨0x108, 31, 0⟩
def Fld.MC_PARITY_UNCORRECTABLE : Fld := ⟨0x108, 63, 32⟩
def Fld.MC_RECAL_LAST_STROKE : Fld := ⟨0x120, 47, 0⟩
def Fld.MC_RECAL_UNSCHED : Fld := ⟨0x120, 63, 48⟩
def Fld.MC_REMAP_SEL_ENTRY : Fld := ⟨0x128, 5, 0⟩
def Fld.MC_RETRAIN_COUNT : Fld := ⟨0x118, 31, 0⟩
def Fld.MC_RETRAIN_LONGEST : Fld := ⟨0x118, 47, 32⟩
def Fld.MC_STATUS_LANES_SPARED : Fld := ⟨0x100, 9, 8⟩
def Fld.MC_STATUS_RECAL_DUE : Fld := ⟨0x100, 2, 2⟩
def Fld.MC_STATUS_STATE : Fld := ⟨0x100, 1, 0⟩
def Fld.MC_UU_ELEMS_COUNT : Fld := ⟨0x418, 63, 0⟩
def Fld.MC_UU_HELD_COUNT : Fld := ⟨0x420, 63, 0⟩
def Fld.MC_UU_SKIPPED_COUNT : Fld := ⟨0x428, 63, 0⟩
def Fld.MC_UU_STEP_COUNT : Fld := ⟨0x410, 39, 0⟩
def Fld.MC_UU_STEP_SEL_GROUP : Fld := ⟨0x408, 7, 0⟩
def Fld.PART_BRIM_JOB : Fld := ⟨0xB00, 15, 0⟩
def Fld.PART_BRIM_STAGE_BASE : Fld := ⟨0xB08, 47, 0⟩
def Fld.PART_BRIM_STAGE_MIB : Fld := ⟨0xB08, 63, 48⟩
def Fld.PART_CLUSTERS0_CLUSTERS : Fld := ⟨0x110, 63, 0⟩
def Fld.PART_CLUSTERS1_CLUSTERS : Fld := ⟨0x118, 63, 0⟩
def Fld.PART_CODECS_CODECS : Fld := ⟨0x128, 15, 0⟩
def Fld.PART_CTX_BIND_LIST : Fld := ⟨0x320, 47, 0⟩
def Fld.PART_CTX_CFG_CM_KEEP : Fld := ⟨0x308, 21, 17⟩
def Fld.PART_CTX_CFG_EN : Fld := ⟨0x308, 0, 0⟩
def Fld.PART_CTX_CFG_PREEMPT_DL : Fld := ⟨0x308, 51, 32⟩
def Fld.PART_CTX_CFG_QUANTUM : Fld := ⟨0x308, 16, 1⟩
def Fld.PART_CTX_CMD_ABORT : Fld := ⟨0x328, 3, 3⟩
def Fld.PART_CTX_CMD_RESUME : Fld := ⟨0x328, 2, 2⟩
def Fld.PART_CTX_CMD_SUSPEND : Fld := ⟨0x328, 1, 1⟩
def Fld.PART_CTX_CMD_SWITCH_TO : Fld := ⟨0x328, 0, 0⟩
def Fld.PART_CTX_SAVE_MAP : Fld := ⟨0x310, 47, 0⟩
def Fld.PART_CTX_SEL_CTX : Fld := ⟨0x300, 3, 0⟩
def Fld.PART_CTX_WIN_TABLE : Fld := ⟨0x318, 47, 0⟩
def Fld.PART_DEF_CTX_MAX : Fld := ⟨0x100, 5, 1⟩
def Fld.PART_DEF_DEFINED : Fld := ⟨0x100, 0, 0⟩
def Fld.PART_DEF_FUL_MAX : Fld := ⟨0x100, 9, 7⟩
def Fld.PART_DEF_PKG_SET : Fld := ⟨0x100, 6, 6⟩
def Fld.PART_KV_ALLOC_ERR : Fld := ⟨0x950, 62, 62⟩
def Fld.PART_KV_ALLOC_HOST : Fld := ⟨0x950, 37, 37⟩
def Fld.PART_KV_ALLOC_NONE : Fld := ⟨0x950, 63, 63⟩
def Fld.PART_KV_ALLOC_SLOT : Fld := ⟨0x950, 31, 0⟩
def Fld.PART_KV_ALLOC_SPAN : Fld := ⟨0x950, 36, 32⟩
def Fld.PART_KV_EPOCH_CUR_CUR : Fld := ⟨0x958, 63, 0⟩
def Fld.PART_KV_FETCHED_COUNT : Fld := ⟨0x980, 63, 0⟩
def Fld.PART_KV_HOST_BASE_BASE : Fld := ⟨0x910, 63, 0⟩
def Fld.PART_KV_HOST_GEOM_HSLOTS : Fld := ⟨0x918, 23, 0⟩
def Fld.PART_KV_HOST_GEOM_PORT : Fld := ⟨0x918, 32, 32⟩
def Fld.PART_KV_OWNER_ADDR : Fld := ⟨0x948, 47, 0⟩
def Fld.PART_KV_PARK_PARK_STROKES : Fld := ⟨0x930, 15, 0⟩
def Fld.PART_KV_POOL_BASE_BASE : Fld := ⟨0x900, 47, 0⟩
def Fld.PART_KV_POOL_GEOM_SLOTS : Fld := ⟨0x908, 23, 0⟩
def Fld.PART_KV_POOL_GEOM_SLOT_UNITS : Fld := ⟨0x908, 55, 32⟩
def Fld.PART_KV_SPILLED_COUNT : Fld := ⟨0x978, 63, 0⟩
def Fld.PART_KV_STATE_BASE_BASE : Fld := ⟨0x920, 47, 0⟩
def Fld.PART_KV_STATUS_BELOW_LOW : Fld := ⟨0x970, 0, 0⟩
def Fld.PART_KV_STATUS_BELOW_STROKES : Fld := ⟨0x970, 31, 16⟩
def Fld.PART_KV_STATUS_PARK_NEEDED : Fld := ⟨0x970, 1, 1⟩
def Fld.PART_KV_WM_HIGH : Fld := ⟨0x928, 63, 32⟩
def Fld.PART_KV_WM_LOW : Fld := ⟨0x928, 31, 0⟩
def Fld.PART_LMAP_SEL_LCORE : Fld := ⟨0xD10, 9, 0⟩
def Fld.PART_PLACE_DONE_ENTRY : Fld := ⟨0xA28, 14, 0⟩
def Fld.PART_PORTS_PORTS : Fld := ⟨0x120, 63, 0⟩
def Fld.PART_PWR_AUTO_WAKE : Fld := ⟨0xC00, 2, 2⟩
def Fld.PART_PWR_DEEP_NAP : Fld := ⟨0xC00, 0, 0⟩
def Fld.PART_PWR_RETAIN_SRAM : Fld := ⟨0xC00, 1, 1⟩
def Fld.PART_PWR_STATE : Fld := ⟨0xC00, 5, 4⟩
def Fld.PART_RING_ALLOC_COUNT : Fld := ⟨0x800, 30, 16⟩
def Fld.PART_RING_ALLOC_FIRST : Fld := ⟨0x800, 13, 0⟩
def Fld.PART_RING_BASE_ADDR : Fld := ⟨0x810, 63, 0⟩
def Fld.PART_RING_CFG_CCP : Fld := ⟨0x818, 14, 8⟩
def Fld.PART_RING_CFG_CONTEXT : Fld := ⟨0x818, 19, 16⟩
def Fld.PART_RING_CFG_LOG2_ENTRIES : Fld := ⟨0x818, 4, 0⟩
def Fld.PART_RING_CFG_PORT : Fld := ⟨0x818, 6, 6⟩
def Fld.PART_RING_CFG_VECTOR : Fld := ⟨0x818, 42, 32⟩
def Fld.PART_RING_CQ_BASE_ADDR : Fld := ⟨0x820, 63, 0⟩
def Fld.PART_RING_CQ_CFG_LOG2_ENTRIES : Fld := ⟨0x828, 4, 0⟩
def Fld.PART_RING_CQ_CFG_PORT : Fld := ⟨0x828, 6, 6⟩
def Fld.PART_RING_SAT_ADDR : Fld := ⟨0x830, 63, 0⟩
def Fld.PART_RT_CFG_EN : Fld := ⟨0xA38, 6, 6⟩
def Fld.PART_RT_CFG_FUNC : Fld := ⟨0xA38, 5, 5⟩
def Fld.PART_RT_CFG_LOG2_ENTRIES : Fld := ⟨0xA38, 3, 0⟩
def Fld.PART_RT_CFG_PORT : Fld := ⟨0xA38, 4, 4⟩
def Fld.PART_RT_PTR_REQ_HEAD : Fld := ⟨0xA48, 31, 0⟩
def Fld.PART_RT_PTR_RSP_TAIL : Fld := ⟨0xA48, 63, 32⟩
def Fld.PART_RWT_ALLOC_COUNT : Fld := ⟨0xA00, 31, 16⟩
def Fld.PART_RWT_ALLOC_FIRST : Fld := ⟨0xA00, 14, 0⟩
def Fld.PART_RWT_SEL_ENTRY : Fld := ⟨0xA08, 14, 0⟩
def Fld.PART_RWT_W0_DEV_BASE : Fld := ⟨0xA20, 47, 12⟩
def Fld.PART_RWT_W1_LIMIT : Fld := ⟨0xA10, 9, 0⟩
def Fld.PART_RWT_W2_SEM_ADDR : Fld := ⟨0xA18, 47, 0⟩
def Fld.PART_STACKS_STACKS : Fld := ⟨0x108, 31, 0⟩
def Fld.SEC_JTAG_FAILS : Fld := ⟨0x120, 3, 2⟩
def Fld.SEC_JTAG_LEVEL : Fld := ⟨0x120, 1, 0⟩
def Fld.SEC_JTAG_LOCKED_OUT : Fld := ⟨0x120, 4, 4⟩
def Fld.SEC_STATUS_BOOT_MS : Fld := ⟨0x100, 31, 16⟩
def Fld.SEC_STATUS_BOOT_SLOT : Fld := ⟨0x100, 0, 0⟩
def Fld.SEC_STATUS_BUNDLE_SLOT : Fld := ⟨0x100, 1, 1⟩
def Fld.SEC_STATUS_CERT_TIME : Fld := ⟨0x100, 5, 4⟩
def Fld.SEC_STATUS_DEBUG : Fld := ⟨0x100, 7, 6⟩
def Fld.SEC_STATUS_KEY_OK0 : Fld := ⟨0x100, 2, 2⟩
def Fld.SEC_STATUS_KEY_OK1 : Fld := ⟨0x100, 3, 3⟩
def Fld.SEC_SVN_CMD_COMMIT : Fld := ⟨0x118, 0, 0⟩
def Fld.SEC_SVN_CMD_LAST_RESULT : Fld := ⟨0x118, 31, 16⟩
def Fld.SEC_SVN_SEL_COUNTER : Fld := ⟨0x108, 3, 0⟩
def Fld.SHP_CTRL_COMMIT : Fld := ⟨0x100, 0, 0⟩
def Fld.SHP_CTRL_PIN : Fld := ⟨0x100, 2, 2⟩
def Fld.SHP_CTRL_REVERT : Fld := ⟨0x100, 1, 1⟩
def Fld.SHP_FAIL_CODE : Fld := ⟨0x128, 63, 48⟩
def Fld.SHP_FAIL_FAIL_PAGE : Fld := ⟨0x128, 27, 0⟩
def Fld.SHP_FAIL_FIELD_OFFSET : Fld := ⟨0x128, 47, 32⟩
def Fld.SHP_GEN_LP_LIVE : Fld := ⟨0x118, 31, 0⟩
def Fld.SHP_GEN_LP_PRIOR : Fld := ⟨0x118, 63, 32⟩
def Fld.SHP_GEN_PP_PENDING : Fld := ⟨0x120, 31, 0⟩
def Fld.SHP_GEN_PP_PINNED : Fld := ⟨0x120, 63, 32⟩
def Fld.SHP_LOCK_HOLDER : Fld := ⟨0x110, 15, 0⟩
def Fld.SHP_LOCK_LAST_LOST : Fld := ⟨0x110, 31, 16⟩
def Fld.SHP_STATUS_BUSY : Fld := ⟨0x108, 0, 0⟩
def Fld.SHP_STATUS_DEFAULT_APPLIED : Fld := ⟨0x108, 4, 4⟩
def Fld.SHP_STATUS_DIRTY : Fld := ⟨0x108, 1, 1⟩
def Fld.SHP_STATUS_DORMANT : Fld := ⟨0x108, 3, 3⟩
def Fld.SHP_STATUS_LAST_OP : Fld := ⟨0x108, 15, 8⟩
def Fld.SHP_STATUS_LAST_RESULT : Fld := ⟨0x108, 31, 16⟩
def Fld.SHP_STATUS_PIN_BUSY : Fld := ⟨0x108, 2, 2⟩
def Fld.STK_MARGIN_AXIS : Fld := ⟨0x120, 6, 5⟩
def Fld.STK_MARGIN_CHANNEL : Fld := ⟨0x120, 4, 0⟩
def Fld.STK_MARGIN_DONE : Fld := ⟨0x120, 17, 17⟩
def Fld.STK_MARGIN_OFFSET : Fld := ⟨0x120, 13, 8⟩
def Fld.STK_MARGIN_RES_ERRORS : Fld := ⟨0x128, 31, 0⟩
def Fld.STK_MARGIN_RES_LANES : Fld := ⟨0x128, 39, 32⟩
def Fld.STK_MARGIN_START : Fld := ⟨0x120, 16, 16⟩
def Fld.STK_ODECC_COUNT : Fld := ⟨0x118, 63, 0⟩
def Fld.STK_SET_CFG_KIND : Fld := ⟨0x100, 1, 0⟩
def Fld.STK_SET_CFG_PKG_MIB : Fld := ⟨0x100, 27, 16⟩
def Fld.STK_STATUS_OUT_MASK : Fld := ⟨0x108, 63, 32⟩
def Fld.STK_STATUS_REFRESH : Fld := ⟨0x108, 3, 2⟩
def Fld.STK_STATUS_STATE : Fld := ⟨0x108, 1, 0⟩
def Fld.STK_STATUS_TEMP : Fld := ⟨0x108, 23, 16⟩
def Fld.STK_STATUS_THROTTLE : Fld := ⟨0x108, 4, 4⟩
def Fld.STK_TEMP_MAX_TEMP : Fld := ⟨0x110, 7, 0⟩
def Fld.STR_CFG_PERIOD : Fld := ⟨0x100, 58, 32⟩
def Fld.STR_CFG_PTP_ALT_EN : Fld := ⟨0x100, 10, 10⟩
def Fld.STR_CFG_PTP_ALT_PORT : Fld := ⟨0x100, 17, 12⟩
def Fld.STR_CFG_PTP_DOMAIN : Fld := ⟨0x100, 30, 24⟩
def Fld.STR_CFG_PTP_PORT : Fld := ⟨0x100, 9, 4⟩
def Fld.STR_CFG_SOURCE : Fld := ⟨0x100, 1, 0⟩
def Fld.STR_CFG_STROKE_OUT_EN : Fld := ⟨0x100, 31, 31⟩
def Fld.STR_CMD_LOAD : Fld := ⟨0x158, 0, 0⟩
def Fld.STR_EPOCH_EPOCH_S : Fld := ⟨0x108, 47, 0⟩
def Fld.STR_IN_ERR_COUNT : Fld := ⟨0x178, 63, 0⟩
def Fld.STR_LAST_SLIP_CONTEXT : Fld := ⟨0x190, 25, 16⟩
def Fld.STR_LAST_SLIP_STROKES : Fld := ⟨0x190, 15, 0⟩
def Fld.STR_LATE_COUNT_COUNT : Fld := ⟨0x170, 63, 0⟩
def Fld.STR_MAINT_EVERY : Fld := ⟨0x110, 16, 0⟩
def Fld.STR_MAINT_OFFSET : Fld := ⟨0x110, 47, 32⟩
def Fld.STR_MAINT_WINDOW : Fld := ⟨0x110, 57, 48⟩
def Fld.STR_OUT_DIVIDE : Fld := ⟨0x118, 15, 0⟩
def Fld.STR_SLIP_COUNT_COUNT : Fld := ⟨0x160, 63, 0⟩
def Fld.STR_SLIP_STROKES_COUNT : Fld := ⟨0x168, 63, 0⟩
def Fld.STR_STATUS_HOLDOVER_LEFT : Fld := ⟨0x140, 31, 16⟩
def Fld.STR_STATUS_IN_PRESENT : Fld := ⟨0x140, 5, 5⟩
def Fld.STR_STATUS_LOCK : Fld := ⟨0x140, 1, 0⟩
def Fld.STR_STATUS_PHASE_ERR : Fld := ⟨0x140, 63, 32⟩
def Fld.STR_STATUS_PTP_ON_ALT : Fld := ⟨0x140, 4, 4⟩
def Fld.STR_STATUS_SOURCE_ACTIVE : Fld := ⟨0x140, 3, 2⟩
def Fld.STR_STEP_COUNT_COUNT : Fld := ⟨0x180, 63, 0⟩
def Fld.STR_STRETCH_COUNT : Fld := ⟨0x188, 63, 0⟩
def Fld.VC_CAP_EXC_COUNT : Fld := ⟨0x120, 63, 0⟩
def Fld.VC_DAMAGED_COUNT : Fld := ⟨0x118, 63, 0⟩
def Fld.VC_PIX_DEC_COUNT : Fld := ⟨0x108, 63, 0⟩
def Fld.VC_PIX_ENC_COUNT : Fld := ⟨0x110, 63, 0⟩
def Fld.VC_SESSION_SEL_SLOT : Fld := ⟨0x128, 3, 0⟩
def Reg.CC_STATUS : Nat := 0x118
def Reg.CC_TRIM : Nat := 0x110
def Reg.CDIE_FRAME_ATTR : Nat := 0x708
def Reg.CORE_ARITH_STICKY : Nat := 0x180
def Reg.CORE_TC_CTRL : Nat := 0x230
def Reg.CORE_TC_FAULT_PC : Nat := 0x248
def Reg.CORE_TC_MBOX : Nat := 0x250
def Reg.CORE_TC_STATUS : Nat := 0x240
def Reg.CRN_SERVICE : Nat := 0x1A8
def Reg.EDIE_LOST0 : Nat := 0x180
def Reg.HP_DW_CQ_BASE : Nat := 0x308
def Reg.HP_DW_SQ_BASE : Nat := 0x300
def Reg.HP_RETAIN_ID : Nat := 0x1F0
def Reg.PART_RING_CFG : Nat := 0x818
def Reg.PART_RING_SEL : Nat := 0x808
def Reg.PART_RT_BASE : Nat := 0xA30
def Reg.PART_RWT_SEL : Nat := 0xA08
def Reg.SEC_JTAG : Nat := 0x120
def Reg.SEC_SERIAL0 : Nat := 0x128
def Reg.SEC_SERIAL1 : Nat := 0x130
def Reg.SEC_STATUS : Nat := 0x100
def Reg.STR_COUNT : Nat := 0x148
def Reg.STR_COUNT_LOAD : Nat := 0x150

end Sys2Proof.Machine
end

