-- ==== Sys2Proof/Machine/State.lean ====
section
/-!
DEFINITION. The state of the device: every register page (sparsely, by BAR0 offset), the Shape banks, memory, and what the
spec says the units hold behind their registers.  Plain data throughout.  Each field's comment names the rule that gives it.
-/
namespace Sys2Proof.Machine

open Sys2Proof

/-! ### Registers and Shapes (02) -/

/-- A Shape bank: generation (0 marks an empty bank) and the words of the SH registers by BAR0 offset, unlisted ones 0 (R27). -/
structure Bank where
  /-- Generation of the bank (R27). -/
  gen : Nat := 0
  /-- SH register words by BAR0 offset (R27); a word not listed is 0. -/
  words : SMap Word64 := []
  /-- Trim overrides (R27, R34): kind, unit, and whether the override removes the unit or would restore it.  The spec names no
  register of theirs; they come with the COMMIT write (log 16). -/
  overrides : List (Nat × Nat × Bool) := []
  deriving DecidableEq, Repr

/-- One of the two NVM slots of the pinned Shape (R36). -/
structure NvmSlot where
  /-- The slot's CRC-32C matches its contents (R36, R37). -/
  crcOk : Bool
  /-- Pin sequence number of the slot record (R36). -/
  seq : Nat
  /-- The pinned contents, generation included (R36). -/
  bank : Bank
  deriving DecidableEq, Repr

/-- The operation a Shape control write started (R30, R35). -/
inductive ShapeOpKind where | commit | revert
  deriving DecidableEq, Repr

/-- A commit or revert in progress (R30 to R35). -/
structure ShapeOp where
  /-- Commit or revert (R30, R35). -/
  kind : ShapeOpKind
  /-- The check has ended and passed; the swap follows (R32). -/
  passed : Bool
  /-- PIN accompanied the operation (R33). -/
  pinAfter : Bool
  /-- Partitions whose definition changes: their fetches and restores are held (R31). -/
  held : List Nat
  /-- Partitions with a changed definition that were not idle when the operation was written (R31). -/
  busyParts : List Nat
  /-- Brim ports being disabled whose partition was not idle when the operation was written (R34, log 54). -/
  busyPorts : List Nat
  /-- Rings that leave or enter a partition's range and were not DISABLED when the operation was written (R71). -/
  busyRings : List Nat
  /-- Units a trim override removes whose partition was not idle when the operation was written (R34, log 54). -/
  busyUnits : List (Nat × Nat)
  deriving DecidableEq, Repr

/-- A pin in progress: the slot being written and the Live bank captured (R36). -/
structure PinOp where
  /-- The slot, 0 or 1, being overwritten (R36). -/
  slot : Nat
  /-- Live as it stood when PIN took effect (R33, R36). -/
  bank : Bank
  deriving DecidableEq, Repr

/-- The Shape control unit (R27 to R37). -/
structure ShapeUnit where
  /-- The Pending bank (R27). -/
  pend : Bank := {}
  /-- The Live bank (R27). -/
  live : Bank := {}
  /-- The Prior bank (R27); generation 0 when empty. -/
  prior : Bank := {}
  /-- NVM slot 0 of the pinned Shape (R36); none when never written. -/
  slot0 : Option NvmSlot := none
  /-- NVM slot 1 of the pinned Shape (R36). -/
  slot1 : Option NvmSlot := none
  /-- The slot that holds the current pinned Shape (R36). -/
  cur : Option Nat := none
  /-- Commit or revert in progress (R30, R35). -/
  op : Option ShapeOp := none
  /-- Pin in progress (R36). -/
  pin : Option PinOp := none
  /-- Highest generation Live has held since the last cold boot or package reset (R30). -/
  highGen : Nat := 1
  /-- Generation the next commit assigns (R30, Table 2.14). -/
  nextGen : Nat := 2
  /-- Host-port personality in force since the last package reset, H0 and H1 (R34, R371). -/
  persona : List Nat := [0, 0]
  /-- Low halves of register writes held for their high half, by BAR0 offset, with the host port they came through, 2 for
  any other requester (R6, R367). -/
  halves : SMap (Nat × BitVec 32) := []
  /-- Pages whose BLK_CTRL.EN check or drain is under way, with the page state (R24). -/
  checks : SMap Bool := []
  /-- Blocks whose EN has been written 0 while LIVE, and that are not LIVE again: they take no new work (Table 2.3). -/
  stopped : List Nat := []
  /-- Pages under engine reset (R422). -/
  engineResets : List Nat := []
  /-- Pages that still run under a former generation, until a deferred setting of theirs takes effect (R32, R34). -/
  genHeld : SMap Nat := []
  deriving DecidableEq, Repr

/-! ### Strokes and the calendar clock (03) -/

/-- What the stroke unit holds behind its registers. -/
structure StrokeUnit where
  /-- Source in use: 0 internal, 1 STROKE_IN, 2 PTP (R46, R50). -/
  source : Nat := 0
  /-- Period in use, 10 ns units (R45). -/
  period : Nat := 100000
  /-- A committed change of source, period or PTP fields waits for the next boundary; true when it restarts the lock state (R45, R50). -/
  change : Option Bool := none
  /-- Value armed by STR_CMD.LOAD (R54). -/
  armed : Option Nat := none
  /-- EPOCH_S in use, PTP-timescale seconds (R50, R53). -/
  epoch : Nat := 0
  /-- Consecutive acceptable STROKE_IN edges (R47). -/
  chain : Nat := 0
  /-- UNLOCKED: offset of the chain's first edge from the unit's own boundary that followed it, ns (R47). -/
  anchor : Int := 0
  /-- UNLOCKED: own boundaries since the chain's first edge (R47). -/
  since : Nat := 0
  /-- UNLOCKED: whole periods from the chain's first edge to its last (R47). -/
  lastEdge : Nat := 0
  /-- Consecutive expected edges missing or unacceptable (R47). -/
  missed : Nat := 0
  /-- Consecutive boundaries with the phase error within ±20 ns (R47). -/
  inTol : Nat := 0
  /-- An accepted edge waits to drive the next boundary (R46, R47). -/
  edge : Bool := false
  /-- Outcomes of the last four expected windows, newest first (Table 3.5, IN_PRESENT). -/
  windows : List Bool := []
  /-- The unit has been disciplined at least once, so a last disciplined frequency exists (R50). -/
  disciplined : Bool := false
  /-- PTP slave state on the designated port (R47, R51). -/
  ptpSlave : Bool := false
  /-- PTP slave state on the alternate port (R47, R51). -/
  ptpSlaveAlt : Bool := false
  /-- Boundaries are withheld until PTP time reaches the stroke after the counter (R53). -/
  stretch : Bool := false
  /-- The counter is behind PTP time and steps forward at the next boundary (R53). -/
  stepDue : Bool := false
  deriving DecidableEq, Repr

/-- What the calendar clock holds behind its registers (R66 to R70). -/
structure Calendar where
  /-- Seconds (R66). -/
  secs : Nat := 0
  /-- Fraction in 2^-32 s (R66). -/
  frac : Nat := 0
  /-- Fraction latched by the last read of CC_TIME_S (R68). -/
  latched : Nat := 0
  /-- Fraction held by CC_TIME_F writes for the next CC_TIME_S write (R68). -/
  heldFrac : Nat := 0
  /-- Trim remainder in hundredths of a ppm of a fraction unit (R67). -/
  trimAcc : Int := 0
  /-- The clock runs from the package reference oscillator (R69). -/
  onOsc : Bool := false
  /-- The crystal is stopped. -/
  xtalStopped : Bool := false
  /-- Checks passed: the crystal has run 1 s with no missing tick, and the clock returns at the next tick (R70). -/
  returning : Bool := false
  deriving DecidableEq, Repr

/-! ### Rings and commands (04) -/

/-- A command ring (Table 4.3). -/
structure Ring where
  /-- PART_RING_BASE (R72). -/
  base : Word64 := 0
  /-- PART_RING_CFG, EN included (R72). -/
  cfg : Word64 := 0
  /-- PART_RING_CQ_BASE (R72). -/
  cqBase : Word64 := 0
  /-- PART_RING_CQ_CFG (R72). -/
  cqCfg : Word64 := 0
  /-- PART_RING_SAT (R72). -/
  sat : Word64 := 0
  /-- HEAD: commands fetched since enable, modulo 2^32 (R75). -/
  head : Nat := 0
  /-- TAIL: last tail accepted (R75). -/
  tail : Nat := 0
  /-- CQ_TAIL: records written since enable, modulo 2^32 (R90). -/
  cqTail : Nat := 0
  /-- CQ_HEAD: last completion head accepted (R75). -/
  cqHead : Nat := 0
  /-- STATE: 0 DISABLED, 1 RUNNING, 2 STOPPED, 3 DRAINING (R73). -/
  st : Nat := 0
  /-- FAULT: the code that stopped the ring (R75). -/
  fault : Nat := 0
  /-- Its port was lost since it was enabled: its records go to the completion log until it is enabled again (R368). -/
  lost : Bool := false
  deriving DecidableEq, Repr

/-- Where a command's signal goes (R80, R82). -/
inductive SigTarget where
  /-- No signal asked for. -/
  | none
  /-- The signal cannot be performed: its entry is invalid, unreadable or out of bounds, or SIG_OP is 3 (R80). -/
  | bad
  /-- A semaphore word of this package, by memory key (R82). -/
  | local (addr : Nat)
  /-- A semaphore word of package `node` (R82). -/
  | remote (node addr : Nat)
  deriving DecidableEq, Repr

/-- The 64 bytes of a command, field by field (Table 4.5). -/
structure Cmd where
  /-- OPCODE. -/
  op : Nat
  /-- SUBOP. -/
  sub : Nat
  /-- TAG. -/
  tag : Nat
  /-- FLAGS, 32 bits. -/
  flags : Nat
  /-- NOT_BEFORE, stroke N; 0 is none (R57). -/
  notBefore : Nat
  /-- DEADLINE, stroke M; 0 is none (R57). -/
  deadline : Nat
  /-- WAIT0_IDX. -/
  w0 : Nat
  /-- WAIT1_IDX. -/
  w1 : Nat
  /-- EXT_LEN. -/
  extLen : Nat
  /-- SIG_IDX. -/
  sigIdx : Nat
  /-- SIG_OP. -/
  sigOp : Nat
  /-- ARG. -/
  arg : Nat
  /-- WAIT0_VAL. -/
  w0Val : Nat
  /-- WAIT1_VAL. -/
  w1Val : Nat
  /-- SIG_VAL. -/
  sigVal : Nat
  /-- PAYLOAD. -/
  payload : Nat
  /-- Reserved bits 24[31:14] of the command. -/
  rsvd : Nat
  deriving DecidableEq, Repr

/-- How far a fetched command has come (R76, R80, R86). -/
inductive Phase where
  /-- Fetched and checked, not started: waits, not-before, fences or engine room are not yet met (R88). -/
  | waiting
  /-- Started, with work of its own still to come (a proposed SYNC barrier, a contributed POUNCE or gate, a collective, a parked edit). -/
  | started
  /-- Its work has ended; its signal and record are still to come (R86). -/
  | ended
  deriving DecidableEq, Repr

/-- A command fetched and not completed (R76, R87). -/
structure InFlight where
  /-- Ring number (R89). -/
  ring : Nat
  /-- Position in its ring, modulo 2^32 (R89, SEQ); for a command a tidy core issued, SEQ in the low 32 bits and the core above
  them, so that no two commands in flight of one ring have one position. -/
  seq : Nat
  /-- Order of fetching over the whole device, for FENCE (R81). -/
  order : Nat
  /-- Partition. -/
  part : Nat
  /-- Context of the partition (R71). -/
  ctx : Nat
  /-- Cluster command processor that fetched it, a physical cluster (R71). -/
  ccp : Nat
  /-- The command's fields (Table 4.5). -/
  cmd : Cmd
  /-- The extended descriptor as read at the check (R78, R80). -/
  ext : List Byte
  /-- Wait 0's semaphore, when active (R82). -/
  wait0 : Option Nat
  /-- Wait 1's semaphore, when active (R82). -/
  wait1 : Option Nat
  /-- Wait 0 has been met; once met it stays met (R83). -/
  met0 : Bool
  /-- Wait 1 has been met (R83). -/
  met1 : Bool
  /-- The signal's target (R82). -/
  sig : SigTarget
  /-- How far it has come. -/
  phase : Phase
  /-- Status, once ended (R86). -/
  status : Nat
  /-- GOOD_BYTES, or the old value for ATOMIC (R89). -/
  good : Nat
  /-- INFO bits other than those set at completion (Table 4.11 and the opcode's own). -/
  info : Nat
  /-- Host ports through which it wrote host memory (R85, R93). -/
  ports : List Nat
  /-- Host ports lost while it was in flight (R367). -/
  lostPorts : List Nat
  /-- Held in a context's save image (R406, R410). -/
  saved : Bool
  /-- It holds a walk epoch (R233); the epoch. -/
  epoch : Option Nat
  /-- Progress of a command that works in steps: opcode-specific numbers (R408, R409). -/
  prog : List Nat
  /-- Its port and Dwerdo command identifier, when the host-side cores built it (R372). -/
  dw : Option (Nat × Nat)
  /-- Issued from a tidy core's TC_ISSUE CSR (R181): its core. -/
  tc : Option Nat
  /-- Frames it sent over Brim that are not acknowledged (R85, R388). -/
  unacked : Nat
  /-- Its remote signal has been sent (R388). -/
  sigSent : Bool
  /-- Its place in the order in which commands started (R252, R400). -/
  startNo : Nat := 0
  deriving DecidableEq, Repr

/-! ### HBM (13) -/

/-- An entry of a channel's remap table (R322). -/
structure Remap where
  /-- Table index, 0 to 63. -/
  idx : Nat
  /-- Logical row. -/
  row : Nat
  /-- Spare row of the reserve. -/
  spare : Nat
  /-- Failure count, 1 or 2. -/
  count : Nat
  /-- The 1 KiB copy to the spare is under way, and access to the row waits (R322). -/
  copying : Bool
  deriving DecidableEq, Repr

/-- A memory channel behind its registers. -/
structure Chan where
  /-- Remap table (R322). -/
  remaps : List Remap := []
  /-- Spares retired (R323). -/
  sparesRetired : List Nat := []
  /-- Retired-row list (R323). -/
  rowsRetired : List Nat := []
  /-- The remap table as its NVM record holds it (R325). -/
  nvmRemaps : List Remap := []
  /-- The retired spares as their NVM record holds them (R325). -/
  nvmSpares : List Nat := []
  /-- The retired rows as their NVM record holds them (R325). -/
  nvmRows : List Nat := []
  /-- Times in µs of the re-read and resend events of the last millisecond (R317). -/
  events : List Nat := []
  /-- A write waits for the retrain it requested (R312). -/
  heldWrite : Bool := false
  /-- Commands, by ring and position, whose writes wait for a retrain (R312). -/
  heldCmds : List (Nat × Nat) := []
  /-- Stack temperature at the last recalibration or retrain, °C (R316). -/
  recalTemp : Int := 0
  /-- Recalibrating in the maintenance window (R316). -/
  inWindow : Bool := false
  /-- Step counters of the channel's Update Unit, by group; a group not listed counts 0 (R282). -/
  steps : List (Nat × Nat) := []
  deriving DecidableEq, Repr

/-- A 2 MiB frame, or a pair of the package set (R307, R324). -/
structure Frame where
  /-- GRAN: the granule is 2^GRAN bytes. -/
  gran : Nat
  /-- Run ordinal R. -/
  ord : Nat
  /-- ALLOC. -/
  alloc : Bool
  /-- 0 OK, 1 RETIRING, 2 RETIRED. -/
  st : Nat
  deriving DecidableEq, Repr

/-- A picture buffer of a codec session (Table 14.4), with its marks: bit 0 SHORT, 1 LONG, 2 OUT, 3 CURRENT (R334). -/
structure VcBuf where
  /-- Y_ADDR. -/
  y : Nat
  /-- C_ADDR. -/
  c : Nat
  /-- MV_ADDR. -/
  mv : Nat
  /-- DMG_ADDR. -/
  dmg : Nat
  /-- PITCH. -/
  pitch : Nat
  /-- MARK. -/
  mark : Nat
  deriving DecidableEq, Repr

/-- An open codec session (R332 to R334, R340, R343). -/
structure VcSlot where
  /-- 1 DECODE, 2 ENCODE. -/
  st : Nat
  /-- STD: 0 H.264, 1 HEVC, 2 AV1. -/
  std : Nat
  /-- TEN_BIT. -/
  ten : Bool
  /-- CLASS. -/
  cls : Nat
  /-- CTX_ADDR. -/
  ctxAddr : Nat
  /-- POOL_ADDR. -/
  pool : Nat
  /-- MAX_W. -/
  maxW : Nat
  /-- MAX_H. -/
  maxH : Nat
  /-- INTRA_PERIOD. -/
  intra : Nat
  /-- MINIGOP. -/
  minigop : Nat
  /-- LTR. -/
  ltr : Bool
  /-- QI. -/
  qi : Nat
  /-- MIN_QP. -/
  minQp : Nat
  /-- MAX_QP. -/
  maxQp : Nat
  /-- SLICE_CTU_ROWS. -/
  sliceRows : Nat
  /-- CAP_BITS. -/
  cap : Nat
  /-- WINDOW. -/
  window : Nat
  /-- The buffer table with its marks. -/
  bufs : List VcBuf
  /-- PICTURES, modulo 2^32. -/
  pictures : Nat := 0
  /-- What the standard's process carries from picture to picture, as a token of Config.video. -/
  hist : Nat := 0
  /-- Buffers in the order they were last decoded into, latest first (R338). -/
  recent : List Nat := []
  /-- Buffers awaiting output, in output order (R334, R337). -/
  awaiting : List Nat := []
  /-- Width and height of the last picture. -/
  size : Nat × Nat := (0, 0)
  /-- Pictures coded, for the coding order (R340). -/
  coded : Nat := 0
  /-- Reference pictures of an encode session: buffer and display index, anchors and middles (R340). -/
  refs : List (Nat × Nat) := []
  /-- Bits used in the window (R343). -/
  used : Nat := 0
  /-- Pictures done in the window. -/
  done : Nat := 0
  /-- Debt of the last window. -/
  debt : Nat := 0
  deriving DecidableEq, Repr

/-- A video codec engine behind its registers (14). -/
structure VcEngine where
  /-- Open sessions by slot (R332). -/
  slots : List (Nat × VcSlot) := []
  /-- Picture commands by ring position, in the order they started: the first is in progress (R330). -/
  queue : List (Nat × Nat) := []
  deriving DecidableEq, Repr

/-- A stack behind its registers (R313, R314). -/
structure Stack where
  /-- Samples, 100 µs each, for which the temperature has stayed 3 °C below the threshold of the step in force (R313). -/
  coolTicks : Nat := 0
  /-- Margining point under way: channel, axis, offset (R326). -/
  margin : Bool := false
  deriving DecidableEq, Repr

/-! ### Contexts and partitions (17, 18, 19) -/

/-- The states of a context (Table 17.2). -/
inductive CtxSt where | empty | ready | resident | saving | restoring | suspended | aborted
  deriving DecidableEq, Repr

/-- A tidy core behind the CORE page: an RV64IMAFC hart in machine mode and its custom CSRs (R180, R181). -/
structure Tc where
  /-- Program counter. -/
  pc : Word64 := 0
  /-- Registers x1 to x31; x0 reads as 0. -/
  x : List Word64 := List.replicate 31 0
  /-- Registers f0 to f31. -/
  f : List Word64 := List.replicate 32 0
  /-- fcsr: flags in [4:0], rounding mode in [7:5]. -/
  fcsr : Nat := 0
  /-- mstatus; MPP reads machine mode (log 35). -/
  mstatus : Word64 := 0x1800
  /-- mie. -/
  mie : Word64 := 0
  /-- mtvec. -/
  mtvec : Word64 := 0
  /-- mscratch. -/
  mscratch : Word64 := 0
  /-- mepc. -/
  mepc : Word64 := 0
  /-- mcause. -/
  mcause : Word64 := 0
  /-- mtval. -/
  mtval : Word64 := 0
  /-- mcycle. -/
  mcycle : Word64 := 0
  /-- minstret. -/
  minstret : Word64 := 0
  /-- TC_IE. -/
  ie : Nat := 0
  /-- TC_IP. -/
  ip : Nat := 0
  /-- TC_ISSUE_RING. -/
  issueRing : Nat := 0
  /-- TC_WDOG: period in units of 1,024 cycles; 0 disables (R183). -/
  wdog : Nat := 0
  /-- The watchdog has expired once with no write to TC_WDOG since (R183). -/
  warned : Bool := false
  /-- Issue queue, oldest first: the ring named as each command was issued, and its 64 bytes (R181). -/
  queue : List (Nat × List Byte) := []
  /-- Commands issued so far (TC_ISSUE_STAT). -/
  issued : Nat := 0
  /-- Generations of the 16 summary slots (R173). -/
  gens : List Nat := List.replicate 16 0
  /-- LDM reservation of LR (R180). -/
  resv : Option Nat := none
  deriving DecidableEq, Repr

/-- The save image of a context: what a save copies out and a restore copies back (R407 to R410). -/
structure Image where
  /-- Save sequence number of the header (Table 17.4). -/
  seq : Nat
  /-- Bytes of SP, AM, LDM, VE staging and kept CM by memory key of the LOGICAL unit (R408, R409). -/
  cells : List (Nat × Byte)
  /-- Sticky flags and summary slots per logical core and register offset (R408). -/
  regs : List (Nat × Word64)
  /-- Tidy cores by logical core (R408). -/
  tcs : List (Nat × Tc)
  /-- The save areas: device address and length (R407). -/
  areas : List (Nat × Nat)
  /-- The frames in the save areas, window images apart: device address and length (R407). -/
  spans : List (Nat × Nat)
  /-- The known bytes of the frames as written, by memory key: what the CRC check of a restore compares (R408, R411). -/
  frames : List (Nat × Byte)
  /-- Logical cores and clusters the image holds (R419). -/
  cores : Nat
  clusters : Nat
  /-- PART_CTX_CFG.CM_KEEP at the save (R409). -/
  keep : Nat
  deriving DecidableEq, Repr

/-- An inbound window of a context while it exists (R412 to R414). -/
structure Window where
  /-- Device address. -/
  base : Nat
  /-- Length in bytes. -/
  len : Nat
  /-- PARK. -/
  park : Bool
  /-- The address in the image to which frames are redirected while parked (R414). -/
  redirect : Option Nat
  deriving DecidableEq, Repr

/-- A context of a partition (R401 to R414, R448). -/
structure Ctx where
  /-- PART_CTX_CFG; reset QUANTUM 1, PREEMPT_DL 1,000 (Table 17.8). -/
  cfg : Word64 := 0x3E800000002
  /-- PART_CTX_SAVE. -/
  save : Word64 := 0
  /-- PART_CTX_WIN. -/
  win : Word64 := 0
  /-- PART_CTX_BIND. -/
  bind : Word64 := 0
  /-- STATE. -/
  st : CtxSt := .empty
  /-- SUSPEND_PENDING. -/
  suspendPending : Bool := false
  /-- An ABORT came while the context was SAVING: it acts when the save ends (R403). -/
  abortPending : Bool := false
  /-- LAST_CODE. -/
  lastCode : Nat := 0
  /-- Slip offset (R57). -/
  slip : Nat := 0
  /-- LAST_SAVE_NS. -/
  saveNs : Nat := 0
  /-- LAST_RESTORE_NS. -/
  restoreNs : Nat := 0
  /-- SWITCHES. -/
  switches : Nat := 0
  /-- ABORTS. -/
  aborts : Nat := 0
  /-- PART_WDOG.LIMIT (R448). -/
  wdLimit : Nat := 1000
  /-- PART_WDOG.COUNT (R448). -/
  wdCount : Nat := 0
  /-- A command of the context started, progressed or completed in this stroke (R448). -/
  progress : Bool := false
  /-- RESIDENT throughout the stroke so far (R448). -/
  wholeStroke : Bool := false
  /-- Whole strokes RESIDENT, counted from the boundary after its restore completed (R404). -/
  residentStrokes : Nat := 0
  /-- The drain has ended and the save is being written (R410). -/
  drained : Bool := false
  /-- The save image, if one is held (R402, R410). -/
  image : Option Image := none
  /-- Inbound windows (R413). -/
  windows : List Window := []
  /-- Save areas found when the context was enabled, as base and length (R407). -/
  areas : List (Nat × Nat) := []
  /-- Resident Model Table indices bound, each holding a pin (R418). -/
  binds : List Nat := []
  deriving DecidableEq, Repr

/-- A MODEL_LOAD whose response is still to come (R365). -/
structure RtLoad where
  /-- TAG of the request. -/
  tag : Nat
  /-- Resident Model Table index taken. -/
  idx : Nat
  /-- PIN: one pin at load. -/
  pin : Bool
  deriving DecidableEq, Repr

/-- A partition's scheduler and power state (R404, R428). -/
structure Part where
  /-- SWITCH_TO target (R403). -/
  switchTo : Option Nat := none
  /-- The last resident context, after which the next is looked for (R404). -/
  last : Nat := 15
  /-- The next restore is due as soon as the save in progress ends (R404). -/
  restoreDue : Bool := false
  /-- A doorbell or CM frame arrived during Deep nap entry (Table 18.3). -/
  wakeDue : Bool := false
  /-- A partition reset is under way (R423): the pages' writes are ignored. -/
  resetting : Bool := false
  /-- HOST_FREE was 16 or more at the last boundary (R240). -/
  hostAbove : Bool := false
  /-- BELOW_STROKES as it stands has been acted on (R240). -/
  parkTaken : Bool := false
  /-- PART_RWT_W1 as held for the next commit, with the host port it came through, 2 for other requesters (R357, R367). -/
  rwtW1 : Option (Nat × Word64) := none
  /-- PART_RWT_W2 as held for the next commit (R357, R367). -/
  rwtW2 : Option (Nat × Word64) := none
  /-- Request tail last written to PART_RT_DB (R364). -/
  rtTail : Nat := 0
  /-- Model loads under way, oldest first (R365). -/
  rtLoads : List RtLoad := []
  /-- Spill policy of TIER_POLICY (Table 15.12). -/
  rtSpill : Nat := 0
  /-- Park policy of TIER_POLICY (Table 15.12). -/
  rtPark : Bool := false
  /-- A partition reset waits for the Shape operation in progress (R423 step 1). -/
  resetDue : Bool := false
  /-- A partition-fatal error has stopped the partition: nothing is fetched for it until a partition reset (R440). -/
  fatal : Bool := false
  deriving DecidableEq, Repr

/-- Power and supply controller (R435, R437, 21). -/
structure Power where
  /-- Input power samples of the last second, newest first, W (R435). -/
  samples : List Nat := []
  /-- µs of continuous time above SUSTAIN (R435). -/
  aboveUs : Nat := 0
  /-- µs of continuous time above 18.0 kW (R15). -/
  overUs : Nat := 0
  /-- µs since the last step (R435). -/
  sinceStep : Nat := 0
  /-- µs for which power and mean have stayed below 0.97 SUSTAIN (R435). -/
  belowUs : Nat := 0
  /-- µs for which power has stayed above SUSTAIN at FLOOR_STEP (R435). -/
  floorUs : Nat := 0
  /-- Thermal floor (R437). -/
  thermalFloor : Nat := 0
  /-- Issue is gated in alternate cycles (R435, R437). -/
  gated : Bool := false
  /-- Deepest step in the stroke so far (R436). -/
  maxStep : Nat := 0
  /-- Cycles lost in the stroke so far (R436). -/
  lost : Nat := 0
  /-- ACLK stopped on every C-die by a thermal trip (R437). -/
  tripped : Bool := false
  /-- Clusters in Nap (R427). -/
  napping : List Nat := []
  /-- A package reset is under way: retained (R424). -/
  pkgReset : Option Bool := none
  /-- The interleave sets as they stood when a retained package reset began: set, PKG_MIB and channels (R306, R321). -/
  formed : List (Nat × Nat × List Nat) := []
  /-- A retained CRN_RESET.PKG waits for its saves (R424 step 1); the cause code. -/
  pkgDue : Option Nat := none
  /-- Block-hold entry wanted: saves are under way (R429); true when the D0 of a PF ends it as soon as entered. -/
  holdDue : Option Bool := none
  /-- No link-up has happened since cold power-on or an unretained package reset (R370). -/
  fresh : Bool := true
  /-- PFs in D3hot (R430). -/
  d3 : List Nat := []
  /-- Block-hold was entered by D3hot, so D0 leaves it with no claim (R430). -/
  holdByD3 : Bool := false
  /-- The sides of the supplies: V48 present, V12SB present (R475). -/
  v48 : Bool := true
  v12sb : Bool := true
  /-- V48 outside its operating range (R473). -/
  v48Alert : Bool := false
  /-- The conversion's soft-start: 0 off, 1 under way, 2 done (R477). -/
  softStart : Nat := 2
  /-- A cold power-on waits on the soft-start (R477). -/
  coldDue : Bool := false
  /-- The cold power-on sequence is under way (R458). -/
  booting : Bool := false
  /-- Main power has been lost; nothing but the always-on island runs. -/
  mainLost : Bool := false
  /-- A package reset held by RESET_N low (R425). -/
  held : Bool := false
  deriving DecidableEq, Repr

/-- A corrected-error window of one second (R443). -/
structure Coalesce where
  /-- SOURCE of the errors. -/
  source : Nat
  /-- CODE of the errors. -/
  code : Nat
  /-- Errors counted after the first. -/
  count : Nat
  /-- DETAIL0 and DETAIL1 of the last of them. -/
  d0 : Nat
  d1 : Nat
  deriving DecidableEq, Repr

/-- One error record before its bytes are laid out (Table 19.3). -/
structure ErrInfo where
  /-- SOURCE: page class and instance. -/
  source : Nat
  /-- CLASS: 0 corrected, 1 contained, 2 partition-fatal, 3 device-fatal. -/
  cls : Nat
  /-- CODE. -/
  code : Nat
  /-- PARTITION, when valid. -/
  part : Option Nat := none
  /-- CONTEXT, when valid. -/
  ctx : Option Nat := none
  /-- DETAIL0. -/
  d0 : Nat := 0
  /-- DETAIL1. -/
  d1 : Nat := 0
  /-- RING and TAG of the affected command, when valid. -/
  cmd : Option (Nat × Nat) := none
  /-- UNIT_FAILED. -/
  unitFailed : Bool := false
  /-- Further partitions whose command or state the error affected (R440). -/
  also : List Nat := []
  deriving DecidableEq, Repr

/-- The Crowns' error ring and fatal log (R442 to R445). -/
structure ErrRing where
  /-- Records by ring index, as their 64 bytes (R442). -/
  recs : SMap (List Byte) := []
  /-- SEQ of the last record (R442). -/
  seq : Nat := 0
  /-- Unread records, 0 to 4,096: tells a full ring from an empty one (R444, log 12). -/
  unread : Nat := 0
  /-- Unread ring indices whose record asserted ALERT_N (R489). -/
  alerts : List Nat := []
  /-- Open coalescing windows (R443). -/
  windows : List Coalesce := []
  /-- Fatal log of the NVM, newest first, at most 256 (R445). -/
  fatal : List (List Byte) := []
  /-- NVM record writes under way, oldest first: 1 a remap or retired-row record of a channel, 2 the known-bad record,
  3 a fatal-log record at an error-ring index; with the channel or index (R325, R445, R454). -/
  nvmQueue : List (Nat × Nat) := []
  /-- Uncorrectable SRAM errors: unit kind, unit, stroke (R446). -/
  sramErrs : List (Nat × Nat × Nat) := []
  /-- A device-fatal error has stopped the package: nothing is fetched until a package reset (R440). -/
  down : Bool := false
  deriving DecidableEq, Repr

/-- A KV page move under way (R245): from the copy's start to its commit. -/
structure KvMove where
  /-- Partition. -/
  part : Nat
  /-- Ring and position of the tier command that moves the page; none for an attention lookahead (R242). -/
  cmd : Option (Nat × Nat)
  /-- Device address of the entry that names the page. -/
  entry : Nat
  /-- The entry as read in step 1. -/
  e0 : Nat
  /-- Slot-table index of the source run (R231). -/
  src : Nat
  /-- Slot-table index of the run taken in the other tier. -/
  dst : Nat
  /-- From the pool to the host tier. -/
  toHost : Bool
  deriving DecidableEq, Repr

/-- A firmware slot of the NVM (R456, Tables 20.1 and 20.2): what its record says, and whether it verifies (R455). -/
structure FwSlot where
  /-- MAGIC, LENGTH, CRC and signature are sound (R455). -/
  valid : Bool
  /-- Security version of the record (Table 20.2). -/
  svn : Nat
  /-- Record sequence number (Table 20.2). -/
  seq : Nat
  /-- Body of the record; what the measurements digest (Table 20.5). -/
  body : List Byte
  deriving DecidableEq, Repr

/-- What the Crowns hold behind the SEC page (20). -/
structure Sec where
  /-- Stage-one slots A and B (R456). -/
  stage : List FwSlot := [⟨true, 0, 1, []⟩, ⟨true, 0, 0, []⟩]
  /-- Bundle slots A and B (R456). -/
  bundle : List FwSlot := [⟨true, 0, 1, []⟩, ⟨true, 0, 0, []⟩]
  /-- Stage-one slot that runs (Table 20.6). -/
  runStage : Nat := 0
  /-- Bundle slot that runs (Table 20.6). -/
  runBundle : Nat := 0
  /-- The 16 anti-rollback counters (R459). -/
  counters : List Nat := List.replicate 16 0
  /-- A counter write is in progress (R460). -/
  svnBusy : Bool := false
  /-- The boot stopped in recovery (R456, R459). -/
  recovery : Bool := false
  /-- Lead Crown (R453). -/
  lead : Nat := 0
  /-- Device keys present, Crown 0 and Crown 1 (R462). -/
  keys : List Bool := [true, true]
  /-- notBefore of the Alias certificates, in seconds of the calendar; 0 stands for 1970-01-01 (R465). -/
  aliasFrom : Nat := 0
  /-- Device keys are withheld until the next power cycle (R467). -/
  withheld : Bool := false
  /-- The debug challenge in force (R466). -/
  challenge : Option (List Byte) := none
  /-- SPDM negotiation, by way of request (0 and 1 the DOE mailboxes of H0 and H1, 2 MCTP): 0 none, 1 version, 2 capabilities,
  3 algorithms (R464). -/
  spdm : SMap Nat := []
  /-- The two copies of the running slots' counters failed authentication at boot (R459). -/
  countersOk : Bool := true
  deriving DecidableEq, Repr

/-- A Dwerdo queue pair behind its registers (R372). -/
structure DwQueue where
  /-- Submission tail last accepted, modulo the queue's size (R372). -/
  tail : Nat := 0
  /-- Completion head last accepted, modulo the queue's size (R372). -/
  cqHead : Nat := 0
  /-- Commands taken since EN (R372). -/
  taken : Nat := 0
  /-- Completion entries written since EN: their PHASE (R372). -/
  written : Nat := 0
  deriving DecidableEq, Repr

/-- An entry of the Region Window Table (R356, Table 15.3). -/
structure RwtEntry where
  /-- VALID. -/
  valid : Bool
  /-- R: reads permitted. -/
  r : Bool
  /-- W: writes permitted. -/
  w : Bool
  /-- DEV_BASE: device address of the window. -/
  base : Nat
  /-- LIMIT in 4 KiB units. -/
  limit : Nat
  /-- KEY of placement confirms. -/
  key : Nat
  /-- Owning partition. -/
  part : Nat
  /-- PEER_RID. -/
  rid : Nat
  /-- SEM_ADDR. -/
  sem : Nat
  deriving DecidableEq, Repr

/-- A host port behind its registers (15). -/
structure HostPort where
  /-- Completion log entries by index modulo 65,536, 64 bytes each (R368). -/
  clog : SMap (List Byte) := []
  /-- Unread log entries, 0 to 65,536 (R368). -/
  clogUnread : Nat := 0
  /-- Copies of records written through the port that no completed flushing read covers yet, oldest first, with their
  original status (R368). -/
  uncovered : List (List Byte) := []
  /-- The Dwerdo queue pair of the port (R372). -/
  dw : DwQueue := {}
  /-- Milliseconds, as the claims' events carry them, of the last claim taken (R370). -/
  lastClaim : Option Nat := none
  /-- Stroke counter at the port's last host loss (R368, Table 15.6). -/
  lossStroke : Nat := 0
  deriving DecidableEq, Repr

/-- How a Brim frame is framed (R383). -/
inductive BrimEncap where
  /-- An untagged Ethernet frame with EtherType 0x88B5 from the port's own MAC address to the partner port's. -/
  | native (own mac : Nat)
  /-- UDP over IPv6 or IPv4: own and next-hop MAC, own and destination address, source and destination port, DSCP. -/
  | udp (v6 : Bool) (own mac ownIp ip srcPort dstPort dscp : Nat)
  deriving DecidableEq, Repr

/-- A connection: one local port and one peer node (R384, R385). -/
structure BrimConn where
  /-- Local port. -/
  port : Nat
  /-- Peer node. -/
  peer : Nat
  /-- SEQ of the next frame sent. -/
  txNext : Nat := 0
  /-- Frames sent and not acknowledged, oldest first, each with the command that waits for it. -/
  unacked : List (BrimFrame × Option (Nat × Nat)) := []
  /-- Frames that wait for credit, oldest first. -/
  waiting : List (BrimFrame × Option (Nat × Nat)) := []
  /-- Credits granted by the receiver, 4 KiB each. -/
  credits : Nat := 16
  /-- SEQ expected next. -/
  rxNext : Nat := 0
  /-- Credits to return with the next frame. -/
  owed : Nat := 0
  /-- Consecutive timeouts with no advance of ACK. -/
  timeouts : Nat := 0
  /-- The connection has failed (R385). -/
  failed : Bool := false
  deriving DecidableEq, Repr

/-- Data of one rank of a collective as received: rank, non-finite count, byte offset within the part, bytes (R389, R392). -/
structure CollPart where
  rank : Nat
  nonfinite : Nat
  off : Nat
  data : List Byte
  deriving DecidableEq, Repr

/-- What the staging area holds of a collective (R389 to R391): its JOB, EPOCH and COLL_ID, the digest first seen, this
package's command once started, and the data arrived. -/
structure Coll where
  job : Nat
  epoch : Nat
  id : Nat
  /-- What the participants agree on (R390); none once they have been found to disagree. -/
  digest : List Nat
  cmd : Option (Nat × Nat)
  parts : List CollPart
  deriving DecidableEq, Repr

/-- A contribution to a group: the package it came from, its command when of this package, how many contributions it combines,
and its values. -/
structure Contribution where
  node : Nat
  cmd : Option (Nat × Nat)
  count : Nat
  vals : List Nat
  deriving DecidableEq, Repr

/-- A group of the cluster reduction units, of the mesh or of the vote path (R113, R284, R62, R392, R488): its key (kind first),
its parameters, the contributions it needs (0 when not yet known), those it has, and whether it has closed. -/
structure Group where
  key : List Nat
  params : List Nat
  need : Nat
  got : List Contribution
  closed : Bool
  deriving DecidableEq, Repr

/-- The Brim ports, connections and membership behind their registers (16). -/
structure Brim where
  /-- Bitmap of the current epoch: bit n for node n (R379). -/
  members : Nat := 0
  /-- The pending announcement: epoch, effective stroke, bitmap (R380). -/
  pend : Option (Nat × Nat × Nat) := none
  /-- Connections (R384). -/
  conns : List BrimConn := []
  /-- Stored LLDPDUs by port (R377). -/
  lldp : SMap Lldpdu := []
  /-- MAC address of the partner's port, by port (R378). -/
  mac : SMap Nat := []
  /-- Ports that have left MEMBER other than through DRAINING, and are not MEMBER again (R394). -/
  dropped : List Nat := []
  /-- Nodes lost and not yet dropped by an epoch (R394). -/
  lost : List Nat := []
  /-- Frames of a newer epoch held in staging: the port they came through and the frame (R386). -/
  held : List (Nat × BrimFrame) := []
  /-- Collectives in flight or heard of (R389). -/
  colls : List Coll := []
  /-- Groups formed or forming here (R113, R392). -/
  groups : List Group := []
  /-- Commands of this package that have joined a group: its key, ring and position (R113). -/
  joined : List (List Nat × Nat × Nat) := []
  deriving DecidableEq, Repr

/-- Output pins of the package (R56, R437, R471 to R477, R489). -/
structure Pins where
  /-- STROKE_OUT pair high (R56). -/
  strokeOut : Bool := false
  /-- ALERT_N asserted by a record not yet passed (R489) or by V48 (R473). -/
  alert : Bool := false
  /-- THERMTRIP_N asserted (R437). -/
  thermtrip : Bool := false
  /-- PWR_GOOD input high (R475). -/
  pwrGood : Bool := true
  /-- RESET_N input low (R425). -/
  resetLow : Bool := false
  deriving DecidableEq, Repr

/-- An answer of a Crown's SPDM responder (R464, R465). -/
inductive SpdmAnswer where
  /-- VERSION: SPDM 1.2. -/
  | version
  /-- CAPABILITIES: CERT_CAP, CHAL_CAP and MEAS_CAP with signatures; the largest message, in bytes. -/
  | capabilities (largest : Nat)
  /-- ALGORITHMS: ECDSA P-256, SHA-256, DMTF measurements. -/
  | algorithms
  /-- DIGESTS: the digest of the slot-0 chain. -/
  | digests (d : BitVec 256)
  /-- CERTIFICATE: a portion of the slot-0 chain of a Crown, from a byte offset. -/
  | certificate (off : Nat) (data : List Byte)
  /-- CHALLENGE_AUTH, signed with the Alias key. -/
  | challengeAuth (chain : BitVec 256) (signature : BitVec 512)
  /-- MEASUREMENTS: blocks by index, each a digest or raw bytes, and the signature if asked for. -/
  | measurements (blocks : List (Nat × List Byte)) (signature : Option (BitVec 512))
  /-- ERROR UnsupportedRequest. -/
  | unsupported
  /-- ERROR Unspecified: no device key to sign with (R462). -/
  | unspecified
  /-- ERROR UnexpectedRequest: the request comes before those it follows (log 36). -/
  | unexpected
  /-- ERROR InvalidRequest: an index or a certificate offset that does not exist (log 36). -/
  | invalid
  deriving DecidableEq, Repr

/-- What the device has sent out, newest first. -/
inductive Out where
  /-- A block page's interrupt: page, status bit, and the functions whose vector 0 takes the MSI-X message, as host port and function
  number (R23, R354). -/
  | blockIrq (page bit : Nat) (fns : List (Nat × Nat))
  /-- An MSI-X message: port, function (0 the PF, else the VF), vector (R354, R486). -/
  | msix (port fn vector : Nat)
  /-- A PLDM event over MCTP on I3C: kind and value (R444, R473). -/
  | pldm (kind value : Nat)
  /-- Bytes returned by a read or a management response. -/
  | data (bytes : List Byte)
  /-- A read answered with Completer Abort (R356). -/
  | completerAbort
  /-- A frame sent on a Brim port. -/
  | frame (port : Nat) (e : BrimEncap) (f : BrimFrame)
  /-- A PTP message sent on a Brim port (R51). -/
  | ptp (port kind : Nat)
  /-- An ATS Invalidate Completion of a port: address and length (R355). -/
  | atsComplete (port addr len : Nat)
  /-- An LLDPDU sent on a Brim port (R377). -/
  | lldp (port : Nat) (du : Lldpdu)
  /-- An SPDM response: the way the request came and the answer (R464). -/
  | spdm (via : Nat) (a : SpdmAnswer)
  /-- A PLDM response: input power, hottest junction, the trim map, the fatal log and CRN_SERVICE (R449). -/
  | pldmReport (power junction : Nat) (trim : List (Nat × Nat)) (fatal : List (List Byte)) (service : Word64)
  deriving DecidableEq, Repr

/-- Why a step can stop with a fault: the device has no such stop, since every refusal and every runtime fault of the spec
is a code recorded in a NEXT state; no constructor, nobody raises one (safe). -/
inductive Fault where
  deriving DecidableEq, Repr

/-- Why a step can be refused. -/
inductive Refusal where
  /-- Raised by `exec` for a command that has no meaning yet (safe: the machine stops). -/
  | notModelled (mnemonic : String)
  deriving DecidableEq, Repr

/-- The state of the device. -/
structure State where
  /-- Register words other than SH ones, by BAR0 offset; an unlisted one holds its reset value (R18, R22). -/
  regs : SMap Word64 := []
  /-- Shape control (R27 to R37). -/
  shape : ShapeUnit := {}
  /-- Stroke unit (R43 to R56). -/
  stroke : StrokeUnit := {}
  /-- Calendar clock (R66 to R70). -/
  cal : Calendar := {}
  /-- Rings by package-wide number (R71). -/
  rings : SMap Ring := []
  /-- Commands fetched and not completed, oldest first (R87). -/
  cmds : List InFlight := []
  /-- Fetches made so far: the order number of the next one (R81). -/
  fetches : Nat := 0
  /-- Last ring served by each command processor (R87). -/
  rrLast : SMap Nat := []
  /-- Command starts made so far: the place of the next one in that order (R252, R400). -/
  starts : Nat := 0
  /-- The start number of the command that took the last chunk on each Fuller (R252). -/
  fulLast : SMap Nat := []
  /-- Contexts by partition × 16 + context (R401). -/
  ctxs : SMap Ctx := []
  /-- Partitions' schedulers (R404). -/
  parts : SMap Part := []
  /-- Channels behind their registers (13). -/
  chans : SMap Chan := []
  /-- Stacks behind their registers (13). -/
  stks : SMap Stack := []
  /-- Codec engines behind their registers (14). -/
  vcs : SMap VcEngine := []
  /-- KV page moves under way, oldest first (R245). -/
  kvMoves : List KvMove := []
  /-- Runs in LIMBO: partition, slot-table index of the first slot, tag (R236). -/
  kvLimbo : List (Nat × Nat × Nat) := []
  /-- Table heads the device has read: partition and device address (R244, log 19). -/
  kvParked : List (Nat × Nat) := []
  /-- Frames by set × 2^24 + frame; an unlisted one has the defaults of R307. -/
  frames : SMap Frame := []
  /-- Trimmed units: kind and physical index (R446). -/
  trim : List (Nat × Nat) := []
  /-- Channels that a partition reset put into the trim map and that the package set is built over until the next package reset (R321). -/
  pkgOuts : List Nat := []
  /-- Units failed in service that await the trim map (R446). -/
  failed : List (Nat × Nat) := []
  /-- Known-bad record in force (R319, R446). -/
  knownBad : List (Nat × Nat) := []
  /-- Known-bad record as the NVM holds it (R325, R446). -/
  nvmKnownBad : List (Nat × Nat) := []
  /-- Recalibrations started in the present maintenance window, by C-die (R316). -/
  recalWindow : SMap Nat := []
  /-- Power and supplies (18, 21). -/
  pwr : Power := {}
  /-- Error ring and fatal log (19). -/
  errs : ErrRing := {}
  /-- Device memory, physical keys, strictly rising addresses; an unlisted byte is not known (log 2). -/
  mem : List Host.Cell := []
  /-- Address ranges whose contents were lost, newest first: base, length (Table 18.4, code L). -/
  lost : List (Nat × Nat) := []
  /-- Every HBM byte was written with zeros when `lost` had this length (R467). -/
  zeroed : Option Nat := none
  /-- Memory keys whose byte fails parity or ECC uncorrectably until written (R311, R322, R144). -/
  bad : List Nat := []
  /-- Memory keys of SP and AM words with a single-bit error that the next read of them corrects (R144). -/
  weak : List Nat := []
  /-- Host memory as the ports reach it, by port × 2^64 + host I/O address, strictly rising. -/
  host : List Host.Cell := []
  /-- Host address ranges that answer an access with a failure, as the host has set them: port, base, length and the code
  a command stops with, 0x0C04 or 0x0C06 (R355). -/
  hostFaults : List (Nat × Nat × Nat × Nat) := []
  /-- Crowns: firmware, keys, counters and debug (20). -/
  sec : Sec := {}
  /-- Host ports. -/
  hps : SMap HostPort := []
  /-- The Region Window Table by entry; an unlisted one is not VALID (R356). -/
  rwt : SMap RwtEntry := []
  /-- Brim ports, connections and membership (16). -/
  brim : Brim := {}
  /-- Tidy cores by physical core (R180). -/
  tcs : SMap Tc := []
  /-- Pins. -/
  pins : Pins := {}
  /-- What the device has sent out, newest first (the model's own record of its outputs). -/
  out : List Out := []
  /-- Free values drawn so far: the index of the next one (the model's own field, log 3). -/
  draws : Nat := 0
  /-- Commands waiting, first in, first out (the model's queue). -/
  pending : List Instr := []
  deriving DecidableEq, Repr

/-! ### Reset: a package that has completed its first cold power-on with no pinned Shape (R37, R422, R458, log 5) -/

/-- The words of the factory default Shape with no unit trimmed (R37), register by register: CRN_PWR_CFG, STR_CFG, STR_OUT,
HP_CFG and HP_PF_PARTS of both ports, BRM_CFG of every Brim port, and PART_DEF, PART_STACKS, PART_CLUSTERS0, PART_CLUSTERS1,
PART_PORTS, PART_CODECS, PART_RING_ALLOC and PART_RWT_ALLOC of partition 0. -/
def State.resetWords : SMap Word64 :=
  [(0x108, 0xA0C07D00708), (0x2000100, 0x186A000000000), (0x2000118, 1),
   (0xD000100, 0xC), (0xD001100, 0xC), (0xD000108, 1), (0xD001108, 1),
   (0xE000100, 0x221), (0xE000108, 0xFFFFFFFF), (0xE000110, 0xFFFFFFFFFFFFFFFF), (0xE000118, 0xFFFFFFFFFFFFFFFF),
   (0xE000120, 0xFFFFFFFFFFFFFFFF), (0xE000128, 0xFFFF), (0xE000800, 0x40000000), (0xE000A00, 0x80000000)] ++
  (List.range 64).map (fun i => (0xC000100 + i * 0x1000, 0x88B800805000))

/-- The registers whose value after boot is not their Reset column's: SHP_STATUS.DEFAULT_APPLIED, SHP_GEN_LP.LIVE = 1,
SHP_GEN_PP.PENDING = 2, STR_STATUS.LOCK = LOCKED on the internal source (R46), CRN_SERVICE.MIN_MET, SEC_STATUS.KEY_OK0 and
KEY_OK1 with CERT_TIME unchecked, and every stack ACTIVE (log 5). -/
def State.resetRegs : SMap Word64 :=
  [(0x1000108, 0x10), (0x1000118, 1), (0x1000120, 2), (0x2000140, 0x27100002), (0x1A8, 1), (0xF000100, 0x2C)] ++
  (List.range 32).map (fun i => (0x9000108 + i * 0x1000, 1))

/-- The state right after reset (R37, R422, R458): the factory default Shape Live with generation 1, the host ports accepting
configuration requests, the links down, nothing in memory, every other register at its Reset column (log 5). -/
def State.reset : State :=
  { regs := State.resetRegs
    shape := { pend := { gen := 2, words := State.resetWords }, live := { gen := 1, words := State.resetWords } } }

end Sys2Proof.Machine
end

