-- ==== Sys2Proof/Machine/Ops.lean ====
section
/-!
DEFINITION. The named operations over registers, Shape banks, memory, partitions and addresses that every meaning uses.
-/
namespace Sys2Proof.Machine

open Sys2Proof

/-! ### Pages and registers (R18 to R23) -/

/-- BAR0 offset of the page of instance `i` of class `c` (R18). -/
def page (c i : Nat) : Nat := c * 2 ^ 24 + i * 2 ^ 12

/-- Class of a BAR0 offset (R18). -/
def pgClass (off : Nat) : Nat := off / 2 ^ 24 % 16

/-- Instance of a BAR0 offset (R18). -/
def pgInst (off : Nat) : Nat := off / 2 ^ 12 % 2 ^ 12

/-- Offset within the page (R18). -/
def pgOff (off : Nat) : Nat := off % 2 ^ 12

/-- The page of a BAR0 offset. -/
def pgBase (off : Nat) : Nat := page (pgClass off) (pgInst off)

/-- Instances of each page class (Table 2.1). -/
def instances : Nat → Nat
  | 0 => 2 | 1 => 1 | 2 => 1 | 3 => 1 | 4 => 4 | 5 => 16 | 6 => 128 | 7 => 1024 | 8 => 1024 | 9 => 32
  | 10 => 16 | 11 => 16 | 12 => 64 | 13 => 2 | 14 => 64 | 15 => 1 | _ => 0

/-- The page exists (R19). -/
def pagePresent (off : Nat) : Bool := decide (off < 2 ^ 28) && decide (pgInst off < instances (pgClass off))

/-- Every present page, in increasing BAR0 offset. -/
def allPages : List Nat :=
  (List.range 16).flatMap (fun c => (List.range (instances c)).map (fun i => page c i))

/-- The pages of a class with one shared set of block-specific registers: both CRN pages reach one set (R438, R452), so
registers of CRN 1 from 0x100 up are those of CRN 0. -/
def regKey (pg off : Nat) : Nat :=
  if pgClass pg = 0 ∧ 0x100 ≤ off then off else pg + off

/-- Reset word of a register: the Reset column (R7). -/
def resetWord (key : Nat) : Word64 :=
  match regRow? (pgClass key) (pgOff key) with
  | none => 0
  | some r => r.fields.foldl (fun v f => setBits v f.hi f.lo f.rst) 0

/-- The word of a register held in the register file (R4). -/
def State.reg (s : State) (key : Nat) : Word64 := (SMap.get? s.regs key).getD (resetWord key)

/-- Set the word of a register of the register file. -/
def State.setReg (s : State) (key : Nat) (v : Word64) : State := { s with regs := SMap.put s.regs key v }

/-- A field of a register of the register file. -/
def State.fld (s : State) (pg : Nat) (f : Fld) : Nat := getBits (s.reg (regKey pg f.off)) f.hi f.lo

/-- Set a field of a register of the register file. -/
def State.setFld (s : State) (pg : Nat) (f : Fld) (v : Nat) : State :=
  s.setReg (regKey pg f.off) (setBits (s.reg (regKey pg f.off)) f.hi f.lo v)

/-- Add to a field, saturating at its width. -/
def State.addFld (s : State) (pg : Nat) (f : Fld) (k : Nat) : State :=
  s.setFld pg f (satAdd (f.hi + 1 - f.lo) (s.fld pg f) k)

/-- Set a one-bit field from a Bool. -/
def State.setBit (s : State) (pg : Nat) (f : Fld) (b : Bool) : State := s.setFld pg f (if b then 1 else 0)

/-- A field of the Live Shape (R27): what the device runs on. -/
def Bank.fld (b : Bank) (pg : Nat) (f : Fld) : Nat :=
  getBits (SMap.getD b.words (regKey pg f.off) 0) f.hi f.lo

/-- A field of the Live Shape. -/
def State.sh (s : State) (pg : Nat) (f : Fld) : Nat := s.shape.live.fld pg f

/-- Set a field of a bank. -/
def Bank.setFld (b : Bank) (pg : Nat) (f : Fld) (v : Nat) : Bank :=
  let w := setBits (SMap.getD b.words (regKey pg f.off) 0) f.hi f.lo v
  { b with words := SMap.put b.words (regKey pg f.off) w }

/-- The one SHP page. -/
def shpPage : Nat := page 1 0
/-- The one STR page. -/
def strPage : Nat := page 2 0
/-- The one CC page. -/
def ccPage : Nat := page 3 0
/-- The one SEC page. -/
def secPage : Nat := page 15 0
/-- The register set both CRN pages reach (R438, R452). -/
def crnPage : Nat := page 0 0
/-- A PART page. -/
def partPage (p : Nat) : Nat := page 14 p

/-- Record an output. -/
def State.emit (s : State) (o : Out) : State := { s with out := o :: s.out }

/-! ### Free values -/

/-- Draw a free value (log 3). -/
def State.draw (s : State) : Word64 × State := (Config.free s.draws, { s with draws := s.draws + 1 })

/-! ### Memory cells -/

/-- The byte a list of cells gives an address. -/
def Memory.get? : List Host.Cell → Nat → Option Byte
  | [], _ => none
  | (a, b) :: r, k => if a = k then some b else if k < a then none else Memory.get? r k

/-- Write a byte, keeping the addresses strictly rising. -/
def Memory.set : List Host.Cell → Nat → Byte → List Host.Cell
  | [], k, v => [(k, v)]
  | (a, b) :: r, k, v =>
    if k < a then (k, v) :: (a, b) :: r
    else if k = a then (k, v) :: r
    else (a, b) :: Memory.set r k v

/-- Drop the bytes of a range: their contents are no longer known. -/
def Memory.drop (m : List Host.Cell) (base len : Nat) : List Host.Cell :=
  m.filter (fun c => decide (c.1 < base) || decide (base + len ≤ c.1))

/-- The canonical form: addresses strictly rising. -/
def Memory.wf : List Host.Cell → Bool
  | [] => true
  | [_] => true
  | (a, _) :: (b, y) :: r => decide (a < b) && Memory.wf ((b, y) :: r)

/-- How often the contents of a byte have been lost (Table 18.4, code L). -/
def State.losses (s : State) (k : Nat) : Nat :=
  (s.lost.filter (fun r => decide (r.1 ≤ k) && decide (k < r.1 + r.2))).length

/-- An unlisted byte of HBM reads 0: HBM was written with zeros (R467) and the byte has not been lost since. -/
def State.zeroAt (s : State) (k : Nat) : Bool :=
  match s.zeroed with
  | none => false
  | some n => decide (k < 0x80000000000) &&
      !((s.lost.take (s.lost.length - n)).any (fun r => decide (r.1 ≤ k) && decide (k < r.1 + r.2)))

/-- What an unlisted byte of device memory reads as: 0 where HBM was cleared, else a free value (log 2). -/
def State.fill (s : State) (k : Nat) : Byte := if s.zeroAt k then 0 else Config.memByte (s.losses k) k

/-- A byte of device memory by its physical key. -/
def State.rd (s : State) (k : Nat) : Byte := (Memory.get? s.mem k).getD (s.fill k)

/-- Remove a byte's entry. -/
def Memory.erase (m : List Host.Cell) (k : Nat) : List Host.Cell := m.filter (fun c => c.1 != k)

/-- Write a byte of device memory: writing makes its parity, or its word's code, sound again (R322, R144).  No entry equals what an unlisted byte is
known to read as. -/
def State.wr (s : State) (k : Nat) (v : Byte) : State :=
  { s with mem := if s.zeroAt k && v == 0 then Memory.erase s.mem k else Memory.set s.mem k v
           bad := s.bad.filter (fun x => x != k), weak := s.weak.filter (fun x => x / 4 != k / 4) }

/-- A byte of host memory. -/
def State.hrd (s : State) (k : Nat) : Byte := (Memory.get? s.host k).getD (Config.hostByte k)

/-- Write a byte of host memory. -/
def State.hwr (s : State) (k : Nat) (v : Byte) : State := { s with host := Memory.set s.host k v }

/-- Consecutive bytes of device memory. -/
def State.rds (s : State) (k n : Nat) : List Byte := (List.range n).map (fun i => s.rd (k + i))

/-- Write consecutive bytes of device memory. -/
def State.wrs (s : State) (k : Nat) : List Byte → State
  | [] => s
  | b :: bs => State.wrs (s.wr k b) (k + 1) bs

/-- Consecutive bytes of host memory. -/
def State.hrds (s : State) (k n : Nat) : List Byte := (List.range n).map (fun i => s.hrd (k + i))

/-- Write consecutive bytes of host memory. -/
def State.hwrs (s : State) (k : Nat) : List Byte → State
  | [] => s
  | b :: bs => State.hwrs (s.hwr k b) (k + 1) bs

/-- An 8-byte little-endian word of device memory (R2). -/
def State.rd64 (s : State) (k : Nat) : Nat := leNat (s.rds k 8)

/-- Write an 8-byte little-endian word of device memory (R2). -/
def State.wr64 (s : State) (k v : Nat) : State := s.wrs k (leBytes 8 v)

/-- The contents of a range are lost: undefined until written (Table 18.4). -/
def State.lose (s : State) (base len : Nat) : State :=
  { s with mem := Memory.drop s.mem base len, lost := (base, len) :: s.lost,
           bad := s.bad.filter (fun k => decide (k < base) || decide (base + len ≤ k)),
           weak := s.weak.filter (fun k => decide (k < base) || decide (base + len ≤ k)) }

/-- Every HBM byte is written with zeros (R467). -/
def State.zeroHbm (s : State) : State :=
  { s with mem := Memory.drop s.mem 0 0x80000000000, zeroed := some s.lost.length,
           bad := s.bad.filter (fun k => decide (0x80000000000 ≤ k)) }

/-- Any byte of a range is uncorrectable (R311, R144). -/
def State.badIn (s : State) (k n : Nat) : Bool := s.bad.any (fun x => decide (k ≤ x) && decide (x < k + n))

/-! ### Memory keys: device addresses with physical core and cluster numbers, and the memories no address reaches -/

/-- Bytes of one C-die's HBM window (Table 13.2). -/
def dieWindow : Nat := 0x4000000000
/-- Base of the package set (Table 13.2). -/
def pkgBase : Nat := 0x40000000000
/-- Base of the cluster memories (Table 13.2). -/
def cmBase : Nat := 0x100000000000
/-- Base of the scratchpads (Table 13.2). -/
def spBase : Nat := 0x110000000000
/-- Key of byte `o` of the CM of physical cluster `k`. -/
def cmKey (k o : Nat) : Nat := cmBase + k * 0x2000000 + o
/-- Key of byte `o` of the SP of physical core `n`. -/
def spKey (n o : Nat) : Nat := spBase + n * 0x800000 + o
/-- Key of byte `o` of the 1 MiB accumulator memory of physical core `n`; no device address reaches it (Table 13.2). -/
def amKey (n o : Nat) : Nat := 2 ^ 48 + n * 0x100000 + o
/-- Key of byte `o` of the 64 KiB local data memory of the tidy core of physical core `n` (R180). -/
def ldmKey (n o : Nat) : Nat := 2 ^ 49 + n * 0x10000 + o
/-- Key of byte `o` of the 64 KiB of VE staging buffers of physical core `n` (R164). -/
def stageKey (n o : Nat) : Nat := 2 ^ 50 + n * 0x10000 + o

/-! ### The Live Shape's partitions (R398, R399) -/

/-- Is a unit trimmed (R446)?  Kinds are page classes; 16 is a matrix engine, 17 a Factor Engine. -/
def State.trimmed (s : State) (kind i : Nat) : Bool := s.trim.contains (kind, i)

/-- A unit that refuses new work: trimmed, or failed in service and waiting for the trim map (R446). -/
def State.outOfService (s : State) (kind i : Nat) : Bool := s.trimmed kind i || s.failed.contains (kind, i)

/-- Clusters a bank gives a partition, as a 128-bit mask. -/
def Bank.clusterMask (b : Bank) (p : Nat) : Nat :=
  b.fld (partPage p) Fld.PART_CLUSTERS0_CLUSTERS + 2 ^ 64 * b.fld (partPage p) Fld.PART_CLUSTERS1_CLUSTERS

/-- A bank defines a partition (R398). -/
def Bank.defined (b : Bank) (p : Nat) : Bool := b.fld (partPage p) Fld.PART_DEF_DEFINED == 1

/-- Physical clusters a bank gives a partition. -/
def Bank.clusters (b : Bank) (p : Nat) : List Nat := bitList 128 (b.clusterMask p)

/-- Stacks a bank gives a partition. -/
def Bank.stacks (b : Bank) (p : Nat) : List Nat := bitList 32 (b.fld (partPage p) Fld.PART_STACKS_STACKS)

/-- Brim ports a bank gives a partition. -/
def Bank.ports (b : Bank) (p : Nat) : List Nat := bitList 64 (b.fld (partPage p) Fld.PART_PORTS_PORTS)

/-- Codec engines a bank gives a partition. -/
def Bank.codecs (b : Bank) (p : Nat) : List Nat := bitList 16 (b.fld (partPage p) Fld.PART_CODECS_CODECS)

/-- First ring and number of rings of a partition in a bank (R71). -/
def Bank.rings (b : Bank) (p : Nat) : Nat × Nat :=
  (b.fld (partPage p) Fld.PART_RING_ALLOC_FIRST, b.fld (partPage p) Fld.PART_RING_ALLOC_COUNT)

/-- A ring lies in a partition's range in a bank. -/
def Bank.ownsRing (b : Bank) (p r : Nat) : Bool :=
  decide ((b.rings p).1 ≤ r) && decide (r < (b.rings p).1 + (b.rings p).2)

/-- Partition that owns a cluster in the Live Shape. -/
def State.clusterPart? (s : State) (k : Nat) : Option Nat :=
  (List.range 64).find? (fun p => s.shape.live.defined p && (s.shape.live.clusterMask p).testBit k)

/-- Partition that owns a stack in the Live Shape. -/
def State.stackPart? (s : State) (k : Nat) : Option Nat :=
  (List.range 64).find? (fun p => s.shape.live.defined p && (s.shape.live.fld (partPage p) Fld.PART_STACKS_STACKS).testBit k)

/-- Partition that owns a Brim port in the Live Shape. -/
def State.portPart? (s : State) (k : Nat) : Option Nat :=
  (List.range 64).find? (fun p => s.shape.live.defined p && (s.shape.live.fld (partPage p) Fld.PART_PORTS_PORTS).testBit k)

/-- Partition that owns a codec engine in the Live Shape. -/
def State.codecPart? (s : State) (k : Nat) : Option Nat :=
  (List.range 64).find? (fun p => s.shape.live.defined p && (s.shape.live.fld (partPage p) Fld.PART_CODECS_CODECS).testBit k)

/-- Partition that owns a ring in the Live Shape (R71). -/
def State.ringPart? (s : State) (r : Nat) : Option Nat :=
  (List.range 64).find? (fun p => s.shape.live.defined p && s.shape.live.ownsRing p r)

/-- Untrimmed physical clusters of a partition: its logical clusters in order (R399). -/
def State.logicalClusters (s : State) (p : Nat) : List Nat :=
  (s.shape.live.clusters p).filter (fun k => !s.trimmed 6 k)

/-- Untrimmed physical cores of a physical cluster: its logical cores in order (R447). -/
def State.clusterCores (s : State) (k : Nat) : List Nat :=
  ((List.range 8).map (fun c => 8 * k + c)).filter (fun n => !s.trimmed 7 n)

/-- Physical cluster of a logical cluster of a partition (R399). -/
def State.physCluster? (s : State) (p lk : Nat) : Option Nat := (s.logicalClusters p)[lk]?

/-- Physical core of a logical core of a partition (R399, R447). -/
def State.physCore? (s : State) (p lc : Nat) : Option Nat :=
  (s.physCluster? p (lc / 8)).bind (fun k => (s.clusterCores k)[lc % 8]?)

/-- Every physical core of a partition in logical order. -/
def State.partCores (s : State) (p : Nat) : List Nat := (s.logicalClusters p).flatMap s.clusterCores

/-! ### Interleave sets and placement (R304 to R309, R321) -/

/-- PKG_MIB of the Live Shape, equal in every stack (R304). -/
def State.pkgMib (s : State) : Nat := s.sh (page 9 0) Fld.STK_SET_CFG_PKG_MIB

/-- KIND of a C-die: 0 one die set, 1 two stack sets (R306). -/
def State.dieKind (s : State) (d : Nat) : Nat := s.sh (page 9 (2 * d)) Fld.STK_SET_CFG_KIND

/-- The interleave sets: the die set of die d is `d`, the stack set of stack k is `32 + k`, the package set is 64. -/
def pkgSet : Nat := 64

/-- Channels of a set in increasing index, trimmed ones included (R306). -/
def setChannels (t : Nat) : List Nat :=
  if t < 32 then (List.range 64).map (fun c => 64 * t + c)
  else if t < 64 then (List.range 32).map (fun c => 32 * (t - 32) + c)
  else List.range 1024

/-- Nominal channel count of a set (R308). -/
def setNominal (t : Nat) : Nat := if t < 32 then 64 else if t < 64 then 32 else 1024

/-- live[] of R308: the channels the set is built over, in increasing index; a channel marked out stays in it until the
rebuild of R321 puts it into the trim map, and in the package set's until the next package reset. -/
def State.setLive (s : State) (t : Nat) : List Nat :=
  (setChannels t).filter (fun c => (!s.trimmed 8 c && !s.trimmed 9 (c / 32)) || (t == 64 && s.pkgOuts.contains c))

/-- Slice of R308, bytes. -/
def setSlice (t n : Nat) : Nat :=
  let pow2 := n != 0 && n == 2 ^ Nat.log2 n
  if t = 64 then (ceilDiv 1024 n + (if pow2 then 0 else 1)) * 4096
  else (ceilDiv 8192 n + (if pow2 then 0 else 1)) * 256

/-- Share of a channel that a set uses, bytes (Table 13.1). -/
def State.setShare (s : State) (t : Nat) : Nat :=
  if t = 64 then s.pkgMib * 2 ^ 20 else (4080 - s.pkgMib) * 2 ^ 20

/-- Units (frames, or pairs in the package set) of a set (R308). -/
def State.setUnits (s : State) (t : Nat) : Nat :=
  let n := (s.setLive t).length
  if n = 0 then 0 else s.setShare t / setSlice t n

/-- Frames of 2 MiB of a set (R307). -/
def State.setFrames (s : State) (t : Nat) : Nat := if t = 64 then 2 * s.setUnits t else s.setUnits t

/-- First device address of a set (Table 13.2). -/
def setBase (t : Nat) : Nat :=
  if t < 32 then t * dieWindow
  else if t < 64 then (t - 32) / 2 * dieWindow + (t - 32) % 2 * 0x2000000000
  else pkgBase

/-- The set that a device address of HBM lies in, by the kinds of the Live Shape. -/
def State.setOf? (s : State) (a : Nat) : Option Nat :=
  if a < 16 * dieWindow then
    let d := a / dieWindow
    some (if s.dieKind d = 1 then 32 + 2 * d + a % dieWindow / 0x2000000000 else d)
  else if pkgBase ≤ a ∧ a < pkgBase + 2 ^ 42 then some 64
  else none

/-- Key of a frame in the frame map. -/
def frameKey (t f : Nat) : Nat := t * 2 ^ 24 + f

/-- A frame with the defaults of R307: G = 256 B, R its own number, ALLOC 0; the package set has G = 4 KiB. -/
def State.frame (s : State) (t f : Nat) : Frame :=
  SMap.getD s.frames (frameKey t f) ⟨if t = 64 then 12 else 8, f, false, 0⟩

/-- Exclusive or of the `b`-bit digits of a number (the fold of R308), with a bound on its digits. -/
def foldBits (b : Nat) : Nat → Nat → Nat
  | 0, _ => 0
  | fuel + 1, q => if q = 0 then 0 else (q % 2 ^ b) ^^^ foldBits b fuel (q / 2 ^ b)

/-- The placement of R308: channel and channel-local address of a byte of a set. -/
def State.place? (s : State) (t o : Nat) : Option (Nat × Nat) :=
  let live := s.setLive t
  let n := setNominal t
  let nl := live.length
  if nl = 0 then none else
  let unitBytes := if t = 64 then 2 ^ 22 else 2 ^ 21
  let u := o / unitBytes
  let fr := s.frame t u
  let gr := if t = 64 then 4096 else 2 ^ fr.gran
  let g := unitBytes / gr
  let r := if t = 64 then u else fr.ord
  let oo := o % unitBytes
  let j0 := r * g
  let j := j0 + oo / gr
  let q := j / nl
  let b := Nat.log2 n
  let c := if nl = n then (j % nl) ^^^ foldBits b 64 q else (j % nl + foldBits b 64 q) % nl
  let pos := q - j0 / nl
  let base := if t = 64 then 0 else s.pkgMib * 2 ^ 20
  live[c]?.map (fun ch => (ch, base + u * setSlice t nl + pos * gr + oo % gr))

/-- The package set belongs to the partition with PKG_SET = 1 (R306, R398). -/
def State.pkgPart? (s : State) : Option Nat :=
  (List.range 64).find? (fun p => s.shape.live.defined p && s.sh (partPage p) Fld.PART_DEF_PKG_SET == 1)

/-- Partition that owns a set (R306). -/
def State.setPart? (s : State) (t : Nat) : Option Nat :=
  if t = 64 then s.pkgPart?
  else if t < 32 then
    match s.stackPart? (2 * t) with
    | some p => some p
    | none => s.stackPart? (2 * t + 1)
  else s.stackPart? (t - 32)

/-- Any channel of a set marked out and not yet rebuilt (R319, R321). -/
def State.setHasOut (s : State) (t : Nat) : Bool :=
  (s.setLive t).any (fun c => s.fld (page 8 c) Fld.MC_STATUS_STATE == 3)

/-- The memory key of a byte a partition names by device address, or the code of R305, R314, R319, R321, R324.
`none` for the partition skips the ownership test. -/
def State.xlate (s : State) (p : Option Nat) (a : Nat) : Except Code Nat :=
  if a < pkgBase + 2 ^ 42 then
    match s.setOf? a with
    | none => .error 0x0A01
    | some t =>
      let o := a - setBase t
      let f := o / 2 ^ 21
      if s.setFrames t ≤ f then .error 0x0A01
      else if p.isSome && s.setPart? t != p then .error 0x0109
      else if (s.frame t (if t = 64 then f / 2 * 2 else f)).st = 2 then .error 0x0A03
      else match s.place? t o with
        | none => .error 0x0A01
        | some (ch, _) =>
          if s.fld (page 8 ch) Fld.MC_STATUS_STATE = 3 then .error 0x0A02
          else if s.fld (page 9 (ch / 32)) Fld.STK_STATUS_STATE = 3 then .error 0x0A04
          else .ok a
  else if cmBase ≤ a ∧ a < cmBase + 128 * 0x2000000 then
    let lk := (a - cmBase) / 0x2000000
    let o := (a - cmBase) % 0x2000000
    if 24 * 2 ^ 20 ≤ o then .error 0x0A01
    else match p with
      | none => .ok a
      | some p => match s.physCluster? p lk with
        | none => .error 0x0109
        | some k => .ok (cmKey k o)
  else if spBase ≤ a ∧ a < spBase + 1024 * 0x800000 then
    let lc := (a - spBase) / 0x800000
    let o := (a - spBase) % 0x800000
    if 6 * 2 ^ 20 ≤ o then .error 0x0A01
    else match p with
      | none => .ok a
      | some p => match s.physCluster? p (lc / 8) with
        | none => .error 0x0109
        | some k => match (s.clusterCores k)[lc % 8]? with
          | none => .error 0x0103
          | some n => .ok (spKey n o)
  else .error 0x0A01

/-- Is a device address one of HBM? -/
def isHbm (a : Nat) : Bool := decide (a < pkgBase + 2 ^ 42)
/-- Is a device address one of CM? -/
def isCm (a : Nat) : Bool := decide (cmBase ≤ a) && decide (a < cmBase + 128 * 0x2000000)
/-- Is a device address one of SP? -/
def isSp (a : Nat) : Bool := decide (spBase ≤ a) && decide (a < spBase + 1024 * 0x800000)

/-- Read bytes a partition names by device address: every byte is translated, and an uncorrectable one stops the access
with 0xF001 (R311, R144). -/
def State.rdDev (s : State) (p : Option Nat) (a n : Nat) : Except Code (List Byte) :=
  (List.range n).mapM (fun i =>
    match s.xlate p (a + i) with
    | .error e => .error e
    | .ok k => if s.bad.contains k then .error 0xF001 else .ok (s.rd k))

/-- Write bytes a partition names by device address; on an error, the state with the bytes before it written, their
number and the code. -/
def State.wrDev (s : State) (p : Option Nat) (a : Nat) : List Byte → State × Nat × Code
  | [] => (s, 0, 0)
  | b :: bs =>
    match s.xlate p a with
    | .error e => (s, 0, e)
    | .ok k =>
      let r := State.wrDev (s.wr k b) p (a + 1) bs
      (r.1, r.2.1 + 1, r.2.2)

/-- The bytes of a device range all lie in the partition and exist: the code of the first that does not. -/
def State.checkDev (s : State) (p : Option Nat) (a n : Nat) : Code :=
  ((List.range n).findSome? (fun i => match s.xlate p (a + i) with | .error e => some e | .ok _ => none)).getD 0

/-! ### Contexts, rings, channels by number -/

/-- A context of a partition. -/
def State.ctx (s : State) (p c : Nat) : Ctx := SMap.getD s.ctxs (p * 16 + c) {}
/-- Set a context. -/
def State.setCtx (s : State) (p c : Nat) (x : Ctx) : State := { s with ctxs := SMap.put s.ctxs (p * 16 + c) x }
/-- Change a context. -/
def State.modCtx (s : State) (p c : Nat) (f : Ctx → Ctx) : State := s.setCtx p c (f (s.ctx p c))
/-- A partition's scheduler. -/
def State.part (s : State) (p : Nat) : Part := SMap.getD s.parts p {}
/-- Change a partition's scheduler. -/
def State.modPart (s : State) (p : Nat) (f : Part → Part) : State := { s with parts := SMap.put s.parts p (f (s.part p)) }
/-- A ring. -/
def State.ring (s : State) (r : Nat) : Ring := SMap.getD s.rings r {}
/-- Set a ring. -/
def State.setRing (s : State) (r : Nat) (x : Ring) : State := { s with rings := SMap.put s.rings r x }
/-- Change a ring. -/
def State.modRing (s : State) (r : Nat) (f : Ring → Ring) : State := s.setRing r (f (s.ring r))
/-- A channel. -/
def State.chan (s : State) (c : Nat) : Chan := SMap.getD s.chans c {}
/-- Change a channel. -/
def State.modChan (s : State) (c : Nat) (f : Chan → Chan) : State := { s with chans := SMap.put s.chans c (f (s.chan c)) }
/-- A codec engine. -/
def State.vc (s : State) (v : Nat) : VcEngine := SMap.getD s.vcs v {}
/-- Change a codec engine. -/
def State.modVc (s : State) (v : Nat) (f : VcEngine → VcEngine) : State := { s with vcs := SMap.put s.vcs v (f (s.vc v)) }
/-- A stack. -/
def State.stk (s : State) (c : Nat) : Stack := SMap.getD s.stks c {}
/-- Change a stack. -/
def State.modStk (s : State) (c : Nat) (f : Stack → Stack) : State := { s with stks := SMap.put s.stks c (f (s.stk c)) }

/-- A tidy core. -/
def State.tc (s : State) (n : Nat) : Tc := SMap.getD s.tcs n {}
/-- Change a tidy core. -/
def State.modTc (s : State) (n : Nat) (f : Tc → Tc) : State := { s with tcs := SMap.put s.tcs n (f (s.tc n)) }

/-- A host port. -/
def State.hp (s : State) (h : Nat) : HostPort := SMap.getD s.hps h {}
/-- Change a host port. -/
def State.modHp (s : State) (h : Nat) (f : HostPort → HostPort) : State := { s with hps := SMap.put s.hps h (f (s.hp h)) }

/-- Commands of a ring fetched and not completed (Table 4.3, INFLIGHT). -/
def State.inflight (s : State) (r : Nat) : Nat := (s.cmds.filter (fun c => c.ring == r)).length

/-- The in-flight command at a position of a ring. -/
def State.cmdAt? (s : State) (r q : Nat) : Option InFlight := s.cmds.find? (fun c => c.ring == r && c.seq == q)

/-- Change the in-flight command at a position of a ring. -/
def State.modCmd (s : State) (r q : Nat) (f : InFlight → InFlight) : State :=
  { s with cmds := updateWhere (fun c => c.ring == r && c.seq == q) f s.cmds }

/-- End a command: status, GOOD_BYTES (R86). -/
def State.endCmd (s : State) (r q : Nat) (status good : Nat) : State :=
  s.modCmd r q (fun c => { c with phase := .ended, status := status, good := good })

/-- The context resident in a partition, from PART_SCHED (Table 17.8). -/
def State.resident? (s : State) (p : Nat) : Option Nat :=
  (List.range 16).find? (fun c => (s.ctx p c).st == .resident)

/-- The stroke counter (R43). -/
def State.strokeNo (s : State) : Nat := (s.reg (strPage + Reg.STR_COUNT)).toNat

/-! ### Waits (R83) -/

/-- A semaphore stands at or above a value (R83); an uncorrectable word is not observed. -/
def State.semAtLeast (s : State) (k v : Nat) : Bool := !s.badIn k 8 && decide (v ≤ s.rd64 k)

/-- Command processors observe their commands' semaphores; once met, a wait stays met (R83). -/
def State.observe (s : State) : State :=
  let see (c : InFlight) : InFlight :=
    if c.saved || c.phase != .waiting then c
    else { c with
      met0 := c.met0 || (match c.wait0 with | none => true | some k => s.semAtLeast k c.cmd.w0Val),
      met1 := c.met1 || (match c.wait1 with | none => true | some k => s.semAtLeast k c.cmd.w1Val) }
  { s with cmds := s.cmds.map see }

/-- What a command leaves: the next state, in which every command processor has observed its commands' semaphores (R83). -/
def State.done (s : State) : Host.Outcome State Fault Refusal := .next s.observe

end Sys2Proof.Machine
end

