-- ==== Sys2Proof/Machine/Reach.lean ====
section
/-!
DEFINITION. Host ports, functions and partitions: which function reaches which partition and which page (R21, R352, R353,
R486), and the stopping of rings (R75, R440).
-/
namespace Sys2Proof.Machine

open Sys2Proof

/-- An HP page. -/
def hpPage (h : Nat) : Nat := page 13 h

/-- HP_VF_MAP byte of a VF of a port in a bank (Table 15.7). -/
def Bank.vfMap (b : Bank) (h v : Nat) : Nat :=
  getBits (SMap.getD b.words (hpPage h + 0x110 + 8 * (v / 8)) 0) (8 * (v % 8) + 7) (8 * (v % 8))

/-- Partition a VF maps to, if its entry is VALID (R352). -/
def Bank.vfPart? (b : Bank) (h v : Nat) : Option Nat :=
  if v < 64 ∧ (b.vfMap h v).testBit 7 then some (b.vfMap h v % 64) else none

/-- The VF of a port that maps to a partition (R353). -/
def State.partVf? (s : State) (h p : Nat) : Option Nat :=
  (List.range 64).find? (fun v => s.shape.live.vfPart? h v == some p)

/-- A partition's bit in a port's HP_PF_PARTS. -/
def State.pfPart (s : State) (h p : Nat) : Bool := (s.sh (hpPage h) Fld.HP_PF_PARTS_PARTS).testBit p

/-- A partition is reachable through a port (R353). -/
def State.reachable (s : State) (h p : Nat) : Bool := (s.partVf? h p).isSome || s.pfPart h p

/-- A port's link is up or in Recovery (Table 15.8). -/
def State.linked (s : State) (h : Nat) : Bool := decide (2 ≤ s.fld (hpPage h) Fld.HP_LINK_STATE)

/-- Function number used in outputs: 0 the PF, v + 1 VF v, for a partition on a port (R353). -/
def State.fnOf (s : State) (h p : Nat) : Nat := match s.partVf? h p with | some v => v + 1 | none => 0

/-- The partition a requester is confined to: a VF's, or the one that owns a tidy core's cluster (R21, R180). -/
def State.reqPart? (s : State) : Requester → Option Nat
  | .vf h v => s.shape.live.vfPart? h v
  | .tidy n => s.clusterPart? (n / 8)
  | _ => none

/-- Is a requester confined to its partition (R21)? -/
def confined : Requester → Bool
  | .vf _ _ => true
  | .tidy _ => true
  | _ => false

/-- Requester ID of Table 2.10; 0 for one that has none. -/
def requesterId : Requester → Nat
  | .pf 0 => 1
  | .pf 1 => 2
  | .crown 0 => 0x10
  | .crown 1 => 0x11
  | .hsc => 0x20
  | _ => 0

/-- Owner of a page's unit, for the classes whose pages a VF may see (R21). -/
def State.pageOwner? (s : State) (pg : Nat) : Option Nat :=
  let i := pgInst pg
  match pgClass pg with
  | 6 => s.clusterPart? i
  | 7 => s.clusterPart? (i / 8)
  | 8 => s.stackPart? (i / 32)
  | 9 => s.stackPart? i
  | 11 => s.codecPart? i
  | 12 => s.portPart? i
  | 14 => some i
  | _ => none

/-- A partition has clusters on a C-die. -/
def State.partOnDie (s : State) (p d : Nat) : Bool := (s.shape.live.clusters p).any (fun k => k / 8 == d)

/-- A requester may write a page (R21); physical functions, Crowns and the runtime may write every present page. -/
def State.mayWrite (s : State) (who : Requester) (pg : Nat) : Bool :=
  if confined who then
    match s.reqPart? who with
    | none => false
    | some p => s.pageOwner? pg == some p
  else true

/-- A requester may read a page (R21). -/
def State.mayRead (s : State) (who : Requester) (pg : Nat) : Bool :=
  s.mayWrite who pg ||
    (confined who && (s.reqPart? who).isSome &&
      ((pgClass pg == 10 && (match s.reqPart? who with | some p => s.partOnDie p (pgInst pg) | none => false)) ||
        pgClass pg == 2 || pgClass pg == 3))

/-- The Dwerdo personality is in force (R371). -/
def State.dwerdo (s : State) : Bool := s.shape.persona.any (fun x => x == 1)

/-- Pages a host port presents: in the Dwerdo personality only the SHP, STR, CC, CRN, HP and PART 0 pages (R371). -/
def State.presents (s : State) (who : Requester) (pg : Nat) : Bool :=
  pagePresent pg && (match who with
    | .pf _ | .vf _ _ => !s.dwerdo || decide (pgClass pg ≤ 3) || pgClass pg == 13 || pg == partPage 0
    | _ => true)

/-! ### Page interrupts and refusals (R23, R24, R354) -/

/-- Is a status bit of a page unmasked (R23)? -/
def State.unmasked (s : State) (pg bit : Nat) : Bool :=
  !(bitOf (s.reg (pg + 0x38)).toNat bit)

/-- The functions that see a page, by host port and function number: the PF, and each mapped VF that may read it (R21, R352). -/
def State.pageFns (s : State) (pg : Nat) : List (Nat × Nat) :=
  [0, 1].flatMap (fun h =>
    (if s.presents (.pf h) pg then [(h, 0)] else []) ++
      ((List.range 64).filter (fun v => s.presents (.vf h v) pg && s.mayRead (.vf h v) pg)).map (fun v => (h, v + 1)))

/-- Set a BLK_INT_STATUS bit of a page and raise its interrupt, on vector 0 of every function that sees the page, if its mask bit is 0
(R23, R354). -/
def State.raise (s : State) (pg bit : Nat) : State :=
  let s := s.setReg (pg + 0x30) (s.reg (pg + 0x30) ||| (1 <<< bit : Word64))
  if s.unmasked pg bit then s.emit (.blockIrq pg bit (s.pageFns pg)) else s

/-- Record a refusal at a page: code, offending register and field (R24, Tables 2.4, 2.5, 2.7). -/
def State.refuse (s : State) (pg code : Nat) (off : Nat := 0) (lsb : Nat := 0) : State :=
  ((((s.setFld pg Fld.BLK_REASON_CODE code).setFld pg Fld.BLK_REASON_FIELD_OFFSET off).setFld pg
    Fld.BLK_REASON_FIELD_LSB lsb).setFld pg Fld.BLK_STATUS_REFUSED 1).raise pg 0

/-- The refusal that names a field. -/
def State.refuseF (s : State) (pg code : Nat) (f : Fld) : State := s.refuse pg code f.off f.lo

/-! ### Writes that arrive -/

/-- The record of a write that R21 ignores: bit 0 of the requester's own PART page BLK_INT_STATUS. -/
def State.ignoredWrite (s : State) (who : Requester) : State :=
  match s.reqPart? who with
  | some p => s.raise (partPage p) 0
  | none => s

/-- Does a write from a host function arrive at all?  Through a port whose link is down none does (R367), and in the Dwerdo personality
there are no virtual functions (R371). -/
def State.arrives (s : State) : Requester → Bool
  | .pf h => s.linked h
  | .vf h _ => s.linked h && !s.dwerdo
  | _ => true

/-- C-die pages in Block-hold, its entry and its exit: they read 0 and ignore writes (R429). -/
def State.pageDark (s : State) (pg : Nat) : Bool :=
  let st := s.fld crnPage Fld.CRN_PWR_STATUS_STATE
  decide (5 ≤ pgClass pg) && decide (pgClass pg ≤ 10) && (st == 1 || st == 2 || st == 3)

/-- Pages whose writes are ignored: C-die pages in Block-hold (R429), and the pages of a partition under reset (R423). -/
def State.pageAsleep (s : State) (pg : Nat) : Bool :=
  s.pageDark pg ||
    (match s.pageOwner? pg with | some p => (s.part p).resetting | none => false)

/-- A register write is let through to the page, or is ignored; an ignored write of a VF is recorded (R19, R21). -/
def State.letIn (s : State) (who : Requester) (pg : Nat) (f : State → State) : State :=
  if !s.arrives who then s
  else if !s.presents who pg then (if confined who then s.ignoredWrite who else s)
  else if !s.mayWrite who pg then s.ignoredWrite who
  else if s.pageAsleep pg then s
  else f s

/-- Stop a ring that is enabled, with a code (R75, R440). -/
def stopRing (code : Code) (r : Ring) : Ring := if r.st = 0 ∨ r.st = 2 then r else { r with st := 2, fault := code }

/-- Stop every ring of a partition (R440). -/
def State.stopPartRings (s : State) (p : Nat) (code : Code) : State :=
  { s with rings := SMap.mapVal s.rings (fun r x => if s.shape.live.ownsRing p r then stopRing code x else x) }

/-- Stop every ring of the package (R440). -/
def State.stopAllRings (s : State) (code : Code) : State :=
  { s with rings := SMap.mapVal s.rings (fun _ x => stopRing code x) }

/-- The function a ring's interrupt is raised on (R486): host port and function number. -/
def State.ringIrqFn? (s : State) (r : Nat) (p : Nat) : Option (Nat × Nat) :=
  let cfg := (s.ring r).cqCfg
  if getBits cfg 5 5 = 1 then
    let h := getBits cfg 6 6
    if s.reachable h p then some (h, s.fnOf h p) else none
  else if s.reachable 0 p then some (0, s.fnOf 0 p)
  else if s.reachable 1 p then some (1, s.fnOf 1 p)
  else none

end Sys2Proof.Machine
end

