-- ==== Sys2Proof/Machine/Errors.lean ====
section
/-!
DEFINITION. Error classes, the error record, the error ring and its signals (R440 to R445, R483, R489), and the failing of
units in service (R446).
-/
namespace Sys2Proof.Machine

open Sys2Proof

/-- One bit of the reflected Castagnoli CRC (R257). -/
def crcBit (c : Nat) : Nat := if c % 2 = 1 then (c / 2) ^^^ 0x82F63B78 else c / 2

/-- One byte of the CRC. -/
def crcByte (c : Nat) (b : Byte) : Nat :=
  let x := c ^^^ b.toNat
  crcBit (crcBit (crcBit (crcBit (crcBit (crcBit (crcBit (crcBit x)))))))

/-- CRC-32C of a byte list (R257). -/
def crc32c (bs : List Byte) : Nat := (bs.foldl crcByte 0xFFFFFFFF) ^^^ 0xFFFFFFFF

/-- SOURCE of a page: class in [15:12], instance in [11:0] (Table 19.3). -/
def srcOf (pg : Nat) : Nat := pgClass pg * 4096 + pgInst pg

/-- The page a SOURCE names. -/
def srcPage (src : Nat) : Nat := page (src / 4096 % 16) (src % 4096)

/-- The 64 bytes of an error record (Table 19.3). -/
def errBytes (e : ErrInfo) (flags seq calS calF count stroke : Nat) : List Byte :=
  let b := leBytes 2 e.source ++ leBytes 1 e.cls ++ leBytes 1 flags ++ leBytes 2 e.code ++
    leBytes 1 (match e.part with | some p => p % 64 + 64 | none => 0) ++
    leBytes 1 (match e.ctx with | some c => c % 16 + 16 | none => 0) ++
    leBytes 8 seq ++ leBytes 8 calS ++ leBytes 4 calF ++ leBytes 4 (min count 0xFFFFFFFF) ++ leBytes 8 stroke ++
    leBytes 8 e.d0 ++ leBytes 8 e.d1 ++
    leBytes 2 (match e.cmd with | some (r, _) => r % 2 ^ 14 + 2 ^ 14 | none => 0) ++
    leBytes 2 (match e.cmd with | some (_, t) => t | none => 0)
  b ++ leBytes 4 (crc32c b)

/-- Assert or release ALERT_N from its two reasons: an unpassed record (R489) and V48 out of range (R473). -/
def State.setAlert (s : State) : State :=
  { s with pins := { s.pins with alert := !s.errs.alerts.isEmpty || s.pwr.v48Alert } }

/-- Write one record to the error ring, with its signals (R442, R444, R445, R489). -/
def State.writeErr (s : State) (e : ErrInfo) (count : Nat) (coalesced : Bool) : State :=
  let tail := s.fld crnPage Fld.CRN_ERR_PTR_TAIL
  let full := s.errs.unread == 4096
  let ti := s.fld ccPage Fld.CC_STATUS_TIME_INVALID
  let fatal := decide (2 ≤ e.cls)
  let flags := ti + (if full then 2 else 0) + (if coalesced then 4 else 0) + (if e.unitFailed then 8 else 0)
  let bytes := errBytes e flags (s.errs.seq + 1) s.cal.secs s.cal.frac count s.strokeNo
  let alerts := if decide (s.fld crnPage Fld.CRN_ERR_CFG_ALERT_MIN ≤ e.cls) && !s.errs.alerts.contains tail
    then tail :: s.errs.alerts else s.errs.alerts
  let er := { s.errs with
    recs := SMap.put s.errs.recs tail bytes, seq := s.errs.seq + 1,
    unread := min 4096 (s.errs.unread + 1), alerts := alerts,
    nvmQueue := if fatal then s.errs.nvmQueue ++ [(3, tail)] else s.errs.nvmQueue }
  let s := { s with errs := er }
  let s := s.setFld crnPage Fld.CRN_ERR_PTR_TAIL ((tail + 1) % 4096)
  let s := if full then
      ((s.setFld crnPage Fld.CRN_ERR_PTR_HEAD ((s.fld crnPage Fld.CRN_ERR_PTR_HEAD + 1) % 4096)).addFld crnPage
        Fld.CRN_ERR_LOST_COUNT 1).raise crnPage 22
    else s
  let s := s.raise crnPage 21
  let s := if s.fld crnPage Fld.CRN_ERR_CFG_IRQ_MIN ≤ e.cls then
      [0, 1].foldl (fun s h => if s.linked h then s.emit (.msix h 0 1) else s) s
    else s
  (s.emit (.pldm 1 e.code)).setAlert

/-- Count an error in a page's BLK_ERR_SUM (R440). -/
def State.countErr (s : State) (pg cls : Nat) : State :=
  (s.addFld pg (match cls with
    | 0 => Fld.BLK_ERR_SUM_CORRECTED
    | 1 => Fld.BLK_ERR_SUM_CONTAINED
    | 2 => Fld.BLK_ERR_SUM_PART_FATAL
    | _ => Fld.BLK_ERR_SUM_DEV_FATAL) 1).raise pg 2

/-- Set a page's BLK_STATUS.FAULT (Tables 2.4, 2.7). -/
def State.setFault (s : State) (pg : Nat) : State :=
  if s.fld pg Fld.BLK_STATUS_FAULT = 1 then s else (s.setFld pg Fld.BLK_STATUS_FAULT 1).raise pg 1

/-- A partition-fatal error stops a partition: FAULT on its PART page, every ring STOPPED, and nothing fetched for it until a partition
reset (Table 19.1). -/
def State.haltPart (s : State) (p : Nat) (code : Code) : State :=
  ((s.setFault (partPage p)).stopPartRings p code).modPart p (fun x => { x with fatal := true })

/-- What the device does for an error's class beyond recording it (Table 19.1). -/
def State.classAct (s : State) (e : ErrInfo) : State :=
  if e.cls = 2 then
    match e.part with
    | some p => (s.setFault (srcPage e.source)).haltPart p e.code
    | none => s.setFault (srcPage e.source)
  else if e.cls = 3 then
    let s := (((s.setFault (srcPage e.source)).setFault (page 0 0)).setFault (page 0 1)).stopAllRings e.code
    { s with errs := { s.errs with down := true } }
  else s

/-- The partitions whose command or state an error affected: every one, for a device-fatal error (R440). -/
def State.errParts (s : State) (e : ErrInfo) : List Nat :=
  if e.cls = 3 then (List.range 64).filter s.shape.live.defined
  else ((match e.part with | some p => [p] | none => []) ++ e.also).eraseDups

/-- A detected error: counted on its unit's page and on the PART page of every partition affected (R440), acted on by its
class, and recorded, corrected ones coalesced (R443). -/
def State.recordError (s : State) (e : ErrInfo) : State :=
  let s := s.countErr (srcPage e.source) e.cls
  let s := (s.errParts e).foldl (fun (s : State) p =>
    if partPage p = srcPage e.source then s else s.countErr (partPage p) e.cls) s
  let s := s.classAct e
  if e.cls = 0 && s.fld crnPage Fld.CRN_ERR_CFG_COALESCE = 1 then
    if s.errs.windows.any (fun w => w.source == e.source && w.code == e.code) then
      let ws := updateWhere (fun w : Coalesce => w.source == e.source && w.code == e.code)
        (fun w => { w with count := w.count + 1, d0 := e.d0, d1 := e.d1 }) s.errs.windows
      { s with errs := { s.errs with windows := ws } }
    else
      let s := s.writeErr e 1 false
      { s with errs := { s.errs with windows := s.errs.windows ++ [⟨e.source, e.code, 0, e.d0, e.d1⟩] } }
  else s.writeErr e 1 false

/-- The end of a coalescing window: one record with COALESCED = 1 and the count, when later errors were counted (R443). -/
def State.endWindow (s : State) (source code : Nat) : State :=
  match s.errs.windows.find? (fun w => w.source == source && w.code == code) with
  | none => s
  | some w =>
    let s := { s with errs := { s.errs with
      windows := eraseFirst (fun w => w.source == source && w.code == code) s.errs.windows } }
    if w.count = 0 then s
    else s.writeErr { source := source, cls := 0, code := code, d0 := w.d0, d1 := w.d1 } w.count true

/-- An accepted HEAD write lies on the way from HEAD to TAIL, TAIL included (R489). -/
def State.errHeadOk (s : State) (h : Nat) : Bool :=
  decide ((h + 4096 - s.fld crnPage Fld.CRN_ERR_PTR_HEAD) % 4096 ≤ s.errs.unread)

/-- Pass the records up to a new HEAD (R489): ALERT_N is released once no asserting record is left unpassed. -/
def State.passErrs (s : State) (h : Nat) : State :=
  let head := s.fld crnPage Fld.CRN_ERR_PTR_HEAD
  let d := (h + 4096 - head) % 4096
  let passed := (List.range d).map (fun i => (head + i) % 4096)
  let s := s.setFld crnPage Fld.CRN_ERR_PTR_HEAD h
  let er := { s.errs with
    unread := s.errs.unread - d, alerts := s.errs.alerts.filter (fun i => !passed.contains i) }
  ({ s with errs := er }).setAlert

/-! ### Units failed in service (R446) -/

/-- Page of a unit of a kind: 17 is the Factor Engine of a C-die, 16 a matrix engine. -/
def unitPage (kind i : Nat) : Nat :=
  if kind = 17 then page 5 i else if kind = 16 then page 7 (i / 4) else page kind i

/-- Partition that owns a unit alone; Fullers and Factor Engines are shared (R441). -/
def State.unitOwner? (s : State) (kind i : Nat) : Option Nat :=
  if kind = 17 ∨ kind = 10 then none else s.pageOwner? (unitPage kind i)

end Sys2Proof.Machine
end

