-- ==== Sys2Proof/Machine/Units.lean ====
section
/-!
DEFINITION. Which unit a command runs on, what work a block has in flight, and when a partition is idle (R24, R31, R87,
R252, R298, R329, R419, R447).
-/
namespace Sys2Proof.Machine

open Sys2Proof

/-- C-dies one mesh step from a set of C-dies, over untrimmed ones only (R12, R447). -/
def State.meshStep (s : State) (ds : List Nat) : List Nat :=
  (List.range 16).filter (fun n => ds.contains n || (!s.trimmed 5 n && ds.any (fun m =>
    (n % 4 == m % 4 && (n / 4 + 1 == m / 4 || m / 4 + 1 == n / 4)) ||
    (n / 4 == m / 4 && (n % 4 + 1 == m % 4 || m % 4 + 1 == n % 4)))))

/-- C-dies at exactly `h` hops or fewer of a die. -/
def State.meshWithin (s : State) (d : Nat) : Nat → List Nat
  | 0 => [d]
  | h + 1 => s.meshStep (s.meshWithin d h)

/-- The Fuller (kind 10) or Factor Engine (kind 17) that serves a die: its own, else the untrimmed one with the fewest
hops, the lower die winning a tie (R447). -/
def State.served? (s : State) (kind d : Nat) : Option Nat :=
  if !s.trimmed kind d then some d
  else (List.range 16).findSome? (fun h =>
    ((s.meshWithin d (h + 1)).filter (fun n => !s.trimmed kind n && !s.trimmed 5 n)).head?)

/-- Untrimmed channels of a partition: those of its stacks (R398). -/
def State.partChannels (s : State) (p : Nat) : List Nat :=
  (s.shape.live.stacks p).flatMap (fun k => if s.trimmed 9 k then [] else
    ((List.range 32).map (fun c => 32 * k + c)).filter (fun c => !s.trimmed 8 c && s.fld (page 8 c) Fld.MC_STATUS_STATE != 3))

/-- Physical engine of a logical codec of a partition: the n-th untrimmed engine of its allocation (R329, R447). -/
def State.physCodec? (s : State) (p n : Nat) : Option Nat :=
  ((s.shape.live.codecs p).filter (fun v => !s.trimmed 11 v))[n]?

/-- The physical core a command of a cluster names in ARG[2:0] (R145, R166, R186, R361). -/
def State.cmdCore? (s : State) (c : InFlight) : Option Nat := (s.clusterCores c.ccp)[c.cmd.arg % 8]?

/-- The pages of the units a command runs on, its command processor's cluster included. -/
def State.cmdPages (s : State) (c : InFlight) : List Nat :=
  let core := match s.cmdCore? c with | some n => [page 7 n] | none => []
  page 6 c.ccp :: (match c.cmd.op with
    | 0x10 => core
    | 0x28 | 0x29 => match s.served? 10 (c.ccp / 8) with | some d => [page 10 d] | none => []
    | 0x2C => match s.setOf? (leAt c.ext 0 8) with
      | some t => (s.setLive t).map (fun ch => page 8 ch)
      | none => []
    | 0x30 | 0x33 | 0x34 => core
    | 0x35 | 0x36 => (bitList 8 c.cmd.arg).filterMap (fun i => ((s.clusterCores c.ccp)[i]?).map (fun n => page 7 n))
    | 0x50 | 0x51 | 0x52 => (s.partChannels c.part).map (fun ch => page 8 ch)
    | 0x53 => match s.served? 17 (c.ccp / 8) with | some d => [page 5 d] | none => []
    | 0x60 | 0x61 | 0x62 | 0x63 | 0x64 | 0x65 | 0x66 => (bitList 64 (leAt c.ext 32 8)).map (fun b => page 12 b)
    | 0x70 | 0x71 | 0x72 | 0x73 | 0x74 =>
      match s.physCodec? c.part (c.cmd.arg % 16) with | some v => [page 11 v] | none => []
    | _ => [])

/-- A command occupies its units: fetched, not completed, and not parked in a save image. -/
def State.workOn (s : State) (pg : Nat) (c : InFlight) : Bool :=
  !c.saved && (if pgClass pg = 14 then c.part == pgInst pg else (s.cmdPages c).contains pg)

/-- A block has work in flight. -/
def State.hasWork (s : State) (pg : Nat) : Bool := s.cmds.any (s.workOn pg)

/-- BLK_STATUS.BUSY: a consistency check is running, or work is in flight, or the partition is under reset (Table 2.4, R423). -/
def State.busy (s : State) (pg : Nat) : Bool :=
  (SMap.get? s.shape.checks pg).isSome || s.hasWork pg ||
    (pgClass pg == 14 && (s.part (pgInst pg)).resetting)

/-- Pages of the units a bank gives a partition, its PART page apart. -/
def Bank.unitPages (b : Bank) (p : Nat) : List Nat :=
  (b.clusters p).flatMap (fun k => page 6 k :: (List.range 8).map (fun c => page 7 (8 * k + c))) ++
  (b.stacks p).flatMap (fun k => page 9 k :: (List.range 32).map (fun c => page 8 (32 * k + c))) ++
  (b.ports p).map (fun i => page 12 i) ++ (b.codecs p).map (fun i => page 11 i)

/-- A partition has a context RESIDENT, SAVING or RESTORING (R419). -/
def State.ctxBusy (s : State) (p : Nat) : Bool :=
  (List.range 16).any (fun c => match (s.ctx p c).st with
    | .resident | .saving | .restoring => true
    | _ => false)

/-- A partition is idle (R31, R419): no context RESIDENT, SAVING or RESTORING, no command fetched and not completed but
those held in save images, and no unit of it BUSY. -/
def State.idle (s : State) (p : Nat) : Bool :=
  !s.ctxBusy p && !(s.cmds.any (fun c => c.part == p && !c.saved)) &&
    !((s.shape.live.unitPages p).any (fun pg => s.busy pg))

/-- Classes whose enable the Live Shape governs (R26, log 6): clusters, cores, channels, stacks, Brim ports, codec
engines and Fullers. -/
def shapeBound (cls : Nat) : Bool := cls == 6 || cls == 7 || cls == 8 || cls == 9 || cls == 10 || cls == 11 || cls == 12

/-- The Live Shape enables a Shape-bound block: a defined partition owns the unit; a Brim port by BRM_CFG.EN (R376); a
Fuller when a partition has clusters on its die (R26, log 6). -/
def Bank.enables (b : Bank) (pg : Nat) : Bool :=
  let i := pgInst pg
  match pgClass pg with
  | 6 => (List.range 64).any (fun p => b.defined p && (b.clusterMask p).testBit i)
  | 7 => (List.range 64).any (fun p => b.defined p && (b.clusterMask p).testBit (i / 8))
  | 8 => (List.range 64).any (fun p => b.defined p && (b.fld (partPage p) Fld.PART_STACKS_STACKS).testBit (i / 32))
  | 9 => (List.range 64).any (fun p => b.defined p && (b.fld (partPage p) Fld.PART_STACKS_STACKS).testBit i)
  | 10 => (List.range 64).any (fun p => b.defined p && (b.clusters p).any (fun k => k / 8 == i))
  | 11 => (List.range 64).any (fun p => b.defined p && (b.fld (partPage p) Fld.PART_CODECS_CODECS).testBit i)
  | 12 => b.fld pg Fld.BRM_CFG_EN == 1
  | _ => false

/-- BLK_CTRL.EN as read; a trimmed unit refuses EN (R19). -/
def State.enabled (s : State) (pg : Nat) : Bool :=
  if shapeBound (pgClass pg) then s.shape.live.enables pg && !s.trimmed (pgClass pg) (pgInst pg)
  else s.fld pg Fld.BLK_CTRL_EN == 1

/-- BLK_STATUS.LIVE as read: a Shape-bound block is LIVE when the Live Shape enables it, it is not trimmed and the C-dies
are powered. -/
def State.liveBlk (s : State) (pg : Nat) : Bool :=
  if shapeBound (pgClass pg) then
    s.shape.live.enables pg && !s.trimmed (pgClass pg) (pgInst pg)
  else s.fld pg Fld.BLK_STATUS_LIVE == 1

/-- The page's unit is trimmed (R19, R446). -/
def State.pageTrimmed (s : State) (pg : Nat) : Bool := s.trimmed (pgClass pg) (pgInst pg)

/-- The engines on a command's core that its descriptors are issued to (Tables 1.8, 6.6, 7.9): matrix engine e is engine e, the vector
engine is engine 4 and the mover engine 5. -/
def State.coreEngines (s : State) (c : InFlight) : List Nat :=
  let named (ctrl : Nat) : List Nat :=
    (List.range 4).filter (fun e => ctrl.testBit (6 + e) &&
      !s.trimmed 16 (4 * (match s.cmdCore? c with | some n => n | none => 0) + e))
  match c.cmd.op with
  | 0x10 => [5]
  | 0x30 => named (leAt c.ext 76 4)
  | 0x33 => [4]
  | 0x34 => if c.cmd.sub < 3 then named (leAt c.ext 144 4) else [4]
  | _ => []

/-- The engines a command's descriptors are issued to, a page and an engine of it: a core's own, the attention sequencer of a cluster
page, and the one engine of any other unit (Tables 1.8, 9.4; R87). -/
def State.cmdEngines (s : State) (c : InFlight) : List (Nat × Nat) :=
  if c.cmd.op = 0x35 ∨ c.cmd.op = 0x36 then [(page 6 c.ccp, 0)]
  else ((s.cmdPages c).drop 1).flatMap (fun pg => if pgClass pg = 7 then (s.coreEngines c).map (fun e => (pg, e)) else [(pg, 0)])

/-- A command holds an issued descriptor: it has started and its work has not ended (R87). -/
def InFlight.issued (c : InFlight) : Bool := c.phase == .started && !c.saved

/-- Descriptors issued to an engine (R87). -/
def State.engineLoad (s : State) (eng : Nat × Nat) : Nat :=
  (s.cmds.filter (fun c => c.issued && (s.cmdEngines c).contains eng)).length

/-- Commands issued to a unit. -/
def State.unitLoad (s : State) (pg : Nat) : Nat := (s.cmds.filter (fun c => c.issued && s.workOn pg c)).length

end Sys2Proof.Machine
end

