-- ==== Sys2Proof/Machine/Checks.lean ====
section
/-!
DEFINITION. The commit check (R30, R34, R482, Table 2.17), with the consistency checks of every block chapter, and the
factory default Shape (R37).
-/
namespace Sys2Proof.Machine

open Sys2Proof

/-- A failed check: page, register offset, lowest bit of the field, code, and whether a cross-block rule was broken (R30). -/
structure CheckFail where
  pg : Nat
  off : Nat
  lsb : Nat
  code : Code
  cross : Bool
  deriving DecidableEq, Repr

/-- A failure at a named field. -/
def failAt (pg : Nat) (f : Fld) (code : Code) (cross : Bool) : CheckFail := ⟨pg, f.off, f.lo, code, cross⟩

/-- The state as it would be with another bank Live: for asking the checks' questions of that bank. -/
def State.withLive (s : State) (b : Bank) : State := { s with shape := { s.shape with live := b } }

/-- A device range lies in one set of HBM that belongs to a partition, within the set's frames (R305, R306). -/
def State.hbmRange (s : State) (p a n : Nat) : Bool :=
  match s.setOf? a with
  | none => false
  | some t => s.setPart? t == some p && decide (a + n ≤ setBase t + s.setFrames t * 2 ^ 21)

/-- The code of a device range a command names that does not fit the partition's memory, 0 when it fits (R305): 0x0A01 where its first
byte or its continuation does not exist, 0x0109 where its first byte is another partition's or, with `foreign`, lies in a memory that the
field may not name. -/
def State.outCode (s : State) (p a : Nat) (fits foreign : Bool) : Code :=
  if fits then 0
  else match s.xlate (some p) a with
    | .error e => if e = 0x0A01 ∨ e = 0x0109 ∨ (e = 0x0103 ∧ foreign = false) then e else if foreign then 0x0109 else 0x0A01
    | .ok _ => if foreign then 0x0109 else 0x0A01

/-- The code of a device range that must lie in the partition's HBM (R305). -/
def State.hbmCode (s : State) (p a n : Nat) : Code := s.outCode p a (s.hbmRange p a n) (!isHbm a)

/-- Offsets of the SH registers of a page class. -/
def shOffs (cls : Nat) : List Nat :=
  ((classRegs cls).filter (fun r => r.fields.any (fun f => f.acc == .sh))).map (fun r => r.off)

/-- First SH register of a page that differs between two banks. -/
def pageDiff? (a b : Bank) (pg : Nat) : Option Nat :=
  (shOffs (pgClass pg)).find? (fun o => SMap.getD a.words (regKey pg o) 0 != SMap.getD b.words (regKey pg o) 0)

/-- A partition's definition differs between two banks: some SH register of its PART page (R31). -/
def partChanged (a b : Bank) (p : Nat) : Bool := (pageDiff? a b (partPage p)).isSome

/-- The partitions whose definition differs between two banks. -/
def changedParts (a b : Bank) : List Nat := (List.range 64).filter (partChanged a b)

/-- Two banks differ in some SH word or in their trim overrides: DIRTY (Table 2.12). -/
def bankDiffers (a b : Bank) : Bool :=
  a.words.any (fun w => SMap.getD b.words w.1 0 != w.2) || b.words.any (fun w => SMap.getD a.words w.1 0 != w.2) ||
    a.overrides != b.overrides

/-- Two number ranges overlap. -/
def rangesMeet (a b : Nat × Nat) : Bool :=
  a.2 != 0 && b.2 != 0 && decide (a.1 < b.1 + b.2) && decide (b.1 < a.1 + a.2)

/-- Range of Region Window Table entries of a partition in a bank (R357). -/
def Bank.rwt (b : Bank) (p : Nat) : Nat × Nat :=
  (b.fld (partPage p) Fld.PART_RWT_ALLOC_FIRST, b.fld (partPage p) Fld.PART_RWT_ALLOC_COUNT)

/-- A unit named by a defined partition and by another (R30, R398: 0x0204), with the field that names it. -/
def sharedUnit? (b : Bank) (p : Nat) : Option CheckFail :=
  if !b.defined p then none else
  let pg := partPage p
  let others := (List.range 64).filter (fun q => q != p && b.defined q)
  let meets (f : Fld) := others.any (fun q => (b.fld pg f &&& b.fld (partPage q) f) != 0)
  if meets Fld.PART_STACKS_STACKS then some (failAt pg Fld.PART_STACKS_STACKS 0x0204 true)
  else if meets Fld.PART_CLUSTERS0_CLUSTERS then some (failAt pg Fld.PART_CLUSTERS0_CLUSTERS 0x0204 true)
  else if meets Fld.PART_CLUSTERS1_CLUSTERS then some (failAt pg Fld.PART_CLUSTERS1_CLUSTERS 0x0204 true)
  else if meets Fld.PART_PORTS_PORTS then some (failAt pg Fld.PART_PORTS_PORTS 0x0204 true)
  else if meets Fld.PART_CODECS_CODECS then some (failAt pg Fld.PART_CODECS_CODECS 0x0204 true)
  else if others.any (fun q => rangesMeet (b.rings p) (b.rings q)) then some (failAt pg Fld.PART_RING_ALLOC_FIRST 0x0204 true)
  else if others.any (fun q => rangesMeet (b.rwt p) (b.rwt q)) then some (failAt pg Fld.PART_RWT_ALLOC_FIRST 0x0204 true)
  else none

/-- A die or the package set holds an allocated frame (R306, R34). -/
def State.setAllocated (s : State) (t : Nat) : Bool :=
  s.frames.any (fun f => f.1 / 2 ^ 24 == t && f.2.alloc)

/-- An interleave set that holds allocated frames and whose KIND or PKG_MIB changes (R306: 0x020B). -/
def State.setChange? (s : State) (old new : Bank) (k : Nat) : Option CheckFail :=
  let pg := page 9 k
  let d := k / 2
  let used := s.setAllocated d || s.setAllocated (32 + 2 * d) || s.setAllocated (33 + 2 * d)
  if used && old.fld pg Fld.STK_SET_CFG_KIND != new.fld pg Fld.STK_SET_CFG_KIND then
    some (failAt pg Fld.STK_SET_CFG_KIND 0x020B true)
  else if (used || s.setAllocated 64) && old.fld pg Fld.STK_SET_CFG_PKG_MIB != new.fld pg Fld.STK_SET_CFG_PKG_MIB then
    some (failAt pg Fld.STK_SET_CFG_PKG_MIB 0x020B true)
  else none

/-- A Brim port is MEMBER or DRAINING: STATE 5 or 6 of Table 16.1. -/
def State.portState (s : State) (b : Nat) : Nat := s.fld (page 12 b) Fld.BRM_STATUS_STATE

/-- Any Brim port is MEMBER (R379). -/
def State.anyMember (s : State) : Bool := (List.range 64).any (fun b => s.portState b == 5)

/-- A ring leaves or enters a partition's range between two banks (R71). -/
def ringMoves (a b : Bank) (r : Nat) : Bool := (List.range 64).any (fun p =>
  (a.defined p && a.ownsRing p r) != (b.defined p && b.ownsRing p r))

/-- A Brim port is enabled in one bank and not in another. -/
def portOff (old new : Bank) (b : Nat) : Bool :=
  old.fld (page 12 b) Fld.BRM_CFG_EN == 1 && new.fld (page 12 b) Fld.BRM_CFG_EN == 0

/-- Brim ports being disabled whose partition is not idle (Table 2.17). -/
def State.busyPorts (s : State) (old new : Bank) : List Nat :=
  (List.range 64).filter (fun b => portOff old new b && (match s.portPart? b with | some p => !s.idle p | none => false))

/-- Rings that leave or enter a partition's range and are not DISABLED (R71). -/
def State.busyRings (s : State) (old new : Bank) : List Nat :=
  (s.rings.filter (fun r => r.2.st != 0 && ringMoves old new r.1)).map (fun r => r.1)

/-- Units that a bank's trim overrides remove and the trim map holds in service, whose partition is not idle (Table 2.17). -/
def State.busyUnits (s : State) (new : Bank) : List (Nat × Nat) :=
  ((new.overrides.filter (fun o => o.2.2 && !s.trimmed o.1 o.2.1)).map (fun o => (o.1, o.2.1))).filter (fun u =>
    match s.unitOwner? u.1 u.2 with | some p => !s.idle p | none => false)

/-- What a COMMIT write finds busy (R31, R34, R71): Table 2.17 judges each of these when COMMIT is written.  R31 and R71 say so of
changed partitions and of rings; for disabled ports and removed units the spec gives no moment (DESIGN CHOICE, log 54). -/
def State.commitOp (s : State) (pin : Bool) : ShapeOp :=
  let old := s.shape.live
  let new := s.shape.pend
  let ch := changedParts old new
  { kind := .commit, passed := false, pinAfter := pin, held := ch, busyParts := ch.filter (fun p => !s.idle p),
    busyPorts := s.busyPorts old new, busyRings := s.busyRings old new, busyUnits := s.busyUnits new }

/-- The failure of a bank's trim overrides (Table 2.17): one that would restore a unit the trim map removed, then one that removes a
unit of a partition that was not idle.  No SH register names an override: the failure names the unit's page (log 16). -/
def State.overrideFail? (s : State) (new : Bank) (busy : List (Nat × Nat)) : Option CheckFail :=
  (new.overrides.findSome? (fun o =>
    if !o.2.2 && s.trimmed o.1 o.2.1 then some ⟨unitPage o.1 o.2.1, 0, 0, 0x0210, true⟩ else none)).orElse fun _ =>
  busy.head?.map (fun u => ⟨unitPage u.1 u.2, 0, 0, 0x0202, true⟩)

/-- The conditions of Table 2.17, section by section (R482 item 1), with what the operation found busy. -/
def State.sectionFail? (s : State) (old new : Bank) (op : ShapeOp) : Option CheckFail :=
  let ps := List.range 64
  -- partition definitions
  (ps.findSome? (fun p => if op.busyParts.contains p then
    (pageDiff? old new (partPage p)).map (fun o => ⟨partPage p, o, 0, 0x0202, true⟩) else none)).orElse fun _ =>
  ((changedParts old new ++ ps).findSome? (sharedUnit? new)).orElse fun _ =>
  -- interleave sets
  ((List.range 32).findSome? (s.setChange? old new)).orElse fun _ =>
  -- Brim enables
  ((List.range 64).findSome? (fun b =>
    if op.busyPorts.contains b then some (failAt (page 12 b) Fld.BRM_CFG_EN 0x0202 true) else none)).orElse fun _ =>
  -- system ID
  (if s.anyMember && old.fld (page 4 0) Fld.EDIE_SYS_SYSTEM_ID != new.fld (page 4 0) Fld.EDIE_SYS_SYSTEM_ID then
      some (failAt (page 4 0) Fld.EDIE_SYS_SYSTEM_ID 0x020C true)
    else if s.anyMember && old.fld (page 4 0) Fld.EDIE_SYS_NODE_ID != new.fld (page 4 0) Fld.EDIE_SYS_NODE_ID then
      some (failAt (page 4 0) Fld.EDIE_SYS_NODE_ID 0x020C true)
    else none).orElse fun _ =>
  -- allocations
  (ps.findSome? (fun p =>
    if 16384 < (new.rings p).1 + (new.rings p).2 then some (failAt (partPage p) Fld.PART_RING_ALLOC_COUNT 0x0209 true)
    else if 32768 < (new.rwt p).1 + (new.rwt p).2 then some (failAt (partPage p) Fld.PART_RWT_ALLOC_COUNT 0x0209 true)
    else none)).orElse fun _ =>
  (ps.findSome? (fun p => if op.busyRings.any (fun r =>
      (old.defined p && old.ownsRing p r) != (new.defined p && new.ownsRing p r)) then
    some (failAt (partPage p) Fld.PART_RING_ALLOC_FIRST 0x020A true) else none)).orElse fun _ =>
  -- trim overrides
  s.overrideFail? new op.busyUnits

/-- PERSONALITY = 1 is pinned (R371). -/
def State.dwerdoPinned (s : State) : Bool :=
  match (match s.shape.cur with | some 0 => s.shape.slot0 | some _ => s.shape.slot1 | none => none) with
  | some n => (List.range 2).any (fun h => n.bank.fld (hpPage h) Fld.HP_CFG_PERSONALITY == 1)
  | none => false

/-- The consistency check of a PART page against a bank (R230, R371, R398, R387, Table 10.6, Table 16.8). -/
def State.partCheck? (s : State) (b : Bank) (p : Nat) : Option CheckFail :=
  let pg := partPage p
  let t := s.withLive b
  let d := b.defined p
  let named := [Fld.PART_STACKS_STACKS, Fld.PART_CLUSTERS0_CLUSTERS, Fld.PART_CLUSTERS1_CLUSTERS, Fld.PART_PORTS_PORTS,
    Fld.PART_CODECS_CODECS].find? (fun f => b.fld pg f != 0)
  let ctxMax := b.fld pg Fld.PART_DEF_CTX_MAX
  let fulMax := b.fld pg Fld.PART_DEF_FUL_MAX
  let slots := b.fld pg Fld.PART_KV_POOL_GEOM_SLOTS
  let poolBytes := slots * b.fld pg Fld.PART_KV_POOL_GEOM_SLOT_UNITS * 64
  let stBytes := (slots + b.fld pg Fld.PART_KV_HOST_GEOM_HSLOTS) * 16
  let pool := b.fld pg Fld.PART_KV_POOL_BASE_BASE
  let stt := b.fld pg Fld.PART_KV_STATE_BASE_BASE
  let mib := b.fld pg Fld.PART_BRIM_STAGE_MIB
  let job := b.fld pg Fld.PART_BRIM_JOB
  if !d then
    (if b.fld pg Fld.PART_DEF_PKG_SET = 1 then some (failAt pg Fld.PART_DEF_PKG_SET 0x0E01 false)
     else named.map (fun f => failAt pg f 0x0E01 false))
  else if p ≠ 0 ∧ s.dwerdoPinned = true then some (failAt pg Fld.PART_DEF_DEFINED 0x0C0C false)
  else if ctxMax = 0 ∨ 16 < ctxMax then some (failAt pg Fld.PART_DEF_CTX_MAX 0x0E01 false)
  else if b.fld pg Fld.PART_DEF_PKG_SET = 1 ∧ (b.fld pg Fld.PART_STACKS_STACKS = 0 ∨
      (List.range 64).any (fun q => q != p && b.defined q && b.fld (partPage q) Fld.PART_DEF_PKG_SET == 1)) then
    some (failAt pg Fld.PART_DEF_PKG_SET 0x0E03 false)
  else if fulMax = 0 ∨ 4 < fulMax then some (failAt pg Fld.PART_DEF_FUL_MAX 0x0E01 false)
  else if (List.range 32).any (fun k =>
      b.fld (page 9 k) Fld.STK_SET_CFG_KIND == 0 && (b.fld pg Fld.PART_STACKS_STACKS).testBit k && !s.trimmed 9 k &&
      !s.trimmed 9 (k ^^^ 1) && !(b.fld pg Fld.PART_STACKS_STACKS).testBit (k ^^^ 1)) then
    some (failAt pg Fld.PART_STACKS_STACKS 0x0E02 false)
  else if b.clusterMask p = 0 then some (failAt pg Fld.PART_CLUSTERS0_CLUSTERS 0x0E01 false)
  else if slots ≠ 0 ∧ pool % 4096 ≠ 0 then some (failAt pg Fld.PART_KV_POOL_BASE_BASE 0x0108 false)
  else if slots ≠ 0 ∧ !(t.hbmRange p pool poolBytes) then some (failAt pg Fld.PART_KV_POOL_BASE_BASE 0x078E false)
  else if slots ≠ 0 ∧ b.fld pg Fld.PART_KV_POOL_GEOM_SLOT_UNITS = 0 then
    some (failAt pg Fld.PART_KV_POOL_GEOM_SLOT_UNITS 0x0102 false)
  else if b.fld pg Fld.PART_KV_HOST_GEOM_HSLOTS ≠ 0 ∧ b.fld pg Fld.PART_KV_HOST_BASE_BASE % 4096 ≠ 0 then
    some (failAt pg Fld.PART_KV_HOST_BASE_BASE 0x0108 false)
  else if b.fld pg Fld.PART_KV_HOST_GEOM_HSLOTS ≠ 0 ∧ !(t.reachable (b.fld pg Fld.PART_KV_HOST_GEOM_PORT) p) then
    some (failAt pg Fld.PART_KV_HOST_GEOM_PORT 0x078E false)
  else if slots ≠ 0 ∧ stt % 64 ≠ 0 then some (failAt pg Fld.PART_KV_STATE_BASE_BASE 0x0108 false)
  else if slots ≠ 0 ∧ (!(t.hbmRange p stt stBytes) || rangesMeet (pool, poolBytes) (stt, stBytes)) then
    some (failAt pg Fld.PART_KV_STATE_BASE_BASE 0x078E false)
  else if job ≠ 0 ∧ (List.range p).any (fun q => b.defined q && b.fld (partPage q) Fld.PART_BRIM_JOB == job) then
    some (failAt pg Fld.PART_BRIM_JOB 0x0D0C false)
  else if mib ≠ 0 ∧ b.fld pg Fld.PART_BRIM_STAGE_BASE % 2 ^ 21 ≠ 0 then
    some (failAt pg Fld.PART_BRIM_STAGE_BASE 0x0108 false)
  else if mib ≠ 0 ∧ !(t.hbmRange p (b.fld pg Fld.PART_BRIM_STAGE_BASE) (mib * 2 ^ 20)) then
    some (failAt pg Fld.PART_BRIM_STAGE_BASE 0x0109 false)
  else if mib ≠ 0 ∧ mib < 16 then some (failAt pg Fld.PART_BRIM_STAGE_MIB 0x0102 false)
  else none

/-- A bank turns a Shape-bound block on that the Live Shape does not enable (R26). -/
def State.turnsOn (s : State) (b : Bank) (pg : Nat) : Bool := b.enables pg && !s.shape.live.enables pg

/-- The consistency check of a STR page against a bank (R45, R46, R51, R56, R63, R371). -/
def State.strCheck? (s : State) (b : Bank) : Option CheckFail :=
  let g (f : Fld) := b.fld strPage f
  let portOn (i : Nat) := b.enables (page 12 i) && !s.trimmed 12 i
  let every := g Fld.STR_MAINT_EVERY
  let win := g Fld.STR_MAINT_WINDOW
  if g Fld.STR_CFG_SOURCE = 3 then some (failAt strPage Fld.STR_CFG_SOURCE 0x0102 false)
  else if s.dwerdoPinned && g Fld.STR_CFG_SOURCE != 0 then some (failAt strPage Fld.STR_CFG_SOURCE 0x0C0C false)
  else if g Fld.STR_CFG_SOURCE = 2 ∧ !(portOn (g Fld.STR_CFG_PTP_PORT)) then
    some (failAt strPage Fld.STR_CFG_PTP_PORT 0x0106 false)
  else if g Fld.STR_CFG_SOURCE = 2 ∧ g Fld.STR_CFG_PTP_ALT_EN = 1 ∧ !(portOn (g Fld.STR_CFG_PTP_ALT_PORT)) then
    some (failAt strPage Fld.STR_CFG_PTP_ALT_PORT 0x0106 false)
  else if g Fld.STR_CFG_PERIOD < 200 ∨ 100000000 < g Fld.STR_CFG_PERIOD then
    some (failAt strPage Fld.STR_CFG_PERIOD 0x0102 false)
  else if every ≠ 0 ∧ (every < 16 ∨ 65536 < every) then some (failAt strPage Fld.STR_MAINT_EVERY 0x0102 false)
  else if every ≠ 0 ∧ every ≤ g Fld.STR_MAINT_OFFSET then some (failAt strPage Fld.STR_MAINT_OFFSET 0x0102 false)
  else if every ≠ 0 ∧ (win = 0 ∨ 1000 < win ∨ g Fld.STR_CFG_PERIOD < 200 * win) then
    some (failAt strPage Fld.STR_MAINT_WINDOW 0x0102 false)
  else if g Fld.STR_OUT_DIVIDE = 0 then some (failAt strPage Fld.STR_OUT_DIVIDE 0x0102 false)
  else none

/-- The consistency check of one page against a bank, fields in increasing offset and bit (R25, R482 item 3).  A trimmed cluster, codec
engine or Brim port that a bank turns on is refused with 0x0103 (R26); cores, channels, stacks and Fullers are named by no enable of
their own, and a trimmed one is passed over (R308, R398, R447, log 54). -/
def State.pageCheck? (s : State) (b : Bank) (pg : Nat) : Option CheckFail :=
  let i := pgInst pg
  let g (f : Fld) := b.fld pg f
  match pgClass pg with
  | 0 => if i ≠ 0 then none
    else if g Fld.CRN_PWR_CFG_SUSTAIN < 200 ∨ 1800 < g Fld.CRN_PWR_CFG_SUSTAIN then
      some (failAt pg Fld.CRN_PWR_CFG_SUSTAIN 0x0F02 false)
    else if g Fld.CRN_PWR_CFG_EXCURSION < g Fld.CRN_PWR_CFG_SUSTAIN ∨ 2000 < g Fld.CRN_PWR_CFG_EXCURSION then
      some (failAt pg Fld.CRN_PWR_CFG_EXCURSION 0x0F02 false)
    else if 12 < g Fld.CRN_PWR_CFG_FLOOR_STEP then some (failAt pg Fld.CRN_PWR_CFG_FLOOR_STEP 0x0F02 false)
    else if 1000 < g Fld.CRN_PWR_CFG_NAP_DELAY then some (failAt pg Fld.CRN_PWR_CFG_NAP_DELAY 0x0F02 false)
    else none
  | 2 => s.strCheck? b
  | 4 => if g Fld.EDIE_ROUTE_BASE_ADDR % 32 ≠ 0 then some (failAt pg Fld.EDIE_ROUTE_BASE_ADDR 0x0108 false)
    else if g Fld.EDIE_RMT_BASE_ADDR % 64 ≠ 0 then some (failAt pg Fld.EDIE_RMT_BASE_ADDR 0x0108 false)
    else none
  | 9 => if 2 ≤ g Fld.STK_SET_CFG_KIND ∨ g Fld.STK_SET_CFG_KIND ≠ b.fld (page 9 (i ^^^ 1)) Fld.STK_SET_CFG_KIND then
      some (failAt pg Fld.STK_SET_CFG_KIND 0x0A07 false)
    else if 4080 < g Fld.STK_SET_CFG_PKG_MIB ∨ g Fld.STK_SET_CFG_PKG_MIB ≠ b.fld (page 9 0) Fld.STK_SET_CFG_PKG_MIB then
      some (failAt pg Fld.STK_SET_CFG_PKG_MIB 0x0A07 false)
    else none
  | 6 | 11 => if s.turnsOn b pg && s.trimmed (pgClass pg) i then some (failAt pg Fld.BLK_CTRL_EN 0x0103 false) else none
  | 12 => if s.turnsOn b pg && s.trimmed 12 i then some (failAt pg Fld.BRM_CFG_EN 0x0103 false)
    else if g Fld.BRM_CFG_RTO_US = 0 ∨ 1000 < g Fld.BRM_CFG_RTO_US then some (failAt pg Fld.BRM_CFG_RTO_US 0x0102 false)
    else if g Fld.BRM_CFG_RETRY_MAX = 0 then some (failAt pg Fld.BRM_CFG_RETRY_MAX 0x0102 false)
    else if g Fld.BRM_CFG_UDP_PORT < 1024 then some (failAt pg Fld.BRM_CFG_UDP_PORT 0x0102 false)
    else none
  | 13 => if 64 < g Fld.HP_CFG_TOTAL_VFS then some (failAt pg Fld.HP_CFG_TOTAL_VFS 0x0102 false)
    else (List.range 64).findSome? (fun v => match b.vfPart? i v with
      | none => none
      | some p => if !b.defined p || (List.range v).any (fun w => b.vfPart? i w == some p) then
          some ⟨pg, 0x110 + 8 * (v / 8), 8 * (v % 8), 0x0C08, false⟩ else none)
  | 14 => s.partCheck? b i
  | _ => none

/-- The pages that have a check of their own in a commit, in increasing BAR0 offset: those that carry SH registers, and the clusters
and codec engines that a Shape enables. -/
def checkedPages : List Nat :=
  allPages.filter (fun pg => pgClass pg == 6 || pgClass pg == 11 || !(shOffs (pgClass pg)).isEmpty)

/-- Classes whose SH fields a page's check asks about beside the page's own: the Brim ports of the stroke unit (R51), the other stacks
(R304, R306), the partitions a VF maps to (R352), and a partition's stacks, functions and fellow partitions (R230, R387, R398). -/
def askedClasses : Nat → List Nat
  | 2 => [12]
  | 9 => [9]
  | 13 => [14]
  | 14 => [9, 13, 14]
  | _ => []

/-- Some page of a class differs between two banks. -/
def classDiffers (a b : Bank) (cls : Nat) : Bool := (List.range (instances cls)).any (fun i => (pageDiff? a b (page cls i)).isSome)

/-- The check of a commit covers a page (R30): its SH fields differ from Live, or the commit turns its block on, or fields of other
pages that its check asks about differ (log 54). -/
def State.checkedAt (s : State) (new : Bank) (pg : Nat) : Bool :=
  (pageDiff? s.shape.live new pg).isSome || s.turnsOn new pg ||
    (askedClasses (pgClass pg)).any (classDiffers s.shape.live new)

/-- The first failure of a commit of a bank over the Live one (R482), with what the operation found busy. -/
def State.commitFail? (s : State) (new : Bank) (op : ShapeOp) : Option CheckFail :=
  (s.sectionFail? s.shape.live new op).orElse fun _ =>
    (checkedPages.filter (s.checkedAt new)).findSome? (s.pageCheck? new)

/-- The first failure of a pinned slot's contents at boot: the checks a commit of them would run, the slot's own PERSONALITY being
the pinned one (R371); a trimmed unit fails none of them (R37). -/
def State.bootFail? (s : State) (new : Bank) : Option CheckFail :=
  let t := { s with frames := [], rings := [], cmds := [], ctxs := [], trim := s.trim.filter (fun u => u.1 == 9),
                    shape := { s.shape with slot0 := some ⟨true, 0, new⟩, cur := some 0 } }
  ((List.range 64).findSome? (sharedUnit? new)).orElse fun _ =>
  ((List.range 64).findSome? (fun p =>
    if 16384 < (new.rings p).1 + (new.rings p).2 then some (failAt (partPage p) Fld.PART_RING_ALLOC_COUNT 0x0209 true)
    else if 32768 < (new.rwt p).1 + (new.rwt p).2 then some (failAt (partPage p) Fld.PART_RWT_ALLOC_COUNT 0x0209 true)
    else none)).orElse fun _ => checkedPages.findSome? (t.pageCheck? new)

/-- The generation after the highest one Live has held, 0 skipped (R30). -/
def genAfter (high : Nat) : Nat := if (high + 1) % 2 ^ 32 = 0 then 1 else (high + 1) % 2 ^ 32

/-- A mask of the numbers below `n` that a test keeps. -/
def maskOf (n : Nat) (keep : Nat → Bool) : Nat :=
  (List.range n).foldl (fun m i => if keep i then m + 2 ^ i else m) 0

/-- The factory default Shape over the untrimmed units (R37); every SH field it does not name holds 0. -/
def factoryBank (trim : List (Nat × Nat)) : Bank :=
  let ok (k i : Nat) : Bool := !trim.contains (k, i)
  let p0 := partPage 0
  let b : Bank := { gen := 1, words := [] }
  let b := ((b.setFld p0 Fld.PART_DEF_DEFINED 1).setFld p0 Fld.PART_DEF_CTX_MAX 16).setFld p0 Fld.PART_DEF_FUL_MAX 4
  let b := b.setFld p0 Fld.PART_STACKS_STACKS (maskOf 32 (ok 9))
  let b := b.setFld p0 Fld.PART_CLUSTERS0_CLUSTERS (maskOf 64 (ok 6))
  let b := b.setFld p0 Fld.PART_CLUSTERS1_CLUSTERS (maskOf 64 (fun i => ok 6 (64 + i)))
  let b := b.setFld p0 Fld.PART_PORTS_PORTS (maskOf 64 (ok 12))
  let b := b.setFld p0 Fld.PART_CODECS_CODECS (maskOf 16 (ok 11))
  let b := (b.setFld p0 Fld.PART_RING_ALLOC_FIRST 0).setFld p0 Fld.PART_RING_ALLOC_COUNT 16384
  let b := (b.setFld p0 Fld.PART_RWT_ALLOC_FIRST 0).setFld p0 Fld.PART_RWT_ALLOC_COUNT 32768
  let b := (b.setFld strPage Fld.STR_CFG_PERIOD 100000).setFld strPage Fld.STR_OUT_DIVIDE 1
  let b := (List.range 64).foldl (fun b i =>
    ((b.setFld (page 12 i) Fld.BRM_CFG_RTO_US 20).setFld (page 12 i) Fld.BRM_CFG_RETRY_MAX 8).setFld (page 12 i)
      Fld.BRM_CFG_UDP_PORT 35000) b
  let b := [0, 1].foldl (fun b h =>
    ((b.setFld (hpPage h) Fld.HP_CFG_CXL_MEM_EN 1).setFld (hpPage h) Fld.HP_CFG_ATS_EN 1).setFld (hpPage h)
      Fld.HP_PF_PARTS_PARTS 1) b
  ((((b.setFld crnPage Fld.CRN_PWR_CFG_SUSTAIN 1800).setFld crnPage Fld.CRN_PWR_CFG_EXCURSION 2000).setFld crnPage
    Fld.CRN_PWR_CFG_FLOOR_STEP 12).setFld crnPage Fld.CRN_PWR_CFG_NAP_DELAY 10)

/-- The bank whose contents a slot number holds. -/
def ShapeUnit.slot? (u : ShapeUnit) (i : Nat) : Option NvmSlot := if i = 0 then u.slot0 else u.slot1

end Sys2Proof.Machine
end

