-- ==== Sys2Proof/Machine/Shape.lean ====
section
/-!
DEFINITION. Editing and committing Shapes: SH writes, SHP_LOCK, COMMIT, REVERT, PIN and DISCARD up to the swap (R26 to R37).
The swap itself, which reaches every unit, stands in Machine/Swap.lean.
-/
namespace Sys2Proof.Machine

open Sys2Proof

/-- SHP_STATUS.DIRTY follows the banks (Table 2.12). -/
def State.setDirty (s : State) : State :=
  s.setBit shpPage Fld.SHP_STATUS_DIRTY (bankDiffers s.shape.pend s.shape.live)

/-- A refusal of the Shape unit that is also LAST_OP's result (R41, Table 2.12). -/
def State.shapeRefuse (s : State) (op : Nat) (code : Code) (off lsb : Nat) : State :=
  ((s.setFld shpPage Fld.SHP_STATUS_LAST_OP op).setFld shpPage Fld.SHP_STATUS_LAST_RESULT code).refuse shpPage code off lsb

/-- A refusal of the Shape unit that belongs to no operation: its code is LAST_RESULT too, as R41 has every Shape code, and LAST_OP
stays (log 54). -/
def State.shapeCode (s : State) (code : Code) (off lsb : Nat) : State :=
  (s.setFld shpPage Fld.SHP_STATUS_LAST_RESULT code).refuse shpPage code off lsb

/-- A Shape operation succeeded (Table 2.12). -/
def State.shapeDone (s : State) (op : Nat) : State :=
  (s.setFld shpPage Fld.SHP_STATUS_LAST_OP op).setFld shpPage Fld.SHP_STATUS_LAST_RESULT 0

/-- Mask of the fields of a register that an access of a width reaches at once: all of them, or those wholly in the half
(R6). -/
def reachMask (fs : List RegField) (w : Width) : Word64 :=
  fs.foldl (fun m f => match w with
    | .w64 => m ||| fieldMask f.hi f.lo
    | .lo32 => if f.hi < 32 then m ||| fieldMask f.hi f.lo else m
    | .hi32 => if 32 ≤ f.lo then m ||| fieldMask f.hi f.lo else m) 0

/-- Mask of the fields that cross bit 31 (R6). -/
def crossMask (fs : List RegField) : Word64 :=
  fs.foldl (fun m f => if f.lo < 32 ∧ 32 ≤ f.hi then m ||| fieldMask f.hi f.lo else m) 0

/-- `old` with the bits of a mask taken from `new`. -/
def mergeBits (old new mask : Word64) : Word64 := (old &&& ~~~mask) ||| (new &&& mask)

/-- The word after an access of a width and the low half held after it (R6): fields wholly reached take effect; a low
half of a crossing field is held; a high half stores the field together with the low half held, or with the current low
bits when none is held. -/
def halfWrite (fs : List RegField) (w : Width) (old v : Word64) (held : Option (Nat × BitVec 32)) (port : Nat) :
    Word64 × Option (Nat × BitVec 32) :=
  let direct := reachMask fs w
  match w with
  | .w64 => (mergeBits old v direct, held)
  | .lo32 =>
    let x := mergeBits old (v &&& 0xFFFFFFFF) direct
    (x, if crossMask fs = 0 then held else some (port, v.truncate 32))
  | .hi32 =>
    let hi : Word64 := (v <<< 32)
    let x := mergeBits old hi direct
    let low : Word64 := match held with | some h => h.2.zeroExtend 64 | none => old &&& 0xFFFFFFFF
    (mergeBits x (hi ||| low) (crossMask fs), none)

/-- The host port a requester writes through, 2 for the others (R367). -/
def portOf : Requester → Nat
  | .pf h => h
  | .vf h _ => h
  | _ => 2

/-- The SH fields of a register row. -/
def shFields (r : RegRow) : List RegField := r.fields.filter (fun f => f.acc == .sh)

/-- SH_FIELD_WRITE (R27, R28, R33): a write to an SH register changes only the Pending bank.  The value of a high-half
access stands in the low 32 bits of `v`. -/
def shFieldWrite (s : State) (who : Requester) (off : Nat) (w : Width) (v : Word64) : State :=
  let pg := pgBase off
  s.letIn who pg (fun s =>
    match regRow? (pgClass off) (pgOff off) with
    | none => s
    | some row =>
      if (shFields row).isEmpty then s
      else if confined who then s.ignoredWrite who
      else if requesterId who = 0 ∨ s.fld shpPage Fld.SHP_LOCK_HOLDER ≠ requesterId who then
        s.shapeCode 0x0208 Fld.SHP_LOCK_HOLDER.off 0
      else if s.shape.op.isSome then s.shapeCode 0x0203 (pgOff off) 0
      else
        let key := regKey pg (pgOff off)
        let r := halfWrite (shFields row) w (SMap.getD s.shape.pend.words key 0) v (SMap.get? s.shape.halves key)
          (portOf who)
        let pend := { s.shape.pend with words := SMap.put s.shape.pend.words key r.1 }
        let halves := match r.2 with | some h => SMap.put s.shape.halves key h | none => SMap.erase s.shape.halves key
        ({ s with shape := { s.shape with pend := pend, halves := halves } }).setDirty)

/-- SHP_LOCK_WRITE (R28, R29).  A 0 written by a requester that may hold the lock while nobody does is neither a claim nor a release:
the model ignores it and records nothing (DESIGN CHOICE, log 54). -/
def shpLockWrite (s : State) (who : Requester) (v : Word64) : State :=
  s.letIn who shpPage (fun s =>
    let id := requesterId who
    let x := getBits v 15 0
    let holder := s.fld shpPage Fld.SHP_LOCK_HOLDER
    if id = 0 then s.shapeCode 0x0208 Fld.SHP_LOCK_HOLDER.off 0
    else if holder = 0 ∧ x = id then s.setFld shpPage Fld.SHP_LOCK_HOLDER id
    else if holder = 0 ∧ x = 0 then s
    else if holder = id ∧ x = 0 then s.setFld shpPage Fld.SHP_LOCK_HOLDER 0
    else s.shapeCode 0x0208 Fld.SHP_LOCK_HOLDER.off 0)

/-- SHP_LOCK_RELEASE (R29): the device releases the lock of a holder that can no longer release it; LAST_LOST takes its
ID and BLOCK_EVT bit 16 of the SHP page is raised. -/
def State.releaseLock (s : State) (ids : List Nat) : State :=
  let h := s.fld shpPage Fld.SHP_LOCK_HOLDER
  if h ≠ 0 ∧ ids.contains h then
    ((s.setFld shpPage Fld.SHP_LOCK_HOLDER 0).setFld shpPage Fld.SHP_LOCK_LAST_LOST h).raise shpPage 16
  else s

/-- Start writing Live to the slot that does not hold the current pinned Shape (R36). -/
def State.startPin (s : State) : State :=
  let slot := match s.shape.cur with | some 0 => 1 | _ => 0
  ({ s with shape := { s.shape with pin := some ⟨slot, s.shape.live⟩ } }).setFld shpPage Fld.SHP_STATUS_PIN_BUSY 1

/-- The refusals every SHP_CTRL write shares (R28, R33): `none` when the write goes on. -/
def State.ctrlRefusal? (s : State) (who : Requester) (c : Word64) : Option Code :=
  let n := getBits c 0 0 + getBits c 1 1 + getBits c 3 3
  if requesterId who = 0 ∨ s.fld shpPage Fld.SHP_LOCK_HOLDER ≠ requesterId who then some 0x0208
  else if getBits c 2 2 = 1 ∧ s.shape.pin.isSome then some 0x0201
  else if 1 < n then some 0x0206
  else if n = 1 ∧ s.shape.op.isSome then some 0x0201
  else none

/-- LAST_OP's number of the operation that a SHP_CTRL write asks for: 1 commit, 2 revert, 4 discard, 3 a pin alone (Table 2.12). -/
def ctrlOp (c : Word64) : Nat :=
  if getBits c 0 0 = 1 then 1 else if getBits c 1 1 = 1 then 2 else if getBits c 3 3 = 1 then 4 else 3

/-- Pending with the trim overrides that come with a COMMIT write, if any do (log 16). -/
def State.stageOverrides (s : State) (ov : Option (List (Nat × Nat × Bool))) : State :=
  match ov with
  | none => s
  | some l => { s with shape := { s.shape with pend := { s.shape.pend with overrides := l } } }

/-- Begin a commit (R30, R31): BUSY, the fetch hold, and what is busy now. -/
def State.beginCommit (s : State) (pin : Bool) : State :=
  ({ s with shape := { s.shape with op := some (s.commitOp pin) } }).setFld shpPage Fld.SHP_STATUS_BUSY 1

/-- Begin a revert, or refuse it (R35). -/
def State.beginRevert (s : State) (pin : Bool) : State :=
  let ch := changedParts s.shape.live s.shape.prior
  if s.shape.prior.gen = 0 then s.shapeRefuse 2 0x0207 Fld.SHP_CTRL_REVERT.off Fld.SHP_CTRL_REVERT.lo
  else if bankDiffers s.shape.pend s.shape.live then
    s.shapeRefuse 2 0x0205 Fld.SHP_CTRL_REVERT.off Fld.SHP_CTRL_REVERT.lo
  else if ch.any (fun p => !s.idle p) then s.shapeRefuse 2 0x0202 Fld.SHP_CTRL_REVERT.off Fld.SHP_CTRL_REVERT.lo
  else
    ({ s with shape := { s.shape with op := some ⟨.revert, true, pin, ch, [], [], [], []⟩ } }).setFld shpPage Fld.SHP_STATUS_BUSY 1

/-- DISCARD: Pending becomes a copy of Live (Table 2.11, R33). -/
def State.discard (s : State) (pin : Bool) : State :=
  let s := ({ s with shape := { s.shape with pend := { s.shape.live with gen := s.shape.nextGen } } }).setDirty
  let s := s.shapeDone 4
  if pin then s.startPin else s

/-- A pin that follows an operation, or stands alone (R33, R36): refused while one is under way. -/
def State.pinNow (s : State) : State :=
  if s.shape.pin.isSome then s.shapeRefuse 3 0x0201 Fld.SHP_CTRL_PIN.off Fld.SHP_CTRL_PIN.lo else s.startPin

/-- A write of SHP_CTRL (Table 2.11, R33), with the trim overrides of a commit, if it carries any. -/
def shpCtrlWrite (s : State) (who : Requester) (c : Word64) (ov : Option (List (Nat × Nat × Bool))) : State :=
  s.letIn who shpPage (fun s =>
    match s.ctrlRefusal? who c with
    | some code =>
      if code = 0x0208 then s.shapeCode code Fld.SHP_CTRL_COMMIT.off 0 else s.shapeRefuse (ctrlOp c) code Fld.SHP_CTRL_COMMIT.off 0
    | none =>
      let pin := getBits c 2 2 = 1
      if getBits c 0 0 = 1 then ((s.stageOverrides ov).setDirty).beginCommit pin
      else if getBits c 1 1 = 1 then s.beginRevert pin
      else if getBits c 3 3 = 1 then s.discard pin
      else if pin then s.startPin
      else s)

/-- The end of the commit check (R30, R482). -/
def shapeCommitCheckDone (s : State) : State :=
  match s.shape.op with
  | some op =>
    if op.kind = .commit ∧ op.passed = false then
      match s.commitFail? s.shape.pend op with
      | none => { s with shape := { s.shape with op := some { op with passed := true } } }
      | some f =>
        let result := if f.cross then f.code else 0x020F
        let s := ({ s with shape := { s.shape with op := none } }).setFld shpPage Fld.SHP_STATUS_BUSY 0
        let s := ((s.setFld shpPage Fld.SHP_FAIL_FAIL_PAGE f.pg).setFld shpPage Fld.SHP_FAIL_FIELD_OFFSET f.off).setFld
          shpPage Fld.SHP_FAIL_CODE f.code
        s.shapeRefuse 1 result f.off f.lsb
    else s
  | none => s

/-- The end of a pin's write and read-back (R36). -/
def shapePinDone (s : State) (ok : Bool) : State :=
  match s.shape.pin with
  | none => s
  | some p =>
    let seq := 1 + max (match s.shape.slot0 with | some n => n.seq | none => 0)
      (match s.shape.slot1 with | some n => n.seq | none => 0)
    let slot : NvmSlot := ⟨ok, seq, p.bank⟩
    let sh := { s.shape with pin := none, slot0 := if p.slot = 0 then some slot else s.shape.slot0,
                              slot1 := if p.slot = 0 then s.shape.slot1 else some slot }
    let s := ({ s with shape := sh }).setFld shpPage Fld.SHP_STATUS_PIN_BUSY 0
    if ok then
      (({ s with shape := { s.shape with cur := some p.slot } }).setFld shpPage Fld.SHP_GEN_PP_PINNED p.bank.gen).shapeDone 3
    else
      (s.shapeRefuse 3 0x020D Fld.SHP_CTRL_PIN.off Fld.SHP_CTRL_PIN.lo).recordError
        { source := srcOf shpPage, cls := 1, code := 0x020D }

/-- SH_FIELD_WRITE (R27). -/
def execShFieldWrite (who : Requester) (off : Nat) (w : Width) (v : Word64) (s : State) :
    Host.Outcome State Fault Refusal := State.done (shFieldWrite s who off w v)

/-- SHP_LOCK_WRITE (R28). -/
def execShpLockWrite (who : Requester) (v : Word64) (s : State) : Host.Outcome State Fault Refusal :=
  State.done (shpLockWrite s who v)

/-- SHAPE_COMMIT (R30): the SHP_CTRL write with COMMIT set, and the trim overrides staged with it (log 16). -/
def execShapeCommit (who : Requester) (ctrl : CommitWrite) (s : State) : Host.Outcome State Fault Refusal :=
  State.done (shpCtrlWrite s who (ctrl.word ||| 1) (some ctrl.overrides))

/-- SHAPE_COMMIT_CHECK_DONE (R482). -/
def execShapeCommitCheckDone (s : State) : Host.Outcome State Fault Refusal := State.done (shapeCommitCheckDone s)

/-- SHAPE_REVERT (R35): the SHP_CTRL write with REVERT set. -/
def execShapeRevert (who : Requester) (ctrl : Word64) (s : State) : Host.Outcome State Fault Refusal :=
  State.done (shpCtrlWrite s who (ctrl ||| 2) none)

/-- SHAPE_PIN (R36): the SHP_CTRL write with PIN set. -/
def execShapePin (who : Requester) (ctrl : Word64) (s : State) : Host.Outcome State Fault Refusal :=
  State.done (shpCtrlWrite s who (ctrl ||| 4) none)

/-- SHAPE_PIN_DONE (R36). -/
def execShapePinDone (ok : Bool) (s : State) : Host.Outcome State Fault Refusal := State.done (shapePinDone s ok)

/-- SHAPE_DISCARD (R33): the SHP_CTRL write with DISCARD set. -/
def execShapeDiscard (who : Requester) (ctrl : Word64) (s : State) : Host.Outcome State Fault Refusal :=
  State.done (shpCtrlWrite s who (ctrl ||| 8) none)

end Sys2Proof.Machine
end

