-- ==== Sys2Proof/Machine/KvSlots.lean ====
section
/-!
DEFINITION. The slot state table of a partition's KV pool and host tier, runs, and the abandoning of moves (R230 to R236,
R245, R248).
-/
namespace Sys2Proof.Machine

open Sys2Proof

/-- SLOTS of a partition's pool. -/
def State.kvSlots (s : State) (p : Nat) : Nat := s.sh (partPage p) Fld.PART_KV_POOL_GEOM_SLOTS
/-- HSLOTS of a partition's host tier. -/
def State.kvHslots (s : State) (p : Nat) : Nat := s.sh (partPage p) Fld.PART_KV_HOST_GEOM_HSLOTS
/-- SLOT_BYTES. -/
def State.slotBytes (s : State) (p : Nat) : Nat := 64 * s.sh (partPage p) Fld.PART_KV_POOL_GEOM_SLOT_UNITS
/-- Memory key of a slot state entry (R231). -/
def State.slotKey (s : State) (p i : Nat) : Nat := s.sh (partPage p) Fld.PART_KV_STATE_BASE_BASE + 16 * i
/-- Word 0 of a slot state entry. -/
def State.slotW0 (s : State) (p i : Nat) : Nat := s.rd64 (s.slotKey p i)
/-- Word 1 of a slot state entry. -/
def State.slotW1 (s : State) (p i : Nat) : Nat := s.rd64 (s.slotKey p i + 8)
/-- STATE of a slot: 0 FREE, 1 ALLOCATED, 2 MOVING, 3 LIMBO, 4 CONT (Table 10.3). -/
def State.slotSt (s : State) (p i : Nat) : Nat := s.slotW0 p i / 2 ^ 56 % 8
/-- OWNER of a run. -/
def State.slotOwner (s : State) (p i : Nat) : Nat := s.slotW0 p i % 2 ^ 48
/-- SPAN of a run. -/
def State.slotSpan (s : State) (p i : Nat) : Nat := s.slotW0 p i / 2 ^ 48 % 32
/-- LAST_USE of a run. -/
def State.slotUse (s : State) (p i : Nat) : Nat := s.slotW1 p i % 2 ^ 48
/-- PIN of a run. -/
def State.slotPin (s : State) (p i : Nat) : Nat := s.slotW1 p i / 2 ^ 48

/-- Set word 0 of a slot. -/
def State.setSlotW0 (s : State) (p i st span owner : Nat) : State :=
  s.wr64 (s.slotKey p i) (owner % 2 ^ 48 + span % 32 * 2 ^ 48 + st * 2 ^ 56)
/-- Change the STATE of a run's first slot. -/
def State.setSlotSt (s : State) (p i st : Nat) : State := s.setSlotW0 p i st (s.slotSpan p i) (s.slotOwner p i)
/-- Set LAST_USE, PIN left intact (R231). -/
def State.setSlotUse (s : State) (p i use : Nat) : State :=
  s.wr64 (s.slotKey p i + 8) (use % 2 ^ 48 + s.slotPin p i * 2 ^ 48)

/-- Mark a run: its first slot with a state and an owner, the rest CONT (R232). -/
def State.markRun (s : State) (p i span st owner : Nat) : State :=
  (List.range span).foldl (fun s j => if j = 0 then s.setSlotW0 p i st span owner else s.setSlotW0 p (i + j) 4 0 0) s

/-- Take a run of a tier: LAST_USE the current stroke, PIN 0 (R232, R239). -/
def State.takeRun (s : State) (p i span st owner : Nat) : State :=
  (s.markRun p i span st owner).wr64 (s.slotKey p i + 8) (s.strokeNo % 2 ^ 48)

/-- Every slot of a run becomes FREE. -/
def State.freeRun (s : State) (p i : Nat) : State :=
  (List.range (s.slotSpan p i)).foldl (fun s j => s.setSlotW0 p (i + j) 0 0 0) s

/-- First and number of slot-table entries of a tier (R231). -/
def State.tier (s : State) (p : Nat) (host : Bool) : Nat × Nat :=
  if host then (s.kvSlots p, s.kvHslots p) else (0, s.kvSlots p)

/-- The lowest-indexed run of FREE slots of a tier (R232): its slot-table index. -/
def State.findRun (s : State) (p : Nat) (host : Bool) (span : Nat) : Option Nat :=
  let (base, n) := s.tier p host
  if span = 0 then none
  else ((List.range (n + 1 - span)).find? (fun i => (List.range span).all (fun j => s.slotSt p (base + i + j) == 0))).map
    (fun i => base + i)

/-- Slots of a tier in a state; a LIMBO run counts its SPAN (R236, Table 10.7). -/
def State.tierCount (s : State) (p : Nat) (host : Bool) (st : Nat) : Nat :=
  let (base, n) := s.tier p host
  ((List.range n).map (fun i => if s.slotSt p (base + i) = st then (if st = 3 then s.slotSpan p (base + i) else 1) else 0)).sum

/-- The walk epoch CUR of a partition (R233). -/
def State.epochCur (s : State) (p : Nat) : Nat := s.fld (partPage p) Fld.PART_KV_EPOCH_CUR_CUR

/-- CUR increases by 1 (R233). -/
def State.epochAdv (s : State) (p : Nat) : State :=
  s.setFld (partPage p) Fld.PART_KV_EPOCH_CUR_CUR (s.epochCur p + 1)

/-- PART_KV_EPOCH_OLD: the oldest epoch an in-flight command of the partition holds, or CUR (R233). -/
def State.epochOld (s : State) (p : Nat) : Nat :=
  (s.cmds.filterMap (fun c => if c.part = p then c.epoch else none)).foldl min (s.epochCur p)

/-- CLU_AS_EPOCH_OLD: the oldest epoch a sequencer's commands hold (R233). -/
def State.asEpochOld (s : State) (k : Nat) : Nat :=
  (s.cmds.filterMap (fun c => if c.ccp = k then c.epoch else none)).foldl min
    (match s.clusterPart? k with | some p => s.epochCur p | none => 0)

/-- A run is released to LIMBO: CUR increases by 1 and tags it (R236). -/
def State.toLimbo (s : State) (p i : Nat) : State :=
  let s := (s.setSlotSt p i 3).epochAdv p
  { s with kvLimbo := s.kvLimbo ++ [(p, i, s.epochCur p)] }

/-- LIMBO runs whose tag the partition's oldest epoch has reached become FREE (R236). -/
def State.limboRelease (s : State) (p : Nat) : State :=
  let old := s.epochOld p
  let due := s.kvLimbo.filter (fun x => x.1 == p && decide (x.2.2 ≤ old))
  let s := due.foldl (fun s x => s.freeRun p x.2.1) s
  { s with kvLimbo := s.kvLimbo.filter (fun x => !(x.1 == p && decide (x.2.2 ≤ old))) }

/-- Every slot of a tier becomes FREE (R230). -/
def State.freeTier (s : State) (p : Nat) (host : Bool) : State :=
  (List.range (s.tier p host).2).foldl (fun s i => s.setSlotW0 p ((s.tier p host).1 + i) 0 0 0) s

/-- Every slot of a partition's pool and host tier becomes FREE, with no move and no LIMBO left (R230, Table 18.4). -/
def State.freeTable (s : State) (p : Nat) : State :=
  let s := (s.freeTier p false).freeTier p true
  { s with kvLimbo := s.kvLimbo.filter (fun x => x.1 != p), kvMoves := s.kvMoves.filter (fun m => m.part != p) }

/-- A move fails or is abandoned: the new run becomes FREE, the source returns to ALLOCATED unless another move holds it or
it has left (R245 step 5, R248). -/
def State.dropMove (s : State) (m : KvMove) : State :=
  let s := { s with kvMoves := eraseFirst (fun x => x == m) s.kvMoves }
  let s := s.freeRun m.part m.dst
  if s.slotSt m.part m.src = 2 && !(s.kvMoves.any (fun x => x.part == m.part && x.src == m.src)) then
    s.setSlotSt m.part m.src 1
  else s

/-- LIMBO slots become FREE and pages in motion return to where they were, for the partitions that `mine` names (Table 18.4, note 5). -/
def State.settleKv (s : State) (mine : Nat → Bool) : State :=
  let s := (s.kvMoves.filter (fun m => mine m.part)).foldl (fun s m => s.dropMove m) s
  let s := (s.kvLimbo.filter (fun x => mine x.1)).foldl (fun s x => s.freeRun x.1 x.2.1) s
  { s with kvLimbo := s.kvLimbo.filter (fun x => !mine x.1), kvMoves := s.kvMoves.filter (fun m => !mine m.part) }

/-- Abandon the page moves of a command (R248). -/
def State.abandonMoves (s : State) (r q : Nat) : State :=
  (s.kvMoves.filter (fun m => m.cmd == some (r, q))).foldl (fun s m => s.dropMove m) s

/-- Progress of SEQ_PARK and SEQ_UNPARK in `prog`: head address, the epoch it waits for, next entry, then the reserved runs not
yet used. -/
def parkProg (c : InFlight) : Option (Nat × List Nat) :=
  if c.cmd.op = 0x92 ∨ c.cmd.op = 0x93 then
    match c.prog with
    | h :: _ :: _ :: rs => some (h, rs)
    | _ => none
  else none

/-- Memory key of a device address of a partition; the address itself where it does not translate. -/
def State.keyOf (s : State) (p a : Nat) : Nat := match s.xlate (some p) a with | .ok k => k | .error _ => a

/-- Work a command leaves behind when it ends early: its page moves are abandoned, and a park or unpark clears EDIT and gives
back its reserved runs (R248). -/
def State.dropWork (s : State) (c : InFlight) : State :=
  let s := s.abandonMoves c.ring c.seq
  match parkProg c with
  | none => s
  | some (h, rs) =>
    let s := rs.foldl (fun s i => s.freeRun c.part i) s
    let k := s.keyOf c.part (h + 24)
    s.wr64 k (s.rd64 k / 2 * 2)

end Sys2Proof.Machine
end

