-- ==== Sys2Proof/Machine/Rings.lean ====
section
/-!
DEFINITION. Rings, doorbells, semaphores, starting and completing commands, and the control opcodes (R71 to R95, R485, R486,
R57 to R61).
-/
namespace Sys2Proof.Machine

open Sys2Proof

/-! ### Fields of a ring (Table 4.3) -/

/-- LOG2_ENTRIES of the command ring. -/
def Ring.log2 (r : Ring) : Nat := getBits r.cfg 4 0
/-- LOC of the command ring: host memory. -/
def Ring.inHost (r : Ring) : Bool := getBits r.cfg 5 5 == 1
/-- PORT of the command ring. -/
def Ring.port (r : Ring) : Nat := getBits r.cfg 6 6
/-- CCP: the serving cluster, a global cluster index. -/
def Ring.ccp (r : Ring) : Nat := getBits r.cfg 14 8
/-- CONTEXT. -/
def Ring.context (r : Ring) : Nat := getBits r.cfg 19 16
/-- EN. -/
def Ring.en (r : Ring) : Bool := getBits r.cfg 20 20 == 1
/-- VECTOR. -/
def Ring.vector (r : Ring) : Nat := getBits r.cfg 42 32
/-- LOG2_ENTRIES of the completion ring. -/
def Ring.cqLog2 (r : Ring) : Nat := getBits r.cqCfg 4 0
/-- LOC of the completion ring. -/
def Ring.cqInHost (r : Ring) : Bool := getBits r.cqCfg 5 5 == 1
/-- PORT of the completion ring. -/
def Ring.cqPort (r : Ring) : Nat := getBits r.cqCfg 6 6
/-- The bits of PART_RING_CFG that are fields, EN apart. -/
def ringCfgMask : Word64 := 0x7FF000F7F7F
/-- The bits of PART_RING_CQ_CFG that are fields. -/
def ringCqMask : Word64 := 0x7F

/-- `a − b` modulo 2^32 (R75). -/
def sub32 (a b : Nat) : Nat := (a + 2 ^ 32 - b % 2 ^ 32) % 2 ^ 32

/-! ### Host memory access (R353, R355, R367) -/

/-- The code of an access to host memory for a partition through a port, 0 when it goes through. -/
def State.hostCode (s : State) (h p a n : Nat) : Code :=
  if !s.reachable h p then 0x030A
  else if !s.linked h then 0x0C05
  else match s.hostFaults.find? (fun f => f.1 == h && rangesMeet (a, n) (f.2.1, f.2.2.1)) with
    | some f => f.2.2.2
    | none => 0

/-- Key of a byte of host memory: each port reaches its own I/O address space (R355, log 21). -/
def hostKey (h a : Nat) : Nat := h * 2 ^ 64 + a % 2 ^ 64

/-- Read host memory through a port. -/
def State.rdHost (s : State) (h a n : Nat) : List Byte := s.hrds (hostKey h a) n

/-- Write host memory through a port. -/
def State.wrHost (s : State) (h a : Nat) (b : List Byte) : State := s.hwrs (hostKey h a) b

/-! ### The command (R78) -/

/-- The fields of a command's 64 bytes (Table 4.5). -/
def parseCmd (b : List Byte) : Cmd :=
  { op := bitsAt b 0 7 0, sub := bitsAt b 1 7 0, tag := leAt b 2 2, flags := leAt b 4 4,
    notBefore := leAt b 8 6, deadline := leAt b 14 6,
    w0 := bitsAt b 20 11 0, w1 := bitsAt b 20 23 12, extLen := bitsAt b 20 31 24,
    sigIdx := bitsAt b 24 11 0, sigOp := bitsAt b 24 13 12, rsvd := bitsAt b 24 31 14,
    arg := leAt b 28 4, w0Val := leAt b 32 8, w1Val := leAt b 40 8, sigVal := leAt b 48 8, payload := leAt b 56 8 }

/-- A common flag of a command (Table 4.6). -/
def Cmd.flag (c : Cmd) (i : Nat) : Bool := c.flags.testBit i
/-- WAIT0_EN. -/
def Cmd.wait0En (c : Cmd) : Bool := c.flag 0
/-- WAIT1_EN. -/
def Cmd.wait1En (c : Cmd) : Bool := c.flag 1
/-- SIG_EN. -/
def Cmd.sigEn (c : Cmd) : Bool := c.flag 2
/-- SIG_ONLY_OK. -/
def Cmd.sigOnlyOk (c : Cmd) : Bool := c.flag 3
/-- IRQ. -/
def Cmd.irq (c : Cmd) : Bool := c.flag 4
/-- NO_RECORD. -/
def Cmd.noRecord (c : Cmd) : Bool := c.flag 5
/-- FENCE_PRIOR. -/
def Cmd.fencePrior (c : Cmd) : Bool := c.flag 6
/-- FLAGS[31:16], the opcode's own. -/
def Cmd.opFlags (c : Cmd) : Nat := c.flags / 2 ^ 16

/-! ### Semaphores (R82 to R85, R485) -/

/-- The value a signal or ATOMIC leaves (R84, R81 SUBOPs 0 to 6). -/
def semOp (op old v cmp : Nat) : Nat :=
  match op with
  | 0 => (old + v) % 2 ^ 64
  | 1 => max old v
  | 2 => min old v
  | 3 => v
  | 4 => if old = cmp then v else old
  | 5 => old &&& v
  | _ => old ||| v

/-- A signal's new word: SIG_OP 0 STORE, 1 ADD, 2 MAX (R84). -/
def sigWord (op old v : Nat) : Nat :=
  match op with
  | 0 => v
  | 1 => (old + v) % 2 ^ 64
  | _ => max old v

/-- Apply a signal to a semaphore word (R84, R485): `none` when an ADD or MAX meets uncorrectable data. -/
def State.applySignal (s : State) (k op v : Nat) : Option State :=
  if op ≠ 0 ∧ s.badIn k 8 then none
  else some ((s.wr64 k (sigWord op (if op = 0 then 0 else s.rd64 k) v)).observe)

/-! ### Stroke fields (R57, R58) -/

/-- Slip offset of a command's context (R57). -/
def State.slipOf (s : State) (c : InFlight) : Nat := (s.ctx c.part c.ctx).slip

/-- The not-before is met: none, reached, or the counter is past 2^48 − 1 (R58, R78). -/
def State.notBeforeMet (s : State) (c : InFlight) : Bool :=
  c.cmd.notBefore == 0 || decide (c.cmd.notBefore + s.slipOf c ≤ s.strokeNo) || decide (2 ^ 48 ≤ s.strokeNo)

/-- The deadline is missed at the present stroke (R59, R78). -/
def State.deadlineMissed (s : State) (c : InFlight) : Bool :=
  c.cmd.deadline != 0 && (decide (c.cmd.deadline + s.slipOf c ≤ s.strokeNo) || decide (2 ^ 48 ≤ s.strokeNo))

/-! ### Starting (R81, R87, R88, R404, R405, R427, R428) -/

/-- An earlier FENCE holds the command back (R81). -/
def State.fenced (s : State) (c : InFlight) : Bool :=
  s.cmds.any (fun f => f.cmd.op == 1 && decide (f.order < c.order) &&
    (if f.cmd.sub = 0 then f.ring == c.ring else f.part == c.part && f.ctx == c.ctx))

/-- FENCE_PRIOR: an earlier command of the ring is not completed (Table 4.6). -/
def State.priorPending (s : State) (c : InFlight) : Bool :=
  c.cmd.fencePrior && s.cmds.any (fun f => f.ring == c.ring && decide (f.order < c.order))

/-- The partition's clusters sleep or a reset, Block-hold or trip stops its work (R423, R428, R429, R437). -/
def State.partAsleep (s : State) (p : Nat) : Bool :=
  s.fld (partPage p) Fld.PART_PWR_STATE != 0 || (s.part p).resetting ||
    s.fld crnPage Fld.CRN_PWR_STATUS_STATE != 0 || s.pwr.tripped

/-- A block takes new work: it is not under engine reset and its EN has not been written 0 since it was enabled (R422, Table 2.3). -/
def State.takesWork (s : State) (pg : Nat) : Bool := !s.shape.engineResets.contains pg && !s.shape.stopped.contains pg

/-- Its units and its partition's page take work, its engines have room for one more descriptor, 64 each (R87), and its partition runs
fewer than FUL_MAX commands on its Fuller (R400). -/
def State.engineRoom (s : State) (c : InFlight) : Bool :=
  !s.shape.stopped.contains (partPage c.part) &&
  (s.cmdEngines c).all (fun e => decide (s.engineLoad e < 64)) &&
  (s.cmdPages c).all (fun pg => s.takesWork pg && (pgClass pg != 10 ||
    decide ((s.cmds.filter (fun d => d.issued && s.workOn pg d && d.part == c.part)).length <
      s.sh (partPage c.part) Fld.PART_DEF_FUL_MAX)))

/-- A command may start (R88): it waits, its context is resident and not draining, its waits and not-before are met, no
fence holds it and its engines have room. -/
def State.startable (s : State) (c : InFlight) : Bool :=
  c.phase == .waiting && !c.saved && c.met0 && c.met1 && s.notBeforeMet c && !s.fenced c && !s.priorPending c &&
    (s.ctx c.part c.ctx).st == .resident && !s.partAsleep c.part && s.engineRoom c

/-- A command starts: it takes its place in the order of starts, its cluster leaves Nap (R427) and its context has made progress
(R448). -/
def State.started (s : State) (c : InFlight) : State :=
  let s := { s with pwr := { s.pwr with napping := s.pwr.napping.filter (fun k => k != c.ccp) } }
  let s := s.modCmd c.ring c.seq (fun x => { x with startNo := s.starts })
  ({ s with starts := s.starts + 1 }).modCtx c.part c.ctx (fun x => { x with progress := true })

/-- A register word says that its channel's traffic is held: MC_STATUS.STATE is RETRAINING or RECALIBRATING (R316, R317). -/
def holdsTraffic (k : Nat) (v : Word64) : Bool :=
  pgClass k == 8 && pgOff k == Fld.MC_STATUS_STATE.off && (getBits v 1 0 == 1 || getBits v 1 0 == 2)

/-- The device as it would be with every held channel out: an access that then differs reaches a held channel. -/
def State.heldOut (s : State) : State :=
  { s with regs := SMap.mapVal s.regs (fun k v => if holdsTraffic k v then setBits v 1 0 3 else v) }

/-- What a command does, unless an access of it reaches a channel whose traffic is held: then it waits, the state as it is (R316, R317). -/
def State.unlessHeld (s : State) (f : State → State) : State :=
  let t := f s
  if s.regs.any (fun x => holdsTraffic x.1 x.2) then
    let u := f s.heldOut
    if u.cmds = t.cmds ∧ u.mem = t.mem ∧ u.rings = t.rings then t else s
  else t

/-- Run a command of a given opcode, if it stands at that ring position and may start; what it does is `f`. -/
def State.runCmd (s : State) (op r q : Nat) (f : State → InFlight → State) : State :=
  let s := s.observe
  match s.cmdAt? r q with
  | none => s
  | some c => if c.cmd.op = op ∧ s.startable c then s.unlessHeld (fun s => f (s.started c) c) else s

/-- A command's context neither runs nor drains: it holds no units (R405, R406). -/
def State.draining (s : State) (c : InFlight) : Bool :=
  match (s.ctx c.part c.ctx).st with
  | .resident => false
  | .saving => (s.ctx c.part c.ctx).drained
  | _ => true

/-- A started command ends with a code, its GOOD_BYTES as counted so far (R86). -/
def State.finish (s : State) (r q : Nat) (code : Code) : State :=
  s.modCmd r q (fun c => { c with phase := .ended, status := code })

/-- Carry a command of a given opcode on: start it with `f` if it may start, or go on with `g` once it has started, while its
context holds its units. -/
def State.contCmd (s : State) (op r q : Nat) (f g : State → InFlight → State) : State :=
  let s := s.observe
  match s.cmdAt? r q with
  | none => s
  | some c =>
    if c.cmd.op ≠ op then s
    else if s.startable c then s.unlessHeld (fun s => f ((s.started c).modCmd r q (fun x => { x with phase := .started })) c)
    else if c.phase = .started ∧ c.saved = false ∧ s.draining c = false ∧ s.partAsleep c.part = false then
      s.unlessHeld (fun s => g s c)
    else s

/-! ### Completing (R85, R86, R89 to R93, R486, R59) -/

/-- PHASE of the next record: 1 on the first pass after each enable, alternating (R89). -/
def Ring.phase (r : Ring) : Nat := if r.cqTail / 2 ^ r.cqLog2 % 2 = 0 then 1 else 0

/-- The 32 bytes of a completion record (Table 4.10). -/
def recordBytes (c : InFlight) (status info stroke phase : Nat) : List Byte :=
  leBytes 2 c.cmd.tag ++ leBytes 2 status ++ leBytes 4 info ++ leBytes 8 stroke ++ leBytes 8 c.good ++
    leBytes 4 c.seq ++ leBytes 4 (c.ring % 2 ^ 14 + phase * 2 ^ 31)

/-- Append an entry to a port's completion log (R368, Table 15.6). -/
def State.logRecord (s : State) (h : Nat) (rec : List Byte) (orig : Nat) (flushed sent : Bool) : State :=
  let tail := s.fld (hpPage h) Fld.HP_CLOG_PTR_TAIL
  let entry := rec ++ leBytes 2 orig ++ leBytes 2 ((if flushed then 1 else 0) + (if sent then 2 else 0)) ++
    leBytes 4 (s.fld (hpPage h) Fld.HP_LOSS_LOSS_SEQ) ++ leBytes 8 (s.hp h).lossStroke ++ leBytes 16 0
  let full := (s.hp h).clogUnread == 65536
  let s := s.modHp h (fun x => { x with clog := SMap.put x.clog tail entry, clogUnread := min 65536 (x.clogUnread + 1) })
  let s := s.setFld (hpPage h) Fld.HP_CLOG_PTR_TAIL (tail + 1)
  let s := if full then
      (s.setFld (hpPage h) Fld.HP_CLOG_PTR_HEAD (s.fld (hpPage h) Fld.HP_CLOG_PTR_HEAD + 1)).addFld (hpPage h)
        Fld.HP_CLOG_LOST_COUNT 1
    else s
  s.raise (hpPage h) 21

/-- Statuses after which a command never signals: a context abort, a watchdog abort or a reset (R86, R448). -/
def neverSignals (code : Code) : Bool := code == 0xF003 || code == 0xF004 || code == 0xF005

/-- Is the signal withheld by the status and the flags (R86, R80)? -/
def InFlight.withheld (c : InFlight) : Bool :=
  c.cmd.sigEn && (c.sig == .bad || (c.cmd.sigOnlyOk && c.status != 0))

/-- Perform the command's signal on a local semaphore (R84, R85, R485), giving the status and whether it was withheld under
SIG_ONLY_OK or because it cannot be performed; a status that never signals performs none (R86). -/
def State.performSignal (s : State) (c : InFlight) : State × Code × Bool :=
  if !c.cmd.sigEn then (s, c.status, false)
  else if c.withheld then (s, c.status, true)
  else if neverSignals c.status then (s, c.status, false)
  else match c.sig with
    | .local k => match s.applySignal k c.cmd.sigOp c.cmd.sigVal with
      | some t => (t, c.status, false)
      | none => (s, if c.status = 0 then 0xF001 else c.status, true)
    | _ => (s, c.status, false)

/-- Every host write of a command was covered by a completed flushing read before a port's loss (Table 15.6): it wrote
through no port that is down or was lost under it, nor through the port of its record. -/
def InFlight.flushedThrough (c : InFlight) (s : State) (h : Nat) : Bool :=
  c.ports.all (fun g => g != h && s.linked g && !c.lostPorts.contains g)

/-- LOG2 of a port's Dwerdo queue pair (Table 15.13). -/
def State.dwLog2 (s : State) (h : Nat) : Nat := s.fld (hpPage h) Fld.HP_DW_CFG_LOG2

/-- Write a Dwerdo completion entry (R372, Table 15.15): its PHASE is 1 on the first pass after each enable; through a lost
port nothing is written. -/
def State.putDw (s : State) (h cid status good : Nat) (irq : Bool) : State :=
  if !s.linked h || s.fld (hpPage h) Fld.HP_DW_CFG_EN == 0 then s
  else
    let q := (s.hp h).dw
    let n := 2 ^ s.dwLog2 h
    let entry := leBytes 2 cid ++ leBytes 2 status ++ leBytes 2 (q.taken % n) ++
      leBytes 2 (if q.written / n % 2 = 0 then 1 else 0) ++ leBytes 8 good
    let s := s.wrHost h ((s.reg (hpPage h + Reg.HP_DW_CQ_BASE)).toNat + 16 * (q.written % n)) entry
    let s := s.modHp h (fun x => { x with dw := { x.dw with written := x.dw.written + 1 } })
    let s := s.setFld (hpPage h) Fld.HP_DW_STATUS_CQ_TAIL ((q.written + 1) % n)
    if irq || status != 0 then s.emit (.msix h 0 3) else s

/-- Write a record to the completion ring, or to a completion log (R90, R92, R368); a command of the Dwerdo queue writes its
Dwerdo completion entry in its place (R372). -/
def State.putRecord (s : State) (c : InFlight) (status info : Nat) : State :=
  match c.dw with
  | some (h, cid) => s.putDw h cid status c.good c.cmd.irq
  | none =>
  let r := s.ring c.ring
  let b := recordBytes c status info s.strokeNo r.phase
  let slot := r.cqTail % 2 ^ r.cqLog2
  let at_ := r.cqBase.toNat + 32 * slot
  let adv (s : State) := s.setRing c.ring { r with cqTail := (r.cqTail + 1) % 2 ^ 32 }
  let irq (s : State) : State :=
    if c.cmd.irq || status != 0 then
      match s.ringIrqFn? c.ring c.part with
      | some (h, fn) => if s.linked h then s.emit (.msix h fn r.vector) else s
      | none => s
    else s
  if r.cqInHost then
    if r.lost || !s.linked r.cqPort then
      s.logRecord r.cqPort (recordBytes c 0xF006 info s.strokeNo r.phase) status (c.flushedThrough s r.cqPort) false
    else
      let s := (adv (s.wrHost r.cqPort at_ b)).modHp r.cqPort (fun x => { x with uncovered := x.uncovered ++ [b] })
      irq s
  else
    match s.xlate (some c.part) at_ with
    | .ok k => irq (adv (s.wrs k b))
    | .error _ => s

/-- A deadline missed at completion (R59). -/
def State.lateAt (s : State) (late : Bool) : State :=
  if late then (s.addFld strPage Fld.STR_LATE_COUNT_COUNT 1).raise strPage 18 else s

/-- Take a command out of the list of those in flight. -/
def State.dropCmd (s : State) (r q : Nat) : State :=
  { s with cmds := s.cmds.filter (fun c => !(c.ring == r && c.seq == q)) }

/-- Complete a command whose work has ended: signal, then record, then it is no longer in flight (R85, R86, R93). -/
def State.complete (s : State) (c : InFlight) : State :=
  let (s, status, held) := s.performSignal c
  let late := s.deadlineMissed c
  let s := s.lateAt late
  let info := c.info ||| (if late then 1 else 0) ||| (if held then 2 else 0)
  let s := if c.cmd.noRecord && status == 0 then s else s.putRecord c status info
  let s := s.dropCmd c.ring c.seq
  let s := match c.tc with
    | some n => s.modTc n (fun t => { t with ip := t.ip ||| 2 })
    | none => s
  s.modCtx c.part c.ctx (fun x => { x with progress := true })

/-- End every command a test picks with a code, without signalling, and write its record (R92, R411, R423, R484). -/
def State.endAll (s : State) (pick : InFlight → Bool) (code : Code) : State :=
  (s.cmds.filter pick).foldl (fun s c =>
    (s.dropWork c).complete { c with status := code, phase := .ended, saved := false }) s

/-! ### Ring configuration (R71 to R73, R354, R409) -/

/-- MSI-X vectors of every function (R349). -/
def msixTableSize : Nat := 2048

/-- The checks of R73 on a ring of a partition, with R409 and R354: the code of the first that fails, with its field. -/
def State.ringCheck? (s : State) (p r : Nat) (x : Ring) : Option (Code × Fld) :=
  let badLog (n : Nat) : Bool := decide (n < 4) || decide (16 < n)
  if !(s.shape.live.clusterMask p).testBit x.ccp then some (0x0309, Fld.PART_RING_CFG_CCP)
  else if badLog x.log2 then some (0x0102, Fld.PART_RING_CFG_LOG2_ENTRIES)
  else if badLog x.cqLog2 then some (0x0102, Fld.PART_RING_CQ_CFG_LOG2_ENTRIES)
  else if x.base.toNat % 4096 ≠ 0 then some (0x0108, Fld.PART_RING_BASE_ADDR)
  else if x.cqBase.toNat % 4096 ≠ 0 then some (0x0108, Fld.PART_RING_CQ_BASE_ADDR)
  else if x.sat.toNat % 4096 ≠ 0 then some (0x0108, Fld.PART_RING_SAT_ADDR)
  else if !x.inHost && !s.hbmRange p x.base.toNat (64 * 2 ^ x.log2) then some (0x0109, Fld.PART_RING_BASE_ADDR)
  else if !x.cqInHost && !s.hbmRange p x.cqBase.toNat (32 * 2 ^ x.cqLog2) then some (0x0109, Fld.PART_RING_CQ_BASE_ADDR)
  else if !s.hbmRange p x.sat.toNat 32768 then some (0x0109, Fld.PART_RING_SAT_ADDR)
  else if x.inHost && !s.reachable x.port p then some (0x030A, Fld.PART_RING_CFG_PORT)
  else if x.cqInHost && !s.reachable x.cqPort p then some (0x030A, Fld.PART_RING_CQ_CFG_PORT)
  else if 2048 ≤ (s.rings.filter (fun y => y.1 != r && y.2.en && y.2.context == x.context && y.2.ccp == x.ccp &&
      s.shape.live.ownsRing p y.1)).length then some (0x0E08, Fld.PART_RING_CFG_CONTEXT)
  else if msixTableSize ≤ x.vector then some (0x0C0A, Fld.PART_RING_CFG_VECTOR)
  else none

/-- The ring a partition's window selects (R72): FIRST until PART_RING_SEL is written. -/
def State.ringSel (s : State) (p : Nat) : Nat :=
  match SMap.get? s.regs (partPage p + Reg.PART_RING_SEL) with
  | some v => v.toNat
  | none => (s.shape.live.rings p).1

/-- A write of PART_RING_CFG (R72, R73). -/
def ringCfgWrite (s : State) (who : Requester) (p : Nat) (v : Word64) : State :=
  let pg := partPage p
  s.letIn who pg (fun s =>
    let r := s.ringSel p
    if !s.shape.live.ownsRing p r then s.refuse pg 0x0305 Reg.PART_RING_CFG
    else
      let x := s.ring r
      let en := getBits v 20 20 = 1
      let fields := v &&& ringCfgMask
      if x.en && fields != (x.cfg &&& ringCfgMask) then s.refuseF pg 0x0105 Fld.PART_RING_CFG_LOG2_ENTRIES
      else if en then
        if x.st = 0 then
          let y := { x with cfg := fields }
          match s.ringCheck? p r y with
          | some (code, f) => s.refuseF pg code f
          | none => s.setRing r { y with cfg := setBits fields 20 20 1, head := 0, tail := 0, cqHead := 0, cqTail := 0,
                                          st := 1, fault := 0, lost := false }
        else s
      else
        let st := if x.st = 1 ∨ x.st = 2 then 3 else x.st
        s.setRing r { x with cfg := fields, st := st })

/-- RING_ENABLE (R73): a PART_RING_CFG write with EN = 1. -/
def execRingEnable (who : Requester) (part : Nat) (v : Word64) (s : State) : Host.Outcome State Fault Refusal :=
  State.done (ringCfgWrite s who part (setBits v 20 20 1))

/-- RING_DISABLE (R73): a PART_RING_CFG write with EN = 0. -/
def execRingDisable (who : Requester) (part : Nat) (v : Word64) (s : State) : Host.Outcome State Fault Refusal :=
  State.done (ringCfgWrite s who part (setBits v 20 20 0))

/-- A DRAINING ring with nothing in flight becomes DISABLED (R73). -/
def ringDrainDone (s : State) (r : Nat) : State :=
  if (s.ring r).st = 3 ∧ s.inflight r = 0 then s.modRing r (fun x => { x with st := 0 }) else s

/-- RING_DRAIN_DONE (R73). -/
def execRingDrainDone (ring : Nat) (s : State) : Host.Outcome State Fault Refusal := State.done (ringDrainDone s ring)

/-! ### Doorbells (R74, R75) -/

/-- A requester reaches a ring's doorbell page: a VF or tidy core only in its own partition's allocation (R74), and a host function
not under Dwerdo (R372). -/
def State.bellOpen (s : State) (who : Requester) (r : Nat) : Bool :=
  s.arrives who && !((match who with | .pf _ | .vf _ _ => true | _ => false) && s.dwerdo) &&
    !(confined who && s.ringPart? r != s.reqPart? who)

/-- A doorbell write reaches a ring, or is ignored (R74). -/
def State.doorbell (s : State) (who : Requester) (r : Nat) (f : State → State) : State :=
  if s.bellOpen who r then f s else s

/-- The words of a ring's doorbell page (Table 4.4). -/
def State.bellWord (s : State) (r off : Nat) : Nat :=
  match off with
  | 0x008 => (s.ring r).head
  | 0x018 => (s.ring r).cqTail
  | _ => 0

/-- What a requester reads at an offset of a ring's doorbell page: 0 from a page it does not reach (R74). -/
def State.doorbellRead (s : State) (who : Requester) (r off : Nat) : Nat := if s.bellOpen who r then s.bellWord r off else 0

/-- A doorbell with AUTO_WAKE wakes a partition in Deep nap; during the entry the wake follows it (R428, Table 18.3). -/
def State.autoWake (s : State) (p : Nat) : State :=
  let pg := partPage p
  if s.fld pg Fld.PART_PWR_AUTO_WAKE = 1 then
    if s.fld pg Fld.PART_PWR_STATE = 2 then (s.setFld pg Fld.PART_PWR_STATE 3).setFld pg Fld.PART_PWR_DEEP_NAP 0
    else if s.fld pg Fld.PART_PWR_STATE = 1 then s.modPart p (fun x => { x with wakeDue := true })
    else s
  else s

/-- A write of DB_TAIL (R75). -/
def dbTailWrite (s : State) (who : Requester) (r : Nat) (v : Word64) : State :=
  s.doorbell who r (fun s =>
    match s.ringPart? r with
    | none => s
    | some p =>
      let x := s.ring r
      let t := getBits v 31 0
      if x.st ≠ 1 then s.refuse (partPage p) 0x0302
      else if t = x.tail then s
      else if sub32 t x.head ≤ 2 ^ x.log2 ∧ sub32 t x.tail ≤ 2 ^ x.log2 then
        (s.setRing r { x with tail := t }).autoWake p
      else s.setRing r { x with st := 2, fault := 0x0306 })

/-- A write of DB_CQ_HEAD (R75). -/
def dbCqHeadWrite (s : State) (who : Requester) (r : Nat) (v : Word64) : State :=
  s.doorbell who r (fun s =>
    match s.ringPart? r with
    | none => s
    | some p =>
      let x := s.ring r
      let h := getBits v 31 0
      if sub32 h x.cqHead ≤ sub32 x.cqTail x.cqHead then s.setRing r { x with cqHead := h }
      else s.refuse (partPage p) 0x0306)

/-- DB_TAIL_WRITE (R75). -/
def execDbTailWrite (who : Requester) (ring : Nat) (v : Word64) (s : State) : Host.Outcome State Fault Refusal :=
  State.done (dbTailWrite s who ring v)

/-- DB_CQ_HEAD_WRITE (R75). -/
def execDbCqHeadWrite (who : Requester) (ring : Nat) (v : Word64) (s : State) : Host.Outcome State Fault Refusal :=
  State.done (dbCqHeadWrite s who ring v)

/-! ### Control opcodes (R60, R81) -/

/-- NOP (R81): ends once its waits and not-before are met. -/
def nopCmd (s : State) (r q : Nat) : State := s.runCmd 0 r q (fun s _ => s.endCmd r q 0 0)

/-- An earlier-fetched command of a FENCE's ring (SUBOP 0) or context (SUBOP 1) has not completed (R81). -/
def State.fenceWaits (s : State) (c : InFlight) : Bool :=
  s.cmds.any (fun f => decide (f.order < c.order) &&
    (if c.cmd.sub = 0 then f.ring == c.ring else f.part == c.part && f.ctx == c.ctx))

/-- FENCE (R81): ends when every earlier-fetched command of its ring or context has completed; until then it waits. -/
def fenceCmd (s : State) (r q : Nat) : State :=
  if (s.cmdAt? r q).any s.fenceWaits then s else s.runCmd 1 r q (fun s _ => s.endCmd r q 0 0)

/-- WAIT_STROKE (R60): ends at once when the counter has reached its effective target; a BARRIER waits for a boundary, where it is
released (R61). -/
def waitStrokeCmd (s : State) (r q : Nat) : State :=
  if (s.cmdAt? r q).any (fun c => c.cmd.opFlags % 2 == 1) then s else s.runCmd 2 r q (fun s _ => s.endCmd r q 0 0)

/-- SIGNAL (R81): its signal is all it does, and is performed as it completes. -/
def signalCmd (s : State) (r q : Nat) : State := s.runCmd 3 r q (fun s _ => s.endCmd r q 0 0)

/-- ATOMIC (R81, R485): one read-modify-write; GOOD_BYTES is the old value, and a word that meets uncorrectable data is
left as it stands with 0xF001. -/
def atomicCmd (s : State) (r q : Nat) : State :=
  s.runCmd 4 r q (fun s c =>
    match s.xlate (some c.part) (leAt c.ext 0 8) with
    | .error e => s.endCmd r q e 0
    | .ok k =>
      if s.badIn k 8 then s.endCmd r q 0xF001 0
      else
        let old := s.rd64 k
        ((s.wr64 k (semOp c.cmd.sub old (leAt c.ext 8 8) (leAt c.ext 16 8))).observe).endCmd r q 0 old)

/-- NOP (R81). -/
def execNop (ring seq : Nat) (s : State) : Host.Outcome State Fault Refusal := State.done (nopCmd s ring seq)
/-- FENCE (R81). -/
def execFence (ring seq : Nat) (s : State) : Host.Outcome State Fault Refusal := State.done (fenceCmd s ring seq)
/-- WAIT_STROKE (R60). -/
def execWaitStroke (ring seq : Nat) (s : State) : Host.Outcome State Fault Refusal := State.done (waitStrokeCmd s ring seq)
/-- SIGNAL (R81). -/
def execSemSignal (ring seq : Nat) (s : State) : Host.Outcome State Fault Refusal := State.done (signalCmd s ring seq)
/-- ATOMIC (R81). -/
def execAtomic (ring seq : Nat) (s : State) : Host.Outcome State Fault Refusal := State.done (atomicCmd s ring seq)

end Sys2Proof.Machine
end

