-- ==== Sys2Proof/Machine/Ctx.lean ====
section
/-!
DEFINITION. Contexts: enabling, commands, the scheduler, pre-emption, save images, inbound windows and aborts
(R401 to R419, R448).
-/
namespace Sys2Proof.Machine

open Sys2Proof

/-! ### Fields of a context (Table 17.8) -/

/-- EN. -/
def Ctx.en (x : Ctx) : Bool := getBits x.cfg 0 0 == 1
/-- QUANTUM in strokes. -/
def Ctx.quantum (x : Ctx) : Nat := getBits x.cfg 16 1
/-- CM_KEEP in MiB per cluster. -/
def Ctx.keep (x : Ctx) : Nat := getBits x.cfg 21 17
/-- YIELD_IDLE. -/
def Ctx.yieldIdle (x : Ctx) : Bool := getBits x.cfg 22 22 == 1
/-- PREEMPT_DL in µs. -/
def Ctx.deadline (x : Ctx) : Nat := getBits x.cfg 51 32
/-- The bits of PART_CTX_CFG that are fields, EN apart. -/
def ctxCfgMask : Word64 := 0xFFFFF007FFFFE

/-- The context a partition's window selects. -/
def State.ctxSel (s : State) (p : Nat) : Nat := s.fld (partPage p) Fld.PART_CTX_SEL_CTX

/-- Rings of a context (R71). -/
def State.ctxRing (s : State) (p c r : Nat) : Bool := s.shape.live.ownsRing p r && (s.ring r).context == c

/-! ### Inbound windows (R412, R413) -/

/-- A region lies in the partition's CM (one cluster's used 24 MiB) or HBM. -/
def State.cmOrHbm (s : State) (p a n : Nat) : Bool :=
  if isCm a then
    decide ((a - cmBase) % 0x2000000 + n ≤ 24 * 2 ^ 20) && (s.physCluster? p ((a - cmBase) / 0x2000000)).isSome
  else s.hbmRange p a n

/-- The code of a device range that must lie in the partition's CM or HBM (R305). -/
def State.rangeCode (s : State) (p a n : Nat) : Code := s.outCode p a (s.cmOrHbm p a n) (isSp a)

/-- Read a context's window table: its VALID entries, or none when it is invalid (R413). -/
def State.readWindows (s : State) (p : Nat) (win : Word64) : Option (List Window) :=
  let n := getBits win 52 48
  let t := getBits win 47 0
  if 16 < n then none
  else if n = 0 then some []
  else if t % 32 ≠ 0 then none
  else match s.rdDev (some p) t (32 * n) with
    | .error _ => none
    | .ok b =>
      let ws := (List.range n).filterMap (fun i =>
        if bitsAt b (32 * i + 8) 26 26 = 1 then
          some (⟨leAt b (32 * i) 6, bitsAt b (32 * i + 8) 24 0, bitsAt b (32 * i + 8) 25 25 == 1, none⟩ : Window)
        else none)
      let ok (w : Window) : Bool :=
        w.base % 64 == 0 && w.len % 64 == 0 && w.len != 0 && decide (w.len ≤ 16 * 2 ^ 20) && s.cmOrHbm p w.base w.len &&
          !(w.park && decide (pkgBase ≤ w.base) && isHbm w.base) && !(!w.park && isCm w.base)
      if ws.all ok then some ws else none

/-- No window of a list overlaps another of it, or one of a list of others. -/
def windowsApart (ws others : List Window) : Bool :=
  (List.range ws.length).all (fun i => match ws[i]? with
    | none => true
    | some w => !(others.any (fun v => rangesMeet (w.base, w.len) (v.base, v.len))) &&
        (List.range i).all (fun j => match ws[j]? with
          | none => true
          | some v => !rangesMeet (w.base, w.len) (v.base, v.len)))

/-- Windows of every other context of a partition. -/
def State.otherWindows (s : State) (p c : Nat) : List Window :=
  ((List.range 16).filter (fun d => d != c)).flatMap (fun d => (s.ctx p d).windows)

/-! ### The save map and the image's layout (R407 to R409) -/

/-- Bytes of a core frame (R408). -/
def coreFrame : Nat := 7602176

/-- C-die of a device address of the partition: of the cluster's die for CM, of the window for HBM. -/
def State.dieOf (s : State) (p a : Nat) : Nat :=
  if isCm a then ((s.physCluster? p ((a - cmBase) / 0x2000000)).getD 0) / 8 else a / dieWindow

/-- Untrimmed clusters of a partition on a die, in logical order. -/
def State.dieClusters (s : State) (p d : Nat) : List Nat := (s.logicalClusters p).filter (fun k => k / 8 == d)

/-- Untrimmed cores of a partition on a die, in logical order. -/
def State.dieCores (s : State) (p d : Nat) : List Nat := (s.dieClusters p d).flatMap s.clusterCores

/-- S_d of R407: the bytes of a save area on a die. -/
def State.areaBytes (s : State) (p d keep : Nat) (ws : List Window) : Nat :=
  coreFrame * (s.dieCores p d).length + (2 ^ 20 + keep * 2 ^ 20) * (s.dieClusters p d).length + 262144 +
    ((ws.filter (fun w => w.park && s.dieOf p w.base == d)).map (fun w => alignUp w.len 65536)).sum

/-- Entry d of a save map must be non-zero (R407). -/
def State.areaNeeded (s : State) (p d : Nat) (ws : List Window) : Bool :=
  (s.shape.live.clusters p).any (fun k => k / 8 == d) || (s.shape.live.stacks p).any (fun k => k / 2 == d) ||
    ws.any (fun w => w.park && s.dieOf p w.base == d)

/-- The save areas a map names: device address and length per die that needs one; none when the map breaks R407. -/
def State.saveAreas (s : State) (p c : Nat) (x : Ctx) (ws : List Window) : Option (List (Nat × Nat)) :=
  let m := getBits x.save 47 0
  let pg := partPage p
  let pool := (s.sh pg Fld.PART_KV_POOL_BASE_BASE,
    s.sh pg Fld.PART_KV_POOL_GEOM_SLOTS * s.sh pg Fld.PART_KV_POOL_GEOM_SLOT_UNITS * 64)
  let taken := pool :: (s.otherWindows p c ++ ws).map (fun w => (w.base, w.len)) ++
    ((List.range 16).filter (fun d => d != c)).flatMap (fun d => match (s.ctx p d).image with
      | some im => (s.ctx p d).areas ++ im.areas
      | none => (s.ctx p d).areas)
  if m % 8 ≠ 0 then none
  else match s.rdDev (some p) m 128 with
    | .error _ => none
    | .ok b =>
      let dies := (List.range 16).filter (fun d => s.areaNeeded p d ws)
      let as := dies.map (fun d => (leAt b (8 * d) 8, s.areaBytes p d x.keep ws, d))
      if as.all (fun a => a.1 != 0 && a.1 % 65536 == 0 && a.1 / dieWindow == a.2.2 && s.hbmRange p a.1 a.2.1 &&
          !(taken.any (fun r => rangesMeet r (a.1, a.2.1))))
      then some (as.map (fun a => (a.1, a.2.1))) else none

/-! ### Bindings to the Resident Model Table (R416, R418) -/

/-- Partition that holds the runtime's HBM state (Table 15.7). -/
def State.rtPart (s : State) : Nat := s.sh (hpPage 0) Fld.HP_CFG_EDIE_RT_PART
/-- Device address of an RMT entry (R416). -/
def State.rmtAddr (s : State) (i : Nat) : Nat := s.sh (page 4 0) Fld.EDIE_RMT_BASE_ADDR + 64 * i

/-- Bindings of a context, when each names a RESIDENT entry of the partition (R418). -/
def State.readBinds (s : State) (p : Nat) (bind : Word64) : Option (List Nat) :=
  let n := getBits bind 51 48
  if 8 < n ∨ (n ≠ 0 ∧ getBits bind 47 0 % 2 ≠ 0) then none
  else match s.rdDev (some p) (getBits bind 47 0) (2 * n) with
    | .error _ => none
    | .ok b =>
      let is := (List.range n).map (fun i => leAt b (2 * i) 2)
      if is.all (fun i => decide (i < 4096) && (match s.rdDev none (s.rmtAddr i + 32) 4 with
          | .ok e => bitsAt e 0 5 0 == p && bitsAt e 0 7 6 == 2
          | .error _ => false))
      then some is else none

/-- Add to the PINS of an RMT entry (R416, R418). -/
def State.pinModel (s : State) (i : Nat) (delta : Int) : State :=
  match s.xlate none (s.rmtAddr i + 24) with
  | .error _ => s
  | .ok k =>
    let w := s.rd64 k
    let pins := ((w / 2 ^ 48 : Nat) : Int) + delta
    s.wr64 k (w % 2 ^ 48 + (pins.toNat % 2 ^ 16) * 2 ^ 48)

/-- Set the LAST_USE of an RMT entry to the counter (R418). -/
def State.useModel (s : State) (i : Nat) : State :=
  match s.xlate none (s.rmtAddr i + 24) with
  | .error _ => s
  | .ok k => s.wr64 k (s.rd64 k / 2 ^ 48 * 2 ^ 48 + s.strokeNo % 2 ^ 48)

/-! ### Enabling and disabling (R402) -/

/-- Record a refusal of a context operation: in BLK_REASON and in LAST_CODE (Table 17.8). -/
def State.ctxRefuse (s : State) (p c : Nat) (code : Code) (f : Fld) : State :=
  (s.modCtx p c (fun x => { x with lastCode := code })).refuseF (partPage p) code f

/-- The checks of R402, in the order of its table, with the windows and bindings read. -/
def State.ctxCheck (s : State) (p c : Nat) (x : Ctx) : Except (Code × Fld) (List Window × List (Nat × Nat) × List Nat) :=
  let count := ((List.range 16).filter (fun d => d != c && (s.ctx p d).en)).length
  if x.quantum = 0 then .error (0x0E05, Fld.PART_CTX_CFG_QUANTUM)
  else if 24 < x.keep then .error (0x0E05, Fld.PART_CTX_CFG_CM_KEEP)
  else if x.deadline < 100 ∨ 1000000 < x.deadline then .error (0x0E05, Fld.PART_CTX_CFG_PREEMPT_DL)
  else if s.sh (partPage p) Fld.PART_DEF_CTX_MAX ≤ count then .error (0x0E05, Fld.PART_CTX_CFG_EN)
  else match s.readWindows p x.win with
    | none => .error (0x0E06, Fld.PART_CTX_WIN_TABLE)
    | some ws =>
      if !windowsApart ws (s.otherWindows p c) then .error (0x0E06, Fld.PART_CTX_WIN_TABLE)
      else match s.saveAreas p c x ws with
        | none => .error (0x0E04, Fld.PART_CTX_SAVE_MAP)
        | some areas => match s.readBinds p x.bind with
          | none => .error (0x0E0D, Fld.PART_CTX_BIND_LIST)
          | some bs => .ok (ws, areas, bs)

/-- A context becomes EMPTY: its image, with the commands of its tidy cores that the image holds, its windows and its pins go (R402,
R418). -/
def State.emptyCtx (s : State) (p c : Nat) : State :=
  let x := s.ctx p c
  let s := x.binds.foldl (fun s i => s.pinModel i (-1)) s
  let s := { s with cmds := s.cmds.filter (fun f => !(f.part == p && f.ctx == c)) }
  s.setCtx p c { x with cfg := setBits x.cfg 0 0 0, st := .empty, image := none, windows := [], areas := [], binds := [], slip := 0,
                        suspendPending := false, abortPending := false, wdCount := 0, drained := false }

/-- A checked context becomes READY, each of its bindings holding a pin (R402, R418). -/
def State.makeReady (s : State) (p c : Nat) (y : Ctx) (ws : List Window) (areas : List (Nat × Nat)) (bs : List Nat) : State :=
  let s := s.setCtx p c { y with cfg := setBits y.cfg 0 0 1, st := .ready, windows := ws, areas := areas, binds := bs,
                                 slip := 0, wdCount := 0, image := none,
                                 suspendPending := false, abortPending := false, drained := false }
  bs.foldl (fun s i => s.pinModel i 1) s

/-- A write of PART_CTX_CFG to the selected context (R402). -/
def ctxCfgWrite (s : State) (who : Requester) (p : Nat) (v : Word64) : State :=
  let pg := partPage p
  s.letIn who pg (fun s =>
    let c := s.ctxSel p
    let x := s.ctx p c
    let en := getBits v 0 0 = 1
    let fields := v &&& ctxCfgMask
    if x.en && fields != (x.cfg &&& ctxCfgMask) then s.ctxRefuse p c 0x0105 Fld.PART_CTX_CFG_QUANTUM
    else if x.en then
      if en then s
      else match x.st with
        | .ready | .suspended | .aborted =>
          if s.rings.any (fun r => s.ctxRing p c r.1 && r.2.st != 0) then s.ctxRefuse p c 0x0E09 Fld.PART_CTX_CFG_EN
          else s.emptyCtx p c
        | _ => s.ctxRefuse p c 0x0E09 Fld.PART_CTX_CFG_EN
    else
      let y := { x with cfg := fields }
      if en then
        if !s.shape.live.defined p then s.ctxRefuse p c 0x0E05 Fld.PART_CTX_CFG_EN
        else match s.ctxCheck p c y with
          | .error (code, f) => s.ctxRefuse p c code f
          | .ok (ws, areas, bs) => s.makeReady p c y ws areas bs
      else s.setCtx p c y)

/-- CONTEXT_ENABLE (R402): a PART_CTX_CFG write with EN = 1. -/
def execContextEnable (who : Requester) (part : Nat) (v : Word64) (s : State) : Host.Outcome State Fault Refusal :=
  State.done (ctxCfgWrite s who part (setBits v 0 0 1))

/-- CONTEXT_DISABLE (R402): a PART_CTX_CFG write with EN = 0. -/
def execContextDisable (who : Requester) (part : Nat) (v : Word64) (s : State) : Host.Outcome State Fault Refusal :=
  State.done (ctxCfgWrite s who part (setBits v 0 0 0))

/-! ### What a context's units hold (R402, R408, R432) -/

/-- Memory ranges of a partition's units that a context's image carries or loses: SP, AM, LDM, staging of every core, and
the CM of every cluster (Table 18.4). -/
def State.unitRanges (s : State) (p : Nat) : List (Nat × Nat) :=
  (s.partCores p).flatMap (fun n => [(spKey n 0, 6 * 2 ^ 20), (amKey n 0, 2 ^ 20), (ldmKey n 0, 2 ^ 16), (stageKey n 0, 2 ^ 16)]) ++
    (s.logicalClusters p).map (fun k => (cmKey k 0, 24 * 2 ^ 20))

/-- Lose the contents of a partition's SP, AM, LDM, staging and CM. -/
def State.loseUnits (s : State) (p : Nat) : State := (s.unitRanges p).foldl (fun s r => s.lose r.1 r.2) s

/-- Offsets of the registers an image carries: CORE_ARITH_STICKY and the summary slots (R408), and what the tidy core's own state
shows of itself, CORE_TC_CTRL, CORE_TC_STATUS and CORE_TC_FAULT_PC (R184, R402, log 35). -/
def imageRegs : List Nat :=
  [Reg.CORE_ARITH_STICKY, Reg.CORE_TC_CTRL, Reg.CORE_TC_STATUS, Reg.CORE_TC_FAULT_PC] ++ (List.range 16).map (fun i => 0x280 + 8 * i)

/-- Summary slots and sticky flags of a partition's cores take 0, and its tidy cores their reset state (Table 18.4). -/
def State.clearSticky (s : State) (p : Nat) : State :=
  (s.partCores p).foldl (fun s n =>
    (imageRegs.foldl (fun s o => s.setReg (page 7 n + o) 0) s).modTc n (fun _ => {})) s

/-! ### Aborting (R411, R448) -/

/-- Abort a context: LAST_CODE, and the status its commands complete with. -/
def State.abortCtx (s : State) (p c : Nat) (lastCode status : Code) (d0 d1 : Nat := 0) : State :=
  let held := (s.ctx p c).st == .resident || (s.ctx p c).st == .saving || (s.ctx p c).st == .restoring
  let s := s.endAll (fun f => f.part == p && f.ctx == c) status
  let rs := SMap.mapVal s.rings (fun r x => if s.ctxRing p c r then stopRing 0xF003 x else x)
  let s := { s with rings := rs }
  let s := if held then (s.loseUnits p).clearSticky p else s
  let s := s.modCtx p c (fun x => { x with
    st := .aborted, image := none, windows := x.windows.map (fun w => { w with redirect := none }), drained := false,
    suspendPending := false, abortPending := false, lastCode := lastCode, aborts := satAdd 32 x.aborts 1 })
  let s := s.raise (partPage p) 17
  let s := if lastCode = 0x0E0E then s.raise (partPage p) 18 else s
  s.recordError { source := srcOf (partPage p), cls := 1, code := lastCode, part := some p, ctx := some c, d0 := d0, d1 := d1 }

/-! ### The scheduler (R403 to R405) -/

/-- Contexts of a partition in a state. -/
def State.ctxsIn (s : State) (p : Nat) (t : CtxSt) : List Nat := (List.range 16).filter (fun c => (s.ctx p c).st == t)

/-- The next context to run (R404): the SWITCH_TO target if READY, else the first READY one after the last resident. -/
def State.nextCtx? (s : State) (p : Nat) : Option Nat :=
  let ready (c : Nat) : Bool := (s.ctx p c).st == .ready
  match (s.part p).switchTo with
  | some c => if ready c then some c else
      ((List.range 16).map (fun i => ((s.part p).last + 1 + i) % 16)).find? ready
  | none => ((List.range 16).map (fun i => ((s.part p).last + 1 + i) % 16)).find? ready

/-- The scheduler may start a restore: the partition is awake and no Shape operation holds it (R31, R428). -/
def State.mayRestore (s : State) (p : Nat) : Bool :=
  s.shape.live.defined p && !s.partAsleep p &&
    s.fld (partPage p) Fld.PART_PWR_DEEP_NAP == 0 &&
    (match s.shape.op with | some op => !op.held.contains p | none => true) &&
    s.pwr.holdDue.isNone && s.pwr.pkgDue.isNone

/-- SCHEDULER_RESTORE_START (R404): with no context resident, saving or restoring, the next READY one starts restoring. -/
def State.startRestore (s : State) (p : Nat) : State :=
  if s.ctxBusy p || !s.mayRestore p then s
  else match s.nextCtx? p with
    | none => s
    | some c =>
      (s.modCtx p c (fun x => { x with st := .restoring })).modPart p (fun y =>
        { y with switchTo := if y.switchTo = some c then none else y.switchTo, last := c, restoreDue := false })

/-- Request the pre-emption of the resident context (R406): fetching stops, since only a resident context is fetched. -/
def State.requestPreempt (s : State) (p c : Nat) : State :=
  if (s.ctx p c).st = .resident then s.modCtx p c (fun x => { x with st := .saving, drained := false }) else s

/-- Another context of the partition is READY. -/
def State.otherReady (s : State) (p c : Nat) : Bool := (s.ctxsIn p .ready).any (fun d => d != c)

/-- QUANTUM_EXPIRY (R404): at the boundary at which the resident context has been RESIDENT for QUANTUM whole strokes. -/
def quantumExpiry (s : State) (p : Nat) : State :=
  match s.resident? p with
  | none => s
  | some c =>
    if (s.ctx p c).residentStrokes < (s.ctx p c).quantum then s
    else if s.otherReady p c then s.requestPreempt p c
    else s.modCtx p c (fun x => { x with residentStrokes := 0 })

/-- A command of the selected context through PART_CTX_CMD (R403). -/
def ctxCmd (s : State) (who : Requester) (p : Nat) (f : Fld) (g : State → Nat → State) : State :=
  s.letIn who (partPage p) (fun s =>
    let c := s.ctxSel p
    let st := (s.ctx p c).st
    let ok : Bool :=
      if f.lo = 0 then st == .ready
      else if f.lo = 1 then !(st == .empty || st == .suspended || st == .aborted)
      else if f.lo = 2 then st == .suspended
      else !(st == .empty || st == .aborted)
    if ok then g s c else s.ctxRefuse p c 0x0E09 f)

/-- SWITCH_TO (R403). -/
def switchTo (s : State) (who : Requester) (p : Nat) : State :=
  ctxCmd s who p Fld.PART_CTX_CMD_SWITCH_TO (fun s c => s.modPart p (fun y => { y with switchTo := some c }))

/-- SUSPEND (R403). -/
def suspendCtx (s : State) (who : Requester) (p : Nat) : State :=
  ctxCmd s who p Fld.PART_CTX_CMD_SUSPEND (fun s c =>
    match (s.ctx p c).st with
    | .ready => s.modCtx p c (fun x => { x with st := .suspended })
    | .resident => (s.modCtx p c (fun x => { x with suspendPending := true })).requestPreempt p c
    | _ => s.modCtx p c (fun x => { x with suspendPending := true }))

/-- RESUME (R403). -/
def resumeCtx (s : State) (who : Requester) (p : Nat) : State :=
  ctxCmd s who p Fld.PART_CTX_CMD_RESUME (fun s c => s.modCtx p c (fun x => { x with st := .ready }))

/-- ABORT (R403, R411). On a context already SAVING it takes effect when the save ends. -/
def abortCmd (s : State) (who : Requester) (p : Nat) : State :=
  ctxCmd s who p Fld.PART_CTX_CMD_ABORT (fun s c => match (s.ctx p c).st with
    | .saving => s.modCtx p c (fun x => { x with abortPending := true })
    | _ => s.abortCtx p c 0xF003 0xF003)

/-! ### Saving (R406 to R410, R414) -/

/-- Commands that are not pre-emptible once started (Table 17.3): UPD_CHECK, collectives, VOTE and PUT, a proposed SYNC
barrier, a contributed POUNCE, ATOMIC and SIGNAL. -/
def nonPreemptible (op : Nat) : Bool :=
  op == 0x50 || (decide (0x60 ≤ op) && decide (op ≤ 0x66)) || op == 2 || op == 0x32 || op == 3 || op == 4

/-- A command keeps the drain of its context from ending (R406); so does a picture in progress (R346). -/
def blocksDrain (c : InFlight) : Bool :=
  c.phase == .ended || (c.phase == .started && (nonPreemptible c.cmd.op || (c.cmd.op == 0x73 && !c.prog.isEmpty)))

/-- Offset of a parked window's image in its die's save area, after the core, cluster and die frames (R407). -/
def State.windowImage (s : State) (p keep d : Nat) (areas : List (Nat × Nat)) (before : List Window) : Nat :=
  let base := ((areas.find? (fun a => a.1 / dieWindow == d)).map (fun a => a.1)).getD 0
  base + coreFrame * (s.dieCores p d).length + (2 ^ 20 + keep * 2 ^ 20) * (s.dieClusters p d).length + 262144 +
    ((before.filter (fun w => w.park && s.dieOf p w.base == d)).map (fun w => alignUp w.len 65536)).sum

/-- Copy known bytes of one range of keys to another, whose other bytes become unknown. -/
def State.copyRange (s : State) (src dst len : Nat) : State :=
  let cells := s.mem.filter (fun c => decide (src ≤ c.1) && decide (c.1 < src + len))
  cells.foldl (fun s c => s.wr (dst + (c.1 - src)) c.2) (s.lose dst len)

/-- Park every window with PARK = 1: copy its region into the image and redirect it (R414). -/
def State.parkWindows (s : State) (p c : Nat) (areas : List (Nat × Nat)) : State :=
  let x := s.ctx p c
  (List.range x.windows.length).foldl (fun s i =>
    match (s.ctx p c).windows[i]? with
    | none => s
    | some w =>
      if w.park then
        let to_ := s.windowImage p x.keep (s.dieOf p w.base) areas (x.windows.take i)
        let s := s.copyRange (s.keyOf p w.base) to_ w.len
        s.modCtx p c (fun y => { y with windows := y.windows.set i { w with redirect := some to_ } })
      else s) s

/-- The drain of a context has ended (R406): its commands are parked in the image, its windows redirected. -/
def preemptDrainDone (s : State) (p : Nat) : State :=
  match (s.ctxsIn p .saving).head? with
  | none => s
  | some c =>
    if (s.ctx p c).drained || s.cmds.any (fun f => f.part == p && f.ctx == c && blocksDrain f) then s
    else
      let x := s.ctx p c
      let s := (s.cmds.filter (fun f => f.part == p && f.ctx == c)).foldl (fun s f => s.abandonMoves f.ring f.seq) s
      let s := { s with cmds := updateWhere (fun f => f.part == p && f.ctx == c) (fun f => { f with saved := true }) s.cmds }
      let s := match s.saveAreas p c x x.windows with
        | some as => s.parkWindows p c as
        | none => s
      s.modCtx p c (fun x => { x with drained := true })

/-- Known bytes of a range, moved to begin at another key. -/
def State.cellsAt (s : State) (src len dst : Nat) : List (Nat × Byte) :=
  (s.mem.filter (fun c => decide (src ≤ c.1) && decide (c.1 < src + len))).map (fun c => (dst + (c.1 - src), c.2))

/-- The state an image carries, by logical core and cluster (R408, R409). -/
def State.imageCells (s : State) (p keep : Nat) : List (Nat × Byte) :=
  let cores := s.partCores p
  let clus := s.logicalClusters p
  ((List.range cores.length).flatMap (fun i => match cores[i]? with
    | none => []
    | some n => s.cellsAt (spKey n 0) (6 * 2 ^ 20) (spKey i 0) ++ s.cellsAt (amKey n 0) (2 ^ 20) (amKey i 0) ++
        s.cellsAt (ldmKey n 0) (2 ^ 16) (ldmKey i 0) ++ s.cellsAt (stageKey n 0) (2 ^ 16) (stageKey i 0))) ++
  ((List.range clus.length).flatMap (fun i => match clus[i]? with
    | none => []
    | some k => s.cellsAt (cmKey k 0) (keep * 2 ^ 20) (cmKey i 0)))

/-- The 4 KiB header of a frame (Table 17.4); the CRC covers state whose layout the spec does not give, and is a free
value (log 3). -/
def frameHeader (unit ctx part seq crc : Nat) : List Byte :=
  leBytes 2 0xF0C7 ++ leBytes 2 1 ++ leBytes 2 unit ++ leBytes 2 0 ++ leBytes 1 ctx ++ leBytes 1 part ++ leBytes 6 0 ++
    leBytes 8 seq ++ leBytes 4 crc ++ leBytes 4068 0

/-- Write one core frame at a device address (R408): header, SP, AM, LDM and staging as known, zero tail. -/
def State.writeCoreFrame (s : State) (p c seq at_ lc n : Nat) : State :=
  let (crc, s) := s.draw
  let s := s.lose at_ coreFrame
  let s := s.wrs at_ (frameHeader lc c p seq (crc.toNat % 2 ^ 32))
  let cells := s.cellsAt (spKey n 0) (6 * 2 ^ 20) (at_ + 0x1000) ++ s.cellsAt (amKey n 0) (2 ^ 20) (at_ + 0x601000) ++
    s.cellsAt (ldmKey n 0) (2 ^ 16) (at_ + 0x701000) ++ s.cellsAt (stageKey n 0) (2 ^ 16) (at_ + 0x712000)
  let s := cells.foldl (fun s x => s.wr x.1 x.2) s
  s.wrs (at_ + 0x732000) (leBytes 57344 0)

/-- Write one cluster frame at a device address (R409). -/
def State.writeClusterFrame (s : State) (p c seq at_ lk k keep : Nat) : State :=
  let (crc, s) := s.draw
  let s := s.lose at_ (2 ^ 20 + keep * 2 ^ 20)
  let s := s.wrs at_ (frameHeader lk c p seq (crc.toNat % 2 ^ 32))
  (s.cellsAt (cmKey k 0) (keep * 2 ^ 20) (at_ + 2 ^ 20)).foldl (fun s x => s.wr x.1 x.2) s

/-- Write every frame of a context's image into its save areas (R407 to R409). -/
def State.writeFrames (s : State) (p c seq keep : Nat) (areas : List (Nat × Nat)) : State :=
  areas.foldl (fun s a =>
    let d := a.1 / dieWindow
    let cores := s.dieCores p d
    let clus := s.dieClusters p d
    let s := (List.range cores.length).foldl (fun s i => match cores[i]? with
      | none => s
      | some n => s.writeCoreFrame p c seq (a.1 + coreFrame * i) ((s.partCores p).idxOf n) n) s
    let cb := a.1 + coreFrame * cores.length
    let s := (List.range clus.length).foldl (fun s i => match clus[i]? with
      | none => s
      | some k => s.writeClusterFrame p c seq (cb + (2 ^ 20 + keep * 2 ^ 20) * i) ((s.logicalClusters p).idxOf k) k keep) s
    s.lose (cb + (2 ^ 20 + keep * 2 ^ 20) * clus.length) 262144) s

/-- The frames of a save area, its window images apart: device address and length (R407 to R409). -/
def State.frameSpan (s : State) (p keep : Nat) (a : Nat × Nat) : Nat × Nat :=
  (a.1, s.areaBytes p (a.1 / dieWindow) keep [])

/-- Known bytes of some ranges of keys. -/
def State.cellsIn (s : State) (spans : List (Nat × Nat)) : List (Nat × Byte) :=
  s.mem.filter (fun x => spans.any (fun a => decide (a.1 ≤ x.1) && decide (x.1 < a.1 + a.2)))

/-- Uncorrectable data stands in some state a save copies (R411). -/
def State.unsound (s : State) (p keep : Nat) (ws : List Window) : Bool :=
  ((s.partCores p).any (fun n => s.badIn (spKey n 0) (6 * 2 ^ 20) || s.badIn (amKey n 0) (2 ^ 20) ||
      s.badIn (ldmKey n 0) (2 ^ 16) || s.badIn (stageKey n 0) (2 ^ 16))) ||
    (s.logicalClusters p).any (fun k => s.badIn (cmKey k 0) (keep * 2 ^ 20)) ||
    ws.any (fun w => w.park && s.badIn (s.keyOf p w.base) w.len)

/-- CONTEXT_SAVE_DONE (R410, R411): the frames are written, the context is READY or SUSPENDED, and the next restore may
start. -/
def contextSaveDone (s : State) (p ns : Nat) : State :=
  match (s.ctxsIn p .saving).head? with
  | none => s
  | some c =>
    let x := s.ctx p c
    if !x.drained then s
    else if x.abortPending then s.abortCtx p c 0xF003 0xF003
    else if s.unsound p x.keep x.windows then s.abortCtx p c 0xF001 0xF003
    else match s.saveAreas p c x x.windows with
      | none => s.abortCtx p c 0x0E04 0xF003
      | some areas =>
        let (seq, s) := s.draw
        let cells := s.imageCells p x.keep
        let cores := s.partCores p
        let regs := (List.range cores.length).flatMap (fun i => match cores[i]? with
          | none => []
          | some n => imageRegs.map (fun o => (page 7 i + o, s.reg (page 7 n + o))))
        let s := s.writeFrames p c seq.toNat x.keep areas
        let tcs := (List.range cores.length).filterMap (fun i => (cores[i]?).map (fun n => (i, s.tc n)))
        let spans := areas.map (s.frameSpan p x.keep)
        let im : Image := ⟨seq.toNat, cells, regs, tcs, areas, spans, s.cellsIn spans, cores.length,
          (s.logicalClusters p).length, x.keep⟩
        let s := s.modCtx p c (fun y => { y with
          st := if y.suspendPending then .suspended else .ready, suspendPending := false, drained := false,
          image := some im, saveNs := min ns (2 ^ 32 - 1) })
        s.startRestore p

/-! ### Restoring (R410, R411, R414) -/

/-- A save area passes an image's check at a restore (R411): every frame byte as written, and none uncorrectable. -/
def State.areaSound (s : State) (p : Nat) (im : Image) (a : Nat × Nat) : Bool :=
  let spans := im.spans.filter (fun x => x.1 == a.1)
  s.cellsIn spans == im.frames.filter (fun x => spans.any (fun b => decide (b.1 ≤ x.1) && decide (x.1 < b.1 + b.2))) &&
    !s.badIn a.1 a.2 && s.checkDev (some p) a.1 1 == 0

/-- The first save area of an image that fails its check: the address a restore failure reports (R411, Table 19.4). -/
def State.failedArea? (s : State) (p : Nat) (im : Image) : Option Nat :=
  (im.areas.find? (fun a => !s.areaSound p im a)).map (fun a => a.1)

/-- An image passes its check at a restore (R411). -/
def State.imageSound (s : State) (p : Nat) (im : Image) : Bool := (s.failedArea? p im).isNone

/-- Put an image's state back onto the physical units that serve its logical ones (R408, R419). -/
def State.loadImage (s : State) (p : Nat) (im : Image) : State :=
  let s := (s.loseUnits p).clearSticky p
  let cores := s.partCores p
  let clus := s.logicalClusters p
  let move (k : Nat) : Option Nat :=
    if 2 ^ 50 ≤ k then (cores[(k - 2 ^ 50) / 0x10000]?).map (fun n => stageKey n (k % 0x10000))
    else if 2 ^ 49 ≤ k then (cores[(k - 2 ^ 49) / 0x10000]?).map (fun n => ldmKey n (k % 0x10000))
    else if 2 ^ 48 ≤ k then (cores[(k - 2 ^ 48) / 0x100000]?).map (fun n => amKey n (k % 0x100000))
    else if spBase ≤ k then (cores[(k - spBase) / 0x800000]?).map (fun n => spKey n ((k - spBase) % 0x800000))
    else (clus[(k - cmBase) / 0x2000000]?).map (fun n => cmKey n ((k - cmBase) % 0x2000000))
  let s := im.cells.foldl (fun s x => match move x.1 with | some k => s.wr k x.2 | none => s) s
  let s := im.tcs.foldl (fun s x => match cores[x.1]? with | some n => s.modTc n (fun _ => x.2) | none => s) s
  im.regs.foldl (fun s x => match cores[pgInst x.1]? with
    | some n => s.setReg (page 7 n + pgOff x.1) x.2
    | none => s) s

/-- Copy the parked windows back into their regions and direct frames to the regions again (R414). -/
def State.unparkWindows (s : State) (p c : Nat) : State :=
  let n := (s.ctx p c).windows.length
  (List.range n).foldl (fun s i =>
    match (s.ctx p c).windows[i]? with
    | none => s
    | some w => match w.redirect with
      | none => s
      | some a =>
        let s := s.copyRange a (s.keyOf p w.base) w.len
        s.modCtx p c (fun y => { y with windows := y.windows.set i { w with redirect := none } })) s

/-- CONTEXT_RESTORE_DONE (R410, R411): the context becomes RESIDENT, or is aborted with 0x0E0E. -/
def contextRestoreDone (s : State) (p ns : Nat) : State :=
  match (s.ctxsIn p .restoring).head? with
  | none => s
  | some c =>
    let x := s.ctx p c
    let bad := match x.image with
      | some im => !s.imageSound p im || x.windows.any (fun w => match w.redirect with
          | some a => s.badIn a w.len
          | none => false)
      | none => false
    if bad then
      s.abortCtx p c 0x0E0E 0xF003 ((x.image.bind (s.failedArea? p)).getD 0)
    else
      let s := match x.image with
        | some im => (s.loadImage p im).unparkWindows p c
        | none => (s.loseUnits p).clearSticky p
      let s := { s with cmds := updateWhere (fun f => f.part == p && f.ctx == c) (fun f => { f with saved := false }) s.cmds }
      let s := s.modCtx p c (fun y => { y with
        st := .resident, image := none, residentStrokes := 0, wholeStroke := false, progress := true,
        switches := satAdd 32 y.switches 1, restoreNs := min ns (2 ^ 32 - 1) })
      let s := (s.raise (partPage p) 16).observe
      if x.suspendPending || s.pwr.holdDue.isSome || s.pwr.pkgDue.isSome then s.requestPreempt p c else s

/-- PREEMPT_DEADLINE_EXPIRY (R411): a drain that has not ended aborts its context. -/
def preemptDeadlineExpiry (s : State) (p : Nat) : State :=
  match (s.ctxsIn p .saving).head? with
  | none => s
  | some c => if (s.ctx p c).drained then s else s.abortCtx p c 0x0E0C 0xF003

/-- PROGRESS_WATCHDOG_EXPIRY (R448). -/
def progressWatchdogExpiry (s : State) (p : Nat) : State :=
  match s.resident? p with
  | none => s
  | some c =>
    let x := s.ctx p c
    if x.wdLimit = 0 ∨ x.wdCount < x.wdLimit then s else s.abortCtx p c 0xF004 0xF004 0 x.wdCount

/-- SWITCH_TO (R403). -/
def execSwitchTo (who : Requester) (part : Nat) (s : State) : Host.Outcome State Fault Refusal := State.done (switchTo s who part)
/-- SUSPEND (R403). -/
def execSuspend (who : Requester) (part : Nat) (s : State) : Host.Outcome State Fault Refusal := State.done (suspendCtx s who part)
/-- RESUME (R403). -/
def execResume (who : Requester) (part : Nat) (s : State) : Host.Outcome State Fault Refusal := State.done (resumeCtx s who part)
/-- ABORT (R411). -/
def execCtxAbort (who : Requester) (part : Nat) (s : State) : Host.Outcome State Fault Refusal := State.done (abortCmd s who part)
/-- QUANTUM_EXPIRY (R404). -/
def execQuantumExpiry (part : Nat) (s : State) : Host.Outcome State Fault Refusal := State.done (quantumExpiry s part)
/-- PREEMPT_DRAIN_DONE (R406). -/
def execPreemptDrainDone (part : Nat) (s : State) : Host.Outcome State Fault Refusal := State.done (preemptDrainDone s part)
/-- CONTEXT_SAVE_DONE (R410). -/
def execContextSaveDone (part ns : Nat) (s : State) : Host.Outcome State Fault Refusal := State.done (contextSaveDone s part ns)
/-- CONTEXT_RESTORE_DONE (R410). -/
def execContextRestoreDone (part ns : Nat) (s : State) : Host.Outcome State Fault Refusal :=
  State.done (contextRestoreDone s part ns)
/-- PREEMPT_DEADLINE_EXPIRY (R411). -/
def execPreemptDeadlineExpiry (part : Nat) (s : State) : Host.Outcome State Fault Refusal :=
  State.done (preemptDeadlineExpiry s part)
/-- PROGRESS_WATCHDOG_EXPIRY (R448). -/
def execProgressWatchdogExpiry (part : Nat) (s : State) : Host.Outcome State Fault Refusal :=
  State.done (progressWatchdogExpiry s part)

end Sys2Proof.Machine
end

