-- ==== Sys2Proof/Machine/Stroke.lean ====
section
/-!
DEFINITION. The stroke unit's sources, lock states and counter loads, STROKE_OUT, and the calendar clock (R43 to R70).  The
boundary itself, which reaches every unit, stands in Machine/Boundary.lean.
-/
namespace Sys2Proof.Machine

open Sys2Proof

/-- A physical function or a Crown: the requesters R21 lets set the time and load the counter. -/
def privileged : Requester → Bool
  | .pf _ => true
  | .crown _ => true
  | _ => false

/-- Main power is present and the package runs: no boot, package reset or loss of main power is under way, and a Shape is Live (R44). -/
def State.running (s : State) : Bool :=
  !s.pwr.mainLost && !s.pwr.booting && s.pwr.pkgReset.isNone && s.pwr.v48 && s.shape.live.gen != 0

/-! ### Lock states (R47, R48) -/

/-- STR_STATUS.LOCK. -/
def State.lock (s : State) : Nat := s.fld strPage Fld.STR_STATUS_LOCK

/-- Change the lock state: each change raises BLOCK_EVT bit 16 (R47). -/
def State.setLock (s : State) (l : Nat) : State :=
  if s.lock = l then s else (s.setFld strPage Fld.STR_STATUS_LOCK l).raise strPage 16

/-- Change what the stroke unit holds. -/
def State.modStroke (s : State) (f : StrokeUnit → StrokeUnit) : State := { s with stroke := f s.stroke }

/-- PTP is slave on a port the unit may use (R47, R51). -/
def State.ptpPresent (s : State) : Bool :=
  s.stroke.ptpSlave || (s.sh strPage Fld.STR_CFG_PTP_ALT_EN == 1 && s.stroke.ptpSlaveAlt)

/-- The acceptance window around an expected boundary, ns: ±0.1 % of the period or ±100 ns if larger (R47). -/
def State.edgeWindow (s : State) : Nat := max (s.stroke.period / 100) 100

/-- The edge a chain of UNLOCKED expects next: its time from the chain's first edge, ns (R47). -/
def StrokeUnit.nextEdge (u : StrokeUnit) : Int := (u.lastEdge + 1) * (10 * u.period)

/-- An edge that starts a chain. -/
def StrokeUnit.startChain (u : StrokeUnit) (off : Int) : StrokeUnit :=
  { u with edge := true, chain := 1, missed := 0, anchor := off, since := 0, lastEdge := 0 }

/-- An edge that the unit ignores: counted in STR_IN_ERR, and it ends a chain (R47). -/
def State.ignoreEdge (s : State) : State :=
  ((s.addFld strPage Fld.STR_IN_ERR_COUNT 1).raise strPage 21).modStroke (fun u => { u with chain := 0 })

/-- An edge in UNLOCKED (R47): the first starts a chain; a later one is judged against the first plus a whole number of periods, and
starts a new chain where the edge expected before it did not come. -/
def State.unlockedEdge (s : State) (off : Int) : State :=
  let u := s.stroke
  let d : Int := u.since * (10 * u.period) + off - u.anchor
  if u.chain = 0 ∨ u.nextEdge + s.edgeWindow < d then s.modStroke (fun u => u.startChain off)
  else if (d - u.nextEdge).natAbs ≤ s.edgeWindow then
    s.modStroke (fun u => { u with edge := true, chain := u.chain + 1, missed := 0, lastEdge := u.lastEdge + 1 })
  else s.ignoreEdge

/-- STROKE_IN_EDGE (R47): `off` is the edge's offset from the unit's own boundary that it stands nearest to while the unit has a source,
and from its own next boundary in UNLOCKED.  An edge within the window is accepted; any other is ignored and counted. -/
def strokeInEdge (s : State) (off : Int) : State :=
  if !s.running || s.stroke.source ≠ 1 then s
  else if s.lock = 0 then s.unlockedEdge off
  else if off.natAbs ≤ s.edgeWindow then s.modStroke (fun u => { u with edge := true, chain := u.chain + 1, missed := 0 })
  else s.ignoreEdge

/-- The source is present again (Table 3.2). -/
def State.sourcePresent (s : State) : Bool :=
  if s.stroke.source = 1 then (s.lock == 0 && decide (4 ≤ s.stroke.chain)) || (s.lock == 3 && decide (16 ≤ s.stroke.chain))
  else if s.stroke.source = 2 then (s.lock == 0 && s.stroke.ptpSlave) || (s.lock == 3 && s.ptpPresent)
  else false

/-- STROKE_SOURCE_PRESENT (R47): UNLOCKED or HOLDOVER to ACQUIRING; phase is measured afresh (R48). -/
def strokeSourcePresent (s : State) : State :=
  if s.running && s.sourcePresent then
    (s.modStroke (fun u => { u with inTol := 0, missed := 0 })).setLock 1
  else s

/-- The value k that a PTP time in ns gives (R53): boundary k lies at EPOCH_S + k × period; a time within the ±20 ns of lock before a
boundary counts as that boundary, and one before the epoch gives 0 (log 55). -/
def State.ptpStroke (s : State) (ptpNs : Nat) : Nat :=
  (ptpNs + 20 - s.stroke.epoch * 10 ^ 9) / (10 * s.stroke.period)

/-- STROKE_LOCK_ACQUIRED (R47, R53): ACQUIRING to LOCKED after sixteen boundaries in tolerance; under PTP the counter is
compared with the value k that the PTP time gives. -/
def strokeLockAcquired (s : State) (ptpNs : Nat) : State :=
  if s.running && s.lock == 1 && decide (16 ≤ s.stroke.inTol) then
    let k := s.ptpStroke ptpNs
    let ptp := s.stroke.source = 2
    let ahead := decide (ptp ∧ s.strokeNo < k)
    let behind := decide (ptp ∧ k < s.strokeNo)
    (s.modStroke (fun u => { u with disciplined := true, missed := 0, stepDue := ahead, stretch := behind })).setLock 2
  else s

/-- The unit loses its source: ACQUIRING to UNLOCKED, LOCKED to HOLDOVER (Table 3.2). -/
def State.loseSource (s : State) : State :=
  let s := s.modStroke (fun u => { u with chain := 0, inTol := 0, stretch := false, stepDue := false })
  let s := s.setFld strPage Fld.STR_STATUS_PTP_ON_ALT 0
  if s.lock = 1 then s.setLock 0
  else if s.lock = 2 then (s.setFld strPage Fld.STR_STATUS_HOLDOVER_LEFT 10000).setLock 3
  else s

/-- STROKE_SOURCE_LOST (R47): four consecutive expected edges missing or unacceptable; or PTP has left the slave state on
both ports, which the event itself reports. -/
def strokeSourceLost (s : State) : State :=
  if !s.running then s
  else if s.stroke.source = 1 then (if 4 ≤ s.stroke.missed then s.loseSource else s)
  else if s.stroke.source = 2 then (s.modStroke (fun u => { u with ptpSlave := false, ptpSlaveAlt := false })).loseSource
  else s

/-- HOLDOVER_EXPIRY (R47): 10,000 strokes spent in HOLDOVER; in UNLOCKED the next edge starts a chain. -/
def holdoverExpiry (s : State) : State :=
  if s.running && s.lock == 3 && s.fld strPage Fld.STR_STATUS_HOLDOVER_LEFT == 0 then
    ((s.modStroke (fun u => { u with chain := 0 })).setLock 0).raise strPage 19
  else s

/-! ### PTP (R51) -/

/-- The designated port leaves the slave state while the alternate is slave: the unit moves to the alternate and stays
LOCKED; with neither, PTP_ON_ALT stays until the source is lost (R51).  The spec does not say whether the unit returns once the
designated port is slave again: the model stays on the alternate until that one leaves the slave state (DESIGN CHOICE, log 55). -/
def State.followPtp (s : State) : State :=
  let altEn := s.sh strPage Fld.STR_CFG_PTP_ALT_EN == 1
  let onAlt := s.fld strPage Fld.STR_STATUS_PTP_ON_ALT == 1
  if !onAlt && altEn && !s.stroke.ptpSlave && s.stroke.ptpSlaveAlt then s.setFld strPage Fld.STR_STATUS_PTP_ON_ALT 1
  else if onAlt && !s.stroke.ptpSlaveAlt && s.stroke.ptpSlave then s.setFld strPage Fld.STR_STATUS_PTP_ON_ALT 0
  else s

/-- A Brim port may carry PTP: any state from TRAINED onward (R51). -/
def State.ptpCarries (s : State) (b : Nat) : Bool := decide (2 ≤ s.portState b)

/-- The unit is PTP slave on a port: the designated one, or the alternate where it is enabled. -/
def State.ptpSlaveOn (s : State) (port : Nat) : Bool :=
  (port == s.sh strPage Fld.STR_CFG_PTP_PORT && s.stroke.ptpSlave) ||
    (s.sh strPage Fld.STR_CFG_PTP_ALT_EN == 1 && port == s.sh strPage Fld.STR_CFG_PTP_ALT_PORT && s.stroke.ptpSlaveAlt)

/-- The unit is a boundary clock's master on a port (R51): a MEMBER port with PTP enabled, not the slave-only designated one, while the
unit is slave on another. -/
def State.ptpMasterOn (s : State) (port : Nat) : Bool :=
  s.portState port == 5 && s.sh (page 12 port) Fld.BRM_CFG_PTP_EN == 1 && port != s.sh strPage Fld.STR_CFG_PTP_PORT &&
    !s.ptpSlaveOn port && s.ptpPresent

/-- A port's slave state after a message: an Announce carries what the best master clock algorithm of IEEE 1588-2019 decides; any other
message leaves the port slave, or finds that it has left the slave state since (log 55). -/
def slaveAfter (m : PtpMessage) (was : Bool) : Bool := if m.kind = 11 then m.slave else was && m.slave

/-- The answers to a delay request (R51): Delay_Resp from a master port, Pdelay_Resp and its follow-up from any. -/
def State.ptpAnswer (s : State) (port kind : Nat) : State :=
  if kind = 1 ∧ s.ptpMasterOn port then s.emit (.ptp port 9)
  else if kind = 2 then (s.emit (.ptp port 3)).emit (.ptp port 10)
  else s

/-- PTP_MESSAGE_RX (R51): a message of the domain moves the slave state of the designated or the alternate port, and a delay request is
answered. -/
def ptpMessageRx (s : State) (port : Nat) (m : PtpMessage) : State :=
  if !s.running || s.stroke.source ≠ 2 || !s.ptpCarries port || m.domain ≠ s.sh strPage Fld.STR_CFG_PTP_DOMAIN then s
  else
    let s := if port = s.sh strPage Fld.STR_CFG_PTP_PORT then s.modStroke (fun u => { u with ptpSlave := slaveAfter m u.ptpSlave }) else s
    let s := if s.sh strPage Fld.STR_CFG_PTP_ALT_EN = 1 ∧ port = s.sh strPage Fld.STR_CFG_PTP_ALT_PORT then
        s.modStroke (fun u => { u with ptpSlaveAlt := slaveAfter m u.ptpSlaveAlt })
      else s
    s.followPtp.ptpAnswer port m.kind

/-- PTP_MESSAGE_TX (R51): delay requests on the port the unit is slave on; Sync and Announce as boundary-clock master on
another member port whose PTP is enabled. -/
def ptpMessageTx (s : State) (port : Nat) : State :=
  if !s.running || s.stroke.source ≠ 2 || !s.ptpCarries port then s
  else if s.ptpSlaveOn port then s.emit (.ptp port 1)
  else if s.ptpMasterOn port then (s.emit (.ptp port 0)).emit (.ptp port 11)
  else s

/-! ### Loading the counter (R54) -/

/-- STR_LOAD (R54): a write of STR_CMD.LOAD arms STR_COUNT_LOAD. -/
def strLoad (s : State) (who : Requester) : State :=
  s.letIn who strPage (fun s =>
    if !privileged who then s.refuseF strPage 0x0104 Fld.STR_CMD_LOAD
    else if s.sh strPage Fld.STR_CFG_SOURCE = 2 then s.refuseF strPage 0x0102 Fld.STR_CMD_LOAD
    else s.modStroke (fun u => { u with armed := some (s.reg (strPage + Reg.STR_COUNT_LOAD)).toNat }))

/-- A forward step of the counter: counted, BLOCK_EVT bit 20 (R53, R54). -/
def State.countStep (s : State) : State := (s.addFld strPage Fld.STR_STEP_COUNT_COUNT 1).raise strPage 20

/-- The value the counter takes at a boundary (R43, R53, R54): a step to PTP time that is due, or one more; an armed load takes its place
when it is greater, which is a forward step, and is refused otherwise. -/
def State.nextCount (s : State) (k : Nat) : State × Nat :=
  let due := s.stroke.stepDue && decide (s.strokeNo + 1 < k)
  let next := if due then k else s.strokeNo + 1
  let armed := s.stroke.armed
  let s := s.modStroke (fun u => { u with stepDue := false, armed := none })
  match armed with
  | none => (if due then s.countStep else s, next)
  | some v =>
    if v ≤ next then ((if due then s.countStep else s).refuse strPage 0x0102 Reg.STR_COUNT_LOAD, next)
    else (s.countStep, v)

/-- STROKE_OUT at a boundary (R56): it rises where the counter is a multiple of DIVIDE. -/
def State.driveStrokeOut (s : State) : State :=
  let en := s.sh strPage Fld.STR_CFG_STROKE_OUT_EN == 1
  if !en then { s with pins := { s.pins with strokeOut := false } }
  else if s.strokeNo % s.sh strPage Fld.STR_OUT_DIVIDE = 0 then { s with pins := { s.pins with strokeOut := true } }
  else s

/-- STROKE_OUT_FALL (R56). -/
def strokeOutFall (s : State) : State := { s with pins := { s.pins with strokeOut := false } }

/-! ### The calendar clock (R66 to R70) -/

/-- Change the calendar clock. -/
def State.modCal (s : State) (f : Calendar → Calendar) : State := { s with cal := f s.cal }

/-- An error record of the calendar clock (Tables 19.2, 19.9). -/
def State.calRecord (s : State) (code : Code) : State := s.recordError { source := srcOf ccPage, cls := 1, code := code }

/-- CC_TIME_S_READ (R68): returns the seconds and latches the fraction. -/
def ccTimeSRead (s : State) (who : Requester) : State :=
  if !s.arrives who || !s.mayRead who ccPage then s
  else (s.modCal (fun c => { c with latched := c.frac })).emit (.data (leBytes 8 s.cal.secs))

/-- CC_TIME_F_WRITE (R68). -/
def ccTimeFWrite (s : State) (who : Requester) (v : Word64) : State :=
  s.letIn who ccPage (fun s =>
    if privileged who then s.modCal (fun c => { c with heldFrac := getBits v 31 0 }) else s.refuse ccPage 0x0104 0x108)

/-- CC_TIME_S_WRITE (R68). -/
def ccTimeSWrite (s : State) (who : Requester) (v : Word64) : State :=
  s.letIn who ccPage (fun s =>
    if privileged who then
      (s.modCal (fun c => { c with secs := v.toNat, frac := c.heldFrac, heldFrac := 0 })).setFld ccPage
        Fld.CC_STATUS_TIME_INVALID 0
    else s.refuse ccPage 0x0104 0x100)

/-- XTAL_STOP (R69): while main power is present. -/
def xtalStop (s : State) : State :=
  if s.pwr.mainLost || s.fld ccPage Fld.CC_STATUS_XTAL_FAIL == 1 then s
  else
    let s := s.modCal (fun c => { c with onOsc := true, xtalStopped := true, returning := false })
    ((s.setFld ccPage Fld.CC_STATUS_XTAL_FAIL 1).setFld ccPage Fld.CC_STATUS_TIME_INVALID 1).calRecord 0xF007

/-- XTAL_CHECK (R70): once a second while XTAL_FAIL = 1 and main power is present; `ticking` says that the crystal has run
for 1 s with no missing tick. -/
def xtalCheck (s : State) (ticking : Bool) : State :=
  if s.pwr.mainLost || s.fld ccPage Fld.CC_STATUS_XTAL_FAIL == 0 || !ticking then s
  else ((s.modCal (fun c => { c with returning := true, xtalStopped := false })).setFld ccPage
    Fld.CC_STATUS_XTAL_FAIL 0).calRecord 0xF008

/-- VBAT_SAMPLE (R66, Table 3.8). -/
def vbatSample (s : State) (mV : Nat) : State :=
  if s.pwr.mainLost then s else s.setBit ccPage Fld.CC_STATUS_VBAT_LOW (decide (mV < 2500))

/-- CC_TRIM.PPM, signed, in 0.01 ppm units (R67). -/
def State.trimPpm (s : State) : Int := sext 16 (s.fld ccPage Fld.CC_TRIM_PPM)

/-- CRYSTAL_TICK (R66, R67, R70): 131,072 fraction units, CC_TRIM adding or withholding units; a clock that has its crystal
back returns to it at the tick.  With the crystal failed and main power lost the clock has no time base and holds. -/
def crystalTick (s : State) : State :=
  if s.pwr.mainLost && s.fld ccPage Fld.CC_STATUS_XTAL_FAIL == 1 then s
  else
    let acc : Int := s.cal.trimAcc + 131072 * s.trimPpm
    let extra : Int := acc / 100000000
    let total : Int := s.cal.frac + 131072 + extra
    s.modCal (fun c => { c with
      frac := (total % (2 ^ 32 : Int)).toNat, secs := (c.secs + (total / (2 ^ 32 : Int)).toNat) % 2 ^ 64,
      trimAcc := acc % 100000000,
      onOsc := if c.returning then false else c.onOsc, returning := false })

/-- STROKE_OUT_FALL (R56). -/
def execStrokeOutFall (s : State) : Host.Outcome State Fault Refusal := State.done (strokeOutFall s)
/-- STROKE_IN_EDGE (R47). -/
def execStrokeInEdge (off : Int) (s : State) : Host.Outcome State Fault Refusal := State.done (strokeInEdge s off)
/-- STROKE_SOURCE_PRESENT (R47). -/
def execStrokeSourcePresent (s : State) : Host.Outcome State Fault Refusal := State.done (strokeSourcePresent s)
/-- STROKE_LOCK_ACQUIRED (R47). -/
def execStrokeLockAcquired (ptpNs : Nat) (s : State) : Host.Outcome State Fault Refusal := State.done (strokeLockAcquired s ptpNs)
/-- STROKE_SOURCE_LOST (R47). -/
def execStrokeSourceLost (s : State) : Host.Outcome State Fault Refusal := State.done (strokeSourceLost s)
/-- HOLDOVER_EXPIRY (R47). -/
def execHoldoverExpiry (s : State) : Host.Outcome State Fault Refusal := State.done (holdoverExpiry s)
/-- PTP_MESSAGE_RX (R51). -/
def execPtpMessageRx (port : Nat) (m : PtpMessage) (s : State) : Host.Outcome State Fault Refusal :=
  State.done (ptpMessageRx s port m)
/-- PTP_MESSAGE_TX (R51). -/
def execPtpMessageTx (port : Nat) (s : State) : Host.Outcome State Fault Refusal := State.done (ptpMessageTx s port)
/-- STR_LOAD (R54). -/
def execStrLoad (who : Requester) (s : State) : Host.Outcome State Fault Refusal := State.done (strLoad s who)
/-- CC_TIME_S_READ (R68). -/
def execCcTimeSRead (who : Requester) (s : State) : Host.Outcome State Fault Refusal := State.done (ccTimeSRead s who)
/-- CC_TIME_F_WRITE (R68). -/
def execCcTimeFWrite (who : Requester) (v : Word64) (s : State) : Host.Outcome State Fault Refusal :=
  State.done (ccTimeFWrite s who v)
/-- CC_TIME_S_WRITE (R68). -/
def execCcTimeSWrite (who : Requester) (v : Word64) (s : State) : Host.Outcome State Fault Refusal :=
  State.done (ccTimeSWrite s who v)
/-- XTAL_STOP (R69). -/
def execXtalStop (s : State) : Host.Outcome State Fault Refusal := State.done (xtalStop s)
/-- XTAL_CHECK (R70). -/
def execXtalCheck (ticking : Bool) (s : State) : Host.Outcome State Fault Refusal := State.done (xtalCheck s ticking)
/-- VBAT_SAMPLE (R66). -/
def execVbatSample (mV : Nat) (s : State) : Host.Outcome State Fault Refusal := State.done (vbatSample s mV)
/-- CRYSTAL_TICK (R66). -/
def execCrystalTick (s : State) : Host.Outcome State Fault Refusal := State.done (crystalTick s)

end Sys2Proof.Machine
end

