-- ==== Sys2Proof/Machine/Hbm.lean ====
section
/-!
DEFINITION. HBM behind the controllers: parity, temperature, recalibration, retraining, losing a channel, failing rows, frame
attributes, margining and NVM writes (R303 to R319, R321 to R328).
-/
namespace Sys2Proof.Machine

open Sys2Proof

/-! ### Channels and their sets -/

/-- An MC page. -/
def mcPage (c : Nat) : Nat := page 8 c
/-- An STK page. -/
def stkPage (k : Nat) : Nat := page 9 k

/-- The die or stack set a channel belongs to (R306). -/
def State.chanSet (s : State) (c : Nat) : Nat := if s.dieKind (c / 64) = 1 then 32 + c / 32 else c / 64

/-- MC_STATUS.STATE. -/
def State.mcState (s : State) (c : Nat) : Nat := s.fld (mcPage c) Fld.MC_STATUS_STATE

/-- Device address of a channel-local byte (the inverse of R308's placement); none in the reserve or past the last unit. -/
def State.unplace? (s : State) (c l : Nat) : Option Nat :=
  let pkg := s.pkgMib * 2 ^ 20
  let t := if l < pkg then 64 else s.chanSet c
  let live := s.setLive t
  let nl := live.length
  if 4080 * 2 ^ 20 ≤ l ∨ nl = 0 then none else
  let x := if t = 64 then l else l - pkg
  let slice := setSlice t nl
  let u := x / slice
  let fr := s.frame t u
  let gr := if t = 64 then 4096 else 2 ^ fr.gran
  let unitBytes := if t = 64 then 2 ^ 22 else 2 ^ 21
  let g := unitBytes / gr
  let j0 := (if t = 64 then u else fr.ord) * g
  let q := x % slice / gr + j0 / nl
  let n := setNominal t
  let i := live.idxOf c
  let f := foldBits (Nat.log2 n) 64 q
  let m := if nl = n then i ^^^ f else (i + nl - f % nl) % nl
  let j := q * nl + m
  if s.setUnits t ≤ u ∨ !live.contains c ∨ j < j0 ∨ j0 + g ≤ j then none
  else some (setBase t + u * unitBytes + (j - j0) * gr + x % gr)

/-- Units of a set whose slice in a channel overlaps a row: the set and the frames (R324). -/
def State.rowFrames (s : State) (c row : Nat) : List (Nat × Nat) :=
  let pkg := s.pkgMib * 2 ^ 20
  let lo := 1024 * row
  let hi := lo + 1023
  let inSet (t base : Nat) : List (Nat × Nat) :=
    let n := (s.setLive t).length
    if n = 0 then [] else
    let slice := setSlice t n
    let us := (List.range ((hi - base) / slice + 1 - (lo - base) / slice)).map (fun i => (lo - base) / slice + i)
    (us.filter (fun u => decide (u < s.setUnits t))).flatMap (fun u => if t = 64 then [(64, 2 * u), (64, 2 * u + 1)] else [(t, u)])
  if 4080 * 2 ^ 20 ≤ lo then []
  else if lo < pkg then inSet 64 0
  else inSet (s.chanSet c) pkg

/-- Set a frame. -/
def State.setFrame (s : State) (t f : Nat) (x : Frame) : State := { s with frames := SMap.put s.frames (frameKey t f) x }

/-- The failure of a device's NVM or of a block of the Crown is recorded on the CRN page. -/
def State.crnRecord (s : State) (cls : Nat) (code : Code) : State :=
  s.recordError { source := srcOf crnPage, cls := cls, code := code }

/-! ### Losing a channel (R319) -/

/-- Ask for an NVM record write (R325, R445). -/
def State.queueNvm (s : State) (kind x : Nat) : State :=
  { s with errs := { s.errs with nvmQueue := s.errs.nvmQueue ++ [(kind, x)] } }

/-- Add a unit to the known-bad record (R319, R446). -/
def State.addKnownBad (s : State) (kind i : Nat) : State :=
  ({ s with knownBad := (kind, i) :: s.knownBad }).queueNvm 2 i

/-- The owner of the package set, when the sets lend to one (R306). -/
def State.lentTo? (s : State) : Option Nat := if s.pkgMib = 0 then none else s.pkgPart?

/-- A partition is stopped by a partition-fatal error of a unit another partition owns. -/
def State.stopAlso (s : State) (q : Nat) (code : Code) : State :=
  (s.countErr (partPage q) 2).haltPart q code

/-- A channel is marked out (R319): partition-fatal for the owner of its set; a channel that lends to a package set of
another partition stops that one too. -/
def State.markOut (s : State) (c : Nat) : State :=
  if s.mcState c = 3 then s
  else
    let s := (s.setFld (mcPage c) Fld.MC_STATUS_STATE 3).raise (mcPage c) 18
    let om := s.fld (stkPage (c / 32)) Fld.STK_STATUS_OUT_MASK
    let s := s.setFld (stkPage (c / 32)) Fld.STK_STATUS_OUT_MASK (om ||| 2 ^ (c % 32))
    let s := s.addKnownBad 8 c
    let owner := s.setPart? (s.chanSet c)
    let s := s.recordError { source := srcOf (mcPage c), cls := 2, code := 0x0A02, part := owner }
    match s.lentTo? with
    | none => s
    | some q => if some q = owner then s else s.stopAlso q 0x0A02

/-! ### Retraining and recalibration (R315 to R318) -/

/-- The channel can be recalibrated or retrained: in service, its stack ACTIVE. -/
def State.mcServes (s : State) (c : Nat) : Bool :=
  decide (c < 1024) && s.mcState c != 3 && !s.trimmed 8 c && !s.trimmed 9 (c / 32) &&
    s.fld (stkPage (c / 32)) Fld.STK_STATUS_STATE == 1

/-- Start the next due recalibration of a die set in the maintenance window, if it ends within the window: the i-th begins
1.25 i µs into the window and takes 1.0 µs (R316). -/
def State.windowRecal (s : State) (d : Nat) : State :=
  let i := SMap.getD s.recalWindow d 0
  if s.sh strPage Fld.STR_MAINT_WINDOW * 100 < 125 * i + 100 then s
  else if (List.range 64).any (fun j => s.mcState (64 * d + j) == 2 && (s.chan (64 * d + j)).inWindow) then s
  else match ((List.range 64).map (fun j => 64 * d + j)).find? (fun c =>
      s.mcServes c && s.mcState c == 0 && s.fld (mcPage c) Fld.MC_STATUS_RECAL_DUE == 1) with
    | none => s
    | some c => ({ (s.setFld (mcPage c) Fld.MC_STATUS_STATE 2) with recalWindow := SMap.put s.recalWindow d (i + 1) }).modChan c
        (fun x => { x with inWindow := true })

/-- The counter names a maintenance stroke (R63). -/
def State.maintStroke (s : State) : Bool :=
  s.sh strPage Fld.STR_MAINT_EVERY != 0 &&
    s.strokeNo % s.sh strPage Fld.STR_MAINT_EVERY == s.sh strPage Fld.STR_MAINT_OFFSET

/-- A die set goes on with its due channels in the window a recalibration of it has left (R316, R318). -/
def State.nextRecal (s : State) (windowed : Bool) (d : Nat) : State :=
  if windowed && s.maintStroke then s.windowRecal d else s

/-- An unscheduled retrain starts (R317, R318): a recalibration in progress ends early, a retrain in progress covers it. -/
def State.startRetrain (s : State) (c : Nat) : State :=
  if s.mcState c = 1 ∨ s.mcState c = 3 then s
  else
    let w := (s.chan c).inWindow
    let s := ((s.setFld (mcPage c) Fld.MC_STATUS_STATE 1).raise (mcPage c) 16).modChan c (fun x => { x with inWindow := false })
    s.nextRecal w (c / 64)

/-- The writes that waited for a channel's retrain are sent, or fail with a code that stops their commands (R312, R314). -/
def State.endHeld (s : State) (c : Nat) (code : Code) : State :=
  let held := (s.chan c).heldCmds
  let s := s.modChan c (fun x => { x with heldWrite := false, heldCmds := [] })
  held.foldl (fun s q => match s.cmdAt? q.1 q.2 with
    | some f => if code ≠ 0 ∧ f.phase ≠ .waiting ∧ f.status = 0 then s.endCmd q.1 q.2 code f.good else s
    | none => s) s

/-- The recalibration timer of a channel restarts. -/
def State.recalibrated (s : State) (c : Nat) : State :=
  let t := sext 8 (s.fld (stkPage (c / 32)) Fld.STK_STATUS_TEMP)
  ((s.setFld (mcPage c) Fld.MC_STATUS_RECAL_DUE 0).setFld (mcPage c) Fld.MC_RECAL_LAST_STROKE (s.strokeNo % 2 ^ 48)).modChan c
    (fun x => { x with recalTemp := t, inWindow := false })

/-- RETRAIN_DONE (R317): a pass releases the held traffic, a failure marks the channel out. -/
def retrainDone (s : State) (c : Nat) (pass : Bool) (us lanes : Nat) : State :=
  if s.mcState c ≠ 1 then s
  else
    let s := (s.modChan c (fun x => { x with events := [] })).endHeld c (if pass then 0 else 0x0A02)
    let s := s.setFld (mcPage c) Fld.MC_STATUS_LANES_SPARED (min lanes 2)
    if pass then
      let s := (s.setFld (mcPage c) Fld.MC_STATUS_STATE 0).recalibrated c
      let s := s.addFld (mcPage c) Fld.MC_RETRAIN_COUNT 1
      let s := s.setFld (mcPage c) Fld.MC_RETRAIN_LONGEST (max (s.fld (mcPage c) Fld.MC_RETRAIN_LONGEST) (min us 65535))
      (s.raise (mcPage c) 17).recordError { source := srcOf (mcPage c), cls := 0, code := 0x0A0B }
    else s.markOut c

/-- RECAL_DUE (R316): 60 s after the last recalibration or retrain. -/
def recalDue (s : State) (c : Nat) : State :=
  if s.mcServes c then s.setFld (mcPage c) Fld.MC_STATUS_RECAL_DUE 1 else s

/-- RECAL_OVERDUE (R316): still due 120 s after the last recalibration, the channel is recalibrated at once. -/
def recalOverdue (s : State) (c : Nat) : State :=
  if s.mcServes c && s.mcState c == 0 && s.fld (mcPage c) Fld.MC_STATUS_RECAL_DUE == 1 then
    ((s.setFld (mcPage c) Fld.MC_STATUS_STATE 2).addFld (mcPage c) Fld.MC_RECAL_UNSCHED 1).raise (stkPage (c / 32)) 18
  else s

/-- RECAL_DONE (R316). -/
def recalDone (s : State) (c : Nat) : State :=
  if s.mcState c ≠ 2 then s
  else
    let w := (s.chan c).inWindow
    let s := (s.setFld (mcPage c) Fld.MC_STATUS_STATE 0).recalibrated c
    s.nextRecal w (c / 64)

/-! ### Temperature (R313, R314) -/

/-- The refresh step a temperature calls for: 3 is the halt (Table 13.3). -/
def refreshStep (t : Int) : Nat := if t ≤ 85 then 0 else if t ≤ 95 then 1 else if t ≤ 105 then 2 else 3

/-- Lower threshold of a step, °C (Table 13.3). -/
def stepThreshold : Nat → Int
  | 1 => 85
  | 2 => 95
  | _ => 0

/-- Put a refresh step in force (R313). -/
def State.setRefresh (s : State) (k n : Nat) : State :=
  ((s.setFld (stkPage k) Fld.STK_STATUS_REFRESH n).setBit (stkPage k) Fld.STK_STATUS_THROTTLE (n == 2)).raise (stkPage k) 16

/-- The thermal halt of a stack (R314): a retrain or recalibration of its channels is abandoned (R318), what waited for it stops with
0x0A04, and the die set's other due channels go on in the window. -/
def State.thermalHalt (s : State) (k : Nat) : State :=
  let cs := (List.range 32).map (fun i => 32 * k + i)
  let w := cs.any (fun c => s.mcState c == 2 && (s.chan c).inWindow)
  let s := (s.setFld (stkPage k) Fld.STK_STATUS_STATE 3).raise (stkPage k) 17
  let s := cs.foldl (fun s c =>
    if s.mcState c = 1 ∨ s.mcState c = 2 then
      ((s.setFld (mcPage c) Fld.MC_STATUS_STATE 0).modChan c (fun x => { x with inWindow := false })).endHeld c 0x0A04
    else s) s
  (s.recordError { source := srcOf (stkPage k), cls := 3, code := 0x0A04 }).nextRecal w (k / 2)

/-- STACK_TEMP_SAMPLE (R313, R314, R316): every 100 µs, the hottest sensor of a stack. -/
def stackTempSample (s : State) (k : Nat) (t : Int) : State :=
  let st := s.fld (stkPage k) Fld.STK_STATUS_STATE
  if 32 ≤ k ∨ s.trimmed 9 k then s
  else
    let s := s.setFld (stkPage k) Fld.STK_STATUS_TEMP (twos 8 t)
    let s := if sext 8 (s.fld (stkPage k) Fld.STK_TEMP_MAX_TEMP) < t then
        s.setFld (stkPage k) Fld.STK_TEMP_MAX_TEMP (twos 8 t) else s
    let s := (List.range 32).foldl (fun s i =>
      let c := 32 * k + i
      if s.mcServes c && decide (10 ≤ (t - (s.chan c).recalTemp).natAbs) then s.setFld (mcPage c) Fld.MC_STATUS_RECAL_DUE 1
      else s) s
    let cur := s.fld (stkPage k) Fld.STK_STATUS_REFRESH
    let want := refreshStep t
    if want = 3 then (if st = 3 then s else s.thermalHalt k)
    else if cur < want then (s.setRefresh k want).modStk k (fun x => { x with coolTicks := 0 })
    else if cur ≠ 0 ∧ t ≤ stepThreshold cur - 3 then
      let n := (s.stk k).coolTicks + 1
      if 100 ≤ n then (s.setRefresh k (cur - 1)).modStk k (fun x => { x with coolTicks := 0 })
      else s.modStk k (fun x => { x with coolTicks := n })
    else s.modStk k (fun x => { x with coolTicks := 0 })

/-! ### Rows that fail (R322 to R324) -/

/-- Lowest spare row of the reserve neither used nor retired; the reserve has 16,384 rows (R304, R322). -/
def Chan.freeSpare? (x : Chan) : Option Nat :=
  (List.range 16384).find? (fun i => !x.sparesRetired.contains i && !(x.remaps.any (fun e => e.spare == i)))

/-- Lowest remap entry not in use. -/
def Chan.freeEntry? (x : Chan) : Option Nat := (List.range 64).find? (fun i => !(x.remaps.any (fun e => e.idx == i)))

/-- Ask for the NVM record of a channel's remaps and retired rows (R325). -/
def State.saveRemaps (s : State) (c : Nat) : State :=
  s.queueNvm 1 c

/-- A frame becomes RETIRING over a failing access at a channel-local address (R324). -/
def State.retireFrame (s : State) (c t f l bytes : Nat) : State :=
  if (s.frame t f).st ≠ 0 then s
  else ((s.setFrame t f { s.frame t f with st := 1 }).raise (mcPage c) 20).recordError
    { source := srcOf (mcPage c), cls := 1, code := 0x0A0D, part := s.setPart? t, d0 := l, d1 := bytes }

/-- Retire the row of a failing access: it joins the list, and its frames are retired (R323, R324). -/
def State.retireRow (s : State) (c l bytes : Nat) : State :=
  let row := l / 1024
  let s := s.modChan c (fun x => { x with rowsRetired := if x.rowsRetired.contains row then x.rowsRetired else x.rowsRetired ++ [row] })
  ((s.rowFrames c row).foldl (fun s u => s.retireFrame c u.1 u.2 l bytes) s).saveRemaps c

/-- Frame STATE of the frame that a channel-local byte lies in (Table 13.9); 0 in the reserve. -/
def State.localFrameSt (s : State) (c l : Nat) : Nat :=
  match s.unplace? c l with
  | none => 0
  | some a => match s.setOf? a with
    | none => 0
    | some t => (s.frame t ((a - setBase t) / 2 ^ 21)).st

/-- A read access of a channel at a channel-local address fails uncorrectably: what becomes of its row (R322, R323).  In a frame RETIRING
or RETIRED it causes nothing further.  The entry is in use once the copy of the row has ended. -/
def State.rowFails (s : State) (c l bytes : Nat) : State :=
  if s.localFrameSt c l ≠ 0 then s
  else
    let row := l / 1024
    let x := s.chan c
    let owner := ((s.unplace? c l).bind s.setOf?).bind s.setPart?
    let remapped (s : State) : State := s.recordError
      { source := srcOf (mcPage c), cls := 1, code := 0x0A0C, part := owner, d0 := l, d1 := bytes }
    match x.remaps.find? (fun e => e.row == row) with
    | none => match x.freeEntry?, x.freeSpare? with
      | some i, some sp => remapped (s.modChan c (fun x => { x with remaps := x.remaps ++ [⟨i, row, sp, 1, true⟩] }))
      | _, _ => s.retireRow c l bytes
    | some e =>
      if e.count = 1 then
        let y := { x with sparesRetired := x.sparesRetired ++ [e.spare] }
        match y.freeSpare? with
        | some sp => remapped (s.modChan c (fun _ => { y with
            remaps := updateWhere (fun f => f.idx == e.idx) (fun f => { f with spare := sp, count := 2, copying := true }) y.remaps }))
        | none => (s.modChan c (fun _ => y)).retireRow c l bytes
      else s.retireRow c l bytes

/-- ROW_REMAP_COPY_DONE (R322, R325): the entry points at its spare, MC BLOCK_EVT bit 19 is raised, and the table goes to the NVM. -/
def rowRemapCopyDone (s : State) (c entry : Nat) : State :=
  if (s.chan c).remaps.any (fun f => f.idx == entry && f.copying) then
    ((s.modChan c (fun x => { x with
      remaps := updateWhere (fun f => f.idx == entry) (fun f => { f with copying := false }) x.remaps })).raise (mcPage c) 19).saveRemaps c
  else s

/-- A frame becomes RETIRED: the remap entries of rows that lie wholly within it are freed (R324). -/
def State.frameRetired (s : State) (t f : Nat) : State :=
  let s := s.setFrame t f { s.frame t f with st := 2 }
  (s.setLive t).foldl (fun s c =>
    let whole (row : Nat) : Bool :=
      let us := s.rowFrames c row
      !us.isEmpty && us.all (fun u => u == (t, f) || (t == 64 && u == (64, f ^^^ 1)))
    if (s.chan c).remaps.any (fun e => whole e.row) then
      (s.modChan c (fun x => { x with remaps := x.remaps.filter (fun e => !whole e.row) })).saveRemaps c
    else s) s

/-- At a commit or a rebuild, every frame that covers a row of the retired-row list is RETIRED (R324). -/
def State.mapRetired (s : State) : State :=
  s.chans.foldl (fun s x => x.2.rowsRetired.foldl (fun s row =>
    (s.rowFrames x.1 row).foldl (fun s u => if (s.frame u.1 u.2).st = 2 then s else s.frameRetired u.1 u.2) s) s) s

/-! ### Parity (R310 to R312, R317) -/

/-- Re-read and resend events of the last millisecond; sixteen start a retrain (R317). -/
def State.chanEvents (s : State) (c us n : Nat) : State :=
  let ev := (s.chan c).events.filter (fun t => decide (us < t + 1000)) ++ List.replicate n us
  let s := s.modChan c (fun x => { x with events := ev })
  if 16 ≤ ev.length then s.startRetrain c else s

/-- The counts a channel keeps of an uncorrectable read access of its own, and what becomes of the access's row (R311, R317, R322); its
two re-reads happen at `us`. -/
def State.chanBad (s : State) (c addr bytes us : Nat) : State :=
  let s := s.addFld (mcPage c) Fld.MC_PARITY_UNCORRECTABLE 1
  let s := (s.setFld (mcPage c) Fld.MC_LAST_ERR_CH_ADDR (addr / 64)).setFld (mcPage c) Fld.MC_LAST_ERR_BYTES
    (maskOf 8 (fun l => bytes / 2 ^ (8 * l) % 256 != 0))
  ((s.setBit (mcPage c) Fld.MC_LAST_ERR_WRITE false).chanEvents c us 2).rowFails c addr bytes

/-- HBM_ACCESS_COMPLETE (R310, R311, R312). -/
def hbmAccessComplete (s : State) (c : Nat) (a : HbmAccess) : State :=
  if 1024 ≤ c ∨ s.mcState c = 3 then s
  else
    let s := if a.odecc = 0 then s else s.addFld (stkPage (c / 32)) Fld.STK_ODECC_COUNT a.odecc
    let last (s : State) : State :=
      ((s.setFld (mcPage c) Fld.MC_LAST_ERR_CH_ADDR (a.addr / 64)).setFld (mcPage c) Fld.MC_LAST_ERR_BYTES
        (maskOf 8 (fun l => a.bytes / 2 ^ (8 * l) % 256 != 0))).setBit (mcPage c) Fld.MC_LAST_ERR_WRITE true
    if a.fails = 0 then s
    else if a.write then
      let s := s.chanEvents c a.us (min a.fails 2)
      if 3 ≤ a.fails then
        ((last s).modChan c (fun x => { x with heldWrite := true, heldCmds := a.cmd.toList ++ x.heldCmds })).startRetrain c
      else s
    else if a.fails < 3 then
      ((s.addFld (mcPage c) Fld.MC_PARITY_REREAD_OK 1).chanEvents c a.us a.fails).recordError
        { source := srcOf (mcPage c), cls := 0, code := 0x0A0A, part := s.setPart? (s.chanSet c), d0 := a.addr, d1 := a.bytes }
    else
      let now := (bitList 64 a.bytes).filterMap (fun i => s.unplace? c (a.addr + i))
      let s := { s with bad := now.filter (fun b => !s.bad.contains b) ++ s.bad }
      let who := a.cmd.bind (fun q => s.cmdAt? q.1 q.2)
      let e : ErrInfo := {
        source := srcOf (mcPage c), cls := 1, code := 0xF001, d0 := a.addr, d1 := a.bytes,
        part := (match who with | some f => some f.part | none => s.setPart? (s.chanSet c)),
        ctx := who.map (fun f => f.ctx), cmd := who.map (fun f => (f.ring, f.cmd.tag)) }
      let s := s.recordError e
      let s := match who with
        | some f => if f.phase = Phase.started then s.endCmd f.ring f.seq 0xF001 f.good else s
        | none => s
      s.chanBad c a.addr a.bytes a.us

/-! ### Frame attributes (R307, R324) -/

/-- The set and frame a CDIE_FRAME_SEL names on a C-die's page (Table 13.9). -/
def State.frameSel (s : State) (d : Nat) : Nat × Nat :=
  let pg := page 5 d
  let t := if d = 0 ∧ s.fld pg Fld.CDIE_FRAME_SEL_PKG = 1 then 64
    else if s.dieKind d = 1 then 32 + 2 * d + s.fld pg Fld.CDIE_FRAME_SEL_STACK
    else d
  (t, s.fld pg Fld.CDIE_FRAME_SEL_FRAME)

/-- A page other than C0's names a package-set frame: CDIE_FRAME_ATTR reads 0 there, and writing it does nothing (R307). -/
def State.frameSelVoid (s : State) (d : Nat) : Bool := d != 0 && s.fld (page 5 d) Fld.CDIE_FRAME_SEL_PKG == 1

/-- A write of CDIE_FRAME_ATTR (R307, R324). -/
def frameAttrWrite (s : State) (who : Requester) (d : Nat) (v : Word64) : State :=
  let pg := page 5 d
  s.letIn who pg (fun s =>
    let (t, f) := s.frameSel d
    let fr := s.frame t f
    let gran := if t = 64 then fr.gran else getBits v 3 0
    let ord := if t = 64 then fr.ord else getBits v 28 8
    let alloc := getBits v 29 29 == 1
    let changed := gran != fr.gran || ord != fr.ord
    if s.frameSelVoid d then s
    else if s.setFrames t ≤ f then s.refuse pg 0x0A08 Reg.CDIE_FRAME_ATTR
    else if t ≠ 64 ∧ (gran = 0 ∨ 8 < gran) then s.refuseF pg 0x0A08 Fld.CDIE_FRAME_ATTR_GRAN
    else if changed && fr.alloc then
      s.refuseF pg 0x0A08 (if gran != fr.gran then Fld.CDIE_FRAME_ATTR_GRAN else Fld.CDIE_FRAME_ATTR_RUN_ORD)
    else if alloc && !fr.alloc && fr.st == 2 then s.refuseF pg 0x0A03 Fld.CDIE_FRAME_ATTR_ALLOC
    else
      let units := if t = 64 then [f / 2 * 2, f / 2 * 2 + 1] else [f]
      let s := units.foldl (fun s g =>
        let x := s.frame t g
        s.setFrame t g { x with gran := gran, ord := if t = 64 then x.ord else ord, alloc := alloc }) s
      let s := if changed then s.lose (setBase t + f * 2 ^ 21) (2 ^ 21) else s
      if getBits v 32 32 = 1 then
        units.foldl (fun s g => if (s.frame t g).st = 1 then s.frameRetired t g else s) s
      else s)

/-! ### Margining (R326) -/

/-- A write of STK_MARGIN with START (R326). -/
def marginStart (s : State) (who : Requester) (k : Nat) (v : Word64) : State :=
  let pg := stkPage k
  s.letIn who pg (fun s =>
    let notIdle := match s.stackPart? k with | some p => !s.idle p | none => false
    let copying := (List.range 32).any (fun i => (s.chan (32 * k + i)).remaps.any (fun e => e.copying))
    if getBits v 6 5 = 3 then s.refuseF pg 0x0102 Fld.STK_MARGIN_AXIS
    else if notIdle || s.fld pg Fld.STK_STATUS_STATE != 1 || copying then s.refuseF pg 0x0A09 Fld.STK_MARGIN_START
    else
      let s := ((s.setFld pg Fld.STK_MARGIN_CHANNEL (getBits v 4 0)).setFld pg Fld.STK_MARGIN_AXIS (getBits v 6 5)).setFld pg
        Fld.STK_MARGIN_OFFSET (getBits v 13 8)
      (s.setFld pg Fld.STK_MARGIN_DONE 0).modStk k (fun x => { x with margin := true }))

/-- MARGIN_DONE (R326). -/
def marginDone (s : State) (k errors lanes : Nat) : State :=
  if (s.stk k).margin then
    let pg := stkPage k
    (((s.setFld pg Fld.STK_MARGIN_RES_ERRORS errors).setFld pg Fld.STK_MARGIN_RES_LANES lanes).setFld pg
      Fld.STK_MARGIN_DONE 1).modStk k (fun x => { x with margin := false })
  else s

/-! ### NVM records (R325, R445, R460) -/

/-- The copy in the ring of a record that reached the fatal log carries NVM_COPIED (R445). -/
def markCopied (b : List Byte) : List Byte :=
  let c := b.take 3 ++ [(b.getD 3 0) ||| 0x10] ++ (b.drop 4).take 56
  c ++ leBytes 4 (crc32c c)

/-- SVN of the image that runs under a counter: stage one under 0, the bundle under 1, none under the others (R459). -/
def Sec.running (x : Sec) (i : Nat) : Nat :=
  match (if i = 0 then x.stage[x.runStage]? else if i = 1 then x.bundle[x.runBundle]? else none) with
  | some f => f.svn
  | none => 0

/-- The counter write of SEC_SVN_CMD.COMMIT has ended (R460). -/
def State.svnDone (s : State) (i : Nat) (ok : Bool) : State :=
  let s := { s with sec := { s.sec with svnBusy := false } }
  if ok then
    let run := s.sec.running i
    ({ s with sec := { s.sec with counters := s.sec.counters.set i run } }).raise secPage 16
  else s.setFld secPage Fld.SEC_SVN_CMD_LAST_RESULT 0x1009

/-- NVM_WRITE_DONE (R325, R445, R460): the oldest record write under way ends. -/
def nvmWriteDone (s : State) (ok : Bool) : State :=
  match s.errs.nvmQueue with
  | [] => s
  | (kind, x) :: r =>
    let s := { s with errs := { s.errs with nvmQueue := r } }
    if kind = 4 then s.svnDone x ok
    else if !ok then s.crnRecord 1 0x1009
    else if kind = 1 then s.modChan x (fun y => { y with nvmRemaps := y.remaps, nvmSpares := y.sparesRetired, nvmRows := y.rowsRetired })
    else if kind = 2 then { s with nvmKnownBad := s.knownBad }
    else match SMap.get? s.errs.recs x with
      | none => s
      | some b => { s with errs := { s.errs with fatal := (b :: s.errs.fatal).take 256, recs := SMap.put s.errs.recs x (markCopied b) } }

/-- HBM_ACCESS_COMPLETE (R311). -/
def execHbmAccessComplete (ch : Nat) (a : HbmAccess) (s : State) : Host.Outcome State Fault Refusal :=
  State.done (hbmAccessComplete s ch a)
/-- RETRAIN_DONE (R317). -/
def execRetrainDone (ch : Nat) (pass : Bool) (us lanes : Nat) (s : State) : Host.Outcome State Fault Refusal :=
  State.done (retrainDone s ch pass us lanes)
/-- ROW_REMAP_COPY_DONE (R322). -/
def execRowRemapCopyDone (ch entry : Nat) (s : State) : Host.Outcome State Fault Refusal := State.done (rowRemapCopyDone s ch entry)
/-- STACK_TEMP_SAMPLE (R313). -/
def execStackTempSample (stk : Nat) (t : Int) (s : State) : Host.Outcome State Fault Refusal := State.done (stackTempSample s stk t)
/-- RECAL_DUE (R316). -/
def execRecalDue (ch : Nat) (s : State) : Host.Outcome State Fault Refusal := State.done (recalDue s ch)
/-- RECAL_OVERDUE (R316). -/
def execRecalOverdue (ch : Nat) (s : State) : Host.Outcome State Fault Refusal := State.done (recalOverdue s ch)
/-- RECAL_DONE (R316). -/
def execRecalDone (ch : Nat) (s : State) : Host.Outcome State Fault Refusal := State.done (recalDone s ch)
/-- FRAME_ATTR_WRITE (R307). -/
def execFrameAttrWrite (who : Requester) (die : Nat) (v : Word64) (s : State) : Host.Outcome State Fault Refusal :=
  State.done (frameAttrWrite s who die v)
/-- FRAME_RELEASE (R324): a CDIE_FRAME_ATTR write with RELEASE set. -/
def execFrameRelease (who : Requester) (die : Nat) (v : Word64) (s : State) : Host.Outcome State Fault Refusal :=
  State.done (frameAttrWrite s who die (setBits v 32 32 1))
/-- MARGIN_START (R326). -/
def execMarginStart (who : Requester) (stk : Nat) (v : Word64) (s : State) : Host.Outcome State Fault Refusal :=
  State.done (marginStart s who stk v)
/-- MARGIN_DONE (R326). -/
def execMarginDone (stk errors lanes : Nat) (s : State) : Host.Outcome State Fault Refusal :=
  State.done (marginDone s stk errors lanes)
/-- NVM_WRITE_DONE (R325). -/
def execNvmWriteDone (ok : Bool) (s : State) : Host.Outcome State Fault Refusal := State.done (nvmWriteDone s ok)

end Sys2Proof.Machine
end

