-- ==== Sys2Proof/Machine/Failing.lean ====
section
/-!
DEFINITION. Uncorrectable data met by a command, SRAM errors, and units failed in service (R144, R311, R446).
-/
namespace Sys2Proof.Machine

open Sys2Proof

/-- The units a trimmed unit takes with it (R446, Table 1.1, log 38): a C-die its clusters, cores, matrix engines, channels, stacks,
Fuller and Factor Engine; an E-die its Crown, host port, codec engines and Brim ports; a cluster its cores and their matrix engines;
a core its matrix engines; a stack its channels; a core's last matrix engine the core (R447). -/
def trimClosure (l : List (Nat × Nat)) : List (Nat × Nat) :=
  let span (kind per i : Nat) : List (Nat × Nat) := (List.range per).map (fun j => (kind, per * i + j))
  let all := l.flatMap (fun u => u :: (match u.1 with
    | 5 => span 6 8 u.2 ++ span 7 64 u.2 ++ span 16 256 u.2 ++ span 8 64 u.2 ++ span 9 2 u.2 ++ [(10, u.2), (17, u.2)]
    | 4 => span 11 4 u.2 ++ span 12 16 u.2 ++ (if u.2 % 2 = 0 then [(13, u.2 / 2), (0, u.2 / 2)] else [])
    | 6 => span 7 8 u.2 ++ span 16 32 u.2
    | 7 => span 16 4 u.2
    | 9 => span 8 32 u.2
    | 16 => if (List.range 4).all (fun m => l.contains (16, u.2 / 4 * 4 + m)) then [(7, u.2 / 4)] else []
    | _ => []))
  all.eraseDups

/-- Trim a unit: the trim map changes (R446, CRN BLOCK_EVT bit 23). -/
def State.trimUnit (s : State) (kind i : Nat) : State :=
  if s.trimmed kind i then s
  else ({ s with trim := (trimClosure [(kind, i)]).filter (fun u => !s.trim.contains u) ++ s.trim }).raise crnPage 23

/-- A Fuller or a Factor Engine: shared units, which enter the trim map at once (R446). -/
def sharedKind (kind : Nat) : Bool := kind == 10 || kind == 17

/-- A unit fails in service (R446): core 7, cluster 6, Fuller 10, Factor Engine 17 or codec engine 11. -/
def State.failUnit (s : State) (kind i : Nat) : State :=
  if s.outOfService kind i then s
  else
    let pg := unitPage kind i
    let hit (c : InFlight) : Bool := if kind = 6 then c.ccp == i && !c.saved else s.workOn pg c && (kind != 17 || c.cmd.op == 0x53)
    let also := (s.cmds.filter hit).map (fun c => c.part)
    let s := s.endAll hit 0xF002
    let s := (s.setFault pg).recordError {
      source := srcOf pg, cls := if sharedKind kind then 1 else 2, code := 0xF002, part := s.unitOwner? kind i, unitFailed := true,
      also := also }
    let s := s.addKnownBad kind i
    if sharedKind kind then s.trimUnit kind i
    else ({ s with failed := (kind, i) :: s.failed }).setFld crnPage Fld.CRN_SERVICE_FAILED_PENDING 1

/-- An uncorrectable SRAM error of a unit is counted; the third within 1,000 strokes fails the unit (R446). -/
def State.sramError (s : State) (kind i : Nat) : State :=
  let now := s.strokeNo
  let keep := (s.errs.sramErrs.filter (fun e => decide (now < e.2.2 + 1000))) ++ [(kind, i, now)]
  let s := { s with errs := { s.errs with sramErrs := keep } }
  if 3 ≤ (keep.filter (fun e => e.1 == kind && e.2.1 == i)).length then s.failUnit kind i else s

/-- Source page and details of an uncorrectable byte by its memory key (Table 19.4): the channel of HBM with the
channel-local address and byte mask; the core with the SP offset of the blank and the bank of the slot (R135), or the AM line; the cluster for CM. -/
def State.badSource (s : State) (k : Nat) : Nat × Nat × Nat :=
  if isHbm k then
    match (s.setOf? k).bind (fun t => s.place? t (k - setBase t)) with
    | some (ch, l) => (mcPage ch, l / 64 * 64, maskOf 64 (fun i => match s.unplace? ch (l / 64 * 64 + i) with
        | some a => s.bad.contains a
        | none => false))
    | none => (crnPage, 0, 0)
  else if isCm k then (page 6 ((k - cmBase) / 0x2000000), 0, 0)
  else if isSp k then
    let o := (k - spBase) % 0x800000
    (page 7 ((k - spBase) / 0x800000), o / 16384 * 16384, (o % 16384 / 256 + o % 256 / 4) % 64)
  else if k < 2 ^ 49 then (page 7 ((k - 2 ^ 48) / 0x100000), 2 ^ 63 + (k - 2 ^ 48) % 0x100000 / 256, 0)
  else (page 7 ((k - 2 ^ 49) / 0x10000 % 1024), 0, 0)

/-- CORE_SP_ECC after an uncorrectable error of the SP or the AM (R144, Table 6.6). -/
def State.spEcc (s : State) (pg k : Nat) : State :=
  if !isSp k && (k < 2 ^ 48 || 2 ^ 49 ≤ k) then s
  else
    let o := (k - spBase) % 0x800000
    let am := decide (2 ^ 48 ≤ k)
    let s := s.setFld pg Fld.CORE_SP_ECC_BLANK (if am then (k - 2 ^ 48) % 0x100000 / 256 % 512 else o / 2 ^ 14)
    let s := s.setFld pg Fld.CORE_SP_ECC_BANK (if am then 0 else (o % 2 ^ 14 / 256 + o % 256 / 4) % 64)
    (s.setBit pg Fld.CORE_SP_ECC_IN_AM am).addFld pg Fld.CORE_SP_ECC_COUNT 1

/-- The lowest untrimmed matrix engine that a command of a core may occupy, 0xFF where it occupies none (Table 19.4, R149). -/
def State.badEngine (s : State) (n : Nat) (c : Option InFlight) : Nat :=
  let mask := match c with
    | some f => if f.cmd.op = 0x30 then bitsAt f.ext 76 9 6 else if f.cmd.op = 0x34 ∧ f.cmd.sub ≤ 2 then bitsAt f.ext 144 9 6 else 0
    | none => 0
  ((List.range 4).find? (fun e => mask.testBit e && !s.trimmed 16 (4 * n + e))).getD 0xFF

/-- The error record of uncorrectable data met in a range of memory keys, for a command or for none (R311, R144, R483); an SRAM
error counts against its core or cluster.  DESIGN CHOICE (log 61): the access's re-reads count at the time of the channel's last event. -/
def State.recordBad (s : State) (k n : Nat) (part : Option Nat) (cmd : Option InFlight) : State :=
  match (s.bad.filter (fun x => decide (k ≤ x) && decide (x < k + n))).head? with
  | none => s
  | some b =>
    let (pg, d0, d1) := s.badSource b
    let s := if pgClass pg = 7 then s.spEcc pg b else s
    let d1 := if pgClass pg = 7 then d1 % 256 + 256 * s.badEngine (pgInst pg) cmd else d1
    let s := s.recordError {
      source := srcOf pg, cls := 1, code := 0xF001, part := part, ctx := cmd.map (fun c => c.ctx), d0 := d0, d1 := d1,
      cmd := cmd.map (fun c => (c.ring, c.cmd.tag)) }
    if pgClass pg = 6 ∨ pgClass pg = 7 then s.sramError (pgClass pg) (pgInst pg)
    else if pgClass pg = 8 then s.chanBad (pgInst pg) d0 d1 ((s.chan (pgInst pg)).events.getLastD 0) else s

/-- The first memory key a range of device addresses meets uncorrectable data at. -/
def State.badDev? (s : State) (p : Option Nat) (a n : Nat) : Option Nat :=
  (List.range n).findSome? (fun i => match s.xlate p (a + i) with
    | .ok k => if s.bad.contains k then some k else none
    | .error _ => none)

/-- The code of a command whose core is trimmed, absent or failed in service, 0 when it can run (R446, R447). -/
def State.coreCode (s : State) (c : InFlight) : Code :=
  match s.cmdCore? c with
  | none => 0x0103
  | some n => if s.outOfService 7 n || s.outOfService 6 c.ccp then 0x0103 else 0

/-- The first ownership fault of a range of device addresses of a partition: outside it, beyond what exists, or of a trimmed
core; 0 when there is none (R305, R80). -/
def State.ownCode (s : State) (p a n : Nat) : Code :=
  ((List.range n).findSome? (fun i => match s.xlate (some p) (a + i) with
    | .error e => if e == 0x0109 || e == 0x0A01 || e == 0x0103 then some e else none
    | .ok _ => none)).getD 0

/-- A command ends with a code; uncorrectable data it met in a device range is recorded (R311, R440). -/
def State.stopCmd (s : State) (c : InFlight) (code : Code) (good a n : Nat) : State :=
  let s := if code = 0xF001 then (match s.badDev? (some c.part) a n with
    | some k => s.recordBad k 1 (some c.part) (some c)
    | none => s) else s
  s.endCmd c.ring c.seq code good

/-- Write bytes to several device ranges in order, up to the first that fails. -/
def State.wrAll (s : State) (p : Nat) (ws : List (Nat × List Byte)) : State × Code :=
  ws.foldl (fun r w => if r.2 ≠ 0 then r else let x := r.1.wrDev (some p) w.1 w.2; (x.1, x.2.2)) (s, 0)

end Sys2Proof.Machine
end

