-- ==== Sys2Proof/Machine/Kv.lean ====
section
/-!
DEFINITION. KV pages: table heads, the slot allocator, epochs, moves between tiers, SPILL, FETCH, parking, and the watermarks
of a stroke boundary (R226 to R249).
-/
namespace Sys2Proof.Machine

open Sys2Proof

/-! ### Heads and entries (R226 to R229) -/

/-- A table head (Table 10.2). -/
structure Head where
  len : Nat
  entries : Nat
  gen : Nat
  base : Nat
  edit : Bool
  parked : Bool
  deriving DecidableEq, Repr

/-- The entries of a head lie in the partition's resources, the place of entry 0 where there is none (R228, R229). -/
def State.entriesIn (s : State) (p : Nat) (h : Head) : Bool := s.cmOrHbm p h.base (8 * max 1 h.entries)

/-- Read a table head: the code of R229 or of the access when it is malformed or cannot be read. -/
def State.readHead (s : State) (p a : Nat) : Except Code Head :=
  match s.rdDev (some p) a 32 with
  | .error e => .error e
  | .ok b =>
    let h : Head := ⟨leAt b 0 4, leAt b 4 4, leAt b 8 8, leAt b 16 8, bitsAt b 24 0 0 == 1, bitsAt b 24 1 1 == 1⟩
    if 131072 < h.entries ∨ 2097152 < h.len ∨ leAt b 24 8 / 4 ≠ 0 ∨ h.base % 8 ≠ 0 then .error 0x0781
    else if !s.entriesIn p h then .error 0x0781
    else .ok h

/-- log₂ of the tokens of an entry (Table 10.1). -/
def entryLog (e : Nat) : Nat := e / 2 ^ 42 % 16
/-- The entry names a host-tier page. -/
def entryHost (e : Nat) : Bool := e.testBit 46
/-- FRAME of an entry. -/
def entryFrame (e : Nat) : Nat := e % 2 ^ 42
/-- FMT of an entry. -/
def entryFmt (e : Nat) : Nat := e / 2 ^ 48 % 32

/-- Slot-table index of the run an entry names; none when FRAME is no slot of its tier (R230). -/
def State.entrySlot? (s : State) (p e : Nat) : Option Nat :=
  let sb := s.slotBytes p
  let a := 64 * entryFrame e
  let base := s.sh (partPage p) Fld.PART_KV_POOL_BASE_BASE
  if sb = 0 then none
  else if entryHost e then
    if a % sb = 0 ∧ a / sb < s.kvHslots p then some (s.kvSlots p + a / sb) else none
  else if base ≤ a ∧ (a - base) % sb = 0 ∧ (a - base) / sb < s.kvSlots p then some ((a - base) / sb)
  else none

/-- FRAME of a run by slot-table index. -/
def State.slotFrame (s : State) (p i : Nat) : Nat :=
  if i < s.kvSlots p then (s.sh (partPage p) Fld.PART_KV_POOL_BASE_BASE + i * s.slotBytes p) / 64
  else (i - s.kvSlots p) * s.slotBytes p / 64

/-- Host I/O address of a host slot by slot-table index. -/
def State.hostSlot (s : State) (p i : Nat) : Nat :=
  s.sh (partPage p) Fld.PART_KV_HOST_BASE_BASE + (i - s.kvSlots p) * s.slotBytes p

/-- Host port of the host tier. -/
def State.kvPort (s : State) (p : Nat) : Nat := s.sh (partPage p) Fld.PART_KV_HOST_GEOM_PORT

/-- The device has read a table head. -/
def State.knowHead (s : State) (p a : Nat) : State :=
  if s.kvParked.contains (p, a) then s else { s with kvParked := (p, a) :: s.kvParked }

/-- A table head that shows PARKED holds the entry at an address (R244): DEDUCED (log 19), of the heads the device has read, since an
entry does not name its head. -/
def State.entryParked (s : State) (p e : Nat) : Bool :=
  s.kvParked.any (fun x => x.1 == p && (match s.readHead p x.2 with
    | .ok h => h.parked && decide (h.base ≤ e) && decide (e < h.base + 8 * h.entries)
    | .error _ => false))

/-! ### The allocator and epochs (R232, R233, R236) -/

/-- An allocator operation refused (R232). -/
def State.kvRefuse (s : State) (p : Nat) : State :=
  (s.setFld (partPage p) Fld.PART_KV_ALLOC_ERR 1).refuseF (partPage p) 0x078B Fld.PART_KV_ALLOC_SLOT

/-- An allocator operation performed: its fields stand as written; NONE is of the last ALLOC (Table 10.7). -/
def State.kvDone (s : State) (p slot span host none : Nat) : State :=
  ((((s.setFld (partPage p) Fld.PART_KV_ALLOC_SLOT slot).setFld (partPage p) Fld.PART_KV_ALLOC_SPAN span).setFld (partPage p)
    Fld.PART_KV_ALLOC_HOST host).setFld (partPage p) Fld.PART_KV_ALLOC_ERR 0).setFld (partPage p) Fld.PART_KV_ALLOC_NONE none

/-- A write of PART_KV_ALLOC (R232). -/
def kvAllocWrite (s : State) (who : Requester) (p : Nat) (v : Word64) : State :=
  s.letIn who (partPage p) (fun s =>
    let slot := getBits v 31 0
    let span := getBits v 36 32
    let host := getBits v 37 37 == 1
    let owner := s.fld (partPage p) Fld.PART_KV_OWNER_ADDR
    let i := (s.tier p host).1 + slot
    let inTier := decide (slot < (s.tier p host).2)
    let noRun := s.fld (partPage p) Fld.PART_KV_ALLOC_NONE
    if getBits v 40 40 + getBits v 41 41 + getBits v 42 42 ≠ 1 then s.kvRefuse p
    else if getBits v 40 40 = 1 then
      if span = 0 ∨ 16 < span then s.kvRefuse p
      else match s.findRun p host span with
        | none => s.kvDone p slot span (getBits v 37 37) 1
        | some j =>
          (s.takeRun p j span 1 owner).kvDone p (j - (s.tier p host).1) span (getBits v 37 37) 0
    else if !inTier then s.kvRefuse p
    else if getBits v 41 41 = 1 then
      if s.slotSt p i = 1 ∧ s.slotPin p i = 0 then (s.toLimbo p i).kvDone p slot span (getBits v 37 37) noRun else s.kvRefuse p
    else if s.slotSt p i = 1 ∨ s.slotSt p i = 2 then
      (s.setSlotW0 p i (s.slotSt p i) (s.slotSpan p i) owner).kvDone p slot span (getBits v 37 37) noRun
    else s.kvRefuse p)

/-- EPOCH_ADV (R233). -/
def kvEpochAdv (s : State) (who : Requester) (p : Nat) : State := s.letIn who (partPage p) (fun s => s.epochAdv p)

/-! ### Moves (R245) -/

/-- Start the move of the page an entry names, up to the marking of both runs (R245 steps 1 and 2): the info bits of a page
that is skipped, or the state with the move under way.  `dst` is a reserved run, `low` the watermark a run of the pool must
leave free. -/
def State.moveStart (s : State) (p : Nat) (cmd : Option (Nat × Nat)) (e : Nat) (toHost : Bool) (dst : Option Nat) (low : Nat) :
    Except Nat State :=
  match s.xlate (some p) e with
  | .error _ => .error (2 ^ 17)
  | .ok k =>
    let e0 := s.rd64 k
    if entryHost e0 == toHost then .error (2 ^ 16)
    else match s.entrySlot? p e0 with
      | none => .error (2 ^ 17)
      | some src =>
        if s.slotOwner p src ≠ e ∨ !(s.slotSt p src == 1 || s.slotSt p src == 2) then .error (2 ^ 17)
        else
          let span := s.slotSpan p src
          let run := match dst with
            | some d => some d
            | none => if !toHost && decide (s.tierCount p false 0 < span + low) then none else s.findRun p toHost span
          match run with
          | none => .error (2 ^ 16)
          | some d =>
            let s := (s.takeRun p d span 2 e).setSlotSt p src 2
            .ok { s with kvMoves := s.kvMoves ++ [⟨p, cmd, e, e0, src, d, toHost⟩] }

/-- The code of a move's copy: host tier unreachable, or uncorrectable data in the source (R248). -/
def State.moveCode (s : State) (m : KvMove) : Code :=
  let n := s.slotSpan m.part m.src * s.slotBytes m.part
  let hostRun := if m.toHost then m.dst else m.src
  if s.hostCode (s.kvPort m.part) m.part (s.hostSlot m.part hostRun) n ≠ 0 then 0x0786
  else if m.toHost && s.badIn (64 * s.slotFrame m.part m.src) n then 0xF001
  else 0

/-- Copy the page of a move (R245 step 3). -/
def State.moveCopy (s : State) (m : KvMove) : State :=
  let n := s.slotSpan m.part m.src * s.slotBytes m.part
  if m.toHost then s.wrHost (s.kvPort m.part) (s.hostSlot m.part m.dst) (s.rds (64 * s.slotFrame m.part m.src) n)
  else s.wrs (64 * s.slotFrame m.part m.dst) (s.rdHost (s.kvPort m.part) (s.hostSlot m.part m.src) n)

/-- The entry after a move: new TIER and FRAME, GEN + 1 modulo 256 (Table 10.1, R245). -/
def movedEntry (e0 frame : Nat) (toHost : Bool) : Nat :=
  frame % 2 ^ 42 + entryLog e0 * 2 ^ 42 + (if toHost then 2 ^ 46 else 0) + e0 / 2 ^ 47 % 2 ^ 9 * 2 ^ 47 +
    (e0 / 2 ^ 56 + 1) % 256 * 2 ^ 56

/-- A move has ended: its command goes on to the next page, and counts one that changed its entry; a page that a list, a range or a park
names and that did not move is one fewer (R247). -/
def State.moved (s : State) (m : KvMove) (ok : Bool) (info : Nat) : State :=
  match m.cmd with
  | none => s
  | some (r, q) => s.modCmd r q (fun c =>
      let picks := c.cmd.op == 0x90 && c.cmd.sub != 0
      let prog := match c.prog with
        | a :: e :: i :: rs => if c.cmd.op = 0x92 ∨ c.cmd.op = 0x93 then a :: e :: (i + 1) :: rs
          else if ok || !picks then (a + 1) :: e :: i :: rs else c.prog
        | n :: rs => if ok || !picks then (n + 1) :: rs else c.prog
        | [] => if ok || !picks then [1] else []
      { c with
        good := if ok then c.good + s.slotSpan m.part m.dst * s.slotBytes m.part else c.good,
        info := c.info ||| info ||| (if ok || picks then 0 else 2 ^ 16), prog := prog,
        ports := if m.toHost && !c.ports.contains (s.kvPort m.part) then s.kvPort m.part :: c.ports else c.ports })

/-- Steps 3 to 5 of a move (R245). -/
def State.commitMove (s : State) (m : KvMove) : State :=
  let p := m.part
  let code := s.moveCode m
  if code ≠ 0 then
    let s := if code = 0xF001 then
        s.recordBad (64 * s.slotFrame p m.src) (s.slotSpan p m.src * s.slotBytes p) (some p)
          (m.cmd.bind (fun x => s.cmdAt? x.1 x.2))
      else s
    match m.cmd.bind (fun x => s.cmdAt? x.1 x.2) with
    | some c => (s.dropWork c).finish c.ring c.seq code
    | none => s.dropMove m
  else
    let s := s.moveCopy m
    match s.xlate (some p) m.entry with
    | .error _ => (s.dropMove m).moved m false (2 ^ 17)
    | .ok k =>
      if s.slotPin p m.src ≠ 0 then (s.dropMove m).moved m false (2 ^ 18)
      else if s.rd64 k ≠ m.e0 then (s.dropMove m).moved m false (2 ^ 17)
      else
        let s := s.wr64 k (movedEntry m.e0 (s.slotFrame p m.dst) m.toHost)
        let s := { s with kvMoves := eraseFirst (fun x => x == m) s.kvMoves }
        let s := s.setSlotW0 p m.dst 1 (s.slotSpan p m.src) (s.slotOwner p m.src)
        let s := (s.setSlotUse p m.dst s.strokeNo).toLimbo p m.src
        let s := s.addFld (partPage p) (if m.toHost then Fld.PART_KV_SPILLED_COUNT else Fld.PART_KV_FETCHED_COUNT) 1
        s.moved m true 0

/-- KV_MOVE_COMMIT (R245 steps 3 to 5): the oldest move of the partition. -/
def kvMoveCommit (s : State) (p : Nat) : State :=
  match s.kvMoves.find? (fun m => m.part == p) with
  | none => s
  | some m => s.commitMove m

/-! ### Tier commands (R241, R243, R244, R247, R248) -/

/-- Fields of a tier descriptor (Table 10.5). -/
def tierTarget (c : InFlight) : Nat := leAt c.ext 0 8
/-- COUNT. -/
def tierCountF (c : InFlight) : Nat := leAt c.ext 8 4
/-- POS_LO. -/
def tierLo (c : InFlight) : Nat := leAt c.ext 12 4
/-- POS_HI. -/
def tierHi (c : InFlight) : Nat := leAt c.ext 16 4
/-- BEFORE. -/
def tierBefore (c : InFlight) : Nat := leAt c.ext 24 8
/-- FORCE. -/
def tierForce (c : InFlight) : Bool := bitsAt c.ext 32 0 0 == 1

/-- The home check of a tier command (R244). -/
def State.tierCheck (s : State) (c : InFlight) : Code :=
  let op := c.cmd.op
  let sub := c.cmd.sub
  let n := tierCountF c
  let list := (op == 0x90 || op == 0x91) && sub == 0
  let counted := list || (op == 0x90 && sub == 1)
  let range := op == 0x91 && sub == 1
  let headed := range || op == 0x92 || op == 0x93
  let maxSub := if op = 0x90 then 2 else if op = 0x91 then 1 else 0
  if maxSub < sub then 0x078D
  else if c.cmd.arg ≠ 0 ∨ c.cmd.opFlags ≠ 0 ∨ leAt c.ext 20 4 ≠ 0 ∨ bitsAt c.ext 32 31 1 ≠ 0 ∨
      (c.ext.drop 36).any (fun b => b != 0) then 0x0101
  else if s.kvSlots c.part = 0 ∨ s.kvHslots c.part = 0 then 0x078A
  else if (counted && (n == 0 || decide (65536 < n))) || (!counted && n != 0) then 0x0102
  else if op = 0x90 ∧ sub ≠ 0 ∧ tierTarget c ≠ 0 then 0x0102
  else if list && tierTarget c % 8 != 0 then 0x0108
  else if list && s.rangeCode c.part (tierTarget c) (8 * n) != 0 then s.rangeCode c.part (tierTarget c) (8 * n)
  else if headed && tierTarget c % 32 != 0 then 0x0108
  else if headed && s.rangeCode c.part (tierTarget c) 32 != 0 then s.rangeCode c.part (tierTarget c) 32
  else if range then
    match s.readHead c.part (tierTarget c) with
    | .error e => e
    | .ok h => if tierHi c ≤ tierLo c ∨ h.len < tierHi c then 0x0102 else 0
  else 0

/-- The tier command's page is being moved. -/
def State.moving (s : State) (r q : Nat) : Bool := s.kvMoves.any (fun m => m.cmd == some (r, q))

/-- Set an info bit of a command and its progress. -/
def State.skipPage (s : State) (r q info : Nat) (prog : List Nat) : State :=
  s.modCmd r q (fun c => { c with info := c.info ||| info, prog := prog })

/-- Low watermark. -/
def State.kvLow (s : State) (p : Nat) : Nat := s.fld (partPage p) Fld.PART_KV_WM_LOW
/-- High watermark. -/
def State.kvHigh (s : State) (p : Nat) : Nat := s.fld (partPage p) Fld.PART_KV_WM_HIGH

/-- Move the pages of a list from index `i`: start the next move, skipping pages that cannot move; end when the list is done. -/
def State.moveList (s : State) (c : InFlight) (toHost : Bool) (i : Nat) : Nat → State
  | 0 => s.finish c.ring c.seq 0
  | n + 1 =>
    match s.rdDev (some c.part) (tierTarget c + 8 * i) 8 with
    | .error e => s.finish c.ring c.seq e
    | .ok b =>
      let e := leNat b
      let low := if toHost || tierForce c then 0 else s.kvLow c.part
      if s.entryParked c.part e then State.moveList (s.skipPage c.ring c.seq (2 ^ 16) [i + 1]) c toHost (i + 1) n
      else match s.moveStart c.part (some (c.ring, c.seq)) e toHost none low with
        | .error info => State.moveList (s.skipPage c.ring c.seq (info ||| 2 ^ 16) [i + 1]) c toHost (i + 1) n
        | .ok t => t.modCmd c.ring c.seq (fun x => { x with prog := [i] })

/-- The pick of R241, over slots whose entries did not name them when they were picked before (R245 step 1, log 19). -/
def State.pickSlot (s : State) (p before : Nat) (skip : List Nat) : Option Nat :=
  ((List.range (s.kvSlots p)).filter (fun i => s.slotSt p i == 1 && s.slotPin p i == 0 && !skip.contains i &&
    (before == 0 || decide (s.slotUse p i < before)))).foldl (fun best i => match best with
      | none => some i
      | some b => if s.slotUse p i < s.slotUse p b then some i else some b) none

/-- A selecting SPILL chooses and starts its next page, or ends (R241). -/
def State.spillPick (s : State) (c : InFlight) : Nat → State
  | 0 => s.finish c.ring c.seq 0
  | fuel + 1 =>
    let now := (s.cmdAt? c.ring c.seq).getD c
    let n := now.prog.head?.getD 0
    let skip := now.prog.drop 1
    let done := if c.cmd.sub = 1 then decide (tierCountF c ≤ n)
      else decide (s.kvHigh c.part ≤ s.tierCount c.part false 0 + s.tierCount c.part false 3)
    if done then s.finish c.ring c.seq 0
    else match s.pickSlot c.part (tierBefore c) skip with
      | none => (s.skipPage c.ring c.seq (2 ^ 16) now.prog).finish c.ring c.seq 0
      | some i =>
        if (s.findRun c.part true (s.slotSpan c.part i)).isNone then
          (s.skipPage c.ring c.seq (2 ^ 16) now.prog).finish c.ring c.seq 0
        else match s.moveStart c.part (some (c.ring, c.seq)) (s.slotOwner c.part i) true none 0 with
          | .ok t => t.modCmd c.ring c.seq (fun x => { x with prog := n :: skip })
          | .error _ => State.spillPick (s.skipPage c.ring c.seq (2 ^ 17) (n :: (skip ++ [i]))) c fuel

/-- The entries of a head from entry `i` at position `pos` that cover a range: address of each (R229, R244). -/
def State.rangeEntries (s : State) (p : Nat) (h : Head) (lo hi i pos : Nat) : Nat → List Nat
  | 0 => []
  | n + 1 =>
    if h.entries ≤ i ∨ hi ≤ pos then []
    else
      let e := s.rd64 (s.keyOf p (h.base + 8 * i))
      let q := pos + 2 ^ entryLog e
      (if lo < q then [h.base + 8 * i] else []) ++ s.rangeEntries p h lo hi (i + 1) q n

/-- Move the pages of a list of entry addresses, from the `i`-th. -/
def State.moveEntries (s : State) (c : InFlight) (es : List Nat) (i : Nat) : List Nat → State
  | [] => s.finish c.ring c.seq 0
  | e :: r =>
    match s.moveStart c.part (some (c.ring, c.seq)) e false none (if tierForce c then 0 else s.kvLow c.part) with
    | .error info =>
      -- a page already in the pool is not one to move
      let info := if info = 2 ^ 16 ∧ !entryHost (s.rd64 (s.keyOf c.part e)) then 0 else info ||| 2 ^ 16
      State.moveEntries (s.skipPage c.ring c.seq info [i + 1]) c es (i + 1) r
    | .ok t => t.modCmd c.ring c.seq (fun x => { x with prog := [i] })

/-- Go on with a SPILL or FETCH: with no page in flight, start the next one or end. -/
def State.tierNext (s : State) (c : InFlight) : State :=
  let now := (s.cmdAt? c.ring c.seq).getD c
  if s.moving c.ring c.seq then s
  else
    let i := now.prog.head?.getD 0
    if c.cmd.sub = 0 then s.moveList c (c.cmd.op == 0x90) i (tierCountF c - i)
    else if c.cmd.op = 0x90 then s.spillPick c (s.kvSlots c.part + 1)
    else match s.readHead c.part (tierTarget c) with
      | .error e => s.finish c.ring c.seq e
      | .ok h =>
        let es := s.rangeEntries c.part h (tierLo c) (tierHi c) 0 0 h.entries
        (s.knowHead c.part (tierTarget c)).moveEntries c es i (es.drop i)

/-- SPILL (R241, R244). -/
def spillCmd (s : State) (r q : Nat) : State := s.contCmd 0x90 r q State.tierNext State.tierNext
/-- FETCH (R244). -/
def fetchCmd (s : State) (r q : Nat) : State := s.contCmd 0x91 r q State.tierNext State.tierNext

/-- Entry addresses of a head. -/
def headEntries (h : Head) : List Nat := (List.range h.entries).map (fun i => h.base + 8 * i)

/-- Take a run in a tier for each page of a list of spans: the state with the runs marked MOVING, and the runs; none if one
cannot be taken (R243). -/
def State.reserveRuns (s : State) (p : Nat) (host : Bool) : List Nat → Option (State × List Nat)
  | [] => some (s, [])
  | span :: r =>
    match s.findRun p host span with
    | none => none
    | some i => ((s.takeRun p i span 2 0).reserveRuns p host r).map (fun x => (x.1, i :: x.2))

/-- Begin a park or unpark (R243, R237 steps 1 and 2): another editor's EDIT makes it try again later. -/
def State.parkStart (s : State) (c : InFlight) (park : Bool) : State :=
  let p := c.part
  let a := tierTarget c
  match s.readHead p a with
  | .error e => s.finish c.ring c.seq e
  | .ok h =>
    let es := headEntries h
    let pages := es.filterMap (fun e =>
      let w := s.rd64 (s.keyOf p e)
      if entryHost w == park then none else s.entrySlot? p w)
    if h.edit then s
    else if h.parked == park then s.finish c.ring c.seq 0x0787
    else if park && es.any (fun e => match s.entrySlot? p (s.rd64 (s.keyOf p e)) with
        | some i => s.slotPin p i != 0
        | none => false) then s.finish c.ring c.seq 0x0788
    else match s.reserveRuns p park (pages.map (s.slotSpan p)) with
      | none => s.finish c.ring c.seq 0x0789
      | some (t, rs) =>
        let k := t.keyOf p (a + 24)
        let t := ((t.wr64 k (t.rd64 k ||| 1)).epochAdv p).knowHead p a
        t.modCmd c.ring c.seq (fun x => { x with prog := [a, t.epochCur p, 0] ++ rs })

/-- End a park or unpark: PARKED as wanted, TABLE_GEN one higher, EDIT clear, unused runs returned (R243). -/
def State.parkEnd (s : State) (c : InFlight) (park : Bool) (a : Nat) (rs : List Nat) : State :=
  let p := c.part
  let s := rs.foldl (fun s i => s.freeRun p i) s
  let g := s.keyOf p (a + 8)
  let s := s.wr64 g (s.rd64 g + 1)
  let k := s.keyOf p (a + 24)
  let s := s.wr64 k (if park then 2 else 0)
  (s.modCmd c.ring c.seq (fun x => { x with prog := [] })).finish c.ring c.seq 0

/-- Move the pages of a park or unpark from entry `i`, each into a reserved run of its span; one whose reserved run went with a move that
a pre-emption abandoned takes a run again (R248). -/
def State.parkMoves (s : State) (c : InFlight) (park : Bool) (a e0 i : Nat) (rs : List Nat) : List Nat → State
  | [] => s.parkEnd c park a rs
  | e :: r =>
    let p := c.part
    let w := s.rd64 (s.keyOf p e)
    if entryHost w == park then s.parkMoves c park a e0 (i + 1) rs r
    else
      let span := match s.entrySlot? p w with | some x => s.slotSpan p x | none => 0
      let d := rs.find? (fun x => s.slotSpan p x == span)
      match s.moveStart p (some (c.ring, c.seq)) e park d 0 with
      | .error info => (s.skipPage c.ring c.seq (info ||| 2 ^ 16) ([a, e0, i + 1] ++ rs)).parkMoves c park a e0 (i + 1) rs r
      | .ok t => t.modCmd c.ring c.seq (fun x => { x with prog := [a, e0, i] ++ rs.filter (fun y => some y != d) })

/-- Go on with a park or unpark: wait for the epoch to retire, then move page by page (R237, R243). -/
def State.parkNext (s : State) (c : InFlight) (park : Bool) : State :=
  let now := (s.cmdAt? c.ring c.seq).getD c
  match now.prog with
  | a :: e0 :: i :: rs =>
    if s.moving c.ring c.seq || decide (s.epochOld c.part < e0) then s
    else match s.readHead c.part a with
      | .error e => (s.dropWork now).finish c.ring c.seq e
      | .ok h => s.parkMoves c park a e0 i rs ((headEntries h).drop i)
  | _ => s.parkStart c park

/-- SEQ_PARK (R243). -/
def seqParkCmd (s : State) (r q : Nat) : State :=
  s.contCmd 0x92 r q (fun s c => s.parkStart c true) (fun s c => s.parkNext c true)
/-- SEQ_UNPARK (R243). -/
def seqUnparkCmd (s : State) (r q : Nat) : State :=
  s.contCmd 0x93 r q (fun s c => s.parkStart c false) (fun s c => s.parkNext c false)

/-! ### Watermarks (R240) -/

/-- PARK_STROKES_REACHED (R240): BELOW_STROKES has come to a non-zero PARK_STROKES, once for each time it does. -/
def parkStrokesReached (s : State) (p : Nat) : State :=
  let pg := partPage p
  let n := s.fld pg Fld.PART_KV_PARK_PARK_STROKES
  if n ≠ 0 ∧ s.fld pg Fld.PART_KV_STATUS_BELOW_STROKES = n ∧ (s.part p).parkTaken = false then
    ((s.setFld pg Fld.PART_KV_STATUS_PARK_NEEDED 1).raise pg 26).modPart p (fun x => { x with parkTaken := true })
  else s

/-- The watermark check of a boundary (R240) for one partition. -/
def State.kvBoundary (s : State) (p : Nat) : State :=
  let pg := partPage p
  if s.kvSlots p = 0 ∧ s.kvHslots p = 0 then s
  else
    let free := s.tierCount p false 0
    let hostFree := s.tierCount p true 0
    let below := decide (free < s.kvLow p)
    let n := s.fld pg Fld.PART_KV_STATUS_BELOW_STROKES
    let n' := if below then satAdd 16 n 1 else 0
    let s' := (s.setBit pg Fld.PART_KV_STATUS_BELOW_LOW below).setFld pg Fld.PART_KV_STATUS_BELOW_STROKES n'
    let s' := if below ∧ n = 0 then s'.raise pg 24 else s'
    let s' := if s.kvHigh p ≤ free + s.tierCount p false 3 then s'.setFld pg Fld.PART_KV_STATUS_PARK_NEEDED 0 else s'
    let s' := if hostFree < 16 ∧ (s.part p).hostAbove = true then s'.raise pg 25 else s'
    s'.modPart p (fun x => { x with hostAbove := decide (16 ≤ hostFree), parkTaken := x.parkTaken && n' == n })

/-- PARK_STROKES_REACHED (R240). -/
def execParkStrokesReached (part : Nat) (s : State) : Host.Outcome State Fault Refusal := State.done (parkStrokesReached s part)
/-- KV_ALLOC (R232): a PART_KV_ALLOC write with ALLOC set. -/
def execKvAlloc (who : Requester) (part : Nat) (v : Word64) (s : State) : Host.Outcome State Fault Refusal :=
  State.done (kvAllocWrite s who part (setBits v 40 40 1))
/-- KV_FREE (R232): a PART_KV_ALLOC write with FREE set. -/
def execKvFree (who : Requester) (part : Nat) (v : Word64) (s : State) : Host.Outcome State Fault Refusal :=
  State.done (kvAllocWrite s who part (setBits v 41 41 1))
/-- KV_REOWN (R232): a PART_KV_ALLOC write with REOWN set. -/
def execKvReown (who : Requester) (part : Nat) (v : Word64) (s : State) : Host.Outcome State Fault Refusal :=
  State.done (kvAllocWrite s who part (setBits v 42 42 1))
/-- EPOCH_ADV (R233). -/
def execEpochAdv (who : Requester) (part : Nat) (s : State) : Host.Outcome State Fault Refusal := State.done (kvEpochAdv s who part)
/-- LIMBO_RELEASE (R236). -/
def execLimboRelease (part : Nat) (s : State) : Host.Outcome State Fault Refusal := State.done (s.limboRelease part)
/-- SPILL (R241). -/
def execKvSpill (ring seq : Nat) (s : State) : Host.Outcome State Fault Refusal := State.done (spillCmd s ring seq)
/-- FETCH (R244). -/
def execKvFetch (ring seq : Nat) (s : State) : Host.Outcome State Fault Refusal := State.done (fetchCmd s ring seq)
/-- SEQ_PARK (R243). -/
def execSeqPark (ring seq : Nat) (s : State) : Host.Outcome State Fault Refusal := State.done (seqParkCmd s ring seq)
/-- SEQ_UNPARK (R243). -/
def execSeqUnpark (ring seq : Nat) (s : State) : Host.Outcome State Fault Refusal := State.done (seqUnparkCmd s ring seq)
/-- KV_MOVE_COMMIT (R245). -/
def execKvMoveCommit (part : Nat) (s : State) : Host.Outcome State Fault Refusal := State.done (kvMoveCommit s part)

end Sys2Proof.Machine
end

