-- ==== Sys2Proof/Machine/HostPort.lean ====
section
/-!
DEFINITION. Host ports: the Region Window Table, BAR2 and placement confirms (R355 to R360), MOVE (R361), and a port's link
while it is up (R366, R368, R370, R373).
-/
namespace Sys2Proof.Machine

open Sys2Proof

/-! ### The Region Window Table (R356 to R358) -/

/-- An entry that is not in use. -/
def RwtEntry.empty (p : Nat) : RwtEntry := ⟨false, false, false, 0, 0, 0, p, 0, 0⟩

/-- An entry of the table. -/
def State.rwtEntry (s : State) (i : Nat) : RwtEntry := SMap.getD s.rwt i (RwtEntry.empty 0)

/-- The entry a partition's window selects: FIRST until PART_RWT_SEL is written (Table 15.3). -/
def State.rwtSel (s : State) (p : Nat) : Nat :=
  match SMap.get? s.regs (partPage p + Reg.PART_RWT_SEL) with
  | some v => getBits v 14 0
  | none => (s.shape.live.rwt p).1

/-- An entry lies in a partition's range (R357). -/
def State.rwtOwns (s : State) (p i : Nat) : Bool :=
  decide ((s.shape.live.rwt p).1 ≤ i) && decide (i < (s.shape.live.rwt p).1 + (s.shape.live.rwt p).2)

/-- PART_RWT_W1 of an entry, as read (Table 15.3). -/
def RwtEntry.w1 (e : RwtEntry) : Word64 :=
  BitVec.ofNat 64 (e.limit % 2 ^ 10 + e.key % 2 ^ 16 * 2 ^ 16 + e.part % 64 * 2 ^ 32 + e.rid % 2 ^ 16 * 2 ^ 48)

/-- PART_RWT_W2 of an entry, as read. -/
def RwtEntry.w2 (e : RwtEntry) : Word64 := BitVec.ofNat 64 (e.sem % 2 ^ 48)

/-- PART_RWT_W0 of an entry, as read. -/
def RwtEntry.w0 (e : RwtEntry) : Word64 :=
  BitVec.ofNat 64 ((if e.valid then 1 else 0) + (if e.r then 2 else 0) + (if e.w then 4 else 0) + e.base % 2 ^ 48 / 4096 * 4096)

/-- The entry that W0, W1 and W2 spell for a partition. -/
def rwtOf (p : Nat) (w0 w1 w2 : Word64) : RwtEntry :=
  { valid := getBits w0 0 0 == 1, r := getBits w0 1 1 == 1, w := getBits w0 2 2 == 1, base := getBits w0 47 12 * 4096,
    limit := getBits w1 9 0, key := getBits w1 31 16, part := p, rid := getBits w1 63 48, sem := getBits w2 47 0 }

/-- The field of a VALID entry that its window or its semaphore breaks, if any (R357, 0x0C01). -/
def State.rwtUnsound? (s : State) (e : RwtEntry) : Option Fld :=
  if e.limit = 0 ∨ 512 < e.limit then some Fld.PART_RWT_W1_LIMIT
  else if !s.cmOrHbm e.part e.base 1 || !s.cmOrHbm e.part (e.base + e.limit * 4096 - 1) 1 then some Fld.PART_RWT_W0_DEV_BASE
  else if e.sem ≠ 0 ∧ (e.sem % 8 ≠ 0 ∨ s.cmOrHbm e.part e.sem 8 = false) then some Fld.PART_RWT_W2_SEM_ADDR
  else none

/-- RWT_ENTRY_COMMIT (R357): a write of PART_RWT_W0 replaces the selected entry, with the W1 and W2 held since the last
commit, or the entry's own where none is held (log 22). -/
def rwtEntryCommit (s : State) (who : Requester) (p : Nat) (v : Word64) : State :=
  let pg := partPage p
  s.letIn who pg (fun s =>
    let i := s.rwtSel p
    let old := s.rwtEntry i
    let w1 := match (s.part p).rwtW1 with | some x => x.2 | none => old.w1
    let w2 := match (s.part p).rwtW2 with | some x => x.2 | none => old.w2
    let e := rwtOf p v w1 w2
    if !s.rwtOwns p i then s.refuseF pg 0x0C02 Fld.PART_RWT_SEL_ENTRY
    else match (if e.valid then s.rwtUnsound? e else none) with
      | some fld => s.refuseF pg 0x0C01 fld
      | none => ({ s with rwt := SMap.put s.rwt i e }).modPart p (fun x => { x with rwtW1 := none, rwtW2 := none }))

/-- RWT_SEL_READ (R358): the read returns the selection once earlier entry writes have taken effect and the requests checked
against replaced entries have landed, which in this model of whole requests they have. -/
def rwtSelRead (s : State) (who : Requester) (p : Nat) : State :=
  if s.arrives who && s.mayRead who (partPage p) then s.emit (.data (leBytes 8 (s.rwtSel p))) else s

/-! ### BAR2 and CXL.mem (R356, R359, R429) -/

/-- A function reaches an entry's partition (R356). -/
def State.reachesEntry (s : State) (who : Requester) (e : RwtEntry) : Bool :=
  match who with
  | .pf _ => true
  | .vf h v => s.shape.live.vfPart? h v == some e.part
  | _ => false

/-- The partition and device address of a byte of BAR2, when its entry accepts the access (R356). -/
def State.bar2Byte? (s : State) (who : Requester) (rid : Nat) (write : Bool) (a : Nat) : Option (Nat × Nat) :=
  let e := s.rwtEntry (a / 2 ^ 21)
  let o := a % 2 ^ 21
  if a < 2 ^ 36 ∧ e.valid ∧ o < e.limit * 4096 ∧ (if write then e.w else e.r) ∧ (e.rid = 0 ∨ e.rid = rid) ∧
      s.reachesEntry who e then some (e.part, e.base + o) else none

/-- A rejected access (R356): counted on the port's page, BLOCK_EVT bit 20. -/
def State.rwtMiss (s : State) (who : Requester) : State :=
  (s.addFld (hpPage (portOf who)) Fld.HP_RWT_MISS_COUNT 1).raise (hpPage (portOf who)) 20

/-- The C-dies are down: from the entry to Block-hold until its exit ends, and during a package reset (R429, R424). -/
def State.held (s : State) : Bool := s.fld crnPage Fld.CRN_PWR_STATUS_STATE != 0

/-- The error record of a BAR2 access that reaches memory out of service (R359, Table 19.4). -/
def State.bar2Record (s : State) (who : Requester) (rid a part : Nat) (code : Code) : State :=
  s.recordError { source := srcOf (hpPage (portOf who)), cls := 1, code := code, part := some part, d0 := a, d1 := rid }

/-- The first byte of an accepted access whose memory is out of service: partition and code. -/
def State.bar2Code (s : State) (bytes : List (Nat × Nat)) : Option (Nat × Code) :=
  bytes.findSome? (fun b => match s.xlate (some b.1) b.2 with | .error e => some (b.1, e) | .ok _ => none)

/-- Write accepted bytes. -/
def State.bar2Put (s : State) : List (Nat × Nat) → List Byte → State
  | (p, a) :: bs, d :: ds => State.bar2Put (s.wr (s.keyOf p a) d) bs ds
  | _, _ => s

/-- BAR2_WRITE (R356, R359): every byte's entry accepts the write and it lands, or it is discarded. -/
def bar2Write (s : State) (who : Requester) (rid a : Nat) (data : List Byte) : State :=
  if !s.arrives who || s.held then s
  else match (List.range data.length).mapM (fun i => s.bar2Byte? who rid true (a + i)) with
    | none => s.rwtMiss who
    | some bytes => match s.bar2Code bytes with
      | some (p, e) => s.bar2Record who rid a p e
      | none => (s.bar2Put bytes data).observe

/-- BAR2_READ (R356, R359): the data, or Completer Abort; uncorrectable data is never returned. -/
def bar2Read (s : State) (who : Requester) (rid a len : Nat) : State :=
  if !s.arrives who then s
  else if s.held then s.emit .completerAbort
  else match (List.range len).mapM (fun i => s.bar2Byte? who rid false (a + i)) with
    | none => (s.rwtMiss who).emit .completerAbort
    | some bytes => match s.bar2Code bytes with
      | some (p, e) => (s.bar2Record who rid a p e).emit .completerAbort
      | none => match bytes.find? (fun b => s.bad.contains (s.keyOf b.1 b.2)) with
        | some b => (s.recordBad (s.keyOf b.1 b.2) 1 (some b.1) none).emit .completerAbort
        | none => s.emit (.data (bytes.map (fun b => s.rd (s.keyOf b.1 b.2))))

/-! ### Placement confirms (R360) -/

/-- A confirm refused: HP_PLACE_REFUSED of the port it came through, and the PART page's BLK_REASON (R360). -/
def State.placeRefused (s : State) (who : Requester) (p : Nat) : State :=
  let s := if portOf who < 2 then s.addFld (hpPage (portOf who)) Fld.HP_PLACE_REFUSED_COUNT 1 else s
  s.refuseF (partPage p) 0x0C03 Fld.PART_PLACE_DONE_ENTRY

/-- PLACE_DONE (R360): after the requester's earlier BAR2 writes, an ADD on the entry's semaphore. -/
def placeDone (s : State) (who : Requester) (p : Nat) (v : Word64) : State :=
  s.letIn who (partPage p) (fun s =>
    let i := getBits v 14 0
    let e := s.rwtEntry i
    if !e.valid || !s.rwtOwns p i || e.key != getBits v 31 16 then s.placeRefused who p
    else if e.sem = 0 then s
    else match s.xlate (some p) e.sem with
      | .error c => s.recordError { source := srcOf (partPage p), cls := 1, code := c, part := some p }
      | .ok k => match s.applySignal k 1 (getBits v 63 32) with
        | some t => t
        | none => s.recordBad k 8 (some p) none)

/-! ### Address translation (R355) -/

/-- ATS_INVALIDATE (R355): requests under the old translation have completed, and the completion is sent. -/
def atsInvalidate (s : State) (h a n : Nat) : State :=
  if s.linked h then s.emit (.atsComplete h a n) else s

/-! ### MOVE (R361) -/

/-- A MOVE descriptor (Table 15.4). -/
structure MoveDesc where
  src : Nat
  dst : Nat
  rb : Nat
  rows : Nat
  sstr : Nat
  dstr : Nat
  srcHost : Bool
  dstHost : Bool
  port : Nat
  rsvd : Bool
  deriving DecidableEq, Repr

/-- The descriptor of a MOVE. -/
def moveDesc (b : List Byte) : MoveDesc :=
  { src := leAt b 0 8, dst := leAt b 8 8, rb := leAt b 16 4, rows := leAt b 20 4, sstr := leAt b 24 8, dstr := leAt b 32 8,
    srcHost := bitsAt b 40 0 0 == 1, dstHost := bitsAt b 40 1 1 == 1, port := bitsAt b 40 2 2,
    rsvd := bitsAt b 40 31 3 != 0 || (b.drop 44).any (fun x => x != 0) }

/-- Some source row meets some destination row (R361). -/
def MoveDesc.overlaps (d : MoveDesc) : Bool :=
  (List.range d.rows).any (fun i => (List.range d.rows).any (fun j =>
    rangesMeet (d.src + i * d.sstr, d.rb) (d.dst + j * d.dstr, d.rb)))

/-- The first ownership fault of one end's rows. -/
def State.rowsCode (s : State) (p a stride rb rows : Nat) : Code :=
  ((List.range rows).findSome? (fun i => let e := s.ownCode p (a + i * stride) rb; if e = 0 then none else some e)).getD 0

/-- The home check of MOVE (R361, R353, R447). -/
def State.moveCheck (s : State) (c : InFlight) : Code :=
  let d := moveDesc c.ext
  let src := if d.srcHost then 0 else s.rowsCode c.part d.src d.sstr d.rb d.rows
  let dst := if d.dstHost then 0 else s.rowsCode c.part d.dst d.dstr d.rb d.rows
  if c.cmd.sub ≠ 0 then 0x0C07
  else if 8 ≤ c.cmd.arg ∨ c.cmd.opFlags ≠ 0 ∨ d.rsvd then 0x0101
  else if d.rb = 0 ∨ d.rows = 0 ∨ (1 < d.rows ∧ (d.sstr < d.rb ∨ d.dstr < d.rb)) then 0x0102
  else if d.srcHost && d.dstHost then 0x0C07
  else if !d.srcHost && !d.dstHost && d.overlaps then 0x0C07
  else if (d.srcHost || d.dstHost) && !s.reachable d.port c.part then 0x030A
  else if src ≠ 0 then src
  else if dst ≠ 0 then dst
  else s.coreCode c

/-- The code of a command's host access: its port was lost under it, or the access itself fails (R355, R367). -/
def State.cmdHostCode (s : State) (c : InFlight) (h a n : Nat) : Code :=
  if c.lostPorts.contains h then 0x0C05 else s.hostCode h c.part a n

/-- Copy byte `i` of a MOVE, counted in row order. -/
def State.moveByte (s : State) (c : InFlight) (d : MoveDesc) (i : Nat) : Except Code State :=
  let sa := d.src + i / d.rb * d.sstr + i % d.rb
  let da := d.dst + i / d.rb * d.dstr + i % d.rb
  let got : Except Code Byte :=
    if d.srcHost then
      let e := s.cmdHostCode c d.port sa 1
      if e = 0 then .ok (s.hrd (hostKey d.port sa)) else .error e
    else match s.xlate (some c.part) sa with
      | .error e => .error e
      | .ok k => if s.bad.contains k then .error 0xF001 else .ok (s.rd k)
  match got with
  | .error e => .error e
  | .ok b =>
    if d.dstHost then
      let e := s.cmdHostCode c d.port da 1
      if e = 0 then .ok (s.hwr (hostKey d.port da) b) else .error e
    else match s.xlate (some c.part) da with
      | .error e => .error e
      | .ok k => .ok (s.wr k b)

/-- Copy up to `n` bytes of a MOVE from byte `i`: the state, the next byte and the code that stopped it. -/
def State.movePiece (s : State) (c : InFlight) (d : MoveDesc) (i : Nat) : Nat → State × Nat × Code
  | 0 => (s, i, 0)
  | n + 1 => match s.moveByte c d i with
    | .error e => (s, i, e)
    | .ok t => State.movePiece t c d (i + 1) n

/-- Copy the next piece of a MOVE, up to 4 KiB, and end it after the last one or at a fault (R361). -/
def State.moveNext (s : State) (c : InFlight) : State :=
  let now := (s.cmdAt? c.ring c.seq).getD c
  let d := moveDesc c.ext
  let total := d.rb * d.rows
  let i := now.prog.head?.getD 0
  let r := s.movePiece now d i (min 4096 (total - i))
  let s := r.1.modCmd c.ring c.seq (fun x => { x with
    prog := [r.2.1], good := if d.dstHost then 0 else r.2.1, ports := if d.dstHost then [d.port] else x.ports })
  let s := s.observe
  if r.2.2 ≠ 0 then
    s.stopCmd c r.2.2 (if d.dstHost then 0 else r.2.1) (d.src + r.2.1 / d.rb * d.sstr + r.2.1 % d.rb) 1
  else if total ≤ r.2.1 then s.endCmd c.ring c.seq 0 total
  else s

/-- MOVE (R361): one invocation copies one piece. -/
def moveCmd (s : State) (r q : Nat) : State := s.contCmd 0x10 r q State.moveNext State.moveNext

/-! ### The link while it is up (R366, R368, R370, R373) -/

/-- Draw a new retain ID, the same on both pages (R370). -/
def State.newRetainId (s : State) : State :=
  let (v, s) := s.draw
  (s.setReg (hpPage 0 + Reg.HP_RETAIN_ID) v).setReg (hpPage 1 + Reg.HP_RETAIN_ID) v

/-- LINK_UP (R373, R370): a link that is down comes up; the first one of a session draws a retain ID. -/
def linkUp (s : State) (h speed width : Nat) (cxl : Bool) : State :=
  if 2 ≤ h || s.linked h || !s.running || s.fld crnPage Fld.CRN_SERVICE_MIN_MET == 0 || s.trimmed 13 h then s
  else
    let pg := hpPage h
    let s := (((s.setFld pg Fld.HP_LINK_STATE 2).setFld pg Fld.HP_LINK_SPEED speed).setFld pg Fld.HP_LINK_WIDTH width).setBit
      pg Fld.HP_LINK_CXL cxl
    let s := if s.pwr.fresh then ({ s with pwr := { s.pwr with fresh := false } }).newRetainId else s
    s.raise pg 17

/-- LINK_RECOVERY (R366): the link retrains through Recovery and loses nothing. -/
def linkRecovery (s : State) (h : Nat) : State :=
  if s.linked h then (s.addFld (hpPage h) Fld.HP_LINK_RETRAINS 1).raise (hpPage h) 18 else s

/-- RECORD_FLUSHING_READ (R368): the records written through the port so far are covered. -/
def recordFlushingRead (s : State) (h : Nat) : State :=
  if s.linked h then s.modHp h (fun x => { x with uncovered := [] }) else s

/-- RWT_ENTRY_COMMIT (R357). -/
def execRwtEntryCommit (who : Requester) (part : Nat) (v : Word64) (s : State) : Host.Outcome State Fault Refusal :=
  State.done (rwtEntryCommit s who part v)
/-- RWT_SEL_READ (R358). -/
def execRwtSelRead (who : Requester) (part : Nat) (s : State) : Host.Outcome State Fault Refusal := State.done (rwtSelRead s who part)
/-- BAR2_WRITE (R356). -/
def execBar2Write (who : Requester) (rid addr : Nat) (data : List Byte) (s : State) : Host.Outcome State Fault Refusal :=
  State.done (bar2Write s who rid addr data)
/-- BAR2_READ (R356). -/
def execBar2Read (who : Requester) (rid addr len : Nat) (s : State) : Host.Outcome State Fault Refusal :=
  State.done (bar2Read s who rid addr len)
/-- PLACE_DONE (R360). -/
def execPlaceDone (who : Requester) (part : Nat) (v : Word64) (s : State) : Host.Outcome State Fault Refusal :=
  State.done (placeDone s who part v)
/-- ATS_INVALIDATE (R355). -/
def execAtsInvalidate (port addr len : Nat) (s : State) : Host.Outcome State Fault Refusal := State.done (atsInvalidate s port addr len)
/-- MOVE (R361). -/
def execMoveRect (ring seq : Nat) (s : State) : Host.Outcome State Fault Refusal := State.done (moveCmd s ring seq)
/-- LINK_UP (R373). -/
def execLinkUp (port speed width : Nat) (cxl : Bool) (s : State) : Host.Outcome State Fault Refusal :=
  State.done (linkUp s port speed width cxl)
/-- LINK_RECOVERY (R366). -/
def execLinkRecovery (port : Nat) (s : State) : Host.Outcome State Fault Refusal := State.done (linkRecovery s port)
/-- RECORD_FLUSHING_READ (R368). -/
def execRecordFlushingRead (port : Nat) (s : State) : Host.Outcome State Fault Refusal := State.done (recordFlushingRead s port)

end Sys2Proof.Machine
end

