-- ==== Sys2Proof/Machine/Num.lean ====
section
/-!
DEFINITION. Numbers: exact values, the element formats, rounding, the Carder generator, FP32 operations, chunk sums and the
arithmetic flags (R97 to R125).  A finite value is held exactly, as a sign, a magnitude and a power of two.
-/
namespace Sys2Proof.Machine

open Sys2Proof

/-- A value: NaN, an infinity, or (−1)^neg × m × 2^e (R98, R99: NaN payloads and signs are never propagated). -/
inductive Val where
  | nan
  | inf (neg : Bool)
  | fin (neg : Bool) (m : Nat) (e : Int)
  deriving DecidableEq, Repr

/-! ### Flags (R124, Table 5.7) -/

/-- INV. -/
def fINV : Nat := 1
/-- DZ. -/
def fDZ : Nat := 2
/-- OVF. -/
def fOVF : Nat := 4
/-- UNF. -/
def fUNF : Nat := 8
/-- INX. -/
def fINX : Nat := 16
/-- NAN_SEEN. -/
def fNAN : Nat := 32

/-- A value with the flags its computation set. -/
abbrev FVal := Val × Nat

/-- Flags without INX and UNF: rounding inside accumulation never sets them (R121). -/
def accFlags (f : Nat) : Nat := f &&& 39

/-! ### Values -/

/-- +0. -/
def Val.zero : Val := .fin false 0 0
/-- 1. -/
def Val.one : Val := .fin false 1 0
/-- The sign. -/
def Val.isNeg : Val → Bool
  | .nan => false
  | .inf n => n
  | .fin n _ _ => n
/-- A NaN. -/
def Val.isNan : Val → Bool
  | .nan => true
  | _ => false
/-- Neither a NaN nor an infinity. -/
def Val.isFin : Val → Bool
  | .fin _ _ _ => true
  | _ => false
/-- ±0. -/
def Val.isZero : Val → Bool
  | .fin _ m _ => m == 0
  | _ => false
/-- The opposite value. -/
def Val.neg : Val → Val
  | .nan => .nan
  | .inf n => .inf (!n)
  | .fin n m e => .fin (!n) m e
/-- The magnitude. -/
def Val.abs : Val → Val
  | .nan => .nan
  | .inf _ => .inf false
  | .fin _ m e => .fin false m e
/-- The value times a power of two. -/
def Val.scale (k : Int) : Val → Val
  | .fin n m e => .fin n m (e + k)
  | v => v

/-- `m × 2^k` rounded down to a whole number. -/
def shiftFloor (m : Nat) (k : Int) : Nat := if 0 ≤ k then m * 2 ^ k.toNat else m / 2 ^ (-k).toNat

/-- Signed mantissa of a finite value at exponent `e0 ≤ e`. -/
def signedAt (neg : Bool) (m : Nat) (e e0 : Int) : Int :=
  let x : Int := (m * 2 ^ (e - e0).toNat : Nat)
  if neg then -x else x

/-- A finite value from a signed mantissa; zero takes the sign given. -/
def Val.ofInt (x : Int) (e : Int) (zeroNeg : Bool := false) : Val :=
  if x = 0 then .fin zeroNeg 0 0 else .fin (decide (x < 0)) x.natAbs e

/-- `a < b` for two values that are not NaN; −0 and +0 are equal. -/
def Val.lt : Val → Val → Bool
  | .inf n, .inf n' => n && !n'
  | .inf n, _ => n
  | _, .inf n => !n
  | .fin n m e, .fin n' m' e' => decide (signedAt n m e (min e e') < signedAt n' m' e' (min e e'))
  | _, _ => false

/-- Numerically equal and not NaN. -/
def Val.eqv (a b : Val) : Bool := !a.isNan && !b.isNan && !a.lt b && !b.lt a

/-- floor(log₂) of a positive magnitude. -/
def lead2 (m : Nat) (e : Int) : Int := (Nat.log2 m : Int) + e

/-! ### Exact operations -/

/-- Exact sum, with IEEE 754's special values (R100, R121). -/
def addX : Val → Val → FVal
  | .nan, _ => (.nan, fNAN)
  | _, .nan => (.nan, fNAN)
  | .inf a, .inf b => if a = b then (.inf a, 0) else (.nan, fINV + fNAN)
  | .inf a, _ => (.inf a, 0)
  | _, .inf b => (.inf b, 0)
  | .fin a m e, .fin b n f =>
    (Val.ofInt (signedAt a m e (min e f) + signedAt b n f (min e f)) (min e f) (m == 0 && n == 0 && a && b), 0)

/-- Exact product. -/
def mulX (a b : Val) : FVal :=
  let s := a.isNeg != b.isNeg
  match a, b with
  | .nan, _ => (.nan, fNAN)
  | _, .nan => (.nan, fNAN)
  | .fin _ m e, .fin _ n f => (.fin s (m * n) (e + f), 0)
  | x, y => if x.isZero || y.isZero then (.nan, fINV + fNAN) else (.inf s, 0)

/-! ### Element formats (R97, R98, R103, R104) -/

/-- A floating-point layout (Table 5.2), or MXINT8's fixed point. -/
structure Kind where
  /-- Exponent bits. -/
  eb : Nat
  /-- Fraction bits. -/
  fb : Nat
  /-- Bias. -/
  bias : Nat
  /-- E all 1 is an infinity or a NaN. -/
  ieee : Bool
  /-- S.1111.111 is the NaN (E4M3). -/
  e4m3 : Bool
  /-- Values beyond the largest finite one saturate (Table 5.4). -/
  sat : Bool
  /-- MXINT8: two's complement × 2^−6. -/
  int8 : Bool
  deriving DecidableEq, Repr

/-- FP64. -/
def kF64 : Kind := ⟨11, 52, 1023, true, false, false, false⟩
/-- FP32. -/
def kF32 : Kind := ⟨8, 23, 127, true, false, false, false⟩
/-- FP16. -/
def kF16 : Kind := ⟨5, 10, 15, true, false, false, false⟩
/-- BF16. -/
def kBF16 : Kind := ⟨8, 7, 127, true, false, false, false⟩
/-- E4M3. -/
def kE4M3 : Kind := ⟨4, 3, 7, false, true, true, false⟩
/-- E5M2. -/
def kE5M2 : Kind := ⟨5, 2, 15, true, false, true, false⟩
/-- E3M2. -/
def kE3M2 : Kind := ⟨3, 2, 3, false, false, true, false⟩
/-- E2M3. -/
def kE2M3 : Kind := ⟨2, 3, 1, false, false, true, false⟩
/-- E2M1. -/
def kE2M1 : Kind := ⟨2, 1, 1, false, false, true, false⟩
/-- MXINT8 elements. -/
def kINT8 : Kind := ⟨0, 6, 0, false, false, true, true⟩
/-- MW40: W then T, 31 fraction bits (R104). -/
def kMW40 : Kind := ⟨8, 31, 127, true, false, false, false⟩

/-- The element kind of a format code (Table 5.1); M8S, M8U and U32 are not floating-point kinds. -/
def kindOf (fmt : Nat) : Kind :=
  match fmt with
  | 0 => kF32 | 1 => kF16 | 2 => kBF16 | 3 => kE4M3 | 4 => kE5M2 | 5 => kE4M3 | 6 => kE5M2 | 7 => kE3M2 | 8 => kE2M3
  | 9 => kE2M1 | 10 => kINT8 | 11 => kMW40 | _ => kF64

/-- Block-scaled MX codes. -/
def isMx (fmt : Nat) : Bool := decide (5 ≤ fmt) && decide (fmt ≤ 10)

/-- Bits of one element (Table 5.1). -/
def fmtBits (fmt : Nat) : Nat :=
  match fmt with
  | 0 => 32 | 1 => 16 | 2 => 16 | 7 => 6 | 8 => 6 | 9 => 4 | 11 => 32 | 14 => 64 | 15 => 32 | _ => 8

/-- The code of a format field of five bits: reserved (0x0401), not permitted here (0x0402), or 0. -/
def fmtCode (fmt : Nat) (ok : List Nat) : Nat := if 16 ≤ fmt then 0x0401 else if ok.contains fmt then 0 else 0x0402

/-- Largest exponent of a finite value (Table 5.2, emax). -/
def Kind.emax (k : Kind) : Int := if k.int8 then 0 else (2 ^ k.eb : Nat) - (if k.ieee then 2 else 1) - (k.bias : Int)

/-- Largest mantissa at the largest exponent. -/
def Kind.top (k : Kind) : Nat := if k.int8 then 127 else 2 ^ (k.fb + 1) - (if k.e4m3 then 2 else 1)

/-- Largest finite value (Table 5.2; 127/64 for MXINT8, R103). -/
def Kind.maxFin (k : Kind) : Val := .fin false k.top (if k.int8 then -6 else k.emax - k.fb)

/-- The value of an encoding (R98, R103, R105). -/
def Kind.decode (k : Kind) (raw : Nat) : Val :=
  if k.int8 then Val.ofInt (sext 8 raw) (-6)
  else
    let neg := raw.testBit (k.eb + k.fb)
    let e := raw / 2 ^ k.fb % 2 ^ k.eb
    let f := raw % 2 ^ k.fb
    let all := e == 2 ^ k.eb - 1
    if k.ieee && all then (if f / (if k.fb = 31 then 256 else 1) = 0 then .inf neg else .nan)
    else if k.e4m3 && all && f == 7 then .nan
    else if e = 0 then .fin neg f (1 - (k.bias : Int) - k.fb)
    else .fin neg (2 ^ k.fb + f) ((e : Int) - k.bias - k.fb)

/-- The encoding of a value of the format (R99, R100). -/
def Kind.encode (k : Kind) : Val → Nat
  | .nan => if k.ieee then (2 ^ k.eb - 1) * 2 ^ k.fb + 2 ^ (k.fb - 1) else if k.e4m3 then 0x7F else 0
  | .inf n => (if n then 2 ^ (k.eb + k.fb) else 0) + (2 ^ k.eb - 1) * 2 ^ k.fb
  | .fin n m e =>
    if k.int8 then twos 8 (if n then -(shiftFloor m (e + 6) : Int) else shiftFloor m (e + 6))
    else
      let s := if n then 2 ^ (k.eb + k.fb) else 0
      if m = 0 then s
      else
        let l := max (lead2 m e) (1 - (k.bias : Int))
        let x := shiftFloor m (e + k.fb - l)
        if x < 2 ^ k.fb then s + x else s + (l + k.bias).toNat * 2 ^ k.fb + (x - 2 ^ k.fb)

/-! ### Rounding (R109, R115, R116, Table 5.4) -/

/-- `n / d` rounded to a whole number in a mode, with `r` the random bits of SR (R115, R116), and whether it changed. -/
def roundWhole (n d mode r : Nat) : Nat × Bool :=
  let q := n / d
  let t := n % d
  let up := match mode with
    | 0 => decide (d < 2 * t) || (2 * t == d && q % 2 == 1)
    | 2 => decide (65536 ≤ t * 65536 / d + r % 65536)
    | _ => false
  (if up then q + 1 else q, t != 0)

/-- floor(log₂ (n / d)) for positive n and d. -/
def ratLead (n d : Nat) : Int :=
  let l : Int := (Nat.log2 n : Int) - Nat.log2 d
  if 0 ≤ l then (if n < d * 2 ^ l.toNat then l - 1 else l) else if n * 2 ^ (-l).toNat < d then l - 1 else l

/-- `n / d × 2^e` rounded to a multiple of 2^q. -/
def roundAt (n d : Nat) (e q : Int) (mode r : Nat) : Nat × Bool :=
  roundWhole (n * 2 ^ (e - q).toNat) (d * 2 ^ (q - e).toNat) mode r

/-- One rounding of (−1)^neg × n / d × 2^e to a format, with its flags (R109, R116, R124). -/
def Kind.roundRat (k : Kind) (mode r : Nat) (neg : Bool) (n d : Nat) (e : Int) : FVal :=
  if n = 0 then (.fin (neg && !k.int8) 0 0, 0)
  else
    let l := ratLead n d + e
    let q : Int := if k.int8 then -6 else max l (1 - (k.bias : Int)) - k.fb
    let (m, inx) := roundAt n d e q mode r
    let beyondTop := if k.int8 then decide (127 < m) else decide (k.emax - k.fb < q) || (q == k.emax - k.fb && decide (k.top < m))
    if beyondTop then
      if k.sat || mode = 1 then
        (match k.maxFin with | .fin _ t f => (.fin neg t f, fOVF + fINX) | v => (v, 0))
      else (.inf neg, fOVF + fINX)
    else
      let tiny := if k.int8 then m == 0 else decide (m < 2 ^ k.fb) && decide (q = 1 - (k.bias : Int) - k.fb)
      (.fin (neg && !(k.int8 && m == 0)) m q, if inx then (if tiny then fINX + fUNF else fINX) else 0)

/-- One rounding of a value to a format (R109, Table 5.4). -/
def Kind.round (k : Kind) (mode r : Nat) : Val → FVal
  | .nan => (.nan, fNAN)
  | .inf n => if k.ieee then (.inf n, 0) else (.nan, fINV)
  | .fin n m e => k.roundRat mode r n m 1 e

/-- Round to FP32 under RNE. -/
def rne32 (v : Val) : FVal := kF32.round 0 0 v

/-! ### FP32 operations, each rounded once under RNE (R153, R170) -/

/-- Round an exact result, keeping its flags. -/
def rneOf (x : FVal) : FVal := match x.1 with
  | .fin _ _ _ => let y := rne32 x.1; (y.1, x.2 ||| y.2)
  | _ => x

/-- FP32 sum. -/
def fadd (a b : Val) : FVal := rneOf (addX a b)
/-- FP32 difference. -/
def fsub (a b : Val) : FVal := fadd a b.neg
/-- FP32 product. -/
def fmul (a b : Val) : FVal := rneOf (mulX a b)
/-- FP32 fused multiply-add. -/
def ffma (a b c : Val) : FVal :=
  let p := mulX a b
  let x := addX p.1 c
  rneOf (x.1, if p.1.isNan then p.2 ||| (if c.isNan then fNAN else 0) else x.2)

/-- A quotient rounded once to a format (R124: DZ). -/
def Kind.div (k : Kind) (mode r : Nat) (a b : Val) : FVal :=
  let s := a.isNeg != b.isNeg
  match a, b with
  | .nan, _ => (.nan, fNAN)
  | _, .nan => (.nan, fNAN)
  | .inf _, .inf _ => (.nan, fINV + fNAN)
  | .inf _, .fin _ _ _ => (.inf s, 0)
  | .fin _ _ _, .inf _ => (.fin s 0 0, 0)
  | .fin _ m e, .fin _ n f =>
    if n = 0 then (if m = 0 then (.nan, fINV + fNAN) else (.inf s, fDZ))
    else k.roundRat mode r s m n (e - f)

/-- FP32 quotient. -/
def fdiv (a b : Val) : FVal := kF32.div 0 0 a b

/-- Whole square root, by bisection on the bits from `n` down. -/
def sqrtBits (x : Nat) : Nat → Nat → Nat
  | 0, r => r
  | n + 1, r => let t := r + 2 ^ n; sqrtBits x n (if t * t ≤ x then t else r)

/-- The square root of a positive m × 2^e to 2^−g of its size, with a sticky half for the rest. -/
def rootVal (g m : Nat) (e : Int) : Val :=
  let (m, e) := if e % 2 = 0 then (m, e) else (m * 2, e - 1)
  let x := m * 2 ^ (2 * g)
  let y := sqrtBits x (Nat.log2 x / 2 + 1) 0
  if y * y = x then .fin false y (e / 2 - g) else .fin false (2 * y + 1) (e / 2 - g - 1)

/-- Square root rounded once to a format. -/
def Kind.sqrt (k : Kind) (mode r : Nat) : Val → FVal
  | .nan => (.nan, fNAN)
  | .inf n => if n then (.nan, fINV + fNAN) else (.inf false, 0)
  | .fin n m e =>
    if m = 0 then (.fin n 0 0, 0)
    else if n then (.nan, fINV + fNAN)
    else k.round mode r (rootVal (k.fb + 8) m e)

/-- FP32 square root. -/
def fsqrt (a : Val) : FVal := kF32.sqrt 0 0 a

/-- The value of an FP32 word. -/
def f32 (w : Nat) : Val := kF32.decode w
/-- The word of an FP32 value. -/
def toF32 (v : Val) : Nat := kF32.encode v

/-- A positive, finite, normal FP32 number, as a static scale must be (R111). -/
def scaleOk (w : Nat) : Bool :=
  match f32 w with
  | .fin false m _ => decide (2 ^ 23 ≤ m)
  | _ => false

/-! ### The Carder generator (R117 to R119) -/

/-- One round of Carder. -/
def carderRound (x : List Nat) (k0 k1 : Nat) : List Nat :=
  let p0 := x.getD 0 0 * 0xD2A98B27
  let p1 := x.getD 2 0 * 0xCA5E3F19
  [(p1 / 2 ^ 32 % 2 ^ 32) ^^^ x.getD 1 0 ^^^ k0, p1 % 2 ^ 32, (p0 / 2 ^ 32 % 2 ^ 32) ^^^ x.getD 3 0 ^^^ k1, p0 % 2 ^ 32]

/-- Rounds of Carder, the keys advancing after each. -/
def carderRounds (k0 k1 : Nat) : Nat → List Nat → List Nat
  | 0, x => x
  | n + 1, x => carderRounds ((k0 + 0xB5297A4D) % 2 ^ 32) ((k1 + 0x68E31DA5) % 2 ^ 32) n (carderRound x k0 k1)

/-- The ten rounds of R117. -/
def carder (x : List Nat) (k0 k1 : Nat) : List Nat := carderRounds k0 k1 10 x

/-- A random source block (Table 5.6). -/
structure Rand where
  /-- SEED. -/
  seed : Nat
  /-- STREAM. -/
  stream : Nat
  /-- STEP. -/
  step : Nat
  deriving DecidableEq, Repr

/-- A random source block at an offset of a descriptor. -/
def randAt (b : List Byte) (o : Nat) : Rand := ⟨leAt b o 8, leAt b (o + 8) 4, leAt b (o + 12) 4⟩

/-- The random word of element `i` of a stream (R118). -/
def Rand.wordOf (d : Rand) (stream i : Nat) : Nat :=
  (carder [i / 4 % 2 ^ 32, i / 4 / 2 ^ 32 % 2 ^ 32, stream, d.step] (d.seed % 2 ^ 32) (d.seed / 2 ^ 32)).getD (i % 4) 0

/-- The 16 random bits of stochastic rounding of element `i` (R119). -/
def Rand.sr (d : Rand) (i : Nat) : Nat := d.wordOf d.stream i % 2 ^ 16

/-- The random word of dropout of element `i` (R119). -/
def Rand.drop (d : Rand) (i : Nat) : Nat := d.wordOf (d.stream ||| 0x80000000) i

/-! ### Derived scales and blocks (R101, R106 to R110) -/

/-- R110: the smallest e with amax × 2^−e at most the largest finite value, clamped. -/
def deriveExp (amax : Val) (k : Kind) (lo hi : Int) : Int :=
  match amax with
  | .fin _ m x =>
    if m = 0 then 0
    else
      let e := lead2 m x - k.emax
      let e := if k.maxFin.lt (amax.scale (-e)) then e + 1 else e
      max lo (min hi e)
  | _ => 0

/-- The largest magnitude among the finite values of a list (R110). -/
def amaxOf (vs : List Val) : Val :=
  vs.foldl (fun a v => if v.isFin && a.lt v.abs then v.abs else a) .zero

/-- Flags of values into a format that holds no infinity and no NaN: a block (R101, Table 5.4). -/
def nonFinite (vs : List Val) : Nat :=
  vs.foldl (fun f v => match v with | .nan => f ||| fNAN | .inf _ => f ||| fINV | _ => f) 0

/-- Encode the present elements of one MX block: scale byte, element codes and flags (R101, R110). -/
def mxEncode (fmt : Nat) (vs : List Val) (mode : Nat) (rs : List Nat) : Nat × List Nat × Nat :=
  let k := kindOf fmt
  let bad := nonFinite vs
  if bad ≠ 0 then (0xFF, vs.map (fun _ => 0), bad)
  else
    let e := deriveExp (amaxOf vs) k (-127) 127
    let out := (List.range vs.length).map (fun i => k.round mode (rs.getD i 0) ((vs.getD i .zero).scale (-e)))
    ((e + 127).toNat, out.map (fun x => k.encode x.1), out.foldl (fun f x => f ||| x.2) 0)

/-- A value widened to FP32: beyond its range it is an infinity with OVF (R108). -/
def widen (v : Val) : FVal :=
  match v with
  | .fin n _ _ => if kF32.maxFin.lt v.abs then (.inf n, fOVF) else (v, 0)
  | .nan => (.nan, fNAN)
  | _ => (v, 0)

/-- The exact value of one MX element under its scale byte, as a product takes it: a scale only shifts its exponent (R101, R120). -/
def mxExact (fmt scale code : Nat) : FVal :=
  if scale = 0xFF then (.nan, fNAN) else (((kindOf fmt).decode (code % 2 ^ fmtBits fmt)).scale ((scale : Int) - 127), 0)

/-- The value of one MX element widened to FP32 (R101, R108). -/
def mxDecode (fmt scale code : Nat) : FVal :=
  let x := mxExact fmt scale code
  if scale = 0xFF then x else widen x.1

/-- M8S (signed) and M8U: exponent base and largest mantissa (R106, R107). -/
def m8Base (signed : Bool) : Int := if signed then 134 else 135

/-- The value of one M8 mantissa under its scale (R106). -/
def m8Decode (signed : Bool) (scale code : Nat) : FVal :=
  if scale = 0xFF ∨ (signed ∧ code = 0x80) then (.nan, fNAN)
  else (Val.ofInt (if signed then sext 8 code else (code : Int)) ((scale : Int) - m8Base signed), 0)

/-- The smallest scale of an M8 block (R107). -/
def m8Scale (signed : Bool) (amax : Val) : Nat :=
  match amax with
  | .fin _ m x =>
    if m = 0 then 0
    else
      let lim : Val := .fin false (if signed then 127 else 255) 0
      let s := lead2 m x + m8Base signed - (if signed then 6 else 7)
      let s := if lim.lt (amax.scale (m8Base signed - s)) then s + 1 else s
      (max 0 (min 254 s)).toNat
  | _ => 0

/-- One mantissa of an M8 block, with its flags; M8U holds no negative value, and takes 0 for one (R107, log 25). -/
def m8Elem (signed : Bool) (scale : Nat) (mode r : Nat) : Val → Nat × Nat
  | .fin n m e =>
    let lim := if signed then 127 else 255
    let (x, inx) := roundAt m 1 e ((scale : Int) - m8Base signed) mode r
    if n && !signed && m != 0 then (0, fINX)
    else if lim < x then ((if n then twos 8 (-(lim : Int)) else lim), fOVF + fINX)
    else ((if n then twos 8 (-(x : Int)) else x), if inx then (if x = 0 then fINX + fUNF else fINX) else 0)
  | _ => (0, 0)

/-- Encode one M8 block (R106, R107). -/
def m8Encode (signed : Bool) (vs : List Val) (mode : Nat) (rs : List Nat) : Nat × List Nat × Nat :=
  let bad := nonFinite vs
  if bad ≠ 0 then (0xFF, vs.map (fun _ => 0), bad)
  else
    let s := m8Scale signed (amaxOf vs)
    let out := (List.range vs.length).map (fun i => m8Elem signed s mode (rs.getD i 0) (vs.getD i .zero))
    (s, out.map (fun x => x.1), out.foldl (fun f x => f ||| x.2) 0)

/-! ### Chunk sums and accumulation (R120, R121, R122) -/

/-- The exact products of a chunk, with the flags of R121 step 1. -/
def products (ts : List (Val × Val)) : List Val × Nat :=
  ts.foldr (fun t acc => let p := mulX t.1 t.2; (p.1 :: acc.1, p.2 ||| acc.2)) ([], 0)

/-- The sum of one chunk of at most 64 exact products (R120, R121). -/
def chunkSum (ts : List (Val × Val)) : FVal :=
  let (ps, f) := products ts
  if ps.any Val.isNan then (.nan, f)
  else
    let pos := ps.any (fun v => v == .inf false)
    let neg := ps.any (fun v => v == .inf true)
    if pos && neg then (.nan, fINV + fNAN)
    else if pos then (.inf false, 0)
    else if neg then (.inf true, 0)
    else
      match amaxOf ps with
      | .fin _ m e =>
        if m = 0 then (.fin (!ps.isEmpty && ps.all Val.isNeg) 0 0, 0)
        else
          let q := lead2 m e - 40
          let s := ps.foldl (fun s v => match v with
            | .fin n x y => s + (if n then -(shiftFloor x (y - q) : Int) else (shiftFloor x (y - q) : Int))
            | _ => s) (0 : Int)
          let r := rne32 (Val.ofInt s q)
          (r.1, accFlags r.2)
      | v => (v, 0)

/-- Add a chunk sum to the running accumulator (R120). -/
def accAdd (a : FVal) (ts : List (Val × Val)) : FVal :=
  let c := chunkSum ts
  let x := fadd a.1 c.1
  (x.1, a.2 ||| c.2 ||| accFlags x.2)

/-- The two BF16 parts of an FP32 value: hi, lo (R122). -/
def splitBf16 (a : Val) : Val × Val :=
  match a with
  | .fin _ _ _ =>
    let hi := (kBF16.round 1 0 a).1
    (hi, (kBF16.round 0 0 (addX a hi.neg).1).1)
  | _ => (a, .zero)

/-- Consecutive pieces of a list. -/
def pieces {α : Type} (n : Nat) : Nat → List α → List (List α)
  | 0, _ => []
  | fuel + 1, l => if l.isEmpty then [] else l.take n :: pieces n fuel (l.drop n)

/-- A dot product of given passes, chunk by chunk in K order, onto an accumulator (R120, R123): each pass lists the factors of
every k. -/
def dotChunks (passes : List (List (Val × Val))) (nchunks : Nat) (start : FVal) : FVal :=
  (List.range nchunks).foldl (fun a c =>
    passes.foldl (fun a p => accAdd a ((p.drop (64 * c)).take 64)) a) start

/-- The first code of a list whose condition holds, 0 when none does. -/
def firstCode : List (Bool × Nat) → Nat
  | [] => 0
  | (b, c) :: r => if b && c != 0 then c else firstCode r

end Sys2Proof.Machine
end

