-- ==== Sys2Proof/Machine/RealFn.lean ====
section
/-!
DEFINITION. The functions of the vector engine that the spec bounds and does not fix (R170, Table 5.9): the exact value of each
to far more bits than the bound, and the free value that stands within the bound of it (log 24).
-/
namespace Sys2Proof.Machine

open Sys2Proof

/-! ### Exact values, as fixed-point numbers with 128 fraction bits -/

/-- ln 2. -/
def ln2Fix : Int := 235865763225513294137944142764154484399
/-- 1 / sqrt 2. -/
def rsqrt2Fix : Int := 240615969168004511545033772477625056927
/-- 1 / sqrt pi. -/
def rsqrtPiFix : Int := 191983766881769071488579283727167701828

/-- A finite value as a fixed-point number, rounded down. -/
def fixOf (n : Bool) (m : Nat) (e : Int) : Int :=
  let x : Int := shiftFloor m (e + 128)
  if n then -x else x

/-- Product of two fixed-point numbers. -/
def fixMul (a b : Int) : Int := (a * b) / 2 ^ 128

/-- exp of a fixed-point number from 0 to ln 2, by its series. -/
def expSmall (r : Int) : Int :=
  let step := fun (x : Int × Int) (n : Nat) => let t := fixMul x.2 r / (n + 1 : Nat); (x.1 + t, t)
  ((List.range 34).foldl step ((2 : Int) ^ 128, (2 : Int) ^ 128)).1

/-- exp of a fixed-point number as a value. -/
def expVal (x : Int) : Val :=
  let k := x / ln2Fix
  Val.ofInt (expSmall (x - k * ln2Fix)) (k - 128)

/-- atanh of a fixed-point number of magnitude at most 1/3, by its series. -/
def atanhSmall (z : Int) : Int :=
  let z2 := fixMul z z
  let step := fun (x : Int × Int) (n : Nat) => (x.1 + x.2 / (2 * n + 1 : Nat), fixMul x.2 z2)
  ((List.range 42).foldl step (0, z)).1

/-- erf of a fixed-point number of magnitude at most 5, by its series. -/
def erfSmall (z : Int) : Int :=
  let z2 := fixMul z z
  let step := fun (x : Int × Int) (n : Nat) => (x.1 + x.2 / (2 * n + 1 : Nat), -(fixMul x.2 z2 / (n + 1 : Nat)))
  2 * fixMul rsqrtPiFix ((List.range 120).foldl step (0, z)).1

/-- exp. -/
def expRef (n : Bool) (m : Nat) (e : Int) : Val :=
  if m ≠ 0 ∧ 8 ≤ lead2 m e then .fin false 1 (if n then -400 else 400) else expVal (fixOf n m e)

/-- ln of a positive number. -/
def logRef (m : Nat) (e : Int) : Val :=
  let k := lead2 m e
  let y := shiftFloor m (128 - (Nat.log2 m : Int))
  let h := decide (3 * 2 ^ 127 < y)
  let y : Int := if h then (y : Int) / 2 else y
  let k := if h then k + 1 else k
  let z := (y - 2 ^ 128) * 2 ^ 128 / (y + 2 ^ 128)
  Val.ofInt (2 * atanhSmall z + k * ln2Fix) (-128)

/-- tanh. -/
def tanhRef (n : Bool) (m : Nat) (e : Int) : Val :=
  if m = 0 ∨ lead2 m e < -24 then .fin n m e
  else if 5 ≤ lead2 m e then .fin n 1 0
  else
    let x := 2 * fixOf false m e
    let k := x / ln2Fix
    let y := expSmall (x - k * ln2Fix) * 2 ^ k.toNat
    let t := (y - 2 ^ 128) * 2 ^ 128 / (y + 2 ^ 128)
    Val.ofInt (if n then -t else t) (-128)

/-- GELU: beyond 8 in magnitude it is the argument or 0 to within 2^-40. -/
def geluRef (n : Bool) (m : Nat) (e : Int) : Val :=
  if m = 0 then .fin n 0 0
  else if lead2 m e < -80 then .fin n m (e - 1)
  else if 3 ≤ lead2 m e then (if n then .fin true 0 0 else .fin false m e)
  else
    let x := fixOf n m e
    let z := fixMul x rsqrt2Fix
    let z := if z < -(5 * 2 ^ 128) then -(5 * 2 ^ 128) else if 5 * 2 ^ 128 < z then 5 * 2 ^ 128 else z
    Val.ofInt (x * (2 ^ 128 + erfSmall z)) (-257)

/-- 1 / x. -/
def recipRef (n : Bool) (m : Nat) (e : Int) : Val :=
  .fin n (2 ^ (Nat.log2 m + 128) / m) (-(Nat.log2 m : Int) - 128 - e)

/-- 1 / sqrt x. -/
def rsqrtRef (m : Nat) (e : Int) : Val :=
  match recipRef false m e with
  | .fin _ q f => rootVal 128 q f
  | v => v

/-- Exact value of function `f` at a finite argument that R170 gives no special value for: 0 exp, 1 ln, 2 tanh, 3 GELU, 4 the
reciprocal, 5 the reciprocal square root. -/
def refFn (f : Nat) (n : Bool) (m : Nat) (e : Int) : Val :=
  match f with
  | 0 => expRef n m e
  | 1 => logRef m e
  | 2 => tanhRef n m e
  | 3 => geluRef n m e
  | 4 => recipRef n m e
  | _ => rsqrtRef m e

/-! ### The bound and the free value within it (Table 5.9) -/

/-- Bound of a function in units in the last place of FP32. -/
def ulpsOf : Nat → Nat
  | 0 => 2
  | 1 => 2
  | 2 => 3
  | 3 => 4
  | _ => 1

/-- The bound at an exact value: so many units in its last place, and for GELU at least 2^-23. -/
def boundAt (f : Nat) : Val → Val
  | .fin _ m e =>
    let u := if m = 0 then -149 else max (lead2 m e - 23) (-149)
    let b : Val := .fin false (ulpsOf f) u
    if f = 3 ∧ b.lt (.fin false 1 (-23)) then .fin false 1 (-23) else b
  | v => v

/-- A finite FP32 number within the bound of the exact value. -/
def withinBound (f : Nat) (w ref : Val) : Bool :=
  w.isFin && !(boundAt f ref).lt (addX w ref.neg).1.abs

/-- A result is the exact value of its function: at 0, 1 or 0 alone for the first four, by the product for the others. -/
def exactAt (f : Nat) (x w : Val) : Bool :=
  match f with
  | 0 => x.isZero && w.eqv .one
  | 1 => x.eqv .one && w.isZero
  | 2 => x.isZero && w.isZero
  | 3 => x.isZero && w.isZero
  | 4 => (mulX x w).1.eqv .one
  | _ => (mulX x (mulX w w).1).1.eqv .one

/-- A function that is fixed only within a bound, at a finite argument: the free value where it keeps to the bound of the exact
value, which is nearest the bound's middle otherwise; its flags follow from it (R124). -/
def freeFn (f : Nat) (v : Val) : FVal :=
  match v with
  | .fin n m e =>
    let ref := refFn f n m e
    let near := rne32 ref
    if !near.1.isFin then near
    else
      let raw := f32 (Config.fn32 f (toF32 v) % 2 ^ 32)
      let w := if withinBound f raw ref then raw else near.1
      if exactAt f v w then (w, 0)
      else match w with
        | .fin _ k _ => (w, if k < 2 ^ 23 then fINX + fUNF else fINX)
        | _ => (w, fINX)
  | v => (v, 0)

/-- The FP32 exponential of the drain and of the vector engine (R153). -/
def fexp (v : Val) : FVal :=
  match v with
  | .nan => (.nan, fNAN)
  | .inf n => (if n then .zero else .inf false, 0)
  | _ => freeFn 0 v

end Sys2Proof.Machine
end

