-- ==== Sys2Proof/Machine/SpView.lean ====
section
/-!
DEFINITION. The transposing scratchpad (R139 to R144, R146) and what every engine command shares: summary flags (R125), counted
cycles, and the stop on uncorrectable scratchpad data.
-/
namespace Sys2Proof.Machine

open Sys2Proof

/-! ### Flags, cycles and stops -/

/-- Summary flags of a command: INFO bits [15:8] and the sticky flags of a core (R125). -/
def State.arith (s : State) (c : InFlight) (core flags : Nat) : State :=
  let s := s.modCmd c.ring c.seq (fun x => { x with info := x.info ||| flags * 256 })
  s.setReg (page 7 core + Reg.CORE_ARITH_STICKY) (s.reg (page 7 core + Reg.CORE_ARITH_STICKY) ||| BitVec.ofNat 64 flags)

/-- A cycle counter moves on by an amount the spec does not fix: a free value (R129, log 26). -/
def State.tick (s : State) (pg : Nat) (f : Fld) : State :=
  let (v, s) := s.draw
  s.addFld pg f (v.toNat % 2 ^ 32)

/-- A command stops at uncorrectable data under a memory key (R144, R158). -/
def State.stopBad (s : State) (c : InFlight) (key good : Nat) : State :=
  (s.recordBad key 1 (some c.part) (some c)).endCmd c.ring c.seq 0xF001 good

/-- The first uncorrectable byte among scratchpad offsets of a core. -/
def State.badSp? (s : State) (core : Nat) (os : List Nat) : Option Nat :=
  (os.find? (fun o => s.bad.contains (spKey core o))).map (spKey core)

/-- Single-bit errors met under memory keys of a core's SP or AM: each is corrected and written back at once, counted in
BLK_ERR_SUM.CORRECTED of the CORE page and recorded as a corrected error with code 0x050E (R144, Table 19.2).  Which words hold one is
the state's own (log 58). -/
def State.correctKeys (s : State) (c : InFlight) (core : Nat) (ks : List Nat) : State :=
  (s.weak.filter (fun k => ks.contains k)).foldl (fun s k =>
    let (pg, d0, d1) := s.badSource k
    ({ s with weak := s.weak.filter (fun x => x != k) }).recordError {
      source := srcOf pg, cls := 0, code := 0x050E, part := some c.part, ctx := some c.ctx, d0 := d0,
      d1 := d1 % 256 + 256 * s.badEngine core (some c), cmd := some (c.ring, c.cmd.tag) }) s

/-- Single-bit errors met at scratchpad offsets of a core. -/
def State.correctSp (s : State) (c : InFlight) (core : Nat) (os : List Nat) : State :=
  if s.weak.isEmpty then s else s.correctKeys c core (os.map (spKey core))

/-- Bytes of a scratchpad (R139). -/
def spBytes : Nat := 6 * 2 ^ 20

/-- A little-endian word of a core's scratchpad. -/
def State.spNat (s : State) (core o n : Nat) : Nat := leNat (s.rds (spKey core o) n)

/-! ### Views (R140, R141, R146, Table 6.4) -/

/-- A view of a matrix in tile slots. -/
structure View where
  slot : Nat
  tsr : Nat
  tsc : Nat
  fmt : Nat
  trans : Bool
  pair : Bool
  blk : Bool
  sbase : Nat
  sstride : Nat
  rsvd : Bool
  deriving DecidableEq, Repr

/-- The view at an offset of a descriptor. -/
def viewAt (b : List Byte) (o : Nat) : View :=
  { slot := leAt b o 2, tsr := leAt b (o + 2) 2, tsc := leAt b (o + 4) 2, fmt := bitsAt b (o + 6) 4 0,
    trans := bitsAt b (o + 6) 5 5 == 1, pair := bitsAt b (o + 6) 6 6 == 1, blk := bitsAt b (o + 6) 7 7 == 1,
    sbase := bitsAt b (o + 8) 22 0, sstride := leAt b (o + 12) 4,
    rsvd := bitsAt b (o + 6) 15 8 != 0 || bitsAt b (o + 8) 31 23 != 0 }

/-- Lanes of a blank: 4 for 8-bit, 6-bit and 4-bit elements, 2 for 16-bit, 1 for 32-bit (R140). -/
def View.lanes (v : View) : Nat := if fmtBits v.fmt = 32 then 1 else if fmtBits v.fmt = 16 then 2 else 4
/-- Rows of a stored tile (R141). -/
def View.tr (v : View) : Nat := if v.fmt = 9 ∧ v.pair then 128 else 64
/-- Columns of a stored tile. -/
def View.tc (v : View) : Nat := if v.fmt = 9 ∧ !v.pair then 128 else 64
/-- Bytes of an element in its slot. -/
def View.esz (v : View) : Nat := 4 / v.lanes
/-- Role coordinates to stored coordinates. -/
def View.stored (v : View) (i j : Nat) : Nat × Nat := if v.trans then (j, i) else (i, j)

/-- Scratchpad offset of role element (i, j), and 1 when it stands in the high nibble. -/
def View.off (v : View) (i j : Nat) : Nat × Nat :=
  let (si, sj) := v.stored i j
  let t := v.slot + si / v.tr * v.tsr + sj / v.tc * v.tsc
  let (ii, jj) := (si % v.tr, sj % v.tc)
  let blank := t / v.lanes * 2 ^ 14
  let lane := t % v.lanes
  if v.fmt = 9 then
    if v.pair then (blank + ii / 2 * 256 + jj * 4 + lane, ii % 2) else (blank + ii * 256 + jj / 2 * 4 + lane, jj % 2)
  else (blank + ii * 256 + jj * 4 + lane * v.esz, 0)

/-- Line and block of the MX block of role element (i, j) (R102, BLK_ROWS). -/
def View.block (v : View) (i j : Nat) : Nat × Nat :=
  let (si, sj) := v.stored i j
  if v.blk then (sj, si / 32) else (si, sj / 32)

/-- Scratchpad offset of the scale byte of role element (i, j). -/
def View.scaleOff (v : View) (i j : Nat) : Nat := v.sbase + (v.block i j).1 * v.sstride + (v.block i j).2

/-- The check of a view of `rows × cols` (R146, R149, R102): its code, 0 when sound. -/
def View.check (v : View) (rows cols beyond : Nat) : Code :=
  let (sr, sc) := v.stored rows cols
  let top := v.slot + (ceilDiv sr v.tr - 1) * v.tsr + (ceilDiv sc v.tc - 1) * v.tsc
  let (lines, axis) := if v.blk then (sc, sr) else (sr, sc)
  if v.pair && v.fmt != 9 then 0x0507
  else if rows = 0 ∨ cols = 0 then 0
  else if 384 * v.lanes ≤ top then beyond
  else if !isMx v.fmt then 0
  else if 1 < lines ∧ v.sstride < ceilDiv axis 32 then 0x0405
  else if spBytes < v.sbase + (lines - 1) * v.sstride + ceilDiv axis 32 then beyond
  else 0

/-- Scratchpad offsets that a read of role element (i, j) touches. -/
def View.touches (v : View) (i j : Nat) : List Nat :=
  (List.range v.esz).map (fun b => (v.off i j).1 + b) ++ (if isMx v.fmt then [v.scaleOff i j] else [])

/-- The code of role element (i, j) of a view in a core's scratchpad. -/
def State.viewRaw (s : State) (core : Nat) (v : View) (i j : Nat) : Nat :=
  let (o, nib) := v.off i j
  let raw := s.spNat core o v.esz
  if v.fmt = 9 then raw / 16 ^ nib % 16 else raw

/-- The value of role element (i, j) of a view under a decoder of MX elements, with its input flags. -/
def State.viewWith (mx : Nat → Nat → Nat → FVal) (s : State) (core : Nat) (v : View) (i j : Nat) : FVal :=
  if isMx v.fmt then mx v.fmt (s.spNat core (v.scaleOff i j) 1) (s.viewRaw core v i j)
  else
    let x := (kindOf v.fmt).decode (s.viewRaw core v i j)
    (x, if x.isNan then fNAN else 0)

/-- The value of role element (i, j) widened to FP32 (R108). -/
def State.viewGet (s : State) (core : Nat) (v : View) (i j : Nat) : FVal := State.viewWith mxDecode s core v i j

/-- The exact value of role element (i, j), as a factor of an exact product (R120). -/
def State.viewExact (s : State) (core : Nat) (v : View) (i j : Nat) : FVal := State.viewWith mxExact s core v i j

/-- Store the code of role element (i, j). -/
def State.viewPut (s : State) (core : Nat) (v : View) (i j code : Nat) : State :=
  let (o, nib) := v.off i j
  let x :=
    if v.fmt = 9 then
      let old := s.spNat core o 1
      if nib = 0 then old / 16 * 16 + code % 16 else old % 16 + code % 16 * 16
    else code
  s.wrs (spKey core o) (leBytes v.esz x)

/-- Convert a value under a scale (R109, R111). -/
def convUnder (k : Kind) (mode r : Nat) (y scale : Val) : FVal := if y.isFin then k.div mode r y scale else k.round mode r y

/-- Write role elements of a format that is not MX, converting each under a scale; `idx` is an element's logical index. -/
def State.putPlain (s : State) (core : Nat) (v : View) (mode : Nat) (rand : Rand) (scale : Val) (idx : Nat → Nat → Nat)
    (cells : List (Nat × Nat × Val)) : State × Nat :=
  cells.foldl (fun a c =>
    let k := kindOf v.fmt
    let x := convUnder k mode (if mode = 2 then rand.sr (idx c.1 c.2.1) else 0) c.2.2 scale
    (a.1.viewPut core v c.1 c.2.1 (k.encode x.1), a.2 ||| x.2)) (s, 0)

/-- The distinct blocks of a list of cells, in order of first appearance. -/
def View.blocksOf (v : View) (cells : List (Nat × Nat × Val)) : List (Nat × Nat) :=
  (cells.map (fun c => v.block c.1 c.2.1)).eraseDups

/-- The absent slots of an MX block of a line of `axis` elements take code 0 (R102). -/
def State.zeroAbsent (s : State) (core : Nat) (v : View) (axis : Nat) (b : Nat × Nat) : State :=
  ((List.range 32).filter (fun i => decide (axis ≤ 32 * b.2 + i))).foldl (fun s i =>
    let x := if v.blk then v.stored (32 * b.2 + i) b.1 else v.stored b.1 (32 * b.2 + i)
    s.viewPut core v x.1 x.2 0) s

/-- Write role elements of an MX format of a matrix whose lines along the block axis hold `axis` elements, deriving each block's scale
from the elements written (R102, R110, R155). -/
def State.putMx (s : State) (core : Nat) (v : View) (axis mode : Nat) (rand : Rand) (idx : Nat → Nat → Nat)
    (cells : List (Nat × Nat × Val)) : State × Nat :=
  (v.blocksOf cells).foldl (fun a b =>
    let cs := cells.filter (fun c => v.block c.1 c.2.1 == b)
    let rs := cs.map (fun c => if mode = 2 then rand.sr (idx c.1 c.2.1) else 0)
    let e := mxEncode v.fmt (cs.map (fun c => c.2.2)) mode rs
    let s := (List.range cs.length).foldl (fun s n => match cs[n]? with
      | some c => s.viewPut core v c.1 c.2.1 (e.2.1.getD n 0)
      | none => s) a.1
    let s := s.zeroAbsent core v axis b
    (s.wr (spKey core (v.sbase + b.1 * v.sstride + b.2)) (BitVec.ofNat 8 e.1), a.2 ||| e.2.2)) (s, 0)

/-- Elements of a line of a `rows × cols` view along its block axis (R102). -/
def View.axisLen (v : View) (rows cols : Nat) : Nat :=
  let x := v.stored rows cols
  if v.blk then x.1 else x.2

/-- Write role elements through a view of a matrix of `dims` rows and columns. -/
def State.putCells (s : State) (core : Nat) (v : View) (dims : Nat × Nat) (mode : Nat) (rand : Rand) (scale : Val)
    (idx : Nat → Nat → Nat) (cells : List (Nat × Nat × Val)) : State × Nat :=
  if isMx v.fmt then s.putMx core v (v.axisLen dims.1 dims.2) mode rand idx cells
  else s.putPlain core v mode rand scale idx cells

/-! ### Footprints in the scratchpad (R150): tile slots whole, linear data by byte -/

/-- Tile slots as (blank, lanes touched) and linear ranges. -/
structure Foot where
  tiles : List (Nat × Nat)
  lin : List (Nat × Nat)
  deriving DecidableEq, Repr

/-- The footprint of a view of `rows × cols`. -/
def View.foot (v : View) (rows cols : Nat) : Foot :=
  let (sr, sc) := v.stored rows cols
  let tiles := (List.range (ceilDiv sr v.tr)).flatMap (fun i => (List.range (ceilDiv sc v.tc)).map (fun j =>
    let t := v.slot + i * v.tsr + j * v.tsc
    (t / v.lanes, (2 ^ v.esz - 1) * 2 ^ (t % v.lanes * v.esz))))
  let (lines, axis) := if v.blk then (sc, sr) else (sr, sc)
  ⟨tiles, if isMx v.fmt then (List.range lines).map (fun l => (v.sbase + l * v.sstride, ceilDiv axis 32)) else []⟩

/-- Byte lanes of a blank that a linear range touches. -/
def linLanes (r : Nat × Nat) (blank : Nat) : Nat :=
  let lo := max r.1 (blank * 2 ^ 14)
  let hi := min (r.1 + r.2) ((blank + 1) * 2 ^ 14)
  (List.range (min 4 (hi - lo))).foldl (fun m i => m ||| 2 ^ ((lo + i) % 4)) 0

/-- Two footprints overlap. -/
def Foot.meets (a b : Foot) : Bool :=
  a.tiles.any (fun x => b.tiles.any (fun y => x.1 == y.1 && (x.2 &&& y.2) != 0)) ||
  a.tiles.any (fun x => b.lin.any (fun r => (x.2 &&& linLanes r x.1) != 0)) ||
  b.tiles.any (fun x => a.lin.any (fun r => (x.2 &&& linLanes r x.1) != 0)) ||
  a.lin.any (fun r => b.lin.any (fun q => rangesMeet r q))

end Sys2Proof.Machine
end

