-- ==== Sys2Proof/Machine/Gemm.lean ====
section
/-!
DEFINITION. GEMM: descriptor, checks, chunked products and the drain path (R133 to R160).
-/
namespace Sys2Proof.Machine

open Sys2Proof

/-- A GEMM descriptor (Tables 6.3 and 6.5). -/
structure GemmDesc where
  a : View
  b : View
  c : View
  d : View
  m : Nat
  n : Nat
  k : Nat
  ctrl : Nat
  mul : Val
  conv : Nat
  rec_ : Nat
  rowscale : Nat
  colscale : Nat
  bias : Nat
  biasFmt : Nat
  clipLo : Val
  clipHi : Val
  stat : Nat
  varIdx : Nat
  varCount : Nat
  varStride : Nat
  drop : Nat
  keep : Val
  rand : Rand
  rsvd : Bool
  deriving DecidableEq, Repr

/-- The descriptor of a GEMM. -/
def gemmDesc (e : List Byte) : GemmDesc :=
  { a := viewAt e 0, b := viewAt e 16, c := viewAt e 32, d := viewAt e 48, m := leAt e 64 4, n := leAt e 68 4, k := leAt e 72 4,
    ctrl := leAt e 76 4, mul := f32 (leAt e 80 4), conv := leAt e 84 4, rec_ := leAt e 88 8, rowscale := bitsAt e 96 22 0,
    colscale := leAt e 100 4, bias := leAt e 104 4, biasFmt := bitsAt e 108 4 0, clipLo := f32 (leAt e 112 4),
    clipHi := f32 (leAt e 116 4), stat := leAt e 120 4, varIdx := leAt e 124 4, varCount := leAt e 128 2,
    varStride := leAt e 130 2, drop := leAt e 132 4, keep := f32 (leAt e 136 4), rand := randAt e 144,
    rsvd := bitsAt e 96 31 23 != 0 || bitsAt e 108 31 5 != 0 || leAt e 140 4 != 0 || leAt e 160 32 != 0 }

/-- A field of CTRL. -/
def GemmDesc.ct (g : GemmDesc) (hi lo : Nat) : Nat := g.ctrl / 2 ^ lo % 2 ^ (hi + 1 - lo)
/-- SPLIT. -/
def GemmDesc.split (g : GemmDesc) : Nat := g.ct 3 2
/-- K parts. -/
def GemmDesc.parts (g : GemmDesc) : Nat := 2 ^ g.ct 5 4
/-- ROUND. -/
def GemmDesc.round (g : GemmDesc) : Nat := g.ct 11 10
/-- Start at C. -/
def GemmDesc.useC (g : GemmDesc) : Bool := g.ct 13 12 == 1
/-- VARIANT. -/
def GemmDesc.variant (g : GemmDesc) : Bool := g.ct 14 14 == 1
/-- SCALE_SRC. -/
def GemmDesc.scaleSrc (g : GemmDesc) : Nat := g.ct 17 16
/-- RSTAT. -/
def GemmDesc.rstat (g : GemmDesc) : Nat := g.ct 19 18
/-- One enable bit of CTRL. -/
def GemmDesc.en (g : GemmDesc) (i : Nat) : Bool := g.ct i i == 1
/-- Chunks of K (R120). -/
def GemmDesc.chunks (g : GemmDesc) : Nat := ceilDiv g.k 64
/-- Bytes of a bias element. -/
def GemmDesc.biasSz (g : GemmDesc) : Nat := if g.biasFmt = 2 then 2 else 4

/-- Drain vectors, statistics and index stream: offset, bytes, alignment (R149). -/
def GemmDesc.vectors (g : GemmDesc) : List (Nat × Nat × Nat) :=
  (if g.en 22 then [(g.rowscale, 4 * g.m, 4)] else []) ++ (if g.en 23 then [(g.colscale, 4 * g.n, 4)] else []) ++
  (if g.en 20 then [(g.bias, g.biasSz * (if g.en 21 then g.m else g.n), g.biasSz)] else []) ++
  (if g.rstat ≠ 0 then [(g.stat, 8 * g.m, 8)] else []) ++ (if g.variant then [(g.varIdx, 4 * ceilDiv g.m 64, 4)] else [])

/-- The code of a vector beyond the scratchpad or misaligned. -/
def GemmDesc.vecCode (g : GemmDesc) : Nat :=
  (g.vectors.findSome? (fun v => if spBytes < v.1 + v.2.1 then some 0x0505 else if v.1 % v.2.2 ≠ 0 then some 0x0108 else none)).getD 0

/-- B of variant `v`: R157 moves the tile slot.  DESIGN CHOICE (log 58): the MX scales of every variant stand at the one SCALE_BASE of
B_VIEW, since the rule moves nothing else. -/
def GemmDesc.slice (g : GemmDesc) (v : Nat) : View := { g.b with slot := g.b.slot + v * g.varStride }

/-- D overlaps an input, a vector or the statistics area, or C without being identical to it (R150). -/
def GemmDesc.overlaps (g : GemmDesc) (bs : List View) : Bool :=
  let fd := g.d.foot g.m g.n
  fd.meets (g.a.foot g.m g.k) || bs.any (fun b => fd.meets (b.foot g.k g.n)) ||
    fd.meets ⟨[], g.vectors.map (fun v => (v.1, v.2.1))⟩ || (g.useC && g.c != g.d && fd.meets (g.c.foot g.m g.n))

/-- Formats a matrix-engine operand may have (Table 5.1). -/
def meFormats : List Nat := [1, 2, 3, 4, 5, 6, 7, 8, 9, 10]

/-- The code of the operands' formats (R122, R134, R148). -/
def GemmDesc.formatCode (g : GemmDesc) : Nat :=
  let (fa, fb) := (g.a.fmt, g.b.fmt)
  firstCode [
    (16 ≤ fa || 16 ≤ fb || 16 ≤ g.d.fmt || (g.useC && 16 ≤ g.c.fmt) || (g.en 20 && 16 ≤ g.biasFmt), 0x0401),
    ((g.split == 1 && (fa != 0 || !(fb == 0 || fb == 2))) || (g.split == 2 && (fa != 0 || fb != 0)) ||
      (g.split == 0 && (fa == 0 || fb == 0)), 0x0409),
    (g.split == 0 && (!meFormats.contains fa || !meFormats.contains fb), 0x0402),
    (g.split == 0 && (fa == 9) != (fb == 9), 0x050D),
    (10 < g.d.fmt, 0x0402), (g.useC && 2 < g.c.fmt, 0x0402), (g.en 20 && !(g.biasFmt == 0 || g.biasFmt == 2), 0x0402),
    (g.scaleSrc != 0 && !(g.d.fmt == 3 || g.d.fmt == 4), 0x050B)]

/-- Untrimmed matrix engines that a command names (R149, R446). -/
def State.meEngines (s : State) (core mask : Nat) : List Nat :=
  (List.range 4).filter (fun e => mask.testBit e && !s.trimmed 16 (4 * core + e))

/-- The checks of CTRL's own fields (R146 to R157). -/
def GemmDesc.ctrlCodes (g : GemmDesc) : List (Bool × Nat) :=
  [(2 ≤ g.ct 1 0, 0x0501), (g.split == 3, 0x0502), (g.ct 5 4 == 3, 0x0503), (g.round == 3, 0x0403),
    (2 ≤ g.ct 13 12, 0x0102), (g.scaleSrc == 3, 0x050B), (g.rstat == 3, 0x050C)]

/-- The checks of K parts, draws and the conversion scale (R138, R112, R155). -/
def State.drainCodes (s : State) (c : InFlight) (g : GemmDesc) : List (Bool × Nat) :=
  [(g.chunks < g.parts, 0x0503), ((g.round == 2 || g.en 25) && 2 ^ 31 ≤ g.rand.stream, 0x0404),
    (g.scaleSrc == 1 && !scaleOk g.conv, 0x0406), (g.scaleSrc == 2 && g.rec_ % 16 != 0, 0x0108),
    (g.scaleSrc == 2, s.ownCode c.part g.rec_ 16), (g.scaleSrc == 2 && isHbm g.rec_, 0x0109)]

/-- The clip bounds are not a range (R153). -/
def GemmDesc.badClip (g : GemmDesc) : Bool := g.en 24 && (g.clipLo.isNan || g.clipHi.isNan || g.clipHi.lt g.clipLo)

/-- The home check of a GEMM (R145 to R150).  DESIGN CHOICE (log 58): a reserved bit of C_VIEW is refused whatever ACC_MODE is (R5),
though Table 6.3 has C_VIEW ignored unless ACC_MODE is 1. -/
def State.gemmCheck (s : State) (c : InFlight) : Code :=
  let g := gemmDesc c.ext
  let core := (s.cmdCore? c).getD 0
  let early := firstCode ([
    (c.cmd.sub != 0 || c.cmd.opFlags != 0 || decide (8 ≤ c.cmd.arg) || g.rsvd || g.en 15 || g.ct 31 26 != 0 ||
      g.a.rsvd || g.b.rsvd || g.c.rsvd || g.d.rsvd, 0x0101)] ++ g.ctrlCodes ++ [
    (true, s.coreCode c), ((s.meEngines core (g.ct 9 6)).isEmpty, 0x0504),
    (g.m == 0 || decide (2 ^ 24 < g.m) || g.n == 0 || decide (2 ^ 24 < g.n) || g.k == 0 || decide (2 ^ 24 < g.k), 0x0102),
    (true, g.formatCode)])
  if early ≠ 0 then early
  else firstCode ([
    (true, g.a.check g.m g.k 0x0505), (true, g.b.check (if g.variant then 0 else g.k) g.n 0x0505),
    (g.useC, g.c.check g.m g.n 0x0505), (true, g.d.check g.m g.n 0x0505), (true, g.vecCode),
    (g.badClip, 0x050A), (g.variant && g.varCount == 0, 0x0509), (g.variant && decide (4096 < g.varCount), 0x0102)] ++
    s.drainCodes c g ++ [(!g.variant && g.overlaps [g.b], 0x0506)])

/-! ### Products (R120 to R123, R138) -/

/-- The factors of one element over all of K, pass by pass, and the flags (R122, R123): those of the inputs and, under BF16×2, those of
rounding B to BF16 (R124).  DESIGN CHOICE (log 57): splitting an operand into hi and lo raises no flag. -/
def splitPasses (split : Nat) (av bv : List FVal) : List (List (Val × Val)) × Nat :=
  let fl := (av ++ bv).foldl (fun f x => f ||| x.2) 0
  let xs := av.map (fun x => x.1)
  let ys := bv.map (fun x => x.1)
  let hi (l : List Val) := l.map (fun v => (splitBf16 v).1)
  let lo (l : List Val) := l.map (fun v => (splitBf16 v).2)
  let b16 := ys.map (kBF16.round 0 0)
  match split with
  | 1 => let b := b16.map (fun x => x.1)
         ([(lo xs).zip b, (hi xs).zip b], b16.foldl (fun f x => f ||| x.2) fl)
  | 2 => ([(lo xs).zip (hi ys), (hi xs).zip (lo ys), (hi xs).zip (hi ys)], fl)
  | _ => ([xs.zip ys], fl)

/-- The factors of role element (m, n) of a GEMM. -/
def State.gemmPasses (s : State) (core : Nat) (g : GemmDesc) (b : View) (m n : Nat) : List (List (Val × Val)) × Nat :=
  splitPasses g.split ((List.range g.k).map (fun k => s.viewExact core g.a m k))
    ((List.range g.k).map (fun k => s.viewExact core b k n))

/-- The accumulator of an element from its K parts: each from its own start, combined in part order (R138).  `dot first n st` sums `n`
chunks from chunk `first` onto `st`. -/
def kParts (g : GemmDesc) (dot : Nat → Nat → Val → FVal) (start : Val) : FVal :=
  let q := ceilDiv g.chunks g.parts
  let part (p : Nat) : FVal :=
    let first := min (q * p) g.chunks
    let last := if p + 1 = g.parts then g.chunks else min (q * (p + 1)) g.chunks
    dot first (last - first) (if p = 0 then start else .zero)
  (List.range (g.parts - 1)).foldl (fun a p =>
    let x := part (p + 1)
    let y := fadd a.1 x.1
    (y.1, a.2 ||| x.2 ||| accFlags y.2)) (part 0)

/-- The accumulator of role element (m, n). -/
def gemmSum (g : GemmDesc) (passes : List (List (Val × Val))) (start : Val) : FVal :=
  kParts g (fun first n st => dotChunks (passes.map (fun l => l.drop (64 * first))) n (st, 0)) start

/-! ### The drain path (R153, R154) -/

/-- An FP32 or BF16 element of a vector in a scratchpad. -/
def State.vecGet (s : State) (core base fmt i : Nat) : FVal :=
  let x := if fmt = 2 then kBF16.decode (s.spNat core (base + 2 * i) 2) else f32 (s.spNat core (base + 4 * i) 4)
  (x, if x.isNan then fNAN else 0)

/-- A multiplication by a vector element, when enabled. -/
def drainMul (on : Bool) (y v : FVal) : FVal :=
  if on then let x := fmul y.1 v.1; (x.1, y.2 ||| v.2 ||| x.2) else y

/-- The drained value of one element up to the clip, and whether the clip changed it (R153). -/
def State.drainElem (s : State) (core : Nat) (g : GemmDesc) (acc : FVal) (m n : Nat) : FVal × Bool :=
  let y := fmul acc.1 g.mul
  let y : FVal := (y.1, acc.2 ||| y.2)
  let y := drainMul (g.en 22) y (s.vecGet core g.rowscale 0 m)
  let y := drainMul (g.en 23) y (s.vecGet core g.colscale 0 n)
  let y := if g.en 20 then
      let b := s.vecGet core g.bias g.biasFmt (if g.en 21 then m else n)
      let x := fadd y.1 b.1
      (x.1, y.2 ||| b.2 ||| x.2)
    else y
  if g.en 24 && !y.1.isNan then
    if y.1.lt g.clipLo then ((g.clipLo, y.2), true)
    else if g.clipHi.lt y.1 then ((g.clipHi, y.2), true)
    else (y, false)
  else (y, false)

/-- `exp(a − b)` of the statistics, where −∞ − (−∞) counts as 0 (R154). -/
def statExp (a b : Val) : FVal :=
  if a = .inf true ∧ b = .inf true then (.one, 0)
  else
    let d := fsub a b
    let e := fexp d.1
    (e.1, d.2 ||| e.2)

/-- The running pair of a row after one more line of values (R154). -/
def statLine (p : Val × Val) (line : List Val) : (Val × Val) × Nat :=
  if p.1.isNan || line.any Val.isNan then ((.nan, .nan), fNAN)
  else
    let mt := line.foldl (fun a v => if a.lt v then v else a) (.inf true)
    let st : FVal := if mt = .inf true then (.zero, 0) else line.foldl (fun a v =>
      let e := statExp v mt
      let x := fadd a.1 e.1
      (x.1, a.2 ||| e.2 ||| x.2)) (.zero, 0)
    let mx := if p.1.lt mt then mt else p.1
    let e1 := statExp p.1 mx
    let e2 := statExp mt mx
    let x := fmul p.2 e1.1
    let y := fmul st.1 e2.1
    let z := fadd x.1 y.1
    ((mx, z.1), st.2 ||| e1.2 ||| e2.2 ||| x.2 ||| y.2 ||| z.2)

/-- What a drained output is made from: the accumulator of an element, the scratchpad offsets an output tile reads, an element's
logical index for draws, its place in D with the way back, and the rows and columns of D. -/
structure DrainJob where
  acc : Nat → Nat → FVal
  dims : Nat × Nat
  touches : Nat → Nat → List Nat
  idx : Nat → Nat → Nat
  place : Nat → Nat → Nat × Nat
  unplace : Nat → Nat → Nat × Nat

/-- A drain in progress, output tile by output tile: the state, flags, CLIPPED, the drained elements of the complete tiles, the
running pairs of the present tile row, and the key of uncorrectable data that stopped it. -/
structure DrainRun where
  s : State
  flags : Nat
  clipped : Bool
  cells : List (Nat × Nat × Val)
  pairs : List (Val × Val)
  bad : Option Nat

/-- Scratchpad offsets of the elements of a vector. -/
def vecTouches (on : Bool) (base sz : Nat) (is : List Nat) : List Nat :=
  if on then is.flatMap (fun i => (List.range sz).map (fun t => base + sz * i + t)) else []

/-- Rows or columns of the output tile that starts at `o`. -/
def tileLine (o n : Nat) : List Nat := (List.range (min 64 (n - o))).map (fun i => o + i)

/-- Scratchpad offsets of C and of the vectors that the output tile with first element (m0, n0) reads. -/
def drainTouches (g : GemmDesc) (m0 n0 : Nat) : List Nat :=
  let ms := tileLine m0 g.m
  let ns := tileLine n0 g.n
  (if g.useC then ms.flatMap (fun m => ns.flatMap (fun n => g.c.touches m n)) else []) ++
    vecTouches (g.en 22) g.rowscale 4 ms ++ vecTouches (g.en 23) g.colscale 4 ns ++
    vecTouches (g.en 20) g.bias g.biasSz (if g.en 21 then ms else ns)

/-- One row of an output tile: drained values, statistics, exponent output and dropout (R153, R154). -/
def State.drainRow (s : State) (core : Nat) (g : GemmDesc) (j : DrainJob) (m n0 : Nat) (pair : Val × Val) :
    List Val × Nat × Bool × (Val × Val) :=
  let ns := tileLine n0 g.n
  let ys := ns.map (fun n => s.drainElem core g (j.acc m n) m n)
  let fl := ys.foldl (fun f y => f ||| y.1.2) 0
  let vs := ys.map (fun y => y.1.1)
  let st := if g.rstat = 0 then (pair, 0) else statLine pair vs
  let ex := if g.rstat = 2 then vs.map (fun y => statExp y st.1.1) else vs.map (fun y => (y, 0))
  let out := (List.range ex.length).map (fun i =>
    let y := ex.getD i (.zero, 0)
    if g.en 25 then
      (if g.rand.drop (j.idx m (n0 + i)) < g.drop then (Val.zero, y.2) else
        let x := fmul y.1 g.keep
        (x.1, y.2 ||| x.2))
    else y)
  (out.map (fun x => x.1), out.foldl (fun f x => f ||| x.2) (fl ||| st.2), ys.any (fun y => y.2), st.1)

/-- One output tile (R153 to R155, R158). -/
def drainTile (core : Nat) (g : GemmDesc) (j : DrainJob) (x : DrainRun) (m0 n0 : Nat) : DrainRun :=
  if x.bad.isSome then x
  else match x.s.badSp? core (j.touches m0 n0 ++ drainTouches g m0 n0) with
    | some k => { x with bad := some k }
    | none =>
      let rows := min 64 (g.m - m0)
      let pairs := if n0 = 0 then List.replicate rows (Val.inf true, Val.zero) else x.pairs
      let rs := (List.range rows).map (fun i => x.s.drainRow core g j (m0 + i) n0 (pairs.getD i (.inf true, .zero)))
      let cells := (List.range rows).flatMap (fun i =>
        let vs := (rs.getD i ([], 0, false, (.zero, .zero))).1
        (List.range vs.length).map (fun k => (m0 + i, n0 + k, vs.getD k .zero)))
      let pairs := rs.map (fun r => r.2.2.2)
      let s := if g.rstat ≠ 0 ∧ g.n ≤ n0 + 64 then (List.range rows).foldl (fun s i =>
          let p := pairs.getD i (.zero, .zero)
          s.wrs (spKey core (g.stat + 8 * (m0 + i))) (leBytes 4 (toF32 p.1) ++ leBytes 4 (toF32 p.2))) x.s
        else x.s
      { s := s, flags := rs.foldl (fun f r => f ||| r.2.1) x.flags, clipped := x.clipped || rs.any (fun r => r.2.2.1),
        cells := x.cells ++ cells, pairs := pairs, bad := none }

/-- Bytes of D of a number of elements (R158): scales are not counted, 6-bit elements take a byte each. -/
def storedBytes (fmt elems : Nat) : Nat := ceilDiv (elems * (if fmtBits fmt = 6 then 8 else fmtBits fmt)) 8

/-- The variant of each tile row: the code that refuses the stream, or the indices (R157).  DESIGN CHOICE (log 58): of the slices, those
that the stream names are held against blank 383. -/
def State.gemmVariants (s : State) (core : Nat) (g : GemmDesc) : Except Code (List Nat) :=
  let is := if g.variant then (List.range (ceilDiv g.m 64)).map (fun i => s.spNat core (g.varIdx + 4 * i) 4)
    else List.replicate (ceilDiv g.m 64) 0
  if g.variant && is.any (fun v => decide (g.varCount ≤ v)) then .error 0x0508
  else if g.variant && is.any (fun v => (g.slice v).check g.k g.n 0x0505 != 0) then
    .error ((is.findSome? (fun v => let e := (g.slice v).check g.k g.n 0x0505; if e = 0 then none else some e)).getD 0)
  else if g.variant && g.overlaps (is.eraseDups.map g.slice) then .error 0x0506
  else .ok is

/-- The conversion scale (R111, R114, R155): a record that is no static scale is refused as one (log 27). -/
def State.scaleOf (s : State) (p src conv rec_ : Nat) : Except Code Val :=
  match src with
  | 0 => .ok .one
  | 1 => .ok (f32 conv)
  | _ => match s.rdDev (some p) rec_ 16 with
    | .error e => .error e
    | .ok b => if scaleOk (leAt b 4 4) then .ok (f32 (leAt b 4 4)) else .error 0x0406

/-- The accumulators of the matrix engines a command names hold its sums while it runs, 256 KiB each (R133): DESIGN CHOICE (log 58),
every line of them is a free value afterwards, since no rule says which lines its tiles use; the others keep theirs. -/
def State.loseAm (s : State) (core : Nat) (es : List Nat) : State :=
  es.foldl (fun s e => s.lose (amKey core (e * 2 ^ 18)) (2 ^ 18)) s

/-- A drained output from its first tile to its last, or to the tile that meets uncorrectable data; D is written with the elements
of the complete tiles.  The whole of it is one step (log 28). -/
def State.drainAll (s : State) (c : InFlight) (core : Nat) (g : GemmDesc) (scale : Val) (j : DrainJob) : State :=
  let tiles := (List.range (ceilDiv g.m 64)).flatMap (fun i => (List.range (ceilDiv g.n 64)).map (fun k => (i, k)))
  let s := if s.weak.isEmpty then s
    else s.correctSp c core (tiles.flatMap (fun t => j.touches (64 * t.1) (64 * t.2) ++ drainTouches g (64 * t.1) (64 * t.2)))
  let r := tiles.foldl (fun x t => drainTile core g j x (64 * t.1) (64 * t.2))
    ⟨s.loseAm core (s.meEngines core (g.ct 9 6)), 0, false, [], [], none⟩
  let w := r.s.putCells core g.d j.dims g.round g.rand scale (fun a b => let p := j.unplace a b; j.idx p.1 p.2)
    (r.cells.map (fun x => let p := j.place x.1 x.2.1; (p.1, p.2, x.2.2)))
  let s := (w.1.arith c core (r.flags ||| w.2)).modCmd c.ring c.seq (fun x =>
    { x with info := x.info ||| (if r.clipped then 2 ^ 16 else 0) })
  let s := (s.tick (page 7 core) Fld.CORE_ME_ACTIVE_CYCLES).tick (page 7 core) Fld.CORE_SP_CONFLICT_CYCLES
  let good := storedBytes g.d.fmt r.cells.length
  match r.bad with
  | some k => s.stopBad c k good
  | none => s.endCmd c.ring c.seq 0 good

/-- The drain of a GEMM: B of each tile row is the slice of its variant (R157). -/
def State.gemmJob (s : State) (core : Nat) (g : GemmDesc) (vars : List Nat) : DrainJob :=
  let b (m : Nat) : View := if g.variant then g.slice (vars.getD (m / 64) 0) else g.b
  { dims := (g.m, g.n)
    acc := fun m n =>
      let p := s.gemmPasses core g (b m) m n
      let st : FVal := if g.useC then s.viewGet core g.c m n else (.zero, 0)
      let a := gemmSum g p.1 st.1
      (a.1, a.2 ||| p.2 ||| st.2)
    touches := fun m0 n0 => (tileLine m0 g.m).flatMap (fun m => (List.range g.k).flatMap (fun k => g.a.touches m k)) ++
      (tileLine n0 g.n).flatMap (fun n => (List.range g.k).flatMap (fun k => (b m0).touches k n))
    idx := fun m n => m * g.n + n
    place := fun m n => (m, n)
    unplace := fun m n => (m, n) }

/-- GEMM (R145): the index stream and the scale record are read first, then the tiles are computed and drained. -/
def gemmCmd (s : State) (r q : Nat) : State :=
  s.runCmd 0x30 r q (fun s c =>
    let g := gemmDesc c.ext
    match s.cmdCore? c with
    | none => s.endCmd r q 0x0103 0
    | some core =>
      match (if g.variant then s.badSp? core ((List.range (4 * ceilDiv g.m 64)).map (fun i => g.varIdx + i)) else none) with
      | some k => s.stopBad c k 0
      | none => match s.gemmVariants core g with
        | .error e => s.endCmd r q e 0
        | .ok vars => match s.scaleOf c.part g.scaleSrc g.conv g.rec_ with
          | .error e => s.stopCmd c e 0 g.rec_ 16
          | .ok scale => s.drainAll c core g scale (s.gemmJob core g vars))

/-- GEMM (R145). -/
def execGemm (ring seq : Nat) (s : State) : Host.Outcome State Fault Refusal := State.done (gemmCmd s ring seq)

end Sys2Proof.Machine
end

