-- ==== Sys2Proof/Machine/Brim.lean ====
section
/-!
DEFINITION. Brim ports: states and discovery (R375 to R378), membership (R379 to R382), frames and connections (R383 to R387), and
the loss of a partner (R394, R395).  Groups and collectives stand in Machine/Groups.lean and Machine/Coll.lean.
-/
namespace Sys2Proof.Machine

open Sys2Proof

/-- A BRM page. -/
def brmPage (b : Nat) : Nat := page 12 b
/-- The E0 page, which governs the package (R379). -/
def e0Page : Nat := page 4 0
/-- This package's node (R379). -/
def State.ownNode (s : State) : Nat := s.sh e0Page Fld.EDIE_SYS_NODE_ID
/-- The current epoch (R379). -/
def State.epochNo (s : State) : Nat := s.fld e0Page Fld.EDIE_MEMB_EPOCH
/-- JOB of a partition (R387). -/
def State.job (s : State) (p : Nat) : Nat := s.sh (partPage p) Fld.PART_BRIM_JOB
/-- Change the Brim state. -/
def State.modBrim (s : State) (f : Brim → Brim) : State := { s with brim := f s.brim }
/-- Raise an event on every MEMBER port's page (R396). -/
def State.raiseMembers (s : State) (bit : Nat) : State :=
  (List.range 64).foldl (fun s b => if s.portState b = 5 then s.raise (brmPage b) bit else s) s

/-! ### Connections (R384, R385) -/

/-- The connection of a port with a node; a new one starts at 0 with 16 credits. -/
def State.conn (s : State) (b n : Nat) : BrimConn :=
  (s.brim.conns.find? (fun c => c.port == b && c.peer == n)).getD { port := b, peer := n }

/-- Set a connection. -/
def State.setConn (s : State) (c : BrimConn) : State :=
  s.modBrim (fun x => { x with conns := x.conns.filter (fun d => !(d.port == c.port && d.peer == c.peer)) ++ [c] })

/-- Drop a port's connections. -/
def State.dropConns (s : State) (b : Nat) : State :=
  s.modBrim (fun x => { x with conns := x.conns.filter (fun d => d.port != b) })

/-- Bytes of a payload that uses credit; 0 for the frames that need none (R385). -/
def bodyBytes : BrimBody → Nat
  | .put d => max 1 d.length
  | .coll _ _ _ d => max 1 d.length
  | .signal _ _ => 16
  | _ => 0

/-- Credits of 4 KiB that a frame uses (R385). -/
def frameCost (f : BrimFrame) : Nat := ceilDiv (bodyBytes f.body) 4096

/-- An entry of the route table (R384): PORT_MASK, NEXT_MAC, IP. -/
def State.route (s : State) (n : Nat) : Nat × Nat × Nat :=
  match s.rdDev none (s.sh e0Page Fld.EDIE_ROUTE_BASE_ADDR + 32 * n) 32 with
  | .ok e => (leAt e 0 8, leAt e 8 6, leAt e 16 16)
  | .error _ => (0, 0, 0)

/-- How a frame leaves a port (R383). -/
def State.encap (s : State) (b : Nat) (f : BrimFrame) : BrimEncap :=
  let own := s.sh (brmPage b) Fld.BRM_MAC_MAC
  if s.sh (brmPage b) Fld.BRM_CFG_UDP = 1 then
    let r := s.route f.dst
    .udp (s.sh (brmPage b) Fld.BRM_CFG_IPV6 == 1) own r.2.1
      (s.sh (brmPage b) Fld.BRM_IP0_ADDR + 2 ^ 64 * s.sh (brmPage b) Fld.BRM_IP1_ADDR) r.2.2
      (49152 + Config.hash [f.src, f.dst, f.target / 2 ^ 32] % 16384)
      (s.sh (brmPage b) Fld.BRM_CFG_UDP_PORT) (s.sh (brmPage b) Fld.BRM_CFG_DSCP)
  else .native own (SMap.getD s.brim.mac b 0)

/-- Put a frame on the wire, counted in BRM_TX. -/
def State.emitFrame (s : State) (b : Nat) (f : BrimFrame) : State :=
  (s.addFld (brmPage b) Fld.BRM_TX_FRAMES 1).emit (.frame b (s.encap b f) f)

/-- A frame of this package with its header (Table 16.3); HOPS starts at its greatest value (log 29). -/
def State.mkFrame (s : State) (typ n job target : Nat) (body : BrimBody) : BrimFrame :=
  { ver := 1, typ := typ, hops := 8, src := s.ownNode, dst := n, seq := 0, ack := 0, epoch := s.epochNo, credits := 0,
    job := job, target := target, crcOk := true, body := body }

/-- Send the waiting frames of a connection that credit covers, in order (R385). -/
def State.pump (s : State) (c : BrimConn) : Nat → State
  | 0 => s.setConn c
  | fuel + 1 =>
    match c.waiting with
    | [] => s.setConn c
    | (f, o) :: rest =>
      if c.credits < frameCost f then s.setConn c
      else
        let g := { f with seq := c.txNext, ack := c.rxNext, credits := c.owed }
        let d := { c with
          waiting := rest, unacked := c.unacked ++ [(g, o)], txNext := (c.txNext + 1) % 2 ^ 32,
          credits := c.credits - frameCost f, owed := 0 }
        State.pump (s.emitFrame c.port g) d fuel

/-- Send a frame on a connection: a frame that needs no credit passes those that wait for it (R385). -/
def State.sendOn (s : State) (b : Nat) (f : BrimFrame) (owner : Option (Nat × Nat)) : State :=
  let c := s.conn b f.dst
  let w := if frameCost f = 0 then (f, owner) :: c.waiting else c.waiting ++ [(f, owner)]
  s.pump { c with waiting := w } w.length

/-- The ports that may carry traffic to a node: in its PORT_MASK, in the mask given, MEMBER, with a sound connection (R384). -/
def State.portsTo (s : State) (n mask : Nat) : List Nat :=
  (bitList 64 ((s.route n).1 &&& mask)).filter (fun b => s.portState b == 5 && !(s.conn b n).failed)

/-- Every port. -/
def allPorts : Nat := 2 ^ 64 - 1

/-- Send a frame to a node over one of its ports, chosen by a hash of what is sent (R384); nothing when no port reaches it. -/
def State.sendTo (s : State) (mask : Nat) (f : BrimFrame) (owner : Option (Nat × Nat)) : State :=
  let ps := s.portsTo f.dst mask
  match ps[Config.hash [f.typ, f.job, f.target] % ps.length]? with
  | some b => s.sendOn b f owner
  | none => s

/-- An ACK frame (R385). -/
def State.sendAck (s : State) (b n : Nat) : State :=
  let c := s.conn b n
  let f := { s.mkFrame 1 n 0 0 .none with ack := c.rxNext, credits := c.owed }
  (s.setConn { c with owed := 0 }).emitFrame b f

/-! ### The descriptor of a collective (Tables 16.4, 16.5) -/

/-- A collective descriptor (Table 16.4). -/
structure CollDesc where
  src : Nat
  dst : Nat
  count : Nat
  comm : Nat
  ports : Nat
  nf : Nat
  epoch : Nat
  inFmt : Nat
  outFmt : Nat
  op : Nat
  root : Nat
  id : Nat
  rsvd : Bool
  deriving DecidableEq, Repr

/-- The descriptor of a collective. -/
def collDesc (b : List Byte) : CollDesc :=
  { src := leAt b 0 8, dst := leAt b 8 8, count := leAt b 16 5, comm := leAt b 24 8, ports := leAt b 32 8, nf := leAt b 40 8,
    epoch := leAt b 48 4, inFmt := bitsAt b 52 4 0, outFmt := bitsAt b 52 9 5, op := bitsAt b 52 11 10,
    root := bitsAt b 52 25 12, id := leAt b 56 4,
    rsvd := leAt b 21 3 != 0 || bitsAt b 52 31 26 != 0 || leAt b 60 4 != 0 }

/-- ALL_REDUCE or REDUCE_SCATTER. -/
def reduces (op : Nat) : Bool := op == 0x60 || op == 0x61

/-- Bytes of an element of FP32 or BF16. -/
def redSz (fmt : Nat) : Nat := if fmt = 2 then 2 else 4

/-- Bytes of SRC and DST on rank `r` of `n` (Table 16.5). -/
def collBytes (op : Nat) (d : CollDesc) (r n : Nat) : Nat × Nat :=
  match op with
  | 0x60 => (d.count * redSz d.inFmt, d.count * redSz d.outFmt)
  | 0x61 => (n * d.count * redSz d.inFmt, d.count * redSz d.outFmt)
  | 0x62 => (d.count, n * d.count)
  | 0x63 => (n * d.count, n * d.count)
  | 0x64 => (if r = d.root then d.count else 0, d.count)
  | _ => (8, 8)

/-! ### Loss of a partner (R394, R395) -/

/-- Nodes a collective names: its communicator's, or a PUT's target. -/
def collNodes (s : State) (c : InFlight) : List Nat :=
  if c.cmd.op = 0x65 then [leAt c.ext 24 8]
  else match s.rdDev (some c.part) (leAt c.ext 24 8) 4 with
    | .error _ => []
    | .ok h => match s.rdDev (some c.part) (leAt c.ext 24 8 + 16) (2 * (leNat h % 2 ^ 14)) with
      | .error _ => []
      | .ok b => (List.range (leNat h % 2 ^ 14)).map (fun i => leAt b (2 * i) 2 % 2 ^ 13)

/-- A collective, VOTE or PUT (R389). -/
def isColl (op : Nat) : Bool := decide (0x60 ≤ op) && decide (op ≤ 0x66)

/-- A command in flight that the loss of a node fails (R395). -/
def State.dependsOn (s : State) (n : Nat) (c : InFlight) : Bool :=
  !c.saved && ((c.phase != .ended && isColl c.cmd.op && (collNodes s c).contains n) ||
    (c.phase == .started && s.brim.joined.any (fun j => j.2 == (c.ring, c.seq) &&
      (j.1.head? == some 2 || j.1.head? == some 3 || j.1.head? == some 4 || j.1.take 2 == [1, 4]))))

/-- Nodes of a VOTE, from its digest. -/
def digestNodes (d : List Nat) : List Nat := (d.drop 7).take (d.getD 6 0)

/-- A group of the vote path that the loss of a node ends here, of one job or of any: every open one of a job's scope, and a VOTE that
names the node (R284, R395). -/
def Group.lostWith (g : Group) (n : Nat) (job : Option Nat) : Bool :=
  let mine (j : Nat) : Bool := match job with | some k => j == k | none => true
  match g.key with
  | 0 :: j :: _ => mine j && (digestNodes g.params).contains n
  | 1 :: 4 :: j :: _ => !g.closed && mine j
  | k :: j :: _ => !g.closed && decide (2 ≤ k) && mine j
  | _ => false

/-- The bytes of a device range of a partition become undefined. -/
def State.loseDev (s : State) (p a n : Nat) : State :=
  (List.range n).foldl (fun s i => match s.xlate (some p) (a + i) with
    | .ok k => s.lose k 1
    | .error _ => s) s

/-- The DST contents and the NONFINITE_ADDR word of a running collective or VOTE that a loss fails are undefined (R395). -/
def State.loseOutputs (s : State) (c : InFlight) : State :=
  let d := collDesc c.ext
  let ns := collNodes s c
  if c.phase != .started || !isColl c.cmd.op || c.cmd.op == 0x65 then s
  else
    let s := s.loseDev c.part d.dst (collBytes c.cmd.op d (ns.idxOf s.ownNode) ns.length).2
    if reduces c.cmd.op && d.nf != 0 then s.loseDev c.part d.nf 8 else s

/-- Fail the work of a notice (R395, R423): commands end with 0x0D04 and GOOD_BYTES 0, a signal under way to the node is given
up, and the vote path's groups are gone. -/
def State.failWhere (s : State) (n : Nat) (job : Option Nat) : State :=
  let pick (c : InFlight) : Bool := match job with | some k => s.job c.part == k | none => true
  let hit := s.cmds.filter (fun c => pick c && s.dependsOn n c)
  let s := hit.foldl (fun s c => ((s.loseOutputs c).endCmd c.ring c.seq 0x0D04 0).modCmd c.ring c.seq (fun x => { x with unacked := 0 })) s
  let gone (c : InFlight) : Bool := pick c && c.phase == .ended && c.sigSent && c.unacked != 0 &&
    (match c.sig with | .remote m _ => m == n | _ => false)
  let s := { s with cmds := updateWhere gone (fun c => { c with status := 0x0D04, unacked := 0, info := c.info ||| 2 }) s.cmds }
  let dead (r q : Nat) : Bool := hit.any (fun c => c.ring == r && c.seq == q)
  s.modBrim (fun x => { x with
    joined := x.joined.filter (fun j => !dead j.2.1 j.2.2),
    colls := x.colls.filter (fun k => match k.cmd with | some (r, q) => !dead r q | none => true),
    groups := x.groups.filter (fun g => !(g.lostWith n job ||
      (!g.closed && g.got.any (fun t => match t.cmd with | some (r, q) => dead r q | none => false)))) })

/-- Fail the work that a node's loss fails (R395). -/
def State.failNode (s : State) (n : Nat) : State := s.failWhere n none

/-- Fail the work of one job in which a package's reset partition took part; the package stays a member (R423 step 4). -/
def State.failJob (s : State) (n job : Nat) : State := s.failWhere n (some job)

/-- The LOST notices of a partition's reset: one to every other member, of the job alone, when work of the job is in flight
(R423 step 4). -/
def State.noticeReset (s : State) (p : Nat) : State :=
  let j := s.job p
  let busy := s.cmds.any (fun c => c.part == p && (isColl c.cmd.op && c.phase == .started ||
    s.brim.joined.any (fun x => x.2 == (c.ring, c.seq) && (x.1.head? != some 1 || x.1.take 2 == [1, 4]))))
  if !busy then s
  else ((bitList 8192 s.brim.members).filter (fun m => m != s.ownNode && !s.brim.lost.contains m)).foldl
    (fun s m => s.sendTo allPorts (s.mkFrame 5 m j 1 (.lost s.ownNode s.epochNo)) none) s

/-- The error record of a lost partner (R441, Tables 19.4, 19.9), on the page of the lowest port that leads to it (log 62). -/
def State.recordLost (s : State) (n : Nat) : State :=
  let ports := (s.brim.conns.filter (fun c => c.peer == n)).map (fun c => c.port) ++ bitList 64 (s.route n).1
  s.recordError {
    source := srcOf (brmPage (ports.foldl min (ports.headD 0))), cls := 1, code := 0x0D04, d1 := n + 2 ^ 32 * s.epochNo,
    also := (s.cmds.filter (s.dependsOn n)).map (fun c => c.part) }

/-- A node of the membership is lost (R394): recorded, announced to every member and acted on, once. -/
def State.loseNode (s : State) (n : Nat) : State :=
  if s.brim.lost.contains n || !s.brim.members.testBit n || n == s.ownNode then s
  else
    let s := s.modBrim (fun x => { x with lost := n :: x.lost })
    let off := e0Page + Reg.EDIE_LOST0 + 8 * (n / 64)
    let s := if n < 512 then s.setReg off (s.reg off ||| BitVec.ofNat 64 (2 ^ (n % 64))) else s
    let s := (s.raiseMembers 20).recordLost n
    let s := ((bitList 8192 s.brim.members).filter (fun m => m != n && m != s.ownNode && !s.brim.lost.contains m)).foldl
      (fun s m => s.sendTo allPorts (s.mkFrame 5 m 0 0 (.lost n s.epochNo)) none) s
    s.failNode n

/-- A node's partner test (R394): every connection to it has failed, those of the MEMBER ports of its PORT_MASK among them, or every port
of its PORT_MASK has left MEMBER other than through DRAINING. -/
def State.nodeLost (s : State) (n : Nat) : Bool :=
  let cs := s.brim.conns.filter (fun c => c.peer == n)
  let ps := bitList 64 (s.route n).1
  (!cs.isEmpty && cs.all (fun c => c.failed) && ps.all (fun b => s.portState b != 5 || (s.conn b n).failed)) ||
    (!ps.isEmpty && ps.all (fun b => s.brim.dropped.contains b))

/-- Find the members that are lost now. -/
def State.findLost (s : State) : State :=
  (bitList 8192 s.brim.members).foldl (fun s n => if s.nodeLost n then s.loseNode n else s) s

/-- A node is unreachable at its first use: no port of its PORT_MASK is MEMBER (R382, R394). -/
def State.unreachable (s : State) (n : Nat) : Bool :=
  n != s.ownNode && (bitList 64 (s.route n).1).all (fun b => s.portState b != 5)

/-! ### Port states (R376) -/

/-- Move a port to a state: every change raises BLOCK_EVT bit 16; a connection starts afresh at each MEMBER entry (R384). -/
def State.setPort (s : State) (b st : Nat) : State :=
  let old := s.portState b
  if old = st then s
  else
    let s := (s.setFld (brmPage b) Fld.BRM_STATUS_STATE st).raise (brmPage b) 16
    let s := if old = 5 ∧ st ≠ 6 then s.modBrim (fun x => { x with dropped := b :: x.dropped })
      else if st = 5 then s.modBrim (fun x => { x with dropped := x.dropped.filter (fun y => y != b) })
      else s
    if st = 4 ∨ st < 3 then s.dropConns b else s

/-- BRIM_LINK_UP (R375, R376): PCS lock and alignment held for 10 ms.  A port that RATE_400 does not hold to 400 Gb/s runs at the rate the
link reaches with its partner, which is a free value. -/
def brimLinkUp (s : State) (b : Nat) : State :=
  if s.portState b = 1 then
    let (v, s) := s.draw
    let rate := if s.sh (brmPage b) Fld.BRM_CFG_RATE_400 = 1 then 0 else v.toNat % 2
    (s.setFld (brmPage b) Fld.BRM_STATUS_RATE rate).setPort b 2
  else s

/-- BRIM_LINK_LOSS (R376, R394): back to SENSING; a partner is lost only under R394. -/
def brimLinkLoss (s : State) (b : Nat) : State :=
  if 2 ≤ s.portState b ∧ s.portState b ≤ 5 then
    ((s.setFld (brmPage b) Fld.BRM_STATUS_PARTNER_VALID 0).setPort b 1).findLost
  else s

/-- BRIM_DRAIN_DONE (R376): no frame is unacknowledged, or 1 ms has passed. -/
def brimDrainDone (s : State) (b : Nat) : State := if s.portState b = 6 then s.setPort b 0 else s

/-! ### Discovery (R377, R378) -/

/-- Listed nodes that a port leads to, in a bitmap: a native port's partner, or the nodes the route table names through a UDP port
whose IP address is set (R382). -/
def State.portLists (s : State) (b bm : Nat) : Bool :=
  if s.sh (brmPage b) Fld.BRM_CFG_UDP = 1 then
    (s.sh (brmPage b) Fld.BRM_IP0_ADDR != 0 || s.sh (brmPage b) Fld.BRM_IP1_ADDR != 0) &&
      (bitList 8192 bm).any (fun n => n != s.ownNode && (s.route n).1.testBit b)
  else s.fld (brmPage b) Fld.BRM_STATUS_PARTNER_VALID == 1 && bm.testBit (s.fld (brmPage b) Fld.BRM_STATUS_PARTNER_NODE)

/-- DISCOVERED ports with a node listed in the current or the pending epoch become ADMITTED (R382). -/
def State.admitPorts (s : State) : State :=
  let bm := s.brim.members ||| (match s.brim.pend with | some p => p.2.2 | none => 0)
  (List.range 64).foldl (fun s b => if s.portState b = 3 ∧ s.portLists b bm then s.setPort b 4 else s) s

/-- The NODE TLV's system and node, when it is sound (Table 16.2). -/
def nodeTlv? (t : List Byte) : Option (Nat × Nat) :=
  if t.length = 26 ∧ beNat (t.take 3) = 0x58EFC2 ∧ leAt t 3 1 = 1 ∧ beNat ((t.drop 8).take 2) < 2 ^ 13 then
    some (beNat ((t.drop 4).take 4), beNat ((t.drop 8).take 2))
  else none

/-- The PORT TLV's port index, when it is sound (Table 16.2). -/
def portTlv? (t : List Byte) : Option Nat :=
  if t.length = 11 ∧ beNat (t.take 3) = 0x58EFC2 ∧ leAt t 3 1 = 2 ∧ leAt t 4 1 < 64 ∧ leAt t 5 1 < 7 ∧ leAt t 10 1 < 4 then
    some (leAt t 4 1)
  else none

/-- A TRAINED port hears its partner (R378). -/
def State.discover (s : State) (b : Nat) (du : Lldpdu) : State :=
  let pg := brmPage b
  match du.orgs.findSome? nodeTlv? with
  | some (sys, n) =>
    let bad := if sys ≠ s.sh e0Page Fld.EDIE_SYS_SYSTEM_ID then 1 else if n = s.ownNode then 2 else 0
    let s := s.setFld pg Fld.BRM_STATUS_MISMATCH bad
    if bad ≠ 0 then s.raise pg 17
    else if s.sh pg Fld.BRM_CFG_UDP = 1 then s.setPort b 3
    else match du.orgs.findSome? portTlv? with
      | none => s
      | some i =>
        let s := ((s.setFld pg Fld.BRM_STATUS_PARTNER_NODE n).setFld pg Fld.BRM_STATUS_PARTNER_PORT i).setFld pg
          Fld.BRM_STATUS_PARTNER_VALID 1
        (s.modBrim (fun x => { x with mac := SMap.put x.mac b du.mac })).setPort b 3
  | none => if s.sh pg Fld.BRM_CFG_UDP = 1 then s.setPort b 3 else s

/-- LLDPDU_RX (R377, R378): stored for its TTL; a TRAINED port may become DISCOVERED. -/
def lldpduRx (s : State) (b : Nat) (du : Lldpdu) : State :=
  if s.portState b < 2 ∨ du.valid = false then s
  else
    let s := s.modBrim (fun x => { x with lldp := if du.ttl = 0 then SMap.erase x.lldp b else SMap.put x.lldp b du })
    (if s.portState b = 2 then s.discover b du else s).admitPorts

/-- UDP_DISCOVERY_TIMEOUT (R378): 2 s after TRAINED with no LLDPDU. -/
def udpDiscoveryTimeout (s : State) (b : Nat) : State :=
  if s.portState b = 2 ∧ s.sh (brmPage b) Fld.BRM_CFG_UDP = 1 ∧ s.fld (brmPage b) Fld.BRM_STATUS_MISMATCH = 0 then
    (s.setPort b 3).admitPorts
  else s

/-- LLDP_TTL_EXPIRY (R377). -/
def lldpTtlExpiry (s : State) (b : Nat) : State := s.modBrim (fun x => { x with lldp := SMap.erase x.lldp b })

/-- The package serial (R463). -/
def State.serialBytes (s : State) : List Byte :=
  leBytes 8 (s.reg (secPage + Reg.SEC_SERIAL0)).toNat ++ leBytes 8 (s.reg (secPage + Reg.SEC_SERIAL1)).toNat

/-- LLDP_TX (R377, Table 16.2): the chassis ID is the serial and the port ID "B" with the port's decimal index, both of subtype 7, and the
Ezquin TLVs; the TTL sent is not fixed by the spec and is a free value. -/
def lldpTx (s : State) (b : Nat) : State :=
  if s.portState b < 2 then s
  else
    let (v, s) := s.draw
    let pg := brmPage b
    let node := beBytes 3 0x58EFC2 ++ leBytes 1 1 ++ beBytes 4 (s.sh e0Page Fld.EDIE_SYS_SYSTEM_ID) ++ beBytes 2 s.ownNode ++
      s.serialBytes
    let port := beBytes 3 0x58EFC2 ++ leBytes 1 2 ++ leBytes 1 b ++ leBytes 1 (s.portState b) ++ beBytes 4 s.epochNo ++
      leBytes 1 (s.sh pg Fld.BRM_CFG_UDP + 2 * s.sh pg Fld.BRM_CFG_PTP_EN)
    let id (l : List Byte) : List Byte := leBytes 1 7 ++ l
    let digits := if b < 10 then leBytes 1 (48 + b) else leBytes 1 (48 + b / 10) ++ leBytes 1 (48 + b % 10)
    s.emit (.lldp b ⟨true, id s.serialBytes, id (leBytes 1 66 ++ digits), s.sh pg Fld.BRM_MAC_MAC, v.toNat % 2 ^ 16, [node, port]⟩)

/-! ### Membership (R379 to R381) -/

/-- The outcome of an announcement (EDIE_MEMB_CMD.LAST_RESULT). -/
def State.announced (s : State) (code : Code) : State := s.setFld e0Page Fld.EDIE_MEMB_CMD_LAST_RESULT code

/-- The code of a proposed epoch, 0 when sound (R380): `earliest` is the least effective stroke. -/
def State.announceCode (s : State) (k e bm earliest : Nat) : Code :=
  firstCode [(k != s.epochNo + 1, 0x0D09), (decide (e < earliest), 0x0D09), (!bm.testBit s.ownNode, 0x0D09),
    (s.dwerdo && decide (256 < popcount 8192 bm), 0x0D09), (s.brim.pend.isSome, 0x0105)]

/-- An announcement becomes pending (R380, R382). -/
def State.makePending (s : State) (k e bm : Nat) : State :=
  (((s.modBrim (fun x => { x with pend := some (k, e, bm) })).setFld e0Page Fld.EDIE_MEMB_CMD_PENDING 1).announced 0).admitPorts

/-- Send an announcement to a node: over a connection where a port is MEMBER, else on a port that has found it. -/
def State.sendAnnounce (s : State) (n k e bm : Nat) : State :=
  let f := s.mkFrame 4 n 0 0 (.announce k e bm)
  if (s.portsTo n allPorts).isEmpty then
    match (bitList 64 (s.route n).1).find? (fun b => s.portState b == 3 || s.portState b == 4) with
    | some b => s.emitFrame b f
    | none => s
  else s.sendTo allPorts f none

/-- ANNOUNCE (R380): the E0 page proposes an epoch. -/
def announce (s : State) (who : Requester) (edie : Nat) : State :=
  s.letIn who (page 4 edie) (fun s =>
    if edie ≠ 0 then s
    else
      let a := s.fld e0Page Fld.EDIE_MEMB_NEXT_ADDR_ADDR
      let k := s.fld e0Page Fld.EDIE_MEMB_NEXT_EPOCH
      let e := s.fld e0Page Fld.EDIE_MEMB_STROKE_STROKE
      let got : Except Code Nat := if a % 64 ≠ 0 then .error 0x0108 else (s.rdDev none a 1024).map leNat
      let code := match got with | .error c => c | .ok bm => s.announceCode k e bm (s.strokeNo + 64)
      if code ≠ 0 then (s.announced code).refuseF e0Page code Fld.EDIE_MEMB_CMD_ANNOUNCE
      else
        let bm := match got with | .ok bm => bm | .error _ => 0
        let to_ := (bitList 8192 (s.brim.members ||| bm)).filter (fun n => n != s.ownNode)
        to_.foldl (fun s n => s.sendAnnounce n k e bm) (s.makePending k e bm))

/-- An announcement received (R380): late and conflicting ones are refused, and the first accepted stands.  DESIGN CHOICE (log 62): the 64
strokes of the proposer's check are not asked of a notice that has crossed the Brim; it is late only once its E has passed. -/
def State.takeAnnounce (s : State) (k e bm : Nat) : State :=
  if s.brim.pend = some (k, e, bm) then s
  else
    let conflict : Bool := match s.brim.pend with | some p => p.1 == k | none => false
    let code := if e ≤ s.strokeNo ∨ conflict then 0x0D09 else s.announceCode k e bm (s.strokeNo + 1)
    if code = 0 then s.makePending k e bm
    else
      let s := s.announced code
      if e ≤ s.strokeNo ∨ conflict then s.raiseMembers 18 else s

/-! ### Receiving frames (R383 to R387) -/

/-- A frame dropped and counted (Table 16.7). -/
def State.dropFrame (s : State) (b : Nat) : State := s.addFld (brmPage b) Fld.BRM_DROPPED_FRAMES 1

/-- A frame for another node on a native port is forwarded with HOPS decreased (R384); one that no port carries on is dropped, which
BRM_DROPPED does not count (Table 16.7). -/
def State.forward (s : State) (b : Nat) (f : BrimFrame) : State :=
  if s.sh (brmPage b) Fld.BRM_CFG_UDP = 1 then s
  else if f.hops ≤ 1 then s.dropFrame b
  else
    let g := { f with hops := f.hops - 1 }
    let ps := (bitList 64 (s.route f.dst).1).filter (fun x => s.portState x == 5)
    match ps[Config.hash [f.src, f.dst, f.target] % ps.length]? with
    | some x => s.emitFrame x g
    | none => s

/-- The acknowledgement of a frame reaches the command that waits for it. -/
def State.acked (s : State) : Option (Nat × Nat) → State
  | none => s
  | some (r, q) => s.modCmd r q (fun c => { c with unacked := c.unacked - 1 })

/-- ACK and CREDITS of a frame from a peer (R385): the acknowledged point advances, credits return, and waiting frames go. -/
def State.takeAck (s : State) (b : Nat) (f : BrimFrame) : State :=
  let c := s.conn b f.src
  let base := match c.unacked with | (g, _) :: _ => g.seq | [] => c.txNext
  let d := (f.ack + 2 ^ 32 - base) % 2 ^ 32
  let d := if d ≤ c.unacked.length then d else 0
  let c' := { c with
    unacked := c.unacked.drop d, credits := c.credits + f.credits, timeouts := if d = 0 then c.timeouts else 0 }
  let s := s.pump c' c'.waiting.length
  (c.unacked.take d).foldl (fun s x => s.acked x.2) s

/-- The partition of a job, and the address a frame's bytes go to: inside an inbound window of one of its contexts that is neither EMPTY
nor ABORTED, parked ones through their redirection (R387, R411, R413, R414); none for CM of a sleeping partition with AUTO_WAKE = 0 (R428). -/
def State.inbound (s : State) (job a n : Nat) : Option (Nat × Nat) :=
  if job = 0 then none
  else match (List.range 64).find? (fun p => s.shape.live.defined p && s.job p == job) with
    | none => none
    | some p =>
      let ws := (List.range 16).flatMap (fun c =>
        if (s.ctx p c).st == .empty || (s.ctx p c).st == .aborted then [] else (s.ctx p c).windows)
      match ws.find? (fun w => decide (w.base ≤ a) && decide (a + n ≤ w.base + w.len)) with
      | none => none
      | some w =>
        let to_ := match w.redirect with | some r => r + (a - w.base) | none => a
        let asleep := isCm to_ && s.fld (partPage p) Fld.PART_PWR_STATE != 0
        if s.cmOrHbm p a n && (List.range n).all (fun i => (s.xlate (some p) (to_ + i)).isOk) &&
            !(asleep && s.fld (partPage p) Fld.PART_PWR_AUTO_WAKE == 0) then some (p, to_) else none

/-- The sleeping partition whose CM a PUT or SIGNAL frame targets: the frame wakes it, and is held until the wake ends (R428). -/
def State.sleepsOn? (s : State) (f : BrimFrame) : Option Nat :=
  let at_ (n : Nat) : Option Nat := match s.inbound f.job f.target n with
    | some (p, to_) => if isCm to_ && s.fld (partPage p) Fld.PART_PWR_STATE != 0 then some p else none
    | none => none
  match f.body with
  | .put d => at_ d.length
  | .signal _ _ => at_ 8
  | _ => none

/-- Answer a frame with a NAK (R387). -/
def State.sendNak (s : State) (b : Nat) (f : BrimFrame) (code : Code) : State :=
  s.sendOn b (s.mkFrame 6 f.src f.job f.target (.nak code f.seq)) none

/-- Bytes of a PUT reach their window (R387, R388): the code the sender gets, 0 when they land. -/
def State.applyPut (s : State) (job a : Nat) (data : List Byte) : State × Code :=
  match s.inbound job a data.length with
  | none => (s, 0x0D06)
  | some (p, to_) => ((s.wrDev (some p) to_ data).1.observe, 0)

/-- A remote signal reaches its semaphore (R84, R387, R388). -/
def State.applyRemote (s : State) (job a op v : Nat) : State × Code :=
  if a % 8 ≠ 0 then (s, 0x0D06)
  else match s.inbound job a 8 with
    | none => (s, 0x0D06)
    | some (p, to_) => match s.applySignal (s.keyOf p to_) op v with
      | some t => (t, 0)
      | none => (s.recordBad (s.keyOf p to_) 8 (some p) none, 0xF001)

/-- A NAK reaches the command whose frame it refuses: it stops with the code (R387). -/
def State.takeNak (s : State) (b : Nat) (f : BrimFrame) (code seq : Nat) : State :=
  match (s.conn b f.src).unacked.find? (fun x => x.1.seq == seq) with
  | some (_, some (r, q)) => s.modCmd r q (fun c =>
      if c.phase = .ended then { c with status := if c.status = 0 then code else c.status, info := c.info ||| 2 }
      else { c with phase := .ended, status := code, good := 0 })
  | _ => s

/-- The frame's collective, PUT or vote is still in flight (R386).  DESIGN CHOICE (log 62): a PUT is in flight at its sender for as long
as one of its frames arrives; NAK, LOST and ANNOUNCE frames carry no payload and are taken whatever their epoch. -/
def State.stillInFlight (s : State) (f : BrimFrame) : Bool :=
  match f.body with
  | .put _ => true
  | .coll _ _ _ _ => s.brim.colls.any (fun k => k.job == f.job && k.epoch == f.epoch && k.id == f.target / 2 ^ 32 && k.cmd.isSome)
  | .vote key _ _ _ _ _ _ => s.brim.groups.any (fun g => g.key == key) || s.brim.joined.any (fun j => j.1 == key)
  | .nak _ _ => true
  | .lost _ _ => true
  | .announce _ _ _ => true
  | _ => false

/-- What becomes of a frame in sequence: held for its epoch, dropped as of an old one or as of a node that is lost, held for the wake of
its partition, or applied (R386, R395, R428). -/
def State.takeFrame (s : State) (b : Nat) (f : BrimFrame) (apply : State → Nat → BrimFrame → State) : State :=
  let owed (s : State) : State := let c := s.conn b f.src; s.setConn { c with owed := c.owed + frameCost f }
  if s.epochNo < f.epoch && f.typ != 4 then s.modBrim (fun x => { x with held := x.held ++ [(b, f)] })
  else if s.brim.lost.contains f.src ||
      decide (f.epoch < s.epochNo) && (!s.brim.members.testBit f.src || !s.stillInFlight f) then owed (s.dropFrame b)
  else match s.sleepsOn? f with
    | some p => (s.autoWake p).modBrim (fun x => { x with held := x.held ++ [(b, f)] })
    | none => apply (owed s) b f

/-- A received frame (R383 to R386): checked, forwarded, or taken in sequence and acknowledged. -/
def State.rxFrame (s : State) (b : Nat) (f : BrimFrame) (apply : State → Nat → BrimFrame → State) : State :=
  if s.portState b < 3 then s
  else if f.ver ≠ 1 ∨ f.crcOk = false then s.dropFrame b
  else if 6 < f.typ then s
  else if f.dst ≠ s.ownNode then s.forward b f
  else if f.typ = 4 ∧ s.portState b ≠ 5 then apply (s.addFld (brmPage b) Fld.BRM_RX_FRAMES 1) b f
  else if s.portState b = 3 then s
  else if f.typ = 1 then (s.addFld (brmPage b) Fld.BRM_RX_FRAMES 1).takeAck b f
  else
    let c := s.conn b f.src
    if f.seq ≠ c.rxNext then s.sendAck b f.src
    else
      let s := (s.setConn { c with rxNext := (c.rxNext + 1) % 2 ^ 32 }).addFld (brmPage b) Fld.BRM_RX_FRAMES 1
      let s := match f.body with | .nak code seq => if code = 0x0D0A then s else s.takeNak b f code seq | _ => s
      ((s.takeAck b f).takeFrame b f apply).sendAck b f.src

/-- RTO_EXPIRY (R385, R394): no advance for RTO_US: everything unacknowledged is resent; after RETRY_MAX timeouts with no advance
the connection fails. -/
def rtoExpiry (s : State) (b n : Nat) : State :=
  let c := s.conn b n
  if c.unacked.isEmpty || c.failed || s.portState b < 5 then s
  else
    let s := c.unacked.foldl (fun s x =>
      ((s.addFld (brmPage b) Fld.BRM_RETX_FRAMES 1).emitFrame b { x.1 with ack := c.rxNext })) s
    let k := c.timeouts + 1
    if s.sh (brmPage b) Fld.BRM_CFG_RETRY_MAX ≤ k then (s.setConn { c with timeouts := k, failed := true }).findLost
    else s.setConn { c with timeouts := k }

/-- BRIM_LINK_UP (R376). -/
def execBrimLinkUp (port : Nat) (s : State) : Host.Outcome State Fault Refusal := State.done (brimLinkUp s port)
/-- BRIM_LINK_LOSS (R376). -/
def execBrimLinkLoss (port : Nat) (s : State) : Host.Outcome State Fault Refusal := State.done (brimLinkLoss s port)
/-- LLDP_TX (R377). -/
def execLldpTx (port : Nat) (s : State) : Host.Outcome State Fault Refusal := State.done (lldpTx s port)
/-- LLDPDU_RX (R378). -/
def execLldpduRx (port : Nat) (du : Lldpdu) (s : State) : Host.Outcome State Fault Refusal := State.done (lldpduRx s port du)
/-- UDP_DISCOVERY_TIMEOUT (R378). -/
def execUdpDiscoveryTimeout (port : Nat) (s : State) : Host.Outcome State Fault Refusal := State.done (udpDiscoveryTimeout s port)
/-- BRIM_DRAIN_DONE (R376). -/
def execBrimDrainDone (port : Nat) (s : State) : Host.Outcome State Fault Refusal := State.done (brimDrainDone s port)
/-- ANNOUNCE (R380). -/
def execAnnounce (who : Requester) (edie : Nat) (s : State) : Host.Outcome State Fault Refusal := State.done (announce s who edie)
/-- RTO_EXPIRY (R385). -/
def execRtoExpiry (port node : Nat) (s : State) : Host.Outcome State Fault Refusal := State.done (rtoExpiry s port node)
/-- LLDP_TTL_EXPIRY (R377). -/
def execLldpTtlExpiry (port : Nat) (s : State) : Host.Outcome State Fault Refusal := State.done (lldpTtlExpiry s port)

end Sys2Proof.Machine
end

