-- ==== Sys2Proof/Machine/Groups.lean ====
section
/-!
DEFINITION. Groups: pounce groups, step gates, SYNC barriers, job statistics and VOTE, on the reduction units of a cluster, over the
mesh or over the Brim vote path (R62, R112 to R114, R284, R392, R488).
-/
namespace Sys2Proof.Machine

open Sys2Proof

/-! A group's key starts with its kind: 0 VOTE, 1 POUNCE (then its SCOPE), 2 step gate, 3 SYNC barrier, 4 job statistics. -/

/-- Parent of rank `r` in the tree of R391 over ranks `lo` to `lo + n − 1`, and the size of the tree below `r`. -/
def treeNode : Nat → Nat → Nat → Nat → Option Nat × Nat
  | 0, _, _, _ => (none, 1)
  | fuel + 1, r, lo, n =>
    if n ≤ 1 then (none, 1)
    else
      let h := 2 ^ Nat.log2 (n - 1)
      if r < lo + h then
        let t := treeNode fuel r lo h
        if r = lo then (t.1, n) else t
      else
        let t := treeNode fuel r (lo + h) (n - h)
        if r = lo + h then (some lo, n - h) else t

/-- This package's place in a VOTE's tree: its parent's node, and the contributions its subtree holds. -/
def State.voteTree (s : State) (d : List Nat) : Option Nat × Nat :=
  let ns := digestNodes d
  let t := treeNode 14 (ns.idxOf s.ownNode) 0 ns.length
  (t.1.bind (fun r => ns[r]?), t.2)

/-- Contributions a group needs here, from its key and parameters. -/
def State.groupNeed (s : State) (key params : List Nat) : Nat :=
  match key.head? with
  | some 0 => (s.voteTree params).2
  | some 1 => params.getD 1 1
  | some 2 => params.getD 2 1
  | _ => params.getD 0 1

/-- Combine two rows of statistics of one tag: tag, flags, elements, three exact sums, maximum and count (R294). -/
def rowCombine (a b : List Nat) : List Nat :=
  (List.range 8).map (fun i => match i with
    | 0 => a.getD 0 0
    | 1 => a.getD 1 0 ||| b.getD 1 0
    | 6 => max (a.getD 6 0) (b.getD 6 0)
    | i => a.getD i 0 + b.getD i 0)

/-- Add a row of statistics to the rows of other tags. -/
def rowAdd (rows : List (List Nat)) (r : List Nat) : List (List Nat) :=
  if rows.any (fun x => x.head? == r.head?) then rows.map (fun x => if x.head? == r.head? then rowCombine x r else x)
  else rows ++ [r]

/-- Combine two contributions of one group: R114, R283, R62, R392 and the statistics of R294, tag by tag. -/
def groupCombine (key params a b : List Nat) : List Nat :=
  let at_ (l : List Nat) (i : Nat) := l.getD i 0
  match key.head? with
  | some 0 => [match params.getD 4 0 with
      | 0 => at_ a 0 ||| at_ b 0
      | 1 => max (at_ a 0) (at_ b 0)
      | _ => (at_ a 0 + at_ b 0) % 2 ^ 64]
  | some 1 => [max (at_ a 0) (at_ b 0), min (at_ a 1 + at_ b 1) 0xFFFFFFFF]
  | some 2 => [at_ a 0 ||| at_ b 0, at_ a 1 ||| at_ b 1, min (at_ a 2 + at_ b 2) (2 ^ 64 - 1), at_ a 3 ||| at_ b 3,
      at_ a 4 ||| at_ b 4]
  | some 3 => [max (at_ a 0) (at_ b 0)]
  | _ => ((pieces 8 b.length b).foldl rowAdd (pieces 8 a.length a)).flatten

/-- Codes of a group's disagreement and of a contribution beyond its count (R113, R284, R488). -/
def groupCodes (key : List Nat) : Code × Code :=
  match key.head? with
  | some 0 => (0x0D0A, 0x0D0A)
  | some 1 => (0x0408, 0x040B)
  | some 3 => (0x0D0A, 0x0D0A)
  | _ => (0x090A, 0x090A)

/-- The barrier of a command is released at stroke `a` (R61): the slip moves its context's offset. -/
def State.releaseBarrier (s : State) (c : InFlight) (a : Nat) : State :=
  let n := c.cmd.notBefore + s.slipOf c
  let d := a - n
  let s := if d = 0 then s else
    let s := s.modCtx c.part c.ctx (fun x => { x with slip := x.slip + d })
    let s := (s.addFld strPage Fld.STR_SLIP_COUNT_COUNT 1).addFld strPage Fld.STR_SLIP_STROKES_COUNT d
    let s := (s.setFld strPage Fld.STR_LAST_SLIP_STROKES (min d 0xFFFF)).setFld strPage Fld.STR_LAST_SLIP_CONTEXT
      (c.part * 16 + c.ctx)
    s.raise strPage 17
  s.endCmd c.ring c.seq 0 0

/-! ### POUNCE records (R112, R114) -/

/-- A POUNCE descriptor (Table 5.5). -/
structure PounceDesc where
  src : Nat
  rows : Nat
  cols : Nat
  stride : Nat
  srcFmt : Nat
  dstFmt : Nat
  headroom : Nat
  scope : Nat
  group : Nat
  parts : Nat
  scale : Nat
  rsvd : Bool
  deriving DecidableEq, Repr

/-- The descriptor of a POUNCE. -/
def pounceDesc (b : List Byte) : PounceDesc :=
  { src := leAt b 0 8, rows := leAt b 8 4, cols := leAt b 12 4, stride := leAt b 16 8, srcFmt := bitsAt b 24 4 0,
    dstFmt := bitsAt b 24 9 5, headroom := bitsAt b 24 12 10, scope := bitsAt b 24 15 13, group := leAt b 28 4,
    parts := leAt b 32 4, scale := leAt b 40 8,
    rsvd := bitsAt b 24 31 16 != 0 || leAt b 36 4 != 0 || (b.drop 48).any (fun x => x != 0) }

/-- Bytes of a source element. -/
def PounceDesc.sz (d : PounceDesc) : Nat := if d.srcFmt = 0 then 4 else 2

/-- The scale record of a measured group (R110, R114). -/
def pounceRecord (d : PounceDesc) (amax nonfinite : Nat) : List Byte :=
  let e := min (deriveExp (f32 amax) (kindOf d.dstFmt) (-126) 127 + d.headroom) 127
  leBytes 4 amax ++ leBytes 4 (toF32 (.fin false 1 e)) ++ leBytes 4 (twos 32 e) ++ leBytes 4 nonfinite

/-- Write the scale record and end (R113, R114). -/
def State.pounceEnd (s : State) (c : InFlight) (vals : List Nat) : State :=
  let d := pounceDesc c.ext
  let w := s.wrDev (some c.part) d.scale (pounceRecord d (vals.getD 0 0) (vals.getD 1 0))
  w.1.observe.endCmd c.ring c.seq w.2.2 (if w.2.2 = 0 then 16 else 0)

/-- A result reaches a command of this package: a POUNCE writes its record and ends; another ends with the code, or keeps the
values until it goes on; a SYNC barrier whose agreed boundary has passed is released at once, and counted late (R62, Table 3.6). -/
def State.localResult (s : State) (key : List Nat) (r q code : Nat) (vals : List Nat) : State :=
  let s := s.modBrim (fun x => { x with joined := eraseFirst (fun j => j == (key, r, q)) x.joined })
  match s.cmdAt? r q with
  | none => s
  | some c =>
    if c.phase ≠ .started then s
    else if code ≠ 0 then s.endCmd r q code 0
    else if key.head? = some 3 ∧ vals.getD 0 0 ≤ s.strokeNo then (s.releaseBarrier c (vals.getD 0 0)).lateAt true
    else if key.head? = some 1 then s.pounceEnd c vals
    else s.modCmd r q (fun c => { c with prog := vals })

/-- A result goes to a contribution: to its command here, or down to its package in a VOTE frame (R392). -/
def State.deliver (s : State) (g : Group) (code : Nat) (vals : List Nat) (t : Contribution) : State :=
  match t.cmd with
  | some (r, q) => s.localResult g.key r q code vals
  | none => s.sendTo allPorts (s.mkFrame 2 t.node (g.key.getD 1 0) 0 (.vote g.key g.params vals t.count t.node false code)) none

/-- Contributions of commands that are no longer in flight are taken back; a closed group is forgotten once its own commands have
completed (R113), but for a step gate, which has filled for good (R284). -/
def State.pruneGroups (s : State) : State :=
  let live (r q : Nat) : Bool := match s.cmdAt? r q with | some c => c.phase == .started | none => false
  let liveT (t : Contribution) : Bool := match t.cmd with | some (r, q) => live r q | none => true
  let pending (t : Contribution) : Bool := match t.cmd with | some (r, q) => (s.cmdAt? r q).isSome | none => false
  s.modBrim (fun x => { x with
    groups := (x.groups.map (fun g => if g.closed then g else { g with got := g.got.filter liveT })).filter (fun g =>
      if g.closed then g.key.head? == some 2 || g.got.any pending else !g.got.isEmpty) })

/-- Replace a group by its key. -/
def State.setGroup (s : State) (g : Group) : State :=
  s.modBrim (fun x => { x with groups := x.groups.filter (fun h => h.key != g.key) ++ [g] })

/-- Close a group that has the contributions it needs: send its combination up the tree, or its result to every contribution
(R113, R392, R488). -/
def State.tryClose (s : State) (g : Group) : State :=
  let total := (g.got.map (fun t => t.count)).sum
  if total < s.groupNeed g.key g.params then s.setGroup g
  else
    let vals := match g.got with
      | [] => []
      | t :: ts => ts.foldl (fun a u => groupCombine g.key g.params a u.vals) t.vals
    let s := s.setGroup { g with closed := true }
    match (if g.key.head? = some 0 then (s.voteTree g.params).1 else none) with
    | some n => s.sendTo allPorts (s.mkFrame 2 n (g.key.getD 1 0) 0 (.vote g.key g.params vals total s.ownNode true 0)) none
    | none => g.got.foldl (fun s t => s.deliver g 0 vals t) s

/-- A contribution arrives at the package that forms the group (R113, R284, R488); one to a filled step gate with other parameters opens
the next gate of its GATE_GROUP. -/
def State.groupAdd (s : State) (key params : List Nat) (t : Contribution) : State :=
  let s := s.pruneGroups
  match s.brim.groups.find? (fun g => g.key == key) with
  | none => s.tryClose ⟨key, params, 0, [t], false⟩
  | some g =>
    if g.closed && key.head? == some 2 && g.params != params then s.tryClose ⟨key, params, 0, [t], false⟩
    else if g.closed then s.deliver g (groupCodes key).2 [] t
    else if g.params ≠ params then
      let s := s.modBrim (fun x => { x with groups := x.groups.filter (fun h => h.key != key) })
      (g.got ++ [t]).foldl (fun s u => s.deliver g (groupCodes key).1 [] u) s
    else s.tryClose { g with got := g.got ++ [t] }

/-- The package that forms a job's groups: its tree is not fixed by the spec, and the model roots it at the lowest member
(log 30). -/
def State.groupRoot (s : State) : Nat := (bitList 8192 s.brim.members).headD s.ownNode

/-- A command of this package joins a group formed at `root`. -/
def State.joinGroup (s : State) (root : Nat) (key params vals : List Nat) (c : InFlight) : State :=
  let s := s.modBrim (fun x => { x with joined := x.joined ++ [(key, c.ring, c.seq)] })
  if root = s.ownNode then s.groupAdd key params ⟨s.ownNode, some (c.ring, c.seq), 1, vals⟩
  else s.sendTo allPorts (s.mkFrame 2 root (key.getD 1 0) 0 (.vote key params vals 1 s.ownNode true 0)) none

/-- A VOTE frame (R392): a contribution on its way up, or a result on its way down. -/
def State.takeVote (s : State) (src : Nat) (key params vals : List Nat) (count : Nat) (up : Bool) (code : Nat) : State :=
  if up then s.groupAdd key params ⟨src, none, count, vals⟩
  else if key.head? = some 0 then
    match s.brim.groups.find? (fun g => g.key == key) with
    | none => s
    | some g => g.got.foldl (fun s t => s.deliver g code vals t)
        (s.modBrim (fun x => { x with groups := x.groups.filter (fun h => h.key != key) }))
  else match s.brim.joined.find? (fun j => j.1 == key) with
    | none => s
    | some j => s.localResult key j.2.1 j.2.2 code vals

/-! ### SYNC barriers (R62) -/

/-- SYNC_BARRIER_PROPOSE (R62): the waits of a SYNC barrier are met, and the package proposes the first boundary at or after both
its target and its readiness.  `nodes` are the packages of the job, which the spec does not say how the device knows (log 30). -/
def syncBarrierPropose (s : State) (r q : Nat) (nodes : List Nat) : State :=
  let s := s.observe
  match s.cmdAt? r q with
  | none => s
  | some c =>
    let ready := s.startable { c with cmd := { c.cmd with notBefore := 0 } }
    if c.cmd.op ≠ 2 ∨ c.cmd.opFlags % 4 ≠ 3 ∨ ready = false then s
    else
      let ns := if nodes.contains s.ownNode then nodes else s.ownNode :: nodes
      let v := max (c.cmd.notBefore + s.slipOf c) (s.strokeNo + 1)
      let s := (s.started c).modCmd r q (fun x => { x with phase := .started, prog := [] })
      s.joinGroup (ns.foldl min s.ownNode) [3, s.job c.part, c.cmd.notBefore] [ns.length] [v] c

/-! ### POUNCE (R112 to R114) -/

/-- The home check of POUNCE (R112, R80). -/
def State.pounceCheck (s : State) (c : InFlight) : Code :=
  let d := pounceDesc c.ext
  firstCode [
    (c.cmd.sub != 0 || c.cmd.opFlags != 0 || c.cmd.arg != 0 || d.rsvd, 0x0101),
    (true, fmtCode d.srcFmt [0, 1, 2]), (true, fmtCode d.dstFmt [3, 4]),
    (decide (4 < d.scope) || d.parts == 0 || (d.scope == 0 && d.parts != 1), 0x0407),
    (d.rows == 0 || d.cols == 0 || decide (d.stride < d.cols * d.sz), 0x0102),
    (d.scale % 16 != 0, 0x0108), (true, s.rowsCode c.part d.src d.stride (d.cols * d.sz) d.rows),
    (true, s.ownCode c.part d.scale 16)]

/-- The group of a POUNCE: within its cluster, die, package or job; the groups of two partitions never meet (R8, R113). -/
def State.pounceKey (s : State) (c : InFlight) (d : PounceDesc) : List Nat :=
  match d.scope with
  | 1 => [1, 1, c.part, c.ccp, d.group]
  | 2 => [1, 2, c.part, c.ccp / 8, d.group]
  | 3 => [1, 3, c.part, 0, d.group]
  | _ => [1, 4, s.job c.part, 0, d.group]

/-- The group a POUNCE joins: its own, or an open one of its GROUP within whose scope it stands, of which it then names another SCOPE
(R113). -/
def State.pounceJoin (s : State) (c : InFlight) (d : PounceDesc) : List Nat :=
  let own := s.pounceKey c d
  let others := [1, 2, 3, 4].map (fun sc => s.pounceKey c { d with scope := sc })
  if s.brim.joined.any (fun j => j.1 == own) then own
  else match s.brim.joined.find? (fun j => others.contains j.1) with
    | some j => j.1
    | none => own

/-- A cluster reduction unit holds 32 open groups; the command's own group is among them or finds room (R113). -/
def State.pounceRoom (s : State) (c : InFlight) (key : List Nat) : Bool :=
  let keys := ((s.brim.joined.filter (fun j => j.1.head? == some 1 &&
    (match s.cmdAt? j.2.1 j.2.2 with | some x => x.ccp == c.ccp | none => false))).map (fun j => j.1)).eraseDups
  keys.contains key || decide (keys.length < 32)

/-- The measure of a tensor piece: amax over its finite elements, non-finite elements and flags (R110, R112). -/
def pounceMeasure (d : PounceDesc) (rows : List (List Byte)) : Nat × Nat × Nat :=
  let k := kindOf d.srcFmt
  let vs := rows.flatMap (fun b => (List.range d.cols).map (fun i => k.decode (leAt b (i * d.sz) d.sz)))
  (toF32 (amaxOf vs), min ((vs.filter (fun v => !v.isFin)).length) 0xFFFFFFFF, if vs.any Val.isNan then fNAN else 0)

/-- Read the rows of a piece, each once. -/
def State.rdRows (s : State) (p a stride n rows : Nat) : Except (Code × Nat) (List (List Byte)) :=
  (List.range rows).mapM (fun i => match s.rdDev (some p) (a + i * stride) n with
    | .ok b => .ok b
    | .error e => .error (e, a + i * stride))

/-- Measure a piece and contribute it; a POUNCE that finds no room for its group waits unstarted (R113).  DESIGN CHOICE (log 57): its
flags go into its own INFO and into no core's sticky flags, since no rule names a core whose engines execute a POUNCE (R125). -/
def State.pounceStart (s : State) (c : InFlight) : State :=
  let s := s.pruneGroups
  let d := pounceDesc c.ext
  let key := s.pounceJoin c d
  if d.scope ≠ 0 ∧ s.pounceRoom c key = false then s.modCmd c.ring c.seq (fun x => { x with phase := .waiting })
  else match s.rdRows c.part d.src d.stride (d.cols * d.sz) d.rows with
    | .error (e, a) => s.stopCmd c e 0 a (d.cols * d.sz)
    | .ok rows =>
      let m := pounceMeasure d rows
      let s := s.modCmd c.ring c.seq (fun x => { x with info := x.info ||| m.2.2 * 256, prog := [] })
      if d.scope = 0 then s.pounceEnd c [m.1, m.2.1]
      else s.joinGroup (if key.getD 1 0 = 4 then s.groupRoot else s.ownNode) key [d.scope, d.parts, d.dstFmt, d.headroom] [m.1, m.2.1] c

/-- POUNCE (R112). -/
def pounceCmd (s : State) (r q : Nat) : State := s.contCmd 0x32 r q State.pounceStart (fun s _ => s)

/-- POUNCE (R112). -/
def execPounce (ring seq : Nat) (s : State) : Host.Outcome State Fault Refusal := State.done (pounceCmd s ring seq)
/-- SYNC_BARRIER_PROPOSE (R62). -/
def execSyncBarrierPropose (ring seq : Nat) (nodes : List Nat) (s : State) : Host.Outcome State Fault Refusal :=
  State.done (syncBarrierPropose s ring seq nodes)

end Sys2Proof.Machine
end

