-- ==== Sys2Proof/Machine/Coll.lean ====
section
/-!
DEFINITION. Collectives, PUT, VOTE and remote signals (R388 to R393), and what a received frame does (R386 to R395).
-/
namespace Sys2Proof.Machine

open Sys2Proof

/-! ### The descriptor and its check (R389) -/

/-- The part of rank `j`'s SRC that rank `r` needs: offset and bytes (Table 16.5). -/
def collPart (op : Nat) (d : CollDesc) (j r : Nat) : Nat × Nat :=
  match op with
  | 0x60 => (0, d.count * redSz d.inFmt)
  | 0x61 => (r * d.count * redSz d.inFmt, d.count * redSz d.inFmt)
  | 0x62 => (0, d.count)
  | 0x63 => (r * d.count, d.count)
  | _ => if j = d.root then (0, d.count) else (0, 0)

/-- PORTS names only MEMBER ports of the partition, and at least one (R389). -/
def State.portsOk (s : State) (p ports : Nat) : Bool :=
  ports != 0 && (bitList 64 ports).all (fun b => (s.shape.live.ports p).contains b && s.portState b == 5)

/-- No entry of a list stands twice. -/
def distinct (l : List Nat) : Bool := l.eraseDups.length == l.length

/-- The communicator's part of the check: rank count, own rank, nodes (R389). -/
def State.commCode (s : State) (c : InFlight) (d : CollDesc) : Code :=
  let own := s.ownCode c.part d.comm 16
  if d.comm % 16 ≠ 0 then 0x0108
  else if own ≠ 0 then own
  else match s.rdDev (some c.part) d.comm 4 with
    | .error e => e
    | .ok h =>
      let n := leNat h % 2 ^ 14
      let me := leNat h / 2 ^ 16 % 2 ^ 14
      let more := s.ownCode c.part d.comm (16 + 2 * n)
      if n = 0 ∨ 8192 < n ∨ n ≤ me then 0x0D02
      else if more ≠ 0 then more
      else
        let ns := collNodes s c
        firstCode [(ns.length != n, 0xF001), (ns.getD me 0 != s.ownNode, 0x0D02), (!distinct ns, 0x0D02),
          (ns.any (fun x => !s.brim.members.testBit x), 0x0D02)]

/-- MY_RANK of a communicator. -/
def State.myRank (s : State) (c : InFlight) : Nat := (collNodes s c).idxOf s.ownNode

/-- The home check of the Brim opcodes (R389, R388, Table 16.9). -/
def State.collCheck (s : State) (c : InFlight) : Code :=
  let d := collDesc c.ext
  let op := c.cmd.op
  let early := firstCode [
    (c.cmd.sub != 0 || c.cmd.arg != 0 || c.cmd.opFlags != 0, 0x0D01), (d.rsvd, 0x0101),
    (d.op == 3, 0x0D01),
    (s.sh (partPage c.part) Fld.PART_BRIM_STAGE_MIB == 0, 0x0D07),
    (op != 0x65, s.commCode c d), (op == 0x65 && decide (2 ^ 13 ≤ d.comm), 0x0101)]
  if early ≠ 0 then early
  else
    let ns := collNodes s c
    let b := collBytes op d (s.myRank c) ns.length
    let srcCode := s.ownCode c.part d.src (if op = 0x65 then d.count else b.1)
    firstCode [
      (decide (16 ≤ d.inFmt) || decide (16 ≤ d.outFmt), 0x0401),
      (reduces op && !([0, 2].contains d.inFmt && [0, 2].contains d.outFmt), 0x0D03),
      (!reduces op && (d.inFmt != 0 || d.outFmt != 0), 0x0D03),
      (d.epoch != s.epochNo, 0x0D05),
      (op == 0x65 && !s.brim.members.testBit d.comm, 0x0D08),
      (ns.any (fun n => s.brim.lost.contains n), 0x0D04),
      (!s.portsOk c.part d.ports, 0x0D08),
      (op == 0x64 && decide (ns.length ≤ d.root), 0x0102),
      (d.count == 0 || srcCode != 0, 0x0D07),
      (op != 0x65 && s.ownCode c.part d.dst b.2 != 0, 0x0D07),
      (op != 0x65 && rangesMeet (d.src, b.1) (d.dst, b.2), 0x0D07),
      (reduces op && d.nf != 0 && s.ownCode c.part d.nf 8 != 0, 0x0D07)]

/-! ### The reduction (R391, R392) -/

/-- The larger of two values, a NaN if either is one, +0 above −0 (Table 7.6). -/
def vmax (a b : Val) : FVal :=
  if a.isNan || b.isNan then (.nan, fNAN) else if a.lt b then (b, 0) else if b.lt a then (a, 0) else if a.isNeg then (b, 0) else (a, 0)

/-- The smaller of two values (Table 7.6). -/
def vmin (a b : Val) : FVal :=
  if a.isNan || b.isNan then (.nan, fNAN) else if a.lt b then (a, 0) else if b.lt a then (b, 0) else if a.isNeg then (a, 0) else (b, 0)

/-- One operation of the tree (R391). -/
def redOp (op : Nat) (a b : FVal) : FVal :=
  let x := match op with | 0 => fadd a.1 b.1 | 1 => vmax a.1 b.1 | _ => vmin a.1 b.1
  (x.1, x.2 ||| a.2 ||| b.2)

/-- The tree of R391 over ranks `lo` to `lo + n − 1`. -/
def redTree (op : Nat) (x : Nat → FVal) : Nat → Nat → Nat → FVal
  | 0, lo, _ => x lo
  | fuel + 1, lo, n =>
    if n ≤ 1 then x lo
    else
      let h := 2 ^ Nat.log2 (n - 1)
      redOp op (redTree op x fuel lo h) (redTree op x fuel (lo + h) (n - h))

/-- A value of a buffer of FP32 or BF16 elements, with its input flag. -/
def redGet (fmt : Nat) (b : List Byte) (i : Nat) : FVal :=
  let v := (kindOf fmt).decode (leAt b (i * redSz fmt) (redSz fmt))
  (v, if v.isNan then fNAN else 0)

/-- Non-finite elements of a buffer (R392). -/
def nonFiniteIn (fmt : Nat) (b : List Byte) : Nat :=
  ((List.range (b.length / redSz fmt)).filter (fun i => !(redGet fmt b i).1.isFin)).length

/-- The reduction of `count` elements of every rank's part: output bytes and flags (R391). -/
def reduceAll (d : CollDesc) (n : Nat) (part : Nat → List Byte) : List Byte × Nat :=
  let xs := (List.range d.count).map (fun i =>
    let y := redTree d.op (fun j => redGet d.inFmt (part j) i) 14 0 n
    let z := (kindOf d.outFmt).round 0 0 y.1
    (leBytes (redSz d.outFmt) ((kindOf d.outFmt).encode z.1), y.2 ||| z.2))
  (xs.flatMap (fun x => x.1), xs.foldl (fun f x => f ||| x.2) 0)

/-! ### Running a collective (R389 to R393) -/

/-- What every participant must agree on (R390). -/
def State.collDigest (s : State) (c : InFlight) (d : CollDesc) : List Nat :=
  let ns := collNodes s c
  [c.cmd.op, d.count, d.inFmt, d.outFmt, d.op, d.root, ns.length] ++ ns ++ [d.epoch, d.id]

/-- The bytes of one rank's part as they have arrived, segment by segment. -/
def Coll.bytesOf (k : Coll) (rank n : Nat) : List Byte :=
  (List.range (ceilDiv n 4096)).flatMap (fun i =>
    match k.parts.find? (fun p => p.rank == rank && p.off == 4096 * i) with | some p => p.data | none => [])

/-- Replace a collective by its identity. -/
def State.setColl (s : State) (k : Coll) : State :=
  s.modBrim (fun x => { x with colls := x.colls.filter (fun h => !(h.job == k.job && h.epoch == k.epoch && h.id == k.id)) ++ [k] })

/-- The participants of a collective disagree: its local command ends with 0x0D0A, at once or when it joins (R390). -/
def State.spoilColl (s : State) (k : Coll) : State :=
  (match k.cmd with | some (r, q) => s.endCmd r q 0x0D0A 0 | none => s).setColl { k with digest := [], cmd := none, parts := [] }

/-- Forget a collective. -/
def State.dropColl (s : State) (k : Coll) : State :=
  s.modBrim (fun x => { x with colls := x.colls.filter (fun h => !(h.job == k.job && h.epoch == k.epoch && h.id == k.id)) })

/-- Participants disagree (R390): the command ends with 0x0D0A, and the others are told. -/
def State.collMismatch (s : State) (k : Coll) (nodes : List Nat) : State :=
  (nodes.filter (fun n => n != s.ownNode)).foldl (fun s n =>
    s.sendTo allPorts { s.mkFrame 6 n k.job (k.id * 2 ^ 32) (.nak 0x0D0A 0) with epoch := k.epoch } none) (s.spoilColl k)

/-- The output of a collective once every part has arrived: bytes and flags. -/
def collOutput (op : Nat) (d : CollDesc) (n me : Nat) (k : Coll) : List Byte × Nat :=
  let part (j : Nat) : List Byte := k.bytesOf j (collPart op d j me).2
  if reduces op then reduceAll d n part
  else if op = 0x64 then (part d.root, 0)
  else ((List.range n).flatMap part, 0)

/-- A collective whose parts have all arrived writes its output and its non-finite word, and ends (R391 to R393). -/
def State.collTry (s : State) (k : Coll) : State :=
  match k.cmd with
  | none => s
  | some (r, q) => match s.cmdAt? r q with
    | none => s.dropColl k
    | some c =>
      let d := collDesc c.ext
      let n := k.digest.getD 6 0
      let me := (digestNodes k.digest).idxOf s.ownNode
      let whole (j : Nat) : Bool := k.parts.any (fun p => p.rank == j) && (k.bytesOf j (collPart c.cmd.op d j me).2).length == (collPart c.cmd.op d j me).2
      if c.phase ≠ .started ∨ !(List.range n).all whole then s
      else
        let out := collOutput c.cmd.op d n me k
        let w := s.wrDev (some c.part) d.dst out.1
        let nf := min ((List.range n).map (fun j => match k.parts.find? (fun p => p.rank == j) with
          | some p => p.nonfinite
          | none => 0)).sum (2 ^ 64 - 1)
        let v := if reduces c.cmd.op ∧ d.nf ≠ 0 ∧ w.2.2 = 0 then w.1.wrDev (some c.part) d.nf (leBytes 8 nf) else (w.1, 0, w.2.2)
        let s := (v.1.modCmd r q (fun x => { x with info := x.info ||| out.2 * 256 })).dropColl k
        s.observe.endCmd r q v.2.2 (if v.2.2 = 0 then out.1.length else 0)

/-- Send one rank's part to it, segment by segment (R384, R389). -/
def State.sendPart (s : State) (c : InFlight) (d : CollDesc) (digest : List Nat) (me nf node : Nat) (bytes : List Byte) : State :=
  (List.range (max 1 (ceilDiv bytes.length 4096))).foldl (fun s i =>
    let seg := (bytes.drop (4096 * i)).take 4096
    s.sendTo d.ports { s.mkFrame 0 node (s.job c.part) (d.id * 2 ^ 32 + 64 * i) (.coll digest me nf seg) with epoch := d.epoch } none) s

/-- Join a collective: what has already arrived must agree with the command (R390). -/
def State.collJoin (s : State) (c : InFlight) (d : CollDesc) (digest : List Nat) (own : CollPart) : State × Coll × Bool :=
  let k := (s.brim.colls.find? (fun k => k.job == s.job c.part && k.epoch == d.epoch && k.id == d.id)).getD
    ⟨s.job c.part, d.epoch, d.id, digest, none, []⟩
  let ok := k.digest == digest && k.cmd.isNone
  let segs := (List.range (max 1 (ceilDiv own.data.length 4096))).map (fun i =>
    (⟨own.rank, own.nonfinite, 4096 * i, (own.data.drop (4096 * i)).take 4096⟩ : CollPart))
  let k' := { k with cmd := some (c.ring, c.seq), parts := k.parts ++ segs }
  (s.setColl k', k', ok)

/-- Start a collective (R389, R390): its own input is read and sent, and what has arrived is combined. -/
def State.collStart (s : State) (c : InFlight) : State :=
  let d := collDesc c.ext
  let ns := collNodes s c
  let me := s.myRank c
  let b := collBytes c.cmd.op d me ns.length
  let s := ns.foldl (fun s n => if s.unreachable n then s.loseNode n else s) s
  if ns.any (fun n => s.brim.lost.contains n || !s.brim.members.testBit n) then s.endCmd c.ring c.seq 0x0D04 0
  else if ns.any (fun n => n != s.ownNode && (s.portsTo n d.ports).isEmpty) then s.endCmd c.ring c.seq 0x0D08 0
  else match s.rdDev (some c.part) d.src b.1 with
    | .error e => s.stopCmd c e 0 d.src b.1
    | .ok src =>
      let digest := s.collDigest c d
      let nf := if reduces c.cmd.op then nonFiniteIn d.inFmt src else 0
      let take (r : Nat) : List Byte := let p := collPart c.cmd.op d me r; (src.drop p.1).take p.2
      let s := (List.range ns.length).foldl (fun s r =>
        if r = me then s else s.sendPart c d digest me nf (ns.getD r 0) (take r)) s
      let j := s.collJoin c d digest ⟨me, nf, 0, take me⟩
      if j.2.2 then j.1.collTry j.2.1 else j.1.collMismatch j.2.1 ns

/-- A collective, once started, waits for the parts of others. -/
def collCmd (op : Nat) (s : State) (r q : Nat) : State := s.contCmd op r q State.collStart (fun s _ => s)

/-! ### PUT and VOTE (R388, R392) -/

/-- PUT (R388): the bytes leave for the partition of JOB on the node; for this package's own node they land at once. -/
def State.putStart (s : State) (c : InFlight) : State :=
  let d := collDesc c.ext
  let s := if s.unreachable d.comm then s.loseNode d.comm else s
  if s.brim.lost.contains d.comm || !s.brim.members.testBit d.comm then s.endCmd c.ring c.seq 0x0D04 0
  else if d.comm ≠ s.ownNode ∧ (s.portsTo d.comm d.ports).isEmpty then s.endCmd c.ring c.seq 0x0D08 0
  else match s.rdDev (some c.part) d.src d.count with
    | .error e => s.stopCmd c e 0 d.src d.count
    | .ok b =>
      if d.comm = s.ownNode then
        let w := s.applyPut (s.job c.part) d.dst b
        w.1.endCmd c.ring c.seq w.2 (if w.2 = 0 then d.count else 0)
      else
        let n := ceilDiv d.count 4096
        let s := s.modCmd c.ring c.seq (fun x => { x with unacked := n })
        (List.range n).foldl (fun s i =>
          let f := { s.mkFrame 0 d.comm (s.job c.part) (d.dst + 4096 * i) (.put ((b.drop (4096 * i)).take 4096)) with epoch := d.epoch }
          s.sendTo d.ports f (some (c.ring, c.seq))) s

/-- A PUT ends when every frame of it has been acknowledged (R85, R388). -/
def State.putNext (s : State) (c : InFlight) : State :=
  if c.unacked = 0 then s.endCmd c.ring c.seq 0 (collDesc c.ext).count else s

/-- PUT (R388). -/
def putCmd (s : State) (r q : Nat) : State := s.contCmd 0x65 r q State.putStart State.putNext

/-- VOTE (R392): one word from every rank, over the tree of R391. -/
def State.voteStart (s : State) (c : InFlight) : State :=
  let d := collDesc c.ext
  let ns := collNodes s c
  let s := ns.foldl (fun s n => if s.unreachable n then s.loseNode n else s) s
  if ns.any (fun n => s.brim.lost.contains n || !s.brim.members.testBit n) then s.endCmd c.ring c.seq 0x0D04 0
  else match s.rdDev (some c.part) d.src 8 with
    | .error e => s.stopCmd c e 0 d.src 8
    | .ok b =>
      let s := s.modCmd c.ring c.seq (fun x => { x with prog := [] })
      s.joinGroup s.ownNode [0, s.job c.part, d.epoch, d.id] (s.collDigest c d) [leNat b] c

/-- A VOTE whose result has come writes it and ends. -/
def State.voteNext (s : State) (c : InFlight) : State :=
  match c.prog with
  | [] => s
  | v :: _ =>
    let w := s.wrDev (some c.part) (collDesc c.ext).dst (leBytes 8 v)
    w.1.observe.endCmd c.ring c.seq w.2.2 (if w.2.2 = 0 then 8 else 0)

/-- VOTE (R392). -/
def voteCmd (s : State) (r q : Nat) : State := s.contCmd 0x66 r q State.voteStart State.voteNext

/-! ### Remote signals (R82, R85, R388) -/

/-- The signal of a command that has ended goes to another package: sent once, given up when its node is lost or no member. -/
def State.sendSignal (s : State) (c : InFlight) (n a : Nat) : State :=
  let stop (s : State) (code : Code) : State := s.modCmd c.ring c.seq (fun x => { x with
    sigSent := true, status := if x.status = 0 then code else x.status, info := x.info ||| 2 })
  let s := if s.unreachable n then s.loseNode n else s
  if s.brim.lost.contains n then stop s 0x0D04
  else if !s.brim.members.testBit n then stop s 0x0D08
  else if n = s.ownNode then
    let w := s.applyRemote (s.job c.part) a c.cmd.sigOp c.cmd.sigVal
    if w.2 = 0 then w.1.modCmd c.ring c.seq (fun x => { x with sigSent := true }) else stop w.1 w.2
  else
    let s := s.modCmd c.ring c.seq (fun x => { x with sigSent := true, unacked := 1 })
    s.sendTo allPorts (s.mkFrame 3 n (s.job c.part) a (.signal c.cmd.sigOp c.cmd.sigVal)) (some (c.ring, c.seq))

/-- A write of a command waits for a channel's retrain (R312). -/
def State.writeHeld (s : State) (r q : Nat) : Bool := s.chans.any (fun x => x.2.heldCmds.contains (r, q))

/-- COMMAND_COMPLETE (R86, R388): a remote signal is sent first and acknowledged; then the signal, the record and the end.  A command
with a write that waits for a retrain is not complete (R312). -/
def commandComplete (s : State) (r q : Nat) : State :=
  match s.cmdAt? r q with
  | none => s
  | some c =>
    if c.phase ≠ .ended ∨ c.saved ∨ s.writeHeld r q then s
    else match c.sig with
      | .remote n a =>
        if c.unacked ≠ 0 then s
        else if c.cmd.sigEn && !neverSignals c.status && !c.withheld && !c.sigSent then s.sendSignal c n a
        else s.unlessHeld (fun s => s.complete c)
      | _ => s.unlessHeld (fun s => s.complete c)

/-! ### Frames (R386 to R395) -/

/-- A part of a collective arrives (R386, R390). -/
def State.takeColl (s : State) (f : BrimFrame) (digest : List Nat) (p : CollPart) : State :=
  let k := (s.brim.colls.find? (fun k => k.job == f.job && k.epoch == f.epoch && k.id == f.target / 2 ^ 32)).getD
    ⟨f.job, f.epoch, f.target / 2 ^ 32, digest, none, []⟩
  let k' := { k with parts := k.parts ++ [p] }
  if k.digest = [] then s
  else if k.digest ≠ digest then s.collMismatch k ((digestNodes digest ++ digestNodes k.digest).eraseDups)
  else (s.setColl k').collTry k'

/-- What a frame in sequence and of its epoch does. -/
def State.applyFrame (s : State) (b : Nat) (f : BrimFrame) : State :=
  match f.body with
  | .put d =>
    let w := s.applyPut f.job f.target d
    if w.2 = 0 then w.1 else w.1.sendNak b f w.2
  | .coll digest rank nf d => s.takeColl f digest ⟨rank, nf, f.target % 2 ^ 32 * 64, d⟩
  | .signal op v =>
    let w := s.applyRemote f.job f.target op v
    if w.2 = 0 then w.1 else w.1.sendNak b f w.2
  | .vote key params vals count _ up code => s.takeVote f.src key params vals count up code
  | .announce k e bm => s.takeAnnounce k e bm
  | .lost n _ => if f.target = 1 then s.failJob n f.job else s.loseNode n
  | .nak code _ =>
    if code = 0x0D0A then
      s.spoilColl ((s.brim.colls.find? (fun k => k.job == f.job && k.epoch == f.epoch && k.id == f.target / 2 ^ 32)).getD
        ⟨f.job, f.epoch, f.target / 2 ^ 32, [], none, []⟩)
    else s
  | .none => s

/-- A frame received by the row of its TYPE; DATA_RX also takes those of no TYPE, which are dropped. -/
def frameRx (typ : Nat) (s : State) (b : Nat) (f : BrimFrame) : State :=
  if f.typ = typ ∨ (typ = 0 ∧ 6 < f.typ) then s.rxFrame b f State.applyFrame else s

/-- Frames held whose epoch has come, or whose partition has woken, are taken (R386, R428). -/
def State.releaseHeld (s : State) : State :=
  let ready := s.brim.held.filter (fun h => decide (h.2.epoch ≤ s.epochNo))
  let s := s.modBrim (fun x => { x with held := x.held.filter (fun h => decide (s.epochNo < h.2.epoch)) })
  ready.foldl (fun s h => s.takeFrame h.1 h.2 State.applyFrame) s

/-- A pending epoch takes effect at the boundary at which the counter reaches its stroke (R381, R395). -/
def State.epochEffect (s : State) : State :=
  match s.brim.pend with
  | none => s
  | some (k, e, bm) =>
    if s.strokeNo < e then s
    else
      let gone := (bitList 8192 s.brim.members).filter (fun n => !bm.testBit n)
      let s := gone.foldl (fun s n => s.failNode n) s
      let s := s.modBrim (fun x => { x with members := bm, pend := none, lost := x.lost.filter (fun n => bm.testBit n) })
      let s := ((s.setFld e0Page Fld.EDIE_MEMB_EPOCH k).setFld e0Page Fld.EDIE_MEMB_MEMBERS (popcount 8192 bm)).setFld e0Page
        Fld.EDIE_MEMB_CMD_PENDING 0
      let s := (List.range 64).foldl (fun s b =>
        if s.portState b = 4 ∧ s.portLists b bm then s.setPort b 5
        else if s.portState b = 5 ∧ s.portLists b bm = false then s.setPort b 6
        else s) s
      (s.raiseMembers 19).admitPorts.releaseHeld

/-- COMMAND_COMPLETE (R86). -/
def execCommandComplete (ring seq : Nat) (s : State) : Host.Outcome State Fault Refusal := State.done (commandComplete s ring seq)
/-- ALL_REDUCE (R391). -/
def execAllReduce (ring seq : Nat) (s : State) : Host.Outcome State Fault Refusal := State.done (collCmd 0x60 s ring seq)
/-- REDUCE_SCATTER (R391). -/
def execReduceScatter (ring seq : Nat) (s : State) : Host.Outcome State Fault Refusal := State.done (collCmd 0x61 s ring seq)
/-- ALL_GATHER (R389). -/
def execAllGather (ring seq : Nat) (s : State) : Host.Outcome State Fault Refusal := State.done (collCmd 0x62 s ring seq)
/-- ALL_TO_ALL (R389). -/
def execAllToAll (ring seq : Nat) (s : State) : Host.Outcome State Fault Refusal := State.done (collCmd 0x63 s ring seq)
/-- BROADCAST (R389). -/
def execBroadcast (ring seq : Nat) (s : State) : Host.Outcome State Fault Refusal := State.done (collCmd 0x64 s ring seq)
/-- PUT (R388). -/
def execPutRemote (ring seq : Nat) (s : State) : Host.Outcome State Fault Refusal := State.done (putCmd s ring seq)
/-- VOTE (R392). -/
def execVoteWord (ring seq : Nat) (s : State) : Host.Outcome State Fault Refusal := State.done (voteCmd s ring seq)
/-- ANNOUNCE_RX (R380). -/
def execAnnounceRx (port : Nat) (frame : BrimFrame) (s : State) : Host.Outcome State Fault Refusal := State.done (frameRx 4 s port frame)
/-- DATA_RX (R386). -/
def execDataRx (port : Nat) (frame : BrimFrame) (s : State) : Host.Outcome State Fault Refusal := State.done (frameRx 0 s port frame)
/-- ACK_RX (R385). -/
def execAckRx (port : Nat) (frame : BrimFrame) (s : State) : Host.Outcome State Fault Refusal := State.done (frameRx 1 s port frame)
/-- VOTE_RX (R392). -/
def execVoteRx (port : Nat) (frame : BrimFrame) (s : State) : Host.Outcome State Fault Refusal := State.done (frameRx 2 s port frame)
/-- SIGNAL_RX (R388). -/
def execSignalRx (port : Nat) (frame : BrimFrame) (s : State) : Host.Outcome State Fault Refusal := State.done (frameRx 3 s port frame)
/-- LOST_RX (R394). -/
def execLostRx (port : Nat) (frame : BrimFrame) (s : State) : Host.Outcome State Fault Refusal := State.done (frameRx 5 s port frame)
/-- NAK_RX (R387). -/
def execNakRx (port : Nat) (frame : BrimFrame) (s : State) : Host.Outcome State Fault Refusal := State.done (frameRx 6 s port frame)

end Sys2Proof.Machine
end

