-- ==== Sys2Proof/Machine/Vec.lean ====
section
/-!
DEFINITION. VEC_STREAM: streams, chain steps, reductions, gather and scatter, and top-k (R163 to R179).
-/
namespace Sys2Proof.Machine

open Sys2Proof

/-! ### Descriptor (Tables 7.2 to 7.5) -/

/-- A stream descriptor (Table 7.3), with the strides that BCAST leaves. -/
structure Strm where
  base : Nat
  fmt : Nat
  bcast : Nat
  indexed : Bool
  ixs : Nat
  ixd : Nat
  sadd : Bool
  strides : List Int
  sbase : Nat
  sstride : Nat
  rsvd : Bool
  deriving DecidableEq, Repr

/-- The stream at an offset of a descriptor. -/
def strmAt (b : List Byte) (o : Nat) : Strm :=
  let bc := bitsAt b (o + 4) 8 5
  { base := bitsAt b o 22 0, fmt := bitsAt b (o + 4) 4 0, bcast := bc, indexed := bitsAt b (o + 4) 9 9 == 1,
    ixs := bitsAt b (o + 4) 11 10, ixd := bitsAt b (o + 4) 13 12, sadd := bitsAt b (o + 4) 14 14 == 1,
    strides := (List.range 4).map (fun d => if bc.testBit d then 0 else sleAt b (o + 8 + 4 * d) 4),
    sbase := bitsAt b (o + 24) 22 0, sstride := leAt b (o + 28) 4,
    rsvd := bitsAt b o 31 23 != 0 || bitsAt b (o + 4) 31 15 != 0 || bitsAt b (o + 24) 31 23 != 0 }

/-- A VEC_STREAM descriptor (Table 7.2): control words by field, streams I0 to I3, O0, O1, L0, L1. -/
structure VecDesc where
  ext : List Nat
  ctl : Nat
  drop : Nat
  keep : Val
  red : List Nat
  rows : Nat
  k : Nat
  strm : List Strm
  step : List Nat
  const : List Nat
  rand : Rand
  rsvd : Bool
  deriving DecidableEq, Repr

/-- The descriptor of a VEC_STREAM. -/
def vecDesc (b : List Byte) : VecDesc :=
  let strm := (List.range 8).map (fun i => strmAt b (64 + 32 * i))
  let red := [leAt b 20 4, leAt b 24 4]
  let step := (List.range 8).map (fun i => leAt b (320 + 8 * i) 8)
  { ext := (List.range 4).map (fun d => leAt b (2 * d) 2), ctl := leAt b 8 4, drop := leAt b 12 4, keep := f32 (leAt b 16 4),
    red := red, rows := leAt b 28 4, k := bitsAt b 32 6 0, strm := strm, step := step,
    const := (List.range 8).map (fun i => leAt b (384 + 4 * i) 4), rand := randAt b 416,
    rsvd := bitsAt b 8 31 20 != 0 || bitsAt b 32 31 7 != 0 || ((b.drop 36).take 28).any (fun x => x != 0) ||
      ((b.drop 432).take 16).any (fun x => x != 0) || strm.any (fun s => s.rsvd) ||
      red.any (fun r => r.testBit 3 || decide (2 ^ 14 ≤ r)) || step.any (fun x => decide (2 ^ 24 ≤ x)) }

/-- A field of the control word at byte 8. -/
def VecDesc.ct (d : VecDesc) (hi lo : Nat) : Nat := d.ctl / 2 ^ lo % 2 ^ (hi + 1 - lo)
/-- NSTEPS. -/
def VecDesc.nsteps (d : VecDesc) : Nat := d.ct 3 0
/-- Input stream in use. -/
def VecDesc.inUse (d : VecDesc) (i : Nat) : Bool := d.ctl.testBit (4 + i)
/-- Output stream in use. -/
def VecDesc.outUse (d : VecDesc) (o : Nat) : Bool := d.ctl.testBit (8 + o)
/-- Reduction in use. -/
def VecDesc.redUse (d : VecDesc) (r : Nat) : Bool := d.ctl.testBit (10 + r)
/-- ROUND. -/
def VecDesc.round (d : VecDesc) : Nat := d.ct 13 12
/-- PACKED. -/
def VecDesc.packed (d : VecDesc) : Bool := d.ctl.testBit 14
/-- DROP_EN. -/
def VecDesc.dropEn (d : VecDesc) : Bool := d.ctl.testBit 15
/-- Dim `i` is reduced. -/
def VecDesc.reduced (d : VecDesc) (i : Nat) : Bool := d.ctl.testBit (16 + i)
/-- Reduction control: OP, SRC, SLOT, SLOT_EN, LINE_EN. -/
def VecDesc.redOf (d : VecDesc) (r : Nat) : Nat × Nat × Nat × Bool × Bool :=
  let w := d.red.getD r 0
  (w % 8, w / 16 % 16, w / 256 % 16, w.testBit 12, w.testBit 13)
/-- Chain steps in force: OP, A, B, C, DST. -/
def VecDesc.steps (d : VecDesc) : List (Nat × List Nat × Nat) :=
  (d.step.take d.nsteps).map (fun x => (x % 256, [x / 2 ^ 8 % 16, x / 2 ^ 12 % 16, x / 2 ^ 16 % 16], x / 2 ^ 20 % 16))
/-- A stream: 0 to 3 inputs, 4 and 5 outputs, 6 and 7 line outputs. -/
def VecDesc.st (d : VecDesc) (i : Nat) : Strm := d.strm.getD i (strmAt [] 0)
/-- A stream is in use. -/
def VecDesc.uses (d : VecDesc) (i : Nat) : Bool :=
  if i < 4 then d.inUse i else if i < 6 then d.outUse (i - 4) else d.redUse (i - 6) && (d.redOf (i - 6)).2.2.2.2
/-- Streams in use. -/
def VecDesc.used (d : VecDesc) : List Nat := (List.range 8).filter d.uses

/-- Staging buffers a command holds (Table 7.1): two for each input stream, temporary written and output stream, one for each line. -/
def VecDesc.buffers (d : VecDesc) : Nat :=
  2 * ((List.range 4).filter d.inUse).length + 2 * ((List.range 2).filter d.outUse).length +
    2 * (((d.steps.map (fun t => t.2.2)).filter (fun x => decide (4 ≤ x) && decide (x < 8))).eraseDups).length +
    ((List.range 2).filter (fun r => d.redUse r && (d.redOf r).2.2.2.2)).length

/-- Sources and cost of a chain operation (Table 7.6); none for an unknown one. -/
def chainOp? (op : Nat) : Option (Nat × Nat) :=
  match op with
  | 0x01 => some (1, 1) | 0x02 => some (2, 1) | 0x03 => some (2, 1) | 0x04 => some (2, 1) | 0x05 => some (3, 1)
  | 0x06 => some (2, 1) | 0x07 => some (2, 1) | 0x08 => some (1, 1) | 0x09 => some (1, 1) | 0x0A => some (2, 1)
  | 0x0B => some (2, 1) | 0x0C => some (2, 1) | 0x0D => some (3, 1) | 0x0E => some (1, 1) | 0x10 => some (2, 4)
  | 0x11 => some (1, 4) | 0x12 => some (1, 2) | 0x13 => some (1, 2) | 0x14 => some (1, 2) | 0x15 => some (1, 2)
  | 0x16 => some (1, 4) | 0x17 => some (1, 8) | _ => none

/-! ### Chain arithmetic (R169, R170, Table 7.6) -/

/-- Round a result once to a format under RNE. -/
def Kind.once (k : Kind) (x : FVal) : FVal := if x.1.isFin then let y := k.round 0 0 x.1; (y.1, x.2 ||| y.2) else x

/-- ln, with R170's special values. -/
def flog (v : Val) : FVal :=
  match v with
  | .nan => (.nan, fNAN)
  | .inf n => if n then (.nan, fINV + fNAN) else (.inf false, 0)
  | .fin n m _ => if m = 0 then (.inf true, fDZ) else if n then (.nan, fINV + fNAN) else freeFn 1 v

/-- tanh. -/
def ftanh (v : Val) : FVal :=
  match v with
  | .nan => (.nan, fNAN)
  | .inf n => (if n then Val.one.neg else .one, 0)
  | _ => freeFn 2 v

/-- GELU. -/
def fgelu (v : Val) : FVal :=
  match v with
  | .nan => (.nan, fNAN)
  | .inf n => (if n then .fin true 0 0 else .inf false, 0)
  | _ => freeFn 3 v

/-- Reciprocal. -/
def frecip (v : Val) : FVal :=
  match v with
  | .nan => (.nan, fNAN)
  | .inf n => (.fin n 0 0, 0)
  | .fin n m _ => if m = 0 then (.inf n, fDZ) else freeFn 4 v

/-- Reciprocal square root. -/
def frsqrt (v : Val) : FVal :=
  match v with
  | .nan => (.nan, fNAN)
  | .inf n => if n then (.nan, fINV + fNAN) else (.zero, 0)
  | .fin n m _ => if m = 0 then (.inf n, fDZ) else if n then (.nan, fINV + fNAN) else freeFn 5 v

/-- A truth value of a chain. -/
def bool1 (b : Bool) : Val := if b then .one else .zero

/-- The result of a chain operation before its rounding (Table 7.6). -/
def chainRaw (op : Nat) (a b c : Val) : FVal :=
  match op with
  | 0x01 => (a, 0)
  | 0x02 => addX a b
  | 0x03 => addX a b.neg
  | 0x04 => mulX a b
  | 0x05 => let p := mulX a b; let x := addX p.1 c; (x.1, if p.1.isNan then p.2 else x.2)
  | 0x06 => vmin a b
  | 0x07 => vmax a b
  | 0x08 => (a.abs, 0)
  | 0x09 => (a.neg, 0)
  | 0x0A => (bool1 (!a.isNan && !b.isNan && a.lt b), 0)
  | 0x0B => (bool1 (!a.isNan && !b.isNan && !b.lt a), 0)
  | 0x0C => (bool1 (a.eqv b), 0)
  | 0x0D => (if c.isZero then b else a, 0)
  | 0x0E => (bool1 (!a.isFin), 0)
  | 0x10 => fdiv a b
  | 0x11 => fsqrt a
  | 0x12 => frecip a
  | 0x13 => frsqrt a
  | 0x14 => fexp a
  | 0x15 => flog a
  | 0x16 => ftanh a
  | _ => fgelu a

/-- A chain step: its result rounded once to FP32, or to BF16 in packed mode, and its flags (R169, R170). -/
def chainStep (packed : Bool) (op : Nat) (args : List Val) : FVal :=
  let x := chainRaw op (args.getD 0 .zero) (args.getD 1 .zero) (args.getD 2 .zero)
  let y := (if packed then kBF16 else kF32).once x
  (y.1, y.2 ||| (if args.any Val.isNan then fNAN else 0))

/-! ### Elements of streams (R102, R167, Table 5.3) -/

/-- Coordinates of a logical index under four extents, dim 0 first. -/
def coords (ext : List Nat) (i : Nat) : List Nat :=
  (List.range 4).map (fun d => i / ((ext.take d).foldl (· * ·) 1) % (ext.getD d 1))

/-- Extents as a stream sees them: a line output sees 1 in a reduced dim, a TOPK output TOPK_K in dim 0. -/
def VecDesc.extOf (d : VecDesc) (topk : Bool) (i : Nat) : List Nat :=
  if 6 ≤ i then (List.range 4).map (fun x => if d.reduced x then 1 else d.ext.getD x 1)
  else if topk && decide (4 ≤ i) then d.k :: d.ext.drop 1
  else d.ext

/-- Number of elements of extents. -/
def extSize (ext : List Nat) : Nat := ext.foldl (· * ·) 1

/-- Where an element of a stream lies: the bit address of its code and the offset of its scale byte (R102, R167). -/
structure Place where
  bit : Int
  scale : Option Nat
  deriving DecidableEq, Repr

/-- The place of the element at coordinates `c`, an index in the place of the indexed one. -/
def Strm.place (t : Strm) (ext : List Nat) (rows : Nat) (c : List Nat) (index : Option Nat) : Place :=
  let cc := match index with | some x => c.set t.ixd x | none => c
  let e := (List.range 4).foldl (fun (a : Int) d => a + (cc.getD d 0 : Int) * t.strides.getD d 0) 0
  let wide (d : Nat) : Nat := if t.bcast.testBit d then 1 else if t.indexed && t.ixd == d then rows else ext.getD d 1
  let at_ (d : Nat) : Nat := if t.bcast.testBit d then 0 else cc.getD d 0
  { bit := 8 * (t.base : Int) + e * (fmtBits t.fmt : Int),
    scale := if isMx t.fmt then
        some (t.sbase + ((at_ 3 * wide 2 + at_ 2) * wide 1 + at_ 1) * t.sstride + cc.getD 0 0 / 32)
      else none }

/-- Bytes a place touches: first and number. -/
def Place.bytes (p : Place) (bits : Nat) : Int × Nat := (p.bit / 8, (p.bit % 8).toNat / 8 + ((p.bit % 8).toNat + bits + 7) / 8)

/-- A place lies in the scratchpad (R177). -/
def Place.inSp (p : Place) (bits : Nat) : Bool :=
  let b := p.bytes bits
  decide (0 ≤ b.1) && decide (b.1 + b.2 ≤ (spBytes : Int)) && (match p.scale with | some o => decide (o < spBytes) | none => true)

/-- Byte ranges of a place. -/
def Place.ranges (p : Place) (bits : Nat) : List (Nat × Nat) :=
  ((p.bytes bits).1.toNat, (p.bytes bits).2) :: (match p.scale with | some o => [(o, 1)] | none => [])

/-- The code at a bit address of a core's scratchpad. -/
def State.bitGet (s : State) (core : Nat) (p : Place) (bits : Nat) : Nat :=
  let b := p.bytes bits
  s.spNat core b.1.toNat b.2 / 2 ^ (p.bit % 8).toNat % 2 ^ bits

/-- Store a code at a bit address. -/
def State.bitPut (s : State) (core : Nat) (p : Place) (bits code : Nat) : State :=
  let b := p.bytes bits
  let sh := (p.bit % 8).toNat
  let old := s.spNat core b.1.toNat b.2
  let new := old % 2 ^ sh + code % 2 ^ bits * 2 ^ sh + old / 2 ^ (sh + bits) * 2 ^ (sh + bits)
  s.wrs (spKey core b.1.toNat) (leBytes b.2 new)

/-- The value of an element, widened, with its input flags (R108, R169). -/
def State.strmGet (s : State) (core : Nat) (t : Strm) (p : Place) : FVal :=
  let raw := s.bitGet core p (fmtBits t.fmt)
  match p.scale with
  | some o => mxDecode t.fmt (s.spNat core o 1) raw
  | none =>
    let v := (kindOf t.fmt).decode raw
    (v, if v.isNan then fNAN else 0)

/-! ### Checks (R166 to R177) -/

/-- A source selector of a step or reduction: its code, given the temporaries written so far (R168, R169). -/
def VecDesc.srcCode (d : VecDesc) (temps : List Nat) (sel : Nat) : Code :=
  if sel < 4 then (if !d.inUse sel then 0x0582 else if (d.st sel).fmt = 15 then 0x0402 else 0)
  else if sel < 8 then (if temps.contains sel then 0 else 0x0583)
  else 0

/-- The code of the chain, with the temporaries, outputs and constants it names: steps taken in order. -/
def VecDesc.chainCode (d : VecDesc) : List (Nat × List Nat × Nat) → List Nat → List Nat → List Nat →
    Code × List Nat × List Nat × List Nat
  | [], temps, outs, ks => (0, temps, outs, ks)
  | (op, sels, dst) :: r, temps, outs, ks =>
    match chainOp? op with
    | none => (0x0581, temps, outs, ks)
    | some (n, cost) =>
      let used := sels.take n
      let bad := (used.findSome? (fun x => let e := d.srcCode temps x; if e = 0 then none else some e)).getD 0
      let ks := ks ++ used.filter (fun x => decide (8 ≤ x))
      if bad ≠ 0 then (bad, temps, outs, ks)
      else if dst < 2 then
        if !d.outUse dst then (0x0582, temps, outs, ks)
        else if d.packed && decide (1 < cost) then (0x0584, temps, outs, ks)
        else VecDesc.chainCode d r temps (dst :: outs) ks
      else if 4 ≤ dst ∧ dst < 8 then
        if d.packed && decide (1 < cost) then (0x0584, temps, outs, ks) else VecDesc.chainCode d r (dst :: temps) outs ks
      else (0x0582, temps, outs, ks)

/-- The code of one stream (R102, R167, R174, R175). -/
def VecDesc.strmCode (d : VecDesc) (topk : Bool) (i : Nat) : Code :=
  let t := d.st i
  let q := d.st t.ixs
  let fits : Bool :=
    if i < 4 then [0, 1, 2, 3, 4, 5, 6, 7, 8, 9, 10, 15].contains t.fmt && !(topk && i == 0 && t.fmt == 15)
    else if 6 ≤ i then t.fmt == 0 || t.fmt == 2
    else if topk then t.fmt == (if i = 5 then 15 else (d.st 0).fmt)
    else decide (t.fmt ≤ 10)
  firstCode [
    ((t.sadd && decide (i < 4)) || (t.indexed && (decide (6 ≤ i) || (topk && decide (4 ≤ i)))), 0x0101),
    (!fits, 0x0402),
    (isMx t.fmt && (t.strides.getD 0 0 != 1 || (t.indexed && t.ixd == 0)), 0x0590),
    (isMx t.fmt && decide (1 < extSize (d.ext.drop 1)) && decide (t.sstride < ceilDiv ((d.extOf topk i).getD 0 1) 32), 0x0405),
    (isMx t.fmt && [1, 2, 3].any (fun x => !t.bcast.testBit x && decide (1 < d.ext.getD x 1) &&
      decide ((t.strides.getD x 0).natAbs < 32 * ceilDiv ((d.extOf topk i).getD 0 1) 32)), 0x0405),
    (t.sadd && t.fmt != 0, 0x058A),
    (t.indexed && (!d.inUse t.ixs || q.fmt != 15 || q.indexed), 0x0589)]

/-- The code of one reduction (R171), given the temporaries and outputs the chain writes. -/
def VecDesc.redCode (d : VecDesc) (temps outs : List Nat) (r : Nat) : Code :=
  let (op, src, _, slot, line) := d.redOf r
  firstCode [
    (decide (4 < op) || (!slot && !line) ||
      (slot && (List.range 4).any (fun x => !d.reduced x && decide (1 < d.ext.getD x 1))), 0x058B),
    (src == 8 || src == 9, if outs.contains (src - 8) then 0 else 0x0583),
    (decide (9 < src), 0x0582), (decide (src < 8), d.srcCode temps src)]

/-- A code of the first of a list of items that has one. -/
def firstOf (l : List Nat) (f : Nat → Code) : Code := (l.findSome? (fun x => let e := f x; if e = 0 then none else some e)).getD 0

/-- The places of every element of a stream in logical order, given the indices it reads. -/
def VecDesc.places (d : VecDesc) (topk : Bool) (i : Nat) (index : Nat → Option Nat) : List Place :=
  let ext := d.extOf topk i
  (List.range (extSize ext)).map (fun e => (d.st i).place ext d.rows (coords ext e) (index e))

/-- Two streams are one: base, format, strides and indexing (R177). -/
def Strm.same (a b : Strm) : Bool :=
  a.base == b.base && a.fmt == b.fmt && a.strides == b.strides && a.indexed == b.indexed &&
    (!a.indexed || (a.ixs == b.ixs && a.ixd == b.ixd))

/-- The absent slots that end the lines of an MX output: places of their codes, which the output writes as 0 (R102). -/
def VecDesc.absent (d : VecDesc) (topk : Bool) (i : Nat) (ps : List Place) : List Place :=
  let line := (d.extOf topk i).getD 0 1
  if i < 4 || !isMx (d.st i).fmt || line % 32 = 0 then []
  else ((List.range ps.length).filter (fun e => e % line == line - 1)).flatMap (fun e =>
    (List.range (32 - line % 32)).map (fun j =>
      ⟨(ps.getD e ⟨0, none⟩).bit + ((j + 1 : Nat) : Int) * (fmtBits (d.st i).fmt : Int), none⟩))

/-- The checks that need addresses: bounds and overlaps, absent slots among them (R102, R177). -/
def VecDesc.geomCode (d : VecDesc) (topk : Bool) (index : Nat → Nat → Option Nat) : Code :=
  let pl := d.used.map (fun i => let ps := d.places topk i (index i); (i, ps ++ d.absent topk i ps))
  let rg := pl.map (fun x => (x.1, x.2.flatMap (fun p => p.ranges (fmtBits (d.st x.1).fmt))))
  firstCode [
    (pl.any (fun x => x.2.any (fun p => !p.inSp (fmtBits (d.st x.1).fmt))), 0x0587),
    (rg.any (fun o => decide (4 ≤ o.1) && rg.any (fun t => (decide (t.1 < 4) || decide (o.1 < t.1)) &&
      !(decide (t.1 < 4) && (d.st t.1).same (d.st o.1)) && o.2.any (fun a => t.2.any (fun b => rangesMeet a b)))), 0x058C)]

/-- The home check of VEC_STREAM (R166 to R177); addresses that depend on indices are judged at the start (R174). -/
def State.vecCheck (s : State) (c : InFlight) : Code :=
  let d := vecDesc c.ext
  let topk := c.cmd.sub == 1
  let ch := d.chainCode d.steps [] [] []
  let outs := (List.range 2).filter d.outUse
  firstCode [
    (decide (1 < c.cmd.sub), 0x058F), (c.cmd.opFlags != 0 || decide (8 ≤ c.cmd.arg) || d.rsvd, 0x0101),
    (d.ext.contains 0, 0x0586), (d.round == 3, 0x0403), (topk && (d.nsteps != 0 || d.k == 0 || decide (64 < d.k)), 0x058D),
    (decide (8 < d.nsteps) || (!topk && d.nsteps == 0 && !d.redUse 0 && !d.redUse 1), 0x0585), (d.rows == 0, 0x0102),
    (true, s.coreCode c),
    (d.used.any (fun i => decide (16 ≤ (d.st i).fmt)), 0x0401),
    (topk && (!d.inUse 0 || outs != [0, 1]), 0x0582),
    (true, firstOf d.used (d.strmCode topk)), (true, ch.1),
    (!topk && outs.any (fun o => !ch.2.2.1.contains o), 0x0583),
    (true, firstOf ((List.range 2).filter d.redUse) (d.redCode ch.2.1 ch.2.2.1)),
    (d.packed && ((List.range 4).any (fun i => d.inUse i && !([2, 3, 4, 5, 6, 7, 8, 9, 10].contains (d.st i).fmt)) ||
      d.const.any (fun k => let v := f32 k; v.isFin && ((kBF16.round 0 0 v).2 != 0))), 0x0584),
    ((d.round == 2 || d.dropEn) && decide (2 ^ 31 ≤ d.rand.stream), 0x0404),
    (!(d.used.any (fun i => (d.st i).indexed)), d.geomCode topk (fun _ _ => none))]

/-! ### Running (R169 to R178) -/

/-- One element's way through the chain: inputs I0 to I3, temporaries T0 to T3, constants, and the outputs O0 and O1. -/
def chainRun (d : VecDesc) (ins : List FVal) : (List Val × List Val) × Nat :=
  let ks := d.const.map f32
  let start : (List Val × List Val) × Nat :=
    ((List.replicate 4 .zero, [.zero, .zero]), ins.foldl (fun f x => f ||| x.2) 0)
  d.steps.foldl (fun a t =>
    let n := match chainOp? t.1 with | some x => x.1 | none => 1
    let get (sel : Nat) : Val :=
      if sel < 4 then (ins.getD sel (.zero, 0)).1 else if sel < 8 then a.1.1.getD (sel - 4) .zero else ks.getD (sel - 8) .zero
    let y := chainStep d.packed t.1 ((t.2.1.take n).map get)
    if t.2.2 < 2 then ((a.1.1, a.1.2.set t.2.2 y.1), a.2 ||| y.2)
    else ((a.1.1.set (t.2.2 - 4) y.1, a.1.2), a.2 ||| y.2)) start

/-- What one element gives: its outputs and the sources of the two reductions, with its flags (R153, R169, R171). -/
def vecElem (d : VecDesc) (i : Nat) (ins : List FVal) : (List Val × List Val) × Nat :=
  let r := chainRun d ins
  let o0 : FVal :=
    let v := r.1.2.getD 0 .zero
    if d.dropEn && d.outUse 0 then (if d.rand.drop i < d.drop then (.zero, 0) else fmul v d.keep) else (v, 0)
  let outs := [o0.1, r.1.2.getD 1 .zero]
  let src (k : Nat) : Val :=
    let sel := (d.redOf k).2.1
    if sel < 4 then (ins.getD sel (.zero, 0)).1 else if sel < 8 then r.1.1.getD (sel - 4) .zero else outs.getD (sel - 8) .zero
  ((outs, [src 0, src 1]), r.2 ||| o0.2)

/-- One halving of the partial sums of R172. -/
def halve (w : Nat) (l : List Val) : List Val × Nat :=
  let xs := (List.range w).map (fun i => fadd (l.getD i .zero) (l.getD (i + w) .zero))
  (xs.map (fun x => x.1), xs.foldl (fun f x => f ||| x.2) 0)

/-- The sum of R172 over values in logical order. -/
def reduceSum (sq : Bool) (es : List Val) : FVal :=
  let start : List Val × Nat × Nat := (List.replicate 256 .zero, 0, 0)
  let parts := es.foldl (fun a e =>
    let p := a.1.getD (a.2.1 % 256) .zero
    let y := if sq then ffma e e p else fadd p e
    (a.1.set (a.2.1 % 256) y.1, a.2.1 + 1, a.2.2 ||| y.2)) start
  let fin := [128, 64, 32, 16, 8, 4, 2, 1].foldl (fun a w => let h := halve w a.1; (h.1, a.2 ||| h.2)) (parts.1, parts.2.2)
  (fin.1.getD 0 .zero, fin.2)

/-- A stands before B for a MAX, MIN or AMAX: strictly better, +0 above −0 (R172, Table 7.6). -/
def better (op : Nat) (a b : Val) : Bool :=
  if op = 3 then a.lt b || (a.eqv b && a.isNeg && !b.isNeg) else b.lt a || (a.eqv b && b.isNeg && !a.isNeg)

/-- One reduction of elements with their logical indices: VALUE, AUX and flags (R171, R172). -/
def reduceOne (op : Nat) (es : List (Nat × Val)) : Val × Nat × Nat :=
  if op < 2 then
    let x := reduceSum (op == 1) (es.map (fun e => e.2))
    (x.1, min ((es.filter (fun e => !e.2.isFin)).length) 0xFFFFFFFF, x.2)
  else match es.find? (fun e => e.2.isNan) with
    | some e => (.nan, min e.1 0xFFFFFFFF, fNAN)
    | none =>
      let ys := es.map (fun e => (e.1, if op = 4 then e.2.abs else e.2))
      match ys with
      | [] => (.zero, 0, 0)
      | y :: r =>
        let b := r.foldl (fun a e => if better op e.2 a.2 then e else a) y
        (b.2, min b.1 0xFFFFFFFF, 0)

/-- Write plain elements of an output: conversion in ROUND, or SCATTER_ADD in FP32 (R109, R174). -/
def State.strmPut (s : State) (core : Nat) (t : Strm) (mode : Nat) (rand : Rand) (ps : List Place) (vs : List Val) : State × Nat :=
  (List.range vs.length).foldl (fun a i =>
    let p := ps.getD i ⟨0, none⟩
    let v := vs.getD i .zero
    if t.sadd then
      let y := fadd (f32 (a.1.bitGet core p 32)) v
      (a.1.bitPut core p 32 (toF32 y.1), a.2 ||| y.2)
    else
      let y := (kindOf t.fmt).round mode (if mode = 2 then rand.sr i else 0) v
      (a.1.bitPut core p (fmtBits t.fmt) ((kindOf t.fmt).encode y.1), a.2 ||| y.2)) (s, 0)

/-- Write elements of an MX output block by block; of elements written twice the last remains, and the absent slots of a
line's last block take code 0 (R102, R110, R174). -/
def State.strmPutMx (s : State) (core : Nat) (t : Strm) (mode : Nat) (rand : Rand) (line : Nat) (ps : List Place)
    (vs : List Val) : State × Nat :=
  let last (i : Nat) : Bool := !((List.range vs.length).any (fun j => decide (i < j) &&
    (ps.getD j ⟨0, none⟩).bit == (ps.getD i ⟨0, none⟩).bit))
  let keep := (List.range vs.length).filter last
  let blocks := (keep.map (fun i => ((ps.getD i ⟨0, none⟩).scale).getD 0)).eraseDups
  blocks.foldl (fun a b =>
    let is := keep.filter (fun i => ((ps.getD i ⟨0, none⟩).scale).getD 0 == b)
    let e := mxEncode t.fmt (is.map (fun i => vs.getD i .zero)) mode (is.map (fun i => if mode = 2 then rand.sr i else 0))
    let s := (List.range is.length).foldl (fun s n =>
      s.bitPut core (ps.getD (is.getD n 0) ⟨0, none⟩) (fmtBits t.fmt) (e.2.1.getD n 0)) a.1
    let s := (is.filter (fun i => i % line == line - 1 && line % 32 != 0)).foldl (fun s i =>
      (List.range (32 - line % 32)).foldl (fun s j =>
        let q : Place := ⟨(ps.getD i ⟨0, none⟩).bit + ((j + 1 : Nat) : Int) * (fmtBits t.fmt : Int), none⟩
        if q.inSp (fmtBits t.fmt) then s.bitPut core q (fmtBits t.fmt) 0 else s) s) s
    (s.wr (spKey core b) (BitVec.ofNat 8 e.1), a.2 ||| e.2.2)) (s, 0)

/-- Write the first elements of an output. -/
def State.vecOut (s : State) (core : Nat) (d : VecDesc) (topk : Bool) (o : Nat) (ps : List Place) (vs : List Val) : State × Nat :=
  let t := d.st (4 + o)
  if isMx t.fmt then s.strmPutMx core t d.round d.rand ((d.extOf topk (4 + o)).getD 0 1) ps vs
  else s.strmPut core t d.round d.rand ps vs

/-- A summary slot is written (R173, R184): value, AUX, generation, event and TC_IP. -/
def State.slotPut (s : State) (core slot : Nat) (v : Val) (aux : Nat) : State :=
  let s := s.setReg (page 7 core + 0x280 + 8 * slot) (BitVec.ofNat 64 (toF32 v + aux * 2 ^ 32))
  let s := s.modTc core (fun t => { t with gens := t.gens.set slot ((t.gens.getD slot 0 + 1) % 2 ^ 16), ip := t.ip ||| 1 })
  s.raise (page 7 core) 18

/-- The reductions, at the end of a command that has run whole (R171 to R173, R178). -/
def State.vecReds (s : State) (core : Nat) (d : VecDesc) (srcs : List (List Val)) (lines : Nat → List Place) : State × Nat :=
  let kept (i : Nat) : List Nat := (List.range 4).map (fun x => if d.reduced x then 0 else (coords d.ext i).getD x 0)
  let ls := ((List.range srcs.length).map kept).eraseDups
  let res := ((List.range 2).filter d.redUse).map (fun r =>
    (r, ls.map (fun l => reduceOne (d.redOf r).1 (((List.range srcs.length).filter (fun i => kept i == l)).map (fun i =>
      (i, (srcs.getD i []).getD r .zero))))))
  let s := res.foldl (fun (a : State × Nat) x =>
    let fl := x.2.foldl (fun f y => f ||| y.2.2) a.2
    if (d.redOf x.1).2.2.2.2 then
      let t := d.st (6 + x.1)
      let w := a.1.strmPut core { t with sadd := false } 0 d.rand (lines x.1) (x.2.map (fun y => y.1))
      (w.1, fl ||| w.2)
    else (a.1, fl)) (s, 0)
  (res.foldl (fun s x => let c := d.redOf x.1
    match x.2 with
    | y :: _ => if c.2.2.2.1 then s.slotPut core c.2.2.1 y.1 y.2.1 else s
    | [] => s) s.1, s.2)

/-- The order of TOPK (R175): a ranks above b. -/
def ranksAbove (a b : Nat × Val) : Bool :=
  if a.2.isNan then b.2.isNan && decide (a.1 < b.1)
  else b.2.isNan || b.2.lt a.2 || (a.2.eqv b.2 &&
    (if a.2.isZero && a.2.isNeg != b.2.isNeg then b.2.isNeg else decide (a.1 < b.1)))

/-- Insert into a list in rank order. -/
def rankIn (x : Nat × Val) : List (Nat × Val) → List (Nat × Val)
  | [] => [x]
  | y :: r => if ranksAbove x y then x :: y :: r else y :: rankIn x r

/-- The outcome of a command that uncorrectable data cut short or that ran whole. -/
def State.vecEnd (s : State) (c : InFlight) (core flags good : Nat) (bad : Option Nat) : State :=
  let s := (s.arith c core flags).tick (page 7 core) Fld.CORE_VE_ACTIVE_CYCLES
  match bad with
  | some k => s.stopBad c k good
  | none => s.endCmd c.ring c.seq 0 good

/-- CHAIN (R169 to R174, R178): groups in logical order up to the first that meets uncorrectable data. -/
def State.vecChain (s : State) (c : InFlight) (core : Nat) (d : VecDesc) (index : Nat → Nat → Option Nat) : State :=
  let n := extSize d.ext
  let g := if d.packed then 512 else 256
  let pl := (List.range 8).map (fun i => if d.uses i then d.places false i (index i) else [])
  let at_ (i e : Nat) : Place := (pl.getD i []).getD e ⟨0, none⟩
  let touched (e : Nat) : List Nat := ((List.range 6).filter (fun i => d.uses i && (decide (i < 4) || (d.st i).sadd))).flatMap (fun i =>
    ((at_ i e).ranges (fmtBits (d.st i).fmt)).flatMap (fun r => (List.range r.2).map (fun j => r.1 + j)))
  let badAt := (List.range n).findSome? (fun e => (s.badSp? core (touched e)).map (fun k => (e, k)))
  let done := match badAt with | some (e, _) => e / g * g | none => n
  let rs := (List.range done).map (fun e => vecElem d e ((List.range 4).map (fun i =>
    if d.inUse i && (d.st i).fmt != 15 then s.strmGet core (d.st i) (at_ i e) else (.zero, 0))))
  let fl := rs.foldl (fun f r => f ||| r.2) 0
  let outs := (List.range 2).filter d.outUse
  let s := if s.weak.isEmpty then s else s.correctSp c core ((List.range done).flatMap touched)
  let w := outs.foldl (fun (a : State × Nat) o =>
    let x := a.1.vecOut core d false o (pl.getD (4 + o) []) (rs.map (fun r => r.1.1.getD o .zero))
    (x.1, a.2 ||| x.2)) (s, fl)
  let good := (outs.map (fun o => ceilDiv (done * fmtBits (d.st (4 + o)).fmt) 8)).sum
  match badAt with
  | some (_, k) => w.1.vecEnd c core w.2 good (some k)
  | none =>
    let x := w.1.vecReds core d (rs.map (fun r => r.1.2)) (fun r => pl.getD (6 + r) [])
    x.1.vecEnd c core (w.2 ||| x.2) good none

/-- TOPK (R175). -/
def State.vecTopk (s : State) (c : InFlight) (core : Nat) (d : VecDesc) (index : Nat → Nat → Option Nat) : State :=
  let n := extSize d.ext
  let e0 := d.ext.getD 0 1
  let ps := d.places true 0 (index 0)
  let bits := fmtBits (d.st 0).fmt
  let reads := ps.flatMap (fun p => (p.ranges bits).flatMap (fun r => (List.range r.2).map (fun j => r.1 + j)))
  match s.badSp? core reads with
  | some k => s.vecEnd c core 0 0 (some k)
  | none =>
    let s := s.correctSp c core reads
    let xs := ps.map (s.strmGet core (d.st 0))
    let line (l : Nat) : List (Nat × Val) :=
      let r := ((List.range e0).map (fun i => (i, (xs.getD (l * e0 + i) (.zero, 0)).1))).foldl (fun a x => rankIn x a) []
      let k := r.take d.k
      k ++ List.replicate (d.k - k.length) (0xFFFFFFFF, Val.nan)
    let rs := (List.range (n / e0)).flatMap line
    let w := s.vecOut core d true 0 (d.places true 4 (fun _ => none)) (rs.map (fun x => x.2))
    let o1 := d.places true 5 (fun _ => none)
    let t := (List.range rs.length).foldl (fun s i => s.bitPut core (o1.getD i ⟨0, none⟩) 32 (rs.getD i (0, .zero)).1) w.1
    let t := if e0 < d.k then t.modCmd c.ring c.seq (fun x => { x with info := x.info ||| 2 ^ 16 }) else t
    t.vecEnd c core (xs.foldl (fun f x => f ||| x.2) w.2) (ceilDiv (rs.length * bits) 8 + 4 * rs.length) none

/-- VEC_STREAM (R166): index streams are read in full and checked before any output is written (R174). -/
def vecCmd (s : State) (r q : Nat) : State :=
  s.runCmd 0x33 r q (fun s c =>
    let d := vecDesc c.ext
    let topk := c.cmd.sub = 1
    match s.cmdCore? c with
    | none => s.endCmd r q 0x0103 0
    | some core =>
      let indexed := d.used.filter (fun i => (d.st i).indexed)
      let ixPlaces := (indexed.map (fun i => (d.st i).ixs)).eraseDups.map (fun x => (x, d.places topk x (fun _ => none)))
      if ixPlaces.any (fun x => x.2.any (fun p => !p.inSp 32)) then s.endCmd r q 0x0587 0
      else match s.badSp? core (ixPlaces.flatMap (fun x => x.2.flatMap (fun p => (List.range 4).map (fun j => (p.bit / 8).toNat + j)))) with
        | some k => s.stopBad c k 0
        | none =>
          let ix := ixPlaces.map (fun x => (x.1, x.2.map (fun p => s.bitGet core p 32)))
          let index (i e : Nat) : Option Nat :=
            if (d.st i).indexed then some ((SMap.getD ix (d.st i).ixs []).getD e 0) else none
          let code := if ix.any (fun x => x.2.any (fun v => decide (d.rows ≤ v))) then 0x0588
            else if indexed.isEmpty then 0 else d.geomCode topk index
          if code ≠ 0 then s.endCmd r q code 0
          else if topk then s.vecTopk c core d index
          else s.vecChain c core d index)

/-- VEC_STREAM (R166). -/
def execVecStream (ring seq : Nat) (s : State) : Host.Outcome State Fault Refusal := State.done (vecCmd s ring seq)

end Sys2Proof.Machine
end

