-- ==== Sys2Proof/Machine/Attn.lean ====
section
/-!
DEFINITION. The attention sequencer (09, R226 to R239, R242): descriptors, the page walk, ATTN_FWD and ATTN_BWD.
-/
namespace Sys2Proof.Machine

open Sys2Proof

/-! ### The descriptor (Tables 9.1 and 9.2) -/

/-- An attention descriptor. -/
structure AttnDesc where
  list : Nat
  count : Nat
  hq : Nat
  hkv : Nat
  bucket : Nat
  d : Nat
  qFmt : Nat
  kvFmt : Nat
  oFmt : Nat
  pFmt : Nat
  narrow : Bool
  scale : Val
  mask : Nat
  ahead : Nat
  blank0 : Nat
  blanks : Nat
  back : Nat
  fwd : Nat
  frame : Nat
  grid : Nat
  tBack : Nat
  yWin : Nat
  xWin : Nat
  bitmap : Nat
  bstride : Nat
  q : Nat
  o : Nat
  lse : Nat
  do_ : Nat
  dq : Nat
  dk : Nat
  dv : Nat
  qs : Nat
  os : Nat
  dos : Nat
  dqs : Nat
  dkvs : Nat
  doFmt : Nat
  dqFmt : Nat
  dkvFmt : Nat
  acc : Bool
  unused : Bool
  rsvd : Bool
  deriving DecidableEq, Repr

/-- The descriptor of an attention command. -/
def attnDesc (b : List Byte) : AttnDesc :=
  { list := leAt b 0 8, count := bitsAt b 8 8 0, hq := leAt b 10 1, hkv := leAt b 11 1, bucket := leAt b 12 4,
    d := bitsAt b 16 9 0, qFmt := bitsAt b 16 14 10, kvFmt := bitsAt b 16 19 15, oFmt := bitsAt b 16 24 20,
    pFmt := bitsAt b 16 26 25, narrow := bitsAt b 16 27 27 == 1, scale := f32 (leAt b 20 4), mask := bitsAt b 24 3 0,
    ahead := bitsAt b 24 10 4, blank0 := bitsAt b 28 8 0, blanks := bitsAt b 28 17 9, back := leAt b 32 4, fwd := leAt b 36 4,
    frame := leAt b 40 4, grid := leAt b 44 2, tBack := leAt b 46 2, yWin := leAt b 48 2, xWin := leAt b 50 2,
    bitmap := leAt b 56 8, bstride := leAt b 64 4, q := leAt b 72 8, o := leAt b 80 8, lse := leAt b 88 8, do_ := leAt b 96 8,
    dq := leAt b 104 8, dk := leAt b 112 8, dv := leAt b 120 8, qs := leAt b 128 4, os := leAt b 132 4, dos := leAt b 136 4,
    dqs := leAt b 140 4, dkvs := leAt b 144 4, doFmt := bitsAt b 148 4 0, dqFmt := bitsAt b 148 9 5, dkvFmt := bitsAt b 148 14 10,
    acc := bitsAt b 148 15 15 == 1, unused := leAt b 96 32 != 0 || leAt b 136 16 != 0,
    rsvd := bitsAt b 8 15 9 != 0 || bitsAt b 16 31 28 != 0 || bitsAt b 24 31 11 != 0 || bitsAt b 28 31 18 != 0 ||
      leAt b 52 4 != 0 || leAt b 68 4 != 0 || bitsAt b 148 31 16 != 0 || leAt b 152 104 != 0 }

/-- An entry of the sequence list (Table 9.2). -/
structure SeqEntry where
  head : Nat
  kvLen : Nat
  pos : Nat
  row : Nat
  len : Nat
  kvRow : Nat
  rsvd : Nat
  deriving DecidableEq, Repr

/-- Entry `i` of a sequence list. -/
def seqEntry (b : List Byte) (i : Nat) : SeqEntry :=
  let o := 32 * i
  ⟨leAt b o 8, leAt b (o + 8) 4, leAt b (o + 12) 4, leAt b (o + 16) 4, leAt b (o + 20) 4, leAt b (o + 24) 4, leAt b (o + 28) 4⟩

/-- Formats of a KV page (Table 5.1). -/
def pageFormats : List Nat := [1, 2, 3, 4, 5, 6, 7, 8, 9, 10]

/-- Page formats that widen exactly into a declared format (Table 9.3). -/
def widensTo : Nat → List Nat
  | 2 => [3, 4, 5, 6, 7, 8, 9, 10]
  | 1 => [3, 4]
  | _ => [7, 8, 9]

/-- The code of a page format against the declared one (R211). -/
def pageFmtCode (e f : Nat) (narrow : Bool) : Code :=
  if !pageFormats.contains f then 0x0705 else if f = e ∨ (widensTo e).contains f then 0 else if narrow then 0 else 0x0706

/-- Bytes of one plane of a page, and of the page (R226). -/
def planeBytes (f heads p d : Nat) : Nat :=
  heads * p * d * fmtBits f / 8 + (if isMx f then heads * p * d / 32 else 0)

/-- Bytes of a page, rounded up to 64 (R226). -/
def pageBytes (f heads p d : Nat) : Nat := alignUp (alignUp (planeBytes f heads p d) 64 + planeBytes f heads p d) 64

/-- The home check of an attention command (R206, R207, R213, R214, R218, R220, R221). -/
def State.attnCheck (s : State) (c : InFlight) : Code :=
  let d := attnDesc c.ext
  let bwd := c.cmd.op == 0x36
  let cores := (bitList 8 c.cmd.arg).filterMap (fun i => (s.clusterCores c.ccp)[i]?)
  let en (i : Nat) := d.mask.testBit i
  let need := (if fmtBits d.qFmt = 8 ∧ d.kvFmt = 5 then 8 else 16) * d.d / 64
  firstCode [
    (c.cmd.sub != 0, 0x0701),
    (c.cmd.opFlags != 0 || decide (256 ≤ c.cmd.arg) || d.rsvd || (!bwd && d.unused), 0x0101),
    ((cores.filter (fun n => !s.outOfService 7 n)).isEmpty || s.outOfService 6 c.ccp, 0x0713),
    (d.count == 0 || decide (256 < d.count), 0x070B),
    (d.hq == 0 || decide (128 < d.hq) || d.hkv == 0 || decide (128 < d.hkv) || d.hq % d.hkv != 0, 0x070A),
    (d.bucket == 0 || decide (2097152 < d.bucket), 0x0102),
    (d.d == 0 || d.d % 32 != 0 || decide (512 < d.d), 0x0702),
    ([d.qFmt, d.kvFmt, d.oFmt].any (fun f => decide (16 ≤ f)) || (bwd && [d.doFmt, d.dqFmt, d.dkvFmt].any (fun f => decide (16 ≤ f))), 0x0401),
    (!([1, 2, 3, 4].contains d.qFmt) || !([1, 2, 5].contains d.kvFmt) || !([0, 1, 2].contains d.oFmt) ||
      (bwd && (!([1, 2].contains d.doFmt) || !([0, 2].contains d.dqFmt) || !([0, 2].contains d.dkvFmt))), 0x0707),
    (decide (2 ≤ d.pFmt) || (d.pFmt == 1 && d.kvFmt != 2), 0x070D),
    (decide (64 < d.ahead), 0x070E),
    (decide (d.blanks < need) || decide (384 < d.blank0 + d.blanks), 0x0711),
    ((en 3 && (d.frame == 0 || d.grid == 0 || d.frame % d.grid != 0)) || (!en 1 && (d.back != 0 || d.fwd != 0)) ||
      (!en 3 && (d.tBack != 0 || d.yWin != 0 || d.xWin != 0)), 0x0708),
    (bwd && d.acc && d.dkvFmt != 0, 0x0714),
    (true, s.rangeCode c.part d.list (32 * d.count))]

/-! ### The walk (R208, R212, R226 to R230, R238) -/

/-- A page as an entry names it: its first position, log₂ of its tokens, its format and the entry's address. -/
structure KvPage where
  start : Nat
  log : Nat
  fmt : Nat
  entry : Nat
  deriving DecidableEq, Repr

/-- The pages that cover the first `len` positions of a table, or the code that refuses the command (R208, R212, R229). -/
def State.walkPages (s : State) (p : Nat) (d : AttnDesc) (h : Head) (len : Nat) : Nat → Nat → Nat → Except Code (List KvPage)
  | 0, _, at_ => if len ≤ at_ then .ok [] else .error 0x0704
  | n + 1, i, at_ =>
    if len ≤ at_ then .ok []
    else match s.rdDev (some p) (h.base + 8 * i) 8 with
      | .error e => .error e
      | .ok b =>
        let e := leNat b
        let l := entryLog e
        let code := firstCode [
          (decide (l < 4) || decide (12 < l) || at_ % 2 ^ l != 0, 0x0782),
          (true, pageFmtCode d.kvFmt (entryFmt e) d.narrow),
          ((match s.entrySlot? p e with
            | none => true
            | some i => !(s.slotSt p i == 1 || s.slotSt p i == 2)), if entryHost e then 0x0784 else 0x0783),
          (decide (s.slotSpan p ((s.entrySlot? p e).getD 0) * s.slotBytes p < pageBytes (entryFmt e) d.hkv (2 ^ l) d.d), 0x0783)]
        if code ≠ 0 then .error code
        else match s.walkPages p d h len n (i + 1) (at_ + 2 ^ l) with
          | .error e => .error e
          | .ok ps => .ok (⟨at_, l, entryFmt e, h.base + 8 * i⟩ :: ps)

/-- The key is kept for the query (R213). -/
def State.keeps (s : State) (p : Nat) (d : AttnDesc) (e : SeqEntry) (q k : Nat) : Bool :=
  let en (i : Nat) := d.mask.testBit i
  let near (a b w : Nat) : Bool := w == 0xFFFF || decide (a ≤ b + w ∧ b ≤ a + w)
  decide (k < e.kvLen) && (!en 0 || decide (k ≤ q)) && (!en 1 || (decide (q ≤ k + d.back) && decide (k ≤ q + d.fwd))) &&
  (!en 2 || (match s.rdDev (some p) (d.bitmap + q / 64 * d.bstride + k / 64 / 8) 1 with
    | .ok b => (leNat b).testBit (k / 64 % 8)
    | .error _ => false)) &&
  (!en 3 ||
    (let (fk, fq) := (k / d.frame, q / d.frame)
     decide (fk ≤ fq) && (d.tBack == 0xFFFF || decide (fq - fk ≤ d.tBack)) &&
     near (q % d.frame / d.grid) (k % d.frame / d.grid) d.yWin && near (q % d.grid) (k % d.grid) d.xWin))

/-- The ranges a command writes, and those it reads, pages apart (R207, R209). -/
def attnRanges (d : AttnDesc) (bwd : Bool) (es : List SeqEntry) : List (Nat × Nat) × List (Nat × Nat) :=
  let rows (f : Nat → Nat × Nat) : List (Nat × Nat) := es.flatMap (fun e => (List.range e.len).map (fun r => f (e.row + r)))
  let wide (base stride fmt : Nat) := fun r => (base + r * stride, d.hq * d.d * (fmtBits fmt / 8))
  let lse := rows (fun r => (d.lse + 4 * r * d.hq, 4 * d.hq))
  let out := rows (wide d.o d.os d.oFmt)
  let q := rows (wide d.q d.qs d.qFmt)
  let list := [(d.list, 32 * d.count)] ++ es.map (fun e => (e.head, 32))
  let top := es.foldl (fun m e => max m (e.pos + e.len - 1)) 0
  let bm := if d.mask.testBit 2 then [(d.bitmap, (top / 64 + 1) * d.bstride)] else []
  let keys (base : Nat) := es.flatMap (fun e => (List.range e.kvLen).map (fun k =>
    (base + (e.kvRow + k) * d.dkvs, d.hkv * d.d * (fmtBits d.dkvFmt / 8))))
  if bwd then (keys d.dk ++ keys d.dv ++ rows (wide d.dq d.dqs d.dqFmt), q ++ out ++ rows (wide d.do_ d.dos d.doFmt) ++ lse ++ list ++ bm)
  else (out ++ lse, q ++ list ++ bm)

/-- Two of a list of ranges meet. -/
def anyMeet : List (Nat × Nat) → Bool
  | [] => false
  | x :: r => r.any (fun y => rangesMeet x y) || anyMeet r

/-- The check of the list and of the heads as read (R208, R209, R213, R229, R238): the code, 0 with the pages of each entry. -/
def State.seqCheck (s : State) (c : InFlight) (d : AttnDesc) (es : List SeqEntry) (heads : List Nat) : Except Code (List (List KvPage)) :=
  let p := c.part
  let hs := heads.map (fun n => let b := leBytes 32 n
    (⟨leAt b 0 4, leAt b 4 4, leAt b 8 8, leAt b 16 8, bitsAt b 24 0 0 == 1, bitsAt b 24 1 1 == 1⟩ : Head))
  let rs := attnRanges d (c.cmd.op == 0x36) es
  let top := es.foldl (fun m e => max m (e.pos + e.len - 1)) 0
  let pairs := es.zip hs
  let early := firstCode [
    (es.any (fun e => e.len == 0), 0x070B), (es.any (fun e => e.rsvd != 0), 0x0101),
    (es.any (fun e => decide (2097152 < e.pos + e.len) || decide (2097152 < e.kvLen)), 0x0703),
    (heads.any (fun n => n / 2 ^ 194 != 0) || hs.any (fun h => decide (131072 < h.entries) || decide (2097152 < h.len) ||
      h.base % 8 != 0 || !s.entriesIn p h), 0x0781),
    (hs.any (fun h => h.parked), 0x0785),
    (pairs.any (fun x => decide (x.2.len < x.1.kvLen)), 0x0704),
    (es.any (fun e => decide (d.bucket < e.kvLen)), 0x070C)]
  if early ≠ 0 then .error early
  else match pairs.mapM (fun x => s.walkPages p d x.2 x.1.kvLen x.2.entries 0 0) with
    | .error e => .error e
    | .ok pages =>
      let frames := pages.flatten.filterMap (fun g => match s.rdDev (some p) g.entry 8 with
        | .ok b => if entryHost (leNat b) then none else some (64 * entryFrame (leNat b), pageBytes g.fmt d.hkv (2 ^ g.log) d.d)
        | .error _ => none)
      let entries := pages.flatten.map (fun g => (g.entry, 8))
      let code := firstCode [
        (d.mask.testBit 2 && !s.cmOrHbm p d.bitmap ((top / 64 + 1) * d.bstride), 0x0709),
        (true, firstCode ((rs.1 ++ rs.2).map (fun r => (true, s.rangeCode p r.1 r.2)))),
        (anyMeet rs.1 || rs.1.any (fun a => (rs.2 ++ frames ++ entries).any (fun b => rangesMeet a b)), 0x0712),
        (true, ((rs.1 ++ rs.2).findSome? (fun r => let e := s.checkDev (some p) r.1 r.2; if e = 0 then none else some e)).getD 0)]
      if code ≠ 0 then .error code else .ok pages

/-! ### Page data (R210, R211) -/

/-- The bytes of a page as its entry places them now. -/
def State.pageNat (s : State) (p : Nat) (g : KvPage) (o n : Nat) : Nat :=
  let e := s.rd64 (s.keyOf p g.entry)
  if entryHost e then leNat (s.rdHost (s.kvPort p) (s.sh (partPage p) Fld.PART_KV_HOST_BASE_BASE + 64 * entryFrame e + o) n)
  else leNat (s.rds (64 * entryFrame e + o) n)

/-- Element (g, t, d) of a plane as stored, with its input flags (R210). -/
def State.planeGet (s : State) (p : Nat) (ad : AttnDesc) (g : KvPage) (v : Bool) (head t d : Nat) : FVal :=
  let n := 2 ^ g.log
  let base := if v then alignUp (planeBytes g.fmt ad.hkv n ad.d) 64 else 0
  let i := (head * n + t) * ad.d + d
  let w := fmtBits g.fmt
  let code := s.pageNat p g (base + i * w / 8) 2 / 2 ^ (i * w % 8) % 2 ^ w
  if isMx g.fmt then
    let sc := s.pageNat p g (base + ad.hkv * n * ad.d * w / 8 + (head * n + t) * (ad.d / 32) + d / 32) 1
    mxDecode g.fmt sc code
  else
    let x := (kindOf g.fmt).decode code
    (x, if x.isNan then fNAN else 0)

/-- The operand value of a key or value element in the declared format (R211). -/
def State.kvGet (s : State) (p : Nat) (ad : AttnDesc) (g : KvPage) (v : Bool) (head t d : Nat) : FVal :=
  let x := s.planeGet p ad g v head t d
  if g.fmt = ad.kvFmt ∨ (ad.kvFmt = 5 ∧ (widensTo 5).contains g.fmt) then x
  else if ad.kvFmt = 5 then
    let b := (List.range 32).map (fun i => s.planeGet p ad g v head t (d / 32 * 32 + i))
    let e := mxEncode 5 (b.map (fun y => y.1)) 0 (List.replicate 32 0)
    let y := mxDecode 5 e.1 (e.2.1.getD (d % 32) 0)
    (y.1, x.2 ||| y.2 ||| e.2.2)
  else
    let y := (kindOf ad.kvFmt).round 0 0 x.1
    (y.1, x.2 ||| y.2)

/-- The page that holds a position. -/
def pageAt (ps : List KvPage) (k : Nat) : Option KvPage := ps.find? (fun g => decide (g.start ≤ k) && decide (k < g.start + 2 ^ g.log))

/-- A key or value vector of a position. -/
def State.kvRow (s : State) (p : Nat) (ad : AttnDesc) (ps : List KvPage) (v : Bool) (head k : Nat) : List FVal :=
  match pageAt ps k with
  | some g => (List.range ad.d).map (fun d => s.kvGet p ad g v head (k - g.start) d)
  | none => []

/-- A row of Q, O or dO of a query head, widened exactly (R207). -/
def State.qRow (s : State) (p base stride fmt row head d : Nat) : List FVal :=
  (List.range d).map (fun i =>
    let sz := fmtBits fmt / 8
    let x := (kindOf fmt).decode (match s.rdDev (some p) (base + row * stride + (head * d + i) * sz) sz with
      | .ok b => leNat b
      | .error _ => 0)
    (x, if x.isNan then fNAN else 0))

/-- A dot product over the head dimension: R120 chunks over d. -/
def dotD (a b : List FVal) : FVal :=
  let f := (a ++ b).foldl (fun f x => f ||| x.2) 0
  let x := dotChunks [(a.map (fun x => x.1)).zip (b.map (fun x => x.1))] (ceilDiv a.length 64) (.zero, 0)
  (x.1, x.2 ||| f)

/-- Write a row of values, converted once under RNE (R109, R215, R218). -/
def State.putRow (s : State) (p a fmt : Nat) (vs : List Val) : State × Nat :=
  let k := kindOf fmt
  let xs := vs.map (fun v => k.round 0 0 v)
  ((s.wrDev (some p) a (xs.flatMap (fun x => leBytes (fmtBits fmt / 8) (k.encode x.1)))).1, xs.foldl (fun f x => f ||| x.2) 0)

/-! ### The forward pass (R214, R215) -/

/-- Key blocks of an entry. -/
def keyBlocks (e : SeqEntry) : List (List Nat) :=
  (List.range (ceilDiv e.kvLen 64)).map (fun j => tileLine (64 * j) e.kvLen)

/-- A query row's running state: M, S, o and flags, and whether a key has been kept. -/
structure AttnRow where
  m : Val
  s : Val
  o : List Val
  flags : Nat
  kept : Bool

/-- One key block of one query row: the kept keys with their key and value vectors (R214). -/
def attnBlock (ad : AttnDesc) (q : List FVal) (x : AttnRow) (kv : List (List FVal × List FVal)) : AttnRow :=
  if kv.isEmpty then x
  else
    let ss := kv.map (fun r =>
      let a := dotD q r.1
      let y := fmul a.1 ad.scale
      (y.1, a.2 ||| y.2))
    let fl := ss.foldl (fun f y => f ||| y.2) x.flags
    let vs := ss.map (fun y => y.1)
    if x.m.isNan || vs.any Val.isNan then
      { m := .nan, s := .nan, o := List.replicate ad.d .nan, flags := fl ||| fNAN, kept := true }
    else if vs.all (fun v => v == .inf true) then { x with flags := fl, kept := true }
    else
      let st := statLine (x.m, x.s) vs
      let mx := st.1.1
      let ps := vs.map (fun v =>
        let e := statExp v mx
        if ad.pFmt = 0 then let y := kBF16.round 0 0 e.1; (y.1, e.2 ||| y.2) else e)
      let decay := statExp x.m mx
      let os := (List.range ad.d).map (fun d =>
        let y := fmul (x.o.getD d .zero) decay.1
        let col := kv.map (fun r => (r.2.getD d (.zero, 0)).1)
        let pv := ps.map (fun p => p.1)
        let passes := if ad.pFmt = 1 then [(pv.map (fun p => (splitBf16 p).2)).zip col, (pv.map (fun p => (splitBf16 p).1)).zip col]
          else [pv.zip col]
        dotChunks passes 1 y)
      let vf := kv.foldl (fun f r => r.2.foldl (fun f y => f ||| y.2) f) 0
      { m := mx, s := st.1.2, o := os.map (fun y => y.1), kept := true,
        flags := os.foldl (fun f y => f ||| y.2) (ps.foldl (fun f y => f ||| y.2) (fl ||| st.2 ||| decay.2 ||| vf)) }

/-- A whole query row: O and LSE before conversion, flags, and whether it is empty (R214, R215). -/
def State.attnRow (s : State) (p : Nat) (ad : AttnDesc) (e : SeqEntry) (ps : List KvPage) (head r : Nat) : List Val × Val × Nat × Bool :=
  let q := s.qRow p ad.q ad.qs ad.qFmt (e.row + r) head ad.d
  let g := head / (ad.hq / ad.hkv)
  let x := (keyBlocks e).foldl (fun x ks =>
    attnBlock ad q x ((ks.filter (s.keeps p ad e (e.pos + r))).map (fun k => (s.kvRow p ad ps false g k, s.kvRow p ad ps true g k))))
    ⟨.inf true, .zero, List.replicate ad.d .zero, 0, false⟩
  if !x.kept then (List.replicate ad.d .zero, .inf true, x.flags, true)
  else
    let os := x.o.map (fun o => fdiv o x.s)
    let l := flog x.s
    let y := fadd x.m l.1
    (os.map (fun o => o.1), y.1, os.foldl (fun f o => f ||| o.2) (x.flags ||| l.2 ||| y.2), false)

/-- The rows of an entry that share a query tile (R217, R219): lists of row offsets in increasing position. -/
def tilesOf (e : SeqEntry) : List (List Nat) :=
  let first := e.pos / 64
  let last := (e.pos + e.len - 1) / 64
  (List.range (last + 1 - first)).map (fun i => (List.range e.len).filter (fun r => (e.pos + r) / 64 == first + i))

/-- The pages that hold a key kept for one of the rows. -/
def State.pagesFor (s : State) (p : Nat) (ad : AttnDesc) (e : SeqEntry) (ps : List KvPage) (rows : List Nat) : List KvPage :=
  ps.filter (fun g => rows.any (fun r => (List.range (2 ^ g.log)).any (fun t => s.keeps p ad e (e.pos + r) (g.start + t))))

/-- A page is fetched for a command (R239, R242, R221): a lookahead fetch of a tier-1 page may end before its block is needed,
as a free value decides (log 31); the code of a failure, with the memory key at fault.  The entry as read now must hold the format and
the page size of the first read (R212). -/
def State.fetchPage (s : State) (c : InFlight) (ad : AttnDesc) (g : KvPage) : State × Code × Option Nat :=
  let p := c.part
  let info (s : State) (i : Nat) : State := s.modCmd c.ring c.seq (fun x => { x with info := x.info ||| i })
  let count (s : State) : State :=
    let s := s.addFld (page 6 c.ccp) Fld.CLU_AS_PAGES_COUNT 1
    if g.fmt = ad.kvFmt then s
    else info (s.addFld (page 6 c.ccp) Fld.CLU_AS_WIDENED_COUNT 1) (if (widensTo ad.kvFmt).contains g.fmt then 2 ^ 16 else 2 ^ 17)
  let e := s.rd64 (s.keyOf p g.entry)
  if entryFmt e ≠ g.fmt ∨ entryLog e ≠ g.log then (s, 0x070F, none)
  else
    let moving := s.kvMoves.any (fun m => m.part == p && m.entry == g.entry)
    let s := if entryHost e && decide (0 < ad.ahead) && !moving then
        match s.moveStart p none g.entry false none (s.fld (partPage p) Fld.PART_KV_WM_LOW) with
        | .error _ => s
        | .ok t =>
          let (v, t) := t.draw
          if v.toNat % 2 = 1 then (match t.kvMoves.getLast? with | some m => t.commitMove m | none => t) else t
      else s
    let e := s.rd64 (s.keyOf p g.entry)
    let n := pageBytes g.fmt ad.hkv (2 ^ g.log) ad.d
    if entryHost e then
      let a := s.sh (partPage p) Fld.PART_KV_HOST_BASE_BASE + 64 * entryFrame e
      if s.hostCode (s.kvPort p) p a n ≠ 0 then (s, 0x0710, none)
      else (info ((count s).addFld (page 6 c.ccp) Fld.CLU_AS_READTHRU_COUNT 1) (2 ^ 19), 0, none)
    else
      let s := match s.entrySlot? p e with
        | some i => if s.slotUse p i < s.strokeNo then s.setSlotUse p i s.strokeNo else s
        | none => s
      match s.badDev? (some p) (64 * entryFrame e) n with
      | some k => (s, 0xF001, some k)
      | none => (count s, 0, none)

/-- Pages being fetched: the state, the code that stopped the fetches with the memory key at fault, and the pages fetched. -/
structure FetchRun where
  s : State
  code : Code
  bad : Option Nat
  done : List KvPage

/-- Fetch pages in order up to the first failure. -/
def State.fetchPages (s : State) (c : InFlight) (ad : AttnDesc) : List KvPage → FetchRun
  | [] => ⟨s, 0, none, []⟩
  | g :: r =>
    let x := s.fetchPage c ad g
    if x.2.1 ≠ 0 then ⟨x.1, x.2.1, x.2.2, []⟩
    else let y := x.1.fetchPages c ad r; { y with done := g :: y.done }

/-! ### Passes (R219) -/

/-- A query tile: its entry with its pages, its query head and its rows (R217). -/
structure AttnTile where
  e : SeqEntry
  ps : List KvPage
  head : Nat
  rows : List Nat

/-- The query tiles of a command in list order, then head, then tile (R219). -/
def attnTiles (ad : AttnDesc) (es : List (SeqEntry × List KvPage)) : List AttnTile :=
  es.flatMap (fun x => (List.range ad.hq).flatMap (fun h => (tilesOf x.1).map (fun r => ⟨x.1, x.2, h, r⟩)))

/-- The tiles by passes: DESIGN CHOICE (log 59), the tiles in flight together are as many consecutive ones as the named cores have
matrix engines, and a pass ends before the next begins. -/
def passesOf (n : Nat) (ts : List AttnTile) : List (List AttnTile) :=
  (List.range (ceilDiv ts.length (max n 1))).map (fun i => (ts.drop (i * max n 1)).take (max n 1))

/-- The pages a tile needs. -/
def State.tilePages (s : State) (p : Nat) (ad : AttnDesc) (t : AttnTile) : List KvPage := s.pagesFor p ad t.e t.ps t.rows

/-- Put a page in a list by increasing first position, unless it is there. -/
def insertPage (g : KvPage) : List KvPage → List KvPage
  | [] => [g]
  | x :: r => if x = g then x :: r else if g.start < x.start then g :: x :: r else x :: insertPage g r

/-- The pages a pass fetches, each once, by increasing position (R219). -/
def State.passPages (s : State) (p : Nat) (ad : AttnDesc) (ts : List AttnTile) : List KvPage :=
  (ts.flatMap (s.tilePages p ad)).foldl (fun l g => insertPage g l) []

/-- Key blocks a pass skips below a position: for an entry and a KV head of it, those with no key kept for a row of a tile (R219). -/
def State.passSkips (s : State) (p : Nat) (ad : AttnDesc) (ts : List AttnTile) (upto : Nat) : Nat :=
  let kv (t : AttnTile) : SeqEntry × Nat := (t.e, t.head / (ad.hq / ad.hkv))
  let rec go : List AttnTile → List (SeqEntry × Nat) → Nat
    | [], _ => 0
    | t :: r, seen =>
      if seen.contains (kv t) then go r seen
      else ((keyBlocks t.e).filter (fun ks => ks.all (fun k => decide (k < upto)) && ks.all (fun k =>
        !(ts.any (fun u => decide (kv u = kv t) && u.rows.any (fun q => s.keeps p ad t.e (t.e.pos + q) k)))))).length +
        go r (kv t :: seen)
  go ts []

/-- A pass fetches its pages and counts the blocks it skips. -/
def State.passFetch (s : State) (c : InFlight) (ad : AttnDesc) (ts : List AttnTile) : FetchRun :=
  let ps := s.passPages c.part ad ts
  let f := s.fetchPages c ad ps
  let upto := match ps[f.done.length]? with | some g => g.start | none => 2 ^ 32
  { f with s := f.s.addFld (page 6 c.ccp) Fld.CLU_AS_SKIPPED_COUNT (s.passSkips c.part ad ts upto) }

/-- Matrix engines of the cores a command names that can run its tiles. -/
def State.passSize (s : State) (cores : List Nat) : Nat := (cores.map (fun n => (s.meEngines n 15).length)).sum

/-- Uncorrectable data among device ranges of a partition. -/
def State.badAmong (s : State) (p : Nat) (rs : List (Nat × Nat)) : Option Nat := rs.findSome? (fun r => s.badDev? (some p) r.1 r.2)

/-- An attention command in progress: state, flags, GOOD_BYTES, and the code that stopped it with the memory key at fault. -/
structure AttnRun where
  s : State
  flags : Nat
  good : Nat
  code : Code
  bad : Option Nat

/-- One query tile of ATTN_FWD whose pages are there (R214, R215). -/
def attnFwdTile (c : InFlight) (ad : AttnDesc) (x : AttnRun) (t : AttnTile) : AttnRun :=
  let p := c.part
  let sz := fmtBits ad.oFmt / 8
  let w := t.rows.foldl (fun (a : State × Nat × Bool) r =>
    let y := x.s.attnRow p ad t.e t.ps t.head r
    let o := a.1.putRow p (ad.o + (t.e.row + r) * ad.os + t.head * ad.d * sz) ad.oFmt y.1
    let s := (o.1.wrDev (some p) (ad.lse + 4 * ((t.e.row + r) * ad.hq + t.head)) (leBytes 4 (toF32 y.2.1))).1
    (s, a.2.1 ||| y.2.2.1 ||| o.2, a.2.2 || y.2.2.2)) (x.s, x.flags, false)
  let s := w.1.modCmd c.ring c.seq (fun q => { q with info := q.info ||| (if w.2.2 then 2 ^ 18 else 0) })
  { x with s := s, flags := w.2.1 }

/-- One pass of ATTN_FWD: a tile ends when all its pages are there, so a page that fails leaves the tiles before it written;
GOOD_BYTES is the prefix of complete tiles (R219, R223). -/
def attnFwdPass (c : InFlight) (ad : AttnDesc) (x : AttnRun) (ts : List AttnTile) : AttnRun :=
  if x.code ≠ 0 then x
  else
    let p := c.part
    let sz := fmtBits ad.oFmt / 8
    let q (t : AttnTile) : List (Nat × Nat) := t.rows.map (fun r =>
      (ad.q + (t.e.row + r) * ad.qs + t.head * ad.d * (fmtBits ad.qFmt / 8), ad.d * (fmtBits ad.qFmt / 8)))
    match x.s.badAmong p (ts.flatMap q) with
    | some k => { x with code := 0xF001, bad := some k }
    | none =>
      let f := x.s.passFetch c ad ts
      let ready (t : AttnTile) : Bool := (x.s.tilePages p ad t).all (fun g => f.done.contains g)
      let y := (ts.filter ready).foldl (attnFwdTile c ad) { x with s := f.s, code := f.code, bad := f.bad }
      { y with good := x.good + ((ts.takeWhile ready).map (fun t => t.rows.length * (ad.d * sz + 4))).sum }

/-! ### The backward pass (R217, R218) -/

/-- A query row of the backward pass: its Q and dO rows, LSE and D_r, and flags (R217). -/
structure BwdRow where
  pos : Nat
  q : List FVal
  do_ : List FVal
  lse : Val
  dr : Val
  flags : Nat

/-- Read a row of the backward pass. -/
def State.bwdRow (s : State) (p : Nat) (ad : AttnDesc) (e : SeqEntry) (head r : Nat) : BwdRow :=
  let row := e.row + r
  let do_ := s.qRow p ad.do_ ad.dos ad.doFmt row head ad.d
  let dr := dotD do_ (s.qRow p ad.o ad.os ad.oFmt row head ad.d)
  let lse := f32 (match s.rdDev (some p) (ad.lse + 4 * (row * ad.hq + head)) 4 with | .ok b => leNat b | .error _ => 0)
  ⟨e.pos + r, s.qRow p ad.q ad.qs ad.qFmt row head ad.d, do_, lse, dr.1, dr.2 ||| (if lse.isNan then fNAN else 0)⟩

/-- p16 and ds16 of a kept pair, with flags (R217). -/
def bwdPair (ad : AttnDesc) (r : BwdRow) (key val : List FVal) : Val × Val × Nat :=
  let a := dotD r.q key
  let sc := fmul a.1 ad.scale
  let df := fsub sc.1 r.lse
  let p := fexp df.1
  let dp := dotD r.do_ val
  let t := fsub dp.1 r.dr
  let u := fmul p.1 t.1
  let ds := fmul u.1 ad.scale
  let p16 := kBF16.round 0 0 p.1
  let ds16 := kBF16.round 0 0 ds.1
  (p16.1, ds16.1, a.2 ||| sc.2 ||| df.2 ||| p.2 ||| dp.2 ||| t.2 ||| u.2 ||| ds.2 ||| p16.2 ||| ds16.2 ||| r.flags)

/-- Add one R120 chunk to each element of an accumulator row: `cs` are the factors of the chunk's terms, `vs` their vectors. -/
def addChunk (acc : List FVal) (cs : List Val) (vs : List (List FVal)) : List FVal :=
  if cs.isEmpty then acc
  else (List.range acc.length).map (fun d => accAdd (acc.getD d (.zero, 0)) (cs.zip (vs.map (fun v => (v.getD d (.zero, 0)).1))))

/-- dV and dK of one key of one KV head (R218, sweep 1): tiles in increasing position, and within one the query heads in increasing
order, so that a sequence split at a tile adds the same chunks in the same order. -/
def State.bwdKey (s : State) (p : Nat) (ad : AttnDesc) (e : SeqEntry) (rows : Nat → Nat → BwdRow) (ps : List KvPage) (g k : Nat)
    (dv dk : List FVal) : List FVal × List FVal × Nat :=
  let key := s.kvRow p ad ps false g k
  let val := s.kvRow p ad ps true g k
  let per := ad.hq / ad.hkv
  (tilesOf e).foldl (fun a t =>
    ((List.range per).map (fun i => g * per + i)).foldl (fun (a : List FVal × List FVal × Nat) head =>
      let rs := (t.filter (fun r => s.keeps p ad e (e.pos + r) k)).map (rows head)
      let xs := rs.map (fun r => bwdPair ad r key val)
      (addChunk a.1 (xs.map (fun x => x.1)) (rs.map (fun r => r.do_)), addChunk a.2.1 (xs.map (fun x => x.2.1)) (rs.map (fun r => r.q)),
        xs.foldl (fun f x => f ||| x.2.2) a.2.2)) a) (dv, dk, 0)

/-- A stored accumulator row of dK or dV under DKV_ACC, else +0 (R218). -/
def State.dkvStart (s : State) (p : Nat) (ad : AttnDesc) (base row g : Nat) : List FVal :=
  if ad.acc then s.qRow p base ad.dkvs 0 row g ad.d else List.replicate ad.d (.zero, 0)

/-- Sweep 1 of one entry: dK and dV of every key and KV head. -/
def State.sweep1 (s : State) (p : Nat) (ad : AttnDesc) (e : SeqEntry) (ps : List KvPage) : State × Nat :=
  let sz := fmtBits ad.dkvFmt / 8
  let rows (head r : Nat) : BwdRow := s.bwdRow p ad e head r
  (List.range ad.hkv).foldl (fun a g => (List.range e.kvLen).foldl (fun (a : State × Nat) k =>
    let x := s.bwdKey p ad e rows ps g k (s.dkvStart p ad ad.dv (e.kvRow + k) g) (s.dkvStart p ad ad.dk (e.kvRow + k) g)
    let o := (e.kvRow + k) * ad.dkvs + g * ad.d * sz
    let v := a.1.putRow p (ad.dv + o) ad.dkvFmt (x.1.map (fun y => y.1))
    let w := v.1.putRow p (ad.dk + o) ad.dkvFmt (x.2.1.map (fun y => y.1))
    (w.1, x.1.foldl (fun f y => f ||| y.2) (x.2.1.foldl (fun f y => f ||| y.2) (a.2 ||| x.2.2 ||| v.2 ||| w.2)))) a) (s, 0)

/-- Sweep 2 of one query tile: dQ (R218). -/
def State.sweep2 (s : State) (p : Nat) (ad : AttnDesc) (e : SeqEntry) (ps : List KvPage) (head : Nat) (rows : List Nat) : State × Nat :=
  let g := head / (ad.hq / ad.hkv)
  rows.foldl (fun (a : State × Nat) r =>
    let row := s.bwdRow p ad e head r
    let x := (keyBlocks e).foldl (fun (x : List FVal × Nat) ks =>
      let kv := (ks.filter (s.keeps p ad e (e.pos + r))).map (fun k => (s.kvRow p ad ps false g k, s.kvRow p ad ps true g k))
      let ds := kv.map (fun y => bwdPair ad row y.1 y.2)
      (addChunk x.1 (ds.map (fun y => y.2.1)) (kv.map (fun y => y.1)), ds.foldl (fun f y => f ||| y.2.2) x.2))
      (List.replicate ad.d (.zero, 0), a.2)
    let w := a.1.putRow p (ad.dq + (e.row + r) * ad.dqs + head * ad.d * (fmtBits ad.dqFmt / 8)) ad.dqFmt (x.1.map (fun y => y.1))
    (w.1, x.1.foldl (fun f y => f ||| y.2) (x.2 ||| w.2))) (s, 0)

/-- One pass of sweep 2: each tile whose pages are there writes its dQ (R218, R219, R223). -/
def attnBwdPass (c : InFlight) (ad : AttnDesc) (x : AttnRun) (ts : List AttnTile) : AttnRun :=
  if x.code ≠ 0 then x
  else
    let p := c.part
    let f := x.s.passFetch c ad ts
    let ready (t : AttnTile) : Bool := (x.s.tilePages p ad t).all (fun g => f.done.contains g)
    let y := (ts.filter ready).foldl (fun (a : State × Nat) t =>
      let y := a.1.sweep2 p ad t.e t.ps t.head t.rows
      (y.1, a.2 ||| y.2)) (f.s, x.flags)
    ⟨y.1, y.2, x.good + ((ts.takeWhile ready).map (fun t => t.rows.length * ad.d * (fmtBits ad.dqFmt / 8))).sum, f.code, f.bad⟩

/-- ATTN_BWD (R217, R218, R223): sweep 1 fetches as one pass over all the tiles, and a failure there leaves GOOD_BYTES 0; sweep 2
runs pass by pass (log 59). -/
def State.attnBwdRun (s : State) (c : InFlight) (ad : AttnDesc) (size : Nat) (es : List (SeqEntry × List KvPage)) : AttnRun :=
  let p := c.part
  let reads := (attnRanges ad true (es.map (fun x => x.1))).2
  let stored := if ad.acc then (attnRanges ad true (es.map (fun x => x.1))).1.take
    (2 * (es.map (fun x => x.1.kvLen)).sum) else []
  match s.badAmong p (reads ++ stored) with
  | some k => ⟨s, 0, 0, 0xF001, some k⟩
  | none =>
    let ts := attnTiles ad es
    let f := s.passFetch c ad ts
    if f.code ≠ 0 then ⟨f.s, 0, 0, f.code, f.bad⟩
    else
      let one := es.foldl (fun (a : State × Nat) x => let y := a.1.sweep1 p ad x.1 x.2; (y.1, a.2 ||| y.2)) (f.s, 0)
      (passesOf size ts).foldl (attnBwdPass c ad)
        ⟨one.1, one.2, (es.map (fun x => 2 * x.1.kvLen * ad.hkv * ad.d * (fmtBits ad.dkvFmt / 8))).sum, 0, none⟩

/-! ### The command (R206, R208, R219, R223, R238) -/

/-- The list and every head have been read: check, walk and compute. -/
def State.attnRun (s : State) (c : InFlight) (list : Nat) (heads : List Nat) : State :=
  let ad := attnDesc c.ext
  let b := leBytes (32 * ad.count) list
  let es := (List.range ad.count).map (seqEntry b)
  let s := es.foldl (fun s e => s.knowHead c.part e.head) s
  match s.seqCheck c ad es heads with
  | .error e =>
    match (if e = 0xF001 then s.badAmong c.part (es.map (fun e => (e.head, 32)) ++ heads.map (fun n => (n / 2 ^ 128 % 2 ^ 64, 8 * (n / 2 ^ 32 % 2 ^ 32)))) else none) with
    | some k => s.stopBad c k 0
    | none => s.endCmd c.ring c.seq e 0
  | .ok pages =>
    let cores := ((bitList 8 c.cmd.arg).filterMap (fun i => (s.clusterCores c.ccp)[i]?)).filter (fun n => !s.outOfService 7 n)
    let s := cores.foldl (fun s n => (s.lose (amKey n 0) (2 ^ 20)).lose (spKey n (ad.blank0 * 2 ^ 14)) (ad.blanks * 2 ^ 14)) s
    let r := if c.cmd.op = 0x36 then s.attnBwdRun c ad (s.passSize cores) (es.zip pages)
      else (passesOf (s.passSize cores) (attnTiles ad (es.zip pages))).foldl (attnFwdPass c ad) ⟨s, 0, 0, 0, none⟩
    let s := cores.foldl (fun s n => s.arith c n r.flags) (r.s.modCmd c.ring c.seq (fun x => { x with info := x.info ||| r.flags * 256 }))
    let s := cores.foldl (fun s n => (s.tick (page 7 n) Fld.CORE_ME_ACTIVE_CYCLES).tick (page 7 n) Fld.CORE_SP_CONFLICT_CYCLES) s
    match r.bad with
    | some k => s.stopBad c k r.good
    | none => s.endCmd c.ring c.seq r.code r.good

/-- Read the table heads not yet read, each once; at one under edit the command gives up its epoch and waits (R208, R238). -/
def State.attnHeads (s : State) (c : InFlight) (list : Nat) (heads : List Nat) : Nat → State
  | 0 => s.attnRun c list heads
  | n + 1 =>
    let ad := attnDesc c.ext
    let e := seqEntry (leBytes (32 * ad.count) list) heads.length
    if e.head % 32 ≠ 0 then s.endCmd c.ring c.seq 0x0108 0
    else if s.rangeCode c.part e.head 32 ≠ 0 then s.endCmd c.ring c.seq (s.rangeCode c.part e.head 32) 0
    else match s.rdDev (some c.part) e.head 32 with
      | .error x => s.stopCmd c x 0 e.head 32
      | .ok b =>
        if bitsAt b 24 0 0 = 1 then s.modCmd c.ring c.seq (fun x => { x with epoch := none, prog := list :: heads })
        else s.attnHeads c list (heads ++ [leNat b]) n

/-- An attention command starts: it records its epoch and reads its list (R208, R233). -/
def State.attnStart (s : State) (c : InFlight) : State :=
  let ad := attnDesc c.ext
  let s := s.modCmd c.ring c.seq (fun x => { x with epoch := some (s.epochCur c.part) })
  match s.rdDev (some c.part) ad.list (32 * ad.count) with
  | .error e => s.stopCmd c e 0 ad.list (32 * ad.count)
  | .ok b => s.attnHeads c (leNat b) [] ad.count

/-- ATTN_FWD (R206). -/
def attnFwdCmd (s : State) (r q : Nat) : State := s.contCmd 0x35 r q State.attnStart (fun s _ => s)
/-- ATTN_BWD (R206). -/
def attnBwdCmd (s : State) (r q : Nat) : State := s.contCmd 0x36 r q State.attnStart (fun s _ => s)

/-- HEAD_EDIT_RETRY (R238): the command that waits on a head under edit records a fresh epoch and reads the head again. -/
def headEditRetry (s : State) (r q : Nat) : State :=
  match s.cmdAt? r q with
  | none => s
  | some c =>
    if (c.cmd.op = 0x35 ∨ c.cmd.op = 0x36) ∧ c.phase = .started ∧ c.epoch = none ∧ c.saved = false ∧ s.draining c = false ∧
        s.partAsleep c.part = false then
      let s := s.modCmd r q (fun x => { x with epoch := some (s.epochCur c.part) })
      match c.prog with
      | list :: heads => s.attnHeads c list heads ((attnDesc c.ext).count - heads.length)
      | [] => s
    else s

/-- ATTN_FWD (R214). -/
def execAttnFwd (ring seq : Nat) (s : State) : Host.Outcome State Fault Refusal := State.done (attnFwdCmd s ring seq)
/-- ATTN_BWD (R217). -/
def execAttnBwd (ring seq : Nat) (s : State) : Host.Outcome State Fault Refusal := State.done (attnBwdCmd s ring seq)
/-- HEAD_EDIT_RETRY (R238). -/
def execHeadEditRetry (ring seq : Nat) (s : State) : Host.Outcome State Fault Refusal := State.done (headEditRetry s ring seq)

end Sys2Proof.Machine
end

