-- ==== Sys2Proof/Machine/Conv.lean ====
section
/-!
DEFINITION. CONV (08): convolution forward and backward, and pooling, through the window walker.  The drain is that of a GEMM.
-/
namespace Sys2Proof.Machine

open Sys2Proof

/-! ### The descriptor (Table 8.1) -/

/-- A CONV descriptor; triples are T, H, W. -/
structure ConvDesc where
  img : List Nat
  batch : Nat
  cin : Nat
  cout : Nat
  groups : Nat
  ker : List Nat
  str : List Nat
  dil : List Nat
  padMode : Nat
  s2d : Nat
  d2s : Nat
  freq : Bool
  pool : Nat
  countPad : Bool
  lo : List Nat
  hi : List Nat
  xo : List Nat
  xe : List Nat
  yo : List Nat
  ye : List Nat
  rsvd : Bool
  deriving DecidableEq, Repr

/-- Three 16-bit fields of a word. -/
def triple (b : List Byte) (o : Nat) : List Nat := [leAt b o 2, leAt b (o + 2) 2, leAt b (o + 4) 2]

/-- Three 8-bit fields. -/
def triple8 (b : List Byte) (o : Nat) : List Nat := [leAt b o 1, leAt b (o + 1) 1, leAt b (o + 2) 1]

/-- The descriptor of a CONV. -/
def convDesc (b : List Byte) : ConvDesc :=
  { img := triple b 64, batch := leAt b 70 2, cin := leAt b 72 2, cout := leAt b 74 2, groups := leAt b 76 2,
    ker := triple8 b 80, str := triple8 b 83, dil := triple8 b 86, padMode := bitsAt b 88 10 8,
    s2d := 2 ^ bitsAt b 88 12 11, d2s := 2 ^ bitsAt b 88 14 13, freq := bitsAt b 88 15 15 == 1, pool := bitsAt b 88 17 16,
    countPad := bitsAt b 88 18 18 == 1,
    lo := [leAt b 96 2, leAt b 100 2, leAt b 104 2], hi := [leAt b 98 2, leAt b 102 2, leAt b 106 2],
    xo := triple b 112, xe := triple b 120, yo := triple b 128, ye := triple b 136,
    rsvd := leAt b 78 2 != 0 || bitsAt b 88 63 19 != 0 || leAt b 108 4 != 0 || leAt b 118 2 != 0 || leAt b 126 2 != 0 ||
      leAt b 134 2 != 0 || leAt b 142 2 != 0 || leAt b 224 32 != 0 }

/-- The views, drain fields and random block of a CONV read as those of a GEMM whose A, B, C and D are X, W, C and Y (R187). -/
def convDrain (b : List Byte) : GemmDesc :=
  gemmDesc (b.take 64 ++ List.replicate 12 0 ++ (b.drop 144).take 64 ++ List.replicate 4 0 ++ (b.drop 208).take 16 ++ List.replicate 32 0)

/-- The component of a triple. -/
def at3 (l : List Nat) (i : Nat) : Nat := l.getD i 0

/-- Taps of the kernel. -/
def ConvDesc.taps (d : ConvDesc) : Nat := d.ker.foldl (· * ·) 1
/-- Input channels of a group (R191). -/
def ConvDesc.cg (d : ConvDesc) : Nat := d.cin / d.groups
/-- Output channels of a group. -/
def ConvDesc.ng (d : ConvDesc) : Nat := d.cout / d.groups

/-- The full output extent of a dimension (R188). -/
def ConvDesc.outExt (d : ConvDesc) (i : Nat) : Int :=
  ((at3 d.img i : Int) + (at3 d.lo i : Int) + (at3 d.hi i : Int) - (at3 d.dil i : Int) * ((at3 d.ker i : Int) - 1) - 1) / (at3 d.str i : Int) + 1

/-- The source of a padded coordinate in a dimension; none is the pad value (R189). -/
def padSrc (q : Int) (n mode : Nat) : Option Nat :=
  if 0 ≤ q ∧ q < (n : Int) then some q.toNat
  else match mode with
    | 0 => none
    | 1 => some (if q < 0 then 0 else n - 1)
    | 2 => some (if q < 0 then (-q).toNat else (2 * ((n : Int) - 1) - q).toNat)
    | _ => some ((q + n) % n).toNat

/-- The taps' coordinates in τ order (R191). -/
def ConvDesc.tap (d : ConvDesc) (t : Nat) : List Nat :=
  [t / (at3 d.ker 1 * at3 d.ker 2), t / at3 d.ker 2 % at3 d.ker 1, t % at3 d.ker 2]

/-- All of a list's options. -/
def allSome {α : Type} : List (Option α) → Option (List α)
  | [] => some []
  | none :: _ => none
  | some a :: r => (allSome r).map (fun l => a :: l)

/-- The image position that output position `o` reads for a tap; none is the pad value (R189). -/
def ConvDesc.source (d : ConvDesc) (o : List Nat) (t : Nat) : Option (List Nat) :=
  allSome ((List.range 3).map (fun i =>
    padSrc ((at3 o i : Int) * (at3 d.str i : Int) - (at3 d.lo i : Int) + (at3 (d.tap t) i : Int) * (at3 d.dil i : Int)) (at3 d.img i) d.padMode))

/-- The output position that reads input position `x` at a tap; none when no output inside the full output does (R198). -/
def ConvDesc.reader (d : ConvDesc) (x : List Nat) (t : Nat) : Option (List Nat) :=
  allSome ((List.range 3).map (fun i =>
    let y : Int := (at3 x i : Int) + (at3 d.lo i : Int) - (at3 (d.tap t) i : Int) * (at3 d.dil i : Int)
    if 0 ≤ y ∧ y % (at3 d.str i : Int) = 0 ∧ y / (at3 d.str i : Int) < d.outExt i then some (y / (at3 d.str i : Int)).toNat else none))

/-- The position of number `p` in a box: image of the batch, and absolute coordinates (R190). -/
def boxPos (org ext : List Nat) (p : Nat) : Nat × List Nat :=
  let (h, w) := (at3 ext 1, at3 ext 2)
  (p / w / h / at3 ext 0, [at3 org 0 + p / w / h % at3 ext 0, at3 org 1 + p / w % h, at3 org 2 + p % w])

/-- Row and column of channel `ch` at an absolute position of a stored box, under a regrouping of factor `r` of `chans` channels
(R190, R197). -/
def boxElem (org ext : List Nat) (r chans b : Nat) (x : List Nat) (ch : Nat) : Nat × Nat :=
  let cs := chans / (r * r)
  let g := ch / cs
  let (t, y, z) := (at3 x 0 - at3 org 0, at3 x 1 - at3 org 1, at3 x 2 - at3 org 2)
  (((b * at3 ext 0 + t) * (r * at3 ext 1) + (y * r + g / r)) * (r * at3 ext 2) + (z * r + g % r), ch % cs)

/-- The box position number and channel of a stored row and column: the way back of `boxElem`. -/
def boxUnplace (ext : List Nat) (r chans row col : Nat) : Nat × Nat :=
  let cs := chans / (r * r)
  let (rh, rw) := (r * at3 ext 1, r * at3 ext 2)
  let (z, y, bt) := (row % rw, row / rw % rh, row / rw / rh)
  ((bt * at3 ext 1 + y / r) * at3 ext 2 + z / r, (y % r * r + z % r) * cs + col)

/-- Positions of a box over the batch. -/
def ConvDesc.positions (d : ConvDesc) (ext : List Nat) : Nat := d.batch * (at3 ext 0 * at3 ext 1 * at3 ext 2)

/-- Channels of the operand in X_VIEW, and of the output in Y_VIEW (Table 8.2). -/
def ConvDesc.xChans (d : ConvDesc) (sub : Nat) : Nat := if sub = 1 then d.cout else d.cin
def ConvDesc.yChans (d : ConvDesc) (sub : Nat) : Nat := if sub = 1 ∨ sub = 4 then d.cin else d.cout

/-- M, N and K of a SUBOP on the matrix engines (R190, R191, R198, R199). -/
def ConvDesc.dims (d : ConvDesc) (sub : Nat) : Nat × Nat × Nat :=
  match sub with
  | 1 => (d.positions d.ye, d.cin, d.taps * d.ng)
  | 2 => (d.taps * d.cg, d.cout, d.positions d.ye)
  | _ => (d.positions d.ye, d.cout, d.taps * d.cg)

/-- The drain of a CONV with its M, N and K. -/
def convGemm (b : List Byte) (sub : Nat) : GemmDesc :=
  let (m, n, k) := (convDesc b).dims sub
  { convDrain b with m := m, n := n, k := k }

/-! ### The home check (R186 to R200) -/

/-- The coordinates a Y box reads in dimension `i`: a position is read when each of its coordinates is (R189, R198). -/
def ConvDesc.coordsRead (d : ConvDesc) (sub i : Nat) : List Nat :=
  (List.range (at3 d.ye i)).flatMap (fun o => (List.range (at3 d.ker i)).filterMap (fun (j : Nat) =>
    let at_ : Int := (at3 d.yo i + o : Nat)
    if sub = 1 then
      let y : Int := at_ + (at3 d.lo i : Int) - (j : Int) * (at3 d.dil i : Int)
      if 0 ≤ y ∧ y % (at3 d.str i : Int) = 0 ∧ y / (at3 d.str i : Int) < d.outExt i then some (y / (at3 d.str i : Int)).toNat else none
    else (padSrc (at_ * (at3 d.str i : Int) - (at3 d.lo i : Int) + (j : Int) * (at3 d.dil i : Int)) (at3 d.img i) d.padMode)))

/-- The X box lies within its extents and holds every position the Y box reads (R194); where a dimension has no coordinate inside the
image, no position is read. -/
def ConvDesc.xBoxOk (d : ConvDesc) (sub : Nat) : Bool :=
  (List.range 3).all (fun i =>
    let full : Int := if sub = 1 then d.outExt i else at3 d.img i
    decide (((at3 d.xo i + at3 d.xe i : Nat) : Int) ≤ full)) &&
  ((List.range 3).any (fun i => (d.coordsRead sub i).isEmpty) || (List.range 3).all (fun i =>
    (d.coordsRead sub i).all (fun x => decide (at3 d.xo i ≤ x) && decide (x < at3 d.xo i + at3 d.xe i))))

/-- The Y box lies within the full output, for BWD_DATA the image (R194). -/
def ConvDesc.yBoxOk (d : ConvDesc) (sub : Nat) : Bool :=
  (List.range 3).all (fun i =>
    let full : Int := if sub = 1 then at3 d.img i else d.outExt i
    decide (((at3 d.yo i + at3 d.ye i : Nat) : Int) ≤ full))

/-- The conditions of the frequency-domain path (R200). -/
def ConvDesc.freqOk (d : ConvDesc) (sub : Nat) (g : GemmDesc) : Bool :=
  decide (sub < 2) && d.groups == 1 && d.str == [1, 1, 1] && d.dil == [1, 1, 1] && at3 d.ker 0 == 1 &&
    [1, 2].all (fun i => decide (11 ≤ at3 d.ker i) && decide (at3 d.ker i ≤ 48)) && d.s2d == 1 && d.d2s == 1 &&
    decide (g.a.fmt ≤ 2) && decide (g.b.fmt ≤ 2)

/-- Codes of the geometry (R188 to R191, R197). -/
def ConvDesc.geomCodes (d : ConvDesc) (sub : Nat) : List (Bool × Nat) :=
  [(d.img.contains 0 || d.batch == 0 || d.cin == 0 || d.cout == 0 || d.ker.contains 0 || d.str.contains 0 || d.dil.contains 0, 0x0605),
   (d.groups == 0 || d.cin % d.groups != 0 || d.cout % d.groups != 0, 0x0606),
   ((List.range 3).any (fun i => decide (d.outExt i ≤ 0)), 0x0601),
   (d.padMode == 2 && (List.range 3).any (fun i => decide (at3 d.img i ≤ at3 d.lo i) || decide (at3 d.img i ≤ at3 d.hi i)), 0x0602),
   (d.padMode == 3 && (List.range 3).any (fun i => decide (at3 d.img i < at3 d.lo i) || decide (at3 d.img i < at3 d.hi i)), 0x0603),
   (sub == 1 && d.padMode != 0, 0x0610),
   ((sub == 2 || sub == 4) && (d.s2d != 1 || d.d2s != 1), 0x0609),
   (d.xChans sub % (d.s2d * d.s2d) != 0 || d.yChans sub % (d.d2s * d.d2s) != 0, 0x0609),
   (!d.yBoxOk sub, 0x0608), (!d.xBoxOk sub, 0x0607)]

/-- A view of a stored box with `chans` channels under a regrouping of factor `r`: its check. -/
def ConvDesc.boxCheck (d : ConvDesc) (v : View) (ext : List Nat) (r chans : Nat) : Code :=
  v.check (d.positions ext * (r * r)) (chans / (r * r)) 0x0505

/-- The footprint of a stored box. -/
def ConvDesc.boxFoot (d : ConvDesc) (v : View) (ext : List Nat) (r chans : Nat) : Foot :=
  v.foot (d.positions ext * (r * r)) (chans / (r * r))

/-- Role dimensions of W_VIEW (Table 8.2). -/
def ConvDesc.wDims (d : ConvDesc) (sub : Nat) : Nat × Nat :=
  match sub with
  | 0 => (d.taps * d.cg, d.cout)
  | 1 => (d.cout, d.taps * d.cg)
  | _ => (d.positions d.ye, d.cout)

/-- The drain fields that a pooling leaves unused are not all 0 (R187). -/
def poolDrainSet (b : List Byte) : Bool :=
  leAt b 148 60 != 0 || (leAt b 144 4 &&& (0xFFFFFFFF - 0xC00)) != 0

/-- The home check of a CONV on the matrix engines (SUBOP 0 to 2). -/
def State.convCheck (s : State) (c : InFlight) (d : ConvDesc) (g : GemmDesc) : Code :=
  let sub := c.cmd.sub
  let core := (s.cmdCore? c).getD 0
  let yFoot := if sub = 2 then g.d.foot g.m g.n else d.boxFoot g.d d.ye d.d2s (d.yChans sub)
  let (wr, wc) := d.wDims sub
  let early := firstCode ([(d.pool != 0 || d.countPad, 0x060C)] ++ g.ctrlCodes ++
    [(g.ct 1 0 != 1 || g.variant || g.rstat != 0, 0x060F), (true, s.coreCode c), ((s.meEngines core (g.ct 9 6)).isEmpty, 0x0504)] ++
    d.geomCodes sub ++
    [(g.a.trans || g.a.pair || (sub == 1 && !g.b.trans), 0x060D), (d.freq && !d.freqOk sub g, 0x060A),
     (d.cg == 1 && (g.a.fmt == 9 || g.b.fmt == 9 || g.split != 0), 0x060E), (true, g.formatCode)])
  if early ≠ 0 then early
  else firstCode ([
    (true, d.boxCheck g.a d.xe d.s2d (d.xChans sub)), (true, g.b.check wr wc 0x0505), (g.useC, g.c.check g.m g.n 0x0505),
    (true, if sub = 2 then g.d.check g.m g.n 0x0505 else d.boxCheck g.d d.ye d.d2s (d.yChans sub)), (true, g.vecCode),
    (g.badClip, 0x050A)] ++ s.drainCodes c g ++
    [(yFoot.meets (d.boxFoot g.a d.xe d.s2d (d.xChans sub)) || yFoot.meets (g.b.foot wr wc) ||
      yFoot.meets ⟨[], g.vectors.map (fun v => (v.1, v.2.1))⟩ || (g.useC && g.c != g.d && yFoot.meets (g.c.foot g.m g.n)), 0x0506)])

/-- The home check of a pooling (SUBOP 3 and 4). -/
def State.poolCheck (s : State) (c : InFlight) (d : ConvDesc) (b : List Byte) (g : GemmDesc) : Code :=
  let sub := c.cmd.sub
  let outExt := if sub = 4 then d.xe else d.ye
  let yFoot := d.boxFoot g.d outExt d.d2s d.cin
  let early := firstCode ([(d.pool == 3, 0x060C), (poolDrainSet b, 0x060F),
    (leAt b 16 16 != 0 || (sub == 3 && leAt b 32 16 != 0), 0x0101), (g.round == 3, 0x0403), (true, s.coreCode c)] ++
    d.geomCodes sub ++
    [(g.a.trans || g.a.pair || d.cin != d.cout, 0x060D), (d.freq, 0x060A),
     (16 ≤ g.a.fmt || 16 ≤ g.d.fmt || (sub == 4 && 16 ≤ g.c.fmt), 0x0401),
     (10 < g.a.fmt || 10 < g.d.fmt || (sub == 4 && 10 < g.c.fmt), 0x0402)])
  if early ≠ 0 then early
  else firstCode [
    (true, d.boxCheck g.a d.xe d.s2d d.cin), (sub == 4, d.boxCheck g.c d.ye 1 d.cin), (true, d.boxCheck g.d outExt d.d2s d.cin),
    (g.round == 2 && decide (2 ^ 31 ≤ g.rand.stream), 0x0404),
    (yFoot.meets (d.boxFoot g.a d.xe d.s2d d.cin) || (sub == 4 && yFoot.meets (d.boxFoot g.c d.ye 1 d.cin)), 0x0506)]

/-- The home check of a CONV. -/
def State.convHome (s : State) (c : InFlight) : Code :=
  let d := convDesc c.ext
  let g := convGemm c.ext c.cmd.sub
  let head := firstCode [
    (decide (4 < c.cmd.sub), 0x060B),
    (c.cmd.opFlags != 0 || decide (8 ≤ c.cmd.arg) || d.rsvd || g.rsvd || g.a.rsvd || g.b.rsvd || g.c.rsvd || g.d.rsvd || g.en 15 ||
      g.ct 31 26 != 0, 0x0101),
    (decide (4 ≤ d.padMode), 0x0604)]
  if head ≠ 0 then head
  else if c.cmd.sub < 3 then s.convCheck c d g else s.poolCheck c d c.ext g

/-! ### The matrix engines (R190 to R201) -/

/-- Term k of output element (m, n): the elements of X_VIEW and W_VIEW whose product it is; none is an exact zero product
(R189, R191, R198, R199). -/
def ConvDesc.term (d : ConvDesc) (sub m n k : Nat) : Option ((Nat × Nat) × (Nat × Nat)) :=
  let x (b : Nat) (p : List Nat) (ch : Nat) := boxElem d.xo d.xe d.s2d (d.xChans sub) b p ch
  match sub with
  | 1 =>
    let (b, p) := boxPos d.yo d.ye m
    let dch := n / d.cg * d.ng + k % d.ng
    (d.reader p (k / d.ng)).map (fun o => (x b o dch, (dch, k / d.ng * d.cg + n % d.cg)))
  | 2 =>
    let (b, o) := boxPos d.yo d.ye k
    (d.source o (m / d.cg)).map (fun q => (x b q (n / d.ng * d.cg + m % d.cg), (k, n)))
  | _ =>
    let (b, o) := boxPos d.yo d.ye m
    (d.source o (k / d.cg)).map (fun q => (x b q (n / d.ng * d.cg + k % d.cg), (k, n)))

/-- The factors of element (m, n), a pad value or an absent product as a pair of zeros. -/
def State.convPasses (s : State) (core : Nat) (d : ConvDesc) (g : GemmDesc) (sub m n : Nat) : List (List (Val × Val)) × Nat :=
  let fs := (List.range g.k).map (fun k => match d.term sub m n k with
    | some (x, w) => (s.viewExact core g.a x.1 x.2, s.viewExact core g.b w.1 w.2)
    | none => ((Val.zero, 0), (Val.zero, 0)))
  splitPasses g.split (fs.map (fun f => f.1)) (fs.map (fun f => f.2))

/-- The accumulator of element (m, n).  A pad value of a forward pass or of a weight gradient is an exact zero product, a term of its
chunk (R189); a term of BWD_DATA with no output is absent: its chunk sums the others, a chunk of none adds nothing, and an element
that no output reaches keeps its start (R198). -/
def ConvDesc.sum (d : ConvDesc) (g : GemmDesc) (sub m n : Nat) (passes : List (List (Val × Val))) (start : Val) : FVal :=
  if sub ≠ 1 then gemmSum g passes start
  else
    let there := (List.range g.k).map (fun k => (d.term sub m n k).isSome)
    if there.all (fun t => !t) then (start, 0)
    else kParts g (fun first cnt st => (List.range cnt).foldl (fun a i =>
      let at_ := 64 * (first + i)
      passes.foldl (fun a p =>
        let ts := ((((p.drop at_).take 64).zip (there.drop at_)).filter (fun x => x.2)).map (fun x => x.1)
        if ts.isEmpty then a else accAdd a ts) a) (st, 0)) start

/-- The exact sum of products, none unless every factor is finite: the exact result c* of R201. -/
def exactDot (ts : List (Val × Val)) : Option Val :=
  let r := ts.foldl (fun a t => (addX a (mulX t.1 t.2).1).1) Val.zero
  if r.isFin then some r else none

/-- 2^k times the square root of a sum of squares of finite values, rounded up. -/
def normUp (k : Nat) (vs : List Val) : Nat :=
  match exactDot (vs.map (fun v => (v, v))) with
  | some (.fin _ m e) => let x := shiftFloor m (e + 2 * (k : Int)) + 1; Nat.sqrt x + 1
  | _ => 0

/-- An output of the frequency-domain path: a free value of the output's window and weights and of its place in its block, within
the bound of R201; where that value lies outside the bound, the exact result rounded (R195, R200, R201).  Of the 64 × 64 block that
feeds the output the bound counts the window's own inputs, so that it is the same for every X box (R195, log 57). -/
def State.freqValue (s : State) (core : Nat) (d : ConvDesc) (g : GemmDesc) (sub m n : Nat) : FVal :=
  let ks := (List.range g.k).filterMap (fun k => (d.term sub m n k).map (fun t =>
    (k % d.xChans sub, s.viewGet core g.a t.1.1 t.1.2, s.viewGet core g.b t.2.1 t.2.2)))
  let fs := ks.map (fun x => x.2)
  let fl := fs.foldl (fun f x => f ||| x.1.2 ||| x.2.2) 0
  let pos := boxPos d.yo d.ye m
  let xs (ch : Nat) : List Val := (ks.filter (fun x => x.1 == ch)).map (fun x => x.2.1.1)
  let ws (ch : Nat) : List Val := (List.range d.taps).map (fun t =>
    (if sub = 0 then s.viewGet core g.b (t * d.cg + ch) n else s.viewGet core g.b ch (t * d.cg + n)).1)
  let y := f32 (Config.fn32 64 (Config.hash (at3 pos.2 1 % (65 - at3 d.ker 1) :: at3 pos.2 2 % (65 - at3 d.ker 2) ::
    fs.flatMap (fun f => [toF32 f.1.1, toF32 f.2.1]))))
  match exactDot (fs.map (fun f => (f.1.1, f.2.1))) with
  | none => (y, fl)
  | some e =>
    let bound : Nat := ((List.range (d.xChans sub)).map (fun ch => normUp 200 (xs ch) * normUp 200 (ws ch))).sum
    let far : Bool := match (addX y e.neg).1 with
      | .fin _ mm ee => decide (bound < shiftFloor mm (ee + 416))
      | _ => true
    if far then ((rne32 e).1, fl) else (y, fl)

/-- The drain of a CONV on the matrix engines: random indices count over the full output (R195). -/
def State.convJob (s : State) (core : Nat) (d : ConvDesc) (g : GemmDesc) (sub : Nat) : DrainJob :=
  let full : List Nat := if sub = 1 then d.img else (List.range 3).map (fun i => (d.outExt i).toNat)
  { dims := if sub = 2 then (g.m, g.n) else (d.positions d.ye * (d.d2s * d.d2s), d.yChans sub / (d.d2s * d.d2s))
    acc := fun m n =>
      let st : FVal := if g.useC then s.viewGet core g.c m n else (.zero, 0)
      if d.freq then
        let y := s.freqValue core d g sub m n
        let x := if g.useC then fadd st.1 y.1 else (y.1, 0)
        (x.1, y.2 ||| st.2 ||| accFlags x.2)
      else
        let p := s.convPasses core d g sub m n
        let a := d.sum g sub m n p.1 st.1
        (a.1, a.2 ||| p.2 ||| st.2)
    touches := fun m0 n0 => (tileLine m0 g.m).flatMap (fun m => (tileLine n0 g.n).flatMap (fun n =>
      (List.range g.k).flatMap (fun k => match d.term sub m n k with
        | some (x, w) => g.a.touches x.1 x.2 ++ g.b.touches w.1 w.2
        | none => [])))
    idx := fun m n =>
      if sub = 2 then m * g.n + n
      else
        let (b, x) := boxPos d.yo d.ye m
        ((((b * at3 full 0 + at3 x 0) * at3 full 1 + at3 x 1) * at3 full 2 + at3 x 2) * d.yChans sub) + n
    place := fun m n =>
      if sub = 2 then (m, n) else let (b, x) := boxPos d.yo d.ye m; boxElem d.yo d.ye d.d2s (d.yChans sub) b x n
    unplace := fun a b => if sub = 2 then (a, b) else boxUnplace d.ye d.d2s (d.yChans sub) a b }

/-! ### Pooling (R202, R203) -/

/-- The window of an output position for a channel: the image positions in τ order, none for a counted pad position. -/
def ConvDesc.window (d : ConvDesc) (o : List Nat) : List (Option (List Nat)) :=
  (List.range d.taps).filterMap (fun t => match d.source o t with
    | some q => some (some q)
    | none => if d.pool = 1 ∧ d.countPad then some none else none)

/-- A pooled value over the counted values of a window (R202); the window is not empty. -/
def poolValue (pool : Nat) (xs : List Val) : FVal :=
  match pool with
  | 0 => match xs with
    | [] => (.zero, 0)
    | x :: r => r.foldl (fun a y => let m := vmax a.1 y; (m.1, a.2 ||| m.2)) (x, if x.isNan then fNAN else 0)
  | 1 =>
    let a := xs.foldl (fun a y => let x := fadd a.1 y; (x.1, a.2 ||| x.2)) (Val.zero, 0)
    let q := fdiv a.1 (Val.ofInt xs.length 0)
    (q.1, a.2 ||| q.2)
  | _ =>
    let a := xs.foldl (fun a y => let x := ffma y y a.1; (x.1, a.2 ||| x.2)) (Val.zero, 0)
    let q := fsqrt a.1
    (q.1, a.2 ||| q.2)

/-- The values of a window, with their input flags. -/
def State.windowVals (s : State) (core : Nat) (d : ConvDesc) (g : GemmDesc) (b : Nat) (w : List (Option (List Nat))) (ch : Nat) : List FVal :=
  w.map (fun q => match q with
    | some x => let e := boxElem d.xo d.xe d.s2d d.cin b x ch; s.viewGet core g.a e.1 e.2
    | none => (.zero, 0))

/-- Scratchpad offsets a window reads. -/
def ConvDesc.windowTouches (d : ConvDesc) (g : GemmDesc) (b : Nat) (o : List Nat) (ch : Nat) : List Nat :=
  (d.window o).flatMap (fun q => match q with
    | some x => let e := boxElem d.xo d.xe d.s2d d.cin b x ch; g.a.touches e.1 e.2
    | none => [])

/-- POOL_FWD (R202, R204): outputs in logical order, in groups of 256 up to the first that meets uncorrectable data. -/
def State.poolFwd (s : State) (c : InFlight) (core : Nat) (d : ConvDesc) (g : GemmDesc) : State :=
  let n := d.positions d.ye * d.cin
  let badAt := (List.range n).findSome? (fun e =>
    let (b, o) := boxPos d.yo d.ye (e / d.cin)
    (s.badSp? core (d.windowTouches g b o (e % d.cin))).map (fun k => (e, k)))
  let done := match badAt with | some (e, _) => e / 256 * 256 | none => n
  let rs := (List.range done).map (fun e =>
    let (b, o) := boxPos d.yo d.ye (e / d.cin)
    let xs := s.windowVals core d g b (d.window o) (e % d.cin)
    let y := if xs.isEmpty then (Val.zero, 0) else poolValue d.pool (xs.map (fun x => x.1))
    (y.1, xs.foldl (fun f x => f ||| x.2) y.2, xs.isEmpty))
  let full := (List.range 3).map (fun i => (d.outExt i).toNat)
  let idx (row col : Nat) : Nat :=
    let (m, ch) := boxUnplace d.ye d.d2s d.cin row col
    let (b, x) := boxPos d.yo d.ye m
    ((((b * at3 full 0 + at3 x 0) * at3 full 1 + at3 x 1) * at3 full 2 + at3 x 2) * d.cout) + ch
  let cells := (List.range done).map (fun e =>
    let (b, o) := boxPos d.yo d.ye (e / d.cin)
    let p := boxElem d.yo d.ye d.d2s d.cin b o (e % d.cin)
    (p.1, p.2, (rs.getD e (.zero, 0, false)).1))
  let w := (s.correctSp c core ((List.range done).flatMap (fun e =>
      let (b, o) := boxPos d.yo d.ye (e / d.cin)
      d.windowTouches g b o (e % d.cin)))).putCells core g.d
    (d.positions d.ye * (d.d2s * d.d2s), d.cin / (d.d2s * d.d2s)) g.round g.rand .one idx cells
  let s := w.1.modCmd c.ring c.seq (fun x => { x with info := x.info ||| (if rs.any (fun r => r.2.2) then 2 ^ 17 else 0) })
  s.vecEnd c core (rs.foldl (fun f r => f ||| r.2.1) w.2) (storedBytes g.d.fmt done) (badAt.map (fun x => x.2))

/-- The shares that one element of dy sends: image position and share (R203). -/
def poolShares (pool : Nat) (w : List (Option (List Nat))) (xs : List Val) (dy : Val) : List (Option (List Nat) × FVal) :=
  match pool with
  | 0 =>
    let m := (poolValue 0 xs).1
    let at_ := (List.range xs.length).find? (fun i => let x := xs.getD i .zero; if m.isNan then x.isNan else x.eqv m && (x.isNeg == m.isNeg || !m.isZero))
    match at_ with | some i => [(w.getD i none, (dy, 0))] | none => []
  | 1 => w.map (fun q => (q, fdiv dy (Val.ofInt xs.length 0)))
  | _ =>
    let y := (poolValue 2 xs).1
    (List.range w.length).map (fun i => (w.getD i none,
      if y.isZero then (.zero, 0) else let p := fmul dy (xs.getD i .zero); let q := fdiv p.1 y; (q.1, p.2 ||| q.2)))

/-- POOL_BWD (R203, R204): dx over the X box, converted once at the end. -/
def State.poolBwd (s : State) (c : InFlight) (core : Nat) (d : ConvDesc) (g : GemmDesc) : State :=
  let ny := d.positions d.ye
  let bad := (List.range (ny * d.cin)).findSome? (fun e =>
    let (b, o) := boxPos d.yo d.ye (e / d.cin)
    let p := boxElem d.yo d.ye 1 d.cin b o (e % d.cin)
    s.badSp? core (d.windowTouches g b o (e % d.cin) ++ g.c.touches p.1 p.2))
  match bad with
  | some k => s.vecEnd c core 0 0 (some k)
  | none =>
    let sends : List (Nat × Nat × List (Option (List Nat) × FVal) × Nat) := (List.range (ny * d.cin)).map (fun e =>
      let (b, o) := boxPos d.yo d.ye (e / d.cin)
      let p := boxElem d.yo d.ye 1 d.cin b o (e % d.cin)
      let dy := s.viewGet core g.c p.1 p.2
      let w := d.window o
      let xs := s.windowVals core d g b w (e % d.cin)
      let sh := poolShares d.pool w (xs.map (fun x => x.1)) dy.1
      (b, e % d.cin, sh, xs.foldl (fun f x => f ||| x.2) dy.2 ||| sh.foldl (fun f x => f ||| x.2.2) 0))
    let fl := sends.foldl (fun f x => f ||| x.2.2.2) 0
    let sums : List (Nat × Nat × Val × Nat) := (List.range (d.positions d.xe * d.cin)).map (fun e =>
      let (b, x) := boxPos d.xo d.xe (e / d.cin)
      let a : FVal := sends.foldl (fun (a : FVal) t =>
        if t.1 == b && t.2.1 == e % d.cin then
          t.2.2.1.foldl (fun (a : FVal) q => if q.1 == some x then let y := fadd a.1 q.2.1; (y.1, a.2 ||| y.2) else a) a
        else a) (Val.zero, 0)
      let p := boxElem d.xo d.xe 1 d.cin b x (e % d.cin)
      (p.1, p.2, a.1, a.2))
    let idx (row col : Nat) : Nat :=
      let (b, x) := boxPos d.xo d.xe row
      ((((b * at3 d.img 0 + at3 x 0) * at3 d.img 1 + at3 x 1) * at3 d.img 2 + at3 x 2) * d.cin) + col
    let s := s.correctSp c core ((List.range (ny * d.cin)).flatMap (fun e =>
      let (b, o) := boxPos d.yo d.ye (e / d.cin)
      let p := boxElem d.yo d.ye 1 d.cin b o (e % d.cin)
      d.windowTouches g b o (e % d.cin) ++ g.c.touches p.1 p.2))
    let w := s.putCells core g.d (d.positions d.xe, d.cin) g.round g.rand .one idx (sums.map (fun x => (x.1, x.2.1, x.2.2.1)))
    let empty := (List.range ny).any (fun m => (d.window (boxPos d.yo d.ye m).2).isEmpty)
    let s := w.1.modCmd c.ring c.seq (fun x => { x with info := x.info ||| (if empty then 2 ^ 17 else 0) })
    s.vecEnd c core (sums.foldl (fun f x => f ||| x.2.2.2) (fl ||| w.2)) (storedBytes g.d.fmt sums.length) none

/-- CONV (R186): the scale record is read first, then the walker runs. -/
def convCmd (s : State) (r q : Nat) : State :=
  s.runCmd 0x34 r q (fun s c =>
    let d := convDesc c.ext
    let g := convGemm c.ext c.cmd.sub
    match s.cmdCore? c with
    | none => s.endCmd r q 0x0103 0
    | some core =>
      if c.cmd.sub = 3 then s.poolFwd c core d g
      else if c.cmd.sub = 4 then s.poolBwd c core d g
      else match s.scaleOf c.part g.scaleSrc g.conv g.rec_ with
        | .error e => s.stopCmd c e 0 g.rec_ 16
        | .ok scale => s.drainAll c core g scale (s.convJob core d g c.cmd.sub))

/-- CONV (R186). -/
def execConvolve (ring seq : Nat) (s : State) : Host.Outcome State Fault Refusal := State.done (convCmd s ring seq)

end Sys2Proof.Machine
end

