-- ==== Sys2Proof/Machine/Evacuate.lean ====
section
/-!
DEFINITION. EVACUATE: copying the readable part of a set range (R320).
-/
namespace Sys2Proof.Machine

open Sys2Proof

/-- Bytes of the source unit of a set: a frame, or a pair in the package set. -/
def setUnitBytes (t : Nat) : Nat := if t = 64 then 2 ^ 22 else 2 ^ 21

/-- The home check of EVACUATE (R320). -/
def State.evacCheck (s : State) (c : InFlight) : Code :=
  let src := leAt c.ext 0 8
  let dst := leAt c.ext 8 8
  let n := leAt c.ext 16 8
  let map := leAt c.ext 24 8
  let mapLen := ceilDiv (n / 64) 8
  if c.cmd.sub ≠ 0 ∨ c.cmd.arg ≠ 0 ∨ c.cmd.opFlags ≠ 0 then 0x0101
  else if (c.ext.drop 32).any (fun b => b != 0) then 0x0101
  else match s.setOf? src with
    | none => 0x0A06
    | some t =>
      if s.setPart? t ≠ some c.part then 0x0A06
      else if src % setUnitBytes t ≠ 0 ∨ dst % 64 ≠ 0 ∨ map % 8 ≠ 0 then 0x0108
      else if n = 0 ∨ n % setUnitBytes t ≠ 0 then 0x0102
      else if setBase t + s.setFrames t * 2 ^ 21 < src + n then 0x0A01
      else if s.rangeCode c.part dst n ≠ 0 then s.rangeCode c.part dst n
      else if s.rangeCode c.part map mapLen ≠ 0 then s.rangeCode c.part map mapLen
      else if rangesMeet (src, n) (dst, n) || rangesMeet (src, n) (map, mapLen) then 0x0A06
      else match s.setOf? dst with
        | some u => if s.setHasOut u then 0x0A06 else 0
        | none => 0

/-- The first byte of a 64-byte source span whose channel is out, with its channel and channel-local address (R320); below a 64-byte
granule a span lies in several channels. -/
def State.spanOut? (s : State) (a : Nat) : Option (Nat × Nat) :=
  (List.range 64).findSome? (fun i => ((s.setOf? (a + i)).bind (fun t => s.place? t (a + i - setBase t))).bind
    (fun q => if s.mcState q.1 = 3 then some q else none))

/-- A span lost to an out channel or to uncorrectable data: its error record, and for the latter what R311 counts; none when it is
readable (R320). -/
def State.spanLost? (s : State) (c : InFlight) (a : Nat) : Option State :=
  match s.spanOut? a with
  | some (ch, l) => some (s.recordError {
      source := srcOf (mcPage ch), cls := 1, code := 0x0A02, part := some c.part, ctx := some c.ctx, d0 := l,
      cmd := some (c.ring, c.cmd.tag) })
  | none => if s.badIn a 64 then some (s.recordBad a 64 (some c.part) (some c)) else none

/-- Copy the spans of EVACUATE, from span `i`, `n` of them: the state, the map bits of the spans done and the code that stopped it. -/
def State.evacSpans (s : State) (c : InFlight) (src dst i : Nat) : Nat → State × List Bool × Code
  | 0 => (s, [], 0)
  | n + 1 =>
    let a := src + 64 * i
    match s.spanLost? c a with
    | some s =>
      let r := s.evacSpans c src dst (i + 1) n
      (r.1, true :: r.2.1, r.2.2)
    | none => match s.rdDev (some c.part) a 64 with
      | .error e => (s, [], e)
      | .ok b =>
        let w := s.wrDev (some c.part) (dst + 64 * i) b
        if w.2.2 ≠ 0 then (w.1, [], w.2.2)
        else
          let r := w.1.evacSpans c src dst (i + 1) n
          (r.1, false :: r.2.1, r.2.2)

/-- A list of bits as bytes, bit i in byte i / 8. -/
def bitBytes (bs : List Bool) : List Byte :=
  (List.range (ceilDiv bs.length 8)).map (fun i => BitVec.ofNat 8 (maskOf 8 (fun j => bs.getD (8 * i + j) false)))

/-- EVACUATE (R320). -/
def evacuateCmd (s : State) (r q : Nat) : State :=
  s.runCmd 0x2C r q (fun s c =>
    let src := leAt c.ext 0 8
    let (t, bits, code) := s.evacSpans c src (leAt c.ext 8 8) 0 (leAt c.ext 16 8 / 64)
    let w := t.wrDev (some c.part) (leAt c.ext 24 8) (bitBytes bits)
    let code := if code ≠ 0 then code else w.2.2
    let s := (w.1.modCmd r q (fun f => { f with info := f.info ||| (if bits.any id then 2 ^ 16 else 0) }))
    s.endCmd r q code (64 * bits.length))

/-- EVACUATE (R320). -/
def execEvacuate (ring seq : Nat) (s : State) : Host.Outcome State Fault Refusal := State.done (evacuateCmd s ring seq)

end Sys2Proof.Machine
end

