-- ==== Sys2Proof/Machine/Update.lean ====
section
/-!
DEFINITION. Update Units and the step commit (12, R275 to R302): tables, the check phase, the apply phase, lazy rows, statistics and
the step counters.
-/
namespace Sys2Proof.Machine

open Sys2Proof

/-! ### Descriptor and tables (Tables 12.1, 12.2, 12.4) -/

/-- An update descriptor. -/
structure UpdDesc where
  table : Nat
  groups : Nat
  step : Nat
  gate : Nat
  gateSeq : Nat
  stats : Nat
  gateIn : List Nat
  tensors : Nat
  scope : Nat
  adopt : Bool
  gateEn : Nat
  statsJob : Bool
  lr : Val
  b1 : Val
  b2 : Val
  gscale : Nat
  parts : Nat
  gateGroup : Nat
  rand : Rand
  mask : Nat
  rsvd : Bool
  notC : Bool
  notA : Bool
  notS : Bool
  deriving DecidableEq, Repr

/-- The descriptor of an update command. -/
def updDesc (b : List Byte) : UpdDesc :=
  let randSet := leAt b 112 16 != 0
  let gates := leAt b 48 32 != 0 || bitsAt b 84 6 2 != 0
  { table := leAt b 0 8, groups := leAt b 8 8, step := leAt b 16 8, gate := leAt b 24 8, gateSeq := leAt b 32 8,
    stats := leAt b 40 8, gateIn := (List.range 4).map (fun i => leAt b (48 + 8 * i) 8), tensors := bitsAt b 80 12 0,
    scope := bitsAt b 84 1 0, adopt := bitsAt b 84 2 2 == 1, gateEn := bitsAt b 84 6 3, statsJob := bitsAt b 84 7 7 == 1,
    lr := f32 (leAt b 88 4), b1 := f32 (leAt b 92 4), b2 := f32 (leAt b 96 4), gscale := leAt b 100 4, parts := leAt b 104 4,
    gateGroup := leAt b 108 4, rand := randAt b 112, mask := leAt b 128 32,
    rsvd := bitsAt b 80 31 13 != 0 || bitsAt b 84 31 8 != 0 || leAt b 160 32 != 0,
    notC := leAt b 40 8 != 0 || bitsAt b 84 7 7 != 0 || randSet, notA := gates,
    notS := gates || randSet || leAt b 24 16 != 0 || leAt b 88 12 != 0 }

/-- A group entry. -/
structure UpdGroup where
  lrMult : Val
  decay : Val
  b1 : Val
  b2 : Val
  eps : Val
  clip : Val
  ratio : Val
  rule : Nat
  nesterov : Bool
  biascorr : Bool
  own : Bool
  round : Nat
  momRound : Nat
  rsvd : Bool
  deriving DecidableEq, Repr

/-- A group entry from its 64 bytes. -/
def updGroup (b : List Byte) : UpdGroup :=
  { lrMult := f32 (leAt b 0 4), decay := f32 (leAt b 4 4), b1 := f32 (leAt b 8 4), b2 := f32 (leAt b 12 4),
    eps := f32 (leAt b 16 4), clip := f32 (leAt b 20 4), ratio := f32 (leAt b 24 4), rule := bitsAt b 28 1 0,
    nesterov := bitsAt b 28 2 2 == 1, biascorr := bitsAt b 28 3 3 == 1, own := bitsAt b 28 4 4 == 1, round := bitsAt b 28 6 5,
    momRound := bitsAt b 28 8 7, rsvd := bitsAt b 28 31 9 != 0 || leAt b 32 32 != 0 }

/-- A beta lies in [0, 1). -/
def betaOk (v : Val) : Bool := v.isFin && !v.lt .zero && v.lt .one
/-- A value is finite and at least 0. -/
def finNonNeg (v : Val) : Bool := v.isFin && !v.lt .zero

/-- The betas in use for a group (R288). -/
def UpdDesc.betas (d : UpdDesc) (g : UpdGroup) : Val × Val := if g.own then (g.b1, g.b2) else (d.b1, d.b2)

/-- A group entry is invalid (R278). -/
def UpdDesc.badGroup (d : UpdDesc) (g : UpdGroup) : Bool :=
  let b := d.betas g
  g.rsvd || !([g.lrMult, g.decay, g.clip, g.ratio].all finNonNeg) || !betaOk b.1 ||
    ((g.rule == 1 || g.rule == 2) && (!betaOk b.2 || !(Val.zero.lt g.eps))) || g.round == 3 || g.momRound == 3

/-- A tensor entry. -/
structure UpdTensor where
  w : Nat
  tail : Nat
  m1 : Nat
  m1s : Nat
  m2 : Nat
  m2s : Nat
  g : Nat
  copy : Nat
  copys : Nat
  meta_ : Nat
  touch : Nat
  aux0 : Nat
  aux1 : Nat
  aux2 : Nat
  pairs : List (Nat × Nat × Nat)
  elems : Nat
  rows : Nat
  cols : Nat
  touched : Nat
  group : Nat
  tag : Nat
  m1Fmt : Nat
  m2Fmt : Nat
  sparse : Bool
  gFmt : Nat
  copyFmt : Nat
  rowLen : Nat
  rsvd : Bool
  deriving DecidableEq, Repr

/-- A tensor entry from its 192 bytes. -/
def updTensor (b : List Byte) : UpdTensor :=
  { w := leAt b 0 8, tail := leAt b 8 8, m1 := leAt b 16 8, m1s := leAt b 24 8, m2 := leAt b 32 8, m2s := leAt b 40 8,
    g := leAt b 48 8, copy := leAt b 56 8, copys := leAt b 64 8, meta_ := leAt b 72 8, touch := leAt b 80 8,
    aux0 := leAt b 88 8, aux1 := leAt b 96 8, aux2 := leAt b 104 8,
    pairs := [(leAt b 112 8, leAt b 120 8, leAt b 160 4), (leAt b 128 8, leAt b 136 8, leAt b 164 4)],
    elems := bitsAt b 144 39 0, rows := leAt b 152 4, cols := leAt b 156 4, touched := leAt b 168 4,
    group := leAt b 172 1, tag := bitsAt b 172 19 8, m1Fmt := bitsAt b 172 24 20, m2Fmt := bitsAt b 172 29 25,
    sparse := bitsAt b 172 30 30 == 1, gFmt := bitsAt b 176 4 0, copyFmt := bitsAt b 176 9 5, rowLen := leAt b 180 4,
    rsvd := bitsAt b 144 63 40 != 0 || bitsAt b 172 31 31 != 0 || bitsAt b 176 31 10 != 0 || leAt b 184 8 != 0 }

/-! ### Checks (R80, R276, R279 to R281, R284, R293, R294) -/

/-- The home check of an update command's descriptor. -/
def State.updCheck (s : State) (c : InFlight) : Code :=
  let d := updDesc c.ext
  let chk := c.cmd.op == 0x50
  let apply := c.cmd.op == 0x51
  let scan := c.cmd.op == 0x52
  firstCode [
    (c.cmd.sub != 0, 0x0902),
    (c.cmd.opFlags != 0 || c.cmd.arg != 0 || d.rsvd, 0x0101),
    ((chk && d.notC) || (apply && d.notA) || (scan && d.notS), 0x0101),
    (d.step == 0 || decide (2 ^ 40 ≤ d.step), 0x0906),
    (d.tensors == 0 || decide (4096 < d.tensors), 0x0903),
    (decide (1 < d.scope), 0x090A),
    (!scan && (!finNonNeg d.lr || !betaOk d.b1 || !betaOk d.b2), 0x0102),
    (!scaleOk d.gscale, 0x0102),
    (((!scan && d.scope == 1) || d.statsJob) && d.parts == 0, 0x0102),
    (apply && decide (2 ^ 31 ≤ d.rand.stream), 0x0404),
    (d.table % 64 != 0 || d.groups % 64 != 0 || d.gate % 64 != 0 || d.stats % 64 != 0, 0x0108),
    ((List.range 4).any (fun i => d.gateEn.testBit i && d.gateIn.getD i 0 % 8 != 0), 0x0108),
    (!scan, s.rangeCode c.part d.gate 128),
    (true, firstCode ((List.range 4).map (fun i => (d.gateEn.testBit i, s.ownCode c.part (d.gateIn.getD i 0) 8)))),
    (true, s.ownCode c.part d.table (192 * d.tensors)),
    (true, firstCode ((bitList 256 d.mask).map (fun g => (true, s.ownCode c.part (d.groups + 64 * g) 64))))]

/-- A plane that each rule requires, permits or has absent, by Table 12.3. -/
def UpdTensor.planesCode (t : UpdTensor) (rule : Nat) (b1 : Val) : Code :=
  let on (a : Nat) := a != 0
  let req := match rule with
    | 0 => [t.w, t.tail, t.m1, t.g]
    | 1 => [t.w, t.tail, t.m1, t.m2, t.g]
    | 2 => [t.w, t.tail, t.g, t.aux0, t.aux1, t.aux2] ++ (if Val.zero.lt b1 then [t.m1] else [])
    | _ => [t.w, t.tail, t.m1, t.aux0]
  let pairs := t.pairs.flatMap (fun p => [p.1, p.2.1])
  let absent := match rule with
    | 0 => [t.m2, t.aux0, t.aux1, t.aux2] ++ pairs
    | 1 => [t.aux0, t.aux1, t.aux2] ++ pairs
    | 2 => [t.m2, t.meta_, t.touch]
    | _ => [t.m2, t.meta_, t.touch, t.aux1, t.aux2]
  let sparseRule := t.sparse && decide (2 ≤ rule)
  firstCode [
    (sparseRule, 0x0908),
    (on t.w && (!on t.tail || rangesMeet (t.w, 4 * t.elems) (t.tail, t.elems)), 0x040A),
    (!req.all on || absent.any on, 0x0904),
    ((on t.m1 && decide (16 ≤ t.m1Fmt)) || (on t.m2 && decide (16 ≤ t.m2Fmt)) || (on t.copy && decide (16 ≤ t.copyFmt)) ||
      (on t.g && decide (16 ≤ t.gFmt)), 0x0401),
    (on t.m1 && t.m1Fmt != 0 && t.m1Fmt != 12, 0x0402), (on t.m2 && t.m2Fmt != 0 && t.m2Fmt != 13, 0x0402),
    (on t.copy && t.copyFmt != 2 && t.copyFmt != 3 && t.copyFmt != 5, 0x0402), (on t.g && t.gFmt != 0 && t.gFmt != 2, 0x0402),
    (on t.m1s != (on t.m1 && t.m1Fmt == 12) || on t.m2s != (on t.m2 && t.m2Fmt == 13) ||
      on t.copys != (on t.copy && t.copyFmt == 5), 0x0904),
    (t.pairs.any (fun p => on p.1 != on p.2.1 || (on p.1 && !on p.2.2)), 0x0907),
    (decide (2 ≤ rule) && (t.rows * t.cols != t.elems || t.cols % 64 != 0), 0x0907),
    (rule == 2 && decide (16384 < t.cols), 0x0907),
    (t.sparse != on t.meta_ || t.sparse != on t.touch, 0x0908),
    (t.sparse && (t.rowLen == 0 || t.rowLen % 64 != 0 || t.elems % t.rowLen != 0 || t.rows != t.elems / t.rowLen), 0x0908)]

/-- The per-element planes of a tensor: address, bytes and granule (R276, R309). -/
def UpdTensor.planes (t : UpdTensor) (rule : Nat) : List (Nat × Nat × Nat) :=
  let e := t.elems
  let blocks := ceilDiv e 32
  let slots := alignUp e 32
  let opt (a n g : Nat) : List (Nat × Nat × Nat) := if a = 0 then [] else [(a, n, g)]
  [(t.w, 4 * e, 256), (t.tail, e, 64)] ++
  (if t.m1Fmt = 0 then opt t.m1 (4 * e) 256 else opt t.m1 slots 64 ++ opt t.m1s blocks 2) ++
  (if t.m2Fmt = 0 then opt t.m2 (4 * e) 256 else opt t.m2 slots 64 ++ opt t.m2s blocks 2) ++
  (if t.gFmt = 2 then opt t.g (2 * e) 128 else opt t.g (4 * e) 256) ++
  (if t.copyFmt = 2 then opt t.copy (2 * e) 128
   else opt t.copy (if t.copyFmt = 5 then slots else e) 64 ++ opt t.copys blocks 2) ++
  opt t.meta_ (8 * ceilDiv e 64) 8 ++ (if rule = 3 then opt t.aux0 (4 * e) 256 else []) ++
  t.pairs.flatMap (fun p => opt p.1 (4 * p.2.2) 256 ++ opt p.2.1 (4 * p.2.2) 256)

/-- The set in which a plane lies in element-granule interleave of a granule (R309), and its ownership. -/
def State.elemSet (s : State) (p a n gr : Nat) : Except Code Nat :=
  match s.setOf? a with
  | none => .error (if s.ownCode p a 1 = 0 then 0x0904 else s.ownCode p a 1)
  | some t =>
    let o := a - setBase t
    let k := max 1 (ceilDiv n (2 ^ 21))
    if s.setPart? t ≠ some p then .error 0x0109
    else if s.setFrames t < ceilDiv (o + n) (2 ^ 21) then .error 0x0A01
    else if t = 64 ∨ o % 2 ^ 21 ≠ 0 then .error 0x0904
    else if (List.range k).all (fun i => let f := s.frame t (o / 2 ^ 21 + i); 2 ^ f.gran == gr && f.ord == i) then .ok t
    else .error 0x0904

/-- The rows a sparse tensor's touch list names (R293). -/
def State.touchRows (s : State) (p : Nat) (t : UpdTensor) : Except Code (List Nat) :=
  if t.sparse = false then .ok []
  else match s.rdDev (some p) t.touch (4 * t.touched) with
    | .error e => .error e
    | .ok b =>
      let rows := (List.range t.touched).map (fun i => leAt b (4 * i) 4)
      if (rows.zip (rows.drop 1)).any (fun x => decide (x.2 ≤ x.1)) || rows.any (fun r => decide (t.rows ≤ r)) then .error 0x0908
      else .ok rows

/-- Check one tensor entry against its group; its touched rows when it is sound (R276, R279, R281, R293). -/
def State.tensorRows (s : State) (p : Nat) (d : UpdDesc) (gs : List (Nat × UpdGroup)) (t : UpdTensor) : Except Code (List Nat) :=
  match gs.find? (fun x => x.1 == t.group) with
  | none => .error 0x0903
  | some (_, g) =>
    if t.rsvd || t.elems == 0 then .error 0x0903
    else
      let e := t.planesCode g.rule (d.betas g).1
      if e ≠ 0 then .error e
      else do
        let rows ← s.touchRows p t
        let sets ← (t.planes g.rule).mapM (fun x => s.elemSet p x.1 x.2.1 x.2.2)
        let aux := if g.rule = 2 then firstCode [(true, s.ownCode p t.aux0 (4 * t.rows)), (true, s.ownCode p t.aux1 (4 * t.cols)),
          (true, s.ownCode p t.aux2 4)] else 0
        if sets.any (fun x => some x != sets.head?) then .error 0x0904
        else if aux ≠ 0 then .error aux
        else .ok rows

/-- One tensor of a command with its group and touched rows. -/
structure UpdWork where
  t : UpdTensor
  g : UpdGroup
  rows : List Nat
  deriving DecidableEq, Repr

/-- The tables of a command, read once when it starts and checked before any plane is read (R278, R279, R281): whether a group is
invalid, and the tensors. -/
def State.updTables (s : State) (c : InFlight) (d : UpdDesc) : Except Code (Bool × List UpdWork) := do
  let gs ← (bitList 256 d.mask).mapM (fun g => (s.rdDev (some c.part) (d.groups + 64 * g) 64).map (fun b => (g, updGroup b)))
  let bad := gs.any (fun x => d.badGroup x.2)
  if bad && c.cmd.op != 0x50 then .error 0x0905
  else
    let b ← s.rdDev (some c.part) d.table (192 * d.tensors)
    let ts := (List.range d.tensors).map (fun k => updTensor ((b.drop (192 * k)).take 192))
    let ws ← ts.mapM (fun t => (s.tensorRows c.part d gs t).map (fun rows =>
      ({ t := t, g := match gs.find? (fun x => x.1 == t.group) with | some x => x.2 | none => updGroup [], rows := rows } : UpdWork)))
    let tags := (ts.map (fun t => t.tag)).eraseDups
    let split := ts.any (fun t => ts.any (fun u => t.tag == u.tag && t.group != u.group))
    let top := (tags.foldl max 0) + 1
    if decide (256 < tags.length) || split then .error 0x0909
    else if c.cmd.op ≠ 0x50 ∧ d.stats ≠ 0 ∧ s.ownCode c.part d.stats (64 * top) ≠ 0 then .error (s.ownCode c.part d.stats (64 * top))
    else .ok (bad, ws)

/-! ### The check phase (R283, R284) -/

/-- The step counter of an Update Unit for a group (R282). -/
def State.uuStep (s : State) (ch g : Nat) : Nat := SMap.getD (s.chan ch).steps g 0
/-- Set a step counter; a counter of 0 is not listed. -/
def State.setUuStep (s : State) (ch g v : Nat) : State :=
  s.modChan ch (fun x => { x with steps := if v = 0 then SMap.erase x.steps g else SMap.put x.steps g v })

/-- The vote of the package's Update Units: bad group, adopted, sum of the gate inputs, replay and gap masks (R283 steps 1, 2). -/
def State.updVote (s : State) (c : InFlight) (d : UpdDesc) (bad : Bool) : Except Code (List Nat) := do
  let ins ← (bitList 4 d.gateEn).mapM (fun i => (s.rdDev (some c.part) (d.gateIn.getD i 0) 8).map leNat)
  let chs := s.partChannels c.part
  let gs := bitList 256 d.mask
  let replay := gs.filter (fun g => chs.any (fun ch => decide (d.step ≤ s.uuStep ch g)))
  let behind := gs.filter (fun g => chs.any (fun ch => decide (s.uuStep ch g + 1 < d.step)))
  let mask (l : List Nat) : Nat := l.foldl (fun m g => m ||| 2 ^ g) 0
  .ok [if bad then 1 else 0, if d.adopt && !behind.isEmpty then 1 else 0, ins.foldl (satAdd 64) 0, mask replay,
    if d.adopt then 0 else mask behind]

/-- VERDICT of a reduced vote (R283). -/
def verdict (v : List Nat) : Nat :=
  let x := (if v.getD 2 0 ≠ 0 then 2 else 0) + (if v.getD 3 0 ≠ 0 then 4 else 0) + (if v.getD 4 0 ≠ 0 then 8 else 0) +
    (if v.getD 0 0 ≠ 0 then 16 else 0) + (if v.getD 1 0 ≠ 0 then 32 else 0)
  if x % 32 = 0 then x + 1 else x

/-- The gate record (Table 12.5). -/
def gateRecord (d : UpdDesc) (v : List Nat) : List Byte :=
  leBytes 8 d.gateSeq ++ leBytes 8 d.step ++ leBytes 4 (verdict v) ++ leBytes 4 0 ++ leBytes 8 (v.getD 2 0) ++
    leBytes 32 d.mask ++ leBytes 32 (v.getD 3 0) ++ leBytes 32 (v.getD 4 0)

/-- Write the gate record and end (R283 step 4, R296). -/
def State.gateEnd (s : State) (c : InFlight) (v : List Nat) : State :=
  let d := updDesc c.ext
  let w := s.wrDev (some c.part) d.gate (gateRecord d v)
  if w.2.2 ≠ 0 then w.1.endCmd c.ring c.seq w.2.2 0
  else
    let s := w.1.observe.modCmd c.ring c.seq (fun x => { x with info := x.info ||| verdict v * 2 ^ 16 })
    s.endCmd c.ring c.seq (if v.getD 0 0 ≠ 0 then 0x0905 else 0) 128

/-- UPD_CHECK starts: it votes, and joins its gate group at job scope (R283, R284). -/
def State.updCheckStart (s : State) (c : InFlight) : State :=
  let d := updDesc c.ext
  match s.updTables c d with
  | .error e => s.stopCmd c e 0 d.table (192 * d.tensors)
  | .ok (bad, _) => match s.updVote c d bad with
    | .error e => s.stopCmd c e 0 (d.gateIn.headD 0) 8
    | .ok v =>
      if d.scope = 0 then s.gateEnd c v
      else s.joinGroup s.groupRoot [2, s.job c.part, d.gateGroup] [d.step, d.gateSeq, d.parts, d.mask] v c

/-- UPD_CHECK (R283): a gate formed over the job ends when its values have come. -/
def updCheckCmd (s : State) (r q : Nat) : State :=
  s.contCmd 0x50 r q State.updCheckStart (fun s c => if c.prog.isEmpty then s else s.gateEnd c c.prog)

/-! ### F48 (R287) -/

/-- (−1)^neg × n / d × 2^e rounded once to a 49-bit significand on the range and subnormal grid of FP64. -/
def f48Rat (neg : Bool) (n d : Nat) (e : Int) : FVal :=
  if n = 0 then (.fin neg 0 0, 0)
  else
    let q : Int := max (ratLead n d + e - 48) (-1074)
    let m := (roundAt n d e q 0 0).1
    if m ≠ 0 ∧ 1023 < lead2 m q then (.inf neg, fOVF) else (.fin neg m q, 0)

/-- An exact result rounded to F48. -/
def f48 (x : FVal) : FVal := match x.1 with
  | .fin n m e => let y := f48Rat n m 1 e; (y.1, y.2 ||| x.2)
  | _ => x

/-- A value as an F48 operand without flags. -/
def ex (v : Val) : FVal := (v, 0)

/-- A binary F48 operation, keeping the flags of its operands. -/
def op48 (f : Val → Val → FVal) (a b : FVal) : FVal := let x := f a.1 b.1; (x.1, x.2 ||| a.2 ||| b.2)
/-- F48 sum. -/
def add48 : FVal → FVal → FVal := op48 (fun a b => f48 (addX a b))
/-- F48 difference. -/
def sub48 : FVal → FVal → FVal := op48 (fun a b => f48 (addX a b.neg))
/-- F48 product. -/
def mul48 : FVal → FVal → FVal := op48 (fun a b => f48 (mulX a b))
/-- F48 quotient; quotients of two finite values are rounded from the exact ratio. -/
def div48 : FVal → FVal → FVal := op48 (fun a b => match a, b with
  | .fin n m e, .fin n' m' e' => if m' = 0 then kF64.div 0 0 a b else f48Rat (n != n') m m' (e - e')
  | _, _ => kF64.div 0 0 a b)
/-- F48 square root. -/
def sqrt48 (a : FVal) : FVal := match a.1 with
  | .fin false m e => if m = 0 then a else let x := f48 (rootVal 64 m e, 0); (x.1, a.2)
  | v => let x := kF64.sqrt 0 0 v; (x.1, x.2 ||| a.2)

/-- Powers in F48 (R287). -/
def pow48 (x : FVal) (n : Nat) : FVal :=
  (List.range 64).reverse.foldl (fun r b => let r := mul48 r r; if n.testBit b then mul48 r x else r) (ex .one)

/-! ### The update rules (R288, R289, R293) -/

/-- What the elements of one element group share. -/
structure UpdPar where
  rule : Nat
  nesterov : Bool
  b1 : FVal
  b2 : FVal
  bc1 : FVal
  bc2 : FVal
  eps : FVal
  lr : FVal
  lam : FVal
  clip : Val
  gscale : FVal
  deriving DecidableEq, Repr

/-- The parameters of a group at bias-correction count `cnt`. -/
def UpdDesc.par (d : UpdDesc) (g : UpdGroup) (cnt : Nat) : UpdPar :=
  let b := d.betas g
  let bc (x : Val) : FVal := if g.biascorr && g.rule != 0 then sub48 (ex .one) (pow48 (ex x) cnt) else ex .one
  { rule := g.rule, nesterov := g.nesterov, b1 := ex b.1, b2 := ex b.2,
    bc1 := if g.rule = 2 ∧ b.1.isZero then ex .one else bc b.1, bc2 := if g.rule = 3 then ex .one else bc b.2,
    eps := ex g.eps, lr := mul48 (ex d.lr) (ex g.lrMult), lam := ex g.decay, clip := g.clip, gscale := ex (f32 d.gscale) }

/-- The scaled and clipped gradient; D itself under rule 3. -/
def UpdPar.grad (p : UpdPar) (g : Val) : FVal :=
  if p.rule = 3 then ex g
  else
    let y := mul48 (ex g) p.gscale
    if Val.zero.lt p.clip then (if y.1.lt p.clip.neg then (p.clip.neg, y.2) else if p.clip.lt y.1 then (p.clip, y.2) else y) else y

/-- One element's values: weight, m, v, and the gradient or D; for rule 2 the second moment that its factors give. -/
structure UpdElem where
  w : FVal
  m : FVal
  v : FVal
  g : FVal
  vh : FVal
  deriving DecidableEq, Repr

/-- The new w, m and v of an element (R288). -/
def UpdPar.apply (p : UpdPar) (e : UpdElem) : FVal × FVal × FVal :=
  let one := ex .one
  let mix (b x y : FVal) : FVal := add48 (mul48 b x) (mul48 (sub48 one b) y)
  let dir (m v : FVal) : FVal := div48 (div48 m p.bc1) (add48 (sqrt48 (div48 v p.bc2)) p.eps)
  let (m, v, d) : FVal × FVal × FVal := match p.rule with
    | 0 => let m := add48 (mul48 p.b1 e.m) e.g; (m, e.v, if p.nesterov then add48 e.g (mul48 p.b1 m) else m)
    | 1 => let m := mix p.b1 e.m e.g; let v := mix p.b2 e.v (mul48 e.g e.g); (m, v, dir m v)
    | 2 => let m := if p.b1.1.isZero then e.g else mix p.b1 e.m e.g; (m, e.v, dir m e.vh)
    | _ => let m := mix p.b1 e.m e.g; (m, e.v, div48 m p.bc1)
  (sub48 (mul48 e.w (sub48 one (mul48 p.lr p.lam))) (mul48 p.lr d), m, v)

/-- Catch an element of a touched row up over the steps that skipped it (R293). -/
def UpdPar.catchUp (p : UpdPar) (e : UpdElem) (dt : Nat) : UpdElem :=
  { e with m := mul48 e.m (pow48 p.b1 dt), v := mul48 e.v (pow48 p.b2 dt)
           w := mul48 e.w (pow48 (sub48 (ex .one) (mul48 p.lr p.lam)) dt) }

/-! ### Reading and storing the planes of an element group (R104 to R108, R290) -/

/-- `n` numbers of a format from a plane, from element `j` on. -/
def State.planeVals (s : State) (p a fmt j n : Nat) : Except Code (List FVal) :=
  let sz := fmtBits fmt / 8
  (s.rdDev (some p) (a + sz * j) (sz * n)).map (fun b => (List.range n).map (fun i =>
    let v := (kindOf fmt).decode (leAt b (sz * i) sz)
    (v, if v.isNan then fNAN else 0)))

/-- `n` master weights: the FP32 word with its tail as eight more fraction bits (R104, R105). -/
def State.masterVals (s : State) (p : Nat) (t : UpdTensor) (j n : Nat) : Except Code (List FVal) := do
  let w ← s.rdDev (some p) (t.w + 4 * j) (4 * n)
  let x ← s.rdDev (some p) (t.tail + j) n
  .ok ((List.range n).map (fun i =>
    let v := kMW40.decode (leAt w (4 * i) 4 * 256 + (if (f32 (leAt w (4 * i) 4)).isFin then leAt x i 1 else 0))
    (v, if v.isNan then fNAN else 0)))

/-- `n` moments: FP32, M8S, or M8U read as u², ±Inf with OVF beyond FP32 (R106, R108, R287). -/
def State.momentVals (s : State) (p a sc fmt j n : Nat) : Except Code (List FVal) :=
  if fmt = 0 then s.planeVals p a 0 j n
  else do
    let b ← s.rdDev (some p) (a + j) n
    let x ← s.rdDev (some p) (sc + j / 32) (ceilDiv n 32)
    .ok ((List.range n).map (fun i =>
      let u := m8Decode (fmt == 12) (leAt x (i / 32) 1) (leAt b i 1)
      if fmt = 12 then u else let v := widen (mulX u.1 u.1).1; (v.1, u.2 ||| v.2)))

/-- Bytes to write, whether a value is not finite, and flags. -/
structure Stored where
  wr : List (Nat × List Byte)
  bad : Bool
  flags : Nat
  deriving DecidableEq, Repr

/-- Join two stores. -/
def Stored.join (a b : Stored) : Stored := ⟨a.wr ++ b.wr, a.bad || b.bad, a.flags ||| b.flags⟩

/-- Store values in a plain format. -/
def storePlain (k : Kind) (sz a mode : Nat) (rs : List Nat) (vs : List Val) : Stored :=
  let out := (List.range vs.length).map (fun i => k.round mode (rs.getD i 0) (vs.getD i .zero))
  ⟨[(a, out.flatMap (fun x => leBytes sz (k.encode x.1)))], out.any (fun x => !x.1.isFin), out.foldl (fun f x => f ||| x.2) 0⟩

/-- Store values in blocks of 32 with a scale each, a block's code given by `enc`; absent slots of a last partial block are 0 (R102). -/
def storeBlocks (a sc : Nat) (enc : List Val → List Nat → Nat × List Nat × Nat) (rs : List Nat) (vs : List Val) : Stored :=
  (List.range (ceilDiv vs.length 32)).foldl (fun (st : Stored) b =>
    let e := enc ((vs.drop (32 * b)).take 32) ((rs.drop (32 * b)).take 32)
    let codes := e.2.1 ++ List.replicate (32 - e.2.1.length) 0
    st.join ⟨[(sc + b, leBytes 1 e.1), (a + 32 * b, codes.flatMap (leBytes 1))], e.1 == 0xFF, e.2.2⟩) ⟨[], false, 0⟩

/-- √v for M8U, to well beyond one rounding (R290). -/
def rootOf : Val → Val
  | .fin false m e => if m = 0 then .zero else rootVal 64 m e
  | v => v

/-- Store a moment. -/
def storeMoment (a sc fmt j mode : Nat) (rs : List Nat) (vs : List Val) : Stored :=
  if fmt = 0 then storePlain kF32 4 (a + 4 * j) mode rs vs
  else storeBlocks (a + j) (sc + j / 32) (fun v r => m8Encode (fmt == 12) v mode r) rs (if fmt = 12 then vs else vs.map rootOf)

/-- Store the compute copy of the new master weights, under RNE (R290). -/
def storeCopy (t : UpdTensor) (j : Nat) (ws : List Val) : Stored :=
  if t.copy = 0 then ⟨[], false, 0⟩
  else if t.copyFmt = 5 then storeBlocks (t.copy + j) (t.copys + j / 32) (fun v r => mxEncode 5 v 0 r) [] ws
  else if t.copyFmt = 2 then storePlain kBF16 2 (t.copy + 2 * j) 0 [] ws
  else storePlain kE4M3 1 (t.copy + j) 0 [] ws

/-- Store the new planes of an element group from element `j` on; the new master weights beside them (R290). -/
def UpdWork.store (u : UpdWork) (d : UpdDesc) (k j : Nat) (xs : List (FVal × FVal × FVal)) : Stored × List Val :=
  let t := u.t
  let rnd : Rand := { d.rand with stream := (d.rand.stream + k) % 2 ^ 31 }
  let rs (mode p : Nat) : List Nat := if mode = 2 then (List.range xs.length).map (fun i => rnd.sr (4 * (j + i) + p)) else []
  let ws := (List.range xs.length).map (fun i =>
    kMW40.round u.g.round ((rs u.g.round 0).getD i 0) (match xs[i]? with | some x => x.1.1 | none => .zero))
  let raw := ws.map (fun x => kMW40.encode x.1)
  let master : Stored := ⟨[(t.w + 4 * j, raw.flatMap (fun x => leBytes 4 (x / 256))), (t.tail + j, raw.flatMap (fun x => leBytes 1 x))],
    ws.any (fun x => !x.1.isFin), ws.foldl (fun f x => f ||| x.2) 0⟩
  let m := if t.m1 = 0 then ⟨[], false, 0⟩
    else storeMoment t.m1 t.m1s t.m1Fmt j u.g.momRound (rs u.g.momRound 1) (xs.map (fun x => x.2.1.1))
  let v := if t.m2 = 0 then ⟨[], false, 0⟩
    else storeMoment t.m2 t.m2s t.m2Fmt j u.g.momRound (rs u.g.momRound 2) (xs.map (fun x => x.2.2.1))
  let new := ws.map (fun x => x.1)
  (((master.join m).join v).join (storeCopy t j new), new)

/-! ### The scan of a command (R285 to R294, R297) -/

/-- A magnitude in units of 2^−1074. -/
def onGrid (v : Val) : Nat := match v with
  | .fin _ m e => shiftFloor m (e + 1074)
  | _ => 0

/-- The exact square of a value in units of 2^−2148. -/
def sqGrid (v : Val) : Nat := onGrid v ^ 2

/-- A command's scan as it goes: the state, rows of statistics, units that stopped, flags and whether a group was held. -/
structure UpdRun where
  s : State
  rows : List (List Nat)
  stopped : List (Nat × Code)
  flags : Nat
  held : Bool

/-- What one element group of a command meets: its statistics row, what it stores, flags, and how it is held (0 not, 1 for what the
step brought, 2 for stored state). -/
structure UpdOut where
  row : List Nat
  wr : List (Nat × List Byte)
  flags : Nat
  held : Nat
  deriving DecidableEq, Repr

/-- Gradient part of a statistics row: SUM_G2 and MAX_G of the scaled and clipped gradients, and the count of non-finite gradients, which
a clip does not hide (R294). -/
def gradStats (raw gs : List Val) : Nat × Nat × Nat :=
  ((gs.map sqGrid).sum, (gs.map onGrid).foldl max 0, (raw.filter (fun v => !v.isFin)).length)

/-- One element group that only fills statistics: of a skipped step, or of UPD_STATS (R286, R294). -/
def State.scanGroup (s : State) (p : Nat) (d : UpdDesc) (u : UpdWork) (j n : Nat) (weights : Bool) : Except Code UpdOut := do
  let raw ← if u.g.rule = 3 then s.planeVals p u.t.aux0 0 j n else s.planeVals p u.t.g u.t.gFmt j n
  let ws ← if weights then s.masterVals p u.t j n else .ok []
  let gs := raw.map (fun x => (d.par u.g 0).grad x.1)
  let st := gradStats (raw.map (fun x => x.1)) (gs.map (fun x => x.1))
  .ok { row := [u.t.tag, 0, if weights then n else 0, 0, (ws.map (fun x => sqGrid x.1)).sum, st.1, st.2.1, st.2.2], wr := [],
        flags := (raw ++ ws ++ gs).foldl (fun f x => f ||| accFlags x.2) 0, held := 0 }

/-- One element group of an applied step (R288 to R291, R293, R294). -/
def State.applyGroup (s : State) (p : Nat) (d : UpdDesc) (u : UpdWork) (k j n : Nat) : Except Code UpdOut := do
  let t := u.t
  let raw ← if u.g.rule = 3 then s.planeVals p t.aux0 0 j n else s.planeVals p t.g t.gFmt j n
  let ws ← s.masterVals p t j n
  let ms ← if t.m1 = 0 then .ok [] else s.momentVals p t.m1 t.m1s t.m1Fmt j n
  let vs ← if t.m2 = 0 then .ok [] else s.momentVals p t.m2 t.m2s t.m2Fmt j n
  let cs ← if u.g.rule = 2 then s.planeVals p t.aux1 0 (j % t.cols) n else .ok []
  let rs ← if u.g.rule = 2 then (do .ok ((← s.planeVals p t.aux0 0 (j / t.cols) 1) ++ (← s.planeVals p t.aux2 0 0 1))) else .ok []
  let word ← if t.sparse then (s.rdDev (some p) (t.meta_ + 8 * (j / 64)) 8).map leNat else .ok 0
  let last := word % 2 ^ 40
  let cnt := word / 2 ^ 40
  let par := d.par u.g (if t.sparse then cnt + 1 else d.step)
  let gs := raw.map (fun x => par.grad x.1)
  let st := gradStats (raw.map (fun x => x.1)) (gs.map (fun x => x.1))
  let stored := (ws ++ ms ++ vs).any (fun x => !x.1.isFin) || (t.sparse && decide (d.step ≤ last))
  let inputs := (raw ++ gs ++ cs ++ rs).any (fun x => !x.1.isFin)
  let seen := (raw ++ ws ++ ms ++ vs ++ cs ++ rs ++ gs).foldl (fun f x => f ||| accFlags x.2) 0
  let heldRow : List Nat := [t.tag, 8, 0, 0, 0, 0, 0, st.2.2 + 1]
  if stored || inputs then .ok { row := heldRow, wr := [], flags := seen, held := if stored then 2 else 1 }
  else
    let at_ (l : List FVal) (i : Nat) : FVal := ex (l.getD i (ex .zero)).1
    let elem (i : Nat) : UpdElem :=
      let e : UpdElem := { w := at_ ws i, m := at_ ms i, v := at_ vs i, g := at_ gs i
                           vh := if u.g.rule = 2 then div48 (mul48 (at_ rs 0) (at_ cs i)) (at_ rs 1) else ex .zero }
      if t.sparse then par.catchUp e (d.step - last - 1) else e
    let xs := (List.range n).map (fun i => par.apply (elem i))
    let (sto, new) := u.store d k j xs
    let flags := seen ||| sto.flags ||| xs.foldl (fun f x => f ||| accFlags (x.1.2 ||| x.2.1.2 ||| x.2.2.2)) 0
    if sto.bad then .ok { row := heldRow, wr := [], flags := flags, held := 1 }
    else
      let d2 := ((List.range n).map (fun i => sqGrid (addX (new.getD i .zero) (at_ ws i).1.neg).1)).sum
      let md := if t.sparse then [(t.meta_ + 8 * (j / 64), leBytes 8 (d.step % 2 ^ 40 + min (cnt + 1) (2 ^ 24 - 1) * 2 ^ 40))] else []
      .ok { row := [t.tag, 0, n, d2, (new.map sqGrid).sum, st.1, st.2.1, 0], wr := sto.wr ++ md, flags := flags, held := 0 }

/-- The channel an address lies in. -/
def State.chanOf (s : State) (a : Nat) : Nat :=
  match (s.setOf? a).bind (fun t => s.place? t (a - setBase t)) with | some x => x.1 | none => 0

/-- A unit of work that fails stops its Update Unit; the others finish (R297). -/
def UpdRun.stop (x : UpdRun) (c : InFlight) (ch : Nat) (e : Code) (a n : Nat) : UpdRun :=
  { x with s := (match e == 0xF001, x.s.badDev? (some c.part) a n with
                 | true, some k => x.s.recordBad k 1 (some c.part) (some c)
                 | _, _ => x.s)
           stopped := x.stopped ++ [(ch, e)] }

/-- One element group of a scan in mode 0 apply, 1 skip, 2 scan. -/
def UpdRun.group (x : UpdRun) (c : InFlight) (d : UpdDesc) (mode k : Nat) (u : UpdWork) (j : Nat) : UpdRun :=
  let n := min 64 (u.t.elems - j)
  let ch := x.s.chanOf (u.t.w + 4 * j)
  if x.stopped.any (fun y => y.1 == ch) then x
  else match (if mode = 0 then x.s.applyGroup c.part d u k j n else x.s.scanGroup c.part d u j n (mode == 2)) with
    | .error e =>
      let rg := u.t.planes u.g.rule
      let bad := rg.find? (fun y => (x.s.badDev? (some c.part) (y.1 + j * y.2.2 / 64) y.2.2).isSome)
      let (a, m) := match bad with | some y => (y.1 + j * y.2.2 / 64, y.2.2) | none => (u.t.aux2, 4)
      x.stop c ch e a m
    | .ok o =>
      let w := x.s.wrAll c.part o.wr
      let s := if mode = 0 ∧ o.held = 0 then w.1.addFld (mcPage ch) Fld.MC_UU_ELEMS_COUNT n else w.1
      let s := if o.held = 0 then s else s.addFld (mcPage ch) Fld.MC_UU_HELD_COUNT 1
      let s := if o.held = 2 then s.recordError {
          source := srcOf (mcPage ch), cls := 1, code := 0x090C, part := some c.part, ctx := some c.ctx
          cmd := some (c.ring, c.cmd.tag) } else s
      let y : UpdRun := { s := s, rows := rowAdd x.rows o.row, stopped := x.stopped, flags := x.flags ||| o.flags
                          held := x.held || o.held != 0 }
      if w.2 ≠ 0 then y.stop c ch w.2 0 0 else y

/-- First elements of the element groups that a tensor's update visits (R293). -/
def UpdWork.starts (u : UpdWork) : List Nat :=
  if u.t.sparse then u.rows.flatMap (fun r => (List.range (u.t.rowLen / 64)).map (fun i => r * u.t.rowLen + 64 * i))
  else (List.range (ceilDiv u.t.elems 64)).map (fun i => 64 * i)

/-- Copy the commit pairs of an applied tensor, channel by channel (R290). -/
def UpdRun.pairs (x : UpdRun) (c : InFlight) (u : UpdWork) : UpdRun :=
  u.t.pairs.foldl (fun x p => (List.range (ceilDiv p.2.2 64)).foldl (fun x i =>
    let n := 4 * min 64 (p.2.2 - 64 * i)
    let ch := x.s.chanOf (p.1 + 256 * i)
    if x.stopped.any (fun y => y.1 == ch) then x
    else match x.s.rdDev (some c.part) (p.1 + 256 * i) n with
      | .error e => x.stop c ch e (p.1 + 256 * i) n
      | .ok b =>
        let w := x.s.wrDev (some c.part) (p.2.1 + 256 * i) b
        let y := { x with s := w.1 }
        if w.2.2 ≠ 0 then y.stop c ch w.2.2 0 0 else y) x) x

/-- All tensors of a command. -/
def updScan (s : State) (c : InFlight) (d : UpdDesc) (mode : Nat) (ws : List UpdWork) : UpdRun :=
  let x0 : UpdRun := { s := s, rows := ws.foldl (fun r u => rowAdd r [u.t.tag, 0, 0, 0, 0, 0, 0, 0]) [], stopped := [], flags := 0
                       held := false }
  (List.range ws.length).foldl (fun x k => match ws[k]? with
    | none => x
    | some u =>
      let x := if mode = 0 then x.pairs c u else x
      u.starts.foldl (fun x j => x.group c d mode k u j) x) x0

/-! ### Statistics records (R294) -/

/-- WATCH of a tag (R294): its sums as FP64 and its group's RATIO_MAX. -/
def watch (d2 w2 ratio : Val) : Bool :=
  (w2.isZero && Val.zero.lt d2) ||
    (!ratio.isZero && !w2.isZero && ratio.lt (kF64.sqrt 0 0 (kF64.div 0 0 d2 w2).1).1)

/-- The record of a row of statistics, with flags SKIPPED or STATS_ONLY, and whether it is watched (Table 12.7). -/
def statsRecord (step flags : Nat) (ratio : Val) (r : List Nat) : List Byte × Bool :=
  let sum (i : Nat) : Val := (kF64.round 0 0 (.fin false (r.getD i 0) (-2148))).1
  let d2 := if flags = 0 then sum 3 else .zero
  let w2 := if flags = 1 then .zero else sum 4
  let wt := watch d2 w2 ratio
  (leBytes 8 step ++ leBytes 2 (r.getD 0 0) ++ leBytes 2 (flags + (if wt then 2 else 0) + r.getD 1 0) ++ leBytes 4 0 ++
    leBytes 8 (if flags = 1 then 0 else r.getD 2 0) ++ leBytes 8 (kF64.encode d2) ++ leBytes 8 (kF64.encode w2) ++
    leBytes 8 (kF64.encode (sum 5)) ++ leBytes 8 (kF64.encode (kF64.round 0 0 (.fin false (r.getD 6 0) (-1074))).1) ++
    leBytes 8 (min (r.getD 7 0) (2 ^ 64 - 1)), wt)

/-- A command's step was skipped: its verdict lacks APPLY, or the gate was not its own (R285). -/
def updSkipped (c : InFlight) : Bool := c.cmd.op == 0x51 && (!c.info.testBit 16 || c.info.testBit 22)

/-- Write the statistics records of the table's tags and end (R294, R296). -/
def State.statsEnd (s : State) (c : InFlight) (d : UpdDesc) (ratios : List (Nat × Val)) (rows : List (List Nat)) : State :=
  let skip := updSkipped c
  let flags := if c.cmd.op = 0x52 then 4 else if skip then 1 else 0
  let mine := rows.filter (fun r => ratios.any (fun x => x.1 == r.getD 0 0))
  let recs := mine.map (fun r => (r.getD 0 0, statsRecord d.step flags
    (match ratios.find? (fun x => x.1 == r.getD 0 0) with | some x => x.2 | none => .zero) r))
  let s := s.modCmd c.ring c.seq (fun x => { x with info := if recs.any (fun r => r.2.2) then x.info ||| 2 ^ 24 else x.info })
  let w := if d.stats = 0 then (s, 0) else s.wrAll c.part (recs.map (fun r => (d.stats + 64 * r.1, r.2.1)))
  if w.2 ≠ 0 then w.1.endCmd c.ring c.seq w.2 0
  else w.1.observe.endCmd c.ring c.seq (if skip then 0x0901 else 0) (if d.stats = 0 then 0 else 64 * recs.length)

/-- RATIO_MAX of each tag of a command. -/
def ratiosOf (ws : List UpdWork) : List (Nat × Val) := (ws.map (fun u => (u.t.tag, u.g.ratio))).eraseDups

/-! ### UPD_APPLY and UPD_STATS (R285, R286, R292, R294) -/

/-- Mode and INFO of a gate reading: 0 apply, 1 skip (R285). -/
def gateMode (d : UpdDesc) (g : List Byte) : Nat × Nat :=
  let v := leAt g 16 4 % 64
  let mism := leAt g 8 8 != d.step || leAt g 0 8 != d.gateSeq || leAt g 32 32 != d.mask
  (if v % 2 = 1 ∧ mism = false then 0 else 1, v * 2 ^ 16 + (if mism then 2 ^ 22 else 0))

/-- Every Update Unit counts its skip (R286), or sets its counters to t when it has finished (R292). -/
def State.updCount (s : State) (c : InFlight) (d : UpdDesc) (mode : Nat) (stopped : List (Nat × Code)) : State :=
  (s.partChannels c.part).foldl (fun s ch =>
    if mode = 1 then s.addFld (mcPage ch) Fld.MC_UU_SKIPPED_COUNT 1
    else if mode = 0 ∧ stopped.any (fun y => y.1 == ch) = false then
      (bitList 256 d.mask).foldl (fun s g => s.setUuStep ch g d.step) s
    else s) s

/-- The scan of a command whose tables and gate have been read. -/
def State.updRun (s : State) (c : InFlight) (d : UpdDesc) (mode info : Nat) (ws : List UpdWork) : State :=
  let x := updScan s c d mode ws
  let s := (x.s.updCount c d mode x.stopped).modCmd c.ring c.seq (fun y =>
    { y with info := y.info ||| info ||| (x.flags % 64) * 256 ||| (if x.held then 2 ^ 23 else 0), prog := [] })
  match x.stopped, s.cmdAt? c.ring c.seq with
  | _ :: _, _ => s.endCmd c.ring c.seq (if x.stopped.any (fun y => y.2 == 0xF001) then 0xF001 else (x.stopped.headD (0, 0)).2) 0
  | [], none => s
  | [], some c =>
    if d.statsJob then s.joinGroup s.groupRoot [4, s.job c.part, d.gateGroup] [d.parts, d.step] x.rows.flatten c
    else s.statsEnd c d (ratiosOf ws) x.rows

/-- UPD_APPLY or UPD_STATS starts: the tables are read and checked, and UPD_APPLY reads the gate once (R285). -/
def State.updStart (s : State) (c : InFlight) : State :=
  let d := updDesc c.ext
  match s.updTables c d with
  | .error e => s.stopCmd c e 0 d.table (192 * d.tensors)
  | .ok (_, ws) =>
    if c.cmd.op = 0x52 then s.updRun c d 2 0 ws
    else match s.rdDev (some c.part) d.gate 128 with
      | .error e => s.stopCmd c e 0 d.gate 128
      | .ok g => s.updRun c d (gateMode d g).1 (gateMode d g).2 ws

/-- Job statistics have come: the records of the table's tags are written (R294). -/
def State.updGoOn (s : State) (c : InFlight) : State :=
  if c.prog.isEmpty then s
  else
    let d := updDesc c.ext
    match s.updTables c d with
    | .error e => s.stopCmd c e 0 d.table (192 * d.tensors)
    | .ok (_, ws) => s.statsEnd c d (ratiosOf ws) (pieces 8 c.prog.length c.prog)

/-- UPD_APPLY (R285). -/
def updApplyCmd (s : State) (r q : Nat) : State := s.contCmd 0x51 r q State.updStart State.updGoOn
/-- UPD_STATS (R294). -/
def updStatsCmd (s : State) (r q : Nat) : State := s.contCmd 0x52 r q State.updStart State.updGoOn

/-- A write of MC_UU_STEP to the selected group's counter, refused while the unit holds an update command (R282). -/
def uuStepWrite (s : State) (who : Requester) (ch : Nat) (v : Word64) : State :=
  let pg := mcPage ch
  s.letIn who pg (fun s =>
    if s.cmds.any (fun c => (c.cmd.op == 0x50 || c.cmd.op == 0x51 || c.cmd.op == 0x52) && c.phase == .started && s.workOn pg c) then
      s.refuseF pg 0x0105 Fld.MC_UU_STEP_COUNT
    else s.setUuStep ch (s.fld pg Fld.MC_UU_STEP_SEL_GROUP) (getBits v 39 0))

/-- UPD_CHECK (R283). -/
def execUpdCheck (ring seq : Nat) (s : State) : Host.Outcome State Fault Refusal := State.done (updCheckCmd s ring seq)
/-- UPD_APPLY (R285). -/
def execUpdApply (ring seq : Nat) (s : State) : Host.Outcome State Fault Refusal := State.done (updApplyCmd s ring seq)
/-- UPD_STATS (R294). -/
def execUpdStats (ring seq : Nat) (s : State) : Host.Outcome State Fault Refusal := State.done (updStatsCmd s ring seq)
/-- MC_UU_STEP_WRITE (R282). -/
def execMcUuStepWrite (who : Requester) (ch : Nat) (v : Word64) (s : State) : Host.Outcome State Fault Refusal :=
  State.done (uuStepWrite s who ch v)

end Sys2Proof.Machine
end

