-- ==== Sys2Proof/Machine/Factor.lean ====
section
/-!
DEFINITION. The Factor Engine (12, R298 to R301): damped inverse roots of a list of blocks.
-/
namespace Sys2Proof.Machine

open Sys2Proof

/-- A square matrix of FP32 values, by rows, with the flags its computation set. -/
abbrev FMat := List (List Val) × Nat

/-- Entry `(i, j)`. -/
def FMat.at_ (a : FMat) (i j : Nat) : Val := (a.1.getD i []).getD j .zero

/-- A matrix from a function of its entries. -/
def FMat.of (n flags : Nat) (f : Nat → Nat → FVal) : FMat :=
  let rows := (List.range n).map (fun i => (List.range n).map (f i))
  (rows.map (fun r => r.map (fun x => x.1)), rows.foldl (fun g r => r.foldl (fun g x => g ||| x.2) g) flags)

/-- A sum of products of FP32 values in K order, from +0 (R120). -/
def dot (xs ys : List Val) : FVal := dotChunks [xs.zip ys] (ceilDiv xs.length 64) (.zero, 0)

/-- A matrix product summed by R120. -/
def FMat.mul (n : Nat) (a b : FMat) : FMat :=
  let cols := (List.range n).map (fun j => (List.range n).map (fun k => b.at_ k j))
  .of n (a.2 ||| b.2) (fun i j => dot (a.1.getD i []) (cols.getD j []))

/-- The identity. -/
def FMat.one (n : Nat) : FMat := .of n 0 (fun i j => (if i = j then .one else .zero, 0))

/-- x^(−1/p) for p = 2 or 4: square roots, then the reciprocal, each rounded to FP32 (log 32). -/
def invRoot (p4 : Bool) (x : Val) : FVal :=
  let r := fsqrt x
  let r := if p4 then (let y := fsqrt r.1; (y.1, y.2 ||| r.2)) else r
  let y := fdiv .one r.1
  (y.1, y.2 ||| r.2)

/-- One row of a Cholesky factor, its earlier entries given: entry by entry, the sums by R120 (log 32). -/
def cholRow (b : FMat) (rows : List (List Val)) (i : Nat) : List Val :=
  (List.range i).foldl (fun r j =>
    let lj := rows.getD j []
    r ++ [(fdiv (fsub (b.at_ i j) (dot r (lj.take j)).1).1 (lj.getD j .zero)).1]) []

/-- Cholesky succeeds with every pivot above tau × the largest diagonal entry (R299). -/
def cholesky (n : Nat) (b : FMat) (tau : Val) : Bool :=
  let top := (List.range n).foldl (fun (m : Val) i => if m.lt (b.at_ i i) then b.at_ i i else m) .zero
  let lim := (fmul tau top).1
  ((List.range n).foldl (fun (st : List (List Val) × Bool) i =>
    if st.2 = false then st
    else
      let r := cholRow b st.1 i
      let pivot := (fsub (b.at_ i i) (dot r r).1).1
      if lim.lt pivot then (st.1 ++ [r ++ [(fsqrt pivot).1]], true) else (st.1, false)) (([] : List (List Val)), true)).2

/-- The iteration of R299 from X and Y, `k` times. -/
def newton (n : Nat) (p4 : Bool) : Nat → FMat → FMat → FMat
  | 0, _, y => y
  | k + 1, x, y =>
    let p : Val := .fin false (if p4 then 4 else 2) 0
    let p1 : Val := .fin false (if p4 then 5 else 3) 0
    let t : FMat := .of n (x.2 ||| y.2) (fun i j =>
      let a := fsub (if i = j then p1 else .zero) (x.at_ i j)
      let q := fdiv a.1 p
      (q.1, q.2 ||| a.2))
    let t2 := FMat.mul n t t
    let tp := if p4 then FMat.mul n t2 t2 else t2
    newton n p4 k (FMat.mul n tp x) (FMat.mul n y t)

/-- One block (R299): its output P and result word. -/
def factorBlock (n : Nat) (p4 : Bool) (lambda tau : Val) (a : FMat) : FMat × Nat :=
  let tr := (List.range n).foldl (fun (s : FVal) i => let y := fadd s.1 (a.at_ i i); (y.1, y.2 ||| s.2)) (Val.zero, 0)
  if !(Val.zero.lt tr.1) || a.1.any (fun r => r.any (fun v => !v.isFin)) then (FMat.one n, 12)
  else
    let mean := fdiv tr.1 (.fin false n 0)
    let damp (r : Nat) : FMat :=
      let x := fmul lambda (.fin false (10 ^ r) 0)
      let y := fmul x.1 mean.1
      .of n (tr.2 ||| mean.2 ||| x.2 ||| y.2) (fun i j => fadd (a.at_ i j) (if i = j then y.1 else .zero))
    match (List.range 4).find? (fun r => cholesky n (damp r) tau) with
    | some r =>
      let b := damp r
      let ss := dot b.1.flatten b.1.flatten
      let f := fsqrt ss.1
      let x : FMat := .of n (b.2 ||| ss.2 ||| f.2) (fun i j => fdiv (b.at_ i j) f.1)
      let y := newton n p4 32 x (FMat.one n)
      let c := invRoot p4 f.1
      (.of n (y.2 ||| c.2) (fun i j => fmul (y.at_ i j) c.1), r)
    | none =>
      let b := damp 3
      let l := fmul lambda (.fin false 1000 0)
      let m := fmul l.1 tr.1
      let low := fdiv m.1 (.fin false n 0)
      (.of n (b.2 ||| l.2 ||| m.2 ||| low.2) (fun i j =>
        if i = j then invRoot p4 (if (b.at_ i i).lt low.1 then low.1 else b.at_ i i) else (.zero, 0)), 7)

/-- The home check of FACTOR_REFRESH (R280, R298). -/
def State.factorCheck (s : State) (c : InFlight) : Code :=
  let b := c.ext
  let tau := f32 (leAt b 20 4)
  let lambda := f32 (leAt b 16 4)
  let count := leAt b 8 4
  firstCode [
    (c.cmd.sub != 0, 0x0902), (c.cmd.opFlags != 0 || c.cmd.arg != 0, 0x0101),
    (bitsAt b 12 31 1 != 0 || leAt b 32 32 != 0 || count == 0 || decide (4096 < count), 0x090B),
    (!lambda.isFin || !(Val.zero.lt lambda) || !(Val.zero.lt tau) || !tau.lt .one, 0x090B),
    (true, s.ownCode c.part (leAt b 0 8) (32 * count)), (true, s.ownCode c.part (leAt b 24 8) (4 * count))]

/-- What a FACTOR_REFRESH has done so far: the state, bytes of its outputs, INFO bits and its end. -/
structure FactorRun where
  s : State
  good : Nat
  info : Nat
  code : Code
  bad : Nat × Nat

/-- One block of a list. -/
def FactorRun.block (x : FactorRun) (c : InFlight) (fe : Nat) (list : List Byte) (i : Nat) : FactorRun :=
  if x.code ≠ 0 then x
  else
    let n := leAt list (32 * i + 16) 4
    let src := leAt list (32 * i) 8
    match x.s.rdDev (some c.part) src (4 * n * n) with
    | .error e => { x with code := e, bad := (src, 4 * n * n) }
    | .ok b =>
      let a : FMat := .of n 0 (fun r k => let v := f32 (leAt b (4 * (r * n + k)) 4); (v, if v.isNan then fNAN else 0))
      let (p, word) := factorBlock n (bitsAt c.ext 12 0 0 == 1) (f32 (leAt c.ext 16 4)) (f32 (leAt c.ext 20 4)) a
      let w := x.s.wrAll c.part [(leAt list (32 * i + 8) 8, p.1.flatten.flatMap (fun v => leBytes 4 (toF32 v))),
        (leAt c.ext 24 8 + 4 * i, leBytes 4 word)]
      let s := w.1.addFld (page 5 fe) Fld.CDIE_FE_BLOCKS_COUNT 1
      let fell := word.testBit 2
      { s := if fell then s.addFld (page 5 fe) Fld.CDIE_FE_FALLBACK_COUNT 1 else s
        good := if w.2 = 0 then x.good + 4 * n * n else x.good
        info := x.info ||| ((a.2 ||| p.2) % 64) * 256 ||| (if fell then 2 ^ 16 else 0), code := w.2, bad := (0, 0) }

/-- The entries of a block list are in range and name memory of the partition (R298). -/
def State.factorListCode (s : State) (p : Nat) (list : List Byte) (count : Nat) : Code :=
  firstCode ((List.range count).flatMap (fun i =>
    let n := leAt list (32 * i + 16) 4
    [(n == 0 || decide (128 < n) || leAt list (32 * i + 20) 12 != 0, 0x090B),
     (true, s.ownCode p (leAt list (32 * i) 8) (4 * n * n)), (true, s.ownCode p (leAt list (32 * i + 8) 8) (4 * n * n))]))

/-- FACTOR_REFRESH runs on the Factor Engine that serves its cluster's die (R298, R447). -/
def State.factorStart (s : State) (c : InFlight) : State :=
  match s.served? 17 (c.ccp / 8) with
  | none => s.endCmd c.ring c.seq 0x0103 0
  | some fe =>
    let count := leAt c.ext 8 4
    match s.rdDev (some c.part) (leAt c.ext 0 8) (32 * count) with
    | .error e => s.stopCmd c e 0 (leAt c.ext 0 8) (32 * count)
    | .ok list =>
      let e := s.factorListCode c.part list count
      if e ≠ 0 then s.endCmd c.ring c.seq e 0
      else
        let x := (List.range count).foldl (fun x i => FactorRun.block x c fe list i) ⟨s, 0, 0, 0, (0, 0)⟩
        let s := x.s.observe.modCmd c.ring c.seq (fun y => { y with info := y.info ||| x.info })
        s.stopCmd c x.code x.good x.bad.1 x.bad.2

/-- FACTOR_REFRESH (R299). -/
def factorCmd (s : State) (r q : Nat) : State := s.runCmd 0x53 r q State.factorStart

/-- FACTOR_REFRESH (R299). -/
def execFactorRefresh (ring seq : Nat) (s : State) : Host.Outcome State Fault Refusal := State.done (factorCmd s ring seq)

end Sys2Proof.Machine
end

