-- ==== Sys2Proof/Machine/Fuller.lean ====
section
/-!
DEFINITION. The Fullers (11): the container's chunks and entropy stage, FUL_PACK and FUL_UNPACK.
-/
namespace Sys2Proof.Machine

open Sys2Proof

/-! ### The entropy stage (R259, R260) -/

/-- Frequencies of the runs of 2 to 64 zeros. -/
def runFreqs : List Nat := (List.range 63).map (fun i => 512 / (i + 2))

/-- T_P, T_S and T_U as their symbols' frequencies (R259, Tables 11.3 and 11.4). -/
def ransTable : Nat → List Nat
  | 0 => [(16, 32), (16, 16), (16, 8), (16, 4), (16, 2), (175, 1), (1, 1039)].flatMap (fun x => List.replicate x.1 x.2) ++ runFreqs
  | 1 => [(8, 64), (8, 32), (8, 16), (8, 8), (8, 4), (8, 2), (15, 1), (20, 4), (1, 1103)].flatMap (fun x => List.replicate x.1 x.2) ++ runFreqs
  | _ => List.replicate 256 16

/-- Frequency and cumulative value of a symbol. -/
def ransSym (t s : Nat) : Nat × Nat := ((ransTable t).getD s 1, ((ransTable t).take s).sum)

/-- The symbol of a slot. -/
def ransFind (slot : Nat) : List Nat → Nat → Nat → Nat
  | [], s, _ => s
  | f :: r, s, cum => if slot < cum + f then s else ransFind slot r (s + 1) (cum + f)

/-- Push the bytes that make room for a symbol. -/
def ransShrink (fr : Nat) : Nat → Nat × List Byte → Nat × List Byte
  | 0, x => x
  | n + 1, (x, out) => if fr * 2 ^ 19 ≤ x then ransShrink fr n (x / 256, BitVec.ofNat 8 x :: out) else (x, out)

/-- The encoder (R259): symbols with their tables, coded last to first. -/
def ransEncode (syms : List (Nat × Nat)) : List Byte :=
  let r := syms.foldr (fun s a =>
    let (fr, cum) := ransSym s.1 s.2
    let (x, out) := ransShrink fr 4 a
    (x / fr * 2 ^ 12 + x % fr + cum, out)) (2 ^ 23, ([] : List Byte))
  beBytes 4 r.1 ++ r.2

/-- A stream under decoding: the state x, and the bytes not yet consumed. -/
abbrev Rans := Nat × List Byte

/-- Take the bytes that refill the state; none when the stream has run out. -/
def ransFill (x : Nat) : List Byte → Option Rans
  | [] => if 2 ^ 23 ≤ x then some (x, []) else none
  | b :: t => if 2 ^ 23 ≤ x then some (x, b :: t) else ransFill (x * 256 + b.toNat) t

/-- Start a stream. -/
def ransStart (bs : List Byte) : Option Rans := if bs.length < 4 then none else some (beNat (bs.take 4), bs.drop 4)

/-- Decode one symbol of a table (R259). -/
def ransNext (t : Nat) (r : Rans) : Option (Nat × Rans) :=
  let slot := r.1 % 4096
  let s := ransFind slot (ransTable t) 0 0
  let (fr, cum) := ransSym t s
  (ransFill (fr * (r.1 / 4096) + slot - cum) r.2).map (fun x => (s, x))

/-- The stream ended as a valid one does (R259). -/
def ransDone (r : Rans) : Bool := r.1 == 2 ^ 23 && r.2.isEmpty

/-- The symbols of a list of non-negative numbers: maximal zero runs of at most 64 and `lit` for the others (R260). -/
def runSymbols (t base : Nat) (lit : Nat → List (Nat × Nat)) : List Nat → Nat → List (Nat × Nat)
  | [], run => if run = 0 then [] else [(t, base + run)]
  | z :: r, run =>
    if z = 0 then
      if run = 63 then (t, base + 64) :: runSymbols t base lit r 0 else runSymbols t base lit r (run + 1)
    else (if run = 0 then [] else [(t, base + run)]) ++ lit z ++ runSymbols t base lit r 0

/-! ### PACK (R261) -/

/-- Folded values of a byte plane, plain or delta. -/
def planeFold (delta : Bool) : Nat → List Nat → List Nat
  | _, [] => []
  | prev, b :: r =>
    let v := if delta then (b + 256 - prev) % 256 else b
    (if v < 128 then 2 * v else 511 - 2 * v) :: planeFold delta b r

/-- The coded stream of a plane. -/
def planeStream (delta : Bool) (bs : List Nat) : List Byte :=
  ransEncode (runSymbols 0 254 (fun f => [(0, f - 1)]) (planeFold delta 0 bs) 0)

/-- A plane as the encoder writes it: its mode and bytes. -/
def planeEncode (bs : List Nat) : Nat × List Byte :=
  let a := planeStream false bs
  let b := planeStream true bs
  let m := if b.length < a.length then (1, b) else (0, a)
  if bs.length ≤ m.2.length then (2, bs.map (BitVec.ofNat 8)) else m

/-- The payload and PLANE_MODE of a PACK chunk of elements of `es` bytes. -/
def packPayload (es : Nat) (xs : List Nat) : List Byte × Nat :=
  let ps := (List.range es).map (fun j => planeEncode (xs.map (fun x => x / 256 ^ j % 256)))
  (ps.flatMap (fun p => leBytes 4 p.2.length) ++ ps.flatMap (fun p => p.2),
    (List.range es).foldl (fun m j => m + (ps.getD j (0, [])).1 * 4 ^ j) 0)

/-- Decode `n` folded values in T_P. -/
def planeDecode : Nat → Nat → Rans → Option (List Nat × Rans)
  | 0, n, r => if n = 0 then some ([], r) else none
  | fuel + 1, n, r =>
    if n = 0 then some ([], r)
    else match ransNext 0 r with
      | none => none
      | some (s, r) =>
        if 255 ≤ s then
          if n < s - 254 then none
          else (planeDecode fuel (n - (s - 254)) r).map (fun x => (List.replicate (s - 254) 0 ++ x.1, x.2))
        else (planeDecode fuel (n - 1) r).map (fun x => ((s + 1) :: x.1, x.2))

/-- Bytes of a plane from its folded values. -/
def planeUnfold (delta : Bool) : Nat → List Nat → List Nat
  | _, [] => []
  | prev, f :: r =>
    let v := if f % 2 = 0 then f / 2 else 256 - (f + 1) / 2
    let b := if delta then (prev + v) % 256 else v % 256
    b :: planeUnfold delta b r

/-- Decode a plane; none when it is corrupt. -/
def planeBytesOf (mode n : Nat) (bs : List Byte) : Option (List Nat) :=
  match mode with
  | 2 => if bs.length = n then some (bs.map (fun b => b.toNat)) else none
  | 3 => none
  | m => (ransStart bs).bind (fun r => (planeDecode n n r).bind (fun x =>
      if ransDone x.2 then some (planeUnfold (m == 1) 0 x.1) else none))

/-- Decode the planes of a PACK payload, one after another. -/
def planesOf (modes n : Nat) : List Nat → Nat → List Byte → Option (List (List Nat))
  | [], _, bs => if bs.isEmpty then some [] else none
  | l :: ls, j, bs =>
    if bs.length < l then none
    else match planeBytesOf (modes / 4 ^ j % 4) n (bs.take l), planesOf modes n ls (j + 1) (bs.drop l) with
      | some p, some ps => some (p :: ps)
      | _, _ => none

/-- Elements of a PACK payload. -/
def packElems (es n modes : Nat) (bs : List Byte) : Option (List Nat) :=
  if bs.length < 4 * es then none
  else (planesOf modes n ((List.range es).map (fun j => leAt bs (4 * j) 4)) 0 (bs.drop (4 * es))).map (fun ps =>
    (List.range n).map (fun i => (List.range es).foldl (fun v j => v + (ps.getD j []).getD i 0 * 256 ^ j) 0))

/-! ### SHRINK (R262 to R264) -/

/-- `v × 2^−e` rounded to a whole number, ties to even. -/
def rneInt (v : Val) (e : Int) : Int :=
  match v with
  | .fin neg m x =>
    let q := (roundAt m 1 x e 0 0).1
    if neg then -(q : Int) else q
  | _ => 0

/-- The value of an integer of a quantised block: n × 2^e converted, +0 for 0 (R262). -/
def shrinkDec (k : Kind) (e n : Int) : FVal := if n = 0 then (.zero, 0) else k.round 0 0 (Val.ofInt n e)

/-- The step exponent of a block: e0 and the choice, none for RAW (R262). -/
def chooseE (k : Kind) (epsAbs epsRel : Val) (vs : List Val) : Int × Option Int :=
  let b := (fmul epsRel (amaxOf vs)).1
  let beta := if epsAbs.lt b then b else epsAbs
  match beta with
  | .fin _ m x =>
    if m = 0 || vs.any (fun v => !v.isFin) then (0, none)
    else
      let e0 := lead2 m x + 1
      let ok (e : Int) : Bool := vs.all (fun v =>
        let n := rneInt v e
        let d := (shrinkDec k e n).1
        decide (n.natAbs < 2 ^ 23) && d.isFin && !(beta.lt (addX d v.neg).1.abs))
      let inside (e : Int) : Bool := decide (-149 ≤ e) && decide (e ≤ 105)
      (e0, if !inside e0 then none else if ok e0 then some e0 else if !inside (e0 - 1) then none
        else if ok (e0 - 1) then some (e0 - 1) else if !inside (e0 - 2) then none else if ok (e0 - 2) then some (e0 - 2) else none)
  | _ => (0, none)

/-- Escaped bytes of z: class, then z − 2^c least significant first (R260). -/
def escapeSyms (z : Nat) : List (Nat × Nat) :=
  let c := Nat.log2 z
  (1, 57 + c) :: (leBytes ((c + 7) / 8) (z - 2 ^ c)).map (fun b => (2, b.toNat))

/-- Symbols of a block's integers (R263). -/
def shrinkSyms (ns : List Int) : List (Nat × Nat) :=
  runSymbols 1 82 (fun z => if z < 64 then [(1, z - 1)] else escapeSyms z)
    (ns.map (fun n => if 0 ≤ n then (2 * n).toNat else (-2 * n - 1).toNat)) 0

/-- The integer of a zigzagged number. -/
def unzigzag (z : Nat) : Int := if z % 2 = 0 then (z / 2 : Nat) else -((z + 1) / 2 : Nat)

/-- Take `n` bytes coded in T_U. -/
def uBytes : Nat → Rans → Option (List Byte × Rans)
  | 0, r => some ([], r)
  | n + 1, r => (ransNext 2 r).bind (fun x => (uBytes n x.2).map (fun y => (BitVec.ofNat 8 x.1 :: y.1, y.2)))

/-- Decode `n` integers of a block. -/
def shrinkInts : Nat → Nat → Rans → Option (List Int × Rans)
  | 0, n, r => if n = 0 then some ([], r) else none
  | fuel + 1, n, r =>
    if n = 0 then some ([], r)
    else match ransNext 1 r with
      | none => none
      | some (s, r) =>
        if s < 63 then (shrinkInts fuel (n - 1) r).map (fun x => (unzigzag (s + 1) :: x.1, x.2))
        else if s < 83 then
          let c := s - 57
          match uBytes ((c + 7) / 8) r with
          | none => none
          | some (bs, r) =>
            if 2 ^ c ≤ leNat bs then none
            else (shrinkInts fuel (n - 1) r).map (fun x => (unzigzag (2 ^ c + leNat bs) :: x.1, x.2))
        else if n < s - 82 then none
        else (shrinkInts fuel (n - (s - 82)) r).map (fun x => (List.replicate (s - 82) 0 ++ x.1, x.2))

/-- One level of the lifting transform along a line (R264). -/
def liftLine : List Int → List Int × List Int
  | a :: b :: r =>
    let h := a - b
    let l := b + h / 2
    let x := liftLine r
    (l :: x.1, h :: x.2)
  | _ => ([], [])

/-- The inverse along a line. -/
def unliftLine : List Int → List Int → List Int
  | l :: ls, h :: hs => let b := l - h / 2; (b + h) :: b :: unliftLine ls hs
  | _, _ => []

/-- Replace the top-left s × s region of a 16 × 16 array, every row and then every column, or the other way round. -/
def mapRows (s : Nat) (f : List Int → List Int) (t : List (List Int)) : List (List Int) :=
  (List.range 16).map (fun y => let r := t.getD y []; if y < s then f (r.take s) ++ r.drop s else r)

/-- The transpose of a 16 × 16 array. -/
def transpose16 (t : List (List Int)) : List (List Int) :=
  (List.range 16).map (fun x => (List.range 16).map (fun y => (t.getD y []).getD x 0))

/-- The transform of a tile (R264). -/
def liftTile (t : List (List Int)) : List (List Int) :=
  [16, 8, 4].foldl (fun t s =>
    let f (u : List Int) := let x := liftLine u; x.1 ++ x.2
    transpose16 (mapRows s f (transpose16 (mapRows s f t)))) t

/-- The inverse transform. -/
def unliftTile (t : List (List Int)) : List (List Int) :=
  [4, 8, 16].foldl (fun t s =>
    let f (u : List Int) := unliftLine (u.take (s / 2)) (u.drop (s / 2))
    mapRows s f (transpose16 (mapRows s f (transpose16 t)))) t

/-- A tile's integers in a 16 × 16 array, slots outside the plane filled (R264). -/
def fillTile (w : Nat) (ns : List Int) : List (List Int) :=
  let rows := pieces w 16 ns
  let wide := rows.map (fun r => r ++ List.replicate (16 - r.length) (r.getLast?.getD 0))
  wide ++ List.replicate (16 - wide.length) (wide.getLast?.getD [])

/-! ### The descriptor (Table 11.1) -/

/-- A Fuller descriptor. -/
structure FulDesc where
  unc : Nat
  cont : Nat
  bytes : Nat
  rows : Nat
  elems : Nat
  stride : Nat
  fmt : Nat
  castFmt : Nat
  tiled : Bool
  chInner : Bool
  round : Nat
  scaleSrc : Nat
  host : Bool
  port : Nat
  w : Nat
  h : Nat
  chans : Nat
  epsAbs : Nat
  epsRel : Nat
  conv : Nat
  rec_ : Nat
  result : Nat
  rand : Rand
  rsvd : Bool
  deriving DecidableEq, Repr

/-- The descriptor of a Fuller command. -/
def fulDesc (b : List Byte) : FulDesc :=
  { unc := leAt b 0 8, cont := leAt b 8 8, bytes := leAt b 16 8, rows := leAt b 24 4, elems := leAt b 28 4, stride := leAt b 32 8,
    fmt := bitsAt b 40 4 0, castFmt := bitsAt b 40 9 5, tiled := bitsAt b 40 10 10 == 1, chInner := bitsAt b 40 11 11 == 1,
    round := bitsAt b 40 13 12, scaleSrc := bitsAt b 40 15 14, host := bitsAt b 40 16 16 == 1, port := bitsAt b 40 17 17,
    w := leAt b 44 2, h := leAt b 46 2, chans := leAt b 48 4, epsAbs := leAt b 52 4, epsRel := leAt b 56 4, conv := leAt b 60 4,
    rec_ := leAt b 64 8, result := leAt b 72 8, rand := randAt b 80, rsvd := bitsAt b 40 31 18 != 0 || leAt b 96 32 != 0 }

/-- Bytes of an element of the view. -/
def FulDesc.es (d : FulDesc) : Nat := fmtBits d.fmt / 8
/-- Elements of the view. -/
def FulDesc.total (d : FulDesc) : Nat := d.rows * d.elems
/-- Rows of tiles and tiles in a row of a plane (R258). -/
def FulDesc.th (d : FulDesc) : Nat := ceilDiv d.h 16
def FulDesc.tw (d : FulDesc) : Nat := ceilDiv d.w 16

/-- Logical index of an element of a TILED view (R255). -/
def FulDesc.tileIdx (d : FulDesc) (k y x : Nat) : Nat :=
  if d.chInner then y * d.elems + (x * d.chans + k) else (k * d.h + y) * d.elems + x

/-- Units of a view, by mode (R258). -/
def FulDesc.units (d : FulDesc) (mode : Nat) : Nat :=
  if mode ≠ 2 then d.total else if d.tiled then d.chans * (d.th * d.tw) else ceilDiv d.total 256

/-- Units of a full chunk. -/
def FulDesc.perChunk (d : FulDesc) (mode : Nat) : Nat := if mode ≠ 2 then 65536 / d.es else 256 / d.es

/-- Chunks of a view. -/
def FulDesc.chunks (d : FulDesc) (mode : Nat) : Nat := ceilDiv (d.units mode) (d.perChunk mode)

/-- The units of chunk `i`. -/
def FulDesc.chunkUnits (d : FulDesc) (mode i : Nat) : List Nat :=
  let f := i * d.perChunk mode
  (List.range (min (d.perChunk mode) (d.units mode - f))).map (fun u => f + u)

/-- Logical indices of the real elements of a unit, and the width of a tile. -/
def FulDesc.unitElems (d : FulDesc) (mode u : Nat) : List Nat × Nat :=
  if mode ≠ 2 then ([u], 1)
  else if d.tiled then
    let (ty, tx, k) := (u / d.tw % d.th, u % d.tw, u / d.tw / d.th)
    let ys := (List.range (min 16 (d.h - 16 * ty))).map (fun y => 16 * ty + y)
    let xs := (List.range (min 16 (d.w - 16 * tx))).map (fun x => 16 * tx + x)
    (ys.flatMap (fun y => xs.map (fun x => d.tileIdx k y x)), xs.length)
  else ((List.range (min 256 (d.total - 256 * u))).map (fun j => 256 * u + j), 256)

/-- Address of an element of the view. -/
def FulDesc.addr (d : FulDesc) (i : Nat) : Nat := d.unc + i / d.elems * d.stride + i % d.elems * d.es

/-! ### The home check (R255, R256) -/

/-- A device range lies in the partition's SP, CM or HBM (R253). -/
def State.ownRange (s : State) (p a n : Nat) : Bool :=
  if isSp a then decide ((a - spBase) % 0x800000 + n ≤ 6 * 2 ^ 20) && s.ownCode p a 1 == 0 else s.cmOrHbm p a n

/-- The code of a device range that must lie in the partition's SP, CM or HBM (R253, R305). -/
def State.ownRangeCode (s : State) (p a n : Nat) : Code := s.outCode p a (s.ownRange p a n) false

/-- The code of a scale register. -/
def badEps (w : Nat) : Bool := let v := f32 w; !v.isFin || (v.isNeg && !v.isZero)

/-- The home check of a Fuller command. -/
def State.fulCheck (s : State) (c : InFlight) : Code :=
  let d := fulDesc c.ext
  let p := c.part
  let mode := if c.cmd.op = 0x29 then 0 else c.cmd.sub
  let plain := !([0, 1, 2, 3, 4, 15].contains d.fmt)
  let mx := decide (5 ≤ d.castFmt) && decide (d.castFmt ≤ 10)
  let rowRange (r : Nat) : Nat × Nat := (d.unc + r * d.stride, d.elems * d.es)
  let cast := mode == 3
  let early := firstCode [
    ((c.cmd.op == 0x29 && c.cmd.sub != 0) || (c.cmd.op == 0x28 && !([1, 2, 3].contains c.cmd.sub)), 0x0801),
    (c.cmd.opFlags != 0 || c.cmd.arg != 0 || d.rsvd, 0x0101),
    (d.tiled && (mode == 1 || mode == 3), 0x0803),
    (!cast && (d.castFmt != 0 || d.round != 0 || d.scaleSrc != 0 || d.conv != 0 || d.rec_ != 0 || leAt c.ext 80 16 != 0), 0x0101),
    (cast && ((d.scaleSrc != 1 && d.conv != 0) || (d.scaleSrc != 2 && d.rec_ != 0) || (d.round != 2 && leAt c.ext 80 16 != 0)), 0x0101),
    (!d.tiled && (d.chInner || d.w != 0 || d.h != 0 || d.chans != 0), 0x0101),
    (mode != 2 && (d.epsAbs != 0 || d.epsRel != 0), 0x0101), (!d.host && d.port != 0, 0x0101),
    (decide (16 ≤ d.fmt) || (cast && decide (16 ≤ d.castFmt)), 0x0401),
    (plain || ((mode == 2 || cast) && decide (2 < d.fmt)) || (cast && !(decide (3 ≤ d.castFmt) && decide (d.castFmt ≤ 10))), 0x0402),
    (cast && d.round == 3, 0x0403),
    (d.rows == 0 || d.elems == 0 || decide (2 ^ 40 < d.total) || decide (d.stride < d.elems * d.es), 0x0102),
    (mode == 2 && (badEps d.epsAbs || badEps d.epsRel), 0x0802),
    (d.tiled && (d.w == 0 || d.h == 0 || d.chans == 0 || (if d.chInner then d.rows != d.h || d.elems != d.w * d.chans
      else d.rows != d.h * d.chans || d.elems != d.w)), 0x0803),
    (cast && (d.scaleSrc == 3 || (d.scaleSrc != 0 && mx) || (mx && d.elems % 32 != 0)), 0x0803),
    (cast && d.round == 2 && decide (2 ^ 31 ≤ d.rand.stream), 0x0404),
    (d.scaleSrc == 1 && !scaleOk d.conv, 0x0406), (d.scaleSrc == 2 && d.rec_ % 16 != 0, 0x0108),
    (d.cont % 64 != 0, 0x0804), (d.result % 32 != 0, 0x0108)]
  if early ≠ 0 then early
  else firstCode [
    (d.host && !s.reachable d.port p, 0x030A), (!d.host && !s.ownRange p d.cont d.bytes, 0x0804),
    (true, firstCode ((List.range d.rows).map (fun r => (true, s.ownRangeCode p (rowRange r).1 (rowRange r).2)))),
    (d.result != 0, s.ownRangeCode p d.result 32),
    (d.scaleSrc == 2, s.ownRangeCode p d.rec_ 16),
    (!d.host && ((d.result != 0 && rangesMeet (d.cont, d.bytes) (d.result, 32)) ||
      (List.range d.rows).any (fun r => rangesMeet (d.cont, d.bytes) (rowRange r))), 0x0804)]

/-! ### Chunks (R257, R258, R265) -/

/-- A chunk header (Table 11.2). -/
structure FulHead where
  mode : Nat
  fmt : Nat
  stored : Nat
  last : Bool
  tiled : Bool
  raw : Bool
  planes : Nat
  index : Nat
  units : Nat
  first : Nat
  total : Nat
  w : Nat
  h : Nat
  chans : Nat
  param0 : Nat
  param1 : Nat
  rawBytes : Nat
  payload : Nat
  deriving DecidableEq, Repr

/-- The header's 64 bytes. -/
def FulHead.bytes (x : FulHead) : List Byte :=
  leBytes 2 0xF0C1 ++ leBytes 1 1 ++ leBytes 1 x.mode ++ leBytes 1 x.fmt ++ leBytes 1 x.stored ++
    leBytes 1 ((if x.last then 1 else 0) + (if x.tiled then 2 else 0) + (if x.raw then 4 else 0)) ++ leBytes 1 x.planes ++
    leBytes 4 x.index ++ leBytes 4 x.units ++ leBytes 8 x.first ++ leBytes 8 x.total ++ leBytes 2 x.w ++ leBytes 2 x.h ++
    leBytes 4 x.chans ++ leBytes 4 x.param0 ++ leBytes 4 x.param1 ++ leBytes 4 x.rawBytes ++ leBytes 4 x.payload ++ leBytes 8 0

/-- The header read from its bytes. -/
def fulHead (b : List Byte) : FulHead :=
  { mode := leAt b 3 1, fmt := bitsAt b 4 4 0, stored := bitsAt b 5 4 0, last := bitsAt b 6 0 0 == 1, tiled := bitsAt b 6 1 1 == 1,
    raw := bitsAt b 6 2 2 == 1, planes := leAt b 7 1, index := leAt b 8 4, units := leAt b 12 4, first := leAt b 16 8,
    total := leAt b 24 8, w := leAt b 32 2, h := leAt b 34 2, chans := leAt b 36 4, param0 := leAt b 40 4, param1 := leAt b 44 4,
    rawBytes := leAt b 48 4, payload := leAt b 52 4 }

/-- MAGIC or VERSION is wrong, or a reserved field is not 0 (Table 11.7). -/
def badHead (b : List Byte) : Bool :=
  leAt b 0 2 != 0xF0C1 || leAt b 2 1 != 1 || bitsAt b 4 7 5 != 0 || bitsAt b 5 7 5 != 0 || bitsAt b 6 7 3 != 0 || leAt b 56 8 != 0

/-- A coded payload: its bytes, PLANE_MODE, flags, RAW blocks, and whether some block was tightened. -/
structure Coded where
  bytes : List Byte
  planes : Nat
  flags : Nat
  rawBlocks : Nat
  tight : Bool

/-- The symbols of one SHRINK unit (R263, R264). -/
def shrinkUnit (d : FulDesc) (xs : List Nat) (w : Nat) : List (Nat × Nat) × Nat × Nat × Bool :=
  let k := kindOf d.fmt
  let vs := xs.map k.decode
  let nf := if vs.any (fun v => !v.isFin) then fNAN else 0
  let (e0, e) := chooseE k (f32 d.epsAbs) (f32 d.epsRel) vs
  match e with
  | none => ((2, 255) :: xs.flatMap (fun x => (leBytes d.es x).map (fun b => (2, b.toNat))), nf, 1, false)
  | some e =>
    let ns := vs.map (fun v => rneInt v e)
    let cs := if d.tiled then (liftTile (fillTile w ns)).flatten else ns
    ((2, (e + 149).toNat) :: shrinkSyms cs, nf, 0, decide (e < e0))

/-- Bits packed little-endian into bytes, `w` bits each (Table 5.3). -/
def packBits (w : Nat) (xs : List Nat) : List Byte :=
  leBytes (ceilDiv (w * xs.length) 8) (xs.foldr (fun x a => a * 2 ^ w + x % 2 ^ w) 0)

/-- The payload of a CAST chunk (R265): logical index of its first element and the scale in use. -/
def castPayload (d : FulDesc) (first scale : Nat) (xs : List Nat) : List Byte × Nat :=
  let vs := xs.map (kindOf d.fmt).decode
  let rs (i : Nat) : Nat := if d.round = 2 then d.rand.sr (first + i) else 0
  let seen := if vs.any Val.isNan then fNAN else 0
  if isMx d.castFmt then
    let es := (List.range (vs.length / 32)).map (fun b =>
      mxEncode d.castFmt ((vs.drop (32 * b)).take 32) d.round ((List.range 32).map (fun i => rs (32 * b + i))))
    (packBits (fmtBits d.castFmt) (es.flatMap (fun e => e.2.1)) ++ es.map (fun e => BitVec.ofNat 8 e.1),
      es.foldl (fun f e => f ||| e.2.2) seen)
  else
    let k := kindOf d.castFmt
    let ys := (List.range vs.length).map (fun i => convUnder k d.round (rs i) (vs.getD i .zero) (f32 scale))
    (ys.map (fun y => BitVec.ofNat 8 (k.encode y.1)), ys.foldl (fun f y => f ||| y.2) seen)

/-- The coded payload of a chunk from its units' elements (R261 to R265). -/
def codeChunk (d : FulDesc) (mode first scale : Nat) (us : List (List Nat × Nat)) : Coded :=
  match mode with
  | 1 => let p := packPayload d.es (us.flatMap (fun u => u.1)); ⟨p.1, p.2, 0, 0, false⟩
  | 2 =>
    let ss := us.map (fun u => shrinkUnit d u.1 u.2)
    ⟨ransEncode (ss.flatMap (fun x => x.1)), 0, ss.foldl (fun f x => f ||| x.2.1) 0, (ss.map (fun x => x.2.2.1)).sum, ss.any (fun x => x.2.2.2)⟩
  | _ => let p := castPayload d first scale (us.flatMap (fun u => u.1)); ⟨p.1, 0, p.2, 0, false⟩

/-- The whole chunk: header, payload, CRC and padding (R257). -/
def chunkBytes (h : FulHead) (payload : List Byte) : List Byte :=
  let b := h.bytes ++ payload
  let b := b ++ leBytes 4 (crc32c b)
  b ++ List.replicate (alignUp b.length 64 - b.length) 0

/-! ### Moving bytes -/

/-- The Fuller a command runs on (R252). -/
def State.fulOf (s : State) (c : InFlight) : Option Nat := s.served? 10 (c.ccp / 8)

/-- The start numbers of the commands a Fuller runs: the first four of those started on it whose work has not ended and whose contexts
hold their units (R252). -/
def State.fulRunning (s : State) (f : Nat) : List Nat :=
  let ns := (s.cmds.filter (fun c => (c.cmd.op == 0x28 || c.cmd.op == 0x29) && c.issued && s.fulOf c == some f && !s.draining c &&
    !s.partAsleep c.part)).map (fun c => c.startNo)
  ns.filter (fun n => decide ((ns.filter (fun m => decide (m < n))).length < 4))

/-- The start number whose turn it is on a Fuller: the next in start order after the last that took a chunk, and round again (R252). -/
def State.fulTurn (s : State) (f : Nat) : Option Nat :=
  let ns := s.fulRunning f
  let later := ns.filter (fun n => decide (SMap.getD s.fulLast f 0 < n))
  if later.isEmpty then ns.min? else later.min?

/-- A chunk is taken by the command whose turn it is; another one waits (R252). -/
def State.fulStep (s : State) (c : InFlight) (next : State → Nat → State) : State :=
  let now := (s.cmdAt? c.ring c.seq).getD c
  match s.fulOf c with
  | none => s.endCmd c.ring c.seq 0x0103 now.good
  | some f => if s.fulTurn f = some now.startNo then next { s with fulLast := SMap.put s.fulLast f now.startNo } f else s

/-- Read bytes of the container (R253, R271). -/
def State.contRead (s : State) (c : InFlight) (d : FulDesc) (o n : Nat) : Except Code (List Byte) :=
  if d.host then (if s.cmdHostCode c d.port (d.cont + o) n ≠ 0 then .error 0x080B else .ok (s.rdHost d.port (d.cont + o) n))
  else s.rdDev (some c.part) (d.cont + o) n

/-- Read the elements of a unit as words. -/
def State.unitRead (s : State) (p : Nat) (d : FulDesc) (is : List Nat) : Except Code (List Nat) :=
  is.mapM (fun i => match s.rdDev (some p) (d.addr i) d.es with | .ok b => .ok (leNat b) | .error e => .error e)

/-- Progress of a Fuller command: next chunk, container offset, RAW blocks and STORED chunks written, uncompressed bytes, mode of the
container (unpacking), scale word (CAST). -/
def fulProg (c : InFlight) (i : Nat) : Nat := c.prog.getD i 0

/-- Saturating counters of the FUL page (Table 11.6). -/
def State.fulCount (s : State) (f unc cont raw stored : Nat) : State :=
  let pg := page 10 f
  (((s.addFld pg Fld.FUL_UNC_BYTES_COUNT unc).addFld pg Fld.FUL_CONT_BYTES_COUNT cont).addFld pg Fld.FUL_RAW_BLOCKS_COUNT raw).addFld
    pg Fld.FUL_STORED_COUNT stored

/-- A Fuller command is done: the result record, then its end (R268). -/
def State.fulDone (s : State) (c : InFlight) (d : FulDesc) (good : Nat) : State :=
  let now := (s.cmdAt? c.ring c.seq).getD c
  if d.result = 0 then s.endCmd c.ring c.seq 0 good
  else
    let b := leBytes 8 (fulProg now 1) ++ leBytes 8 (fulProg now 4) ++ leBytes 4 (fulProg now 0) ++
      leBytes 4 (min (fulProg now 2) 0xFFFFFFFF) ++ leBytes 4 (fulProg now 3) ++ leBytes 4 0
    let w := s.wrDev (some c.part) d.result b
    w.1.endCmd c.ring c.seq w.2.2 good

/-! ### FUL_PACK (R258, R268, R269) -/

/-- The bytes of chunk `i` of a view, with its coding and raw length. -/
def State.makeChunk (s : State) (c : InFlight) (d : FulDesc) (i scale : Nat) : Except Code (List Byte × Coded × Nat × Bool) :=
  let mode := c.cmd.sub
  let us := d.chunkUnits mode i
  match us.mapM (fun u => let e := d.unitElems mode u; (s.unitRead c.part d e.1).map (fun xs => (xs, e.2))) with
  | .error e => .error e
  | .ok xs =>
    let all := xs.flatMap (fun x => x.1)
    let first := us.headD 0
    let k := codeChunk d mode first scale xs
    let n := all.length * d.es
    let raw := decide (n < k.bytes.length)
    let body := if raw then all.flatMap (leBytes d.es) else k.bytes
    let h : FulHead := {
      mode := mode, fmt := d.fmt, stored := if mode = 3 then d.castFmt else d.fmt, last := i + 1 == d.chunks mode, tiled := d.tiled,
      raw := raw, planes := if raw then 0 else k.planes, index := i, units := us.length, first := first, total := d.total,
      w := d.w, h := d.h, chans := d.chans,
      param0 := if mode = 2 then d.epsAbs else if mode = 3 && !isMx d.castFmt then scale else 0,
      param1 := if mode = 2 then d.epsRel else 0, rawBytes := n, payload := body.length }
    .ok (chunkBytes h body, if raw then { k with rawBlocks := 0, tight := false } else k, n, raw)

/-- Write one chunk (R268, R269, R271). -/
def State.packNext (s : State) (c : InFlight) : State :=
  s.fulStep c fun s f =>
  let now := (s.cmdAt? c.ring c.seq).getD c
  let d := fulDesc c.ext
  let (i, off, good) := (fulProg now 0, fulProg now 1, now.good)
  match s.makeChunk c d i (fulProg now 6) with
    | .error e =>
      let rs := (d.chunkUnits c.cmd.sub i).flatMap (fun u => (d.unitElems c.cmd.sub u).1)
      match (if e = 0xF001 then rs.findSome? (fun j => s.badDev? (some c.part) (d.addr j) d.es) else none) with
      | some k => s.stopBad c k good
      | none => s.endCmd c.ring c.seq e good
    | .ok (b, k, n, raw) =>
      if d.bytes < off + b.length then s.endCmd c.ring c.seq 0x0805 good
      else
        let w : State × Nat × Code :=
          if d.host then
            (if s.cmdHostCode now d.port (d.cont + off) b.length ≠ 0 then (s, 0, 0x080B) else (s.wrHost d.port (d.cont + off) b, b.length, 0))
          else s.wrDev (some c.part) (d.cont + off) b
        if w.2.2 ≠ 0 then w.1.endCmd c.ring c.seq w.2.2 good
        else
          let s := w.1.modCmd c.ring c.seq (fun x => { x with
            prog := [i + 1, off + b.length, fulProg now 2 + k.rawBlocks, fulProg now 3 + (if raw then 1 else 0), fulProg now 4 + n, 0, fulProg now 6],
            good := off + b.length, ports := if d.host then [d.port] else x.ports,
            info := x.info ||| k.flags * 256 ||| (if raw then 2 ^ 16 else 0) ||| (if k.rawBlocks = 0 then 0 else 2 ^ 17) |||
              (if k.tight then 2 ^ 18 else 0) })
          let s := (s.fulCount f n b.length k.rawBlocks (if raw then 1 else 0)).observe
          if i + 1 = d.chunks c.cmd.sub then s.fulDone c d (off + b.length) else s

/-- FUL_PACK starts: it reads its scale record, then takes its turn. -/
def State.packStart (s : State) (c : InFlight) : State :=
  let d := fulDesc c.ext
  match s.scaleOf c.part d.scaleSrc d.conv d.rec_ with
  | .error e => s.stopCmd c e 0 d.rec_ 16
  | .ok v => (s.modCmd c.ring c.seq (fun x => { x with prog := [0, 0, 0, 0, 0, 0, toF32 v] })).packNext c

/-- FUL_PACK (R255): one invocation writes one chunk, in the command's turn. -/
def fulPackCmd (s : State) (r q : Nat) : State := s.contCmd 0x28 r q State.packStart State.packNext

/-! ### FUL_UNPACK (R266, R267) -/

/-- The words of one SHRINK unit, and whether it is RAW. -/
def unshrinkUnit (d : FulDesc) (n w : Nat) (r : Rans) : Option ((List Nat × Bool) × Rans) :=
  (ransNext 2 r).bind (fun x =>
    if x.1 = 255 then (uBytes (n * d.es) x.2).map (fun y => (((List.range n).map (fun i => leAt y.1 (i * d.es) d.es), true), y.2))
    else
      let m := if d.tiled then 256 else n
      (shrinkInts m m x.2).map (fun y =>
        let ns := if d.tiled then
            let t := unliftTile (pieces 16 16 y.1)
            (List.range (n / w)).flatMap (fun i => (t.getD i []).take w)
          else y.1
        let k := kindOf d.fmt
        ((ns.map (fun v => k.encode (shrinkDec k ((x.1 : Int) - 149) v).1), false), y.2)))

/-- The words of the units of a SHRINK chunk, and whether one is RAW. -/
def unshrink (d : FulDesc) : List (Nat × Nat) → Rans → Option ((List Nat × Bool) × Rans)
  | [], r => some (([], false), r)
  | u :: us, r => (unshrinkUnit d u.1 u.2 r).bind (fun x =>
      (unshrink d us x.2).map (fun y => ((x.1.1 ++ y.1.1, x.1.2 || y.1.2), y.2)))

/-- The words of a CAST chunk in the descriptor's format, with flags (R265, R267). -/
def uncast (d : FulDesc) (h : FulHead) (n : Nat) (b : List Byte) : Option (List Nat × Nat) :=
  let w := fmtBits h.stored
  let plane := ceilDiv (n * w) 8
  let mx := isMx h.stored
  if b.length ≠ plane + (if mx then n / 32 else 0) ∨ !(decide (3 ≤ h.stored) && decide (h.stored ≤ 10)) ∨ (mx && n % 32 != 0) then none
  else
    let all := leNat (b.take plane)
    let k := kindOf d.fmt
    let ys := (List.range n).map (fun i =>
      let c := all / 2 ^ (i * w) % 2 ^ w
      let v : FVal := if mx then mxDecode h.stored (leAt b (plane + i / 32) 1) c
        else let x := mulX ((kindOf h.stored).decode c) (f32 h.param0); (x.1, x.2)
      let wide := widen v.1
      let y := k.round 0 0 v.1
      (k.encode y.1, v.2 ||| y.2 ||| (wide.2 &&& fOVF)))
    some (ys.map (fun y => y.1), ys.foldl (fun f y => f ||| y.2) 0)

/-- The words of a chunk's elements in unit order, the flags, and whether a block is RAW; none when the payload does not decode
(R259 to R265). -/
def chunkWords (d : FulDesc) (h : FulHead) (units : List (List Nat × Nat)) (b : List Byte) : Option (List Nat × Nat × Bool) :=
  let n := (units.map (fun u => u.1.length)).sum
  let es := fmtBits h.fmt / 8
  if h.raw then
    if b.length ≠ n * es then none
    else
      let xs := (List.range n).map (fun i => leAt b (i * es) es)
      if h.fmt = d.fmt then some (xs, 0, false)
      else
        let k := kindOf d.fmt
        let ys := xs.map (fun x => k.round 0 0 ((kindOf h.fmt).decode x))
        some (ys.map (fun y => k.encode y.1), ys.foldl (fun f y => f ||| y.2) 0, false)
  else match h.mode with
    | 1 => (packElems d.es n h.planes b).map (fun xs => (xs, 0, false))
    | 2 => (ransStart b).bind (fun r => (unshrink d (units.map (fun u => (u.1.length, u.2))) r).bind (fun x =>
        if ransDone x.2 then some (x.1.1, 0, x.1.2) else none))
    | _ => (uncast d h n b).map (fun x => (x.1, x.2, false))

/-- The header does not follow on from the chunk before it, or does not match the descriptor or the view (R266, R267). -/
def headMismatch (d : FulDesc) (h : FulHead) (i mode : Nat) : Bool :=
  !([1, 2, 3].contains h.mode) || (i != 0 && h.mode != mode) || h.index != i || h.total != d.total ||
    (if h.mode = 3 then decide (2 < h.fmt) || decide (2 < d.fmt) else h.fmt != d.fmt || h.stored != h.fmt) ||
    h.tiled != d.tiled || (h.tiled && h.mode != 2) || h.w != d.w || h.h != d.h || h.chans != d.chans ||
    (let dd := { d with fmt := h.fmt }
     h.first != i * dd.perChunk h.mode || h.units != (dd.chunkUnits h.mode i).length || h.units == 0 ||
       h.last != (i + 1 == dd.chunks h.mode))

/-- A chunk fails a check: counted, recorded as a contained error, and the command stops (R266). -/
def State.corruptChunk (s : State) (c : InFlight) (d : FulDesc) (f i off good : Nat) (code : Code) : State :=
  let pg := page 10 f
  let s := s.addFld pg Fld.FUL_CORRUPT_COUNT 1
  let s := ((s.setFld pg Fld.FUL_LAST_CORRUPT_CODE code).setFld pg Fld.FUL_LAST_CORRUPT_CHUNK i).raise pg 16
  let s := s.recordError {
    source := srcOf pg, cls := 1, code := code, part := some c.part, ctx := some c.ctx, d0 := d.cont + off, d1 := i,
    cmd := some (c.ring, c.cmd.tag) }
  s.endCmd c.ring c.seq code good

/-- The container could not be read. -/
def State.contStop (s : State) (c : InFlight) (d : FulDesc) (o n good : Nat) (e : Code) : State :=
  if d.host then s.endCmd c.ring c.seq e good else s.stopCmd c e good (d.cont + o) n

/-- Write the elements of a chunk into the view, all of them or none (R266). -/
def State.putChunk (s : State) (p : Nat) (d : FulDesc) (xs : List (Nat × Nat)) : State × Code :=
  let code := (xs.findSome? (fun x => let e := s.checkDev (some p) (d.addr x.1) d.es; if e = 0 then none else some e)).getD 0
  if code ≠ 0 then (s, code) else (xs.foldl (fun s x => (s.wrDev (some p) (d.addr x.1) (leBytes d.es x.2)).1) s, 0)

/-- Read one chunk into the view (R266, R267, R269).  The result record's counts of blocks and chunks written RAW or STORED are 0: this
command writes none (Table 11.5, log 60). -/
def State.unpackNext (s : State) (c : InFlight) : State :=
  s.fulStep c fun s f =>
    let now := (s.cmdAt? c.ring c.seq).getD c
    let d := fulDesc c.ext
    let (i, off, good) := (fulProg now 0, fulProg now 1, now.good)
    if d.bytes < off + 64 then s.endCmd c.ring c.seq 0x080A good
    else match s.contRead now d off 64 with
      | .error e => s.contStop c d off 64 good e
      | .ok hb =>
        let h := fulHead hb
        if badHead hb then s.corruptChunk c d f i off good 0x0806
        else
          let len := 64 + h.payload + 4
          if d.bytes < off + len then s.endCmd c.ring c.seq 0x080A good
          else match s.contRead now d off len with
            | .error e => s.contStop c d off len good e
            | .ok b =>
              let dd := { d with fmt := h.fmt }
              if crc32c (b.take (64 + h.payload)) ≠ leAt b (64 + h.payload) 4 then s.corruptChunk c d f i off good 0x0807
              else if headMismatch d h i (fulProg now 5) then s.corruptChunk c d f i off good 0x0809
              else
                let us := (dd.chunkUnits h.mode i).map (dd.unitElems h.mode)
                let is := us.flatMap (fun u => u.1)
                if h.rawBytes ≠ is.length * dd.es then s.corruptChunk c d f i off good 0x0808
                else match chunkWords d h us ((b.drop 64).take h.payload) with
                  | none => s.corruptChunk c d f i off good 0x0808
                  | some (ws, fl, rawBlock) =>
                    let w := s.putChunk c.part d (is.zip ws)
                    if w.2 ≠ 0 then w.1.endCmd c.ring c.seq w.2 good
                    else
                      let n := is.length * d.es
                      let s := w.1.modCmd c.ring c.seq (fun x => { x with
                        prog := [i + 1, off + alignUp len 64, 0, 0, fulProg now 4 + n, h.mode, 0],
                        good := good + n,
                        info := x.info ||| fl * 256 ||| (if h.raw then 2 ^ 16 else 0) ||| (if rawBlock then 2 ^ 17 else 0) })
                      let s := (s.fulCount f n (alignUp len 64) 0 0).observe
                      if h.last then s.fulDone c d (good + n) else s

/-- FUL_UNPACK (R255): one invocation reads one chunk, in the command's turn. -/
def fulUnpackCmd (s : State) (r q : Nat) : State := s.contCmd 0x29 r q State.unpackNext State.unpackNext

/-- FUL_PACK (R255). -/
def execFulPack (ring seq : Nat) (s : State) : Host.Outcome State Fault Refusal := State.done (fulPackCmd s ring seq)
/-- FUL_UNPACK (R255). -/
def execFulUnpack (ring seq : Nat) (s : State) : Host.Outcome State Fault Refusal := State.done (fulUnpackCmd s ring seq)

end Sys2Proof.Machine
end

