-- ==== Sys2Proof/Machine/Codec.lean ====
section
/-!
DEFINITION. Video codec engines (14, R329 to R348): sessions, decoding, encoding under rate control, marks and records.  What the
video standards and the encoder decide is `Config.video` (log 33): fact 0 a unit's token, 1 no picture, 2 unsupported, 3 and 4
size, 5 key, 6 film grain, 7 monochrome, 8 trailing bytes, 9 order, 10 a buffer's new mark, 12 the current picture's mark, 13 its
place in output order, 14 a buffer's output, 15 a block's damage, 16 a sample, 17 a byte of the motion area, 18 shows a picture
without decoding one, 19 a byte of the context, 20 not for output, 21 bits of a slice header, 22 of a CTU, 23 of a CTU under skip
bias, 24 a byte of the bitstream, 25 a row's token.
-/
namespace Sys2Proof.Machine

open Sys2Proof

/-! ### Sessions (R332, R333) -/

/-- The fields of VC_OPEN (Table 14.3); DIR tells the slot's state. -/
def vcOpenSlot (b : List Byte) : VcSlot :=
  { st := bitsAt b 20 2 2 + 1, std := bitsAt b 20 1 0, ten := bitsAt b 20 3 3 == 1, cls := bitsAt b 20 5 4,
    ctxAddr := leAt b 0 8, pool := leAt b 8 8, maxW := leAt b 16 2, maxH := leAt b 18 2, intra := leAt b 24 2,
    minigop := bitsAt b 24 19 16, ltr := bitsAt b 24 20 20 == 1, qi := leAt b 28 1, minQp := leAt b 29 1, maxQp := leAt b 30 1,
    sliceRows := leAt b 31 1, cap := leAt b 32 8, window := leAt b 40 2, bufs := [] }

/-- Bytes of a sample. -/
def VcSlot.sz (x : VcSlot) : Nat := if x.ten then 2 else 1
/-- Width and height of a buffer (R333). -/
def VcSlot.w64 (x : VcSlot) : Nat := alignUp x.maxW 64
/-- Width and height of a buffer (R333). -/
def VcSlot.h64 (x : VcSlot) : Nat := alignUp x.maxH 64
/-- CTU rows of a coded picture. -/
def VcSlot.rows (x : VcSlot) : Nat := ceilDiv x.maxH 64
/-- CTUs of a row. -/
def VcSlot.cols (x : VcSlot) : Nat := ceilDiv x.maxW 64

/-- Picture sizes of Table 14.1: smallest, and largest width and height. -/
def vcSizeOk (std w h low : Nat) : Bool :=
  let big : Nat × Nat := if std = 0 then (4096, 2304) else (8192, 4352)
  decide (low ≤ w) && decide (low ≤ h) && decide (w ≤ big.1) && decide (h ≤ big.2)

/-- Session parameters (R332, Table 14.1): 0x0B03, 0x0B07. -/
def vcParamCode (x : VcSlot) (count : Nat) : Code :=
  let enc := x.st == 2
  let top := if x.std = 2 then 255 else if x.ten then 63 else 51
  firstCode [
    (x.std == 3 || (enc && x.std == 0) || x.cls == 3 || count == 0 || decide (32 < count), 0x0B03),
    (x.std == 0 && x.ten, 0x0B03), (!vcSizeOk x.std x.maxW x.maxH (if enc then 64 else 32), 0x0B03),
    (enc && (x.maxW % 8 != 0 || x.maxH % 8 != 0 || !([1, 2, 4, 8].contains x.minigop)), 0x0B03),
    (enc && (decide (top < x.qi) || decide (top < x.minQp) || decide (top < x.maxQp)), 0x0B03),
    (enc && (decide (x.maxQp < x.minQp) || decide (x.qi < x.minQp) || decide (x.maxQp < x.qi)), 0x0B07),
    (enc && x.cap != 0 && x.window == 0, 0x0B07), (enc && x.cap != 0 && decide (1024 < x.window), 0x0B03)]

/-- The parts of a buffer (R333): address and bytes. -/
def VcSlot.parts (x : VcSlot) (b : VcBuf) : List (Nat × Nat) :=
  [(b.y, b.pitch * x.h64), (b.c, b.pitch * x.h64 / 2), (b.mv, 16 * (x.w64 / 16) * (x.h64 / 16)),
   (b.dmg, alignUp (ceilDiv (2 * (x.w64 / 64) * (x.h64 / 64)) 8) 64)]

/-- A buffer table entry is misaligned, too small, outside the partition or overlaps (R333). -/
def State.vcBadBuf (s : State) (p : Nat) (x : VcSlot) (i : Nat) (b : VcBuf) : Bool :=
  b.y % 4096 != 0 || b.c % 4096 != 0 || b.mv % 64 != 0 || b.dmg % 64 != 0 || b.pitch % 256 != 0 ||
    decide (b.pitch < x.maxW * x.sz) || (x.parts b).any (fun r => !s.cmOrHbm p r.1 r.2) ||
    (x.parts b).any (fun r => rangesMeet r (x.ctxAddr, 2 ^ 20) || rangesMeet r (x.pool, 64 * x.bufs.length)) ||
    (x.bufs.take i).any (fun d => (x.parts d).any (fun q => (x.parts b).any (fun r => rangesMeet r q)))

/-- The engine of a codec command (R329). -/
def State.vcOf? (s : State) (c : InFlight) : Option Nat := s.physCodec? c.part (c.cmd.arg % 16)
/-- The slot a codec command names. -/
def vcSlotNo (c : InFlight) : Nat := c.cmd.arg / 16 % 16
/-- The session of a codec command. -/
def State.vcSlot? (s : State) (v k : Nat) : Option VcSlot := SMap.get? (s.vc v).slots k

/-- The home check of a codec command (R329, R332, R333, R336, R340). -/
def State.codecCheck (s : State) (c : InFlight) : Code :=
  let p := c.part
  let b := c.ext
  let fence (a : Nat) : List (Bool × Code) := [(a != 0 && a % 8 != 0, 0x0108), (a != 0, s.rangeCode p a 8)]
  firstCode ([
    (c.cmd.sub != 0, 0x0B11), (c.cmd.opFlags != 0 || decide (256 ≤ c.cmd.arg), 0x0101),
    (decide ((s.shape.live.codecs p).length ≤ c.cmd.arg % 16), 0x0B01), ((s.vcOf? c).isNone, 0x0103)] ++
    (match c.cmd.op with
    | 0x70 =>
      let x := vcOpenSlot b
      let n := bitsAt b 20 11 6
      [(bitsAt b 20 31 12 != 0 || bitsAt b 24 31 21 != 0 || leAt b 42 2 != 0 || leAt b 44 84 != 0, 0x0101),
       (true, vcParamCode x n), (x.ctxAddr % 4096 != 0, 0x0108), (true, s.hbmCode p x.ctxAddr (2 ^ 20)),
       (true, s.rangeCode p x.pool (64 * n))]
    | 0x71 => [(c.cmd.payload != 0, 0x0101)]
    | 0x72 =>
      [(leAt b 12 4 != 0 || bitsAt b 40 63 1 != 0 || leAt b 48 16 != 0, 0x0101), (leAt b 8 4 == 0, 0x0102),
       (leAt b 16 8 % 64 != 0, 0x0108), (true, s.rangeCode p (leAt b 0 8) (leAt b 8 4)), (true, s.rangeCode p (leAt b 16 8) 64)] ++
        fence (leAt b 24 8)
    | 0x73 =>
      let w := leAt b 20 2
      let h := leAt b 22 2
      let pitch := leAt b 16 4
      let n := bitsAt b 80 9 4
      [(bitsAt b 80 31 11 != 0 || leAt b 84 44 != 0, 0x0101), (pitch % 256 != 0 || decide (pitch < w) || n == 0 || decide (64 < n), 0x0102),
       (leAt b 0 8 % 256 != 0 || leAt b 40 8 % 64 != 0, 0x0108),
       (true, s.rangeCode p (leAt b 0 8) (pitch * h)), (true, s.rangeCode p (leAt b 8 8) (pitch * ceilDiv h 2)),
       (true, s.rangeCode p (leAt b 24 8) (leAt b 32 4)), (true, s.rangeCode p (leAt b 40 8) 64)] ++
        fence (leAt b 48 8) ++ fence (leAt b 64 8)
    | _ => [(decide (2 ^ 32 ≤ c.cmd.payload), 0x0101)]))

/-- Bytes of the context area after a change of the session: the spec does not say what they are. -/
def vcCtxBytes (tok : Nat) : List Byte := (List.range (2 ^ 20)).map (fun i => BitVec.ofNat 8 (Config.video [19, tok, i]))

/-- Put a session in its slot, write its marks to its table and its state to its context area (R334, R346). -/
def State.putSlot (s : State) (p v k : Nat) (x : VcSlot) : State :=
  let s := s.modVc v (fun e => { e with slots := SMap.put e.slots k x })
  (s.wrAll p ((List.range x.bufs.length).map (fun i =>
    (x.pool + 64 * i + 36, leBytes 1 (match x.bufs[i]? with | some b => b.mark | none => 0))) ++
    [(x.ctxAddr, vcCtxBytes x.hist)])).1

/-- VC_OPEN starts: the slot is CLOSED and every buffer is sound (R332, R333). -/
def State.vcOpenStart (s : State) (c : InFlight) : State :=
  let x := vcOpenSlot c.ext
  let n := bitsAt c.ext 20 11 6
  let k := vcSlotNo c
  match s.vcOf? c with
  | none => s.endCmd c.ring c.seq 0x0103 0
  | some v =>
    if (s.vcSlot? v k).isSome then s.endCmd c.ring c.seq 0x0B02 0
    else match s.rdDev (some c.part) x.pool (64 * n) with
      | .error e => s.stopCmd c e 0 x.pool (64 * n)
      | .ok b =>
        let bufs := (List.range n).map (fun i =>
          (⟨leAt b (64 * i) 8, leAt b (64 * i + 8) 8, leAt b (64 * i + 16) 8, leAt b (64 * i + 24) 8, leAt b (64 * i + 32) 4, 0⟩ : VcBuf))
        let x := { x with bufs := bufs, hist := Config.video [0, x.std, x.st] }
        if (List.range n).any (fun i => bitsAt b (64 * i + 36) 31 4 != 0 || leAt b (64 * i + 40) 24 != 0) then
          s.endCmd c.ring c.seq 0x0101 0
        else if (List.range n).any (fun i => match bufs[i]? with | some d => s.vcBadBuf c.part x i d | none => false) then
          s.endCmd c.ring c.seq 0x0B04 0
        else (s.putSlot c.part v k x).endCmd c.ring c.seq 0 0

/-! ### Order of a slot's commands (R330, R335) -/

/-- Picture commands an engine holds, in the order they started. -/
def State.vcQueue (s : State) (v : Nat) : List (Nat × Nat) :=
  (s.vc v).queue.filter (fun q => match s.cmdAt? q.1 q.2 with | some c => c.phase == .started && !c.saved | none => false)

/-- A VC_CLOSE of the slot has started and not ended. -/
def State.vcClosing (s : State) (v k : Nat) : Bool :=
  s.cmds.any (fun c => c.cmd.op == 0x71 && c.phase == .started && s.vcOf? c == some v && vcSlotNo c == k)

/-- Commands of some opcodes on the slot of a command that started before it and have not ended: a slot's commands take effect in the
order in which they start (R335). -/
def State.vcEarlier (s : State) (v : Nat) (c : InFlight) (ops : List Nat) : Bool :=
  let n := match s.cmdAt? c.ring c.seq with | some d => d.startNo | none => c.startNo
  s.cmds.any (fun d => ops.contains d.cmd.op && d.phase == .started && !d.saved && s.vcOf? d == some v &&
    vcSlotNo d == vcSlotNo c && decide (d.startNo < n))

/-- The lowest-numbered FREE buffer (R334). -/
def VcSlot.free? (x : VcSlot) : Option Nat :=
  (List.range x.bufs.length).find? (fun i => match x.bufs[i]? with | some b => b.mark % 8 == 0 | none => false)

/-- VC_CLOSE acts once every earlier picture command of the slot has completed (R332, R335). -/
def State.vcCloseRun (s : State) (c : InFlight) : State :=
  let k := vcSlotNo c
  match s.vcOf? c with
  | none => s.endCmd c.ring c.seq 0x0103 0
  | some v =>
    if s.vcEarlier v c [0x72, 0x73, 0x74] then s
    else match s.vcSlot? v k with
      | none => s.endCmd c.ring c.seq 0x0B02 0
      | some x =>
        let s := s.putSlot c.part v k { x with bufs := x.bufs.map (fun b => { b with mark := 0 }) }
        (s.modVc v (fun e => { e with slots := SMap.erase e.slots k })).endCmd c.ring c.seq 0 0

/-- VC_CLOSE starts; of two of one slot the second meets it CLOSED. -/
def State.vcCloseStart (s : State) (c : InFlight) : State :=
  match s.vcOf? c with
  | none => s.endCmd c.ring c.seq 0x0103 0
  | some v =>
    let other := s.cmds.any (fun d => d.cmd.op == 0x71 && d.phase == .started && s.vcOf? d == some v && vcSlotNo d == vcSlotNo c &&
      !(d.ring == c.ring && d.seq == c.seq))
    if other || (s.vcSlot? v (vcSlotNo c)).isNone then s.endCmd c.ring c.seq 0x0B02 0 else s.vcCloseRun c

/-- VC_RELEASE acts once every earlier picture command of the slot has completed (R334, R335). -/
def State.vcReleaseRun (s : State) (c : InFlight) : State :=
  let k := vcSlotNo c
  match s.vcOf? c with
  | none => s.endCmd c.ring c.seq 0x0103 0
  | some v =>
    if s.vcEarlier v c [0x72, 0x73] then s
    else match s.vcSlot? v k with
      | none => s.endCmd c.ring c.seq 0x0B02 0
      | some x =>
        let named := bitList 32 c.cmd.payload
        if named.any (fun i => match x.bufs[i]? with | some b => !b.mark.testBit 2 | none => true) then
          s.endCmd c.ring c.seq 0x0B0C 0
        else
          let bufs := (List.range x.bufs.length).filterMap (fun i => (x.bufs[i]?).map (fun b =>
            if named.contains i then { b with mark := b.mark - 4 } else b))
          (s.putSlot c.part v k { x with bufs := bufs }).endCmd c.ring c.seq 0 0

/-- VC_RELEASE starts. -/
def State.vcReleaseStart (s : State) (c : InFlight) : State :=
  match s.vcOf? c with
  | none => s.endCmd c.ring c.seq 0x0103 0
  | some v =>
    if s.vcClosing v (vcSlotNo c) || (s.vcSlot? v (vcSlotNo c)).isNone then s.endCmd c.ring c.seq 0x0B02 0 else s.vcReleaseRun c

/-! ### Pictures in buffers (R333, R338) -/

/-- A sample as it is stored (R333). -/
def VcSlot.sample (x : VcSlot) (v : Nat) : List Byte := if x.ten then leBytes 2 (v % 1024 * 64) else leBytes 1 v
/-- The grey sample (Table 14.6). -/
def VcSlot.grey (x : VcSlot) : Nat := if x.ten then 512 else 128

/-- Code of a block of a decoded picture (Table 14.6): concealment has a reference or has none. -/
def vcBlock (tok : Nat) (ref : Bool) (b : Nat) : Nat :=
  let d := Config.video [15, tok, b] % 4
  if ref then (if d = 2 then 1 else d) else if d = 1 then 2 else if d = 3 then 0 else d

/-- One row of a plane of a decoded picture: `n` samples, `per` of them in a block; concealed ones come from the reference row. -/
def State.vcRow (s : State) (p : Nat) (x : VcSlot) (tok n per blk0 : Nat) (ref : Bool) (plane y : Nat) (grey : Bool) (refAt : Nat) :
    Except Code (List Byte) := do
  let code (i : Nat) : Nat := vcBlock tok ref (blk0 + i / per)
  let old ← if (List.range n).any (fun i => code i == 1) then s.rdDev (some p) refAt (n * x.sz) else .ok []
  .ok ((List.range n).flatMap (fun i =>
    if code i = 1 then (old.drop (i * x.sz)).take x.sz
    else if code i = 2 ∨ grey then x.sample x.grey
    else x.sample (Config.video [16, tok, plane, y, i])))

/-- Bytes of a decoded picture: both planes by row, the motion area and the damage map (R333, R338). -/
def State.vcPicture (s : State) (p : Nat) (x : VcSlot) (b : VcBuf) (ref : Option VcBuf) (tok w h : Nat) (mono : Bool) :
    Except Code (List (Nat × List Byte)) := do
  let bw := ceilDiv w 64
  let r := ref.getD b
  let ys ← (List.range h).mapM (fun y => (s.vcRow p x tok w 64 (y / 64 * bw) ref.isSome 0 y false (r.y + r.pitch * y)).map
    (fun bs => (b.y + b.pitch * y, bs)))
  let cs ← (List.range (ceilDiv h 2)).mapM (fun y =>
    (s.vcRow p x tok (2 * ceilDiv w 2) 64 (y / 32 * bw) ref.isSome 1 y mono (r.c + r.pitch * y)).map
    (fun bs => (b.c + b.pitch * y, bs)))
  let per := x.w64 / 64
  let code (i : Nat) : Nat := if i % per < bw ∧ i / per < ceilDiv h 64 then vcBlock tok ref.isSome (i / per * bw + i % per) else 0
  let n := ((x.parts b).getD 3 (0, 0)).2
  let map := (List.range n).map (fun i => BitVec.ofNat 8 ((List.range 4).foldl (fun a j =>
    a + (if 4 * i + j < per * (x.h64 / 64) then code (4 * i + j) else 0) * 4 ^ j) 0))
  let mv := (List.range ((x.parts b).getD 2 (0, 0)).2).map (fun i => BitVec.ofNat 8 (Config.video [17, tok, i]))
  .ok (ys ++ cs ++ [(b.mv, mv), (b.dmg, map)])

/-- A MAX on a descriptor's semaphore; 0 names none. The code of R485 when its word cannot be read. -/
def State.fenceMax (s : State) (p a v : Nat) : State × Code :=
  if a = 0 then (s, 0)
  else match s.xlate (some p) a with
    | .error e => (s, e)
    | .ok k => match s.applySignal k 2 (v % 2 ^ 64) with
      | some t => (t, 0)
      | none => (s, 0xF001)

/-- The VC page of an engine. -/
def vcPage (v : Nat) : Nat := page 11 v

/-- Marks of the buffers after a decoded unit (R334): reference marks by the standard's marking, OUT by its output process. -/
def VcSlot.marksAfter (x : VcSlot) (tok : Nat) (key : Bool) (cur : Option Nat) (out : List Nat) : List VcBuf :=
  let kinds := if x.std = 2 then 2 else 3
  (List.range x.bufs.length).filterMap (fun i => (x.bufs[i]?).map (fun b =>
    let ref := if cur = some i then Config.video [12, tok] % kinds
      else if b.mark % 4 = 0 ∨ key then 0 else Config.video [10, tok, i] % kinds
    { b with mark := ref + (if out.contains i || b.mark.testBit 2 then 4 else 0) }))

/-- Insert into a list at a place. -/
def insertAt {α : Type} (l : List α) (i : Nat) (a : α) : List α := l.take i ++ a :: l.drop i

/-- Decode one unit (R337 to R339). -/
def State.vcDecodeRun (s : State) (c : InFlight) (v k : Nat) (x : VcSlot) : State :=
  let b := c.ext
  let n := leAt b 8 4
  match s.rdDev (some c.part) (leAt b 0 8) n with
  | .error e => s.stopCmd c e 0 (leAt b 0 8) n
  | .ok bytes =>
    let tok := Config.video (0 :: x.std :: (if x.ten then 1 else 0) :: x.hist :: bytes.map BitVec.toNat)
    let f (i : Nat) : Nat := Config.video [i, tok]
    let shows := x.std == 2 && f 18 % 2 == 1
    let w := f 3 % 65536
    let h := f 4 % 65536
    let key := f 5 % 2 == 1 && !shows
    let size := x.pictures != 0 && (w, h) != x.size
    let code := firstCode [
      (f 1 % 2 == 1, 0x0B0D), (f 2 % 2 == 1 || (!shows && !vcSizeOk x.std w h 32), 0x0B0A),
      (!shows && (decide (x.maxW < w) || decide (x.maxH < h) || (size && !key)), 0x0B0B), (!shows && x.free?.isNone, 0x0B06)]
    if code ≠ 0 then s.endCmd c.ring c.seq code 0
    else
      let cur := if shows then none else x.free?
      let live : List Nat := if key then [] else x.recent.filter (fun i => match x.bufs[i]? with | some d => d.mark % 4 != 0 | none => false)
      let ref := live.head?.bind (fun i => x.bufs[i]?)
      let pic := match cur.bind (fun i => x.bufs[i]?) with
        | some d => s.vcPicture c.part x d ref tok w h (f 7 % 2 == 1 && x.std != 1)
        | none => .ok []
      match pic with
      | .error e => s.stopCmd c e 0 (match ref with | some d => d.y | none => 0) (match ref with | some d => d.pitch * x.h64 | none => 0)
      | .ok ws =>
        let waiting := match cur with
          | some i =>
            let l := x.awaiting.filter (fun j => j != i)
            if f 20 % 2 = 1 then l else insertAt l (f 13 % (l.length + 1)) i
          | none => x.awaiting
        let out := if bitsAt b 40 0 0 = 1 then waiting else waiting.filter (fun i => Config.video [14, tok, i] % 2 == 1)
        let blocks := if shows then 0 else ceilDiv w 64 * ceilDiv h 64
        let damaged := ((List.range blocks).filter (fun i => vcBlock tok ref.isSome i != 0)).length
        let flags := (if damaged ≠ 0 then 1 else 0) + (if key then 2 else 0) + (if x.std = 2 ∧ f 6 % 2 = 1 then 4 else 0) +
          (if size && !shows then 8 else 0)
        let rep := leBytes 1 (cur.getD 0xFF) ++ leBytes 1 out.length ++ leBytes 2 flags ++ leBytes 4 damaged ++
          leBytes 2 (if shows then x.size.1 else w) ++ leBytes 2 (if shows then x.size.2 else h) ++ leBytes 4 (f 8 % n) ++
          leBytes 8 (f 9) ++ ((out.map (fun i => BitVec.ofNat 8 i)) ++ List.replicate 32 0xFF).take 32 ++ leBytes 8 0
        let r := s.wrAll c.part (ws ++ [(leAt b 16 8, rep)])
        if r.2 ≠ 0 then r.1.endCmd c.ring c.seq r.2 0
        else
          let fm := r.1.fenceMax c.part (if shows then 0 else leAt b 24 8) (leAt b 32 8 + h)
          let y := { x with bufs := x.marksAfter tok key cur out, pictures := (x.pictures + 1) % 2 ^ 32, hist := tok
                            recent := match cur with | some i => i :: x.recent.filter (fun j => j != i) | none => x.recent
                            awaiting := waiting.filter (fun i => !(out.contains i)), size := if shows then x.size else (w, h) }
          let s := fm.1.putSlot c.part v k y
          let s := (s.addFld (vcPage v) Fld.VC_PIX_DEC_COUNT (if shows then 0 else w * h)).addFld (vcPage v) Fld.VC_DAMAGED_COUNT damaged
          let s := if damaged ≠ 0 then s.raise (vcPage v) 16 else s
          let s := s.modCmd c.ring c.seq (fun z => { z with info := z.info ||| (if damaged ≠ 0 then 2 ^ 16 else 0) })
          s.observe.endCmd c.ring c.seq fm.2 (if shows then 0 else (w * h + 2 * ceilDiv w 2 * ceilDiv h 2) * x.sz)

/-! ### Encoding (R340 to R345) -/

/-- The display index that is coded `n`-th with mini-GOPs of `m` pictures (R340). -/
def codingIndex (m n : Nat) : Nat :=
  if n = 0 then 0
  else
    let g := (n - 1) / m
    let i := (n - 1) % m
    if i = 0 then (g + 1) * m
    else
      let d := Nat.log2 i + 1
      g * m + (2 * (i - 2 ^ (d - 1)) + 1) * (m / 2 ^ d)

/-- Type of a picture (R340, the encode report's TYPE): 0 key, 1 anchor, 2 middle. -/
def VcSlot.picType (x : VcSlot) (idx : Nat) (force : Bool) : Nat :=
  if idx = 0 ∨ (x.intra ≠ 0 ∧ idx % x.intra = 0) ∨ force then 0 else if idx % x.minigop = 0 then 1 else 2

/-- Hierarchical depth of a display index (R340). -/
def VcSlot.depth (x : VcSlot) (idx : Nat) : Nat :=
  let r := idx % x.minigop
  ((List.range 4).find? (fun d => r % (x.minigop / 2 ^ d) == 0)).getD 0

/-- Budget of the next picture (R343). -/
def VcSlot.budget (x : VcSlot) : Nat :=
  (max 0 (((x.cap : Int) - x.debt - x.used) / ((x.window - x.done : Nat) : Int))).toNat

/-- Slices of a picture (R345). -/
def VcSlot.slices (x : VcSlot) : Nat := if x.sliceRows = 0 then 1 else ceilDiv x.rows x.sliceRows

/-- The check of an encode command against its session (R340, R341, R345). -/
def VcSlot.encodeCode (x : VcSlot) (b : List Byte) : Code :=
  let rot := bitsAt b 80 1 0
  let w := if rot % 2 = 1 then leAt b 22 2 else leAt b 20 2
  let h := if rot % 2 = 1 then leAt b 20 2 else leAt b 22 2
  let moved := rot != 0 || bitsAt b 80 2 2 != 0
  let roi := leAt b 72 8
  firstCode [
    ((x.cls != 2 && moved) || (x.cls != 1 && roi != 0) || (x.cls != 2 && (w, h) != (x.maxW, x.maxH)), 0x0B05),
    (decide (4 * w < x.maxW) || decide (4 * x.maxW < w) || decide (4 * h < x.maxH) || decide (4 * x.maxH < h), 0x0B09),
    (rot % 2 == 1 && leAt b 48 8 != 0, 0x0B09), (leAt b 16 4 < leAt b 20 2 * x.sz, 0x0102),
    (leAt b 36 4 != codingIndex x.minigop x.coded % 2 ^ 32, 0x0B0F), (decide (bitsAt b 80 9 4 < x.slices), 0x0B0E)]

/-- Source rows that CTU row `r` needs (R342): scaling on either axis makes the vertical ratio's formula apply. -/
def VcSlot.need (x : VcSlot) (b : List Byte) (r : Nat) : Nat :=
  let h := leAt b 22 2
  if bitsAt b 80 1 0 ≠ 0 then h
  else if leAt b 20 2 = x.maxW ∧ h = x.maxH then min h ((r + 1) * 64)
  else min h (ceilDiv ((r + 1) * 64 * h) x.maxH + 4)

/-- A picture being coded: buffer, token, next CTU row, bits, CTU of exhaustion, QP of the next row and of the last CTU, slices written,
bytes emitted, and the ROI map, read in full before coding starts (R341). -/
structure EncRun where
  buf : Nat
  tok : Nat
  row : Nat
  bits : Nat
  exh : Nat
  qp : Nat
  lastQp : Nat
  slices : Nat
  bytes : Nat
  roi : List Nat
  deriving DecidableEq, Repr

/-- As a command keeps it. -/
def EncRun.toList (e : EncRun) : List Nat := [e.buf, e.tok, e.row, e.bits, e.exh, e.qp, e.lastQp, e.slices, e.bytes] ++ e.roi
/-- From a command. -/
def EncRun.ofList (l : List Nat) : EncRun :=
  ⟨l.getD 0 0, l.getD 1 0, l.getD 2 0, l.getD 3 0, l.getD 4 0, l.getD 5 0, l.getD 6 0, l.getD 7 0, l.getD 8 0, l.drop 9⟩

/-- No CTU of exhaustion yet (the encode report's EXHAUST_CTU). -/
def noCtu : Nat := 0xFFFFFFFF

/-- A QP clamped to the session's bounds. -/
def VcSlot.clampQp (x : VcSlot) (q : Int) : Nat := (max (x.minQp : Int) (min (x.maxQp : Int) q)).toNat

/-- Code one CTU (R343, R344): its bits at its QP, or under skip bias once the picture is exhausted or the CTU is too large. -/
def VcSlot.ctu (x : VcSlot) (key : Bool) (bp : Nat) (roi : Int) (first : Bool) (e : EncRun) (i : Nat) : EncRun :=
  let n := e.row * x.cols + i
  let area := min 64 (x.maxW - 64 * i) * min 64 (x.maxH - 64 * e.row)
  let hdr := if first then Config.video [21, e.tok, n] % 513 else 0
  let gone := e.exh != noCtu
  let qp := if gone then x.maxQp else x.clampQp (e.qp + roi)
  let full := Config.video [22, e.tok, n, qp] % (16 * area * x.sz + 1)
  let again := x.cap != 0 && (gone || decide (16384 < full))
  let bits := e.bits + hdr + (if again then Config.video [23, e.tok, n] % (if key then 321 else 97) else full)
  { e with bits := bits, lastQp := if again then x.maxQp else qp, exh := if x.cap ≠ 0 ∧ gone = false ∧ bp ≤ bits then n else e.exh }

/-- ROI offset of a CTU. -/
def roiAt (roi : List Nat) (n : Nat) : Int := match roi[n]? with | some b => sext 8 b | none => 0

/-- Code one CTU row (R343). -/
def VcSlot.ctuRow (x : VcSlot) (key : Bool) (bp : Nat) (e : EncRun) : EncRun :=
  let starts := x.sliceRows = 0 ∧ e.row = 0 ∨ x.sliceRows ≠ 0 ∧ e.row % x.sliceRows = 0
  let e := (List.range x.cols).foldl (fun e i =>
    x.ctu key bp (roiAt e.roi (e.row * x.cols + i)) (decide starts && i == 0) e i) e
  let up : Bool := x.cap != 0 && e.exh == noCtu && decide (bp * (e.row + 1) < e.bits * x.rows)
  { e with row := e.row + 1, qp := if up then min (e.qp + 1) x.maxQp else e.qp }

/-- Read the source rows a CTU row needs beyond those of the row before (R342). -/
def State.vcSource (s : State) (p : Nat) (x : VcSlot) (b : List Byte) (r : Nat) : Except Code (List Byte) := do
  let from_ := if r = 0 then 0 else x.need b (r - 1)
  let n := leAt b 20 2 * x.sz
  let ys ← (List.range (x.need b r - from_)).mapM (fun i => s.rdDev (some p) (leAt b 0 8 + leAt b 16 4 * (from_ + i)) n)
  let cs ← (List.range (ceilDiv (x.need b r) 2 - ceilDiv from_ 2)).mapM (fun i =>
    s.rdDev (some p) (leAt b 8 8 + leAt b 16 4 * (ceilDiv from_ 2 + i)) n)
  .ok (ys.flatten ++ cs.flatten)

/-- The slice that ends after a CTU row is written, recorded, and its fence raised (R345); 0x0B10 when it does not fit. -/
def State.vcSlice (s : State) (c : InFlight) (e : EncRun) : State × EncRun × Code :=
  let b := c.ext
  let bytes := ceilDiv e.bits 8
  if leAt b 32 4 < bytes then (s, e, 0x0B10)
  else
    let data := (List.range (bytes - e.bytes)).map (fun i => BitVec.ofNat 8 (Config.video [24, e.tok, e.bytes + i]))
    let w := s.wrDev (some c.part) (leAt b 24 8 + e.bytes) data
    if w.2.2 ≠ 0 then (w.1, e, w.2.2)
    else
      let s := w.1.putRecord { c with good := bytes } 0 (2 ^ 16 + e.slices * 2 ^ 24)
      let f := s.fenceMax c.part (leAt b 64 8) bytes
      (f.1, { e with slices := e.slices + 1, bytes := bytes }, f.2)

/-- The bits a session counts change with a coded picture: window use, pictures done and debt (R343). -/
def VcSlot.counted (x : VcSlot) (bits : Nat) : VcSlot :=
  if x.cap = 0 then x
  else
    let used := x.used + bits
    if x.done + 1 = x.window then { x with used := 0, done := 0, debt := (max 0 ((used : Int) - ((x.cap : Int) - x.debt))).toNat }
    else { x with used := used, done := x.done + 1 }

/-- Reference pictures after a coded one (R334, R340, log 34): a key picture clears the others; an anchor keeps the anchor before it
and the long-term key; a middle picture is kept while its mini-GOP lasts unless it is of the greatest depth. -/
def VcSlot.refsAfter (x : VcSlot) (buf idx ty : Nat) : List (Nat × Nat) :=
  let long (r : Nat × Nat) : Bool := match x.bufs[r.1]? with | some b => b.mark.testBit 1 | none => false
  match ty with
  | 0 => [(buf, idx)]
  | 1 =>
    let last := (x.refs.filter (fun r => r.2 % x.minigop == 0)).foldl (fun m r => max m r.2) 0
    x.refs.filter (fun r => long r || r.2 == last) ++ [(buf, idx)]
  | _ => if x.depth idx = Nat.log2 x.minigop then x.refs else x.refs ++ [(buf, idx)]

/-- A coded picture ends: reconstruction, report, marks and counts (R340, R343 to R345). -/
def State.vcEncodeEnd (s : State) (c : InFlight) (v k : Nat) (x : VcSlot) (e : EncRun) : State :=
  let b := c.ext
  let idx := leAt b 36 4
  let ty := x.picType idx (bitsAt b 80 3 3 == 1)
  let bp := if x.cap = 0 then 0 else x.budget
  let over_ := x.cap != 0 && decide (bp < e.bits)
  let y := x.counted e.bits
  let refs := x.refsAfter e.buf idx ty
  let recon := bitsAt b 80 10 10 == 1
  let bufs := (List.range x.bufs.length).filterMap (fun i => (x.bufs[i]?).map (fun d =>
    let ref := if refs.any (fun r => r.1 == i) then
        (if i = e.buf then (if ty = 0 ∧ x.ltr then 2 else 1) else d.mark % 4) else 0
    { d with mark := ref + (if d.mark.testBit 2 || (recon && i == e.buf) then 4 else 0) }))
  let rep := leBytes 8 e.bits ++ leBytes 8 bp ++ leBytes 8 (if over_ then e.bits - bp else 0) ++
    leBytes 8 (if x.cap ≠ 0 ∧ x.done + 1 = x.window then y.debt else 0) ++ leBytes 1 ty ++
    leBytes 1 (x.clampQp (x.qi + x.depth idx)) ++ leBytes 1 e.lastQp ++ leBytes 1 e.buf ++ leBytes 4 e.exh ++ leBytes 2 e.slices ++
    leBytes 22 0
  let pic := match x.bufs[e.buf]? with
    | none => []
    | some d => (List.range x.maxH).map (fun r => (d.y + d.pitch * r, (List.range x.maxW).flatMap (fun i =>
          x.sample (Config.video [16, e.tok, 0, r, i])))) ++
        (List.range (x.maxH / 2)).map (fun r => (d.c + d.pitch * r, (List.range x.maxW).flatMap (fun i =>
          x.sample (Config.video [16, e.tok, 1, r, i])))) ++
        [(d.mv, (List.range ((x.parts d).getD 2 (0, 0)).2).map (fun i => BitVec.ofNat 8 (Config.video [17, e.tok, i])))]
  let w := s.wrAll c.part (pic ++ [(leAt b 40 8, rep)])
  if w.2 ≠ 0 then w.1.endCmd c.ring c.seq w.2 e.bytes
  else
    let s := w.1.putSlot c.part v k { y with bufs := bufs, refs := refs, hist := e.tok, coded := x.coded + 1
                                             pictures := (x.pictures + 1) % 2 ^ 32 }
    let s := s.addFld (vcPage v) Fld.VC_PIX_ENC_COUNT (x.maxW * x.maxH)
    let s := if over_ then (s.addFld (vcPage v) Fld.VC_CAP_EXC_COUNT 1).raise (vcPage v) 17 else s
    let s := s.modCmd c.ring c.seq (fun z => { z with info := z.info ||| (if over_ then 2 ^ 17 else 0), prog := [] })
    s.observe.endCmd c.ring c.seq 0 e.bytes

/-- A coded picture stops before its end: the session stands as before it (R344, R346). -/
def State.vcEncodeStop (s : State) (c : InFlight) (v k : Nat) (x : VcSlot) (e : EncRun) (code : Code) : State :=
  let s := s.putSlot c.part v k { x with bufs := x.bufs.map (fun d => { d with mark := d.mark % 8 }) }
  (s.modCmd c.ring c.seq (fun z => { z with prog := [] })).endCmd c.ring c.seq code e.bytes

/-- The ROI map of a command, or its refusal (R341). -/
def State.vcRoi (s : State) (p : Nat) (x : VcSlot) (b : List Byte) : Except Code (List Byte) :=
  if leAt b 72 8 = 0 then .ok []
  else match s.rdDev (some p) (leAt b 72 8) (x.rows * x.cols) with
    | .error e => .error e
    | .ok m => if m.any (fun r => decide (sext 8 r.toNat < -12) || decide (12 < sext 8 r.toNat)) then .error 0x0B08 else .ok m

/-- Code the next CTU row of a picture in progress, and end the picture after the last. -/
def State.vcEncodeRow (s : State) (c : InFlight) (v k : Nat) (x : VcSlot) : State :=
  let b := c.ext
  let e := EncRun.ofList c.prog
  match s.vcSource c.part x b e.row with
  | .error d =>
    let n := leAt b 16 4 * leAt b 22 2
    let s := if d = 0xF001 then (match s.badDev? (some c.part) (leAt b 0 8) n with
      | some q => s.recordBad q 1 (some c.part) (some c)
      | none => match s.badDev? (some c.part) (leAt b 8 8) n with
        | some q => s.recordBad q 1 (some c.part) (some c)
        | none => s) else s
    s.vcEncodeStop c v k x e d
  | .ok src =>
    let key := x.picType (leAt b 36 4) (bitsAt b 80 3 3 == 1) == 0
    let e := { e with tok := Config.video (25 :: e.tok :: src.map BitVec.toNat) }
    let e := x.ctuRow key (if x.cap = 0 then 0 else x.budget) e
    let ends := e.row = x.rows ∨ x.sliceRows ≠ 0 ∧ e.row % x.sliceRows = 0
    let (s, e, code) := if ends then s.vcSlice c e else (s, e, 0)
    if code ≠ 0 then s.vcEncodeStop c v k x e code
    else if e.row = x.rows then s.vcEncodeEnd c v k x e
    else s.modCmd c.ring c.seq (fun z => { z with prog := e.toList })

/-- A picture begins to be coded (R334, R340, R341): its buffer is CURRENT; without a row fence every row is coded at once. -/
def State.vcEncodeRun (s : State) (c : InFlight) (v k : Nat) (x : VcSlot) : State :=
  let b := c.ext
  let code := x.encodeCode b
  if code ≠ 0 then s.endCmd c.ring c.seq code 0
  else if leAt b 72 8 ≠ 0 ∧ s.rangeCode c.part (leAt b 72 8) (x.rows * x.cols) ≠ 0 then
    s.endCmd c.ring c.seq (s.rangeCode c.part (leAt b 72 8) (x.rows * x.cols)) 0
  else match s.vcRoi c.part x b, x.free? with
    | .error e, _ => s.stopCmd c e 0 (leAt b 72 8) (x.rows * x.cols)
    | .ok _, none => s.endCmd c.ring c.seq 0x0B06 0
    | .ok roi, some i =>
      let idx := leAt b 36 4
      let tok := Config.video (0 :: x.std :: x.hist :: leAt b 80 4 :: idx :: leAt b 20 4 :: roi.map BitVec.toNat)
      let e : EncRun := ⟨i, tok, 0, 0, noCtu, x.clampQp (x.qi + x.depth idx), 0, 0, 0, roi.map BitVec.toNat⟩
      let bufs := (List.range x.bufs.length).filterMap (fun j => (x.bufs[j]?).map (fun d =>
        if j = i then { d with mark := d.mark % 8 + 8 } else d))
      let s := (s.modVc v (fun y => { y with slots := SMap.put y.slots k { x with bufs := bufs } })).modCmd c.ring c.seq
        (fun z => { z with prog := e.toList })
      let s := (s.wrAll c.part [(x.pool + 64 * i + 36, leBytes 1 8)]).1
      if leAt b 48 8 ≠ 0 then s
      else (List.range x.rows).foldl (fun s _ => match s.cmdAt? c.ring c.seq with
        | some d => if d.phase = .started then s.vcEncodeRow d v k x else s
        | none => s) s

/-! ### Picture commands (R330, R335, R342, R346) -/

/-- A picture command runs once its engine reaches it. -/
def State.vcPictureRun (s : State) (c : InFlight) : State :=
  match s.vcOf? c with
  | none => s.endCmd c.ring c.seq 0x0103 0
  | some v =>
    let me := (c.ring, c.seq)
    let q := s.vcQueue v
    let q := if q.contains me then q else q ++ [me]
    let s := s.modVc v (fun e => { e with queue := q })
    if q.head? ≠ some me ∨ c.prog ≠ [] ∨ s.vcEarlier v c [0x74] = true then s
    else match s.vcSlot? v (vcSlotNo c) with
      | none => s.endCmd c.ring c.seq 0x0B02 0
      | some x =>
        if x.st ≠ (if c.cmd.op = 0x72 then 1 else 2) then s.endCmd c.ring c.seq 0x0B02 0
        else if c.cmd.op = 0x72 then s.vcDecodeRun c v (vcSlotNo c) x else s.vcEncodeRun c v (vcSlotNo c) x

/-- A picture command starts (R330, R335). -/
def State.vcPictureStart (s : State) (c : InFlight) : State :=
  match s.vcOf? c with
  | none => s.endCmd c.ring c.seq 0x0103 0
  | some v => if s.vcClosing v (vcSlotNo c) then s.endCmd c.ring c.seq 0x0B02 0 else s.vcPictureRun c

/-- VC_ENCODE_ROW_START (R342): the next CTU row starts when the source row fence has reached what it needs. -/
def vcRowStart (s : State) (r q : Nat) : State :=
  s.contCmd 0x73 r q State.vcPictureStart (fun s c =>
    if c.prog = [] then s.vcPictureRun c
    else match s.vcOf? c with
      | none => s
      | some v => match s.vcSlot? v (vcSlotNo c) with
        | none => s
        | some x =>
          let want := leAt c.ext 56 8 + x.need c.ext (EncRun.ofList c.prog).row
          match s.xlate (some c.part) (leAt c.ext 48 8) with
          | .error _ => s
          | .ok key => if s.semAtLeast key want then s.vcEncodeRow c v (vcSlotNo c) x else s)

/-- VC_OPEN (R332). -/
def vcOpenCmd (s : State) (r q : Nat) : State := s.runCmd 0x70 r q State.vcOpenStart
/-- VC_CLOSE (R332). -/
def vcCloseCmd (s : State) (r q : Nat) : State := s.contCmd 0x71 r q State.vcCloseStart State.vcCloseRun
/-- VC_DECODE (R337). -/
def vcDecodeCmd (s : State) (r q : Nat) : State := s.contCmd 0x72 r q State.vcPictureStart State.vcPictureRun
/-- VC_ENCODE (R340). -/
def vcEncodeCmd (s : State) (r q : Nat) : State := s.contCmd 0x73 r q State.vcPictureStart State.vcPictureRun
/-- VC_RELEASE (R334). -/
def vcReleaseCmd (s : State) (r q : Nat) : State := s.contCmd 0x74 r q State.vcReleaseStart State.vcReleaseRun

/-- Every session of an engine is closed, with all marks cleared, in its partition's buffer tables too (R346). -/
def State.closeSessions (s : State) (v : Nat) : State :=
  if (s.vc v).slots.isEmpty then s
  else
    let marks : List Nat := (s.vc v).slots.flatMap (fun x => (List.range x.2.bufs.length).map (fun i => x.2.pool + 64 * i + 36))
    let s := match s.codecPart? v with
      | some p => marks.foldl (fun (s : State) a => (s.wrDev (some p) a [0]).1) s
      | none => s
    (s.modVc v (fun _ => {})).raise (vcPage v) 18

/-- VC_OPEN (R332). -/
def execVcOpen (ring seq : Nat) (s : State) : Host.Outcome State Fault Refusal := State.done (vcOpenCmd s ring seq)
/-- VC_CLOSE (R332). -/
def execVcClose (ring seq : Nat) (s : State) : Host.Outcome State Fault Refusal := State.done (vcCloseCmd s ring seq)
/-- VC_DECODE (R337). -/
def execVcDecode (ring seq : Nat) (s : State) : Host.Outcome State Fault Refusal := State.done (vcDecodeCmd s ring seq)
/-- VC_ENCODE (R340). -/
def execVcEncode (ring seq : Nat) (s : State) : Host.Outcome State Fault Refusal := State.done (vcEncodeCmd s ring seq)
/-- VC_ENCODE_ROW_START (R342). -/
def execVcEncodeRowStart (ring seq : Nat) (s : State) : Host.Outcome State Fault Refusal := State.done (vcRowStart s ring seq)
/-- VC_RELEASE (R334). -/
def execVcRelease (ring seq : Nat) (s : State) : Host.Outcome State Fault Refusal := State.done (vcReleaseCmd s ring seq)

end Sys2Proof.Machine
end

