-- ==== Sys2Proof/Machine/Views.lean ====
section
/-!
DEFINITION. What a register reads as: the stored word, the Live word of an SH register, or a view of what the units hold (R4, R19,
R22, R27 and the register tables of every chapter).
-/
namespace Sys2Proof.Machine

open Sys2Proof

/-- A word from fields: lowest bit and value. -/
def packWord (fs : List (Nat × Nat)) : Word64 := BitVec.ofNat 64 (fs.foldl (fun a f => a ||| f.2 <<< f.1) 0)

/-- A flag as a field. -/
def b1 (b : Bool) : Nat := if b then 1 else 0

/-- BLK_CAP by class (R161, R184, R273, R327, R347, R373, R396, R420, R468). -/
def blkCap (cls : Nat) : Word64 :=
  match cls with
  | 7 => packWord [(0, 4), (3, 1), (4, 1), (5, 1), (16, 1), (17, 1), (18, 32), (24, 16)]
  | 8 => 2
  | 9 => packWord [(0, 12), (4, 32)]
  | 10 => packWord [(0, 15), (4, 4)]
  | 11 => packWord [(0, 63), (6, 16)]
  | 12 => 7
  | 13 => packWord [(0, 6), (4, 16), (9, 64), (16, 3)]
  | 14 => packWord [(0, 16), (5, 16)]
  | _ => 0

/-- BLK_ID.VER_MINOR by class. -/
def verMinor (cls : Nat) : Nat := match cls with
  | 7 => 3
  | 2 | 8 | 14 => 2
  | _ => 1

/-- BLK_SHAPE_GEN.GEN of a page (R32): the Live generation, or the one it still runs under. -/
def State.pageGen (s : State) (pg : Nat) : Nat := (SMap.get? s.shape.genHeld pg).getD s.shape.live.gen

/-- The common header (Tables 2.2 to 2.9), its stored registers apart. -/
def State.headerView (s : State) (pg off : Nat) : Option Word64 :=
  let cls := pgClass pg
  match off with
  | 0x000 => some (packWord [(0, cls), (8, pgInst pg), (24, 1), (32, verMinor cls)])
  | 0x008 => some (blkCap cls)
  | 0x010 => some (packWord [(0, b1 (s.enabled pg)), (2, b1 (shapeBound cls))])
  | 0x018 => some (packWord [(0, b1 (s.liveBlk pg)), (1, s.fld pg Fld.BLK_STATUS_REFUSED), (2, b1 (s.busy pg)),
      (3, s.fld pg Fld.BLK_STATUS_FAULT), (4, b1 (s.pageTrimmed pg))])
  | 0x040 => some (BitVec.ofNat 64 (s.pageGen pg))
  | _ => none

/-- Trimmed units of a kind. -/
def State.trimCount (s : State) (kind : Nat) : Nat := (s.trim.filter (fun t => t.1 == kind)).length

/-- Word `i` of a byte list. -/
def wordAt (b : List Byte) (i : Nat) : Word64 := BitVec.ofNat 64 (leAt b (8 * i) 8)

/-- Crown page views: error ring data and the trim summary (Tables 19.2, 19.7). -/
def State.crnView (s : State) (off : Nat) : Option Word64 :=
  let rec_ := (SMap.get? s.errs.recs (s.fld crnPage Fld.CRN_ERR_PTR_HEAD)).getD []
  if 0x158 ≤ off ∧ off ≤ 0x190 ∧ off % 8 = 0 then some (wordAt rec_ ((off - 0x158) / 8))
  else match off with
    | 0x198 => some (packWord [(0, s.trimCount 5), (5, s.trimCount 6), (13, s.trimCount 7), (24, s.trimCount 16), (37, s.trimCount 8),
        (48, s.trimCount 9), (54, s.trimCount 10), (59, s.trimCount 17)])
    | 0x1A0 => some (packWord [(0, s.trimCount 11), (5, s.trimCount 12), (12, s.trimCount 13), (14, s.trimCount 0), (16, s.trimCount 4)])
    | _ => none

/-- The bank SHP_ACC_ADDR selects; an empty one for a bank that holds nothing (R27, R35). -/
def ShapeUnit.accBank (u : ShapeUnit) (sel : Nat) : Bank :=
  match sel with
  | 0 => u.pend
  | 1 => u.live
  | 2 => u.prior
  | _ => match u.cur.bind u.slot? with | some n => n.bank | none => {}

/-- Shape page views: SHP_ACC_DATA. -/
def State.shpView (s : State) (off : Nat) : Option Word64 :=
  if off = 0x138 then
    let a := s.reg (shpPage + 0x130)
    let o := getBits a 27 0
    let b := s.shape.accBank (getBits a 29 28)
    some (if b.gen ≠ 0 ∧ (shOffs (pgClass o)).contains (pgOff o) then SMap.getD b.words (regKey (pgBase o) (pgOff o)) 0 else 0)
  else none

/-- Calendar page views: the seconds, and the fraction latched by the last read of CC_TIME_S (Table 3.8, R68). -/
def State.ccView (s : State) (off : Nat) : Option Word64 :=
  match off with
  | 0x100 => some (BitVec.ofNat 64 s.cal.secs)
  | 0x108 => some (BitVec.ofNat 64 s.cal.latched)
  | _ => none

/-- STR page views: edges of the present window and the alternate master are stored; the source in use is not. -/
def State.strView (s : State) (off : Nat) : Option Word64 :=
  if off = 0x140 then some ((s.reg (strPage + off) &&& ~~~(0xC : Word64)) ||| packWord [(2, s.stroke.source)]) else none

/-- C-die page views: Factor Engine and frames (Tables 12.11, 13.9). -/
def State.cdieView (s : State) (d off : Nat) : Option Word64 :=
  let fe := (s.cmds.filter (fun c => c.cmd.op == 0x53 && c.issued && s.served? 17 (c.ccp / 8) == some d)).length
  let sets := if s.dieKind d = 1 then [32 + 2 * d, 33 + 2 * d] else [d]
  match off with
  | 0x700 => if d = 0 then none else some (setBits (s.reg (page 5 d + off)) 22 22 0)
  | 0x600 => some (packWord [(0, b1 (decide (0 < fe))), (1, min fe 64), (8, b1 (s.trimmed 17 d))])
  | 0x708 =>
    let (t, f) := s.frameSel d
    let fr := s.frame t f
    some (if s.frameSelVoid d || decide (s.setFrames t ≤ f) then 0
      else packWord [(0, if t = 64 then 12 else fr.gran), (8, if t = 64 then f else fr.ord), (29, b1 fr.alloc), (30, fr.st)])
  | 0x710 =>
    let ret := (s.frames.filter (fun x => sets.contains (x.1 / 2 ^ 24) && x.2.st != 0)).length
    some (packWord [(0, s.setFrames (sets.headD d)), (21, match sets[1]? with | some t => s.setFrames t | none => 0), (42, ret)])
  | _ => none

/-- Attention commands in flight on a cluster's sequencer. -/
def State.asLoad (s : State) (k : Nat) : Nat := s.engineLoad (page 6 k, 0)

/-- Cluster page views (Table 9.8): entries are read ahead within the one step of a command, so none stands between steps. -/
def State.cluView (s : State) (k off : Nat) : Option Word64 :=
  match off with
  | 0x300 => some (packWord [(0, b1 (decide (0 < s.asLoad k))), (1, min (s.asLoad k) 64)])
  | 0x328 => some (BitVec.ofNat 64 (s.asEpochOld k))
  | _ => none

/-- Staging buffers that the commands a vector engine holds take, of its 32 (R165, Table 7.1). -/
def State.vecBuffers (s : State) (n : Nat) : Nat :=
  ((s.cmds.filter (fun c => c.issued && c.cmd.op == 0x33 && (s.cmdEngines c).contains (page 7 n, 4))).map
    (fun c => (vecDesc c.ext).buffers)).sum

/-- Core page views (Tables 6.6, 7.9): of each engine whether it holds a command, and how many descriptors are issued to it. -/
def State.coreView (s : State) (n off : Nat) : Option Word64 :=
  let q (e : Nat) : Nat := min 64 (s.engineLoad (page 7 n, e))
  let on (e : Nat) : Nat := b1 (decide (0 < q e))
  match off with
  | 0x200 =>
    some (packWord ((List.range 4).flatMap (fun e => [(e, on e), (4 + e, b1 (s.trimmed 16 (4 * n + e))), (8 + 8 * e, q e)])))
  | 0x220 => some (packWord [(0, on 4), (1, q 4), (8, b1 (s.trimmed 7 n)), (9, 32 - s.vecBuffers n)])
  | _ => none

/-- Channel page views: Update Unit and remap table (Tables 12.10, 13.8). -/
def State.mcView (s : State) (ch off : Nat) : Option Word64 :=
  let x := s.chan ch
  let used := x.remaps.filter (fun r => !(r.copying && r.count == 1))
  let ups := (s.cmds.filter (fun c => (c.cmd.op == 0x50 || c.cmd.op == 0x51 || c.cmd.op == 0x52) && c.issued &&
    s.workOn (mcPage ch) c)).length
  match off with
  | 0x130 =>
    some (match used.find? (fun r => r.idx == s.fld (mcPage ch) Fld.MC_REMAP_SEL_ENTRY) with
      | some r => packWord [(0, r.row), (32, r.spare), (46, min r.count 3), (63, 1)]
      | none => 0)
  | 0x138 => some (packWord [(0, used.length), (16, x.sparesRetired.length), (32, x.rowsRetired.length)])
  | 0x400 => some (packWord [(0, b1 (decide (0 < ups))), (1, min 64 ups)])
  | 0x410 => some (BitVec.ofNat 64 (s.uuStep ch (s.fld (mcPage ch) Fld.MC_UU_STEP_SEL_GROUP)))
  | _ => none

/-- Fuller page views (Table 11.12). -/
def State.fulView (s : State) (d off : Nat) : Option Word64 :=
  if off = 0x100 then
    some (packWord [(0, min (s.unitLoad (page 10 d)) 4), (3, min (s.unitLoad (page 10 d)) 64)])
  else none

/-- Codec page views (Table 14.8). -/
def State.vcView (s : State) (v off : Nat) : Option Word64 :=
  match off with
  | 0x100 =>
    let q := s.unitLoad (vcPage v)
    some (packWord (((s.vc v).slots.map (fun x => (x.1, 1))) ++ [(16, b1 (!(s.vcQueue v).isEmpty)), (17, min q 64), (24, b1 (s.trimmed 11 v))]))
  | 0x130 =>
    some (match s.vcSlot? v (s.fld (vcPage v) Fld.VC_SESSION_SEL_SLOT) with
      | some x => packWord [(0, x.st), (8, (x.bufs.filter (fun b => b.mark % 8 == 0)).length), (16, x.pictures)]
      | none => 0)
  | _ => none

/-- Host port page views: the completion log's entry at HEAD (Table 15.6). -/
def State.hpView (s : State) (h off : Nat) : Option Word64 :=
  if 0x1B0 ≤ off ∧ off ≤ 0x1E8 ∧ off % 8 = 0 then
    some (wordAt ((SMap.get? (s.hp h).clog (s.fld (hpPage h) Fld.HP_CLOG_PTR_HEAD)).getD []) ((off - 0x1B0) / 8))
  else none

/-- Context state as a number (Table 17.9). -/
def ctxStNo : CtxSt → Nat
  | .empty => 0
  | .ready => 1
  | .resident => 2
  | .saving => 3
  | .restoring => 4
  | .suspended => 5
  | .aborted => 6

/-- Windows of rings and contexts on a partition's page (Tables 4.1, 17.8, 17.9). -/
def State.partCtxView (s : State) (p off : Nat) : Option Word64 :=
  let r := if s.shape.live.ownsRing p (s.ringSel p) then s.ring (s.ringSel p) else {}
  let x := s.ctx p (s.ctxSel p)
  match off with
  | 0x808 => some (BitVec.ofNat 64 (s.ringSel p))
  | 0x810 => some r.base
  | 0x818 => some r.cfg
  | 0x820 => some r.cqBase
  | 0x828 => some r.cqCfg
  | 0x830 => some r.sat
  | 0x838 => some (packWord [(0, r.head), (32, r.tail)])
  | 0x840 => some (packWord [(0, r.cqTail), (32, r.cqHead)])
  | 0x848 => some (packWord [(0, r.st), (16, r.fault),
      (32, if s.shape.live.ownsRing p (s.ringSel p) then s.inflight (s.ringSel p) else 0)])
  | 0x200 =>
    let now := (List.range 16).find? (fun c => match (s.ctx p c).st with | .resident | .saving | .restoring => true | _ => false)
    let sw := (List.range 16).any (fun c => match (s.ctx p c).st with | .saving | .restoring => true | _ => false)
    let res := s.resident? p
    some (packWord [(0, (res.orElse (fun _ => now)).getD 0), (4, b1 res.isSome), (5, b1 sw),
      (16, match res with | some c => (s.ctx p c).quantum - (s.ctx p c).residentStrokes | none => 0)])
  | 0x308 => some ((x.cfg &&& ~~~(1 : Word64)) ||| packWord [(0, b1 (x.st != .empty))])
  | 0x310 => some x.save
  | 0x318 => some x.win
  | 0x320 => some x.bind
  | 0x330 => some (packWord [(0, ctxStNo x.st), (3, b1 x.suspendPending), (16, x.lastCode)])
  | 0x338 => some (BitVec.ofNat 64 x.slip)
  | 0x340 => some (packWord [(0, x.saveNs), (32, x.restoreNs)])
  | 0x348 => some (packWord [(0, x.switches), (32, x.aborts)])
  | 0xD00 => some (packWord [(0, x.wdLimit), (16, x.wdCount)])
  | _ => none

/-- Slots of a tier in a state. -/
def State.slotsIn (s : State) (p : Nat) (host : Bool) (st : Nat) : Nat :=
  let (b, n) := s.tier p host
  ((List.range n).filter (fun i => s.slotSt p (b + i) == st)).length

/-- Slots of a tier in LIMBO (R236). -/
def State.limboIn (s : State) (p : Nat) (host : Bool) : Nat :=
  let (b, n) := s.tier p host
  ((s.kvLimbo.filter (fun x => x.1 == p && decide (b ≤ x.2.1) && decide (x.2.1 < b + n))).map (fun x => s.slotSpan p x.2.1)).sum

/-- The other windows of a partition's page: KV counts, Region Window Table, logical cores (Tables 10.9, 15.3, 19.8). -/
def State.partView (s : State) (p off : Nat) : Option Word64 :=
  let e := s.rwtEntry (s.rwtSel p)
  match off with
  | 0x938 => some (packWord [(0, s.slotsIn p false 0), (32, s.slotsIn p true 0)])
  | 0x940 => some (packWord [(0, s.limboIn p false), (32, s.limboIn p true)])
  | 0x960 => some (BitVec.ofNat 64 (s.epochOld p))
  | 0xA08 => some (BitVec.ofNat 64 (s.rwtSel p))
  | 0xA10 => some e.w1
  | 0xA18 => some e.w2
  | 0xA20 => some e.w0
  | 0xD18 =>
    some (match s.physCore? p (s.fld (partPage p) Fld.PART_LMAP_SEL_LCORE) with
      | some n => packWord [(0, n), (10, n / 8), (17, 1)]
      | none => 0)
  | off => s.partCtxView p off

/-- Security page views (Table 20.6). -/
def State.secView (s : State) (off : Nat) : Option Word64 :=
  if off = 0x110 then
    let c := s.fld secPage Fld.SEC_SVN_SEL_COUNTER
    some (packWord [(0, s.sec.counters.getD c 0), (16, s.sec.running c)])
  else none

/-- What a page's own registers show beyond what is stored. -/
def State.pageView (s : State) (pg off : Nat) : Option Word64 :=
  let i := pgInst pg
  match pgClass pg with
  | 0 => s.crnView off
  | 1 => s.shpView off
  | 2 => s.strView off
  | 3 => s.ccView off
  | 5 => s.cdieView i off
  | 6 => s.cluView i off
  | 7 => s.coreView i off
  | 8 => s.mcView i off
  | 10 => s.fulView i off
  | 11 => s.vcView i off
  | 13 => s.hpView i off
  | 14 => s.partView i off
  | 15 => s.secView off
  | _ => none

/-- What a 64-bit read of a register returns to a requester that may read it (R4, R19, R22, R27). -/
def State.readReg (s : State) (pg off : Nat) : Word64 :=
  if pagePresent pg = false then 0
  else match s.headerView pg off with
    | some v => v
    | none => match s.pageView pg off with
      | some v => v
      | none =>
        if (shOffs (pgClass pg)).contains off then SMap.getD s.shape.live.words (regKey pg off) 0
        else if (classRegs (pgClass pg)).any (fun r => r.off == off) || decide (off ≤ 0x38) then s.reg (regKey pg off)
        else 0

/-- What a requester reads: 0 from a page it may not read, one its port does not present, or one that Block-hold has powered off
(R19, R21, R371, R429); the queue registers of Dwerdo only in that personality (R372). -/
def State.readFor (s : State) (who : Requester) (pg off : Nat) : Word64 :=
  if !s.presents who pg || !s.mayRead who pg || s.pageDark pg then 0
  else if pgClass pg = 13 ∧ 0x300 ≤ off ∧ !s.dwerdo then 0
  else s.readReg pg off

/-- What a read of a register or of one of its halves returns (R6): a half in the low 32 bits. -/
def State.readWidth (s : State) (who : Requester) (pg off : Nat) (w : Width) : Word64 :=
  match w with
  | .w64 => s.readFor who pg off
  | .lo32 => s.readFor who pg off &&& 0xFFFFFFFF
  | .hi32 => s.readFor who pg off >>> 32

end Sys2Proof.Machine
end

