-- ==== Sys2Proof/Machine/Fetch.lean ====
section
/-!
DEFINITION. Fetching and checking commands (R76, R78, R80, R82, R87, R91, R97), from rings and from the tidy cores' issue
queues (R181).
-/
namespace Sys2Proof.Machine

open Sys2Proof

/-! ### The checks of R80 -/

/-- EXT_LEN an opcode takes, none for an unknown or reserved one (R80, Table 4.1 and the home chapters). -/
def extNeed? (op : Nat) : Option Nat :=
  if op ≤ 3 then some 0
  else match op with
    | 0x04 | 0x10 | 0x2C | 0x32 | 0x53 | 0x72 | 0x90 | 0x91 | 0x92 | 0x93 => some 1
    | 0x28 | 0x29 | 0x70 | 0x73 => some 2
    | 0x30 | 0x50 | 0x51 | 0x52 => some 3
    | 0x34 | 0x35 | 0x36 => some 4
    | 0x33 => some 7
    | 0x60 | 0x61 | 0x62 | 0x63 | 0x64 | 0x65 | 0x66 => some 1
    | 0x71 | 0x74 => some 0
    | _ => none

/-- A reserved field, or an index, SIG_OP or SIG_VAL whose enable is 0, is not zero (R79, R80). -/
def Cmd.badReserved (c : Cmd) : Bool :=
  c.flags / 128 % 512 != 0 || c.rsvd != 0 || (!c.wait0En && c.w0 != 0) || (!c.wait1En && c.w1 != 0) ||
    (!c.sigEn && (c.sigIdx != 0 || c.sigOp != 0 || c.sigVal != 0))

/-- A semaphore address table entry (Table 4.9). -/
structure SatEntry where
  /-- REMOTE. -/
  remote : Bool
  /-- NODE. -/
  node : Nat
  /-- ADDR, the device address of the word. -/
  addr : Nat
  deriving DecidableEq, Repr

/-- Read an entry of a ring's semaphore address table, none when it is not valid under R82 or cannot be read. -/
def State.satEntry? (s : State) (p r i : Nat) : Option SatEntry :=
  match s.rdDev (some p) ((s.ring r).sat.toNat + 8 * i) 8 with
  | .error _ => none
  | .ok b =>
    let w := leNat b
    let bits (lo n : Nat) : Nat := w / 2 ^ lo % 2 ^ n
    if bits 0 1 = 1 ∧ bits 2 1 = 0 ∧ bits 61 3 = 0 ∧ (bits 1 1 = 1 ∨ bits 48 13 = 0) then
      some ⟨bits 1 1 == 1, bits 48 13, bits 3 45 * 8⟩
    else none

/-- The memory key of a local semaphore word, or the code of R80. -/
def State.semKey (s : State) (p a : Nat) : Except Code Nat :=
  match s.xlate (some p) a with
  | .error e => .error (if e == 0x0109 || e == 0x0A01 || e == 0x0103 then 0x0304 else e)
  | .ok k => .ok k

/-- An active wait's semaphore (R80, R82). -/
def State.waitKey (s : State) (p r i : Nat) : Except Code Nat :=
  match s.satEntry? p r i with
  | none => .error 0x0307
  | some e => if e.remote then .error 0x0308 else s.semKey p e.addr

/-- An active signal's target, with the code of R80 or R388 when it cannot be performed. -/
def State.sigTarget (s : State) (p r : Nat) (c : Cmd) : SigTarget × Code :=
  if !c.sigEn then (.none, 0)
  else match s.satEntry? p r c.sigIdx with
    | none => (.bad, 0x0307)
    | some e =>
      if e.remote then
        if !s.brim.members.testBit e.node then (.bad, 0x0D08)
        else if c.sigOp = 3 then (.bad, 0) else (.remote e.node e.addr, 0)
      else match s.semKey p e.addr with
        | .error code => (.bad, code)
        | .ok k => if c.sigOp = 3 then (.bad, 0) else (.local k, 0)

/-- The extended descriptor of a command of a ring, or the code of R80 (R78). -/
def State.readExt (s : State) (p r : Nat) (c : Cmd) : Except Code (List Byte) :=
  let x := s.ring r
  let n := 64 * c.extLen
  if n = 0 then .ok []
  else if c.payload % 64 ≠ 0 then .error 0x0108
  else if x.inHost then
    if s.hostCode x.port p c.payload n ≠ 0 then .error 0x030B else .ok (s.rdHost x.port c.payload n)
  else if s.hbmCode p c.payload n ≠ 0 then .error (s.hbmCode p c.payload n)
  else match s.rdDev (some p) c.payload n with
    | .error _ => .error 0x030B
    | .ok b => .ok b

/-- The home check of a control opcode (R60, R62, R81). -/
def State.controlCheck (s : State) (c : InFlight) : Code :=
  let x := c.cmd
  let maxFlags := if x.op = 2 then 3 else 0
  let addr := leAt c.ext 0 8
  if (x.op = 1 ∧ 1 < x.sub) ∨ (x.op = 4 ∧ 6 < x.sub) then 0x0102
  else if (x.op ≠ 1 ∧ x.op ≠ 4 ∧ x.sub ≠ 0) ∨ maxFlags < x.opFlags ∨ x.arg ≠ 0 ∨ (x.op ≠ 4 ∧ x.payload ≠ 0) ∨
      (x.op = 4 ∧ (c.ext.drop 24).any (fun b => b != 0)) then 0x0101
  else if x.op = 2 ∧ x.notBefore = 0 then 0x0102
  else if x.op = 3 ∧ !x.sigEn then 0x0303
  else if x.op = 4 ∧ addr % 8 ≠ 0 then 0x0108
  else if x.op = 4 then s.ownCode c.part addr 8
  else 0

/-- The check of an opcode's home chapter (R80). -/
def State.homeCheck (s : State) (c : InFlight) : Code :=
  match c.cmd.op with
  | 0x10 => s.moveCheck c
  | 0x28 | 0x29 => s.fulCheck c
  | 0x2C => s.evacCheck c
  | 0x30 => s.gemmCheck c
  | 0x32 => s.pounceCheck c
  | 0x33 => s.vecCheck c
  | 0x34 => s.convHome c
  | 0x35 | 0x36 => s.attnCheck c
  | 0x50 | 0x51 | 0x52 => s.updCheck c
  | 0x53 => s.factorCheck c
  | 0x60 | 0x61 | 0x62 | 0x63 | 0x64 | 0x65 | 0x66 => s.collCheck c
  | 0x70 | 0x71 | 0x72 | 0x73 | 0x74 => s.codecCheck c
  | 0x90 | 0x91 | 0x92 | 0x93 => s.tierCheck c
  | _ => s.controlCheck c

/-- A wait as fetched: its semaphore's key when active and sound, and its code. -/
def State.waitOf (s : State) (p r : Nat) (en : Bool) (i : Nat) : Option Nat × Code :=
  if !en then (none, 0) else match s.waitKey p r i with
    | .ok k => (some k, 0)
    | .error e => (none, e)

/-- A command as fetched from 64 bytes: parsed, its semaphores and descriptor read, and checked in the order of R80; one that
fails ends at once with its code and GOOD_BYTES 0.  `f` marks where it came from. -/
def State.fetchedWith (s : State) (p r seq ccp : Nat) (c : Cmd) (ext : Except Code (List Byte)) (f : InFlight → InFlight) :
    InFlight :=
  let sig := s.sigTarget p r c
  let w0 := s.waitOf p r c.wait0En c.w0
  let w1 := s.waitOf p r c.wait1En c.w1
  let x : InFlight := f {
    ring := r, seq := seq, order := s.fetches, part := p, ctx := (s.ring r).context, ccp := ccp, cmd := c,
    ext := match ext with | .ok e => e | .error _ => [],
    wait0 := w0.1, wait1 := w1.1, met0 := !c.wait0En, met1 := !c.wait1En, sig := sig.1,
    phase := .waiting, status := 0, good := 0, info := 0, ports := [], lostPorts := [], saved := false, epoch := none,
    prog := [], dw := none, tc := none, unacked := 0, sigSent := false }
  let common : Code :=
    if (extNeed? c.op).isNone then 0x0301
    else if c.badReserved then 0x0101
    else if c.notBefore ≠ 0 ∧ c.deadline ≠ 0 ∧ c.deadline ≤ c.notBefore then 0x0102
    else if extNeed? c.op ≠ some c.extLen then 0x030D
    else match ext with
      | .error e => e
      | .ok _ => if sig.2 ≠ 0 then sig.2 else if w0.2 ≠ 0 then w0.2 else if w1.2 ≠ 0 then w1.2
          else if c.sigEn && c.sigOp == 3 then 0x0102 else 0
  let code := if common ≠ 0 then common else s.homeCheck x
  if code = 0 then x else { x with phase := .ended, status := code }

/-- A command as fetched from a ring or taken from a tidy core: its fields parsed, its extended descriptor read, checked. -/
def State.fetched (s : State) (p r seq ccp : Nat) (b : List Byte) (f : InFlight → InFlight) : InFlight :=
  s.fetchedWith p r seq ccp (parseCmd b) (s.readExt p r (parseCmd b)) f

/-- Uncorrectable data met by a fetch, or by the read of a descriptor or table entry, is recorded (R311, R440). -/
def State.recordFetchBad (s : State) (p a n : Nat) : State :=
  match s.badDev? (some p) a n with
  | some k => s.recordBad k 1 (some p) none
  | none => s

/-- The records of uncorrectable data in what checking a command reads. -/
def State.recordCheckBad (s : State) (p r : Nat) (c : Cmd) : State :=
  let x := s.ring r
  let at_ (s : State) (en : Bool) (i : Nat) : State := if en then s.recordFetchBad p (x.sat.toNat + 8 * i) 8 else s
  let s := if x.inHost || c.extLen = 0 then s else s.recordFetchBad p c.payload (64 * c.extLen)
  at_ (at_ (at_ s c.sigEn c.sigIdx) c.wait0En c.w0) c.wait1En c.w1

/-- Take a command of a ring in: it is checked, in flight, and its semaphores are observed (R76, R80, R83). -/
def State.takeCmd (s : State) (p r seq ccp : Nat) (b : List Byte) (f : InFlight → InFlight) : State :=
  let x := s.fetched p r seq ccp b f
  let s := s.recordCheckBad p r x.cmd
  ({ s with cmds := s.cmds ++ [x], fetches := s.fetches + 1 }).observe

/-! ### Room (R87, R91) -/

/-- Completion-ring entries a command occupies from its fetch to its record: a VC_ENCODE holds SLICES_MAX + 1, less the slice
records it has written (R91, R342). -/
def cqNeed (c : InFlight) : Nat :=
  if c.cmd.op = 0x73 ∧ c.phase ≠ .ended then bitsAt c.ext 80 9 4 + 1 - (EncRun.ofList c.prog).slices else 1

/-- A ring's completion ring has room for `n` more entries (R91). -/
def State.cqRoom (s : State) (r n : Nat) : Bool :=
  let x := s.ring r
  let held := ((s.cmds.filter (fun c => c.ring == r)).map cqNeed).sum
  decide (held + sub32 x.cqTail x.cqHead + n ≤ 2 ^ x.cqLog2)

/-- A command processor holds fewer than 256 commands (R87). -/
def State.ccpRoom (s : State) (k : Nat) : Bool :=
  decide ((s.cmds.filter (fun c => c.ccp == k && !c.saved)).length < 256)

/-- A ring may be fetched from: it is RUNNING, its context is resident, its partition is awake, no fatal error has stopped it, no Shape
operation changes it, and its command processor serves (R31, R73, R405, R422, R428, R440). -/
def State.ringLive (s : State) (r k : Nat) : Bool :=
  match s.ringPart? r with
  | none => false
  | some p =>
    let x := s.ring r
    x.st == 1 && x.ccp == k && (s.ctx p x.context).st == .resident && !s.partAsleep p && !(s.part p).fatal && !s.errs.down &&
      (match s.shape.op with | some op => !op.held.contains p | none => true) &&
      s.fld crnPage Fld.CRN_SERVICE_MIN_MET == 1 &&
      !s.outOfService 6 k && !s.shape.engineResets.contains (page 6 k)

/-! ### Fetching from rings (R75, R76, R87) -/

/-- The 64 bytes at a ring's HEAD, or the FAULT that reading them stops the ring with (R76). -/
def State.readEntry (s : State) (p r : Nat) : Except Code (List Byte) :=
  let x := s.ring r
  let a := x.base.toNat + 64 * (x.head % 2 ^ x.log2)
  if x.inHost then
    if s.hostCode x.port p a 64 ≠ 0 then .error 0x030C else .ok (s.rdHost x.port a 64)
  else match s.rdDev (some p) a 64 with
    | .error e => .error (if e = 0xF001 then 0xF001 else 0x030C)
    | .ok b => .ok b

/-- A ring has a covered command to fetch, and completion room for it (R75, R91). -/
def State.fetchable (s : State) (r k : Nat) : Bool :=
  s.ringLive r k && (s.ring r).head != (s.ring r).tail &&
    (match s.ringPart? r with
    | none => false
    | some p => match s.readEntry p r with
      | .error _ => s.cqRoom r 1
      | .ok b => s.cqRoom r (cqNeed (s.fetched p r 0 k b (fun c => c))))

/-- The next ring a command processor serves: round robin, after the last one served (R87). -/
def State.nextRing? (s : State) (k : Nat) : Option Nat :=
  let rs := ((s.rings.map (fun x => x.1)).filter (fun r => s.fetchable r k)).mergeSort
  match SMap.get? s.rrLast k with
  | none => rs.head?
  | some l => (rs.find? (fun r => decide (l < r))).orElse fun _ => rs.head?

/-- Fetch the command at a ring's HEAD, or stop the ring there (R76). -/
def State.fetchFrom (s : State) (k r : Nat) : State :=
  match s.ringPart? r with
  | none => s
  | some p =>
    let s := { s with rrLast := SMap.put s.rrLast k r }
    let x := s.ring r
    match s.readEntry p r with
    | .error e =>
      let s := if e = 0xF001 then s.recordFetchBad p (x.base.toNat + 64 * (x.head % 2 ^ x.log2)) 64 else s
      s.modRing r (stopRing e)
    | .ok b =>
      let s := s.setRing r { x with head := (x.head + 1) % 2 ^ 32 }
      s.takeCmd p r x.head k b (fun c => c)

/-! ### The tidy cores' issue queues (R181) -/

/-- Position by which the model names a command issued by a tidy core: its low 32 bits are the SEQ of R181, and the core above
them keeps it apart from every other command in flight. -/
def tcSeq (n count : Nat) : Nat := (n + 1) * 2 ^ 32 + 2 ^ 31 + count % 2 ^ 31

/-- The first core of a cluster whose issue queue's head its ring has room for. -/
def State.nextIssue? (s : State) (k : Nat) : Option Nat :=
  (s.clusterCores k).find? (fun n =>
    match (s.tc n).queue with
    | [] => false
    | (r, b) :: _ => s.ringLive r k &&
      (match s.ringPart? r with
      | none => false
      | some p => s.cqRoom r (cqNeed (s.fetched p r 0 k b (fun c => c)))))

/-- Take the head of a core's issue queue as if it had been fetched from its ring (R181). -/
def State.takeIssued (s : State) (k n : Nat) : State :=
  let t := s.tc n
  match t.queue with
  | [] => s
  | (r, b) :: rest =>
    match s.ringPart? r with
    | none => s
    | some p =>
      let seq := tcSeq n (sub32 t.issued t.queue.length)
      (s.modTc n (fun t => { t with queue := rest })).takeCmd p r seq k b (fun c => { c with tc := some n })

/-- COMMAND_FETCH (R76, R87): a command processor takes one command, of a tidy core's issue queue or of the next ring in turn.  DESIGN
CHOICE (log 56): an issue queue goes before the rings, the lowest-numbered core's first; R87 and R181 fix no order between them. -/
def commandFetch (s : State) (k : Nat) : State :=
  if !s.ccpRoom k then s
  else s.unlessHeld (fun s => match s.nextIssue? k with
    | some n => s.takeIssued k n
    | none => match s.nextRing? k with
      | some r => s.fetchFrom k r
      | none => s)

/-- COMMAND_FETCH (R76). -/
def execCommandFetch (ccp : Nat) (s : State) : Host.Outcome State Fault Refusal := State.done (commandFetch s ccp)

end Sys2Proof.Machine
end

