-- ==== Sys2Proof/Machine/Dwerdo.lean ====
section
/-!
DEFINITION. The Dwerdo personality's queue pairs and the host-side cores' translation of its commands (R371, R372).
-/
namespace Sys2Proof.Machine

open Sys2Proof

/-- A write of HP_DW_CFG (Table 15.13): EN = 1 checks the queue pair and starts it; EN = 0 stops it.  The registers exist only in the
Dwerdo personality. -/
def dwQueueEnable (s : State) (who : Requester) (h : Nat) (v : Word64) : State :=
  s.letIn who (hpPage h) (fun s =>
    let pg := hpPage h
    if s.shape.persona[h]? ≠ some 1 then s
    else if getBits v 4 4 = 0 then
      (((s.setFld pg Fld.HP_DW_CFG_LOG2 (getBits v 3 0)).setFld pg Fld.HP_DW_CFG_EN 0).setFld pg Fld.HP_DW_STATUS_STATE 0)
    else if s.fld pg Fld.HP_DW_CFG_EN = 1 then s
    else
      let sq := (s.reg (pg + Reg.HP_DW_SQ_BASE)).toNat
      let cq := (s.reg (pg + Reg.HP_DW_CQ_BASE)).toNat
      let evt := s.fld pg Fld.HP_DW_EVT_BASE_ADDR
      let n := getBits v 3 0
      if n < 4 ∨ 14 < n then s.refuseF pg 0x0102 Fld.HP_DW_CFG_LOG2
      else if sq % 4096 ≠ 0 then s.refuse pg 0x0108 Reg.HP_DW_SQ_BASE 0
      else if cq % 4096 ≠ 0 then s.refuse pg 0x0108 Reg.HP_DW_CQ_BASE 0
      else if evt % 4096 ≠ 0 then s.refuseF pg 0x0108 Fld.HP_DW_EVT_BASE_ADDR
      else if !s.hbmRange 0 evt 32768 then s.refuseF pg 0x0109 Fld.HP_DW_EVT_BASE_ADDR
      else
        let s := ((s.setFld pg Fld.HP_DW_CFG_LOG2 n).setFld pg Fld.HP_DW_CFG_EN 1).modHp h (fun x => { x with dw := {} })
        let s := (s.setFld pg Fld.HP_DW_STATUS_STATE 1).setFld pg Fld.HP_DW_STATUS_FAULT 0
        (s.setFld pg Fld.HP_DW_STATUS_SQ_HEAD 0).setFld pg Fld.HP_DW_STATUS_CQ_TAIL 0)

/-- The queue pair stops with a code (R372). -/
def State.dwStop (s : State) (h : Nat) (code : Code) : State :=
  (s.setFld (hpPage h) Fld.HP_DW_STATUS_STATE 2).setFld (hpPage h) Fld.HP_DW_STATUS_FAULT code

/-- The port's single doorbell page reaches its queue (R372). -/
def State.dwDoor (s : State) (who : Requester) (h : Nat) : Bool :=
  s.shape.persona[h]? == some 1 && who == .pf h && s.linked h

/-- DW_SQ_TAIL_WRITE (R372): a tail outside its range stops the queue with 0x0306. -/
def dwSqTailWrite (s : State) (who : Requester) (h : Nat) (v : Word64) : State :=
  let t := getBits v 15 0
  if !s.dwDoor who h || s.fld (hpPage h) Fld.HP_DW_STATUS_STATE != 1 then s
  else if 2 ^ s.dwLog2 h ≤ t then s.dwStop h 0x0306
  else s.modHp h (fun x => { x with dw := { x.dw with tail := t } })

/-- DW_CQ_HEAD_WRITE (R372): a head outside its range is ignored. -/
def dwCqHeadWrite (s : State) (who : Requester) (h : Nat) (v : Word64) : State :=
  let t := getBits v 15 0
  if !s.dwDoor who h || decide (2 ^ s.dwLog2 h ≤ t) then s
  else s.modHp h (fun x => { x with dw := { x.dw with cqHead := t } })

/-- The counterpart opcode of a Dwerdo opcode (Table 15.16). -/
def dwOpcode? : Nat → Option Nat
  | 0x00 => some 0x00 | 0x01 => some 0x01 | 0x02 => some 0x03 | 0x08 => some 0x10 | 0x10 => some 0x30 | 0x11 => some 0x34
  | 0x12 => some 0x33 | 0x13 => some 0x32 | 0x14 => some 0x35 | 0x15 => some 0x36 | 0x18 => some 0x28 | 0x19 => some 0x29
  | 0x20 => some 0x50 | 0x21 => some 0x51 | 0x28 => some 0x60 | 0x29 => some 0x61 | 0x2A => some 0x62 | 0x30 => some 0x72
  | 0x31 => some 0x70 | 0x32 => some 0x71 | _ => none

/-- The counterpart command's fields (R372, Table 15.14). -/
def dwCmd (b : List Byte) (op need : Nat) : Cmd :=
  let fl (i : Nat) : Nat := bitsAt b 1 i i
  { op := op, sub := if bitsAt b 0 7 0 = 0x01 then 0 else bitsAt b 32 7 0, tag := leAt b 2 2,
    flags := fl 2 * 16 + fl 3 * 64, notBefore := 0, deadline := 0, w0 := 0, w1 := 0, extLen := need, sigIdx := 0, sigOp := 1,
    arg := leAt b 36 4, w0Val := leAt b 8 8, w1Val := 0, sigVal := 1,
    payload := if leAt b 24 1 = 0 then leAt b 40 8 else 0, rsvd := 0 }

/-- Reserved bits of a Dwerdo command are non-zero (R5, Table 15.14). -/
def dwReserved (b : List Byte) : Bool :=
  bitsAt b 1 7 4 != 0 || bitsAt b 4 15 12 != 0 || bitsAt b 6 15 12 != 0 || leAt b 25 7 != 0 || leAt b 33 3 != 0 || leAt b 48 16 != 0

/-- The counterpart's extended descriptor: the body, zero-filled to the length its home chapter states; UPD_CHECK with SCOPE 0
(R372, Table 15.16). -/
def State.dwBody (s : State) (h : Nat) (b : List Byte) (op need : Nat) : Except Code (List Byte) :=
  let len := leAt b 24 1
  let addr := leAt b 16 8
  if need < len then .error 0x0C0B
  else if len ≠ 0 ∧ addr % 64 ≠ 0 then .error 0x0108
  else if len ≠ 0 ∧ s.hostCode h 0 addr (64 * len) ≠ 0 then .error 0x030B
  else
    let d := s.rdHost h addr (64 * len) ++ List.replicate (64 * (need - len)) (0 : Byte)
    .ok (if op = 0x50 then d.set 84 (d.getD 84 0 &&& 0xFC) else d)

/-- A semaphore word of the queue's event table (R372). -/
def State.dwEvent (s : State) (h i : Nat) : Option Nat :=
  match s.semKey 0 (s.fld (hpPage h) Fld.HP_DW_EVT_BASE_ADDR + 8 * i) with
  | .ok k => some k
  | .error _ => none

/-- The host-side cores hold a ring of partition 0 on which a counterpart may be issued (R372); a fencing command waits until no
earlier command of the queue is on another ring. -/
def State.dwRing (s : State) (h r : Nat) (b : List Byte) : Bool :=
  let x := s.ring r
  let fence := bitsAt b 1 3 3 == 1 || bitsAt b 0 7 0 == 1
  !(fence && s.cmds.any (fun c => c.ring != r && (match c.dw with | some (q, _) => q == h | none => false))) &&
  s.ringPart? r == some 0 && s.ringLive r x.ccp && x.head == x.tail && s.ccpRoom x.ccp

/-- One command of a port's queue becomes its counterpart on a ring of partition 0 (R372). -/
def State.dwIssue (s : State) (h r : Nat) (b : List Byte) (op need : Nat) (body : List Byte) : State :=
  let x := s.ring r
  let c := dwCmd b op need
  let wait := bitsAt b 1 0 0 == 1
  let sig := bitsAt b 1 1 1 == 1
  let f := s.fetchedWith 0 r x.head x.ccp c (.ok body) (fun y => { y with
    dw := some (h, leAt b 2 2), met0 := !wait, wait0 := if wait then s.dwEvent h (leAt b 4 2 % 4096) else none,
    cmd := { c with flags := c.flags + (if wait then 1 else 0) + (if sig then 4 else 0) },
    sig := if sig then (match s.dwEvent h (leAt b 6 2 % 4096) with | some k => .local k | none => .bad) else .none })
  let s := s.setRing r { x with head := (x.head + 1) % 2 ^ 32, tail := (x.tail + 1) % 2 ^ 32 }
  ({ s with cmds := s.cmds ++ [f], fetches := s.fetches + 1 }).observe

/-- DW_COMMAND (R372): the host-side cores take the next command of a port's queue, build its counterpart on ring `r`, or complete it at
once. -/
def dwCommand (s : State) (h r : Nat) : State :=
  let pg := hpPage h
  let n := 2 ^ s.dwLog2 h
  let q := (s.hp h).dw
  if s.shape.persona[h]? ≠ some 1 ∨ s.fld pg Fld.HP_DW_STATUS_STATE ≠ 1 ∨ q.taken % n = q.tail % n then s
  else
    let at_ := (s.reg (pg + Reg.HP_DW_SQ_BASE)).toNat + 64 * (q.taken % n)
    if s.hostCode h 0 at_ 64 ≠ 0 then s.dwStop h 0x030C
    else
      let b := s.rdHost h at_ 64
      let take (s : State) : State :=
        (s.modHp h (fun x => { x with dw := { x.dw with taken := x.dw.taken + 1 } })).setFld pg Fld.HP_DW_STATUS_SQ_HEAD
          ((q.taken + 1) % n)
      let fail (code : Code) : State := (take s).putDw h (leAt b 2 2) code 0 (bitsAt b 1 2 2 == 1)
      match dwOpcode? (bitsAt b 0 7 0) with
      | none => fail 0x0C0B
      | some op =>
        if dwReserved b then fail 0x0101
        else match s.dwBody h b op ((extNeed? op).getD 0) with
          | .error e => fail e
          | .ok body => if s.dwRing h r b then (take s).dwIssue h r b op ((extNeed? op).getD 0) body else s

/-- DW_QUEUE_ENABLE (R372). -/
def execDwQueueEnable (who : Requester) (port : Nat) (v : Word64) (s : State) : Host.Outcome State Fault Refusal :=
  State.done (dwQueueEnable s who port v)
/-- DW_SQ_TAIL_WRITE (R372). -/
def execDwSqTailWrite (who : Requester) (port : Nat) (v : Word64) (s : State) : Host.Outcome State Fault Refusal :=
  State.done (dwSqTailWrite s who port v)
/-- DW_CQ_HEAD_WRITE (R372). -/
def execDwCqHeadWrite (who : Requester) (port : Nat) (v : Word64) (s : State) : Host.Outcome State Fault Refusal :=
  State.done (dwCqHeadWrite s who port v)
/-- DW_COMMAND (R372). -/
def execDwCommand (port ring : Nat) (s : State) : Host.Outcome State Fault Refusal := State.done (dwCommand s port ring)

end Sys2Proof.Machine
end

