-- ==== Sys2Proof/Machine/Runtime.lean ====
section
/-!
DEFINITION. The runtime channel and the Resident Model Table (R364, R365, R416, R417).  What the runtime allocates comes with
the command, as an operand that the meaning checks (log 4).
-/
namespace Sys2Proof.Machine

open Sys2Proof

/-! ### The channel (R364) -/

/-- Port of a partition's channel. -/
def State.rtPort (s : State) (p : Nat) : Nat := s.fld (partPage p) Fld.PART_RT_CFG_PORT
/-- Entries of each ring of the channel. -/
def State.rtSize (s : State) (p : Nat) : Nat := 2 ^ s.fld (partPage p) Fld.PART_RT_CFG_LOG2_ENTRIES
/-- Base of the request ring. -/
def State.rtBase (s : State) (p : Nat) : Nat := (s.reg (partPage p + Reg.PART_RT_BASE)).toNat
/-- Requests taken. -/
def State.rtHead (s : State) (p : Nat) : Nat := s.fld (partPage p) Fld.PART_RT_PTR_REQ_HEAD

/-- The channel can be served: enabled, of a legal size, its port up, the package awake. -/
def State.rtOn (s : State) (p : Nat) : Bool :=
  s.fld (partPage p) Fld.PART_RT_CFG_EN == 1 && decide (16 ≤ s.rtSize p) && decide (s.rtSize p ≤ 4096) &&
    s.reachable (s.rtPort p) p && s.linked (s.rtPort p) && !s.held

/-- The next request of a partition. -/
def State.rtReq? (s : State) (p : Nat) : Option (List Byte) :=
  if s.rtOn p && s.rtHead p != (s.part p).rtTail then
    some (s.rdHost (s.rtPort p) (s.rtBase p + 64 * (s.rtHead p % s.rtSize p)) 64)
  else none

/-- Write a response and raise vector 2 of the function FUNC names (R364, R354); its sequence number counts from 1 (log 23). -/
def State.rtRespond (s : State) (p tag status r1 r2 : Nat) : State :=
  let t := s.fld (partPage p) Fld.PART_RT_PTR_RSP_TAIL
  let bytes := leBytes 2 tag ++ leBytes 2 status ++ leBytes 4 0 ++ leBytes 8 r1 ++ leBytes 8 (t + 1) ++ leBytes 8 r2
  let s := s.wrHost (s.rtPort p) (s.rtBase p + 64 * s.rtSize p + 32 * (t % s.rtSize p)) bytes
  let s := s.setFld (partPage p) Fld.PART_RT_PTR_RSP_TAIL (t + 1)
  let fn := if s.fld (partPage p) Fld.PART_RT_CFG_FUNC = 1 then 0 else s.fnOf (s.rtPort p) p
  s.emit (.msix (s.rtPort p) fn 2)

/-- Take the request at the head. -/
def State.rtTake (s : State) (p : Nat) : State := s.setFld (partPage p) Fld.PART_RT_PTR_REQ_HEAD (s.rtHead p + 1)

/-- Answer requests of unknown OP at the head with 0x0C0D (R364). -/
def State.rtUnknown (s : State) (p : Nat) : Nat → State
  | 0 => s
  | n + 1 => match s.rtReq? p with
    | none => s
    | some b =>
      if 1 ≤ leAt b 0 1 ∧ leAt b 0 1 ≤ 8 then s
      else State.rtUnknown ((s.rtTake p).rtRespond p (leAt b 2 2) 0x0C0D 0 0) p n

/-- Serve the next request of a partition when it carries an OP: the operation answers it. -/
def State.rtServe (s : State) (p op : Nat) (f : State → List Byte → State) : State :=
  match s.rtReq? p with
  | none => s
  | some b => if leAt b 0 1 = op then (f (s.rtTake p) b).rtUnknown p 4096 else s

/-- An answer with a status alone. -/
def State.rtFail (s : State) (p : Nat) (b : List Byte) (code : Code) : State := s.rtRespond p (leAt b 2 2) code 0 0

/-- Argument bytes that the table does not name are 0 (R365). -/
def rtClean (b : List Byte) (named : List (Nat × Nat)) : Bool :=
  (List.range 56).all (fun i =>
    named.any (fun r => decide (r.1 ≤ i + 8) && decide (i + 8 < r.1 + r.2)) || b.getD (i + 8) 0 == 0)

/-- RT_DOORBELL (R364): the new request tail; requests of unknown OP at the head are answered at once. -/
def rtDoorbell (s : State) (who : Requester) (p : Nat) (v : Word64) : State :=
  s.letIn who (partPage p) (fun s =>
    (s.modPart p (fun x => { x with rtTail := getBits v 31 0 })).rtUnknown p 4096)

/-! ### The Resident Model Table (R416, R417) -/

/-- The bytes of an entry, if it can be read. -/
def State.rmt? (s : State) (i : Nat) : Option (List Byte) :=
  match s.rdDev none (s.rmtAddr i) 64 with
  | .ok b => some b
  | .error _ => none

/-- STATE of an entry's bytes. -/
def rmtState (b : List Byte) : Nat := bitsAt b 32 7 6
/-- PART. -/
def rmtPart (b : List Byte) : Nat := bitsAt b 32 5 0
/-- PINS. -/
def rmtPins (b : List Byte) : Nat := leAt b 30 2
/-- LAST_USE. -/
def rmtUse (b : List Byte) : Nat := leAt b 24 6

/-- Write bytes of an entry. -/
def State.rmtWrite (s : State) (i o : Nat) (bs : List Byte) : State := (s.wrDev none (s.rmtAddr i + o) bs).1

/-- Regions of an entry: device address and bytes. -/
def State.rmtRegions (s : State) (b : List Byte) : List (Nat × Nat) :=
  match s.rdDev none (leAt b 8 6) (16 * leAt b 14 2) with
  | .ok l => (List.range (leAt b 14 2)).map (fun j => (leAt l (16 * j) 8, leAt l (16 * j + 8) 8))
  | .error _ => []

/-- Evict a model: the partition's window entries onto its regions are cleared, then the entry is EMPTY (R417). -/
def State.evictModel (s : State) (p i : Nat) (b : List Byte) : State :=
  let rs := s.rmtRegions b
  let clear (e : RwtEntry) : RwtEntry :=
    if e.part = p ∧ rs.any (fun r => rangesMeet r (e.base, e.limit * 4096)) then { e with valid := false } else e
  let s := { s with rwt := SMap.mapVal s.rwt (fun _ e => clear e) }
  s.rmtWrite i 32 (leBytes 1 (rmtPart b))

/-- The entry a load takes: the lowest EMPTY one, else the least recently used RESIDENT one of the partition with no pins
(R417). -/
def State.rmtPick (s : State) (p : Nat) : Option (Nat × Option (List Byte)) :=
  match (List.range 4096).find? (fun i => match s.rmt? i with | some b => rmtState b == 0 | none => false) with
  | some i => some (i, none)
  | none =>
    (List.range 4096).foldl (fun best i => match s.rmt? i with
      | none => best
      | some b =>
        if rmtState b = 2 ∧ rmtPart b = p ∧ rmtPins b = 0 then
          (match best with
            | some (j, some c) => if rmtUse b < rmtUse c then some (i, some b) else some (j, some c)
            | _ => some (i, some b))
        else best) none

/-- The runtime's allocation serves a load: regions of the partition's HBM that hold the image, and a list to name them. -/
def State.regionsFit (s : State) (p list bytes : Nat) (rs : List (Nat × Nat)) : Bool :=
  decide (1 ≤ rs.length) && decide (rs.length ≤ 65535) && (rs.map (fun r => r.2)).sum == bytes &&
    rs.all (fun r => r.2 != 0 && s.hbmRange p r.1 r.2) && s.checkDev none list (16 * rs.length) == 0

/-- MODEL_LOAD (R365): the request is taken and the load begins, or it is answered with what refuses it. -/
def modelLoad (s : State) (p list : Nat) (rs : List (Nat × Nat)) : State :=
  s.rtServe p 1 (fun s b =>
    let bytes := leAt b 24 8
    let src := leAt b 16 8
    if !rtClean b [(8, 8), (16, 8), (24, 8), (32, 1)] || src % 4096 != 0 || bytes == 0 || decide (2 ^ 40 < bytes) ||
        decide (1 < leAt b 32 1) then s.rtFail p b 0x0C0E
    else match s.rmtPick p with
      | none => s.rtFail p b 0x0E0A
      | some (i, old) =>
        let s := match old with | some e => s.evictModel p i e | none => s
        if !s.regionsFit p list bytes rs then s.rtFail p b 0x0C0F
        else
          let gen := match s.rmt? i with | some e => leAt e 36 4 + 1 | none => 1
          let s := (s.wrDev none list (rs.flatMap (fun r => leBytes 8 r.1 ++ leBytes 8 r.2))).1
          let s := s.rmtWrite i 0 (leBytes 8 (leAt b 8 8) ++ leBytes 6 list ++ leBytes 2 rs.length ++ leBytes 8 bytes ++
            leBytes 6 s.strokeNo ++ leBytes 2 0 ++ leBytes 1 (p % 64 + 64) ++ leBytes 3 0 ++ leBytes 4 gen ++ leBytes 8 src ++
            leBytes 16 0)
          s.modPart p (fun x => { x with rtLoads := x.rtLoads ++ [⟨leAt b 2 2, i, leAt b 32 1 == 1⟩] }))

/-- Copy a host image into regions, in order. -/
def State.loadRegions (s : State) (p h src : Nat) : List (Nat × Nat) → State
  | [] => s
  | r :: rs => State.loadRegions ((s.wrDev (some p) r.1 (s.rdHost h src r.2)).1) p h (src + r.2) rs

/-- MODEL_LOAD_DONE (R365): the oldest load of the partition ends and is answered. -/
def modelLoadDone (s : State) (p : Nat) : State :=
  match (s.part p).rtLoads with
  | [] => s
  | l :: rest =>
    if !s.rtOn p then s
    else match s.rmt? l.idx with
      | none => s
      | some e =>
        let s := s.modPart p (fun x => { x with rtLoads := rest })
        let rs := s.rmtRegions e
        let code := s.hostCode (s.rtPort p) p (leAt e 40 8) (leAt e 16 8)
        if code ≠ 0 then (s.rmtWrite l.idx 32 (leBytes 1 p)).rtRespond p l.tag code 0 0
        else
          let s := s.loadRegions p (s.rtPort p) (leAt e 40 8) rs
          let s := s.rmtWrite l.idx 30 (leBytes 2 (if l.pin then 1 else 0) ++ leBytes 1 (p % 64 + 128))
          s.rtRespond p l.tag 0 (l.idx + leAt e 36 4 * 2 ^ 32) ((rs.head?.map (fun r => r.1)).getD 0)

/-- The RESIDENT entry of the partition that an argument names. -/
def State.rmtOf? (s : State) (p i : Nat) : Option (List Byte) :=
  if 4096 ≤ i then none
  else match s.rmt? i with
    | some e => if rmtState e = 2 ∧ rmtPart e = p then some e else none
    | none => none

/-- MODEL_EVICT (R365, R417). -/
def modelEvict (s : State) (p : Nat) : State :=
  s.rtServe p 2 (fun s b =>
    let i := leAt b 8 2
    if !rtClean b [(8, 2)] then s.rtFail p b 0x0C0E
    else match s.rmtOf? p i with
      | none => s.rtFail p b 0x0C0E
      | some e =>
        if rmtPins e ≠ 0 then s.rtFail p b 0x0E0B
        else (s.evictModel p i e).rtRespond p (leAt b 2 2) 0 0 0)

/-- MODEL_PIN (R365). -/
def modelPin (s : State) (p : Nat) : State :=
  s.rtServe p 3 (fun s b =>
    let i := leAt b 8 2
    let d := sleAt b 12 1
    if !rtClean b [(8, 2), (12, 1)] || !(d == 1 || d == -1) then s.rtFail p b 0x0C0E
    else match s.rmtOf? p i with
      | none => s.rtFail p b 0x0C0E
      | some e =>
        let n := (rmtPins e : Int) + d
        if n < 0 ∨ 65535 < n then s.rtFail p b 0x0C0E
        else (s.pinModel i d).rtRespond p (leAt b 2 2) 0 n.toNat 0)

/-! ### Contexts, watermarks, windows and queries (R365) -/

/-- The configuration a CONTEXT_CREATE asks for: none when a value does not fit its register. -/
def rtCtx? (b : List Byte) (map : Nat) : Except Code Ctx :=
  let q := leAt b 12 4
  let dl := leAt b 16 4
  if 65535 < q ∨ 1048575 < dl ∨ 31 < leAt b 20 1 then .error 0x0E05
  else if 16 < leAt b 32 1 ∨ 2 ^ 48 ≤ leAt b 24 8 then .error 0x0E06
  else if 8 < leAt b 48 1 ∨ 2 ^ 48 ≤ leAt b 40 8 then .error 0x0E0D
  else .ok {
    cfg := BitVec.ofNat 64 (q * 2 + leAt b 20 1 * 2 ^ 17 + leAt b 21 1 % 2 * 2 ^ 22 + dl * 2 ^ 32)
    save := BitVec.ofNat 64 map
    win := BitVec.ofNat 64 (leAt b 24 8 + leAt b 32 1 * 2 ^ 48)
    bind := BitVec.ofNat 64 (leAt b 40 8 + leAt b 48 1 * 2 ^ 48) }

/-- CONTEXT_CREATE (R365, R402): the runtime writes the save map of the areas it has allocated and enables the context. -/
def contextCreate (s : State) (p map : Nat) (areas : List Nat) : State :=
  s.rtServe p 4 (fun s b =>
    let n := leAt b 8 1
    if !rtClean b [(8, 1), (12, 4), (16, 4), (20, 1), (21, 1), (24, 8), (32, 1), (40, 8), (48, 1)] ||
        !(decide (n < 16) || n == 255) || decide (1 < leAt b 21 1) then s.rtFail p b 0x0C0E
    else
      let pick := if n = 255 then (s.ctxsIn p .empty).head? else if (s.ctx p n).st == .empty then some n else none
      match pick with
      | none => s.rtFail p b 0x0E05
      | some c => match rtCtx? b map with
        | .error e => s.rtFail p b e
        | .ok x =>
          let w := s.wrDev (some p) map ((List.range 16).flatMap (fun d => leBytes 8 (areas.getD d 0)))
          if w.2.2 ≠ 0 then s.rtFail p b 0x0C0F
          else match w.1.ctxCheck p c x with
            | .error (code, _) => s.rtFail p b (if code = 0x0E04 then 0x0C0F else code)
            | .ok (ws, bs) =>
              let y := { x with wdLimit := (s.ctx p c).wdLimit }
              (w.1.makeReady p c y ws bs.1 bs.2).rtRespond p (leAt b 2 2) 0 c map)

/-- CONTEXT_DESTROY (R365, R402). -/
def contextDestroy (s : State) (p : Nat) : State :=
  s.rtServe p 5 (fun s b =>
    let c := leAt b 8 1
    if !rtClean b [(8, 1)] || decide (16 ≤ c) then s.rtFail p b 0x0C0E
    else
      let ok : Bool := match (s.ctx p c).st with | .ready | .suspended | .aborted => true | _ => false
      if !ok || s.rings.any (fun r => s.ctxRing p c r.1 && r.2.st != 0) then s.rtFail p b 0x0E09
      else (s.emptyCtx p c).rtRespond p (leAt b 2 2) 0 0 0)

/-- TIER_POLICY (R365). -/
def tierPolicy (s : State) (p : Nat) : State :=
  s.rtServe p 6 (fun s b =>
    let low := leAt b 8 4
    let high := leAt b 12 4
    if !rtClean b [(8, 4), (12, 4), (16, 2), (18, 1), (19, 1)] || decide (2 < leAt b 18 1) || decide (1 < leAt b 19 1) then
      s.rtFail p b 0x0C0E
    else if s.kvSlots p = 0 then s.rtFail p b 0x078A
    else if high < low ∨ s.kvSlots p < high then s.rtFail p b 0x078C
    else
      let pg := partPage p
      let s := ((s.setFld pg Fld.PART_KV_WM_LOW low).setFld pg Fld.PART_KV_WM_HIGH high).setFld pg
        Fld.PART_KV_PARK_PARK_STROKES (leAt b 16 2)
      (s.modPart p (fun x => { x with rtSpill := leAt b 18 1, rtPark := leAt b 19 1 == 1 })).rtRespond p (leAt b 2 2) 0 0 0)

/-- The lowest run of `n` entries of a partition's range that are not VALID. -/
def State.rwtFree? (s : State) (p n : Nat) : Option Nat :=
  let r := s.shape.live.rwt p
  ((List.range (r.2 + 1 - n)).map (fun i => r.1 + i)).find? (fun i =>
    (List.range n).all (fun j => !(s.rwtEntry (i + j)).valid))

/-- RWT_GRANT (R365): entries of the partition's range, with one fresh key. -/
def rwtGrant (s : State) (p alloc : Nat) : State :=
  s.rtServe p 7 (fun s b =>
    let bytes := leAt b 16 8
    let dev := if leAt b 8 8 = 0 then alloc else leAt b 8 8
    let sem := leAt b 32 8
    let n := ceilDiv bytes (2 ^ 21)
    let perm := leAt b 24 1
    if !rtClean b [(8, 8), (16, 8), (24, 1), (26, 2), (32, 8)] || bytes % 4096 != 0 || bytes == 0 ||
        decide ((s.shape.live.rwt p).2 * 2 ^ 21 < bytes) || decide (3 < perm) then s.rtFail p b 0x0C0E
    else if sem % 8 ≠ 0 ∨ (sem ≠ 0 ∧ !s.cmOrHbm p sem 8) then s.rtFail p b 0x0C01
    else if dev % 4096 ≠ 0 ∨ !s.cmOrHbm p dev bytes then s.rtFail p b (if leAt b 8 8 = 0 then 0x0C0F else 0x0C01)
    else match s.rwtFree? p n with
      | none => s.rtFail p b 0x0C0F
      | some i =>
        let (k, s) := s.draw
        let key := k.toNat % 2 ^ 16
        let e (j : Nat) : RwtEntry := ⟨true, perm % 2 == 1, decide (2 ≤ perm), dev + j * 2 ^ 21,
          min 512 ((bytes - j * 2 ^ 21) / 4096), key, p, leAt b 26 2, sem⟩
        let s := { s with rwt := (List.range n).foldl (fun m j => SMap.put m (i + j) (e j)) s.rwt }
        s.rtRespond p (leAt b 2 2) 0 (i % 2 ^ 15 + n % 2 ^ 15 * 2 ^ 16 + key * 2 ^ 48) dev)

/-- QUERY (R365). -/
def query (s : State) (p : Nat) : State :=
  s.rtServe p 8 (fun s b =>
    if !rtClean b [] then s.rtFail p b 0x0C0E
    else
      let ver := Config.runtimeVersion ((s.sec.bundle[s.sec.runBundle]?.map (fun f => f.body)).getD [])
      let res := match s.resident? p with | some c => c + 16 | none => 0
      let exist := maskOf 16 (fun c => (s.ctx p c).st != .empty)
      s.rtRespond p (leAt b 2 2) 0 (ver % 2 ^ 32 + res * 2 ^ 32 + exist * 2 ^ 37)
        (s.shape.live.gen % 2 ^ 32 + s.tierCount p false 0 * 2 ^ 32))

/-- RT_DOORBELL (R364). -/
def execRtDoorbell (who : Requester) (part : Nat) (v : Word64) (s : State) : Host.Outcome State Fault Refusal :=
  State.done (rtDoorbell s who part v)
/-- MODEL_LOAD (R365). -/
def execModelLoad (part list : Nat) (regions : List (Nat × Nat)) (s : State) : Host.Outcome State Fault Refusal :=
  State.done (modelLoad s part list regions)
/-- MODEL_LOAD_DONE (R365). -/
def execModelLoadDone (part : Nat) (s : State) : Host.Outcome State Fault Refusal := State.done (modelLoadDone s part)
/-- MODEL_EVICT (R417). -/
def execModelEvict (part : Nat) (s : State) : Host.Outcome State Fault Refusal := State.done (modelEvict s part)
/-- MODEL_PIN (R365). -/
def execModelPin (part : Nat) (s : State) : Host.Outcome State Fault Refusal := State.done (modelPin s part)
/-- CONTEXT_CREATE (R365). -/
def execContextCreate (part map : Nat) (areas : List Nat) (s : State) : Host.Outcome State Fault Refusal :=
  State.done (contextCreate s part map areas)
/-- CONTEXT_DESTROY (R365). -/
def execContextDestroy (part : Nat) (s : State) : Host.Outcome State Fault Refusal := State.done (contextDestroy s part)
/-- TIER_POLICY (R365). -/
def execTierPolicy (part : Nat) (s : State) : Host.Outcome State Fault Refusal := State.done (tierPolicy s part)
/-- RWT_GRANT (R365). -/
def execRwtGrant (part alloc : Nat) (s : State) : Host.Outcome State Fault Refusal := State.done (rwtGrant s part alloc)
/-- QUERY (R365). -/
def execQuery (part : Nat) (s : State) : Host.Outcome State Fault Refusal := State.done (query s part)

end Sys2Proof.Machine
end

