-- ==== Sys2Proof/Machine/Resets.lean ====
section
/-!
DEFINITION. What a partition reset, a package reset and a loss of power leave (R422 to R425, Table 18.4), each with its rows
of the retention table.
-/
namespace Sys2Proof.Machine

open Sys2Proof

/-- The RW fields of a register. -/
def rwMask (key : Nat) : Word64 :=
  match regRow? (pgClass key) (pgOff key) with
  | none => 0
  | some r => r.fields.foldl (fun m f => if f.acc == .rw then m ||| fieldMask f.hi f.lo else m) 0

/-- PART_RING_SEL and PART_RWT_SEL, whose reset value FIRST is the Live Shape's: a word not held reads as it (Tables 4.1, 15.3). -/
def selectsFirst (key : Nat) : Bool := pgClass key == 14 && (pgOff key == 0x808 || pgOff key == 0xA08)

/-- A register after the resets of its page that Table 18.4 marks D for the interrupt registers and the block-specific RW
registers: BLK_REASON, BLK_ERR_SUM, BLK_INT_STATUS, BLK_INT_MASK and BLK_STATUS.FAULT and REFUSED (log 37) at their reset
values, RW fields from 0x100 up at theirs, every other bit kept. -/
def resetPageWord (key : Nat) (v : Word64) : Option Word64 :=
  let o := pgOff key
  if o = 0x20 ∨ o = 0x28 ∨ o = 0x30 ∨ o = 0x38 ∨ selectsFirst key then none
  else if o = 0x18 then some (setBits (setBits v 1 1 0) 3 3 0)
  else if o < 0x100 then some v
  else some (mergeBits v (resetWord key) (rwMask key))

/-- Reset the pages a test picks, as Table 18.4 marks the interrupt registers and block-specific RW registers D. -/
def State.resetPages (s : State) (pick : Nat → Bool) : State :=
  { s with regs := s.regs.filterMap (fun x =>
      if pick (pgBase x.1) then (resetPageWord x.1 x.2).map (fun v => (x.1, v)) else some x) }

/-! ### Partition reset (R423) -/

/-- A set of a reset partition that has an out channel is rebuilt: the trim map takes the channels, every frame returns to its
defaults and the contents are lost (R321).  The package set keeps the channels until the next package reset. -/
def State.rebuildSet (s : State) (t : Nat) : State :=
  let bytes := s.setFrames t * 2 ^ 21
  let outs := (setChannels t).filter (fun c => s.mcState c == 3 && !s.trimmed 8 c)
  let s := outs.foldl (fun s c => s.trimUnit 8 c) s
  let s := { s with pkgOuts := outs ++ s.pkgOuts }
  ({ s with frames := SMap.dropKeys s.frames (fun k => k / 2 ^ 24 == t) }).lose (setBase t) bytes

/-- Step 6 of R423: rebuild the partition's sets that have an out channel, and RETIRING frames become RETIRED (R321, R324).
The package set is rebuilt at a package reset only. -/
def State.rebuildSets (s : State) (p : Nat) : State :=
  let own := (List.range 64).filter (fun t => s.setPart? t == some p)
  let s := own.foldl (fun s t => if s.setHasOut t then s.rebuildSet t else s) s
  let retiring := (s.frames.filter (fun f => f.2.st == 1 && own.contains (f.1 / 2 ^ 24))).map (fun f => f.1)
  let s := retiring.foldl (fun s k => s.frameRetired (k / 2 ^ 24) (k % 2 ^ 24)) s
  s.mapRetired

/-- Failed cores, clusters and codec engines of the partition enter the trim map, and the logical numbering (R446). -/
def State.takeFailed (s : State) (p : Nat) : State :=
  let mine := s.failed.filter (fun u => s.unitOwner? u.1 u.2 == some p)
  let s := mine.foldl (fun s u => s.trimUnit u.1 u.2) s
  let s := { s with failed := s.failed.filter (fun u => !mine.contains u) }
  if s.failed.isEmpty then s.setFld crnPage Fld.CRN_SERVICE_FAILED_PENDING 0 else s

/-- Steps 2 to 6 of R423: commands end with 0xF005, contexts become EMPTY, partners hear of it, and the partition's state takes
column F of Table 18.4. -/
def State.resetPart (s : State) (p : Nat) : State :=
  let live := s.shape.live
  let s := s.noticeReset p
  let s := s.endAll (fun c => c.part == p) 0xF005
  let s := (List.range 16).foldl (fun s c => s.emptyCtx p c) s
  let s := { s with ctxs := SMap.dropKeys s.ctxs (fun k => k / 16 == p) }
  let s := (s.loseUnits p).clearSticky p
  let s := { s with rings := SMap.dropKeys s.rings (fun r => live.ownsRing p r) }
  let s := (live.codecs p).foldl (fun s v => s.closeSessions v) s
  let s := (s.freeTable p).setFld (partPage p) Fld.PART_KV_EPOCH_CUR_CUR 0
  let s := { s with rwt := SMap.dropKeys s.rwt (fun i => s.rwtOwns p i) }
  let s := s.resetPages (fun pg => s.pageOwner? pg == some p)
  let s := (s.setFld (partPage p) Fld.PART_RT_PTR_REQ_HEAD 0).setFld (partPage p) Fld.PART_RT_PTR_RSP_TAIL 0
  let s := s.setFld (partPage p) Fld.PART_PWR_STATE 0
  let s := { s with shape := { s.shape with
    checks := SMap.dropKeys s.shape.checks (fun pg => s.pageOwner? pg == some p),
    engineResets := s.shape.engineResets.filter (fun pg => !(s.pageOwner? pg == some p)),
    halves := SMap.dropKeys s.shape.halves (fun k => s.pageOwner? (pgBase k) == some p && !(shOffs (pgClass k)).contains (pgOff k)) } }
  let s := (s.takeFailed p).rebuildSets p
  s.modPart p (fun _ => { resetting := true })

/-- A Shape commit or revert in progress changes the partition (R423 step 1). -/
def State.shapeHolds (s : State) (p : Nat) : Bool :=
  match s.shape.op with
  | some op => op.held.contains p
  | none => false

/-- A partition reset starts; a partition in Deep nap wakes first (Table 18.3).  It waits for a Shape operation that changes the
partition (R423 step 1). -/
def State.startPartReset (s : State) (p : Nat) : State :=
  if !s.shape.live.defined p || (s.part p).resetting then s
  else
    let s := (s.setFld (partPage p) Fld.PART_PWR_STATE 0).setFld (partPage p) Fld.PART_PWR_DEEP_NAP 0
    if s.shapeHolds p then s.modPart p (fun x => { x with resetting := true, resetDue := true })
    else s.resetPart p

/-- PARTITION_RESET_DONE (R422): the partition accepts work again; a reset that waited for a Shape operation runs first. -/
def partitionResetDone (s : State) (p : Nat) : State :=
  if !(s.part p).resetting then s
  else if (s.part p).resetDue then
    if s.shapeHolds p then s
    else (if s.shape.live.defined p then s.resetPart p else s).modPart p (fun _ => {})
  else s.modPart p (fun x => { x with resetting := false })

/-- FLR (R350): of a VF, a partition reset of its partition; of a PF, of every partition of HP_PF_PARTS, and the PF's hold of
SHP_LOCK is released (R29). -/
def flr (s : State) (who : Requester) : State :=
  if !s.arrives who then s
  else match who with
    | .vf h v => (match s.shape.live.vfPart? h v with
        | some p => s.startPartReset p
        | none => s)
    | .pf h =>
      let s := (bitList 64 (s.sh (hpPage h) Fld.HP_PF_PARTS_PARTS)).foldl (fun s p => s.startPartReset p) s
      s.releaseLock [h + 1]
    | _ => s

/-! ### What a package reset and a cold power-on leave (R424, R432) -/

/-- Registers a package reset keeps: CC_TRIM and CC_STATUS, the error ring's pointers, the debug port's state and the serial;
and, retained, the retain ID and the completion logs' pointers (Table 18.4). -/
def keptReg (retained : Bool) (k : Nat) : Bool :=
  [ccPage + 0x110, ccPage + 0x118, 0x148, 0x150, secPage + 0x120, secPage + 0x128, secPage + 0x130].contains k ||
    (retained && pgClass k == 13 && [0x1A0, 0x1A8, 0x1F0].contains (pgOff k))

/-- A pin under way is lost: the slot being written is not sound (R36). -/
def ShapeUnit.dropPin (u : ShapeUnit) : ShapeUnit :=
  match u.pin with
  | none => u
  | some p =>
    let broken : Option NvmSlot := some ⟨false, 0, p.bank⟩
    if p.slot = 0 then { u with slot0 := broken } else { u with slot1 := broken }

/-- A counter write under way when power or the Crowns go leaves the counter at its old or its new value (R460). -/
def State.dropSvn (s : State) : State :=
  if s.sec.svnBusy then
    let (v, s) := s.draw
    let i := (s.errs.nvmQueue.findSome? (fun q => if q.1 = 4 then some q.2 else none)).getD 0
    { s with sec := { s.sec with svnBusy := false,
                                 counters := if v.toNat % 2 = 1 then s.sec.counters.set i (s.sec.running i) else s.sec.counters } }
  else s

/-- The port whose completion log takes a command's record at a package reset (R424). -/
def State.logPort (s : State) (c : InFlight) : Nat :=
  let r := s.ring c.ring
  if r.cqInHost then r.cqPort else s.fld crnPage Fld.CRN_SERVICE_SERVING_EDIE

/-- The context keeps its save image, and its commands, across a retained reset (R424, R425). -/
def State.keepsImage (s : State) (c : InFlight) : Bool :=
  c.saved && ((s.ctx c.part c.ctx).st == .ready || (s.ctx c.part c.ctx).st == .suspended)

/-- A retained reset: the record of each command in flight goes to a completion log with STATUS 0xF006 and ORIG_STATUS 0xF005;
runs whose move was under way return (R424). -/
def State.logInFlight (s : State) : State :=
  let s := [0, 1].foldl (fun s h => if s.linked h then s.modHp h (fun x => { x with lossStroke := s.strokeNo }) else s) s
  (s.cmds.filter (fun c => !s.keepsImage c)).foldl (fun s c =>
    let rec_ := recordBytes c 0xF006 c.info s.strokeNo (s.ring c.ring).phase
    let s := if c.dw.isSome then s else s.logRecord (s.logPort c) rec_ 0xF005 false false
    (s.dropWork c).dropCmd c.ring c.seq) s

/-- A retained RESET_N aborts the contexts it meets RESIDENT, SAVING or RESTORING, with LAST_CODE 0xF005 (R425). -/
def State.abortLive (s : State) : State :=
  s.ctxs.foldl (fun s x => match x.2.st with
    | .resident | .saving | .restoring => s.abortCtx (x.1 / 16) (x.1 % 16) 0xF005 0xF005
    | _ => s) s

/-- Every unit's state at its reset value (VBAT_LOW returns to 0 over a cold power-on, Table 3.8), with what Table 18.4 keeps: `kept`
is none for a cold power-on, else whether the package reset is retained.  The Shape is loaded, the trim map rebuilt and the channels trained when the boot ends. -/
def State.wiped (s : State) (kept : Option Bool) : State :=
  let ret := kept == some true
  let s := s.dropSvn
  let s := if ret then s.lose cmBase (2 ^ 51 - cmBase) else s.lose 0 (2 ^ 51)
  let pin := s.shape.dropPin
  { regs := (s.regs.filter (fun x => keptReg ret x.1)).map (fun x =>
      if x.1 == ccPage + 0x118 && kept.isNone then (x.1, setBits x.2 1 1 0) else x)
    shape := { slot0 := pin.slot0, slot1 := pin.slot1, cur := pin.cur }
    cal := s.cal
    cmds := if ret then s.cmds.filter s.keepsImage else []
    fetches := s.fetches
    starts := s.starts
    ctxs := if ret then s.ctxs else []
    chans := SMap.mapVal s.chans (fun _ x => { nvmRemaps := x.nvmRemaps, nvmSpares := x.nvmSpares, nvmRows := x.nvmRows })
    kvParked := if ret then s.kvParked else []
    trim := s.trim
    knownBad := s.nvmKnownBad
    nvmKnownBad := s.nvmKnownBad
    pwr := { v48 := s.pwr.v48, v12sb := s.pwr.v12sb, v48Alert := s.pwr.v48Alert, softStart := s.pwr.softStart,
             tripped := s.pwr.tripped, coldDue := s.pwr.coldDue, mainLost := s.pwr.mainLost,
             fresh := if ret then s.pwr.fresh else true }
    errs := { s.errs with nvmQueue := [], sramErrs := [], down := false }
    mem := s.mem
    lost := s.lost
    zeroed := s.zeroed
    bad := s.bad
    weak := s.weak
    host := s.host
    hostFaults := s.hostFaults
    sec := { s.sec with challenge := none, spdm := [], recovery := false }
    hps := if ret then SMap.mapVal s.hps (fun _ x => { clog := x.clog, clogUnread := x.clogUnread }) else []
    pins := { s.pins with strokeOut := false }
    out := s.out
    draws := s.draws
    pending := s.pending }

/-- The interleave sets in force, each with PKG_MIB and the channels it is built over (R306, R308). -/
def State.setForms (s : State) : List (Nat × Nat × List Nat) :=
  let dies := (List.range 16).flatMap (fun d => if s.dieKind d = 1 then [32 + 2 * d, 33 + 2 * d] else [d])
  (dies ++ [64]).map (fun t => (t, s.pkgMib, s.setLive t))

/-- Steps 2 and 3 of R424: the package reset itself, forced unretained by a pending level-2 debug unlock (R467).  LAST_CAUSE and
LAST_RETAINED say which it was (Table 18.7). -/
def State.beginReset (s : State) (retained : Bool) (cause : Nat) : State :=
  let retained := retained && s.fld secPage Fld.SEC_STATUS_DEBUG != 2
  let s := if retained then (((s.logInFlight).abortLive).settleKv (fun _ => true)) else s
  let lvl2 := s.fld secPage Fld.SEC_STATUS_DEBUG
  let formed := if retained then s.setForms else []
  let s := s.wiped (some retained)
  let s := { s with pwr := { s.pwr with pkgReset := some retained, formed := formed } }
  let s := s.setFld secPage Fld.SEC_STATUS_DEBUG lvl2
  ((s.setFld crnPage Fld.CRN_PWR_STATUS_STATE 4).setFld crnPage Fld.CRN_PWR_STATUS_LAST_CAUSE cause).setBit crnPage
    Fld.CRN_PWR_STATUS_LAST_RETAINED retained

/-- A package reset is triggered; one with CRN_RESET.RETAIN first saves every resident context (R424 step 1).  A pending level-2
debug unlock forces it unretained (R467); a thermal trip overrides it (R437). -/
def State.packageReset (s : State) (retained : Bool) (cause : Nat) : State :=
  let ret := retained && s.fld secPage Fld.SEC_STATUS_DEBUG != 2
  if s.pwr.tripped || s.pwr.mainLost || s.pwr.booting || s.pwr.pkgReset.isSome then s
  else if ret && cause == 2 && (List.range 64).any (fun p => s.ctxBusy p) then
    let s := { s with pwr := { s.pwr with pkgDue := some cause } }
    let s := s.setFld crnPage Fld.CRN_PWR_STATUS_STATE 4
    s.ctxs.foldl (fun s x => s.requestPreempt (x.1 / 16) (x.1 % 16)) s
  else s.beginReset ret cause

/-- A write of CRN_RESET (Table 18.5, R431). -/
def State.crnReset (s : State) (who : Requester) (crown : Nat) (v : Word64) : State :=
  s.letIn who (page 0 crown) (fun s =>
    let st := s.fld crnPage Fld.CRN_PWR_STATUS_STATE
    let pkg := getBits v 0 0 == 1
    let part := getBits v 2 2 == 1
    if !pkg && !part then s
    else if st = 3 ∨ st = 4 then s.refuseF (page 0 crown) 0x0F03 Fld.CRN_RESET_PKG
    else if pkg && part then s.refuseF (page 0 crown) 0x0102 Fld.CRN_RESET_PKG
    else if pkg then s.packageReset (getBits v 1 1 == 1) 2
    else
      let p := getBits v 8 3
      if s.shape.live.defined p then s.startPartReset p else s.refuseF (page 0 crown) 0x0102 Fld.CRN_RESET_PART_IDX)

/-- RESET_N held low for 10 µs or more (R425); ignored while PWR_GOOD is low (Table 21.5). -/
def resetNAssert (s : State) : State :=
  let s := { s with pins := { s.pins with resetLow := true } }
  if !s.pins.pwrGood then s
  else if s.pwr.pkgDue.isSome then s.beginReset (s.sh crnPage Fld.CRN_PWR_CFG_RESETN_RETAIN == 1) 1
  else s.packageReset (s.sh crnPage Fld.CRN_PWR_CFG_RESETN_RETAIN == 1) 1

/-- HP_RETAIN_CTRL.DISCARD: an unretained package reset (R370). -/
def retainDiscard (s : State) (who : Requester) (h : Nat) : State :=
  s.letIn who (hpPage h) (fun s => if s.pwr.pkgDue.isSome then s.beginReset false 3 else s.packageReset false 3)

/-- PARTITION_RESET_DONE (R422). -/
def execPartitionResetDone (part : Nat) (s : State) : Host.Outcome State Fault Refusal := State.done (partitionResetDone s part)
/-- FLR (R350). -/
def execFlr (who : Requester) (s : State) : Host.Outcome State Fault Refusal := State.done (flr s who)
/-- CRN_RESET_PART (R423). -/
def execCrnResetPart (who : Requester) (crown : Nat) (v : Word64) (s : State) : Host.Outcome State Fault Refusal :=
  State.done (s.crnReset who crown v)
/-- CRN_RESET_PKG (R424). -/
def execCrnResetPkg (who : Requester) (crown : Nat) (v : Word64) (s : State) : Host.Outcome State Fault Refusal :=
  State.done (s.crnReset who crown v)
/-- RESET_N_ASSERT (R425). -/
def execResetNAssert (s : State) : Host.Outcome State Fault Refusal := State.done (resetNAssert s)
/-- RETAIN_DISCARD (R370). -/
def execRetainDiscard (who : Requester) (port : Nat) (s : State) : Host.Outcome State Fault Refusal :=
  State.done (retainDiscard s who port)

end Sys2Proof.Machine
end

