-- ==== Sys2Proof/Machine/Boot.lean ====
section
/-!
DEFINITION. The boot sequence that a cold power-on and a package reset run (R37, R315, R325, R446, R449, R453 to R459, R462,
Table 20.3), and the supplies and pins that start and stop it (R425, R473 to R477).
-/
namespace Sys2Proof.Machine

open Sys2Proof

/-- A slot's image may boot: its record is valid and its SVN is at least its counter (R456). -/
def FwSlot.bootable (x : FwSlot) (counter : Nat) : Bool := x.valid && decide (counter ≤ x.svn)

/-- The slot that boots: the bootable one with the higher SVN, equal SVNs decided by the higher SEQ (R456). -/
def bootSlot (slots : List FwSlot) (counter : Nat) : Option Nat :=
  match slots with
  | [a, b] =>
    if a.bootable counter && (!b.bootable counter || decide (b.svn < a.svn) || (a.svn == b.svn && decide (b.seq ≤ a.seq))) then some 0
    else if b.bootable counter then some 1
    else none
  | _ => none

/-- The records of the slots that are refused: 0x1002 for one that fails R455, 0x1003 for one below its counter (R455, R456). -/
def State.recordSlots (s : State) (slots : List FwSlot) (counter : Nat) : State :=
  slots.foldl (fun s x => if !x.valid then s.crnRecord 1 0x1002 else if x.svn < counter then s.crnRecord 1 0x1003 else s) s

/-- A pinned slot that may be loaded: its CRC matches and its contents pass every check a commit would run (R37). -/
def State.slotSound (s : State) (i : Nat) : Bool :=
  match s.shape.slot? i with
  | some n => n.crcOk && (s.bootFail? n.bank).isNone
  | none => false

/-- The pinned Shape: the valid slot with the higher pin sequence number (R37). -/
def State.pinnedSlot? (s : State) : Option Nat :=
  let seq (i : Nat) : Nat := match s.shape.slot? i with | some n => n.seq | none => 0
  if s.slotSound 0 && (!s.slotSound 1 || decide (seq 1 ≤ seq 0)) then some 0
  else if s.slotSound 1 then some 1
  else none

/-- The units that the pinned Shape's trim overrides remove (R446). -/
def State.pinnedRemovals (s : State) : List (Nat × Nat) :=
  match s.pinnedSlot?.bind s.shape.slot? with
  | some n => (n.bank.overrides.filter (fun o => o.2.2)).map (fun o => (o.1, o.2.1))
  | none => []

/-- The trim map is built from built-in self-test, the known-bad record, the Crowns whose verification failed and the pinned
Shape's trim overrides (R446, R453, Table 20.3 step 5). -/
def State.buildTrim (s : State) (f : BootReport) : State :=
  let crowns := ([0, 1].filter (fun i => !f.sound.contains i)).map (fun i => (0, i))
  let found := trimClosure (s.nvmKnownBad ++ f.bist ++ crowns)
  let trim := trimClosure (found ++ ({ s with trim := found }).pinnedRemovals)
  let s := if trim == s.trim then s else s.raise crnPage 23
  { s with trim := trim, knownBad := s.nvmKnownBad, failed := [] }

/-- The remap tables and the retired-row list are reapplied, then every channel is trained: a spare lane for each failing lane, and
a channel with more than two marked out (R315, R325). -/
def State.trainChannels (s : State) (f : BootReport) : State :=
  let s := { s with chans := SMap.mapVal s.chans (fun _ x =>
    { x with remaps := x.nvmRemaps, sparesRetired := x.nvmSpares, rowsRetired := x.nvmRows }) }
  let s := (List.range 32).foldl (fun s k => if s.trimmed 9 k then s else s.setFld (stkPage k) Fld.STK_STATUS_STATE 1) s
  f.lanes.foldl (fun s x =>
    if s.trimmed 8 x.1 || decide (1024 ≤ x.1) || x.2 == 0 then s
    else if x.2 ≤ 2 then s.setFld (mcPage x.1) Fld.MC_STATUS_LANES_SPARED x.2
    else s.markOut x.1) s

/-- The generations as SHP_GEN_LP and SHP_GEN_PP report them (Table 2.14). -/
def State.showGens (s : State) : State :=
  let u := s.shape
  (((s.setFld shpPage Fld.SHP_GEN_LP_LIVE u.live.gen).setFld shpPage Fld.SHP_GEN_LP_PRIOR u.prior.gen).setFld shpPage
    Fld.SHP_GEN_PP_PENDING u.pend.gen)

/-- A bank becomes Live at boot: Prior empty, Pending its copy with the next generation, the personality in force (R34, R37, R44);
the stroke unit starts counting at 0, a boundary of STROKE_OUT (R44, R47, R56). -/
def State.loadBank (s : State) (b : Bank) (slot : Option Nat) : State :=
  let persona := [0, 1].map (fun h => b.fld (hpPage h) Fld.HP_CFG_PERSONALITY)
  let u := { s.shape with
    live := b, prior := {}, pend := { b with gen := genAfter b.gen }, cur := slot, highGen := b.gen, nextGen := genAfter b.gen,
    persona := persona }
  let s := ({ s with shape := u }).showGens
  let s := s.setFld shpPage Fld.SHP_GEN_PP_PINNED (match slot with | some _ => b.gen | none => 0)
  let src := if s.dwerdo then 0 else b.fld strPage Fld.STR_CFG_SOURCE
  let s := { s with stroke := { source := src, period := b.fld strPage Fld.STR_CFG_PERIOD, epoch := b.fld strPage Fld.STR_EPOCH_EPOCH_S } }
  let s := s.setFld strPage Fld.STR_STATUS_SOURCE_ACTIVE src
  ((s.setFld strPage Fld.STR_STATUS_LOCK (if src = 0 then 2 else 0)).setReg (strPage + Reg.STR_COUNT) 0).driveStrokeOut

/-- At a boot that keeps no HBM contents every slot of every pool and host tier is FREE (Tables 10.7, 18.4). -/
def State.freePools (s : State) : State :=
  if s.pwr.pkgReset = some true then s
  else ((List.range 64).filter s.shape.live.defined).foldl (fun s p => s.freeTable p) s

/-- Sets that a retained package reset re-forms or rebuilds over other channels have lost their contents (R306, R321). -/
def State.loseReformed (s : State) : State :=
  let old := s.pwr.formed
  let s := { s with pwr := { s.pwr with formed := [] } }
  if old.isEmpty then s
  else (s.setForms.filter (fun x => !old.contains x)).foldl (fun s x => s.lose (setBase x.1) (s.setFrames x.1 * 2 ^ 21)) s

/-- The pinned Shape becomes Live, or the factory default Shape with generation 1, DEFAULT_APPLIED and an error record (R37). -/
def State.loadShape (s : State) : State :=
  let s := match s.pinnedSlot?.bind (fun i => (s.shape.slot? i).map (fun n => (i, n.bank))) with
    | some (i, b) => s.loadBank b (some i)
    | none =>
      ((s.loadBank (factoryBank s.trim) none).setFld shpPage Fld.SHP_STATUS_DEFAULT_APPLIED 1).recordError
        { source := srcOf shpPage, cls := 1, code := 0x020E }
  s.loseReformed.freePools.mapRetired

/-- C-dies a mesh path reaches from E0 (0) or E2 (1), over untrimmed C-dies (R12, R449). -/
def State.meshFrom (s : State) (e : Nat) : List Nat :=
  let start := (if e = 0 then [0, 4] else [3, 7]).filter (fun d => !s.trimmed 5 d)
  (List.range 16).foldl (fun ds _ => s.meshStep ds) start

/-- A C-die holds a cluster with a core in service and a stack with at least 16 channels in service (R449). -/
def State.dieServes (s : State) (d : Nat) : Bool :=
  (List.range 8).any (fun j => let k := 8 * d + j
    !s.trimmed 6 k && (List.range 8).any (fun c => !s.trimmed 7 (8 * k + c))) &&
  (List.range 2).any (fun j => let k := 2 * d + j
    !s.trimmed 9 k && decide (16 ≤ ((List.range 32).filter (fun c => !s.trimmed 8 (32 * k + c) && s.mcState (32 * k + c) != 3)).length))

/-- E0 (0) or E2 (1) holds the minimum service set (R449). -/
def State.edieServes (s : State) (e : Nat) : Bool :=
  !s.trimmed 4 (2 * e) && !s.trimmed 0 e && !s.trimmed 13 e && (s.meshFrom e).any s.dieServes

/-- CRN_SERVICE and the lead Crown once the trim map is built (R449, R453); REFCLK_B0 absent is as a set that is not met (R477). -/
def State.judgeService (s : State) (refclk : Bool) (bootLead : Nat) : State :=
  let e0 := s.edieServes 0
  let met := refclk && (e0 || s.edieServes 1)
  let s := s.setBit crnPage Fld.CRN_SERVICE_MIN_MET met
  let s := s.setBit crnPage Fld.CRN_SERVICE_SERVING_EDIE (met && !e0)
  { s with sec := { s.sec with lead := if met then (if e0 then 0 else 1) else bootLead } }

/-- Enabled Brim ports leave DARK (R376). -/
def State.startPorts (s : State) : State :=
  (List.range 64).foldl (fun s b =>
    if s.sh (page 12 b) Fld.BRM_CFG_EN = 1 && s.portState b == 0 && !s.trimmed 12 b then s.setPort b 1 else s) s

/-- The anti-rollback counters can be used: a copy authenticates, or a repair record sets each counter to the value it carries (R459). -/
def bootCounters (f : BootReport) : Bool := f.counters || f.repair.isSome

/-- Device keys, identity and the root checks: Table 20.3 steps 2 and 3 (R453, R459, R462).  Answers the boot-time lead Crown. -/
def State.bootKeys (s : State) (f : BootReport) : State × Nat :=
  let ok (i : Nat) : Bool := f.keys.contains i
  let s := { s with sec := { s.sec with
    keys := [ok 0, ok 1], countersOk := bootCounters f,
    counters := match f.repair with | some l => (List.range 16).map (fun i => l.getD i 0 % 2 ^ 16) | none => s.sec.counters } }
  let s := (s.setBit secPage Fld.SEC_STATUS_KEY_OK0 (ok 0 && !s.sec.withheld)).setBit secPage Fld.SEC_STATUS_KEY_OK1
    (ok 1 && !s.sec.withheld)
  let s := [0, 1].foldl (fun s i => if ok i then s else s.crnRecord 1 0x1005) s
  let s := [0, 1].foldl (fun s i => if f.sound.contains i then s else s.crnRecord 1 0x1001) s
  (s, if f.sound.contains 0 && ok 0 && bootCounters f then 0 else 1)

/-- The boot stops in recovery: host ports do not train, the Crowns answer over I3C (R456, R459). -/
def State.toRecovery (s : State) (lead : Nat) (code : Code) : State :=
  let s := if code = 0 then s else s.crnRecord (if code = 0x100A then 3 else 1) code
  { s with sec := { s.sec with recovery := true, lead := lead } }

/-- Firmware chosen, trim map built, channels trained, Shape Live, service judged: Table 20.3 steps 4 to 10. -/
def State.bootService (s : State) (f : BootReport) (lead a b : Nat) : State :=
  let from_ := if s.fld ccPage Fld.CC_STATUS_TIME_INVALID = 1 then 0 else s.cal.secs
  let s := { s with sec := { s.sec with runStage := a, runBundle := b, recovery := false, aliasFrom := from_ } }
  let s := (s.setFld secPage Fld.SEC_STATUS_BOOT_SLOT a).setFld secPage Fld.SEC_STATUS_BUNDLE_SLOT b
  let cert := if s.fld ccPage Fld.CC_STATUS_TIME_INVALID = 1 then 2 else if f.certWithin then 0 else 1
  let s := (s.setFld secPage Fld.SEC_STATUS_CERT_TIME cert).setFld secPage Fld.SEC_STATUS_BOOT_MS (min f.ms 65535)
  let s := ((s.buildTrim f).trainChannels f).loadShape
  (s.startPorts).judgeService f.refclk lead

/-- The boot (Table 20.3), with what it found. -/
def State.boot (s : State) (f : BootReport) : State :=
  let (s, lead) := s.bootKeys f
  if !f.nvm then s.toRecovery lead 0x100A
  else if !bootCounters f || !f.keys.contains lead then s.toRecovery lead 0x1004
  else
    let c0 := s.sec.counters.getD 0 0
    let c1 := s.sec.counters.getD 1 0
    let s := (s.recordSlots s.sec.stage c0).recordSlots s.sec.bundle c1
    match bootSlot s.sec.stage c0, bootSlot s.sec.bundle c1 with
    | some a, some b => s.bootService f lead a b
    | _, _ => s.toRecovery lead 0

/-- A pending level-2 unlock takes effect in an unretained reset: HBM is written with zeros and the device keys are withheld until
the next power cycle (R467). -/
def State.openDebug (s : State) : State :=
  if s.fld secPage Fld.SEC_STATUS_DEBUG = 2 then
    let s := { s.zeroHbm with sec := { s.sec with withheld := true } }
    (s.setFld secPage Fld.SEC_STATUS_DEBUG 3).setFld secPage Fld.SEC_JTAG_LEVEL 2
  else s

/-- After a retained reset the package is held, HBM in self-refresh, until a claim (R424). -/
def State.holdRetained (s : State) : State :=
  let s := (List.range 32).foldl (fun s k =>
    if s.fld (stkPage k) Fld.STK_STATUS_STATE = 1 then s.setFld (stkPage k) Fld.STK_STATUS_STATE 2 else s) s
  let s := [0, 1].foldl (fun s h => s.setFld (hpPage h) Fld.HP_RETAIN_CTRL_STATE 1) s
  (s.setFld crnPage Fld.CRN_PWR_STATUS_STATE 2).raise crnPage 19

/-- PACKAGE_RESET_DONE (R424): the boot of a package reset ends; one that waited for its saves begins first.  While RESET_N stays
low the package holds (R425). -/
def packageResetDone (s : State) (f : BootReport) : State :=
  if s.pins.resetLow || (s.pwr.pkgDue.isSome && (List.range 64).any (fun p => s.ctxBusy p)) then s
  else
    let s := if s.pwr.pkgDue.isSome then s.beginReset true 2 else s
    match s.pwr.pkgReset with
    | none => s
    | some ret =>
      let s := (if ret then s else s.openDebug).boot f
      let s := { s with pwr := { s.pwr with pkgReset := none } }
      let s := s.setFld crnPage Fld.CRN_PWR_STATUS_STATE 0
      if ret && !s.sec.recovery then s.holdRetained else s

/-- The cold power-on sequence begins: a power cycle clears the debug port and the withheld keys (R458, R466, R467). -/
def State.startBoot (s : State) : State :=
  let s := { s with sec := { s.sec with withheld := false }
                    pwr := { s.pwr with mainLost := false, coldDue := false, booting := true } }
  (s.setReg (secPage + Reg.SEC_JTAG) 0).setFld secPage Fld.SEC_STATUS_DEBUG 0

/-- A waiting cold power-on begins once the soft-start has ended and RESET_N is high (Table 21.5). -/
def State.tryBoot (s : State) : State :=
  if s.pwr.coldDue && s.pins.pwrGood && s.pwr.v48 && s.pwr.softStart == 2 && !s.pins.resetLow && !s.pwr.tripped then s.startBoot
  else s

/-- COLD_POWER_ON (R458): PWR_GOOD rises with main power present. -/
def coldPowerOn (s : State) : State :=
  let s := { s with pins := { s.pins with pwrGood := true } }
  if s.pwr.mainLost && s.pwr.v48 then ({ s with pwr := { s.pwr with coldDue := true } }).tryBoot else s

/-- BOOT_COMPLETE (R458). -/
def bootComplete (s : State) (f : BootReport) : State :=
  if !s.pwr.booting || s.pins.resetLow then s
  else
    let s := s.boot f
    { s with pwr := { s.pwr with booting := false } }

/-- RESET_N_RELEASE (R425): a held package reset or a waiting cold power-on continues. -/
def resetNRelease (s : State) : State := ({ s with pins := { s.pins with resetLow := false } }).tryBoot

/-- Main power stops: everything but the always-on island loses its state (Table 18.4 column C, R476). -/
def State.losePower (s : State) : State :=
  if s.pwr.mainLost then s
  else
    let s := s.wiped none
    { s with pwr := { s.pwr with mainLost := true, coldDue := false } }

/-- PWR_GOOD_FALL (R476, Table 21.5): the package stops; a reset under way is abandoned. -/
def pwrGoodFall (s : State) : State :=
  let s := s.losePower
  { s with pins := { s.pins with pwrGood := false }, pwr := { s.pwr with coldDue := false } }

/-- V48_LOSS (R473): the conversion stops, a loss of main power; THERMTRIP_N is released with V48 (Table 21.6). -/
def v48Loss (s : State) : State :=
  let s := s.losePower
  { s with pwr := { s.pwr with v48 := false, softStart := 0, tripped := false, coldDue := false }
           pins := { s.pins with thermtrip := false } }

/-- V48_THRESHOLD (R473): leaving 40 V to 60 V asserts ALERT_N and reports a PLDM threshold event; returning clears both. -/
def v48Threshold (s : State) (mV : Nat) : State :=
  let bad := decide (mV < 40000) || decide (60000 < mV)
  if !s.pwr.v48 || bad == s.pwr.v48Alert then s
  else (({ s with pwr := { s.pwr with v48Alert := bad } }).emit (.pldm (if bad then 2 else 3) mV)).setAlert

/-- MAIN_POWER_APPLY (R475): V48 rises above 36 V and the conversion's soft-start begins. -/
def mainPowerApply (s : State) : State :=
  if s.pwr.v48 then s else { s with pwr := { s.pwr with v48 := true, softStart := 1 } }

/-- SOFT_START_DONE (R477). -/
def softStartDone (s : State) : State :=
  if s.pwr.softStart = 1 then ({ s with pwr := { s.pwr with softStart := 2 } }).tryBoot else s

/-- STANDBY_POWER_LOSS (R476): only VBAT is left; what the Crown islands held behind the debug port and the responder is gone. -/
def standbyPowerLoss (s : State) : State :=
  let s := s.losePower
  { s with pwr := { s.pwr with v12sb := false, coldDue := false }
           sec := { s.sec with challenge := none, spdm := [] }
           pins := { s.pins with pwrGood := false } }

/-- STANDBY_POWER_ON (R475): the always-on island and the Crown islands start.  Where VBAT did not hold, the calendar clock restarts
at 0 s with TIME_INVALID = 1 and the error ring is lost (R69, Table 18.4 note 1). -/
def standbyPowerOn (s : State) (vbatHeld : Bool) : State :=
  if s.pwr.v12sb then s
  else
    let s := { s with pwr := { s.pwr with v12sb := true } }
    if vbatHeld then s
    else
      let s := { s with cal := {}, errs := { fatal := s.errs.fatal } }
      let s := ((s.setReg (ccPage + Reg.CC_TRIM) 0).setReg (ccPage + Reg.CC_STATUS) 1)
      ((s.setReg 0x148 0).setReg 0x150 0).setAlert

/-- PACKAGE_RESET_DONE (R424). -/
def execPackageResetDone (found : BootReport) (s : State) : Host.Outcome State Fault Refusal := State.done (packageResetDone s found)
/-- COLD_POWER_ON (R458). -/
def execColdPowerOn (s : State) : Host.Outcome State Fault Refusal := State.done (coldPowerOn s)
/-- BOOT_COMPLETE (R458). -/
def execBootComplete (found : BootReport) (s : State) : Host.Outcome State Fault Refusal := State.done (bootComplete s found)
/-- RESET_N_RELEASE (R425). -/
def execResetNRelease (s : State) : Host.Outcome State Fault Refusal := State.done (resetNRelease s)
/-- PWR_GOOD_FALL (R476). -/
def execPwrGoodFall (s : State) : Host.Outcome State Fault Refusal := State.done (pwrGoodFall s)
/-- V48_LOSS (R473). -/
def execV48Loss (s : State) : Host.Outcome State Fault Refusal := State.done (v48Loss s)
/-- V48_THRESHOLD (R473). -/
def execV48Threshold (mV : Nat) (s : State) : Host.Outcome State Fault Refusal := State.done (v48Threshold s mV)
/-- MAIN_POWER_APPLY (R475). -/
def execMainPowerApply (s : State) : Host.Outcome State Fault Refusal := State.done (mainPowerApply s)
/-- SOFT_START_DONE (R477). -/
def execSoftStartDone (s : State) : Host.Outcome State Fault Refusal := State.done (softStartDone s)
/-- STANDBY_POWER_LOSS (R476). -/
def execStandbyPowerLoss (s : State) : Host.Outcome State Fault Refusal := State.done (standbyPowerLoss s)
/-- STANDBY_POWER_ON (R475). -/
def execStandbyPowerOn (vbatHeld : Bool) (s : State) : Host.Outcome State Fault Refusal := State.done (standbyPowerOn s vbatHeld)

end Sys2Proof.Machine
end

