-- ==== Sys2Proof/Machine/Secure.lean ====
section
/-!
DEFINITION. Errors without a command, the error ring's reader, management requests, anti-rollback counters, firmware update, the
SPDM responders and the debug port (R29, R64, R441 to R446, R449, R460 to R467, R489).
-/
namespace Sys2Proof.Machine

open Sys2Proof

/-! ### Errors (19) -/

/-- ERROR_RING_HEAD_WRITE (R489): accepted when the new HEAD lies on the way from HEAD to TAIL, else ignored. -/
def errorRingHeadWrite (s : State) (who : Requester) (crown : Nat) (v : Word64) : State :=
  s.letIn who (page 0 crown) (fun s =>
    let h := getBits v 11 0
    if s.errHeadOk h then s.passErrs h else s)

/-- MESH_LINK_FAILED (R441): a device-fatal error with 0xF009. -/
def meshLinkFailed (s : State) (link : Nat) : State := if !s.running || decide (32 ≤ link) then s else s.crnRecord 3 0xF009

/-- EDIE_CROWN_FAILED (R441): a device-fatal error with 0xF00A, of an E-die (0 to 3) or a Crown (4 and 5). -/
def edieCrownFailed (s : State) (unit : Nat) : State :=
  if !s.running || decide (6 ≤ unit) then s
  else s.recordError { source := srcOf (if unit < 4 then page 4 unit else page 0 (unit - 4)), cls := 3, code := 0xF00A }

/-- SELF_TEST_SWEEP_DONE (R64, R446): the units of a sweep in a maintenance window that did not pass fail in service. -/
def selfTestSweepDone (s : State) (failing : List (Nat × Nat)) : State :=
  if !s.running || !s.maintStroke then s
  else failing.foldl (fun s u =>
    if [6, 7, 10, 11, 17].contains u.1 && decide (u.2 < instances (if u.1 = 17 then 5 else u.1)) then s.failUnit u.1 u.2 else s) s

/-- The Crowns answer management: their islands are powered by V12SB and one of them is untrimmed (R449, R475). -/
def State.managed (s : State) : Bool := s.pwr.v12sb && !s.trimmed 0 s.sec.lead

/-- PLDM_REQUEST (R449): sensors, the trim map, the fatal log and CRN_SERVICE. -/
def pldmRequest (s : State) : State :=
  if !s.managed then s
  else s.emit (.pldmReport (s.fld crnPage Fld.CRN_PWR_STATUS_INPUT) (s.fld crnPage Fld.CRN_PWR_STATUS_TJ_MAX) s.trim s.errs.fatal
    (s.reg (regKey crnPage Reg.CRN_SERVICE)))

/-! ### Firmware and counters (20) -/

/-- SVN_COMMIT (R460): a counter rises only to the SVN of the image that runs under it; a second COMMIT during the write is refused
with 0x0105. -/
def svnCommit (s : State) (who : Requester) (v : Word64) : State :=
  s.letIn who secPage (fun s =>
    if !privileged who || getBits v 0 0 == 0 then s
    else if s.sec.svnBusy then
      (s.setFld secPage Fld.SEC_SVN_CMD_LAST_RESULT 0x0105).refuseF secPage 0x0105 Fld.SEC_SVN_CMD_COMMIT
    else
      let i := s.fld secPage Fld.SEC_SVN_SEL_COUNTER
      let s := s.setFld secPage Fld.SEC_SVN_CMD_LAST_RESULT 0
      if s.sec.running i ≤ s.sec.counters.getD i 0 then s
      else ({ s with sec := { s.sec with svnBusy := true } }).queueNvm 4 i)

/-- The slot of a kind that an update may not name: the one that runs; in recovery, the one that holds the higher valid SVN (R456,
R461). -/
def Sec.closedSlot (x : Sec) (bundle : Bool) : Option Nat :=
  if x.recovery then bootSlot (if bundle then x.bundle else x.stage) 0
  else some (if bundle then x.runBundle else x.runStage)

/-- PLDM_FW_UPDATE (R461): the image goes into the slot that is not running; an update that names the running slot is refused with
0x1008. -/
def pldmFwUpdate (s : State) (m : FwImage) : State :=
  if !s.managed || decide (2 ≤ m.slot) then s
  else if s.sec.closedSlot m.bundle = some m.slot then (s.refuse secPage 0x1008).emit (.pldm 4 0x1008)
  else
    let x : FwSlot := ⟨m.valid, m.svn, m.seq, m.body⟩
    let sec := if m.bundle then { s.sec with bundle := s.sec.bundle.set m.slot x } else { s.sec with stage := s.sec.stage.set m.slot x }
    ({ s with sec := sec }).emit (.pldm 4 0)

/-- RUNTIME_RESTART (R29): the runtime's hold of SHP_LOCK is released. -/
def runtimeRestart (s : State) : State := s.releaseLock [0x20]

/-! ### SPDM (R464, R465) -/

/-- The Crown that answers a request: Crown 0 over H0's DOE mailbox, Crown 1 over H1's, the lead Crown over I3C; none where the way
is down. -/
def State.responder? (s : State) (via : Nat) : Option Nat :=
  let c := if via = 2 then s.sec.lead else via
  if decide (2 < via) || !s.pwr.v12sb || s.pwr.mainLost || s.trimmed 0 c then none
  else if via < 2 && !s.linked via then none
  else some c

/-- A request is answered once those it follows have been (log 36). -/
def State.spdmAfter (s : State) (via step : Nat) (answer : Nat → SpdmAnswer) (next : Option Nat) : State :=
  match s.responder? via with
  | none => s
  | some c =>
    if SMap.getD s.sec.spdm via 0 < step then s.emit (.spdm via .unexpected)
    else
      let s := match next with
        | some n => { s with sec := { s.sec with spdm := SMap.put s.sec.spdm via n } }
        | none => s
      s.emit (.spdm via (answer c))

/-- What the Alias certificate of a Crown depends on: the stage-one image and the calendar at boot (R465). -/
def State.aliasFacts (s : State) (c : Nat) : List Nat :=
  c :: s.sec.aliasFrom :: ((s.sec.stage[s.sec.runStage]?.map (fun f => f.body)).getD []).map (fun b => b.toNat)

/-- The slot-0 chain of a Crown. -/
def State.certChain (s : State) (c : Nat) : List Byte := Config.chain c (s.aliasFacts c)

/-- Its digest. -/
def State.chainDigest (s : State) (c : Nat) : BitVec 256 := Config.digest 11 (s.aliasFacts c)

/-- The Crown can sign: its device key is present and not withheld (R462, R467). -/
def State.canSign (s : State) (c : Nat) : Bool := s.sec.keys.getD c false && !s.sec.withheld

/-- The Live bank's contents, register by register, with its trim overrides. -/
def State.liveWords (s : State) : List Nat :=
  checkedPages.flatMap (fun pg => (shOffs (pgClass pg)).map (fun o => (SMap.getD s.shape.live.words (regKey pg o) 0).toNat)) ++
    s.shape.live.overrides.flatMap (fun o => [o.1, o.2.1, o.2.2.toNat])

/-- The value of a measurement block (Table 20.5); none for an index that does not exist. -/
def State.measurement? (s : State) (i : Nat) : Option (List Byte) :=
  let body (x : Option FwSlot) : List Nat := ((x.map (fun f => f.body)).getD []).map (fun b => b.toNat)
  let dig (facts : List Nat) : List Byte := beBytes 32 (Config.digest i facts).toNat
  let bundle := body s.sec.bundle[s.sec.runBundle]?
  match i with
  | 1 => some (dig [])
  | 2 => some (dig (body s.sec.stage[s.sec.runStage]?))
  | 3 | 4 | 5 | 6 => some (dig bundle)
  | 7 => some (leBytes 4 s.shape.live.gen ++ dig s.liveWords)
  | 8 => some (dig [])
  | 9 => some (leBytes 2 (s.reg (secPage + Reg.SEC_STATUS)).toNat ++ leBytes 2 (s.sec.counters.getD 0 0) ++
      leBytes 2 (s.sec.counters.getD 1 0))
  | 10 => some (dig (s.trim.flatMap (fun u => [u.1, u.2])))
  | _ => none

/-- The blocks a request asks for: none for 0 (the count), all ten for 255, else the one named. -/
def State.blocks (s : State) (index : Nat) : Option (List (Nat × List Byte)) :=
  if index = 0 then some []
  else if index = 255 then some ((List.range 10).filterMap (fun j => (s.measurement? (j + 1)).map (fun b => (j + 1, b))))
  else (s.measurement? index).map (fun b => [(index, b)])

/-- GET_VERSION (R464). -/
def getVersion (s : State) (via : Nat) : State := s.spdmAfter via 0 (fun _ => .version) (some 1)
/-- GET_CAPABILITIES (R464): the largest message is 4,096 B. -/
def getCapabilities (s : State) (via : Nat) : State := s.spdmAfter via 1 (fun _ => .capabilities 4096) (some 2)
/-- NEGOTIATE_ALGORITHMS (R464). -/
def negotiateAlgorithms (s : State) (via : Nat) : State := s.spdmAfter via 2 (fun _ => .algorithms) (some 3)
/-- GET_DIGESTS (R464). -/
def getDigests (s : State) (via : Nat) : State := s.spdmAfter via 3 (fun c => .digests (s.chainDigest c)) none
/-- GET_CERTIFICATE (R464, R465): slot 0 alone, in chunks of at most 4,096 B. -/
def getCertificate (s : State) (via slot off len : Nat) : State :=
  s.spdmAfter via 3 (fun c =>
    if slot ≠ 0 then .unsupported
    else if (s.certChain c).length ≤ off then .invalid
    else .certificate off (((s.certChain c).drop off).take (min len 4096))) none
/-- CHALLENGE (R464): signed with the Alias key. -/
def challenge (s : State) (via slot : Nat) : State :=
  let (v, s) := s.draw
  s.spdmAfter via 3 (fun c =>
    if slot ≠ 0 then .unsupported
    else if s.canSign c then .challengeAuth (s.chainDigest c) (Config.signature c v) else .unspecified) none
/-- GET_MEASUREMENTS (R464, R465), signed or not. -/
def getMeasurements (s : State) (via index : Nat) (signed : Bool) : State :=
  let (v, s) := s.draw
  s.spdmAfter via 3 (fun c =>
    match s.blocks index with
    | none => .invalid
    | some bs =>
      if signed && !s.canSign c then .unspecified
      else .measurements bs (if signed then some (Config.signature c v) else none)) none
/-- SPDM_UNSUPPORTED_REQUEST (R464). -/
def spdmUnsupportedRequest (s : State) (via : Nat) : State := s.spdmAfter via 0 (fun _ => .unsupported) none

/-! ### The debug port (R466, R467) -/

/-- DEBUG_CHALLENGE_READ (R466): a new 32-byte challenge. -/
def debugChallengeRead (s : State) : State :=
  if s.pwr.mainLost then s
  else
    let (a, s) := s.draw
    let (b, s) := s.draw
    let (c, s) := s.draw
    let (d, s) := s.draw
    let ch := [a, b, c, d].flatMap (fun w => leBytes 8 w.toNat)
    ({ s with sec := { s.sec with challenge := some ch } }).emit (.data ch)

/-- DEBUG_CHALLENGE_EXPIRY (R466). -/
def debugChallengeExpiry (s : State) : State := { s with sec := { s.sec with challenge := none } }

/-- A debug response is refused with 0x1006; the third refusal locks the port (R466). -/
def State.debugRefused (s : State) : State :=
  let n := s.fld secPage Fld.SEC_JTAG_FAILS + 1
  let s := (s.setFld secPage Fld.SEC_JTAG_FAILS n).setBit secPage Fld.SEC_JTAG_LOCKED_OUT (decide (3 ≤ n))
  (s.refuse secPage 0x1006).raise secPage 18

/-- DEBUG_UNLOCK_RESPONSE (R466, R467): `sound` says whether the signature over the challenge, the serial and the level verifies.  Level
1 takes effect at once, level 2 at the next package reset. -/
def debugUnlockResponse (s : State) (level : Nat) (sound : Bool) : State :=
  if s.pwr.mainLost then s
  else if s.fld secPage Fld.SEC_JTAG_LOCKED_OUT = 1 then (s.refuse secPage 0x1007).raise secPage 18
  else if s.sec.challenge.isNone || !sound || !(level == 1 || level == 2) then s.debugRefused
  else
    let s := { s with sec := { s.sec with challenge := none } }
    let dbg := s.fld secPage Fld.SEC_STATUS_DEBUG
    let s := if level = 1 then
        if dbg = 0 then (s.setFld secPage Fld.SEC_STATUS_DEBUG 1).setFld secPage Fld.SEC_JTAG_LEVEL 1 else s
      else if dbg < 2 then s.setFld secPage Fld.SEC_STATUS_DEBUG 2
      else s
    s.raise secPage 17

/-- COALESCE_WINDOW_END (R443). -/
def execCoalesceWindowEnd (source code : Nat) (s : State) : Host.Outcome State Fault Refusal := State.done (s.endWindow source code)
/-- ERROR_RING_HEAD_WRITE (R489). -/
def execErrorRingHeadWrite (who : Requester) (crown : Nat) (v : Word64) (s : State) : Host.Outcome State Fault Refusal :=
  State.done (errorRingHeadWrite s who crown v)
/-- SVN_COMMIT (R460). -/
def execSvnCommit (who : Requester) (v : Word64) (s : State) : Host.Outcome State Fault Refusal := State.done (svnCommit s who v)
/-- PLDM_FW_UPDATE (R461). -/
def execPldmFwUpdate (image : FwImage) (s : State) : Host.Outcome State Fault Refusal := State.done (pldmFwUpdate s image)
/-- GET_VERSION (R464). -/
def execGetVersion (via : Nat) (s : State) : Host.Outcome State Fault Refusal := State.done (getVersion s via)
/-- GET_CAPABILITIES (R464). -/
def execGetCapabilities (via : Nat) (s : State) : Host.Outcome State Fault Refusal := State.done (getCapabilities s via)
/-- NEGOTIATE_ALGORITHMS (R464). -/
def execNegotiateAlgorithms (via : Nat) (s : State) : Host.Outcome State Fault Refusal := State.done (negotiateAlgorithms s via)
/-- GET_DIGESTS (R464). -/
def execGetDigests (via : Nat) (s : State) : Host.Outcome State Fault Refusal := State.done (getDigests s via)
/-- GET_CERTIFICATE (R465). -/
def execGetCertificate (via slot off len : Nat) (s : State) : Host.Outcome State Fault Refusal :=
  State.done (getCertificate s via slot off len)
/-- CHALLENGE (R464). -/
def execChallenge (via slot : Nat) (s : State) : Host.Outcome State Fault Refusal := State.done (challenge s via slot)
/-- GET_MEASUREMENTS (R465). -/
def execGetMeasurements (via index : Nat) (signed : Bool) (s : State) : Host.Outcome State Fault Refusal :=
  State.done (getMeasurements s via index signed)
/-- SPDM_UNSUPPORTED_REQUEST (R464). -/
def execSpdmUnsupportedRequest (via : Nat) (s : State) : Host.Outcome State Fault Refusal := State.done (spdmUnsupportedRequest s via)
/-- DEBUG_CHALLENGE_READ (R466). -/
def execDebugChallengeRead (s : State) : Host.Outcome State Fault Refusal := State.done (debugChallengeRead s)
/-- DEBUG_UNLOCK_RESPONSE (R466). -/
def execDebugUnlockResponse (level : Nat) (sound : Bool) (s : State) : Host.Outcome State Fault Refusal :=
  State.done (debugUnlockResponse s level sound)
/-- DEBUG_CHALLENGE_EXPIRY (R466). -/
def execDebugChallengeExpiry (s : State) : Host.Outcome State Fault Refusal := State.done (debugChallengeExpiry s)
/-- RUNTIME_RESTART (R29). -/
def execRuntimeRestart (s : State) : Host.Outcome State Fault Refusal := State.done (runtimeRestart s)
/-- MESH_LINK_FAILED (R441). -/
def execMeshLinkFailed (link : Nat) (s : State) : Host.Outcome State Fault Refusal := State.done (meshLinkFailed s link)
/-- EDIE_CROWN_FAILED (R441). -/
def execEdieCrownFailed (unit : Nat) (s : State) : Host.Outcome State Fault Refusal := State.done (edieCrownFailed s unit)
/-- PLDM_REQUEST (R449). -/
def execPldmRequest (s : State) : Host.Outcome State Fault Refusal := State.done (pldmRequest s)
/-- SELF_TEST_SWEEP_DONE (R64). -/
def execSelfTestSweepDone (failing : List (Nat × Nat)) (s : State) : Host.Outcome State Fault Refusal :=
  State.done (selfTestSweepDone s failing)

end Sys2Proof.Machine
end

