-- ==== Sys2Proof/Machine/Sleep.lean ====
section
/-!
DEFINITION. Nap, Deep nap, Block-hold, D3hot, host loss and the retain claim (R367 to R370, R427 to R431).
-/
namespace Sys2Proof.Machine

open Sys2Proof

/-- A command is issued to the engines, the attention sequencer or a mover of its cluster (R427). -/
def State.keepsAwake (s : State) (c : InFlight) : Bool :=
  c.issued && ((s.cmdEngines c).any (fun e => pgClass e.1 == 6 || pgClass e.1 == 7) || decide (0x90 ≤ c.cmd.op ∧ c.cmd.op ≤ 0x93))

/-- CLUSTER_NAP (R427): a cluster that holds no command on its engines, and whose tidy cores are stopped or in WFI, naps.  A NAP_DELAY
of 0 disables Nap. -/
def clusterNap (s : State) (k : Nat) : State :=
  let quiet := !(s.cmds.any (fun c => c.ccp == k && s.keepsAwake c))
  let still := (List.range 8).all (fun j =>
    s.fld (page 7 (8 * k + j)) Fld.CORE_TC_STATUS_STATE != 1)
  if !s.running || decide (128 ≤ k) || s.trimmed 6 k || s.sh crnPage Fld.CRN_PWR_CFG_NAP_DELAY == 0 || s.pwr.napping.contains k ||
      s.fld crnPage Fld.CRN_PWR_STATUS_STATE != 0 || !quiet || !still then s
  else { s with pwr := { s.pwr with napping := k :: s.pwr.napping } }

/-! ### Deep nap (R428) -/

/-- A write of PART_PWR (Table 18.8): RETAIN_SRAM is refused with 0x0F04 while the partition is not ACTIVE, DEEP_NAP = 1 with 0x0F01
while it is not idle; DEEP_NAP = 0 wakes it. -/
def State.partPwr (s : State) (who : Requester) (p : Nat) (v : Word64) : State :=
  let pg := partPage p
  s.letIn who pg (fun s =>
    let st := s.fld pg Fld.PART_PWR_STATE
    let nap := getBits v 0 0
    if st ≠ 0 ∧ getBits v 1 1 ≠ s.fld pg Fld.PART_PWR_RETAIN_SRAM then s.refuseF pg 0x0F04 Fld.PART_PWR_RETAIN_SRAM
    else if nap = 1 ∧ st = 0 ∧ (!s.shape.live.defined p || !s.idle p) = true then s.refuseF pg 0x0F01 Fld.PART_PWR_DEEP_NAP
    else
      let s := ((s.setFld pg Fld.PART_PWR_DEEP_NAP nap).setFld pg Fld.PART_PWR_RETAIN_SRAM (getBits v 1 1)).setFld pg
        Fld.PART_PWR_AUTO_WAKE (getBits v 2 2)
      if nap = 1 then (if st = 0 then s.setFld pg Fld.PART_PWR_STATE 1 else s.modPart p (fun x => { x with wakeDue := false }))
      else if st = 2 then s.setFld pg Fld.PART_PWR_STATE 3
      else if st = 1 then s.modPart p (fun x => { x with wakeDue := true })
      else s)

/-- DEEP_NAP_ENTRY_DONE (R428, Table 18.4 columns DN and DR): the clusters are power-gated; a doorbell met during the entry then
starts a wake (Table 18.3). -/
def deepNapEntryDone (s : State) (p : Nat) : State :=
  let pg := partPage p
  if s.fld pg Fld.PART_PWR_STATE ≠ 1 then s
  else
    let s := if s.fld pg Fld.PART_PWR_RETAIN_SRAM = 1 then s else s.loseUnits p
    let s := (s.clearSticky p).setFld pg Fld.PART_PWR_STATE 2
    if (s.part p).wakeDue then
      ((s.modPart p (fun x => { x with wakeDue := false })).setFld pg Fld.PART_PWR_STATE 3).setFld pg Fld.PART_PWR_DEEP_NAP 0
    else s

/-- DEEP_NAP_WAKE_DONE (R426): the wake ends; fetching begins, and frames held for it land (R428).  With DEEP_NAP written 1 again
meanwhile, the partition enters Deep nap once more (log 47). -/
def deepNapWakeDone (s : State) (p : Nat) : State :=
  let pg := partPage p
  if s.fld pg Fld.PART_PWR_STATE ≠ 3 then s
  else
    let s := (s.setFld pg Fld.PART_PWR_STATE 0).releaseHeld
    if s.fld pg Fld.PART_PWR_DEEP_NAP = 1 then s.setFld pg Fld.PART_PWR_STATE 1 else s

/-! ### Block-hold (R369, R429, R430) -/

/-- Block-hold entry begins: every resident context is saved at its next pre-emption point (R369 step 1, R429). -/
def State.enterHold (s : State) (byD3 : Bool) : State :=
  if s.fld crnPage Fld.CRN_PWR_STATUS_STATE ≠ 0 then s
  else
    let s := { s with pwr := { s.pwr with holdDue := some false, holdByD3 := byD3 } }
    let s := s.setFld crnPage Fld.CRN_PWR_STATUS_STATE 1
    s.ctxs.foldl (fun s x => s.requestPreempt (x.1 / 16) (x.1 % 16)) s

/-- The retained state waits for a claim (R369, R370): HELD on both ports, the count of refused claims restarts (Table 15.9). -/
def State.setHeld (s : State) : State :=
  [0, 1].foldl (fun s h => (s.setFld (hpPage h) Fld.HP_RETAIN_CTRL_STATE 1).setFld (hpPage h) Fld.HP_RETAIN_CTRL_REFUSED 0) s

/-- What Block-hold clears (Table 18.4 column BH): SRAM, sticky flags and slots, the C-die pages' registers, the stroke lock, Brim
membership. -/
def State.holdState (s : State) : State :=
  let s := s.lose cmBase (2 ^ 51 - cmBase)
  let s := { s with tcs := [], regs := s.regs.filter (fun x => !(pgClass x.1 == 7 && imageRegs.contains (pgOff x.1))) }
  let s := s.resetPages (fun pg => decide (5 ≤ pgClass pg) && decide (pgClass pg ≤ 10))
  let s := s.modStroke (fun u => { u with chain := 0, missed := 0, inTol := 0, edge := false, ptpSlave := false, ptpSlaveAlt := false,
                                          stretch := false, stepDue := false })
  let s := if s.stroke.source = 0 then s else s.setLock 0
  let s := { s with brim := {}
                    regs := s.regs.filter (fun x => !(pgClass x.1 == 4 && decide (0x180 ≤ pgOff x.1) && decide (pgOff x.1 ≤ 0x1B8))) }
  let s := (s.setFld e0Page Fld.EDIE_MEMB_EPOCH 0).setFld e0Page Fld.EDIE_MEMB_MEMBERS 0
  let s := s.setFld e0Page Fld.EDIE_MEMB_CMD_PENDING 0
  (List.range 64).foldl (fun s b => if s.portState b = 0 then s else s.setFld (brmPage b) Fld.BRM_STATUS_STATE 0) s

/-- Every stack whose state is one value takes another (R429). -/
def State.moveStacks (s : State) (from_ to_ : Nat) : State :=
  (List.range 32).foldl (fun s k =>
    if s.fld (stkPage k) Fld.STK_STATUS_STATE = from_ then s.setFld (stkPage k) Fld.STK_STATUS_STATE to_ else s) s

/-- BLOCK_HOLD_ENTRY_DONE (R429): the last save has ended, HBM is in self-refresh and the C-dies are off.  A D0 written during the
entry starts the exit at once (Table 18.3). -/
def blockHoldEntryDone (s : State) : State :=
  match s.pwr.holdDue with
  | none => s
  | some wake =>
    if (List.range 64).any (fun p => s.ctxBusy p) then s
    else
      let s := (s.moveStacks 1 2).holdState
      let s := (s.setFld crnPage Fld.CRN_PWR_STATUS_STATE 2).raise crnPage 19
      let s := { s with pwr := { s.pwr with holdDue := none } }
      let s := if s.pwr.holdByD3 then s else s.setHeld
      if wake then s.setFld crnPage Fld.CRN_PWR_STATUS_STATE 3 else s

/-- BLOCK_HOLD_EXIT_DONE (R429): the C-dies are up, the channels out of self-refresh and recalibrated; saved contexts restore as the
scheduler chooses them. -/
def blockHoldExitDone (s : State) : State :=
  if s.fld crnPage Fld.CRN_PWR_STATUS_STATE ≠ 3 then s
  else
    let s := s.moveStacks 2 1
    let s := (List.range 1024).foldl (fun s c => if s.mcServes c then s.recalibrated c else s) s
    let s := { s with pwr := { s.pwr with holdByD3 := false } }
    ((s.setFld crnPage Fld.CRN_PWR_STATUS_STATE 0).raise crnPage 20).startPorts

/-- Every linked PF is in D3hot (R430). -/
def State.allD3 (s : State) : Bool :=
  [0, 1].any s.linked && [0, 1].all (fun h => !s.linked h || s.pwr.d3.contains h)

/-- PF_D3HOT (R430). -/
def pfD3hot (s : State) (h : Nat) : State :=
  if !s.linked h || s.pwr.d3.contains h then s
  else
    let s := { s with pwr := { s.pwr with d3 := h :: s.pwr.d3 } }
    if s.allD3 then s.enterHold true else s

/-- PF_D0 (R430, Table 18.3): leaves a Block-hold that D3hot entered, with no claim; during the entry, the exit follows it. -/
def pfD0 (s : State) (h : Nat) : State :=
  if !s.pwr.d3.contains h then s
  else
    let s := { s with pwr := { s.pwr with d3 := s.pwr.d3.filter (fun x => x != h) } }
    let st := s.fld crnPage Fld.CRN_PWR_STATUS_STATE
    if !s.pwr.holdByD3 then s
    else if st = 1 then { s with pwr := { s.pwr with holdDue := s.pwr.holdDue.map (fun _ => true) } }
    else if st = 2 then s.setFld crnPage Fld.CRN_PWR_STATUS_STATE 3
    else s

/-! ### Host loss and the claim (R367 to R370) -/

/-- Records posted through a lost port that no flushing read covered are copied to its log (R368). -/
def State.copyUncovered (s : State) (h : Nat) : State :=
  let rs := (s.hp h).uncovered
  let s := s.modHp h (fun x => { x with uncovered := [] })
  rs.foldl (fun s b => s.logRecord h b (leAt b 2 2) true true) s

/-- Rings behind a lost port: RUNNING ones become STOPPED with 0x0C05; those whose completion ring lies behind it log their records
until they are enabled again (R367, R368). -/
def ringLost (h : Nat) (r : Ring) : Ring :=
  if r.st = 0 then r
  else
    let cq := r.cqInHost && r.cqPort == h
    let r1 := if cq then { r with lost := true } else r
    if r.st = 1 ∧ (cq || (r.inHost && r.port == h)) = true then { r1 with st := 2, fault := 0x0C05 } else r1

/-- Held entry writes and half-written registers of a lost port are discarded (R367). -/
def State.dropHeld (s : State) (h : Nat) : State :=
  let off (x : Option (Nat × Word64)) : Option (Nat × Word64) := match x with
    | some (q, w) => if q = h then none else some (q, w)
    | none => none
  { s with shape := { s.shape with halves := s.shape.halves.filter (fun x => x.2.1 != h) }
           parts := SMap.mapVal s.parts (fun _ x => { x with rwtW1 := off x.rwtW1, rwtW2 := off x.rwtW2 }) }

/-- With HOLD_ON_HOST_LOSS = 1 and no port linked the package enters Block-hold; one it is in already waits for a claim (R369). -/
def State.holdOnLoss (s : State) : State :=
  let st := s.fld crnPage Fld.CRN_PWR_STATUS_STATE
  if [0, 1].any s.linked then (if s.allD3 then s.enterHold true else s)
  else if s.sh (hpPage 0) Fld.HP_CFG_HOLD_ON_HOST_LOSS = 0 then s
  else if st = 0 then s.enterHold false
  else if s.pwr.holdByD3 && (st == 1 || st == 2) then
    let s := { s with pwr := { s.pwr with holdByD3 := false, holdDue := s.pwr.holdDue.map (fun _ => false) } }
    if st = 2 then s.setHeld else s
  else s

/-- Rings and commands in flight learn of a port's loss; its PF is no longer in D3hot (R367). -/
def State.cutPort (s : State) (h : Nat) : State :=
  let cut (c : InFlight) : InFlight := { c with lostPorts := h :: c.lostPorts }
  let s := { s with rings := SMap.mapVal s.rings (fun _ r => ringLost h r), cmds := s.cmds.map cut }
  { s with pwr := { s.pwr with d3 := s.pwr.d3.filter (fun x => x != h) } }

/-- HOST_LOSS (R367): link down, hot reset or fundamental reset of a port. -/
def hostLoss (s : State) (h : Nat) : State :=
  if !s.linked h || decide (2 ≤ h) then s
  else
    let pg := hpPage h
    let s := (((s.setFld pg Fld.HP_LINK_STATE 0).setFld pg Fld.HP_LINK_SPEED 0).setFld pg Fld.HP_LINK_WIDTH 0).setFld pg Fld.HP_LINK_CXL 0
    let s := ((s.addFld pg Fld.HP_LOSS_LOSS_SEQ 1).raise pg 16).modHp h (fun x => { x with lossStroke := s.strokeNo })
    let s := s.copyUncovered h
    let s := s.cutPort h
    let s := if s.fld pg Fld.HP_DW_STATUS_STATE = 1 then
        (s.setFld pg Fld.HP_DW_STATUS_STATE 2).setFld pg Fld.HP_DW_STATUS_FAULT 0x0C05
      else s
    let s := (s.dropHeld h).releaseLock [h + 1]
    let behind := (s.rings.filter (fun x => x.2.st != 0 && ((x.2.inHost && x.2.port == h) || (x.2.cqInHost && x.2.cqPort == h)))).filterMap
      (fun x => s.ringPart? x.1)
    let s := s.recordError { source := srcOf pg, cls := 1, code := 0x0C05, also := behind }
    s.holdOnLoss

/-- A context is kept when its save map still meets R407 and, if it holds an image, the image's logical cores and clusters all exist
under the Live Shape; any other becomes ABORTED with 0x0E07 (R419). -/
def State.checkContexts (s : State) (p : Nat) : State :=
  (List.range 16).foldl (fun s c =>
    let x := s.ctx p c
    let held := (x.st == .ready || x.st == .suspended)
    if !held then s
    else
      let fits := match x.image with
        | none => true
        | some im => decide (im.cores ≤ (s.partCores p).length) && decide (im.clusters ≤ (s.logicalClusters p).length)
      match s.saveAreas p c x x.windows with
      | some areas => if s.shape.live.defined p && fits then s.modCtx p c (fun x => { x with areas := areas })
          else s.abortCtx p c 0x0E07 0xF003
      | none => s.abortCtx p c 0x0E07 0xF003) s

/-- RETAIN_CLAIM (R370): in HELD, a PF writes the previous ID.  A match leaves Block-hold, with a new ID; a mismatch, or a claim within
100 ms of the port's last, is refused with 0x0C09; a write of 0 does nothing (R4). -/
def retainClaim (s : State) (who : Requester) (h ms : Nat) (v : Word64) : State :=
  s.letIn who (hpPage h) (fun s =>
    match who with
    | .pf port =>
      let pg := hpPage h
      let soon := match (s.hp port).lastClaim with | some t => decide (ms < t + 100) | none => false
      if s.fld pg Fld.HP_RETAIN_CTRL_STATE ≠ 1 ∨ v = 0 then s
      else
        let s := if soon then s else s.modHp port (fun x => { x with lastClaim := some ms })
        if soon || s.reg (pg + Reg.HP_RETAIN_ID) != v then
          ((s.refuseF pg 0x0C09 Fld.HP_RETAIN_CLAIM_ID).addFld pg Fld.HP_RETAIN_CTRL_REFUSED 1).raise pg 19
        else
          let s := [0, 1].foldl (fun s q => s.setFld (hpPage q) Fld.HP_RETAIN_CTRL_STATE 2) s
          let s := s.newRetainId.setFld crnPage Fld.CRN_PWR_STATUS_STATE 3
          (List.range 64).foldl (fun s p => s.checkContexts p) s
    | _ => s)

/-- HOST_LOSS (R367). -/
def execHostLoss (port : Nat) (s : State) : Host.Outcome State Fault Refusal := State.done (hostLoss s port)
/-- RETAIN_CLAIM (R370). -/
def execRetainClaim (who : Requester) (port ms : Nat) (v : Word64) (s : State) : Host.Outcome State Fault Refusal :=
  State.done (retainClaim s who port ms v)
/-- CLUSTER_NAP (R427). -/
def execClusterNap (clu : Nat) (s : State) : Host.Outcome State Fault Refusal := State.done (clusterNap s clu)
/-- DEEP_NAP_ENTER (R428). -/
def execDeepNapEnter (who : Requester) (part : Nat) (v : Word64) (s : State) : Host.Outcome State Fault Refusal :=
  State.done (s.partPwr who part v)
/-- DEEP_NAP_EXIT (R428). -/
def execDeepNapExit (who : Requester) (part : Nat) (v : Word64) (s : State) : Host.Outcome State Fault Refusal :=
  State.done (s.partPwr who part v)
/-- DEEP_NAP_ENTRY_DONE (R428). -/
def execDeepNapEntryDone (part : Nat) (s : State) : Host.Outcome State Fault Refusal := State.done (deepNapEntryDone s part)
/-- DEEP_NAP_WAKE_DONE (R426). -/
def execDeepNapWakeDone (part : Nat) (s : State) : Host.Outcome State Fault Refusal := State.done (deepNapWakeDone s part)
/-- BLOCK_HOLD_ENTRY_DONE (R429). -/
def execBlockHoldEntryDone (s : State) : Host.Outcome State Fault Refusal := State.done (blockHoldEntryDone s)
/-- BLOCK_HOLD_EXIT_DONE (R429). -/
def execBlockHoldExitDone (s : State) : Host.Outcome State Fault Refusal := State.done (blockHoldExitDone s)
/-- PF_D3HOT (R430). -/
def execPfD3hot (port : Nat) (s : State) : Host.Outcome State Fault Refusal := State.done (pfD3hot s port)
/-- PF_D0 (R430). -/
def execPfD0 (port : Nat) (s : State) : Host.Outcome State Fault Refusal := State.done (pfD0 s port)

end Sys2Proof.Machine
end

