-- ==== Sys2Proof/Machine/RvFloat.lean ====
section
/-!
DEFINITION. Single-precision arithmetic of the tidy core's F extension (R180; the family's ISA, log 35): IEEE 754 operations on
words, with the five RISC-V rounding modes and the flags of fcsr, which are apart from the arithmetic flags of R124.
-/
namespace Sys2Proof.Machine

open Sys2Proof

/-- fcsr flags: inexact, underflow, overflow, divide by zero, invalid. -/
def rvNX : Nat := 1
/-- Underflow. -/
def rvUF : Nat := 2
/-- Overflow. -/
def rvOF : Nat := 4
/-- Divide by zero. -/
def rvDZ : Nat := 8
/-- Invalid. -/
def rvNV : Nat := 16

/-- A result word and the flags it raises. -/
abbrev RvF := Nat × Nat

/-- The canonical NaN. -/
def rvNaN : Nat := 0x7FC00000

/-- A signalling NaN. -/
def rvSNaN (w : Nat) : Bool := (f32 w).isNan && !w.testBit 22

/-- `n / d` rounded to a whole number in a RISC-V mode: 0 RNE, 1 RTZ, 2 RDN, 3 RUP, 4 RMM; and whether it changed. -/
def rvWhole (rm : Nat) (neg : Bool) (n d : Nat) : Nat × Bool :=
  let q := n / d
  let t := n % d
  let up := match rm with
    | 0 => decide (d < 2 * t) || (2 * t == d && q % 2 == 1)
    | 1 => false
    | 2 => neg && t != 0
    | 3 => !neg && t != 0
    | _ => decide (d ≤ 2 * t)
  (if up then q + 1 else q, t != 0)

/-- `n / d × 2^e` rounded to a multiple of 2^q. -/
def rvAt (rm : Nat) (neg : Bool) (n d : Nat) (e q : Int) : Nat × Bool :=
  rvWhole rm neg (n * 2 ^ (e - q).toNat) (d * 2 ^ (q - e).toNat)

/-- (−1)^neg × n / d × 2^e as a single-precision word; tininess is judged after rounding. -/
def rvRound (rm : Nat) (neg : Bool) (n d : Nat) (e : Int) : RvF :=
  if n = 0 then (if neg then 2 ^ 31 else 0, 0)
  else
    let l := ratLead n d + e
    let q := max l (-126) - 23
    let r := rvAt rm neg n d e q
    if decide (104 < q) || (q == 104 && r.1 == 2 ^ 24) then
      let big := match rm with | 0 => true | 1 => false | 2 => neg | 3 => !neg | _ => true
      ((if neg then 2 ^ 31 else 0) + (if big then 0x7F800000 else 0x7F7FFFFF), rvOF + rvNX)
    else
      let reached := l == -127 && (rvAt rm neg n d e (l - 23)).1 == 2 ^ 24
      let tiny := decide (l < -126) && !reached
      (toF32 (.fin neg r.1 q), if r.2 then (if tiny then rvUF + rvNX else rvNX) else 0)

/-- Round an exact value; a NaN is the canonical one. -/
def rvOf (rm : Nat) : Val → RvF
  | .nan => (rvNaN, 0)
  | .inf n => ((if n then 2 ^ 31 else 0) + 0x7F800000, 0)
  | .fin n m e => rvRound rm n m 1 e

/-- An exact sum with the sign IEEE 754 gives an exact zero. -/
def rvSum (rm : Nat) (a b : Val) : Val :=
  match (addX a b).1 with
  | .fin n 0 e => if a.isZero && b.isZero && a.isNeg == b.isNeg then .fin n 0 e else .fin (rm == 2) 0 e
  | v => v

/-- Sum. -/
def rvAdd (rm a b : Nat) : RvF :=
  let x := f32 a
  let y := f32 b
  let v := rvSum rm x y
  let r := rvOf rm v
  (r.1, r.2 ||| (if rvSNaN a || rvSNaN b || (v.isNan && !x.isNan && !y.isNan) then rvNV else 0))

/-- The word with its sign turned. -/
def rvNeg (a : Nat) : Nat := a ^^^ 2 ^ 31

/-- Product. -/
def rvMul (rm a b : Nat) : RvF :=
  let x := f32 a
  let y := f32 b
  let v := (mulX x y).1
  let r := rvOf rm v
  (r.1, r.2 ||| (if rvSNaN a || rvSNaN b || (v.isNan && !x.isNan && !y.isNan) then rvNV else 0))

/-- Fused a × b + c. -/
def rvFma (rm a b c : Nat) : RvF :=
  let x := f32 a
  let y := f32 b
  let z := f32 c
  let p := (mulX x y).1
  let v := rvSum rm p z
  let r := rvOf rm v
  let bad := rvSNaN a || rvSNaN b || rvSNaN c || (p.isNan && !x.isNan && !y.isNan) ||
    (v.isNan && !p.isNan && !z.isNan)
  (r.1, r.2 ||| (if bad then rvNV else 0))

/-- Quotient. -/
def rvDiv (rm a b : Nat) : RvF :=
  let x := f32 a
  let y := f32 b
  let s := x.isNeg != y.isNeg
  let sgn := if s then 2 ^ 31 else 0
  let nv := if rvSNaN a || rvSNaN b then rvNV else 0
  match x, y with
  | .nan, _ => (rvNaN, nv)
  | _, .nan => (rvNaN, nv)
  | .inf _, .inf _ => (rvNaN, rvNV)
  | .inf _, .fin _ _ _ => (sgn + 0x7F800000, 0)
  | .fin _ _ _, .inf _ => (sgn, 0)
  | .fin _ m e, .fin _ n f =>
    if n = 0 then (if m = 0 then (rvNaN, rvNV) else (sgn + 0x7F800000, rvDZ)) else rvRound rm s m n (e - f)

/-- Square root. -/
def rvSqrt (rm a : Nat) : RvF :=
  match f32 a with
  | .nan => (rvNaN, if rvSNaN a then rvNV else 0)
  | .inf n => if n then (rvNaN, rvNV) else (a, 0)
  | .fin n m e => if m = 0 then (a, 0) else if n then (rvNaN, rvNV) else rvOf rm (rootVal 40 m e)

/-- FMIN (false) and FMAX (true): a NaN gives way to a number, and −0 lies below +0. -/
def rvMinMax (mx : Bool) (a b : Nat) : RvF :=
  let x := f32 a
  let y := f32 b
  let nv := if rvSNaN a || rvSNaN b then rvNV else 0
  let less := x.lt y || (!y.lt x && x.isNeg && !y.isNeg)
  (if x.isNan && y.isNan then rvNaN else if x.isNan then b else if y.isNan then a else if less != mx then a else b, nv)

/-- FLE (0), FLT (1), FEQ (2). -/
def rvCmp (op a b : Nat) : RvF :=
  let x := f32 a
  let y := f32 b
  let nan := x.isNan || y.isNan
  let t := match op with
    | 0 => !nan && !y.lt x
    | 1 => !nan && x.lt y
    | _ => x.eqv y
  (if t then 1 else 0, if (nan && op != 2) || rvSNaN a || rvSNaN b then rvNV else 0)

/-- FCLASS. -/
def rvClass (a : Nat) : Nat :=
  match f32 a with
  | .nan => if rvSNaN a then 2 ^ 8 else 2 ^ 9
  | .inf n => if n then 1 else 2 ^ 7
  | .fin n m _ => if m = 0 then (if n then 2 ^ 3 else 2 ^ 4) else if m < 2 ^ 23 then (if n then 2 ^ 2 else 2 ^ 5)
      else if n then 2 else 2 ^ 6

/-- Conversion to an integer of `bits` bits: the value, and the flags; a value out of range saturates and is invalid. -/
def rvToInt (rm : Nat) (signed : Bool) (bits a : Nat) : Int × Nat :=
  let hi : Int := if signed then 2 ^ (bits - 1) - 1 else 2 ^ bits - 1
  let lo : Int := if signed then -(2 ^ (bits - 1)) else 0
  match f32 a with
  | .nan => (hi, rvNV)
  | .inf n => (if n then lo else hi, rvNV)
  | .fin n m e =>
    let r := rvAt rm n m 1 e 0
    let v : Int := if n then -(r.1 : Int) else r.1
    if v < lo then (lo, rvNV) else if hi < v then (hi, rvNV) else (v, if r.2 then rvNX else 0)

/-- Conversion of an integer to a single-precision word. -/
def rvOfInt (rm : Nat) (x : Int) : RvF := rvRound rm (decide (x < 0)) x.natAbs 1 0

end Sys2Proof.Machine
end

