-- ==== Sys2Proof/Machine/Rv.lean ====
section
/-!
DEFINITION. The RV64IMAFC instruction set of the tidy core as the family defines it (R180, log 35): compressed instructions
expanded to 32-bit ones, immediates, and integer arithmetic.
-/
namespace Sys2Proof.Machine

open Sys2Proof

/-- Bits [hi:lo] of an instruction. -/
def ib (w hi lo : Nat) : Nat := w / 2 ^ lo % 2 ^ (hi + 1 - lo)

/-- A signed number as a 64-bit word. -/
def w64 (x : Int) : Word64 := BitVec.ofInt 64 x

/-- The low 32 bits of a word, sign-extended. -/
def sx32 (x : Nat) : Word64 := w64 (sext 32 (x % 2 ^ 32))

/-- I-type immediate. -/
def immI (w : Nat) : Int := sext 12 (ib w 31 20)
/-- S-type immediate. -/
def immS (w : Nat) : Int := sext 12 (ib w 31 25 * 32 + ib w 11 7)
/-- B-type immediate. -/
def immB (w : Nat) : Int := sext 13 (ib w 31 31 * 4096 + ib w 7 7 * 2048 + ib w 30 25 * 32 + ib w 11 8 * 2)
/-- U-type immediate. -/
def immU (w : Nat) : Int := sext 32 (ib w 31 12 * 4096)
/-- J-type immediate. -/
def immJ (w : Nat) : Int := sext 21 (ib w 31 31 * 2 ^ 20 + ib w 19 12 * 4096 + ib w 20 20 * 2048 + ib w 30 21 * 2)

/-! ### Building instructions -/

/-- R-type. -/
def mkR (f7 rs2 rs1 f3 rd op : Nat) : Nat := f7 * 2 ^ 25 + rs2 * 2 ^ 20 + rs1 * 2 ^ 15 + f3 * 2 ^ 12 + rd * 2 ^ 7 + op
/-- I-type, from a 12-bit immediate. -/
def mkI (imm rs1 f3 rd op : Nat) : Nat := imm % 4096 * 2 ^ 20 + rs1 * 2 ^ 15 + f3 * 2 ^ 12 + rd * 2 ^ 7 + op
/-- S-type. -/
def mkS (imm rs2 rs1 f3 op : Nat) : Nat :=
  imm / 32 % 128 * 2 ^ 25 + rs2 * 2 ^ 20 + rs1 * 2 ^ 15 + f3 * 2 ^ 12 + imm % 32 * 2 ^ 7 + op
/-- B-type, from a 13-bit displacement. -/
def mkB (d rs2 rs1 f3 : Nat) : Nat :=
  d / 4096 % 2 * 2 ^ 31 + d / 32 % 64 * 2 ^ 25 + rs2 * 2 ^ 20 + rs1 * 2 ^ 15 + f3 * 2 ^ 12 + d / 2 % 16 * 2 ^ 8 +
    d / 2048 % 2 * 2 ^ 7 + 0x63
/-- J-type, from a 21-bit displacement. -/
def mkJ (d rd : Nat) : Nat :=
  d / 2 ^ 20 % 2 * 2 ^ 31 + d / 2 % 1024 * 2 ^ 21 + d / 2048 % 2 * 2 ^ 20 + d / 4096 % 256 * 2 ^ 12 + rd * 2 ^ 7 + 0x6F

/-- A signed value as its low n bits. -/
def low (n : Nat) (x : Int) : Nat := twos n x

/-! ### The C extension -/

/-- Quadrant 0. -/
def expand0 (h : Nat) : Option Nat :=
  let r2 := ib h 4 2 + 8
  let r1 := ib h 9 7 + 8
  let w := ib h 5 5 * 64 + ib h 12 10 * 8 + ib h 6 6 * 4
  let d := ib h 6 5 * 64 + ib h 12 10 * 8
  match ib h 15 13 with
  | 0 =>
    let imm := ib h 10 7 * 64 + ib h 12 11 * 16 + ib h 5 5 * 8 + ib h 6 6 * 4
    if imm = 0 then none else some (mkI imm 2 0 r2 0x13)
  | 2 => some (mkI w r1 2 r2 0x03)
  | 3 => some (mkI d r1 3 r2 0x03)
  | 6 => some (mkS w r2 r1 2 0x23)
  | 7 => some (mkS d r2 r1 3 0x23)
  | _ => none

/-- The arithmetic group of quadrant 1. -/
def expandAlu (h : Nat) : Option Nat :=
  let r1 := ib h 9 7 + 8
  let r2 := ib h 4 2 + 8
  let sh := ib h 12 12 * 32 + ib h 6 2
  match ib h 11 10 with
  | 0 => some (mkI sh r1 5 r1 0x13)
  | 1 => some (mkI (1024 + sh) r1 5 r1 0x13)
  | 2 => some (mkI (low 12 (sext 6 sh)) r1 7 r1 0x13)
  | _ => match ib h 12 12, ib h 6 5 with
    | 0, 0 => some (mkR 32 r2 r1 0 r1 0x33)
    | 0, 1 => some (mkR 0 r2 r1 4 r1 0x33)
    | 0, 2 => some (mkR 0 r2 r1 6 r1 0x33)
    | 0, _ => some (mkR 0 r2 r1 7 r1 0x33)
    | _, 0 => some (mkR 32 r2 r1 0 r1 0x3B)
    | _, 1 => some (mkR 0 r2 r1 0 r1 0x3B)
    | _, _ => none

/-- Quadrant 1. -/
def expand1 (h : Nat) : Option Nat :=
  let rd := ib h 11 7
  let imm := low 12 (sext 6 (ib h 12 12 * 32 + ib h 6 2))
  let j := low 21 (sext 12 (ib h 12 12 * 2048 + ib h 8 8 * 1024 + ib h 10 9 * 256 + ib h 6 6 * 128 + ib h 7 7 * 64 +
    ib h 2 2 * 32 + ib h 11 11 * 16 + ib h 5 3 * 2))
  let b := low 13 (sext 9 (ib h 12 12 * 256 + ib h 6 5 * 64 + ib h 2 2 * 32 + ib h 11 10 * 8 + ib h 4 3 * 2))
  match ib h 15 13 with
  | 0 => some (mkI imm rd 0 rd 0x13)
  | 1 => if rd = 0 then none else some (mkI imm rd 0 rd 0x1B)
  | 2 => some (mkI imm 0 0 rd 0x13)
  | 3 =>
    if rd = 2 then
      let k := low 12 (sext 10 (ib h 12 12 * 512 + ib h 4 3 * 128 + ib h 5 5 * 64 + ib h 2 2 * 32 + ib h 6 6 * 16))
      if k = 0 then none else some (mkI k 2 0 2 0x13)
    else
      let k := low 20 (sext 6 (ib h 12 12 * 32 + ib h 6 2))
      if k = 0 then none else some (k * 2 ^ 12 + rd * 2 ^ 7 + 0x37)
  | 4 => expandAlu h
  | 5 => some (mkJ j 0)
  | 6 => some (mkB b 0 (ib h 9 7 + 8) 0)
  | _ => some (mkB b 0 (ib h 9 7 + 8) 1)

/-- Quadrant 2. -/
def expand2 (h : Nat) : Option Nat :=
  let rd := ib h 11 7
  let r2 := ib h 6 2
  match ib h 15 13 with
  | 0 => some (mkI (ib h 12 12 * 32 + r2) rd 1 rd 0x13)
  | 2 => if rd = 0 then none else some (mkI (ib h 3 2 * 64 + ib h 12 12 * 32 + ib h 6 4 * 4) 2 2 rd 0x03)
  | 3 => if rd = 0 then none else some (mkI (ib h 4 2 * 64 + ib h 12 12 * 32 + ib h 6 5 * 8) 2 3 rd 0x03)
  | 4 =>
    if ib h 12 12 = 0 then
      if r2 = 0 then (if rd = 0 then none else some (mkI 0 rd 0 0 0x67)) else some (mkR 0 r2 0 0 rd 0x33)
    else if r2 = 0 then (if rd = 0 then some 0x00100073 else some (mkI 0 rd 0 1 0x67))
    else some (mkR 0 r2 rd 0 rd 0x33)
  | 6 => some (mkS (ib h 8 7 * 64 + ib h 12 9 * 4) r2 2 2 0x23)
  | 7 => some (mkS (ib h 9 7 * 64 + ib h 12 10 * 8) r2 2 3 0x23)
  | _ => none

/-- A 16-bit instruction as the 32-bit one it stands for; none when it is reserved or of an extension the core has not. -/
def expandC (h : Nat) : Option Nat :=
  match h % 4 with
  | 0 => expand0 h
  | 1 => expand1 h
  | _ => expand2 h

/-! ### Integer arithmetic -/

/-- Signed quotient: by zero −1; rounds toward zero; the overflowing quotient is the dividend. -/
def sdiv (n : Nat) (a b : Nat) : Int := if b % 2 ^ n = 0 then -1 else Int.tdiv (sext n a) (sext n b)
/-- Signed remainder: by zero the dividend. -/
def srem (n : Nat) (a b : Nat) : Int := if b % 2 ^ n = 0 then sext n a else Int.tmod (sext n a) (sext n b)

/-- OP: the register-register operations of I and M, by funct7 and funct3. -/
def rvOp (f7 f3 : Nat) (a b : Word64) : Option Word64 :=
  let x := a.toNat
  let y := b.toNat
  let s := sext 64 x
  let t := sext 64 y
  let sh := y % 64
  match f7, f3 with
  | 0, 0 => some (a + b)
  | 32, 0 => some (a - b)
  | 0, 1 => some (a <<< sh)
  | 0, 2 => some (if s < t then 1 else 0)
  | 0, 3 => some (if x < y then 1 else 0)
  | 0, 4 => some (a ^^^ b)
  | 0, 5 => some (a >>> sh)
  | 32, 5 => some (a.sshiftRight sh)
  | 0, 6 => some (a ||| b)
  | 0, 7 => some (a &&& b)
  | 1, 0 => some (a * b)
  | 1, 1 => some (w64 (s * t / 2 ^ 64))
  | 1, 2 => some (w64 (s * (y : Int) / 2 ^ 64))
  | 1, 3 => some (BitVec.ofNat 64 (x * y / 2 ^ 64))
  | 1, 4 => some (w64 (sdiv 64 x y))
  | 1, 5 => some (if y = 0 then w64 (-1) else BitVec.ofNat 64 (x / y))
  | 1, 6 => some (w64 (srem 64 x y))
  | 1, 7 => some (if y = 0 then a else BitVec.ofNat 64 (x % y))
  | _, _ => none

/-- OP-32: the word operations of I and M. -/
def rvOpW (f7 f3 : Nat) (a b : Word64) : Option Word64 :=
  let x := a.toNat % 2 ^ 32
  let y := b.toNat % 2 ^ 32
  let sh := y % 32
  match f7, f3 with
  | 0, 0 => some (sx32 (x + y))
  | 32, 0 => some (sx32 (x + 2 ^ 32 - y))
  | 0, 1 => some (sx32 (x * 2 ^ sh))
  | 0, 5 => some (sx32 (x / 2 ^ sh))
  | 32, 5 => some (w64 (sext 32 x / 2 ^ sh))
  | 1, 0 => some (sx32 (x * y))
  | 1, 4 => some (sx32 (twos 32 (sdiv 32 x y)))
  | 1, 5 => some (if y = 0 then w64 (-1) else sx32 (x / y))
  | 1, 6 => some (sx32 (twos 32 (srem 32 x y)))
  | 1, 7 => some (if y = 0 then sx32 x else sx32 (x % y))
  | _, _ => none

/-- OP-IMM. -/
def rvOpImm (w : Nat) (a : Word64) : Option Word64 :=
  let f3 := ib w 14 12
  if f3 = 1 then (if ib w 31 26 = 0 then some (a <<< ib w 25 20) else none)
  else if f3 = 5 then
    (if ib w 31 26 = 0 then some (a >>> ib w 25 20)
     else if ib w 31 26 = 16 then some (a.sshiftRight (ib w 25 20)) else none)
  else rvOp 0 f3 a (w64 (immI w))

/-- OP-IMM-32. -/
def rvOpImmW (w : Nat) (a : Word64) : Option Word64 :=
  match ib w 14 12 with
  | 0 => rvOpW 0 0 a (w64 (immI w))
  | 1 => if ib w 31 25 = 0 then rvOpW 0 1 a (BitVec.ofNat 64 (ib w 24 20)) else none
  | 5 => if ib w 31 25 = 0 ∨ ib w 31 25 = 32 then rvOpW (ib w 31 25) 5 a (BitVec.ofNat 64 (ib w 24 20)) else none
  | _ => none

/-- A branch is taken; none for a reserved funct3. -/
def rvBranch (f3 : Nat) (a b : Word64) : Option Bool :=
  let s := sext 64 a.toNat
  let t := sext 64 b.toNat
  match f3 with
  | 0 => some (a == b)
  | 1 => some (a != b)
  | 4 => some (decide (s < t))
  | 5 => some (decide (t ≤ s))
  | 6 => some (decide (a.toNat < b.toNat))
  | 7 => some (decide (b.toNat ≤ a.toNat))
  | _ => none

/-- The word an AMO stores, on `n` bits, by funct5; none when reserved. -/
def rvAmo (f5 n old v : Nat) : Option Nat :=
  let s := sext n old
  let t := sext n v
  match f5 with
  | 0 => some ((old + v) % 2 ^ n)
  | 1 => some v
  | 4 => some (old ^^^ v)
  | 8 => some (old ||| v)
  | 12 => some (old &&& v)
  | 16 => some (if t < s then v else old)
  | 20 => some (if s < t then v else old)
  | 24 => some (min old v)
  | 28 => some (max old v)
  | _ => none

end Sys2Proof.Machine
end

