-- ==== Sys2Proof/Machine/Tidy.lean ====
section
/-!
DEFINITION. The tidy core (R180 to R184): its address map, access faults, CSRs, direct issue, watchdog, and one instruction of
RV64IMAFC in machine mode (the ISA itself is the family's, log 35).
-/
namespace Sys2Proof.Machine

open Sys2Proof

/-- CORE page of a core. -/
def corePage (n : Nat) : Nat := page 7 n

/-- STATE of CORE_TC_STATUS: 0 stopped, 1 running, 2 in WFI, 3 halted. -/
def State.tcState (s : State) (n : Nat) : Nat := s.fld (corePage n) Fld.CORE_TC_STATUS_STATE

/-- Context whose tidy program a core runs: the one resident in its partition (R180). -/
def State.tcCtx? (s : State) (n : Nat) : Option (Nat × Nat) :=
  (s.clusterPart? (n / 8)).bind (fun p => (s.resident? p).map (fun c => (p, c)))

/-- A tidy core's instructions run: a context is resident, its units are awake, and the core is in service (R180, R446). -/
def State.tcRuns (s : State) (n : Nat) : Bool :=
  match s.tcCtx? n with
  | none => false
  | some (p, _) => !s.partAsleep p && !s.trimmed 7 n && !s.trimmed 6 (n / 8) &&
      !s.shape.engineResets.contains (corePage n) && !s.shape.engineResets.contains (page 6 (n / 8))

/-- The machine external interrupt is asserted: a TC_IP bit with its enable set (Table 7.8). -/
def Tc.meip (t : Tc) : Bool := (t.ip &&& t.ie) != 0

/-! ### CSRs written from Table 7.8 -/

/-- Set a TC_IP bit. -/
def State.tcRaise (s : State) (n bit : Nat) : State := s.modTc n (fun t => { t with ip := t.ip ||| 2 ^ bit })

/-- A write of TC_ISSUE (R181): a full queue stalls and nothing changes; a ring outside the partition, of another cluster or of
another context drops the command. -/
def tcIssue (s : State) (n addr : Nat) : State :=
  let t := s.tc n
  if 8 ≤ t.queue.length then s
  else
    let r := t.issueRing
    let ok : Bool := match s.tcCtx? n with
      | some (p, c) => s.shape.live.ownsRing p r && (s.ring r).ccp == n / 8 && (s.ring r).context == c
      | none => false
    if !ok then (s.tcRaise n 3).refuse (corePage n) 0x058E
    else if addr % 64 = 0 ∧ addr < 65536 then
      let b := s.rds (ldmKey n addr) 64
      s.modTc n (fun t => { t with queue := t.queue ++ [(r, b)], issued := (t.issued + 1) % 2 ^ 32 })
    else
      let b := (List.range 64).map (fun i => BitVec.ofNat 8 (Config.free (s.draws + i)).toNat)
      let s := { s with draws := s.draws + 64 }
      s.modTc n (fun t => { t with queue := t.queue ++ [(r, b)], issued := (t.issued + 1) % 2 ^ 32 })

/-- A write of TC_STICKY_CLR (R126, R181): bit n set clears CORE_ARITH_STICKY bit n. -/
def tcStickyClr (s : State) (n : Nat) (v : Word64) : State :=
  let k := corePage n + Reg.CORE_ARITH_STICKY
  s.setReg k (s.reg k &&& ~~~(v &&& 0x3F))

/-- A write of TC_WDOG (R181): the period, and a reload. -/
def tcWdogWrite (s : State) (n : Nat) (v : Word64) : State :=
  s.modTc n (fun t => { t with wdog := v.toNat, warned := false })

/-- The record of a tidy core's error: contained, of its core, partition and context (R180, R183, Table 19.9). -/
def State.tcRecord (s : State) (n : Nat) (code : Code) : State :=
  let pc := s.tcCtx? n
  s.recordError { source := srcOf (corePage n), cls := 1, code := code, part := pc.map (fun x => x.1),
                  ctx := pc.map (fun x => x.2), d1 := 0xFF00 }

/-- The watchdog expires (R183): a warning, and at the second expiry with no write of TC_WDOG between, a halt. -/
def tcWatchdogExpiry (s : State) (n : Nat) : State :=
  let t := s.tc n
  if t.wdog = 0 ∨ (s.tcState n ≠ 1 ∧ s.tcState n ≠ 2) then s
  else if t.warned then
    ((((s.setFld (corePage n) Fld.CORE_TC_STATUS_STATE 3).setFld (corePage n) Fld.CORE_TC_STATUS_WDOG 1).raise (corePage n)
      16).tcRecord n 0x0592)
  else (s.tcRaise n 2).modTc n (fun t => { t with warned := true })

/-- A write of CORE_TC_CTRL (Table 7.9): RUN = 1 starts a core that does not run at CORE_TC_BOOT; RUN = 0 halts it. -/
def tcRunWrite (s : State) (who : Requester) (n : Nat) (v : Word64) : State :=
  let pg := corePage n
  s.letIn who pg (fun s =>
    let run := getBits v 0 0
    let st := s.tcState n
    let s := s.setFld pg Fld.CORE_TC_CTRL_RUN run
    if run = 0 then (if st = 3 then s else s.setFld pg Fld.CORE_TC_STATUS_STATE 0)
    else if st = 1 ∨ st = 2 then s
    else
      let boot := s.fld pg Fld.CORE_TC_BOOT_ADDR
      let s := (s.setFld pg Fld.CORE_TC_STATUS_STATE 1).setFld pg Fld.CORE_TC_STATUS_WDOG 0
      s.modTc n (fun t => { t with pc := BitVec.ofNat 64 (boot / 2 * 2), warned := false }))

/-- A write of CORE_TC_MBOX sets HOST_MSG (Table 7.9). -/
def tcMboxWrite (s : State) (who : Requester) (n : Nat) (v : Word64) : State :=
  s.letIn who (corePage n) (fun s => (s.setReg (corePage n + Reg.CORE_TC_MBOX) v).tcRaise n 4)

/-! ### The address map (Table 7.7) -/

/-- Base of the local data memory. -/
def tcLdm : Nat := 2 ^ 63
/-- Base of the doorbell pages. -/
def tcBells : Nat := 2 ^ 63 + 0x1000000
/-- Base of the core's own page. -/
def tcOwn : Nat := 2 ^ 63 + 0x10000000

/-- Memory keys of an access to device memory or LDM; none when a byte lies outside the partition's resources or the map. -/
def State.tcKeys? (s : State) (n a size : Nat) : Option (List Nat) :=
  if a + size ≤ 2 ^ 48 then
    match s.clusterPart? (n / 8) with
    | none => none
    | some p => (List.range size).mapM (fun i => match s.xlate (some p) (a + i) with | .ok k => some k | .error _ => none)
  else if tcLdm ≤ a ∧ a + size ≤ tcLdm + 65536 then some ((List.range size).map (fun i => ldmKey n (a - tcLdm + i)))
  else none

/-- Bytes at memory keys, little-endian; what uncorrectable data reads as is a free value, and is recorded (R483). -/
def State.tcRdKeys (s : State) (n : Nat) (ks : List Nat) : State × Nat :=
  match ks.find? (fun k => s.bad.contains k) with
  | none => (s, leNat (ks.map s.rd))
  | some k =>
    let s := s.recordBad k 1 (s.clusterPart? (n / 8)) none
    let (v, s) := s.draw
    (s, v.toNat % 2 ^ (8 * ks.length))

/-- Write the low bytes of a number at memory keys. -/
def State.tcWrKeys (s : State) (ks : List Nat) (v : Nat) : State :=
  (ks.zip (leBytes ks.length v)).foldl (fun s x => s.wr x.1 x.2) s

/-- A read by a tidy core: none is an access fault. -/
def State.tcRead? (s : State) (n a size : Nat) : Option (State × Nat) :=
  match s.tcKeys? n a size with
  | some ks => some (s.tcRdKeys n ks)
  | none =>
    let part (w : Nat) : Nat := w / 2 ^ (8 * (a % 8)) % 2 ^ (8 * size)
    if tcBells ≤ a ∧ a + size ≤ tcBells + 0x4000000 then
      let r := (a - tcBells) / 4096
      if s.ringPart? r = s.clusterPart? (n / 8) ∧ (s.ringPart? r).isSome then some (s, part (s.bellWord r (a % 4096 / 8 * 8)))
      else none
    else if tcOwn ≤ a ∧ a + size ≤ tcOwn + 4096 then some (s, part (s.readReg (corePage n) (a % 4096 / 8 * 8)).toNat)
    else none

/-- A store by a tidy core: none is an access fault.  Doorbell registers take aligned 32-bit and 64-bit stores; stores to the
core's own page are ignored (Table 7.7). -/
def State.tcWrite? (s : State) (n a size v : Nat) : Option State :=
  match s.tcKeys? n a size with
  | some ks => some (s.tcWrKeys ks v).observe
  | none =>
    if tcBells ≤ a ∧ a + size ≤ tcBells + 0x4000000 then
      let r := (a - tcBells) / 4096
      if s.ringPart? r = s.clusterPart? (n / 8) ∧ (s.ringPart? r).isSome then
        if 4 ≤ size ∧ a % 4096 = 0 then some (dbTailWrite s (.tidy n) r (BitVec.ofNat 64 v))
        else if 4 ≤ size ∧ a % 4096 = 0x10 then some (dbCqHeadWrite s (.tidy n) r (BitVec.ofNat 64 v))
        else some s
      else none
    else if tcOwn ≤ a ∧ a + size ≤ tcOwn + 4096 then some s
    else none

/-! ### Registers, traps -/

/-- An integer register. -/
def Tc.reg (t : Tc) (r : Nat) : Word64 := if r = 0 then 0 else t.x.getD (r - 1) 0
/-- Set an integer register; x0 discards it. -/
def Tc.setReg (t : Tc) (r : Nat) (v : Word64) : Tc := if r = 0 then t else { t with x := t.x.set (r - 1) v }
/-- A floating-point register. -/
def Tc.freg (t : Tc) (r : Nat) : Nat := (t.f.getD r 0).toNat % 2 ^ 32
/-- Set a floating-point register; the F state becomes dirty. -/
def Tc.setFreg (t : Tc) (r v : Nat) : Tc :=
  { t with f := t.f.set r (BitVec.ofNat 64 (v % 2 ^ 32)), mstatus := t.mstatus ||| 0x6000 }
/-- Accrue floating-point flags. -/
def Tc.accrue (t : Tc) (fl : Nat) : Tc :=
  if fl = 0 then t else { t with fcsr := t.fcsr ||| fl % 32, mstatus := t.mstatus ||| 0x6000 }
/-- mstatus.MIE. -/
def Tc.mieOn (t : Tc) : Bool := getBits t.mstatus 3 3 == 1

/-- An exception or interrupt of a tidy core: it enters machine mode's handler (family). -/
def Tc.trap (t : Tc) (cause tval : Word64) (intr : Bool) : Tc :=
  let base := t.mtvec &&& ~~~(3 : Word64)
  let to_ := if intr && getBits t.mtvec 1 0 == 1 then base + 4 * (cause &&& 0xFF) else base
  { t with mepc := t.pc, mcause := if intr then cause ||| 0x8000000000000000 else cause, mtval := tval,
           mstatus := setBits (setBits t.mstatus 7 7 (getBits t.mstatus 3 3)) 3 3 0, pc := to_, resv := t.resv }

/-- An exception: the access faults, causes 1, 5 and 7, are recorded on the CORE page and as a contained error (R180, R184). -/
def State.tcTrap (s : State) (n cause tval : Nat) : State :=
  let t := s.tc n
  let s := s.modTc n (fun t => t.trap (BitVec.ofNat 64 cause) (BitVec.ofNat 64 tval) false)
  if cause = 1 ∨ cause = 5 ∨ cause = 7 then
    let pg := corePage n
    let s := ((s.setFld pg Fld.CORE_TC_STATUS_ACC_FAULT 1).setFld pg Fld.CORE_TC_STATUS_MCAUSE cause).setReg
      (pg + Reg.CORE_TC_FAULT_PC) t.pc
    (s.raise pg 17).tcRecord n 0x0591
  else s

/-- An instruction retires with a change of its core and the next pc. -/
def State.tcRetire (s : State) (n : Nat) (pc : Word64) (f : Tc → Tc) : State :=
  s.modTc n (fun t => f { t with pc := pc, minstret := t.minstret + 1 })

/-! ### CSR access -/

/-- The mstatus bits software writes: MIE, MPIE and FS. -/
def mstatusMask : Word64 := 0x6088

/-- A CSR's value, none when there is no such CSR; TC_ISSUE and TC_STICKY_CLR, which are write-only, read as a free value. -/
def State.csrRead? (s : State) (n csr : Nat) : Option (State × Word64) :=
  let t := s.tc n
  let fs := getBits t.mstatus 14 13
  let ok (v : Word64) : Option (State × Word64) := some (s, v)
  let nat (v : Nat) : Option (State × Word64) := some (s, BitVec.ofNat 64 v)
  match csr with
  | 0x001 => if fs = 0 then none else nat (t.fcsr % 32)
  | 0x002 => if fs = 0 then none else nat (t.fcsr / 32 % 8)
  | 0x003 => if fs = 0 then none else nat (t.fcsr % 256)
  | 0x300 => ok (setBits t.mstatus 63 63 (if fs = 3 then 1 else 0))
  | 0x301 => ok 0x8000000000001125
  | 0x304 => ok t.mie
  | 0x305 => ok t.mtvec
  | 0x320 => ok 0
  | 0x340 => ok t.mscratch
  | 0x341 => ok t.mepc
  | 0x342 => ok t.mcause
  | 0x343 => ok t.mtval
  | 0x344 => ok (if t.meip then 0x800 else 0)
  | 0x7C0 => some (s.draw.2, s.draw.1)
  | 0x7C1 => nat t.issueRing
  | 0x7C2 => some (s.draw.2, s.draw.1)
  | 0x7C4 => nat t.ie
  | 0x7C5 => nat t.ip
  | 0x7C6 => nat t.wdog
  | 0xB00 => ok t.mcycle
  | 0xB02 => ok t.minstret
  | 0xF11 | 0xF12 | 0xF13 | 0xF14 => ok (Config.tcId csr n)
  | 0xF15 => ok 0
  | 0xFD4 => ok (s.reg (corePage n + Reg.CORE_ARITH_STICKY) &&& 0x3F)
  | 0xFD5 => nat s.strokeNo
  | 0xFD6 => nat (t.queue.length + t.issued * 2 ^ 32)
  | _ =>
    if 0xFC0 ≤ csr ∧ csr ≤ 0xFCF then ok (s.reg (corePage n + 0x280 + 8 * (csr - 0xFC0)))
    else if 0xFD0 ≤ csr ∧ csr ≤ 0xFD3 then
      let g (j : Nat) : Nat := t.gens.getD (4 * (csr - 0xFD0) + j) 0
      nat (g 0 + g 1 * 2 ^ 16 + g 2 * 2 ^ 32 + g 3 * 2 ^ 48)
    else if (0x323 ≤ csr ∧ csr ≤ 0x33F) ∨ (0xB03 ≤ csr ∧ csr ≤ 0xB1F) then ok 0
    else none

/-- Write a CSR that is not read-only; fields that do not exist keep their value. -/
def State.csrWrite (s : State) (n csr : Nat) (v : Word64) : State :=
  let fdirty (f : Tc → Tc) : State := s.modTc n (fun t => { f t with mstatus := t.mstatus ||| 0x6000 })
  match csr with
  | 0x001 => fdirty (fun t => { t with fcsr := t.fcsr / 32 * 32 + v.toNat % 32 })
  | 0x002 => fdirty (fun t => { t with fcsr := t.fcsr % 32 + v.toNat % 8 * 32 })
  | 0x003 => fdirty (fun t => { t with fcsr := v.toNat % 256 })
  | 0x300 => s.modTc n (fun t => { t with mstatus := (t.mstatus &&& ~~~mstatusMask) ||| (v &&& mstatusMask) })
  | 0x304 => s.modTc n (fun t => { t with mie := v &&& 0x888 })
  | 0x305 => s.modTc n (fun t => { t with mtvec := if getBits v 1 1 = 1 then (v &&& ~~~(3 : Word64)) ||| (t.mtvec &&& 3) else v })
  | 0x340 => s.modTc n (fun t => { t with mscratch := v })
  | 0x341 => s.modTc n (fun t => { t with mepc := v &&& ~~~(1 : Word64) })
  | 0x342 => s.modTc n (fun t => { t with mcause := v })
  | 0x343 => s.modTc n (fun t => { t with mtval := v })
  | 0x7C0 => tcIssue s n (v.toNat % 65536)
  | 0x7C1 => s.modTc n (fun t => { t with issueRing := v.toNat % 2 ^ 14 })
  | 0x7C2 => tcStickyClr s n v
  | 0x7C4 => s.modTc n (fun t => { t with ie := v.toNat % 64 })
  | 0x7C5 => s.modTc n (fun t => { t with ip := t.ip &&& (63 - v.toNat % 64) })
  | 0x7C6 => tcWdogWrite s n v
  | 0xB00 => s.modTc n (fun t => { t with mcycle := v })
  | 0xB02 => s.modTc n (fun t => { t with minstret := v })
  | _ => s

/-! ### Instructions -/

/-- An illegal instruction (cause 2); `bits` are its bits as fetched. -/
def State.tcIllegal (s : State) (n bits : Nat) : State := s.tcTrap n 2 bits

/-- A CSR instruction: funct3 1 to 3 with a register, 5 to 7 with an immediate. -/
def State.tcCsr (s : State) (n w bits len : Nat) : State :=
  let t := s.tc n
  let csr := ib w 31 20
  let f3 := ib w 14 12
  let rd := ib w 11 7
  let rs1 := ib w 19 15
  let src : Word64 := if 4 < f3 then BitVec.ofNat 64 rs1 else t.reg rs1
  let writes := f3 % 4 == 1 || rs1 != 0
  let next := t.pc + BitVec.ofNat 64 len
  if writes ∧ ib w 31 30 = 3 then s.tcIllegal n bits
  else if csr = 0x7C0 ∧ writes ∧ 8 ≤ t.queue.length then s
  else if (f3 % 4 = 1 ∧ rd = 0) then
    (match s.csrRead? n csr with
    | none => s.tcIllegal n bits
    | some _ => (s.tcRetire n next (fun t => t)).csrWrite n csr src)
  else match s.csrRead? n csr with
    | none => s.tcIllegal n bits
    | some (s, old) =>
      let s := s.tcRetire n next (fun t => t.setReg rd old)
      if writes then s.csrWrite n csr (match f3 % 4 with | 1 => src | 2 => old ||| src | _ => old &&& ~~~src) else s

/-- ECALL, EBREAK, MRET, WFI. -/
def State.tcSystem (s : State) (n w bits len : Nat) : State :=
  let t := s.tc n
  let next := t.pc + BitVec.ofNat 64 len
  if ib w 14 12 ≠ 0 then (if ib w 14 12 = 4 then s.tcIllegal n bits else s.tcCsr n w bits len)
  else match w with
    | 0x00000073 => s.tcTrap n 11 0
    | 0x00100073 => s.tcTrap n 3 t.pc.toNat
    | 0x30200073 => s.tcRetire n t.mepc (fun t =>
        { t with mstatus := setBits (setBits t.mstatus 3 3 (getBits t.mstatus 7 7)) 7 7 1 })
    | 0x10500073 =>
      let s := s.tcRetire n next (fun t => t)
      if t.meip && getBits t.mie 11 11 == 1 then s else s.setFld (corePage n) Fld.CORE_TC_STATUS_STATE 2
    | _ => s.tcIllegal n bits

/-- A load into an integer register. -/
def State.tcLoad (s : State) (n w bits len : Nat) : State :=
  let t := s.tc n
  let f3 := ib w 14 12
  let a := (t.reg (ib w 19 15) + w64 (immI w)).toNat
  let size := 2 ^ (f3 % 4)
  if f3 = 7 then s.tcIllegal n bits
  else match s.tcRead? n a size with
    | none => s.tcTrap n 5 a
    | some (s, v) =>
      let x : Word64 := if f3 < 4 then w64 (sext (8 * size) v) else BitVec.ofNat 64 v
      s.tcRetire n (t.pc + BitVec.ofNat 64 len) (fun t => t.setReg (ib w 11 7) x)

/-- A store from an integer register. -/
def State.tcStore (s : State) (n w bits len : Nat) : State :=
  let t := s.tc n
  let f3 := ib w 14 12
  let a := (t.reg (ib w 19 15) + w64 (immS w)).toNat
  if 3 < f3 then s.tcIllegal n bits
  else match s.tcWrite? n a (2 ^ f3) (t.reg (ib w 24 20)).toNat with
    | none => s.tcTrap n 7 a
    | some s => s.tcRetire n (t.pc + BitVec.ofNat 64 len) (fun t => t)

/-- The A extension: LR and SC reach only LDM; AMOs reach device memory and LDM (R180). -/
def State.tcAtomic (s : State) (n w bits len : Nat) : State :=
  let t := s.tc n
  let f3 := ib w 14 12
  let f5 := ib w 31 27
  let rd := ib w 11 7
  let a := (t.reg (ib w 19 15)).toNat
  let v := (t.reg (ib w 24 20)).toNat
  let size := 2 ^ f3
  let next := t.pc + BitVec.ofNat 64 len
  let inLdm : Bool := decide (tcLdm ≤ a) && decide (a + size ≤ tcLdm + 65536)
  let sx (x : Nat) : Word64 := w64 (sext (8 * size) x)
  if f3 ≠ 2 ∧ f3 ≠ 3 then s.tcIllegal n bits
  else if f5 = 2 then
    (if ib w 24 20 ≠ 0 then s.tcIllegal n bits
     else if a % size ≠ 0 then s.tcTrap n 4 a
     else if !inLdm then s.tcTrap n 5 a
     else
      let r := s.tcRdKeys n ((List.range size).map (fun i => ldmKey n (a - tcLdm + i)))
      r.1.tcRetire n next (fun t => { t.setReg rd (sx r.2) with resv := some a }))
  else if f5 = 3 then
    (if a % size ≠ 0 then s.tcTrap n 6 a
     else if !inLdm then s.tcTrap n 7 a
     else if t.resv = some a then
      (s.tcWrKeys ((List.range size).map (fun i => ldmKey n (a - tcLdm + i))) v).tcRetire n next
        (fun t => { t.setReg rd 0 with resv := none })
     else s.tcRetire n next (fun t => { t.setReg rd 1 with resv := none }))
  else if (rvAmo f5 (8 * size) 0 0).isNone then s.tcIllegal n bits
  else if a % size ≠ 0 then s.tcTrap n 6 a
  else match s.tcKeys? n a size with
    | none => s.tcTrap n 7 a
    | some ks =>
      let r := s.tcRdKeys n ks
      let new := (rvAmo f5 (8 * size) r.2 (v % 2 ^ (8 * size))).getD 0
      (r.1.tcWrKeys ks new).observe.tcRetire n next (fun t => t.setReg rd (sx r.2))

/-- The rounding mode of a floating-point instruction: none when it is reserved. -/
def Tc.rm? (t : Tc) (f3 : Nat) : Option Nat :=
  let m := if f3 = 7 then t.fcsr / 32 % 8 else f3
  if m ≤ 4 then some m else none

/-- The OP-FP group: a result for a floating-point register (false) or an integer one (true), and its flags. -/
def Tc.fpOp (t : Tc) (w : Nat) : Option (Bool × Nat × Nat) :=
  let a := t.freg (ib w 19 15)
  let b := t.freg (ib w 24 20)
  let f3 := ib w 14 12
  let rs2 := ib w 24 20
  let sgn (x : Nat) : Nat := x / 2 ^ 31 % 2
  let mag := a % 2 ^ 31
  let fr (x : Option RvF) : Option (Bool × Nat × Nat) := x.map (fun r => (false, r.1, r.2))
  let x := (t.reg (ib w 19 15)).toNat
  match ib w 31 25 with
  | 0x00 => fr ((t.rm? f3).map (fun m => rvAdd m a b))
  | 0x04 => fr ((t.rm? f3).map (fun m => rvAdd m a (if (f32 b).isNan then b else rvNeg b)))
  | 0x08 => fr ((t.rm? f3).map (fun m => rvMul m a b))
  | 0x0C => fr ((t.rm? f3).map (fun m => rvDiv m a b))
  | 0x2C => if rs2 = 0 then fr ((t.rm? f3).map (fun m => rvSqrt m a)) else none
  | 0x10 => match f3 with
    | 0 => some (false, mag + sgn b * 2 ^ 31, 0)
    | 1 => some (false, mag + (1 - sgn b) * 2 ^ 31, 0)
    | 2 => some (false, mag + (sgn a + sgn b) % 2 * 2 ^ 31, 0)
    | _ => none
  | 0x14 => if f3 ≤ 1 then fr (some (rvMinMax (f3 == 1) a b)) else none
  | 0x50 => if f3 ≤ 2 then some (true, (rvCmp f3 a b).1, (rvCmp f3 a b).2) else none
  | 0x60 => if rs2 ≤ 3 then (t.rm? f3).map (fun m =>
      let r := rvToInt m (rs2 % 2 == 0) (if rs2 < 2 then 32 else 64) a
      (true, twos 64 (if rs2 = 1 then sext 32 (twos 32 r.1) else r.1), r.2)) else none
  | 0x68 => if rs2 ≤ 3 then fr ((t.rm? f3).map (fun m => rvOfInt m (match rs2 with
      | 0 => sext 32 (x % 2 ^ 32) | 1 => ((x % 2 ^ 32 : Nat) : Int) | 2 => sext 64 x | _ => (x : Int)))) else none
  | 0x70 => if rs2 ≠ 0 then none else if f3 = 0 then some (true, twos 64 (sext 32 a), 0)
      else if f3 = 1 then some (true, rvClass a, 0) else none
  | 0x78 => if rs2 = 0 ∧ f3 = 0 then some (false, x % 2 ^ 32, 0) else none
  | _ => none

/-- Floating-point computation, FMADD and its kin included. -/
def State.tcFp (s : State) (n w bits len : Nat) : State :=
  let t := s.tc n
  let next := t.pc + BitVec.ofNat 64 len
  let rd := ib w 11 7
  let res : Option (Bool × Nat × Nat) :=
    if getBits t.mstatus 14 13 = 0 then none
    else if ib w 6 0 = 0x53 then t.fpOp w
    else if ib w 26 25 ≠ 0 then none
    else
      let a := t.freg (ib w 19 15)
      let b := t.freg (ib w 24 20)
      let c := t.freg (ib w 31 27)
      let op := ib w 3 2
      let neg (x : Nat) : Nat := if (f32 x).isNan then x else rvNeg x
      (t.rm? (ib w 14 12)).map (fun m =>
        let r := rvFma m (if 2 ≤ op then neg a else a) b (if op = 1 ∨ op = 3 then neg c else c)
        (false, r.1, r.2))
  match res with
  | none => s.tcIllegal n bits
  | some (toInt, v, fl) =>
    s.tcRetire n next (fun t => (if toInt then t.setReg rd (BitVec.ofNat 64 v) else t.setFreg rd v).accrue fl)

/-- FLW and FSW. -/
def State.tcFpMem (s : State) (n w bits len : Nat) : State :=
  let t := s.tc n
  let next := t.pc + BitVec.ofNat 64 len
  let load := ib w 6 0 == 0x07
  let a := (t.reg (ib w 19 15) + w64 (if load then immI w else immS w)).toNat
  if ib w 14 12 ≠ 2 ∨ getBits t.mstatus 14 13 = 0 then s.tcIllegal n bits
  else if load then
    match s.tcRead? n a 4 with
    | none => s.tcTrap n 5 a
    | some (s, v) => s.tcRetire n next (fun t => t.setFreg (ib w 11 7) v)
  else match s.tcWrite? n a 4 (t.freg (ib w 24 20)) with
    | none => s.tcTrap n 7 a
    | some s => s.tcRetire n next (fun t => t)

/-- One instruction of 32 bits, or one that stands for a compressed one of 16: `bits` are its bits as fetched. -/
def State.tcExec (s : State) (n w bits len : Nat) : State :=
  let t := s.tc n
  let next := t.pc + BitVec.ofNat 64 len
  let rd := ib w 11 7
  let f3 := ib w 14 12
  let a := t.reg (ib w 19 15)
  let b := t.reg (ib w 24 20)
  let put (v : Option Word64) : State := match v with
    | none => s.tcIllegal n bits
    | some v => s.tcRetire n next (fun t => t.setReg rd v)
  match ib w 6 0 with
  | 0x37 => put (some (w64 (immU w)))
  | 0x17 => put (some (t.pc + w64 (immU w)))
  | 0x6F => s.tcRetire n (t.pc + w64 (immJ w)) (fun t => t.setReg rd next)
  | 0x67 => if f3 = 0 then s.tcRetire n ((a + w64 (immI w)) &&& ~~~(1 : Word64)) (fun t => t.setReg rd next)
      else s.tcIllegal n bits
  | 0x63 => match rvBranch f3 a b with
    | none => s.tcIllegal n bits
    | some taken => s.tcRetire n (if taken then t.pc + w64 (immB w) else next) (fun t => t)
  | 0x03 => s.tcLoad n w bits len
  | 0x23 => s.tcStore n w bits len
  | 0x13 => put (rvOpImm w a)
  | 0x1B => put (rvOpImmW w a)
  | 0x33 => put (rvOp (ib w 31 25) f3 a b)
  | 0x3B => put (rvOpW (ib w 31 25) f3 a b)
  | 0x0F => if f3 ≤ 1 then s.tcRetire n next (fun t => t) else s.tcIllegal n bits
  | 0x73 => s.tcSystem n w bits len
  | 0x2F => s.tcAtomic n w bits len
  | 0x07 | 0x27 => s.tcFpMem n w bits len
  | 0x43 | 0x47 | 0x4B | 0x4F | 0x53 => s.tcFp n w bits len
  | _ => s.tcIllegal n bits

/-- Sixteen bits of code; none is an access fault: code lies in device memory or LDM. -/
def State.tcCode? (s : State) (n a : Nat) : Option (State × Nat) :=
  (s.tcKeys? n a 2).map (fun ks => s.tcRdKeys n ks)

/-- One instruction of a tidy core (R180): a core in WFI wakes when its interrupt is asserted and enabled; an interrupt that
may be taken is taken first.  The cycles the instruction takes are a free value. -/
def tcInstruction (s : State) (n : Nat) : State :=
  let st := s.tcState n
  let t0 := s.tc n
  let intr := t0.meip && getBits t0.mie 11 11 == 1
  if !s.tcRuns n || (st != 1 && !(st == 2 && intr)) then s
  else
    let s := if st = 2 then s.setFld (corePage n) Fld.CORE_TC_STATUS_STATE 1 else s
    let (cyc, s) := s.draw
    let s := s.modTc n (fun t => { t with mcycle := t.mcycle + cyc })
    let t := s.tc n
    if intr && t.mieOn then s.modTc n (fun t => t.trap 11 0 true)
    else match s.tcCode? n t.pc.toNat with
      | none => s.tcTrap n 1 t.pc.toNat
      | some (s, lo) =>
        if lo % 4 ≠ 3 then
          (match expandC lo with
          | none => s.tcIllegal n lo
          | some w => s.tcExec n w lo 2)
        else match s.tcCode? n (t.pc + 2).toNat with
          | none => s.tcTrap n 1 (t.pc + 2).toNat
          | some (s, hi) => s.tcExec n (hi * 65536 + lo) (hi * 65536 + lo) 4

/-- TC_INSTRUCTION (R180). -/
def execTcInstruction (core : Nat) (s : State) : Host.Outcome State Fault Refusal := State.done (tcInstruction s core)
/-- TC_ISSUE (R181). -/
def execTcIssue (core addr : Nat) (s : State) : Host.Outcome State Fault Refusal := State.done (tcIssue s core addr)
/-- TC_STICKY_CLR (R126). -/
def execTcStickyClr (core : Nat) (v : Word64) (s : State) : Host.Outcome State Fault Refusal := State.done (tcStickyClr s core v)
/-- TC_WDOG_WRITE (R181). -/
def execTcWdogWrite (core : Nat) (v : Word64) (s : State) : Host.Outcome State Fault Refusal := State.done (tcWdogWrite s core v)
/-- TC_WATCHDOG_EXPIRY (R183). -/
def execTcWatchdogExpiry (core : Nat) (s : State) : Host.Outcome State Fault Refusal := State.done (tcWatchdogExpiry s core)
/-- TC_RUN_WRITE (R184). -/
def execTcRunWrite (who : Requester) (core : Nat) (v : Word64) (s : State) : Host.Outcome State Fault Refusal :=
  State.done (tcRunWrite s who core v)
/-- TC_MBOX_WRITE (R184). -/
def execTcMboxWrite (who : Requester) (core : Nat) (v : Word64) (s : State) : Host.Outcome State Fault Refusal :=
  State.done (tcMboxWrite s who core v)

end Sys2Proof.Machine
end

