-- ==== Sys2Proof/Machine/Blocks.lean ====
section
/-!
DEFINITION. Enabling, disabling and engine reset of one block (R24 to R26, R422, R484), and a register write by its access type
(R4 to R6, R20 to R23).
-/
namespace Sys2Proof.Machine

open Sys2Proof

/-- Change the Shape unit. -/
def State.modShape (s : State) (f : ShapeUnit → ShapeUnit) : State := { s with shape := f s.shape }

/-! ### Enabling (R24 to R26) -/

/-- EN = 1 at a block: a block that the Live Shape governs refuses a change (R26), a trimmed one with its own code (R19); a LIVE
block, or one whose check runs, does not change; another starts its check and is BUSY (R24). -/
def State.enableBlock (s : State) (pg : Nat) : State :=
  if shapeBound (pgClass pg) then
    (if s.enabled pg then s else s.refuseF pg (if s.pageTrimmed pg then 0x0103 else 0x0107) Fld.BLK_CTRL_EN)
  else if s.liveBlk pg || (SMap.get? s.shape.checks pg).isSome then s
  else (s.setFld pg Fld.BLK_CTRL_EN 1).modShape (fun u => { u with checks := SMap.put u.checks pg true })

/-- BLOCK_ENABLE (R24): a write of BLK_CTRL with EN = 1. -/
def blockEnable (s : State) (who : Requester) (pg : Nat) : State := s.letIn who pg (fun s => s.enableBlock pg)

/-- The RW fields of a block with a stated range or alignment (R25): SHP_ACC_ADDR, EDIE_MEMB_NEXT_ADDR, the Dwerdo queue pair and the
runtime channel where they are enabled, PART_KV_OWNER and PART_KV_ALLOC.SPAN.  A field that a window selects is checked at its own EN
(R73, R402) or commit (R357). -/
def State.rwCheck? (s : State) (pg : Nat) : Option (Code × Nat × Nat) :=
  let off (code : Code) (f : Fld) : Option (Code × Nat × Nat) := some (code, f.off, f.lo)
  let out (f : Fld) (lo hi : Nat) : Bool := decide (s.fld pg f < lo) || decide (hi < s.fld pg f)
  match pgClass pg with
  | 1 => if getBits (s.reg (pg + 0x130)) 27 0 % 8 ≠ 0 then some (0x0108, 0x130, 0) else none
  | 4 => if s.fld pg Fld.EDIE_MEMB_NEXT_ADDR_ADDR % 64 ≠ 0 then off 0x0108 Fld.EDIE_MEMB_NEXT_ADDR_ADDR else none
  | 13 => if s.fld pg Fld.HP_DW_CFG_EN = 1 ∧ out Fld.HP_DW_CFG_LOG2 4 14 then off 0x0102 Fld.HP_DW_CFG_LOG2 else none
  | 14 =>
    if s.fld pg Fld.PART_KV_OWNER_ADDR % 8 ≠ 0 then off 0x0108 Fld.PART_KV_OWNER_ADDR
    else if out Fld.PART_KV_ALLOC_SPAN 1 16 then off 0x0102 Fld.PART_KV_ALLOC_SPAN
    else if s.fld pg Fld.PART_RT_CFG_EN = 1 ∧ s.reg (pg + Reg.PART_RT_BASE) &&& 0xFFF ≠ 0 then some (0x0108, Reg.PART_RT_BASE, 0)
    else if s.fld pg Fld.PART_RT_CFG_EN = 1 ∧ out Fld.PART_RT_CFG_LOG2_ENTRIES 4 12 then off 0x0102 Fld.PART_RT_CFG_LOG2_ENTRIES
    else none
  | _ => none

/-- The consistency check of a block over its Live SH fields and its RW fields (R25): the code, offset and lowest bit it refuses
with. -/
def State.blockCheck? (s : State) (pg : Nat) : Option (Code × Nat × Nat) :=
  if s.pageTrimmed pg then some (0x0103, Fld.BLK_CTRL_EN.off, 0)
  else match s.pageCheck? s.shape.live pg with
    | some f => some (f.code, f.off, f.lsb)
    | none => s.rwCheck? pg

/-- BLOCK_CHECK_DONE (R24, R25): the check sets LIVE, or refuses with its code, or has been abandoned by EN = 0. -/
def blockCheckDone (s : State) (pg : Nat) : State :=
  match SMap.get? s.shape.checks pg with
  | none => s
  | some wanted =>
    let s := s.modShape (fun u => { u with checks := SMap.erase u.checks pg })
    if !wanted then s
    else match s.blockCheck? pg with
      | none => ((s.setFld pg Fld.BLK_STATUS_LIVE 1).setFld pg Fld.BLK_STATUS_REFUSED 0).modShape (fun u =>
          { u with stopped := u.stopped.filter (fun x => x != pg) })
      | some (code, off, lsb) => (s.setFld pg Fld.BLK_CTRL_EN 0).refuse pg code off lsb

/-- A write to a read-only word of the selected ring's registers, when that ring lies outside the partition's allocation (R72). -/
def State.strayRingWrite (s : State) (pg off : Nat) : Bool :=
  pgClass pg == 14 && decide (0x838 ≤ off) && decide (off ≤ 0x848) &&
    !s.shape.live.ownsRing (pgInst pg) (s.ringSel (pgInst pg))

/-- EN = 0 at a block (R24, R26): it abandons a check, or stops new work; LIVE clears once no work is in flight. -/
def State.disableBlock (s : State) (pg : Nat) : State :=
  if shapeBound (pgClass pg) then (if s.enabled pg then s.refuseF pg 0x0107 Fld.BLK_CTRL_EN else s)
  else
    let was := s.liveBlk pg
    let s := (s.setFld pg Fld.BLK_CTRL_EN 0).modShape (fun u => { u with
      stopped := if was && !u.stopped.contains pg then pg :: u.stopped else u.stopped })
    if (SMap.get? s.shape.checks pg).isSome then s.modShape (fun u => { u with checks := SMap.put u.checks pg false })
    else if s.hasWork pg then s
    else s.setFld pg Fld.BLK_STATUS_LIVE 0

/-- BLOCK_DISABLE (R24): a write of BLK_CTRL with EN = 0. -/
def blockDisable (s : State) (who : Requester) (pg : Nat) : State := s.letIn who pg (fun s => s.disableBlock pg)

/-- BLOCK_DRAIN_DONE (R24): the work in flight of a block with EN = 0 has completed. -/
def blockDrainDone (s : State) (pg : Nat) : State :=
  if shapeBound (pgClass pg) || s.enabled pg || s.hasWork pg || !pagePresent pg then s
  else s.setFld pg Fld.BLK_STATUS_LIVE 0

/-! ### Engine reset (R22, R422, R484, Table 18.4 column E) -/

/-- RW registers that Table 18.4 keeps at an engine reset: SHP_LOCK, CC_TRIM, the error ring's and the completion log's HEAD, and the
power register of a partition that sleeps. -/
def State.keptAtEngineReset (s : State) (pg off : Nat) : Bool :=
  (pgClass pg == 1 && off == 0x110) || (pgClass pg == 3 && off == 0x110) || (pgClass pg == 0 && off == 0x148) ||
    (pgClass pg == 13 && off == 0x1A0) || (pgClass pg == 14 && off == 0xC00 && s.fld pg Fld.PART_PWR_STATE != 0)

/-- A register whose RW fields an engine reset of a page returns: block-specific, of that page or, for a CRN page, of both Crowns'
one set (R438), and not kept. -/
def State.resetsReg (s : State) (pg k : Nat) : Bool :=
  pgBase k == pgBase (regKey pg 0x100) && decide (0x100 ≤ pgOff k) && !s.keptAtEngineReset pg (pgOff k)

/-- A register's word after an engine reset of a page. -/
def State.resetWordAt (s : State) (pg k : Nat) (v : Word64) : Word64 :=
  if s.resetsReg pg k then mergeBits v (resetWord k) (rwMask k) else v

/-- Block-specific RW registers of one page take their reset values; a CRN page's are those of both Crowns (R438). -/
def State.resetRw (s : State) (pg : Nat) : State :=
  { s with regs := SMap.mapVal (SMap.dropKeys s.regs (fun k => s.resetsReg pg k && selectsFirst k)) (s.resetWordAt pg) }

/-- Work that an engine reset of a page ends: of a CLU page, every command the cluster's command processor has fetched (R484); of
another, the commands started on the block. -/
def State.endsWith (s : State) (pg : Nat) (c : InFlight) : Bool :=
  if pgClass pg = 6 then c.ccp == pgInst pg && !c.saved else s.workOn pg c && c.phase != .waiting

/-- The further state of a block that column E marks D: summary slots, sticky flags and the tidy core of a core, the sessions of a
codec engine (R346), a margining point, the Dwerdo queue pair, the RWT words held, the request tail. -/
def State.resetUnit (s : State) (pg : Nat) : State :=
  let i := pgInst pg
  match pgClass pg with
  | 7 => (imageRegs.foldl (fun (s : State) o => s.setReg (pg + o) 0) s).modTc i (fun _ => {})
  | 9 => if (s.stk i).margin then (s.setFld pg Fld.STK_MARGIN_DONE 0).modStk i (fun x => { x with margin := false }) else s
  | 11 => s.closeSessions i
  | 13 => if s.shape.persona[i]? = some 1 then (s.setFld pg Fld.HP_DW_STATUS_STATE 0).modHp i (fun x => { x with dw := {} }) else s
  | 14 => s.modPart i (fun x => { x with rwtW1 := none, rwtW2 := none })
  | _ => s

/-- An engine reset begins (R422): the block's work in flight ends with 0xF005 and no signal, and its registers take column E. -/
def State.engineReset (s : State) (pg : Nat) : State :=
  let s := s.endAll (s.endsWith pg) 0xF005
  let s := (s.resetRw pg).resetUnit pg
  s.modShape (fun u => { u with
    halves := SMap.dropKeys u.halves (fun k => pgBase k == pg && !(shOffs (pgClass k)).contains (pgOff k)),
    engineResets := if u.engineResets.contains pg then u.engineResets else pg :: u.engineResets })

/-- ENGINE_RESET (R22): a write of BLK_CTRL with RST = 1. -/
def engineReset (s : State) (who : Requester) (pg : Nat) : State := s.letIn who pg (fun s => s.engineReset pg)

/-- ENGINE_RESET_DONE (R422): the block accepts work again. -/
def engineResetDone (s : State) (pg : Nat) : State :=
  s.modShape (fun u => { u with engineResets := u.engineResets.filter (fun x => x != pg) })

/-- A write of BLK_CTRL (R22, R24, R26): a change of EN acts first, then RST. -/
def State.ctrlWrite (s : State) (pg : Nat) (v : Word64) : State :=
  let s := if getBits v 0 0 = 1 then s.enableBlock pg else if s.enabled pg then s.disableBlock pg else s
  if getBits v 1 1 = 1 then s.engineReset pg else s

/-! ### Register writes (R4 to R6, R20, R21, R23) -/

/-- W1C fields of a register. -/
def w1cMask (r : RegRow) : Word64 :=
  r.fields.foldl (fun m f => if f.acc == .w1c then m ||| fieldMask f.hi f.lo else m) 0

/-- RW fields of a register row. -/
def rwFields (r : RegRow) : Word64 := r.fields.foldl (fun m f => if f.acc == .rw then m ||| fieldMask f.hi f.lo else m) 0

/-- The fields a write reaches: neither RO nor SH (R4). -/
def writable (r : RegRow) : List RegField := r.fields.filter (fun f => f.acc == .rw || f.acc == .w1c || f.acc == .wo)

/-- Registers whose two halves make one action, performed with the high half: PART_RWT_W0 and PART_PLACE_DONE. -/
def jointReg (cls off : Nat) : Bool := cls == 14 && (off == 0xA20 || off == 0xA28)

/-- What the RW fields of a register hold before a write: as read, or as held for the next commit (R357). -/
def State.before (s : State) (pg off : Nat) : Word64 :=
  let x := s.part (pgInst pg)
  let held : Option (Nat × Word64) :=
    if pgClass pg = 14 ∧ off = 0xA10 then x.rwtW1 else if pgClass pg = 14 ∧ off = 0xA18 then x.rwtW2 else none
  match held with
  | some h => h.2
  | none => s.readReg pg off

/-- The word a write of a width makes of a register, WO and W1C bits as written; the half held after it; and whether any field takes
effect (R6). -/
def State.writtenWord (s : State) (pg : Nat) (r : RegRow) (w : Width) (v : Word64) (port : Nat) :
    Word64 × Option (Nat × BitVec 32) × Bool :=
  let held := SMap.get? s.shape.halves (pg + r.off)
  let fs := writable r
  let cur := s.before pg r.off &&& rwFields r
  if jointReg (pgClass pg) r.off then
    match w with
    | .w64 => (v, held, true)
    | .lo32 => (cur, some (port, v.truncate 32), false)
    | .hi32 =>
      let low : Word64 := match held with | some h => h.2.zeroExtend 64 | none => cur &&& 0xFFFFFFFF
      ((v <<< 32) ||| low, none, true)
  else
    let x := halfWrite fs w cur v held port
    (x.1, x.2, reachMask fs w != 0 || (w == .hi32 && crossMask fs != 0))

/-- A generic write: RW fields take the value, W1C bits written 1 clear, the rest stays (R4, R5). -/
def State.plainWrite (s : State) (pg : Nat) (r : RegRow) (x : Word64) : State :=
  let k := regKey pg r.off
  s.setReg k (mergeBits (s.reg k) x (rwFields r) &&& ~~~(x &&& w1cMask r))

/-- A write of BLK_INT_MASK: a status bit that stood masked raises its interrupt when unmasked (R23). -/
def State.maskWrite (s : State) (pg : Nat) (r : RegRow) (x : Word64) : State :=
  let opened := (s.reg (pg + 0x38) &&& ~~~x) &&& s.reg (pg + 0x30) &&& rwFields r
  (bitList 64 opened.toNat).foldl (fun (s : State) b => s.emit (.blockIrq pg b (s.pageFns pg))) (s.plainWrite pg r x)

/-- A write of HP_CLOG_PTR.HEAD passes the entries before it as read (R368). -/
def State.clogHeadWrite (s : State) (h : Nat) (x : Word64) : State :=
  let new := getBits x 15 0
  let passed := (new + 65536 - s.fld (hpPage h) Fld.HP_CLOG_PTR_HEAD) % 65536
  let left := (s.fld (hpPage h) Fld.HP_CLOG_PTR_TAIL + 65536 - new) % 65536
  (s.setFld (hpPage h) Fld.HP_CLOG_PTR_HEAD new).modHp h (fun y =>
    { y with clogUnread := if passed ≤ y.clogUnread then y.clogUnread - passed else left })

/-- A write of a register of the selected ring (R72): outside the partition's range it is ignored and recorded with 0x0305; while EN
is 1 it is refused with 0x0105. -/
def State.ringRegWrite (s : State) (p off : Nat) (f : Ring → Ring) : State :=
  let r := s.ringSel p
  if !s.shape.live.ownsRing p r then s.refuse (partPage p) 0x0305 off
  else if (s.ring r).en then s.refuse (partPage p) 0x0105 off 0
  else s.setRing r (f (s.ring r))

/-- A write of PART_CTX_SAVE, PART_CTX_WIN or PART_CTX_BIND (R402): refused with 0x0105 while EN is 1. -/
def State.ctxRegWrite (s : State) (p : Nat) (fld : Fld) (f : Ctx → Ctx) : State :=
  let c := s.ctxSel p
  if (s.ctx p c).en then s.ctxRefuse p c 0x0105 fld else s.modCtx p c f

/-- A write of PART_KV_WM: LOW above HIGH, or HIGH above SLOTS, is refused with 0x078C (Table 10.9). -/
def State.kvWmWrite (s : State) (p : Nat) (r : RegRow) (x : Word64) : State :=
  if getBits x 63 32 < getBits x 31 0 then s.refuseF (partPage p) 0x078C Fld.PART_KV_WM_LOW
  else if s.kvSlots p < getBits x 63 32 then s.refuseF (partPage p) 0x078C Fld.PART_KV_WM_HIGH
  else s.plainWrite (partPage p) r x

/-- A write of PART_CTX_CMD acts on the selected context, its bits in order (R403). -/
def ctxCmdWrite (s : State) (who : Requester) (p : Nat) (x : Word64) : State :=
  let s := if getBits x 0 0 = 1 then switchTo s who p else s
  let s := if getBits x 1 1 = 1 then suspendCtx s who p else s
  let s := if getBits x 2 2 = 1 then resumeCtx s who p else s
  if getBits x 3 3 = 1 then abortCmd s who p else s

/-- A write to a register of a PART page from 0x100 up. -/
def State.partWrite (s : State) (who : Requester) (p : Nat) (r : RegRow) (w : Width) (x : Word64) : State :=
  match r.off with
  | 0x308 => ctxCfgWrite s who p x
  | 0x310 => s.ctxRegWrite p Fld.PART_CTX_SAVE_MAP (fun c => { c with save := x })
  | 0x318 => s.ctxRegWrite p Fld.PART_CTX_WIN_TABLE (fun c => { c with win := x })
  | 0x320 => s.ctxRegWrite p Fld.PART_CTX_BIND_LIST (fun c => { c with bind := x })
  | 0x328 => ctxCmdWrite s who p x
  | 0x810 => s.ringRegWrite p 0x810 (fun c => { c with base := x })
  | 0x818 => ringCfgWrite s who p x
  | 0x820 => s.ringRegWrite p 0x820 (fun c => { c with cqBase := x })
  | 0x828 => s.ringRegWrite p 0x828 (fun c => { c with cqCfg := x })
  | 0x830 => s.ringRegWrite p 0x830 (fun c => { c with sat := x })
  | 0x928 => s.kvWmWrite p r x
  | 0x950 => if w = .lo32 then s.plainWrite (partPage p) r x else kvAllocWrite s who p x
  | 0x968 => if getBits x 0 0 = 1 then kvEpochAdv s who p else s
  | 0xA10 => s.modPart p (fun y => { y with rwtW1 := some (portOf who, x) })
  | 0xA18 => s.modPart p (fun y => { y with rwtW2 := some (portOf who, x) })
  | 0xA20 => rwtEntryCommit s who p x
  | 0xA28 => placeDone s who p x
  | 0xA40 => rtDoorbell s who p x
  | 0xC00 => s.partPwr who p x
  | 0xD00 => s.modCtx p (s.ctxSel p) (fun c => { c with wdLimit := getBits x 15 0 })
  | _ => s.plainWrite (partPage p) r x

/-- A write of HP_RETAIN_CLAIM (R6, R370) that carries no time of its own: its time is a free value (log 4). -/
def State.claimWrite (s : State) (who : Requester) (h : Nat) (x : Word64) : State :=
  let (t, s) := s.draw
  retainClaim s who h t.toNat x

/-- A write to a register of a HP page from 0x100 up; the queue registers of Dwerdo are there only in that personality (R372). -/
def State.hpWrite (s : State) (who : Requester) (h : Nat) (r : RegRow) (x : Word64) : State :=
  match r.off with
  | 0x1A0 => s.clogHeadWrite h x
  | 0x1F8 => s.claimWrite who h x
  | 0x200 => if getBits x 2 2 = 1 then retainDiscard s who h else s
  | 0x310 => dwQueueEnable s who h x
  | _ => if 0x300 ≤ r.off ∧ s.shape.persona[h]? ≠ some 1 then s else s.plainWrite (hpPage h) r x

/-- A register write that has reached its page, by the register's access type or its own effect (R4). -/
def State.regWrite (s : State) (who : Requester) (pg : Nat) (r : RegRow) (w : Width) (x : Word64) : State :=
  let i := pgInst pg
  if r.off = 0x10 then s.ctrlWrite pg x
  else if r.off = 0x38 then s.maskWrite pg r x
  else if r.off < 0x100 then s.plainWrite pg r x
  else match pgClass pg with
    | 0 => if r.off = 0x100 then s.crnReset who i x
      else if r.off = 0x148 then errorRingHeadWrite s who i x
      else s.plainWrite pg r x
    | 1 => if r.off = 0x100 then shpCtrlWrite s who x none
      else if r.off = 0x110 then shpLockWrite s who x
      else s.plainWrite pg r x
    | 2 => if r.off = 0x158 then (if getBits x 0 0 = 1 then strLoad s who else s)
      else if privileged who then s.plainWrite pg r x else s.refuse pg 0x0104 r.off
    | 3 => if r.off = 0x100 then ccTimeSWrite s who x
      else if r.off = 0x108 then ccTimeFWrite s who x
      else s.plainWrite pg r x
    | 4 => if r.off = 0x160 then (if getBits x 0 0 = 1 then announce s who i else s) else s.plainWrite pg r x
    | 5 => if r.off = 0x708 then frameAttrWrite s who i x else s.plainWrite pg r x
    | 7 => if r.off = 0x230 then tcRunWrite s who i x
      else if r.off = 0x250 then tcMboxWrite s who i x
      else s.plainWrite pg r x
    | 8 => if r.off = 0x410 then uuStepWrite s who i x else s.plainWrite pg r x
    | 9 => if r.off = 0x120 ∧ (getBits x 16 16 = 1 ∨ getBits x 6 5 = 3) then marginStart s who i x else s.plainWrite pg r x
    | 13 => s.hpWrite who i r x
    | 14 => s.partWrite who i r w x
    | 15 => if r.off = 0x118 then svnCommit s who x else s.plainWrite pg r x
    | _ => s.plainWrite pg r x

/-- The halves held after a write of a register (R6). -/
def State.holdHalf (s : State) (k : Nat) (h : Option (Nat × BitVec 32)) : State :=
  s.modShape (fun u => { u with halves := match h with | some y => SMap.put u.halves k y | none => SMap.erase u.halves k })

/-- A write of a width that reaches a register row: the halves held, and the effect of the word written where any field takes effect
(R4, R6). -/
def State.storeWord (s : State) (who : Requester) (pg : Nat) (r : RegRow) (w : Width) (v : Word64) : State :=
  if (writable r).isEmpty then
    (if s.strayRingWrite pg r.off then s.refuse pg 0x0305 r.off else s)
  else
    let x := s.writtenWord pg r w v (portOf who)
    let s := s.holdHalf (pg + r.off) x.2.1
    if x.2.2 then s.regWrite who pg r w x.1 else s

/-- REGISTER_WRITE (R4): a 64-bit write of the register at a BAR0 offset, or a write of one of its halves, the value of a high half in
the low 32 bits of `v`.  SH registers go to the Pending bank (R27). -/
def registerWrite (s : State) (who : Requester) (off : Nat) (w : Width) (v : Word64) : State :=
  let pg := pgBase off
  if (shOffs (pgClass off)).contains (pgOff off) then shFieldWrite s who off w v
  else s.letIn who pg (fun s =>
    match regRow? (pgClass off) (pgOff off) with
    | none => s
    | some r => s.storeWord who pg r w v)

/-- REGISTER_WRITE (R4). -/
def execRegisterWrite (who : Requester) (off : Nat) (w : Width) (v : Word64) (s : State) : Host.Outcome State Fault Refusal :=
  State.done (registerWrite s who off w v)
/-- BLOCK_ENABLE (R24). -/
def execBlockEnable (who : Requester) (page : Nat) (s : State) : Host.Outcome State Fault Refusal :=
  State.done (blockEnable s who (pgBase page))
/-- BLOCK_CHECK_DONE (R25). -/
def execBlockCheckDone (page : Nat) (s : State) : Host.Outcome State Fault Refusal := State.done (blockCheckDone s (pgBase page))
/-- BLOCK_DISABLE (R24). -/
def execBlockDisable (who : Requester) (page : Nat) (s : State) : Host.Outcome State Fault Refusal :=
  State.done (blockDisable s who (pgBase page))
/-- BLOCK_DRAIN_DONE (R24). -/
def execBlockDrainDone (page : Nat) (s : State) : Host.Outcome State Fault Refusal := State.done (blockDrainDone s (pgBase page))
/-- ENGINE_RESET (R22). -/
def execEngineReset (who : Requester) (page : Nat) (s : State) : Host.Outcome State Fault Refusal :=
  State.done (engineReset s who (pgBase page))
/-- ENGINE_RESET_DONE (R422). -/
def execEngineResetDone (page : Nat) (s : State) : Host.Outcome State Fault Refusal := State.done (engineResetDone s (pgBase page))

end Sys2Proof.Machine
end

