-- ==== Sys2Proof/Machine/Power.lean ====
section
/-!
DEFINITION. The power controller and the thermal limits (R434 to R437).
-/
namespace Sys2Proof.Machine

open Sys2Proof

/-- CRN_PWR_STATUS.STEP, the ACLK step (R434). -/
def State.aclkStep (s : State) : Nat := s.fld crnPage Fld.CRN_PWR_STATUS_STEP

/-- Change the ACLK step: each change raises BLOCK_EVT bit 16, each change to a deeper one counts a step-down (R435, Table 18.7). -/
def State.setStep (s : State) (n : Nat) : State :=
  let old := s.aclkStep
  if n = old then s
  else
    let s := (s.setFld crnPage Fld.CRN_PWR_STATUS_STEP n).raise crnPage 16
    let s := if old < n then s.addFld crnPage Fld.CRN_PWR_STATS_STEP_DOWNS 1 else s
    { s with pwr := { s.pwr with maxStep := max s.pwr.maxStep n, sinceStep := 0 } }

/-- The mean of the samples of the last second, compared with a limit scaled by `num`/100: the mean is above it (R435). -/
def meanAbove (samples : List Nat) (num limit : Nat) : Bool := decide (num * limit * samples.length < 100 * samples.sum)

/-- The mean is below `num`/100 of a limit. -/
def meanBelow (samples : List Nat) (num limit : Nat) : Bool := decide (100 * samples.sum < num * limit * samples.length)

/-- The sustained limit of the package, W (R15). -/
def sustainedW : Nat := 18000

/-- The step the controller moves to (R435): 2 deeper above EXCURSION; 1 deeper every 100 µs once 8 ms above SUSTAIN, every 1 ms while
the mean is above 0.98 SUSTAIN, both stopping at FLOOR_STEP; below FLOOR_STEP the same two rules hold for 18.0 kW, so that no excursion
above it lasts 10 ms and no mean passes it (R15, log 39); 1 up after 2 ms below 0.97 SUSTAIN. -/
def nextStep (x : Power) (step p sustain excursion floor : Nat) : Nat :=
  let deeper (every : Nat) : Nat := if x.sinceStep < every then step else min (step + 1) 12
  let meanOver := meanAbove x.samples 98 sustainedW
  let n :=
    if excursion < p then min (step + 2) 12
    else if 8000 ≤ x.aboveUs then
      (if step < floor ∨ 8000 ≤ x.overUs then deeper 100 else if meanOver then deeper 1000 else step)
    else if meanAbove x.samples 98 sustain then (if step < floor ∨ meanOver then deeper 1000 else step)
    else if 2000 ≤ x.belowUs ∧ 2000 ≤ x.sinceStep then step - 1
    else step
  max n x.thermalFloor

/-- POWER_SAMPLE (R435): one 10 µs sample of the input power, in W. -/
def powerSample (s : State) (p : Nat) : State :=
  if !s.running || s.pwr.tripped then s
  else
    let sustain := 10 * s.sh crnPage Fld.CRN_PWR_CFG_SUSTAIN
    let floor := s.sh crnPage Fld.CRN_PWR_CFG_FLOOR_STEP
    let step := s.aclkStep
    let samples := p :: s.pwr.samples.take 99999
    let below := decide (100 * p < 97 * sustain) && meanBelow samples 97 sustain
    let wasFloor := decide (8000 ≤ s.pwr.floorUs)
    let x : Power := { s.pwr with
      samples := samples, lost := s.pwr.lost + 875 * step, sinceStep := s.pwr.sinceStep + 10,
      aboveUs := if sustain < p then s.pwr.aboveUs + 10 else 0,
      overUs := if sustainedW < p then s.pwr.overUs + 10 else 0,
      belowUs := if below then s.pwr.belowUs + 10 else 0,
      floorUs := if sustain < p ∧ floor ≤ step then s.pwr.floorUs + 10 else 0 }
    let s := ({ s with pwr := x }).setFld crnPage Fld.CRN_PWR_STATUS_INPUT (min (p / 10) 65535)
    let s := if 8000 ≤ x.floorUs ∧ wasFloor = false then s.raise crnPage 17 else s
    let s := s.setStep (nextStep x step p sustain (10 * s.sh crnPage Fld.CRN_PWR_CFG_EXCURSION) floor)
    let gate := s.aclkStep == 12 &&
      (decide (sustainedW < p) || meanAbove samples 100 sustainedW || (s.pwr.gated && s.pwr.thermalFloor == 12))
    { s with pwr := { s.pwr with gated := gate } }

/-- The thermal floor after a reading (R437): 12 at 105 °C, one step deeper every 100 µs from 100 °C until the hottest die reads below
98 °C, else 0. -/
def thermalFloor (old : Nat) (tj : Int) : Nat :=
  if 105 ≤ tj then 12
  else if 100 ≤ tj then min (old + 1) 12
  else if 98 ≤ tj ∧ old ≠ 0 then min (old + 1) 12
  else 0

/-- A thermal trip: THERMTRIP_N, ACLK stopped on every C-die, every stack in self-refresh, a device-fatal record (R437). -/
def State.thermalTrip (s : State) : State :=
  if s.pwr.tripped then s
  else
    let s := { s with pwr := { s.pwr with tripped := true }, pins := { s.pins with thermtrip := true } }
    let s := (List.range 32).foldl (fun s k => s.setFld (stkPage k) Fld.STK_STATUS_STATE 2) s
    s.crnRecord 3 0x0F05

/-- JUNCTION_TEMP_SAMPLE (R437): the hottest die junction, °C. -/
def junctionTempSample (s : State) (tj : Int) : State :=
  if s.pwr.mainLost then s
  else
    let s := s.setFld crnPage Fld.CRN_PWR_STATUS_TJ_MAX (twos 8 tj)
    let f := thermalFloor s.pwr.thermalFloor tj
    let s := { s with pwr := { s.pwr with thermalFloor := f, gated := decide (105 ≤ tj) || s.pwr.gated } }
    let s := if 100 ≤ tj then s.raise crnPage 18 else s
    let s := s.setStep (max s.aclkStep f)
    if 110 ≤ tj then s.thermalTrip else s

/-- POWER_SAMPLE (R435). -/
def execPowerSample (inputW : Nat) (s : State) : Host.Outcome State Fault Refusal := State.done (powerSample s inputW)
/-- JUNCTION_TEMP_SAMPLE (R437). -/
def execJunctionTempSample (tj : Int) (s : State) : Host.Outcome State Fault Refusal := State.done (junctionTempSample s tj)

end Sys2Proof.Machine
end

