-- ==== Sys2Proof/Machine/Swap.lean ====
section
/-!
DEFINITION. The swap of a commit or revert (R30, R32, R34, R35, Table 2.17).
-/
namespace Sys2Proof.Machine

open Sys2Proof

/-- The partition that owns a ring under a bank. -/
def Bank.ringOwner? (b : Bank) (r : Nat) : Option Nat := (List.range 64).find? (fun p => b.defined p && b.ownsRing p r)

/-- The partition that owns a codec engine under a bank. -/
def Bank.codecOwner? (b : Bank) (v : Nat) : Option Nat := (List.range 64).find? (fun p => b.defined p && (b.codecs p).contains v)

/-- The partition whose window-table range holds an entry under a bank. -/
def Bank.rwtOwner? (b : Bank) (i : Nat) : Option Nat :=
  (List.range 64).find? (fun p => b.defined p && decide ((b.rwt p).1 ≤ i) && decide (i < (b.rwt p).1 + (b.rwt p).2))

/-- What changed owner takes its reset values: rings (R71), and window-table entries and codec sessions of another partition
(log 40). -/
def State.moveOwners (s : State) (old : Bank) : State :=
  let new := s.shape.live
  let s := { s with rings := SMap.dropKeys s.rings (fun r => old.ringOwner? r != new.ringOwner? r)
                    rwt := SMap.dropKeys s.rwt (fun i => old.rwtOwner? i != new.rwtOwner? i) }
  (List.range 16).foldl (fun s v => if old.codecOwner? v = new.codecOwner? v then s else s.closeSessions v) s

/-- Interleave sets that a change of KIND or PKG_MIB re-forms: their frames return to the defaults and every byte of them is undefined
(R306). -/
def State.reformSets (s : State) (old : Bank) : State :=
  let kind (b : Bank) (d : Nat) : Nat := b.fld (page 9 (2 * d)) Fld.STK_SET_CFG_KIND
  if old.fld (page 9 0) Fld.STK_SET_CFG_PKG_MIB ≠ s.shape.live.fld (page 9 0) Fld.STK_SET_CFG_PKG_MIB then
    ({ s with frames := [] }).lose 0 (pkgBase + 2 ^ 42)
  else (List.range 16).foldl (fun s d =>
    if kind old d = kind s.shape.live d then s
    else ({ s with frames := SMap.dropKeys s.frames (fun k =>
        k / 2 ^ 24 == d || k / 2 ^ 24 == 32 + 2 * d || k / 2 ^ 24 == 33 + 2 * d) }).lose (d * dieWindow) dieWindow) s

/-- The KV pool or the host tier of a partition differs between two banks (R230): DEDUCED (log 19), a new slot size or place of the state
table changes both. -/
def kvDiffers (a b : Bank) (p : Nat) (host : Bool) : Bool :=
  ([Fld.PART_KV_POOL_GEOM_SLOT_UNITS, Fld.PART_KV_STATE_BASE_BASE] ++
    (if host then [Fld.PART_KV_HOST_BASE_BASE, Fld.PART_KV_HOST_GEOM_HSLOTS, Fld.PART_KV_HOST_GEOM_PORT]
     else [Fld.PART_KV_POOL_BASE_BASE, Fld.PART_KV_POOL_GEOM_SLOTS])).any (fun f => a.fld (partPage p) f != b.fld (partPage p) f)

/-- A changed pool or host tier becomes FREE, with walk epoch 0 (R230, R233); no command holds an epoch then (R31), so what was in motion
or in LIMBO is settled under the old definition.  An unchanged host tier keeps its entries at the place SLOTS gives them now (R231). -/
def State.reformKv (s : State) (old : Bank) (p : Nat) : State :=
  let new := s.shape.live
  let pg := partPage p
  let pool := kvDiffers old new p false
  let host := kvDiffers old new p true
  if !pool && !host then s
  else
    let t := ({ s with shape := { s.shape with live := old } }).settleKv (fun q => q == p)
    let kept := t.rds (t.slotKey p (t.kvSlots p)) (16 * t.kvHslots p)
    let s := { t with shape := { t.shape with live := new } }
    let s := if pool then s.freeTier p false else s
    let s := if host then ({ s with kvParked := s.kvParked.filter (fun x => x.1 != p) }).freeTier p true
      else s.wrs (s.slotKey p (s.kvSlots p)) kept
    s.setFld pg Fld.PART_KV_EPOCH_CUR_CUR 0

/-- Changed partitions: a changed pool or host tier becomes FREE (R230), and existing contexts are checked (R419). -/
def State.applyParts (s : State) (old : Bank) (parts : List Nat) : State :=
  parts.foldl (fun s p => (s.reformKv old p).checkContexts p) s

/-- Brim enables: a port whose EN becomes 1 leaves DARK; one whose EN becomes 0 drains when MEMBER, else is DARK (Table 16.1). -/
def State.applyEnables (s : State) (old : Bank) : State :=
  (List.range 64).foldl (fun s b =>
    let was := old.fld (brmPage b) Fld.BRM_CFG_EN
    let now := s.sh (brmPage b) Fld.BRM_CFG_EN
    if was = now || s.trimmed 12 b then s
    else if now = 1 then (if s.portState b = 0 then s.setPort b 1 else s)
    else if s.portState b = 5 then s.setPort b 6
    else if s.portState b = 6 then s
    else s.setPort b 0) s

/-- The units that the Live Shape's trim overrides remove enter the trim map at the swap (R34, log 16). -/
def State.applyOverrides (s : State) : State :=
  s.shape.live.overrides.foldl (fun s o => if o.2.2 then s.trimUnit o.1 o.2.1 else s) s

/-- The stroke section of two banks differs in what waits for a boundary: source, period and the PTP timescale (R45, R50). -/
def strokeDiffers (a b : Bank) : Bool :=
  [Fld.STR_CFG_SOURCE, Fld.STR_CFG_PERIOD, Fld.STR_CFG_PTP_PORT, Fld.STR_CFG_PTP_DOMAIN, Fld.STR_EPOCH_EPOCH_S].any
    (fun f => a.fld strPage f != b.fld strPage f)

/-- A change of source or period waits for the next boundary, and says whether the lock state restarts there (R50); a load armed before
a change of SOURCE to 2 is discarded (R54). -/
def State.applyStroke (s : State) (old : Bank) : State :=
  let src := if s.dwerdo then 0 else s.sh strPage Fld.STR_CFG_SOURCE
  let pend := s.stroke.change
  let restart := src != s.stroke.source ||
    (src != 0 && s.sh strPage Fld.STR_CFG_PERIOD != s.stroke.period) ||
    (src == 2 && [Fld.STR_CFG_PTP_PORT, Fld.STR_CFG_PTP_DOMAIN, Fld.STR_EPOCH_EPOCH_S].any
      (fun f => old.fld strPage f != s.sh strPage f))
  let s := if strokeDiffers old s.shape.live then s.modStroke (fun u => { u with change := some (restart || pend == some true) }) else s
  if src = 2 ∧ s.stroke.source ≠ 2 ∧ s.stroke.armed.isSome = true then
    (s.modStroke (fun u => { u with armed := none })).refuseF strPage 0x0102 Fld.STR_CMD_LOAD
  else s

/-- With STROKE_OUT_EN = 0 the pair is driven low (R56). -/
def State.quietStrokeOut (s : State) : State :=
  if s.sh strPage Fld.STR_CFG_STROKE_OUT_EN = 1 then s else { s with pins := { s.pins with strokeOut := false } }

/-- Pages that run on under their former generation: STR until the boundary that takes the change, an HP page while its PERSONALITY
waits for a package reset (R32, R34); DORMANT says that one does (Table 2.12). -/
def State.holdGens (s : State) (oldGen : Nat) : State :=
  let waits (h : Nat) : Bool := s.shape.persona[h]? != some (s.sh (hpPage h) Fld.HP_CFG_PERSONALITY)
  let pages := ([0, 1].filter waits).map hpPage ++ (if s.stroke.change.isSome then [strPage] else [])
  let held := pages.map (fun pg => (pg, (SMap.get? s.shape.genHeld pg).getD oldGen))
  ({ s with shape := { s.shape with genHeld := held } }).setBit shpPage Fld.SHP_STATUS_DORMANT ([0, 1].any waits)

/-- SHAPE_APPLIED on every present page whose generation changes (R32). -/
def State.raiseApplied (s : State) : State :=
  allPages.foldl (fun s pg => if (SMap.get? s.shape.genHeld pg).isSome then s else s.raise pg 3) s

/-- The banks after a swap (R30, R35). -/
def ShapeUnit.swapped (u : ShapeUnit) (kind : ShapeOpKind) : ShapeUnit :=
  let new : Bank := match kind with
    | .commit => { u.pend with gen := u.nextGen }
    | .revert => u.prior
  let high := match kind with | .commit => u.nextGen | .revert => u.highGen
  { u with live := new, prior := u.live, pend := { new with gen := genAfter high }, highGen := high, nextGen := genAfter high,
           op := none }

/-- SHAPE_SWAP (R32): the blocks switch in one swap, once the check has passed. -/
def shapeSwap (s : State) : State :=
  match s.shape.op with
  | none => s
  | some op =>
    if !op.passed then s
    else
      let old := s.shape.live
      let s := ({ s with shape := s.shape.swapped op.kind }).showGens
      let s := ((s.moveOwners old).reformSets old).mapRetired
      let s := s.applyOverrides
      let s := (s.applyParts old op.held).applyEnables old
      let s := ((s.applyStroke old).quietStrokeOut.holdGens old.gen).raiseApplied
      let s := (s.setFld shpPage Fld.SHP_STATUS_BUSY 0).setDirty
      let s := s.shapeDone (match op.kind with | .commit => 1 | .revert => 2)
      if op.pinAfter then s.pinNow else s

/-- SHAPE_SWAP (R32). -/
def execShapeSwap (s : State) : Host.Outcome State Fault Refusal := State.done (shapeSwap s)

end Sys2Proof.Machine
end

