-- ==== Sys2Proof/Machine/Boundary.lean ====
section
/-!
DEFINITION. The stroke boundary: the counter takes its next value and every stroke-driven action of the device is taken (R43 to
R64, R240, R381, R404, R418, R436, R448).
-/
namespace Sys2Proof.Machine

open Sys2Proof

/-! ### The stroke unit at its boundary (R43 to R56) -/

/-- The signed phase error in STR_STATUS.PHASE_ERR saturates at ±(2³¹ − 1) ns (Table 3.5). -/
def phaseField (ns : Int) : Nat :=
  twos 32 (if ns < -(2 ^ 31 - 1) then -(2 ^ 31 - 1) else if 2 ^ 31 - 1 < ns then 2 ^ 31 - 1 else ns)

/-- A committed change of source, period or PTP fields takes effect (R45, R50): where it restarts the lock state, the unit is LOCKED
with the internal source and UNLOCKED otherwise, BLOCK_EVT bit 16 is raised and HOLDOVER_LEFT returns to 10,000; the STR page now runs
under the Live generation (R32, R34). -/
def State.takeStrokeChange (s : State) : State :=
  match s.stroke.change with
  | none => s
  | some restart =>
    let src := if s.dwerdo then 0 else s.sh strPage Fld.STR_CFG_SOURCE
    let s := s.modStroke (fun u => { u with
      source := src, period := s.sh strPage Fld.STR_CFG_PERIOD, epoch := s.sh strPage Fld.STR_EPOCH_EPOCH_S, change := none })
    let s := s.setFld strPage Fld.STR_STATUS_SOURCE_ACTIVE src
    let s := if restart then
        let s := s.modStroke (fun u => { u with
          chain := 0, missed := 0, inTol := 0, edge := false, windows := [], ptpSlave := false, ptpSlaveAlt := false,
          stretch := false, stepDue := false })
        let s := (s.setFld strPage Fld.STR_STATUS_LOCK (if src = 0 then 2 else 0)).setFld strPage Fld.STR_STATUS_PTP_ON_ALT 0
        (s.setFld strPage Fld.STR_STATUS_HOLDOVER_LEFT 10000).raise strPage 16
      else s
    if (SMap.get? s.shape.genHeld strPage).isSome then
      ({ s with shape := { s.shape with genHeld := SMap.erase s.shape.genHeld strPage } }).showGens.raise strPage 3
    else s

/-- The phase error is measured at a boundary the source drives (R47, R48). -/
def State.measurePhase (s : State) (phaseNs : Int) : State :=
  let measured := (s.lock == 1 || s.lock == 2) &&
    ((s.stroke.source == 1 && s.stroke.edge) || (s.stroke.source == 2 && s.ptpPresent))
  if !measured then
    if s.lock = 1 then s.modStroke (fun u => { u with inTol := 0 }) else s
  else
    (s.setFld strPage Fld.STR_STATUS_PHASE_ERR (phaseField phaseNs)).modStroke (fun u =>
      { u with inTol := if phaseNs.natAbs ≤ 20 then u.inTol + 1 else 0 })

/-- The chain of edges at the unit's own boundary: the edge it expected did not come (R47).  In UNLOCKED the chain ends once the window
of its next edge has passed. -/
def State.chainAfter (s : State) : StrokeUnit :=
  let u := s.stroke
  if s.lock = 0 then
    let t : Int := u.since * (10 * u.period) - u.anchor
    { u with since := u.since + 1, chain := if u.nextEdge + s.edgeWindow < t then 0 else u.chain }
  else { u with chain := if u.edge then u.chain else 0 }

/-- The expected STROKE_IN edge of the stroke just ended was seen or missed (R47, Table 3.5).  IN_PRESENT says that an edge was seen in
any of the last four windows: the spec does not say any or all (DESIGN CHOICE, log 55). -/
def State.judgeEdge (s : State) : State :=
  if s.stroke.source ≠ 1 then s.setFld strPage Fld.STR_STATUS_IN_PRESENT 0
  else
    let seen := s.stroke.edge
    let s := { s with stroke := s.chainAfter }
    let s := s.modStroke (fun u => { u with
      windows := seen :: u.windows.take 3, missed := if seen then 0 else u.missed + 1, edge := false })
    s.setBit strPage Fld.STR_STATUS_IN_PRESENT (s.stroke.windows.any (fun w => w))

/-- The lock state's own counts at a boundary (R47, R51). -/
def State.followSource (s : State) (phaseNs : Int) : State :=
  let s := (s.measurePhase phaseNs).judgeEdge
  let s := if s.lock = 3 then
      s.setFld strPage Fld.STR_STATUS_HOLDOVER_LEFT (s.fld strPage Fld.STR_STATUS_HOLDOVER_LEFT - 1)
    else s
  if s.stroke.source = 2 then s.followPtp else s

/-! ### What each boundary records and releases -/

/-- MAX_STEP and CYCLES_LOST of the stroke just completed, and THROTTLED_STROKES (R436). -/
def State.recordSteps (s : State) : State :=
  let s := (s.setFld crnPage Fld.CRN_ACLK_STROKE_MAX_STEP s.pwr.maxStep).setFld crnPage Fld.CRN_ACLK_STROKE_CYCLES_LOST
    (min s.pwr.lost (2 ^ 32 - 1))
  let s := if s.pwr.maxStep ≠ 0 then s.addFld crnPage Fld.CRN_PWR_STATS_THROTTLED_STROKES 1 else s
  { s with pwr := { s.pwr with maxStep := s.aclkStep, lost := 0 } }

/-- A waiting WAIT_STROKE at a boundary (R60 to R62): it ends where its target is reached; a BARRIER whose waits were visible is
released; a SYNC barrier at the boundary agreed. -/
def State.strokeWait (s : State) (c : InFlight) : State :=
  if c.cmd.opFlags % 2 = 0 then waitStrokeCmd s c.ring c.seq
  else if c.cmd.opFlags % 4 = 1 then
    if s.startable c then (s.started c).releaseBarrier c s.strokeNo else s
  else
    match c.prog with
    | a :: _ => if c.phase = .started ∧ c.saved = false ∧ a ≤ s.strokeNo then s.releaseBarrier c a else s
    | [] => s

/-- Every WAIT_STROKE at a boundary, oldest first. -/
def State.strokeWaits (s : State) : State :=
  s.cmds.foldl (fun (s : State) c => if c.cmd.op = 2 then s.strokeWait c else s) s.observe

/-! ### Scheduler and watchdog (R404, R418, R448) -/

/-- A context has a command fetched and not completed (R448). -/
def State.ctxHasWork (s : State) (p c : Nat) : Bool := s.cmds.any (fun d => d.part == p && d.ctx == c)

/-- A ring of a context holds entries not yet fetched (R404). -/
def State.hasUnfetched (s : State) (p c : Nat) : Bool :=
  let (first, count) := s.shape.live.rings p
  (List.range count).any (fun i => s.ctxRing p c (first + i) && (s.ring (first + i)).st == 1 &&
    (s.ring (first + i)).head != (s.ring (first + i)).tail)

/-- The resident context at a boundary: its whole strokes (R404), its watchdog (R448) and the LAST_USE of its bindings (R418). -/
def State.residentStroke (s : State) (p c : Nat) : State :=
  let work := s.ctxHasWork p c
  let s := s.modCtx p c (fun x => { x with
    residentStrokes := if x.wholeStroke then x.residentStrokes + 1 else x.residentStrokes,
    wdCount := if x.progress then 0 else if x.wholeStroke && work then satAdd 16 x.wdCount 1 else x.wdCount,
    wholeStroke := true, progress := false })
  (s.ctx p c).binds.foldl (fun (s : State) i => s.useModel i) s

/-- A partition's scheduler at a boundary (R404).  The expiry of a quantum is QUANTUM_EXPIRY. -/
def State.schedule (s : State) (p : Nat) : State :=
  match s.resident? p with
  | none => s.startRestore p
  | some c =>
    let s := s.residentStroke p c
    if (s.ctx p c).yieldIdle && !s.ctxHasWork p c && !s.hasUnfetched p c && s.otherReady p c then s.requestPreempt p c else s

/-- TC_IP bit STROKE of the tidy cores whose context is resident (Table 7.8). -/
def State.strokeToCores (s : State) (p : Nat) : State :=
  if (s.resident? p).isNone then s else (s.partCores p).foldl (fun (s : State) n => s.tcRaise n 5) s

/-- The work of a maintenance window starts (R63, R64, R316). -/
def State.maintWork (s : State) : State :=
  let s := { s with recalWindow := [] }
  if s.maintStroke then (List.range 16).foldl (fun (s : State) d => s.windowRecal d) s else s

/-- STROKE_BOUNDARY (R43): `phaseNs` is the phase error measured against the source, and `ptpNs` the PTP time in ns.
While the counter is ahead of PTP time the boundary is withheld and counted (R53).  The counter has 64 bits and the spec gives no value
after 2^64 − 1, which a LOAD can reach: the model's counter is then 0 (DESIGN CHOICE, log 55). -/
def strokeBoundary (s : State) (phaseNs : Int) (ptpNs : Nat) : State :=
  if !s.running then s
  else if s.stroke.stretch && decide (s.ptpStroke ptpNs ≤ s.strokeNo) then s.addFld strPage Fld.STR_STRETCH_COUNT 1
  else
    let s := s.modStroke (fun u => { u with stretch := false })
    let (s, k) := s.nextCount (s.ptpStroke ptpNs)
    let s := s.setReg (strPage + Reg.STR_COUNT) (BitVec.ofNat 64 k)
    let s := (s.followSource phaseNs).takeStrokeChange
    let s := s.driveStrokeOut.recordSteps.strokeWaits
    let parts := (List.range 64).filter (fun p => s.shape.live.defined p)
    let s := parts.foldl (fun (s : State) p => ((s.kvBoundary p).schedule p).strokeToCores p) s
    s.epochEffect.maintWork.observe

/-- STROKE_BOUNDARY (R43). -/
def execStrokeBoundary (phaseNs : Int) (ptpNs : Nat) (s : State) : Host.Outcome State Fault Refusal :=
  State.done (strokeBoundary s phaseNs ptpNs)

end Sys2Proof.Machine
end

