-- ==== Sys2Proof/Machine/Dispatch.lean ====
section
/-! DEFINITION. One arm per command of the table: the command's meaning, called by its full name. -/
namespace Sys2Proof.Machine

open Sys2Proof

/-- The effect of a command on everything but the queue. -/
def exec (i : Instr) (s : State) : Host.Outcome State Fault Refusal :=
  match i with
  | .registerWrite who off w v => Sys2Proof.Machine.execRegisterWrite who off w v s
  | .blockEnable who page => Sys2Proof.Machine.execBlockEnable who page s
  | .blockCheckDone page => Sys2Proof.Machine.execBlockCheckDone page s
  | .blockDisable who page => Sys2Proof.Machine.execBlockDisable who page s
  | .blockDrainDone page => Sys2Proof.Machine.execBlockDrainDone page s
  | .engineReset who page => Sys2Proof.Machine.execEngineReset who page s
  | .engineResetDone page => Sys2Proof.Machine.execEngineResetDone page s
  | .shFieldWrite who off w v => Sys2Proof.Machine.execShFieldWrite who off w v s
  | .shpLockWrite who v => Sys2Proof.Machine.execShpLockWrite who v s
  | .shapeCommit who ctrl => Sys2Proof.Machine.execShapeCommit who ctrl s
  | .shapeCommitCheckDone => Sys2Proof.Machine.execShapeCommitCheckDone s
  | .shapeSwap => Sys2Proof.Machine.execShapeSwap s
  | .shapeRevert who ctrl => Sys2Proof.Machine.execShapeRevert who ctrl s
  | .shapePin who ctrl => Sys2Proof.Machine.execShapePin who ctrl s
  | .shapePinDone ok => Sys2Proof.Machine.execShapePinDone ok s
  | .shapeDiscard who ctrl => Sys2Proof.Machine.execShapeDiscard who ctrl s
  | .strokeBoundary phaseNs ptpNs => Sys2Proof.Machine.execStrokeBoundary phaseNs ptpNs s
  | .strokeOutFall => Sys2Proof.Machine.execStrokeOutFall s
  | .parkStrokesReached part => Sys2Proof.Machine.execParkStrokesReached part s
  | .quantumExpiry part => Sys2Proof.Machine.execQuantumExpiry part s
  | .strokeInEdge offsetNs => Sys2Proof.Machine.execStrokeInEdge offsetNs s
  | .strokeSourcePresent => Sys2Proof.Machine.execStrokeSourcePresent s
  | .strokeLockAcquired ptpNs => Sys2Proof.Machine.execStrokeLockAcquired ptpNs s
  | .strokeSourceLost => Sys2Proof.Machine.execStrokeSourceLost s
  | .holdoverExpiry => Sys2Proof.Machine.execHoldoverExpiry s
  | .ptpMessageRx port msg => Sys2Proof.Machine.execPtpMessageRx port msg s
  | .strLoad who => Sys2Proof.Machine.execStrLoad who s
  | .ccTimeSRead who => Sys2Proof.Machine.execCcTimeSRead who s
  | .ccTimeFWrite who v => Sys2Proof.Machine.execCcTimeFWrite who v s
  | .ccTimeSWrite who v => Sys2Proof.Machine.execCcTimeSWrite who v s
  | .xtalStop => Sys2Proof.Machine.execXtalStop s
  | .xtalCheck ticking => Sys2Proof.Machine.execXtalCheck ticking s
  | .vbatSample mV => Sys2Proof.Machine.execVbatSample mV s
  | .ringEnable who part v => Sys2Proof.Machine.execRingEnable who part v s
  | .ringDisable who part v => Sys2Proof.Machine.execRingDisable who part v s
  | .ringDrainDone ring => Sys2Proof.Machine.execRingDrainDone ring s
  | .dbTailWrite who ring v => Sys2Proof.Machine.execDbTailWrite who ring v s
  | .dbCqHeadWrite who ring v => Sys2Proof.Machine.execDbCqHeadWrite who ring v s
  | .commandFetch ccp => Sys2Proof.Machine.execCommandFetch ccp s
  | .commandComplete ring seq => Sys2Proof.Machine.execCommandComplete ring seq s
  | .nop ring seq => Sys2Proof.Machine.execNop ring seq s
  | .fence ring seq => Sys2Proof.Machine.execFence ring seq s
  | .waitStroke ring seq => Sys2Proof.Machine.execWaitStroke ring seq s
  | .syncBarrierPropose ring seq nodes => Sys2Proof.Machine.execSyncBarrierPropose ring seq nodes s
  | .semSignal ring seq => Sys2Proof.Machine.execSemSignal ring seq s
  | .atomic ring seq => Sys2Proof.Machine.execAtomic ring seq s
  | .pounce ring seq => Sys2Proof.Machine.execPounce ring seq s
  | .gemm ring seq => Sys2Proof.Machine.execGemm ring seq s
  | .vecStream ring seq => Sys2Proof.Machine.execVecStream ring seq s
  | .tcInstruction core => Sys2Proof.Machine.execTcInstruction core s
  | .tcIssue core addr => Sys2Proof.Machine.execTcIssue core addr s
  | .tcStickyClr core v => Sys2Proof.Machine.execTcStickyClr core v s
  | .tcWdogWrite core v => Sys2Proof.Machine.execTcWdogWrite core v s
  | .tcWatchdogExpiry core => Sys2Proof.Machine.execTcWatchdogExpiry core s
  | .tcRunWrite who core v => Sys2Proof.Machine.execTcRunWrite who core v s
  | .tcMboxWrite who core v => Sys2Proof.Machine.execTcMboxWrite who core v s
  | .convolve ring seq => Sys2Proof.Machine.execConvolve ring seq s
  | .attnFwd ring seq => Sys2Proof.Machine.execAttnFwd ring seq s
  | .attnBwd ring seq => Sys2Proof.Machine.execAttnBwd ring seq s
  | .headEditRetry ring seq => Sys2Proof.Machine.execHeadEditRetry ring seq s
  | .kvAlloc who part v => Sys2Proof.Machine.execKvAlloc who part v s
  | .kvFree who part v => Sys2Proof.Machine.execKvFree who part v s
  | .kvReown who part v => Sys2Proof.Machine.execKvReown who part v s
  | .epochAdv who part => Sys2Proof.Machine.execEpochAdv who part s
  | .limboRelease part => Sys2Proof.Machine.execLimboRelease part s
  | .kvSpill ring seq => Sys2Proof.Machine.execKvSpill ring seq s
  | .kvFetch ring seq => Sys2Proof.Machine.execKvFetch ring seq s
  | .seqPark ring seq => Sys2Proof.Machine.execSeqPark ring seq s
  | .seqUnpark ring seq => Sys2Proof.Machine.execSeqUnpark ring seq s
  | .kvMoveCommit part => Sys2Proof.Machine.execKvMoveCommit part s
  | .fulPack ring seq => Sys2Proof.Machine.execFulPack ring seq s
  | .fulUnpack ring seq => Sys2Proof.Machine.execFulUnpack ring seq s
  | .updCheck ring seq => Sys2Proof.Machine.execUpdCheck ring seq s
  | .updApply ring seq => Sys2Proof.Machine.execUpdApply ring seq s
  | .updStats ring seq => Sys2Proof.Machine.execUpdStats ring seq s
  | .factorRefresh ring seq => Sys2Proof.Machine.execFactorRefresh ring seq s
  | .mcUuStepWrite who ch v => Sys2Proof.Machine.execMcUuStepWrite who ch v s
  | .hbmAccessComplete ch acc => Sys2Proof.Machine.execHbmAccessComplete ch acc s
  | .retrainDone ch pass us lanes => Sys2Proof.Machine.execRetrainDone ch pass us lanes s
  | .rowRemapCopyDone ch entry => Sys2Proof.Machine.execRowRemapCopyDone ch entry s
  | .stackTempSample stk tempC => Sys2Proof.Machine.execStackTempSample stk tempC s
  | .recalDue ch => Sys2Proof.Machine.execRecalDue ch s
  | .recalOverdue ch => Sys2Proof.Machine.execRecalOverdue ch s
  | .recalDone ch => Sys2Proof.Machine.execRecalDone ch s
  | .evacuate ring seq => Sys2Proof.Machine.execEvacuate ring seq s
  | .frameAttrWrite who die v => Sys2Proof.Machine.execFrameAttrWrite who die v s
  | .frameRelease who die v => Sys2Proof.Machine.execFrameRelease who die v s
  | .marginStart who stk v => Sys2Proof.Machine.execMarginStart who stk v s
  | .marginDone stk errors lanes => Sys2Proof.Machine.execMarginDone stk errors lanes s
  | .nvmWriteDone ok => Sys2Proof.Machine.execNvmWriteDone ok s
  | .vcOpen ring seq => Sys2Proof.Machine.execVcOpen ring seq s
  | .vcClose ring seq => Sys2Proof.Machine.execVcClose ring seq s
  | .vcDecode ring seq => Sys2Proof.Machine.execVcDecode ring seq s
  | .vcEncode ring seq => Sys2Proof.Machine.execVcEncode ring seq s
  | .vcEncodeRowStart ring seq => Sys2Proof.Machine.execVcEncodeRowStart ring seq s
  | .vcRelease ring seq => Sys2Proof.Machine.execVcRelease ring seq s
  | .bar2Write who rid addr data => Sys2Proof.Machine.execBar2Write who rid addr data s
  | .bar2Read who rid addr len => Sys2Proof.Machine.execBar2Read who rid addr len s
  | .rwtEntryCommit who part v => Sys2Proof.Machine.execRwtEntryCommit who part v s
  | .rwtSelRead who part => Sys2Proof.Machine.execRwtSelRead who part s
  | .placeDone who part v => Sys2Proof.Machine.execPlaceDone who part v s
  | .moveRect ring seq => Sys2Proof.Machine.execMoveRect ring seq s
  | .atsInvalidate port addr len => Sys2Proof.Machine.execAtsInvalidate port addr len s
  | .rtDoorbell who part v => Sys2Proof.Machine.execRtDoorbell who part v s
  | .modelLoad part list regions => Sys2Proof.Machine.execModelLoad part list regions s
  | .modelLoadDone part => Sys2Proof.Machine.execModelLoadDone part s
  | .modelEvict part => Sys2Proof.Machine.execModelEvict part s
  | .modelPin part => Sys2Proof.Machine.execModelPin part s
  | .contextCreate part map areas => Sys2Proof.Machine.execContextCreate part map areas s
  | .contextDestroy part => Sys2Proof.Machine.execContextDestroy part s
  | .tierPolicy part => Sys2Proof.Machine.execTierPolicy part s
  | .rwtGrant part alloc => Sys2Proof.Machine.execRwtGrant part alloc s
  | .query part => Sys2Proof.Machine.execQuery part s
  | .linkRecovery port => Sys2Proof.Machine.execLinkRecovery port s
  | .linkUp port speed width cxl => Sys2Proof.Machine.execLinkUp port speed width cxl s
  | .hostLoss port => Sys2Proof.Machine.execHostLoss port s
  | .retainClaim who port ms v => Sys2Proof.Machine.execRetainClaim who port ms v s
  | .retainDiscard who port => Sys2Proof.Machine.execRetainDiscard who port s
  | .flr who => Sys2Proof.Machine.execFlr who s
  | .dwQueueEnable who port v => Sys2Proof.Machine.execDwQueueEnable who port v s
  | .dwSqTailWrite who port v => Sys2Proof.Machine.execDwSqTailWrite who port v s
  | .dwCqHeadWrite who port v => Sys2Proof.Machine.execDwCqHeadWrite who port v s
  | .dwCommand port ring => Sys2Proof.Machine.execDwCommand port ring s
  | .pfD3hot port => Sys2Proof.Machine.execPfD3hot port s
  | .pfD0 port => Sys2Proof.Machine.execPfD0 port s
  | .brimLinkUp port => Sys2Proof.Machine.execBrimLinkUp port s
  | .brimLinkLoss port => Sys2Proof.Machine.execBrimLinkLoss port s
  | .lldpTx port => Sys2Proof.Machine.execLldpTx port s
  | .lldpduRx port du => Sys2Proof.Machine.execLldpduRx port du s
  | .udpDiscoveryTimeout port => Sys2Proof.Machine.execUdpDiscoveryTimeout port s
  | .brimDrainDone port => Sys2Proof.Machine.execBrimDrainDone port s
  | .announce who edie => Sys2Proof.Machine.execAnnounce who edie s
  | .announceRx port frame => Sys2Proof.Machine.execAnnounceRx port frame s
  | .dataRx port frame => Sys2Proof.Machine.execDataRx port frame s
  | .ackRx port frame => Sys2Proof.Machine.execAckRx port frame s
  | .voteRx port frame => Sys2Proof.Machine.execVoteRx port frame s
  | .signalRx port frame => Sys2Proof.Machine.execSignalRx port frame s
  | .lostRx port frame => Sys2Proof.Machine.execLostRx port frame s
  | .nakRx port frame => Sys2Proof.Machine.execNakRx port frame s
  | .rtoExpiry port node => Sys2Proof.Machine.execRtoExpiry port node s
  | .allReduce ring seq => Sys2Proof.Machine.execAllReduce ring seq s
  | .reduceScatter ring seq => Sys2Proof.Machine.execReduceScatter ring seq s
  | .allGather ring seq => Sys2Proof.Machine.execAllGather ring seq s
  | .allToAll ring seq => Sys2Proof.Machine.execAllToAll ring seq s
  | .broadcast ring seq => Sys2Proof.Machine.execBroadcast ring seq s
  | .putRemote ring seq => Sys2Proof.Machine.execPutRemote ring seq s
  | .voteWord ring seq => Sys2Proof.Machine.execVoteWord ring seq s
  | .contextEnable who part v => Sys2Proof.Machine.execContextEnable who part v s
  | .contextDisable who part v => Sys2Proof.Machine.execContextDisable who part v s
  | .switchTo who part => Sys2Proof.Machine.execSwitchTo who part s
  | .suspend who part => Sys2Proof.Machine.execSuspend who part s
  | .resume who part => Sys2Proof.Machine.execResume who part s
  | .ctxAbort who part => Sys2Proof.Machine.execCtxAbort who part s
  | .preemptDrainDone part => Sys2Proof.Machine.execPreemptDrainDone part s
  | .contextSaveDone part ns => Sys2Proof.Machine.execContextSaveDone part ns s
  | .contextRestoreDone part ns => Sys2Proof.Machine.execContextRestoreDone part ns s
  | .preemptDeadlineExpiry part => Sys2Proof.Machine.execPreemptDeadlineExpiry part s
  | .progressWatchdogExpiry part => Sys2Proof.Machine.execProgressWatchdogExpiry part s
  | .crnResetPart who crown v => Sys2Proof.Machine.execCrnResetPart who crown v s
  | .partitionResetDone part => Sys2Proof.Machine.execPartitionResetDone part s
  | .crnResetPkg who crown v => Sys2Proof.Machine.execCrnResetPkg who crown v s
  | .resetNAssert => Sys2Proof.Machine.execResetNAssert s
  | .resetNRelease => Sys2Proof.Machine.execResetNRelease s
  | .packageResetDone found => Sys2Proof.Machine.execPackageResetDone found s
  | .standbyPowerOn vbatHeld => Sys2Proof.Machine.execStandbyPowerOn vbatHeld s
  | .coldPowerOn => Sys2Proof.Machine.execColdPowerOn s
  | .bootComplete found => Sys2Proof.Machine.execBootComplete found s
  | .pwrGoodFall => Sys2Proof.Machine.execPwrGoodFall s
  | .v48Threshold mV => Sys2Proof.Machine.execV48Threshold mV s
  | .v48Loss => Sys2Proof.Machine.execV48Loss s
  | .clusterNap clu => Sys2Proof.Machine.execClusterNap clu s
  | .deepNapEnter who part v => Sys2Proof.Machine.execDeepNapEnter who part v s
  | .deepNapEntryDone part => Sys2Proof.Machine.execDeepNapEntryDone part s
  | .deepNapExit who part v => Sys2Proof.Machine.execDeepNapExit who part v s
  | .deepNapWakeDone part => Sys2Proof.Machine.execDeepNapWakeDone part s
  | .blockHoldEntryDone => Sys2Proof.Machine.execBlockHoldEntryDone s
  | .blockHoldExitDone => Sys2Proof.Machine.execBlockHoldExitDone s
  | .powerSample inputW => Sys2Proof.Machine.execPowerSample inputW s
  | .junctionTempSample tj => Sys2Proof.Machine.execJunctionTempSample tj s
  | .coalesceWindowEnd source code => Sys2Proof.Machine.execCoalesceWindowEnd source code s
  | .errorRingHeadWrite who crown v => Sys2Proof.Machine.execErrorRingHeadWrite who crown v s
  | .svnCommit who v => Sys2Proof.Machine.execSvnCommit who v s
  | .pldmFwUpdate image => Sys2Proof.Machine.execPldmFwUpdate image s
  | .getVersion via => Sys2Proof.Machine.execGetVersion via s
  | .getCapabilities via => Sys2Proof.Machine.execGetCapabilities via s
  | .negotiateAlgorithms via => Sys2Proof.Machine.execNegotiateAlgorithms via s
  | .getDigests via => Sys2Proof.Machine.execGetDigests via s
  | .getCertificate via slot off len => Sys2Proof.Machine.execGetCertificate via slot off len s
  | .challenge via slot => Sys2Proof.Machine.execChallenge via slot s
  | .getMeasurements via index signed => Sys2Proof.Machine.execGetMeasurements via index signed s
  | .spdmUnsupportedRequest via => Sys2Proof.Machine.execSpdmUnsupportedRequest via s
  | .debugChallengeRead => Sys2Proof.Machine.execDebugChallengeRead s
  | .debugUnlockResponse level sound => Sys2Proof.Machine.execDebugUnlockResponse level sound s
  | .debugChallengeExpiry => Sys2Proof.Machine.execDebugChallengeExpiry s
  | .crystalTick => Sys2Proof.Machine.execCrystalTick s
  | .ptpMessageTx port => Sys2Proof.Machine.execPtpMessageTx port s
  | .lldpTtlExpiry port => Sys2Proof.Machine.execLldpTtlExpiry port s
  | .runtimeRestart => Sys2Proof.Machine.execRuntimeRestart s
  | .recordFlushingRead port => Sys2Proof.Machine.execRecordFlushingRead port s
  | .meshLinkFailed link => Sys2Proof.Machine.execMeshLinkFailed link s
  | .edieCrownFailed unit => Sys2Proof.Machine.execEdieCrownFailed unit s
  | .pldmRequest => Sys2Proof.Machine.execPldmRequest s
  | .selfTestSweepDone failing => Sys2Proof.Machine.execSelfTestSweepDone failing s
  | .mainPowerApply => Sys2Proof.Machine.execMainPowerApply s
  | .softStartDone => Sys2Proof.Machine.execSoftStartDone s
  | .standbyPowerLoss => Sys2Proof.Machine.execStandbyPowerLoss s

end Sys2Proof.Machine
end

