-- ==== Sys2Proof/WellFormed.lean ====
section
/-!
DEFINITION. Which commands name something the device has: the counts and widths of the spec, one named check for each kind of
operand.  The machine is total on ill-formed commands too: what they name does not exist, so nothing answers.
-/
namespace Sys2Proof

/-! ### The checks -/

/-- Host ports H0 and H1 (Table 2.1, class 0xD). -/
def hostPortOk (h : Nat) : Bool := decide (h < 2)
/-- Partitions 0 to 63 (R400). -/
def partOk (p : Nat) : Bool := decide (p < 64)
/-- Command rings 0 to 16,383 (R71). -/
def ringOk (r : Nat) : Bool := decide (r < 16384)
/-- Positions of a ring's commands: the 32-bit index a completion record carries (Table 4.10). -/
def seqOk (q : Nat) : Bool := decide (q < 2 ^ 32)
/-- Clusters 0 to 127 (Table 2.1, class 0x6). -/
def clusterOk (k : Nat) : Bool := decide (k < 128)
/-- Cores 0 to 1,023 (Table 2.1, class 0x7). -/
def coreOk (n : Nat) : Bool := decide (n < 1024)
/-- Channels 0 to 1,023 (Table 2.1, class 0x8). -/
def channelOk (c : Nat) : Bool := decide (c < 1024)
/-- HBM stacks 0 to 31 (Table 2.1, class 0x9). -/
def stackOk (k : Nat) : Bool := decide (k < 32)
/-- C-dies 0 to 15 (Table 2.1, class 0x5). -/
def dieOk (d : Nat) : Bool := decide (d < 16)
/-- E-dies 0 to 3 (Table 2.1, class 0x4). -/
def edieOk (e : Nat) : Bool := decide (e < 4)
/-- Brim ports 0 to 63 (Table 2.1, class 0xC). -/
def brimPortOk (b : Nat) : Bool := decide (b < 64)
/-- Crowns 0 and 1 (Table 2.1, class 0x0). -/
def crownOk (n : Nat) : Bool := decide (n < 2)
/-- Nodes of a system: a 13-bit NODE_ID (R379). -/
def nodeOk (n : Nat) : Bool := decide (n < 8192)
/-- Requesters of Table 2.10, virtual functions and tidy cores among them (R21, R180). -/
def requesterOk : Requester → Bool
  | .pf h => hostPortOk h
  | .vf h v => hostPortOk h && decide (v < 64)
  | .crown n => crownOk n
  | .hsc => true
  | .tidy n => coreOk n
/-- A register offset: 8-byte aligned within the 256 MiB of BAR0 (R18, R20). -/
def offsetOk (off : Nat) : Bool := decide (off < 2 ^ 28) && decide (off % 8 = 0)
/-- A page offset: 4 KiB aligned within BAR0 (R18). -/
def pageOk (off : Nat) : Bool := decide (off < 2 ^ 28) && decide (off % 4096 = 0)
/-- A PCIe requester ID (R356). -/
def ridOk (r : Nat) : Bool := decide (r < 2 ^ 16)
/-- A range of an address space of 64-bit addresses. -/
def rangeOk (a n : Nat) : Bool := decide (a + n ≤ 2 ^ 64)
/-- The ways an SPDM request comes: the DOE mailboxes of H0 and H1, and MCTP (R464). -/
def viaOk (v : Nat) : Bool := decide (v < 3)
/-- A 64-byte HBM access: aligned, at most three failed tries, 64 failing-byte bits (R310 to R312). -/
def accessOk (a : HbmAccess) : Bool :=
  decide (a.addr % 64 = 0) && decide (a.fails ≤ 3) && decide (a.bytes < 2 ^ 64) &&
    (match a.cmd with | none => true | some c => ringOk c.1 && seqOk c.2)
/-- The fields of a Brim frame's header fit their widths (Table 16.3). -/
def frameOk (f : BrimFrame) : Bool :=
  decide (f.ver < 16) && decide (f.typ < 16) && decide (f.hops < 256) && decide (f.src < 2 ^ 16) &&
    decide (f.dst < 2 ^ 16) && decide (f.seq < 2 ^ 32) && decide (f.ack < 2 ^ 32) && decide (f.epoch < 2 ^ 32) &&
    decide (f.credits < 2 ^ 16) && decide (f.job < 2 ^ 16) && decide (f.target < 2 ^ 64)
/-- A list without repeats. -/
def distinct (l : List (Nat × Nat)) : Bool := decide (l.Nodup)
/-- A boot report names each unit once, and Crowns that exist (R446, R453). -/
def reportOk (f : BootReport) : Bool := distinct f.bist && distinct f.lanes && f.sound.all crownOk && f.keys.all crownOk
/-- A firmware image names slot A or B (R456). -/
def imageOk (i : FwImage) : Bool := decide (i.slot < 2)

/-! ### The commands -/

/-- A command is well formed: every operand names something the device has. -/
def Instr.wf : Instr → Bool
  | .registerWrite who off _ _ => requesterOk who && offsetOk off
  | .blockEnable who pg => requesterOk who && pageOk pg
  | .blockCheckDone pg => pageOk pg
  | .blockDisable who pg => requesterOk who && pageOk pg
  | .blockDrainDone pg => pageOk pg
  | .engineReset who pg => requesterOk who && pageOk pg
  | .engineResetDone pg => pageOk pg
  | .shFieldWrite who off _ _ => requesterOk who && offsetOk off
  | .shpLockWrite who _ => requesterOk who
  | .shapeCommit who c => requesterOk who && c.overrides.all (fun o => decide (o.1 < 18) && decide (o.2.1 < 4096))
  | .shapeCommitCheckDone => true
  | .shapeSwap => true
  | .shapeRevert who _ => requesterOk who
  | .shapePin who _ => requesterOk who
  | .shapePinDone _ => true
  | .shapeDiscard who _ => requesterOk who
  | .strokeBoundary _ n => decide (n < 2 ^ 64)
  | .strokeOutFall => true
  | .parkStrokesReached p => partOk p
  | .quantumExpiry p => partOk p
  | .strokeInEdge _ => true
  | .strokeSourcePresent => true
  | .strokeLockAcquired n => decide (n < 2 ^ 64)
  | .strokeSourceLost => true
  | .holdoverExpiry => true
  | .ptpMessageRx b _ => brimPortOk b
  | .strLoad who => requesterOk who
  | .ccTimeSRead who => requesterOk who
  | .ccTimeFWrite who _ => requesterOk who
  | .ccTimeSWrite who _ => requesterOk who
  | .xtalStop => true
  | .xtalCheck _ => true
  | .vbatSample _ => true
  | .ringEnable who p _ => requesterOk who && partOk p
  | .ringDisable who p _ => requesterOk who && partOk p
  | .ringDrainDone r => ringOk r
  | .dbTailWrite who r _ => requesterOk who && ringOk r
  | .dbCqHeadWrite who r _ => requesterOk who && ringOk r
  | .commandFetch k => clusterOk k
  | .commandComplete r q => ringOk r && seqOk q
  | .nop r q => ringOk r && seqOk q
  | .fence r q => ringOk r && seqOk q
  | .waitStroke r q => ringOk r && seqOk q
  | .syncBarrierPropose r q ns => ringOk r && seqOk q && ns.all nodeOk
  | .semSignal r q => ringOk r && seqOk q
  | .atomic r q => ringOk r && seqOk q
  | .pounce r q => ringOk r && seqOk q
  | .gemm r q => ringOk r && seqOk q
  | .vecStream r q => ringOk r && seqOk q
  | .tcInstruction n => coreOk n
  | .tcIssue n a => coreOk n && rangeOk a 64
  | .tcStickyClr n _ => coreOk n
  | .tcWdogWrite n _ => coreOk n
  | .tcWatchdogExpiry n => coreOk n
  | .tcRunWrite who n _ => requesterOk who && coreOk n
  | .tcMboxWrite who n _ => requesterOk who && coreOk n
  | .convolve r q => ringOk r && seqOk q
  | .attnFwd r q => ringOk r && seqOk q
  | .attnBwd r q => ringOk r && seqOk q
  | .headEditRetry r q => ringOk r && seqOk q
  | .kvAlloc who p _ => requesterOk who && partOk p
  | .kvFree who p _ => requesterOk who && partOk p
  | .kvReown who p _ => requesterOk who && partOk p
  | .epochAdv who p => requesterOk who && partOk p
  | .limboRelease p => partOk p
  | .kvSpill r q => ringOk r && seqOk q
  | .kvFetch r q => ringOk r && seqOk q
  | .seqPark r q => ringOk r && seqOk q
  | .seqUnpark r q => ringOk r && seqOk q
  | .kvMoveCommit p => partOk p
  | .fulPack r q => ringOk r && seqOk q
  | .fulUnpack r q => ringOk r && seqOk q
  | .updCheck r q => ringOk r && seqOk q
  | .updApply r q => ringOk r && seqOk q
  | .updStats r q => ringOk r && seqOk q
  | .factorRefresh r q => ringOk r && seqOk q
  | .mcUuStepWrite who c _ => requesterOk who && channelOk c
  | .hbmAccessComplete c a => channelOk c && accessOk a
  | .retrainDone c _ _ _ => channelOk c
  | .rowRemapCopyDone c _ => channelOk c
  | .stackTempSample k _ => stackOk k
  | .recalDue c => channelOk c
  | .recalOverdue c => channelOk c
  | .recalDone c => channelOk c
  | .evacuate r q => ringOk r && seqOk q
  | .frameAttrWrite who d _ => requesterOk who && dieOk d
  | .frameRelease who d _ => requesterOk who && dieOk d
  | .marginStart who k _ => requesterOk who && stackOk k
  | .marginDone k _ _ => stackOk k
  | .nvmWriteDone _ => true
  | .vcOpen r q => ringOk r && seqOk q
  | .vcClose r q => ringOk r && seqOk q
  | .vcDecode r q => ringOk r && seqOk q
  | .vcEncode r q => ringOk r && seqOk q
  | .vcEncodeRowStart r q => ringOk r && seqOk q
  | .vcRelease r q => ringOk r && seqOk q
  | .bar2Write who i a b => requesterOk who && ridOk i && rangeOk a b.length
  | .bar2Read who i a n => requesterOk who && ridOk i && rangeOk a n
  | .rwtEntryCommit who p _ => requesterOk who && partOk p
  | .rwtSelRead who p => requesterOk who && partOk p
  | .placeDone who p _ => requesterOk who && partOk p
  | .moveRect r q => ringOk r && seqOk q
  | .atsInvalidate h a n => hostPortOk h && rangeOk a n
  | .rtDoorbell who p _ => requesterOk who && partOk p
  | .modelLoad p _ rs => partOk p && rs.all (fun r => rangeOk r.1 r.2)
  | .modelLoadDone p => partOk p
  | .modelEvict p => partOk p
  | .modelPin p => partOk p
  | .contextCreate p _ _ => partOk p
  | .contextDestroy p => partOk p
  | .tierPolicy p => partOk p
  | .rwtGrant p _ => partOk p
  | .query p => partOk p
  | .linkRecovery h => hostPortOk h
  | .linkUp h _ _ _ => hostPortOk h
  | .hostLoss h => hostPortOk h
  | .retainClaim who h _ _ => requesterOk who && hostPortOk h
  | .retainDiscard who h => requesterOk who && hostPortOk h
  | .flr who => requesterOk who
  | .dwQueueEnable who h _ => requesterOk who && hostPortOk h
  | .dwSqTailWrite who h _ => requesterOk who && hostPortOk h
  | .dwCqHeadWrite who h _ => requesterOk who && hostPortOk h
  | .dwCommand h r => hostPortOk h && ringOk r
  | .pfD3hot h => hostPortOk h
  | .pfD0 h => hostPortOk h
  | .brimLinkUp b => brimPortOk b
  | .brimLinkLoss b => brimPortOk b
  | .lldpTx b => brimPortOk b
  | .lldpduRx b _ => brimPortOk b
  | .udpDiscoveryTimeout b => brimPortOk b
  | .brimDrainDone b => brimPortOk b
  | .announce who e => requesterOk who && edieOk e
  | .announceRx b f => brimPortOk b && frameOk f
  | .dataRx b f => brimPortOk b && frameOk f
  | .ackRx b f => brimPortOk b && frameOk f
  | .voteRx b f => brimPortOk b && frameOk f
  | .signalRx b f => brimPortOk b && frameOk f
  | .lostRx b f => brimPortOk b && frameOk f
  | .nakRx b f => brimPortOk b && frameOk f
  | .rtoExpiry b n => brimPortOk b && nodeOk n
  | .allReduce r q => ringOk r && seqOk q
  | .reduceScatter r q => ringOk r && seqOk q
  | .allGather r q => ringOk r && seqOk q
  | .allToAll r q => ringOk r && seqOk q
  | .broadcast r q => ringOk r && seqOk q
  | .putRemote r q => ringOk r && seqOk q
  | .voteWord r q => ringOk r && seqOk q
  | .contextEnable who p _ => requesterOk who && partOk p
  | .contextDisable who p _ => requesterOk who && partOk p
  | .switchTo who p => requesterOk who && partOk p
  | .suspend who p => requesterOk who && partOk p
  | .resume who p => requesterOk who && partOk p
  | .ctxAbort who p => requesterOk who && partOk p
  | .preemptDrainDone p => partOk p
  | .contextSaveDone p _ => partOk p
  | .contextRestoreDone p _ => partOk p
  | .preemptDeadlineExpiry p => partOk p
  | .progressWatchdogExpiry p => partOk p
  | .crnResetPart who n _ => requesterOk who && crownOk n
  | .partitionResetDone p => partOk p
  | .crnResetPkg who n _ => requesterOk who && crownOk n
  | .resetNAssert => true
  | .resetNRelease => true
  | .packageResetDone f => reportOk f
  | .standbyPowerOn _ => true
  | .coldPowerOn => true
  | .bootComplete f => reportOk f
  | .pwrGoodFall => true
  | .v48Threshold _ => true
  | .v48Loss => true
  | .clusterNap k => clusterOk k
  | .deepNapEnter who p _ => requesterOk who && partOk p
  | .deepNapEntryDone p => partOk p
  | .deepNapExit who p _ => requesterOk who && partOk p
  | .deepNapWakeDone p => partOk p
  | .blockHoldEntryDone => true
  | .blockHoldExitDone => true
  | .powerSample _ => true
  | .junctionTempSample _ => true
  | .coalesceWindowEnd _ _ => true
  | .errorRingHeadWrite who n _ => requesterOk who && crownOk n
  | .svnCommit who _ => requesterOk who
  | .pldmFwUpdate i => imageOk i
  | .getVersion v => viaOk v
  | .getCapabilities v => viaOk v
  | .negotiateAlgorithms v => viaOk v
  | .getDigests v => viaOk v
  | .getCertificate v _ _ _ => viaOk v
  | .challenge v _ => viaOk v
  | .getMeasurements v _ _ => viaOk v
  | .spdmUnsupportedRequest v => viaOk v
  | .debugChallengeRead => true
  | .debugUnlockResponse l _ => decide (l = 1) || decide (l = 2)
  | .debugChallengeExpiry => true
  | .crystalTick => true
  | .ptpMessageTx b => brimPortOk b
  | .lldpTtlExpiry b => brimPortOk b
  | .runtimeRestart => true
  | .recordFlushingRead h => hostPortOk h
  | .meshLinkFailed _ => true
  | .edieCrownFailed _ => true
  | .pldmRequest => true
  | .selfTestSweepDone fs => distinct fs
  | .mainPowerApply => true
  | .softStartDone => true
  | .standbyPowerLoss => true

end Sys2Proof
end

