-- ==== Sys2Proof/Safety.lean ====
section
/-!
DEFINITION. The terms the statements use: what a state keeps whatever runs, what lets a write through to a page, when a command
stands ready in a ring, and what it means that a command runs to a next state.
-/
namespace Sys2Proof.Machine

open Sys2Proof

/-- A command runs: `exec` answers a next state, and that state has a property. -/
def Runs (c : Instr) (s : State) (P : State → Prop) : Prop := ∃ t, exec c s = .next t ∧ P t

/-! ### What a state keeps -/

/-- No wait is overlooked (R83): a fetched command that waits, and is not saved with its context, has every wait marked as met whose
semaphore stands at or above its value. -/
def State.seen (s : State) : Prop :=
  ∀ c ∈ s.cmds, c.phase = .waiting → c.saved = false →
    (∀ k, c.wait0 = some k → s.semAtLeast k c.cmd.w0Val = true → c.met0 = true) ∧
    (∀ k, c.wait1 = some k → s.semAtLeast k c.cmd.w1Val = true → c.met1 = true)

/-- Device memory is in its one canonical form: addresses strictly rising, and no entry equal to what an unlisted byte is known to
read as (log 2). -/
def State.memWf (s : State) : Prop :=
  Memory.wf s.mem = true ∧ ∀ c ∈ s.mem, (s.zeroAt c.1 && c.2 == 0) = false

/-- Host memory is in its one canonical form. -/
def State.hostWf (s : State) : Prop := Memory.wf s.host = true

/-! ### Register writes -/

/-- A requester's write is let through to a page (R19, R21, R367, R423, R429). -/
def State.letsIn (s : State) (who : Requester) (pg : Nat) : Prop :=
  s.arrives who = true ∧ s.presents who pg = true ∧ s.mayWrite who pg = true ∧ s.pageAsleep pg = false

/-- A requester that may edit the Shape: it has an ID and holds the lock (R28). -/
def State.editor (s : State) (who : Requester) : Prop :=
  s.letsIn who shpPage ∧ requesterId who ≠ 0 ∧ s.fld shpPage Fld.SHP_LOCK_HOLDER = requesterId who

/-- A doorbell write reaches a ring: its requester's port is up, a host function presents doorbells, and a confined requester's partition
owns the ring (R74, R372). -/
def State.mayRing (s : State) (who : Requester) (r : Nat) : Prop :=
  s.arrives who = true ∧ ((∃ h, who = .pf h) ∨ (∃ h v, who = .vf h v) → s.dwerdo = false) ∧
    (confined who = true → s.ringPart? r = s.reqPart? who)

/-! ### Ring commands -/

/-- No channel holds its traffic for a retrain or a recalibration (R316, R317). -/
def State.flows (s : State) : Prop := s.regs.any (fun x => holdsTraffic x.1 x.2) = false

/-- A command of an opcode stands at a ring position and may start (R88), once its command processor has observed its semaphores; no
channel holds its traffic. -/
def State.ready (s : State) (op r q : Nat) (c : InFlight) : Prop :=
  s.observe.cmdAt? r q = some c ∧ c.cmd.op = op ∧ s.observe.startable c = true ∧ s.flows

/-- The state in which a ready command starts: it has its place in the order of starts, its cluster has left Nap and its context has made
progress (R427, R448). -/
def State.atStart (s : State) (c : InFlight) : State := s.observe.started c

/-- A command of an opcode has started and goes on: it is not saved, its context holds its units, and its partition is awake. -/
def State.working (s : State) (op r q : Nat) (c : InFlight) : Prop :=
  s.observe.cmdAt? r q = some c ∧ c.cmd.op = op ∧ s.observe.startable c = false ∧ c.phase = .started ∧ c.saved = false ∧
    s.observe.draining c = false ∧ s.observe.partAsleep c.part = false ∧ s.flows

/-- The state in which a command that goes on in several events starts: it is marked as started. -/
def State.atBegin (s : State) (c : InFlight) : State :=
  (s.atStart c).modCmd c.ring c.seq (fun x => { x with phase := .started })

/-- A command has ended with a status and a count of good bytes (R86). -/
def State.endedWith (s : State) (r q status good : Nat) : Prop :=
  ∃ c, s.cmdAt? r q = some c ∧ c.phase = .ended ∧ c.status = status ∧ c.good = good

/-- What an engine command on one core leaves alone: every byte below the scratchpads (HBM, package sets, cluster memories), host memory,
rings, KV pages, channels, the Shape, windows, and the Brim and host-port units. -/
def State.coreOnly (s t : State) : Prop :=
  (s.memWf → ∀ k < spBase, t.rd k = s.rd k) ∧ t.host = s.host ∧ t.rings = s.rings ∧ t.frames = s.frames ∧ t.chans = s.chans ∧
    t.shape = s.shape ∧ t.rwt = s.rwt ∧ t.brim = s.brim ∧ t.hps = s.hps

end Sys2Proof.Machine
end

