-- ==== Sys2Proof/Certificates/Slice0/Obligations.lean ====
section
/-!
DEFINITION. The obligations: what the rules of the spec say the device does, stated of exec, of step and of the shared operations.
A field written `t = { s with … }.observe` is a frame: everything it does not name is as before, but for the waits that a command
processor observes at the end of every command (R83).
-/
open Sys2Proof Sys2Proof.Machine

/-- A step runs the command at the front of the queue. With a command at the front of the queue, a step is exec of that command on the
state with the queue's rest; with an empty queue the block idles, which is the model's choice (log 7). The table gives no row any
bits, so no word puts a command into the queue. (From 02 Register Pages, Shapes and Reason Codes: Page addressing.) -/
def Obligations.StepRunsFront : Prop := ∀ (s : State),
  (∀ c rest, s.pending = c :: rest → step s = exec c { s with pending := rest }) ∧
  (s.pending = [] → step s = .next s) ∧
  (∀ nbits w, s.withFetchWord nbits w = s)

/-- The state at reset. At State.reset the factory default Shape is Live with generation 1, Prior is empty, Pending is a copy of Live
with generation 2, DEFAULT_APPLIED is set, the named Shape fields hold the factory values and the internal stroke source is LOCKED
with the counter at 0; memory, rings, commands, contexts, frames, windows, the queue and the outputs are empty, and the three
invariants of the model hold. That State.reset is this boot, with no pinned slot, is the model's choice (log 5). (From 02 Register
Pages, Shapes and Reason Codes: Shapes, 18 Resets, Power States and Retention: Kinds of reset.) -/
def Obligations.ResetValues : Prop := let s := State.reset
  (s.seen ∧ s.memWf ∧ s.hostWf) ∧
  (s.shape.live.gen = 1 ∧ s.shape.prior.gen = 0 ∧ s.shape.pend = { s.shape.live with gen := 2 } ∧ s.shape.op = none ∧ s.shape.pin = none ∧
    s.fld shpPage Fld.SHP_GEN_LP_LIVE = 1 ∧ s.fld shpPage Fld.SHP_GEN_LP_PRIOR = 0 ∧ s.fld shpPage Fld.SHP_GEN_PP_PENDING = 2 ∧
    s.fld shpPage Fld.SHP_STATUS_DEFAULT_APPLIED = 1 ∧ s.fld shpPage Fld.SHP_LOCK_HOLDER = 0) ∧
  (s.sh (partPage 0) Fld.PART_DEF_DEFINED = 1 ∧ s.sh (partPage 0) Fld.PART_DEF_CTX_MAX = 16 ∧ s.sh (partPage 0) Fld.PART_DEF_FUL_MAX = 4 ∧
    s.sh (partPage 0) Fld.PART_DEF_PKG_SET = 0 ∧ s.sh (partPage 0) Fld.PART_RING_ALLOC_FIRST = 0 ∧
    s.sh (partPage 0) Fld.PART_RING_ALLOC_COUNT = 16384 ∧ s.sh (partPage 0) Fld.PART_RWT_ALLOC_FIRST = 0 ∧
    s.sh (partPage 0) Fld.PART_RWT_ALLOC_COUNT = 32768 ∧ s.sh (partPage 0) Fld.PART_KV_POOL_GEOM_SLOTS = 0 ∧
    s.sh (partPage 0) Fld.PART_KV_HOST_GEOM_HSLOTS = 0) ∧
  (s.sh strPage Fld.STR_CFG_SOURCE = 0 ∧ s.sh strPage Fld.STR_CFG_PERIOD = 100000 ∧ s.sh strPage Fld.STR_CFG_STROKE_OUT_EN = 0 ∧
    s.sh strPage Fld.STR_OUT_DIVIDE = 1 ∧ s.sh strPage Fld.STR_MAINT_EVERY = 0 ∧ s.sh strPage Fld.STR_MAINT_OFFSET = 0 ∧
    s.sh strPage Fld.STR_MAINT_WINDOW = 0 ∧ s.lock = 2 ∧ s.strokeNo = 0) ∧
  (∀ b ∈ List.range 64, s.sh (brmPage b) Fld.BRM_CFG_EN = 0 ∧ s.sh (brmPage b) Fld.BRM_CFG_RTO_US = 20 ∧
    s.sh (brmPage b) Fld.BRM_CFG_RETRY_MAX = 8 ∧ s.sh (brmPage b) Fld.BRM_CFG_UDP_PORT = 35000) ∧
  (∀ h ∈ List.range 2, s.sh (hpPage h) Fld.HP_PF_PARTS_PARTS = 1 ∧ s.sh (hpPage h) Fld.HP_CFG_PERSONALITY = 0 ∧
    s.sh (hpPage h) Fld.HP_CFG_CXL_MEM_EN = 1 ∧ s.sh (hpPage h) Fld.HP_CFG_ATS_EN = 1 ∧ s.sh (hpPage h) Fld.HP_CFG_TOTAL_VFS = 0 ∧
    s.sh (hpPage h) Fld.HP_CFG_HOLD_ON_HOST_LOSS = 0 ∧ s.sh (hpPage h) Fld.HP_CFG_EDIE_RT_PART = 0) ∧
  (s.sh crnPage Fld.CRN_PWR_CFG_SUSTAIN = 1800 ∧ s.sh crnPage Fld.CRN_PWR_CFG_EXCURSION = 2000 ∧
    s.sh crnPage Fld.CRN_PWR_CFG_FLOOR_STEP = 12 ∧ s.sh crnPage Fld.CRN_PWR_CFG_RESETN_RETAIN = 0 ∧
    s.sh crnPage Fld.CRN_PWR_CFG_NAP_DELAY = 10) ∧
  (s.mem = [] ∧ s.host = [] ∧ s.rings = [] ∧ s.cmds = [] ∧ s.ctxs = [] ∧ s.frames = [] ∧ s.rwt = [] ∧ s.pending = [] ∧ s.out = [])

/-- Every step observes every met wait. If every fetched, unsaved, waiting command whose semaphore stands at or above its value has
its wait marked met, then so it is after any step, whatever the command did to memory. (From 04 Command Rings, Semaphores and
Completion Order: Semaphores, 04 Command Rings, Semaphores and Completion Order: Issue and in-flight limits.) -/
def Obligations.NoWaitOverlooked : Prop := ∀ (s t : State), s.seen → step s = .next t → t.seen

/-- Every step keeps device and host memory in canonical form. If device memory and host memory are in the canonical form of the model
(addresses strictly rising, no device entry equal to what an unlisted byte is known to read as), they are after any step. (From 13
HBM Stacks, Channels and Repair: The device address map, 15 Host Ports, Host-Side Cores and Placement: Host memory access.) -/
def Obligations.MemoryFormKept : Prop := ∀ (s t : State), s.memWf → s.hostWf → step s = .next t → t.memWf ∧ t.hostWf

/-- Every command answers a next state, leaves the queue alone and only adds outputs. For every command and state exec answers a next
state in which the queue of waiting commands is unchanged, the list of outputs has the old one as its tail, and the counter of
free values has not fallen. (From 02 Register Pages, Shapes and Reason Codes: Page addressing, 04 Command Rings, Semaphores and
Completion Order: Completion records.) -/
def Obligations.CommandsAccumulate : Prop := ∀ (c : Instr) (s : State),
  ∃ t, exec c s = .next t ∧ t.pending = s.pending ∧ s.out <:+ t.out ∧ s.draws ≤ t.draws

/-- BLOCK_ENABLE and the end of the consistency check. EN = 1 on a block that is not Shape-bound, not LIVE and not being checked sets
EN and starts a check; on a LIVE block or one being checked it has no effect; on a Shape-bound block that is not enabled and not
trimmed it is refused with 0x0107. At the check's end a passed check sets LIVE and clears REFUSED, a failed one clears EN and
records the refusal, an abandoned one changes nothing but the check, and with no check running the event changes nothing. That EN
is cleared on a failed check is the model's choice (log 8). (From 02 Register Pages, Shapes and Reason Codes: The common page
header, 02 Register Pages, Shapes and Reason Codes: Enabling a block.) -/
def Obligations.BlockEnable : Prop :=
  (∀ (who : Requester) (pg : Nat) (s : State), s.letsIn who (pgBase pg) →
  (shapeBound (pgClass (pgBase pg)) = false → s.liveBlk (pgBase pg) = false → SMap.get? s.shape.checks (pgBase pg) = none →
    exec (.blockEnable who pg) s = .next ((s.setFld (pgBase pg) Fld.BLK_CTRL_EN 1).modShape (fun u =>
      { u with checks := SMap.put u.checks (pgBase pg) true })).observe) ∧
  (shapeBound (pgClass (pgBase pg)) = false → (s.liveBlk (pgBase pg) = true ∨ (SMap.get? s.shape.checks (pgBase pg)).isSome = true) →
    exec (.blockEnable who pg) s = .next s.observe) ∧
  (shapeBound (pgClass (pgBase pg)) = true → s.enabled (pgBase pg) = false → s.pageTrimmed (pgBase pg) = false →
    exec (.blockEnable who pg) s = .next (s.refuseF (pgBase pg) 0x0107 Fld.BLK_CTRL_EN).observe)) ∧
  (∀ (pg : Nat) (s : State),
  (∀ wanted, SMap.get? s.shape.checks (pgBase pg) = some wanted →
    let u := s.modShape (fun u => { u with checks := SMap.erase u.checks (pgBase pg) })
    (wanted = true → u.blockCheck? (pgBase pg) = none →
      exec (.blockCheckDone pg) s =
        .next (((u.setFld (pgBase pg) Fld.BLK_STATUS_LIVE 1).setFld (pgBase pg) Fld.BLK_STATUS_REFUSED 0).modShape (fun u =>
          { u with stopped := u.stopped.filter (fun x => x != pgBase pg) })).observe) ∧
    (wanted = true → ∀ code off lsb, u.blockCheck? (pgBase pg) = some (code, off, lsb) →
      exec (.blockCheckDone pg) s = .next ((u.setFld (pgBase pg) Fld.BLK_CTRL_EN 0).refuse (pgBase pg) code off lsb).observe) ∧
    (wanted = false → exec (.blockCheckDone pg) s = .next u.observe)) ∧
  (SMap.get? s.shape.checks (pgBase pg) = none → exec (.blockCheckDone pg) s = .next s.observe))

/-- BLOCK_DISABLE, BLOCK_DRAIN_DONE, ENGINE_RESET and its end. EN = 0 on a block that is not Shape-bound abandons a running check,
else clears LIVE at once when no work is in flight and at the drain's end otherwise. An engine reset of a unit with no work in
flight marks the page under reset and leaves every register of other pages, memory, host memory, rings, contexts, frames and
channels as they were; its end unmarks that page alone. (From 02 Register Pages, Shapes and Reason Codes: The common page header,
02 Register Pages, Shapes and Reason Codes: Enabling a block, 18 Resets, Power States and Retention: Kinds of reset.) -/
def Obligations.BlockDisable : Prop :=
  (∀ (who : Requester) (pg : Nat) (s : State),
  shapeBound (pgClass (pgBase pg)) = false →
  let off := (s.setFld (pgBase pg) Fld.BLK_CTRL_EN 0).modShape (fun u => { u with
    stopped := if s.liveBlk (pgBase pg) && !u.stopped.contains (pgBase pg) then pgBase pg :: u.stopped else u.stopped })
  (s.letsIn who (pgBase pg) → (SMap.get? s.shape.checks (pgBase pg)).isSome = true →
    exec (.blockDisable who pg) s = .next (off.modShape (fun u => { u with checks := SMap.put u.checks (pgBase pg) false })).observe) ∧
  (s.letsIn who (pgBase pg) → SMap.get? s.shape.checks (pgBase pg) = none → off.hasWork (pgBase pg) = true →
    exec (.blockDisable who pg) s = .next off.observe) ∧
  (s.letsIn who (pgBase pg) → SMap.get? s.shape.checks (pgBase pg) = none → off.hasWork (pgBase pg) = false →
    exec (.blockDisable who pg) s = .next (off.setFld (pgBase pg) Fld.BLK_STATUS_LIVE 0).observe) ∧
  (s.enabled (pgBase pg) = false → s.hasWork (pgBase pg) = false → pagePresent (pgBase pg) = true →
    exec (.blockDrainDone pg) s = .next (s.setFld (pgBase pg) Fld.BLK_STATUS_LIVE 0).observe) ∧
  (s.hasWork (pgBase pg) = true → exec (.blockDrainDone pg) s = .next s.observe)) ∧
  (∀ (who : Requester) (pg : Nat) (s : State),
  (s.letsIn who (pgBase pg) → (∀ c ∈ s.cmds, s.endsWith (pgBase pg) c = false) →
    Runs (.engineReset who pg) s (fun t =>
      pgBase pg ∈ t.shape.engineResets ∧
      (∀ k, pgBase k ≠ pgBase pg → pgBase k ≠ pgBase (regKey (pgBase pg) 0x100) → t.reg k = s.reg k) ∧
      ((pgClass (pgBase pg) = 11 → (s.vc (pgInst (pgBase pg))).slots = []) → t.mem = s.mem) ∧
      t.host = s.host ∧ t.rings = s.rings ∧ t.ctxs = s.ctxs ∧ t.frames = s.frames ∧ t.chans = s.chans)) ∧
  Runs (.engineResetDone pg) s (fun t =>
    t = { s with shape := { s.shape with engineResets := t.shape.engineResets } }.observe ∧ pgBase pg ∉ t.shape.engineResets ∧
      ∀ x ≠ pgBase pg, x ∈ t.shape.engineResets ↔ x ∈ s.shape.engineResets))

/-- REGISTER_WRITE by access type. A 64-bit write of BLK_INT_STATUS clears exactly the bits written 1 among the defined ones; a write
of BLK_INT_MASK that unmasks nothing pending and a write of CRN_ERR_CFG store exactly the writable bits; each leaves every other
register and the rest of the state alone. A write to a header register without writable fields changes nothing. A write by a
confined requester to a page it is not presented raises IGNORED_WRITE on its own PART page alone. (From 02 Register Pages, Shapes
and Reason Codes: The common page header, 02 Register Pages, Shapes and Reason Codes: Enabling a block, 00 About This Manual:
Register access types, 19 Errors, Trim Map and the Recovery Ladder: Registers.) -/
def Obligations.RegisterWrite : Prop := ∀ (who : Requester) (pg : Nat) (v : Word64) (s : State),
  let k30 := pgBase pg + 0x30
  let k38 := pgBase pg + 0x38
  (s.letsIn who (pgBase pg) →
    Runs (.registerWrite who k30 .w64 v) s (fun t =>
      t.reg k30 = s.reg k30 &&& ~~~(v &&& 0xFFFF000F) ∧ (∀ k, k ≠ k30 → t.reg k = s.reg k) ∧
      t = { s with regs := t.regs, shape := { s.shape with halves := t.shape.halves } }.observe)) ∧
  (s.letsIn who (pgBase pg) → s.reg k38 &&& ~~~v &&& s.reg k30 &&& 0xFFFF000F = 0 →
    Runs (.registerWrite who k38 .w64 v) s (fun t =>
      t.reg k38 = (s.reg k38 &&& ~~~0xFFFF000F) ||| (v &&& 0xFFFF000F) ∧ (∀ k, k ≠ k38 → t.reg k = s.reg k) ∧
      t = { s with regs := t.regs, shape := { s.shape with halves := t.shape.halves } }.observe)) ∧
  (s.letsIn who (pgBase pg) → ∀ off w, off ∈ [0x00, 0x08, 0x18, 0x20, 0x28, 0x40] →
    exec (.registerWrite who (pgBase pg + off) w v) s = .next s.observe) ∧
  (∀ p w off, off < 4096 → (shOffs (pgClass pg)).contains off = false → s.arrives who = true → confined who = true →
      s.presents who (pgBase pg) = false → s.reqPart? who = some p →
    exec (.registerWrite who (pgBase pg + off) w v) s = .next (s.raise (partPage p) 0).observe) ∧
  (s.letsIn who crnPage → Runs (.registerWrite who (crnPage + 0x140) .w64 v) s (fun t =>
    t.reg (crnPage + 0x140) = (s.reg (crnPage + 0x140) &&& ~~~0x1F) ||| (v &&& 0x1F) ∧ (∀ k, k ≠ crnPage + 0x140 → t.reg k = s.reg k) ∧
    t = { s with regs := t.regs, shape := { s.shape with halves := t.shape.halves } }.observe))

/-- A 64-bit write of an SH register changes the Pending bank alone. By the lock's holder with no Shape operation under way it changes
only the writable bits of that register in Pending and SHP_STATUS.DIRTY, which then says whether Pending differs from Live; by
another requester it is refused with 0x0208, with an operation under way with 0x0203, in BLK_REASON and in LAST_RESULT. (From 02
Register Pages, Shapes and Reason Codes: Shapes.) -/
def Obligations.ShapeFieldWrite : Prop := ∀ (who : Requester) (off : Nat) (v : Word64) (row : RegRow) (s : State),
  let key := regKey (pgBase off) (pgOff off)
  let m := reachMask (shFields row) .w64
  s.letsIn who (pgBase off) → confined who = false → regRow? (pgClass off) (pgOff off) = some row → shFields row ≠ [] →
  (requesterId who ≠ 0 → s.fld shpPage Fld.SHP_LOCK_HOLDER = requesterId who → s.shape.op = none →
    Runs (.shFieldWrite who off .w64 v) s (fun t =>
      SMap.getD t.shape.pend.words key 0 = (SMap.getD s.shape.pend.words key 0 &&& ~~~m) ||| (v &&& m) ∧
      (∀ k, k ≠ key → SMap.getD t.shape.pend.words k 0 = SMap.getD s.shape.pend.words k 0) ∧
      t.fld shpPage Fld.SHP_STATUS_DIRTY = (if bankDiffers t.shape.pend s.shape.live then 1 else 0) ∧
      (∀ k, k ≠ shpPage + 0x108 → t.reg k = s.reg k) ∧
      t = { s with regs := t.regs, shape := { s.shape with pend := t.shape.pend, halves := t.shape.halves } }.observe)) ∧
  ((requesterId who = 0 ∨ s.fld shpPage Fld.SHP_LOCK_HOLDER ≠ requesterId who) →
    exec (.shFieldWrite who off .w64 v) s = .next ((s.setFld shpPage Fld.SHP_STATUS_LAST_RESULT 0x0208).refuseF shpPage 0x0208
      Fld.SHP_LOCK_HOLDER).observe) ∧
  (requesterId who ≠ 0 → s.fld shpPage Fld.SHP_LOCK_HOLDER = requesterId who → s.shape.op ≠ none →
    exec (.shFieldWrite who off .w64 v) s = .next ((s.setFld shpPage Fld.SHP_STATUS_LAST_RESULT 0x0203).refuse shpPage 0x0203
      (pgOff off) 0).observe)

/-- Who may write SH fields and SHP_CTRL, and SHP_LOCK. The five requesters of Table 2.10 have their IDs and no other requester has
one. The lock is claimed with the writer's own ID while HOLDER is 0 and released by its holder writing 0. A claim while it is
held, an ID that is not the writer's own, a release by another, and any SHP_CTRL or SH write by a requester other than the holder
change nothing but the refusal 0x0208, in the SHP page's BLK_REASON and in LAST_RESULT; an SH write by a confined requester never
reaches the field. (States R28.) -/
def Obligations.ShapeLock : Prop := (requesterId (.pf 0) = 0x0001 ∧ requesterId (.pf 1) = 0x0002 ∧ requesterId (.crown 0) = 0x0010 ∧ requesterId (.crown 1) = 0x0011 ∧
    requesterId .hsc = 0x0020 ∧
    ∀ who, who ∉ [Requester.pf 0, .pf 1, .crown 0, .crown 1, .hsc] → requesterId who = 0) ∧
  ∀ (who : Requester) (v : Word64) (s : State),
  let id := requesterId who
  let holder := s.fld shpPage Fld.SHP_LOCK_HOLDER
  let refused := Host.Outcome.next (σ := State) (φ := Fault) (ρ := Refusal)
    ((s.setFld shpPage Fld.SHP_STATUS_LAST_RESULT 0x0208).refuseF shpPage 0x0208 Fld.SHP_LOCK_HOLDER).observe
  (s.letsIn who shpPage →
    (id ≠ 0 → holder = 0 → getBits v 15 0 = id →
      exec (.shpLockWrite who v) s = .next (s.setFld shpPage Fld.SHP_LOCK_HOLDER id).observe) ∧
    (id ≠ 0 → holder = id → getBits v 15 0 = 0 →
      exec (.shpLockWrite who v) s = .next (s.setFld shpPage Fld.SHP_LOCK_HOLDER 0).observe) ∧
    (getBits v 15 0 ≠ 0 → (id = 0 ∨ holder ≠ 0 ∨ getBits v 15 0 ≠ id) → exec (.shpLockWrite who v) s = refused) ∧
    (getBits v 15 0 = 0 → holder ≠ 0 → holder ≠ id → exec (.shpLockWrite who v) s = refused) ∧
    ((id = 0 ∨ holder ≠ id) →
      ∀ ov, ∀ i, i ∈ [Instr.shapeCommit who ⟨v, ov⟩, .shapeRevert who v, .shapeDiscard who v, .shapePin who v] →
      exec i s = .next ((s.setFld shpPage Fld.SHP_STATUS_LAST_RESULT 0x0208).refuse shpPage 0x0208 Fld.SHP_CTRL_COMMIT.off 0).observe)) ∧
  (∀ off w row, s.letsIn who (pgBase off) → regRow? (pgClass off) (pgOff off) = some row → shFields row ≠ [] →
    (confined who = true → exec (.shFieldWrite who off w v) s = .next (s.ignoredWrite who).observe) ∧
    (confined who = false → (id = 0 ∨ holder ≠ id) → exec (.shFieldWrite who off w v) s = refused))

/-- COMMIT, REVERT, DISCARD and PIN begin, and the commit check ends. By the lock's holder with no operation under way: a commit
stages its trim overrides in Pending (an operand, the model's choice, log 16), records the changed partitions and what is busy now
among them, the ports it disables, the rings it moves and the units it removes, and sets BUSY; a revert to a non-empty Prior with
Pending equal to Live and its changed partitions idle does the same for Prior; a discard sets Pending to Live with the next
generation; a pin of the Live bank chooses the slot that is not current and sets PIN_BUSY. A commit check that finds no fault is
passed; one that finds a fault ends the operation with LAST_OP 1, its result and SHP_FAIL, and changes nothing else but registers
and outputs. (From 02 Register Pages, Shapes and Reason Codes: Shapes.) -/
def Obligations.ShapeOperations : Prop :=
  (∀ (who : Requester) (c : Word64) (s : State), s.editor who →
  (getBits c 2 2 = 1 → s.shape.pin = none) → s.shape.op = none →
  let pin := decide (getBits c 2 2 = 1)
  let busy (u : State) (op : ShapeOp) : State := ({ u with shape := { u.shape with op := some op } }).setFld shpPage Fld.SHP_STATUS_BUSY 1
  let rv := changedParts s.shape.live s.shape.prior
  (getBits c 1 1 = 0 → getBits c 3 3 = 0 → ∀ ov,
    let u := ({ s with shape := { s.shape with pend := { s.shape.pend with overrides := ov } } }).setDirty
    let ch := changedParts u.shape.live u.shape.pend
    exec (.shapeCommit who ⟨c, ov⟩) s = .next (busy u
      { kind := .commit, passed := false, pinAfter := pin, held := ch, busyParts := ch.filter (fun p => !u.idle p),
        busyPorts := u.busyPorts u.shape.live u.shape.pend, busyRings := u.busyRings u.shape.live u.shape.pend,
        busyUnits := u.busyUnits u.shape.pend }).observe) ∧
  (getBits c 0 0 = 0 → getBits c 3 3 = 0 → s.shape.prior.gen ≠ 0 → bankDiffers s.shape.pend s.shape.live = false →
      (∀ p ∈ rv, s.idle p = true) →
    exec (.shapeRevert who c) s = .next (busy s
      { kind := .revert, passed := true, pinAfter := pin, held := rv, busyParts := [], busyPorts := [], busyRings := [],
        busyUnits := [] }).observe) ∧
  (getBits c 0 0 = 0 → getBits c 1 1 = 0 → getBits c 2 2 = 0 →
    exec (.shapeDiscard who c) s =
      .next (({ s with shape := { s.shape with pend := { s.shape.live with gen := s.shape.nextGen } } }).setDirty.shapeDone 4).observe) ∧
  (getBits c 0 0 = 0 → getBits c 1 1 = 0 → getBits c 3 3 = 0 → s.shape.pin = none →
    let slot := match s.shape.cur with | some 0 => 1 | _ => 0
    exec (.shapePin who c) s =
      .next (({ s with shape := { s.shape with pin := some ⟨slot, s.shape.live⟩ } }).setFld shpPage Fld.SHP_STATUS_PIN_BUSY 1).observe)) ∧
  (∀ (s : State) (op : ShapeOp), s.shape.op = some op → op.kind = .commit → op.passed = false →
  (s.commitFail? s.shape.pend op = none →
    exec .shapeCommitCheckDone s = .next ({ s with shape := { s.shape with op := some { op with passed := true } } }).observe) ∧
  (∀ f, s.commitFail? s.shape.pend op = some f →
    Runs .shapeCommitCheckDone s (fun t =>
      t.shape = { s.shape with op := none } ∧ t.fld shpPage Fld.SHP_STATUS_BUSY = 0 ∧
      t.fld shpPage Fld.SHP_STATUS_LAST_OP = 1 ∧
      t.fld shpPage Fld.SHP_STATUS_LAST_RESULT = (if f.cross then f.code else 0x020F) % 2 ^ 16 ∧
      t.fld shpPage Fld.SHP_FAIL_FAIL_PAGE = f.pg % 2 ^ 28 ∧ t.fld shpPage Fld.SHP_FAIL_FIELD_OFFSET = f.off % 2 ^ 16 ∧
      t.fld shpPage Fld.SHP_FAIL_CODE = f.code % 2 ^ 16 ∧
      t = { s with regs := t.regs, shape := t.shape, out := t.out }.observe)))

/-- The swap, and the end of a pin. The swap of a passed commit makes Pending Live with the next generation, that of a revert makes
Prior Live; the old Live becomes Prior, Pending becomes a copy of Live with the generation after the highest, BUSY clears with
LAST_RESULT 0, and a requested pin starts in a slot other than the current one, unless one is under way: then that one stands and
0x0201 is reported. Without a passed operation it changes nothing. A pin's end writes its slot with a higher sequence number than
both, makes it current and PINNED on success, and on failure leaves the current slot and reports 0x020D. (From 02 Register Pages,
Shapes and Reason Codes: Shapes.) -/
def Obligations.ShapeSwap : Prop :=
  (∀ (s : State),
  (∀ op, s.shape.op = some op → op.passed = true → Runs .shapeSwap s (fun t =>
    (op.kind = .commit → t.shape.live = { s.shape.pend with gen := s.shape.nextGen } ∧ t.shape.highGen = s.shape.nextGen) ∧
    (op.kind = .revert → t.shape.live = s.shape.prior ∧ t.shape.highGen = s.shape.highGen) ∧
    t.shape.prior = s.shape.live ∧ t.shape.nextGen = genAfter t.shape.highGen ∧
    t.shape.pend = { t.shape.live with gen := t.shape.nextGen } ∧ t.shape.op = none ∧ t.fld shpPage Fld.SHP_STATUS_BUSY = 0 ∧
    (op.pinAfter = false ∨ s.shape.pin = none → t.fld shpPage Fld.SHP_STATUS_LAST_RESULT = 0 ∧
      t.fld shpPage Fld.SHP_STATUS_LAST_OP = (match op.kind with | .commit => 1 | .revert => 2)) ∧
    (op.pinAfter = false ∨ s.shape.pin ≠ none → t.shape.pin = s.shape.pin) ∧
    (op.pinAfter = true → s.shape.pin ≠ none → t.fld shpPage Fld.SHP_STATUS_LAST_RESULT = 0x0201) ∧
    (op.pinAfter = true → s.shape.pin = none →
      ∃ n < 2, t.shape.pin = some ⟨n, t.shape.live⟩ ∧ s.shape.cur ≠ some n ∧ t.fld shpPage Fld.SHP_STATUS_PIN_BUSY = 1))) ∧
  ((s.shape.op = none ∨ ∃ op, s.shape.op = some op ∧ op.passed = false) → exec .shapeSwap s = .next s.observe)) ∧
  (∀ (s : State) (p : PinOp), s.shape.pin = some p → p.slot < 2 →
  let seqOf (x : Option NvmSlot) : Nat := match x with | some n => n.seq | none => 0
  ∀ ok, Runs (.shapePinDone ok) s (fun t =>
    t.shape.pin = none ∧ t.fld shpPage Fld.SHP_STATUS_PIN_BUSY = 0 ∧ t.fld shpPage Fld.SHP_STATUS_LAST_OP = 3 ∧
    (∃ n, t.shape.slot? p.slot = some n ∧ n.bank = p.bank ∧ n.crcOk = ok ∧ seqOf s.shape.slot0 < n.seq ∧ seqOf s.shape.slot1 < n.seq) ∧
    t.shape.slot? (1 - p.slot) = s.shape.slot? (1 - p.slot) ∧ t.shape.live = s.shape.live ∧ t.shape.pend = s.shape.pend ∧
    (ok = true → t.shape.cur = some p.slot ∧ t.fld shpPage Fld.SHP_GEN_PP_PINNED = p.bank.gen % 2 ^ 32 ∧
      t.fld shpPage Fld.SHP_STATUS_LAST_RESULT = 0) ∧
    (ok = false → t.shape.cur = s.shape.cur ∧ t.fld shpPage Fld.SHP_STATUS_LAST_RESULT = 0x020D) ∧
    t.mem = s.mem ∧ t.rings = s.rings ∧ t.frames = s.frames))

/-- The stroke source: edges, presence, lock, loss and holdover. A STROKE_IN edge in its window counts, one outside it is ignored with
STR_IN_ERR and bit 21 and breaks the chain; in UNLOCKED the first edge starts a chain, a later one is judged against the first
plus a whole number of periods, and one that comes after a missed edge starts a new chain; a present source moves UNLOCKED or
HOLDOVER to ACQUIRING; 16 strokes in tolerance move ACQUIRING to LOCKED and decide a step or a stretch by the stroke number that
the PTP time gives (a time within 20 ns before a boundary counting as that boundary is the model's reading, log 55); four missed
edges move LOCKED to HOLDOVER with HOLDOVER_LEFT 10,000; a holdover that has run out goes to UNLOCKED. (From 03 Strokes and the
Calendar Clock: Sources and lock, 03 Strokes and the Calendar Clock: Aligning the counter.) -/
def Obligations.StrokeSource : Prop := ∀ (s : State), s.running = true →
  (∀ off : Int, s.stroke.source = 1 →
    let u := s.stroke
    let win := max (u.period / 100) 100
    let e := (s.addFld strPage Fld.STR_IN_ERR_COUNT 1).raise strPage 21
    let ignored := ({ e with stroke := { u with chain := 0 } }).observe
    let first := ({ s with stroke := { u with edge := true, chain := 1, missed := 0, anchor := off, since := 0, lastEdge := 0 } }).observe
    let d : Int := u.since * (10 * u.period) + off - u.anchor
    let due : Int := (u.lastEdge + 1) * (10 * u.period)
    (s.lock ≠ 0 → off.natAbs ≤ win →
      exec (.strokeInEdge off) s = .next ({ s with stroke := { u with edge := true, chain := u.chain + 1, missed := 0 } }).observe) ∧
    (s.lock ≠ 0 → win < off.natAbs → exec (.strokeInEdge off) s = .next ignored) ∧
    (s.lock = 0 → u.chain = 0 → exec (.strokeInEdge off) s = .next first) ∧
    (s.lock = 0 → u.chain ≠ 0 →
      ((d - due).natAbs ≤ win → exec (.strokeInEdge off) s = .next
        ({ s with stroke := { u with edge := true, chain := u.chain + 1, missed := 0, lastEdge := u.lastEdge + 1 } }).observe) ∧
      (due + win < d → exec (.strokeInEdge off) s = .next first) ∧
      (d + win < due → exec (.strokeInEdge off) s = .next ignored))) ∧
  ((s.stroke.source = 1 ∧ ((s.lock = 0 ∧ 4 ≤ s.stroke.chain) ∨ (s.lock = 3 ∧ 16 ≤ s.stroke.chain)) ∨
      s.stroke.source = 2 ∧ ((s.lock = 0 ∧ s.stroke.ptpSlave = true) ∨ (s.lock = 3 ∧ s.ptpPresent = true))) →
    exec .strokeSourcePresent s =
      .next (({ s with stroke := { s.stroke with inTol := 0, missed := 0 } }.setFld strPage Fld.STR_STATUS_LOCK 1).raise strPage 16).observe) ∧
  (∀ ptpNs, s.lock = 1 → 16 ≤ s.stroke.inTol →
    let k := (ptpNs + 20 - s.stroke.epoch * 10 ^ 9) / (10 * s.stroke.period)
    exec (.strokeLockAcquired ptpNs) s =
      .next (({ s with stroke := { s.stroke with
          disciplined := true, missed := 0,
          stepDue := decide (s.stroke.source = 2 ∧ s.strokeNo < k),
          stretch := decide (s.stroke.source = 2 ∧ k < s.strokeNo) } }.setFld strPage Fld.STR_STATUS_LOCK 2).raise strPage 16).observe) ∧
  (s.stroke.source = 1 → 4 ≤ s.stroke.missed → s.lock = 2 →
    Runs .strokeSourceLost s (fun t =>
      t.lock = 3 ∧ t.fld strPage Fld.STR_STATUS_HOLDOVER_LEFT = 10000 ∧ t.fld strPage Fld.STR_STATUS_PTP_ON_ALT = 0 ∧
      t.stroke = { s.stroke with chain := 0, inTol := 0, stretch := false, stepDue := false } ∧ t.strokeNo = s.strokeNo ∧
      t = { s with regs := t.regs, stroke := t.stroke, out := t.out }.observe)) ∧
  (s.lock = 3 → s.fld strPage Fld.STR_STATUS_HOLDOVER_LEFT = 0 →
    exec .holdoverExpiry s = .next (((({ s with stroke := { s.stroke with chain := 0 } }).setFld strPage
      Fld.STR_STATUS_LOCK 0).raise strPage 16).raise strPage 19).observe)

/-- The calendar clock, PTP messages, STR_CMD.LOAD and STROKE_OUT's fall. Reading CC_TIME_S latches the fraction; the PF or a Crown
sets the time by CC_TIME_F and then CC_TIME_S, another requester is refused with 0x0104; a stopped crystal, its return, a VBAT
sample and a crystal tick change the calendar as stated; a PTP message on the designated port moves its slave state, an Announce
to what the best master clock algorithm decides (its outcome is an operand, log 55), and a Pdelay_Req is answered; the slave port
sends a delay request; LOAD arms the value for a PF or Crown and is refused with 0x0102 at SOURCE = 2 and with 0x0104 for others
(0x0104 is the model's choice here and for the calendar, log 9); STROKE_OUT falls. (From 03 Strokes and the Calendar Clock: The
calendar clock, 03 Strokes and the Calendar Clock: PTP, 03 Strokes and the Calendar Clock: Aligning the counter, 03 Strokes and
the Calendar Clock: STROKE_OUT.) -/
def Obligations.ClocksAndPtp : Prop :=
  (∀ (s : State),
  (∀ who : Requester, s.arrives who = true → s.mayRead who ccPage = true →
    exec (.ccTimeSRead who) s =
      .next (({ s with cal := { s.cal with latched := s.cal.frac } }).emit (.data (leBytes 8 s.cal.secs))).observe) ∧
  (∀ who v, s.letsIn who ccPage → privileged who = true →
    exec (.ccTimeFWrite who v) s = .next ({ s with cal := { s.cal with heldFrac := getBits v 31 0 } }).observe ∧
    exec (.ccTimeSWrite who v) s = .next ({ s with cal := { s.cal with
      secs := v.toNat, frac := s.cal.heldFrac, heldFrac := 0 } }.setFld ccPage Fld.CC_STATUS_TIME_INVALID 0).observe) ∧
  (∀ who v, s.letsIn who ccPage → privileged who = false →
    exec (.ccTimeFWrite who v) s = .next (s.refuse ccPage 0x0104 0x108 0).observe ∧
    exec (.ccTimeSWrite who v) s = .next (s.refuse ccPage 0x0104 0x100 0).observe) ∧
  (s.pwr.mainLost = false → s.fld ccPage Fld.CC_STATUS_XTAL_FAIL = 0 →
    exec .xtalStop s = .next ((({ s with cal := { s.cal with onOsc := true, xtalStopped := true, returning := false } }.setFld
      ccPage Fld.CC_STATUS_XTAL_FAIL 1).setFld ccPage Fld.CC_STATUS_TIME_INVALID 1).calRecord 0xF007).observe) ∧
  (s.pwr.mainLost = false → s.fld ccPage Fld.CC_STATUS_XTAL_FAIL = 1 →
    exec (.xtalCheck true) s = .next (({ s with cal := { s.cal with returning := true, xtalStopped := false } }.setFld
      ccPage Fld.CC_STATUS_XTAL_FAIL 0).calRecord 0xF008).observe ∧
    exec (.xtalCheck false) s = .next s.observe) ∧
  (∀ mV, s.pwr.mainLost = false →
    exec (.vbatSample mV) s = .next (s.setFld ccPage Fld.CC_STATUS_VBAT_LOW (if mV < 2500 then 1 else 0)).observe) ∧
  ((s.pwr.mainLost = false ∨ s.fld ccPage Fld.CC_STATUS_XTAL_FAIL = 0) →
    let acc : Int := s.cal.trimAcc + 131072 * s.trimPpm
    let total : Int := s.cal.frac + 131072 + acc / 100000000
    exec .crystalTick s = .next ({ s with cal := { s.cal with
      frac := (total % (2 ^ 32 : Int)).toNat, secs := (s.cal.secs + (total / (2 ^ 32 : Int)).toNat) % 2 ^ 64,
      trimAcc := acc % 100000000, onOsc := if s.cal.returning then false else s.cal.onOsc, returning := false } }).observe)) ∧
  (∀ (s : State),
  (∀ port msg, s.running = true → s.stroke.source = 2 → 2 ≤ s.portState port → msg.domain = s.sh strPage Fld.STR_CFG_PTP_DOMAIN →
      port = s.sh strPage Fld.STR_CFG_PTP_PORT →
      (s.sh strPage Fld.STR_CFG_PTP_ALT_EN = 0 ∨ port ≠ s.sh strPage Fld.STR_CFG_PTP_ALT_PORT) →
    let u (slave : Bool) : State := ({ s with stroke := { s.stroke with ptpSlave := slave } }).followPtp
    (msg.kind = 11 → exec (.ptpMessageRx port msg) s = .next (u msg.slave).observe) ∧
    (msg.kind ≠ 11 → msg.kind ≠ 2 → exec (.ptpMessageRx port msg) s = .next (u (s.stroke.ptpSlave && msg.slave)).observe) ∧
    (msg.kind = 2 → exec (.ptpMessageRx port msg) s =
      .next (((u (s.stroke.ptpSlave && msg.slave)).emit (.ptp port 3)).emit (.ptp port 10)).observe)) ∧
  (∀ port, s.running = true → s.stroke.source = 2 → 2 ≤ s.portState port → port = s.sh strPage Fld.STR_CFG_PTP_PORT →
      s.stroke.ptpSlave = true →
    exec (.ptpMessageTx port) s = .next ({ s with out := .ptp port 1 :: s.out }).observe) ∧
  (∀ who, s.letsIn who strPage →
    (privileged who = true → s.sh strPage Fld.STR_CFG_SOURCE ≠ 2 →
      exec (.strLoad who) s =
        .next ({ s with stroke := { s.stroke with armed := some (s.reg (strPage + 0x150)).toNat } }).observe) ∧
    (privileged who = true → s.sh strPage Fld.STR_CFG_SOURCE = 2 →
      exec (.strLoad who) s = .next (s.refuse strPage 0x0102 0x158 0).observe) ∧
    (privileged who = false → exec (.strLoad who) s = .next (s.refuse strPage 0x0104 0x158 0).observe)) ∧
  exec .strokeOutFall s = .next ({ s with pins := { s.pins with strokeOut := false } }).observe)

/-- A stroke boundary. A boundary withheld for alignment only counts STR_STRETCH. Otherwise, in a state with no command in flight, no
defined partition, no source change, no maintenance strokes and no membership change pending, the counter takes the next value,
the value PTP time gives where a step is due, or the armed value where that is greater (modulo 2^64, which is the model's choice,
log 55), STROKE_OUT rises at multiples of DIVIDE when enabled, CRN_ACLK_STROKE reports the stroke's highest step, and the Shape,
rings, commands, contexts, channels, calendar and memories are unchanged. (From 03 Strokes and the Calendar Clock: Stroke
numbering, 03 Strokes and the Calendar Clock: Aligning the counter, 03 Strokes and the Calendar Clock: STROKE_OUT.) -/
def Obligations.StrokeBoundary : Prop := ∀ (phaseNs : Int) (ptpNs : Nat) (s : State), s.running = true →
  let ptp := (ptpNs + 20 - s.stroke.epoch * 10 ^ 9) / (10 * s.stroke.period)
  (s.stroke.stretch = true → ptp ≤ s.strokeNo →
    exec (.strokeBoundary phaseNs ptpNs) s = .next (s.addFld strPage Fld.STR_STRETCH_COUNT 1).observe) ∧
  ((s.stroke.stretch = false ∨ s.strokeNo < ptp) → s.cmds = [] → (∀ p < 64, s.shape.live.defined p = false) →
      s.stroke.change = none → s.sh strPage Fld.STR_MAINT_EVERY = 0 → s.brim.pend = none →
    let next := if s.stroke.stepDue then max (s.strokeNo + 1) ptp else s.strokeNo + 1
    Runs (.strokeBoundary phaseNs ptpNs) s (fun t =>
      t.strokeNo = max next (s.stroke.armed.getD 0) % 2 ^ 64 ∧
      t.pins.strokeOut = (s.sh strPage Fld.STR_CFG_STROKE_OUT_EN == 1 &&
        (decide (t.strokeNo % s.sh strPage Fld.STR_OUT_DIVIDE = 0) || s.pins.strokeOut)) ∧
      t.fld crnPage Fld.CRN_ACLK_STROKE_MAX_STEP = s.pwr.maxStep % 16 ∧
      t.shape = s.shape ∧ t.rings = s.rings ∧ t.cmds = s.cmds ∧ t.ctxs = s.ctxs ∧ t.chans = s.chans ∧ t.cal = s.cal ∧
      t.mem = s.mem ∧ t.host = s.host))

/-- Enabling, disabling and draining a ring, and the doorbells. A DISABLED ring the partition owns is enabled with its pointers at 0
and STATE RUNNING when every check of R73, R409 and R354 passes (that FAULT returns to 0 there is the model's choice, log 56), or
refused with the check's code; EN = 1 has no effect on a ring in another state; EN = 0 takes a RUNNING or STOPPED ring to
DRAINING; a write that changes another field of an enabled ring is refused with 0x0105, one for a ring the partition does not own
with 0x0305; a DRAINING ring becomes DISABLED when nothing of it is in flight. A DB_TAIL of the requesters that reach the ring
moves the tail within the ring, and wakes or will wake a sleeping partition with AUTO_WAKE; it stops the ring with 0x0306 beyond
it, has no effect at the tail and is refused with 0x0302 when the ring is not RUNNING; DB_CQ_HEAD moves within the queue or is
refused with 0x0306; other requesters' writes are ignored. (From 04 Command Rings, Semaphores and Completion Order: Rings and
their registers, 04 Command Rings, Semaphores and Completion Order: Doorbells and submission.) -/
def Obligations.RingsAndDoorbells : Prop :=
  (∀ (who : Requester) (p : Nat) (v : Word64) (s : State),
  s.letsIn who (partPage p) →
  let r := s.ringSel p
  let x := s.ring r
  let on := setBits v 20 20 1 &&& ringCfgMask
  let off := setBits v 20 20 0 &&& ringCfgMask
  (s.shape.live.ownsRing p r = true → x.en = false → x.st = 0 → s.ringCheck? p r { x with cfg := on } = none →
    exec (.ringEnable who p v) s = .next (s.setRing r { x with
      cfg := setBits on 20 20 1, head := 0, tail := 0, cqHead := 0, cqTail := 0, st := 1, fault := 0, lost := false }).observe) ∧
  (s.shape.live.ownsRing p r = true → x.en = false → x.st = 0 → ∀ code f, s.ringCheck? p r { x with cfg := on } = some (code, f) →
    exec (.ringEnable who p v) s = .next (s.refuseF (partPage p) code f).observe) ∧
  (s.shape.live.ownsRing p r = true → x.st ≠ 0 → (x.en = true → on = x.cfg &&& ringCfgMask) →
    exec (.ringEnable who p v) s = .next s.observe) ∧
  (s.shape.live.ownsRing p r = true → (x.st = 1 ∨ x.st = 2) → (x.en = true → off = x.cfg &&& ringCfgMask) →
    exec (.ringDisable who p v) s = .next (s.setRing r { x with cfg := off, st := 3 }).observe) ∧
  (s.shape.live.ownsRing p r = true → (x.st = 0 ∨ x.st = 3) → x.en = false →
    exec (.ringDisable who p v) s = .next (s.setRing r { x with cfg := off }).observe) ∧
  (s.shape.live.ownsRing p r = true → x.en = true → on ≠ x.cfg &&& ringCfgMask →
    exec (.ringEnable who p v) s = .next (s.refuseF (partPage p) 0x0105 Fld.PART_RING_CFG_LOG2_ENTRIES).observe ∧
    exec (.ringDisable who p v) s = .next (s.refuseF (partPage p) 0x0105 Fld.PART_RING_CFG_LOG2_ENTRIES).observe) ∧
  (∀ y : Ring, s.ringCheck? p r y = none ↔
    (s.shape.live.clusterMask p).testBit y.ccp = true ∧ (4 ≤ y.log2 ∧ y.log2 ≤ 16) ∧ (4 ≤ y.cqLog2 ∧ y.cqLog2 ≤ 16) ∧
    (y.base.toNat % 4096 = 0 ∧ y.cqBase.toNat % 4096 = 0 ∧ y.sat.toNat % 4096 = 0) ∧
    (y.inHost = false → s.hbmRange p y.base.toNat (64 * 2 ^ y.log2) = true) ∧
    (y.cqInHost = false → s.hbmRange p y.cqBase.toNat (32 * 2 ^ y.cqLog2) = true) ∧ s.hbmRange p y.sat.toNat 32768 = true ∧
    (y.inHost = true → s.reachable y.port p = true) ∧ (y.cqInHost = true → s.reachable y.cqPort p = true) ∧
    (s.rings.filter (fun z => z.1 != r && z.2.en && z.2.context == y.context && z.2.ccp == y.ccp &&
      s.shape.live.ownsRing p z.1)).length < 2048 ∧ y.vector < 2048) ∧
  (s.shape.live.ownsRing p r = false →
    exec (.ringEnable who p v) s = .next (s.refuse (partPage p) 0x0305 0x818).observe ∧
    exec (.ringDisable who p v) s = .next (s.refuse (partPage p) 0x0305 0x818).observe) ∧
  (∀ k, (s.ring k).st = 3 → s.inflight k = 0 →
    exec (.ringDrainDone k) s = .next (s.setRing k { s.ring k with st := 0 }).observe) ∧
  (∀ k, (s.ring k).st = 3 → s.inflight k ≠ 0 → exec (.ringDrainDone k) s = .next s.observe)) ∧
  (∀ (who : Requester) (r : Nat) (v : Word64) (s : State),
  ((¬ s.mayRing who r ∨ s.ringPart? r = none) →
    exec (.dbTailWrite who r v) s = .next s.observe ∧ exec (.dbCqHeadWrite who r v) s = .next s.observe) ∧
  ∀ p, s.mayRing who r → s.ringPart? r = some p →
  let x := s.ring r
  let t := getBits v 31 0
  (x.st = 1 → t ≠ x.tail → sub32 t x.head ≤ 2 ^ x.log2 → sub32 t x.tail ≤ 2 ^ x.log2 →
    (s.fld (partPage p) Fld.PART_PWR_AUTO_WAKE = 0 ∨
        s.fld (partPage p) Fld.PART_PWR_STATE ≠ 1 ∧ s.fld (partPage p) Fld.PART_PWR_STATE ≠ 2 →
      exec (.dbTailWrite who r v) s = .next (s.setRing r { x with tail := t }).observe) ∧
    (s.fld (partPage p) Fld.PART_PWR_AUTO_WAKE = 1 → s.fld (partPage p) Fld.PART_PWR_STATE = 2 →
      exec (.dbTailWrite who r v) s = .next (((s.setRing r { x with tail := t }).setFld (partPage p) Fld.PART_PWR_STATE 3).setFld
        (partPage p) Fld.PART_PWR_DEEP_NAP 0).observe) ∧
    (s.fld (partPage p) Fld.PART_PWR_AUTO_WAKE = 1 → s.fld (partPage p) Fld.PART_PWR_STATE = 1 →
      exec (.dbTailWrite who r v) s =
        .next ((s.setRing r { x with tail := t }).modPart p (fun y => { y with wakeDue := true })).observe)) ∧
  (x.st = 1 → t ≠ x.tail → (2 ^ x.log2 < sub32 t x.head ∨ 2 ^ x.log2 < sub32 t x.tail) →
    exec (.dbTailWrite who r v) s = .next (s.setRing r { x with st := 2, fault := 0x0306 }).observe) ∧
  (x.st ≠ 1 → exec (.dbTailWrite who r v) s = .next (s.refuse (partPage p) 0x0302 0 0).observe) ∧
  (x.st = 1 → t = x.tail → exec (.dbTailWrite who r v) s = .next s.observe) ∧
  (sub32 t x.cqHead ≤ sub32 x.cqTail x.cqHead →
    exec (.dbCqHeadWrite who r v) s = .next (s.setRing r { x with cqHead := t }).observe) ∧
  (sub32 x.cqTail x.cqHead < sub32 t x.cqHead →
    exec (.dbCqHeadWrite who r v) s = .next (s.refuse (partPage p) 0x0306 0 0).observe))

/-- COMMAND_FETCH takes one entry of a ring. A command processor with room and a ring to fetch from takes the entry at HEAD: HEAD
advances, one command is in flight more with the parsed entry, waiting or already ended with a refusal, and registers, memory and
host memory are unchanged; an entry that cannot be read stops the ring with the code. (From 04 Command Rings, Semaphores and
Completion Order: Issue and in-flight limits, 04 Command Rings, Semaphores and Completion Order: The command.) -/
def Obligations.CommandFetch : Prop := ∀ (k r p : Nat) (s : State),
  s.flows → s.ccpRoom k = true → s.nextIssue? k = none → s.nextRing? k = some r → s.ringPart? r = some p →
  let x := s.ring r
  let u : State := { s with rrLast := SMap.put s.rrLast k r }
  (∀ b, s.readEntry p r = .ok b →
    exec (.commandFetch k) s =
      .next ((u.setRing r { x with head := (x.head + 1) % 2 ^ 32 }).takeCmd p r x.head k b (fun c => c)).observe ∧
    (s.bad = [] → Runs (.commandFetch k) s (fun t =>
      (t.ring r).head = (x.head + 1) % 2 ^ 32 ∧ t.fetches = s.fetches + 1 ∧
      t.cmds.length = s.cmds.length + 1 ∧ t.mem = s.mem ∧ t.host = s.host ∧ t.regs = s.regs ∧
      ∃ c ∈ t.cmds, c.ring = r ∧ c.seq = x.head ∧ c.cmd = parseCmd b ∧ c.ccp = k ∧
        (c.phase = .waiting ∨ c.phase = .ended ∧ c.good = 0 ∧ c.status ≠ 0)))) ∧
  (∀ e, s.readEntry p r = .error e → e ≠ 0xF001 →
    exec (.commandFetch k) s = .next (u.modRing r (stopRing e)).observe)

/-- COMMAND_COMPLETE: signal, record, and the command is gone. A command whose work has ended in time leaves the list of commands in
flight and marks progress; with NO_RECORD and status 0 nothing else happens, with a record in device memory its 32 bytes are
written at the queue's tail and the tail advances, and with a local SIGNAL set the semaphore word is written. (From 04 Command
Rings, Semaphores and Completion Order: Completion records, 04 Command Rings, Semaphores and Completion Order: Ordering of data
against records and signals.) -/
def Obligations.CommandCompletes : Prop := ∀ (r q : Nat) (c : InFlight) (s : State),
  s.cmdAt? r q = some c → c.phase = .ended → c.saved = false → c.unacked = 0 → s.writeHeld r q = false → s.flows → c.tc = none →
  s.deadlineMissed c = false →
  let x := s.ring r
  let gone (u : State) : State := (u.dropCmd r q).modCtx c.part c.ctx (fun y => { y with progress := true })
  (c.cmd.sigEn = false → c.cmd.noRecord = true → c.status = 0 → exec (.commandComplete r q) s = .next (gone s).observe) ∧
  (∀ k, c.cmd.sigEn = false → c.cmd.noRecord = false → c.dw = none → x.cqInHost = false → c.cmd.irq = false → c.status = 0 →
      s.xlate (some c.part) (x.cqBase.toNat + 32 * (x.cqTail % 2 ^ x.cqLog2)) = .ok k →
    exec (.commandComplete r q) s =
      .next (gone ((s.wrs k (recordBytes c 0 c.info s.strokeNo x.phase)).setRing r
        { x with cqTail := (x.cqTail + 1) % 2 ^ 32 })).observe) ∧
  (∀ k, c.cmd.sigEn = true → c.sig = .local k → c.cmd.sigOp = 0 → c.cmd.noRecord = true → c.status = 0 →
    exec (.commandComplete r q) s = .next (gone (s.wr64 k (sigWord 0 0 c.cmd.sigVal)).observe).observe)

/-- A missed deadline. A command with a deadline that completes at or after stroke M_eff completes like any other; its record carries
DEADLINE_MISSED (INFO bit 0), STR_LATE_COUNT increases by 1 and the STR page raises bit 18; a command that completes before M_eff
does none of these. Stated for a command that ends with status 0, without a signal, with its record in device memory. (From 03
Strokes and the Calendar Clock: Stroke-relative commands, 04 Command Rings, Semaphores and Completion Order: Completion records.) -/
def Obligations.DeadlineMissed : Prop := ∀ (r q k : Nat) (c : InFlight) (s : State),
  let x := s.ring r
  let late := (s.addFld strPage Fld.STR_LATE_COUNT_COUNT 1).raise strPage 18
  let gone (u : State) : State := (u.dropCmd r q).modCtx c.part c.ctx (fun y => { y with progress := true })
  s.cmdAt? r q = some c → c.phase = .ended → c.saved = false → c.unacked = 0 → s.writeHeld r q = false → s.flows → c.tc = none →
  c.cmd.sigEn = false →
  c.cmd.noRecord = false → c.dw = none → x.cqInHost = false → c.cmd.irq = false → c.status = 0 → c.info % 2 = 0 →
  s.xlate (some c.part) (x.cqBase.toNat + 32 * (x.cqTail % 2 ^ x.cqLog2)) = .ok k →
  c.cmd.deadline ≠ 0 →
  (c.cmd.deadline + s.slipOf c ≤ s.strokeNo → exec (.commandComplete r q) s =
    .next (gone ((late.wrs k (recordBytes c 0 (c.info + 1) s.strokeNo x.phase)).setRing r
      { x with cqTail := (x.cqTail + 1) % 2 ^ 32 })).observe) ∧
  (s.strokeNo < c.cmd.deadline + s.slipOf c → s.strokeNo < 2 ^ 48 → exec (.commandComplete r q) s =
    .next (gone ((s.wrs k (recordBytes c 0 c.info s.strokeNo x.phase)).setRing r
      { x with cqTail := (x.cqTail + 1) % 2 ^ 32 })).observe)

/-- WAIT_STROKE. A WAIT_STROKE whose other conditions hold does nothing while the counter is below N_eff and completes with status 0
once the counter stands at N_eff or beyond, at once when it already does; the units it runs on are its cluster's command processor
alone, so it occupies no engine. (States R60.) -/
def Obligations.WaitStroke : Prop := ∀ (r q : Nat) (c : InFlight) (s : State),
  let u := s.observe
  let effective := c.cmd.notBefore + u.slipOf c
  u.cmdAt? r q = some c → c.cmd.op = 2 → c.cmd.opFlags % 2 = 0 → c.ccp < 128 →
  (u.cmdPages c = [page 6 c.ccp]) ∧
  (c.phase = .waiting → c.saved = false → c.met0 = true → c.met1 = true → u.fenced c = false → u.priorPending c = false →
    (u.ctx c.part c.ctx).st = .resident → u.partAsleep c.part = false → u.shape.engineResets.contains (page 6 c.ccp) = false →
    (c.cmd.notBefore ≠ 0 → u.strokeNo < effective → u.strokeNo < 2 ^ 48 → exec (.waitStroke r q) s = .next u.observe) ∧
    (effective ≤ u.strokeNo → u.shape.stopped.contains (page 6 c.ccp) = false → u.shape.stopped.contains (partPage c.part) = false →
        s.flows → exec (.waitStroke r q) s = .next ((s.atStart c).endCmd r q 0 0).observe))

/-- NOP, SIGNAL, FENCE, WAIT_STROKE and ATOMIC. NOP and SIGNAL end with status 0; a FENCE ends once no earlier command of its ring (or
of its context) is in flight, and waits while there is one; WAIT_STROKE without BARRIER ends, with BARRIER it waits; ATOMIC
performs one read-modify-write and returns the old value, ends with 0xF001 on uncorrectable data and with the access error's code
otherwise. (From 04 Command Rings, Semaphores and Completion Order: Control opcodes, 04 Command Rings, Semaphores and Completion
Order: Semaphores, 03 Strokes and the Calendar Clock: Stroke-relative commands.) -/
def Obligations.ControlCommands : Prop :=
  (∀ (r q : Nat) (c : InFlight) (s : State),
  (s.ready 0 r q c → exec (.nop r q) s = .next ((s.atStart c).endCmd r q 0 0).observe) ∧
  (s.ready 3 r q c → exec (.semSignal r q) s = .next ((s.atStart c).endCmd r q 0 0).observe) ∧
  (s.ready 1 r q c →
    (∀ f ∈ s.observe.cmds, f.order < c.order → if c.cmd.sub = 0 then f.ring ≠ c.ring else ¬(f.part = c.part ∧ f.ctx = c.ctx)) →
    exec (.fence r q) s = .next ((s.atStart c).endCmd r q 0 0).observe) ∧
  (s.ready 1 r q c → ∀ f ∈ s.cmds, f.order < c.order → (if c.cmd.sub = 0 then f.ring = c.ring else f.part = c.part ∧ f.ctx = c.ctx) →
    exec (.fence r q) s = .next s.observe) ∧
  (s.ready 2 r q c → c.cmd.opFlags % 2 = 0 → exec (.waitStroke r q) s = .next ((s.atStart c).endCmd r q 0 0).observe) ∧
  (s.ready 2 r q c → c.cmd.opFlags % 2 = 1 → exec (.waitStroke r q) s = .next s.observe)) ∧
  (∀ (r q k : Nat) (c : InFlight) (s : State), s.ready 4 r q c →
  let u := s.atStart c
  (u.xlate (some c.part) (leAt c.ext 0 8) = .ok k → u.badIn k 8 = false →
    exec (.atomic r q) s =
      .next (((u.wr64 k (semOp c.cmd.sub (u.rd64 k) (leAt c.ext 8 8) (leAt c.ext 16 8))).observe).endCmd r q 0 (u.rd64 k)).observe) ∧
  (u.xlate (some c.part) (leAt c.ext 0 8) = .ok k → u.badIn k 8 = true →
    exec (.atomic r q) s = .next (u.endCmd r q 0xF001 0).observe) ∧
  (∀ e, u.xlate (some c.part) (leAt c.ext 0 8) = .error e → exec (.atomic r q) s = .next (u.endCmd r q e 0).observe))

/-- POUNCE, the barrier vote, PUT and VOTE. A POUNCE of one partition's operand ends with its measures (its flags going into INFO
alone is the model's choice, log 57), or stops at the failing address; the vote of a SYNC barrier joins its group with the stroke
it can meet; a PUT to the own node writes the window's memory and ends; a PUT elsewhere ends when all its frames are acknowledged;
a VOTE whose result has come writes it and ends. That vote-path groups are rooted at their lowest member is the model's reading
(log 30). (From 05 Number Formats, Rounding and Reproducibility: The pounce pass, 03 Strokes and the Calendar Clock: Stroke-
relative commands, 16 Brim Ports, Membership and Collectives: Remote writes and signals, 16 Brim Ports, Membership and
Collectives: Collectives.) -/
def Obligations.VotesAndPut : Prop :=
  (∀ (r q : Nat) (c : InFlight) (s : State),
  let d := pounceDesc c.ext
  let u := (s.atBegin c).pruneGroups
  (s.ready 0x32 r q c → d.scope = 0 → ∀ rows, u.rdRows c.part d.src d.stride (d.cols * d.sz) d.rows = .ok rows →
    let m := pounceMeasure d rows
    exec (.pounce r q) s = .next ((u.modCmd r q (fun x => { x with info := x.info ||| m.2.2 * 256, prog := [] })).pounceEnd c [m.1, m.2.1]).observe) ∧
  (s.ready 0x32 r q c → d.scope = 0 → ∀ e a, u.rdRows c.part d.src d.stride (d.cols * d.sz) d.rows = .error (e, a) →
    exec (.pounce r q) s = .next (u.stopCmd c e 0 a (d.cols * d.sz)).observe) ∧
  (s.observe.cmdAt? r q = some c → c.cmd.op = 2 → c.cmd.opFlags % 4 = 3 →
      s.observe.startable { c with cmd := { c.cmd with notBefore := 0 } } = true → ∀ nodes : List Nat, s.ownNode ∈ nodes →
    exec (.syncBarrierPropose r q nodes) s =
      .next (((s.atStart c).modCmd r q (fun x => { x with phase := .started, prog := [] })).joinGroup (nodes.foldl min s.ownNode)
        [3, s.job c.part, c.cmd.notBefore] [nodes.length] [max (c.cmd.notBefore + s.slipOf c) (s.strokeNo + 1)] c).observe)) ∧
  (∀ (r q : Nat) (c : InFlight) (s : State),
  let d := collDesc c.ext
  (s.ready 0x65 r q c → d.comm = s.ownNode → s.brim.lost.contains d.comm = false → s.brim.members.testBit d.comm = true →
    let u := s.atBegin c
    ∀ bytes, u.rdDev (some c.part) d.src d.count = .ok bytes →
    ∀ p a, u.inbound (u.job c.part) d.dst bytes.length = some (p, a) → Runs (.putRemote r q) s (fun t => t.endedWith r q 0 d.count ∧
      t.mem = (u.wrDev (some p) a bytes).1.mem ∧ t.out = s.out ∧ t.rings = s.rings)) ∧
  (s.working 0x65 r q c → c.unacked = 0 → exec (.putRemote r q) s = .next (s.observe.endCmd r q 0 d.count).observe) ∧
  (s.working 0x65 r q c → c.unacked ≠ 0 → exec (.putRemote r q) s = .next s.observe.observe) ∧
  (s.working 0x66 r q c → ∀ v l, c.prog = v :: l → (s.observe.wrDev (some c.part) d.dst (leBytes 8 v)).2.2 = 0 →
    Runs (.voteWord r q) s (fun t => t.endedWith r q 0 8 ∧ t.mem = (s.observe.wrDev (some c.part) d.dst (leBytes 8 v)).1.mem ∧
      t.host = s.host ∧ t.rings = s.rings ∧ t.frames = s.frames ∧ t.out = s.out)) ∧
  (s.working 0x66 r q c → c.prog = [] → exec (.voteWord r q) s = .next s.observe.observe))

/-- GEMM and CONV complete and touch one core alone. With no uncorrectable data, a GEMM (or a CONV of any kind) that may start, whose
core is there and whose variants and scale are sound, ends with status 0 and the bytes of its result, and changes no byte below
the scratchpads, no host memory, ring, frame, channel, Shape, window, Brim or host-port state. That the work is one step is the
model's choice (log 28). (From 06 Matrix Engines and the Transposing Scratchpad: The GEMM command, 06 Matrix Engines and the
Transposing Scratchpad: Completion, errors, pre-emption and reset, 08 Convolution, Pooling and Image Operators: The CONV command,
08 Convolution, Pooling and Image Operators: Completion, errors, pre-emption and reset.) -/
def Obligations.MatrixEngine : Prop :=
  (∀ (r q core : Nat) (c : InFlight) (vars : List Nat) (scale : Val) (s : State),
  s.ready 0x30 r q c → s.cmdCore? c = some core → s.bad = [] →
  let g := gemmDesc c.ext
  let u := s.atStart c
  u.gemmVariants core g = .ok vars → u.scaleOf c.part g.scaleSrc g.conv g.rec_ = .ok scale →
  Runs (.gemm r q) s (fun t => t.endedWith r q 0 (storedBytes g.d.fmt (g.m * g.n)) ∧ s.coreOnly t)) ∧
  (∀ (r q core : Nat) (c : InFlight) (s : State),
  s.ready 0x34 r q c → s.cmdCore? c = some core → s.bad = [] →
  let d := convDesc c.ext
  let g := convGemm c.ext c.cmd.sub
  let u := s.atStart c
  (c.cmd.sub ≠ 3 → c.cmd.sub ≠ 4 → ∀ scale, u.scaleOf c.part g.scaleSrc g.conv g.rec_ = .ok scale →
    Runs (.convolve r q) s (fun t => t.endedWith r q 0 (storedBytes g.d.fmt (g.m * g.n)) ∧ s.coreOnly t)) ∧
  (c.cmd.sub = 3 →
    Runs (.convolve r q) s (fun t => t.endedWith r q 0 (storedBytes g.d.fmt (d.positions d.ye * d.cin)) ∧ s.coreOnly t)) ∧
  (c.cmd.sub = 4 →
    Runs (.convolve r q) s (fun t => t.endedWith r q 0 (storedBytes g.d.fmt (d.positions d.xe * d.cin)) ∧ s.coreOnly t)))

/-- VEC_STREAM completes and touches one core alone; engine commands to an absent core. With no uncorrectable data and no indexed
stream, a VEC_STREAM that may start and whose core is there ends with status 0 and the bytes of its outputs, and changes nothing
outside its core's memories; GEMM, VEC_STREAM and CONV that name a core that is not there end with 0x0103. (From 07 Vector Engine
and Tidy Core: VEC_STREAM, 07 Vector Engine and Tidy Core: Timing, overlap and completion, 19 Errors, Trim Map and the Recovery
Ladder: The trim map.) -/
def Obligations.VectorEngine : Prop :=
  (∀ (r q core : Nat) (c : InFlight) (s : State),
  s.ready 0x33 r q c → s.cmdCore? c = some core → s.bad = [] →
  let d := vecDesc c.ext
  d.used.filter (fun i => (d.st i).indexed) = [] →
  (c.cmd.sub ≠ 1 →
    Runs (.vecStream r q) s (fun t => s.coreOnly t ∧
      t.endedWith r q 0 ((((List.range 2).filter d.outUse).map (fun o => ceilDiv (extSize d.ext * fmtBits (d.st (4 + o)).fmt) 8)).sum))) ∧
  (c.cmd.sub = 1 →
    let lines := extSize d.ext / d.ext.getD 0 1
    Runs (.vecStream r q) s (fun t => s.coreOnly t ∧
      t.endedWith r q 0 (ceilDiv (lines * d.k * fmtBits (d.st 0).fmt) 8 + 4 * (lines * d.k))))) ∧
  (∀ (r q op : Nat) (c : InFlight) (i : Instr) (s : State),
  (op, i) ∈ [(0x30, Instr.gemm r q), (0x33, .vecStream r q), (0x34, .convolve r q)] → s.ready op r q c → s.cmdCore? c = none →
  exec i s = .next ((s.atStart c).endCmd r q 0x0103 0).observe)

/-- ATTN_FWD, ATTN_BWD and HEAD_EDIT_RETRY. An attention command whose list and heads are readable and not under edit takes the walk
epoch and runs on what it read; one that waits for an edited head reads it again: still under edit it keeps waiting and holds no
epoch, and with the last head ready it runs. A list and heads that fail a check end it with the check's code; otherwise the pass
of its tiles runs on free accumulators and scratchpad blanks of the named cores and ends with its code and bytes (log 28, log 59).
(From 09 Attention Engine: Commands and descriptor, 09 Attention Engine: Passes, lookahead and the page walk, 10 KV Pages, Spill
and Sequence Parking: Walk epochs.) -/
def Obligations.Attention : Prop :=
  (∀ (r q : Nat) (c : InFlight) (i : Instr) (op : Nat) (b : List Byte) (heads : List Nat) (s : State),
  (op, i) ∈ [(0x35, Instr.attnFwd r q), (0x36, .attnBwd r q)] → s.ready op r q c →
  let ad := attnDesc c.ext
  let u := (s.atBegin c).modCmd r q (fun x => { x with epoch := some (s.epochCur c.part) })
  let entry (k : Nat) : SeqEntry := seqEntry (leBytes (32 * ad.count) (leNat b)) k
  u.rdDev (some c.part) ad.list (32 * ad.count) = .ok b → heads.length = ad.count →
  (∀ k < ad.count, (entry k).head % 32 = 0 ∧ u.rangeCode c.part (entry k).head 32 = 0) →
  (∀ k < ad.count, ∃ h, u.rdDev (some c.part) (entry k).head 32 = .ok h ∧ leNat h = heads.getD k 0 ∧ bitsAt h 24 0 0 = 0) →
  let es := (List.range ad.count).map entry
  let v := es.foldl (fun s e => s.knowHead c.part e.head) u
  let cores := ((bitList 8 c.cmd.arg).filterMap (fun i => (v.clusterCores c.ccp)[i]?)).filter (fun n => !v.outOfService 7 n)
  let w := cores.foldl (fun s n => (s.lose (amKey n 0) (2 ^ 20)).lose (spKey n (ad.blank0 * 2 ^ 14)) (ad.blanks * 2 ^ 14)) v
  exec i s = .next (u.attnRun c (leNat b) heads).observe ∧
  (∀ e, v.seqCheck c ad es heads = .error e → e ≠ 0xF001 → exec i s = .next (v.endCmd r q e 0).observe) ∧
  (∀ pages, v.seqCheck c ad es heads = .ok pages →
    let x := if op = 0x36 then w.attnBwdRun c ad (w.passSize cores) (es.zip pages)
      else (passesOf (w.passSize cores) (attnTiles ad (es.zip pages))).foldl (attnFwdPass c ad) ⟨w, 0, 0, 0, none⟩
    x.bad = none → Runs i s (fun t => t.endedWith r q x.code x.good ∧ t.mem = x.s.mem ∧ t.host = x.s.host ∧ t.rings = x.s.rings))) ∧
  (∀ (r q : Nat) (c : InFlight) (list : Nat) (heads : List Nat) (h : List Byte) (s : State),
  let ad := attnDesc c.ext
  let e := seqEntry (leBytes (32 * ad.count) list) heads.length
  let u := s.modCmd r q (fun x => { x with epoch := some (s.epochCur c.part) })
  s.cmdAt? r q = some c → (c.cmd.op = 0x35 ∨ c.cmd.op = 0x36) → c.phase = .started → c.epoch = none → c.saved = false →
  s.draining c = false → s.partAsleep c.part = false → c.prog = list :: heads → heads.length < ad.count →
  e.head % 32 = 0 → u.rangeCode c.part e.head 32 = 0 → u.rdDev (some c.part) e.head 32 = .ok h →
  (bitsAt h 24 0 0 = 1 →
    exec (.headEditRetry r q) s = .next (u.modCmd r q (fun x => { x with epoch := none, prog := list :: heads })).observe) ∧
  (bitsAt h 24 0 0 = 0 → heads.length + 1 = ad.count →
    exec (.headEditRetry r q) s = .next (u.attnRun c list (heads ++ [leNat h])).observe))

/-- A tidy core's instruction, its registers, its watchdog and TC_ISSUE. A running tidy core with an enabled external interrupt traps;
else it runs the instruction its fetch reads (LUI, the register-immediate and register-register operations, JAL, and the illegal-
instruction trap are stated), changing its own core alone. TC_ISSUE appends to the queue, is ignored when the queue is full and
refused with 0x058E for a ring the context does not own; the sticky flags, the watchdog, RUN and the mailbox act as their
registers say. Its RISC-V details are the model's presumptions (log 35). (From 07 Vector Engine and Tidy Core: The tidy core, 07
Vector Engine and Tidy Core: Core page registers for the VE and TC.) -/
def Obligations.TidyCore : Prop :=
  (∀ (n w : Nat) (k1 k2 : List Nat) (s : State),
  let t := s.tc n
  let a := t.reg (ib w 19 15)
  let b := t.reg (ib w 24 20)
  let on : Tc := { t with mcycle := t.mcycle + Config.free s.draws }
  let next : Tc := { on with pc := t.pc + 4, minstret := t.minstret + 1 }
  let only (x : State) : Prop := (∀ m, m ≠ n → x.tc m = s.tc m) ∧ x = { s with draws := s.draws + 1, tcs := x.tcs }.observe
  s.tcRuns n = true → s.tcState n = 1 →
  ((t.meip && getBits t.mie 11 11 == 1 && t.mieOn) = true →
    Runs (.tcInstruction n) s (fun x => x.tc n = on.trap 11 0 true ∧ only x)) ∧
  ((t.meip && getBits t.mie 11 11 == 1 && t.mieOn) = false → s.bad = [] → w < 2 ^ 32 → w % 4 = 3 →
    s.tcKeys? n t.pc.toNat 2 = some k1 → leNat (k1.map s.rd) = w % 65536 →
    s.tcKeys? n (t.pc + 2).toNat 2 = some k2 → leNat (k2.map s.rd) = w / 65536 →
    (ib w 6 0 = 0x37 → Runs (.tcInstruction n) s (fun x => x.tc n = next.setReg (ib w 11 7) (w64 (immU w)) ∧ only x)) ∧
    (ib w 6 0 = 0x13 → ∀ v, rvOpImm w a = some v →
      Runs (.tcInstruction n) s (fun x => x.tc n = next.setReg (ib w 11 7) v ∧ only x)) ∧
    (ib w 6 0 = 0x33 → ∀ v, rvOp (ib w 31 25) (ib w 14 12) a b = some v →
      Runs (.tcInstruction n) s (fun x => x.tc n = next.setReg (ib w 11 7) v ∧ only x)) ∧
    (ib w 6 0 = 0x33 → rvOp (ib w 31 25) (ib w 14 12) a b = none →
      Runs (.tcInstruction n) s (fun x => x.tc n = on.trap 2 (BitVec.ofNat 64 w) false ∧ only x)) ∧
    (ib w 6 0 = 0x6F → Runs (.tcInstruction n) s (fun x =>
      x.tc n = { next with pc := t.pc + w64 (immJ w) }.setReg (ib w 11 7) (t.pc + 4) ∧ only x)))) ∧
  (∀ (n : Nat) (v : Word64) (s : State),
  let pg := corePage n
  let t := s.tc n
  (∀ addr p c, t.queue.length < 8 → s.tcCtx? n = some (p, c) → s.shape.live.ownsRing p t.issueRing = true →
      (s.ring t.issueRing).ccp = n / 8 → (s.ring t.issueRing).context = c → addr % 64 = 0 → addr < 65536 →
    exec (.tcIssue n addr) s = .next (s.modTc n (fun t => { t with
      queue := t.queue ++ [(t.issueRing, s.rds (ldmKey n addr) 64)], issued := (t.issued + 1) % 2 ^ 32 })).observe) ∧
  (∀ addr, 8 ≤ t.queue.length → exec (.tcIssue n addr) s = .next s.observe) ∧
  (∀ addr, t.queue.length < 8 → (∀ p c, s.tcCtx? n = some (p, c) → s.shape.live.ownsRing p t.issueRing = false) →
    exec (.tcIssue n addr) s = .next ((s.modTc n (fun t => { t with ip := t.ip ||| 8 })).refuse pg 0x058E 0 0).observe) ∧
  exec (.tcStickyClr n v) s =
    .next (s.setReg (pg + Reg.CORE_ARITH_STICKY) (s.reg (pg + Reg.CORE_ARITH_STICKY) &&& ~~~(v &&& 0x3F))).observe ∧
  exec (.tcWdogWrite n v) s = .next (s.modTc n (fun t => { t with wdog := v.toNat, warned := false })).observe ∧
  (t.wdog ≠ 0 → (s.tcState n = 1 ∨ s.tcState n = 2) →
    (t.warned = false →
      exec (.tcWatchdogExpiry n) s =
        .next ((s.modTc n (fun t => { t with ip := t.ip ||| 4 })).modTc n (fun t => { t with warned := true })).observe) ∧
    (t.warned = true →
      exec (.tcWatchdogExpiry n) s = .next ((((s.setFld pg Fld.CORE_TC_STATUS_STATE 3).setFld pg
        Fld.CORE_TC_STATUS_WDOG 1).raise pg 16).tcRecord n 0x0592).observe)) ∧
  (∀ who, s.letsIn who pg →
    (getBits v 0 0 = 1 → (s.tcState n = 0 ∨ s.tcState n = 3) →
      exec (.tcRunWrite who n v) s =
        .next ((((s.setFld pg Fld.CORE_TC_CTRL_RUN 1).setFld pg Fld.CORE_TC_STATUS_STATE 1).setFld pg Fld.CORE_TC_STATUS_WDOG 0).modTc n
          (fun t => { t with pc := BitVec.ofNat 64 (s.fld pg Fld.CORE_TC_BOOT_ADDR / 2 * 2), warned := false })).observe) ∧
    (getBits v 0 0 = 0 → s.tcState n ≠ 3 →
      exec (.tcRunWrite who n v) s =
        .next ((s.setFld pg Fld.CORE_TC_CTRL_RUN 0).setFld pg Fld.CORE_TC_STATUS_STATE 0).observe) ∧
    exec (.tcMboxWrite who n v) s =
      .next ((s.setReg (pg + Reg.CORE_TC_MBOX) v).modTc n (fun t => { t with ip := t.ip ||| 16 })).observe))

/-- KV_ALLOC, KV_FREE, KV_REOWN, and the lowest free run. ALLOC marks the lowest run of free slots that is long enough, owned by
KV_OWNER with LAST_USE the current stroke, and reports its slot, or reports NONE; FREE of an allocated, unpinned slot puts it into
limbo; REOWN changes the owner; both leave NONE as the last ALLOC left it; a FREE of any other slot is refused. The run found is
the lowest one, and none is found exactly when there is none. (From 10 KV Pages, Spill and Sequence Parking: The pool and the host
tier, 10 KV Pages, Spill and Sequence Parking: Registers.) -/
def Obligations.KvAllocator : Prop :=
  (∀ (who : Requester) (p : Nat) (v : Word64) (s : State), s.letsIn who (partPage p) →
  let slot := getBits v 31 0
  let span := getBits v 36 32
  let host := getBits v 37 37 == 1
  let owner := s.fld (partPage p) Fld.PART_KV_OWNER_ADDR
  let base := (s.tier p host).1
  let i := base + slot
  let noRun := s.fld (partPage p) Fld.PART_KV_ALLOC_NONE
  (getBits v 41 41 = 0 → getBits v 42 42 = 0 → 0 < span → span ≤ 16 →
    (∀ j, s.findRun p host span = some j →
      exec (.kvAlloc who p v) s = .next ((s.takeRun p j span 1 owner).kvDone p (j - base) span (getBits v 37 37) 0).observe) ∧
    (s.findRun p host span = none →
      exec (.kvAlloc who p v) s = .next (s.kvDone p slot span (getBits v 37 37) 1).observe)) ∧
  (getBits v 40 40 = 0 → getBits v 42 42 = 0 → slot < (s.tier p host).2 → s.slotSt p i = 1 → s.slotPin p i = 0 →
    exec (.kvFree who p v) s = .next ((s.toLimbo p i).kvDone p slot span (getBits v 37 37) noRun).observe) ∧
  (getBits v 40 40 = 0 → getBits v 41 41 = 0 → slot < (s.tier p host).2 → (s.slotSt p i = 1 ∨ s.slotSt p i = 2) →
    exec (.kvReown who p v) s = .next ((s.setSlotW0 p i (s.slotSt p i) (s.slotSpan p i) owner).kvDone p slot span (getBits v 37 37) noRun).observe) ∧
  (getBits v 40 40 = 1 → exec (.kvFree who p v) s = .next (s.kvRefuse p).observe ∧
    exec (.kvReown who p v) s = .next (s.kvRefuse p).observe) ∧
  (getBits v 40 40 = 0 → getBits v 42 42 = 0 → (slot ≥ (s.tier p host).2 ∨ s.slotSt p i ≠ 1 ∨ s.slotPin p i ≠ 0) →
    exec (.kvFree who p v) s = .next (s.kvRefuse p).observe)) ∧
  (∀ (p span : Nat) (host : Bool) (s : State), 0 < span →
  let base := (s.tier p host).1
  let n := (s.tier p host).2
  let free (i : Nat) : Prop := i + span ≤ n ∧ ∀ k < span, s.slotSt p (base + i + k) = 0
  (∀ j, s.findRun p host span = some j ↔ ∃ i, j = base + i ∧ free i ∧ ∀ i' < i, ¬ free i') ∧
  (s.findRun p host span = none ↔ ∀ i, ¬ free i))

/-- EPOCH_ADV, limbo release and PARK_NEEDED. EPOCH_ADV advances the partition's epoch; a release frees exactly the partition's runs
in limbo whose epoch no walk still holds and leaves registers, moves, rings, contexts and the Shape alone; BELOW_STROKES at a non-
zero PARK_STROKES sets PARK_NEEDED and raises bit 26, once for each time it comes there, and a PARK_STROKES of 0 never does. That
a second PARK_STROKES_REACHED at the same count does nothing is the model's way of saying 'reaches' (log 19). (From 10 KV Pages,
Spill and Sequence Parking: Walk epochs, 10 KV Pages, Spill and Sequence Parking: When the pool runs short.) -/
def Obligations.KvEpochs : Prop := ∀ (p : Nat) (s : State),
  (∀ who, s.letsIn who (partPage p) →
    exec (.epochAdv who p) s = .next (s.setFld (partPage p) Fld.PART_KV_EPOCH_CUR_CUR (s.epochCur p + 1)).observe) ∧
  Runs (.limboRelease p) s (fun t =>
    (∀ x, x ∈ t.kvLimbo ↔ x ∈ s.kvLimbo ∧ ¬(x.1 = p ∧ x.2.2 ≤ s.epochOld p)) ∧
    t.regs = s.regs ∧ t.host = s.host ∧ t.kvMoves = s.kvMoves ∧ t.kvParked = s.kvParked ∧ t.rings = s.rings ∧ t.ctxs = s.ctxs ∧
    t.shape = s.shape ∧ t.cmds.length = s.cmds.length) ∧
  ((∀ x ∈ s.kvLimbo, x.1 = p → s.epochOld p < x.2.2) → exec (.limboRelease p) s = .next s.observe) ∧
  (∀ x, s.kvLimbo.filter (fun x => x.1 == p && decide (x.2.2 ≤ s.epochOld p)) = [x] → exec (.limboRelease p) s =
    .next ({ s.freeRun p x.2.1 with kvLimbo := s.kvLimbo.filter (fun x => !(x.1 == p && decide (x.2.2 ≤ s.epochOld p))) }).observe) ∧
  (∀ n, n = s.fld (partPage p) Fld.PART_KV_PARK_PARK_STROKES → n ≠ 0 →
      s.fld (partPage p) Fld.PART_KV_STATUS_BELOW_STROKES = n → (s.part p).parkTaken = false →
    exec (.parkStrokesReached p) s = .next (((s.setFld (partPage p) Fld.PART_KV_STATUS_PARK_NEEDED 1).raise (partPage p) 26).modPart p
      (fun x => { x with parkTaken := true })).observe) ∧
  ((s.fld (partPage p) Fld.PART_KV_PARK_PARK_STROKES = 0 ∨ (s.part p).parkTaken = true ∨
      s.fld (partPage p) Fld.PART_KV_STATUS_BELOW_STROKES ≠ s.fld (partPage p) Fld.PART_KV_PARK_PARK_STROKES) →
    exec (.parkStrokesReached p) s = .next s.observe)

/-- KV_SPILL, KV_FETCH and the commit of a page move. The first page of a listed SPILL or FETCH starts the move of its page and ends
when the page is no longer moving. A move's commit whose entry still holds its old value and whose page is not pinned writes the
new entry in one write, copies OWNER and SPAN to the new run, sets its LAST_USE, puts the old run into limbo, counts it and
advances the epoch; a pinned page or a changed entry drops the move with PINNED_SKIPPED or RACE, and an unreachable host tier ends
its command with 0x0786. (From 10 KV Pages, Spill and Sequence Parking: Tier commands, 10 KV Pages, Spill and Sequence Parking:
Walk epochs.) -/
def Obligations.KvMoves : Prop :=
  (∀ (r q op : Nat) (c : InFlight) (i : Instr) (s : State),
  (op, i) ∈ [(0x90, Instr.kvSpill r q), (0x91, .kvFetch r q)] → c.cmd.sub = 0 →
  let toHost := decide (op = 0x90)
  let n := tierCountF c
  (s.ready op r q c → c.prog = [] → 0 < n → s.moving r q = false →
    ∀ b t, (s.atBegin c).rdDev (some c.part) (tierTarget c) 8 = .ok b → (s.atBegin c).entryParked c.part (leNat b) = false →
      (s.atBegin c).moveStart c.part (some (r, q)) (leNat b) toHost none
        (if toHost || tierForce c then 0 else s.kvLow c.part) = .ok t →
    exec i s = .next (t.modCmd r q (fun x => { x with prog := [0] })).observe) ∧
  (s.working op r q c → c.prog = [n] → s.observe.moving r q = false →
    exec i s = .next (s.observe.finish r q 0).observe) ∧
  (s.working op r q c → s.observe.moving r q = true → exec i s = .next s.observe.observe)) ∧
  (∀ (p k : Nat) (m : KvMove) (s : State),
  s.kvMoves.find? (fun m => m.part == p) = some m →
  let u := s.moveCopy m
  (s.moveCode m = 0 → u.xlate (some p) m.entry = .ok k →
    (u.slotPin p m.src = 0 → u.rd64 k = m.e0 →
      Runs (.kvMoveCommit p) s (fun t =>
        let w := u.wr64 k (movedEntry m.e0 (u.slotFrame p m.dst) m.toHost)
        let x := { w with kvMoves := eraseFirst (fun y => y == m) w.kvMoves }
        let x := x.setSlotW0 p m.dst 1 (x.slotSpan p m.src) (x.slotOwner p m.src)
        let y := (x.setSlotUse p m.dst x.strokeNo).toLimbo p m.src
        t = ((y.addFld (partPage p) (if m.toHost then Fld.PART_KV_SPILLED_COUNT else Fld.PART_KV_FETCHED_COUNT) 1).moved m true 0).observe ∧
        t.epochCur p = (s.epochCur p + 1) % 2 ^ 64 ∧ t.kvLimbo = s.kvLimbo ++ [(p, m.src, t.epochCur p)])) ∧
    (u.slotPin p m.src ≠ 0 → exec (.kvMoveCommit p) s = .next ((u.dropMove m).moved m false (2 ^ 18)).observe) ∧
    (u.slotPin p m.src = 0 → u.rd64 k ≠ m.e0 → exec (.kvMoveCommit p) s = .next ((u.dropMove m).moved m false (2 ^ 17)).observe)) ∧
  (s.moveCode m = 0x0786 → ∀ r q c, m.cmd = some (r, q) → s.cmdAt? r q = some c →
    exec (.kvMoveCommit p) s = .next ((s.dropWork c).finish r q 0x0786).observe))

/-- SEQ_PARK and SEQ_UNPARK. A head under edit makes the command wait; a sequence already in the wanted state ends it with 0x0787, a
pinned page with 0x0788, too little room with 0x0789; otherwise every run is reserved, the head's EDIT bit is set, the epoch
advances and the command holds the runs. With the epoch retired and every entry passed, the unused runs are free again, TABLE_GEN
is one higher, PARKED is as wanted, EDIT is clear and the command ends with status 0. (From 10 KV Pages, Spill and Sequence
Parking: Tier commands.) -/
def Obligations.SequenceParking : Prop :=
  (∀ (r q op : Nat) (c : InFlight) (i : Instr) (h : Head) (s : State),
  (op, i) ∈ [(0x92, Instr.seqPark r q), (0x93, .seqUnpark r q)] → s.ready op r q c → c.prog = [] →
  let park := decide (op = 0x92)
  let u := s.atBegin c
  let p := c.part
  let a := tierTarget c
  let pages := (headEntries h).filterMap (fun e =>
    let w := u.rd64 (u.keyOf p e)
    if entryHost w == park then none else u.entrySlot? p w)
  let pinned := ∃ e ∈ headEntries h, ∃ x, u.entrySlot? p (u.rd64 (u.keyOf p e)) = some x ∧ u.slotPin p x ≠ 0
  u.readHead p a = .ok h →
  (h.edit = true → exec i s = .next u.observe) ∧
  (h.edit = false → h.parked = park → exec i s = .next (u.finish r q 0x0787).observe) ∧
  (h.edit = false → h.parked ≠ park → park = true → pinned → exec i s = .next (u.finish r q 0x0788).observe) ∧
  (h.edit = false → h.parked ≠ park → (park = true → ¬ pinned) → u.reserveRuns p park (pages.map (u.slotSpan p)) = none →
    exec i s = .next (u.finish r q 0x0789).observe) ∧
  (h.edit = false → h.parked ≠ park → (park = true → ¬ pinned) →
    ∀ t rs, u.reserveRuns p park (pages.map (u.slotSpan p)) = some (t, rs) →
    let k := t.keyOf p (a + 24)
    let w := ((t.wr64 k (t.rd64 k ||| 1)).epochAdv p).knowHead p a
    exec i s = .next (w.modCmd r q (fun x => { x with prog := [a, w.epochCur p, 0] ++ rs })).observe)) ∧
  (∀ (r q op a e0 k : Nat) (rs : List Nat) (c : InFlight) (i : Instr) (h : Head) (s : State),
  (op, i) ∈ [(0x92, Instr.seqPark r q), (0x93, .seqUnpark r q)] → s.working op r q c → c.prog = a :: e0 :: k :: rs →
  let u := s.observe
  u.moving r q = false → e0 ≤ u.epochOld c.part → u.readHead c.part a = .ok h → h.entries ≤ k →
  let w := rs.foldl (fun s i => s.freeRun c.part i) u
  let x := w.wr64 (w.keyOf c.part (a + 8)) (w.rd64 (w.keyOf c.part (a + 8)) + 1)
  Runs i s (fun t => t.endedWith r q 0 c.good ∧ t.mem = (x.wr64 (x.keyOf c.part (a + 24)) (if op = 0x92 then 2 else 0)).mem ∧
    t.kvMoves = s.kvMoves ∧ t.rings = s.rings ∧ t.host = s.host))

/-- A chunk header reads back as it was written. For every header with fields in range, decoding the written chunk gives the header
back, it is not found bad, the chunk is whole 64-byte units, and its payload and CRC-32C stand where the header says. (From 11
Fuller Activation Compression: The container.) -/
def Obligations.FullerHeader : Prop := ∀ (h : FulHead) (p rest : List Byte),
  h.mode < 256 → h.fmt < 32 → h.stored < 32 → h.planes < 256 → h.index < 2 ^ 32 → h.units < 2 ^ 32 → h.first < 2 ^ 64 →
  h.total < 2 ^ 64 → h.w < 2 ^ 16 → h.h < 2 ^ 16 → h.chans < 2 ^ 32 → h.param0 < 2 ^ 32 → h.param1 < 2 ^ 32 →
  h.rawBytes < 2 ^ 32 → h.payload < 2 ^ 32 → h.payload = p.length →
  let b := chunkBytes h p
  fulHead (b ++ rest) = h ∧ badHead (b ++ rest) = false ∧ b.length % 64 = 0 ∧ (b.drop 64).take h.payload = p ∧
    crc32c (b.take (64 + h.payload)) = leAt b (64 + h.payload) 4

/-- FUL_PACK and FUL_UNPACK, chunk by chunk. A command whose turn it is not waits (R252). A pack writes the next chunk to its
container in device memory and goes on, or ends with the container's bytes after the last chunk. An unpack ends with 0x080A when
the container has no room for a header, takes a bad header as 0x0806 and a bad CRC as 0x0807, and after the last sound chunk ends
with the bytes it wrote, every element of the chunk written. (From 11 Fuller Activation Compression: The pack and unpack commands,
11 Fuller Activation Compression: Unpacking, 11 Fuller Activation Compression: Results, capacity and completion.) -/
def Obligations.FullerChunks : Prop :=
  (∀ (r q f n : Nat) (c : InFlight) (b : List Byte) (k : Coded) (raw : Bool) (s : State),
  s.working 0x28 r q c → s.fulOf c = some f →
  (s.observe.fulTurn f ≠ some c.startNo → exec (.fulPack r q) s = .next s.observe.observe) ∧ (s.observe.fulTurn f = some c.startNo →
  let d := fulDesc c.ext
  let u := { s.observe with fulLast := SMap.put s.fulLast f c.startNo }
  let i := fulProg c 0
  let off := fulProg c 1
  let w := u.wrDev (some c.part) (d.cont + off) b
  u.makeChunk c d i (fulProg c 6) = .ok (b, k, n, raw) → d.host = false → off + b.length ≤ d.bytes → w.2.2 = 0 →
  (i + 1 ≠ d.chunks c.cmd.sub →
    Runs (.fulPack r q) s (fun t =>
      (∃ x, t.cmdAt? r q = some x ∧ x.phase = .started ∧ x.good = off + b.length ∧
        x.prog = [i + 1, off + b.length, fulProg c 2 + k.rawBlocks, fulProg c 3 + (if raw then 1 else 0), fulProg c 4 + n, 0, fulProg c 6]) ∧
      t.mem = w.1.mem ∧ t.host = s.host ∧ t.shape = s.shape ∧ t.frames = s.frames ∧ t.rings = s.rings)) ∧
  (i + 1 = d.chunks c.cmd.sub → d.result = 0 →
    Runs (.fulPack r q) s (fun t => t.endedWith r q 0 (off + b.length) ∧
      t.mem = w.1.mem ∧ t.host = s.host ∧ t.shape = s.shape ∧ t.frames = s.frames ∧ t.rings = s.rings)))) ∧
  (∀ (r q f : Nat) (c : InFlight) (s : State),
  s.working 0x29 r q c → s.fulOf c = some f →
  (s.observe.fulTurn f ≠ some c.startNo → exec (.fulUnpack r q) s = .next s.observe.observe) ∧ (s.observe.fulTurn f = some c.startNo →
  let d := fulDesc c.ext
  let u := { s.observe with fulLast := SMap.put s.fulLast f c.startNo }
  let i := fulProg c 0
  let off := fulProg c 1
  (d.bytes < off + 64 → exec (.fulUnpack r q) s = .next (u.endCmd r q 0x080A c.good).observe) ∧
  (off + 64 ≤ d.bytes → ∀ hb, u.contRead c d off 64 = .ok hb →
    (badHead hb = true → exec (.fulUnpack r q) s = .next (u.corruptChunk c d f i off c.good 0x0806).observe) ∧
    (badHead hb = false → off + (64 + (fulHead hb).payload + 4) ≤ d.bytes →
      ∀ b, u.contRead c d off (64 + (fulHead hb).payload + 4) = .ok b →
      let h := fulHead hb
      let us := (({ d with fmt := h.fmt } : FulDesc).chunkUnits h.mode i).map (({ d with fmt := h.fmt } : FulDesc).unitElems h.mode)
      let is := us.flatMap (fun x => x.1)
      (crc32c (b.take (64 + h.payload)) ≠ leAt b (64 + h.payload) 4 →
        exec (.fulUnpack r q) s = .next (u.corruptChunk c d f i off c.good 0x0807).observe) ∧
      (crc32c (b.take (64 + h.payload)) = leAt b (64 + h.payload) 4 → headMismatch d h i (fulProg c 5) = false →
        h.rawBytes = is.length * ({ d with fmt := h.fmt } : FulDesc).es →
        ∀ ws fl rb, chunkWords d h us ((b.drop 64).take h.payload) = some (ws, fl, rb) →
        (∀ x ∈ is.zip ws, u.checkDev (some c.part) (d.addr x.1) d.es = 0) → h.last = true → d.result = 0 →
        Runs (.fulUnpack r q) s (fun t => t.endedWith r q 0 (c.good + is.length * d.es) ∧
          t.mem = ((is.zip ws).foldl (fun s x => (s.wrDev (some c.part) (d.addr x.1) (leBytes d.es x.2)).1) u).mem ∧
          t.rings = s.rings))))))

/-- UPD_CHECK's vote and record, and MC_UU_STEP. The verdict is good exactly when the four counts of failures are 0; a check of one
partition writes its gate record and ends with status 0, or 0x0905 when groups are held or ill-formed as its vote says; a wider
one joins its vote. A write of the step counter changes the selected group's counter, and is refused with 0x0105 while an update
command runs on the channel. (From 12 Update Units and Step Commit: The check phase, 12 Update Units and Step Commit: Step
counters.) -/
def Obligations.UpdateCheck : Prop :=
  (∀ (r q : Nat) (c : InFlight) (ws : List UpdWork) (bad : Bool) (v : List Nat) (s : State),
  s.ready 0x50 r q c →
  let d := updDesc c.ext
  let u := s.atBegin c
  let w := u.wrDev (some c.part) d.gate (gateRecord d v)
  u.updTables c d = .ok (bad, ws) → u.updVote c d bad = .ok v →
  (verdict v % 2 = 1 ↔ v.getD 0 0 = 0 ∧ v.getD 2 0 = 0 ∧ v.getD 3 0 = 0 ∧ v.getD 4 0 = 0) ∧
  (d.scope = 0 → w.2.2 = 0 →
    Runs (.updCheck r q) s (fun t => t.endedWith r q (if v.getD 0 0 ≠ 0 then 0x0905 else 0) 128 ∧
      t = { s with mem := w.1.mem, bad := w.1.bad, weak := w.1.weak, cmds := t.cmds, ctxs := u.ctxs, pwr := u.pwr, starts := u.starts })) ∧
  (d.scope ≠ 0 → exec (.updCheck r q) s =
    .next (u.joinGroup u.groupRoot [2, u.job c.part, d.gateGroup] [d.step, d.gateSeq, d.parts, d.mask] v c).observe)) ∧
  (∀ (who : Requester) (ch : Nat) (v : Word64) (s : State),
  s.letsIn who (mcPage ch) →
  let held : Bool := s.cmds.any (fun c => (c.cmd.op == 0x50 || c.cmd.op == 0x51 || c.cmd.op == 0x52) && c.phase == .started &&
    s.workOn (mcPage ch) c)
  (held = true → exec (.mcUuStepWrite who ch v) s = .next (s.refuseF (mcPage ch) 0x0105 Fld.MC_UU_STEP_COUNT).observe) ∧
  (held = false → exec (.mcUuStepWrite who ch v) s =
    .next (s.setUuStep ch (s.fld (mcPage ch) Fld.MC_UU_STEP_SEL_GROUP) (getBits v 39 0)).observe))

/-- UPD_APPLY, UPD_STATS and FACTOR_REFRESH. STATS runs without changing parameters or step counters, writes a record for each tag and
ends with their bytes; APPLY runs in the mode its gate record gives, applying exactly when the record is good and of this step,
sequence and mask, and then every masked group's step counter is STEP; with a record that says skip it ends with 0x0901 and
changes neither memory nor counters. FACTOR_REFRESH without a Factor Engine ends with 0x0103, and with a sound list ends with the
bytes of all its factors. (From 12 Update Units and Step Commit: The apply phase, 12 Update Units and Step Commit: Statistics, 12
Update Units and Step Commit: The Factor Engine.) -/
def Obligations.UpdateApply : Prop :=
  (∀ (r q : Nat) (c : InFlight) (ws : List UpdWork) (bad : Bool) (s : State),
  let d := updDesc c.ext
  let u := s.atBegin c
  u.updTables c d = .ok (bad, ws) →
  (s.ready 0x52 r q c →
    let x := updScan u c d 2 ws
    let rs := (x.rows.filter (fun y => (ratiosOf ws).any (fun z => z.1 == y.getD 0 0))).map (fun y => (d.stats + 64 * y.getD 0 0,
      (statsRecord d.step 4 (match (ratiosOf ws).find? (fun z => z.1 == y.getD 0 0) with | some z => z.2 | none => .zero) y).1))
    let w := x.s.wrAll c.part rs
    exec (.updStats r q) s = .next (u.updRun c d 2 0 ws).observe ∧
    (x.stopped = [] → d.statsJob = false → d.stats ≠ 0 → w.2 = 0 →
      Runs (.updStats r q) s (fun t => t.endedWith r q 0 (64 * rs.length) ∧ t.mem = w.1.mem ∧ (∀ ch k, t.uuStep ch k = s.uuStep ch k) ∧
        t.rings = s.rings ∧ t.host = s.host))) ∧
  (s.ready 0x51 r q c → ∀ g, u.rdDev (some c.part) d.gate 128 = .ok g →
    let x := updScan u c d (gateMode d g).1 ws
    exec (.updApply r q) s = .next (u.updRun c d (gateMode d g).1 (gateMode d g).2 ws).observe ∧
    ((gateMode d g).1 = 0 ↔ leAt g 16 4 % 2 = 1 ∧ leAt g 8 8 = d.step ∧ leAt g 0 8 = d.gateSeq ∧ leAt g 32 32 = d.mask) ∧
    (c.info = 0 → x.stopped = [] → d.statsJob = false → d.stats = 0 →
      Runs (.updApply r q) s (fun t => t.endedWith r q (if (gateMode d g).1 = 0 then 0 else 0x0901) 0 ∧
        ((gateMode d g).1 = 0 → ∀ ch ∈ s.partChannels c.part, ∀ k ∈ bitList 256 d.mask, t.uuStep ch k = d.step) ∧
        ((gateMode d g).1 = 1 → (∀ ch k, t.uuStep ch k = s.uuStep ch k) ∧ t.mem = s.mem))))) ∧
  (∀ (r q fe : Nat) (c : InFlight) (list : List Byte) (s : State),
  s.ready 0x53 r q c →
  let u := s.atStart c
  let n := leAt c.ext 8 4
  let x := (List.range n).foldl (fun x i => FactorRun.block x c fe list i) ⟨u, 0, 0, 0, (0, 0)⟩
  (u.served? 17 (c.ccp / 8) = none → exec (.factorRefresh r q) s = .next (u.endCmd r q 0x0103 0).observe) ∧
  (u.served? 17 (c.ccp / 8) = some fe → u.rdDev (some c.part) (leAt c.ext 0 8) (32 * n) = .ok list →
    u.factorListCode c.part list n = 0 → x.code = 0 →
    Runs (.factorRefresh r q) s (fun t => t.endedWith r q 0 ((List.range n).map (fun i => 4 * leAt list (32 * i + 16) 4 ^ 2)).sum ∧
      t.mem = x.s.mem ∧ t.host = s.host ∧ t.frames = s.frames ∧ t.rings = s.rings ∧ t.chans = s.chans ∧ t.shape = s.shape)))

/-- Retraining, recalibration, row copies and stack temperature. A passed retrain returns the channel to service with its counts and
maxima; a failed one marks it out and known bad and stops the commands whose writes it held with 0x0A02; recalibration becomes
due, runs unscheduled when overdue and ends fresh; a row copy's end puts the entry in use, raises bit 19 and writes the table to
the NVM. A temperature sample reports the temperature and its maximum, shuts the stack down above 105 °C, raises the refresh step
at once and holds it within 3 °C below its threshold, and makes recalibration due 10 °C from the last one. (From 13 HBM Stacks,
Channels and Repair: Training, recalibration and retraining, 13 HBM Stacks, Channels and Repair: Temperature and refresh, 13 HBM
Stacks, Channels and Repair: Rows that fail.) -/
def Obligations.ChannelsAndTemperature : Prop :=
  (∀ (c : Nat) (s : State),
  let pg := mcPage c
  let fresh (x : State) : Prop := x.mcState c = 0 ∧ x.fld pg Fld.MC_STATUS_RECAL_DUE = 0 ∧
    x.fld pg Fld.MC_RECAL_LAST_STROKE = s.strokeNo % 2 ^ 48 ∧ x.mem = s.mem ∧ x.cmds.length = s.cmds.length ∧ x.rings = s.rings
  c < 1024 →
  (s.mcState c = 1 → ∀ us lanes, Runs (.retrainDone c true us lanes) s (fun t => fresh t ∧
    t.fld pg Fld.MC_RETRAIN_COUNT = satAdd 32 (s.fld pg Fld.MC_RETRAIN_COUNT) 1 ∧
    t.fld pg Fld.MC_RETRAIN_LONGEST = max (s.fld pg Fld.MC_RETRAIN_LONGEST) (min us 65535) ∧
    t.fld pg Fld.MC_STATUS_LANES_SPARED = min lanes 2)) ∧
  (s.mcState c = 1 → ∀ us lanes, Runs (.retrainDone c false us lanes) s (fun t => t.mcState c = 3 ∧
    (8, c) ∈ t.knownBad ∧ t.mem = s.mem ∧ (∀ r q f, (r, q) ∈ (s.chan c).heldCmds → s.cmdAt? r q = some f → f.phase = .started →
      f.status = 0 → t.endedWith r q 0x0A02 f.good))) ∧
  (s.mcServes c = true → exec (.recalDue c) s = .next (s.setFld pg Fld.MC_STATUS_RECAL_DUE 1).observe) ∧
  (s.mcServes c = true → s.mcState c = 0 → s.fld pg Fld.MC_STATUS_RECAL_DUE = 1 →
    exec (.recalOverdue c) s = .next (((s.setFld pg Fld.MC_STATUS_STATE 2).addFld pg Fld.MC_RECAL_UNSCHED 1).raise
      (stkPage (c / 32)) 18).observe) ∧
  (s.mcState c = 2 → Runs (.recalDone c) s fresh) ∧
  (∀ e, let under := (s.chan c).remaps.any (fun f => f.idx == e && f.copying)
    (under = false → exec (.rowRemapCopyDone c e) s = .next s.observe) ∧
    (under = true → exec (.rowRemapCopyDone c e) s = .next (((s.modChan c (fun x => { x with
      remaps := updateWhere (fun f => f.idx == e) (fun f => { f with copying := false }) x.remaps })).raise pg 19).queueNvm 1 c).observe))) ∧
  (∀ (k : Nat) (deg : Int) (s : State),
  let pg := stkPage k
  let cur := s.fld pg Fld.STK_STATUS_REFRESH
  k < 32 → s.trimmed 9 k = false → -128 ≤ deg → deg < 128 →
  Runs (.stackTempSample k deg) s (fun t => sext 8 (t.fld pg Fld.STK_STATUS_TEMP) = deg ∧
    sext 8 (t.fld pg Fld.STK_TEMP_MAX_TEMP) = max deg (sext 8 (s.fld pg Fld.STK_TEMP_MAX_TEMP)) ∧
    t.mem = s.mem ∧ t.shape = s.shape ∧ t.frames = s.frames ∧
    (deg ≤ 105 → t.cmds = s.observe.cmds ∧ t.rings = s.rings) ∧
    (105 < deg → t.fld pg Fld.STK_STATUS_STATE = 3 ∧
      (s.fld pg Fld.STK_STATUS_STATE ≠ 3 → ∀ i < 32, t.mcState (32 * k + i) ≠ 1 ∧ t.mcState (32 * k + i) ≠ 2)) ∧
    (deg ≤ 105 → cur < refreshStep deg → t.fld pg Fld.STK_STATUS_REFRESH = refreshStep deg) ∧
    (deg ≤ 105 → refreshStep deg ≤ cur → stepThreshold cur - 3 < deg → t.fld pg Fld.STK_STATUS_REFRESH = cur) ∧
    (∀ i < 32, deg ≤ 105 → s.mcServes (32 * k + i) = true → 10 ≤ (deg - (s.chan (32 * k + i)).recalTemp).natAbs →
      t.fld (mcPage (32 * k + i)) Fld.MC_STATUS_RECAL_DUE = 1)))

/-- HBM parity errors. An access without a failure changes nothing; a read that a re-read cures is counted and requests a retrain at
the 16th event of the window; a write that fails three times holds its write and retrains; a read that fails three times counts an
uncorrectable error, marks exactly its bytes uncorrectable and ends its started command with 0xF001, and memory's bytes stay.
(From 13 HBM Stacks, Channels and Repair: Parity.) -/
def Obligations.HbmParity : Prop := ∀ (c : Nat) (a : HbmAccess) (s : State),
  let pg := mcPage c
  let n := (((s.chan c).events.filter (fun t => decide (a.us < t + 1000))) ++ List.replicate a.fails a.us).length
  c < 1024 → s.mcState c ≠ 3 → a.odecc = 0 →
  (a.fails = 0 → exec (.hbmAccessComplete c a) s = .next s.observe) ∧
  (a.write = false → 0 < a.fails → a.fails < 3 → Runs (.hbmAccessComplete c a) s (fun t =>
    t.fld pg Fld.MC_PARITY_REREAD_OK = satAdd 32 (s.fld pg Fld.MC_PARITY_REREAD_OK) 1 ∧
    t.mem = s.mem ∧ t.bad = s.bad ∧ t.rings = s.rings ∧ t.cmds = s.observe.cmds ∧
    (n < 16 → t.mcState c = s.mcState c) ∧ (16 ≤ n → t.mcState c = 1))) ∧
  (a.write = true → a.fails = 3 → Runs (.hbmAccessComplete c a) s (fun t =>
    t.mcState c = 1 ∧ (t.chan c).heldWrite = true ∧ t.mem = s.mem ∧ t.bad = s.bad ∧ t.cmds = s.observe.cmds)) ∧
  (a.write = false → a.fails = 3 → Runs (.hbmAccessComplete c a) s (fun t =>
    t.fld pg Fld.MC_PARITY_UNCORRECTABLE = satAdd 32 (s.fld pg Fld.MC_PARITY_UNCORRECTABLE) 1 ∧
    (∀ b, b ∈ t.bad ↔ b ∈ s.bad ∨ ∃ i ∈ bitList 64 a.bytes, s.unplace? c (a.addr + i) = some b) ∧ t.mem = s.mem ∧
    (∀ r q f, a.cmd = some (r, q) → s.cmdAt? r q = some f → f.phase = .started → t.endedWith r q 0xF001 f.good)))

/-- Frame attributes, frame release and margining. A frame beyond its set is refused with 0x0A08; a change of GRAN or RUN_ORD of an
allocated frame is refused with 0x0A08 and of a free one loses its bytes; ALLOC of a retired frame is refused with 0x0A03; a
retiring frame released is retired and no other frame changes; a package-set frame is written with its pair. Margining is refused
with 0x0A09 unless the stack is idle and active, else starts with its point, and its end reports the results. (From 13 HBM Stacks,
Channels and Repair: Interleave sets, 13 HBM Stacks, Channels and Repair: Margining, 13 HBM Stacks, Channels and Repair: Rows that
fail.) -/
def Obligations.FramesAndMargining : Prop :=
  (∀ (who : Requester) (d : Nat) (v : Word64) (s : State),
  let pg := page 5 d
  let t := (s.frameSel d).1
  let f := (s.frameSel d).2
  let fr := s.frame t f
  let changed := getBits v 3 0 ≠ fr.gran ∨ getBits v 28 8 ≠ fr.ord
  let now : Frame := { fr with gran := getBits v 3 0, ord := getBits v 28 8, alloc := getBits v 29 29 == 1 }
  s.letsIn who pg → s.frameSelVoid d = false →
  (s.setFrames t ≤ f → exec (.frameAttrWrite who d v) s = .next (s.refuse pg 0x0A08 Reg.CDIE_FRAME_ATTR).observe) ∧
  (f < s.setFrames t → t ≠ 64 → 1 ≤ getBits v 3 0 → getBits v 3 0 ≤ 8 →
    (changed → fr.alloc = true → exec (.frameAttrWrite who d v) s = .next (s.refuseF pg 0x0A08
      (if getBits v 3 0 ≠ fr.gran then Fld.CDIE_FRAME_ATTR_GRAN else Fld.CDIE_FRAME_ATTR_RUN_ORD)).observe) ∧
    (changed → fr.alloc = false → getBits v 29 29 = 0 → getBits v 32 32 = 0 →
      exec (.frameAttrWrite who d v) s = .next ((s.setFrame t f now).lose (setBase t + f * 2 ^ 21) (2 ^ 21)).observe) ∧
    (¬changed → getBits v 29 29 = 1 → fr.alloc = false → fr.st = 2 →
      exec (.frameAttrWrite who d v) s = .next (s.refuseF pg 0x0A03 Fld.CDIE_FRAME_ATTR_ALLOC).observe) ∧
    (¬changed → (getBits v 29 29 = 1 → fr.alloc = false → fr.st ≠ 2) → getBits v 32 32 = 0 →
      exec (.frameAttrWrite who d v) s = .next (s.setFrame t f now).observe) ∧
    (¬changed → getBits v 29 29 = 0 → fr.st = 1 → Runs (.frameRelease who d v) s (fun x =>
      x.frame t f = { now with st := 2 } ∧ x.mem = s.mem ∧ x.shape = s.shape ∧
      ∀ u g, (u, g) ≠ (t, f) → g < 2 ^ 24 → f < 2 ^ 24 → x.frame u g = s.frame u g))) ∧
  (f < s.setFrames t → t = 64 → (getBits v 29 29 = 1 → fr.alloc = false → fr.st ≠ 2) → getBits v 32 32 = 0 →
    let half (u : State) (g : Nat) : State := u.setFrame 64 g { u.frame 64 g with gran := fr.gran, alloc := getBits v 29 29 == 1 }
    exec (.frameAttrWrite who d v) s = .next (half (half s (f / 2 * 2)) (f / 2 * 2 + 1)).observe)) ∧
  (∀ (who : Requester) (k : Nat) (v : Word64) (s : State),
  let pg := stkPage k
  let copying := (List.range 32).any (fun i => (s.chan (32 * k + i)).remaps.any (fun e => e.copying))
  let ready := (∀ p, s.stackPart? k = some p → s.idle p = true) ∧ s.fld pg Fld.STK_STATUS_STATE = 1 ∧ copying = false
  (s.letsIn who pg → getBits v 6 5 ≠ 3 → ¬ready →
    exec (.marginStart who k v) s = .next (s.refuseF pg 0x0A09 Fld.STK_MARGIN_START).observe) ∧
  (s.letsIn who pg → getBits v 6 5 ≠ 3 → ready → Runs (.marginStart who k v) s (fun t =>
    (t.stk k).margin = true ∧ t.fld pg Fld.STK_MARGIN_DONE = 0 ∧ t.fld pg Fld.STK_MARGIN_CHANNEL = getBits v 4 0 ∧
    t.fld pg Fld.STK_MARGIN_AXIS = getBits v 6 5 ∧ t.fld pg Fld.STK_MARGIN_OFFSET = getBits v 13 8 ∧
    t = { s with regs := t.regs, stks := t.stks }.observe)) ∧
  (∀ errors lanes, (s.stk k).margin = true → errors < 2 ^ 32 → lanes < 2 ^ 8 →
    Runs (.marginDone k errors lanes) s (fun t =>
      (t.stk k).margin = false ∧ t.fld pg Fld.STK_MARGIN_DONE = 1 ∧ t.fld pg Fld.STK_MARGIN_RES_ERRORS = errors ∧
      t.fld pg Fld.STK_MARGIN_RES_LANES = lanes ∧ t = { s with regs := t.regs, stks := t.stks }.observe)))

/-- NVM writes and EVACUATE. A completed NVM write copies a channel's repair tables, the known-bad map or an error record to its NVM
copy, and a failed one records 0x1009. An EVACUATE over sound ranges copies what it can, writes its bit map and ends with the
bytes of its blocks, changing neither frames nor rings nor channels. (From 13 HBM Stacks, Channels and Repair: Rows that fail, 13
HBM Stacks, Channels and Repair: Losing a channel, 19 Errors, Trim Map and the Recovery Ladder: The error record and the error
ring.) -/
def Obligations.NvmAndEvacuation : Prop :=
  (∀ (x : Nat) (r : List (Nat × Nat)) (s : State),
  let u : State := { s with errs := { s.errs with nvmQueue := r } }
  (s.errs.nvmQueue = (1, x) :: r → exec (.nvmWriteDone true) s = .next (u.modChan x (fun y => { y with
    nvmRemaps := y.remaps, nvmSpares := y.sparesRetired, nvmRows := y.rowsRetired })).observe) ∧
  (s.errs.nvmQueue = (2, x) :: r → exec (.nvmWriteDone true) s = .next { u with nvmKnownBad := s.knownBad }.observe) ∧
  (∀ k, k ≠ 4 → s.errs.nvmQueue = (k, x) :: r → exec (.nvmWriteDone false) s = .next (u.crnRecord 1 0x1009).observe) ∧
  (∀ b, s.errs.nvmQueue = (3, x) :: r → SMap.get? s.errs.recs x = some b → exec (.nvmWriteDone true) s = .next { s with
    errs := { s.errs with nvmQueue := r, fatal := (b :: s.errs.fatal).take 256, recs := SMap.put s.errs.recs x (markCopied b) } }.observe)) ∧
  (∀ (r q : Nat) (c : InFlight) (s : State),
  s.ready 0x2C r q c →
  let u := s.atStart c
  let n := leAt c.ext 16 8 / 64
  let e := u.evacSpans c (leAt c.ext 0 8) (leAt c.ext 8 8) 0 n
  let w := e.1.wrDev (some c.part) (leAt c.ext 24 8) (bitBytes e.2.1)
  e.2.2 = 0 → w.2.2 = 0 →
  Runs (.evacuate r q) s (fun t => t.endedWith r q 0 (64 * n) ∧ t.mem = w.1.mem ∧ t.rings = s.rings ∧
    (s.bad = [] → t.frames = s.frames ∧ t.chans = s.chans)))

/-- VC_OPEN, VC_CLOSE and VC_RELEASE. An open of a used slot ends with 0x0B02 and a sound open stores the session with its buffers; a
close of an idle session clears its marks and frees the slot; a release of an absent session ends with 0x0B02 and of held buffers
clears their hold bit. (From 14 Video Codec Engines: Sessions and frame buffers.) -/
def Obligations.CodecSessions : Prop := ∀ (r q v : Nat) (c : InFlight) (s : State),
  let k := vcSlotNo c
  (s.ready 0x70 r q c → (s.atStart c).vcOf? c = some v →
    let u := s.atStart c
    let n := bitsAt c.ext 20 11 6
    ((u.vcSlot? v k).isSome = true → exec (.vcOpen r q) s = .next (u.endCmd r q 0x0B02 0).observe) ∧
    (u.vcSlot? v k = none → ∀ b, u.rdDev (some c.part) (vcOpenSlot c.ext).pool (64 * n) = .ok b →
      let bufs := (List.range n).map (fun i => (⟨leAt b (64 * i) 8, leAt b (64 * i + 8) 8, leAt b (64 * i + 16) 8,
        leAt b (64 * i + 24) 8, leAt b (64 * i + 32) 4, 0⟩ : VcBuf))
      let x := { vcOpenSlot c.ext with bufs := bufs, hist := Config.video [0, (vcOpenSlot c.ext).std, (vcOpenSlot c.ext).st] }
      (∀ i < n, bitsAt b (64 * i + 36) 31 4 = 0 ∧ leAt b (64 * i + 40) 24 = 0) →
      (∀ i d, bufs[i]? = some d → u.vcBadBuf c.part x i d = false) →
      exec (.vcOpen r q) s = .next ((u.putSlot c.part v k x).endCmd r q 0 0).observe)) ∧
  (s.ready 0x71 r q c →
    let u := s.atBegin c
    let other := u.cmds.any (fun d => d.cmd.op == 0x71 && d.phase == .started && u.vcOf? d == some v && vcSlotNo d == k &&
      !(d.ring == r && d.seq == q))
    u.vcOf? c = some v → other = false → ∀ x, u.vcSlot? v k = some x → u.vcEarlier v c [0x72, 0x73, 0x74] = false →
    exec (.vcClose r q) s = .next (((u.putSlot c.part v k { x with bufs := x.bufs.map (fun b => { b with mark := 0 }) }).modVc v
      (fun e => { e with slots := SMap.erase e.slots k })).endCmd r q 0 0).observe) ∧
  (s.ready 0x74 r q c →
    let u := s.atBegin c
    u.vcOf? c = some v → u.vcClosing v k = false → u.vcEarlier v c [0x72, 0x73] = false →
    (u.vcSlot? v k = none → exec (.vcRelease r q) s = .next (u.endCmd r q 0x0B02 0).observe) ∧
    (∀ x, u.vcSlot? v k = some x → (∀ i ∈ bitList 32 c.cmd.payload, ∃ b, x.bufs[i]? = some b ∧ b.mark.testBit 2 = true) →
      exec (.vcRelease r q) s = .next ((u.putSlot c.part v k { x with bufs := (List.range x.bufs.length).filterMap (fun i =>
        (x.bufs[i]?).map (fun b => if (bitList 32 c.cmd.payload).contains i then { b with mark := b.mark - 4 } else b)) }).endCmd r q 0 0).observe))

/-- VC_DECODE, VC_ENCODE and its rows. A corrupt picture ends a decode with 0x0B0D; an intra picture that fits a free buffer is
decoded into it, counted, and the command ends with the bytes of its planes. An encode with a bad descriptor ends with its code; a
sound one with a row fence takes a buffer and waits for its rows; a row starts when the fence allows, and the last row's slice
ends the picture. What a bitstream holds and what an encoder chooses are free functions of the model (log 33). (From 14 Video
Codec Engines: Decoding, 14 Video Codec Engines: Encoding and rate control, 14 Video Codec Engines: Slices, records and fences.) -/
def Obligations.CodecPictures : Prop :=
  (∀ (r q v : Nat) (c : InFlight) (x : VcSlot) (bytes : List Byte) (s : State),
  let k := vcSlotNo c
  let u := s.atBegin c
  let y := u.modVc v (fun e => { e with queue := [(r, q)] })
  let b := c.ext
  let f (i : Nat) : Nat := Config.video [i, Config.video (0 :: x.std :: (if x.ten then 1 else 0) :: x.hist :: bytes.map BitVec.toNat)]
  let tok := Config.video (0 :: x.std :: (if x.ten then 1 else 0) :: x.hist :: bytes.map BitVec.toNat)
  let w := f 3 % 65536
  let h := f 4 % 65536
  s.ready 0x72 r q c → c.prog = [] → u.vcOf? c = some v → u.vcClosing v k = false → u.vcQueue v = [] → u.vcEarlier v c [0x74] = false →
  y.vcSlot? v k = some x → x.st = 1 → x.std ≠ 2 →
  y.rdDev (some c.part) (leAt b 0 8) (leAt b 8 4) = .ok bytes →
  let code := firstCode [(f 1 % 2 == 1, 0x0B0D), (f 2 % 2 == 1 || !vcSizeOk x.std w h 32, 0x0B0A),
    (decide (x.maxW < w) || decide (x.maxH < h) || (x.pictures != 0 && (w, h) != x.size && f 5 % 2 != 1), 0x0B0B), (x.free?.isNone, 0x0B06)]
  let held (a n : Nat) : Prop := ∀ i < n, (y.xlate (some c.part) (a + i)).isOk = true
  (code ≠ 0 → exec (.vcDecode r q) s = .next (y.endCmd r q code 0).observe) ∧
  (leAt b 24 8 = 0 → held (leAt b 16 8) 64 →
    (∀ d ∈ x.bufs, d.pitch % 256 = 0 ∧ x.maxW * x.sz ≤ d.pitch ∧ ∀ p ∈ x.parts d, held p.1 p.2) →
    code = 0 → f 5 % 2 = 1 →
    Runs (.vcDecode r q) s (fun t => t.endedWith r q 0 ((w * h + 2 * ceilDiv w 2 * ceilDiv h 2) * x.sz) ∧
      (∃ z, t.vcSlot? v k = some z ∧ z.pictures = (x.pictures + 1) % 2 ^ 32 ∧ z.size = (w, h) ∧ z.hist = tok) ∧
      t.fld (vcPage v) Fld.VC_PIX_DEC_COUNT = satAdd 64 (s.fld (vcPage v) Fld.VC_PIX_DEC_COUNT) (w * h) ∧
      t.frames = s.frames ∧ t.rings = s.rings ∧ t.shape = s.shape ∧ t.host = s.host))) ∧
  (∀ (r q v : Nat) (c : InFlight) (x : VcSlot) (s : State),
  let k := vcSlotNo c
  let b := c.ext
  (s.ready 0x73 r q c → c.prog = [] →
    let u := s.atBegin c
    let y := u.modVc v (fun e => { e with queue := [(r, q)] })
    u.vcOf? c = some v → u.vcClosing v k = false → u.vcQueue v = [] → u.vcEarlier v c [0x74] = false → y.vcSlot? v k = some x →
    x.st = 2 →
    (x.encodeCode b ≠ 0 → exec (.vcEncode r q) s = .next (y.endCmd r q (x.encodeCode b) 0).observe) ∧
    (x.encodeCode b = 0 → leAt b 72 8 = 0 → leAt b 48 8 ≠ 0 → ∀ i, x.free? = some i →
      Runs (.vcEncode r q) s (fun t =>
        (∃ z, t.cmdAt? r q = some z ∧ z.phase = .started ∧ z.prog ≠ [] ∧ (EncRun.ofList z.prog).row = 0 ∧ (EncRun.ofList z.prog).buf = i) ∧
        (∃ z d, t.vcSlot? v k = some z ∧ z.bufs[i]? = some d ∧ d.mark / 8 % 2 = 1) ∧
        t.rings = s.rings ∧ t.frames = s.frames ∧ t.regs = s.regs))) ∧
  (s.working 0x73 r q c → c.prog ≠ [] → s.vcOf? c = some v → s.vcSlot? v k = some x →
    let u := s.observe
    let e := EncRun.ofList c.prog
    ∀ key, u.xlate (some c.part) (leAt b 48 8) = .ok key →
    (u.semAtLeast key (leAt b 56 8 + x.need b e.row) = false → exec (.vcEncodeRowStart r q) s = .next u.observe) ∧
    (u.semAtLeast key (leAt b 56 8 + x.need b e.row) = true →
      ∀ src, u.vcSource c.part x b e.row = .ok src →
      let n := x.ctuRow (x.picType (leAt b 36 4) (bitsAt b 80 3 3 == 1) == 0) (if x.cap = 0 then 0 else x.budget)
        { e with tok := Config.video (25 :: e.tok :: src.map BitVec.toNat) }
      (n.row ≠ x.rows → (x.sliceRows = 0 ∨ n.row % x.sliceRows ≠ 0) →
        exec (.vcEncodeRowStart r q) s = .next (u.modCmd r q (fun z => { z with prog := n.toList })).observe) ∧
      (n.row = x.rows →
        let m := u.vcSlice c n
        exec (.vcEncodeRowStart r q) s = .next (if m.2.2 = 0 then m.1.vcEncodeEnd c v k x m.2.1
          else m.1.vcEncodeStop c v k x m.2.1 m.2.2).observe))))

/-- BAR2 writes and reads, RWT entries, PLACE_DONE and ATS invalidation. A BAR2 access outside the windows is a miss (a read is also
aborted); one inside writes or reads exactly the bytes its windows name and no others. An RWT entry of another partition is
refused with 0x0C02, an unsound one with 0x0C01, and a sound one stored whole; PLACE_DONE on the own entry adds its value to the
entry's semaphore and else is refused; an ATS invalidation is answered. (From 15 Host Ports, Host-Side Cores and Placement: The
Region Window Table and BAR2.) -/
def Obligations.HostWindow : Prop :=
  (∀ (who : Requester) (rid a : Nat) (s : State),
  s.arrives who = true → s.held = false →
  (∀ data : List Byte,
    ((List.range data.length).mapM (fun i => s.bar2Byte? who rid true (a + i)) = none →
      exec (.bar2Write who rid a data) s = .next (s.rwtMiss who).observe) ∧
    (∀ bytes, (List.range data.length).mapM (fun i => s.bar2Byte? who rid true (a + i)) = some bytes → s.bar2Code bytes = none →
      exec (.bar2Write who rid a data) s = .next (s.bar2Put bytes data).observe ∧
      (s.bar2Put bytes data) = { s with
        mem := (s.bar2Put bytes data).mem, bad := (s.bar2Put bytes data).bad, weak := (s.bar2Put bytes data).weak } ∧
      (∀ k, s.memWf → (∀ b ∈ bytes, s.keyOf b.1 b.2 ≠ k) → (s.bar2Put bytes data).rd k = s.rd k))) ∧
  (∀ len,
    ((List.range len).mapM (fun i => s.bar2Byte? who rid false (a + i)) = none →
      exec (.bar2Read who rid a len) s = .next ((s.rwtMiss who).emit .completerAbort).observe) ∧
    (∀ bytes, (List.range len).mapM (fun i => s.bar2Byte? who rid false (a + i)) = some bytes → s.bar2Code bytes = none →
      (∀ b ∈ bytes, s.bad.contains (s.keyOf b.1 b.2) = false) →
      exec (.bar2Read who rid a len) s = .next (s.emit (.data (bytes.map (fun b => s.rd (s.keyOf b.1 b.2))))).observe))) ∧
  (∀ (who : Requester) (p : Nat) (v : Word64) (s : State),
  let i := s.rwtSel p
  let old := s.rwtEntry i
  let e := rwtOf p v (((s.part p).rwtW1.map (fun x => x.2)).getD old.w1)
    (((s.part p).rwtW2.map (fun x => x.2)).getD old.w2)
  (s.letsIn who (partPage p) →
    (s.rwtOwns p i = false → exec (.rwtEntryCommit who p v) s = .next (s.refuseF (partPage p) 0x0C02 Fld.PART_RWT_SEL_ENTRY).observe) ∧
    (s.rwtOwns p i = true → e.valid = true → ∀ f, s.rwtUnsound? e = some f →
      exec (.rwtEntryCommit who p v) s = .next (s.refuseF (partPage p) 0x0C01 f).observe) ∧
    (s.rwtOwns p i = true → (e.valid = true → s.rwtUnsound? e = none) →
      exec (.rwtEntryCommit who p v) s = .next (({ s with rwt := SMap.put s.rwt i e } : State).modPart p
        (fun x => { x with rwtW1 := none, rwtW2 := none })).observe)) ∧
  (s.arrives who = true → s.mayRead who (partPage p) = true →
    exec (.rwtSelRead who p) s = .next (s.emit (.data (leBytes 8 i))).observe) ∧
  (s.letsIn who (partPage p) →
    let w := s.rwtEntry (getBits v 14 0)
    let mine := w.valid = true ∧ s.rwtOwns p (getBits v 14 0) = true ∧ w.key = getBits v 31 16
    (¬mine → exec (.placeDone who p v) s = .next (s.placeRefused who p).observe) ∧
    (mine → w.sem = 0 → exec (.placeDone who p v) s = .next s.observe) ∧
    (mine → w.sem ≠ 0 → s.memWf → ∀ k, s.xlate (some p) w.sem = .ok k → s.badIn k 8 = false →
      Runs (.placeDone who p v) s (fun t => t.rd64 k = (s.rd64 k + getBits v 63 32) % 2 ^ 64 ∧
        t = { s with mem := t.mem, cmds := t.cmds, bad := t.bad, weak := t.weak }))) ∧
  (∀ h b n, s.linked h = true → exec (.atsInvalidate h b n) s = .next (s.emit (.atsComplete h b n)).observe))

/-- MOVE copies piece by piece. Each event of a MOVE copies at most 4,096 bytes; the last piece ends it with status 0 and all its
bytes, changing host memory only for a host destination and device memory only for a device one; an access error ends it with the
code and the good bytes. (From 15 Host Ports, Host-Side Cores and Placement: The MOVE command.) -/
def Obligations.MoveCopies : Prop := ∀ (r q : Nat) (c : InFlight) (s : State),
  s.working 0x10 r q c →
  let u := s.observe
  let d := moveDesc c.ext
  let i := c.prog.head?.getD 0
  let x := u.movePiece c d i (min 4096 (d.rb * d.rows - i))
  let y := (x.1.modCmd r q (fun z => { z with
    prog := [x.2.1], good := if d.dstHost then 0 else x.2.1, ports := if d.dstHost then [d.port] else z.ports })).observe
  (x.2.2 = 0 → d.rb * d.rows ≤ i + 4096 →
    Runs (.moveRect r q) s (fun t => t.endedWith r q 0 (d.rb * d.rows) ∧ t.mem = x.1.mem ∧ t.host = x.1.host ∧
      (d.dstHost = false → t.host = s.host) ∧ (d.dstHost = true → t.mem = s.mem) ∧
      t.rings = s.rings ∧ t.frames = s.frames ∧ t.shape = s.shape ∧ t.regs = s.regs)) ∧
  (x.2.2 = 0 → i + 4096 < d.rb * d.rows → exec (.moveRect r q) s = .next y.observe ∧ x.2.1 = i + 4096) ∧
  (x.2.2 ≠ 0 → x.2.2 ≠ 0xF001 →
    exec (.moveRect r q) s = .next (y.endCmd r q x.2.2 (if d.dstHost then 0 else x.2.1)).observe)

/-- The runtime channel: models, contexts, tier policy, grants and queries. A doorbell with an unknown request answers 0x0C0D;
MODEL_LOAD begins a load into an EMPTY entry or is refused, its end makes the entry resident and answers; MODEL_EVICT, MODEL_PIN,
CONTEXT_CREATE, CONTEXT_DESTROY, TIER_POLICY, RWT_GRANT and QUERY do what their requests say and answer, or answer the code that
refuses them. Runtime response numbering and allocation are the model's (log 23). (From 15 Host Ports, Host-Side Cores and
Placement: Host-side cores and the runtime channel, 17 Partitions, Time Slices and Pre-emption: The Resident Model Table, 17
Partitions, Time Slices and Pre-emption: Contexts and their states.) -/
def Obligations.RuntimeChannel : Prop :=
  (∀ (p : Nat) (b : List Byte) (s : State),
  s.rtReq? p = some b →
  let u := s.rtTake p
  let tag := leAt b 2 2
  let last (x : State) : State := x.rtUnknown p 4096
  (leAt b 0 1 = 1 → ∀ list rs,
    (leAt b 16 8 % 4096 ≠ 0 → exec (.modelLoad p list rs) s = .next (last (u.rtFail p b 0x0C0E)).observe) ∧
    (rtClean b [(8, 8), (16, 8), (24, 8), (32, 1)] = true → leAt b 16 8 % 4096 = 0 → leAt b 24 8 ≠ 0 → leAt b 24 8 ≤ 2 ^ 40 →
      leAt b 32 1 ≤ 1 →
      (u.rmtPick p = none → exec (.modelLoad p list rs) s = .next (last (u.rtFail p b 0x0E0A)).observe) ∧
      (∀ i, u.rmtPick p = some (i, none) → u.regionsFit p list (leAt b 24 8) rs = true →
        let gen := match u.rmt? i with | some e => leAt e 36 4 + 1 | none => 1
        let w := (u.wrDev none list (rs.flatMap (fun r => leBytes 8 r.1 ++ leBytes 8 r.2))).1
        exec (.modelLoad p list rs) s = .next (last ((w.rmtWrite i 0 (leBytes 8 (leAt b 8 8) ++ leBytes 6 list ++
          leBytes 2 rs.length ++ leBytes 8 (leAt b 24 8) ++ leBytes 6 s.strokeNo ++ leBytes 2 0 ++ leBytes 1 (p % 64 + 64) ++
          leBytes 3 0 ++ leBytes 4 gen ++ leBytes 8 (leAt b 16 8) ++ leBytes 16 0)).modPart p
          (fun x => { x with rtLoads := x.rtLoads ++ [⟨tag, i, leAt b 32 1 == 1⟩] }))).observe))) ∧
  (leAt b 0 1 = 2 → rtClean b [(8, 2)] = true →
    (u.rmtOf? p (leAt b 8 2) = none → exec (.modelEvict p) s = .next (last (u.rtFail p b 0x0C0E)).observe) ∧
    (∀ e, u.rmtOf? p (leAt b 8 2) = some e → rmtPins e ≠ 0 → exec (.modelEvict p) s = .next (last (u.rtFail p b 0x0E0B)).observe) ∧
    (∀ e, u.rmtOf? p (leAt b 8 2) = some e → rmtPins e = 0 →
      exec (.modelEvict p) s = .next (last ((u.evictModel p (leAt b 8 2) e).rtRespond p tag 0 0 0)).observe)) ∧
  (leAt b 0 1 = 3 → rtClean b [(8, 2), (12, 1)] = true → (sleAt b 12 1 = 1 ∨ sleAt b 12 1 = -1) →
    ∀ e, u.rmtOf? p (leAt b 8 2) = some e → 0 ≤ (rmtPins e : Int) + sleAt b 12 1 → (rmtPins e : Int) + sleAt b 12 1 ≤ 65535 →
    exec (.modelPin p) s = .next (last ((u.pinModel (leAt b 8 2) (sleAt b 12 1)).rtRespond p tag 0
      ((rmtPins e : Int) + sleAt b 12 1).toNat 0)).observe) ∧
  (∀ l rest e, (s.part p).rtLoads = l :: rest → s.rtOn p = true → s.rmt? l.idx = some e →
    let x := s.modPart p (fun x => { x with rtLoads := rest })
    let rs := x.rmtRegions e
    x.hostCode (x.rtPort p) p (leAt e 40 8) (leAt e 16 8) = 0 →
    exec (.modelLoadDone p) s = .next (((x.loadRegions p (x.rtPort p) (leAt e 40 8) rs).rmtWrite l.idx 30
      (leBytes 2 (if l.pin then 1 else 0) ++ leBytes 1 (p % 64 + 128))).rtRespond p l.tag 0 (l.idx + leAt e 36 4 * 2 ^ 32)
      ((rs.head?.map (fun r => r.1)).getD 0)).observe)) ∧
  (∀ (p : Nat) (s : State),
  let last (x : State) : State := x.rtUnknown p 4096
  (∀ who v, s.letsIn who (partPage p) →
    let u := s.modPart p (fun x => { x with rtTail := getBits v 31 0 })
    (u.rtReq? p = none → exec (.rtDoorbell who p v) s = .next u.observe) ∧
    (∀ b, u.rtReq? p = some b → 1 ≤ leAt b 0 1 → leAt b 0 1 ≤ 8 → exec (.rtDoorbell who p v) s = .next u.observe) ∧
    (∀ b, u.rtReq? p = some b → (leAt b 0 1 = 0 ∨ 8 < leAt b 0 1) →
      exec (.rtDoorbell who p v) s = .next (((u.rtTake p).rtRespond p (leAt b 2 2) 0x0C0D 0 0).rtUnknown p 4095).observe)) ∧
  (∀ b, s.rtReq? p = some b →
    let u := s.rtTake p
    let tag := leAt b 2 2
    (leAt b 0 1 = 4 → ∀ map areas n x ws bs,
      rtClean b [(8, 1), (12, 4), (16, 4), (20, 1), (21, 1), (24, 8), (32, 1), (40, 8), (48, 1)] = true → n = leAt b 8 1 → n < 16 →
      leAt b 21 1 ≤ 1 → (u.ctx p n).st = .empty → rtCtx? b map = .ok x →
      let w := u.wrDev (some p) map ((List.range 16).flatMap (fun d => leBytes 8 (areas.getD d 0)))
      w.2.2 = 0 → w.1.ctxCheck p n x = .ok (ws, bs) →
      exec (.contextCreate p map areas) s = .next (last ((w.1.makeReady p n { x with wdLimit := (w.1.ctx p n).wdLimit } ws bs.1 bs.2).rtRespond
        p tag 0 n map)).observe) ∧
    (leAt b 0 1 = 5 → rtClean b [(8, 1)] = true → leAt b 8 1 < 16 →
      let ok := (u.ctx p (leAt b 8 1)).st = .ready ∨ (u.ctx p (leAt b 8 1)).st = .suspended ∨ (u.ctx p (leAt b 8 1)).st = .aborted
      let busy := u.rings.any (fun r => u.ctxRing p (leAt b 8 1) r.1 && r.2.st != 0)
      (ok → busy = false → exec (.contextDestroy p) s = .next (last ((u.emptyCtx p (leAt b 8 1)).rtRespond p tag 0 0 0)).observe) ∧
      (¬ok ∨ busy = true → exec (.contextDestroy p) s = .next (last (u.rtFail p b 0x0E09)).observe)) ∧
    (leAt b 0 1 = 6 → rtClean b [(8, 4), (12, 4), (16, 2), (18, 1), (19, 1)] = true → leAt b 18 1 ≤ 2 → leAt b 19 1 ≤ 1 →
      u.kvSlots p ≠ 0 →
      (u.kvSlots p < leAt b 12 4 → exec (.tierPolicy p) s = .next (last (u.rtFail p b 0x078C)).observe) ∧
      (leAt b 8 4 ≤ leAt b 12 4 → leAt b 12 4 ≤ u.kvSlots p →
        exec (.tierPolicy p) s = .next (last (((((u.setFld (partPage p) Fld.PART_KV_WM_LOW (leAt b 8 4)).setFld (partPage p)
          Fld.PART_KV_WM_HIGH (leAt b 12 4)).setFld (partPage p) Fld.PART_KV_PARK_PARK_STROKES (leAt b 16 2)).modPart p
          (fun x => { x with rtSpill := leAt b 18 1, rtPark := leAt b 19 1 == 1 })).rtRespond p tag 0 0 0)).observe)) ∧
    (leAt b 0 1 = 7 → ∀ alloc,
      let bytes := leAt b 16 8
      let dev := if leAt b 8 8 = 0 then alloc else leAt b 8 8
      rtClean b [(8, 8), (16, 8), (24, 1), (26, 2), (32, 8)] = true → bytes % 4096 = 0 → bytes ≠ 0 →
      bytes ≤ (u.shape.live.rwt p).2 * 2 ^ 21 → leAt b 24 1 ≤ 3 → leAt b 32 8 = 0 → dev % 4096 = 0 → u.cmOrHbm p dev bytes = true →
      (u.rwtFree? p (ceilDiv bytes (2 ^ 21)) = none → exec (.rwtGrant p alloc) s = .next (last (u.rtFail p b 0x0C0F)).observe) ∧
      (∀ i, u.rwtFree? p (ceilDiv bytes (2 ^ 21)) = some i → Runs (.rwtGrant p alloc) s (fun t =>
        t.draws = s.draws + 1 ∧ ∃ key < 2 ^ 16, ∀ j, j < ceilDiv bytes (2 ^ 21) → t.rwtEntry (i + j) =
          ⟨true, leAt b 24 1 % 2 == 1, decide (2 ≤ leAt b 24 1), dev + j * 2 ^ 21, min 512 ((bytes - j * 2 ^ 21) / 4096), key, p,
            leAt b 26 2, 0⟩))) ∧
    (leAt b 0 1 = 8 → rtClean b [] = true →
      let ver := Config.runtimeVersion ((u.sec.bundle[u.sec.runBundle]?.map (fun f => f.body)).getD [])
      exec (.query p) s = .next (last (u.rtRespond p tag 0
        (ver % 2 ^ 32 + (match u.resident? p with | some c => c + 16 | none => 0) * 2 ^ 32 +
          maskOf 16 (fun c => (u.ctx p c).st != .empty) * 2 ^ 37)
        (u.shape.live.gen % 2 ^ 32 + u.tierCount p false 0 * 2 ^ 32))).observe)))

/-- MODEL_LOAD without room, MODEL_EVICT of a pinned model, and what eviction clears. A MODEL_LOAD when no entry is EMPTY and no
RESIDENT entry of the partition has PINS = 0 fails with 0x0E0A; a MODEL_EVICT of an entry with PINS not 0 fails with 0x0E0B; with
PINS 0 it clears exactly the partition's valid window entries that meet the model's regions, in the state the entry is freed in.
(States R417.) -/
def Obligations.ModelEviction : Prop := ∀ (p : Nat) (b : List Byte) (s : State), s.rtReq? p = some b →
  let u := s.rtTake p
  let tag := leAt b 2 2
  let last (x : State) : State := x.rtUnknown p 4096
  (leAt b 0 1 = 1 → ∀ list rs,
    rtClean b [(8, 8), (16, 8), (24, 8), (32, 1)] = true → leAt b 16 8 % 4096 = 0 → leAt b 24 8 ≠ 0 → leAt b 24 8 ≤ 2 ^ 40 →
    leAt b 32 1 ≤ 1 →
    (∀ i < 4096, ∀ e, u.rmt? i = some e → rmtState e ≠ 0 ∧ ¬(rmtState e = 2 ∧ rmtPart e = p ∧ rmtPins e = 0)) →
    exec (.modelLoad p list rs) s = .next (last (u.rtFail p b 0x0E0A)).observe) ∧
  (leAt b 0 1 = 2 → rtClean b [(8, 2)] = true → ∀ e, u.rmtOf? p (leAt b 8 2) = some e →
    (rmtPins e ≠ 0 → exec (.modelEvict p) s = .next (last (u.rtFail p b 0x0E0B)).observe) ∧
    (rmtPins e = 0 →
      let v := u.evictModel p (leAt b 8 2) e
      exec (.modelEvict p) s = .next (last (v.rtRespond p tag 0 0 0)).observe ∧
      (∀ i, (v.rwtEntry i).valid = ((u.rwtEntry i).valid && !((u.rwtEntry i).part == p &&
        (u.rmtRegions e).any (fun r => rangesMeet r ((u.rwtEntry i).base, (u.rwtEntry i).limit * 4096)))))))

/-- A link that retrains loses nothing. LINK_RECOVERY of a link that is up increases HP_LINK.RETRAINS, raises bit 18 on the port's
page and changes nothing else: no command, byte of memory or host memory, ring or output but the interrupt. (States R366.) -/
def Obligations.LinkRecovery : Prop := ∀ (h : Nat) (s : State), s.linked h = true →
  let t := (s.addFld (hpPage h) Fld.HP_LINK_RETRAINS 1).raise (hpPage h) 18
  exec (.linkRecovery h) s = .next t.observe ∧
  t = { s with regs := t.regs, out := t.out } ∧ s.out <:+ t.out

/-- Link up, flushing reads, host loss and the claim of held state. A link comes up with its speed and width and, first after a cold
start, with a fresh RETAIN_ID for both ports; a flushing read covers all records before it; a host loss stops its host rings with
0x0C05, marks its completion queues lost and changes neither memory nor the Live Shape nor frames. A claim is ignored when nothing
is held and a write of 0 does nothing; a claim is refused with 0x0C09 within 100 ms or on a mismatch, and on a match starts the
exit with a new RETAIN_ID. (From 15 Host Ports, Host-Side Cores and Placement: Link retrain, link loss and host reset.) -/
def Obligations.HostLoss : Prop :=
  (∀ (h : Nat) (s : State),
  let pg := hpPage h
  (s.linked h = true → exec (.recordFlushingRead h) s = .next (s.modHp h (fun x => { x with uncovered := [] })).observe) ∧
  (h < 2 → s.linked h = false → s.running = true → s.fld crnPage Fld.CRN_SERVICE_MIN_MET = 1 → s.trimmed 13 h = false →
    ∀ speed width cxl, speed < 8 → width < 32 → Runs (.linkUp h speed width cxl) s (fun t =>
      t.linked h = true ∧ t.fld pg Fld.HP_LINK_SPEED = speed ∧ t.fld pg Fld.HP_LINK_WIDTH = width ∧ t.pwr.fresh = false ∧
      (s.pwr.fresh = true → t.draws = s.draws + 1 ∧ t.reg (hpPage 0 + Reg.HP_RETAIN_ID) = t.reg (hpPage 1 + Reg.HP_RETAIN_ID)) ∧
      (s.pwr.fresh = false → t.draws = s.draws) ∧ t = { s with regs := t.regs, pwr := t.pwr, draws := t.draws, out := t.out }.observe)) ∧
  (h < 2 → s.linked h = true → s.sh (hpPage 0) Fld.HP_CFG_HOLD_ON_HOST_LOSS = 0 → s.pwr.d3 = [] → Runs (.hostLoss h) s (fun t =>
    t.linked h = false ∧
    t.fld pg Fld.HP_LOSS_LOSS_SEQ = satAdd (Fld.HP_LOSS_LOSS_SEQ.hi + 1 - Fld.HP_LOSS_LOSS_SEQ.lo) (s.fld pg Fld.HP_LOSS_LOSS_SEQ) 1 ∧
    (∀ k, (s.ring k).st = 1 → ((s.ring k).inHost && (s.ring k).port == h) = true → (t.ring k).st = 2 ∧ (t.ring k).fault = 0x0C05) ∧
    (∀ k, (s.ring k).st ≠ 0 → ((s.ring k).cqInHost && (s.ring k).cqPort == h) = true → (t.ring k).lost = true) ∧
    (∀ c ∈ t.cmds, h ∈ c.lostPorts) ∧ (t.hp h).uncovered = [] ∧ (t.hp h).lossStroke = s.strokeNo ∧ t.mem = s.mem ∧ t.shape.live = s.shape.live ∧ t.frames = s.frames))) ∧
  (∀ (h ms : Nat) (v : Word64) (s : State),
  let pg := hpPage h
  let soon := ∃ x, (s.hp h).lastClaim = some x ∧ ms < x + 100
  let again := s.modHp h (fun x => { x with lastClaim := some ms })
  s.letsIn (.pf h) pg → h < 2 →
  (s.fld pg Fld.HP_RETAIN_CTRL_STATE ≠ 1 ∨ v = 0 → exec (.retainClaim (.pf h) h ms v) s = .next s.observe) ∧
  (v ≠ 0 →
  (s.fld pg Fld.HP_RETAIN_CTRL_STATE = 1 → soon → exec (.retainClaim (.pf h) h ms v) s =
    .next (((s.refuseF pg 0x0C09 Fld.HP_RETAIN_CLAIM_ID).addFld pg Fld.HP_RETAIN_CTRL_REFUSED 1).raise pg 19).observe) ∧
  (s.fld pg Fld.HP_RETAIN_CTRL_STATE = 1 → ¬soon → s.reg (pg + Reg.HP_RETAIN_ID) ≠ v →
    exec (.retainClaim (.pf h) h ms v) s =
      .next (((again.refuseF pg 0x0C09 Fld.HP_RETAIN_CLAIM_ID).addFld pg Fld.HP_RETAIN_CTRL_REFUSED 1).raise pg 19).observe) ∧
  (s.fld pg Fld.HP_RETAIN_CTRL_STATE = 1 → ¬soon → s.reg (pg + Reg.HP_RETAIN_ID) = v →
    Runs (.retainClaim (.pf h) h ms v) s (fun t => t.fld crnPage Fld.CRN_PWR_STATUS_STATE = 3 ∧
      t.fld (hpPage 0) Fld.HP_RETAIN_CTRL_STATE = 2 ∧ t.fld (hpPage 1) Fld.HP_RETAIN_CTRL_STATE = 2 ∧ t.draws = s.draws + 1 ∧
      t.reg (hpPage 0 + Reg.HP_RETAIN_ID) = t.reg (hpPage 1 + Reg.HP_RETAIN_ID) ∧ t.shape = s.shape ∧
      ((∀ p < 64, ∀ c < 16, (s.ctx p c).st ≠ .ready ∧ (s.ctx p c).st ≠ .suspended) → t.mem = s.mem)))))

/-- The Dwerdo queue pair. Disabling and enabling the queue pair with its checks, the tail and head doorbells with the stop 0x0306
beyond the queue, and one command taken: an unknown opcode answers 0x0C0B, a sound one is issued into its ring. Queue corner cases
are the model's readings (log 41). (From 15 Host Ports, Host-Side Cores and Placement: The Dwerdo personality.) -/
def Obligations.DwerdoQueue : Prop := ∀ (h : Nat) (v : Word64) (s : State),
  let pg := hpPage h
  let n := 2 ^ s.dwLog2 h
  let q := (s.hp h).dw
  s.shape.persona[h]? = some 1 → s.linked h = true →
  (∀ who, s.letsIn who pg →
    (getBits v 4 4 = 0 → exec (.dwQueueEnable who h v) s = .next (((s.setFld pg Fld.HP_DW_CFG_LOG2 (getBits v 3 0)).setFld pg
      Fld.HP_DW_CFG_EN 0).setFld pg Fld.HP_DW_STATUS_STATE 0).observe) ∧
    (getBits v 4 4 = 1 → s.fld pg Fld.HP_DW_CFG_EN = 0 → (getBits v 3 0 < 4 ∨ 14 < getBits v 3 0) →
      exec (.dwQueueEnable who h v) s = .next (s.refuseF pg 0x0102 Fld.HP_DW_CFG_LOG2).observe) ∧
    (getBits v 4 4 = 1 → s.fld pg Fld.HP_DW_CFG_EN = 0 → 4 ≤ getBits v 3 0 → getBits v 3 0 ≤ 14 →
      (s.reg (pg + Reg.HP_DW_SQ_BASE)).toNat % 4096 = 0 → (s.reg (pg + Reg.HP_DW_CQ_BASE)).toNat % 4096 = 0 →
      s.fld pg Fld.HP_DW_EVT_BASE_ADDR % 4096 = 0 → s.hbmRange 0 (s.fld pg Fld.HP_DW_EVT_BASE_ADDR) 32768 = true →
      Runs (.dwQueueEnable who h v) s (fun t => t.fld pg Fld.HP_DW_CFG_LOG2 = getBits v 3 0 ∧ t.fld pg Fld.HP_DW_CFG_EN = 1 ∧
        t.fld pg Fld.HP_DW_STATUS_STATE = 1 ∧ t.fld pg Fld.HP_DW_STATUS_FAULT = 0 ∧ t.fld pg Fld.HP_DW_STATUS_SQ_HEAD = 0 ∧
        t.fld pg Fld.HP_DW_STATUS_CQ_TAIL = 0 ∧ (t.hp h).dw = {} ∧ t = { s with regs := t.regs, hps := t.hps }.observe))) ∧
  (s.fld pg Fld.HP_DW_STATUS_STATE = 1 →
    (getBits v 15 0 < n → exec (.dwSqTailWrite (.pf h) h v) s =
      .next (s.modHp h (fun x => { x with dw := { x.dw with tail := getBits v 15 0 } })).observe) ∧
    (n ≤ getBits v 15 0 → exec (.dwSqTailWrite (.pf h) h v) s = .next ((s.setFld pg Fld.HP_DW_STATUS_STATE 2).setFld pg
      Fld.HP_DW_STATUS_FAULT 0x0306).observe)) ∧
  (getBits v 15 0 < n → exec (.dwCqHeadWrite (.pf h) h v) s =
    .next (s.modHp h (fun x => { x with dw := { x.dw with cqHead := getBits v 15 0 } })).observe) ∧
  (n ≤ getBits v 15 0 → exec (.dwCqHeadWrite (.pf h) h v) s = .next s.observe) ∧
  (∀ r, s.fld pg Fld.HP_DW_STATUS_STATE = 1 → q.taken % n ≠ q.tail % n →
    let a := (s.reg (pg + Reg.HP_DW_SQ_BASE)).toNat + 64 * (q.taken % n)
    let b := s.rdHost h a 64
    let u := (s.modHp h (fun x => { x with dw := { x.dw with taken := x.dw.taken + 1 } })).setFld pg Fld.HP_DW_STATUS_SQ_HEAD
      ((q.taken + 1) % n)
    s.hostCode h 0 a 64 = 0 →
    (dwOpcode? (bitsAt b 0 7 0) = none →
      exec (.dwCommand h r) s = .next (u.putDw h (leAt b 2 2) 0x0C0B 0 (bitsAt b 1 2 2 == 1)).observe) ∧
    (∀ op body, dwOpcode? (bitsAt b 0 7 0) = some op → dwReserved b = false → s.dwBody h b op ((extNeed? op).getD 0) = .ok body →
      s.dwRing h r b = true →
      exec (.dwCommand h r) s = .next (u.dwIssue h r b op ((extNeed? op).getD 0) body).observe))

/-- Deep nap, cluster Nap and Block-hold. Deep nap is refused with 0x0F01 unless the partition is defined and idle, with 0x0F04 on a
change of RETAIN_SRAM while not awake, and passes through its states, losing its units' contents without retention; a doorbell or
AUTO_WAKE during the entry starts the wake when the entry ends and clears DEEP_NAP, and frames held for the sleeping partition are
taken when the wake ends, by the model's reading (log 47); an idle cluster naps. Block-hold begins when every PF is in D3 and no
context must be saved, keeps every byte below the cluster memories, holds the stacks in self-refresh, and its exit returns them.
(From 18 Resets, Power States and Retention: Power states.) -/
def Obligations.SleepStates : Prop :=
  (∀ (who : Requester) (p : Nat) (v : Word64) (s : State),
  let pg := partPage p
  let st := s.fld pg Fld.PART_PWR_STATE
  let set (x : State) : State := ((x.setFld pg Fld.PART_PWR_DEEP_NAP (getBits v 0 0)).setFld pg Fld.PART_PWR_RETAIN_SRAM
    (getBits v 1 1)).setFld pg Fld.PART_PWR_AUTO_WAKE (getBits v 2 2)
  (s.letsIn who pg → st = 0 → getBits v 0 0 = 1 → (s.shape.live.defined p = false ∨ s.idle p = false) →
    exec (.deepNapEnter who p v) s = .next (s.refuseF pg 0x0F01 Fld.PART_PWR_DEEP_NAP).observe) ∧
  (s.letsIn who pg → st = 0 → getBits v 0 0 = 1 → s.shape.live.defined p = true → s.idle p = true →
    exec (.deepNapEnter who p v) s = .next ((set s).setFld pg Fld.PART_PWR_STATE 1).observe) ∧
  (s.letsIn who pg → st ≠ 0 → getBits v 1 1 ≠ s.fld pg Fld.PART_PWR_RETAIN_SRAM →
    exec (.deepNapExit who p v) s = .next (s.refuseF pg 0x0F04 Fld.PART_PWR_RETAIN_SRAM).observe) ∧
  (s.letsIn who pg → st = 2 → getBits v 0 0 = 0 → getBits v 1 1 = s.fld pg Fld.PART_PWR_RETAIN_SRAM →
    exec (.deepNapExit who p v) s = .next ((set s).setFld pg Fld.PART_PWR_STATE 3).observe) ∧
  (st = 1 → (s.part p).wakeDue = false →
    (s.fld pg Fld.PART_PWR_RETAIN_SRAM = 1 → exec (.deepNapEntryDone p) s =
      .next ((s.clearSticky p).setFld pg Fld.PART_PWR_STATE 2).observe) ∧
    (s.fld pg Fld.PART_PWR_RETAIN_SRAM = 0 → exec (.deepNapEntryDone p) s =
      .next (((s.loseUnits p).clearSticky p).setFld pg Fld.PART_PWR_STATE 2).observe)) ∧
  (st = 1 → (s.part p).wakeDue = true → Runs (.deepNapEntryDone p) s (fun t => t.fld pg Fld.PART_PWR_STATE = 3 ∧
    t.fld pg Fld.PART_PWR_DEEP_NAP = 0 ∧ (t.part p).wakeDue = false ∧ t.rings = s.rings ∧ t.shape = s.shape)) ∧
  (st = 3 → s.fld pg Fld.PART_PWR_DEEP_NAP = 0 →
    exec (.deepNapWakeDone p) s = .next (s.setFld pg Fld.PART_PWR_STATE 0).releaseHeld.observe) ∧
  (∀ k < 128, s.running = true → s.trimmed 6 k = false → s.sh crnPage Fld.CRN_PWR_CFG_NAP_DELAY ≠ 0 → k ∉ s.pwr.napping →
    s.fld crnPage Fld.CRN_PWR_STATUS_STATE = 0 → (∀ c ∈ s.cmds, c.ccp = k → c.phase = .started → c.saved = true) →
    (∀ j < 8, s.fld (page 7 (8 * k + j)) Fld.CORE_TC_STATUS_STATE ≠ 1) →
    exec (.clusterNap k) s = .next { s with pwr := { s.pwr with napping := k :: s.pwr.napping } }.observe)) ∧
  (∀ (h : Nat) (s : State),
  let st := s.fld crnPage Fld.CRN_PWR_STATUS_STATE
  let d3 : State := { s with pwr := { s.pwr with d3 := h :: s.pwr.d3 } }
  let d0 : State := { s with pwr := { s.pwr with d3 := s.pwr.d3.filter (fun x => x != h) } }
  (s.linked h = true → h ∉ s.pwr.d3 → d3.allD3 = false → exec (.pfD3hot h) s = .next d3.observe) ∧
  (s.linked h = true → h ∉ s.pwr.d3 → d3.allD3 = true → exec (.pfD3hot h) s = .next (d3.enterHold true).observe) ∧
  (h ∈ s.pwr.d3 → s.pwr.holdByD3 = true → st = 2 →
    exec (.pfD0 h) s = .next (d0.setFld crnPage Fld.CRN_PWR_STATUS_STATE 3).observe) ∧
  (h ∈ s.pwr.d3 → s.pwr.holdByD3 = false → exec (.pfD0 h) s = .next d0.observe) ∧
  (s.pwr.holdDue = some false → (∀ p < 64, s.ctxBusy p = false) → Runs .blockHoldEntryDone s (fun t =>
    t.fld crnPage Fld.CRN_PWR_STATUS_STATE = 2 ∧ t.pwr.holdDue = none ∧
    (∀ k < 32, s.fld (stkPage k) Fld.STK_STATUS_STATE = 1 → t.fld (stkPage k) Fld.STK_STATUS_STATE = 2) ∧
    (s.pwr.holdByD3 = false → t.fld (hpPage 0) Fld.HP_RETAIN_CTRL_STATE = 1 ∧ t.fld (hpPage 1) Fld.HP_RETAIN_CTRL_STATE = 1) ∧
    (s.memWf → ∀ k < cmBase, t.rd k = s.rd k) ∧ t.rings = s.rings ∧ t.frames = s.frames ∧ t.shape.live = s.shape.live)) ∧
  (st = 3 → Runs .blockHoldExitDone s (fun t =>
    t.fld crnPage Fld.CRN_PWR_STATUS_STATE = 0 ∧ t.pwr.holdByD3 = false ∧
    (∀ k < 32, s.fld (stkPage k) Fld.STK_STATUS_STATE = 2 → t.fld (stkPage k) Fld.STK_STATUS_STATE = 1) ∧
    t.mem = s.mem ∧ t.rings = s.rings ∧ t.frames = s.frames ∧ t.shape = s.shape)))

/-- A partition reset by the Crown or by FLR. A reset of a defined partition, held back while a Shape operation holds the partition
and run when that has ended, ends its commands, resets its rings, empties its contexts, invalidates its windows and zeroes its
epoch, and is under way until its end; a partition index that is not defined is refused with 0x0102. (From 18 Resets, Power States
and Retention: Kinds of reset.) -/
def Obligations.PartitionReset : Prop := ∀ (who : Requester) (crown p : Nat) (v : Word64) (s : State),
  let start (x : State) : State := (x.setFld (partPage p) Fld.PART_PWR_STATE 0).setFld (partPage p) Fld.PART_PWR_DEEP_NAP 0
  s.shape.live.defined p = true → (s.part p).resetting = false →
  (s.letsIn who (page 0 crown) → getBits v 0 0 = 0 → getBits v 2 2 = 1 → getBits v 8 3 = p →
    s.fld crnPage Fld.CRN_PWR_STATUS_STATE < 3 →
    (s.shapeHolds p = false → exec (.crnResetPart who crown v) s = .next ((start s).resetPart p).observe) ∧
    (s.shapeHolds p = true → exec (.crnResetPart who crown v) s =
      .next ((start s).modPart p (fun x => { x with resetting := true, resetDue := true })).observe)) ∧
  (s.letsIn who (page 0 crown) → getBits v 0 0 = 0 → getBits v 2 2 = 1 → s.shape.live.defined (getBits v 8 3) = false →
    s.fld crnPage Fld.CRN_PWR_STATUS_STATE < 3 →
    exec (.crnResetPart who crown v) s = .next (s.refuseF (page 0 crown) 0x0102 Fld.CRN_RESET_PART_IDX).observe) ∧
  (∀ h w, s.linked h = true → s.dwerdo = false → s.shape.live.vfPart? h w = some p → s.shapeHolds p = false →
    Runs (.flr (.vf h w)) s (fun t => t = ((start s).resetPart p).observe ∧ (t.part p).resetting = true ∧
      (∀ c ∈ t.cmds, c.part ≠ p) ∧
      (∀ r, s.shape.live.ownsRing p r = true → t.ring r = {}) ∧ (∀ c < 16, (t.ctx p c).st = .empty) ∧
      (∀ i, s.rwtOwns p i = true → (t.rwtEntry i).valid = false) ∧ t.epochCur p = 0)) ∧
  (∀ q, (s.part q).resetting = true → (s.part q).resetDue = false →
    exec (.partitionResetDone q) s = .next (s.modPart q (fun x => { x with resetting := false })).observe) ∧
  (∀ q, (s.part q).resetting = true → (s.part q).resetDue = true →
    (s.shapeHolds q = true → exec (.partitionResetDone q) s = .next s.observe) ∧
    (s.shapeHolds q = false → s.shape.live.defined q = true →
      exec (.partitionResetDone q) s = .next ((s.resetPart q).modPart q (fun _ => {})).observe))

/-- Package reset and what an unretained one clears. A package reset is refused with 0x0F03 while one is under way and with 0x0102
together with a partition reset; with RETAIN it first waits for contexts to be saved; it may come from the discard of held state
or from RESET_N; it ends when RESET_N is high, and with no pinned Shape leaves memory as it stands then. An unretained one clears
device memory, commands, rings, contexts, frames, windows, tidy cores, codecs, Brim state and the Live Shape, and keeps host
memory, the calendar, the trim map and the NVM map. (From 18 Resets, Power States and Retention: Kinds of reset, 18 Resets, Power
States and Retention: Events that meet, 18 Resets, Power States and Retention: The retention table.) -/
def Obligations.PackageReset : Prop :=
  (∀ (who : Requester) (crown : Nat) (v : Word64) (s : State),
  let st := s.fld crnPage Fld.CRN_PWR_STATUS_STATE
  let keeps := getBits v 1 1 = 1 ∧ s.fld secPage Fld.SEC_STATUS_DEBUG ≠ 2
  let free := s.pwr.tripped = false ∧ s.pwr.mainLost = false ∧ s.pwr.booting = false ∧ s.pwr.pkgReset = none
  (s.letsIn who (page 0 crown) → getBits v 0 0 = 1 →
    ((st = 3 ∨ st = 4) → exec (.crnResetPkg who crown v) s = .next (s.refuseF (page 0 crown) 0x0F03 Fld.CRN_RESET_PKG).observe) ∧
    (st < 3 → getBits v 2 2 = 1 → exec (.crnResetPkg who crown v) s = .next (s.refuseF (page 0 crown) 0x0102 Fld.CRN_RESET_PKG).observe) ∧
    (st < 3 → getBits v 2 2 = 0 → free → ¬keeps → exec (.crnResetPkg who crown v) s = .next (s.beginReset false 2).observe) ∧
    (st < 3 → getBits v 2 2 = 0 → free → keeps → (∀ p < 64, s.ctxBusy p = false) →
      exec (.crnResetPkg who crown v) s = .next (s.beginReset true 2).observe) ∧
    (st < 3 → getBits v 2 2 = 0 → free → keeps → (∃ p < 64, s.ctxBusy p = true) → Runs (.crnResetPkg who crown v) s (fun t =>
      t.pwr.pkgDue = some 2 ∧ t.fld crnPage Fld.CRN_PWR_STATUS_STATE = 4 ∧ t.mem = s.mem))) ∧
  (∀ h, s.letsIn who (hpPage h) → free → s.pwr.pkgDue = none →
    exec (.retainDiscard who h) s = .next (s.beginReset false 3).observe) ∧
  (s.pins.pwrGood = true → free → s.pwr.pkgDue = none → s.sh crnPage Fld.CRN_PWR_CFG_RESETN_RETAIN = 0 →
    exec .resetNAssert s = .next ({ s with pins := { s.pins with resetLow := true } }.beginReset false 1).observe) ∧
  (s.pwr.coldDue = false → exec .resetNRelease s = .next { s with pins := { s.pins with resetLow := false } }.observe) ∧
  (∀ f, s.pins.resetLow = false → s.pwr.pkgDue = none → s.pwr.pkgReset = some false →
    Runs (.packageResetDone f) s (fun t => t.pwr.pkgReset = none ∧ t.fld crnPage Fld.CRN_PWR_STATUS_STATE = 0 ∧
      (s.fld secPage Fld.SEC_STATUS_DEBUG ≠ 2 → s.shape.slot0 = none → s.shape.slot1 = none → s.pwr.formed = [] → t.mem = s.mem))) ∧
  (∀ f, s.pins.resetLow = true → exec (.packageResetDone f) s = .next s.observe)) ∧
  (∀ (cause : Nat) (s : State), cause < 8 → (∀ c ∈ s.mem, c.1 < 2 ^ 51) →
  let t := s.beginReset false cause
  t.mem = [] ∧ t.cmds = [] ∧ t.rings = [] ∧ t.ctxs = [] ∧ t.frames = [] ∧ t.rwt = [] ∧ t.tcs = [] ∧ t.vcs = [] ∧ t.brim = {} ∧
  t.shape.op = none ∧ t.shape.live = {} ∧ t.host = s.host ∧ t.cal = s.cal ∧ t.trim = s.trim ∧ t.nvmKnownBad = s.nvmKnownBad ∧
  t.pwr.pkgReset = some false ∧ t.fld crnPage Fld.CRN_PWR_STATUS_STATE = 4 ∧ t.fld crnPage Fld.CRN_PWR_STATUS_LAST_CAUSE = cause ∧
  t.fld crnPage Fld.CRN_PWR_STATUS_LAST_RETAINED = 0)

/-- Power sequence, power samples and junction temperature. Supplies, soft start, cold power-on, boot and their losses move the power
state as stated, a loss of main power clears device memory, commands, rings and contexts and keeps the calendar and the NVM map; a
power sample reports input, counts lost cycles and steps the clock down on an excursion or a sustained excess, and at or beyond
FLOOR_STEP by the same two rules for 18.0 kW (the model's reading of R15, log 39); a junction temperature is reported, gates the
clocks at 105 °C and trips at 110 °C. What a boot finds is an operand (log 42). (From 21 Electrical, Thermal and Mechanical Data:
Sequencing, 18 Resets, Power States and Retention: Power limits and clock steps, 18 Resets, Power States and Retention: Thermal
limits, 18 Resets, Power States and Retention: The retention table.) -/
def Obligations.Power : Prop :=
  (∀ (s : State),
  (s.pwr.v48 = false → exec .mainPowerApply s = .next { s with pwr := { s.pwr with v48 := true, softStart := 1 } }.observe) ∧
  (s.pwr.softStart = 1 → exec .softStartDone s = .next ({ s with pwr := { s.pwr with softStart := 2 } }.tryBoot).observe) ∧
  (s.pwr.mainLost = true → s.pwr.v48 = true → Runs .coldPowerOn s (fun t => t.pins.pwrGood = true ∧
    ((s.pwr.softStart = 2 ∧ s.pins.resetLow = false ∧ s.pwr.tripped = false) → t.pwr.booting = true ∧ t.pwr.mainLost = false) ∧
    (s.pins.resetLow = true → t.pwr.coldDue = true ∧ t.pwr.mainLost = true) ∧ t.mem = s.mem ∧ t.host = s.host)) ∧
  (∀ f, s.pwr.booting = true → s.pins.resetLow = false →
    exec (.bootComplete f) s = .next { s.boot f with pwr := { (s.boot f).pwr with booting := false } }.observe) ∧
  (s.pwr.mainLost = false → Runs .pwrGoodFall s (fun t => t.pins.pwrGood = false ∧ t.pwr.mainLost = true ∧
    ((∀ c ∈ s.mem, c.1 < 2 ^ 51) → t.mem = []) ∧ t.cmds = [] ∧ t.rings = [] ∧ t.ctxs = [] ∧ t.cal = s.cal ∧ t.nvmKnownBad = s.nvmKnownBad ∧ t.host = s.host)) ∧
  (s.pwr.mainLost = false → Runs .v48Loss s (fun t => t.pwr.v48 = false ∧ t.pwr.softStart = 0 ∧ t.pwr.tripped = false ∧
    t.pins.thermtrip = false ∧ t.pwr.mainLost = true ∧ ((∀ c ∈ s.mem, c.1 < 2 ^ 51) → t.mem = []) ∧ t.rings = [])) ∧
  (∀ mV, s.pwr.v48 = true → s.pwr.v48Alert = false → (mV < 40000 ∨ 60000 < mV) → exec (.v48Threshold mV) s =
    .next (({ s with pwr := { s.pwr with v48Alert := true } }.emit (.pldm 2 mV)).setAlert).observe) ∧
  (∀ mV, s.pwr.v48 = true → s.pwr.v48Alert = true → 40000 ≤ mV → mV ≤ 60000 → exec (.v48Threshold mV) s =
    .next (({ s with pwr := { s.pwr with v48Alert := false } }.emit (.pldm 3 mV)).setAlert).observe) ∧
  (s.pwr.v12sb = false → exec (.standbyPowerOn true) s = .next { s with pwr := { s.pwr with v12sb := true } }.observe) ∧
  (s.pwr.v12sb = false → Runs (.standbyPowerOn false) s (fun t => t.cal = {} ∧ t.fld ccPage Fld.CC_STATUS_TIME_INVALID = 1 ∧
    t.errs.recs = [] ∧ t.errs.fatal = s.errs.fatal ∧ t.pwr.v12sb = true ∧ t.mem = s.mem)) ∧
  (s.pwr.mainLost = true → exec .standbyPowerLoss s = .next { s with
    pwr := { s.pwr with v12sb := false, coldDue := false }, sec := { s.sec with challenge := none, spdm := [] },
    pins := { s.pins with pwrGood := false } }.observe)) ∧
  (∀ (s : State),
  (∀ p, s.running = true → s.pwr.tripped = false → Runs (.powerSample p) s (fun t =>
    let sustain := 10 * s.sh crnPage Fld.CRN_PWR_CFG_SUSTAIN
    let floor := s.sh crnPage Fld.CRN_PWR_CFG_FLOOR_STEP
    let above := if sustain < p then s.pwr.aboveUs + 10 else 0
    t.fld crnPage Fld.CRN_PWR_STATUS_INPUT = min (p / 10) 65535 ∧ t.pwr.lost = s.pwr.lost + 875 * s.aclkStep ∧
    (10 * s.sh crnPage Fld.CRN_PWR_CFG_EXCURSION < p → t.aclkStep = max (min (s.aclkStep + 2) 12) s.pwr.thermalFloor % 16) ∧
    (p ≤ 10 * s.sh crnPage Fld.CRN_PWR_CFG_EXCURSION → 8000 ≤ above → 90 ≤ s.pwr.sinceStep →
      (s.aclkStep < floor ∨ (sustainedW < p ∧ 7990 ≤ s.pwr.overUs)) →
      t.aclkStep = max (min (s.aclkStep + 1) 12) s.pwr.thermalFloor % 16) ∧
    (p ≤ 10 * s.sh crnPage Fld.CRN_PWR_CFG_EXCURSION → s.sh crnPage Fld.CRN_PWR_CFG_SUSTAIN ≤ 1800 → 990 ≤ s.pwr.sinceStep →
      98 * 18000 * (p :: s.pwr.samples.take 99999).length < 100 * (p :: s.pwr.samples.take 99999).sum →
      t.aclkStep = max (min (s.aclkStep + 1) 12) s.pwr.thermalFloor % 16) ∧
    t.mem = s.mem ∧ t.rings = s.rings ∧ t.shape = s.shape ∧ t.cmds = s.observe.cmds)) ∧
  (∀ tj : Int, s.pwr.mainLost = false → -128 ≤ tj → tj < 128 → Runs (.junctionTempSample tj) s (fun t =>
    sext 8 (t.fld crnPage Fld.CRN_PWR_STATUS_TJ_MAX) = tj ∧ t.pwr.thermalFloor = thermalFloor s.pwr.thermalFloor tj ∧
    (105 ≤ tj → t.pwr.gated = true ∧ t.pwr.thermalFloor = 12) ∧ (tj < 98 → t.pwr.thermalFloor = 0) ∧ t.mem = s.mem ∧
    (110 ≤ tj → t.pwr.tripped = true ∧ (s.pwr.tripped = false → t.pins.thermtrip = true ∧
      ∀ k < 32, t.fld (stkPage k) Fld.STK_STATUS_STATE = 2)) ∧
    (tj < 110 → t.pwr.tripped = s.pwr.tripped ∧ t.rings = s.rings ∧ t.cmds = s.observe.cmds))))

/-- Enabling, disabling and commanding a context. A context is enabled READY after its checks or refused with the check's code; it is
disabled when not resident and without a live ring, else refused with 0x0E09; SWITCH_TO, SUSPEND, RESUME and ABORT act in the
states that allow them and are refused with 0x0E09 in the others. (From 17 Partitions, Time Slices and Pre-emption: Contexts and
their states, 17 Partitions, Time Slices and Pre-emption: Aborting and deadlines.) -/
def Obligations.ContextControl : Prop :=
  (∀ (who : Requester) (p : Nat) (v : Word64) (s : State),
  let c := s.ctxSel p
  let x := s.ctx p c
  let on := setBits v 0 0 1 &&& ctxCfgMask
  let off := setBits v 0 0 0 &&& ctxCfgMask
  s.letsIn who (partPage p) →
  (x.en = false → s.shape.live.defined p = true →
    (∀ code f, s.ctxCheck p c { x with cfg := on } = .error (code, f) →
      exec (.contextEnable who p v) s = .next (s.ctxRefuse p c code f).observe) ∧
    (∀ ws areas bs, s.ctxCheck p c { x with cfg := on } = .ok (ws, areas, bs) →
      exec (.contextEnable who p v) s = .next (s.makeReady p c { x with cfg := on } ws areas bs).observe)) ∧
  (x.en = true → off = x.cfg &&& ctxCfgMask →
    let held := s.rings.any (fun r => s.ctxRing p c r.1 && r.2.st != 0)
    ((x.st = .ready ∨ x.st = .suspended ∨ x.st = .aborted) → held = false →
      exec (.contextDisable who p v) s = .next (s.emptyCtx p c).observe) ∧
    ((x.st = .resident ∨ x.st = .saving ∨ x.st = .restoring ∨ held = true) → x.st ≠ .empty →
      exec (.contextDisable who p v) s = .next (s.ctxRefuse p c 0x0E09 Fld.PART_CTX_CFG_EN).observe)) ∧
  (x.en = true → off ≠ x.cfg &&& ctxCfgMask →
    exec (.contextDisable who p v) s = .next (s.ctxRefuse p c 0x0105 Fld.PART_CTX_CFG_QUANTUM).observe)) ∧
  (∀ (who : Requester) (p : Nat) (s : State),
  let c := s.ctxSel p
  let st := (s.ctx p c).st
  s.letsIn who (partPage p) →
  (st = .ready → exec (.switchTo who p) s = .next (s.modPart p (fun y => { y with switchTo := some c })).observe) ∧
  (st ≠ .ready → exec (.switchTo who p) s = .next (s.ctxRefuse p c 0x0E09 Fld.PART_CTX_CMD_SWITCH_TO).observe) ∧
  (st = .ready → exec (.suspend who p) s = .next (s.modCtx p c (fun x => { x with st := .suspended })).observe) ∧
  (st = .resident → Runs (.suspend who p) s (fun t => (t.ctx p c).st = .saving ∧ (t.ctx p c).suspendPending = true ∧
    t = { s with ctxs := t.ctxs }.observe)) ∧
  ((st = .empty ∨ st = .suspended ∨ st = .aborted) →
    exec (.suspend who p) s = .next (s.ctxRefuse p c 0x0E09 Fld.PART_CTX_CMD_SUSPEND).observe) ∧
  (st = .suspended → exec (.resume who p) s = .next (s.modCtx p c (fun x => { x with st := .ready })).observe) ∧
  (st ≠ .suspended → exec (.resume who p) s = .next (s.ctxRefuse p c 0x0E09 Fld.PART_CTX_CMD_RESUME).observe) ∧
  (st = .saving → exec (.ctxAbort who p) s = .next (s.modCtx p c (fun x => { x with abortPending := true })).observe) ∧
  ((st = .resident ∨ st = .ready ∨ st = .suspended ∨ st = .restoring) → Runs (.ctxAbort who p) s (fun t =>
    (t.ctx p c).st = .aborted ∧ (t.ctx p c).lastCode = 0xF003 ∧ (t.ctx p c).image = none ∧
    (∀ f ∈ t.cmds, ¬(f.part = p ∧ f.ctx = c)) ∧ (∀ d, d < 16 → c < 16 → d ≠ c → (t.ctx p d).st = (s.ctx p d).st))))

/-- Quantum expiry, drain, save, restore and the watchdogs. A quantum ends with a save when another context is ready and restarts
otherwise; a drain completes when no command blocks it and saves the context's commands; a save stores the image of the context's
areas; a restore brings it back or aborts with 0x0E0E when the image is lost; a pre-emption deadline aborts with 0x0E0C and an
expired progress watchdog with 0xF004. (From 17 Partitions, Time Slices and Pre-emption: Time slices, 17 Partitions, Time Slices
and Pre-emption: Pre-emption points, 17 Partitions, Time Slices and Pre-emption: The save image, 17 Partitions, Time Slices and
Pre-emption: Aborting and deadlines, 19 Errors, Trim Map and the Recovery Ladder: Progress watchdogs.) -/
def Obligations.ContextSaves : Prop :=
  (∀ (p c : Nat) (s : State),
  let x := s.ctx p c
  (s.resident? p = some c →
    (x.residentStrokes < x.quantum → exec (.quantumExpiry p) s = .next s.observe) ∧
    (x.quantum ≤ x.residentStrokes → s.otherReady p c = true →
      exec (.quantumExpiry p) s = .next (s.modCtx p c (fun y => { y with st := .saving, drained := false })).observe) ∧
    (x.quantum ≤ x.residentStrokes → s.otherReady p c = false →
      exec (.quantumExpiry p) s = .next (s.modCtx p c (fun y => { y with residentStrokes := 0 })).observe)) ∧
  ((s.ctxsIn p .saving).head? = some c → x.drained = false →
    ((∃ f ∈ s.cmds, f.part = p ∧ f.ctx = c ∧ blocksDrain f = true) → exec (.preemptDrainDone p) s = .next s.observe) ∧
    ((∀ f ∈ s.cmds, f.part = p → f.ctx = c → blocksDrain f = false) → Runs (.preemptDrainDone p) s (fun t =>
      (t.ctx p c).drained = true ∧ (t.ctx p c).st = .saving ∧ (∀ f ∈ t.cmds, f.part = p → f.ctx = c → f.saved = true) ∧
      t.cmds.length = s.cmds.length ∧ t.rings = s.rings ∧ t.frames = s.frames ∧ t.shape = s.shape))) ∧
  ((s.ctxsIn p .saving).head? = some c → x.drained = true → x.abortPending = false → s.unsound p x.keep x.windows = false →
    ∀ areas ns, s.saveAreas p c x x.windows = some areas → Runs (.contextSaveDone p ns) s (fun t =>
      (∃ im, (t.ctx p c).image = some im ∧ im.areas = areas ∧ im.cells = s.imageCells p x.keep) ∧
      (t.ctx p c).saveNs = min ns (2 ^ 32 - 1) ∧
      ((t.ctx p c).st = (if x.suspendPending then .suspended else .ready) ∨ (t.ctx p c).st = .restoring) ∧
      t.rings = s.rings ∧ t.frames = s.frames ∧ t.shape = s.shape ∧ t.cmds.length = s.cmds.length)) ∧
  ((s.ctxsIn p .saving).head? = some c → x.drained = true → x.abortPending = true → ∀ ns,
    exec (.contextSaveDone p ns) s = .next (s.abortCtx p c 0xF003 0xF003).observe)) ∧
  (∀ (p c : Nat) (s : State),
  let x := s.ctx p c
  let lost := ∃ im, x.image = some im ∧ (s.imageSound p im = false ∨ ∃ w ∈ x.windows, ∃ a, w.redirect = some a ∧ s.badIn a w.len = true)
  ((s.ctxsIn p .restoring).head? = some c → ∀ ns,
    (lost → ∃ d, exec (.contextRestoreDone p ns) s = .next (s.abortCtx p c 0x0E0E 0xF003 d).observe) ∧
    (¬lost → x.suspendPending = false → s.pwr.holdDue = none → s.pwr.pkgDue = none → Runs (.contextRestoreDone p ns) s (fun t =>
      (t.ctx p c).st = .resident ∧ (t.ctx p c).image = none ∧ (t.ctx p c).switches = satAdd 32 x.switches 1 ∧
      (t.ctx p c).restoreNs = min ns (2 ^ 32 - 1) ∧ (∀ f ∈ t.cmds, f.part = p → f.ctx = c → f.saved = false) ∧
      (x.image ≠ none → ∀ w ∈ (t.ctx p c).windows, w.redirect = none) ∧ t.rings = s.rings ∧ t.frames = s.frames ∧ t.shape = s.shape))) ∧
  ((s.ctxsIn p .saving).head? = some c → x.drained = false →
    exec (.preemptDeadlineExpiry p) s = .next (s.abortCtx p c 0x0E0C 0xF003).observe) ∧
  (s.resident? p = some c → (x.wdLimit = 0 ∨ x.wdCount < x.wdLimit) → exec (.progressWatchdogExpiry p) s = .next s.observe) ∧
  (s.resident? p = some c → x.wdLimit ≠ 0 → x.wdLimit ≤ x.wdCount →
    exec (.progressWatchdogExpiry p) s = .next (s.abortCtx p c 0xF004 0xF004 0 x.wdCount).observe))

/-- SPDM responses, SVN commit, firmware updates and the debug port. Each SPDM request answers in its order and is unexpected before
the negotiation; an SVN commit is refused with 0x0105 while one is being written, does nothing when the counter is not behind and
is queued otherwise; a PLDM update of the running slot is refused with 0x1008 and of the other is stored; a debug response is
refused when locked out or unsound, and a sound one opens level 1. The order of SPDM requests is the model's presumption, and
digests and signatures are free (log 36). (From 20 Boot, Identity and Attestation: Attestation, 20 Boot, Identity and Attestation:
Anti-rollback counters, 20 Boot, Identity and Attestation: The debug port, 20 Boot, Identity and Attestation: Root of trust and
the boot chain.) -/
def Obligations.SecurityUnit : Prop :=
  (∀ (via c : Nat) (s : State), s.responder? via = some c →
  let at_ := SMap.getD s.sec.spdm via 0
  let go (n : Nat) : State := { s with sec := { s.sec with spdm := SMap.put s.sec.spdm via n } }
  exec (.getVersion via) s = .next ((go 1).emit (.spdm via .version)).observe ∧
  (1 ≤ at_ → exec (.getCapabilities via) s = .next ((go 2).emit (.spdm via (.capabilities 4096))).observe) ∧
  (2 ≤ at_ → exec (.negotiateAlgorithms via) s = .next ((go 3).emit (.spdm via .algorithms)).observe) ∧
  (at_ < 3 → exec (.getDigests via) s = .next (s.emit (.spdm via .unexpected)).observe) ∧
  (3 ≤ at_ →
    exec (.getDigests via) s = .next (s.emit (.spdm via (.digests (s.chainDigest c)))).observe ∧
    (∀ off len, exec (.getCertificate via 0 off len) s = .next (s.emit (.spdm via (if (s.certChain c).length ≤ off then .invalid
      else .certificate off (((s.certChain c).drop off).take (min len 4096))))).observe) ∧
    (∀ slot off len, slot ≠ 0 → exec (.getCertificate via slot off len) s = .next (s.emit (.spdm via .unsupported)).observe) ∧
    (s.canSign c = true → exec (.challenge via 0) s = .next (s.draw.2.emit (.spdm via
      (.challengeAuth (s.chainDigest c) (Config.signature c s.draw.1)))).observe) ∧
    (∀ i bs, s.blocks i = some bs → exec (.getMeasurements via i false) s =
      .next (s.draw.2.emit (.spdm via (.measurements bs none))).observe) ∧
    (∀ i, s.blocks i = none → exec (.getMeasurements via i false) s = .next (s.draw.2.emit (.spdm via .invalid)).observe)) ∧
  exec (.spdmUnsupportedRequest via) s = .next (s.emit (.spdm via .unsupported)).observe) ∧
  (∀ (s : State),
  (∀ who v, s.letsIn who secPage → privileged who = true → getBits v 0 0 = 1 →
    let i := s.fld secPage Fld.SEC_SVN_SEL_COUNTER
    let z := s.setFld secPage Fld.SEC_SVN_CMD_LAST_RESULT 0
    (s.sec.svnBusy = true → exec (.svnCommit who v) s =
      .next ((s.setFld secPage Fld.SEC_SVN_CMD_LAST_RESULT 0x0105).refuseF secPage 0x0105 Fld.SEC_SVN_CMD_COMMIT).observe) ∧
    (s.sec.svnBusy = false → s.sec.running i ≤ s.sec.counters.getD i 0 → exec (.svnCommit who v) s = .next z.observe) ∧
    (s.sec.svnBusy = false → s.sec.counters.getD i 0 < s.sec.running i → exec (.svnCommit who v) s =
      .next (({ z with sec := { s.sec with svnBusy := true } }).queueNvm 4 i).observe)) ∧
  (∀ m : FwImage, s.managed = true → m.slot < 2 →
    (s.sec.closedSlot m.bundle = some m.slot →
      exec (.pldmFwUpdate m) s = .next ((s.refuse secPage 0x1008).emit (.pldm 4 0x1008)).observe) ∧
    (s.sec.closedSlot m.bundle ≠ some m.slot → m.bundle = true → exec (.pldmFwUpdate m) s = .next ({ s with
      sec := { s.sec with bundle := s.sec.bundle.set m.slot ⟨m.valid, m.svn, m.seq, m.body⟩ } }.emit (.pldm 4 0)).observe) ∧
    (s.sec.closedSlot m.bundle ≠ some m.slot → m.bundle = false → exec (.pldmFwUpdate m) s = .next ({ s with
      sec := { s.sec with stage := s.sec.stage.set m.slot ⟨m.valid, m.svn, m.seq, m.body⟩ } }.emit (.pldm 4 0)).observe)) ∧
  (s.managed = true → exec .pldmRequest s = .next (s.emit (.pldmReport (s.fld crnPage Fld.CRN_PWR_STATUS_INPUT)
    (s.fld crnPage Fld.CRN_PWR_STATUS_TJ_MAX) s.trim s.errs.fatal (s.reg (regKey crnPage Reg.CRN_SERVICE)))).observe) ∧
  (s.running = true → Runs .debugChallengeRead s (fun t => ∃ ch, t.sec.challenge = some ch ∧ ch.length = 32 ∧
    t = ({ s with sec := { s.sec with challenge := some ch }, draws := s.draws + 4 }.emit (.data ch)).observe)) ∧
  exec .debugChallengeExpiry s = .next { s with sec := { s.sec with challenge := none } }.observe ∧
  (∀ level sound, s.running = true →
    (s.fld secPage Fld.SEC_JTAG_LOCKED_OUT = 1 → exec (.debugUnlockResponse level sound) s =
      .next ((s.refuse secPage 0x1007).raise secPage 18).observe) ∧
    (s.fld secPage Fld.SEC_JTAG_LOCKED_OUT = 0 → (s.sec.challenge = none ∨ sound = false) →
      exec (.debugUnlockResponse level sound) s = .next s.debugRefused.observe) ∧
    (s.fld secPage Fld.SEC_JTAG_LOCKED_OUT = 0 → s.sec.challenge ≠ none → sound = true → level = 1 →
      s.fld secPage Fld.SEC_STATUS_DEBUG = 0 → exec (.debugUnlockResponse level sound) s =
      .next (((({ s with sec := { s.sec with challenge := none } }).setFld secPage Fld.SEC_STATUS_DEBUG 1).setFld secPage
        Fld.SEC_JTAG_LEVEL 1).raise secPage 17).observe)) ∧
  exec .runtimeRestart s = .next (s.releaseLock [0x20]).observe)

/-- The error ring's head and failed units. A HEAD write on the way to TAIL passes the records before it and any other is ignored; a
failed mesh link is recorded as 0xF009 and a failed E-die or Crown as 0xF00A; a self-test sweep in a maintenance stroke that finds
a unit bad fails that unit. (From 19 Errors, Trim Map and the Recovery Ladder: The error record and the error ring, 19 Errors,
Trim Map and the Recovery Ladder: Error classes, 19 Errors, Trim Map and the Recovery Ladder: The trim map.) -/
def Obligations.ErrorReports : Prop := ∀ (s : State),
  (∀ who crown v, s.letsIn who (page 0 crown) →
    (s.errHeadOk (getBits v 11 0) = true → exec (.errorRingHeadWrite who crown v) s = .next (s.passErrs (getBits v 11 0)).observe) ∧
    (s.errHeadOk (getBits v 11 0) = false → exec (.errorRingHeadWrite who crown v) s = .next s.observe)) ∧
  (∀ link, s.running = true → link < 32 → exec (.meshLinkFailed link) s = .next (s.crnRecord 3 0xF009).observe) ∧
  (∀ unit, s.running = true → unit < 6 → exec (.edieCrownFailed unit) s = .next (s.recordError {
    source := srcOf (if unit < 4 then page 4 unit else page 0 (unit - 4)), cls := 3, code := 0xF00A }).observe) ∧
  (s.running = true → s.maintStroke = true → exec (.selfTestSweepDone []) s = .next s.observe ∧
    ∀ k n, k ∈ [6, 7, 10, 11, 17] → n < instances (if k = 17 then 5 else k) →
      exec (.selfTestSweepDone [(k, n)]) s = .next (s.failUnit k n).observe)

/-- Corrected errors coalesce. With COALESCE = 1 a corrected error whose SOURCE and CODE have no open window writes its record at once
and opens one; one with an open window is counted in it and writes none; at the window's end one record with COALESCED and the
count is written when any was counted, none otherwise. With COALESCE = 0, and for every other class, each error writes its own
record. (States R443.) -/
def Obligations.CorrectedErrorsCoalesce : Prop := ∀ (e : ErrInfo) (s : State),
  let parts := if e.cls = 3 then (List.range 64).filter s.shape.live.defined
    else ((match e.part with | some p => [p] | none => []) ++ e.also).eraseDups
  let counted := (parts.foldl (fun (x : State) p => if partPage p = srcPage e.source then x else x.countErr (partPage p) e.cls)
    (s.countErr (srcPage e.source) e.cls)).classAct e
  let mine (w : Coalesce) : Bool := w.source == e.source && w.code == e.code
  let first : State := counted.writeErr e 1 false
  (e.cls = 0 → counted.fld crnPage Fld.CRN_ERR_CFG_COALESCE = 1 →
    (counted.errs.windows.any mine = false → s.recordError e =
      { first with errs := { first.errs with windows := first.errs.windows ++ [⟨e.source, e.code, 0, e.d0, e.d1⟩] } }) ∧
    (counted.errs.windows.any mine = true → s.recordError e = { counted with errs := { counted.errs with
      windows := counted.errs.windows.map (fun w => if mine w then { w with count := w.count + 1, d0 := e.d0, d1 := e.d1 } else w) } })) ∧
  ((e.cls ≠ 0 ∨ counted.fld crnPage Fld.CRN_ERR_CFG_COALESCE = 0) → s.recordError e = first) ∧
  (s.errs.windows.find? mine = none → exec (.coalesceWindowEnd e.source e.code) s = .next s.observe) ∧
  (∀ w, s.errs.windows.find? mine = some w →
    let u : State := { s with errs := { s.errs with windows := eraseFirst mine s.errs.windows } }
    (w.count = 0 → exec (.coalesceWindowEnd e.source e.code) s = .next u.observe) ∧
    (w.count ≠ 0 → exec (.coalesceWindowEnd e.source e.code) s =
      .next (u.writeErr { source := e.source, cls := 0, code := e.code, d0 := w.d0, d1 := w.d1 } w.count true).observe))

/-- Brim port states, discovery and announcing an epoch. Links come up and go down, ports drain, discover their partner by LLDP or by
the UDP timeout, and send their LLDPDU; an announced epoch passes exactly when it is the next one, far enough ahead, holds the own
node and no epoch is pending, and is then made pending and sent to all members, else refused with its code. (From 16 Brim Ports,
Membership and Collectives: Physical layer and port states, 16 Brim Ports, Membership and Collectives: Discovery, 16 Brim Ports,
Membership and Collectives: Membership.) -/
def Obligations.BrimPortsAndEpochs : Prop :=
  (∀ (b : Nat) (s : State),
  let pg := brmPage b
  let serial := leBytes 8 (s.reg (secPage + Reg.SEC_SERIAL0)).toNat ++ leBytes 8 (s.reg (secPage + Reg.SEC_SERIAL1)).toNat
  let st := s.portState b
  (st = 1 → ∃ rate < 2, (s.sh pg Fld.BRM_CFG_RATE_400 = 1 → rate = 0) ∧
    exec (.brimLinkUp b) s = .next (((s.draw.2).setFld pg Fld.BRM_STATUS_RATE rate).setPort b 2).observe) ∧
  (2 ≤ st → st ≤ 5 → exec (.brimLinkLoss b) s = .next ((s.setFld pg Fld.BRM_STATUS_PARTNER_VALID 0).setPort b 1).findLost.observe) ∧
  (st = 6 → exec (.brimDrainDone b) s = .next (s.setPort b 0).observe) ∧
  (st ≠ 6 → exec (.brimDrainDone b) s = .next s.observe) ∧
  (st = 2 → s.sh pg Fld.BRM_CFG_UDP = 1 → s.fld pg Fld.BRM_STATUS_MISMATCH = 0 →
    exec (.udpDiscoveryTimeout b) s = .next (s.setPort b 3).admitPorts.observe) ∧
  (2 ≤ st → ∃ ttl < 2 ^ 16, exec (.lldpTx b) s = .next ((s.draw.2).emit (.lldp b ⟨true, leBytes 1 7 ++ serial,
    leBytes 1 7 ++ leBytes 1 66 ++ (if b < 10 then leBytes 1 (48 + b) else leBytes 1 (48 + b / 10) ++ leBytes 1 (48 + b % 10)),
    s.sh pg Fld.BRM_MAC_MAC, ttl, [
    beBytes 3 0x58EFC2 ++ leBytes 1 1 ++ beBytes 4 (s.sh e0Page Fld.EDIE_SYS_SYSTEM_ID) ++ beBytes 2 s.ownNode ++ serial,
    beBytes 3 0x58EFC2 ++ leBytes 1 2 ++ leBytes 1 b ++ leBytes 1 st ++ beBytes 4 s.epochNo ++
      leBytes 1 (s.sh pg Fld.BRM_CFG_UDP + 2 * s.sh pg Fld.BRM_CFG_PTP_EN)]⟩)).observe) ∧
  exec (.lldpTtlExpiry b) s = .next (s.modBrim (fun x => { x with lldp := SMap.erase x.lldp b })).observe ∧
  (∀ du : Lldpdu, (st < 2 ∨ du.valid = false) → exec (.lldpduRx b du) s = .next s.observe) ∧
  (∀ du : Lldpdu, 2 ≤ st → du.valid = true → du.ttl ≠ 0 →
    let u := s.modBrim (fun x => { x with lldp := SMap.put x.lldp b du })
    (st ≠ 2 → exec (.lldpduRx b du) s = .next u.admitPorts.observe) ∧
    (st = 2 → ∀ sys n, du.orgs.findSome? nodeTlv? = some (sys, n) →
      (sys ≠ s.sh e0Page Fld.EDIE_SYS_SYSTEM_ID → exec (.lldpduRx b du) s =
        .next ((u.setFld pg Fld.BRM_STATUS_MISMATCH 1).raise pg 17).admitPorts.observe) ∧
      (sys = s.sh e0Page Fld.EDIE_SYS_SYSTEM_ID → n ≠ s.ownNode → s.sh pg Fld.BRM_CFG_UDP = 0 → ∀ i, du.orgs.findSome? portTlv? = some i →
        exec (.lldpduRx b du) s = .next (((((((u.setFld pg Fld.BRM_STATUS_MISMATCH 0).setFld pg Fld.BRM_STATUS_PARTNER_NODE n).setFld pg
          Fld.BRM_STATUS_PARTNER_PORT i).setFld pg Fld.BRM_STATUS_PARTNER_VALID 1).modBrim
          (fun x => { x with mac := SMap.put x.mac b du.mac })).setPort b 3).admitPorts).observe)))) ∧
  (∀ (who : Requester) (s : State),
  let a := s.fld e0Page Fld.EDIE_MEMB_NEXT_ADDR_ADDR
  let k := s.fld e0Page Fld.EDIE_MEMB_NEXT_EPOCH
  let e := s.fld e0Page Fld.EDIE_MEMB_STROKE_STROKE
  s.letsIn who (page 4 0) → a % 64 = 0 → ∀ bytes, s.rdDev none a 1024 = .ok bytes →
  let bm := leNat bytes
  let code := s.announceCode k e bm (s.strokeNo + 64)
  (code = 0 ↔ k = s.epochNo + 1 ∧ s.strokeNo + 64 ≤ e ∧ bm.testBit s.ownNode = true ∧
    (s.dwerdo = true → popcount 8192 bm ≤ 256) ∧ s.brim.pend = none) ∧
  (code ≠ 0 → exec (.announce who 0) s = .next ((s.announced code).refuseF e0Page code Fld.EDIE_MEMB_CMD_ANNOUNCE).observe) ∧
  (code = 0 → exec (.announce who 0) s = .next (((bitList 8192 (s.brim.members ||| bm)).filter (fun n => n != s.ownNode)).foldl
    (fun s n => s.sendAnnounce n k e bm) (s.makePending k e bm)).observe))

/-- Received frames and retransmission. A frame of another version or with a bad CRC is dropped, one out of sequence is only
acknowledged; one in sequence and of its epoch, from a node that is not lost, writes its window, or wakes its sleeping partition
and waits for it, is answered with a NAK when it names none, joins its collective or vote, applies its signal, takes an
announcement, a loss or a NAK; one from a lost node is dropped; a retransmission timeout resends all unacknowledged frames and
fails the connection at RETRY_MAX. (From 16 Brim Ports, Membership and Collectives: Transport, 16 Brim Ports, Membership and
Collectives: Remote writes and signals, 16 Brim Ports, Membership and Collectives: Losing a partner.) -/
def Obligations.BrimFrames : Prop := ∀ (b : Nat) (f : BrimFrame) (s : State),
  let c := s.conn b f.src
  let u := ((s.setConn { c with rxNext := (c.rxNext + 1) % 2 ^ 32 }).addFld (brmPage b) Fld.BRM_RX_FRAMES 1)
  let owed (x : State) : State := x.setConn { x.conn b f.src with owed := (x.conn b f.src).owed + frameCost f }
  let sound := s.portState b = 5 ∧ f.ver = 1 ∧ f.crcOk = true ∧ f.dst = s.ownNode
  (∀ i, (f.typ, i) ∈ [(0, Instr.dataRx b f), (1, .ackRx b f), (2, .voteRx b f), (3, .signalRx b f), (4, .announceRx b f), (5, .lostRx b f),
      (6, .nakRx b f)] →
    (3 ≤ s.portState b → (f.ver ≠ 1 ∨ f.crcOk = false) → exec i s = .next (s.dropFrame b).observe) ∧
    (sound → f.typ ≠ 1 → f.seq ≠ c.rxNext → exec i s = .next (s.sendAck b f.src).observe)) ∧
  (sound → f.typ = 1 → exec (.ackRx b f) s = .next ((s.addFld (brmPage b) Fld.BRM_RX_FRAMES 1).takeAck b f).observe) ∧
  (sound → f.seq = c.rxNext → f.epoch = (u.takeAck b f).epochNo → (u.takeAck b f).brim.lost.contains f.src = false →
    let go (x : State) : State := (x.sendAck b f.src)
    let v := owed (u.takeAck b f)
    (∀ d p a, f.typ = 0 → f.body = .put d → (u.takeAck b f).sleepsOn? f = none → v.inbound f.job f.target d.length = some (p, a) →
      exec (.dataRx b f) s = .next (go (v.wrDev (some p) a d).1.observe).observe) ∧
    (∀ d p, f.typ = 0 → f.body = .put d → (u.takeAck b f).sleepsOn? f = some p → exec (.dataRx b f) s =
      .next (go (((u.takeAck b f).autoWake p).modBrim (fun x => { x with held := x.held ++ [(b, f)] }))).observe) ∧
    (∀ d, f.typ = 0 → f.body = .put d → v.inbound f.job f.target d.length = none →
      exec (.dataRx b f) s = .next (go (v.sendNak b f 0x0D06)).observe) ∧
    (∀ digest rank nf d, f.typ = 0 → f.body = .coll digest rank nf d →
      exec (.dataRx b f) s = .next (go (v.takeColl f digest ⟨rank, nf, f.target % 2 ^ 32 * 64, d⟩)).observe) ∧
    (∀ key params vals n w up code, f.typ = 2 → f.body = .vote key params vals n w up code →
      exec (.voteRx b f) s = .next (go (v.takeVote f.src key params vals n up code)).observe) ∧
    (∀ op x p a, f.typ = 3 → f.body = .signal op x → (u.takeAck b f).sleepsOn? f = none → f.target % 8 = 0 →
      v.inbound f.job f.target 8 = some (p, a) →
      ∀ t, v.applySignal (v.keyOf p a) op x = some t → exec (.signalRx b f) s = .next (go t).observe) ∧
    (∀ op x p, f.typ = 3 → f.body = .signal op x → (u.takeAck b f).sleepsOn? f = some p → exec (.signalRx b f) s =
      .next (go (((u.takeAck b f).autoWake p).modBrim (fun x => { x with held := x.held ++ [(b, f)] }))).observe) ∧
    (∀ k e bm, f.typ = 4 → f.body = .announce k e bm → exec (.announceRx b f) s = .next (go (v.takeAnnounce k e bm)).observe) ∧
    (∀ n x, f.typ = 5 → f.body = .lost n x → f.target ≠ 1 → exec (.lostRx b f) s = .next (go (v.loseNode n)).observe)) ∧
  (sound → f.typ = 6 → f.seq = c.rxNext → ∀ code q, f.body = .nak code q → code ≠ 0x0D0A →
    let x := (u.takeNak b f code q).takeAck b f
    f.epoch = x.epochNo → x.brim.lost.contains f.src = false → exec (.nakRx b f) s = .next ((owed x).sendAck b f.src).observe) ∧
  (∀ i, (f.typ, i) ∈ [(0, Instr.dataRx b f), (2, .voteRx b f), (3, .signalRx b f), (4, .announceRx b f), (5, .lostRx b f)] →
    (∀ code q, f.body ≠ .nak code q) → sound → f.seq = c.rxNext → f.epoch = (u.takeAck b f).epochNo →
    (u.takeAck b f).brim.lost.contains f.src = true →
    exec i s = .next ((owed ((u.takeAck b f).dropFrame b)).sendAck b f.src).observe) ∧
  (∀ n, let k := s.conn b n
    k.unacked ≠ [] → k.failed = false → 5 ≤ s.portState b →
    let r := k.unacked.foldl (fun s x => ((s.addFld (brmPage b) Fld.BRM_RETX_FRAMES 1).emitFrame b { x.1 with ack := k.rxNext })) s
    (k.timeouts + 1 < r.sh (brmPage b) Fld.BRM_CFG_RETRY_MAX →
      exec (.rtoExpiry b n) s = .next (r.setConn { k with timeouts := k.timeouts + 1 }).observe) ∧
    (r.sh (brmPage b) Fld.BRM_CFG_RETRY_MAX ≤ k.timeouts + 1 →
      exec (.rtoExpiry b n) s = .next (r.setConn { k with timeouts := k.timeouts + 1, failed := true }).findLost.observe))

/-- Collectives on one node, and with a node that is gone. A collective whose only node is the own one ends with its bytes, and a
gather, exchange or broadcast then writes its source to its destination; one that names a node that is lost or not a member ends
with 0x0D04. (From 16 Brim Ports, Membership and Collectives: Collectives, 16 Brim Ports, Membership and Collectives: Losing a
partner.) -/
def Obligations.Collectives : Prop :=
  (∀ (r q op : Nat) (i : Instr) (c : InFlight) (src : List Byte) (s : State),
  (op, i) ∈ [(0x60, Instr.allReduce r q), (0x61, .reduceScatter r q), (0x62, .allGather r q), (0x63, .allToAll r q), (0x64, .broadcast r q)] →
  s.ready op r q c →
  let u := s.atBegin c
  let d := collDesc c.ext
  collNodes u c = [s.ownNode] → s.brim.lost.contains s.ownNode = false → s.brim.members.testBit s.ownNode = true →
  (op = 0x64 → d.root = 0) → d.nf = 0 →
  u.rdDev (some c.part) d.src (collBytes op d 0 1).1 = .ok src →
  (∀ k ∈ s.brim.colls, ¬(k.job = s.job c.part ∧ k.epoch = d.epoch ∧ k.id = d.id)) →
  (∀ bs : List Byte, bs.length = (collBytes op d 0 1).2 → (u.wrDev (some c.part) d.dst bs).2.2 = 0) →
  Runs i s (fun t => t.endedWith r q 0 (collBytes op d 0 1).2 ∧
    (op = 0x62 ∨ op = 0x63 ∨ op = 0x64 → t.mem = (u.wrDev (some c.part) d.dst src).1.mem) ∧
    t.host = s.host ∧ t.rings = s.rings ∧ t.frames = s.frames ∧ t.out = s.out)) ∧
  (∀ (r q op : Nat) (i : Instr) (c : InFlight) (s : State),
  (op, i) ∈ [(0x60, Instr.allReduce r q), (0x61, .reduceScatter r q), (0x62, .allGather r q), (0x63, .allToAll r q), (0x64, .broadcast r q),
    (0x66, .voteWord r q)] →
  s.ready op r q c →
  let u := s.atBegin c
  let ns := collNodes u c
  let v := ns.foldl (fun s n => if s.unreachable n then s.loseNode n else s) u
  (∃ n ∈ ns, v.brim.lost.contains n = true ∨ v.brim.members.testBit n = false) →
  exec i s = .next (v.endCmd r q 0x0D04 0).observe)

/-- NaNs, float codes and block scales. For the six floating-point formats the NaN that is written is the canonical one, rounding
keeps a NaN a NaN, and decoding a code and encoding it gives the code back, or the canonical NaN for any NaN. A block-scaled
element is its element value times 2^(X − 127), a scale of 0xFF reads as NaN with NAN_SEEN, and a block with a NaN or an infinity
is written with scale 0xFF and codes 0. (States R99, R101.) -/
def Obligations.FloatCodes : Prop := (∀ k nan, (k, nan) ∈ [(kF64, 0x7FF8000000000000), (kF32, 0x7FC00000), (kF16, 0x7E00), (kBF16, 0x7FC0), (kE4M3, 0x7F), (kE5M2, 0x7E)] →
    k.encode .nan = nan ∧ (∀ mode r, (k.round mode r .nan).1 = .nan) ∧
    ∀ raw, raw < 2 ^ (1 + k.eb + k.fb) → k.encode (k.decode raw) = if k.decode raw = .nan then nan else raw) ∧
  (∀ fmt code, fmt ∈ [5, 6, 7, 8, 9, 10] → mxDecode fmt 0xFF code = (.nan, fNAN) ∧
    ∀ x < 255, mxDecode fmt x code = widen (((kindOf fmt).decode (code % 2 ^ fmtBits fmt)).scale ((x : Int) - 127))) ∧
  (∀ code < 256, kINT8.decode code = Val.ofInt (sext 8 code) (-6)) ∧
  (∀ signed code, m8Decode signed 0xFF code = (.nan, fNAN)) ∧
  (∀ vs mode rs, (∃ v ∈ vs, v.isFin = false) →
    (∀ fmt, (mxEncode fmt vs mode rs).1 = 0xFF ∧ ∀ x ∈ (mxEncode fmt vs mode rs).2.1, x = 0) ∧
    (∀ signed, (m8Encode signed vs mode rs).1 = 0xFF ∧ ∀ x ∈ (m8Encode signed vs mode rs).2.1, x = 0))
end

