-- ==== Sys2Proof/Laws/Banks.lean ====
section
/-!
SUPPORT. What leaves the Shape's banks, its operation and its pinned slots alone: everything a swap does after it has switched them.
One lemma per operation, in the order of the files.
-/
namespace Sys2Proof.Machine

open Sys2Proof

/-- The Shape's banks, operation, pin and slots stand. -/
structure Banks (s t : State) : Prop where
  live : t.shape.live = s.shape.live
  prior : t.shape.prior = s.shape.prior
  pend : t.shape.pend = s.shape.pend
  highGen : t.shape.highGen = s.shape.highGen
  nextGen : t.shape.nextGen = s.shape.nextGen
  op : t.shape.op = s.shape.op
  pin : t.shape.pin = s.shape.pin
  slot0 : t.shape.slot0 = s.shape.slot0
  slot1 : t.shape.slot1 = s.shape.slot1
  cur : t.shape.cur = s.shape.cur

theorem Banks.refl (s : State) : Banks s s := ⟨rfl, rfl, rfl, rfl, rfl, rfl, rfl, rfl, rfl, rfl⟩

theorem Banks.trans {s t u : State} (h : Banks s t) (k : Banks t u) : Banks s u :=
  ⟨k.live.trans h.live, k.prior.trans h.prior, k.pend.trans h.pend, k.highGen.trans h.highGen, k.nextGen.trans h.nextGen, k.op.trans h.op, k.pin.trans h.pin, k.slot0.trans h.slot0, k.slot1.trans h.slot1, k.cur.trans h.cur⟩

/-- A change of anything but the Shape unit. -/
theorem Banks.upd {s₀ s : State} (h : Banks s₀ s) {v0 : SMap Word64} {v2 : StrokeUnit} {v3 : Calendar} {v4 : SMap Ring} {v5 : List InFlight} {v6 : Nat} {v7 : SMap Nat} {v8 : Nat} {v9 : SMap Nat} {v10 : SMap Ctx} {v11 : SMap Part} {v12 : SMap Chan} {v13 : SMap Stack} {v14 : SMap VcEngine} {v15 : List KvMove} {v16 : List (Nat × Nat × Nat)} {v17 : List (Nat × Nat)} {v18 : SMap Frame} {v19 : List (Nat × Nat)} {v20 : List Nat} {v21 : List (Nat × Nat)} {v22 : List (Nat × Nat)} {v23 : List (Nat × Nat)} {v24 : SMap Nat} {v25 : Power} {v26 : ErrRing} {v27 : List Host.Cell} {v28 : List (Nat × Nat)} {v29 : Option Nat} {v30 : List Nat} {v31 : List Nat} {v32 : List Host.Cell} {v33 : List (Nat × Nat × Nat × Nat)} {v34 : Sec} {v35 : SMap HostPort} {v36 : SMap RwtEntry} {v37 : Brim} {v38 : SMap Tc} {v39 : Pins} {v40 : List Out} {v41 : Nat} {v42 : List Instr} :
    Banks s₀ { regs := v0, shape := s.shape, stroke := v2, cal := v3, rings := v4, cmds := v5, fetches := v6, rrLast := v7, starts := v8, fulLast := v9, ctxs := v10, parts := v11, chans := v12, stks := v13, vcs := v14, kvMoves := v15, kvLimbo := v16, kvParked := v17, frames := v18, trim := v19, pkgOuts := v20, failed := v21, knownBad := v22, nvmKnownBad := v23, recalWindow := v24, pwr := v25, errs := v26, mem := v27, lost := v28, zeroed := v29, bad := v30, weak := v31, host := v32, hostFaults := v33, sec := v34, hps := v35, rwt := v36, brim := v37, tcs := v38, pins := v39, out := v40, draws := v41, pending := v42 } := h.trans ⟨rfl, rfl, rfl, rfl, rfl, rfl, rfl, rfl, rfl, rfl⟩

/-- A change of what pages still show of a former generation. -/
theorem Banks.held {s₀ s : State} (h : Banks s₀ s) (g : SMap Nat) :
    Banks s₀ { s with shape := { s.shape with genHeld := g } } := h.trans ⟨rfl, rfl, rfl, rfl, rfl, rfl, rfl, rfl, rfl, rfl⟩

theorem Banks.emit {s₀ s : State} (h : Banks s₀ s) (o : Out) : Banks s₀ (s.emit o) := h.trans ⟨rfl, rfl, rfl, rfl, rfl, rfl, rfl, rfl, rfl, rfl⟩

theorem Banks.fst {β : Type} {s₀ s : State} {p : State × β} {b : β} (h : Banks s₀ p.1) (e : p = (s, b)) : Banks s₀ s := by
  subst e; exact h

theorem Banks.foldl {α : Type} {s₀ s : State} (h : Banks s₀ s) (l : List α) (f : State → α → State)
    (hf : ∀ t a, Banks s₀ t → Banks s₀ (f t a)) : Banks s₀ (l.foldl f s) := by
  induction l generalizing s with
  | nil => exact h
  | cons a l ih => exact ih (hf s a h)

theorem Banks.foldlP {α σ : Type} (π : σ → State) {s₀ : State} {x : σ} (h : Banks s₀ (π x)) (l : List α) (f : σ → α → σ)
    (hf : ∀ t a, Banks s₀ (π t) → Banks s₀ (π (f t a))) : Banks s₀ (π (l.foldl f x)) := by
  induction l generalizing x with
  | nil => exact h
  | cons a l ih => exact ih (hf x a h)

theorem Banks.cutF {s₀ r : State} {f : State → State} (hf : ∀ t, Banks s₀ t → Banks s₀ (f t))
    (k : (∀ t, Banks s₀ t → Banks s₀ (f t)) → Banks s₀ r) : Banks s₀ r := k hf

theorem Banks.cutF2 {α : Type} {s₀ r : State} {f : State → α → State} (hf : ∀ t a, Banks s₀ t → Banks s₀ (f t a))
    (k : (∀ t a, Banks s₀ t → Banks s₀ (f t a)) → Banks s₀ r) : Banks s₀ r := k hf

theorem Banks.cut {s₀ x r : State} (hx : Banks s₀ x) (k : Banks s₀ x → Banks s₀ r) : Banks s₀ r := k hx

theorem Banks.ite {s₀ a b : State} {c : Prop} [Decidable c] (ha : c → Banks s₀ a) (hb : ¬c → Banks s₀ b) :
    Banks s₀ (if c then a else b) := by
  split
  · exact ha ‹_›
  · exact hb ‹_›

theorem Banks.ite1 {β : Type} {s₀ : State} {a b : State × β} {c : Prop} [Decidable c] (ha : c → Banks s₀ a.1) (hb : ¬c → Banks s₀ b.1) :
    Banks s₀ (if c then a else b).1 := by
  split
  · exact ha ‹_›
  · exact hb ‹_›

theorem State.setReg_banks {s₀ : State} {s : State} (hk : Banks s₀ s) (key : Nat) (v : Word64) :
    Banks s₀ (State.setReg s key v) := by
  unfold State.setReg
  repeat' first
    | (with_reducible apply Banks.upd; first | with_reducible assumption)

theorem State.setFld_banks {s₀ : State} {s : State} (hk : Banks s₀ s) (pg : Nat) (f : Fld) (v : Nat) :
    Banks s₀ (State.setFld s pg f v) := by
  unfold State.setFld
  repeat' first
    | with_reducible assumption
    | with_reducible apply State.setReg_banks

theorem State.addFld_banks {s₀ : State} {s : State} (hk : Banks s₀ s) (pg : Nat) (f : Fld) (k : Nat) :
    Banks s₀ (State.addFld s pg f k) := by
  unfold State.addFld
  repeat' first
    | with_reducible assumption
    | with_reducible apply State.setFld_banks

theorem State.setBit_banks {s₀ : State} {s : State} (hk : Banks s₀ s) (pg : Nat) (f : Fld) (b : Bool) :
    Banks s₀ (State.setBit s pg f b) := by
  unfold State.setBit
  repeat' first
    | with_reducible assumption
    | with_reducible apply State.setFld_banks

theorem State.wr_banks {s₀ s : State} (h : Banks s₀ s) (k : Nat) (v : Byte) : Banks s₀ (s.wr k v) := h.trans ⟨rfl, rfl, rfl, rfl, rfl, rfl, rfl, rfl, rfl, rfl⟩

theorem State.hwr_banks {s₀ s : State} (h : Banks s₀ s) (k : Nat) (v : Byte) : Banks s₀ (s.hwr k v) := h.trans ⟨rfl, rfl, rfl, rfl, rfl, rfl, rfl, rfl, rfl, rfl⟩

theorem State.wrs_banks {s₀ s : State} (h : Banks s₀ s) (k : Nat) (bs : List Byte) : Banks s₀ (s.wrs k bs) := by
  induction bs generalizing s k with
  | nil => exact h
  | cons b bs ih => exact ih (State.wr_banks h k b) (k + 1)

theorem State.hwrs_banks {s₀ s : State} (h : Banks s₀ s) (k : Nat) (bs : List Byte) : Banks s₀ (s.hwrs k bs) := by
  induction bs generalizing s k with
  | nil => exact h
  | cons b bs ih => exact ih (State.hwr_banks h k b) (k + 1)

theorem State.wr64_banks {s₀ s : State} (h : Banks s₀ s) (k v : Nat) : Banks s₀ (s.wr64 k v) := State.wrs_banks h k _

theorem State.lose_banks {s₀ s : State} (h : Banks s₀ s) (base len : Nat) : Banks s₀ (s.lose base len) := h.trans ⟨rfl, rfl, rfl, rfl, rfl, rfl, rfl, rfl, rfl, rfl⟩

theorem State.wrDev_banks {s₀ s : State} (h : Banks s₀ s) (p : Option Nat) (a : Nat) (bs : List Byte) :
    Banks s₀ (s.wrDev p a bs).1 := by
  induction bs generalizing s a with
  | nil => exact h
  | cons b bs ih =>
    unfold State.wrDev
    split
    · exact h
    · exact ih (State.wr_banks h ..) (a + 1)

theorem State.setCtx_banks {s₀ : State} {s : State} (hk : Banks s₀ s) (p c : Nat) (x : Ctx) :
    Banks s₀ (State.setCtx s p c x) := by
  unfold State.setCtx
  repeat' first
    | (with_reducible apply Banks.upd; first | with_reducible assumption)

theorem State.modCtx_banks {s₀ : State} {s : State} (hk : Banks s₀ s) (p c : Nat) (f : Ctx → Ctx) :
    Banks s₀ (State.modCtx s p c f) := by
  unfold State.modCtx
  repeat' first
    | with_reducible assumption
    | with_reducible apply State.setCtx_banks

theorem State.modPart_banks {s₀ : State} {s : State} (hk : Banks s₀ s) (p : Nat) (f : Part → Part) :
    Banks s₀ (State.modPart s p f) := by
  unfold State.modPart
  repeat' first
    | (with_reducible apply Banks.upd; first | with_reducible assumption)

theorem State.setRing_banks {s₀ : State} {s : State} (hk : Banks s₀ s) (r : Nat) (x : Ring) :
    Banks s₀ (State.setRing s r x) := by
  unfold State.setRing
  repeat' first
    | (with_reducible apply Banks.upd; first | with_reducible assumption)

theorem State.modChan_banks {s₀ : State} {s : State} (hk : Banks s₀ s) (c : Nat) (f : Chan → Chan) :
    Banks s₀ (State.modChan s c f) := by
  unfold State.modChan
  repeat' first
    | (with_reducible apply Banks.upd; first | with_reducible assumption)

theorem State.modVc_banks {s₀ : State} {s : State} (hk : Banks s₀ s) (v : Nat) (f : VcEngine → VcEngine) :
    Banks s₀ (State.modVc s v f) := by
  unfold State.modVc
  repeat' first
    | (with_reducible apply Banks.upd; first | with_reducible assumption)

theorem State.modTc_banks {s₀ : State} {s : State} (hk : Banks s₀ s) (n : Nat) (f : Tc → Tc) :
    Banks s₀ (State.modTc s n f) := by
  unfold State.modTc
  repeat' first
    | (with_reducible apply Banks.upd; first | with_reducible assumption)

theorem State.modHp_banks {s₀ : State} {s : State} (hk : Banks s₀ s) (h : Nat) (f : HostPort → HostPort) :
    Banks s₀ (State.modHp s h f) := by
  unfold State.modHp
  repeat' first
    | (with_reducible apply Banks.upd; first | with_reducible assumption)

theorem State.observe_banks {s₀ : State} {s : State} (hk : Banks s₀ s) :
    Banks s₀ (State.observe s) := by
  unfold State.observe
  repeat' first
    | lift_lets
    | (intro y; clear_value y)
    | (with_reducible apply Banks.upd; first | with_reducible assumption)

theorem State.raise_banks {s₀ : State} {s : State} (hk : Banks s₀ s) (pg bit : Nat) :
    Banks s₀ (State.raise s pg bit) := by
  unfold State.raise
  repeat' first
    | with_reducible assumption
    | with_reducible apply State.setReg_banks
    | lift_lets
    | (intro y; with_reducible refine Banks.cut (x := y) ?_ (fun _ => ?_); rotate_left 1; clear_value y; rotate_left 1; unfold y)
    | with_reducible refine Banks.ite (fun _ => ?_) (fun _ => ?_)
    | with_reducible apply Banks.emit

theorem State.refuse_banks {s₀ : State} {s : State} (hk : Banks s₀ s) (pg code : Nat) (off : Nat) (lsb : Nat) :
    Banks s₀ (State.refuse s pg code off lsb) := by
  unfold State.refuse
  repeat' first
    | with_reducible assumption
    | with_reducible apply State.raise_banks
    | with_reducible apply State.setFld_banks

theorem State.refuseF_banks {s₀ : State} {s : State} (hk : Banks s₀ s) (pg code : Nat) (f : Fld) :
    Banks s₀ (State.refuseF s pg code f) := by
  unfold State.refuseF
  repeat' first
    | with_reducible assumption
    | with_reducible apply State.refuse_banks

theorem State.stopPartRings_banks {s₀ : State} {s : State} (hk : Banks s₀ s) (p : Nat) (code : Code) :
    Banks s₀ (State.stopPartRings s p code) := by
  unfold State.stopPartRings
  repeat' first
    | (with_reducible apply Banks.upd; first | with_reducible assumption)

theorem State.stopAllRings_banks {s₀ : State} {s : State} (hk : Banks s₀ s) (code : Code) :
    Banks s₀ (State.stopAllRings s code) := by
  unfold State.stopAllRings
  repeat' first
    | (with_reducible apply Banks.upd; first | with_reducible assumption)

theorem State.setAlert_banks {s₀ : State} {s : State} (hk : Banks s₀ s) :
    Banks s₀ (State.setAlert s) := by
  unfold State.setAlert
  repeat' first
    | (with_reducible apply Banks.upd; first | with_reducible assumption)

theorem State.writeErr_banks {s₀ s : State} (h : Banks s₀ s) (e : ErrInfo) (count : Nat) (coalesced : Bool) :
    Banks s₀ (s.writeErr e count coalesced) := by
  unfold State.writeErr
  extract_lets tail full ti fatal flags bytes alerts x er s1 s2 s3 s4 s5
  have h1 : Banks s₀ s1 := h.upd
  have h2 : Banks s₀ s2 := State.setFld_banks h1 ..
  have h3 : Banks s₀ s3 := Banks.ite (fun _ => State.raise_banks (State.addFld_banks (State.setFld_banks h2 ..) ..) ..) (fun _ => h2)
  have h4 : Banks s₀ s4 := State.raise_banks h3 ..
  have h5 : Banks s₀ s5 := Banks.ite (fun _ => h4.foldl _ _ (fun _ _ ht => Banks.ite (fun _ => ht.emit _) (fun _ => ht))) (fun _ => h4)
  exact State.setAlert_banks (h5.emit _)

theorem State.countErr_banks {s₀ : State} {s : State} (hk : Banks s₀ s) (pg cls : Nat) :
    Banks s₀ (State.countErr s pg cls) := by
  unfold State.countErr
  repeat' first
    | with_reducible assumption
    | with_reducible apply State.raise_banks
    | with_reducible apply State.addFld_banks

theorem State.setFault_banks {s₀ : State} {s : State} (hk : Banks s₀ s) (pg : Nat) :
    Banks s₀ (State.setFault s pg) := by
  unfold State.setFault
  repeat' first
    | with_reducible assumption
    | with_reducible apply State.raise_banks
    | with_reducible apply State.setFld_banks
    | with_reducible refine Banks.ite (fun _ => ?_) (fun _ => ?_)

theorem State.haltPart_banks {s₀ : State} {s : State} (hk : Banks s₀ s) (p : Nat) (code : Code) :
    Banks s₀ (State.haltPart s p code) := by
  unfold State.haltPart
  repeat' first
    | with_reducible assumption
    | with_reducible apply State.setFault_banks
    | with_reducible apply State.stopPartRings_banks
    | with_reducible apply State.modPart_banks

theorem State.classAct_banks {s₀ : State} {s : State} (hk : Banks s₀ s) (e : ErrInfo) :
    Banks s₀ (State.classAct s e) := by
  unfold State.classAct
  repeat' first
    | with_reducible assumption
    | with_reducible apply State.setFault_banks
    | with_reducible apply State.stopAllRings_banks
    | with_reducible apply State.haltPart_banks
    | lift_lets
    | (intro y; with_reducible refine Banks.cut (x := y) ?_ (fun _ => ?_); rotate_left 1; clear_value y; rotate_left 1; unfold y)
    | with_reducible refine Banks.ite (fun _ => ?_) (fun _ => ?_)
    | (with_reducible apply Banks.upd; first | with_reducible assumption)
    | split

theorem State.recordError_banks {s₀ : State} {s : State} (hk : Banks s₀ s) (e : ErrInfo) :
    Banks s₀ (State.recordError s e) := by
  unfold State.recordError
  repeat' first
    | with_reducible assumption
    | with_reducible apply State.classAct_banks
    | with_reducible apply State.writeErr_banks
    | with_reducible apply State.countErr_banks
    | lift_lets
    | (intro y; with_reducible refine Banks.cut (x := y) ?_ (fun _ => ?_); rotate_left 1; clear_value y; rotate_left 1; unfold y)
    | with_reducible refine Banks.ite (fun _ => ?_) (fun _ => ?_)
    | (with_reducible apply Banks.upd; first | with_reducible apply State.classAct_banks | with_reducible apply State.writeErr_banks | with_reducible refine Banks.foldl ?_ _ _ (fun _ _ _ => ?_))

theorem State.setDirty_banks {s₀ : State} {s : State} (hk : Banks s₀ s) :
    Banks s₀ (State.setDirty s) := by
  unfold State.setDirty
  repeat' first
    | with_reducible assumption
    | with_reducible apply State.setBit_banks

theorem State.shapeDone_banks {s₀ : State} {s : State} (hk : Banks s₀ s) (op : Nat) :
    Banks s₀ (State.shapeDone s op) := by
  unfold State.shapeDone
  repeat' first
    | with_reducible assumption
    | with_reducible apply State.setFld_banks

theorem State.setSlotW0_banks {s₀ : State} {s : State} (hk : Banks s₀ s) (p i st span owner : Nat) :
    Banks s₀ (State.setSlotW0 s p i st span owner) := by
  unfold State.setSlotW0
  repeat' first
    | with_reducible assumption
    | with_reducible apply State.wr64_banks

theorem State.setSlotSt_banks {s₀ : State} {s : State} (hk : Banks s₀ s) (p i st : Nat) :
    Banks s₀ (State.setSlotSt s p i st) := by
  unfold State.setSlotSt
  repeat' first
    | with_reducible assumption
    | with_reducible apply State.setSlotW0_banks

theorem State.freeRun_banks {s₀ : State} {s : State} (hk : Banks s₀ s) (p i : Nat) :
    Banks s₀ (State.freeRun s p i) := by
  unfold State.freeRun
  repeat' first
    | with_reducible assumption
    | with_reducible apply State.setSlotW0_banks
    | (with_reducible apply Banks.upd; first | with_reducible refine Banks.foldl ?_ _ _ (fun _ _ _ => ?_))

theorem State.freeTier_banks {s₀ : State} {s : State} (hk : Banks s₀ s) (p : Nat) (host : Bool) :
    Banks s₀ (State.freeTier s p host) := by
  unfold State.freeTier
  repeat' first
    | with_reducible assumption
    | with_reducible apply State.setSlotW0_banks
    | (with_reducible apply Banks.upd; first | with_reducible refine Banks.foldl ?_ _ _ (fun _ _ _ => ?_))

theorem State.dropMove_banks {s₀ : State} {s : State} (hk : Banks s₀ s) (m : KvMove) :
    Banks s₀ (State.dropMove s m) := by
  unfold State.dropMove
  repeat' first
    | with_reducible assumption
    | with_reducible apply State.freeRun_banks
    | with_reducible apply State.setSlotSt_banks
    | lift_lets
    | (intro y; with_reducible refine Banks.cut (x := y) ?_ (fun _ => ?_); rotate_left 1; clear_value y; rotate_left 1; unfold y)
    | with_reducible refine Banks.ite (fun _ => ?_) (fun _ => ?_)
    | (with_reducible apply Banks.upd; first | with_reducible assumption)

theorem State.settleKv_banks {s₀ : State} {s : State} (hk : Banks s₀ s) (mine : Nat → Bool) :
    Banks s₀ (State.settleKv s mine) := by
  unfold State.settleKv
  repeat' first
    | with_reducible assumption
    | with_reducible apply State.freeRun_banks
    | with_reducible apply State.dropMove_banks
    | lift_lets
    | (intro y; with_reducible refine Banks.cut (x := y) ?_ (fun _ => ?_); rotate_left 1; clear_value y; rotate_left 1; unfold y)
    | (with_reducible apply Banks.upd; first | with_reducible refine Banks.foldl ?_ _ _ (fun _ _ _ => ?_))

theorem State.abandonMoves_banks {s₀ : State} {s : State} (hk : Banks s₀ s) (r q : Nat) :
    Banks s₀ (State.abandonMoves s r q) := by
  unfold State.abandonMoves
  repeat' first
    | with_reducible assumption
    | with_reducible apply State.dropMove_banks
    | (with_reducible apply Banks.upd; first | with_reducible refine Banks.foldl ?_ _ _ (fun _ _ _ => ?_))

theorem State.dropWork_banks {s₀ : State} {s : State} (hk : Banks s₀ s) (c : InFlight) :
    Banks s₀ (State.dropWork s c) := by
  unfold State.dropWork
  repeat' first
    | with_reducible assumption
    | with_reducible apply State.freeRun_banks
    | with_reducible apply State.abandonMoves_banks
    | with_reducible apply State.wr64_banks
    | lift_lets
    | (intro y; with_reducible refine Banks.cut (x := y) ?_ (fun _ => ?_); rotate_left 1; clear_value y; rotate_left 1; unfold y)
    | (with_reducible apply Banks.upd; first | with_reducible refine Banks.foldl ?_ _ _ (fun _ _ _ => ?_))
    | split

theorem State.wrHost_banks {s₀ : State} {s : State} (hk : Banks s₀ s) (h a : Nat) (b : List Byte) :
    Banks s₀ (State.wrHost s h a b) := by
  unfold State.wrHost
  repeat' first
    | with_reducible assumption
    | with_reducible apply State.hwrs_banks

theorem State.applySignal_banks {s₀ : State} {s : State} (hk : Banks s₀ s) (k op v : Nat) {t : State} (e : State.applySignal s k op v = some t) :
    Banks s₀ t := by
  unfold State.applySignal at e
  (repeat' split at e) <;> first | contradiction | (cases e; repeat' first
    | with_reducible assumption
    | with_reducible apply State.wr64_banks
    | with_reducible apply State.observe_banks)

theorem State.logRecord_banks {s₀ : State} {s : State} (hk : Banks s₀ s) (h : Nat) (rec : List Byte) (orig : Nat) (flushed sent : Bool) :
    Banks s₀ (State.logRecord s h rec orig flushed sent) := by
  unfold State.logRecord
  repeat' first
    | with_reducible assumption
    | with_reducible apply State.modHp_banks
    | with_reducible apply State.setFld_banks
    | with_reducible apply State.addFld_banks
    | with_reducible apply State.raise_banks
    | lift_lets
    | with_reducible refine Banks.ite (fun _ => ?_) (fun _ => ?_)

theorem State.performSignal_banks {s₀ : State} {s : State} (hk : Banks s₀ s) (c : InFlight) :
    Banks s₀ (State.performSignal s c).1 := by
  unfold State.performSignal
  repeat' first
    | with_reducible assumption
    | with_reducible refine Banks.ite1 (fun _ => ?_) (fun _ => ?_)
    | split
    | (refine State.applySignal_banks ?_ (e := by assumption))

theorem State.putDw_banks {s₀ : State} {s : State} (hk : Banks s₀ s) (h cid status good : Nat) (irq : Bool) :
    Banks s₀ (State.putDw s h cid status good irq) := by
  unfold State.putDw
  repeat' first
    | with_reducible assumption
    | with_reducible apply State.modHp_banks
    | with_reducible apply State.setFld_banks
    | with_reducible apply State.wrHost_banks
    | lift_lets
    | (intro y; with_reducible refine Banks.cut (x := y) ?_ (fun _ => ?_); rotate_left 1; clear_value y; rotate_left 1; unfold y)
    | (intro y; clear_value y)
    | with_reducible refine Banks.ite (fun _ => ?_) (fun _ => ?_)
    | with_reducible apply Banks.emit

theorem State.putRecord_banks {s₀ s : State} (h : Banks s₀ s) (c : InFlight) (status info : Nat) :
    Banks s₀ (s.putRecord c status info) := by
  unfold State.putRecord
  split
  · exact State.putDw_banks h ..
  · extract_lets r b slot a adv irq s1
    have hadv : ∀ {t : State}, Banks s₀ t → Banks s₀ (adv t) := fun ht => State.setRing_banks ht ..
    have hirq : ∀ {t : State}, Banks s₀ t → Banks s₀ (irq t) := fun {t} ht => by
      show Banks s₀ (if _ then _ else _)
      refine Banks.ite (fun _ => ?_) (fun _ => ht)
      split
      · exact Banks.ite (fun _ => ht.emit _) (fun _ => ht)
      · exact ht
    have h1 : Banks s₀ s1 := State.modHp_banks (hadv (State.wrHost_banks h ..)) ..
    refine Banks.ite (fun _ => Banks.ite (fun _ => State.logRecord_banks h ..) (fun _ => hirq h1)) (fun _ => ?_)
    split
    · exact hirq (hadv (State.wrs_banks h ..))
    · exact h

theorem State.lateAt_banks {s₀ : State} {s : State} (hk : Banks s₀ s) (late : Bool) :
    Banks s₀ (State.lateAt s late) := by
  unfold State.lateAt
  repeat' first
    | with_reducible assumption
    | with_reducible apply State.raise_banks
    | with_reducible apply State.addFld_banks
    | with_reducible refine Banks.ite (fun _ => ?_) (fun _ => ?_)

theorem State.dropCmd_banks {s₀ : State} {s : State} (hk : Banks s₀ s) (r q : Nat) :
    Banks s₀ (State.dropCmd s r q) := by
  unfold State.dropCmd
  repeat' first
    | (with_reducible apply Banks.upd; first | with_reducible assumption)

theorem State.complete_banks {s₀ : State} {s : State} (hk : Banks s₀ s) (c : InFlight) :
    Banks s₀ (State.complete s c) := by
  unfold State.complete
  repeat' first
    | with_reducible assumption
    | with_reducible apply State.lateAt_banks
    | with_reducible apply State.modTc_banks
    | with_reducible apply State.modCtx_banks
    | with_reducible apply State.dropCmd_banks
    | with_reducible apply State.performSignal_banks
    | with_reducible apply State.putRecord_banks
    | lift_lets
    | with_reducible refine Banks.ite (fun _ => ?_) (fun _ => ?_)
    | split

theorem State.endAll_banks {s₀ : State} {s : State} (hk : Banks s₀ s) (pick : InFlight → Bool) (code : Code) :
    Banks s₀ (State.endAll s pick code) := by
  unfold State.endAll
  repeat' first
    | with_reducible assumption
    | with_reducible apply State.complete_banks
    | with_reducible apply State.dropWork_banks
    | (with_reducible apply Banks.upd; first | with_reducible refine Banks.foldl ?_ _ _ (fun _ _ _ => ?_))

theorem State.loseUnits_banks {s₀ : State} {s : State} (hk : Banks s₀ s) (p : Nat) :
    Banks s₀ (State.loseUnits s p) := by
  unfold State.loseUnits
  repeat' first
    | with_reducible assumption
    | with_reducible apply State.lose_banks
    | (with_reducible apply Banks.upd; first | with_reducible refine Banks.foldl ?_ _ _ (fun _ _ _ => ?_))

theorem State.clearSticky_banks {s₀ : State} {s : State} (hk : Banks s₀ s) (p : Nat) :
    Banks s₀ (State.clearSticky s p) :=
  hk.foldl _ _ (fun _ _ h => State.modTc_banks (h.foldl imageRegs _ (fun _ _ h => State.setReg_banks h ..)) ..)

theorem State.abortCtx_banks {s₀ : State} {s : State} (hk : Banks s₀ s) (p c : Nat) (lastCode status : Code) (d0 d1 : Nat) :
    Banks s₀ (State.abortCtx s p c lastCode status d0 d1) := by
  unfold State.abortCtx
  repeat' first
    | with_reducible assumption
    | with_reducible apply State.loseUnits_banks
    | with_reducible apply State.clearSticky_banks
    | with_reducible apply State.modCtx_banks
    | with_reducible apply State.recordError_banks
    | with_reducible apply State.raise_banks
    | lift_lets
    | with_reducible refine Banks.ite (fun _ => ?_) (fun _ => ?_)
    | (with_reducible apply Banks.upd; first | with_reducible apply State.endAll_banks)

theorem State.modStroke_banks {s₀ : State} {s : State} (hk : Banks s₀ s) (f : StrokeUnit → StrokeUnit) :
    Banks s₀ (State.modStroke s f) := by
  unfold State.modStroke
  repeat' first
    | (with_reducible apply Banks.upd; first | with_reducible assumption)

theorem State.setFrame_banks {s₀ : State} {s : State} (hk : Banks s₀ s) (t f : Nat) (x : Frame) :
    Banks s₀ (State.setFrame s t f x) := by
  unfold State.setFrame
  repeat' first
    | (with_reducible apply Banks.upd; first | with_reducible assumption)

theorem State.queueNvm_banks {s₀ : State} {s : State} (hk : Banks s₀ s) (kind x : Nat) :
    Banks s₀ (State.queueNvm s kind x) := by
  unfold State.queueNvm
  repeat' first
    | (with_reducible apply Banks.upd; first | with_reducible assumption)

theorem State.saveRemaps_banks {s₀ : State} {s : State} (hk : Banks s₀ s) (c : Nat) :
    Banks s₀ (State.saveRemaps s c) := by
  unfold State.saveRemaps
  repeat' first
    | with_reducible assumption
    | with_reducible apply State.queueNvm_banks

theorem State.frameRetired_banks {s₀ : State} {s : State} (hk : Banks s₀ s) (t f : Nat) :
    Banks s₀ (State.frameRetired s t f) := by
  unfold State.frameRetired
  repeat' first
    | with_reducible assumption
    | with_reducible apply State.saveRemaps_banks
    | with_reducible apply State.modChan_banks
    | with_reducible apply State.setFrame_banks
    | lift_lets
    | (intro y; with_reducible refine Banks.cut (x := y) ?_ (fun _ => ?_); rotate_left 1; clear_value y; rotate_left 1; unfold y)
    | (intro y; clear_value y)
    | with_reducible refine Banks.ite (fun _ => ?_) (fun _ => ?_)
    | (with_reducible apply Banks.upd; first | with_reducible refine Banks.foldl ?_ _ _ (fun _ _ _ => ?_))

theorem State.mapRetired_banks {s₀ : State} {s : State} (hk : Banks s₀ s) :
    Banks s₀ (State.mapRetired s) := by
  unfold State.mapRetired
  repeat' first
    | with_reducible assumption
    | with_reducible apply State.frameRetired_banks
    | with_reducible refine Banks.ite (fun _ => ?_) (fun _ => ?_)
    | (with_reducible apply Banks.upd; first | with_reducible refine Banks.foldl ?_ _ _ (fun _ _ _ => ?_))

theorem State.trimUnit_banks {s₀ : State} {s : State} (hk : Banks s₀ s) (kind i : Nat) :
    Banks s₀ (State.trimUnit s kind i) := by
  unfold State.trimUnit
  repeat' first
    | with_reducible assumption
    | with_reducible apply State.raise_banks
    | with_reducible refine Banks.ite (fun _ => ?_) (fun _ => ?_)
    | (with_reducible apply Banks.upd; first | with_reducible assumption)

theorem State.modBrim_banks {s₀ : State} {s : State} (hk : Banks s₀ s) (f : Brim → Brim) :
    Banks s₀ (State.modBrim s f) := by
  unfold State.modBrim
  repeat' first
    | (with_reducible apply Banks.upd; first | with_reducible assumption)

theorem State.dropConns_banks {s₀ : State} {s : State} (hk : Banks s₀ s) (b : Nat) :
    Banks s₀ (State.dropConns s b) := by
  unfold State.dropConns
  repeat' first
    | with_reducible assumption
    | with_reducible apply State.modBrim_banks

theorem State.setPort_banks {s₀ : State} {s : State} (hk : Banks s₀ s) (b st : Nat) :
    Banks s₀ (State.setPort s b st) := by
  unfold State.setPort
  repeat' first
    | with_reducible assumption
    | with_reducible apply State.modBrim_banks
    | with_reducible apply State.setFld_banks
    | with_reducible apply State.raise_banks
    | with_reducible apply State.dropConns_banks
    | lift_lets
    | (intro y; with_reducible refine Banks.cut (x := y) ?_ (fun _ => ?_); rotate_left 1; clear_value y; rotate_left 1; unfold y)
    | (intro y; clear_value y)
    | with_reducible refine Banks.ite (fun _ => ?_) (fun _ => ?_)

theorem State.closeSessions_banks {s₀ : State} {s : State} (hk : Banks s₀ s) (v : Nat) :
    Banks s₀ (State.closeSessions s v) := by
  unfold State.closeSessions
  repeat' first
    | with_reducible assumption
    | with_reducible apply State.wrDev_banks
    | with_reducible apply State.raise_banks
    | with_reducible apply State.modVc_banks
    | lift_lets
    | (intro y; with_reducible refine Banks.cut (x := y) ?_ (fun _ => ?_); rotate_left 1; clear_value y; rotate_left 1; unfold y)
    | (intro y; clear_value y)
    | with_reducible refine Banks.ite (fun _ => ?_) (fun _ => ?_)
    | (with_reducible apply Banks.upd; first | with_reducible refine Banks.foldl ?_ _ _ (fun _ _ _ => ?_))
    | split

theorem State.showGens_banks {s₀ : State} {s : State} (hk : Banks s₀ s) :
    Banks s₀ (State.showGens s) := by
  unfold State.showGens
  repeat' first
    | with_reducible assumption
    | with_reducible apply State.setFld_banks

theorem State.checkContexts_banks {s₀ : State} {s : State} (hk : Banks s₀ s) (p : Nat) :
    Banks s₀ (State.checkContexts s p) := by
  unfold State.checkContexts
  repeat' first
    | with_reducible assumption
    | with_reducible apply State.abortCtx_banks
    | with_reducible apply State.modCtx_banks
    | split
    | lift_lets
    | (intro y; clear_value y)
    | with_reducible refine Banks.ite (fun _ => ?_) (fun _ => ?_)
    | (with_reducible apply Banks.upd; first | with_reducible refine Banks.foldl ?_ _ _ (fun _ _ _ => ?_))

theorem State.moveOwners_banks {s₀ : State} {s : State} (hk : Banks s₀ s) (old : Bank) :
    Banks s₀ (State.moveOwners s old) := by
  unfold State.moveOwners
  repeat' first
    | with_reducible assumption
    | with_reducible apply State.closeSessions_banks
    | lift_lets
    | (intro y; with_reducible refine Banks.cut (x := y) ?_ (fun _ => ?_); rotate_left 1; clear_value y; rotate_left 1; unfold y)
    | (intro y; clear_value y)
    | with_reducible refine Banks.ite (fun _ => ?_) (fun _ => ?_)
    | (with_reducible apply Banks.upd; first | with_reducible assumption | with_reducible refine Banks.foldl ?_ _ _ (fun _ _ _ => ?_))

theorem State.reformSets_banks {s₀ : State} {s : State} (hk : Banks s₀ s) (old : Bank) :
    Banks s₀ (State.reformSets s old) := by
  unfold State.reformSets
  repeat' first
    | with_reducible assumption
    | with_reducible apply State.lose_banks
    | lift_lets
    | (intro y; clear_value y)
    | with_reducible refine Banks.ite (fun _ => ?_) (fun _ => ?_)
    | (with_reducible apply Banks.upd; first | with_reducible assumption | with_reducible refine Banks.foldl ?_ _ _ (fun _ _ _ => ?_))

theorem State.reformKv_banks {s₀ s : State} (hk : Banks s₀ s) (old : Bank) (p : Nat) : Banks s₀ (s.reformKv old p) := by
  unfold State.reformKv
  extract_lets new pg pool host src t kept src1 s1 s2 s3
  have ht : Banks { s with shape := { s.shape with live := old } } t := State.settleKv_banks (Banks.refl _) ..
  have h1 : Banks s₀ s1 :=
    hk.trans ⟨rfl, ht.prior, ht.pend, ht.highGen, ht.nextGen, ht.op, ht.pin, ht.slot0, ht.slot1, ht.cur⟩
  have h2 : Banks s₀ s2 := Banks.ite (fun _ => State.freeTier_banks h1 ..) (fun _ => h1)
  have h3 : Banks s₀ s3 := Banks.ite (fun _ => State.freeTier_banks h2.upd ..) (fun _ => State.wrs_banks h2 ..)
  exact Banks.ite (fun _ => hk) (fun _ => State.setFld_banks h3 ..)

theorem State.applyParts_banks {s₀ : State} {s : State} (hk : Banks s₀ s) (old : Bank) (parts : List Nat) :
    Banks s₀ (State.applyParts s old parts) := by
  unfold State.applyParts
  repeat' first
    | with_reducible assumption
    | with_reducible apply State.reformKv_banks
    | with_reducible apply State.checkContexts_banks
    | (with_reducible apply Banks.upd; first | with_reducible refine Banks.foldl ?_ _ _ (fun _ _ _ => ?_))

theorem State.applyEnables_banks {s₀ : State} {s : State} (hk : Banks s₀ s) (old : Bank) :
    Banks s₀ (State.applyEnables s old) := by
  unfold State.applyEnables
  repeat' first
    | with_reducible assumption
    | with_reducible apply State.setPort_banks
    | lift_lets
    | (intro y; clear_value y)
    | with_reducible refine Banks.ite (fun _ => ?_) (fun _ => ?_)
    | (with_reducible apply Banks.upd; first | with_reducible refine Banks.foldl ?_ _ _ (fun _ _ _ => ?_))

theorem State.applyOverrides_banks {s₀ : State} {s : State} (hk : Banks s₀ s) :
    Banks s₀ (State.applyOverrides s) := by
  unfold State.applyOverrides
  repeat' first
    | with_reducible assumption
    | with_reducible apply State.trimUnit_banks
    | with_reducible refine Banks.ite (fun _ => ?_) (fun _ => ?_)
    | (with_reducible apply Banks.upd; first | with_reducible refine Banks.foldl ?_ _ _ (fun _ _ _ => ?_))

theorem State.applyStroke_banks {s₀ : State} {s : State} (hk : Banks s₀ s) (old : Bank) :
    Banks s₀ (State.applyStroke s old) := by
  unfold State.applyStroke
  repeat' first
    | with_reducible assumption
    | with_reducible apply State.modStroke_banks
    | with_reducible apply State.refuseF_banks
    | lift_lets
    | (intro y; with_reducible refine Banks.cut (x := y) ?_ (fun _ => ?_); rotate_left 1; clear_value y; rotate_left 1; unfold y)
    | (intro y; clear_value y)
    | with_reducible refine Banks.ite (fun _ => ?_) (fun _ => ?_)

theorem State.quietStrokeOut_banks {s₀ : State} {s : State} (hk : Banks s₀ s) :
    Banks s₀ (State.quietStrokeOut s) := by
  unfold State.quietStrokeOut
  repeat' first
    | with_reducible assumption
    | with_reducible refine Banks.ite (fun _ => ?_) (fun _ => ?_)
    | (with_reducible apply Banks.upd; first | with_reducible assumption)

theorem State.holdGens_banks {s₀ : State} {s : State} (hk : Banks s₀ s) (oldGen : Nat) :
    Banks s₀ (s.holdGens oldGen) := by
  unfold State.holdGens
  exact State.setBit_banks (hk.held _) ..

theorem State.raiseApplied_banks {s₀ s : State} (hk : Banks s₀ s) : Banks s₀ s.raiseApplied :=
  hk.foldl _ _ (fun _ _ ht => Banks.ite (fun _ => ht) (fun _ => State.raise_banks ht ..))

/-- What a swap does after it has switched the banks leaves them alone (R32). -/
theorem swap_banks {s₀ s : State} (h : Banks s₀ s) (old : Bank) (gen : Nat) (parts : List Nat) (op : Nat) :
    Banks s₀ (((((((((s.showGens.moveOwners old).reformSets old).mapRetired.applyOverrides.applyParts old parts).applyEnables old).applyStroke old).quietStrokeOut.holdGens
      gen).raiseApplied.setFld shpPage Fld.SHP_STATUS_BUSY 0).setDirty).shapeDone op) :=
  State.shapeDone_banks (State.setDirty_banks (State.setFld_banks (State.raiseApplied_banks (State.holdGens_banks
    (State.quietStrokeOut_banks (State.applyStroke_banks (State.applyEnables_banks (State.applyParts_banks (State.applyOverrides_banks
      (State.mapRetired_banks (State.reformSets_banks (State.moveOwners_banks (State.showGens_banks h) ..) ..))) ..) ..) ..)) ..)) ..)) ..

end Sys2Proof.Machine
end

