-- ==== Sys2Proof/Laws/Bits.lean ====
section
/-!
SUPPORT. Bit fields and sparse maps: what a field reads after a field was written, and what a key reads after a key was put.
-/
namespace Sys2Proof.Machine

open Sys2Proof

/-- A bit of a mask. -/
theorem fieldMask_bit {hi lo : Nat} (h64 : hi < 64) (i : Nat) (hi64 : i < 64) :
    (fieldMask hi lo).getLsbD i = (decide (lo ≤ i) && decide (i ≤ hi)) := by
  simp only [fieldMask, BitVec.getLsbD_shiftLeft, BitVec.getLsbD_ushiftRight, BitVec.getLsbD_allOnes]
  by_cases h1 : i < lo
  · simp [h1] <;> omega
  · simp only [h1, hi64, decide_true, decide_false, Bool.true_and, Bool.not_false]
    by_cases h2 : i ≤ hi
    · simp [h2] <;> omega
    · simp [h2] <;> omega

/-- A field as a number, bit by bit. -/
theorem getBits_testBit (v : Word64) (hi lo i : Nat) :
    (getBits v hi lo).testBit i = (decide (i < hi + 1 - lo) && v.getLsbD (lo + i)) := by
  simp [getBits, Nat.testBit_mod_two_pow, Nat.testBit_shiftRight, BitVec.testBit_toNat]

/-- A field reads what was written to it, cut to its width. -/
theorem getBits_setBits_same (v : Word64) {hi lo : Nat} (h : lo ≤ hi) (h64 : hi < 64) (x : Nat) :
    getBits (setBits v hi lo x) hi lo = x % 2 ^ (hi + 1 - lo) := by
  apply Nat.eq_of_testBit_eq
  intro i
  rw [getBits_testBit, Nat.testBit_mod_two_pow]
  by_cases hw : i < hi + 1 - lo
  · have hl : lo + i < 64 := by omega
    simp only [hw, decide_true, Bool.true_and, setBits]
    simp only [BitVec.getLsbD_or, BitVec.getLsbD_and, BitVec.getLsbD_not, BitVec.getLsbD_shiftLeft, fieldMask_bit h64 _ hl,
      BitVec.getLsbD_ofNat]
    have : lo ≤ lo + i := by omega
    have h2 : lo + i ≤ hi := by omega
    have h3 : ¬ lo + i < lo := by omega
    have h4 : i < 64 := by omega
    simp [h2, hl, h4]
  · simp [hw]

/-- A field whose bits another field's write does not touch reads as before. -/
theorem getBits_setBits_other (v : Word64) {hi lo hi' lo' : Nat} (h64 : hi < 64) (x : Nat)
    (hd : hi < lo' ∨ hi' < lo) : getBits (setBits v hi lo x) hi' lo' = getBits v hi' lo' := by
  apply Nat.eq_of_testBit_eq
  intro i
  rw [getBits_testBit, getBits_testBit]
  by_cases hw : i < hi' + 1 - lo'
  · by_cases hl : lo' + i < 64
    · simp only [hw, decide_true, Bool.true_and, setBits]
      simp only [BitVec.getLsbD_or, BitVec.getLsbD_and, BitVec.getLsbD_not, fieldMask_bit h64 _ hl]
      have : (decide (lo ≤ lo' + i) && decide (lo' + i ≤ hi)) = false := by
        rcases hd with hd | hd <;> simp <;> omega
      simp [this, hl]
    · rw [BitVec.getLsbD_of_ge _ _ (by omega), BitVec.getLsbD_of_ge _ _ (by omega)]
  · simp [hw]

/-! ### Sparse maps -/

/-- Erasing a key leaves the others. -/
theorem SMap.get?_erase_other {α : Type} (m : SMap α) {k j : Nat} (h : j ≠ k) :
    SMap.get? (SMap.erase m k) j = SMap.get? m j := by
  induction m with
  | nil => rfl
  | cons p m ih =>
    by_cases hp : p.1 = k
    · have : SMap.erase (p :: m) k = SMap.erase m k := by simp [SMap.erase, hp]
      rw [this, ih]
      have hj : ¬ p.1 = j := by omega
      simp [SMap.get?, hj]
    · have : SMap.erase (p :: m) k = p :: SMap.erase m k := by simp [SMap.erase, hp]
      rw [this]
      by_cases hj : p.1 = j
      · simp [SMap.get?, hj]
      · simpa [SMap.get?, hj] using ih

/-- A key reads the value put there. -/
@[simp] theorem SMap.get?_put_same {α : Type} (m : SMap α) (k : Nat) (v : α) : SMap.get? (SMap.put m k v) k = some v := by
  simp [SMap.put, SMap.get?]

/-- A put leaves every other key. -/
theorem SMap.get?_put_other {α : Type} (m : SMap α) {k j : Nat} (v : α) (h : j ≠ k) :
    SMap.get? (SMap.put m k v) j = SMap.get? m j := by
  have hk : ¬ k = j := fun e => h e.symm
  rw [← SMap.get?_erase_other m h]
  simp [SMap.put, SMap.get?, hk]

/-! ### Registers -/

/-- A register reads the word set. -/
@[simp] theorem State.reg_setReg_same (s : State) (k : Nat) (v : Word64) : (s.setReg k v).reg k = v := by
  simp [State.reg, State.setReg]

/-- Setting a register leaves every other. -/
theorem State.reg_setReg_other (s : State) {k j : Nat} (v : Word64) (h : j ≠ k) : (s.setReg k v).reg j = s.reg j := by
  simp [State.reg, State.setReg, SMap.get?_put_other _ _ h]

/-- A field reads what was written to it, cut to its width. -/
theorem State.fld_setFld_same (s : State) (pg : Nat) (f : Fld) (v : Nat) (h : f.lo ≤ f.hi) (h64 : f.hi < 64) :
    (s.setFld pg f v).fld pg f = v % 2 ^ (f.hi + 1 - f.lo) := by
  simp only [State.fld, State.setFld, State.reg_setReg_same]
  exact getBits_setBits_same _ h h64 _

/-- A field of another register reads as before. -/
theorem State.fld_setFld_reg (s : State) {pg pg' : Nat} {f f' : Fld} (v : Nat) (h : regKey pg' f'.off ≠ regKey pg f.off) :
    (s.setFld pg f v).fld pg' f' = s.fld pg' f' := by
  simp only [State.fld, State.setFld, State.reg_setReg_other _ _ h]

/-- A field of the same register with no bit in common reads as before. -/
theorem State.fld_setFld_field (s : State) (pg : Nat) {f f' : Fld} (v : Nat) (ho : f'.off = f.off)
    (h64 : f.hi < 64) (hd : f.hi < f'.lo ∨ f'.hi < f.lo) : (s.setFld pg f v).fld pg f' = s.fld pg f' := by
  simp only [State.fld, State.setFld, ho, State.reg_setReg_same]
  exact getBits_setBits_other _ h64 _ hd

end Sys2Proof.Machine
end

