-- ==== Sys2Proof/Laws/State.lean ====
section
/-!
SUPPORT. One lemma per field per named update of the state: what an update leaves alone, so that no later proof unfolds a record
update.
-/
namespace Sys2Proof.Machine

open Sys2Proof

/-! ### setReg -/

@[simp] theorem State.setReg_shape (s : State) (key : Nat) (v : Word64) : (s.setReg key v).shape = s.shape := (rfl)
@[simp] theorem State.setReg_stroke (s : State) (key : Nat) (v : Word64) : (s.setReg key v).stroke = s.stroke := (rfl)
@[simp] theorem State.setReg_cal (s : State) (key : Nat) (v : Word64) : (s.setReg key v).cal = s.cal := (rfl)
@[simp] theorem State.setReg_rings (s : State) (key : Nat) (v : Word64) : (s.setReg key v).rings = s.rings := (rfl)
@[simp] theorem State.setReg_cmds (s : State) (key : Nat) (v : Word64) : (s.setReg key v).cmds = s.cmds := (rfl)
@[simp] theorem State.setReg_fetches (s : State) (key : Nat) (v : Word64) : (s.setReg key v).fetches = s.fetches := (rfl)
@[simp] theorem State.setReg_rrLast (s : State) (key : Nat) (v : Word64) : (s.setReg key v).rrLast = s.rrLast := (rfl)
@[simp] theorem State.setReg_starts (s : State) (key : Nat) (v : Word64) : (s.setReg key v).starts = s.starts := (rfl)
@[simp] theorem State.setReg_fulLast (s : State) (key : Nat) (v : Word64) : (s.setReg key v).fulLast = s.fulLast := (rfl)
@[simp] theorem State.setReg_ctxs (s : State) (key : Nat) (v : Word64) : (s.setReg key v).ctxs = s.ctxs := (rfl)
@[simp] theorem State.setReg_parts (s : State) (key : Nat) (v : Word64) : (s.setReg key v).parts = s.parts := (rfl)
@[simp] theorem State.setReg_chans (s : State) (key : Nat) (v : Word64) : (s.setReg key v).chans = s.chans := (rfl)
@[simp] theorem State.setReg_stks (s : State) (key : Nat) (v : Word64) : (s.setReg key v).stks = s.stks := (rfl)
@[simp] theorem State.setReg_vcs (s : State) (key : Nat) (v : Word64) : (s.setReg key v).vcs = s.vcs := (rfl)
@[simp] theorem State.setReg_kvMoves (s : State) (key : Nat) (v : Word64) : (s.setReg key v).kvMoves = s.kvMoves := (rfl)
@[simp] theorem State.setReg_kvLimbo (s : State) (key : Nat) (v : Word64) : (s.setReg key v).kvLimbo = s.kvLimbo := (rfl)
@[simp] theorem State.setReg_kvParked (s : State) (key : Nat) (v : Word64) : (s.setReg key v).kvParked = s.kvParked := (rfl)
@[simp] theorem State.setReg_frames (s : State) (key : Nat) (v : Word64) : (s.setReg key v).frames = s.frames := (rfl)
@[simp] theorem State.setReg_trim (s : State) (key : Nat) (v : Word64) : (s.setReg key v).trim = s.trim := (rfl)
@[simp] theorem State.setReg_pkgOuts (s : State) (key : Nat) (v : Word64) : (s.setReg key v).pkgOuts = s.pkgOuts := (rfl)
@[simp] theorem State.setReg_failed (s : State) (key : Nat) (v : Word64) : (s.setReg key v).failed = s.failed := (rfl)
@[simp] theorem State.setReg_knownBad (s : State) (key : Nat) (v : Word64) : (s.setReg key v).knownBad = s.knownBad := (rfl)
@[simp] theorem State.setReg_nvmKnownBad (s : State) (key : Nat) (v : Word64) : (s.setReg key v).nvmKnownBad = s.nvmKnownBad := (rfl)
@[simp] theorem State.setReg_recalWindow (s : State) (key : Nat) (v : Word64) : (s.setReg key v).recalWindow = s.recalWindow := (rfl)
@[simp] theorem State.setReg_pwr (s : State) (key : Nat) (v : Word64) : (s.setReg key v).pwr = s.pwr := (rfl)
@[simp] theorem State.setReg_errs (s : State) (key : Nat) (v : Word64) : (s.setReg key v).errs = s.errs := (rfl)
@[simp] theorem State.setReg_mem (s : State) (key : Nat) (v : Word64) : (s.setReg key v).mem = s.mem := (rfl)
@[simp] theorem State.setReg_lost (s : State) (key : Nat) (v : Word64) : (s.setReg key v).lost = s.lost := (rfl)
@[simp] theorem State.setReg_zeroed (s : State) (key : Nat) (v : Word64) : (s.setReg key v).zeroed = s.zeroed := (rfl)
@[simp] theorem State.setReg_bad (s : State) (key : Nat) (v : Word64) : (s.setReg key v).bad = s.bad := (rfl)
@[simp] theorem State.setReg_weak (s : State) (key : Nat) (v : Word64) : (s.setReg key v).weak = s.weak := (rfl)
@[simp] theorem State.setReg_host (s : State) (key : Nat) (v : Word64) : (s.setReg key v).host = s.host := (rfl)
@[simp] theorem State.setReg_hostFaults (s : State) (key : Nat) (v : Word64) : (s.setReg key v).hostFaults = s.hostFaults := (rfl)
@[simp] theorem State.setReg_sec (s : State) (key : Nat) (v : Word64) : (s.setReg key v).sec = s.sec := (rfl)
@[simp] theorem State.setReg_hps (s : State) (key : Nat) (v : Word64) : (s.setReg key v).hps = s.hps := (rfl)
@[simp] theorem State.setReg_rwt (s : State) (key : Nat) (v : Word64) : (s.setReg key v).rwt = s.rwt := (rfl)
@[simp] theorem State.setReg_brim (s : State) (key : Nat) (v : Word64) : (s.setReg key v).brim = s.brim := (rfl)
@[simp] theorem State.setReg_tcs (s : State) (key : Nat) (v : Word64) : (s.setReg key v).tcs = s.tcs := (rfl)
@[simp] theorem State.setReg_pins (s : State) (key : Nat) (v : Word64) : (s.setReg key v).pins = s.pins := (rfl)
@[simp] theorem State.setReg_out (s : State) (key : Nat) (v : Word64) : (s.setReg key v).out = s.out := (rfl)
@[simp] theorem State.setReg_draws (s : State) (key : Nat) (v : Word64) : (s.setReg key v).draws = s.draws := (rfl)
@[simp] theorem State.setReg_pending (s : State) (key : Nat) (v : Word64) : (s.setReg key v).pending = s.pending := (rfl)

/-! ### setFld -/

@[simp] theorem State.setFld_shape (s : State) (pg : Nat) (f : Fld) (v : Nat) : (s.setFld pg f v).shape = s.shape := (rfl)
@[simp] theorem State.setFld_stroke (s : State) (pg : Nat) (f : Fld) (v : Nat) : (s.setFld pg f v).stroke = s.stroke := (rfl)
@[simp] theorem State.setFld_cal (s : State) (pg : Nat) (f : Fld) (v : Nat) : (s.setFld pg f v).cal = s.cal := (rfl)
@[simp] theorem State.setFld_rings (s : State) (pg : Nat) (f : Fld) (v : Nat) : (s.setFld pg f v).rings = s.rings := (rfl)
@[simp] theorem State.setFld_cmds (s : State) (pg : Nat) (f : Fld) (v : Nat) : (s.setFld pg f v).cmds = s.cmds := (rfl)
@[simp] theorem State.setFld_fetches (s : State) (pg : Nat) (f : Fld) (v : Nat) : (s.setFld pg f v).fetches = s.fetches := (rfl)
@[simp] theorem State.setFld_rrLast (s : State) (pg : Nat) (f : Fld) (v : Nat) : (s.setFld pg f v).rrLast = s.rrLast := (rfl)
@[simp] theorem State.setFld_starts (s : State) (pg : Nat) (f : Fld) (v : Nat) : (s.setFld pg f v).starts = s.starts := (rfl)
@[simp] theorem State.setFld_fulLast (s : State) (pg : Nat) (f : Fld) (v : Nat) : (s.setFld pg f v).fulLast = s.fulLast := (rfl)
@[simp] theorem State.setFld_ctxs (s : State) (pg : Nat) (f : Fld) (v : Nat) : (s.setFld pg f v).ctxs = s.ctxs := (rfl)
@[simp] theorem State.setFld_parts (s : State) (pg : Nat) (f : Fld) (v : Nat) : (s.setFld pg f v).parts = s.parts := (rfl)
@[simp] theorem State.setFld_chans (s : State) (pg : Nat) (f : Fld) (v : Nat) : (s.setFld pg f v).chans = s.chans := (rfl)
@[simp] theorem State.setFld_stks (s : State) (pg : Nat) (f : Fld) (v : Nat) : (s.setFld pg f v).stks = s.stks := (rfl)
@[simp] theorem State.setFld_vcs (s : State) (pg : Nat) (f : Fld) (v : Nat) : (s.setFld pg f v).vcs = s.vcs := (rfl)
@[simp] theorem State.setFld_kvMoves (s : State) (pg : Nat) (f : Fld) (v : Nat) : (s.setFld pg f v).kvMoves = s.kvMoves := (rfl)
@[simp] theorem State.setFld_kvLimbo (s : State) (pg : Nat) (f : Fld) (v : Nat) : (s.setFld pg f v).kvLimbo = s.kvLimbo := (rfl)
@[simp] theorem State.setFld_kvParked (s : State) (pg : Nat) (f : Fld) (v : Nat) : (s.setFld pg f v).kvParked = s.kvParked := (rfl)
@[simp] theorem State.setFld_frames (s : State) (pg : Nat) (f : Fld) (v : Nat) : (s.setFld pg f v).frames = s.frames := (rfl)
@[simp] theorem State.setFld_trim (s : State) (pg : Nat) (f : Fld) (v : Nat) : (s.setFld pg f v).trim = s.trim := (rfl)
@[simp] theorem State.setFld_pkgOuts (s : State) (pg : Nat) (f : Fld) (v : Nat) : (s.setFld pg f v).pkgOuts = s.pkgOuts := (rfl)
@[simp] theorem State.setFld_failed (s : State) (pg : Nat) (f : Fld) (v : Nat) : (s.setFld pg f v).failed = s.failed := (rfl)
@[simp] theorem State.setFld_knownBad (s : State) (pg : Nat) (f : Fld) (v : Nat) : (s.setFld pg f v).knownBad = s.knownBad := (rfl)
@[simp] theorem State.setFld_nvmKnownBad (s : State) (pg : Nat) (f : Fld) (v : Nat) : (s.setFld pg f v).nvmKnownBad = s.nvmKnownBad := (rfl)
@[simp] theorem State.setFld_recalWindow (s : State) (pg : Nat) (f : Fld) (v : Nat) : (s.setFld pg f v).recalWindow = s.recalWindow := (rfl)
@[simp] theorem State.setFld_pwr (s : State) (pg : Nat) (f : Fld) (v : Nat) : (s.setFld pg f v).pwr = s.pwr := (rfl)
@[simp] theorem State.setFld_errs (s : State) (pg : Nat) (f : Fld) (v : Nat) : (s.setFld pg f v).errs = s.errs := (rfl)
@[simp] theorem State.setFld_mem (s : State) (pg : Nat) (f : Fld) (v : Nat) : (s.setFld pg f v).mem = s.mem := (rfl)
@[simp] theorem State.setFld_lost (s : State) (pg : Nat) (f : Fld) (v : Nat) : (s.setFld pg f v).lost = s.lost := (rfl)
@[simp] theorem State.setFld_zeroed (s : State) (pg : Nat) (f : Fld) (v : Nat) : (s.setFld pg f v).zeroed = s.zeroed := (rfl)
@[simp] theorem State.setFld_bad (s : State) (pg : Nat) (f : Fld) (v : Nat) : (s.setFld pg f v).bad = s.bad := (rfl)
@[simp] theorem State.setFld_weak (s : State) (pg : Nat) (f : Fld) (v : Nat) : (s.setFld pg f v).weak = s.weak := (rfl)
@[simp] theorem State.setFld_host (s : State) (pg : Nat) (f : Fld) (v : Nat) : (s.setFld pg f v).host = s.host := (rfl)
@[simp] theorem State.setFld_hostFaults (s : State) (pg : Nat) (f : Fld) (v : Nat) : (s.setFld pg f v).hostFaults = s.hostFaults := (rfl)
@[simp] theorem State.setFld_sec (s : State) (pg : Nat) (f : Fld) (v : Nat) : (s.setFld pg f v).sec = s.sec := (rfl)
@[simp] theorem State.setFld_hps (s : State) (pg : Nat) (f : Fld) (v : Nat) : (s.setFld pg f v).hps = s.hps := (rfl)
@[simp] theorem State.setFld_rwt (s : State) (pg : Nat) (f : Fld) (v : Nat) : (s.setFld pg f v).rwt = s.rwt := (rfl)
@[simp] theorem State.setFld_brim (s : State) (pg : Nat) (f : Fld) (v : Nat) : (s.setFld pg f v).brim = s.brim := (rfl)
@[simp] theorem State.setFld_tcs (s : State) (pg : Nat) (f : Fld) (v : Nat) : (s.setFld pg f v).tcs = s.tcs := (rfl)
@[simp] theorem State.setFld_pins (s : State) (pg : Nat) (f : Fld) (v : Nat) : (s.setFld pg f v).pins = s.pins := (rfl)
@[simp] theorem State.setFld_out (s : State) (pg : Nat) (f : Fld) (v : Nat) : (s.setFld pg f v).out = s.out := (rfl)
@[simp] theorem State.setFld_draws (s : State) (pg : Nat) (f : Fld) (v : Nat) : (s.setFld pg f v).draws = s.draws := (rfl)
@[simp] theorem State.setFld_pending (s : State) (pg : Nat) (f : Fld) (v : Nat) : (s.setFld pg f v).pending = s.pending := (rfl)

/-! ### addFld -/

@[simp] theorem State.addFld_shape (s : State) (pg : Nat) (f : Fld) (k : Nat) : (s.addFld pg f k).shape = s.shape := (rfl)
@[simp] theorem State.addFld_stroke (s : State) (pg : Nat) (f : Fld) (k : Nat) : (s.addFld pg f k).stroke = s.stroke := (rfl)
@[simp] theorem State.addFld_cal (s : State) (pg : Nat) (f : Fld) (k : Nat) : (s.addFld pg f k).cal = s.cal := (rfl)
@[simp] theorem State.addFld_rings (s : State) (pg : Nat) (f : Fld) (k : Nat) : (s.addFld pg f k).rings = s.rings := (rfl)
@[simp] theorem State.addFld_cmds (s : State) (pg : Nat) (f : Fld) (k : Nat) : (s.addFld pg f k).cmds = s.cmds := (rfl)
@[simp] theorem State.addFld_fetches (s : State) (pg : Nat) (f : Fld) (k : Nat) : (s.addFld pg f k).fetches = s.fetches := (rfl)
@[simp] theorem State.addFld_rrLast (s : State) (pg : Nat) (f : Fld) (k : Nat) : (s.addFld pg f k).rrLast = s.rrLast := (rfl)
@[simp] theorem State.addFld_starts (s : State) (pg : Nat) (f : Fld) (k : Nat) : (s.addFld pg f k).starts = s.starts := (rfl)
@[simp] theorem State.addFld_fulLast (s : State) (pg : Nat) (f : Fld) (k : Nat) : (s.addFld pg f k).fulLast = s.fulLast := (rfl)
@[simp] theorem State.addFld_ctxs (s : State) (pg : Nat) (f : Fld) (k : Nat) : (s.addFld pg f k).ctxs = s.ctxs := (rfl)
@[simp] theorem State.addFld_parts (s : State) (pg : Nat) (f : Fld) (k : Nat) : (s.addFld pg f k).parts = s.parts := (rfl)
@[simp] theorem State.addFld_chans (s : State) (pg : Nat) (f : Fld) (k : Nat) : (s.addFld pg f k).chans = s.chans := (rfl)
@[simp] theorem State.addFld_stks (s : State) (pg : Nat) (f : Fld) (k : Nat) : (s.addFld pg f k).stks = s.stks := (rfl)
@[simp] theorem State.addFld_vcs (s : State) (pg : Nat) (f : Fld) (k : Nat) : (s.addFld pg f k).vcs = s.vcs := (rfl)
@[simp] theorem State.addFld_kvMoves (s : State) (pg : Nat) (f : Fld) (k : Nat) : (s.addFld pg f k).kvMoves = s.kvMoves := (rfl)
@[simp] theorem State.addFld_kvLimbo (s : State) (pg : Nat) (f : Fld) (k : Nat) : (s.addFld pg f k).kvLimbo = s.kvLimbo := (rfl)
@[simp] theorem State.addFld_kvParked (s : State) (pg : Nat) (f : Fld) (k : Nat) : (s.addFld pg f k).kvParked = s.kvParked := (rfl)
@[simp] theorem State.addFld_frames (s : State) (pg : Nat) (f : Fld) (k : Nat) : (s.addFld pg f k).frames = s.frames := (rfl)
@[simp] theorem State.addFld_trim (s : State) (pg : Nat) (f : Fld) (k : Nat) : (s.addFld pg f k).trim = s.trim := (rfl)
@[simp] theorem State.addFld_pkgOuts (s : State) (pg : Nat) (f : Fld) (k : Nat) : (s.addFld pg f k).pkgOuts = s.pkgOuts := (rfl)
@[simp] theorem State.addFld_failed (s : State) (pg : Nat) (f : Fld) (k : Nat) : (s.addFld pg f k).failed = s.failed := (rfl)
@[simp] theorem State.addFld_knownBad (s : State) (pg : Nat) (f : Fld) (k : Nat) : (s.addFld pg f k).knownBad = s.knownBad := (rfl)
@[simp] theorem State.addFld_nvmKnownBad (s : State) (pg : Nat) (f : Fld) (k : Nat) : (s.addFld pg f k).nvmKnownBad = s.nvmKnownBad := (rfl)
@[simp] theorem State.addFld_recalWindow (s : State) (pg : Nat) (f : Fld) (k : Nat) : (s.addFld pg f k).recalWindow = s.recalWindow := (rfl)
@[simp] theorem State.addFld_pwr (s : State) (pg : Nat) (f : Fld) (k : Nat) : (s.addFld pg f k).pwr = s.pwr := (rfl)
@[simp] theorem State.addFld_errs (s : State) (pg : Nat) (f : Fld) (k : Nat) : (s.addFld pg f k).errs = s.errs := (rfl)
@[simp] theorem State.addFld_mem (s : State) (pg : Nat) (f : Fld) (k : Nat) : (s.addFld pg f k).mem = s.mem := (rfl)
@[simp] theorem State.addFld_lost (s : State) (pg : Nat) (f : Fld) (k : Nat) : (s.addFld pg f k).lost = s.lost := (rfl)
@[simp] theorem State.addFld_zeroed (s : State) (pg : Nat) (f : Fld) (k : Nat) : (s.addFld pg f k).zeroed = s.zeroed := (rfl)
@[simp] theorem State.addFld_bad (s : State) (pg : Nat) (f : Fld) (k : Nat) : (s.addFld pg f k).bad = s.bad := (rfl)
@[simp] theorem State.addFld_weak (s : State) (pg : Nat) (f : Fld) (k : Nat) : (s.addFld pg f k).weak = s.weak := (rfl)
@[simp] theorem State.addFld_host (s : State) (pg : Nat) (f : Fld) (k : Nat) : (s.addFld pg f k).host = s.host := (rfl)
@[simp] theorem State.addFld_hostFaults (s : State) (pg : Nat) (f : Fld) (k : Nat) : (s.addFld pg f k).hostFaults = s.hostFaults := (rfl)
@[simp] theorem State.addFld_sec (s : State) (pg : Nat) (f : Fld) (k : Nat) : (s.addFld pg f k).sec = s.sec := (rfl)
@[simp] theorem State.addFld_hps (s : State) (pg : Nat) (f : Fld) (k : Nat) : (s.addFld pg f k).hps = s.hps := (rfl)
@[simp] theorem State.addFld_rwt (s : State) (pg : Nat) (f : Fld) (k : Nat) : (s.addFld pg f k).rwt = s.rwt := (rfl)
@[simp] theorem State.addFld_brim (s : State) (pg : Nat) (f : Fld) (k : Nat) : (s.addFld pg f k).brim = s.brim := (rfl)
@[simp] theorem State.addFld_tcs (s : State) (pg : Nat) (f : Fld) (k : Nat) : (s.addFld pg f k).tcs = s.tcs := (rfl)
@[simp] theorem State.addFld_pins (s : State) (pg : Nat) (f : Fld) (k : Nat) : (s.addFld pg f k).pins = s.pins := (rfl)
@[simp] theorem State.addFld_out (s : State) (pg : Nat) (f : Fld) (k : Nat) : (s.addFld pg f k).out = s.out := (rfl)
@[simp] theorem State.addFld_draws (s : State) (pg : Nat) (f : Fld) (k : Nat) : (s.addFld pg f k).draws = s.draws := (rfl)
@[simp] theorem State.addFld_pending (s : State) (pg : Nat) (f : Fld) (k : Nat) : (s.addFld pg f k).pending = s.pending := (rfl)

/-! ### setBit -/

@[simp] theorem State.setBit_shape (s : State) (pg : Nat) (f : Fld) (b : Bool) : (s.setBit pg f b).shape = s.shape := (rfl)
@[simp] theorem State.setBit_stroke (s : State) (pg : Nat) (f : Fld) (b : Bool) : (s.setBit pg f b).stroke = s.stroke := (rfl)
@[simp] theorem State.setBit_cal (s : State) (pg : Nat) (f : Fld) (b : Bool) : (s.setBit pg f b).cal = s.cal := (rfl)
@[simp] theorem State.setBit_rings (s : State) (pg : Nat) (f : Fld) (b : Bool) : (s.setBit pg f b).rings = s.rings := (rfl)
@[simp] theorem State.setBit_cmds (s : State) (pg : Nat) (f : Fld) (b : Bool) : (s.setBit pg f b).cmds = s.cmds := (rfl)
@[simp] theorem State.setBit_fetches (s : State) (pg : Nat) (f : Fld) (b : Bool) : (s.setBit pg f b).fetches = s.fetches := (rfl)
@[simp] theorem State.setBit_rrLast (s : State) (pg : Nat) (f : Fld) (b : Bool) : (s.setBit pg f b).rrLast = s.rrLast := (rfl)
@[simp] theorem State.setBit_starts (s : State) (pg : Nat) (f : Fld) (b : Bool) : (s.setBit pg f b).starts = s.starts := (rfl)
@[simp] theorem State.setBit_fulLast (s : State) (pg : Nat) (f : Fld) (b : Bool) : (s.setBit pg f b).fulLast = s.fulLast := (rfl)
@[simp] theorem State.setBit_ctxs (s : State) (pg : Nat) (f : Fld) (b : Bool) : (s.setBit pg f b).ctxs = s.ctxs := (rfl)
@[simp] theorem State.setBit_parts (s : State) (pg : Nat) (f : Fld) (b : Bool) : (s.setBit pg f b).parts = s.parts := (rfl)
@[simp] theorem State.setBit_chans (s : State) (pg : Nat) (f : Fld) (b : Bool) : (s.setBit pg f b).chans = s.chans := (rfl)
@[simp] theorem State.setBit_stks (s : State) (pg : Nat) (f : Fld) (b : Bool) : (s.setBit pg f b).stks = s.stks := (rfl)
@[simp] theorem State.setBit_vcs (s : State) (pg : Nat) (f : Fld) (b : Bool) : (s.setBit pg f b).vcs = s.vcs := (rfl)
@[simp] theorem State.setBit_kvMoves (s : State) (pg : Nat) (f : Fld) (b : Bool) : (s.setBit pg f b).kvMoves = s.kvMoves := (rfl)
@[simp] theorem State.setBit_kvLimbo (s : State) (pg : Nat) (f : Fld) (b : Bool) : (s.setBit pg f b).kvLimbo = s.kvLimbo := (rfl)
@[simp] theorem State.setBit_kvParked (s : State) (pg : Nat) (f : Fld) (b : Bool) : (s.setBit pg f b).kvParked = s.kvParked := (rfl)
@[simp] theorem State.setBit_frames (s : State) (pg : Nat) (f : Fld) (b : Bool) : (s.setBit pg f b).frames = s.frames := (rfl)
@[simp] theorem State.setBit_trim (s : State) (pg : Nat) (f : Fld) (b : Bool) : (s.setBit pg f b).trim = s.trim := (rfl)
@[simp] theorem State.setBit_pkgOuts (s : State) (pg : Nat) (f : Fld) (b : Bool) : (s.setBit pg f b).pkgOuts = s.pkgOuts := (rfl)
@[simp] theorem State.setBit_failed (s : State) (pg : Nat) (f : Fld) (b : Bool) : (s.setBit pg f b).failed = s.failed := (rfl)
@[simp] theorem State.setBit_knownBad (s : State) (pg : Nat) (f : Fld) (b : Bool) : (s.setBit pg f b).knownBad = s.knownBad := (rfl)
@[simp] theorem State.setBit_nvmKnownBad (s : State) (pg : Nat) (f : Fld) (b : Bool) : (s.setBit pg f b).nvmKnownBad = s.nvmKnownBad := (rfl)
@[simp] theorem State.setBit_recalWindow (s : State) (pg : Nat) (f : Fld) (b : Bool) : (s.setBit pg f b).recalWindow = s.recalWindow := (rfl)
@[simp] theorem State.setBit_pwr (s : State) (pg : Nat) (f : Fld) (b : Bool) : (s.setBit pg f b).pwr = s.pwr := (rfl)
@[simp] theorem State.setBit_errs (s : State) (pg : Nat) (f : Fld) (b : Bool) : (s.setBit pg f b).errs = s.errs := (rfl)
@[simp] theorem State.setBit_mem (s : State) (pg : Nat) (f : Fld) (b : Bool) : (s.setBit pg f b).mem = s.mem := (rfl)
@[simp] theorem State.setBit_lost (s : State) (pg : Nat) (f : Fld) (b : Bool) : (s.setBit pg f b).lost = s.lost := (rfl)
@[simp] theorem State.setBit_zeroed (s : State) (pg : Nat) (f : Fld) (b : Bool) : (s.setBit pg f b).zeroed = s.zeroed := (rfl)
@[simp] theorem State.setBit_bad (s : State) (pg : Nat) (f : Fld) (b : Bool) : (s.setBit pg f b).bad = s.bad := (rfl)
@[simp] theorem State.setBit_weak (s : State) (pg : Nat) (f : Fld) (b : Bool) : (s.setBit pg f b).weak = s.weak := (rfl)
@[simp] theorem State.setBit_host (s : State) (pg : Nat) (f : Fld) (b : Bool) : (s.setBit pg f b).host = s.host := (rfl)
@[simp] theorem State.setBit_hostFaults (s : State) (pg : Nat) (f : Fld) (b : Bool) : (s.setBit pg f b).hostFaults = s.hostFaults := (rfl)
@[simp] theorem State.setBit_sec (s : State) (pg : Nat) (f : Fld) (b : Bool) : (s.setBit pg f b).sec = s.sec := (rfl)
@[simp] theorem State.setBit_hps (s : State) (pg : Nat) (f : Fld) (b : Bool) : (s.setBit pg f b).hps = s.hps := (rfl)
@[simp] theorem State.setBit_rwt (s : State) (pg : Nat) (f : Fld) (b : Bool) : (s.setBit pg f b).rwt = s.rwt := (rfl)
@[simp] theorem State.setBit_brim (s : State) (pg : Nat) (f : Fld) (b : Bool) : (s.setBit pg f b).brim = s.brim := (rfl)
@[simp] theorem State.setBit_tcs (s : State) (pg : Nat) (f : Fld) (b : Bool) : (s.setBit pg f b).tcs = s.tcs := (rfl)
@[simp] theorem State.setBit_pins (s : State) (pg : Nat) (f : Fld) (b : Bool) : (s.setBit pg f b).pins = s.pins := (rfl)
@[simp] theorem State.setBit_out (s : State) (pg : Nat) (f : Fld) (b : Bool) : (s.setBit pg f b).out = s.out := (rfl)
@[simp] theorem State.setBit_draws (s : State) (pg : Nat) (f : Fld) (b : Bool) : (s.setBit pg f b).draws = s.draws := (rfl)
@[simp] theorem State.setBit_pending (s : State) (pg : Nat) (f : Fld) (b : Bool) : (s.setBit pg f b).pending = s.pending := (rfl)

/-! ### emit -/

@[simp] theorem State.emit_regs (s : State) (o : Out) : (s.emit o).regs = s.regs := (rfl)
@[simp] theorem State.emit_shape (s : State) (o : Out) : (s.emit o).shape = s.shape := (rfl)
@[simp] theorem State.emit_stroke (s : State) (o : Out) : (s.emit o).stroke = s.stroke := (rfl)
@[simp] theorem State.emit_cal (s : State) (o : Out) : (s.emit o).cal = s.cal := (rfl)
@[simp] theorem State.emit_rings (s : State) (o : Out) : (s.emit o).rings = s.rings := (rfl)
@[simp] theorem State.emit_cmds (s : State) (o : Out) : (s.emit o).cmds = s.cmds := (rfl)
@[simp] theorem State.emit_fetches (s : State) (o : Out) : (s.emit o).fetches = s.fetches := (rfl)
@[simp] theorem State.emit_rrLast (s : State) (o : Out) : (s.emit o).rrLast = s.rrLast := (rfl)
@[simp] theorem State.emit_starts (s : State) (o : Out) : (s.emit o).starts = s.starts := (rfl)
@[simp] theorem State.emit_fulLast (s : State) (o : Out) : (s.emit o).fulLast = s.fulLast := (rfl)
@[simp] theorem State.emit_ctxs (s : State) (o : Out) : (s.emit o).ctxs = s.ctxs := (rfl)
@[simp] theorem State.emit_parts (s : State) (o : Out) : (s.emit o).parts = s.parts := (rfl)
@[simp] theorem State.emit_chans (s : State) (o : Out) : (s.emit o).chans = s.chans := (rfl)
@[simp] theorem State.emit_stks (s : State) (o : Out) : (s.emit o).stks = s.stks := (rfl)
@[simp] theorem State.emit_vcs (s : State) (o : Out) : (s.emit o).vcs = s.vcs := (rfl)
@[simp] theorem State.emit_kvMoves (s : State) (o : Out) : (s.emit o).kvMoves = s.kvMoves := (rfl)
@[simp] theorem State.emit_kvLimbo (s : State) (o : Out) : (s.emit o).kvLimbo = s.kvLimbo := (rfl)
@[simp] theorem State.emit_kvParked (s : State) (o : Out) : (s.emit o).kvParked = s.kvParked := (rfl)
@[simp] theorem State.emit_frames (s : State) (o : Out) : (s.emit o).frames = s.frames := (rfl)
@[simp] theorem State.emit_trim (s : State) (o : Out) : (s.emit o).trim = s.trim := (rfl)
@[simp] theorem State.emit_pkgOuts (s : State) (o : Out) : (s.emit o).pkgOuts = s.pkgOuts := (rfl)
@[simp] theorem State.emit_failed (s : State) (o : Out) : (s.emit o).failed = s.failed := (rfl)
@[simp] theorem State.emit_knownBad (s : State) (o : Out) : (s.emit o).knownBad = s.knownBad := (rfl)
@[simp] theorem State.emit_nvmKnownBad (s : State) (o : Out) : (s.emit o).nvmKnownBad = s.nvmKnownBad := (rfl)
@[simp] theorem State.emit_recalWindow (s : State) (o : Out) : (s.emit o).recalWindow = s.recalWindow := (rfl)
@[simp] theorem State.emit_pwr (s : State) (o : Out) : (s.emit o).pwr = s.pwr := (rfl)
@[simp] theorem State.emit_errs (s : State) (o : Out) : (s.emit o).errs = s.errs := (rfl)
@[simp] theorem State.emit_mem (s : State) (o : Out) : (s.emit o).mem = s.mem := (rfl)
@[simp] theorem State.emit_lost (s : State) (o : Out) : (s.emit o).lost = s.lost := (rfl)
@[simp] theorem State.emit_zeroed (s : State) (o : Out) : (s.emit o).zeroed = s.zeroed := (rfl)
@[simp] theorem State.emit_bad (s : State) (o : Out) : (s.emit o).bad = s.bad := (rfl)
@[simp] theorem State.emit_weak (s : State) (o : Out) : (s.emit o).weak = s.weak := (rfl)
@[simp] theorem State.emit_host (s : State) (o : Out) : (s.emit o).host = s.host := (rfl)
@[simp] theorem State.emit_hostFaults (s : State) (o : Out) : (s.emit o).hostFaults = s.hostFaults := (rfl)
@[simp] theorem State.emit_sec (s : State) (o : Out) : (s.emit o).sec = s.sec := (rfl)
@[simp] theorem State.emit_hps (s : State) (o : Out) : (s.emit o).hps = s.hps := (rfl)
@[simp] theorem State.emit_rwt (s : State) (o : Out) : (s.emit o).rwt = s.rwt := (rfl)
@[simp] theorem State.emit_brim (s : State) (o : Out) : (s.emit o).brim = s.brim := (rfl)
@[simp] theorem State.emit_tcs (s : State) (o : Out) : (s.emit o).tcs = s.tcs := (rfl)
@[simp] theorem State.emit_pins (s : State) (o : Out) : (s.emit o).pins = s.pins := (rfl)
@[simp] theorem State.emit_draws (s : State) (o : Out) : (s.emit o).draws = s.draws := (rfl)
@[simp] theorem State.emit_pending (s : State) (o : Out) : (s.emit o).pending = s.pending := (rfl)
@[simp] theorem State.emit_reg (s : State) (o : Out) (j : Nat) : (s.emit o).reg j = s.reg j := (rfl)
@[simp] theorem State.emit_fld (s : State) (o : Out) (gp : Nat) (fl : Fld) : (s.emit o).fld gp fl = s.fld gp fl := (rfl)

/-! ### raise -/

@[simp] theorem State.raise_shape (s : State) (pg bit : Nat) : (s.raise pg bit).shape = s.shape := by
  simp only [State.raise]; split <;> rfl
@[simp] theorem State.raise_stroke (s : State) (pg bit : Nat) : (s.raise pg bit).stroke = s.stroke := by
  simp only [State.raise]; split <;> rfl
@[simp] theorem State.raise_cal (s : State) (pg bit : Nat) : (s.raise pg bit).cal = s.cal := by
  simp only [State.raise]; split <;> rfl
@[simp] theorem State.raise_rings (s : State) (pg bit : Nat) : (s.raise pg bit).rings = s.rings := by
  simp only [State.raise]; split <;> rfl
@[simp] theorem State.raise_cmds (s : State) (pg bit : Nat) : (s.raise pg bit).cmds = s.cmds := by
  simp only [State.raise]; split <;> rfl
@[simp] theorem State.raise_fetches (s : State) (pg bit : Nat) : (s.raise pg bit).fetches = s.fetches := by
  simp only [State.raise]; split <;> rfl
@[simp] theorem State.raise_rrLast (s : State) (pg bit : Nat) : (s.raise pg bit).rrLast = s.rrLast := by
  simp only [State.raise]; split <;> rfl
@[simp] theorem State.raise_starts (s : State) (pg bit : Nat) : (s.raise pg bit).starts = s.starts := by
  simp only [State.raise]; split <;> rfl
@[simp] theorem State.raise_fulLast (s : State) (pg bit : Nat) : (s.raise pg bit).fulLast = s.fulLast := by
  simp only [State.raise]; split <;> rfl
@[simp] theorem State.raise_ctxs (s : State) (pg bit : Nat) : (s.raise pg bit).ctxs = s.ctxs := by
  simp only [State.raise]; split <;> rfl
@[simp] theorem State.raise_parts (s : State) (pg bit : Nat) : (s.raise pg bit).parts = s.parts := by
  simp only [State.raise]; split <;> rfl
@[simp] theorem State.raise_chans (s : State) (pg bit : Nat) : (s.raise pg bit).chans = s.chans := by
  simp only [State.raise]; split <;> rfl
@[simp] theorem State.raise_stks (s : State) (pg bit : Nat) : (s.raise pg bit).stks = s.stks := by
  simp only [State.raise]; split <;> rfl
@[simp] theorem State.raise_vcs (s : State) (pg bit : Nat) : (s.raise pg bit).vcs = s.vcs := by
  simp only [State.raise]; split <;> rfl
@[simp] theorem State.raise_kvMoves (s : State) (pg bit : Nat) : (s.raise pg bit).kvMoves = s.kvMoves := by
  simp only [State.raise]; split <;> rfl
@[simp] theorem State.raise_kvLimbo (s : State) (pg bit : Nat) : (s.raise pg bit).kvLimbo = s.kvLimbo := by
  simp only [State.raise]; split <;> rfl
@[simp] theorem State.raise_kvParked (s : State) (pg bit : Nat) : (s.raise pg bit).kvParked = s.kvParked := by
  simp only [State.raise]; split <;> rfl
@[simp] theorem State.raise_frames (s : State) (pg bit : Nat) : (s.raise pg bit).frames = s.frames := by
  simp only [State.raise]; split <;> rfl
@[simp] theorem State.raise_trim (s : State) (pg bit : Nat) : (s.raise pg bit).trim = s.trim := by
  simp only [State.raise]; split <;> rfl
@[simp] theorem State.raise_pkgOuts (s : State) (pg bit : Nat) : (s.raise pg bit).pkgOuts = s.pkgOuts := by
  simp only [State.raise]; split <;> rfl
@[simp] theorem State.raise_failed (s : State) (pg bit : Nat) : (s.raise pg bit).failed = s.failed := by
  simp only [State.raise]; split <;> rfl
@[simp] theorem State.raise_knownBad (s : State) (pg bit : Nat) : (s.raise pg bit).knownBad = s.knownBad := by
  simp only [State.raise]; split <;> rfl
@[simp] theorem State.raise_nvmKnownBad (s : State) (pg bit : Nat) : (s.raise pg bit).nvmKnownBad = s.nvmKnownBad := by
  simp only [State.raise]; split <;> rfl
@[simp] theorem State.raise_recalWindow (s : State) (pg bit : Nat) : (s.raise pg bit).recalWindow = s.recalWindow := by
  simp only [State.raise]; split <;> rfl
@[simp] theorem State.raise_pwr (s : State) (pg bit : Nat) : (s.raise pg bit).pwr = s.pwr := by
  simp only [State.raise]; split <;> rfl
@[simp] theorem State.raise_errs (s : State) (pg bit : Nat) : (s.raise pg bit).errs = s.errs := by
  simp only [State.raise]; split <;> rfl
@[simp] theorem State.raise_mem (s : State) (pg bit : Nat) : (s.raise pg bit).mem = s.mem := by
  simp only [State.raise]; split <;> rfl
@[simp] theorem State.raise_lost (s : State) (pg bit : Nat) : (s.raise pg bit).lost = s.lost := by
  simp only [State.raise]; split <;> rfl
@[simp] theorem State.raise_zeroed (s : State) (pg bit : Nat) : (s.raise pg bit).zeroed = s.zeroed := by
  simp only [State.raise]; split <;> rfl
@[simp] theorem State.raise_bad (s : State) (pg bit : Nat) : (s.raise pg bit).bad = s.bad := by
  simp only [State.raise]; split <;> rfl
@[simp] theorem State.raise_weak (s : State) (pg bit : Nat) : (s.raise pg bit).weak = s.weak := by
  simp only [State.raise]; split <;> rfl
@[simp] theorem State.raise_host (s : State) (pg bit : Nat) : (s.raise pg bit).host = s.host := by
  simp only [State.raise]; split <;> rfl
@[simp] theorem State.raise_hostFaults (s : State) (pg bit : Nat) : (s.raise pg bit).hostFaults = s.hostFaults := by
  simp only [State.raise]; split <;> rfl
@[simp] theorem State.raise_sec (s : State) (pg bit : Nat) : (s.raise pg bit).sec = s.sec := by
  simp only [State.raise]; split <;> rfl
@[simp] theorem State.raise_hps (s : State) (pg bit : Nat) : (s.raise pg bit).hps = s.hps := by
  simp only [State.raise]; split <;> rfl
@[simp] theorem State.raise_rwt (s : State) (pg bit : Nat) : (s.raise pg bit).rwt = s.rwt := by
  simp only [State.raise]; split <;> rfl
@[simp] theorem State.raise_brim (s : State) (pg bit : Nat) : (s.raise pg bit).brim = s.brim := by
  simp only [State.raise]; split <;> rfl
@[simp] theorem State.raise_tcs (s : State) (pg bit : Nat) : (s.raise pg bit).tcs = s.tcs := by
  simp only [State.raise]; split <;> rfl
@[simp] theorem State.raise_pins (s : State) (pg bit : Nat) : (s.raise pg bit).pins = s.pins := by
  simp only [State.raise]; split <;> rfl
@[simp] theorem State.raise_draws (s : State) (pg bit : Nat) : (s.raise pg bit).draws = s.draws := by
  simp only [State.raise]; split <;> rfl
@[simp] theorem State.raise_pending (s : State) (pg bit : Nat) : (s.raise pg bit).pending = s.pending := by
  simp only [State.raise]; split <;> rfl

/-! ### refuse -/

@[simp] theorem State.refuse_shape (s : State) (pg code off lsb : Nat) : (s.refuse pg code off lsb).shape = s.shape := by simp [State.refuse]
@[simp] theorem State.refuse_stroke (s : State) (pg code off lsb : Nat) : (s.refuse pg code off lsb).stroke = s.stroke := by simp [State.refuse]
@[simp] theorem State.refuse_cal (s : State) (pg code off lsb : Nat) : (s.refuse pg code off lsb).cal = s.cal := by simp [State.refuse]
@[simp] theorem State.refuse_rings (s : State) (pg code off lsb : Nat) : (s.refuse pg code off lsb).rings = s.rings := by simp [State.refuse]
@[simp] theorem State.refuse_cmds (s : State) (pg code off lsb : Nat) : (s.refuse pg code off lsb).cmds = s.cmds := by simp [State.refuse]
@[simp] theorem State.refuse_fetches (s : State) (pg code off lsb : Nat) : (s.refuse pg code off lsb).fetches = s.fetches := by simp [State.refuse]
@[simp] theorem State.refuse_rrLast (s : State) (pg code off lsb : Nat) : (s.refuse pg code off lsb).rrLast = s.rrLast := by simp [State.refuse]
@[simp] theorem State.refuse_starts (s : State) (pg code off lsb : Nat) : (s.refuse pg code off lsb).starts = s.starts := by simp [State.refuse]
@[simp] theorem State.refuse_fulLast (s : State) (pg code off lsb : Nat) : (s.refuse pg code off lsb).fulLast = s.fulLast := by simp [State.refuse]
@[simp] theorem State.refuse_ctxs (s : State) (pg code off lsb : Nat) : (s.refuse pg code off lsb).ctxs = s.ctxs := by simp [State.refuse]
@[simp] theorem State.refuse_parts (s : State) (pg code off lsb : Nat) : (s.refuse pg code off lsb).parts = s.parts := by simp [State.refuse]
@[simp] theorem State.refuse_chans (s : State) (pg code off lsb : Nat) : (s.refuse pg code off lsb).chans = s.chans := by simp [State.refuse]
@[simp] theorem State.refuse_stks (s : State) (pg code off lsb : Nat) : (s.refuse pg code off lsb).stks = s.stks := by simp [State.refuse]
@[simp] theorem State.refuse_vcs (s : State) (pg code off lsb : Nat) : (s.refuse pg code off lsb).vcs = s.vcs := by simp [State.refuse]
@[simp] theorem State.refuse_kvMoves (s : State) (pg code off lsb : Nat) : (s.refuse pg code off lsb).kvMoves = s.kvMoves := by simp [State.refuse]
@[simp] theorem State.refuse_kvLimbo (s : State) (pg code off lsb : Nat) : (s.refuse pg code off lsb).kvLimbo = s.kvLimbo := by simp [State.refuse]
@[simp] theorem State.refuse_kvParked (s : State) (pg code off lsb : Nat) : (s.refuse pg code off lsb).kvParked = s.kvParked := by simp [State.refuse]
@[simp] theorem State.refuse_frames (s : State) (pg code off lsb : Nat) : (s.refuse pg code off lsb).frames = s.frames := by simp [State.refuse]
@[simp] theorem State.refuse_trim (s : State) (pg code off lsb : Nat) : (s.refuse pg code off lsb).trim = s.trim := by simp [State.refuse]
@[simp] theorem State.refuse_pkgOuts (s : State) (pg code off lsb : Nat) : (s.refuse pg code off lsb).pkgOuts = s.pkgOuts := by simp [State.refuse]
@[simp] theorem State.refuse_failed (s : State) (pg code off lsb : Nat) : (s.refuse pg code off lsb).failed = s.failed := by simp [State.refuse]
@[simp] theorem State.refuse_knownBad (s : State) (pg code off lsb : Nat) : (s.refuse pg code off lsb).knownBad = s.knownBad := by simp [State.refuse]
@[simp] theorem State.refuse_nvmKnownBad (s : State) (pg code off lsb : Nat) : (s.refuse pg code off lsb).nvmKnownBad = s.nvmKnownBad := by simp [State.refuse]
@[simp] theorem State.refuse_recalWindow (s : State) (pg code off lsb : Nat) : (s.refuse pg code off lsb).recalWindow = s.recalWindow := by simp [State.refuse]
@[simp] theorem State.refuse_pwr (s : State) (pg code off lsb : Nat) : (s.refuse pg code off lsb).pwr = s.pwr := by simp [State.refuse]
@[simp] theorem State.refuse_errs (s : State) (pg code off lsb : Nat) : (s.refuse pg code off lsb).errs = s.errs := by simp [State.refuse]
@[simp] theorem State.refuse_mem (s : State) (pg code off lsb : Nat) : (s.refuse pg code off lsb).mem = s.mem := by simp [State.refuse]
@[simp] theorem State.refuse_lost (s : State) (pg code off lsb : Nat) : (s.refuse pg code off lsb).lost = s.lost := by simp [State.refuse]
@[simp] theorem State.refuse_zeroed (s : State) (pg code off lsb : Nat) : (s.refuse pg code off lsb).zeroed = s.zeroed := by simp [State.refuse]
@[simp] theorem State.refuse_bad (s : State) (pg code off lsb : Nat) : (s.refuse pg code off lsb).bad = s.bad := by simp [State.refuse]
@[simp] theorem State.refuse_weak (s : State) (pg code off lsb : Nat) : (s.refuse pg code off lsb).weak = s.weak := by simp [State.refuse]
@[simp] theorem State.refuse_host (s : State) (pg code off lsb : Nat) : (s.refuse pg code off lsb).host = s.host := by simp [State.refuse]
@[simp] theorem State.refuse_hostFaults (s : State) (pg code off lsb : Nat) : (s.refuse pg code off lsb).hostFaults = s.hostFaults := by simp [State.refuse]
@[simp] theorem State.refuse_sec (s : State) (pg code off lsb : Nat) : (s.refuse pg code off lsb).sec = s.sec := by simp [State.refuse]
@[simp] theorem State.refuse_hps (s : State) (pg code off lsb : Nat) : (s.refuse pg code off lsb).hps = s.hps := by simp [State.refuse]
@[simp] theorem State.refuse_rwt (s : State) (pg code off lsb : Nat) : (s.refuse pg code off lsb).rwt = s.rwt := by simp [State.refuse]
@[simp] theorem State.refuse_brim (s : State) (pg code off lsb : Nat) : (s.refuse pg code off lsb).brim = s.brim := by simp [State.refuse]
@[simp] theorem State.refuse_tcs (s : State) (pg code off lsb : Nat) : (s.refuse pg code off lsb).tcs = s.tcs := by simp [State.refuse]
@[simp] theorem State.refuse_pins (s : State) (pg code off lsb : Nat) : (s.refuse pg code off lsb).pins = s.pins := by simp [State.refuse]
@[simp] theorem State.refuse_draws (s : State) (pg code off lsb : Nat) : (s.refuse pg code off lsb).draws = s.draws := by simp [State.refuse]
@[simp] theorem State.refuse_pending (s : State) (pg code off lsb : Nat) : (s.refuse pg code off lsb).pending = s.pending := by simp [State.refuse]

/-! ### refuseF -/

@[simp] theorem State.refuseF_shape (s : State) (pg code : Nat) (f : Fld) : (s.refuseF pg code f).shape = s.shape := by simp [State.refuseF]
@[simp] theorem State.refuseF_stroke (s : State) (pg code : Nat) (f : Fld) : (s.refuseF pg code f).stroke = s.stroke := by simp [State.refuseF]
@[simp] theorem State.refuseF_cal (s : State) (pg code : Nat) (f : Fld) : (s.refuseF pg code f).cal = s.cal := by simp [State.refuseF]
@[simp] theorem State.refuseF_rings (s : State) (pg code : Nat) (f : Fld) : (s.refuseF pg code f).rings = s.rings := by simp [State.refuseF]
@[simp] theorem State.refuseF_cmds (s : State) (pg code : Nat) (f : Fld) : (s.refuseF pg code f).cmds = s.cmds := by simp [State.refuseF]
@[simp] theorem State.refuseF_fetches (s : State) (pg code : Nat) (f : Fld) : (s.refuseF pg code f).fetches = s.fetches := by simp [State.refuseF]
@[simp] theorem State.refuseF_rrLast (s : State) (pg code : Nat) (f : Fld) : (s.refuseF pg code f).rrLast = s.rrLast := by simp [State.refuseF]
@[simp] theorem State.refuseF_starts (s : State) (pg code : Nat) (f : Fld) : (s.refuseF pg code f).starts = s.starts := by simp [State.refuseF]
@[simp] theorem State.refuseF_fulLast (s : State) (pg code : Nat) (f : Fld) : (s.refuseF pg code f).fulLast = s.fulLast := by simp [State.refuseF]
@[simp] theorem State.refuseF_ctxs (s : State) (pg code : Nat) (f : Fld) : (s.refuseF pg code f).ctxs = s.ctxs := by simp [State.refuseF]
@[simp] theorem State.refuseF_parts (s : State) (pg code : Nat) (f : Fld) : (s.refuseF pg code f).parts = s.parts := by simp [State.refuseF]
@[simp] theorem State.refuseF_chans (s : State) (pg code : Nat) (f : Fld) : (s.refuseF pg code f).chans = s.chans := by simp [State.refuseF]
@[simp] theorem State.refuseF_stks (s : State) (pg code : Nat) (f : Fld) : (s.refuseF pg code f).stks = s.stks := by simp [State.refuseF]
@[simp] theorem State.refuseF_vcs (s : State) (pg code : Nat) (f : Fld) : (s.refuseF pg code f).vcs = s.vcs := by simp [State.refuseF]
@[simp] theorem State.refuseF_kvMoves (s : State) (pg code : Nat) (f : Fld) : (s.refuseF pg code f).kvMoves = s.kvMoves := by simp [State.refuseF]
@[simp] theorem State.refuseF_kvLimbo (s : State) (pg code : Nat) (f : Fld) : (s.refuseF pg code f).kvLimbo = s.kvLimbo := by simp [State.refuseF]
@[simp] theorem State.refuseF_kvParked (s : State) (pg code : Nat) (f : Fld) : (s.refuseF pg code f).kvParked = s.kvParked := by simp [State.refuseF]
@[simp] theorem State.refuseF_frames (s : State) (pg code : Nat) (f : Fld) : (s.refuseF pg code f).frames = s.frames := by simp [State.refuseF]
@[simp] theorem State.refuseF_trim (s : State) (pg code : Nat) (f : Fld) : (s.refuseF pg code f).trim = s.trim := by simp [State.refuseF]
@[simp] theorem State.refuseF_pkgOuts (s : State) (pg code : Nat) (f : Fld) : (s.refuseF pg code f).pkgOuts = s.pkgOuts := by simp [State.refuseF]
@[simp] theorem State.refuseF_failed (s : State) (pg code : Nat) (f : Fld) : (s.refuseF pg code f).failed = s.failed := by simp [State.refuseF]
@[simp] theorem State.refuseF_knownBad (s : State) (pg code : Nat) (f : Fld) : (s.refuseF pg code f).knownBad = s.knownBad := by simp [State.refuseF]
@[simp] theorem State.refuseF_nvmKnownBad (s : State) (pg code : Nat) (f : Fld) : (s.refuseF pg code f).nvmKnownBad = s.nvmKnownBad := by simp [State.refuseF]
@[simp] theorem State.refuseF_recalWindow (s : State) (pg code : Nat) (f : Fld) : (s.refuseF pg code f).recalWindow = s.recalWindow := by simp [State.refuseF]
@[simp] theorem State.refuseF_pwr (s : State) (pg code : Nat) (f : Fld) : (s.refuseF pg code f).pwr = s.pwr := by simp [State.refuseF]
@[simp] theorem State.refuseF_errs (s : State) (pg code : Nat) (f : Fld) : (s.refuseF pg code f).errs = s.errs := by simp [State.refuseF]
@[simp] theorem State.refuseF_mem (s : State) (pg code : Nat) (f : Fld) : (s.refuseF pg code f).mem = s.mem := by simp [State.refuseF]
@[simp] theorem State.refuseF_lost (s : State) (pg code : Nat) (f : Fld) : (s.refuseF pg code f).lost = s.lost := by simp [State.refuseF]
@[simp] theorem State.refuseF_zeroed (s : State) (pg code : Nat) (f : Fld) : (s.refuseF pg code f).zeroed = s.zeroed := by simp [State.refuseF]
@[simp] theorem State.refuseF_bad (s : State) (pg code : Nat) (f : Fld) : (s.refuseF pg code f).bad = s.bad := by simp [State.refuseF]
@[simp] theorem State.refuseF_weak (s : State) (pg code : Nat) (f : Fld) : (s.refuseF pg code f).weak = s.weak := by simp [State.refuseF]
@[simp] theorem State.refuseF_host (s : State) (pg code : Nat) (f : Fld) : (s.refuseF pg code f).host = s.host := by simp [State.refuseF]
@[simp] theorem State.refuseF_hostFaults (s : State) (pg code : Nat) (f : Fld) : (s.refuseF pg code f).hostFaults = s.hostFaults := by simp [State.refuseF]
@[simp] theorem State.refuseF_sec (s : State) (pg code : Nat) (f : Fld) : (s.refuseF pg code f).sec = s.sec := by simp [State.refuseF]
@[simp] theorem State.refuseF_hps (s : State) (pg code : Nat) (f : Fld) : (s.refuseF pg code f).hps = s.hps := by simp [State.refuseF]
@[simp] theorem State.refuseF_rwt (s : State) (pg code : Nat) (f : Fld) : (s.refuseF pg code f).rwt = s.rwt := by simp [State.refuseF]
@[simp] theorem State.refuseF_brim (s : State) (pg code : Nat) (f : Fld) : (s.refuseF pg code f).brim = s.brim := by simp [State.refuseF]
@[simp] theorem State.refuseF_tcs (s : State) (pg code : Nat) (f : Fld) : (s.refuseF pg code f).tcs = s.tcs := by simp [State.refuseF]
@[simp] theorem State.refuseF_pins (s : State) (pg code : Nat) (f : Fld) : (s.refuseF pg code f).pins = s.pins := by simp [State.refuseF]
@[simp] theorem State.refuseF_draws (s : State) (pg code : Nat) (f : Fld) : (s.refuseF pg code f).draws = s.draws := by simp [State.refuseF]
@[simp] theorem State.refuseF_pending (s : State) (pg code : Nat) (f : Fld) : (s.refuseF pg code f).pending = s.pending := by simp [State.refuseF]

/-! ### wr -/

@[simp] theorem State.wr_regs (s : State) (k : Nat) (b : Byte) : (s.wr k b).regs = s.regs := (rfl)
@[simp] theorem State.wr_shape (s : State) (k : Nat) (b : Byte) : (s.wr k b).shape = s.shape := (rfl)
@[simp] theorem State.wr_stroke (s : State) (k : Nat) (b : Byte) : (s.wr k b).stroke = s.stroke := (rfl)
@[simp] theorem State.wr_cal (s : State) (k : Nat) (b : Byte) : (s.wr k b).cal = s.cal := (rfl)
@[simp] theorem State.wr_rings (s : State) (k : Nat) (b : Byte) : (s.wr k b).rings = s.rings := (rfl)
@[simp] theorem State.wr_cmds (s : State) (k : Nat) (b : Byte) : (s.wr k b).cmds = s.cmds := (rfl)
@[simp] theorem State.wr_fetches (s : State) (k : Nat) (b : Byte) : (s.wr k b).fetches = s.fetches := (rfl)
@[simp] theorem State.wr_rrLast (s : State) (k : Nat) (b : Byte) : (s.wr k b).rrLast = s.rrLast := (rfl)
@[simp] theorem State.wr_starts (s : State) (k : Nat) (b : Byte) : (s.wr k b).starts = s.starts := (rfl)
@[simp] theorem State.wr_fulLast (s : State) (k : Nat) (b : Byte) : (s.wr k b).fulLast = s.fulLast := (rfl)
@[simp] theorem State.wr_ctxs (s : State) (k : Nat) (b : Byte) : (s.wr k b).ctxs = s.ctxs := (rfl)
@[simp] theorem State.wr_parts (s : State) (k : Nat) (b : Byte) : (s.wr k b).parts = s.parts := (rfl)
@[simp] theorem State.wr_chans (s : State) (k : Nat) (b : Byte) : (s.wr k b).chans = s.chans := (rfl)
@[simp] theorem State.wr_stks (s : State) (k : Nat) (b : Byte) : (s.wr k b).stks = s.stks := (rfl)
@[simp] theorem State.wr_vcs (s : State) (k : Nat) (b : Byte) : (s.wr k b).vcs = s.vcs := (rfl)
@[simp] theorem State.wr_kvMoves (s : State) (k : Nat) (b : Byte) : (s.wr k b).kvMoves = s.kvMoves := (rfl)
@[simp] theorem State.wr_kvLimbo (s : State) (k : Nat) (b : Byte) : (s.wr k b).kvLimbo = s.kvLimbo := (rfl)
@[simp] theorem State.wr_kvParked (s : State) (k : Nat) (b : Byte) : (s.wr k b).kvParked = s.kvParked := (rfl)
@[simp] theorem State.wr_frames (s : State) (k : Nat) (b : Byte) : (s.wr k b).frames = s.frames := (rfl)
@[simp] theorem State.wr_trim (s : State) (k : Nat) (b : Byte) : (s.wr k b).trim = s.trim := (rfl)
@[simp] theorem State.wr_pkgOuts (s : State) (k : Nat) (b : Byte) : (s.wr k b).pkgOuts = s.pkgOuts := (rfl)
@[simp] theorem State.wr_failed (s : State) (k : Nat) (b : Byte) : (s.wr k b).failed = s.failed := (rfl)
@[simp] theorem State.wr_knownBad (s : State) (k : Nat) (b : Byte) : (s.wr k b).knownBad = s.knownBad := (rfl)
@[simp] theorem State.wr_nvmKnownBad (s : State) (k : Nat) (b : Byte) : (s.wr k b).nvmKnownBad = s.nvmKnownBad := (rfl)
@[simp] theorem State.wr_recalWindow (s : State) (k : Nat) (b : Byte) : (s.wr k b).recalWindow = s.recalWindow := (rfl)
@[simp] theorem State.wr_pwr (s : State) (k : Nat) (b : Byte) : (s.wr k b).pwr = s.pwr := (rfl)
@[simp] theorem State.wr_errs (s : State) (k : Nat) (b : Byte) : (s.wr k b).errs = s.errs := (rfl)
@[simp] theorem State.wr_lost (s : State) (k : Nat) (b : Byte) : (s.wr k b).lost = s.lost := (rfl)
@[simp] theorem State.wr_zeroed (s : State) (k : Nat) (b : Byte) : (s.wr k b).zeroed = s.zeroed := (rfl)
@[simp] theorem State.wr_host (s : State) (k : Nat) (b : Byte) : (s.wr k b).host = s.host := (rfl)
@[simp] theorem State.wr_hostFaults (s : State) (k : Nat) (b : Byte) : (s.wr k b).hostFaults = s.hostFaults := (rfl)
@[simp] theorem State.wr_sec (s : State) (k : Nat) (b : Byte) : (s.wr k b).sec = s.sec := (rfl)
@[simp] theorem State.wr_hps (s : State) (k : Nat) (b : Byte) : (s.wr k b).hps = s.hps := (rfl)
@[simp] theorem State.wr_rwt (s : State) (k : Nat) (b : Byte) : (s.wr k b).rwt = s.rwt := (rfl)
@[simp] theorem State.wr_brim (s : State) (k : Nat) (b : Byte) : (s.wr k b).brim = s.brim := (rfl)
@[simp] theorem State.wr_tcs (s : State) (k : Nat) (b : Byte) : (s.wr k b).tcs = s.tcs := (rfl)
@[simp] theorem State.wr_pins (s : State) (k : Nat) (b : Byte) : (s.wr k b).pins = s.pins := (rfl)
@[simp] theorem State.wr_out (s : State) (k : Nat) (b : Byte) : (s.wr k b).out = s.out := (rfl)
@[simp] theorem State.wr_draws (s : State) (k : Nat) (b : Byte) : (s.wr k b).draws = s.draws := (rfl)
@[simp] theorem State.wr_pending (s : State) (k : Nat) (b : Byte) : (s.wr k b).pending = s.pending := (rfl)
@[simp] theorem State.wr_reg (s : State) (k : Nat) (b : Byte) (j : Nat) : (s.wr k b).reg j = s.reg j := (rfl)
@[simp] theorem State.wr_fld (s : State) (k : Nat) (b : Byte) (gp : Nat) (fl : Fld) : (s.wr k b).fld gp fl = s.fld gp fl := (rfl)

/-! ### wrs -/

@[simp] theorem State.wrs_regs (s : State) (k : Nat) (bs : List Byte) : (s.wrs k bs).regs = s.regs := by
  induction bs generalizing s k with
  | nil => rfl
  | cons b bs ih => exact (ih (s.wr k b) (k + 1)).trans rfl
@[simp] theorem State.wrs_shape (s : State) (k : Nat) (bs : List Byte) : (s.wrs k bs).shape = s.shape := by
  induction bs generalizing s k with
  | nil => rfl
  | cons b bs ih => exact (ih (s.wr k b) (k + 1)).trans rfl
@[simp] theorem State.wrs_stroke (s : State) (k : Nat) (bs : List Byte) : (s.wrs k bs).stroke = s.stroke := by
  induction bs generalizing s k with
  | nil => rfl
  | cons b bs ih => exact (ih (s.wr k b) (k + 1)).trans rfl
@[simp] theorem State.wrs_cal (s : State) (k : Nat) (bs : List Byte) : (s.wrs k bs).cal = s.cal := by
  induction bs generalizing s k with
  | nil => rfl
  | cons b bs ih => exact (ih (s.wr k b) (k + 1)).trans rfl
@[simp] theorem State.wrs_rings (s : State) (k : Nat) (bs : List Byte) : (s.wrs k bs).rings = s.rings := by
  induction bs generalizing s k with
  | nil => rfl
  | cons b bs ih => exact (ih (s.wr k b) (k + 1)).trans rfl
@[simp] theorem State.wrs_cmds (s : State) (k : Nat) (bs : List Byte) : (s.wrs k bs).cmds = s.cmds := by
  induction bs generalizing s k with
  | nil => rfl
  | cons b bs ih => exact (ih (s.wr k b) (k + 1)).trans rfl
@[simp] theorem State.wrs_fetches (s : State) (k : Nat) (bs : List Byte) : (s.wrs k bs).fetches = s.fetches := by
  induction bs generalizing s k with
  | nil => rfl
  | cons b bs ih => exact (ih (s.wr k b) (k + 1)).trans rfl
@[simp] theorem State.wrs_rrLast (s : State) (k : Nat) (bs : List Byte) : (s.wrs k bs).rrLast = s.rrLast := by
  induction bs generalizing s k with
  | nil => rfl
  | cons b bs ih => exact (ih (s.wr k b) (k + 1)).trans rfl
@[simp] theorem State.wrs_starts (s : State) (k : Nat) (bs : List Byte) : (s.wrs k bs).starts = s.starts := by
  induction bs generalizing s k with
  | nil => rfl
  | cons b bs ih => exact (ih (s.wr k b) (k + 1)).trans rfl
@[simp] theorem State.wrs_fulLast (s : State) (k : Nat) (bs : List Byte) : (s.wrs k bs).fulLast = s.fulLast := by
  induction bs generalizing s k with
  | nil => rfl
  | cons b bs ih => exact (ih (s.wr k b) (k + 1)).trans rfl
@[simp] theorem State.wrs_ctxs (s : State) (k : Nat) (bs : List Byte) : (s.wrs k bs).ctxs = s.ctxs := by
  induction bs generalizing s k with
  | nil => rfl
  | cons b bs ih => exact (ih (s.wr k b) (k + 1)).trans rfl
@[simp] theorem State.wrs_parts (s : State) (k : Nat) (bs : List Byte) : (s.wrs k bs).parts = s.parts := by
  induction bs generalizing s k with
  | nil => rfl
  | cons b bs ih => exact (ih (s.wr k b) (k + 1)).trans rfl
@[simp] theorem State.wrs_chans (s : State) (k : Nat) (bs : List Byte) : (s.wrs k bs).chans = s.chans := by
  induction bs generalizing s k with
  | nil => rfl
  | cons b bs ih => exact (ih (s.wr k b) (k + 1)).trans rfl
@[simp] theorem State.wrs_stks (s : State) (k : Nat) (bs : List Byte) : (s.wrs k bs).stks = s.stks := by
  induction bs generalizing s k with
  | nil => rfl
  | cons b bs ih => exact (ih (s.wr k b) (k + 1)).trans rfl
@[simp] theorem State.wrs_vcs (s : State) (k : Nat) (bs : List Byte) : (s.wrs k bs).vcs = s.vcs := by
  induction bs generalizing s k with
  | nil => rfl
  | cons b bs ih => exact (ih (s.wr k b) (k + 1)).trans rfl
@[simp] theorem State.wrs_kvMoves (s : State) (k : Nat) (bs : List Byte) : (s.wrs k bs).kvMoves = s.kvMoves := by
  induction bs generalizing s k with
  | nil => rfl
  | cons b bs ih => exact (ih (s.wr k b) (k + 1)).trans rfl
@[simp] theorem State.wrs_kvLimbo (s : State) (k : Nat) (bs : List Byte) : (s.wrs k bs).kvLimbo = s.kvLimbo := by
  induction bs generalizing s k with
  | nil => rfl
  | cons b bs ih => exact (ih (s.wr k b) (k + 1)).trans rfl
@[simp] theorem State.wrs_kvParked (s : State) (k : Nat) (bs : List Byte) : (s.wrs k bs).kvParked = s.kvParked := by
  induction bs generalizing s k with
  | nil => rfl
  | cons b bs ih => exact (ih (s.wr k b) (k + 1)).trans rfl
@[simp] theorem State.wrs_frames (s : State) (k : Nat) (bs : List Byte) : (s.wrs k bs).frames = s.frames := by
  induction bs generalizing s k with
  | nil => rfl
  | cons b bs ih => exact (ih (s.wr k b) (k + 1)).trans rfl
@[simp] theorem State.wrs_trim (s : State) (k : Nat) (bs : List Byte) : (s.wrs k bs).trim = s.trim := by
  induction bs generalizing s k with
  | nil => rfl
  | cons b bs ih => exact (ih (s.wr k b) (k + 1)).trans rfl
@[simp] theorem State.wrs_pkgOuts (s : State) (k : Nat) (bs : List Byte) : (s.wrs k bs).pkgOuts = s.pkgOuts := by
  induction bs generalizing s k with
  | nil => rfl
  | cons b bs ih => exact (ih (s.wr k b) (k + 1)).trans rfl
@[simp] theorem State.wrs_failed (s : State) (k : Nat) (bs : List Byte) : (s.wrs k bs).failed = s.failed := by
  induction bs generalizing s k with
  | nil => rfl
  | cons b bs ih => exact (ih (s.wr k b) (k + 1)).trans rfl
@[simp] theorem State.wrs_knownBad (s : State) (k : Nat) (bs : List Byte) : (s.wrs k bs).knownBad = s.knownBad := by
  induction bs generalizing s k with
  | nil => rfl
  | cons b bs ih => exact (ih (s.wr k b) (k + 1)).trans rfl
@[simp] theorem State.wrs_nvmKnownBad (s : State) (k : Nat) (bs : List Byte) : (s.wrs k bs).nvmKnownBad = s.nvmKnownBad := by
  induction bs generalizing s k with
  | nil => rfl
  | cons b bs ih => exact (ih (s.wr k b) (k + 1)).trans rfl
@[simp] theorem State.wrs_recalWindow (s : State) (k : Nat) (bs : List Byte) : (s.wrs k bs).recalWindow = s.recalWindow := by
  induction bs generalizing s k with
  | nil => rfl
  | cons b bs ih => exact (ih (s.wr k b) (k + 1)).trans rfl
@[simp] theorem State.wrs_pwr (s : State) (k : Nat) (bs : List Byte) : (s.wrs k bs).pwr = s.pwr := by
  induction bs generalizing s k with
  | nil => rfl
  | cons b bs ih => exact (ih (s.wr k b) (k + 1)).trans rfl
@[simp] theorem State.wrs_errs (s : State) (k : Nat) (bs : List Byte) : (s.wrs k bs).errs = s.errs := by
  induction bs generalizing s k with
  | nil => rfl
  | cons b bs ih => exact (ih (s.wr k b) (k + 1)).trans rfl
@[simp] theorem State.wrs_lost (s : State) (k : Nat) (bs : List Byte) : (s.wrs k bs).lost = s.lost := by
  induction bs generalizing s k with
  | nil => rfl
  | cons b bs ih => exact (ih (s.wr k b) (k + 1)).trans rfl
@[simp] theorem State.wrs_zeroed (s : State) (k : Nat) (bs : List Byte) : (s.wrs k bs).zeroed = s.zeroed := by
  induction bs generalizing s k with
  | nil => rfl
  | cons b bs ih => exact (ih (s.wr k b) (k + 1)).trans rfl
@[simp] theorem State.wrs_host (s : State) (k : Nat) (bs : List Byte) : (s.wrs k bs).host = s.host := by
  induction bs generalizing s k with
  | nil => rfl
  | cons b bs ih => exact (ih (s.wr k b) (k + 1)).trans rfl
@[simp] theorem State.wrs_hostFaults (s : State) (k : Nat) (bs : List Byte) : (s.wrs k bs).hostFaults = s.hostFaults := by
  induction bs generalizing s k with
  | nil => rfl
  | cons b bs ih => exact (ih (s.wr k b) (k + 1)).trans rfl
@[simp] theorem State.wrs_sec (s : State) (k : Nat) (bs : List Byte) : (s.wrs k bs).sec = s.sec := by
  induction bs generalizing s k with
  | nil => rfl
  | cons b bs ih => exact (ih (s.wr k b) (k + 1)).trans rfl
@[simp] theorem State.wrs_hps (s : State) (k : Nat) (bs : List Byte) : (s.wrs k bs).hps = s.hps := by
  induction bs generalizing s k with
  | nil => rfl
  | cons b bs ih => exact (ih (s.wr k b) (k + 1)).trans rfl
@[simp] theorem State.wrs_rwt (s : State) (k : Nat) (bs : List Byte) : (s.wrs k bs).rwt = s.rwt := by
  induction bs generalizing s k with
  | nil => rfl
  | cons b bs ih => exact (ih (s.wr k b) (k + 1)).trans rfl
@[simp] theorem State.wrs_brim (s : State) (k : Nat) (bs : List Byte) : (s.wrs k bs).brim = s.brim := by
  induction bs generalizing s k with
  | nil => rfl
  | cons b bs ih => exact (ih (s.wr k b) (k + 1)).trans rfl
@[simp] theorem State.wrs_tcs (s : State) (k : Nat) (bs : List Byte) : (s.wrs k bs).tcs = s.tcs := by
  induction bs generalizing s k with
  | nil => rfl
  | cons b bs ih => exact (ih (s.wr k b) (k + 1)).trans rfl
@[simp] theorem State.wrs_pins (s : State) (k : Nat) (bs : List Byte) : (s.wrs k bs).pins = s.pins := by
  induction bs generalizing s k with
  | nil => rfl
  | cons b bs ih => exact (ih (s.wr k b) (k + 1)).trans rfl
@[simp] theorem State.wrs_out (s : State) (k : Nat) (bs : List Byte) : (s.wrs k bs).out = s.out := by
  induction bs generalizing s k with
  | nil => rfl
  | cons b bs ih => exact (ih (s.wr k b) (k + 1)).trans rfl
@[simp] theorem State.wrs_draws (s : State) (k : Nat) (bs : List Byte) : (s.wrs k bs).draws = s.draws := by
  induction bs generalizing s k with
  | nil => rfl
  | cons b bs ih => exact (ih (s.wr k b) (k + 1)).trans rfl
@[simp] theorem State.wrs_pending (s : State) (k : Nat) (bs : List Byte) : (s.wrs k bs).pending = s.pending := by
  induction bs generalizing s k with
  | nil => rfl
  | cons b bs ih => exact (ih (s.wr k b) (k + 1)).trans rfl
@[simp] theorem State.wrs_reg (s : State) (k : Nat) (bs : List Byte) (j : Nat) : (s.wrs k bs).reg j = s.reg j := by simp [State.reg]
@[simp] theorem State.wrs_fld (s : State) (k : Nat) (bs : List Byte) (gp : Nat) (fl : Fld) : (s.wrs k bs).fld gp fl = s.fld gp fl := by simp [State.fld]

/-! ### wr64 -/

@[simp] theorem State.wr64_regs (s : State) (k v : Nat) : (s.wr64 k v).regs = s.regs := by simp [State.wr64]
@[simp] theorem State.wr64_shape (s : State) (k v : Nat) : (s.wr64 k v).shape = s.shape := by simp [State.wr64]
@[simp] theorem State.wr64_stroke (s : State) (k v : Nat) : (s.wr64 k v).stroke = s.stroke := by simp [State.wr64]
@[simp] theorem State.wr64_cal (s : State) (k v : Nat) : (s.wr64 k v).cal = s.cal := by simp [State.wr64]
@[simp] theorem State.wr64_rings (s : State) (k v : Nat) : (s.wr64 k v).rings = s.rings := by simp [State.wr64]
@[simp] theorem State.wr64_cmds (s : State) (k v : Nat) : (s.wr64 k v).cmds = s.cmds := by simp [State.wr64]
@[simp] theorem State.wr64_fetches (s : State) (k v : Nat) : (s.wr64 k v).fetches = s.fetches := by simp [State.wr64]
@[simp] theorem State.wr64_rrLast (s : State) (k v : Nat) : (s.wr64 k v).rrLast = s.rrLast := by simp [State.wr64]
@[simp] theorem State.wr64_starts (s : State) (k v : Nat) : (s.wr64 k v).starts = s.starts := by simp [State.wr64]
@[simp] theorem State.wr64_fulLast (s : State) (k v : Nat) : (s.wr64 k v).fulLast = s.fulLast := by simp [State.wr64]
@[simp] theorem State.wr64_ctxs (s : State) (k v : Nat) : (s.wr64 k v).ctxs = s.ctxs := by simp [State.wr64]
@[simp] theorem State.wr64_parts (s : State) (k v : Nat) : (s.wr64 k v).parts = s.parts := by simp [State.wr64]
@[simp] theorem State.wr64_chans (s : State) (k v : Nat) : (s.wr64 k v).chans = s.chans := by simp [State.wr64]
@[simp] theorem State.wr64_stks (s : State) (k v : Nat) : (s.wr64 k v).stks = s.stks := by simp [State.wr64]
@[simp] theorem State.wr64_vcs (s : State) (k v : Nat) : (s.wr64 k v).vcs = s.vcs := by simp [State.wr64]
@[simp] theorem State.wr64_kvMoves (s : State) (k v : Nat) : (s.wr64 k v).kvMoves = s.kvMoves := by simp [State.wr64]
@[simp] theorem State.wr64_kvLimbo (s : State) (k v : Nat) : (s.wr64 k v).kvLimbo = s.kvLimbo := by simp [State.wr64]
@[simp] theorem State.wr64_kvParked (s : State) (k v : Nat) : (s.wr64 k v).kvParked = s.kvParked := by simp [State.wr64]
@[simp] theorem State.wr64_frames (s : State) (k v : Nat) : (s.wr64 k v).frames = s.frames := by simp [State.wr64]
@[simp] theorem State.wr64_trim (s : State) (k v : Nat) : (s.wr64 k v).trim = s.trim := by simp [State.wr64]
@[simp] theorem State.wr64_pkgOuts (s : State) (k v : Nat) : (s.wr64 k v).pkgOuts = s.pkgOuts := by simp [State.wr64]
@[simp] theorem State.wr64_failed (s : State) (k v : Nat) : (s.wr64 k v).failed = s.failed := by simp [State.wr64]
@[simp] theorem State.wr64_knownBad (s : State) (k v : Nat) : (s.wr64 k v).knownBad = s.knownBad := by simp [State.wr64]
@[simp] theorem State.wr64_nvmKnownBad (s : State) (k v : Nat) : (s.wr64 k v).nvmKnownBad = s.nvmKnownBad := by simp [State.wr64]
@[simp] theorem State.wr64_recalWindow (s : State) (k v : Nat) : (s.wr64 k v).recalWindow = s.recalWindow := by simp [State.wr64]
@[simp] theorem State.wr64_pwr (s : State) (k v : Nat) : (s.wr64 k v).pwr = s.pwr := by simp [State.wr64]
@[simp] theorem State.wr64_errs (s : State) (k v : Nat) : (s.wr64 k v).errs = s.errs := by simp [State.wr64]
@[simp] theorem State.wr64_lost (s : State) (k v : Nat) : (s.wr64 k v).lost = s.lost := by simp [State.wr64]
@[simp] theorem State.wr64_zeroed (s : State) (k v : Nat) : (s.wr64 k v).zeroed = s.zeroed := by simp [State.wr64]
@[simp] theorem State.wr64_host (s : State) (k v : Nat) : (s.wr64 k v).host = s.host := by simp [State.wr64]
@[simp] theorem State.wr64_hostFaults (s : State) (k v : Nat) : (s.wr64 k v).hostFaults = s.hostFaults := by simp [State.wr64]
@[simp] theorem State.wr64_sec (s : State) (k v : Nat) : (s.wr64 k v).sec = s.sec := by simp [State.wr64]
@[simp] theorem State.wr64_hps (s : State) (k v : Nat) : (s.wr64 k v).hps = s.hps := by simp [State.wr64]
@[simp] theorem State.wr64_rwt (s : State) (k v : Nat) : (s.wr64 k v).rwt = s.rwt := by simp [State.wr64]
@[simp] theorem State.wr64_brim (s : State) (k v : Nat) : (s.wr64 k v).brim = s.brim := by simp [State.wr64]
@[simp] theorem State.wr64_tcs (s : State) (k v : Nat) : (s.wr64 k v).tcs = s.tcs := by simp [State.wr64]
@[simp] theorem State.wr64_pins (s : State) (k v : Nat) : (s.wr64 k v).pins = s.pins := by simp [State.wr64]
@[simp] theorem State.wr64_out (s : State) (k v : Nat) : (s.wr64 k v).out = s.out := by simp [State.wr64]
@[simp] theorem State.wr64_draws (s : State) (k v : Nat) : (s.wr64 k v).draws = s.draws := by simp [State.wr64]
@[simp] theorem State.wr64_pending (s : State) (k v : Nat) : (s.wr64 k v).pending = s.pending := by simp [State.wr64]
@[simp] theorem State.wr64_reg (s : State) (k v : Nat) (j : Nat) : (s.wr64 k v).reg j = s.reg j := by simp [State.reg]
@[simp] theorem State.wr64_fld (s : State) (k v : Nat) (gp : Nat) (fl : Fld) : (s.wr64 k v).fld gp fl = s.fld gp fl := by simp [State.fld]

/-! ### hwr -/

@[simp] theorem State.hwr_regs (s : State) (k : Nat) (b : Byte) : (s.hwr k b).regs = s.regs := (rfl)
@[simp] theorem State.hwr_shape (s : State) (k : Nat) (b : Byte) : (s.hwr k b).shape = s.shape := (rfl)
@[simp] theorem State.hwr_stroke (s : State) (k : Nat) (b : Byte) : (s.hwr k b).stroke = s.stroke := (rfl)
@[simp] theorem State.hwr_cal (s : State) (k : Nat) (b : Byte) : (s.hwr k b).cal = s.cal := (rfl)
@[simp] theorem State.hwr_rings (s : State) (k : Nat) (b : Byte) : (s.hwr k b).rings = s.rings := (rfl)
@[simp] theorem State.hwr_cmds (s : State) (k : Nat) (b : Byte) : (s.hwr k b).cmds = s.cmds := (rfl)
@[simp] theorem State.hwr_fetches (s : State) (k : Nat) (b : Byte) : (s.hwr k b).fetches = s.fetches := (rfl)
@[simp] theorem State.hwr_rrLast (s : State) (k : Nat) (b : Byte) : (s.hwr k b).rrLast = s.rrLast := (rfl)
@[simp] theorem State.hwr_starts (s : State) (k : Nat) (b : Byte) : (s.hwr k b).starts = s.starts := (rfl)
@[simp] theorem State.hwr_fulLast (s : State) (k : Nat) (b : Byte) : (s.hwr k b).fulLast = s.fulLast := (rfl)
@[simp] theorem State.hwr_ctxs (s : State) (k : Nat) (b : Byte) : (s.hwr k b).ctxs = s.ctxs := (rfl)
@[simp] theorem State.hwr_parts (s : State) (k : Nat) (b : Byte) : (s.hwr k b).parts = s.parts := (rfl)
@[simp] theorem State.hwr_chans (s : State) (k : Nat) (b : Byte) : (s.hwr k b).chans = s.chans := (rfl)
@[simp] theorem State.hwr_stks (s : State) (k : Nat) (b : Byte) : (s.hwr k b).stks = s.stks := (rfl)
@[simp] theorem State.hwr_vcs (s : State) (k : Nat) (b : Byte) : (s.hwr k b).vcs = s.vcs := (rfl)
@[simp] theorem State.hwr_kvMoves (s : State) (k : Nat) (b : Byte) : (s.hwr k b).kvMoves = s.kvMoves := (rfl)
@[simp] theorem State.hwr_kvLimbo (s : State) (k : Nat) (b : Byte) : (s.hwr k b).kvLimbo = s.kvLimbo := (rfl)
@[simp] theorem State.hwr_kvParked (s : State) (k : Nat) (b : Byte) : (s.hwr k b).kvParked = s.kvParked := (rfl)
@[simp] theorem State.hwr_frames (s : State) (k : Nat) (b : Byte) : (s.hwr k b).frames = s.frames := (rfl)
@[simp] theorem State.hwr_trim (s : State) (k : Nat) (b : Byte) : (s.hwr k b).trim = s.trim := (rfl)
@[simp] theorem State.hwr_pkgOuts (s : State) (k : Nat) (b : Byte) : (s.hwr k b).pkgOuts = s.pkgOuts := (rfl)
@[simp] theorem State.hwr_failed (s : State) (k : Nat) (b : Byte) : (s.hwr k b).failed = s.failed := (rfl)
@[simp] theorem State.hwr_knownBad (s : State) (k : Nat) (b : Byte) : (s.hwr k b).knownBad = s.knownBad := (rfl)
@[simp] theorem State.hwr_nvmKnownBad (s : State) (k : Nat) (b : Byte) : (s.hwr k b).nvmKnownBad = s.nvmKnownBad := (rfl)
@[simp] theorem State.hwr_recalWindow (s : State) (k : Nat) (b : Byte) : (s.hwr k b).recalWindow = s.recalWindow := (rfl)
@[simp] theorem State.hwr_pwr (s : State) (k : Nat) (b : Byte) : (s.hwr k b).pwr = s.pwr := (rfl)
@[simp] theorem State.hwr_errs (s : State) (k : Nat) (b : Byte) : (s.hwr k b).errs = s.errs := (rfl)
@[simp] theorem State.hwr_mem (s : State) (k : Nat) (b : Byte) : (s.hwr k b).mem = s.mem := (rfl)
@[simp] theorem State.hwr_lost (s : State) (k : Nat) (b : Byte) : (s.hwr k b).lost = s.lost := (rfl)
@[simp] theorem State.hwr_zeroed (s : State) (k : Nat) (b : Byte) : (s.hwr k b).zeroed = s.zeroed := (rfl)
@[simp] theorem State.hwr_bad (s : State) (k : Nat) (b : Byte) : (s.hwr k b).bad = s.bad := (rfl)
@[simp] theorem State.hwr_weak (s : State) (k : Nat) (b : Byte) : (s.hwr k b).weak = s.weak := (rfl)
@[simp] theorem State.hwr_hostFaults (s : State) (k : Nat) (b : Byte) : (s.hwr k b).hostFaults = s.hostFaults := (rfl)
@[simp] theorem State.hwr_sec (s : State) (k : Nat) (b : Byte) : (s.hwr k b).sec = s.sec := (rfl)
@[simp] theorem State.hwr_hps (s : State) (k : Nat) (b : Byte) : (s.hwr k b).hps = s.hps := (rfl)
@[simp] theorem State.hwr_rwt (s : State) (k : Nat) (b : Byte) : (s.hwr k b).rwt = s.rwt := (rfl)
@[simp] theorem State.hwr_brim (s : State) (k : Nat) (b : Byte) : (s.hwr k b).brim = s.brim := (rfl)
@[simp] theorem State.hwr_tcs (s : State) (k : Nat) (b : Byte) : (s.hwr k b).tcs = s.tcs := (rfl)
@[simp] theorem State.hwr_pins (s : State) (k : Nat) (b : Byte) : (s.hwr k b).pins = s.pins := (rfl)
@[simp] theorem State.hwr_out (s : State) (k : Nat) (b : Byte) : (s.hwr k b).out = s.out := (rfl)
@[simp] theorem State.hwr_draws (s : State) (k : Nat) (b : Byte) : (s.hwr k b).draws = s.draws := (rfl)
@[simp] theorem State.hwr_pending (s : State) (k : Nat) (b : Byte) : (s.hwr k b).pending = s.pending := (rfl)
@[simp] theorem State.hwr_reg (s : State) (k : Nat) (b : Byte) (j : Nat) : (s.hwr k b).reg j = s.reg j := (rfl)
@[simp] theorem State.hwr_fld (s : State) (k : Nat) (b : Byte) (gp : Nat) (fl : Fld) : (s.hwr k b).fld gp fl = s.fld gp fl := (rfl)

/-! ### hwrs -/

@[simp] theorem State.hwrs_regs (s : State) (k : Nat) (bs : List Byte) : (s.hwrs k bs).regs = s.regs := by
  induction bs generalizing s k with
  | nil => rfl
  | cons b bs ih => exact (ih (s.hwr k b) (k + 1)).trans rfl
@[simp] theorem State.hwrs_shape (s : State) (k : Nat) (bs : List Byte) : (s.hwrs k bs).shape = s.shape := by
  induction bs generalizing s k with
  | nil => rfl
  | cons b bs ih => exact (ih (s.hwr k b) (k + 1)).trans rfl
@[simp] theorem State.hwrs_stroke (s : State) (k : Nat) (bs : List Byte) : (s.hwrs k bs).stroke = s.stroke := by
  induction bs generalizing s k with
  | nil => rfl
  | cons b bs ih => exact (ih (s.hwr k b) (k + 1)).trans rfl
@[simp] theorem State.hwrs_cal (s : State) (k : Nat) (bs : List Byte) : (s.hwrs k bs).cal = s.cal := by
  induction bs generalizing s k with
  | nil => rfl
  | cons b bs ih => exact (ih (s.hwr k b) (k + 1)).trans rfl
@[simp] theorem State.hwrs_rings (s : State) (k : Nat) (bs : List Byte) : (s.hwrs k bs).rings = s.rings := by
  induction bs generalizing s k with
  | nil => rfl
  | cons b bs ih => exact (ih (s.hwr k b) (k + 1)).trans rfl
@[simp] theorem State.hwrs_cmds (s : State) (k : Nat) (bs : List Byte) : (s.hwrs k bs).cmds = s.cmds := by
  induction bs generalizing s k with
  | nil => rfl
  | cons b bs ih => exact (ih (s.hwr k b) (k + 1)).trans rfl
@[simp] theorem State.hwrs_fetches (s : State) (k : Nat) (bs : List Byte) : (s.hwrs k bs).fetches = s.fetches := by
  induction bs generalizing s k with
  | nil => rfl
  | cons b bs ih => exact (ih (s.hwr k b) (k + 1)).trans rfl
@[simp] theorem State.hwrs_rrLast (s : State) (k : Nat) (bs : List Byte) : (s.hwrs k bs).rrLast = s.rrLast := by
  induction bs generalizing s k with
  | nil => rfl
  | cons b bs ih => exact (ih (s.hwr k b) (k + 1)).trans rfl
@[simp] theorem State.hwrs_starts (s : State) (k : Nat) (bs : List Byte) : (s.hwrs k bs).starts = s.starts := by
  induction bs generalizing s k with
  | nil => rfl
  | cons b bs ih => exact (ih (s.hwr k b) (k + 1)).trans rfl
@[simp] theorem State.hwrs_fulLast (s : State) (k : Nat) (bs : List Byte) : (s.hwrs k bs).fulLast = s.fulLast := by
  induction bs generalizing s k with
  | nil => rfl
  | cons b bs ih => exact (ih (s.hwr k b) (k + 1)).trans rfl
@[simp] theorem State.hwrs_ctxs (s : State) (k : Nat) (bs : List Byte) : (s.hwrs k bs).ctxs = s.ctxs := by
  induction bs generalizing s k with
  | nil => rfl
  | cons b bs ih => exact (ih (s.hwr k b) (k + 1)).trans rfl
@[simp] theorem State.hwrs_parts (s : State) (k : Nat) (bs : List Byte) : (s.hwrs k bs).parts = s.parts := by
  induction bs generalizing s k with
  | nil => rfl
  | cons b bs ih => exact (ih (s.hwr k b) (k + 1)).trans rfl
@[simp] theorem State.hwrs_chans (s : State) (k : Nat) (bs : List Byte) : (s.hwrs k bs).chans = s.chans := by
  induction bs generalizing s k with
  | nil => rfl
  | cons b bs ih => exact (ih (s.hwr k b) (k + 1)).trans rfl
@[simp] theorem State.hwrs_stks (s : State) (k : Nat) (bs : List Byte) : (s.hwrs k bs).stks = s.stks := by
  induction bs generalizing s k with
  | nil => rfl
  | cons b bs ih => exact (ih (s.hwr k b) (k + 1)).trans rfl
@[simp] theorem State.hwrs_vcs (s : State) (k : Nat) (bs : List Byte) : (s.hwrs k bs).vcs = s.vcs := by
  induction bs generalizing s k with
  | nil => rfl
  | cons b bs ih => exact (ih (s.hwr k b) (k + 1)).trans rfl
@[simp] theorem State.hwrs_kvMoves (s : State) (k : Nat) (bs : List Byte) : (s.hwrs k bs).kvMoves = s.kvMoves := by
  induction bs generalizing s k with
  | nil => rfl
  | cons b bs ih => exact (ih (s.hwr k b) (k + 1)).trans rfl
@[simp] theorem State.hwrs_kvLimbo (s : State) (k : Nat) (bs : List Byte) : (s.hwrs k bs).kvLimbo = s.kvLimbo := by
  induction bs generalizing s k with
  | nil => rfl
  | cons b bs ih => exact (ih (s.hwr k b) (k + 1)).trans rfl
@[simp] theorem State.hwrs_kvParked (s : State) (k : Nat) (bs : List Byte) : (s.hwrs k bs).kvParked = s.kvParked := by
  induction bs generalizing s k with
  | nil => rfl
  | cons b bs ih => exact (ih (s.hwr k b) (k + 1)).trans rfl
@[simp] theorem State.hwrs_frames (s : State) (k : Nat) (bs : List Byte) : (s.hwrs k bs).frames = s.frames := by
  induction bs generalizing s k with
  | nil => rfl
  | cons b bs ih => exact (ih (s.hwr k b) (k + 1)).trans rfl
@[simp] theorem State.hwrs_trim (s : State) (k : Nat) (bs : List Byte) : (s.hwrs k bs).trim = s.trim := by
  induction bs generalizing s k with
  | nil => rfl
  | cons b bs ih => exact (ih (s.hwr k b) (k + 1)).trans rfl
@[simp] theorem State.hwrs_pkgOuts (s : State) (k : Nat) (bs : List Byte) : (s.hwrs k bs).pkgOuts = s.pkgOuts := by
  induction bs generalizing s k with
  | nil => rfl
  | cons b bs ih => exact (ih (s.hwr k b) (k + 1)).trans rfl
@[simp] theorem State.hwrs_failed (s : State) (k : Nat) (bs : List Byte) : (s.hwrs k bs).failed = s.failed := by
  induction bs generalizing s k with
  | nil => rfl
  | cons b bs ih => exact (ih (s.hwr k b) (k + 1)).trans rfl
@[simp] theorem State.hwrs_knownBad (s : State) (k : Nat) (bs : List Byte) : (s.hwrs k bs).knownBad = s.knownBad := by
  induction bs generalizing s k with
  | nil => rfl
  | cons b bs ih => exact (ih (s.hwr k b) (k + 1)).trans rfl
@[simp] theorem State.hwrs_nvmKnownBad (s : State) (k : Nat) (bs : List Byte) : (s.hwrs k bs).nvmKnownBad = s.nvmKnownBad := by
  induction bs generalizing s k with
  | nil => rfl
  | cons b bs ih => exact (ih (s.hwr k b) (k + 1)).trans rfl
@[simp] theorem State.hwrs_recalWindow (s : State) (k : Nat) (bs : List Byte) : (s.hwrs k bs).recalWindow = s.recalWindow := by
  induction bs generalizing s k with
  | nil => rfl
  | cons b bs ih => exact (ih (s.hwr k b) (k + 1)).trans rfl
@[simp] theorem State.hwrs_pwr (s : State) (k : Nat) (bs : List Byte) : (s.hwrs k bs).pwr = s.pwr := by
  induction bs generalizing s k with
  | nil => rfl
  | cons b bs ih => exact (ih (s.hwr k b) (k + 1)).trans rfl
@[simp] theorem State.hwrs_errs (s : State) (k : Nat) (bs : List Byte) : (s.hwrs k bs).errs = s.errs := by
  induction bs generalizing s k with
  | nil => rfl
  | cons b bs ih => exact (ih (s.hwr k b) (k + 1)).trans rfl
@[simp] theorem State.hwrs_mem (s : State) (k : Nat) (bs : List Byte) : (s.hwrs k bs).mem = s.mem := by
  induction bs generalizing s k with
  | nil => rfl
  | cons b bs ih => exact (ih (s.hwr k b) (k + 1)).trans rfl
@[simp] theorem State.hwrs_lost (s : State) (k : Nat) (bs : List Byte) : (s.hwrs k bs).lost = s.lost := by
  induction bs generalizing s k with
  | nil => rfl
  | cons b bs ih => exact (ih (s.hwr k b) (k + 1)).trans rfl
@[simp] theorem State.hwrs_zeroed (s : State) (k : Nat) (bs : List Byte) : (s.hwrs k bs).zeroed = s.zeroed := by
  induction bs generalizing s k with
  | nil => rfl
  | cons b bs ih => exact (ih (s.hwr k b) (k + 1)).trans rfl
@[simp] theorem State.hwrs_bad (s : State) (k : Nat) (bs : List Byte) : (s.hwrs k bs).bad = s.bad := by
  induction bs generalizing s k with
  | nil => rfl
  | cons b bs ih => exact (ih (s.hwr k b) (k + 1)).trans rfl
@[simp] theorem State.hwrs_weak (s : State) (k : Nat) (bs : List Byte) : (s.hwrs k bs).weak = s.weak := by
  induction bs generalizing s k with
  | nil => rfl
  | cons b bs ih => exact (ih (s.hwr k b) (k + 1)).trans rfl
@[simp] theorem State.hwrs_hostFaults (s : State) (k : Nat) (bs : List Byte) : (s.hwrs k bs).hostFaults = s.hostFaults := by
  induction bs generalizing s k with
  | nil => rfl
  | cons b bs ih => exact (ih (s.hwr k b) (k + 1)).trans rfl
@[simp] theorem State.hwrs_sec (s : State) (k : Nat) (bs : List Byte) : (s.hwrs k bs).sec = s.sec := by
  induction bs generalizing s k with
  | nil => rfl
  | cons b bs ih => exact (ih (s.hwr k b) (k + 1)).trans rfl
@[simp] theorem State.hwrs_hps (s : State) (k : Nat) (bs : List Byte) : (s.hwrs k bs).hps = s.hps := by
  induction bs generalizing s k with
  | nil => rfl
  | cons b bs ih => exact (ih (s.hwr k b) (k + 1)).trans rfl
@[simp] theorem State.hwrs_rwt (s : State) (k : Nat) (bs : List Byte) : (s.hwrs k bs).rwt = s.rwt := by
  induction bs generalizing s k with
  | nil => rfl
  | cons b bs ih => exact (ih (s.hwr k b) (k + 1)).trans rfl
@[simp] theorem State.hwrs_brim (s : State) (k : Nat) (bs : List Byte) : (s.hwrs k bs).brim = s.brim := by
  induction bs generalizing s k with
  | nil => rfl
  | cons b bs ih => exact (ih (s.hwr k b) (k + 1)).trans rfl
@[simp] theorem State.hwrs_tcs (s : State) (k : Nat) (bs : List Byte) : (s.hwrs k bs).tcs = s.tcs := by
  induction bs generalizing s k with
  | nil => rfl
  | cons b bs ih => exact (ih (s.hwr k b) (k + 1)).trans rfl
@[simp] theorem State.hwrs_pins (s : State) (k : Nat) (bs : List Byte) : (s.hwrs k bs).pins = s.pins := by
  induction bs generalizing s k with
  | nil => rfl
  | cons b bs ih => exact (ih (s.hwr k b) (k + 1)).trans rfl
@[simp] theorem State.hwrs_out (s : State) (k : Nat) (bs : List Byte) : (s.hwrs k bs).out = s.out := by
  induction bs generalizing s k with
  | nil => rfl
  | cons b bs ih => exact (ih (s.hwr k b) (k + 1)).trans rfl
@[simp] theorem State.hwrs_draws (s : State) (k : Nat) (bs : List Byte) : (s.hwrs k bs).draws = s.draws := by
  induction bs generalizing s k with
  | nil => rfl
  | cons b bs ih => exact (ih (s.hwr k b) (k + 1)).trans rfl
@[simp] theorem State.hwrs_pending (s : State) (k : Nat) (bs : List Byte) : (s.hwrs k bs).pending = s.pending := by
  induction bs generalizing s k with
  | nil => rfl
  | cons b bs ih => exact (ih (s.hwr k b) (k + 1)).trans rfl
@[simp] theorem State.hwrs_reg (s : State) (k : Nat) (bs : List Byte) (j : Nat) : (s.hwrs k bs).reg j = s.reg j := by simp [State.reg]
@[simp] theorem State.hwrs_fld (s : State) (k : Nat) (bs : List Byte) (gp : Nat) (fl : Fld) : (s.hwrs k bs).fld gp fl = s.fld gp fl := by simp [State.fld]

/-! ### lose -/

@[simp] theorem State.lose_regs (s : State) (base len : Nat) : (s.lose base len).regs = s.regs := (rfl)
@[simp] theorem State.lose_shape (s : State) (base len : Nat) : (s.lose base len).shape = s.shape := (rfl)
@[simp] theorem State.lose_stroke (s : State) (base len : Nat) : (s.lose base len).stroke = s.stroke := (rfl)
@[simp] theorem State.lose_cal (s : State) (base len : Nat) : (s.lose base len).cal = s.cal := (rfl)
@[simp] theorem State.lose_rings (s : State) (base len : Nat) : (s.lose base len).rings = s.rings := (rfl)
@[simp] theorem State.lose_cmds (s : State) (base len : Nat) : (s.lose base len).cmds = s.cmds := (rfl)
@[simp] theorem State.lose_fetches (s : State) (base len : Nat) : (s.lose base len).fetches = s.fetches := (rfl)
@[simp] theorem State.lose_rrLast (s : State) (base len : Nat) : (s.lose base len).rrLast = s.rrLast := (rfl)
@[simp] theorem State.lose_starts (s : State) (base len : Nat) : (s.lose base len).starts = s.starts := (rfl)
@[simp] theorem State.lose_fulLast (s : State) (base len : Nat) : (s.lose base len).fulLast = s.fulLast := (rfl)
@[simp] theorem State.lose_ctxs (s : State) (base len : Nat) : (s.lose base len).ctxs = s.ctxs := (rfl)
@[simp] theorem State.lose_parts (s : State) (base len : Nat) : (s.lose base len).parts = s.parts := (rfl)
@[simp] theorem State.lose_chans (s : State) (base len : Nat) : (s.lose base len).chans = s.chans := (rfl)
@[simp] theorem State.lose_stks (s : State) (base len : Nat) : (s.lose base len).stks = s.stks := (rfl)
@[simp] theorem State.lose_vcs (s : State) (base len : Nat) : (s.lose base len).vcs = s.vcs := (rfl)
@[simp] theorem State.lose_kvMoves (s : State) (base len : Nat) : (s.lose base len).kvMoves = s.kvMoves := (rfl)
@[simp] theorem State.lose_kvLimbo (s : State) (base len : Nat) : (s.lose base len).kvLimbo = s.kvLimbo := (rfl)
@[simp] theorem State.lose_kvParked (s : State) (base len : Nat) : (s.lose base len).kvParked = s.kvParked := (rfl)
@[simp] theorem State.lose_frames (s : State) (base len : Nat) : (s.lose base len).frames = s.frames := (rfl)
@[simp] theorem State.lose_trim (s : State) (base len : Nat) : (s.lose base len).trim = s.trim := (rfl)
@[simp] theorem State.lose_pkgOuts (s : State) (base len : Nat) : (s.lose base len).pkgOuts = s.pkgOuts := (rfl)
@[simp] theorem State.lose_failed (s : State) (base len : Nat) : (s.lose base len).failed = s.failed := (rfl)
@[simp] theorem State.lose_knownBad (s : State) (base len : Nat) : (s.lose base len).knownBad = s.knownBad := (rfl)
@[simp] theorem State.lose_nvmKnownBad (s : State) (base len : Nat) : (s.lose base len).nvmKnownBad = s.nvmKnownBad := (rfl)
@[simp] theorem State.lose_recalWindow (s : State) (base len : Nat) : (s.lose base len).recalWindow = s.recalWindow := (rfl)
@[simp] theorem State.lose_pwr (s : State) (base len : Nat) : (s.lose base len).pwr = s.pwr := (rfl)
@[simp] theorem State.lose_errs (s : State) (base len : Nat) : (s.lose base len).errs = s.errs := (rfl)
@[simp] theorem State.lose_zeroed (s : State) (base len : Nat) : (s.lose base len).zeroed = s.zeroed := (rfl)
@[simp] theorem State.lose_host (s : State) (base len : Nat) : (s.lose base len).host = s.host := (rfl)
@[simp] theorem State.lose_hostFaults (s : State) (base len : Nat) : (s.lose base len).hostFaults = s.hostFaults := (rfl)
@[simp] theorem State.lose_sec (s : State) (base len : Nat) : (s.lose base len).sec = s.sec := (rfl)
@[simp] theorem State.lose_hps (s : State) (base len : Nat) : (s.lose base len).hps = s.hps := (rfl)
@[simp] theorem State.lose_rwt (s : State) (base len : Nat) : (s.lose base len).rwt = s.rwt := (rfl)
@[simp] theorem State.lose_brim (s : State) (base len : Nat) : (s.lose base len).brim = s.brim := (rfl)
@[simp] theorem State.lose_tcs (s : State) (base len : Nat) : (s.lose base len).tcs = s.tcs := (rfl)
@[simp] theorem State.lose_pins (s : State) (base len : Nat) : (s.lose base len).pins = s.pins := (rfl)
@[simp] theorem State.lose_out (s : State) (base len : Nat) : (s.lose base len).out = s.out := (rfl)
@[simp] theorem State.lose_draws (s : State) (base len : Nat) : (s.lose base len).draws = s.draws := (rfl)
@[simp] theorem State.lose_pending (s : State) (base len : Nat) : (s.lose base len).pending = s.pending := (rfl)
@[simp] theorem State.lose_reg (s : State) (base len : Nat) (j : Nat) : (s.lose base len).reg j = s.reg j := (rfl)
@[simp] theorem State.lose_fld (s : State) (base len : Nat) (gp : Nat) (fl : Fld) : (s.lose base len).fld gp fl = s.fld gp fl := (rfl)

/-! ### zeroHbm -/

@[simp] theorem State.zeroHbm_regs (s : State) : (s.zeroHbm).regs = s.regs := (rfl)
@[simp] theorem State.zeroHbm_shape (s : State) : (s.zeroHbm).shape = s.shape := (rfl)
@[simp] theorem State.zeroHbm_stroke (s : State) : (s.zeroHbm).stroke = s.stroke := (rfl)
@[simp] theorem State.zeroHbm_cal (s : State) : (s.zeroHbm).cal = s.cal := (rfl)
@[simp] theorem State.zeroHbm_rings (s : State) : (s.zeroHbm).rings = s.rings := (rfl)
@[simp] theorem State.zeroHbm_cmds (s : State) : (s.zeroHbm).cmds = s.cmds := (rfl)
@[simp] theorem State.zeroHbm_fetches (s : State) : (s.zeroHbm).fetches = s.fetches := (rfl)
@[simp] theorem State.zeroHbm_rrLast (s : State) : (s.zeroHbm).rrLast = s.rrLast := (rfl)
@[simp] theorem State.zeroHbm_starts (s : State) : (s.zeroHbm).starts = s.starts := (rfl)
@[simp] theorem State.zeroHbm_fulLast (s : State) : (s.zeroHbm).fulLast = s.fulLast := (rfl)
@[simp] theorem State.zeroHbm_ctxs (s : State) : (s.zeroHbm).ctxs = s.ctxs := (rfl)
@[simp] theorem State.zeroHbm_parts (s : State) : (s.zeroHbm).parts = s.parts := (rfl)
@[simp] theorem State.zeroHbm_chans (s : State) : (s.zeroHbm).chans = s.chans := (rfl)
@[simp] theorem State.zeroHbm_stks (s : State) : (s.zeroHbm).stks = s.stks := (rfl)
@[simp] theorem State.zeroHbm_vcs (s : State) : (s.zeroHbm).vcs = s.vcs := (rfl)
@[simp] theorem State.zeroHbm_kvMoves (s : State) : (s.zeroHbm).kvMoves = s.kvMoves := (rfl)
@[simp] theorem State.zeroHbm_kvLimbo (s : State) : (s.zeroHbm).kvLimbo = s.kvLimbo := (rfl)
@[simp] theorem State.zeroHbm_kvParked (s : State) : (s.zeroHbm).kvParked = s.kvParked := (rfl)
@[simp] theorem State.zeroHbm_frames (s : State) : (s.zeroHbm).frames = s.frames := (rfl)
@[simp] theorem State.zeroHbm_trim (s : State) : (s.zeroHbm).trim = s.trim := (rfl)
@[simp] theorem State.zeroHbm_pkgOuts (s : State) : (s.zeroHbm).pkgOuts = s.pkgOuts := (rfl)
@[simp] theorem State.zeroHbm_failed (s : State) : (s.zeroHbm).failed = s.failed := (rfl)
@[simp] theorem State.zeroHbm_knownBad (s : State) : (s.zeroHbm).knownBad = s.knownBad := (rfl)
@[simp] theorem State.zeroHbm_nvmKnownBad (s : State) : (s.zeroHbm).nvmKnownBad = s.nvmKnownBad := (rfl)
@[simp] theorem State.zeroHbm_recalWindow (s : State) : (s.zeroHbm).recalWindow = s.recalWindow := (rfl)
@[simp] theorem State.zeroHbm_pwr (s : State) : (s.zeroHbm).pwr = s.pwr := (rfl)
@[simp] theorem State.zeroHbm_errs (s : State) : (s.zeroHbm).errs = s.errs := (rfl)
@[simp] theorem State.zeroHbm_lost (s : State) : (s.zeroHbm).lost = s.lost := (rfl)
@[simp] theorem State.zeroHbm_weak (s : State) : (s.zeroHbm).weak = s.weak := (rfl)
@[simp] theorem State.zeroHbm_host (s : State) : (s.zeroHbm).host = s.host := (rfl)
@[simp] theorem State.zeroHbm_hostFaults (s : State) : (s.zeroHbm).hostFaults = s.hostFaults := (rfl)
@[simp] theorem State.zeroHbm_sec (s : State) : (s.zeroHbm).sec = s.sec := (rfl)
@[simp] theorem State.zeroHbm_hps (s : State) : (s.zeroHbm).hps = s.hps := (rfl)
@[simp] theorem State.zeroHbm_rwt (s : State) : (s.zeroHbm).rwt = s.rwt := (rfl)
@[simp] theorem State.zeroHbm_brim (s : State) : (s.zeroHbm).brim = s.brim := (rfl)
@[simp] theorem State.zeroHbm_tcs (s : State) : (s.zeroHbm).tcs = s.tcs := (rfl)
@[simp] theorem State.zeroHbm_pins (s : State) : (s.zeroHbm).pins = s.pins := (rfl)
@[simp] theorem State.zeroHbm_out (s : State) : (s.zeroHbm).out = s.out := (rfl)
@[simp] theorem State.zeroHbm_draws (s : State) : (s.zeroHbm).draws = s.draws := (rfl)
@[simp] theorem State.zeroHbm_pending (s : State) : (s.zeroHbm).pending = s.pending := (rfl)
@[simp] theorem State.zeroHbm_reg (s : State) (j : Nat) : (s.zeroHbm).reg j = s.reg j := (rfl)
@[simp] theorem State.zeroHbm_fld (s : State) (gp : Nat) (fl : Fld) : (s.zeroHbm).fld gp fl = s.fld gp fl := (rfl)

/-! ### setCtx -/

@[simp] theorem State.setCtx_regs (s : State) (p c : Nat) (x : Ctx) : (s.setCtx p c x).regs = s.regs := (rfl)
@[simp] theorem State.setCtx_shape (s : State) (p c : Nat) (x : Ctx) : (s.setCtx p c x).shape = s.shape := (rfl)
@[simp] theorem State.setCtx_stroke (s : State) (p c : Nat) (x : Ctx) : (s.setCtx p c x).stroke = s.stroke := (rfl)
@[simp] theorem State.setCtx_cal (s : State) (p c : Nat) (x : Ctx) : (s.setCtx p c x).cal = s.cal := (rfl)
@[simp] theorem State.setCtx_rings (s : State) (p c : Nat) (x : Ctx) : (s.setCtx p c x).rings = s.rings := (rfl)
@[simp] theorem State.setCtx_cmds (s : State) (p c : Nat) (x : Ctx) : (s.setCtx p c x).cmds = s.cmds := (rfl)
@[simp] theorem State.setCtx_fetches (s : State) (p c : Nat) (x : Ctx) : (s.setCtx p c x).fetches = s.fetches := (rfl)
@[simp] theorem State.setCtx_rrLast (s : State) (p c : Nat) (x : Ctx) : (s.setCtx p c x).rrLast = s.rrLast := (rfl)
@[simp] theorem State.setCtx_starts (s : State) (p c : Nat) (x : Ctx) : (s.setCtx p c x).starts = s.starts := (rfl)
@[simp] theorem State.setCtx_fulLast (s : State) (p c : Nat) (x : Ctx) : (s.setCtx p c x).fulLast = s.fulLast := (rfl)
@[simp] theorem State.setCtx_parts (s : State) (p c : Nat) (x : Ctx) : (s.setCtx p c x).parts = s.parts := (rfl)
@[simp] theorem State.setCtx_chans (s : State) (p c : Nat) (x : Ctx) : (s.setCtx p c x).chans = s.chans := (rfl)
@[simp] theorem State.setCtx_stks (s : State) (p c : Nat) (x : Ctx) : (s.setCtx p c x).stks = s.stks := (rfl)
@[simp] theorem State.setCtx_vcs (s : State) (p c : Nat) (x : Ctx) : (s.setCtx p c x).vcs = s.vcs := (rfl)
@[simp] theorem State.setCtx_kvMoves (s : State) (p c : Nat) (x : Ctx) : (s.setCtx p c x).kvMoves = s.kvMoves := (rfl)
@[simp] theorem State.setCtx_kvLimbo (s : State) (p c : Nat) (x : Ctx) : (s.setCtx p c x).kvLimbo = s.kvLimbo := (rfl)
@[simp] theorem State.setCtx_kvParked (s : State) (p c : Nat) (x : Ctx) : (s.setCtx p c x).kvParked = s.kvParked := (rfl)
@[simp] theorem State.setCtx_frames (s : State) (p c : Nat) (x : Ctx) : (s.setCtx p c x).frames = s.frames := (rfl)
@[simp] theorem State.setCtx_trim (s : State) (p c : Nat) (x : Ctx) : (s.setCtx p c x).trim = s.trim := (rfl)
@[simp] theorem State.setCtx_pkgOuts (s : State) (p c : Nat) (x : Ctx) : (s.setCtx p c x).pkgOuts = s.pkgOuts := (rfl)
@[simp] theorem State.setCtx_failed (s : State) (p c : Nat) (x : Ctx) : (s.setCtx p c x).failed = s.failed := (rfl)
@[simp] theorem State.setCtx_knownBad (s : State) (p c : Nat) (x : Ctx) : (s.setCtx p c x).knownBad = s.knownBad := (rfl)
@[simp] theorem State.setCtx_nvmKnownBad (s : State) (p c : Nat) (x : Ctx) : (s.setCtx p c x).nvmKnownBad = s.nvmKnownBad := (rfl)
@[simp] theorem State.setCtx_recalWindow (s : State) (p c : Nat) (x : Ctx) : (s.setCtx p c x).recalWindow = s.recalWindow := (rfl)
@[simp] theorem State.setCtx_pwr (s : State) (p c : Nat) (x : Ctx) : (s.setCtx p c x).pwr = s.pwr := (rfl)
@[simp] theorem State.setCtx_errs (s : State) (p c : Nat) (x : Ctx) : (s.setCtx p c x).errs = s.errs := (rfl)
@[simp] theorem State.setCtx_mem (s : State) (p c : Nat) (x : Ctx) : (s.setCtx p c x).mem = s.mem := (rfl)
@[simp] theorem State.setCtx_lost (s : State) (p c : Nat) (x : Ctx) : (s.setCtx p c x).lost = s.lost := (rfl)
@[simp] theorem State.setCtx_zeroed (s : State) (p c : Nat) (x : Ctx) : (s.setCtx p c x).zeroed = s.zeroed := (rfl)
@[simp] theorem State.setCtx_bad (s : State) (p c : Nat) (x : Ctx) : (s.setCtx p c x).bad = s.bad := (rfl)
@[simp] theorem State.setCtx_weak (s : State) (p c : Nat) (x : Ctx) : (s.setCtx p c x).weak = s.weak := (rfl)
@[simp] theorem State.setCtx_host (s : State) (p c : Nat) (x : Ctx) : (s.setCtx p c x).host = s.host := (rfl)
@[simp] theorem State.setCtx_hostFaults (s : State) (p c : Nat) (x : Ctx) : (s.setCtx p c x).hostFaults = s.hostFaults := (rfl)
@[simp] theorem State.setCtx_sec (s : State) (p c : Nat) (x : Ctx) : (s.setCtx p c x).sec = s.sec := (rfl)
@[simp] theorem State.setCtx_hps (s : State) (p c : Nat) (x : Ctx) : (s.setCtx p c x).hps = s.hps := (rfl)
@[simp] theorem State.setCtx_rwt (s : State) (p c : Nat) (x : Ctx) : (s.setCtx p c x).rwt = s.rwt := (rfl)
@[simp] theorem State.setCtx_brim (s : State) (p c : Nat) (x : Ctx) : (s.setCtx p c x).brim = s.brim := (rfl)
@[simp] theorem State.setCtx_tcs (s : State) (p c : Nat) (x : Ctx) : (s.setCtx p c x).tcs = s.tcs := (rfl)
@[simp] theorem State.setCtx_pins (s : State) (p c : Nat) (x : Ctx) : (s.setCtx p c x).pins = s.pins := (rfl)
@[simp] theorem State.setCtx_out (s : State) (p c : Nat) (x : Ctx) : (s.setCtx p c x).out = s.out := (rfl)
@[simp] theorem State.setCtx_draws (s : State) (p c : Nat) (x : Ctx) : (s.setCtx p c x).draws = s.draws := (rfl)
@[simp] theorem State.setCtx_pending (s : State) (p c : Nat) (x : Ctx) : (s.setCtx p c x).pending = s.pending := (rfl)
@[simp] theorem State.setCtx_reg (s : State) (p c : Nat) (x : Ctx) (j : Nat) : (s.setCtx p c x).reg j = s.reg j := (rfl)
@[simp] theorem State.setCtx_fld (s : State) (p c : Nat) (x : Ctx) (gp : Nat) (fl : Fld) : (s.setCtx p c x).fld gp fl = s.fld gp fl := (rfl)

/-! ### modCtx -/

@[simp] theorem State.modCtx_regs (s : State) (p c : Nat) (f : Ctx → Ctx) : (s.modCtx p c f).regs = s.regs := (rfl)
@[simp] theorem State.modCtx_shape (s : State) (p c : Nat) (f : Ctx → Ctx) : (s.modCtx p c f).shape = s.shape := (rfl)
@[simp] theorem State.modCtx_stroke (s : State) (p c : Nat) (f : Ctx → Ctx) : (s.modCtx p c f).stroke = s.stroke := (rfl)
@[simp] theorem State.modCtx_cal (s : State) (p c : Nat) (f : Ctx → Ctx) : (s.modCtx p c f).cal = s.cal := (rfl)
@[simp] theorem State.modCtx_rings (s : State) (p c : Nat) (f : Ctx → Ctx) : (s.modCtx p c f).rings = s.rings := (rfl)
@[simp] theorem State.modCtx_cmds (s : State) (p c : Nat) (f : Ctx → Ctx) : (s.modCtx p c f).cmds = s.cmds := (rfl)
@[simp] theorem State.modCtx_fetches (s : State) (p c : Nat) (f : Ctx → Ctx) : (s.modCtx p c f).fetches = s.fetches := (rfl)
@[simp] theorem State.modCtx_rrLast (s : State) (p c : Nat) (f : Ctx → Ctx) : (s.modCtx p c f).rrLast = s.rrLast := (rfl)
@[simp] theorem State.modCtx_starts (s : State) (p c : Nat) (f : Ctx → Ctx) : (s.modCtx p c f).starts = s.starts := (rfl)
@[simp] theorem State.modCtx_fulLast (s : State) (p c : Nat) (f : Ctx → Ctx) : (s.modCtx p c f).fulLast = s.fulLast := (rfl)
@[simp] theorem State.modCtx_parts (s : State) (p c : Nat) (f : Ctx → Ctx) : (s.modCtx p c f).parts = s.parts := (rfl)
@[simp] theorem State.modCtx_chans (s : State) (p c : Nat) (f : Ctx → Ctx) : (s.modCtx p c f).chans = s.chans := (rfl)
@[simp] theorem State.modCtx_stks (s : State) (p c : Nat) (f : Ctx → Ctx) : (s.modCtx p c f).stks = s.stks := (rfl)
@[simp] theorem State.modCtx_vcs (s : State) (p c : Nat) (f : Ctx → Ctx) : (s.modCtx p c f).vcs = s.vcs := (rfl)
@[simp] theorem State.modCtx_kvMoves (s : State) (p c : Nat) (f : Ctx → Ctx) : (s.modCtx p c f).kvMoves = s.kvMoves := (rfl)
@[simp] theorem State.modCtx_kvLimbo (s : State) (p c : Nat) (f : Ctx → Ctx) : (s.modCtx p c f).kvLimbo = s.kvLimbo := (rfl)
@[simp] theorem State.modCtx_kvParked (s : State) (p c : Nat) (f : Ctx → Ctx) : (s.modCtx p c f).kvParked = s.kvParked := (rfl)
@[simp] theorem State.modCtx_frames (s : State) (p c : Nat) (f : Ctx → Ctx) : (s.modCtx p c f).frames = s.frames := (rfl)
@[simp] theorem State.modCtx_trim (s : State) (p c : Nat) (f : Ctx → Ctx) : (s.modCtx p c f).trim = s.trim := (rfl)
@[simp] theorem State.modCtx_pkgOuts (s : State) (p c : Nat) (f : Ctx → Ctx) : (s.modCtx p c f).pkgOuts = s.pkgOuts := (rfl)
@[simp] theorem State.modCtx_failed (s : State) (p c : Nat) (f : Ctx → Ctx) : (s.modCtx p c f).failed = s.failed := (rfl)
@[simp] theorem State.modCtx_knownBad (s : State) (p c : Nat) (f : Ctx → Ctx) : (s.modCtx p c f).knownBad = s.knownBad := (rfl)
@[simp] theorem State.modCtx_nvmKnownBad (s : State) (p c : Nat) (f : Ctx → Ctx) : (s.modCtx p c f).nvmKnownBad = s.nvmKnownBad := (rfl)
@[simp] theorem State.modCtx_recalWindow (s : State) (p c : Nat) (f : Ctx → Ctx) : (s.modCtx p c f).recalWindow = s.recalWindow := (rfl)
@[simp] theorem State.modCtx_pwr (s : State) (p c : Nat) (f : Ctx → Ctx) : (s.modCtx p c f).pwr = s.pwr := (rfl)
@[simp] theorem State.modCtx_errs (s : State) (p c : Nat) (f : Ctx → Ctx) : (s.modCtx p c f).errs = s.errs := (rfl)
@[simp] theorem State.modCtx_mem (s : State) (p c : Nat) (f : Ctx → Ctx) : (s.modCtx p c f).mem = s.mem := (rfl)
@[simp] theorem State.modCtx_lost (s : State) (p c : Nat) (f : Ctx → Ctx) : (s.modCtx p c f).lost = s.lost := (rfl)
@[simp] theorem State.modCtx_zeroed (s : State) (p c : Nat) (f : Ctx → Ctx) : (s.modCtx p c f).zeroed = s.zeroed := (rfl)
@[simp] theorem State.modCtx_bad (s : State) (p c : Nat) (f : Ctx → Ctx) : (s.modCtx p c f).bad = s.bad := (rfl)
@[simp] theorem State.modCtx_weak (s : State) (p c : Nat) (f : Ctx → Ctx) : (s.modCtx p c f).weak = s.weak := (rfl)
@[simp] theorem State.modCtx_host (s : State) (p c : Nat) (f : Ctx → Ctx) : (s.modCtx p c f).host = s.host := (rfl)
@[simp] theorem State.modCtx_hostFaults (s : State) (p c : Nat) (f : Ctx → Ctx) : (s.modCtx p c f).hostFaults = s.hostFaults := (rfl)
@[simp] theorem State.modCtx_sec (s : State) (p c : Nat) (f : Ctx → Ctx) : (s.modCtx p c f).sec = s.sec := (rfl)
@[simp] theorem State.modCtx_hps (s : State) (p c : Nat) (f : Ctx → Ctx) : (s.modCtx p c f).hps = s.hps := (rfl)
@[simp] theorem State.modCtx_rwt (s : State) (p c : Nat) (f : Ctx → Ctx) : (s.modCtx p c f).rwt = s.rwt := (rfl)
@[simp] theorem State.modCtx_brim (s : State) (p c : Nat) (f : Ctx → Ctx) : (s.modCtx p c f).brim = s.brim := (rfl)
@[simp] theorem State.modCtx_tcs (s : State) (p c : Nat) (f : Ctx → Ctx) : (s.modCtx p c f).tcs = s.tcs := (rfl)
@[simp] theorem State.modCtx_pins (s : State) (p c : Nat) (f : Ctx → Ctx) : (s.modCtx p c f).pins = s.pins := (rfl)
@[simp] theorem State.modCtx_out (s : State) (p c : Nat) (f : Ctx → Ctx) : (s.modCtx p c f).out = s.out := (rfl)
@[simp] theorem State.modCtx_draws (s : State) (p c : Nat) (f : Ctx → Ctx) : (s.modCtx p c f).draws = s.draws := (rfl)
@[simp] theorem State.modCtx_pending (s : State) (p c : Nat) (f : Ctx → Ctx) : (s.modCtx p c f).pending = s.pending := (rfl)
@[simp] theorem State.modCtx_reg (s : State) (p c : Nat) (f : Ctx → Ctx) (j : Nat) : (s.modCtx p c f).reg j = s.reg j := (rfl)
@[simp] theorem State.modCtx_fld (s : State) (p c : Nat) (f : Ctx → Ctx) (gp : Nat) (fl : Fld) : (s.modCtx p c f).fld gp fl = s.fld gp fl := (rfl)

/-! ### modPart -/

@[simp] theorem State.modPart_regs (s : State) (p : Nat) (f : Part → Part) : (s.modPart p f).regs = s.regs := (rfl)
@[simp] theorem State.modPart_shape (s : State) (p : Nat) (f : Part → Part) : (s.modPart p f).shape = s.shape := (rfl)
@[simp] theorem State.modPart_stroke (s : State) (p : Nat) (f : Part → Part) : (s.modPart p f).stroke = s.stroke := (rfl)
@[simp] theorem State.modPart_cal (s : State) (p : Nat) (f : Part → Part) : (s.modPart p f).cal = s.cal := (rfl)
@[simp] theorem State.modPart_rings (s : State) (p : Nat) (f : Part → Part) : (s.modPart p f).rings = s.rings := (rfl)
@[simp] theorem State.modPart_cmds (s : State) (p : Nat) (f : Part → Part) : (s.modPart p f).cmds = s.cmds := (rfl)
@[simp] theorem State.modPart_fetches (s : State) (p : Nat) (f : Part → Part) : (s.modPart p f).fetches = s.fetches := (rfl)
@[simp] theorem State.modPart_rrLast (s : State) (p : Nat) (f : Part → Part) : (s.modPart p f).rrLast = s.rrLast := (rfl)
@[simp] theorem State.modPart_starts (s : State) (p : Nat) (f : Part → Part) : (s.modPart p f).starts = s.starts := (rfl)
@[simp] theorem State.modPart_fulLast (s : State) (p : Nat) (f : Part → Part) : (s.modPart p f).fulLast = s.fulLast := (rfl)
@[simp] theorem State.modPart_ctxs (s : State) (p : Nat) (f : Part → Part) : (s.modPart p f).ctxs = s.ctxs := (rfl)
@[simp] theorem State.modPart_chans (s : State) (p : Nat) (f : Part → Part) : (s.modPart p f).chans = s.chans := (rfl)
@[simp] theorem State.modPart_stks (s : State) (p : Nat) (f : Part → Part) : (s.modPart p f).stks = s.stks := (rfl)
@[simp] theorem State.modPart_vcs (s : State) (p : Nat) (f : Part → Part) : (s.modPart p f).vcs = s.vcs := (rfl)
@[simp] theorem State.modPart_kvMoves (s : State) (p : Nat) (f : Part → Part) : (s.modPart p f).kvMoves = s.kvMoves := (rfl)
@[simp] theorem State.modPart_kvLimbo (s : State) (p : Nat) (f : Part → Part) : (s.modPart p f).kvLimbo = s.kvLimbo := (rfl)
@[simp] theorem State.modPart_kvParked (s : State) (p : Nat) (f : Part → Part) : (s.modPart p f).kvParked = s.kvParked := (rfl)
@[simp] theorem State.modPart_frames (s : State) (p : Nat) (f : Part → Part) : (s.modPart p f).frames = s.frames := (rfl)
@[simp] theorem State.modPart_trim (s : State) (p : Nat) (f : Part → Part) : (s.modPart p f).trim = s.trim := (rfl)
@[simp] theorem State.modPart_pkgOuts (s : State) (p : Nat) (f : Part → Part) : (s.modPart p f).pkgOuts = s.pkgOuts := (rfl)
@[simp] theorem State.modPart_failed (s : State) (p : Nat) (f : Part → Part) : (s.modPart p f).failed = s.failed := (rfl)
@[simp] theorem State.modPart_knownBad (s : State) (p : Nat) (f : Part → Part) : (s.modPart p f).knownBad = s.knownBad := (rfl)
@[simp] theorem State.modPart_nvmKnownBad (s : State) (p : Nat) (f : Part → Part) : (s.modPart p f).nvmKnownBad = s.nvmKnownBad := (rfl)
@[simp] theorem State.modPart_recalWindow (s : State) (p : Nat) (f : Part → Part) : (s.modPart p f).recalWindow = s.recalWindow := (rfl)
@[simp] theorem State.modPart_pwr (s : State) (p : Nat) (f : Part → Part) : (s.modPart p f).pwr = s.pwr := (rfl)
@[simp] theorem State.modPart_errs (s : State) (p : Nat) (f : Part → Part) : (s.modPart p f).errs = s.errs := (rfl)
@[simp] theorem State.modPart_mem (s : State) (p : Nat) (f : Part → Part) : (s.modPart p f).mem = s.mem := (rfl)
@[simp] theorem State.modPart_lost (s : State) (p : Nat) (f : Part → Part) : (s.modPart p f).lost = s.lost := (rfl)
@[simp] theorem State.modPart_zeroed (s : State) (p : Nat) (f : Part → Part) : (s.modPart p f).zeroed = s.zeroed := (rfl)
@[simp] theorem State.modPart_bad (s : State) (p : Nat) (f : Part → Part) : (s.modPart p f).bad = s.bad := (rfl)
@[simp] theorem State.modPart_weak (s : State) (p : Nat) (f : Part → Part) : (s.modPart p f).weak = s.weak := (rfl)
@[simp] theorem State.modPart_host (s : State) (p : Nat) (f : Part → Part) : (s.modPart p f).host = s.host := (rfl)
@[simp] theorem State.modPart_hostFaults (s : State) (p : Nat) (f : Part → Part) : (s.modPart p f).hostFaults = s.hostFaults := (rfl)
@[simp] theorem State.modPart_sec (s : State) (p : Nat) (f : Part → Part) : (s.modPart p f).sec = s.sec := (rfl)
@[simp] theorem State.modPart_hps (s : State) (p : Nat) (f : Part → Part) : (s.modPart p f).hps = s.hps := (rfl)
@[simp] theorem State.modPart_rwt (s : State) (p : Nat) (f : Part → Part) : (s.modPart p f).rwt = s.rwt := (rfl)
@[simp] theorem State.modPart_brim (s : State) (p : Nat) (f : Part → Part) : (s.modPart p f).brim = s.brim := (rfl)
@[simp] theorem State.modPart_tcs (s : State) (p : Nat) (f : Part → Part) : (s.modPart p f).tcs = s.tcs := (rfl)
@[simp] theorem State.modPart_pins (s : State) (p : Nat) (f : Part → Part) : (s.modPart p f).pins = s.pins := (rfl)
@[simp] theorem State.modPart_out (s : State) (p : Nat) (f : Part → Part) : (s.modPart p f).out = s.out := (rfl)
@[simp] theorem State.modPart_draws (s : State) (p : Nat) (f : Part → Part) : (s.modPart p f).draws = s.draws := (rfl)
@[simp] theorem State.modPart_pending (s : State) (p : Nat) (f : Part → Part) : (s.modPart p f).pending = s.pending := (rfl)
@[simp] theorem State.modPart_reg (s : State) (p : Nat) (f : Part → Part) (j : Nat) : (s.modPart p f).reg j = s.reg j := (rfl)
@[simp] theorem State.modPart_fld (s : State) (p : Nat) (f : Part → Part) (gp : Nat) (fl : Fld) : (s.modPart p f).fld gp fl = s.fld gp fl := (rfl)

/-! ### setRing -/

@[simp] theorem State.setRing_regs (s : State) (r : Nat) (x : Ring) : (s.setRing r x).regs = s.regs := (rfl)
@[simp] theorem State.setRing_shape (s : State) (r : Nat) (x : Ring) : (s.setRing r x).shape = s.shape := (rfl)
@[simp] theorem State.setRing_stroke (s : State) (r : Nat) (x : Ring) : (s.setRing r x).stroke = s.stroke := (rfl)
@[simp] theorem State.setRing_cal (s : State) (r : Nat) (x : Ring) : (s.setRing r x).cal = s.cal := (rfl)
@[simp] theorem State.setRing_cmds (s : State) (r : Nat) (x : Ring) : (s.setRing r x).cmds = s.cmds := (rfl)
@[simp] theorem State.setRing_fetches (s : State) (r : Nat) (x : Ring) : (s.setRing r x).fetches = s.fetches := (rfl)
@[simp] theorem State.setRing_rrLast (s : State) (r : Nat) (x : Ring) : (s.setRing r x).rrLast = s.rrLast := (rfl)
@[simp] theorem State.setRing_starts (s : State) (r : Nat) (x : Ring) : (s.setRing r x).starts = s.starts := (rfl)
@[simp] theorem State.setRing_fulLast (s : State) (r : Nat) (x : Ring) : (s.setRing r x).fulLast = s.fulLast := (rfl)
@[simp] theorem State.setRing_ctxs (s : State) (r : Nat) (x : Ring) : (s.setRing r x).ctxs = s.ctxs := (rfl)
@[simp] theorem State.setRing_parts (s : State) (r : Nat) (x : Ring) : (s.setRing r x).parts = s.parts := (rfl)
@[simp] theorem State.setRing_chans (s : State) (r : Nat) (x : Ring) : (s.setRing r x).chans = s.chans := (rfl)
@[simp] theorem State.setRing_stks (s : State) (r : Nat) (x : Ring) : (s.setRing r x).stks = s.stks := (rfl)
@[simp] theorem State.setRing_vcs (s : State) (r : Nat) (x : Ring) : (s.setRing r x).vcs = s.vcs := (rfl)
@[simp] theorem State.setRing_kvMoves (s : State) (r : Nat) (x : Ring) : (s.setRing r x).kvMoves = s.kvMoves := (rfl)
@[simp] theorem State.setRing_kvLimbo (s : State) (r : Nat) (x : Ring) : (s.setRing r x).kvLimbo = s.kvLimbo := (rfl)
@[simp] theorem State.setRing_kvParked (s : State) (r : Nat) (x : Ring) : (s.setRing r x).kvParked = s.kvParked := (rfl)
@[simp] theorem State.setRing_frames (s : State) (r : Nat) (x : Ring) : (s.setRing r x).frames = s.frames := (rfl)
@[simp] theorem State.setRing_trim (s : State) (r : Nat) (x : Ring) : (s.setRing r x).trim = s.trim := (rfl)
@[simp] theorem State.setRing_pkgOuts (s : State) (r : Nat) (x : Ring) : (s.setRing r x).pkgOuts = s.pkgOuts := (rfl)
@[simp] theorem State.setRing_failed (s : State) (r : Nat) (x : Ring) : (s.setRing r x).failed = s.failed := (rfl)
@[simp] theorem State.setRing_knownBad (s : State) (r : Nat) (x : Ring) : (s.setRing r x).knownBad = s.knownBad := (rfl)
@[simp] theorem State.setRing_nvmKnownBad (s : State) (r : Nat) (x : Ring) : (s.setRing r x).nvmKnownBad = s.nvmKnownBad := (rfl)
@[simp] theorem State.setRing_recalWindow (s : State) (r : Nat) (x : Ring) : (s.setRing r x).recalWindow = s.recalWindow := (rfl)
@[simp] theorem State.setRing_pwr (s : State) (r : Nat) (x : Ring) : (s.setRing r x).pwr = s.pwr := (rfl)
@[simp] theorem State.setRing_errs (s : State) (r : Nat) (x : Ring) : (s.setRing r x).errs = s.errs := (rfl)
@[simp] theorem State.setRing_mem (s : State) (r : Nat) (x : Ring) : (s.setRing r x).mem = s.mem := (rfl)
@[simp] theorem State.setRing_lost (s : State) (r : Nat) (x : Ring) : (s.setRing r x).lost = s.lost := (rfl)
@[simp] theorem State.setRing_zeroed (s : State) (r : Nat) (x : Ring) : (s.setRing r x).zeroed = s.zeroed := (rfl)
@[simp] theorem State.setRing_bad (s : State) (r : Nat) (x : Ring) : (s.setRing r x).bad = s.bad := (rfl)
@[simp] theorem State.setRing_weak (s : State) (r : Nat) (x : Ring) : (s.setRing r x).weak = s.weak := (rfl)
@[simp] theorem State.setRing_host (s : State) (r : Nat) (x : Ring) : (s.setRing r x).host = s.host := (rfl)
@[simp] theorem State.setRing_hostFaults (s : State) (r : Nat) (x : Ring) : (s.setRing r x).hostFaults = s.hostFaults := (rfl)
@[simp] theorem State.setRing_sec (s : State) (r : Nat) (x : Ring) : (s.setRing r x).sec = s.sec := (rfl)
@[simp] theorem State.setRing_hps (s : State) (r : Nat) (x : Ring) : (s.setRing r x).hps = s.hps := (rfl)
@[simp] theorem State.setRing_rwt (s : State) (r : Nat) (x : Ring) : (s.setRing r x).rwt = s.rwt := (rfl)
@[simp] theorem State.setRing_brim (s : State) (r : Nat) (x : Ring) : (s.setRing r x).brim = s.brim := (rfl)
@[simp] theorem State.setRing_tcs (s : State) (r : Nat) (x : Ring) : (s.setRing r x).tcs = s.tcs := (rfl)
@[simp] theorem State.setRing_pins (s : State) (r : Nat) (x : Ring) : (s.setRing r x).pins = s.pins := (rfl)
@[simp] theorem State.setRing_out (s : State) (r : Nat) (x : Ring) : (s.setRing r x).out = s.out := (rfl)
@[simp] theorem State.setRing_draws (s : State) (r : Nat) (x : Ring) : (s.setRing r x).draws = s.draws := (rfl)
@[simp] theorem State.setRing_pending (s : State) (r : Nat) (x : Ring) : (s.setRing r x).pending = s.pending := (rfl)
@[simp] theorem State.setRing_reg (s : State) (r : Nat) (x : Ring) (j : Nat) : (s.setRing r x).reg j = s.reg j := (rfl)
@[simp] theorem State.setRing_fld (s : State) (r : Nat) (x : Ring) (gp : Nat) (fl : Fld) : (s.setRing r x).fld gp fl = s.fld gp fl := (rfl)

/-! ### modRing -/

@[simp] theorem State.modRing_regs (s : State) (r : Nat) (f : Ring → Ring) : (s.modRing r f).regs = s.regs := (rfl)
@[simp] theorem State.modRing_shape (s : State) (r : Nat) (f : Ring → Ring) : (s.modRing r f).shape = s.shape := (rfl)
@[simp] theorem State.modRing_stroke (s : State) (r : Nat) (f : Ring → Ring) : (s.modRing r f).stroke = s.stroke := (rfl)
@[simp] theorem State.modRing_cal (s : State) (r : Nat) (f : Ring → Ring) : (s.modRing r f).cal = s.cal := (rfl)
@[simp] theorem State.modRing_cmds (s : State) (r : Nat) (f : Ring → Ring) : (s.modRing r f).cmds = s.cmds := (rfl)
@[simp] theorem State.modRing_fetches (s : State) (r : Nat) (f : Ring → Ring) : (s.modRing r f).fetches = s.fetches := (rfl)
@[simp] theorem State.modRing_rrLast (s : State) (r : Nat) (f : Ring → Ring) : (s.modRing r f).rrLast = s.rrLast := (rfl)
@[simp] theorem State.modRing_starts (s : State) (r : Nat) (f : Ring → Ring) : (s.modRing r f).starts = s.starts := (rfl)
@[simp] theorem State.modRing_fulLast (s : State) (r : Nat) (f : Ring → Ring) : (s.modRing r f).fulLast = s.fulLast := (rfl)
@[simp] theorem State.modRing_ctxs (s : State) (r : Nat) (f : Ring → Ring) : (s.modRing r f).ctxs = s.ctxs := (rfl)
@[simp] theorem State.modRing_parts (s : State) (r : Nat) (f : Ring → Ring) : (s.modRing r f).parts = s.parts := (rfl)
@[simp] theorem State.modRing_chans (s : State) (r : Nat) (f : Ring → Ring) : (s.modRing r f).chans = s.chans := (rfl)
@[simp] theorem State.modRing_stks (s : State) (r : Nat) (f : Ring → Ring) : (s.modRing r f).stks = s.stks := (rfl)
@[simp] theorem State.modRing_vcs (s : State) (r : Nat) (f : Ring → Ring) : (s.modRing r f).vcs = s.vcs := (rfl)
@[simp] theorem State.modRing_kvMoves (s : State) (r : Nat) (f : Ring → Ring) : (s.modRing r f).kvMoves = s.kvMoves := (rfl)
@[simp] theorem State.modRing_kvLimbo (s : State) (r : Nat) (f : Ring → Ring) : (s.modRing r f).kvLimbo = s.kvLimbo := (rfl)
@[simp] theorem State.modRing_kvParked (s : State) (r : Nat) (f : Ring → Ring) : (s.modRing r f).kvParked = s.kvParked := (rfl)
@[simp] theorem State.modRing_frames (s : State) (r : Nat) (f : Ring → Ring) : (s.modRing r f).frames = s.frames := (rfl)
@[simp] theorem State.modRing_trim (s : State) (r : Nat) (f : Ring → Ring) : (s.modRing r f).trim = s.trim := (rfl)
@[simp] theorem State.modRing_pkgOuts (s : State) (r : Nat) (f : Ring → Ring) : (s.modRing r f).pkgOuts = s.pkgOuts := (rfl)
@[simp] theorem State.modRing_failed (s : State) (r : Nat) (f : Ring → Ring) : (s.modRing r f).failed = s.failed := (rfl)
@[simp] theorem State.modRing_knownBad (s : State) (r : Nat) (f : Ring → Ring) : (s.modRing r f).knownBad = s.knownBad := (rfl)
@[simp] theorem State.modRing_nvmKnownBad (s : State) (r : Nat) (f : Ring → Ring) : (s.modRing r f).nvmKnownBad = s.nvmKnownBad := (rfl)
@[simp] theorem State.modRing_recalWindow (s : State) (r : Nat) (f : Ring → Ring) : (s.modRing r f).recalWindow = s.recalWindow := (rfl)
@[simp] theorem State.modRing_pwr (s : State) (r : Nat) (f : Ring → Ring) : (s.modRing r f).pwr = s.pwr := (rfl)
@[simp] theorem State.modRing_errs (s : State) (r : Nat) (f : Ring → Ring) : (s.modRing r f).errs = s.errs := (rfl)
@[simp] theorem State.modRing_mem (s : State) (r : Nat) (f : Ring → Ring) : (s.modRing r f).mem = s.mem := (rfl)
@[simp] theorem State.modRing_lost (s : State) (r : Nat) (f : Ring → Ring) : (s.modRing r f).lost = s.lost := (rfl)
@[simp] theorem State.modRing_zeroed (s : State) (r : Nat) (f : Ring → Ring) : (s.modRing r f).zeroed = s.zeroed := (rfl)
@[simp] theorem State.modRing_bad (s : State) (r : Nat) (f : Ring → Ring) : (s.modRing r f).bad = s.bad := (rfl)
@[simp] theorem State.modRing_weak (s : State) (r : Nat) (f : Ring → Ring) : (s.modRing r f).weak = s.weak := (rfl)
@[simp] theorem State.modRing_host (s : State) (r : Nat) (f : Ring → Ring) : (s.modRing r f).host = s.host := (rfl)
@[simp] theorem State.modRing_hostFaults (s : State) (r : Nat) (f : Ring → Ring) : (s.modRing r f).hostFaults = s.hostFaults := (rfl)
@[simp] theorem State.modRing_sec (s : State) (r : Nat) (f : Ring → Ring) : (s.modRing r f).sec = s.sec := (rfl)
@[simp] theorem State.modRing_hps (s : State) (r : Nat) (f : Ring → Ring) : (s.modRing r f).hps = s.hps := (rfl)
@[simp] theorem State.modRing_rwt (s : State) (r : Nat) (f : Ring → Ring) : (s.modRing r f).rwt = s.rwt := (rfl)
@[simp] theorem State.modRing_brim (s : State) (r : Nat) (f : Ring → Ring) : (s.modRing r f).brim = s.brim := (rfl)
@[simp] theorem State.modRing_tcs (s : State) (r : Nat) (f : Ring → Ring) : (s.modRing r f).tcs = s.tcs := (rfl)
@[simp] theorem State.modRing_pins (s : State) (r : Nat) (f : Ring → Ring) : (s.modRing r f).pins = s.pins := (rfl)
@[simp] theorem State.modRing_out (s : State) (r : Nat) (f : Ring → Ring) : (s.modRing r f).out = s.out := (rfl)
@[simp] theorem State.modRing_draws (s : State) (r : Nat) (f : Ring → Ring) : (s.modRing r f).draws = s.draws := (rfl)
@[simp] theorem State.modRing_pending (s : State) (r : Nat) (f : Ring → Ring) : (s.modRing r f).pending = s.pending := (rfl)
@[simp] theorem State.modRing_reg (s : State) (r : Nat) (f : Ring → Ring) (j : Nat) : (s.modRing r f).reg j = s.reg j := (rfl)
@[simp] theorem State.modRing_fld (s : State) (r : Nat) (f : Ring → Ring) (gp : Nat) (fl : Fld) : (s.modRing r f).fld gp fl = s.fld gp fl := (rfl)

/-! ### modChan -/

@[simp] theorem State.modChan_regs (s : State) (c : Nat) (f : Chan → Chan) : (s.modChan c f).regs = s.regs := (rfl)
@[simp] theorem State.modChan_shape (s : State) (c : Nat) (f : Chan → Chan) : (s.modChan c f).shape = s.shape := (rfl)
@[simp] theorem State.modChan_stroke (s : State) (c : Nat) (f : Chan → Chan) : (s.modChan c f).stroke = s.stroke := (rfl)
@[simp] theorem State.modChan_cal (s : State) (c : Nat) (f : Chan → Chan) : (s.modChan c f).cal = s.cal := (rfl)
@[simp] theorem State.modChan_rings (s : State) (c : Nat) (f : Chan → Chan) : (s.modChan c f).rings = s.rings := (rfl)
@[simp] theorem State.modChan_cmds (s : State) (c : Nat) (f : Chan → Chan) : (s.modChan c f).cmds = s.cmds := (rfl)
@[simp] theorem State.modChan_fetches (s : State) (c : Nat) (f : Chan → Chan) : (s.modChan c f).fetches = s.fetches := (rfl)
@[simp] theorem State.modChan_rrLast (s : State) (c : Nat) (f : Chan → Chan) : (s.modChan c f).rrLast = s.rrLast := (rfl)
@[simp] theorem State.modChan_starts (s : State) (c : Nat) (f : Chan → Chan) : (s.modChan c f).starts = s.starts := (rfl)
@[simp] theorem State.modChan_fulLast (s : State) (c : Nat) (f : Chan → Chan) : (s.modChan c f).fulLast = s.fulLast := (rfl)
@[simp] theorem State.modChan_ctxs (s : State) (c : Nat) (f : Chan → Chan) : (s.modChan c f).ctxs = s.ctxs := (rfl)
@[simp] theorem State.modChan_parts (s : State) (c : Nat) (f : Chan → Chan) : (s.modChan c f).parts = s.parts := (rfl)
@[simp] theorem State.modChan_stks (s : State) (c : Nat) (f : Chan → Chan) : (s.modChan c f).stks = s.stks := (rfl)
@[simp] theorem State.modChan_vcs (s : State) (c : Nat) (f : Chan → Chan) : (s.modChan c f).vcs = s.vcs := (rfl)
@[simp] theorem State.modChan_kvMoves (s : State) (c : Nat) (f : Chan → Chan) : (s.modChan c f).kvMoves = s.kvMoves := (rfl)
@[simp] theorem State.modChan_kvLimbo (s : State) (c : Nat) (f : Chan → Chan) : (s.modChan c f).kvLimbo = s.kvLimbo := (rfl)
@[simp] theorem State.modChan_kvParked (s : State) (c : Nat) (f : Chan → Chan) : (s.modChan c f).kvParked = s.kvParked := (rfl)
@[simp] theorem State.modChan_frames (s : State) (c : Nat) (f : Chan → Chan) : (s.modChan c f).frames = s.frames := (rfl)
@[simp] theorem State.modChan_trim (s : State) (c : Nat) (f : Chan → Chan) : (s.modChan c f).trim = s.trim := (rfl)
@[simp] theorem State.modChan_pkgOuts (s : State) (c : Nat) (f : Chan → Chan) : (s.modChan c f).pkgOuts = s.pkgOuts := (rfl)
@[simp] theorem State.modChan_failed (s : State) (c : Nat) (f : Chan → Chan) : (s.modChan c f).failed = s.failed := (rfl)
@[simp] theorem State.modChan_knownBad (s : State) (c : Nat) (f : Chan → Chan) : (s.modChan c f).knownBad = s.knownBad := (rfl)
@[simp] theorem State.modChan_nvmKnownBad (s : State) (c : Nat) (f : Chan → Chan) : (s.modChan c f).nvmKnownBad = s.nvmKnownBad := (rfl)
@[simp] theorem State.modChan_recalWindow (s : State) (c : Nat) (f : Chan → Chan) : (s.modChan c f).recalWindow = s.recalWindow := (rfl)
@[simp] theorem State.modChan_pwr (s : State) (c : Nat) (f : Chan → Chan) : (s.modChan c f).pwr = s.pwr := (rfl)
@[simp] theorem State.modChan_errs (s : State) (c : Nat) (f : Chan → Chan) : (s.modChan c f).errs = s.errs := (rfl)
@[simp] theorem State.modChan_mem (s : State) (c : Nat) (f : Chan → Chan) : (s.modChan c f).mem = s.mem := (rfl)
@[simp] theorem State.modChan_lost (s : State) (c : Nat) (f : Chan → Chan) : (s.modChan c f).lost = s.lost := (rfl)
@[simp] theorem State.modChan_zeroed (s : State) (c : Nat) (f : Chan → Chan) : (s.modChan c f).zeroed = s.zeroed := (rfl)
@[simp] theorem State.modChan_bad (s : State) (c : Nat) (f : Chan → Chan) : (s.modChan c f).bad = s.bad := (rfl)
@[simp] theorem State.modChan_weak (s : State) (c : Nat) (f : Chan → Chan) : (s.modChan c f).weak = s.weak := (rfl)
@[simp] theorem State.modChan_host (s : State) (c : Nat) (f : Chan → Chan) : (s.modChan c f).host = s.host := (rfl)
@[simp] theorem State.modChan_hostFaults (s : State) (c : Nat) (f : Chan → Chan) : (s.modChan c f).hostFaults = s.hostFaults := (rfl)
@[simp] theorem State.modChan_sec (s : State) (c : Nat) (f : Chan → Chan) : (s.modChan c f).sec = s.sec := (rfl)
@[simp] theorem State.modChan_hps (s : State) (c : Nat) (f : Chan → Chan) : (s.modChan c f).hps = s.hps := (rfl)
@[simp] theorem State.modChan_rwt (s : State) (c : Nat) (f : Chan → Chan) : (s.modChan c f).rwt = s.rwt := (rfl)
@[simp] theorem State.modChan_brim (s : State) (c : Nat) (f : Chan → Chan) : (s.modChan c f).brim = s.brim := (rfl)
@[simp] theorem State.modChan_tcs (s : State) (c : Nat) (f : Chan → Chan) : (s.modChan c f).tcs = s.tcs := (rfl)
@[simp] theorem State.modChan_pins (s : State) (c : Nat) (f : Chan → Chan) : (s.modChan c f).pins = s.pins := (rfl)
@[simp] theorem State.modChan_out (s : State) (c : Nat) (f : Chan → Chan) : (s.modChan c f).out = s.out := (rfl)
@[simp] theorem State.modChan_draws (s : State) (c : Nat) (f : Chan → Chan) : (s.modChan c f).draws = s.draws := (rfl)
@[simp] theorem State.modChan_pending (s : State) (c : Nat) (f : Chan → Chan) : (s.modChan c f).pending = s.pending := (rfl)
@[simp] theorem State.modChan_reg (s : State) (c : Nat) (f : Chan → Chan) (j : Nat) : (s.modChan c f).reg j = s.reg j := (rfl)
@[simp] theorem State.modChan_fld (s : State) (c : Nat) (f : Chan → Chan) (gp : Nat) (fl : Fld) : (s.modChan c f).fld gp fl = s.fld gp fl := (rfl)

/-! ### modVc -/

@[simp] theorem State.modVc_regs (s : State) (v : Nat) (f : VcEngine → VcEngine) : (s.modVc v f).regs = s.regs := (rfl)
@[simp] theorem State.modVc_shape (s : State) (v : Nat) (f : VcEngine → VcEngine) : (s.modVc v f).shape = s.shape := (rfl)
@[simp] theorem State.modVc_stroke (s : State) (v : Nat) (f : VcEngine → VcEngine) : (s.modVc v f).stroke = s.stroke := (rfl)
@[simp] theorem State.modVc_cal (s : State) (v : Nat) (f : VcEngine → VcEngine) : (s.modVc v f).cal = s.cal := (rfl)
@[simp] theorem State.modVc_rings (s : State) (v : Nat) (f : VcEngine → VcEngine) : (s.modVc v f).rings = s.rings := (rfl)
@[simp] theorem State.modVc_cmds (s : State) (v : Nat) (f : VcEngine → VcEngine) : (s.modVc v f).cmds = s.cmds := (rfl)
@[simp] theorem State.modVc_fetches (s : State) (v : Nat) (f : VcEngine → VcEngine) : (s.modVc v f).fetches = s.fetches := (rfl)
@[simp] theorem State.modVc_rrLast (s : State) (v : Nat) (f : VcEngine → VcEngine) : (s.modVc v f).rrLast = s.rrLast := (rfl)
@[simp] theorem State.modVc_starts (s : State) (v : Nat) (f : VcEngine → VcEngine) : (s.modVc v f).starts = s.starts := (rfl)
@[simp] theorem State.modVc_fulLast (s : State) (v : Nat) (f : VcEngine → VcEngine) : (s.modVc v f).fulLast = s.fulLast := (rfl)
@[simp] theorem State.modVc_ctxs (s : State) (v : Nat) (f : VcEngine → VcEngine) : (s.modVc v f).ctxs = s.ctxs := (rfl)
@[simp] theorem State.modVc_parts (s : State) (v : Nat) (f : VcEngine → VcEngine) : (s.modVc v f).parts = s.parts := (rfl)
@[simp] theorem State.modVc_chans (s : State) (v : Nat) (f : VcEngine → VcEngine) : (s.modVc v f).chans = s.chans := (rfl)
@[simp] theorem State.modVc_stks (s : State) (v : Nat) (f : VcEngine → VcEngine) : (s.modVc v f).stks = s.stks := (rfl)
@[simp] theorem State.modVc_kvMoves (s : State) (v : Nat) (f : VcEngine → VcEngine) : (s.modVc v f).kvMoves = s.kvMoves := (rfl)
@[simp] theorem State.modVc_kvLimbo (s : State) (v : Nat) (f : VcEngine → VcEngine) : (s.modVc v f).kvLimbo = s.kvLimbo := (rfl)
@[simp] theorem State.modVc_kvParked (s : State) (v : Nat) (f : VcEngine → VcEngine) : (s.modVc v f).kvParked = s.kvParked := (rfl)
@[simp] theorem State.modVc_frames (s : State) (v : Nat) (f : VcEngine → VcEngine) : (s.modVc v f).frames = s.frames := (rfl)
@[simp] theorem State.modVc_trim (s : State) (v : Nat) (f : VcEngine → VcEngine) : (s.modVc v f).trim = s.trim := (rfl)
@[simp] theorem State.modVc_pkgOuts (s : State) (v : Nat) (f : VcEngine → VcEngine) : (s.modVc v f).pkgOuts = s.pkgOuts := (rfl)
@[simp] theorem State.modVc_failed (s : State) (v : Nat) (f : VcEngine → VcEngine) : (s.modVc v f).failed = s.failed := (rfl)
@[simp] theorem State.modVc_knownBad (s : State) (v : Nat) (f : VcEngine → VcEngine) : (s.modVc v f).knownBad = s.knownBad := (rfl)
@[simp] theorem State.modVc_nvmKnownBad (s : State) (v : Nat) (f : VcEngine → VcEngine) : (s.modVc v f).nvmKnownBad = s.nvmKnownBad := (rfl)
@[simp] theorem State.modVc_recalWindow (s : State) (v : Nat) (f : VcEngine → VcEngine) : (s.modVc v f).recalWindow = s.recalWindow := (rfl)
@[simp] theorem State.modVc_pwr (s : State) (v : Nat) (f : VcEngine → VcEngine) : (s.modVc v f).pwr = s.pwr := (rfl)
@[simp] theorem State.modVc_errs (s : State) (v : Nat) (f : VcEngine → VcEngine) : (s.modVc v f).errs = s.errs := (rfl)
@[simp] theorem State.modVc_mem (s : State) (v : Nat) (f : VcEngine → VcEngine) : (s.modVc v f).mem = s.mem := (rfl)
@[simp] theorem State.modVc_lost (s : State) (v : Nat) (f : VcEngine → VcEngine) : (s.modVc v f).lost = s.lost := (rfl)
@[simp] theorem State.modVc_zeroed (s : State) (v : Nat) (f : VcEngine → VcEngine) : (s.modVc v f).zeroed = s.zeroed := (rfl)
@[simp] theorem State.modVc_bad (s : State) (v : Nat) (f : VcEngine → VcEngine) : (s.modVc v f).bad = s.bad := (rfl)
@[simp] theorem State.modVc_weak (s : State) (v : Nat) (f : VcEngine → VcEngine) : (s.modVc v f).weak = s.weak := (rfl)
@[simp] theorem State.modVc_host (s : State) (v : Nat) (f : VcEngine → VcEngine) : (s.modVc v f).host = s.host := (rfl)
@[simp] theorem State.modVc_hostFaults (s : State) (v : Nat) (f : VcEngine → VcEngine) : (s.modVc v f).hostFaults = s.hostFaults := (rfl)
@[simp] theorem State.modVc_sec (s : State) (v : Nat) (f : VcEngine → VcEngine) : (s.modVc v f).sec = s.sec := (rfl)
@[simp] theorem State.modVc_hps (s : State) (v : Nat) (f : VcEngine → VcEngine) : (s.modVc v f).hps = s.hps := (rfl)
@[simp] theorem State.modVc_rwt (s : State) (v : Nat) (f : VcEngine → VcEngine) : (s.modVc v f).rwt = s.rwt := (rfl)
@[simp] theorem State.modVc_brim (s : State) (v : Nat) (f : VcEngine → VcEngine) : (s.modVc v f).brim = s.brim := (rfl)
@[simp] theorem State.modVc_tcs (s : State) (v : Nat) (f : VcEngine → VcEngine) : (s.modVc v f).tcs = s.tcs := (rfl)
@[simp] theorem State.modVc_pins (s : State) (v : Nat) (f : VcEngine → VcEngine) : (s.modVc v f).pins = s.pins := (rfl)
@[simp] theorem State.modVc_out (s : State) (v : Nat) (f : VcEngine → VcEngine) : (s.modVc v f).out = s.out := (rfl)
@[simp] theorem State.modVc_draws (s : State) (v : Nat) (f : VcEngine → VcEngine) : (s.modVc v f).draws = s.draws := (rfl)
@[simp] theorem State.modVc_pending (s : State) (v : Nat) (f : VcEngine → VcEngine) : (s.modVc v f).pending = s.pending := (rfl)
@[simp] theorem State.modVc_reg (s : State) (v : Nat) (f : VcEngine → VcEngine) (j : Nat) : (s.modVc v f).reg j = s.reg j := (rfl)
@[simp] theorem State.modVc_fld (s : State) (v : Nat) (f : VcEngine → VcEngine) (gp : Nat) (fl : Fld) : (s.modVc v f).fld gp fl = s.fld gp fl := (rfl)

/-! ### modStk -/

@[simp] theorem State.modStk_regs (s : State) (k : Nat) (f : Stack → Stack) : (s.modStk k f).regs = s.regs := (rfl)
@[simp] theorem State.modStk_shape (s : State) (k : Nat) (f : Stack → Stack) : (s.modStk k f).shape = s.shape := (rfl)
@[simp] theorem State.modStk_stroke (s : State) (k : Nat) (f : Stack → Stack) : (s.modStk k f).stroke = s.stroke := (rfl)
@[simp] theorem State.modStk_cal (s : State) (k : Nat) (f : Stack → Stack) : (s.modStk k f).cal = s.cal := (rfl)
@[simp] theorem State.modStk_rings (s : State) (k : Nat) (f : Stack → Stack) : (s.modStk k f).rings = s.rings := (rfl)
@[simp] theorem State.modStk_cmds (s : State) (k : Nat) (f : Stack → Stack) : (s.modStk k f).cmds = s.cmds := (rfl)
@[simp] theorem State.modStk_fetches (s : State) (k : Nat) (f : Stack → Stack) : (s.modStk k f).fetches = s.fetches := (rfl)
@[simp] theorem State.modStk_rrLast (s : State) (k : Nat) (f : Stack → Stack) : (s.modStk k f).rrLast = s.rrLast := (rfl)
@[simp] theorem State.modStk_starts (s : State) (k : Nat) (f : Stack → Stack) : (s.modStk k f).starts = s.starts := (rfl)
@[simp] theorem State.modStk_fulLast (s : State) (k : Nat) (f : Stack → Stack) : (s.modStk k f).fulLast = s.fulLast := (rfl)
@[simp] theorem State.modStk_ctxs (s : State) (k : Nat) (f : Stack → Stack) : (s.modStk k f).ctxs = s.ctxs := (rfl)
@[simp] theorem State.modStk_parts (s : State) (k : Nat) (f : Stack → Stack) : (s.modStk k f).parts = s.parts := (rfl)
@[simp] theorem State.modStk_chans (s : State) (k : Nat) (f : Stack → Stack) : (s.modStk k f).chans = s.chans := (rfl)
@[simp] theorem State.modStk_vcs (s : State) (k : Nat) (f : Stack → Stack) : (s.modStk k f).vcs = s.vcs := (rfl)
@[simp] theorem State.modStk_kvMoves (s : State) (k : Nat) (f : Stack → Stack) : (s.modStk k f).kvMoves = s.kvMoves := (rfl)
@[simp] theorem State.modStk_kvLimbo (s : State) (k : Nat) (f : Stack → Stack) : (s.modStk k f).kvLimbo = s.kvLimbo := (rfl)
@[simp] theorem State.modStk_kvParked (s : State) (k : Nat) (f : Stack → Stack) : (s.modStk k f).kvParked = s.kvParked := (rfl)
@[simp] theorem State.modStk_frames (s : State) (k : Nat) (f : Stack → Stack) : (s.modStk k f).frames = s.frames := (rfl)
@[simp] theorem State.modStk_trim (s : State) (k : Nat) (f : Stack → Stack) : (s.modStk k f).trim = s.trim := (rfl)
@[simp] theorem State.modStk_pkgOuts (s : State) (k : Nat) (f : Stack → Stack) : (s.modStk k f).pkgOuts = s.pkgOuts := (rfl)
@[simp] theorem State.modStk_failed (s : State) (k : Nat) (f : Stack → Stack) : (s.modStk k f).failed = s.failed := (rfl)
@[simp] theorem State.modStk_knownBad (s : State) (k : Nat) (f : Stack → Stack) : (s.modStk k f).knownBad = s.knownBad := (rfl)
@[simp] theorem State.modStk_nvmKnownBad (s : State) (k : Nat) (f : Stack → Stack) : (s.modStk k f).nvmKnownBad = s.nvmKnownBad := (rfl)
@[simp] theorem State.modStk_recalWindow (s : State) (k : Nat) (f : Stack → Stack) : (s.modStk k f).recalWindow = s.recalWindow := (rfl)
@[simp] theorem State.modStk_pwr (s : State) (k : Nat) (f : Stack → Stack) : (s.modStk k f).pwr = s.pwr := (rfl)
@[simp] theorem State.modStk_errs (s : State) (k : Nat) (f : Stack → Stack) : (s.modStk k f).errs = s.errs := (rfl)
@[simp] theorem State.modStk_mem (s : State) (k : Nat) (f : Stack → Stack) : (s.modStk k f).mem = s.mem := (rfl)
@[simp] theorem State.modStk_lost (s : State) (k : Nat) (f : Stack → Stack) : (s.modStk k f).lost = s.lost := (rfl)
@[simp] theorem State.modStk_zeroed (s : State) (k : Nat) (f : Stack → Stack) : (s.modStk k f).zeroed = s.zeroed := (rfl)
@[simp] theorem State.modStk_bad (s : State) (k : Nat) (f : Stack → Stack) : (s.modStk k f).bad = s.bad := (rfl)
@[simp] theorem State.modStk_weak (s : State) (k : Nat) (f : Stack → Stack) : (s.modStk k f).weak = s.weak := (rfl)
@[simp] theorem State.modStk_host (s : State) (k : Nat) (f : Stack → Stack) : (s.modStk k f).host = s.host := (rfl)
@[simp] theorem State.modStk_hostFaults (s : State) (k : Nat) (f : Stack → Stack) : (s.modStk k f).hostFaults = s.hostFaults := (rfl)
@[simp] theorem State.modStk_sec (s : State) (k : Nat) (f : Stack → Stack) : (s.modStk k f).sec = s.sec := (rfl)
@[simp] theorem State.modStk_hps (s : State) (k : Nat) (f : Stack → Stack) : (s.modStk k f).hps = s.hps := (rfl)
@[simp] theorem State.modStk_rwt (s : State) (k : Nat) (f : Stack → Stack) : (s.modStk k f).rwt = s.rwt := (rfl)
@[simp] theorem State.modStk_brim (s : State) (k : Nat) (f : Stack → Stack) : (s.modStk k f).brim = s.brim := (rfl)
@[simp] theorem State.modStk_tcs (s : State) (k : Nat) (f : Stack → Stack) : (s.modStk k f).tcs = s.tcs := (rfl)
@[simp] theorem State.modStk_pins (s : State) (k : Nat) (f : Stack → Stack) : (s.modStk k f).pins = s.pins := (rfl)
@[simp] theorem State.modStk_out (s : State) (k : Nat) (f : Stack → Stack) : (s.modStk k f).out = s.out := (rfl)
@[simp] theorem State.modStk_draws (s : State) (k : Nat) (f : Stack → Stack) : (s.modStk k f).draws = s.draws := (rfl)
@[simp] theorem State.modStk_pending (s : State) (k : Nat) (f : Stack → Stack) : (s.modStk k f).pending = s.pending := (rfl)
@[simp] theorem State.modStk_reg (s : State) (k : Nat) (f : Stack → Stack) (j : Nat) : (s.modStk k f).reg j = s.reg j := (rfl)
@[simp] theorem State.modStk_fld (s : State) (k : Nat) (f : Stack → Stack) (gp : Nat) (fl : Fld) : (s.modStk k f).fld gp fl = s.fld gp fl := (rfl)

/-! ### modTc -/

@[simp] theorem State.modTc_regs (s : State) (n : Nat) (f : Tc → Tc) : (s.modTc n f).regs = s.regs := (rfl)
@[simp] theorem State.modTc_shape (s : State) (n : Nat) (f : Tc → Tc) : (s.modTc n f).shape = s.shape := (rfl)
@[simp] theorem State.modTc_stroke (s : State) (n : Nat) (f : Tc → Tc) : (s.modTc n f).stroke = s.stroke := (rfl)
@[simp] theorem State.modTc_cal (s : State) (n : Nat) (f : Tc → Tc) : (s.modTc n f).cal = s.cal := (rfl)
@[simp] theorem State.modTc_rings (s : State) (n : Nat) (f : Tc → Tc) : (s.modTc n f).rings = s.rings := (rfl)
@[simp] theorem State.modTc_cmds (s : State) (n : Nat) (f : Tc → Tc) : (s.modTc n f).cmds = s.cmds := (rfl)
@[simp] theorem State.modTc_fetches (s : State) (n : Nat) (f : Tc → Tc) : (s.modTc n f).fetches = s.fetches := (rfl)
@[simp] theorem State.modTc_rrLast (s : State) (n : Nat) (f : Tc → Tc) : (s.modTc n f).rrLast = s.rrLast := (rfl)
@[simp] theorem State.modTc_starts (s : State) (n : Nat) (f : Tc → Tc) : (s.modTc n f).starts = s.starts := (rfl)
@[simp] theorem State.modTc_fulLast (s : State) (n : Nat) (f : Tc → Tc) : (s.modTc n f).fulLast = s.fulLast := (rfl)
@[simp] theorem State.modTc_ctxs (s : State) (n : Nat) (f : Tc → Tc) : (s.modTc n f).ctxs = s.ctxs := (rfl)
@[simp] theorem State.modTc_parts (s : State) (n : Nat) (f : Tc → Tc) : (s.modTc n f).parts = s.parts := (rfl)
@[simp] theorem State.modTc_chans (s : State) (n : Nat) (f : Tc → Tc) : (s.modTc n f).chans = s.chans := (rfl)
@[simp] theorem State.modTc_stks (s : State) (n : Nat) (f : Tc → Tc) : (s.modTc n f).stks = s.stks := (rfl)
@[simp] theorem State.modTc_vcs (s : State) (n : Nat) (f : Tc → Tc) : (s.modTc n f).vcs = s.vcs := (rfl)
@[simp] theorem State.modTc_kvMoves (s : State) (n : Nat) (f : Tc → Tc) : (s.modTc n f).kvMoves = s.kvMoves := (rfl)
@[simp] theorem State.modTc_kvLimbo (s : State) (n : Nat) (f : Tc → Tc) : (s.modTc n f).kvLimbo = s.kvLimbo := (rfl)
@[simp] theorem State.modTc_kvParked (s : State) (n : Nat) (f : Tc → Tc) : (s.modTc n f).kvParked = s.kvParked := (rfl)
@[simp] theorem State.modTc_frames (s : State) (n : Nat) (f : Tc → Tc) : (s.modTc n f).frames = s.frames := (rfl)
@[simp] theorem State.modTc_trim (s : State) (n : Nat) (f : Tc → Tc) : (s.modTc n f).trim = s.trim := (rfl)
@[simp] theorem State.modTc_pkgOuts (s : State) (n : Nat) (f : Tc → Tc) : (s.modTc n f).pkgOuts = s.pkgOuts := (rfl)
@[simp] theorem State.modTc_failed (s : State) (n : Nat) (f : Tc → Tc) : (s.modTc n f).failed = s.failed := (rfl)
@[simp] theorem State.modTc_knownBad (s : State) (n : Nat) (f : Tc → Tc) : (s.modTc n f).knownBad = s.knownBad := (rfl)
@[simp] theorem State.modTc_nvmKnownBad (s : State) (n : Nat) (f : Tc → Tc) : (s.modTc n f).nvmKnownBad = s.nvmKnownBad := (rfl)
@[simp] theorem State.modTc_recalWindow (s : State) (n : Nat) (f : Tc → Tc) : (s.modTc n f).recalWindow = s.recalWindow := (rfl)
@[simp] theorem State.modTc_pwr (s : State) (n : Nat) (f : Tc → Tc) : (s.modTc n f).pwr = s.pwr := (rfl)
@[simp] theorem State.modTc_errs (s : State) (n : Nat) (f : Tc → Tc) : (s.modTc n f).errs = s.errs := (rfl)
@[simp] theorem State.modTc_mem (s : State) (n : Nat) (f : Tc → Tc) : (s.modTc n f).mem = s.mem := (rfl)
@[simp] theorem State.modTc_lost (s : State) (n : Nat) (f : Tc → Tc) : (s.modTc n f).lost = s.lost := (rfl)
@[simp] theorem State.modTc_zeroed (s : State) (n : Nat) (f : Tc → Tc) : (s.modTc n f).zeroed = s.zeroed := (rfl)
@[simp] theorem State.modTc_bad (s : State) (n : Nat) (f : Tc → Tc) : (s.modTc n f).bad = s.bad := (rfl)
@[simp] theorem State.modTc_weak (s : State) (n : Nat) (f : Tc → Tc) : (s.modTc n f).weak = s.weak := (rfl)
@[simp] theorem State.modTc_host (s : State) (n : Nat) (f : Tc → Tc) : (s.modTc n f).host = s.host := (rfl)
@[simp] theorem State.modTc_hostFaults (s : State) (n : Nat) (f : Tc → Tc) : (s.modTc n f).hostFaults = s.hostFaults := (rfl)
@[simp] theorem State.modTc_sec (s : State) (n : Nat) (f : Tc → Tc) : (s.modTc n f).sec = s.sec := (rfl)
@[simp] theorem State.modTc_hps (s : State) (n : Nat) (f : Tc → Tc) : (s.modTc n f).hps = s.hps := (rfl)
@[simp] theorem State.modTc_rwt (s : State) (n : Nat) (f : Tc → Tc) : (s.modTc n f).rwt = s.rwt := (rfl)
@[simp] theorem State.modTc_brim (s : State) (n : Nat) (f : Tc → Tc) : (s.modTc n f).brim = s.brim := (rfl)
@[simp] theorem State.modTc_pins (s : State) (n : Nat) (f : Tc → Tc) : (s.modTc n f).pins = s.pins := (rfl)
@[simp] theorem State.modTc_out (s : State) (n : Nat) (f : Tc → Tc) : (s.modTc n f).out = s.out := (rfl)
@[simp] theorem State.modTc_draws (s : State) (n : Nat) (f : Tc → Tc) : (s.modTc n f).draws = s.draws := (rfl)
@[simp] theorem State.modTc_pending (s : State) (n : Nat) (f : Tc → Tc) : (s.modTc n f).pending = s.pending := (rfl)
@[simp] theorem State.modTc_reg (s : State) (n : Nat) (f : Tc → Tc) (j : Nat) : (s.modTc n f).reg j = s.reg j := (rfl)
@[simp] theorem State.modTc_fld (s : State) (n : Nat) (f : Tc → Tc) (gp : Nat) (fl : Fld) : (s.modTc n f).fld gp fl = s.fld gp fl := (rfl)

/-! ### modHp -/

@[simp] theorem State.modHp_regs (s : State) (h : Nat) (f : HostPort → HostPort) : (s.modHp h f).regs = s.regs := (rfl)
@[simp] theorem State.modHp_shape (s : State) (h : Nat) (f : HostPort → HostPort) : (s.modHp h f).shape = s.shape := (rfl)
@[simp] theorem State.modHp_stroke (s : State) (h : Nat) (f : HostPort → HostPort) : (s.modHp h f).stroke = s.stroke := (rfl)
@[simp] theorem State.modHp_cal (s : State) (h : Nat) (f : HostPort → HostPort) : (s.modHp h f).cal = s.cal := (rfl)
@[simp] theorem State.modHp_rings (s : State) (h : Nat) (f : HostPort → HostPort) : (s.modHp h f).rings = s.rings := (rfl)
@[simp] theorem State.modHp_cmds (s : State) (h : Nat) (f : HostPort → HostPort) : (s.modHp h f).cmds = s.cmds := (rfl)
@[simp] theorem State.modHp_fetches (s : State) (h : Nat) (f : HostPort → HostPort) : (s.modHp h f).fetches = s.fetches := (rfl)
@[simp] theorem State.modHp_rrLast (s : State) (h : Nat) (f : HostPort → HostPort) : (s.modHp h f).rrLast = s.rrLast := (rfl)
@[simp] theorem State.modHp_starts (s : State) (h : Nat) (f : HostPort → HostPort) : (s.modHp h f).starts = s.starts := (rfl)
@[simp] theorem State.modHp_fulLast (s : State) (h : Nat) (f : HostPort → HostPort) : (s.modHp h f).fulLast = s.fulLast := (rfl)
@[simp] theorem State.modHp_ctxs (s : State) (h : Nat) (f : HostPort → HostPort) : (s.modHp h f).ctxs = s.ctxs := (rfl)
@[simp] theorem State.modHp_parts (s : State) (h : Nat) (f : HostPort → HostPort) : (s.modHp h f).parts = s.parts := (rfl)
@[simp] theorem State.modHp_chans (s : State) (h : Nat) (f : HostPort → HostPort) : (s.modHp h f).chans = s.chans := (rfl)
@[simp] theorem State.modHp_stks (s : State) (h : Nat) (f : HostPort → HostPort) : (s.modHp h f).stks = s.stks := (rfl)
@[simp] theorem State.modHp_vcs (s : State) (h : Nat) (f : HostPort → HostPort) : (s.modHp h f).vcs = s.vcs := (rfl)
@[simp] theorem State.modHp_kvMoves (s : State) (h : Nat) (f : HostPort → HostPort) : (s.modHp h f).kvMoves = s.kvMoves := (rfl)
@[simp] theorem State.modHp_kvLimbo (s : State) (h : Nat) (f : HostPort → HostPort) : (s.modHp h f).kvLimbo = s.kvLimbo := (rfl)
@[simp] theorem State.modHp_kvParked (s : State) (h : Nat) (f : HostPort → HostPort) : (s.modHp h f).kvParked = s.kvParked := (rfl)
@[simp] theorem State.modHp_frames (s : State) (h : Nat) (f : HostPort → HostPort) : (s.modHp h f).frames = s.frames := (rfl)
@[simp] theorem State.modHp_trim (s : State) (h : Nat) (f : HostPort → HostPort) : (s.modHp h f).trim = s.trim := (rfl)
@[simp] theorem State.modHp_pkgOuts (s : State) (h : Nat) (f : HostPort → HostPort) : (s.modHp h f).pkgOuts = s.pkgOuts := (rfl)
@[simp] theorem State.modHp_failed (s : State) (h : Nat) (f : HostPort → HostPort) : (s.modHp h f).failed = s.failed := (rfl)
@[simp] theorem State.modHp_knownBad (s : State) (h : Nat) (f : HostPort → HostPort) : (s.modHp h f).knownBad = s.knownBad := (rfl)
@[simp] theorem State.modHp_nvmKnownBad (s : State) (h : Nat) (f : HostPort → HostPort) : (s.modHp h f).nvmKnownBad = s.nvmKnownBad := (rfl)
@[simp] theorem State.modHp_recalWindow (s : State) (h : Nat) (f : HostPort → HostPort) : (s.modHp h f).recalWindow = s.recalWindow := (rfl)
@[simp] theorem State.modHp_pwr (s : State) (h : Nat) (f : HostPort → HostPort) : (s.modHp h f).pwr = s.pwr := (rfl)
@[simp] theorem State.modHp_errs (s : State) (h : Nat) (f : HostPort → HostPort) : (s.modHp h f).errs = s.errs := (rfl)
@[simp] theorem State.modHp_mem (s : State) (h : Nat) (f : HostPort → HostPort) : (s.modHp h f).mem = s.mem := (rfl)
@[simp] theorem State.modHp_lost (s : State) (h : Nat) (f : HostPort → HostPort) : (s.modHp h f).lost = s.lost := (rfl)
@[simp] theorem State.modHp_zeroed (s : State) (h : Nat) (f : HostPort → HostPort) : (s.modHp h f).zeroed = s.zeroed := (rfl)
@[simp] theorem State.modHp_bad (s : State) (h : Nat) (f : HostPort → HostPort) : (s.modHp h f).bad = s.bad := (rfl)
@[simp] theorem State.modHp_weak (s : State) (h : Nat) (f : HostPort → HostPort) : (s.modHp h f).weak = s.weak := (rfl)
@[simp] theorem State.modHp_host (s : State) (h : Nat) (f : HostPort → HostPort) : (s.modHp h f).host = s.host := (rfl)
@[simp] theorem State.modHp_hostFaults (s : State) (h : Nat) (f : HostPort → HostPort) : (s.modHp h f).hostFaults = s.hostFaults := (rfl)
@[simp] theorem State.modHp_sec (s : State) (h : Nat) (f : HostPort → HostPort) : (s.modHp h f).sec = s.sec := (rfl)
@[simp] theorem State.modHp_rwt (s : State) (h : Nat) (f : HostPort → HostPort) : (s.modHp h f).rwt = s.rwt := (rfl)
@[simp] theorem State.modHp_brim (s : State) (h : Nat) (f : HostPort → HostPort) : (s.modHp h f).brim = s.brim := (rfl)
@[simp] theorem State.modHp_tcs (s : State) (h : Nat) (f : HostPort → HostPort) : (s.modHp h f).tcs = s.tcs := (rfl)
@[simp] theorem State.modHp_pins (s : State) (h : Nat) (f : HostPort → HostPort) : (s.modHp h f).pins = s.pins := (rfl)
@[simp] theorem State.modHp_out (s : State) (h : Nat) (f : HostPort → HostPort) : (s.modHp h f).out = s.out := (rfl)
@[simp] theorem State.modHp_draws (s : State) (h : Nat) (f : HostPort → HostPort) : (s.modHp h f).draws = s.draws := (rfl)
@[simp] theorem State.modHp_pending (s : State) (h : Nat) (f : HostPort → HostPort) : (s.modHp h f).pending = s.pending := (rfl)
@[simp] theorem State.modHp_reg (s : State) (h : Nat) (f : HostPort → HostPort) (j : Nat) : (s.modHp h f).reg j = s.reg j := (rfl)
@[simp] theorem State.modHp_fld (s : State) (h : Nat) (f : HostPort → HostPort) (gp : Nat) (fl : Fld) : (s.modHp h f).fld gp fl = s.fld gp fl := (rfl)

/-! ### modCmd -/

@[simp] theorem State.modCmd_regs (s : State) (r q : Nat) (f : InFlight → InFlight) : (s.modCmd r q f).regs = s.regs := (rfl)
@[simp] theorem State.modCmd_shape (s : State) (r q : Nat) (f : InFlight → InFlight) : (s.modCmd r q f).shape = s.shape := (rfl)
@[simp] theorem State.modCmd_stroke (s : State) (r q : Nat) (f : InFlight → InFlight) : (s.modCmd r q f).stroke = s.stroke := (rfl)
@[simp] theorem State.modCmd_cal (s : State) (r q : Nat) (f : InFlight → InFlight) : (s.modCmd r q f).cal = s.cal := (rfl)
@[simp] theorem State.modCmd_rings (s : State) (r q : Nat) (f : InFlight → InFlight) : (s.modCmd r q f).rings = s.rings := (rfl)
@[simp] theorem State.modCmd_fetches (s : State) (r q : Nat) (f : InFlight → InFlight) : (s.modCmd r q f).fetches = s.fetches := (rfl)
@[simp] theorem State.modCmd_rrLast (s : State) (r q : Nat) (f : InFlight → InFlight) : (s.modCmd r q f).rrLast = s.rrLast := (rfl)
@[simp] theorem State.modCmd_starts (s : State) (r q : Nat) (f : InFlight → InFlight) : (s.modCmd r q f).starts = s.starts := (rfl)
@[simp] theorem State.modCmd_fulLast (s : State) (r q : Nat) (f : InFlight → InFlight) : (s.modCmd r q f).fulLast = s.fulLast := (rfl)
@[simp] theorem State.modCmd_ctxs (s : State) (r q : Nat) (f : InFlight → InFlight) : (s.modCmd r q f).ctxs = s.ctxs := (rfl)
@[simp] theorem State.modCmd_parts (s : State) (r q : Nat) (f : InFlight → InFlight) : (s.modCmd r q f).parts = s.parts := (rfl)
@[simp] theorem State.modCmd_chans (s : State) (r q : Nat) (f : InFlight → InFlight) : (s.modCmd r q f).chans = s.chans := (rfl)
@[simp] theorem State.modCmd_stks (s : State) (r q : Nat) (f : InFlight → InFlight) : (s.modCmd r q f).stks = s.stks := (rfl)
@[simp] theorem State.modCmd_vcs (s : State) (r q : Nat) (f : InFlight → InFlight) : (s.modCmd r q f).vcs = s.vcs := (rfl)
@[simp] theorem State.modCmd_kvMoves (s : State) (r q : Nat) (f : InFlight → InFlight) : (s.modCmd r q f).kvMoves = s.kvMoves := (rfl)
@[simp] theorem State.modCmd_kvLimbo (s : State) (r q : Nat) (f : InFlight → InFlight) : (s.modCmd r q f).kvLimbo = s.kvLimbo := (rfl)
@[simp] theorem State.modCmd_kvParked (s : State) (r q : Nat) (f : InFlight → InFlight) : (s.modCmd r q f).kvParked = s.kvParked := (rfl)
@[simp] theorem State.modCmd_frames (s : State) (r q : Nat) (f : InFlight → InFlight) : (s.modCmd r q f).frames = s.frames := (rfl)
@[simp] theorem State.modCmd_trim (s : State) (r q : Nat) (f : InFlight → InFlight) : (s.modCmd r q f).trim = s.trim := (rfl)
@[simp] theorem State.modCmd_pkgOuts (s : State) (r q : Nat) (f : InFlight → InFlight) : (s.modCmd r q f).pkgOuts = s.pkgOuts := (rfl)
@[simp] theorem State.modCmd_failed (s : State) (r q : Nat) (f : InFlight → InFlight) : (s.modCmd r q f).failed = s.failed := (rfl)
@[simp] theorem State.modCmd_knownBad (s : State) (r q : Nat) (f : InFlight → InFlight) : (s.modCmd r q f).knownBad = s.knownBad := (rfl)
@[simp] theorem State.modCmd_nvmKnownBad (s : State) (r q : Nat) (f : InFlight → InFlight) : (s.modCmd r q f).nvmKnownBad = s.nvmKnownBad := (rfl)
@[simp] theorem State.modCmd_recalWindow (s : State) (r q : Nat) (f : InFlight → InFlight) : (s.modCmd r q f).recalWindow = s.recalWindow := (rfl)
@[simp] theorem State.modCmd_pwr (s : State) (r q : Nat) (f : InFlight → InFlight) : (s.modCmd r q f).pwr = s.pwr := (rfl)
@[simp] theorem State.modCmd_errs (s : State) (r q : Nat) (f : InFlight → InFlight) : (s.modCmd r q f).errs = s.errs := (rfl)
@[simp] theorem State.modCmd_mem (s : State) (r q : Nat) (f : InFlight → InFlight) : (s.modCmd r q f).mem = s.mem := (rfl)
@[simp] theorem State.modCmd_lost (s : State) (r q : Nat) (f : InFlight → InFlight) : (s.modCmd r q f).lost = s.lost := (rfl)
@[simp] theorem State.modCmd_zeroed (s : State) (r q : Nat) (f : InFlight → InFlight) : (s.modCmd r q f).zeroed = s.zeroed := (rfl)
@[simp] theorem State.modCmd_bad (s : State) (r q : Nat) (f : InFlight → InFlight) : (s.modCmd r q f).bad = s.bad := (rfl)
@[simp] theorem State.modCmd_weak (s : State) (r q : Nat) (f : InFlight → InFlight) : (s.modCmd r q f).weak = s.weak := (rfl)
@[simp] theorem State.modCmd_host (s : State) (r q : Nat) (f : InFlight → InFlight) : (s.modCmd r q f).host = s.host := (rfl)
@[simp] theorem State.modCmd_hostFaults (s : State) (r q : Nat) (f : InFlight → InFlight) : (s.modCmd r q f).hostFaults = s.hostFaults := (rfl)
@[simp] theorem State.modCmd_sec (s : State) (r q : Nat) (f : InFlight → InFlight) : (s.modCmd r q f).sec = s.sec := (rfl)
@[simp] theorem State.modCmd_hps (s : State) (r q : Nat) (f : InFlight → InFlight) : (s.modCmd r q f).hps = s.hps := (rfl)
@[simp] theorem State.modCmd_rwt (s : State) (r q : Nat) (f : InFlight → InFlight) : (s.modCmd r q f).rwt = s.rwt := (rfl)
@[simp] theorem State.modCmd_brim (s : State) (r q : Nat) (f : InFlight → InFlight) : (s.modCmd r q f).brim = s.brim := (rfl)
@[simp] theorem State.modCmd_tcs (s : State) (r q : Nat) (f : InFlight → InFlight) : (s.modCmd r q f).tcs = s.tcs := (rfl)
@[simp] theorem State.modCmd_pins (s : State) (r q : Nat) (f : InFlight → InFlight) : (s.modCmd r q f).pins = s.pins := (rfl)
@[simp] theorem State.modCmd_out (s : State) (r q : Nat) (f : InFlight → InFlight) : (s.modCmd r q f).out = s.out := (rfl)
@[simp] theorem State.modCmd_draws (s : State) (r q : Nat) (f : InFlight → InFlight) : (s.modCmd r q f).draws = s.draws := (rfl)
@[simp] theorem State.modCmd_pending (s : State) (r q : Nat) (f : InFlight → InFlight) : (s.modCmd r q f).pending = s.pending := (rfl)
@[simp] theorem State.modCmd_reg (s : State) (r q : Nat) (f : InFlight → InFlight) (j : Nat) : (s.modCmd r q f).reg j = s.reg j := (rfl)
@[simp] theorem State.modCmd_fld (s : State) (r q : Nat) (f : InFlight → InFlight) (gp : Nat) (fl : Fld) : (s.modCmd r q f).fld gp fl = s.fld gp fl := (rfl)

/-! ### endCmd -/

@[simp] theorem State.endCmd_regs (s : State) (r q status good : Nat) : (s.endCmd r q status good).regs = s.regs := (rfl)
@[simp] theorem State.endCmd_shape (s : State) (r q status good : Nat) : (s.endCmd r q status good).shape = s.shape := (rfl)
@[simp] theorem State.endCmd_stroke (s : State) (r q status good : Nat) : (s.endCmd r q status good).stroke = s.stroke := (rfl)
@[simp] theorem State.endCmd_cal (s : State) (r q status good : Nat) : (s.endCmd r q status good).cal = s.cal := (rfl)
@[simp] theorem State.endCmd_rings (s : State) (r q status good : Nat) : (s.endCmd r q status good).rings = s.rings := (rfl)
@[simp] theorem State.endCmd_fetches (s : State) (r q status good : Nat) : (s.endCmd r q status good).fetches = s.fetches := (rfl)
@[simp] theorem State.endCmd_rrLast (s : State) (r q status good : Nat) : (s.endCmd r q status good).rrLast = s.rrLast := (rfl)
@[simp] theorem State.endCmd_starts (s : State) (r q status good : Nat) : (s.endCmd r q status good).starts = s.starts := (rfl)
@[simp] theorem State.endCmd_fulLast (s : State) (r q status good : Nat) : (s.endCmd r q status good).fulLast = s.fulLast := (rfl)
@[simp] theorem State.endCmd_ctxs (s : State) (r q status good : Nat) : (s.endCmd r q status good).ctxs = s.ctxs := (rfl)
@[simp] theorem State.endCmd_parts (s : State) (r q status good : Nat) : (s.endCmd r q status good).parts = s.parts := (rfl)
@[simp] theorem State.endCmd_chans (s : State) (r q status good : Nat) : (s.endCmd r q status good).chans = s.chans := (rfl)
@[simp] theorem State.endCmd_stks (s : State) (r q status good : Nat) : (s.endCmd r q status good).stks = s.stks := (rfl)
@[simp] theorem State.endCmd_vcs (s : State) (r q status good : Nat) : (s.endCmd r q status good).vcs = s.vcs := (rfl)
@[simp] theorem State.endCmd_kvMoves (s : State) (r q status good : Nat) : (s.endCmd r q status good).kvMoves = s.kvMoves := (rfl)
@[simp] theorem State.endCmd_kvLimbo (s : State) (r q status good : Nat) : (s.endCmd r q status good).kvLimbo = s.kvLimbo := (rfl)
@[simp] theorem State.endCmd_kvParked (s : State) (r q status good : Nat) : (s.endCmd r q status good).kvParked = s.kvParked := (rfl)
@[simp] theorem State.endCmd_frames (s : State) (r q status good : Nat) : (s.endCmd r q status good).frames = s.frames := (rfl)
@[simp] theorem State.endCmd_trim (s : State) (r q status good : Nat) : (s.endCmd r q status good).trim = s.trim := (rfl)
@[simp] theorem State.endCmd_pkgOuts (s : State) (r q status good : Nat) : (s.endCmd r q status good).pkgOuts = s.pkgOuts := (rfl)
@[simp] theorem State.endCmd_failed (s : State) (r q status good : Nat) : (s.endCmd r q status good).failed = s.failed := (rfl)
@[simp] theorem State.endCmd_knownBad (s : State) (r q status good : Nat) : (s.endCmd r q status good).knownBad = s.knownBad := (rfl)
@[simp] theorem State.endCmd_nvmKnownBad (s : State) (r q status good : Nat) : (s.endCmd r q status good).nvmKnownBad = s.nvmKnownBad := (rfl)
@[simp] theorem State.endCmd_recalWindow (s : State) (r q status good : Nat) : (s.endCmd r q status good).recalWindow = s.recalWindow := (rfl)
@[simp] theorem State.endCmd_pwr (s : State) (r q status good : Nat) : (s.endCmd r q status good).pwr = s.pwr := (rfl)
@[simp] theorem State.endCmd_errs (s : State) (r q status good : Nat) : (s.endCmd r q status good).errs = s.errs := (rfl)
@[simp] theorem State.endCmd_mem (s : State) (r q status good : Nat) : (s.endCmd r q status good).mem = s.mem := (rfl)
@[simp] theorem State.endCmd_lost (s : State) (r q status good : Nat) : (s.endCmd r q status good).lost = s.lost := (rfl)
@[simp] theorem State.endCmd_zeroed (s : State) (r q status good : Nat) : (s.endCmd r q status good).zeroed = s.zeroed := (rfl)
@[simp] theorem State.endCmd_bad (s : State) (r q status good : Nat) : (s.endCmd r q status good).bad = s.bad := (rfl)
@[simp] theorem State.endCmd_weak (s : State) (r q status good : Nat) : (s.endCmd r q status good).weak = s.weak := (rfl)
@[simp] theorem State.endCmd_host (s : State) (r q status good : Nat) : (s.endCmd r q status good).host = s.host := (rfl)
@[simp] theorem State.endCmd_hostFaults (s : State) (r q status good : Nat) : (s.endCmd r q status good).hostFaults = s.hostFaults := (rfl)
@[simp] theorem State.endCmd_sec (s : State) (r q status good : Nat) : (s.endCmd r q status good).sec = s.sec := (rfl)
@[simp] theorem State.endCmd_hps (s : State) (r q status good : Nat) : (s.endCmd r q status good).hps = s.hps := (rfl)
@[simp] theorem State.endCmd_rwt (s : State) (r q status good : Nat) : (s.endCmd r q status good).rwt = s.rwt := (rfl)
@[simp] theorem State.endCmd_brim (s : State) (r q status good : Nat) : (s.endCmd r q status good).brim = s.brim := (rfl)
@[simp] theorem State.endCmd_tcs (s : State) (r q status good : Nat) : (s.endCmd r q status good).tcs = s.tcs := (rfl)
@[simp] theorem State.endCmd_pins (s : State) (r q status good : Nat) : (s.endCmd r q status good).pins = s.pins := (rfl)
@[simp] theorem State.endCmd_out (s : State) (r q status good : Nat) : (s.endCmd r q status good).out = s.out := (rfl)
@[simp] theorem State.endCmd_draws (s : State) (r q status good : Nat) : (s.endCmd r q status good).draws = s.draws := (rfl)
@[simp] theorem State.endCmd_pending (s : State) (r q status good : Nat) : (s.endCmd r q status good).pending = s.pending := (rfl)
@[simp] theorem State.endCmd_reg (s : State) (r q status good : Nat) (j : Nat) : (s.endCmd r q status good).reg j = s.reg j := (rfl)
@[simp] theorem State.endCmd_fld (s : State) (r q status good : Nat) (gp : Nat) (fl : Fld) : (s.endCmd r q status good).fld gp fl = s.fld gp fl := (rfl)

/-! ### finish -/

@[simp] theorem State.finish_regs (s : State) (r q : Nat) (code : Code) : (s.finish r q code).regs = s.regs := (rfl)
@[simp] theorem State.finish_shape (s : State) (r q : Nat) (code : Code) : (s.finish r q code).shape = s.shape := (rfl)
@[simp] theorem State.finish_stroke (s : State) (r q : Nat) (code : Code) : (s.finish r q code).stroke = s.stroke := (rfl)
@[simp] theorem State.finish_cal (s : State) (r q : Nat) (code : Code) : (s.finish r q code).cal = s.cal := (rfl)
@[simp] theorem State.finish_rings (s : State) (r q : Nat) (code : Code) : (s.finish r q code).rings = s.rings := (rfl)
@[simp] theorem State.finish_fetches (s : State) (r q : Nat) (code : Code) : (s.finish r q code).fetches = s.fetches := (rfl)
@[simp] theorem State.finish_rrLast (s : State) (r q : Nat) (code : Code) : (s.finish r q code).rrLast = s.rrLast := (rfl)
@[simp] theorem State.finish_starts (s : State) (r q : Nat) (code : Code) : (s.finish r q code).starts = s.starts := (rfl)
@[simp] theorem State.finish_fulLast (s : State) (r q : Nat) (code : Code) : (s.finish r q code).fulLast = s.fulLast := (rfl)
@[simp] theorem State.finish_ctxs (s : State) (r q : Nat) (code : Code) : (s.finish r q code).ctxs = s.ctxs := (rfl)
@[simp] theorem State.finish_parts (s : State) (r q : Nat) (code : Code) : (s.finish r q code).parts = s.parts := (rfl)
@[simp] theorem State.finish_chans (s : State) (r q : Nat) (code : Code) : (s.finish r q code).chans = s.chans := (rfl)
@[simp] theorem State.finish_stks (s : State) (r q : Nat) (code : Code) : (s.finish r q code).stks = s.stks := (rfl)
@[simp] theorem State.finish_vcs (s : State) (r q : Nat) (code : Code) : (s.finish r q code).vcs = s.vcs := (rfl)
@[simp] theorem State.finish_kvMoves (s : State) (r q : Nat) (code : Code) : (s.finish r q code).kvMoves = s.kvMoves := (rfl)
@[simp] theorem State.finish_kvLimbo (s : State) (r q : Nat) (code : Code) : (s.finish r q code).kvLimbo = s.kvLimbo := (rfl)
@[simp] theorem State.finish_kvParked (s : State) (r q : Nat) (code : Code) : (s.finish r q code).kvParked = s.kvParked := (rfl)
@[simp] theorem State.finish_frames (s : State) (r q : Nat) (code : Code) : (s.finish r q code).frames = s.frames := (rfl)
@[simp] theorem State.finish_trim (s : State) (r q : Nat) (code : Code) : (s.finish r q code).trim = s.trim := (rfl)
@[simp] theorem State.finish_pkgOuts (s : State) (r q : Nat) (code : Code) : (s.finish r q code).pkgOuts = s.pkgOuts := (rfl)
@[simp] theorem State.finish_failed (s : State) (r q : Nat) (code : Code) : (s.finish r q code).failed = s.failed := (rfl)
@[simp] theorem State.finish_knownBad (s : State) (r q : Nat) (code : Code) : (s.finish r q code).knownBad = s.knownBad := (rfl)
@[simp] theorem State.finish_nvmKnownBad (s : State) (r q : Nat) (code : Code) : (s.finish r q code).nvmKnownBad = s.nvmKnownBad := (rfl)
@[simp] theorem State.finish_recalWindow (s : State) (r q : Nat) (code : Code) : (s.finish r q code).recalWindow = s.recalWindow := (rfl)
@[simp] theorem State.finish_pwr (s : State) (r q : Nat) (code : Code) : (s.finish r q code).pwr = s.pwr := (rfl)
@[simp] theorem State.finish_errs (s : State) (r q : Nat) (code : Code) : (s.finish r q code).errs = s.errs := (rfl)
@[simp] theorem State.finish_mem (s : State) (r q : Nat) (code : Code) : (s.finish r q code).mem = s.mem := (rfl)
@[simp] theorem State.finish_lost (s : State) (r q : Nat) (code : Code) : (s.finish r q code).lost = s.lost := (rfl)
@[simp] theorem State.finish_zeroed (s : State) (r q : Nat) (code : Code) : (s.finish r q code).zeroed = s.zeroed := (rfl)
@[simp] theorem State.finish_bad (s : State) (r q : Nat) (code : Code) : (s.finish r q code).bad = s.bad := (rfl)
@[simp] theorem State.finish_weak (s : State) (r q : Nat) (code : Code) : (s.finish r q code).weak = s.weak := (rfl)
@[simp] theorem State.finish_host (s : State) (r q : Nat) (code : Code) : (s.finish r q code).host = s.host := (rfl)
@[simp] theorem State.finish_hostFaults (s : State) (r q : Nat) (code : Code) : (s.finish r q code).hostFaults = s.hostFaults := (rfl)
@[simp] theorem State.finish_sec (s : State) (r q : Nat) (code : Code) : (s.finish r q code).sec = s.sec := (rfl)
@[simp] theorem State.finish_hps (s : State) (r q : Nat) (code : Code) : (s.finish r q code).hps = s.hps := (rfl)
@[simp] theorem State.finish_rwt (s : State) (r q : Nat) (code : Code) : (s.finish r q code).rwt = s.rwt := (rfl)
@[simp] theorem State.finish_brim (s : State) (r q : Nat) (code : Code) : (s.finish r q code).brim = s.brim := (rfl)
@[simp] theorem State.finish_tcs (s : State) (r q : Nat) (code : Code) : (s.finish r q code).tcs = s.tcs := (rfl)
@[simp] theorem State.finish_pins (s : State) (r q : Nat) (code : Code) : (s.finish r q code).pins = s.pins := (rfl)
@[simp] theorem State.finish_out (s : State) (r q : Nat) (code : Code) : (s.finish r q code).out = s.out := (rfl)
@[simp] theorem State.finish_draws (s : State) (r q : Nat) (code : Code) : (s.finish r q code).draws = s.draws := (rfl)
@[simp] theorem State.finish_pending (s : State) (r q : Nat) (code : Code) : (s.finish r q code).pending = s.pending := (rfl)
@[simp] theorem State.finish_reg (s : State) (r q : Nat) (code : Code) (j : Nat) : (s.finish r q code).reg j = s.reg j := (rfl)
@[simp] theorem State.finish_fld (s : State) (r q : Nat) (code : Code) (gp : Nat) (fl : Fld) : (s.finish r q code).fld gp fl = s.fld gp fl := (rfl)

/-! ### started -/

@[simp] theorem State.started_regs (s : State) (c : InFlight) : (s.started c).regs = s.regs := (rfl)
@[simp] theorem State.started_shape (s : State) (c : InFlight) : (s.started c).shape = s.shape := (rfl)
@[simp] theorem State.started_stroke (s : State) (c : InFlight) : (s.started c).stroke = s.stroke := (rfl)
@[simp] theorem State.started_cal (s : State) (c : InFlight) : (s.started c).cal = s.cal := (rfl)
@[simp] theorem State.started_rings (s : State) (c : InFlight) : (s.started c).rings = s.rings := (rfl)
@[simp] theorem State.started_fetches (s : State) (c : InFlight) : (s.started c).fetches = s.fetches := (rfl)
@[simp] theorem State.started_rrLast (s : State) (c : InFlight) : (s.started c).rrLast = s.rrLast := (rfl)
@[simp] theorem State.started_fulLast (s : State) (c : InFlight) : (s.started c).fulLast = s.fulLast := (rfl)
@[simp] theorem State.started_parts (s : State) (c : InFlight) : (s.started c).parts = s.parts := (rfl)
@[simp] theorem State.started_chans (s : State) (c : InFlight) : (s.started c).chans = s.chans := (rfl)
@[simp] theorem State.started_stks (s : State) (c : InFlight) : (s.started c).stks = s.stks := (rfl)
@[simp] theorem State.started_vcs (s : State) (c : InFlight) : (s.started c).vcs = s.vcs := (rfl)
@[simp] theorem State.started_kvMoves (s : State) (c : InFlight) : (s.started c).kvMoves = s.kvMoves := (rfl)
@[simp] theorem State.started_kvLimbo (s : State) (c : InFlight) : (s.started c).kvLimbo = s.kvLimbo := (rfl)
@[simp] theorem State.started_kvParked (s : State) (c : InFlight) : (s.started c).kvParked = s.kvParked := (rfl)
@[simp] theorem State.started_frames (s : State) (c : InFlight) : (s.started c).frames = s.frames := (rfl)
@[simp] theorem State.started_trim (s : State) (c : InFlight) : (s.started c).trim = s.trim := (rfl)
@[simp] theorem State.started_pkgOuts (s : State) (c : InFlight) : (s.started c).pkgOuts = s.pkgOuts := (rfl)
@[simp] theorem State.started_failed (s : State) (c : InFlight) : (s.started c).failed = s.failed := (rfl)
@[simp] theorem State.started_knownBad (s : State) (c : InFlight) : (s.started c).knownBad = s.knownBad := (rfl)
@[simp] theorem State.started_nvmKnownBad (s : State) (c : InFlight) : (s.started c).nvmKnownBad = s.nvmKnownBad := (rfl)
@[simp] theorem State.started_recalWindow (s : State) (c : InFlight) : (s.started c).recalWindow = s.recalWindow := (rfl)
@[simp] theorem State.started_errs (s : State) (c : InFlight) : (s.started c).errs = s.errs := (rfl)
@[simp] theorem State.started_mem (s : State) (c : InFlight) : (s.started c).mem = s.mem := (rfl)
@[simp] theorem State.started_lost (s : State) (c : InFlight) : (s.started c).lost = s.lost := (rfl)
@[simp] theorem State.started_zeroed (s : State) (c : InFlight) : (s.started c).zeroed = s.zeroed := (rfl)
@[simp] theorem State.started_bad (s : State) (c : InFlight) : (s.started c).bad = s.bad := (rfl)
@[simp] theorem State.started_weak (s : State) (c : InFlight) : (s.started c).weak = s.weak := (rfl)
@[simp] theorem State.started_host (s : State) (c : InFlight) : (s.started c).host = s.host := (rfl)
@[simp] theorem State.started_hostFaults (s : State) (c : InFlight) : (s.started c).hostFaults = s.hostFaults := (rfl)
@[simp] theorem State.started_sec (s : State) (c : InFlight) : (s.started c).sec = s.sec := (rfl)
@[simp] theorem State.started_hps (s : State) (c : InFlight) : (s.started c).hps = s.hps := (rfl)
@[simp] theorem State.started_rwt (s : State) (c : InFlight) : (s.started c).rwt = s.rwt := (rfl)
@[simp] theorem State.started_brim (s : State) (c : InFlight) : (s.started c).brim = s.brim := (rfl)
@[simp] theorem State.started_tcs (s : State) (c : InFlight) : (s.started c).tcs = s.tcs := (rfl)
@[simp] theorem State.started_pins (s : State) (c : InFlight) : (s.started c).pins = s.pins := (rfl)
@[simp] theorem State.started_out (s : State) (c : InFlight) : (s.started c).out = s.out := (rfl)
@[simp] theorem State.started_draws (s : State) (c : InFlight) : (s.started c).draws = s.draws := (rfl)
@[simp] theorem State.started_pending (s : State) (c : InFlight) : (s.started c).pending = s.pending := (rfl)

/-! ### modShape -/

@[simp] theorem State.modShape_regs (s : State) (f : ShapeUnit → ShapeUnit) : (s.modShape f).regs = s.regs := (rfl)
@[simp] theorem State.modShape_stroke (s : State) (f : ShapeUnit → ShapeUnit) : (s.modShape f).stroke = s.stroke := (rfl)
@[simp] theorem State.modShape_cal (s : State) (f : ShapeUnit → ShapeUnit) : (s.modShape f).cal = s.cal := (rfl)
@[simp] theorem State.modShape_rings (s : State) (f : ShapeUnit → ShapeUnit) : (s.modShape f).rings = s.rings := (rfl)
@[simp] theorem State.modShape_cmds (s : State) (f : ShapeUnit → ShapeUnit) : (s.modShape f).cmds = s.cmds := (rfl)
@[simp] theorem State.modShape_fetches (s : State) (f : ShapeUnit → ShapeUnit) : (s.modShape f).fetches = s.fetches := (rfl)
@[simp] theorem State.modShape_rrLast (s : State) (f : ShapeUnit → ShapeUnit) : (s.modShape f).rrLast = s.rrLast := (rfl)
@[simp] theorem State.modShape_starts (s : State) (f : ShapeUnit → ShapeUnit) : (s.modShape f).starts = s.starts := (rfl)
@[simp] theorem State.modShape_fulLast (s : State) (f : ShapeUnit → ShapeUnit) : (s.modShape f).fulLast = s.fulLast := (rfl)
@[simp] theorem State.modShape_ctxs (s : State) (f : ShapeUnit → ShapeUnit) : (s.modShape f).ctxs = s.ctxs := (rfl)
@[simp] theorem State.modShape_parts (s : State) (f : ShapeUnit → ShapeUnit) : (s.modShape f).parts = s.parts := (rfl)
@[simp] theorem State.modShape_chans (s : State) (f : ShapeUnit → ShapeUnit) : (s.modShape f).chans = s.chans := (rfl)
@[simp] theorem State.modShape_stks (s : State) (f : ShapeUnit → ShapeUnit) : (s.modShape f).stks = s.stks := (rfl)
@[simp] theorem State.modShape_vcs (s : State) (f : ShapeUnit → ShapeUnit) : (s.modShape f).vcs = s.vcs := (rfl)
@[simp] theorem State.modShape_kvMoves (s : State) (f : ShapeUnit → ShapeUnit) : (s.modShape f).kvMoves = s.kvMoves := (rfl)
@[simp] theorem State.modShape_kvLimbo (s : State) (f : ShapeUnit → ShapeUnit) : (s.modShape f).kvLimbo = s.kvLimbo := (rfl)
@[simp] theorem State.modShape_kvParked (s : State) (f : ShapeUnit → ShapeUnit) : (s.modShape f).kvParked = s.kvParked := (rfl)
@[simp] theorem State.modShape_frames (s : State) (f : ShapeUnit → ShapeUnit) : (s.modShape f).frames = s.frames := (rfl)
@[simp] theorem State.modShape_trim (s : State) (f : ShapeUnit → ShapeUnit) : (s.modShape f).trim = s.trim := (rfl)
@[simp] theorem State.modShape_pkgOuts (s : State) (f : ShapeUnit → ShapeUnit) : (s.modShape f).pkgOuts = s.pkgOuts := (rfl)
@[simp] theorem State.modShape_failed (s : State) (f : ShapeUnit → ShapeUnit) : (s.modShape f).failed = s.failed := (rfl)
@[simp] theorem State.modShape_knownBad (s : State) (f : ShapeUnit → ShapeUnit) : (s.modShape f).knownBad = s.knownBad := (rfl)
@[simp] theorem State.modShape_nvmKnownBad (s : State) (f : ShapeUnit → ShapeUnit) : (s.modShape f).nvmKnownBad = s.nvmKnownBad := (rfl)
@[simp] theorem State.modShape_recalWindow (s : State) (f : ShapeUnit → ShapeUnit) : (s.modShape f).recalWindow = s.recalWindow := (rfl)
@[simp] theorem State.modShape_pwr (s : State) (f : ShapeUnit → ShapeUnit) : (s.modShape f).pwr = s.pwr := (rfl)
@[simp] theorem State.modShape_errs (s : State) (f : ShapeUnit → ShapeUnit) : (s.modShape f).errs = s.errs := (rfl)
@[simp] theorem State.modShape_mem (s : State) (f : ShapeUnit → ShapeUnit) : (s.modShape f).mem = s.mem := (rfl)
@[simp] theorem State.modShape_lost (s : State) (f : ShapeUnit → ShapeUnit) : (s.modShape f).lost = s.lost := (rfl)
@[simp] theorem State.modShape_zeroed (s : State) (f : ShapeUnit → ShapeUnit) : (s.modShape f).zeroed = s.zeroed := (rfl)
@[simp] theorem State.modShape_bad (s : State) (f : ShapeUnit → ShapeUnit) : (s.modShape f).bad = s.bad := (rfl)
@[simp] theorem State.modShape_weak (s : State) (f : ShapeUnit → ShapeUnit) : (s.modShape f).weak = s.weak := (rfl)
@[simp] theorem State.modShape_host (s : State) (f : ShapeUnit → ShapeUnit) : (s.modShape f).host = s.host := (rfl)
@[simp] theorem State.modShape_hostFaults (s : State) (f : ShapeUnit → ShapeUnit) : (s.modShape f).hostFaults = s.hostFaults := (rfl)
@[simp] theorem State.modShape_sec (s : State) (f : ShapeUnit → ShapeUnit) : (s.modShape f).sec = s.sec := (rfl)
@[simp] theorem State.modShape_hps (s : State) (f : ShapeUnit → ShapeUnit) : (s.modShape f).hps = s.hps := (rfl)
@[simp] theorem State.modShape_rwt (s : State) (f : ShapeUnit → ShapeUnit) : (s.modShape f).rwt = s.rwt := (rfl)
@[simp] theorem State.modShape_brim (s : State) (f : ShapeUnit → ShapeUnit) : (s.modShape f).brim = s.brim := (rfl)
@[simp] theorem State.modShape_tcs (s : State) (f : ShapeUnit → ShapeUnit) : (s.modShape f).tcs = s.tcs := (rfl)
@[simp] theorem State.modShape_pins (s : State) (f : ShapeUnit → ShapeUnit) : (s.modShape f).pins = s.pins := (rfl)
@[simp] theorem State.modShape_out (s : State) (f : ShapeUnit → ShapeUnit) : (s.modShape f).out = s.out := (rfl)
@[simp] theorem State.modShape_draws (s : State) (f : ShapeUnit → ShapeUnit) : (s.modShape f).draws = s.draws := (rfl)
@[simp] theorem State.modShape_pending (s : State) (f : ShapeUnit → ShapeUnit) : (s.modShape f).pending = s.pending := (rfl)
@[simp] theorem State.modShape_reg (s : State) (f : ShapeUnit → ShapeUnit) (j : Nat) : (s.modShape f).reg j = s.reg j := (rfl)
@[simp] theorem State.modShape_fld (s : State) (f : ShapeUnit → ShapeUnit) (gp : Nat) (fl : Fld) : (s.modShape f).fld gp fl = s.fld gp fl := (rfl)

/-! ### modStroke -/

@[simp] theorem State.modStroke_regs (s : State) (f : StrokeUnit → StrokeUnit) : (s.modStroke f).regs = s.regs := (rfl)
@[simp] theorem State.modStroke_shape (s : State) (f : StrokeUnit → StrokeUnit) : (s.modStroke f).shape = s.shape := (rfl)
@[simp] theorem State.modStroke_cal (s : State) (f : StrokeUnit → StrokeUnit) : (s.modStroke f).cal = s.cal := (rfl)
@[simp] theorem State.modStroke_rings (s : State) (f : StrokeUnit → StrokeUnit) : (s.modStroke f).rings = s.rings := (rfl)
@[simp] theorem State.modStroke_cmds (s : State) (f : StrokeUnit → StrokeUnit) : (s.modStroke f).cmds = s.cmds := (rfl)
@[simp] theorem State.modStroke_fetches (s : State) (f : StrokeUnit → StrokeUnit) : (s.modStroke f).fetches = s.fetches := (rfl)
@[simp] theorem State.modStroke_rrLast (s : State) (f : StrokeUnit → StrokeUnit) : (s.modStroke f).rrLast = s.rrLast := (rfl)
@[simp] theorem State.modStroke_starts (s : State) (f : StrokeUnit → StrokeUnit) : (s.modStroke f).starts = s.starts := (rfl)
@[simp] theorem State.modStroke_fulLast (s : State) (f : StrokeUnit → StrokeUnit) : (s.modStroke f).fulLast = s.fulLast := (rfl)
@[simp] theorem State.modStroke_ctxs (s : State) (f : StrokeUnit → StrokeUnit) : (s.modStroke f).ctxs = s.ctxs := (rfl)
@[simp] theorem State.modStroke_parts (s : State) (f : StrokeUnit → StrokeUnit) : (s.modStroke f).parts = s.parts := (rfl)
@[simp] theorem State.modStroke_chans (s : State) (f : StrokeUnit → StrokeUnit) : (s.modStroke f).chans = s.chans := (rfl)
@[simp] theorem State.modStroke_stks (s : State) (f : StrokeUnit → StrokeUnit) : (s.modStroke f).stks = s.stks := (rfl)
@[simp] theorem State.modStroke_vcs (s : State) (f : StrokeUnit → StrokeUnit) : (s.modStroke f).vcs = s.vcs := (rfl)
@[simp] theorem State.modStroke_kvMoves (s : State) (f : StrokeUnit → StrokeUnit) : (s.modStroke f).kvMoves = s.kvMoves := (rfl)
@[simp] theorem State.modStroke_kvLimbo (s : State) (f : StrokeUnit → StrokeUnit) : (s.modStroke f).kvLimbo = s.kvLimbo := (rfl)
@[simp] theorem State.modStroke_kvParked (s : State) (f : StrokeUnit → StrokeUnit) : (s.modStroke f).kvParked = s.kvParked := (rfl)
@[simp] theorem State.modStroke_frames (s : State) (f : StrokeUnit → StrokeUnit) : (s.modStroke f).frames = s.frames := (rfl)
@[simp] theorem State.modStroke_trim (s : State) (f : StrokeUnit → StrokeUnit) : (s.modStroke f).trim = s.trim := (rfl)
@[simp] theorem State.modStroke_pkgOuts (s : State) (f : StrokeUnit → StrokeUnit) : (s.modStroke f).pkgOuts = s.pkgOuts := (rfl)
@[simp] theorem State.modStroke_failed (s : State) (f : StrokeUnit → StrokeUnit) : (s.modStroke f).failed = s.failed := (rfl)
@[simp] theorem State.modStroke_knownBad (s : State) (f : StrokeUnit → StrokeUnit) : (s.modStroke f).knownBad = s.knownBad := (rfl)
@[simp] theorem State.modStroke_nvmKnownBad (s : State) (f : StrokeUnit → StrokeUnit) : (s.modStroke f).nvmKnownBad = s.nvmKnownBad := (rfl)
@[simp] theorem State.modStroke_recalWindow (s : State) (f : StrokeUnit → StrokeUnit) : (s.modStroke f).recalWindow = s.recalWindow := (rfl)
@[simp] theorem State.modStroke_pwr (s : State) (f : StrokeUnit → StrokeUnit) : (s.modStroke f).pwr = s.pwr := (rfl)
@[simp] theorem State.modStroke_errs (s : State) (f : StrokeUnit → StrokeUnit) : (s.modStroke f).errs = s.errs := (rfl)
@[simp] theorem State.modStroke_mem (s : State) (f : StrokeUnit → StrokeUnit) : (s.modStroke f).mem = s.mem := (rfl)
@[simp] theorem State.modStroke_lost (s : State) (f : StrokeUnit → StrokeUnit) : (s.modStroke f).lost = s.lost := (rfl)
@[simp] theorem State.modStroke_zeroed (s : State) (f : StrokeUnit → StrokeUnit) : (s.modStroke f).zeroed = s.zeroed := (rfl)
@[simp] theorem State.modStroke_bad (s : State) (f : StrokeUnit → StrokeUnit) : (s.modStroke f).bad = s.bad := (rfl)
@[simp] theorem State.modStroke_weak (s : State) (f : StrokeUnit → StrokeUnit) : (s.modStroke f).weak = s.weak := (rfl)
@[simp] theorem State.modStroke_host (s : State) (f : StrokeUnit → StrokeUnit) : (s.modStroke f).host = s.host := (rfl)
@[simp] theorem State.modStroke_hostFaults (s : State) (f : StrokeUnit → StrokeUnit) : (s.modStroke f).hostFaults = s.hostFaults := (rfl)
@[simp] theorem State.modStroke_sec (s : State) (f : StrokeUnit → StrokeUnit) : (s.modStroke f).sec = s.sec := (rfl)
@[simp] theorem State.modStroke_hps (s : State) (f : StrokeUnit → StrokeUnit) : (s.modStroke f).hps = s.hps := (rfl)
@[simp] theorem State.modStroke_rwt (s : State) (f : StrokeUnit → StrokeUnit) : (s.modStroke f).rwt = s.rwt := (rfl)
@[simp] theorem State.modStroke_brim (s : State) (f : StrokeUnit → StrokeUnit) : (s.modStroke f).brim = s.brim := (rfl)
@[simp] theorem State.modStroke_tcs (s : State) (f : StrokeUnit → StrokeUnit) : (s.modStroke f).tcs = s.tcs := (rfl)
@[simp] theorem State.modStroke_pins (s : State) (f : StrokeUnit → StrokeUnit) : (s.modStroke f).pins = s.pins := (rfl)
@[simp] theorem State.modStroke_out (s : State) (f : StrokeUnit → StrokeUnit) : (s.modStroke f).out = s.out := (rfl)
@[simp] theorem State.modStroke_draws (s : State) (f : StrokeUnit → StrokeUnit) : (s.modStroke f).draws = s.draws := (rfl)
@[simp] theorem State.modStroke_pending (s : State) (f : StrokeUnit → StrokeUnit) : (s.modStroke f).pending = s.pending := (rfl)
@[simp] theorem State.modStroke_reg (s : State) (f : StrokeUnit → StrokeUnit) (j : Nat) : (s.modStroke f).reg j = s.reg j := (rfl)
@[simp] theorem State.modStroke_fld (s : State) (f : StrokeUnit → StrokeUnit) (gp : Nat) (fl : Fld) : (s.modStroke f).fld gp fl = s.fld gp fl := (rfl)

/-! ### modCal -/

@[simp] theorem State.modCal_regs (s : State) (f : Calendar → Calendar) : (s.modCal f).regs = s.regs := (rfl)
@[simp] theorem State.modCal_shape (s : State) (f : Calendar → Calendar) : (s.modCal f).shape = s.shape := (rfl)
@[simp] theorem State.modCal_stroke (s : State) (f : Calendar → Calendar) : (s.modCal f).stroke = s.stroke := (rfl)
@[simp] theorem State.modCal_rings (s : State) (f : Calendar → Calendar) : (s.modCal f).rings = s.rings := (rfl)
@[simp] theorem State.modCal_cmds (s : State) (f : Calendar → Calendar) : (s.modCal f).cmds = s.cmds := (rfl)
@[simp] theorem State.modCal_fetches (s : State) (f : Calendar → Calendar) : (s.modCal f).fetches = s.fetches := (rfl)
@[simp] theorem State.modCal_rrLast (s : State) (f : Calendar → Calendar) : (s.modCal f).rrLast = s.rrLast := (rfl)
@[simp] theorem State.modCal_starts (s : State) (f : Calendar → Calendar) : (s.modCal f).starts = s.starts := (rfl)
@[simp] theorem State.modCal_fulLast (s : State) (f : Calendar → Calendar) : (s.modCal f).fulLast = s.fulLast := (rfl)
@[simp] theorem State.modCal_ctxs (s : State) (f : Calendar → Calendar) : (s.modCal f).ctxs = s.ctxs := (rfl)
@[simp] theorem State.modCal_parts (s : State) (f : Calendar → Calendar) : (s.modCal f).parts = s.parts := (rfl)
@[simp] theorem State.modCal_chans (s : State) (f : Calendar → Calendar) : (s.modCal f).chans = s.chans := (rfl)
@[simp] theorem State.modCal_stks (s : State) (f : Calendar → Calendar) : (s.modCal f).stks = s.stks := (rfl)
@[simp] theorem State.modCal_vcs (s : State) (f : Calendar → Calendar) : (s.modCal f).vcs = s.vcs := (rfl)
@[simp] theorem State.modCal_kvMoves (s : State) (f : Calendar → Calendar) : (s.modCal f).kvMoves = s.kvMoves := (rfl)
@[simp] theorem State.modCal_kvLimbo (s : State) (f : Calendar → Calendar) : (s.modCal f).kvLimbo = s.kvLimbo := (rfl)
@[simp] theorem State.modCal_kvParked (s : State) (f : Calendar → Calendar) : (s.modCal f).kvParked = s.kvParked := (rfl)
@[simp] theorem State.modCal_frames (s : State) (f : Calendar → Calendar) : (s.modCal f).frames = s.frames := (rfl)
@[simp] theorem State.modCal_trim (s : State) (f : Calendar → Calendar) : (s.modCal f).trim = s.trim := (rfl)
@[simp] theorem State.modCal_pkgOuts (s : State) (f : Calendar → Calendar) : (s.modCal f).pkgOuts = s.pkgOuts := (rfl)
@[simp] theorem State.modCal_failed (s : State) (f : Calendar → Calendar) : (s.modCal f).failed = s.failed := (rfl)
@[simp] theorem State.modCal_knownBad (s : State) (f : Calendar → Calendar) : (s.modCal f).knownBad = s.knownBad := (rfl)
@[simp] theorem State.modCal_nvmKnownBad (s : State) (f : Calendar → Calendar) : (s.modCal f).nvmKnownBad = s.nvmKnownBad := (rfl)
@[simp] theorem State.modCal_recalWindow (s : State) (f : Calendar → Calendar) : (s.modCal f).recalWindow = s.recalWindow := (rfl)
@[simp] theorem State.modCal_pwr (s : State) (f : Calendar → Calendar) : (s.modCal f).pwr = s.pwr := (rfl)
@[simp] theorem State.modCal_errs (s : State) (f : Calendar → Calendar) : (s.modCal f).errs = s.errs := (rfl)
@[simp] theorem State.modCal_mem (s : State) (f : Calendar → Calendar) : (s.modCal f).mem = s.mem := (rfl)
@[simp] theorem State.modCal_lost (s : State) (f : Calendar → Calendar) : (s.modCal f).lost = s.lost := (rfl)
@[simp] theorem State.modCal_zeroed (s : State) (f : Calendar → Calendar) : (s.modCal f).zeroed = s.zeroed := (rfl)
@[simp] theorem State.modCal_bad (s : State) (f : Calendar → Calendar) : (s.modCal f).bad = s.bad := (rfl)
@[simp] theorem State.modCal_weak (s : State) (f : Calendar → Calendar) : (s.modCal f).weak = s.weak := (rfl)
@[simp] theorem State.modCal_host (s : State) (f : Calendar → Calendar) : (s.modCal f).host = s.host := (rfl)
@[simp] theorem State.modCal_hostFaults (s : State) (f : Calendar → Calendar) : (s.modCal f).hostFaults = s.hostFaults := (rfl)
@[simp] theorem State.modCal_sec (s : State) (f : Calendar → Calendar) : (s.modCal f).sec = s.sec := (rfl)
@[simp] theorem State.modCal_hps (s : State) (f : Calendar → Calendar) : (s.modCal f).hps = s.hps := (rfl)
@[simp] theorem State.modCal_rwt (s : State) (f : Calendar → Calendar) : (s.modCal f).rwt = s.rwt := (rfl)
@[simp] theorem State.modCal_brim (s : State) (f : Calendar → Calendar) : (s.modCal f).brim = s.brim := (rfl)
@[simp] theorem State.modCal_tcs (s : State) (f : Calendar → Calendar) : (s.modCal f).tcs = s.tcs := (rfl)
@[simp] theorem State.modCal_pins (s : State) (f : Calendar → Calendar) : (s.modCal f).pins = s.pins := (rfl)
@[simp] theorem State.modCal_out (s : State) (f : Calendar → Calendar) : (s.modCal f).out = s.out := (rfl)
@[simp] theorem State.modCal_draws (s : State) (f : Calendar → Calendar) : (s.modCal f).draws = s.draws := (rfl)
@[simp] theorem State.modCal_pending (s : State) (f : Calendar → Calendar) : (s.modCal f).pending = s.pending := (rfl)
@[simp] theorem State.modCal_reg (s : State) (f : Calendar → Calendar) (j : Nat) : (s.modCal f).reg j = s.reg j := (rfl)
@[simp] theorem State.modCal_fld (s : State) (f : Calendar → Calendar) (gp : Nat) (fl : Fld) : (s.modCal f).fld gp fl = s.fld gp fl := (rfl)

/-! ### modBrim -/

@[simp] theorem State.modBrim_regs (s : State) (f : Brim → Brim) : (s.modBrim f).regs = s.regs := (rfl)
@[simp] theorem State.modBrim_shape (s : State) (f : Brim → Brim) : (s.modBrim f).shape = s.shape := (rfl)
@[simp] theorem State.modBrim_stroke (s : State) (f : Brim → Brim) : (s.modBrim f).stroke = s.stroke := (rfl)
@[simp] theorem State.modBrim_cal (s : State) (f : Brim → Brim) : (s.modBrim f).cal = s.cal := (rfl)
@[simp] theorem State.modBrim_rings (s : State) (f : Brim → Brim) : (s.modBrim f).rings = s.rings := (rfl)
@[simp] theorem State.modBrim_cmds (s : State) (f : Brim → Brim) : (s.modBrim f).cmds = s.cmds := (rfl)
@[simp] theorem State.modBrim_fetches (s : State) (f : Brim → Brim) : (s.modBrim f).fetches = s.fetches := (rfl)
@[simp] theorem State.modBrim_rrLast (s : State) (f : Brim → Brim) : (s.modBrim f).rrLast = s.rrLast := (rfl)
@[simp] theorem State.modBrim_starts (s : State) (f : Brim → Brim) : (s.modBrim f).starts = s.starts := (rfl)
@[simp] theorem State.modBrim_fulLast (s : State) (f : Brim → Brim) : (s.modBrim f).fulLast = s.fulLast := (rfl)
@[simp] theorem State.modBrim_ctxs (s : State) (f : Brim → Brim) : (s.modBrim f).ctxs = s.ctxs := (rfl)
@[simp] theorem State.modBrim_parts (s : State) (f : Brim → Brim) : (s.modBrim f).parts = s.parts := (rfl)
@[simp] theorem State.modBrim_chans (s : State) (f : Brim → Brim) : (s.modBrim f).chans = s.chans := (rfl)
@[simp] theorem State.modBrim_stks (s : State) (f : Brim → Brim) : (s.modBrim f).stks = s.stks := (rfl)
@[simp] theorem State.modBrim_vcs (s : State) (f : Brim → Brim) : (s.modBrim f).vcs = s.vcs := (rfl)
@[simp] theorem State.modBrim_kvMoves (s : State) (f : Brim → Brim) : (s.modBrim f).kvMoves = s.kvMoves := (rfl)
@[simp] theorem State.modBrim_kvLimbo (s : State) (f : Brim → Brim) : (s.modBrim f).kvLimbo = s.kvLimbo := (rfl)
@[simp] theorem State.modBrim_kvParked (s : State) (f : Brim → Brim) : (s.modBrim f).kvParked = s.kvParked := (rfl)
@[simp] theorem State.modBrim_frames (s : State) (f : Brim → Brim) : (s.modBrim f).frames = s.frames := (rfl)
@[simp] theorem State.modBrim_trim (s : State) (f : Brim → Brim) : (s.modBrim f).trim = s.trim := (rfl)
@[simp] theorem State.modBrim_pkgOuts (s : State) (f : Brim → Brim) : (s.modBrim f).pkgOuts = s.pkgOuts := (rfl)
@[simp] theorem State.modBrim_failed (s : State) (f : Brim → Brim) : (s.modBrim f).failed = s.failed := (rfl)
@[simp] theorem State.modBrim_knownBad (s : State) (f : Brim → Brim) : (s.modBrim f).knownBad = s.knownBad := (rfl)
@[simp] theorem State.modBrim_nvmKnownBad (s : State) (f : Brim → Brim) : (s.modBrim f).nvmKnownBad = s.nvmKnownBad := (rfl)
@[simp] theorem State.modBrim_recalWindow (s : State) (f : Brim → Brim) : (s.modBrim f).recalWindow = s.recalWindow := (rfl)
@[simp] theorem State.modBrim_pwr (s : State) (f : Brim → Brim) : (s.modBrim f).pwr = s.pwr := (rfl)
@[simp] theorem State.modBrim_errs (s : State) (f : Brim → Brim) : (s.modBrim f).errs = s.errs := (rfl)
@[simp] theorem State.modBrim_mem (s : State) (f : Brim → Brim) : (s.modBrim f).mem = s.mem := (rfl)
@[simp] theorem State.modBrim_lost (s : State) (f : Brim → Brim) : (s.modBrim f).lost = s.lost := (rfl)
@[simp] theorem State.modBrim_zeroed (s : State) (f : Brim → Brim) : (s.modBrim f).zeroed = s.zeroed := (rfl)
@[simp] theorem State.modBrim_bad (s : State) (f : Brim → Brim) : (s.modBrim f).bad = s.bad := (rfl)
@[simp] theorem State.modBrim_weak (s : State) (f : Brim → Brim) : (s.modBrim f).weak = s.weak := (rfl)
@[simp] theorem State.modBrim_host (s : State) (f : Brim → Brim) : (s.modBrim f).host = s.host := (rfl)
@[simp] theorem State.modBrim_hostFaults (s : State) (f : Brim → Brim) : (s.modBrim f).hostFaults = s.hostFaults := (rfl)
@[simp] theorem State.modBrim_sec (s : State) (f : Brim → Brim) : (s.modBrim f).sec = s.sec := (rfl)
@[simp] theorem State.modBrim_hps (s : State) (f : Brim → Brim) : (s.modBrim f).hps = s.hps := (rfl)
@[simp] theorem State.modBrim_rwt (s : State) (f : Brim → Brim) : (s.modBrim f).rwt = s.rwt := (rfl)
@[simp] theorem State.modBrim_tcs (s : State) (f : Brim → Brim) : (s.modBrim f).tcs = s.tcs := (rfl)
@[simp] theorem State.modBrim_pins (s : State) (f : Brim → Brim) : (s.modBrim f).pins = s.pins := (rfl)
@[simp] theorem State.modBrim_out (s : State) (f : Brim → Brim) : (s.modBrim f).out = s.out := (rfl)
@[simp] theorem State.modBrim_draws (s : State) (f : Brim → Brim) : (s.modBrim f).draws = s.draws := (rfl)
@[simp] theorem State.modBrim_pending (s : State) (f : Brim → Brim) : (s.modBrim f).pending = s.pending := (rfl)
@[simp] theorem State.modBrim_reg (s : State) (f : Brim → Brim) (j : Nat) : (s.modBrim f).reg j = s.reg j := (rfl)
@[simp] theorem State.modBrim_fld (s : State) (f : Brim → Brim) (gp : Nat) (fl : Fld) : (s.modBrim f).fld gp fl = s.fld gp fl := (rfl)

/-! ### setFrame -/

@[simp] theorem State.setFrame_regs (s : State) (i j : Nat) (x : Frame) : (s.setFrame i j x).regs = s.regs := (rfl)
@[simp] theorem State.setFrame_shape (s : State) (i j : Nat) (x : Frame) : (s.setFrame i j x).shape = s.shape := (rfl)
@[simp] theorem State.setFrame_stroke (s : State) (i j : Nat) (x : Frame) : (s.setFrame i j x).stroke = s.stroke := (rfl)
@[simp] theorem State.setFrame_cal (s : State) (i j : Nat) (x : Frame) : (s.setFrame i j x).cal = s.cal := (rfl)
@[simp] theorem State.setFrame_rings (s : State) (i j : Nat) (x : Frame) : (s.setFrame i j x).rings = s.rings := (rfl)
@[simp] theorem State.setFrame_cmds (s : State) (i j : Nat) (x : Frame) : (s.setFrame i j x).cmds = s.cmds := (rfl)
@[simp] theorem State.setFrame_fetches (s : State) (i j : Nat) (x : Frame) : (s.setFrame i j x).fetches = s.fetches := (rfl)
@[simp] theorem State.setFrame_rrLast (s : State) (i j : Nat) (x : Frame) : (s.setFrame i j x).rrLast = s.rrLast := (rfl)
@[simp] theorem State.setFrame_starts (s : State) (i j : Nat) (x : Frame) : (s.setFrame i j x).starts = s.starts := (rfl)
@[simp] theorem State.setFrame_fulLast (s : State) (i j : Nat) (x : Frame) : (s.setFrame i j x).fulLast = s.fulLast := (rfl)
@[simp] theorem State.setFrame_ctxs (s : State) (i j : Nat) (x : Frame) : (s.setFrame i j x).ctxs = s.ctxs := (rfl)
@[simp] theorem State.setFrame_parts (s : State) (i j : Nat) (x : Frame) : (s.setFrame i j x).parts = s.parts := (rfl)
@[simp] theorem State.setFrame_chans (s : State) (i j : Nat) (x : Frame) : (s.setFrame i j x).chans = s.chans := (rfl)
@[simp] theorem State.setFrame_stks (s : State) (i j : Nat) (x : Frame) : (s.setFrame i j x).stks = s.stks := (rfl)
@[simp] theorem State.setFrame_vcs (s : State) (i j : Nat) (x : Frame) : (s.setFrame i j x).vcs = s.vcs := (rfl)
@[simp] theorem State.setFrame_kvMoves (s : State) (i j : Nat) (x : Frame) : (s.setFrame i j x).kvMoves = s.kvMoves := (rfl)
@[simp] theorem State.setFrame_kvLimbo (s : State) (i j : Nat) (x : Frame) : (s.setFrame i j x).kvLimbo = s.kvLimbo := (rfl)
@[simp] theorem State.setFrame_kvParked (s : State) (i j : Nat) (x : Frame) : (s.setFrame i j x).kvParked = s.kvParked := (rfl)
@[simp] theorem State.setFrame_trim (s : State) (i j : Nat) (x : Frame) : (s.setFrame i j x).trim = s.trim := (rfl)
@[simp] theorem State.setFrame_pkgOuts (s : State) (i j : Nat) (x : Frame) : (s.setFrame i j x).pkgOuts = s.pkgOuts := (rfl)
@[simp] theorem State.setFrame_failed (s : State) (i j : Nat) (x : Frame) : (s.setFrame i j x).failed = s.failed := (rfl)
@[simp] theorem State.setFrame_knownBad (s : State) (i j : Nat) (x : Frame) : (s.setFrame i j x).knownBad = s.knownBad := (rfl)
@[simp] theorem State.setFrame_nvmKnownBad (s : State) (i j : Nat) (x : Frame) : (s.setFrame i j x).nvmKnownBad = s.nvmKnownBad := (rfl)
@[simp] theorem State.setFrame_recalWindow (s : State) (i j : Nat) (x : Frame) : (s.setFrame i j x).recalWindow = s.recalWindow := (rfl)
@[simp] theorem State.setFrame_pwr (s : State) (i j : Nat) (x : Frame) : (s.setFrame i j x).pwr = s.pwr := (rfl)
@[simp] theorem State.setFrame_errs (s : State) (i j : Nat) (x : Frame) : (s.setFrame i j x).errs = s.errs := (rfl)
@[simp] theorem State.setFrame_mem (s : State) (i j : Nat) (x : Frame) : (s.setFrame i j x).mem = s.mem := (rfl)
@[simp] theorem State.setFrame_lost (s : State) (i j : Nat) (x : Frame) : (s.setFrame i j x).lost = s.lost := (rfl)
@[simp] theorem State.setFrame_zeroed (s : State) (i j : Nat) (x : Frame) : (s.setFrame i j x).zeroed = s.zeroed := (rfl)
@[simp] theorem State.setFrame_bad (s : State) (i j : Nat) (x : Frame) : (s.setFrame i j x).bad = s.bad := (rfl)
@[simp] theorem State.setFrame_weak (s : State) (i j : Nat) (x : Frame) : (s.setFrame i j x).weak = s.weak := (rfl)
@[simp] theorem State.setFrame_host (s : State) (i j : Nat) (x : Frame) : (s.setFrame i j x).host = s.host := (rfl)
@[simp] theorem State.setFrame_hostFaults (s : State) (i j : Nat) (x : Frame) : (s.setFrame i j x).hostFaults = s.hostFaults := (rfl)
@[simp] theorem State.setFrame_sec (s : State) (i j : Nat) (x : Frame) : (s.setFrame i j x).sec = s.sec := (rfl)
@[simp] theorem State.setFrame_hps (s : State) (i j : Nat) (x : Frame) : (s.setFrame i j x).hps = s.hps := (rfl)
@[simp] theorem State.setFrame_rwt (s : State) (i j : Nat) (x : Frame) : (s.setFrame i j x).rwt = s.rwt := (rfl)
@[simp] theorem State.setFrame_brim (s : State) (i j : Nat) (x : Frame) : (s.setFrame i j x).brim = s.brim := (rfl)
@[simp] theorem State.setFrame_tcs (s : State) (i j : Nat) (x : Frame) : (s.setFrame i j x).tcs = s.tcs := (rfl)
@[simp] theorem State.setFrame_pins (s : State) (i j : Nat) (x : Frame) : (s.setFrame i j x).pins = s.pins := (rfl)
@[simp] theorem State.setFrame_out (s : State) (i j : Nat) (x : Frame) : (s.setFrame i j x).out = s.out := (rfl)
@[simp] theorem State.setFrame_draws (s : State) (i j : Nat) (x : Frame) : (s.setFrame i j x).draws = s.draws := (rfl)
@[simp] theorem State.setFrame_pending (s : State) (i j : Nat) (x : Frame) : (s.setFrame i j x).pending = s.pending := (rfl)
@[simp] theorem State.setFrame_reg (s : State) (i j : Nat) (x : Frame) (k : Nat) : (s.setFrame i j x).reg k = s.reg k := (rfl)
@[simp] theorem State.setFrame_fld (s : State) (i j : Nat) (x : Frame) (gp : Nat) (fl : Fld) : (s.setFrame i j x).fld gp fl = s.fld gp fl := (rfl)

/-! ### draw -/

@[simp] theorem State.draw_regs (s : State) : ((s.draw).2).regs = s.regs := (rfl)
@[simp] theorem State.draw_shape (s : State) : ((s.draw).2).shape = s.shape := (rfl)
@[simp] theorem State.draw_stroke (s : State) : ((s.draw).2).stroke = s.stroke := (rfl)
@[simp] theorem State.draw_cal (s : State) : ((s.draw).2).cal = s.cal := (rfl)
@[simp] theorem State.draw_rings (s : State) : ((s.draw).2).rings = s.rings := (rfl)
@[simp] theorem State.draw_cmds (s : State) : ((s.draw).2).cmds = s.cmds := (rfl)
@[simp] theorem State.draw_fetches (s : State) : ((s.draw).2).fetches = s.fetches := (rfl)
@[simp] theorem State.draw_rrLast (s : State) : ((s.draw).2).rrLast = s.rrLast := (rfl)
@[simp] theorem State.draw_starts (s : State) : ((s.draw).2).starts = s.starts := (rfl)
@[simp] theorem State.draw_fulLast (s : State) : ((s.draw).2).fulLast = s.fulLast := (rfl)
@[simp] theorem State.draw_ctxs (s : State) : ((s.draw).2).ctxs = s.ctxs := (rfl)
@[simp] theorem State.draw_parts (s : State) : ((s.draw).2).parts = s.parts := (rfl)
@[simp] theorem State.draw_chans (s : State) : ((s.draw).2).chans = s.chans := (rfl)
@[simp] theorem State.draw_stks (s : State) : ((s.draw).2).stks = s.stks := (rfl)
@[simp] theorem State.draw_vcs (s : State) : ((s.draw).2).vcs = s.vcs := (rfl)
@[simp] theorem State.draw_kvMoves (s : State) : ((s.draw).2).kvMoves = s.kvMoves := (rfl)
@[simp] theorem State.draw_kvLimbo (s : State) : ((s.draw).2).kvLimbo = s.kvLimbo := (rfl)
@[simp] theorem State.draw_kvParked (s : State) : ((s.draw).2).kvParked = s.kvParked := (rfl)
@[simp] theorem State.draw_frames (s : State) : ((s.draw).2).frames = s.frames := (rfl)
@[simp] theorem State.draw_trim (s : State) : ((s.draw).2).trim = s.trim := (rfl)
@[simp] theorem State.draw_pkgOuts (s : State) : ((s.draw).2).pkgOuts = s.pkgOuts := (rfl)
@[simp] theorem State.draw_failed (s : State) : ((s.draw).2).failed = s.failed := (rfl)
@[simp] theorem State.draw_knownBad (s : State) : ((s.draw).2).knownBad = s.knownBad := (rfl)
@[simp] theorem State.draw_nvmKnownBad (s : State) : ((s.draw).2).nvmKnownBad = s.nvmKnownBad := (rfl)
@[simp] theorem State.draw_recalWindow (s : State) : ((s.draw).2).recalWindow = s.recalWindow := (rfl)
@[simp] theorem State.draw_pwr (s : State) : ((s.draw).2).pwr = s.pwr := (rfl)
@[simp] theorem State.draw_errs (s : State) : ((s.draw).2).errs = s.errs := (rfl)
@[simp] theorem State.draw_mem (s : State) : ((s.draw).2).mem = s.mem := (rfl)
@[simp] theorem State.draw_lost (s : State) : ((s.draw).2).lost = s.lost := (rfl)
@[simp] theorem State.draw_zeroed (s : State) : ((s.draw).2).zeroed = s.zeroed := (rfl)
@[simp] theorem State.draw_bad (s : State) : ((s.draw).2).bad = s.bad := (rfl)
@[simp] theorem State.draw_weak (s : State) : ((s.draw).2).weak = s.weak := (rfl)
@[simp] theorem State.draw_host (s : State) : ((s.draw).2).host = s.host := (rfl)
@[simp] theorem State.draw_hostFaults (s : State) : ((s.draw).2).hostFaults = s.hostFaults := (rfl)
@[simp] theorem State.draw_sec (s : State) : ((s.draw).2).sec = s.sec := (rfl)
@[simp] theorem State.draw_hps (s : State) : ((s.draw).2).hps = s.hps := (rfl)
@[simp] theorem State.draw_rwt (s : State) : ((s.draw).2).rwt = s.rwt := (rfl)
@[simp] theorem State.draw_brim (s : State) : ((s.draw).2).brim = s.brim := (rfl)
@[simp] theorem State.draw_tcs (s : State) : ((s.draw).2).tcs = s.tcs := (rfl)
@[simp] theorem State.draw_pins (s : State) : ((s.draw).2).pins = s.pins := (rfl)
@[simp] theorem State.draw_out (s : State) : ((s.draw).2).out = s.out := (rfl)
@[simp] theorem State.draw_pending (s : State) : ((s.draw).2).pending = s.pending := (rfl)
@[simp] theorem State.draw_reg (s : State) (j : Nat) : ((s.draw).2).reg j = s.reg j := (rfl)
@[simp] theorem State.draw_fld (s : State) (gp : Nat) (fl : Fld) : ((s.draw).2).fld gp fl = s.fld gp fl := (rfl)

/-! ### observe -/

@[simp] theorem State.observe_regs (s : State) : (s.observe).regs = s.regs := (rfl)
@[simp] theorem State.observe_shape (s : State) : (s.observe).shape = s.shape := (rfl)
@[simp] theorem State.observe_stroke (s : State) : (s.observe).stroke = s.stroke := (rfl)
@[simp] theorem State.observe_cal (s : State) : (s.observe).cal = s.cal := (rfl)
@[simp] theorem State.observe_rings (s : State) : (s.observe).rings = s.rings := (rfl)
@[simp] theorem State.observe_fetches (s : State) : (s.observe).fetches = s.fetches := (rfl)
@[simp] theorem State.observe_rrLast (s : State) : (s.observe).rrLast = s.rrLast := (rfl)
@[simp] theorem State.observe_starts (s : State) : (s.observe).starts = s.starts := (rfl)
@[simp] theorem State.observe_fulLast (s : State) : (s.observe).fulLast = s.fulLast := (rfl)
@[simp] theorem State.observe_ctxs (s : State) : (s.observe).ctxs = s.ctxs := (rfl)
@[simp] theorem State.observe_parts (s : State) : (s.observe).parts = s.parts := (rfl)
@[simp] theorem State.observe_chans (s : State) : (s.observe).chans = s.chans := (rfl)
@[simp] theorem State.observe_stks (s : State) : (s.observe).stks = s.stks := (rfl)
@[simp] theorem State.observe_vcs (s : State) : (s.observe).vcs = s.vcs := (rfl)
@[simp] theorem State.observe_kvMoves (s : State) : (s.observe).kvMoves = s.kvMoves := (rfl)
@[simp] theorem State.observe_kvLimbo (s : State) : (s.observe).kvLimbo = s.kvLimbo := (rfl)
@[simp] theorem State.observe_kvParked (s : State) : (s.observe).kvParked = s.kvParked := (rfl)
@[simp] theorem State.observe_frames (s : State) : (s.observe).frames = s.frames := (rfl)
@[simp] theorem State.observe_trim (s : State) : (s.observe).trim = s.trim := (rfl)
@[simp] theorem State.observe_pkgOuts (s : State) : (s.observe).pkgOuts = s.pkgOuts := (rfl)
@[simp] theorem State.observe_failed (s : State) : (s.observe).failed = s.failed := (rfl)
@[simp] theorem State.observe_knownBad (s : State) : (s.observe).knownBad = s.knownBad := (rfl)
@[simp] theorem State.observe_nvmKnownBad (s : State) : (s.observe).nvmKnownBad = s.nvmKnownBad := (rfl)
@[simp] theorem State.observe_recalWindow (s : State) : (s.observe).recalWindow = s.recalWindow := (rfl)
@[simp] theorem State.observe_pwr (s : State) : (s.observe).pwr = s.pwr := (rfl)
@[simp] theorem State.observe_errs (s : State) : (s.observe).errs = s.errs := (rfl)
@[simp] theorem State.observe_mem (s : State) : (s.observe).mem = s.mem := (rfl)
@[simp] theorem State.observe_lost (s : State) : (s.observe).lost = s.lost := (rfl)
@[simp] theorem State.observe_zeroed (s : State) : (s.observe).zeroed = s.zeroed := (rfl)
@[simp] theorem State.observe_bad (s : State) : (s.observe).bad = s.bad := (rfl)
@[simp] theorem State.observe_weak (s : State) : (s.observe).weak = s.weak := (rfl)
@[simp] theorem State.observe_host (s : State) : (s.observe).host = s.host := (rfl)
@[simp] theorem State.observe_hostFaults (s : State) : (s.observe).hostFaults = s.hostFaults := (rfl)
@[simp] theorem State.observe_sec (s : State) : (s.observe).sec = s.sec := (rfl)
@[simp] theorem State.observe_hps (s : State) : (s.observe).hps = s.hps := (rfl)
@[simp] theorem State.observe_rwt (s : State) : (s.observe).rwt = s.rwt := (rfl)
@[simp] theorem State.observe_brim (s : State) : (s.observe).brim = s.brim := (rfl)
@[simp] theorem State.observe_tcs (s : State) : (s.observe).tcs = s.tcs := (rfl)
@[simp] theorem State.observe_pins (s : State) : (s.observe).pins = s.pins := (rfl)
@[simp] theorem State.observe_out (s : State) : (s.observe).out = s.out := (rfl)
@[simp] theorem State.observe_draws (s : State) : (s.observe).draws = s.draws := (rfl)
@[simp] theorem State.observe_pending (s : State) : (s.observe).pending = s.pending := (rfl)
@[simp] theorem State.observe_reg (s : State) (j : Nat) : (s.observe).reg j = s.reg j := (rfl)
@[simp] theorem State.observe_fld (s : State) (gp : Nat) (fl : Fld) : (s.observe).fld gp fl = s.fld gp fl := (rfl)

end Sys2Proof.Machine
end

