-- ==== Sys2Proof/Laws/Memory.lean ====
section
/-!
SUPPORT. Memory: what a byte reads after a write, and that every memory operation keeps the canonical form.
-/
namespace Sys2Proof.Machine

open Sys2Proof

/-! ### Lists of cells -/

/-- Every address of a list is above a bound. -/
def Memory.above (a : Nat) (m : List Host.Cell) : Prop := ∀ c ∈ m, a < c.1

/-- The canonical form, head and tail. -/
theorem Memory.wf_cons (c : Host.Cell) (m : List Host.Cell) :
    Memory.wf (c :: m) = true ↔ Memory.above c.1 m ∧ Memory.wf m = true := by
  induction m generalizing c with
  | nil => simp [Memory.wf, Memory.above]
  | cons d m ih =>
    have hd := ih d
    simp only [Memory.wf, Bool.and_eq_true, decide_eq_true_eq]
    constructor
    · rintro ⟨h, hw⟩
      refine ⟨fun e he => ?_, hw⟩
      rcases List.mem_cons.1 he with rfl | he
      · exact h
      · exact Nat.lt_trans h ((hd.1 hw).1 e he)
    · rintro ⟨h, hw⟩
      exact ⟨h d (List.mem_cons_self), hw⟩

/-- The cells after a write: the written one, or one that stood. -/
theorem Memory.mem_set {m : List Host.Cell} {k : Nat} {v : Byte} {c : Host.Cell} (h : c ∈ Memory.set m k v) :
    c = (k, v) ∨ c ∈ m := by
  induction m with
  | nil => exact .inl (by simpa [Memory.set] using h)
  | cons d m ih =>
    simp only [Memory.set] at h
    split at h
    · rcases List.mem_cons.1 h with h | h
      · exact .inl h
      · exact .inr h
    · split at h
      · rcases List.mem_cons.1 h with h | h
        · exact .inl h
        · exact .inr (List.mem_cons_of_mem _ h)
      · rcases List.mem_cons.1 h with h | h
        · exact .inr (h ▸ List.mem_cons_self)
        · rcases ih h with h | h
          · exact .inl h
          · exact .inr (List.mem_cons_of_mem _ h)

/-- A write keeps the canonical form. -/
theorem Memory.wf_set {m : List Host.Cell} (h : Memory.wf m = true) (k : Nat) (v : Byte) :
    Memory.wf (Memory.set m k v) = true := by
  induction m with
  | nil => rfl
  | cons d m ih =>
    have hd := (Memory.wf_cons d m).1 h
    simp only [Memory.set]
    split
    · next hk =>
      refine (Memory.wf_cons _ _).2 ⟨fun c hc => ?_, h⟩
      rcases List.mem_cons.1 hc with rfl | hc
      · exact hk
      · exact Nat.lt_trans hk (hd.1 c hc)
    · split
      · next hk => exact (Memory.wf_cons _ _).2 ⟨fun c hc => hk ▸ hd.1 c hc, hd.2⟩
      · next h1 h2 =>
        refine (Memory.wf_cons _ _).2 ⟨fun c hc => ?_, ih hd.2⟩
        rcases Memory.mem_set hc with rfl | hc
        · show d.1 < k
          omega
        · exact hd.1 c hc

/-- Keeping some cells keeps the canonical form. -/
theorem Memory.wf_filter {m : List Host.Cell} (h : Memory.wf m = true) (p : Host.Cell → Bool) :
    Memory.wf (m.filter p) = true := by
  induction m with
  | nil => rfl
  | cons d m ih =>
    have hd := (Memory.wf_cons d m).1 h
    by_cases hp : p d
    · rw [List.filter_cons_of_pos hp]
      exact (Memory.wf_cons _ _).2 ⟨fun c hc => hd.1 c ((List.mem_filter.1 hc).1), ih hd.2⟩
    · rw [List.filter_cons_of_neg hp]
      exact ih hd.2

/-- No cell below the first one's address. -/
theorem Memory.get?_above {m : List Host.Cell} {k a : Nat} (h : Memory.above a m) (hk : k ≤ a) : Memory.get? m k = none := by
  cases m with
  | nil => rfl
  | cons d m =>
    have := h d List.mem_cons_self
    have h1 : ¬ d.1 = k := by omega
    have h2 : k < d.1 := by omega
    simp [Memory.get?, h1, h2]

/-- The written address reads the byte written. -/
theorem Memory.get?_set_same (m : List Host.Cell) (k : Nat) (v : Byte) : Memory.get? (Memory.set m k v) k = some v := by
  induction m with
  | nil => simp [Memory.set, Memory.get?]
  | cons d m ih =>
    simp only [Memory.set]
    split
    · simp [Memory.get?]
    · split
      · simp [Memory.get?]
      · next h1 h2 =>
        have : ¬ d.1 = k := fun e => h2 e.symm
        simp [Memory.get?, this, h1, ih]

/-- Every other address reads as before. -/
theorem Memory.get?_set_other (m : List Host.Cell) {k j : Nat} (v : Byte) (h : j ≠ k) :
    Memory.get? (Memory.set m k v) j = Memory.get? m j := by
  have hk : ¬ k = j := fun e => h e.symm
  induction m with
  | nil => by_cases hl : j < k <;> simp [Memory.set, Memory.get?, hk, hl]
  | cons d m ih =>
    simp only [Memory.set]
    split
    · next hlt =>
      by_cases hl : j < k
      · have h1 : ¬ d.1 = j := by omega
        have h2 : j < d.1 := by omega
        simp [Memory.get?, hk, hl, h1, h2]
      · simp [Memory.get?, hk, hl]
    · split
      · next he =>
        subst he
        by_cases hl : j < d.1
        · have h1 : ¬ d.1 = j := by omega
          simp [Memory.get?, hl, h1]
        · have h1 : ¬ d.1 = j := by omega
          simp [Memory.get?, hl, h1]
      · simp only [Memory.get?, ih]

/-- A cell listed reads as listed. -/
theorem Memory.get?_of_mem {m : List Host.Cell} (h : Memory.wf m = true) {c : Host.Cell} (hc : c ∈ m) :
    Memory.get? m c.1 = some c.2 := by
  induction m with
  | nil => cases hc
  | cons d m ih =>
    have hd := (Memory.wf_cons d m).1 h
    rcases List.mem_cons.1 hc with rfl | hc
    · simp [Memory.get?]
    · have hlt := hd.1 c hc
      have h1 : ¬ d.1 = c.1 := by omega
      have h2 : ¬ c.1 < d.1 := by omega
      simp [Memory.get?, h1, h2, ih hd.2 hc]

/-- Keeping the cells whose address a test names keeps what those addresses read. -/
theorem Memory.get?_filter {m : List Host.Cell} (h : Memory.wf m = true) (p : Nat → Bool) (k : Nat) :
    Memory.get? (m.filter (fun c => p c.1)) k = if p k then Memory.get? m k else none := by
  induction m with
  | nil => simp [Memory.get?]
  | cons d m ih =>
    have hd := (Memory.wf_cons d m).1 h
    have ih := ih hd.2
    have hab : k < d.1 → Memory.get? (m.filter (fun c => p c.1)) k = none := fun hk =>
      Memory.get?_above (a := d.1) (fun c hc => hd.1 c ((List.mem_filter.1 hc).1)) (Nat.le_of_lt hk)
    by_cases hp : p d.1
    · rw [List.filter_cons_of_pos (by simpa using hp)]
      by_cases hk : d.1 = k
      · subst hk; simp [Memory.get?, hp]
      · by_cases hl : k < d.1
        · simp [Memory.get?, hk, hl]
        · simp [Memory.get?, hk, hl, ih]
    · rw [List.filter_cons_of_neg (by simpa using hp)]
      by_cases hk : d.1 = k
      · subst hk
        rw [ih]
        simp [hp]
      · by_cases hl : k < d.1
        · simp [Memory.get?, hk, hl, hab hl]
        · simp [Memory.get?, hk, hl, ih]

/-- An erased address reads nothing, every other as before. -/
theorem Memory.get?_erase {m : List Host.Cell} (h : Memory.wf m = true) (k j : Nat) :
    Memory.get? (Memory.erase m k) j = if j = k then none else Memory.get? m j := by
  have := Memory.get?_filter h (fun a => a != k) j
  rw [Memory.erase, this]
  by_cases hj : j = k <;> simp [hj]

/-! ### Device memory -/

/-- An unlisted byte's zero depends on the losses and the clearing alone. -/
theorem State.zeroAt_congr {s t : State} (hl : t.lost = s.lost) (hz : t.zeroed = s.zeroed) (k : Nat) :
    t.zeroAt k = s.zeroAt k := by
  simp only [State.zeroAt, hl, hz]

/-- What an unlisted byte reads as depends on the losses and the clearing alone. -/
theorem State.fill_congr {s t : State} (hl : t.lost = s.lost) (hz : t.zeroed = s.zeroed) (k : Nat) : t.fill k = s.fill k := by
  simp only [State.fill, State.zeroAt_congr hl hz, State.losses, hl]

/-- A byte depends on the memory, the losses and the clearing alone. -/
theorem State.rd_congr {s t : State} (hm : t.mem = s.mem) (hl : t.lost = s.lost) (hz : t.zeroed = s.zeroed) (k : Nat) :
    t.rd k = s.rd k := by
  simp only [State.rd, hm, State.fill_congr hl hz]

/-- The canonical form depends on the memory, the losses and the clearing alone. -/
theorem State.memWf_congr {s t : State} (hm : t.mem = s.mem) (hl : t.lost = s.lost) (hz : t.zeroed = s.zeroed)
    (h : s.memWf) : t.memWf := by
  refine ⟨hm ▸ h.1, fun c hc => ?_⟩
  rw [State.zeroAt_congr hl hz]
  exact h.2 c (hm ▸ hc)

/-- Writing a byte keeps the canonical form. -/
theorem State.memWf_wr {s : State} (h : s.memWf) (k : Nat) (v : Byte) : (s.wr k v).memWf := by
  have hz : ∀ j, (s.wr k v).zeroAt j = s.zeroAt j := fun j => State.zeroAt_congr rfl rfl j
  by_cases hv : (s.zeroAt k && v == 0) = true
  · have hm : (s.wr k v).mem = Memory.erase s.mem k := by simp only [State.wr, hv, if_true]
    refine ⟨hm ▸ Memory.wf_filter h.1 _, fun c hc => ?_⟩
    rw [hz]
    rw [hm] at hc
    exact h.2 c ((List.mem_filter.1 hc).1)
  · have hm : (s.wr k v).mem = Memory.set s.mem k v := by simp only [State.wr, hv, if_false, Bool.false_eq_true]
    refine ⟨hm ▸ Memory.wf_set h.1 k v, fun c hc => ?_⟩
    rw [hz]
    rw [hm] at hc
    rcases Memory.mem_set hc with rfl | hc
    · simpa using hv
    · exact h.2 c hc

/-- Writing bytes keeps the canonical form. -/
theorem State.memWf_wrs {s : State} (h : s.memWf) (k : Nat) (bs : List Byte) : (s.wrs k bs).memWf := by
  induction bs generalizing s k with
  | nil => exact h
  | cons b bs ih => exact ih (State.memWf_wr h k b) (k + 1)

/-- Writing a word keeps the canonical form. -/
theorem State.memWf_wr64 {s : State} (h : s.memWf) (k v : Nat) : (s.wr64 k v).memWf := State.memWf_wrs h k _

/-- Losing a range keeps the canonical form. -/
theorem State.memWf_lose {s : State} (h : s.memWf) (base len : Nat) : (s.lose base len).memWf := by
  refine ⟨Memory.wf_filter h.1 _, fun c hc => ?_⟩
  have hc : c ∈ s.mem.filter (fun c => decide (c.1 < base) || decide (base + len ≤ c.1)) := hc
  obtain ⟨hm, hp⟩ := List.mem_filter.1 hc
  have hs := h.2 c hm
  have hout : (decide (base ≤ c.1) && decide (c.1 < base + len)) = false := by
    simp only [Bool.or_eq_true, decide_eq_true_eq] at hp
    rcases hp with hp | hp <;> simp <;> omega
  have : (s.lose base len).zeroAt c.1 = true → s.zeroAt c.1 = true := by
    intro hz
    have hzd : (s.lose base len).zeroed = s.zeroed := rfl
    have hld : (s.lose base len).lost = (base, len) :: s.lost := rfl
    simp only [State.zeroAt, hzd, hld] at hz ⊢
    cases hn : s.zeroed with
    | none => rw [hn] at hz; exact hz
    | some n =>
      rw [hn] at hz
      simp only [Bool.and_eq_true, decide_eq_true_eq, Bool.not_eq_true'] at hz ⊢
      refine ⟨hz.1, ?_⟩
      have h2 := hz.2
      rw [List.any_eq_false] at h2 ⊢
      intro r hr
      apply h2 r
      by_cases hle : n ≤ s.lost.length
      · have : ((base, len) :: s.lost).length - n = (s.lost.length - n) + 1 := by simp; omega
        rw [this, List.take_succ_cons]
        exact List.mem_cons_of_mem _ hr
      · have : s.lost.length - n = 0 := by omega
        rw [this] at hr
        simp at hr
  cases hz : (s.lose base len).zeroAt c.1 with
  | false => rfl
  | true => rw [this hz] at hs; exact hs

/-- Clearing HBM keeps the canonical form. -/
theorem State.memWf_zeroHbm {s : State} (h : s.memWf) : s.zeroHbm.memWf := by
  refine ⟨Memory.wf_filter h.1 _, fun c hc => ?_⟩
  have hc : c ∈ s.mem.filter (fun c => decide (c.1 < 0) || decide (0 + 0x80000000000 ≤ c.1)) := hc
  obtain ⟨hm, hp⟩ := List.mem_filter.1 hc
  have : s.zeroHbm.zeroAt c.1 = false := by
    have hzd : s.zeroHbm.zeroed = some s.lost.length := rfl
    simp only [Bool.or_eq_true, decide_eq_true_eq] at hp
    simp only [State.zeroAt, hzd]
    simp; omega
  simp [this]

/-- Writing a byte of host memory keeps the canonical form. -/
theorem State.hostWf_hwr {s : State} (h : s.hostWf) (k : Nat) (v : Byte) : (s.hwr k v).hostWf := Memory.wf_set h k v

/-- Writing bytes of host memory keeps the canonical form. -/
theorem State.hostWf_hwrs {s : State} (h : s.hostWf) (k : Nat) (bs : List Byte) : (s.hwrs k bs).hostWf := by
  induction bs generalizing s k with
  | nil => exact h
  | cons b bs ih => exact ih (State.hostWf_hwr h k b) (k + 1)

/-- Observing semaphores leaves the canonical form. -/
theorem State.memWf_observe {s : State} (h : s.memWf) : s.observe.memWf := State.memWf_congr rfl rfl rfl h

/-- Memory right after reset is canonical. -/
theorem State.memWf_reset : State.reset.memWf := ⟨rfl, fun _ hc => nomatch hc⟩

/-- A byte reads what was written to it. -/
theorem State.rd_wr_same {s : State} (h : s.memWf) (k : Nat) (v : Byte) : (s.wr k v).rd k = v := by
  have hf : (s.wr k v).fill k = s.fill k := State.fill_congr rfl rfl k
  by_cases hv : (s.zeroAt k && v == 0) = true
  · have hm : (s.wr k v).mem = Memory.erase s.mem k := by simp only [State.wr, hv, if_true]
    have hg : Memory.get? (Memory.erase s.mem k) k = none := by simp [Memory.get?_erase h.1]
    simp only [Bool.and_eq_true, beq_iff_eq] at hv
    rw [State.rd, hm, hg, hf]
    simp [State.fill, hv.1, hv.2]
  · have hm : (s.wr k v).mem = Memory.set s.mem k v := by simp only [State.wr, hv, if_false, Bool.false_eq_true]
    simp [State.rd, hm, Memory.get?_set_same]

/-- Every other byte reads as before. -/
theorem State.rd_wr_other {s : State} (h : s.memWf) {k j : Nat} (v : Byte) (hj : j ≠ k) : (s.wr k v).rd j = s.rd j := by
  have hf : (s.wr k v).fill j = s.fill j := State.fill_congr rfl rfl j
  by_cases hv : (s.zeroAt k && v == 0) = true
  · have hm : (s.wr k v).mem = Memory.erase s.mem k := by simp only [State.wr, hv, if_true]
    simp only [State.rd, hf, hm, Memory.get?_erase h.1, hj, if_false]
  · have hm : (s.wr k v).mem = Memory.set s.mem k v := by simp only [State.wr, hv, if_false, Bool.false_eq_true]
    simp only [State.rd, hf, hm, Memory.get?_set_other _ _ hj]

/-- Bytes outside a run of written ones read as before. -/
theorem State.rd_wrs_other {s : State} (h : s.memWf) (k : Nat) (bs : List Byte) {j : Nat} (hj : j < k ∨ k + bs.length ≤ j) :
    (s.wrs k bs).rd j = s.rd j := by
  induction bs generalizing s k with
  | nil => rfl
  | cons b bs ih =>
    simp only [List.length_cons] at hj
    have h1 : (s.wrs k (b :: bs)).rd j = (s.wr k b).rd j :=
      ih (State.memWf_wr h k b) (k + 1) (by omega)
    rw [h1]
    exact State.rd_wr_other h b (by omega)

end Sys2Proof.Machine
end

