-- ==== Sys2Proof/Laws/Effects.lean ====
section
/-!
SUPPORT. What the shared operations of the meanings do: the gate every register write passes, raising a status bit, setting a field,
the page arithmetic they rest on, and where a command stands as it starts, goes on and ends.
-/
namespace Sys2Proof.Machine

open Sys2Proof

/-! ### The gate of a register write -/

/-- A write that is let in has its effect (R19, R21). -/
theorem letIn_letsIn {s : State} {who : Requester} {pg : Nat} (h : s.letsIn who pg) (f : State → State) :
    s.letIn who pg f = f s := by
  obtain ⟨h1, h2, h3, h4⟩ := h
  simp [State.letIn, h1, h2, h3, h4]

/-- A virtual function's write to a page it does not see only sets a bit of its own PART page (R21). -/
theorem letIn_ignored {s : State} {who : Requester} {pg : Nat} (h1 : s.arrives who = true) (h2 : s.presents who pg = false)
    (hc : confined who = true) (f : State → State) : s.letIn who pg f = s.ignoredWrite who := by
  simp [State.letIn, h1, h2, hc]

/-! ### Pages -/

theorem pgBase_pgBase (p : Nat) : pgBase (pgBase p) = pgBase p := by
  simp only [pgBase, page, pgClass, pgInst]; omega

theorem pgBase_add (p o : Nat) (h : o < 4096) : pgBase (pgBase p + o) = pgBase p := by
  simp only [pgBase, page, pgClass, pgInst]; omega

theorem pgOff_add (p o : Nat) (h : o < 4096) : pgOff (pgBase p + o) = o := by
  simp only [pgOff, pgBase, page, pgClass, pgInst]; omega

theorem pgClass_add (p o : Nat) (h : o < 4096) : pgClass (pgBase p + o) = pgClass p := by
  simp only [pgBase, page, pgClass, pgInst]; omega

theorem page_of (p k : Nat) (h : pgBase k ≠ pgBase p) (o : Nat) (ho : o < 4096) : k ≠ pgBase p + o := by
  intro e; apply h; rw [e, pgBase_add p o ho]

/-! ### Register updates -/

theorem raise_reg (s : State) (pg b k : Nat) (h : k ≠ pg + 0x30) : (s.raise pg b).reg k = s.reg k := by
  simp only [State.raise]
  split
  · exact State.reg_setReg_other _ _ h
  · exact State.reg_setReg_other _ _ h

theorem setFld_reg (s : State) (pg : Nat) (f : Fld) (v k : Nat) (h : k ≠ regKey pg f.off) : (s.setFld pg f v).reg k = s.reg k :=
  State.reg_setReg_other _ _ h

theorem SMap.get?_mapVal {α β : Type} (l : SMap α) (f : Nat → α → β) (k : Nat) :
    SMap.get? (SMap.mapVal l f) k = (SMap.get? l k).map (f k) := by
  induction l with
  | nil => rfl
  | cons d l ih =>
    show SMap.get? ((d.1, f d.1 d.2) :: SMap.mapVal l f) k = _
    simp only [SMap.get?]
    by_cases hd : d.1 = k
    · subst hd; simp
    · simp [hd, ih]

/-- No register of the common page header is Shape-staged (R22). -/
theorem shOffs_common : ∀ c, c < 16 → ∀ o ∈ [0x00, 0x08, 0x10, 0x18, 0x20, 0x28, 0x30, 0x38, 0x40], (shOffs c).contains o = false := by
  decide +kernel

/-- A write let in to a register of the common page header. -/
theorem registerWrite_common {s : State} {who : Requester} {pg o : Nat} {r : RegRow} (h : s.letsIn who (pgBase pg))
    (ho : o ∈ [0x00, 0x08, 0x10, 0x18, 0x20, 0x28, 0x30, 0x38, 0x40]) (hr : commonHeader.find? (fun r => r.off == o) = some r)
    (w : Width) (v : Word64) : registerWrite s who (pgBase pg + o) w v = s.storeWord who (pgBase pg) r w v := by
  have hlt : o < 0x100 := by simp at ho; omega
  have hc : pgClass pg < 16 := by simp only [pgClass]; omega
  have e1 := pgBase_add pg o (by omega)
  have e2 := pgClass_add pg o (by omega)
  have e3 := pgOff_add pg o (by omega)
  have e4 := shOffs_common _ hc o ho
  have e5 : regRow? (pgClass pg) o = some r := by rw [regRow?, if_pos hlt, hr]
  unfold registerWrite
  rw [e1, e2, e3, e4, e5]
  exact (if_neg Bool.false_ne_true).trans (letIn_letsIn h _)

/-! ### Ring commands -/

theorem cmdAt?_pos {s : State} {r q : Nat} {c : InFlight} (h : s.cmdAt? r q = some c) : c.ring = r ∧ c.seq = q := by
  have := List.find?_some h
  simpa using this

/-- With no channel holding its traffic a command does what it does. -/
theorem unlessHeld_flows {s : State} (h : s.flows) (f : State → State) : s.unlessHeld f = f s := by
  unfold State.flows at h
  simp only [State.unlessHeld, h]
  rfl

theorem observe_flows {s : State} (h : s.flows) : s.observe.flows := h

/-- A command that ends with its start runs on the state in which it starts. -/
theorem runCmd_ready {s : State} {op r q : Nat} {c : InFlight} (h : s.ready op r q c) (f : State → InFlight → State) :
    s.runCmd op r q f = f (s.atStart c) c := by
  obtain ⟨h1, h2, h3, h4⟩ := h
  simp only [State.runCmd, h1]
  rw [if_pos ⟨h2, h3⟩, unlessHeld_flows (observe_flows h4)]
  rfl

/-- A command that goes on in several events begins on the state in which it is marked as started. -/
theorem contCmd_ready {s : State} {op r q : Nat} {c : InFlight} (h : s.ready op r q c) (f g : State → InFlight → State) :
    s.contCmd op r q f g = f (s.atBegin c) c := by
  obtain ⟨h1, h2, h3, h4⟩ := h
  obtain ⟨rfl, rfl⟩ := cmdAt?_pos h1
  simp only [State.contCmd, h1]
  rw [if_neg (by simp [h2]), if_pos h3, unlessHeld_flows (observe_flows h4)]
  rfl

/-- A command that has started goes on. -/
theorem contCmd_working {s : State} {op r q : Nat} {c : InFlight} (h : s.working op r q c) (f g : State → InFlight → State) :
    s.contCmd op r q f g = g s.observe c := by
  obtain ⟨h1, h2, h3, h4, h5, h6, h7, h8⟩ := h
  simp only [State.contCmd, h1]
  rw [if_neg (by simp [h2]), if_neg (by simp [h3]), if_pos ⟨h4, h5, h6, h7⟩, unlessHeld_flows (observe_flows h8)]

/-- A doorbell that reaches its ring has its effect (R74). -/
theorem doorbell_mayRing {s : State} {who : Requester} {r : Nat} (h : s.mayRing who r) (f : State → State) :
    s.doorbell who r f = f s := by
  obtain ⟨h1, h2, h3⟩ := h
  have h4 : (confined who && s.ringPart? r != s.reqPart? who) = false := by
    cases hc : confined who
    · rfl
    · simp [h3 hc]
  have h5 : s.bellOpen who r = true := by
    simp only [State.bellOpen, h1, h4]
    cases who <;> simp_all
  simp only [State.doorbell, h5]
  rfl

/-! ### Every command ends with an observation -/

/-- Every command ends in a next state whose command processors have observed (R83). -/
theorem exec_done (c : Instr) (s : State) : ∃ x : State, exec c s = .next x.observe := by
  cases c <;> exact ⟨_, rfl⟩

/-! ### Finding a command -/

/-- Observing changes only which waits a command has met (R83). -/
theorem observe_cmds (s : State) : ∃ f : InFlight → InFlight, s.observe.cmds = s.cmds.map f ∧
    ∀ c, f c = { c with met0 := (f c).met0, met1 := (f c).met1 } := by
  refine ⟨_, rfl, fun c => ?_⟩
  split <;> rfl

theorem find?_map_same (l : List InFlight) (f : InFlight → InFlight) (r q : Nat) (hf : ∀ c, (f c).ring = c.ring ∧ (f c).seq = c.seq) :
    (l.map f).find? (fun c => c.ring == r && c.seq == q) = (l.find? (fun c => c.ring == r && c.seq == q)).map f := by
  induction l with
  | nil => rfl
  | cons c l ih =>
    simp only [List.map_cons, List.find?_cons, (hf c).1, (hf c).2]
    split
    · rfl
    · exact ih

/-- An observed command is the one found, with the waits it has met. -/
theorem cmdAt?_observe {s : State} {r q : Nat} {c : InFlight} (h : s.cmdAt? r q = some c) :
    ∃ d, s.observe.cmdAt? r q = some d ∧ d = { c with met0 := d.met0, met1 := d.met1 } := by
  obtain ⟨f, h1, h2⟩ := observe_cmds s
  refine ⟨f c, ?_, h2 c⟩
  unfold State.cmdAt? at h ⊢
  rw [h1, find?_map_same _ _ _ _ (fun c => by rw [h2 c]; exact ⟨rfl, rfl⟩), h]
  rfl

/-- A change of a command shows at its place. -/
theorem cmdAt?_modCmd {s : State} {r q : Nat} {c : InFlight} (h : s.cmdAt? r q = some c) (f : InFlight → InFlight)
    (hf : ∀ c, (f c).ring = c.ring ∧ (f c).seq = c.seq) : (s.modCmd r q f).cmdAt? r q = some (f c) := by
  have hp := cmdAt?_pos h
  unfold State.cmdAt? State.modCmd updateWhere at *
  simp only
  rw [find?_map_same, h]
  · simp [hp.1, hp.2]
  · intro d; split
    · exact hf d
    · exact ⟨rfl, rfl⟩

/-- What `endCmd` leaves at the place of a command. -/
theorem endCmd_endedWith {s : State} {r q : Nat} {c : InFlight} (h : s.cmdAt? r q = some c) (status good : Nat) :
    (s.endCmd r q status good).endedWith r q status good :=
  ⟨_, cmdAt?_modCmd h _ (fun _ => ⟨rfl, rfl⟩), rfl, rfl, rfl⟩

theorem endedWith_observe {s : State} {r q status good : Nat} (h : s.endedWith r q status good) :
    s.observe.endedWith r q status good := by
  obtain ⟨c, h1, h2, h3, h4⟩ := h
  obtain ⟨d, h5, h6⟩ := cmdAt?_observe h1
  exact ⟨d, h5, by rw [h6]; exact h2, by rw [h6]; exact h3, by rw [h6]; exact h4⟩

/-- A command that stands when it starts still stands, with its place in the order of starts. -/
theorem cmdAt?_atStart {s : State} {op r q : Nat} {c : InFlight} (h : s.ready op r q c) :
    (s.atStart c).cmdAt? r q = some { c with startNo := s.starts } := by
  obtain ⟨rfl, rfl⟩ := cmdAt?_pos h.1
  exact cmdAt?_modCmd (s := { s.observe with pwr := _ }) h.1 (fun x => { x with startNo := s.starts }) (fun _ => ⟨rfl, rfl⟩)

/-- A command that begins stands, marked as started. -/
theorem cmdAt?_atBegin {s : State} {op r q : Nat} {c : InFlight} (h : s.ready op r q c) :
    (s.atBegin c).cmdAt? r q = some { c with startNo := s.starts, phase := .started } := by
  obtain ⟨rfl, rfl⟩ := cmdAt?_pos h.1
  exact cmdAt?_modCmd (cmdAt?_atStart h) (fun x => { x with phase := .started }) (fun _ => ⟨rfl, rfl⟩)

/-- A write to device memory changes only its bytes and which of them are uncorrectable or hold a correctable error. -/
theorem wrDev_state (s : State) (p : Option Nat) (a : Nat) (bs : List Byte) :
    (s.wrDev p a bs).1 = { s with mem := (s.wrDev p a bs).1.mem, bad := (s.wrDev p a bs).1.bad, weak := (s.wrDev p a bs).1.weak } := by
  induction bs generalizing s a with
  | nil => rfl
  | cons b bs ih =>
    simp only [State.wrDev]
    split
    · rfl
    · rename_i k _
      simp only
      rw [ih (s.wr k b) (a + 1)]
      rfl

/-- A write of bytes that all lie in the partition ends with no error, whatever they are. -/
theorem wrDev_ok {s : State} {p : Option Nat} {a : Nat} {bs : List Byte}
    (h : ∀ i < bs.length, ((s.xlate p (a + i)).isOk) = true) : (s.wrDev p a bs).2.2 = 0 := by
  induction bs generalizing s a with
  | nil => rfl
  | cons b bs ih =>
    have h0 := h 0 (Nat.succ_pos _)
    rw [Nat.add_zero] at h0
    unfold State.wrDev
    cases hx : s.xlate p a with
    | error e => rw [hx] at h0; cases h0
    | ok k =>
      refine ih (s := s.wr k b) (fun i hi => ?_)
      have := h (i + 1) (Nat.succ_lt_succ hi)
      rw [show a + 1 + i = a + (i + 1) from by omega]
      exact this

end Sys2Proof.Machine
end

