-- ==== Sys2Proof/Laws/Keeps.lean ====
section
/-!
SUPPORT. What every operation of the model keeps: the queue, the canonical form of both memories, and everything sent out so far; the
count of free values drawn never falls.  One lemma per operation, in the order of the files.
-/
namespace Sys2Proof.Machine

open Sys2Proof

/-- What no command undoes. -/
structure Keeps (s t : State) : Prop where
  pending : t.pending = s.pending
  mem : s.memWf → t.memWf
  host : s.hostWf → t.hostWf
  out : s.out <:+ t.out
  draws : s.draws ≤ t.draws

theorem Keeps.refl (s : State) : Keeps s s := ⟨rfl, id, id, List.suffix_refl _, Nat.le_refl _⟩

theorem Keeps.trans {s t u : State} (h : Keeps s t) (k : Keeps t u) : Keeps s u :=
  ⟨k.pending.trans h.pending, k.mem ∘ h.mem, k.host ∘ h.host, h.out.trans k.out, Nat.le_trans h.draws k.draws⟩

/-- A change of what is not tracked. -/
theorem Keeps.upd {s₀ s : State} (h : Keeps s₀ s) {v0 : SMap Word64} {v1 : ShapeUnit} {v2 : StrokeUnit} {v3 : Calendar} {v4 : SMap Ring} {v5 : List InFlight} {v6 : Nat} {v7 : SMap Nat} {v8 : Nat} {v9 : SMap Nat} {v10 : SMap Ctx} {v11 : SMap Part} {v12 : SMap Chan} {v13 : SMap Stack} {v14 : SMap VcEngine} {v15 : List KvMove} {v16 : List (Nat × Nat × Nat)} {v17 : List (Nat × Nat)} {v18 : SMap Frame} {v19 : List (Nat × Nat)} {v20 : List Nat} {v21 : List (Nat × Nat)} {v22 : List (Nat × Nat)} {v23 : List (Nat × Nat)} {v24 : SMap Nat} {v25 : Power} {v26 : ErrRing} {v30 : List Nat} {v31 : List Nat} {v33 : List (Nat × Nat × Nat × Nat)} {v34 : Sec} {v35 : SMap HostPort} {v36 : SMap RwtEntry} {v37 : Brim} {v38 : SMap Tc} {v39 : Pins} :
    Keeps s₀ { regs := v0, shape := v1, stroke := v2, cal := v3, rings := v4, cmds := v5, fetches := v6, rrLast := v7, starts := v8, fulLast := v9, ctxs := v10, parts := v11, chans := v12, stks := v13, vcs := v14, kvMoves := v15, kvLimbo := v16, kvParked := v17, frames := v18, trim := v19, pkgOuts := v20, failed := v21, knownBad := v22, nvmKnownBad := v23, recalWindow := v24, pwr := v25, errs := v26, mem := s.mem, lost := s.lost, zeroed := s.zeroed, bad := v30, weak := v31, host := s.host, hostFaults := v33, sec := v34, hps := v35, rwt := v36, brim := v37, tcs := v38, pins := v39, out := s.out, draws := s.draws, pending := s.pending } :=
  h.trans ⟨rfl, State.memWf_congr rfl rfl rfl, id, List.suffix_refl _, Nat.le_refl _⟩

theorem Keeps.drawn {s₀ s : State} (h : Keeps s₀ s) (k : Nat) : Keeps s₀ { s with draws := s.draws + k } :=
  h.trans ⟨rfl, State.memWf_congr rfl rfl rfl, id, List.suffix_refl _, Nat.le_add_right _ _⟩

theorem Keeps.emit {s₀ s : State} (h : Keeps s₀ s) (o : Out) : Keeps s₀ (s.emit o) :=
  h.trans ⟨rfl, State.memWf_congr rfl rfl rfl, id, ⟨[o], rfl⟩, Nat.le_refl _⟩

theorem of_ite_eq {α : Type} {c : Prop} [Decidable c] {a b x : α} (h : (if c then a else b) = x) : (c ∧ a = x) ∨ (¬c ∧ b = x) := by
  split at h
  · exact .inl ⟨‹_›, h⟩
  · exact .inr ⟨‹_›, h⟩

theorem Keeps.fst {β : Type} {s₀ s : State} {p : State × β} {b : β} (h : Keeps s₀ p.1) (e : p = (s, b)) : Keeps s₀ s := by
  subst e; exact h

theorem Keeps.foldl {α : Type} {s₀ s : State} (h : Keeps s₀ s) (l : List α) (f : State → α → State)
    (hf : ∀ t a, Keeps s₀ t → Keeps s₀ (f t a)) : Keeps s₀ (l.foldl f s) := by
  induction l generalizing s with
  | nil => exact h
  | cons a l ih => exact ih (hf s a h)

theorem Keeps.foldlP {α σ : Type} (π : σ → State) {s₀ : State} {x : σ} (h : Keeps s₀ (π x)) (l : List α) (f : σ → α → σ)
    (hf : ∀ t a, Keeps s₀ (π t) → Keeps s₀ (π (f t a))) : Keeps s₀ (π (l.foldl f x)) := by
  induction l generalizing x with
  | nil => exact h
  | cons a l ih => exact ih (hf x a h)

theorem Keeps.cutF {s₀ r : State} {f : State → State} (hf : ∀ t, Keeps s₀ t → Keeps s₀ (f t))
    (k : (∀ t, Keeps s₀ t → Keeps s₀ (f t)) → Keeps s₀ r) : Keeps s₀ r := k hf

theorem Keeps.cutF2 {α : Type} {s₀ r : State} {f : State → α → State} (hf : ∀ t a, Keeps s₀ t → Keeps s₀ (f t a))
    (k : (∀ t a, Keeps s₀ t → Keeps s₀ (f t a)) → Keeps s₀ r) : Keeps s₀ r := k hf

theorem Keeps.cut {s₀ x r : State} (hx : Keeps s₀ x) (k : Keeps s₀ x → Keeps s₀ r) : Keeps s₀ r := k hx

theorem Keeps.ite {s₀ a b : State} {c : Prop} [Decidable c] (ha : c → Keeps s₀ a) (hb : ¬c → Keeps s₀ b) :
    Keeps s₀ (if c then a else b) := by
  split
  · exact ha ‹_›
  · exact hb ‹_›

theorem Keeps.ite1 {β : Type} {s₀ : State} {a b : State × β} {c : Prop} [Decidable c] (ha : c → Keeps s₀ a.1) (hb : ¬c → Keeps s₀ b.1) :
    Keeps s₀ (if c then a else b).1 := by
  split
  · exact ha ‹_›
  · exact hb ‹_›

theorem State.setReg_keeps {s₀ : State} {s : State} (hk : Keeps s₀ s) (key : Nat) (v : Word64) :
    Keeps s₀ (State.setReg s key v) := by
  unfold State.setReg
  repeat' first
    | (with_reducible apply Keeps.upd; first | with_reducible assumption)

theorem State.setFld_keeps {s₀ : State} {s : State} (hk : Keeps s₀ s) (pg : Nat) (f : Fld) (v : Nat) :
    Keeps s₀ (State.setFld s pg f v) := by
  unfold State.setFld
  repeat' first
    | with_reducible assumption
    | with_reducible apply State.setReg_keeps

theorem State.addFld_keeps {s₀ : State} {s : State} (hk : Keeps s₀ s) (pg : Nat) (f : Fld) (k : Nat) :
    Keeps s₀ (State.addFld s pg f k) := by
  unfold State.addFld
  repeat' first
    | with_reducible assumption
    | with_reducible apply State.setFld_keeps

theorem State.setBit_keeps {s₀ : State} {s : State} (hk : Keeps s₀ s) (pg : Nat) (f : Fld) (b : Bool) :
    Keeps s₀ (State.setBit s pg f b) := by
  unfold State.setBit
  repeat' first
    | with_reducible assumption
    | with_reducible apply State.setFld_keeps

theorem State.draw_keeps {s₀ s : State} (h : Keeps s₀ s) : Keeps s₀ s.draw.2 :=
  h.trans ⟨rfl, State.memWf_congr rfl rfl rfl, id, List.suffix_refl _, Nat.le_succ _⟩

theorem State.wr_keeps {s₀ s : State} (h : Keeps s₀ s) (k : Nat) (v : Byte) : Keeps s₀ (s.wr k v) :=
  h.trans ⟨rfl, fun hw => State.memWf_wr hw k v, id, List.suffix_refl _, Nat.le_refl _⟩

theorem State.hwr_keeps {s₀ s : State} (h : Keeps s₀ s) (k : Nat) (v : Byte) : Keeps s₀ (s.hwr k v) :=
  h.trans ⟨rfl, State.memWf_congr rfl rfl rfl, fun hw => State.hostWf_hwr hw k v, List.suffix_refl _, Nat.le_refl _⟩

theorem State.wrs_keeps {s₀ s : State} (h : Keeps s₀ s) (k : Nat) (bs : List Byte) : Keeps s₀ (s.wrs k bs) := by
  induction bs generalizing s k with
  | nil => exact h
  | cons b bs ih => exact ih (State.wr_keeps h k b) (k + 1)

theorem State.hwrs_keeps {s₀ s : State} (h : Keeps s₀ s) (k : Nat) (bs : List Byte) : Keeps s₀ (s.hwrs k bs) := by
  induction bs generalizing s k with
  | nil => exact h
  | cons b bs ih => exact ih (State.hwr_keeps h k b) (k + 1)

theorem State.wr64_keeps {s₀ s : State} (h : Keeps s₀ s) (k v : Nat) : Keeps s₀ (s.wr64 k v) := State.wrs_keeps h k _

theorem State.lose_keeps {s₀ s : State} (h : Keeps s₀ s) (base len : Nat) : Keeps s₀ (s.lose base len) :=
  h.trans ⟨rfl, fun hw => State.memWf_lose hw base len, id, List.suffix_refl _, Nat.le_refl _⟩

theorem State.zeroHbm_keeps {s₀ s : State} (h : Keeps s₀ s) : Keeps s₀ s.zeroHbm :=
  h.trans ⟨rfl, State.memWf_zeroHbm, id, List.suffix_refl _, Nat.le_refl _⟩

theorem State.wrDev_keeps {s₀ s : State} (h : Keeps s₀ s) (p : Option Nat) (a : Nat) (bs : List Byte) :
    Keeps s₀ (s.wrDev p a bs).1 := by
  induction bs generalizing s a with
  | nil => exact h
  | cons b bs ih =>
    unfold State.wrDev
    split
    · exact h
    · exact ih (State.wr_keeps h ..) (a + 1)

theorem State.setCtx_keeps {s₀ : State} {s : State} (hk : Keeps s₀ s) (p c : Nat) (x : Ctx) :
    Keeps s₀ (State.setCtx s p c x) := by
  unfold State.setCtx
  repeat' first
    | (with_reducible apply Keeps.upd; first | with_reducible assumption)

theorem State.modCtx_keeps {s₀ : State} {s : State} (hk : Keeps s₀ s) (p c : Nat) (f : Ctx → Ctx) :
    Keeps s₀ (State.modCtx s p c f) := by
  unfold State.modCtx
  repeat' first
    | with_reducible assumption
    | with_reducible apply State.setCtx_keeps

theorem State.modPart_keeps {s₀ : State} {s : State} (hk : Keeps s₀ s) (p : Nat) (f : Part → Part) :
    Keeps s₀ (State.modPart s p f) := by
  unfold State.modPart
  repeat' first
    | (with_reducible apply Keeps.upd; first | with_reducible assumption)

theorem State.setRing_keeps {s₀ : State} {s : State} (hk : Keeps s₀ s) (r : Nat) (x : Ring) :
    Keeps s₀ (State.setRing s r x) := by
  unfold State.setRing
  repeat' first
    | (with_reducible apply Keeps.upd; first | with_reducible assumption)

theorem State.modRing_keeps {s₀ : State} {s : State} (hk : Keeps s₀ s) (r : Nat) (f : Ring → Ring) :
    Keeps s₀ (State.modRing s r f) := by
  unfold State.modRing
  repeat' first
    | with_reducible assumption
    | with_reducible apply State.setRing_keeps

theorem State.modChan_keeps {s₀ : State} {s : State} (hk : Keeps s₀ s) (c : Nat) (f : Chan → Chan) :
    Keeps s₀ (State.modChan s c f) := by
  unfold State.modChan
  repeat' first
    | (with_reducible apply Keeps.upd; first | with_reducible assumption)

theorem State.modVc_keeps {s₀ : State} {s : State} (hk : Keeps s₀ s) (v : Nat) (f : VcEngine → VcEngine) :
    Keeps s₀ (State.modVc s v f) := by
  unfold State.modVc
  repeat' first
    | (with_reducible apply Keeps.upd; first | with_reducible assumption)

theorem State.modStk_keeps {s₀ : State} {s : State} (hk : Keeps s₀ s) (c : Nat) (f : Stack → Stack) :
    Keeps s₀ (State.modStk s c f) := by
  unfold State.modStk
  repeat' first
    | (with_reducible apply Keeps.upd; first | with_reducible assumption)

theorem State.modTc_keeps {s₀ : State} {s : State} (hk : Keeps s₀ s) (n : Nat) (f : Tc → Tc) :
    Keeps s₀ (State.modTc s n f) := by
  unfold State.modTc
  repeat' first
    | (with_reducible apply Keeps.upd; first | with_reducible assumption)

theorem State.modHp_keeps {s₀ : State} {s : State} (hk : Keeps s₀ s) (h : Nat) (f : HostPort → HostPort) :
    Keeps s₀ (State.modHp s h f) := by
  unfold State.modHp
  repeat' first
    | (with_reducible apply Keeps.upd; first | with_reducible assumption)

theorem State.modCmd_keeps {s₀ : State} {s : State} (hk : Keeps s₀ s) (r q : Nat) (f : InFlight → InFlight) :
    Keeps s₀ (State.modCmd s r q f) := by
  unfold State.modCmd
  repeat' first
    | (with_reducible apply Keeps.upd; first | with_reducible assumption)

theorem State.endCmd_keeps {s₀ : State} {s : State} (hk : Keeps s₀ s) (r q : Nat) (status good : Nat) :
    Keeps s₀ (State.endCmd s r q status good) := by
  unfold State.endCmd
  repeat' first
    | with_reducible assumption
    | with_reducible apply State.modCmd_keeps

theorem State.observe_keeps {s₀ : State} {s : State} (hk : Keeps s₀ s) :
    Keeps s₀ (State.observe s) := by
  unfold State.observe
  repeat' first
    | lift_lets
    | (intro y; clear_value y)
    | (with_reducible apply Keeps.upd; first | with_reducible assumption)

theorem State.raise_keeps {s₀ : State} {s : State} (hk : Keeps s₀ s) (pg bit : Nat) :
    Keeps s₀ (State.raise s pg bit) := by
  unfold State.raise
  repeat' first
    | with_reducible assumption
    | with_reducible apply State.setReg_keeps
    | lift_lets
    | (intro y; with_reducible refine Keeps.cut (x := y) ?_ (fun _ => ?_); rotate_left 1; clear_value y; rotate_left 1; unfold y)
    | with_reducible refine Keeps.ite (fun _ => ?_) (fun _ => ?_)
    | with_reducible apply Keeps.emit

theorem State.refuse_keeps {s₀ : State} {s : State} (hk : Keeps s₀ s) (pg code : Nat) (off : Nat) (lsb : Nat) :
    Keeps s₀ (State.refuse s pg code off lsb) := by
  unfold State.refuse
  repeat' first
    | with_reducible assumption
    | with_reducible apply State.raise_keeps
    | with_reducible apply State.setFld_keeps

theorem State.refuseF_keeps {s₀ : State} {s : State} (hk : Keeps s₀ s) (pg code : Nat) (f : Fld) :
    Keeps s₀ (State.refuseF s pg code f) := by
  unfold State.refuseF
  repeat' first
    | with_reducible assumption
    | with_reducible apply State.refuse_keeps

theorem State.ignoredWrite_keeps {s₀ : State} {s : State} (hk : Keeps s₀ s) (who : Requester) :
    Keeps s₀ (State.ignoredWrite s who) := by
  unfold State.ignoredWrite
  repeat' first
    | with_reducible assumption
    | with_reducible apply State.raise_keeps
    | split

theorem State.letIn_keeps {s₀ : State} {s : State} (hk : Keeps s₀ s) (who : Requester) (pg : Nat) (f : State → State) (hf : ∀ t, Keeps s₀ t → Keeps s₀ (f t)) :
    Keeps s₀ (State.letIn s who pg f) := by
  unfold State.letIn
  repeat' first
    | with_reducible assumption
    | with_reducible apply hf
    | with_reducible apply State.ignoredWrite_keeps
    | with_reducible refine Keeps.ite (fun _ => ?_) (fun _ => ?_)

theorem State.stopPartRings_keeps {s₀ : State} {s : State} (hk : Keeps s₀ s) (p : Nat) (code : Code) :
    Keeps s₀ (State.stopPartRings s p code) := by
  unfold State.stopPartRings
  repeat' first
    | (with_reducible apply Keeps.upd; first | with_reducible assumption)

theorem State.stopAllRings_keeps {s₀ : State} {s : State} (hk : Keeps s₀ s) (code : Code) :
    Keeps s₀ (State.stopAllRings s code) := by
  unfold State.stopAllRings
  repeat' first
    | (with_reducible apply Keeps.upd; first | with_reducible assumption)

theorem State.setAlert_keeps {s₀ : State} {s : State} (hk : Keeps s₀ s) :
    Keeps s₀ (State.setAlert s) := by
  unfold State.setAlert
  repeat' first
    | (with_reducible apply Keeps.upd; first | with_reducible assumption)

theorem State.writeErr_keeps {s₀ s : State} (h : Keeps s₀ s) (e : ErrInfo) (count : Nat) (coalesced : Bool) :
    Keeps s₀ (s.writeErr e count coalesced) := by
  unfold State.writeErr
  extract_lets tail full ti fatal flags bytes alerts x er s1 s2 s3 s4 s5
  have h1 : Keeps s₀ s1 := h.upd
  have h2 : Keeps s₀ s2 := State.setFld_keeps h1 ..
  have h3 : Keeps s₀ s3 := Keeps.ite (fun _ => State.raise_keeps (State.addFld_keeps (State.setFld_keeps h2 ..) ..) ..) (fun _ => h2)
  have h4 : Keeps s₀ s4 := State.raise_keeps h3 ..
  have h5 : Keeps s₀ s5 := Keeps.ite (fun _ => h4.foldl _ _ (fun _ _ ht => Keeps.ite (fun _ => ht.emit _) (fun _ => ht))) (fun _ => h4)
  exact State.setAlert_keeps (h5.emit _)

theorem State.countErr_keeps {s₀ : State} {s : State} (hk : Keeps s₀ s) (pg cls : Nat) :
    Keeps s₀ (State.countErr s pg cls) := by
  unfold State.countErr
  repeat' first
    | with_reducible assumption
    | with_reducible apply State.raise_keeps
    | with_reducible apply State.addFld_keeps

theorem State.setFault_keeps {s₀ : State} {s : State} (hk : Keeps s₀ s) (pg : Nat) :
    Keeps s₀ (State.setFault s pg) := by
  unfold State.setFault
  repeat' first
    | with_reducible assumption
    | with_reducible apply State.raise_keeps
    | with_reducible apply State.setFld_keeps
    | with_reducible refine Keeps.ite (fun _ => ?_) (fun _ => ?_)

theorem State.haltPart_keeps {s₀ : State} {s : State} (hk : Keeps s₀ s) (p : Nat) (code : Code) :
    Keeps s₀ (State.haltPart s p code) := by
  unfold State.haltPart
  repeat' first
    | with_reducible assumption
    | with_reducible apply State.setFault_keeps
    | with_reducible apply State.stopPartRings_keeps
    | with_reducible apply State.modPart_keeps

theorem State.classAct_keeps {s₀ : State} {s : State} (hk : Keeps s₀ s) (e : ErrInfo) :
    Keeps s₀ (State.classAct s e) := by
  unfold State.classAct
  repeat' first
    | with_reducible assumption
    | with_reducible apply State.setFault_keeps
    | with_reducible apply State.stopAllRings_keeps
    | with_reducible apply State.haltPart_keeps
    | lift_lets
    | (intro y; with_reducible refine Keeps.cut (x := y) ?_ (fun _ => ?_); rotate_left 1; clear_value y; rotate_left 1; unfold y)
    | with_reducible refine Keeps.ite (fun _ => ?_) (fun _ => ?_)
    | (with_reducible apply Keeps.upd; first | with_reducible assumption)
    | split

theorem State.recordError_keeps {s₀ : State} {s : State} (hk : Keeps s₀ s) (e : ErrInfo) :
    Keeps s₀ (State.recordError s e) := by
  unfold State.recordError
  repeat' first
    | with_reducible assumption
    | with_reducible apply State.classAct_keeps
    | with_reducible apply State.writeErr_keeps
    | with_reducible apply State.countErr_keeps
    | lift_lets
    | (intro y; with_reducible refine Keeps.cut (x := y) ?_ (fun _ => ?_); rotate_left 1; clear_value y; rotate_left 1; unfold y)
    | with_reducible refine Keeps.ite (fun _ => ?_) (fun _ => ?_)
    | (with_reducible apply Keeps.upd; first | with_reducible apply State.classAct_keeps | with_reducible apply State.writeErr_keeps | with_reducible refine Keeps.foldl ?_ _ _ (fun _ _ _ => ?_))

theorem State.endWindow_keeps {s₀ : State} {s : State} (hk : Keeps s₀ s) (source code : Nat) :
    Keeps s₀ (State.endWindow s source code) := by
  unfold State.endWindow
  repeat' first
    | with_reducible assumption
    | with_reducible apply State.writeErr_keeps
    | lift_lets
    | (intro y; with_reducible refine Keeps.cut (x := y) ?_ (fun _ => ?_); rotate_left 1; clear_value y; rotate_left 1; unfold y)
    | (intro y; clear_value y)
    | with_reducible refine Keeps.ite (fun _ => ?_) (fun _ => ?_)
    | (with_reducible apply Keeps.upd; first | with_reducible assumption)
    | split

theorem State.passErrs_keeps {s₀ : State} {s : State} (hk : Keeps s₀ s) (h : Nat) :
    Keeps s₀ (State.passErrs s h) := by
  unfold State.passErrs
  repeat' first
    | with_reducible assumption
    | with_reducible apply State.setAlert_keeps
    | lift_lets
    | (intro y; clear_value y)
    | (with_reducible apply Keeps.upd; first | with_reducible apply State.setFld_keeps)

theorem State.setDirty_keeps {s₀ : State} {s : State} (hk : Keeps s₀ s) :
    Keeps s₀ (State.setDirty s) := by
  unfold State.setDirty
  repeat' first
    | with_reducible assumption
    | with_reducible apply State.setBit_keeps

theorem State.shapeRefuse_keeps {s₀ : State} {s : State} (hk : Keeps s₀ s) (op : Nat) (code : Code) (off lsb : Nat) :
    Keeps s₀ (State.shapeRefuse s op code off lsb) := by
  unfold State.shapeRefuse
  repeat' first
    | with_reducible assumption
    | with_reducible apply State.setFld_keeps
    | with_reducible apply State.refuse_keeps

theorem State.shapeCode_keeps {s₀ : State} {s : State} (hk : Keeps s₀ s) (code : Code) (off lsb : Nat) :
    Keeps s₀ (State.shapeCode s code off lsb) := by
  unfold State.shapeCode
  repeat' first
    | with_reducible assumption
    | with_reducible apply State.setFld_keeps
    | with_reducible apply State.refuse_keeps

theorem State.shapeDone_keeps {s₀ : State} {s : State} (hk : Keeps s₀ s) (op : Nat) :
    Keeps s₀ (State.shapeDone s op) := by
  unfold State.shapeDone
  repeat' first
    | with_reducible assumption
    | with_reducible apply State.setFld_keeps

theorem shFieldWrite_keeps {s₀ : State} {s : State} (hk : Keeps s₀ s) (who : Requester) (off : Nat) (w : Width) (v : Word64) :
    Keeps s₀ (shFieldWrite s who off w v) := by
  unfold shFieldWrite
  repeat' first
    | with_reducible assumption
    | with_reducible apply State.setDirty_keeps
    | with_reducible apply State.ignoredWrite_keeps
    | with_reducible refine State.letIn_keeps ?_ _ _ _ (fun _ _ => ?_)
    | with_reducible apply State.shapeCode_keeps
    | lift_lets
    | (intro y; clear_value y)
    | with_reducible refine Keeps.ite (fun _ => ?_) (fun _ => ?_)
    | (with_reducible apply Keeps.upd; first | with_reducible assumption)
    | split

theorem shpLockWrite_keeps {s₀ : State} {s : State} (hk : Keeps s₀ s) (who : Requester) (v : Word64) :
    Keeps s₀ (shpLockWrite s who v) := by
  unfold shpLockWrite
  repeat' first
    | with_reducible assumption
    | with_reducible apply State.setFld_keeps
    | with_reducible refine State.letIn_keeps ?_ _ _ _ (fun _ _ => ?_)
    | with_reducible apply State.shapeCode_keeps
    | lift_lets
    | (intro y; clear_value y)
    | with_reducible refine Keeps.ite (fun _ => ?_) (fun _ => ?_)

theorem State.releaseLock_keeps {s₀ : State} {s : State} (hk : Keeps s₀ s) (ids : List Nat) :
    Keeps s₀ (State.releaseLock s ids) := by
  unfold State.releaseLock
  repeat' first
    | with_reducible assumption
    | with_reducible apply State.raise_keeps
    | with_reducible apply State.setFld_keeps
    | lift_lets
    | (intro y; clear_value y)
    | with_reducible refine Keeps.ite (fun _ => ?_) (fun _ => ?_)

theorem State.startPin_keeps {s₀ : State} {s : State} (hk : Keeps s₀ s) :
    Keeps s₀ (State.startPin s) := by
  unfold State.startPin
  repeat' first
    | with_reducible apply State.setFld_keeps
    | lift_lets
    | (intro y; clear_value y)
    | (with_reducible apply Keeps.upd; first | with_reducible assumption)

theorem State.stageOverrides_keeps {s₀ : State} {s : State} (hk : Keeps s₀ s) (ov : Option (List (Nat × Nat × Bool))) :
    Keeps s₀ (State.stageOverrides s ov) := by
  unfold State.stageOverrides
  repeat' first
    | with_reducible assumption
    | (with_reducible apply Keeps.upd; first | with_reducible assumption)
    | split

theorem State.beginCommit_keeps {s₀ : State} {s : State} (hk : Keeps s₀ s) (pin : Bool) :
    Keeps s₀ (State.beginCommit s pin) := by
  unfold State.beginCommit
  repeat' first
    | with_reducible apply State.setFld_keeps
    | (with_reducible apply Keeps.upd; first | with_reducible assumption)

theorem State.beginRevert_keeps {s₀ : State} {s : State} (hk : Keeps s₀ s) (pin : Bool) :
    Keeps s₀ (State.beginRevert s pin) := by
  unfold State.beginRevert
  repeat' first
    | with_reducible assumption
    | with_reducible apply State.setFld_keeps
    | with_reducible apply State.shapeRefuse_keeps
    | lift_lets
    | (intro y; clear_value y)
    | with_reducible refine Keeps.ite (fun _ => ?_) (fun _ => ?_)
    | (with_reducible apply Keeps.upd; first | with_reducible assumption)

theorem State.discard_keeps {s₀ : State} {s : State} (hk : Keeps s₀ s) (pin : Bool) :
    Keeps s₀ (State.discard s pin) := by
  unfold State.discard
  repeat' first
    | with_reducible assumption
    | with_reducible apply State.setDirty_keeps
    | with_reducible apply State.shapeDone_keeps
    | with_reducible apply State.startPin_keeps
    | lift_lets
    | (intro y; with_reducible refine Keeps.cut (x := y) ?_ (fun _ => ?_); rotate_left 1; clear_value y; rotate_left 1; unfold y)
    | (intro y; clear_value y)
    | with_reducible refine Keeps.ite (fun _ => ?_) (fun _ => ?_)
    | (with_reducible apply Keeps.upd; first | with_reducible assumption)

theorem State.pinNow_keeps {s₀ : State} {s : State} (hk : Keeps s₀ s) :
    Keeps s₀ (State.pinNow s) := by
  unfold State.pinNow
  repeat' first
    | with_reducible assumption
    | with_reducible apply State.shapeRefuse_keeps
    | with_reducible apply State.startPin_keeps
    | with_reducible refine Keeps.ite (fun _ => ?_) (fun _ => ?_)

theorem shpCtrlWrite_keeps {s₀ : State} {s : State} (hk : Keeps s₀ s) (who : Requester) (c : Word64) (ov : Option (List (Nat × Nat × Bool))) :
    Keeps s₀ (shpCtrlWrite s who c ov) := by
  unfold shpCtrlWrite
  repeat' first
    | with_reducible assumption
    | with_reducible apply State.beginRevert_keeps
    | with_reducible apply State.setDirty_keeps
    | with_reducible apply State.startPin_keeps
    | with_reducible apply State.stageOverrides_keeps
    | with_reducible apply State.discard_keeps
    | with_reducible apply State.beginCommit_keeps
    | with_reducible apply State.shapeRefuse_keeps
    | with_reducible refine State.letIn_keeps ?_ _ _ _ (fun _ _ => ?_)
    | with_reducible apply State.shapeCode_keeps
    | lift_lets
    | with_reducible refine Keeps.ite (fun _ => ?_) (fun _ => ?_)
    | split

theorem shapeCommitCheckDone_keeps {s₀ : State} {s : State} (hk : Keeps s₀ s) :
    Keeps s₀ (shapeCommitCheckDone s) := by
  unfold shapeCommitCheckDone
  repeat' first
    | with_reducible assumption
    | with_reducible apply State.setFld_keeps
    | with_reducible apply State.shapeRefuse_keeps
    | lift_lets
    | (intro y; with_reducible refine Keeps.cut (x := y) ?_ (fun _ => ?_); rotate_left 1; clear_value y; rotate_left 1; unfold y)
    | (intro y; clear_value y)
    | with_reducible refine Keeps.ite (fun _ => ?_) (fun _ => ?_)
    | (with_reducible apply Keeps.upd; first | with_reducible assumption)
    | split

theorem shapePinDone_keeps {s₀ : State} {s : State} (hk : Keeps s₀ s) (ok : Bool) :
    Keeps s₀ (shapePinDone s ok) := by
  unfold shapePinDone
  repeat' first
    | with_reducible assumption
    | with_reducible apply State.setFld_keeps
    | with_reducible apply State.shapeDone_keeps
    | with_reducible apply State.recordError_keeps
    | with_reducible apply State.shapeRefuse_keeps
    | lift_lets
    | (intro y; with_reducible refine Keeps.cut (x := y) ?_ (fun _ => ?_); rotate_left 1; clear_value y; rotate_left 1; unfold y)
    | (intro y; clear_value y)
    | with_reducible refine Keeps.ite (fun _ => ?_) (fun _ => ?_)
    | (with_reducible apply Keeps.upd; first | with_reducible assumption)
    | split

theorem execShFieldWrite_keeps {s₀ : State} (who : Requester) (off : Nat) (w : Width) (v : Word64) {s : State} (hk : Keeps s₀ s) {t₁ : State} (e₁ : execShFieldWrite who off w v s = .next t₁) :
    Keeps s₀ t₁ := by
  unfold execShFieldWrite State.done at e₁
  cases e₁
  apply State.observe_keeps
  repeat' first
    | with_reducible assumption
    | with_reducible apply shFieldWrite_keeps

theorem execShpLockWrite_keeps {s₀ : State} (who : Requester) (v : Word64) {s : State} (hk : Keeps s₀ s) {t₁ : State} (e₁ : execShpLockWrite who v s = .next t₁) :
    Keeps s₀ t₁ := by
  unfold execShpLockWrite State.done at e₁
  cases e₁
  apply State.observe_keeps
  repeat' first
    | with_reducible assumption
    | with_reducible apply shpLockWrite_keeps

theorem execShapeCommit_keeps {s₀ : State} (who : Requester) (ctrl : CommitWrite) {s : State} (hk : Keeps s₀ s) {t₁ : State} (e₁ : execShapeCommit who ctrl s = .next t₁) :
    Keeps s₀ t₁ := by
  unfold execShapeCommit State.done at e₁
  cases e₁
  apply State.observe_keeps
  repeat' first
    | with_reducible assumption
    | with_reducible apply shpCtrlWrite_keeps

theorem execShapeCommitCheckDone_keeps {s₀ : State} {s : State} (hk : Keeps s₀ s) {t₁ : State} (e₁ : execShapeCommitCheckDone s = .next t₁) :
    Keeps s₀ t₁ := by
  unfold execShapeCommitCheckDone State.done at e₁
  cases e₁
  apply State.observe_keeps
  repeat' first
    | with_reducible assumption
    | with_reducible apply shapeCommitCheckDone_keeps

theorem execShapeRevert_keeps {s₀ : State} (who : Requester) (ctrl : Word64) {s : State} (hk : Keeps s₀ s) {t₁ : State} (e₁ : execShapeRevert who ctrl s = .next t₁) :
    Keeps s₀ t₁ := by
  unfold execShapeRevert State.done at e₁
  cases e₁
  apply State.observe_keeps
  repeat' first
    | with_reducible assumption
    | with_reducible apply shpCtrlWrite_keeps

theorem execShapePin_keeps {s₀ : State} (who : Requester) (ctrl : Word64) {s : State} (hk : Keeps s₀ s) {t₁ : State} (e₁ : execShapePin who ctrl s = .next t₁) :
    Keeps s₀ t₁ := by
  unfold execShapePin State.done at e₁
  cases e₁
  apply State.observe_keeps
  repeat' first
    | with_reducible assumption
    | with_reducible apply shpCtrlWrite_keeps

theorem execShapePinDone_keeps {s₀ : State} (ok : Bool) {s : State} (hk : Keeps s₀ s) {t₁ : State} (e₁ : execShapePinDone ok s = .next t₁) :
    Keeps s₀ t₁ := by
  unfold execShapePinDone State.done at e₁
  cases e₁
  apply State.observe_keeps
  repeat' first
    | with_reducible assumption
    | with_reducible apply shapePinDone_keeps

theorem execShapeDiscard_keeps {s₀ : State} (who : Requester) (ctrl : Word64) {s : State} (hk : Keeps s₀ s) {t₁ : State} (e₁ : execShapeDiscard who ctrl s = .next t₁) :
    Keeps s₀ t₁ := by
  unfold execShapeDiscard State.done at e₁
  cases e₁
  apply State.observe_keeps
  repeat' first
    | with_reducible assumption
    | with_reducible apply shpCtrlWrite_keeps

theorem State.setSlotW0_keeps {s₀ : State} {s : State} (hk : Keeps s₀ s) (p i st span owner : Nat) :
    Keeps s₀ (State.setSlotW0 s p i st span owner) := by
  unfold State.setSlotW0
  repeat' first
    | with_reducible assumption
    | with_reducible apply State.wr64_keeps

theorem State.setSlotSt_keeps {s₀ : State} {s : State} (hk : Keeps s₀ s) (p i st : Nat) :
    Keeps s₀ (State.setSlotSt s p i st) := by
  unfold State.setSlotSt
  repeat' first
    | with_reducible assumption
    | with_reducible apply State.setSlotW0_keeps

theorem State.setSlotUse_keeps {s₀ : State} {s : State} (hk : Keeps s₀ s) (p i use : Nat) :
    Keeps s₀ (State.setSlotUse s p i use) := by
  unfold State.setSlotUse
  repeat' first
    | with_reducible assumption
    | with_reducible apply State.wr64_keeps

theorem State.markRun_keeps {s₀ : State} {s : State} (hk : Keeps s₀ s) (p i span st owner : Nat) :
    Keeps s₀ (State.markRun s p i span st owner) := by
  unfold State.markRun
  repeat' first
    | with_reducible assumption
    | with_reducible apply State.setSlotW0_keeps
    | with_reducible refine Keeps.ite (fun _ => ?_) (fun _ => ?_)
    | (with_reducible apply Keeps.upd; first | with_reducible refine Keeps.foldl ?_ _ _ (fun _ _ _ => ?_))

theorem State.takeRun_keeps {s₀ : State} {s : State} (hk : Keeps s₀ s) (p i span st owner : Nat) :
    Keeps s₀ (State.takeRun s p i span st owner) := by
  unfold State.takeRun
  repeat' first
    | with_reducible assumption
    | with_reducible apply State.wr64_keeps
    | with_reducible apply State.markRun_keeps

theorem State.freeRun_keeps {s₀ : State} {s : State} (hk : Keeps s₀ s) (p i : Nat) :
    Keeps s₀ (State.freeRun s p i) := by
  unfold State.freeRun
  repeat' first
    | with_reducible assumption
    | with_reducible apply State.setSlotW0_keeps
    | (with_reducible apply Keeps.upd; first | with_reducible refine Keeps.foldl ?_ _ _ (fun _ _ _ => ?_))

theorem State.epochAdv_keeps {s₀ : State} {s : State} (hk : Keeps s₀ s) (p : Nat) :
    Keeps s₀ (State.epochAdv s p) := by
  unfold State.epochAdv
  repeat' first
    | with_reducible assumption
    | with_reducible apply State.setFld_keeps

theorem State.toLimbo_keeps {s₀ : State} {s : State} (hk : Keeps s₀ s) (p i : Nat) :
    Keeps s₀ (State.toLimbo s p i) := by
  unfold State.toLimbo
  repeat' first
    | with_reducible assumption
    | with_reducible apply State.epochAdv_keeps
    | with_reducible apply State.setSlotSt_keeps
    | lift_lets
    | (intro y; with_reducible refine Keeps.cut (x := y) ?_ (fun _ => ?_); rotate_left 1; clear_value y; rotate_left 1; unfold y)
    | (with_reducible apply Keeps.upd; first | with_reducible assumption)

theorem State.limboRelease_keeps {s₀ : State} {s : State} (hk : Keeps s₀ s) (p : Nat) :
    Keeps s₀ (State.limboRelease s p) := by
  unfold State.limboRelease
  repeat' first
    | with_reducible assumption
    | with_reducible apply State.freeRun_keeps
    | lift_lets
    | (intro y; with_reducible refine Keeps.cut (x := y) ?_ (fun _ => ?_); rotate_left 1; clear_value y; rotate_left 1; unfold y)
    | (intro y; clear_value y)
    | (with_reducible apply Keeps.upd; first | with_reducible assumption | with_reducible refine Keeps.foldl ?_ _ _ (fun _ _ _ => ?_))

theorem State.freeTier_keeps {s₀ : State} {s : State} (hk : Keeps s₀ s) (p : Nat) (host : Bool) :
    Keeps s₀ (State.freeTier s p host) := by
  unfold State.freeTier
  repeat' first
    | with_reducible assumption
    | with_reducible apply State.setSlotW0_keeps
    | (with_reducible apply Keeps.upd; first | with_reducible refine Keeps.foldl ?_ _ _ (fun _ _ _ => ?_))

theorem State.freeTable_keeps {s₀ : State} {s : State} (hk : Keeps s₀ s) (p : Nat) :
    Keeps s₀ (State.freeTable s p) := by
  unfold State.freeTable
  repeat' first
    | with_reducible assumption
    | with_reducible apply State.freeTier_keeps
    | lift_lets
    | (intro y; with_reducible refine Keeps.cut (x := y) ?_ (fun _ => ?_); rotate_left 1; clear_value y; rotate_left 1; unfold y)
    | (with_reducible apply Keeps.upd; first | with_reducible assumption)

theorem State.dropMove_keeps {s₀ : State} {s : State} (hk : Keeps s₀ s) (m : KvMove) :
    Keeps s₀ (State.dropMove s m) := by
  unfold State.dropMove
  repeat' first
    | with_reducible assumption
    | with_reducible apply State.freeRun_keeps
    | with_reducible apply State.setSlotSt_keeps
    | lift_lets
    | (intro y; with_reducible refine Keeps.cut (x := y) ?_ (fun _ => ?_); rotate_left 1; clear_value y; rotate_left 1; unfold y)
    | with_reducible refine Keeps.ite (fun _ => ?_) (fun _ => ?_)
    | (with_reducible apply Keeps.upd; first | with_reducible assumption)

theorem State.settleKv_keeps {s₀ : State} {s : State} (hk : Keeps s₀ s) (mine : Nat → Bool) :
    Keeps s₀ (State.settleKv s mine) := by
  unfold State.settleKv
  repeat' first
    | with_reducible assumption
    | with_reducible apply State.freeRun_keeps
    | with_reducible apply State.dropMove_keeps
    | lift_lets
    | (intro y; with_reducible refine Keeps.cut (x := y) ?_ (fun _ => ?_); rotate_left 1; clear_value y; rotate_left 1; unfold y)
    | (with_reducible apply Keeps.upd; first | with_reducible refine Keeps.foldl ?_ _ _ (fun _ _ _ => ?_))

theorem State.abandonMoves_keeps {s₀ : State} {s : State} (hk : Keeps s₀ s) (r q : Nat) :
    Keeps s₀ (State.abandonMoves s r q) := by
  unfold State.abandonMoves
  repeat' first
    | with_reducible assumption
    | with_reducible apply State.dropMove_keeps
    | (with_reducible apply Keeps.upd; first | with_reducible refine Keeps.foldl ?_ _ _ (fun _ _ _ => ?_))

theorem State.dropWork_keeps {s₀ : State} {s : State} (hk : Keeps s₀ s) (c : InFlight) :
    Keeps s₀ (State.dropWork s c) := by
  unfold State.dropWork
  repeat' first
    | with_reducible assumption
    | with_reducible apply State.freeRun_keeps
    | with_reducible apply State.abandonMoves_keeps
    | with_reducible apply State.wr64_keeps
    | lift_lets
    | (intro y; with_reducible refine Keeps.cut (x := y) ?_ (fun _ => ?_); rotate_left 1; clear_value y; rotate_left 1; unfold y)
    | (with_reducible apply Keeps.upd; first | with_reducible refine Keeps.foldl ?_ _ _ (fun _ _ _ => ?_))
    | split

theorem State.wrHost_keeps {s₀ : State} {s : State} (hk : Keeps s₀ s) (h a : Nat) (b : List Byte) :
    Keeps s₀ (State.wrHost s h a b) := by
  unfold State.wrHost
  repeat' first
    | with_reducible assumption
    | with_reducible apply State.hwrs_keeps

theorem State.applySignal_keeps {s₀ : State} {s : State} (hk : Keeps s₀ s) (k op v : Nat) {t : State} (e : State.applySignal s k op v = some t) :
    Keeps s₀ t := by
  unfold State.applySignal at e
  (repeat' split at e) <;> first | contradiction | (cases e; repeat' first
    | with_reducible assumption
    | with_reducible apply State.wr64_keeps
    | with_reducible apply State.observe_keeps)

theorem State.started_keeps {s₀ : State} {s : State} (hk : Keeps s₀ s) (c : InFlight) :
    Keeps s₀ (State.started s c) := by
  unfold State.started
  repeat' first
    | with_reducible apply State.modCtx_keeps
    | lift_lets
    | (intro y; clear_value y)
    | (with_reducible apply Keeps.upd; first | with_reducible assumption | with_reducible apply State.modCmd_keeps)

theorem State.heldOut_keeps {s₀ : State} {s : State} (hk : Keeps s₀ s) :
    Keeps s₀ (State.heldOut s) := by
  unfold State.heldOut
  repeat' first
    | (with_reducible apply Keeps.upd; first | with_reducible assumption)

theorem State.unlessHeld_keeps {s₀ : State} {s : State} (hk : Keeps s₀ s) (f : State → State) (hf : ∀ t, Keeps s₀ t → Keeps s₀ (f t)) :
    Keeps s₀ (State.unlessHeld s f) := by
  unfold State.unlessHeld
  repeat' first
    | with_reducible assumption
    | with_reducible apply hf
    | lift_lets
    | (intro y; with_reducible refine Keeps.cut (x := y) ?_ (fun _ => ?_); rotate_left 1; clear_value y; rotate_left 1; unfold y)
    | with_reducible refine Keeps.ite (fun _ => ?_) (fun _ => ?_)

theorem State.runCmd_keeps {s₀ : State} {s : State} (hk : Keeps s₀ s) (op r q : Nat) (f : State → InFlight → State) (hf : ∀ t a0, Keeps s₀ t → Keeps s₀ (f t a0)) :
    Keeps s₀ (State.runCmd s op r q f) := by
  unfold State.runCmd
  repeat' first
    | with_reducible assumption
    | with_reducible apply hf
    | with_reducible apply State.started_keeps
    | with_reducible refine State.unlessHeld_keeps ?_ _ (fun _ _ => ?_)
    | with_reducible apply State.observe_keeps
    | lift_lets
    | (intro y; with_reducible refine Keeps.cut (x := y) ?_ (fun _ => ?_); rotate_left 1; clear_value y; rotate_left 1; unfold y)
    | with_reducible refine Keeps.ite (fun _ => ?_) (fun _ => ?_)
    | split

theorem State.finish_keeps {s₀ : State} {s : State} (hk : Keeps s₀ s) (r q : Nat) (code : Code) :
    Keeps s₀ (State.finish s r q code) := by
  unfold State.finish
  repeat' first
    | with_reducible assumption
    | with_reducible apply State.modCmd_keeps

theorem State.contCmd_keeps {s₀ : State} {s : State} (hk : Keeps s₀ s) (op r q : Nat) (f g : State → InFlight → State) (hf : ∀ t a0, Keeps s₀ t → Keeps s₀ (f t a0)) (hg : ∀ t a0, Keeps s₀ t → Keeps s₀ (g t a0)) :
    Keeps s₀ (State.contCmd s op r q f g) := by
  unfold State.contCmd
  repeat' first
    | with_reducible assumption
    | with_reducible apply hf
    | with_reducible apply hg
    | with_reducible apply State.started_keeps
    | with_reducible refine State.unlessHeld_keeps ?_ _ (fun _ _ => ?_)
    | with_reducible apply State.modCmd_keeps
    | with_reducible apply State.observe_keeps
    | lift_lets
    | (intro y; with_reducible refine Keeps.cut (x := y) ?_ (fun _ => ?_); rotate_left 1; clear_value y; rotate_left 1; unfold y)
    | with_reducible refine Keeps.ite (fun _ => ?_) (fun _ => ?_)
    | split

theorem State.logRecord_keeps {s₀ : State} {s : State} (hk : Keeps s₀ s) (h : Nat) (rec : List Byte) (orig : Nat) (flushed sent : Bool) :
    Keeps s₀ (State.logRecord s h rec orig flushed sent) := by
  unfold State.logRecord
  repeat' first
    | with_reducible assumption
    | with_reducible apply State.modHp_keeps
    | with_reducible apply State.setFld_keeps
    | with_reducible apply State.addFld_keeps
    | with_reducible apply State.raise_keeps
    | lift_lets
    | with_reducible refine Keeps.ite (fun _ => ?_) (fun _ => ?_)

theorem State.performSignal_keeps {s₀ : State} {s : State} (hk : Keeps s₀ s) (c : InFlight) :
    Keeps s₀ (State.performSignal s c).1 := by
  unfold State.performSignal
  repeat' first
    | with_reducible assumption
    | with_reducible refine Keeps.ite1 (fun _ => ?_) (fun _ => ?_)
    | split
    | (refine State.applySignal_keeps ?_ (e := by assumption))

theorem State.putDw_keeps {s₀ : State} {s : State} (hk : Keeps s₀ s) (h cid status good : Nat) (irq : Bool) :
    Keeps s₀ (State.putDw s h cid status good irq) := by
  unfold State.putDw
  repeat' first
    | with_reducible assumption
    | with_reducible apply State.modHp_keeps
    | with_reducible apply State.setFld_keeps
    | with_reducible apply State.wrHost_keeps
    | lift_lets
    | (intro y; with_reducible refine Keeps.cut (x := y) ?_ (fun _ => ?_); rotate_left 1; clear_value y; rotate_left 1; unfold y)
    | (intro y; clear_value y)
    | with_reducible refine Keeps.ite (fun _ => ?_) (fun _ => ?_)
    | with_reducible apply Keeps.emit

theorem State.putRecord_keeps {s₀ s : State} (h : Keeps s₀ s) (c : InFlight) (status info : Nat) :
    Keeps s₀ (s.putRecord c status info) := by
  unfold State.putRecord
  split
  · exact State.putDw_keeps h ..
  · extract_lets r b slot a adv irq s1
    have hadv : ∀ {t : State}, Keeps s₀ t → Keeps s₀ (adv t) := fun ht => State.setRing_keeps ht ..
    have hirq : ∀ {t : State}, Keeps s₀ t → Keeps s₀ (irq t) := fun {t} ht => by
      show Keeps s₀ (if _ then _ else _)
      refine Keeps.ite (fun _ => ?_) (fun _ => ht)
      split
      · exact Keeps.ite (fun _ => ht.emit _) (fun _ => ht)
      · exact ht
    have h1 : Keeps s₀ s1 := State.modHp_keeps (hadv (State.wrHost_keeps h ..)) ..
    refine Keeps.ite (fun _ => Keeps.ite (fun _ => State.logRecord_keeps h ..) (fun _ => hirq h1)) (fun _ => ?_)
    split
    · exact hirq (hadv (State.wrs_keeps h ..))
    · exact h

theorem State.lateAt_keeps {s₀ : State} {s : State} (hk : Keeps s₀ s) (late : Bool) :
    Keeps s₀ (State.lateAt s late) := by
  unfold State.lateAt
  repeat' first
    | with_reducible assumption
    | with_reducible apply State.raise_keeps
    | with_reducible apply State.addFld_keeps
    | with_reducible refine Keeps.ite (fun _ => ?_) (fun _ => ?_)

theorem State.dropCmd_keeps {s₀ : State} {s : State} (hk : Keeps s₀ s) (r q : Nat) :
    Keeps s₀ (State.dropCmd s r q) := by
  unfold State.dropCmd
  repeat' first
    | (with_reducible apply Keeps.upd; first | with_reducible assumption)

theorem State.complete_keeps {s₀ : State} {s : State} (hk : Keeps s₀ s) (c : InFlight) :
    Keeps s₀ (State.complete s c) := by
  unfold State.complete
  repeat' first
    | with_reducible assumption
    | with_reducible apply State.lateAt_keeps
    | with_reducible apply State.modTc_keeps
    | with_reducible apply State.modCtx_keeps
    | with_reducible apply State.dropCmd_keeps
    | with_reducible apply State.performSignal_keeps
    | with_reducible apply State.putRecord_keeps
    | lift_lets
    | with_reducible refine Keeps.ite (fun _ => ?_) (fun _ => ?_)
    | split

theorem State.endAll_keeps {s₀ : State} {s : State} (hk : Keeps s₀ s) (pick : InFlight → Bool) (code : Code) :
    Keeps s₀ (State.endAll s pick code) := by
  unfold State.endAll
  repeat' first
    | with_reducible assumption
    | with_reducible apply State.complete_keeps
    | with_reducible apply State.dropWork_keeps
    | (with_reducible apply Keeps.upd; first | with_reducible refine Keeps.foldl ?_ _ _ (fun _ _ _ => ?_))

theorem ringCfgWrite_keeps {s₀ : State} {s : State} (hk : Keeps s₀ s) (who : Requester) (p : Nat) (v : Word64) :
    Keeps s₀ (ringCfgWrite s who p v) := by
  unfold ringCfgWrite
  repeat' first
    | with_reducible assumption
    | with_reducible apply State.refuse_keeps
    | with_reducible apply State.refuseF_keeps
    | with_reducible refine State.letIn_keeps ?_ _ _ _ (fun _ _ => ?_)
    | with_reducible apply State.setRing_keeps
    | lift_lets
    | (intro y; clear_value y)
    | with_reducible refine Keeps.ite (fun _ => ?_) (fun _ => ?_)
    | split

theorem execRingEnable_keeps {s₀ : State} (who : Requester) (part : Nat) (v : Word64) {s : State} (hk : Keeps s₀ s) {t₁ : State} (e₁ : execRingEnable who part v s = .next t₁) :
    Keeps s₀ t₁ := by
  unfold execRingEnable State.done at e₁
  cases e₁
  apply State.observe_keeps
  repeat' first
    | with_reducible assumption
    | with_reducible apply ringCfgWrite_keeps

theorem execRingDisable_keeps {s₀ : State} (who : Requester) (part : Nat) (v : Word64) {s : State} (hk : Keeps s₀ s) {t₁ : State} (e₁ : execRingDisable who part v s = .next t₁) :
    Keeps s₀ t₁ := by
  unfold execRingDisable State.done at e₁
  cases e₁
  apply State.observe_keeps
  repeat' first
    | with_reducible assumption
    | with_reducible apply ringCfgWrite_keeps

theorem ringDrainDone_keeps {s₀ : State} {s : State} (hk : Keeps s₀ s) (r : Nat) :
    Keeps s₀ (ringDrainDone s r) := by
  unfold ringDrainDone
  repeat' first
    | with_reducible assumption
    | with_reducible apply State.modRing_keeps
    | with_reducible refine Keeps.ite (fun _ => ?_) (fun _ => ?_)

theorem execRingDrainDone_keeps {s₀ : State} (ring : Nat) {s : State} (hk : Keeps s₀ s) {t₁ : State} (e₁ : execRingDrainDone ring s = .next t₁) :
    Keeps s₀ t₁ := by
  unfold execRingDrainDone State.done at e₁
  cases e₁
  apply State.observe_keeps
  repeat' first
    | with_reducible assumption
    | with_reducible apply ringDrainDone_keeps

theorem State.doorbell_keeps {s₀ : State} {s : State} (hk : Keeps s₀ s) (who : Requester) (r : Nat) (f : State → State) (hf : ∀ t, Keeps s₀ t → Keeps s₀ (f t)) :
    Keeps s₀ (State.doorbell s who r f) := by
  unfold State.doorbell
  repeat' first
    | with_reducible assumption
    | with_reducible apply hf
    | with_reducible refine Keeps.ite (fun _ => ?_) (fun _ => ?_)

theorem State.autoWake_keeps {s₀ : State} {s : State} (hk : Keeps s₀ s) (p : Nat) :
    Keeps s₀ (State.autoWake s p) := by
  unfold State.autoWake
  repeat' first
    | with_reducible assumption
    | with_reducible apply State.modPart_keeps
    | with_reducible apply State.setFld_keeps
    | lift_lets
    | (intro y; clear_value y)
    | with_reducible refine Keeps.ite (fun _ => ?_) (fun _ => ?_)

theorem dbTailWrite_keeps {s₀ : State} {s : State} (hk : Keeps s₀ s) (who : Requester) (r : Nat) (v : Word64) :
    Keeps s₀ (dbTailWrite s who r v) := by
  unfold dbTailWrite
  repeat' first
    | with_reducible assumption
    | with_reducible refine State.doorbell_keeps ?_ _ _ _ (fun _ _ => ?_)
    | with_reducible apply State.refuse_keeps
    | with_reducible apply State.autoWake_keeps
    | with_reducible apply State.setRing_keeps
    | lift_lets
    | (intro y; clear_value y)
    | with_reducible refine Keeps.ite (fun _ => ?_) (fun _ => ?_)
    | split

theorem dbCqHeadWrite_keeps {s₀ : State} {s : State} (hk : Keeps s₀ s) (who : Requester) (r : Nat) (v : Word64) :
    Keeps s₀ (dbCqHeadWrite s who r v) := by
  unfold dbCqHeadWrite
  repeat' first
    | with_reducible assumption
    | with_reducible refine State.doorbell_keeps ?_ _ _ _ (fun _ _ => ?_)
    | with_reducible apply State.refuse_keeps
    | with_reducible apply State.setRing_keeps
    | lift_lets
    | (intro y; clear_value y)
    | with_reducible refine Keeps.ite (fun _ => ?_) (fun _ => ?_)
    | split

theorem execDbTailWrite_keeps {s₀ : State} (who : Requester) (ring : Nat) (v : Word64) {s : State} (hk : Keeps s₀ s) {t₁ : State} (e₁ : execDbTailWrite who ring v s = .next t₁) :
    Keeps s₀ t₁ := by
  unfold execDbTailWrite State.done at e₁
  cases e₁
  apply State.observe_keeps
  repeat' first
    | with_reducible assumption
    | with_reducible apply dbTailWrite_keeps

theorem execDbCqHeadWrite_keeps {s₀ : State} (who : Requester) (ring : Nat) (v : Word64) {s : State} (hk : Keeps s₀ s) {t₁ : State} (e₁ : execDbCqHeadWrite who ring v s = .next t₁) :
    Keeps s₀ t₁ := by
  unfold execDbCqHeadWrite State.done at e₁
  cases e₁
  apply State.observe_keeps
  repeat' first
    | with_reducible assumption
    | with_reducible apply dbCqHeadWrite_keeps

theorem nopCmd_keeps {s₀ : State} {s : State} (hk : Keeps s₀ s) (r q : Nat) :
    Keeps s₀ (nopCmd s r q) := by
  unfold nopCmd
  repeat' first
    | with_reducible assumption
    | with_reducible apply State.endCmd_keeps
    | with_reducible refine State.runCmd_keeps ?_ _ _ _ _ (fun _ _ _ => ?_)

theorem fenceCmd_keeps {s₀ : State} {s : State} (hk : Keeps s₀ s) (r q : Nat) :
    Keeps s₀ (fenceCmd s r q) := by
  unfold fenceCmd
  repeat' first
    | with_reducible assumption
    | with_reducible apply State.endCmd_keeps
    | with_reducible refine State.runCmd_keeps ?_ _ _ _ _ (fun _ _ _ => ?_)
    | with_reducible refine Keeps.ite (fun _ => ?_) (fun _ => ?_)

theorem waitStrokeCmd_keeps {s₀ : State} {s : State} (hk : Keeps s₀ s) (r q : Nat) :
    Keeps s₀ (waitStrokeCmd s r q) := by
  unfold waitStrokeCmd
  repeat' first
    | with_reducible assumption
    | with_reducible apply State.endCmd_keeps
    | with_reducible refine State.runCmd_keeps ?_ _ _ _ _ (fun _ _ _ => ?_)
    | with_reducible refine Keeps.ite (fun _ => ?_) (fun _ => ?_)

theorem signalCmd_keeps {s₀ : State} {s : State} (hk : Keeps s₀ s) (r q : Nat) :
    Keeps s₀ (signalCmd s r q) := by
  unfold signalCmd
  repeat' first
    | with_reducible assumption
    | with_reducible apply State.endCmd_keeps
    | with_reducible refine State.runCmd_keeps ?_ _ _ _ _ (fun _ _ _ => ?_)

theorem atomicCmd_keeps {s₀ : State} {s : State} (hk : Keeps s₀ s) (r q : Nat) :
    Keeps s₀ (atomicCmd s r q) := by
  unfold atomicCmd
  repeat' first
    | with_reducible assumption
    | with_reducible apply State.wr64_keeps
    | with_reducible apply State.endCmd_keeps
    | with_reducible apply State.observe_keeps
    | with_reducible refine State.runCmd_keeps ?_ _ _ _ _ (fun _ _ _ => ?_)
    | lift_lets
    | (intro y; clear_value y)
    | with_reducible refine Keeps.ite (fun _ => ?_) (fun _ => ?_)
    | split

theorem execNop_keeps {s₀ : State} (ring seq : Nat) {s : State} (hk : Keeps s₀ s) {t₁ : State} (e₁ : execNop ring seq s = .next t₁) :
    Keeps s₀ t₁ := by
  unfold execNop State.done at e₁
  cases e₁
  apply State.observe_keeps
  repeat' first
    | with_reducible assumption
    | with_reducible apply nopCmd_keeps

theorem execFence_keeps {s₀ : State} (ring seq : Nat) {s : State} (hk : Keeps s₀ s) {t₁ : State} (e₁ : execFence ring seq s = .next t₁) :
    Keeps s₀ t₁ := by
  unfold execFence State.done at e₁
  cases e₁
  apply State.observe_keeps
  repeat' first
    | with_reducible assumption
    | with_reducible apply fenceCmd_keeps

theorem execWaitStroke_keeps {s₀ : State} (ring seq : Nat) {s : State} (hk : Keeps s₀ s) {t₁ : State} (e₁ : execWaitStroke ring seq s = .next t₁) :
    Keeps s₀ t₁ := by
  unfold execWaitStroke State.done at e₁
  cases e₁
  apply State.observe_keeps
  repeat' first
    | with_reducible assumption
    | with_reducible apply waitStrokeCmd_keeps

theorem execSemSignal_keeps {s₀ : State} (ring seq : Nat) {s : State} (hk : Keeps s₀ s) {t₁ : State} (e₁ : execSemSignal ring seq s = .next t₁) :
    Keeps s₀ t₁ := by
  unfold execSemSignal State.done at e₁
  cases e₁
  apply State.observe_keeps
  repeat' first
    | with_reducible assumption
    | with_reducible apply signalCmd_keeps

theorem execAtomic_keeps {s₀ : State} (ring seq : Nat) {s : State} (hk : Keeps s₀ s) {t₁ : State} (e₁ : execAtomic ring seq s = .next t₁) :
    Keeps s₀ t₁ := by
  unfold execAtomic State.done at e₁
  cases e₁
  apply State.observe_keeps
  repeat' first
    | with_reducible assumption
    | with_reducible apply atomicCmd_keeps

theorem State.pinModel_keeps {s₀ : State} {s : State} (hk : Keeps s₀ s) (i : Nat) (delta : Int) :
    Keeps s₀ (State.pinModel s i delta) := by
  unfold State.pinModel
  repeat' first
    | with_reducible assumption
    | with_reducible apply State.wr64_keeps
    | split

theorem State.useModel_keeps {s₀ : State} {s : State} (hk : Keeps s₀ s) (i : Nat) :
    Keeps s₀ (State.useModel s i) := by
  unfold State.useModel
  repeat' first
    | with_reducible assumption
    | with_reducible apply State.wr64_keeps
    | split

theorem State.ctxRefuse_keeps {s₀ : State} {s : State} (hk : Keeps s₀ s) (p c : Nat) (code : Code) (f : Fld) :
    Keeps s₀ (State.ctxRefuse s p c code f) := by
  unfold State.ctxRefuse
  repeat' first
    | with_reducible assumption
    | with_reducible apply State.modCtx_keeps
    | with_reducible apply State.refuseF_keeps

theorem State.emptyCtx_keeps {s₀ : State} {s : State} (hk : Keeps s₀ s) (p c : Nat) :
    Keeps s₀ (State.emptyCtx s p c) := by
  unfold State.emptyCtx
  repeat' first
    | with_reducible assumption
    | with_reducible apply State.pinModel_keeps
    | with_reducible apply State.setCtx_keeps
    | lift_lets
    | (with_reducible apply Keeps.upd; first | with_reducible refine Keeps.foldl ?_ _ _ (fun _ _ _ => ?_))

theorem State.makeReady_keeps {s₀ : State} {s : State} (hk : Keeps s₀ s) (p c : Nat) (y : Ctx) (ws : List Window) (areas : List (Nat × Nat)) (bs : List Nat) :
    Keeps s₀ (State.makeReady s p c y ws areas bs) := by
  unfold State.makeReady
  repeat' first
    | with_reducible assumption
    | with_reducible apply State.pinModel_keeps
    | with_reducible apply State.setCtx_keeps
    | lift_lets
    | (intro y; with_reducible refine Keeps.cut (x := y) ?_ (fun _ => ?_); rotate_left 1; clear_value y; rotate_left 1; unfold y)
    | (with_reducible apply Keeps.upd; first | with_reducible refine Keeps.foldl ?_ _ _ (fun _ _ _ => ?_))

theorem ctxCfgWrite_keeps {s₀ : State} {s : State} (hk : Keeps s₀ s) (who : Requester) (p : Nat) (v : Word64) :
    Keeps s₀ (ctxCfgWrite s who p v) := by
  unfold ctxCfgWrite
  repeat' first
    | with_reducible assumption
    | with_reducible apply State.makeReady_keeps
    | with_reducible apply State.setCtx_keeps
    | with_reducible apply State.emptyCtx_keeps
    | with_reducible apply State.ctxRefuse_keeps
    | with_reducible refine State.letIn_keeps ?_ _ _ _ (fun _ _ => ?_)
    | lift_lets
    | (intro y; clear_value y)
    | with_reducible refine Keeps.ite (fun _ => ?_) (fun _ => ?_)
    | split

theorem execContextEnable_keeps {s₀ : State} (who : Requester) (part : Nat) (v : Word64) {s : State} (hk : Keeps s₀ s) {t₁ : State} (e₁ : execContextEnable who part v s = .next t₁) :
    Keeps s₀ t₁ := by
  unfold execContextEnable State.done at e₁
  cases e₁
  apply State.observe_keeps
  repeat' first
    | with_reducible assumption
    | with_reducible apply ctxCfgWrite_keeps

theorem execContextDisable_keeps {s₀ : State} (who : Requester) (part : Nat) (v : Word64) {s : State} (hk : Keeps s₀ s) {t₁ : State} (e₁ : execContextDisable who part v s = .next t₁) :
    Keeps s₀ t₁ := by
  unfold execContextDisable State.done at e₁
  cases e₁
  apply State.observe_keeps
  repeat' first
    | with_reducible assumption
    | with_reducible apply ctxCfgWrite_keeps

theorem State.loseUnits_keeps {s₀ : State} {s : State} (hk : Keeps s₀ s) (p : Nat) :
    Keeps s₀ (State.loseUnits s p) := by
  unfold State.loseUnits
  repeat' first
    | with_reducible assumption
    | with_reducible apply State.lose_keeps
    | (with_reducible apply Keeps.upd; first | with_reducible refine Keeps.foldl ?_ _ _ (fun _ _ _ => ?_))

theorem State.clearSticky_keeps {s₀ : State} {s : State} (hk : Keeps s₀ s) (p : Nat) :
    Keeps s₀ (State.clearSticky s p) :=
  hk.foldl _ _ (fun _ _ h => State.modTc_keeps (h.foldl imageRegs _ (fun _ _ h => State.setReg_keeps h ..)) ..)

theorem State.abortCtx_keeps {s₀ : State} {s : State} (hk : Keeps s₀ s) (p c : Nat) (lastCode status : Code) (d0 d1 : Nat) :
    Keeps s₀ (State.abortCtx s p c lastCode status d0 d1) := by
  unfold State.abortCtx
  repeat' first
    | with_reducible assumption
    | with_reducible apply State.loseUnits_keeps
    | with_reducible apply State.clearSticky_keeps
    | with_reducible apply State.modCtx_keeps
    | with_reducible apply State.recordError_keeps
    | with_reducible apply State.raise_keeps
    | lift_lets
    | with_reducible refine Keeps.ite (fun _ => ?_) (fun _ => ?_)
    | (with_reducible apply Keeps.upd; first | with_reducible apply State.endAll_keeps)

theorem State.startRestore_keeps {s₀ : State} {s : State} (hk : Keeps s₀ s) (p : Nat) :
    Keeps s₀ (State.startRestore s p) := by
  unfold State.startRestore
  repeat' first
    | with_reducible assumption
    | with_reducible apply State.modPart_keeps
    | with_reducible apply State.modCtx_keeps
    | with_reducible refine Keeps.ite (fun _ => ?_) (fun _ => ?_)
    | split

theorem State.requestPreempt_keeps {s₀ : State} {s : State} (hk : Keeps s₀ s) (p c : Nat) :
    Keeps s₀ (State.requestPreempt s p c) := by
  unfold State.requestPreempt
  repeat' first
    | with_reducible assumption
    | with_reducible apply State.modCtx_keeps
    | with_reducible refine Keeps.ite (fun _ => ?_) (fun _ => ?_)

theorem quantumExpiry_keeps {s₀ : State} {s : State} (hk : Keeps s₀ s) (p : Nat) :
    Keeps s₀ (quantumExpiry s p) := by
  unfold quantumExpiry
  repeat' first
    | with_reducible assumption
    | with_reducible apply State.modCtx_keeps
    | with_reducible apply State.requestPreempt_keeps
    | with_reducible refine Keeps.ite (fun _ => ?_) (fun _ => ?_)
    | split

theorem ctxCmd_keeps {s₀ : State} {s : State} (hk : Keeps s₀ s) (who : Requester) (p : Nat) (f : Fld) (g : State → Nat → State) (hg : ∀ t a0, Keeps s₀ t → Keeps s₀ (g t a0)) :
    Keeps s₀ (ctxCmd s who p f g) := by
  unfold ctxCmd
  repeat' first
    | with_reducible assumption
    | with_reducible apply hg
    | with_reducible apply State.ctxRefuse_keeps
    | with_reducible refine State.letIn_keeps ?_ _ _ _ (fun _ _ => ?_)
    | lift_lets
    | (intro y; clear_value y)
    | with_reducible refine Keeps.ite (fun _ => ?_) (fun _ => ?_)

theorem switchTo_keeps {s₀ : State} {s : State} (hk : Keeps s₀ s) (who : Requester) (p : Nat) :
    Keeps s₀ (switchTo s who p) := by
  unfold switchTo
  repeat' first
    | with_reducible assumption
    | with_reducible refine ctxCmd_keeps ?_ _ _ _ _ (fun _ _ _ => ?_)
    | with_reducible apply State.modPart_keeps

theorem suspendCtx_keeps {s₀ : State} {s : State} (hk : Keeps s₀ s) (who : Requester) (p : Nat) :
    Keeps s₀ (suspendCtx s who p) := by
  unfold suspendCtx
  repeat' first
    | with_reducible assumption
    | with_reducible refine ctxCmd_keeps ?_ _ _ _ _ (fun _ _ _ => ?_)
    | with_reducible apply State.modCtx_keeps
    | with_reducible apply State.requestPreempt_keeps
    | split

theorem resumeCtx_keeps {s₀ : State} {s : State} (hk : Keeps s₀ s) (who : Requester) (p : Nat) :
    Keeps s₀ (resumeCtx s who p) := by
  unfold resumeCtx
  repeat' first
    | with_reducible assumption
    | with_reducible refine ctxCmd_keeps ?_ _ _ _ _ (fun _ _ _ => ?_)
    | with_reducible apply State.modCtx_keeps

theorem abortCmd_keeps {s₀ : State} {s : State} (hk : Keeps s₀ s) (who : Requester) (p : Nat) :
    Keeps s₀ (abortCmd s who p) := by
  unfold abortCmd
  repeat' first
    | with_reducible assumption
    | with_reducible apply State.abortCtx_keeps
    | with_reducible refine ctxCmd_keeps ?_ _ _ _ _ (fun _ _ _ => ?_)
    | with_reducible apply State.modCtx_keeps
    | split

theorem State.copyRange_keeps {s₀ : State} {s : State} (hk : Keeps s₀ s) (src dst len : Nat) :
    Keeps s₀ (State.copyRange s src dst len) := by
  unfold State.copyRange
  repeat' first
    | with_reducible assumption
    | with_reducible apply State.wr_keeps
    | with_reducible apply State.lose_keeps
    | lift_lets
    | (intro y; clear_value y)
    | (with_reducible apply Keeps.upd; first | with_reducible refine Keeps.foldl ?_ _ _ (fun _ _ _ => ?_))

theorem State.parkWindows_keeps {s₀ : State} {s : State} (hk : Keeps s₀ s) (p c : Nat) (areas : List (Nat × Nat)) :
    Keeps s₀ (State.parkWindows s p c areas) := by
  unfold State.parkWindows
  repeat' first
    | with_reducible assumption
    | with_reducible apply State.modCtx_keeps
    | with_reducible apply State.copyRange_keeps
    | lift_lets
    | (intro y; with_reducible refine Keeps.cut (x := y) ?_ (fun _ => ?_); rotate_left 1; clear_value y; rotate_left 1; unfold y)
    | (intro y; clear_value y)
    | with_reducible refine Keeps.ite (fun _ => ?_) (fun _ => ?_)
    | (with_reducible apply Keeps.upd; first | with_reducible refine Keeps.foldl ?_ _ _ (fun _ _ _ => ?_))
    | split

theorem preemptDrainDone_keeps {s₀ : State} {s : State} (hk : Keeps s₀ s) (p : Nat) :
    Keeps s₀ (preemptDrainDone s p) := by
  unfold preemptDrainDone
  repeat' first
    | with_reducible assumption
    | with_reducible apply State.abandonMoves_keeps
    | with_reducible apply State.parkWindows_keeps
    | with_reducible apply State.modCtx_keeps
    | lift_lets
    | (intro y; with_reducible refine Keeps.cut (x := y) ?_ (fun _ => ?_); rotate_left 1; clear_value y; rotate_left 1; unfold y)
    | (intro y; clear_value y)
    | with_reducible refine Keeps.ite (fun _ => ?_) (fun _ => ?_)
    | (with_reducible apply Keeps.upd; first | with_reducible assumption | with_reducible refine Keeps.foldl ?_ _ _ (fun _ _ _ => ?_))
    | split

theorem State.writeCoreFrame_keeps {s₀ : State} {s : State} (hk : Keeps s₀ s) (p c seq at_ lc n : Nat) :
    Keeps s₀ (State.writeCoreFrame s p c seq at_ lc n) := by
  unfold State.writeCoreFrame
  repeat' first
    | with_reducible assumption
    | with_reducible apply State.lose_keeps
    | with_reducible apply State.draw_keeps
    | with_reducible apply State.wr_keeps
    | with_reducible apply State.wrs_keeps
    | lift_lets
    | (with_reducible apply Keeps.upd; first | with_reducible refine Keeps.foldl ?_ _ _ (fun _ _ _ => ?_))

theorem State.writeClusterFrame_keeps {s₀ : State} {s : State} (hk : Keeps s₀ s) (p c seq at_ lk k keep : Nat) :
    Keeps s₀ (State.writeClusterFrame s p c seq at_ lk k keep) := by
  unfold State.writeClusterFrame
  repeat' first
    | with_reducible assumption
    | with_reducible apply State.lose_keeps
    | with_reducible apply State.draw_keeps
    | with_reducible apply State.wr_keeps
    | with_reducible apply State.wrs_keeps
    | (with_reducible apply Keeps.upd; first | with_reducible refine Keeps.foldl ?_ _ _ (fun _ _ _ => ?_))

theorem State.writeFrames_keeps {s₀ : State} {s : State} (hk : Keeps s₀ s) (p c seq keep : Nat) (areas : List (Nat × Nat)) :
    Keeps s₀ (State.writeFrames s p c seq keep areas) := by
  unfold State.writeFrames
  repeat' first
    | with_reducible assumption
    | with_reducible apply State.writeCoreFrame_keeps
    | with_reducible apply State.lose_keeps
    | with_reducible apply State.writeClusterFrame_keeps
    | lift_lets
    | (with_reducible apply Keeps.upd; first | with_reducible refine Keeps.foldl ?_ _ _ (fun _ _ _ => ?_))
    | split

theorem contextSaveDone_keeps {s₀ : State} {s : State} (hk : Keeps s₀ s) (p ns : Nat) :
    Keeps s₀ (contextSaveDone s p ns) := by
  unfold contextSaveDone
  repeat' first
    | with_reducible assumption
    | with_reducible apply State.abortCtx_keeps
    | with_reducible apply State.startRestore_keeps
    | with_reducible apply State.writeFrames_keeps
    | with_reducible apply State.modCtx_keeps
    | with_reducible apply State.draw_keeps
    | lift_lets
    | (intro y; clear_value y)
    | with_reducible refine Keeps.ite (fun _ => ?_) (fun _ => ?_)
    | split

theorem State.loadImage_keeps {s₀ : State} {s : State} (hk : Keeps s₀ s) (p : Nat) (im : Image) :
    Keeps s₀ (State.loadImage s p im) := by
  unfold State.loadImage
  repeat' first
    | with_reducible assumption
    | with_reducible apply State.modTc_keeps
    | with_reducible apply State.setReg_keeps
    | with_reducible apply State.loseUnits_keeps
    | with_reducible apply State.clearSticky_keeps
    | with_reducible apply State.wr_keeps
    | lift_lets
    | (intro y; with_reducible refine Keeps.cut (x := y) ?_ (fun _ => ?_); rotate_left 1; clear_value y; rotate_left 1; unfold y)
    | (with_reducible apply Keeps.upd; first | with_reducible refine Keeps.foldl ?_ _ _ (fun _ _ _ => ?_))
    | split

theorem State.unparkWindows_keeps {s₀ : State} {s : State} (hk : Keeps s₀ s) (p c : Nat) :
    Keeps s₀ (State.unparkWindows s p c) := by
  unfold State.unparkWindows
  repeat' first
    | with_reducible assumption
    | with_reducible apply State.modCtx_keeps
    | with_reducible apply State.copyRange_keeps
    | lift_lets
    | (intro y; clear_value y)
    | (with_reducible apply Keeps.upd; first | with_reducible refine Keeps.foldl ?_ _ _ (fun _ _ _ => ?_))
    | split

theorem contextRestoreDone_keeps {s₀ : State} {s : State} (hk : Keeps s₀ s) (p ns : Nat) :
    Keeps s₀ (contextRestoreDone s p ns) := by
  unfold contextRestoreDone
  repeat' first
    | with_reducible assumption
    | with_reducible apply State.abortCtx_keeps
    | with_reducible apply State.unparkWindows_keeps
    | with_reducible apply State.loseUnits_keeps
    | with_reducible apply State.clearSticky_keeps
    | with_reducible apply State.modCtx_keeps
    | with_reducible apply State.raise_keeps
    | with_reducible apply State.observe_keeps
    | with_reducible apply State.loadImage_keeps
    | with_reducible apply State.requestPreempt_keeps
    | lift_lets
    | (intro y; with_reducible refine Keeps.cut (x := y) ?_ (fun _ => ?_); rotate_left 1; clear_value y; rotate_left 1; unfold y)
    | (intro y; clear_value y)
    | with_reducible refine Keeps.ite (fun _ => ?_) (fun _ => ?_)
    | (with_reducible apply Keeps.upd; first | with_reducible assumption)
    | split

theorem preemptDeadlineExpiry_keeps {s₀ : State} {s : State} (hk : Keeps s₀ s) (p : Nat) :
    Keeps s₀ (preemptDeadlineExpiry s p) := by
  unfold preemptDeadlineExpiry
  repeat' first
    | with_reducible assumption
    | with_reducible apply State.abortCtx_keeps
    | with_reducible refine Keeps.ite (fun _ => ?_) (fun _ => ?_)
    | split

theorem progressWatchdogExpiry_keeps {s₀ : State} {s : State} (hk : Keeps s₀ s) (p : Nat) :
    Keeps s₀ (progressWatchdogExpiry s p) := by
  unfold progressWatchdogExpiry
  repeat' first
    | with_reducible assumption
    | with_reducible apply State.abortCtx_keeps
    | lift_lets
    | (intro y; clear_value y)
    | with_reducible refine Keeps.ite (fun _ => ?_) (fun _ => ?_)
    | split

theorem execSwitchTo_keeps {s₀ : State} (who : Requester) (part : Nat) {s : State} (hk : Keeps s₀ s) {t₁ : State} (e₁ : execSwitchTo who part s = .next t₁) :
    Keeps s₀ t₁ := by
  unfold execSwitchTo State.done at e₁
  cases e₁
  apply State.observe_keeps
  repeat' first
    | with_reducible assumption
    | with_reducible apply switchTo_keeps

theorem execSuspend_keeps {s₀ : State} (who : Requester) (part : Nat) {s : State} (hk : Keeps s₀ s) {t₁ : State} (e₁ : execSuspend who part s = .next t₁) :
    Keeps s₀ t₁ := by
  unfold execSuspend State.done at e₁
  cases e₁
  apply State.observe_keeps
  repeat' first
    | with_reducible assumption
    | with_reducible apply suspendCtx_keeps

theorem execResume_keeps {s₀ : State} (who : Requester) (part : Nat) {s : State} (hk : Keeps s₀ s) {t₁ : State} (e₁ : execResume who part s = .next t₁) :
    Keeps s₀ t₁ := by
  unfold execResume State.done at e₁
  cases e₁
  apply State.observe_keeps
  repeat' first
    | with_reducible assumption
    | with_reducible apply resumeCtx_keeps

theorem execCtxAbort_keeps {s₀ : State} (who : Requester) (part : Nat) {s : State} (hk : Keeps s₀ s) {t₁ : State} (e₁ : execCtxAbort who part s = .next t₁) :
    Keeps s₀ t₁ := by
  unfold execCtxAbort State.done at e₁
  cases e₁
  apply State.observe_keeps
  repeat' first
    | with_reducible assumption
    | with_reducible apply abortCmd_keeps

theorem execQuantumExpiry_keeps {s₀ : State} (part : Nat) {s : State} (hk : Keeps s₀ s) {t₁ : State} (e₁ : execQuantumExpiry part s = .next t₁) :
    Keeps s₀ t₁ := by
  unfold execQuantumExpiry State.done at e₁
  cases e₁
  apply State.observe_keeps
  repeat' first
    | with_reducible assumption
    | with_reducible apply quantumExpiry_keeps

theorem execPreemptDrainDone_keeps {s₀ : State} (part : Nat) {s : State} (hk : Keeps s₀ s) {t₁ : State} (e₁ : execPreemptDrainDone part s = .next t₁) :
    Keeps s₀ t₁ := by
  unfold execPreemptDrainDone State.done at e₁
  cases e₁
  apply State.observe_keeps
  repeat' first
    | with_reducible assumption
    | with_reducible apply preemptDrainDone_keeps

theorem execContextSaveDone_keeps {s₀ : State} (part ns : Nat) {s : State} (hk : Keeps s₀ s) {t₁ : State} (e₁ : execContextSaveDone part ns s = .next t₁) :
    Keeps s₀ t₁ := by
  unfold execContextSaveDone State.done at e₁
  cases e₁
  apply State.observe_keeps
  repeat' first
    | with_reducible assumption
    | with_reducible apply contextSaveDone_keeps

theorem execContextRestoreDone_keeps {s₀ : State} (part ns : Nat) {s : State} (hk : Keeps s₀ s) {t₁ : State} (e₁ : execContextRestoreDone part ns s = .next t₁) :
    Keeps s₀ t₁ := by
  unfold execContextRestoreDone State.done at e₁
  cases e₁
  apply State.observe_keeps
  repeat' first
    | with_reducible assumption
    | with_reducible apply contextRestoreDone_keeps

theorem execPreemptDeadlineExpiry_keeps {s₀ : State} (part : Nat) {s : State} (hk : Keeps s₀ s) {t₁ : State} (e₁ : execPreemptDeadlineExpiry part s = .next t₁) :
    Keeps s₀ t₁ := by
  unfold execPreemptDeadlineExpiry State.done at e₁
  cases e₁
  apply State.observe_keeps
  repeat' first
    | with_reducible assumption
    | with_reducible apply preemptDeadlineExpiry_keeps

theorem execProgressWatchdogExpiry_keeps {s₀ : State} (part : Nat) {s : State} (hk : Keeps s₀ s) {t₁ : State} (e₁ : execProgressWatchdogExpiry part s = .next t₁) :
    Keeps s₀ t₁ := by
  unfold execProgressWatchdogExpiry State.done at e₁
  cases e₁
  apply State.observe_keeps
  repeat' first
    | with_reducible assumption
    | with_reducible apply progressWatchdogExpiry_keeps

theorem State.setLock_keeps {s₀ : State} {s : State} (hk : Keeps s₀ s) (l : Nat) :
    Keeps s₀ (State.setLock s l) := by
  unfold State.setLock
  repeat' first
    | with_reducible assumption
    | with_reducible apply State.raise_keeps
    | with_reducible apply State.setFld_keeps
    | with_reducible refine Keeps.ite (fun _ => ?_) (fun _ => ?_)

theorem State.modStroke_keeps {s₀ : State} {s : State} (hk : Keeps s₀ s) (f : StrokeUnit → StrokeUnit) :
    Keeps s₀ (State.modStroke s f) := by
  unfold State.modStroke
  repeat' first
    | (with_reducible apply Keeps.upd; first | with_reducible assumption)

theorem State.ignoreEdge_keeps {s₀ : State} {s : State} (hk : Keeps s₀ s) :
    Keeps s₀ (State.ignoreEdge s) := by
  unfold State.ignoreEdge
  repeat' first
    | with_reducible assumption
    | with_reducible apply State.modStroke_keeps
    | with_reducible apply State.raise_keeps
    | with_reducible apply State.addFld_keeps

theorem State.unlockedEdge_keeps {s₀ : State} {s : State} (hk : Keeps s₀ s) (off : Int) :
    Keeps s₀ (State.unlockedEdge s off) := by
  unfold State.unlockedEdge
  repeat' first
    | with_reducible assumption
    | with_reducible apply State.modStroke_keeps
    | with_reducible apply State.ignoreEdge_keeps
    | lift_lets
    | (intro y; clear_value y)
    | with_reducible refine Keeps.ite (fun _ => ?_) (fun _ => ?_)

theorem strokeInEdge_keeps {s₀ : State} {s : State} (hk : Keeps s₀ s) (off : Int) :
    Keeps s₀ (strokeInEdge s off) := by
  unfold strokeInEdge
  repeat' first
    | with_reducible assumption
    | with_reducible apply State.modStroke_keeps
    | with_reducible apply State.ignoreEdge_keeps
    | with_reducible apply State.unlockedEdge_keeps
    | with_reducible refine Keeps.ite (fun _ => ?_) (fun _ => ?_)

theorem strokeSourcePresent_keeps {s₀ : State} {s : State} (hk : Keeps s₀ s) :
    Keeps s₀ (strokeSourcePresent s) := by
  unfold strokeSourcePresent
  repeat' first
    | with_reducible assumption
    | with_reducible apply State.modStroke_keeps
    | with_reducible apply State.setLock_keeps
    | with_reducible refine Keeps.ite (fun _ => ?_) (fun _ => ?_)

theorem strokeLockAcquired_keeps {s₀ : State} {s : State} (hk : Keeps s₀ s) (ptpNs : Nat) :
    Keeps s₀ (strokeLockAcquired s ptpNs) := by
  unfold strokeLockAcquired
  repeat' first
    | with_reducible assumption
    | with_reducible apply State.modStroke_keeps
    | with_reducible apply State.setLock_keeps
    | lift_lets
    | (intro y; clear_value y)
    | with_reducible refine Keeps.ite (fun _ => ?_) (fun _ => ?_)

theorem State.loseSource_keeps {s₀ : State} {s : State} (hk : Keeps s₀ s) :
    Keeps s₀ (State.loseSource s) := by
  unfold State.loseSource
  repeat' first
    | with_reducible assumption
    | with_reducible apply State.modStroke_keeps
    | with_reducible apply State.setFld_keeps
    | with_reducible apply State.setLock_keeps
    | lift_lets
    | (intro y; with_reducible refine Keeps.cut (x := y) ?_ (fun _ => ?_); rotate_left 1; clear_value y; rotate_left 1; unfold y)
    | with_reducible refine Keeps.ite (fun _ => ?_) (fun _ => ?_)

theorem strokeSourceLost_keeps {s₀ : State} {s : State} (hk : Keeps s₀ s) :
    Keeps s₀ (strokeSourceLost s) := by
  unfold strokeSourceLost
  repeat' first
    | with_reducible assumption
    | with_reducible apply State.modStroke_keeps
    | with_reducible apply State.loseSource_keeps
    | with_reducible refine Keeps.ite (fun _ => ?_) (fun _ => ?_)

theorem holdoverExpiry_keeps {s₀ : State} {s : State} (hk : Keeps s₀ s) :
    Keeps s₀ (holdoverExpiry s) := by
  unfold holdoverExpiry
  repeat' first
    | with_reducible assumption
    | with_reducible apply State.modStroke_keeps
    | with_reducible apply State.raise_keeps
    | with_reducible apply State.setLock_keeps
    | with_reducible refine Keeps.ite (fun _ => ?_) (fun _ => ?_)

theorem State.followPtp_keeps {s₀ : State} {s : State} (hk : Keeps s₀ s) :
    Keeps s₀ (State.followPtp s) := by
  unfold State.followPtp
  repeat' first
    | with_reducible assumption
    | with_reducible apply State.setFld_keeps
    | lift_lets
    | (intro y; clear_value y)
    | with_reducible refine Keeps.ite (fun _ => ?_) (fun _ => ?_)

theorem State.ptpAnswer_keeps {s₀ : State} {s : State} (hk : Keeps s₀ s) (port kind : Nat) :
    Keeps s₀ (State.ptpAnswer s port kind) := by
  unfold State.ptpAnswer
  repeat' first
    | with_reducible assumption
    | with_reducible refine Keeps.ite (fun _ => ?_) (fun _ => ?_)
    | with_reducible apply Keeps.emit

theorem ptpMessageRx_keeps {s₀ : State} {s : State} (hk : Keeps s₀ s) (port : Nat) (m : PtpMessage) :
    Keeps s₀ (ptpMessageRx s port m) := by
  unfold ptpMessageRx
  repeat' first
    | with_reducible assumption
    | with_reducible apply State.ptpAnswer_keeps
    | with_reducible apply State.modStroke_keeps
    | with_reducible apply State.followPtp_keeps
    | lift_lets
    | (intro y; with_reducible refine Keeps.cut (x := y) ?_ (fun _ => ?_); rotate_left 1; clear_value y; rotate_left 1; unfold y)
    | with_reducible refine Keeps.ite (fun _ => ?_) (fun _ => ?_)

theorem ptpMessageTx_keeps {s₀ : State} {s : State} (hk : Keeps s₀ s) (port : Nat) :
    Keeps s₀ (ptpMessageTx s port) := by
  unfold ptpMessageTx
  repeat' first
    | with_reducible assumption
    | with_reducible refine Keeps.ite (fun _ => ?_) (fun _ => ?_)
    | with_reducible apply Keeps.emit

theorem strLoad_keeps {s₀ : State} {s : State} (hk : Keeps s₀ s) (who : Requester) :
    Keeps s₀ (strLoad s who) := by
  unfold strLoad
  repeat' first
    | with_reducible assumption
    | with_reducible apply State.modStroke_keeps
    | with_reducible apply State.refuseF_keeps
    | with_reducible refine State.letIn_keeps ?_ _ _ _ (fun _ _ => ?_)
    | lift_lets
    | with_reducible refine Keeps.ite (fun _ => ?_) (fun _ => ?_)

theorem State.countStep_keeps {s₀ : State} {s : State} (hk : Keeps s₀ s) :
    Keeps s₀ (State.countStep s) := by
  unfold State.countStep
  repeat' first
    | with_reducible assumption
    | with_reducible apply State.raise_keeps
    | with_reducible apply State.addFld_keeps

theorem State.nextCount_keeps {s₀ : State} {s : State} (hk : Keeps s₀ s) (k : Nat) :
    Keeps s₀ (State.nextCount s k).1 := by
  unfold State.nextCount
  repeat' first
    | with_reducible assumption
    | with_reducible apply State.modStroke_keeps
    | with_reducible apply State.refuse_keeps
    | with_reducible apply State.countStep_keeps
    | lift_lets
    | (intro y; with_reducible refine Keeps.cut (x := y) ?_ (fun _ => ?_); rotate_left 1; clear_value y; rotate_left 1; unfold y)
    | (intro y; clear_value y)
    | with_reducible refine Keeps.ite (fun _ => ?_) (fun _ => ?_)
    | with_reducible refine Keeps.ite1 (fun _ => ?_) (fun _ => ?_)
    | split

theorem State.driveStrokeOut_keeps {s₀ : State} {s : State} (hk : Keeps s₀ s) :
    Keeps s₀ (State.driveStrokeOut s) := by
  unfold State.driveStrokeOut
  repeat' first
    | with_reducible assumption
    | lift_lets
    | (intro y; clear_value y)
    | with_reducible refine Keeps.ite (fun _ => ?_) (fun _ => ?_)
    | (with_reducible apply Keeps.upd; first | with_reducible assumption)

theorem strokeOutFall_keeps {s₀ : State} {s : State} (hk : Keeps s₀ s) :
    Keeps s₀ (strokeOutFall s) := by
  unfold strokeOutFall
  repeat' first
    | (with_reducible apply Keeps.upd; first | with_reducible assumption)

theorem State.modCal_keeps {s₀ : State} {s : State} (hk : Keeps s₀ s) (f : Calendar → Calendar) :
    Keeps s₀ (State.modCal s f) := by
  unfold State.modCal
  repeat' first
    | (with_reducible apply Keeps.upd; first | with_reducible assumption)

theorem State.calRecord_keeps {s₀ : State} {s : State} (hk : Keeps s₀ s) (code : Code) :
    Keeps s₀ (State.calRecord s code) := by
  unfold State.calRecord
  repeat' first
    | with_reducible assumption
    | with_reducible apply State.recordError_keeps

theorem ccTimeSRead_keeps {s₀ : State} {s : State} (hk : Keeps s₀ s) (who : Requester) :
    Keeps s₀ (ccTimeSRead s who) := by
  unfold ccTimeSRead
  repeat' first
    | with_reducible assumption
    | with_reducible apply State.modCal_keeps
    | with_reducible refine Keeps.ite (fun _ => ?_) (fun _ => ?_)
    | with_reducible apply Keeps.emit

theorem ccTimeFWrite_keeps {s₀ : State} {s : State} (hk : Keeps s₀ s) (who : Requester) (v : Word64) :
    Keeps s₀ (ccTimeFWrite s who v) := by
  unfold ccTimeFWrite
  repeat' first
    | with_reducible assumption
    | with_reducible refine State.letIn_keeps ?_ _ _ _ (fun _ _ => ?_)
    | with_reducible apply State.modCal_keeps
    | with_reducible apply State.refuse_keeps
    | lift_lets
    | with_reducible refine Keeps.ite (fun _ => ?_) (fun _ => ?_)

theorem ccTimeSWrite_keeps {s₀ : State} {s : State} (hk : Keeps s₀ s) (who : Requester) (v : Word64) :
    Keeps s₀ (ccTimeSWrite s who v) := by
  unfold ccTimeSWrite
  repeat' first
    | with_reducible assumption
    | with_reducible apply State.modCal_keeps
    | with_reducible apply State.setFld_keeps
    | with_reducible apply State.refuse_keeps
    | with_reducible refine State.letIn_keeps ?_ _ _ _ (fun _ _ => ?_)
    | lift_lets
    | with_reducible refine Keeps.ite (fun _ => ?_) (fun _ => ?_)

theorem xtalStop_keeps {s₀ : State} {s : State} (hk : Keeps s₀ s) :
    Keeps s₀ (xtalStop s) := by
  unfold xtalStop
  repeat' first
    | with_reducible assumption
    | with_reducible apply State.modCal_keeps
    | with_reducible apply State.setFld_keeps
    | with_reducible apply State.calRecord_keeps
    | lift_lets
    | (intro y; with_reducible refine Keeps.cut (x := y) ?_ (fun _ => ?_); rotate_left 1; clear_value y; rotate_left 1; unfold y)
    | with_reducible refine Keeps.ite (fun _ => ?_) (fun _ => ?_)

theorem xtalCheck_keeps {s₀ : State} {s : State} (hk : Keeps s₀ s) (ticking : Bool) :
    Keeps s₀ (xtalCheck s ticking) := by
  unfold xtalCheck
  repeat' first
    | with_reducible assumption
    | with_reducible apply State.modCal_keeps
    | with_reducible apply State.setFld_keeps
    | with_reducible apply State.calRecord_keeps
    | with_reducible refine Keeps.ite (fun _ => ?_) (fun _ => ?_)

theorem vbatSample_keeps {s₀ : State} {s : State} (hk : Keeps s₀ s) (mV : Nat) :
    Keeps s₀ (vbatSample s mV) := by
  unfold vbatSample
  repeat' first
    | with_reducible assumption
    | with_reducible apply State.setBit_keeps
    | with_reducible refine Keeps.ite (fun _ => ?_) (fun _ => ?_)

theorem crystalTick_keeps {s₀ : State} {s : State} (hk : Keeps s₀ s) :
    Keeps s₀ (crystalTick s) := by
  unfold crystalTick
  repeat' first
    | with_reducible assumption
    | with_reducible apply State.modCal_keeps
    | lift_lets
    | (intro y; clear_value y)
    | with_reducible refine Keeps.ite (fun _ => ?_) (fun _ => ?_)

theorem execStrokeOutFall_keeps {s₀ : State} {s : State} (hk : Keeps s₀ s) {t₁ : State} (e₁ : execStrokeOutFall s = .next t₁) :
    Keeps s₀ t₁ := by
  unfold execStrokeOutFall State.done at e₁
  cases e₁
  apply State.observe_keeps
  repeat' first
    | with_reducible assumption
    | with_reducible apply strokeOutFall_keeps

theorem execStrokeInEdge_keeps {s₀ : State} (off : Int) {s : State} (hk : Keeps s₀ s) {t₁ : State} (e₁ : execStrokeInEdge off s = .next t₁) :
    Keeps s₀ t₁ := by
  unfold execStrokeInEdge State.done at e₁
  cases e₁
  apply State.observe_keeps
  repeat' first
    | with_reducible assumption
    | with_reducible apply strokeInEdge_keeps

theorem execStrokeSourcePresent_keeps {s₀ : State} {s : State} (hk : Keeps s₀ s) {t₁ : State} (e₁ : execStrokeSourcePresent s = .next t₁) :
    Keeps s₀ t₁ := by
  unfold execStrokeSourcePresent State.done at e₁
  cases e₁
  apply State.observe_keeps
  repeat' first
    | with_reducible assumption
    | with_reducible apply strokeSourcePresent_keeps

theorem execStrokeLockAcquired_keeps {s₀ : State} (ptpNs : Nat) {s : State} (hk : Keeps s₀ s) {t₁ : State} (e₁ : execStrokeLockAcquired ptpNs s = .next t₁) :
    Keeps s₀ t₁ := by
  unfold execStrokeLockAcquired State.done at e₁
  cases e₁
  apply State.observe_keeps
  repeat' first
    | with_reducible assumption
    | with_reducible apply strokeLockAcquired_keeps

theorem execStrokeSourceLost_keeps {s₀ : State} {s : State} (hk : Keeps s₀ s) {t₁ : State} (e₁ : execStrokeSourceLost s = .next t₁) :
    Keeps s₀ t₁ := by
  unfold execStrokeSourceLost State.done at e₁
  cases e₁
  apply State.observe_keeps
  repeat' first
    | with_reducible assumption
    | with_reducible apply strokeSourceLost_keeps

theorem execHoldoverExpiry_keeps {s₀ : State} {s : State} (hk : Keeps s₀ s) {t₁ : State} (e₁ : execHoldoverExpiry s = .next t₁) :
    Keeps s₀ t₁ := by
  unfold execHoldoverExpiry State.done at e₁
  cases e₁
  apply State.observe_keeps
  repeat' first
    | with_reducible assumption
    | with_reducible apply holdoverExpiry_keeps

theorem execPtpMessageRx_keeps {s₀ : State} (port : Nat) (m : PtpMessage) {s : State} (hk : Keeps s₀ s) {t₁ : State} (e₁ : execPtpMessageRx port m s = .next t₁) :
    Keeps s₀ t₁ := by
  unfold execPtpMessageRx State.done at e₁
  cases e₁
  apply State.observe_keeps
  repeat' first
    | with_reducible assumption
    | with_reducible apply ptpMessageRx_keeps

theorem execPtpMessageTx_keeps {s₀ : State} (port : Nat) {s : State} (hk : Keeps s₀ s) {t₁ : State} (e₁ : execPtpMessageTx port s = .next t₁) :
    Keeps s₀ t₁ := by
  unfold execPtpMessageTx State.done at e₁
  cases e₁
  apply State.observe_keeps
  repeat' first
    | with_reducible assumption
    | with_reducible apply ptpMessageTx_keeps

theorem execStrLoad_keeps {s₀ : State} (who : Requester) {s : State} (hk : Keeps s₀ s) {t₁ : State} (e₁ : execStrLoad who s = .next t₁) :
    Keeps s₀ t₁ := by
  unfold execStrLoad State.done at e₁
  cases e₁
  apply State.observe_keeps
  repeat' first
    | with_reducible assumption
    | with_reducible apply strLoad_keeps

theorem execCcTimeSRead_keeps {s₀ : State} (who : Requester) {s : State} (hk : Keeps s₀ s) {t₁ : State} (e₁ : execCcTimeSRead who s = .next t₁) :
    Keeps s₀ t₁ := by
  unfold execCcTimeSRead State.done at e₁
  cases e₁
  apply State.observe_keeps
  repeat' first
    | with_reducible assumption
    | with_reducible apply ccTimeSRead_keeps

theorem execCcTimeFWrite_keeps {s₀ : State} (who : Requester) (v : Word64) {s : State} (hk : Keeps s₀ s) {t₁ : State} (e₁ : execCcTimeFWrite who v s = .next t₁) :
    Keeps s₀ t₁ := by
  unfold execCcTimeFWrite State.done at e₁
  cases e₁
  apply State.observe_keeps
  repeat' first
    | with_reducible assumption
    | with_reducible apply ccTimeFWrite_keeps

theorem execCcTimeSWrite_keeps {s₀ : State} (who : Requester) (v : Word64) {s : State} (hk : Keeps s₀ s) {t₁ : State} (e₁ : execCcTimeSWrite who v s = .next t₁) :
    Keeps s₀ t₁ := by
  unfold execCcTimeSWrite State.done at e₁
  cases e₁
  apply State.observe_keeps
  repeat' first
    | with_reducible assumption
    | with_reducible apply ccTimeSWrite_keeps

theorem execXtalStop_keeps {s₀ : State} {s : State} (hk : Keeps s₀ s) {t₁ : State} (e₁ : execXtalStop s = .next t₁) :
    Keeps s₀ t₁ := by
  unfold execXtalStop State.done at e₁
  cases e₁
  apply State.observe_keeps
  repeat' first
    | with_reducible assumption
    | with_reducible apply xtalStop_keeps

theorem execXtalCheck_keeps {s₀ : State} (ticking : Bool) {s : State} (hk : Keeps s₀ s) {t₁ : State} (e₁ : execXtalCheck ticking s = .next t₁) :
    Keeps s₀ t₁ := by
  unfold execXtalCheck State.done at e₁
  cases e₁
  apply State.observe_keeps
  repeat' first
    | with_reducible assumption
    | with_reducible apply xtalCheck_keeps

theorem execVbatSample_keeps {s₀ : State} (mV : Nat) {s : State} (hk : Keeps s₀ s) {t₁ : State} (e₁ : execVbatSample mV s = .next t₁) :
    Keeps s₀ t₁ := by
  unfold execVbatSample State.done at e₁
  cases e₁
  apply State.observe_keeps
  repeat' first
    | with_reducible assumption
    | with_reducible apply vbatSample_keeps

theorem execCrystalTick_keeps {s₀ : State} {s : State} (hk : Keeps s₀ s) {t₁ : State} (e₁ : execCrystalTick s = .next t₁) :
    Keeps s₀ t₁ := by
  unfold execCrystalTick State.done at e₁
  cases e₁
  apply State.observe_keeps
  repeat' first
    | with_reducible assumption
    | with_reducible apply crystalTick_keeps

theorem State.setFrame_keeps {s₀ : State} {s : State} (hk : Keeps s₀ s) (t f : Nat) (x : Frame) :
    Keeps s₀ (State.setFrame s t f x) := by
  unfold State.setFrame
  repeat' first
    | (with_reducible apply Keeps.upd; first | with_reducible assumption)

theorem State.crnRecord_keeps {s₀ : State} {s : State} (hk : Keeps s₀ s) (cls : Nat) (code : Code) :
    Keeps s₀ (State.crnRecord s cls code) := by
  unfold State.crnRecord
  repeat' first
    | with_reducible assumption
    | with_reducible apply State.recordError_keeps

theorem State.queueNvm_keeps {s₀ : State} {s : State} (hk : Keeps s₀ s) (kind x : Nat) :
    Keeps s₀ (State.queueNvm s kind x) := by
  unfold State.queueNvm
  repeat' first
    | (with_reducible apply Keeps.upd; first | with_reducible assumption)

theorem State.addKnownBad_keeps {s₀ : State} {s : State} (hk : Keeps s₀ s) (kind i : Nat) :
    Keeps s₀ (State.addKnownBad s kind i) := by
  unfold State.addKnownBad
  repeat' first
    | with_reducible apply State.queueNvm_keeps
    | (with_reducible apply Keeps.upd; first | with_reducible assumption)

theorem State.stopAlso_keeps {s₀ : State} {s : State} (hk : Keeps s₀ s) (q : Nat) (code : Code) :
    Keeps s₀ (State.stopAlso s q code) := by
  unfold State.stopAlso
  repeat' first
    | with_reducible assumption
    | with_reducible apply State.haltPart_keeps
    | with_reducible apply State.countErr_keeps

theorem State.markOut_keeps {s₀ : State} {s : State} (hk : Keeps s₀ s) (c : Nat) :
    Keeps s₀ (State.markOut s c) := by
  unfold State.markOut
  repeat' first
    | with_reducible assumption
    | with_reducible apply State.stopAlso_keeps
    | with_reducible apply State.setFld_keeps
    | with_reducible apply State.recordError_keeps
    | with_reducible apply State.raise_keeps
    | with_reducible apply State.addKnownBad_keeps
    | lift_lets
    | (intro y; with_reducible refine Keeps.cut (x := y) ?_ (fun _ => ?_); rotate_left 1; clear_value y; rotate_left 1; unfold y)
    | with_reducible refine Keeps.ite (fun _ => ?_) (fun _ => ?_)
    | split

theorem State.windowRecal_keeps {s₀ : State} {s : State} (hk : Keeps s₀ s) (d : Nat) :
    Keeps s₀ (State.windowRecal s d) := by
  unfold State.windowRecal
  repeat' first
    | with_reducible assumption
    | with_reducible apply State.modChan_keeps
    | lift_lets
    | (intro y; clear_value y)
    | with_reducible refine Keeps.ite (fun _ => ?_) (fun _ => ?_)
    | (with_reducible apply Keeps.upd; first | with_reducible apply State.setFld_keeps)
    | split

theorem State.nextRecal_keeps {s₀ : State} {s : State} (hk : Keeps s₀ s) (windowed : Bool) (d : Nat) :
    Keeps s₀ (State.nextRecal s windowed d) := by
  unfold State.nextRecal
  repeat' first
    | with_reducible assumption
    | with_reducible apply State.windowRecal_keeps
    | with_reducible refine Keeps.ite (fun _ => ?_) (fun _ => ?_)

theorem State.startRetrain_keeps {s₀ : State} {s : State} (hk : Keeps s₀ s) (c : Nat) :
    Keeps s₀ (State.startRetrain s c) := by
  unfold State.startRetrain
  repeat' first
    | with_reducible assumption
    | with_reducible apply State.modChan_keeps
    | with_reducible apply State.nextRecal_keeps
    | with_reducible apply State.setFld_keeps
    | with_reducible apply State.raise_keeps
    | lift_lets
    | (intro y; with_reducible refine Keeps.cut (x := y) ?_ (fun _ => ?_); rotate_left 1; clear_value y; rotate_left 1; unfold y)
    | (intro y; clear_value y)
    | with_reducible refine Keeps.ite (fun _ => ?_) (fun _ => ?_)

theorem State.endHeld_keeps {s₀ : State} {s : State} (hk : Keeps s₀ s) (c : Nat) (code : Code) :
    Keeps s₀ (State.endHeld s c code) := by
  unfold State.endHeld
  repeat' first
    | with_reducible assumption
    | with_reducible apply State.modChan_keeps
    | with_reducible apply State.endCmd_keeps
    | lift_lets
    | (intro y; with_reducible refine Keeps.cut (x := y) ?_ (fun _ => ?_); rotate_left 1; clear_value y; rotate_left 1; unfold y)
    | (intro y; clear_value y)
    | with_reducible refine Keeps.ite (fun _ => ?_) (fun _ => ?_)
    | (with_reducible apply Keeps.upd; first | with_reducible refine Keeps.foldl ?_ _ _ (fun _ _ _ => ?_))
    | split

theorem State.recalibrated_keeps {s₀ : State} {s : State} (hk : Keeps s₀ s) (c : Nat) :
    Keeps s₀ (State.recalibrated s c) := by
  unfold State.recalibrated
  repeat' first
    | with_reducible assumption
    | with_reducible apply State.modChan_keeps
    | with_reducible apply State.setFld_keeps

theorem retrainDone_keeps {s₀ : State} {s : State} (hk : Keeps s₀ s) (c : Nat) (pass : Bool) (us lanes : Nat) :
    Keeps s₀ (retrainDone s c pass us lanes) := by
  unfold retrainDone
  repeat' first
    | with_reducible assumption
    | with_reducible apply State.markOut_keeps
    | with_reducible apply State.recalibrated_keeps
    | with_reducible apply State.modChan_keeps
    | with_reducible apply State.endHeld_keeps
    | with_reducible apply State.setFld_keeps
    | with_reducible apply State.addFld_keeps
    | with_reducible apply State.recordError_keeps
    | with_reducible apply State.raise_keeps
    | lift_lets
    | (intro y; with_reducible refine Keeps.cut (x := y) ?_ (fun _ => ?_); rotate_left 1; clear_value y; rotate_left 1; unfold y)
    | with_reducible refine Keeps.ite (fun _ => ?_) (fun _ => ?_)

theorem recalDue_keeps {s₀ : State} {s : State} (hk : Keeps s₀ s) (c : Nat) :
    Keeps s₀ (recalDue s c) := by
  unfold recalDue
  repeat' first
    | with_reducible assumption
    | with_reducible apply State.setFld_keeps
    | with_reducible refine Keeps.ite (fun _ => ?_) (fun _ => ?_)

theorem recalOverdue_keeps {s₀ : State} {s : State} (hk : Keeps s₀ s) (c : Nat) :
    Keeps s₀ (recalOverdue s c) := by
  unfold recalOverdue
  repeat' first
    | with_reducible assumption
    | with_reducible apply State.raise_keeps
    | with_reducible apply State.addFld_keeps
    | with_reducible apply State.setFld_keeps
    | with_reducible refine Keeps.ite (fun _ => ?_) (fun _ => ?_)

theorem recalDone_keeps {s₀ : State} {s : State} (hk : Keeps s₀ s) (c : Nat) :
    Keeps s₀ (recalDone s c) := by
  unfold recalDone
  repeat' first
    | with_reducible assumption
    | with_reducible apply State.recalibrated_keeps
    | with_reducible apply State.setFld_keeps
    | with_reducible apply State.nextRecal_keeps
    | lift_lets
    | (intro y; with_reducible refine Keeps.cut (x := y) ?_ (fun _ => ?_); rotate_left 1; clear_value y; rotate_left 1; unfold y)
    | (intro y; clear_value y)
    | with_reducible refine Keeps.ite (fun _ => ?_) (fun _ => ?_)

theorem State.setRefresh_keeps {s₀ : State} {s : State} (hk : Keeps s₀ s) (k n : Nat) :
    Keeps s₀ (State.setRefresh s k n) := by
  unfold State.setRefresh
  repeat' first
    | with_reducible assumption
    | with_reducible apply State.setBit_keeps
    | with_reducible apply State.raise_keeps
    | with_reducible apply State.setFld_keeps

theorem State.thermalHalt_keeps {s₀ : State} {s : State} (hk : Keeps s₀ s) (k : Nat) :
    Keeps s₀ (State.thermalHalt s k) := by
  unfold State.thermalHalt
  repeat' first
    | with_reducible assumption
    | with_reducible apply State.modChan_keeps
    | with_reducible apply State.nextRecal_keeps
    | with_reducible apply State.endHeld_keeps
    | with_reducible apply State.setFld_keeps
    | with_reducible apply State.recordError_keeps
    | with_reducible apply State.raise_keeps
    | lift_lets
    | with_reducible refine Keeps.ite (fun _ => ?_) (fun _ => ?_)
    | (with_reducible apply Keeps.upd; first | with_reducible refine Keeps.foldl ?_ _ _ (fun _ _ _ => ?_))

theorem stackTempSample_keeps {s₀ : State} {s : State} (hk : Keeps s₀ s) (k : Nat) (t : Int) :
    Keeps s₀ (stackTempSample s k t) := by
  unfold stackTempSample
  repeat' first
    | with_reducible assumption
    | with_reducible apply State.setRefresh_keeps
    | with_reducible apply State.thermalHalt_keeps
    | with_reducible apply State.setFld_keeps
    | with_reducible apply State.modStk_keeps
    | lift_lets
    | (intro y; with_reducible refine Keeps.cut (x := y) ?_ (fun _ => ?_); rotate_left 1; clear_value y; rotate_left 1; unfold y)
    | (intro y; clear_value y)
    | with_reducible refine Keeps.ite (fun _ => ?_) (fun _ => ?_)
    | (with_reducible apply Keeps.upd; first | with_reducible refine Keeps.foldl ?_ _ _ (fun _ _ _ => ?_))

theorem State.saveRemaps_keeps {s₀ : State} {s : State} (hk : Keeps s₀ s) (c : Nat) :
    Keeps s₀ (State.saveRemaps s c) := by
  unfold State.saveRemaps
  repeat' first
    | with_reducible assumption
    | with_reducible apply State.queueNvm_keeps

theorem State.retireFrame_keeps {s₀ : State} {s : State} (hk : Keeps s₀ s) (c t f l bytes : Nat) :
    Keeps s₀ (State.retireFrame s c t f l bytes) := by
  unfold State.retireFrame
  repeat' first
    | with_reducible assumption
    | with_reducible apply State.recordError_keeps
    | with_reducible apply State.setFrame_keeps
    | with_reducible apply State.raise_keeps
    | with_reducible refine Keeps.ite (fun _ => ?_) (fun _ => ?_)

theorem State.retireRow_keeps {s₀ : State} {s : State} (hk : Keeps s₀ s) (c l bytes : Nat) :
    Keeps s₀ (State.retireRow s c l bytes) := by
  unfold State.retireRow
  repeat' first
    | with_reducible assumption
    | with_reducible apply State.saveRemaps_keeps
    | with_reducible apply State.modChan_keeps
    | with_reducible apply State.retireFrame_keeps
    | lift_lets
    | (intro y; with_reducible refine Keeps.cut (x := y) ?_ (fun _ => ?_); rotate_left 1; clear_value y; rotate_left 1; unfold y)
    | (intro y; clear_value y)
    | (with_reducible apply Keeps.upd; first | with_reducible refine Keeps.foldl ?_ _ _ (fun _ _ _ => ?_))

theorem State.rowFails_keeps {s₀ s : State} (h : Keeps s₀ s) (c l bytes : Nat) : Keeps s₀ (s.rowFails c l bytes) := by
  unfold State.rowFails
  refine Keeps.ite (fun _ => h) (fun _ => ?_)
  extract_lets row x owner remapped
  have hr : ∀ {t : State}, Keeps s₀ t → Keeps s₀ (remapped t) := fun ht => State.recordError_keeps ht _
  split
  · split
    · exact hr (State.modChan_keeps h ..)
    · exact State.retireRow_keeps h ..
  · refine Keeps.ite (fun _ => ?_) (fun _ => State.retireRow_keeps h ..)
    extract_lets y
    split
    · exact hr (State.modChan_keeps h ..)
    · exact State.retireRow_keeps (State.modChan_keeps h ..) ..

theorem rowRemapCopyDone_keeps {s₀ : State} {s : State} (hk : Keeps s₀ s) (c entry : Nat) :
    Keeps s₀ (rowRemapCopyDone s c entry) := by
  unfold rowRemapCopyDone
  repeat' first
    | with_reducible assumption
    | with_reducible apply State.modChan_keeps
    | with_reducible apply State.raise_keeps
    | with_reducible apply State.saveRemaps_keeps
    | with_reducible refine Keeps.ite (fun _ => ?_) (fun _ => ?_)

theorem State.frameRetired_keeps {s₀ : State} {s : State} (hk : Keeps s₀ s) (t f : Nat) :
    Keeps s₀ (State.frameRetired s t f) := by
  unfold State.frameRetired
  repeat' first
    | with_reducible assumption
    | with_reducible apply State.saveRemaps_keeps
    | with_reducible apply State.modChan_keeps
    | with_reducible apply State.setFrame_keeps
    | lift_lets
    | (intro y; with_reducible refine Keeps.cut (x := y) ?_ (fun _ => ?_); rotate_left 1; clear_value y; rotate_left 1; unfold y)
    | (intro y; clear_value y)
    | with_reducible refine Keeps.ite (fun _ => ?_) (fun _ => ?_)
    | (with_reducible apply Keeps.upd; first | with_reducible refine Keeps.foldl ?_ _ _ (fun _ _ _ => ?_))

theorem State.mapRetired_keeps {s₀ : State} {s : State} (hk : Keeps s₀ s) :
    Keeps s₀ (State.mapRetired s) := by
  unfold State.mapRetired
  repeat' first
    | with_reducible assumption
    | with_reducible apply State.frameRetired_keeps
    | with_reducible refine Keeps.ite (fun _ => ?_) (fun _ => ?_)
    | (with_reducible apply Keeps.upd; first | with_reducible refine Keeps.foldl ?_ _ _ (fun _ _ _ => ?_))

theorem State.chanEvents_keeps {s₀ : State} {s : State} (hk : Keeps s₀ s) (c us n : Nat) :
    Keeps s₀ (State.chanEvents s c us n) := by
  unfold State.chanEvents
  repeat' first
    | with_reducible assumption
    | with_reducible apply State.modChan_keeps
    | with_reducible apply State.startRetrain_keeps
    | lift_lets
    | (intro y; with_reducible refine Keeps.cut (x := y) ?_ (fun _ => ?_); rotate_left 1; clear_value y; rotate_left 1; unfold y)
    | (intro y; clear_value y)
    | with_reducible refine Keeps.ite (fun _ => ?_) (fun _ => ?_)

theorem State.chanBad_keeps {s₀ : State} {s : State} (hk : Keeps s₀ s) (c addr bytes us : Nat) :
    Keeps s₀ (State.chanBad s c addr bytes us) := by
  unfold State.chanBad
  repeat' first
    | with_reducible assumption
    | with_reducible apply State.rowFails_keeps
    | with_reducible apply State.setFld_keeps
    | with_reducible apply State.setBit_keeps
    | with_reducible apply State.addFld_keeps
    | with_reducible apply State.chanEvents_keeps

theorem hbmAccessComplete_keeps {s₀ s : State} (h : Keeps s₀ s) (c : Nat) (a : HbmAccess) :
    Keeps s₀ (hbmAccessComplete s c a) := by
  unfold hbmAccessComplete
  refine Keeps.ite (fun _ => h) (fun _ => ?_)
  extract_lets s1 last s2 now s4 who e s5 s6
  have h1 : Keeps s₀ s1 := Keeps.ite (fun _ => h) (fun _ => State.addFld_keeps h ..)
  have hl : ∀ {t : State}, Keeps s₀ t → Keeps s₀ (last t) := fun ht =>
    State.setBit_keeps (State.setFld_keeps (State.setFld_keeps ht ..) ..) ..
  have h2 : Keeps s₀ s2 := State.chanEvents_keeps h1 ..
  have h4 : Keeps s₀ s4 := h1.upd
  have h5 : Keeps s₀ s5 := State.recordError_keeps h4 _
  have h6 : Keeps s₀ s6 := by
    unfold s6
    generalize who = o
    cases o
    · exact h5
    · exact Keeps.ite (fun _ => State.endCmd_keeps h5 ..) (fun _ => h5)
  refine Keeps.ite (fun _ => h1) (fun _ => Keeps.ite (fun _ => ?_) (fun _ => Keeps.ite (fun _ => ?_) (fun _ => ?_)))
  · exact Keeps.ite (fun _ => State.startRetrain_keeps (State.modChan_keeps (hl h2) ..) ..) (fun _ => h2)
  · exact State.recordError_keeps (State.chanEvents_keeps (State.addFld_keeps h1 ..) ..) _
  · exact State.chanBad_keeps h6 ..

theorem frameAttrWrite_keeps {s₀ : State} {s : State} (hk : Keeps s₀ s) (who : Requester) (d : Nat) (v : Word64) :
    Keeps s₀ (frameAttrWrite s who d v) := by
  unfold frameAttrWrite
  repeat' first
    | with_reducible assumption
    | with_reducible apply State.frameRetired_keeps
    | with_reducible apply State.refuseF_keeps
    | with_reducible apply State.refuse_keeps
    | with_reducible apply State.lose_keeps
    | with_reducible apply State.setFrame_keeps
    | with_reducible refine State.letIn_keeps ?_ _ _ _ (fun _ _ => ?_)
    | lift_lets
    | (intro y; clear_value y)
    | with_reducible refine Keeps.ite (fun _ => ?_) (fun _ => ?_)
    | (with_reducible apply Keeps.upd; first | with_reducible refine Keeps.foldl ?_ _ _ (fun _ _ _ => ?_))

theorem marginStart_keeps {s₀ : State} {s : State} (hk : Keeps s₀ s) (who : Requester) (k : Nat) (v : Word64) :
    Keeps s₀ (marginStart s who k v) := by
  unfold marginStart
  repeat' first
    | with_reducible assumption
    | with_reducible apply State.setFld_keeps
    | with_reducible apply State.refuseF_keeps
    | with_reducible apply State.modStk_keeps
    | with_reducible refine State.letIn_keeps ?_ _ _ _ (fun _ _ => ?_)
    | lift_lets
    | (intro y; with_reducible refine Keeps.cut (x := y) ?_ (fun _ => ?_); rotate_left 1; clear_value y; rotate_left 1; unfold y)
    | (intro y; clear_value y)
    | with_reducible refine Keeps.ite (fun _ => ?_) (fun _ => ?_)

theorem marginDone_keeps {s₀ : State} {s : State} (hk : Keeps s₀ s) (k errors lanes : Nat) :
    Keeps s₀ (marginDone s k errors lanes) := by
  unfold marginDone
  repeat' first
    | with_reducible assumption
    | with_reducible apply State.setFld_keeps
    | with_reducible apply State.modStk_keeps
    | lift_lets
    | (intro y; clear_value y)
    | with_reducible refine Keeps.ite (fun _ => ?_) (fun _ => ?_)

theorem State.svnDone_keeps {s₀ : State} {s : State} (hk : Keeps s₀ s) (i : Nat) (ok : Bool) :
    Keeps s₀ (State.svnDone s i ok) := by
  unfold State.svnDone
  repeat' first
    | with_reducible assumption
    | with_reducible apply State.setFld_keeps
    | with_reducible apply State.raise_keeps
    | lift_lets
    | (intro y; with_reducible refine Keeps.cut (x := y) ?_ (fun _ => ?_); rotate_left 1; clear_value y; rotate_left 1; unfold y)
    | (intro y; clear_value y)
    | with_reducible refine Keeps.ite (fun _ => ?_) (fun _ => ?_)
    | (with_reducible apply Keeps.upd; first | with_reducible assumption)

theorem nvmWriteDone_keeps {s₀ : State} {s : State} (hk : Keeps s₀ s) (ok : Bool) :
    Keeps s₀ (nvmWriteDone s ok) := by
  unfold nvmWriteDone
  repeat' first
    | with_reducible assumption
    | with_reducible apply State.modChan_keeps
    | with_reducible apply State.svnDone_keeps
    | with_reducible apply State.crnRecord_keeps
    | lift_lets
    | (intro y; with_reducible refine Keeps.cut (x := y) ?_ (fun _ => ?_); rotate_left 1; clear_value y; rotate_left 1; unfold y)
    | (intro y; clear_value y)
    | with_reducible refine Keeps.ite (fun _ => ?_) (fun _ => ?_)
    | (with_reducible apply Keeps.upd; first | with_reducible assumption)
    | split

theorem execHbmAccessComplete_keeps {s₀ : State} (ch : Nat) (a : HbmAccess) {s : State} (hk : Keeps s₀ s) {t₁ : State} (e₁ : execHbmAccessComplete ch a s = .next t₁) :
    Keeps s₀ t₁ := by
  unfold execHbmAccessComplete State.done at e₁
  cases e₁
  apply State.observe_keeps
  repeat' first
    | with_reducible assumption
    | with_reducible apply hbmAccessComplete_keeps

theorem execRetrainDone_keeps {s₀ : State} (ch : Nat) (pass : Bool) (us lanes : Nat) {s : State} (hk : Keeps s₀ s) {t₁ : State} (e₁ : execRetrainDone ch pass us lanes s = .next t₁) :
    Keeps s₀ t₁ := by
  unfold execRetrainDone State.done at e₁
  cases e₁
  apply State.observe_keeps
  repeat' first
    | with_reducible assumption
    | with_reducible apply retrainDone_keeps

theorem execRowRemapCopyDone_keeps {s₀ : State} (ch entry : Nat) {s : State} (hk : Keeps s₀ s) {t₁ : State} (e₁ : execRowRemapCopyDone ch entry s = .next t₁) :
    Keeps s₀ t₁ := by
  unfold execRowRemapCopyDone State.done at e₁
  cases e₁
  apply State.observe_keeps
  repeat' first
    | with_reducible assumption
    | with_reducible apply rowRemapCopyDone_keeps

theorem execStackTempSample_keeps {s₀ : State} (stk : Nat) (t : Int) {s : State} (hk : Keeps s₀ s) {t₁ : State} (e₁ : execStackTempSample stk t s = .next t₁) :
    Keeps s₀ t₁ := by
  unfold execStackTempSample State.done at e₁
  cases e₁
  apply State.observe_keeps
  repeat' first
    | with_reducible assumption
    | with_reducible apply stackTempSample_keeps

theorem execRecalDue_keeps {s₀ : State} (ch : Nat) {s : State} (hk : Keeps s₀ s) {t₁ : State} (e₁ : execRecalDue ch s = .next t₁) :
    Keeps s₀ t₁ := by
  unfold execRecalDue State.done at e₁
  cases e₁
  apply State.observe_keeps
  repeat' first
    | with_reducible assumption
    | with_reducible apply recalDue_keeps

theorem execRecalOverdue_keeps {s₀ : State} (ch : Nat) {s : State} (hk : Keeps s₀ s) {t₁ : State} (e₁ : execRecalOverdue ch s = .next t₁) :
    Keeps s₀ t₁ := by
  unfold execRecalOverdue State.done at e₁
  cases e₁
  apply State.observe_keeps
  repeat' first
    | with_reducible assumption
    | with_reducible apply recalOverdue_keeps

theorem execRecalDone_keeps {s₀ : State} (ch : Nat) {s : State} (hk : Keeps s₀ s) {t₁ : State} (e₁ : execRecalDone ch s = .next t₁) :
    Keeps s₀ t₁ := by
  unfold execRecalDone State.done at e₁
  cases e₁
  apply State.observe_keeps
  repeat' first
    | with_reducible assumption
    | with_reducible apply recalDone_keeps

theorem execFrameAttrWrite_keeps {s₀ : State} (who : Requester) (die : Nat) (v : Word64) {s : State} (hk : Keeps s₀ s) {t₁ : State} (e₁ : execFrameAttrWrite who die v s = .next t₁) :
    Keeps s₀ t₁ := by
  unfold execFrameAttrWrite State.done at e₁
  cases e₁
  apply State.observe_keeps
  repeat' first
    | with_reducible assumption
    | with_reducible apply frameAttrWrite_keeps

theorem execFrameRelease_keeps {s₀ : State} (who : Requester) (die : Nat) (v : Word64) {s : State} (hk : Keeps s₀ s) {t₁ : State} (e₁ : execFrameRelease who die v s = .next t₁) :
    Keeps s₀ t₁ := by
  unfold execFrameRelease State.done at e₁
  cases e₁
  apply State.observe_keeps
  repeat' first
    | with_reducible assumption
    | with_reducible apply frameAttrWrite_keeps

theorem execMarginStart_keeps {s₀ : State} (who : Requester) (stk : Nat) (v : Word64) {s : State} (hk : Keeps s₀ s) {t₁ : State} (e₁ : execMarginStart who stk v s = .next t₁) :
    Keeps s₀ t₁ := by
  unfold execMarginStart State.done at e₁
  cases e₁
  apply State.observe_keeps
  repeat' first
    | with_reducible assumption
    | with_reducible apply marginStart_keeps

theorem execMarginDone_keeps {s₀ : State} (stk errors lanes : Nat) {s : State} (hk : Keeps s₀ s) {t₁ : State} (e₁ : execMarginDone stk errors lanes s = .next t₁) :
    Keeps s₀ t₁ := by
  unfold execMarginDone State.done at e₁
  cases e₁
  apply State.observe_keeps
  repeat' first
    | with_reducible assumption
    | with_reducible apply marginDone_keeps

theorem execNvmWriteDone_keeps {s₀ : State} (ok : Bool) {s : State} (hk : Keeps s₀ s) {t₁ : State} (e₁ : execNvmWriteDone ok s = .next t₁) :
    Keeps s₀ t₁ := by
  unfold execNvmWriteDone State.done at e₁
  cases e₁
  apply State.observe_keeps
  repeat' first
    | with_reducible assumption
    | with_reducible apply nvmWriteDone_keeps

theorem State.trimUnit_keeps {s₀ : State} {s : State} (hk : Keeps s₀ s) (kind i : Nat) :
    Keeps s₀ (State.trimUnit s kind i) := by
  unfold State.trimUnit
  repeat' first
    | with_reducible assumption
    | with_reducible apply State.raise_keeps
    | with_reducible refine Keeps.ite (fun _ => ?_) (fun _ => ?_)
    | (with_reducible apply Keeps.upd; first | with_reducible assumption)

theorem State.failUnit_keeps {s₀ : State} {s : State} (hk : Keeps s₀ s) (kind i : Nat) :
    Keeps s₀ (State.failUnit s kind i) := by
  unfold State.failUnit
  repeat' first
    | with_reducible assumption
    | with_reducible apply State.setFault_keeps
    | with_reducible apply State.setFld_keeps
    | with_reducible apply State.endAll_keeps
    | with_reducible apply State.recordError_keeps
    | with_reducible apply State.trimUnit_keeps
    | with_reducible apply State.addKnownBad_keeps
    | lift_lets
    | (intro y; with_reducible refine Keeps.cut (x := y) ?_ (fun _ => ?_); rotate_left 1; clear_value y; rotate_left 1; unfold y)
    | (intro y; clear_value y)
    | with_reducible refine Keeps.ite (fun _ => ?_) (fun _ => ?_)
    | (with_reducible apply Keeps.upd; first | with_reducible apply State.addKnownBad_keeps)

theorem State.sramError_keeps {s₀ : State} {s : State} (hk : Keeps s₀ s) (kind i : Nat) :
    Keeps s₀ (State.sramError s kind i) := by
  unfold State.sramError
  repeat' first
    | with_reducible assumption
    | with_reducible apply State.failUnit_keeps
    | lift_lets
    | (intro y; with_reducible refine Keeps.cut (x := y) ?_ (fun _ => ?_); rotate_left 1; clear_value y; rotate_left 1; unfold y)
    | (intro y; clear_value y)
    | with_reducible refine Keeps.ite (fun _ => ?_) (fun _ => ?_)
    | (with_reducible apply Keeps.upd; first | with_reducible assumption)

theorem State.spEcc_keeps {s₀ : State} {s : State} (hk : Keeps s₀ s) (pg k : Nat) :
    Keeps s₀ (State.spEcc s pg k) := by
  unfold State.spEcc
  repeat' first
    | with_reducible assumption
    | with_reducible apply State.setFld_keeps
    | with_reducible apply State.setBit_keeps
    | with_reducible apply State.addFld_keeps
    | lift_lets
    | (intro y; with_reducible refine Keeps.cut (x := y) ?_ (fun _ => ?_); rotate_left 1; clear_value y; rotate_left 1; unfold y)
    | (intro y; clear_value y)
    | with_reducible refine Keeps.ite (fun _ => ?_) (fun _ => ?_)

theorem State.recordBad_keeps {s₀ : State} {s : State} (hk : Keeps s₀ s) (k n : Nat) (part : Option Nat) (cmd : Option InFlight) :
    Keeps s₀ (State.recordBad s k n part cmd) := by
  unfold State.recordBad
  repeat' first
    | with_reducible assumption
    | with_reducible apply State.sramError_keeps
    | with_reducible apply State.spEcc_keeps
    | with_reducible apply State.recordError_keeps
    | with_reducible apply State.chanBad_keeps
    | lift_lets
    | with_reducible refine Keeps.ite (fun _ => ?_) (fun _ => ?_)
    | split

theorem State.stopCmd_keeps {s₀ : State} {s : State} (hk : Keeps s₀ s) (c : InFlight) (code : Code) (good a n : Nat) :
    Keeps s₀ (State.stopCmd s c code good a n) := by
  unfold State.stopCmd
  repeat' first
    | with_reducible assumption
    | with_reducible apply State.endCmd_keeps
    | with_reducible apply State.recordBad_keeps
    | lift_lets
    | with_reducible refine Keeps.ite (fun _ => ?_) (fun _ => ?_)
    | split

theorem State.wrAll_keeps {s₀ : State} {s : State} (hk : Keeps s₀ s) (p : Nat) (ws : List (Nat × List Byte)) :
    Keeps s₀ (State.wrAll s p ws).1 := by
  unfold State.wrAll
  repeat' first
    | with_reducible assumption
    | with_reducible apply State.wrDev_keeps
    | lift_lets
    | (intro y; with_reducible refine Keeps.cut (x := y.1) ?_ (fun _ => ?_); rotate_left 1; clear_value y; rotate_left 1; unfold y)
    | with_reducible refine Keeps.ite1 (fun _ => ?_) (fun _ => ?_)
    | with_reducible refine Keeps.foldlP Prod.fst ?_ _ _ (fun _ _ _ => ?_)

theorem State.knowHead_keeps {s₀ : State} {s : State} (hk : Keeps s₀ s) (p a : Nat) :
    Keeps s₀ (State.knowHead s p a) := by
  unfold State.knowHead
  repeat' first
    | with_reducible assumption
    | with_reducible refine Keeps.ite (fun _ => ?_) (fun _ => ?_)
    | (with_reducible apply Keeps.upd; first | with_reducible assumption)

theorem State.kvRefuse_keeps {s₀ : State} {s : State} (hk : Keeps s₀ s) (p : Nat) :
    Keeps s₀ (State.kvRefuse s p) := by
  unfold State.kvRefuse
  repeat' first
    | with_reducible assumption
    | with_reducible apply State.setFld_keeps
    | with_reducible apply State.refuseF_keeps

theorem State.kvDone_keeps {s₀ : State} {s : State} (hk : Keeps s₀ s) (p slot span host none : Nat) :
    Keeps s₀ (State.kvDone s p slot span host none) := by
  unfold State.kvDone
  repeat' first
    | with_reducible assumption
    | with_reducible apply State.setFld_keeps

theorem kvAllocWrite_keeps {s₀ : State} {s : State} (hk : Keeps s₀ s) (who : Requester) (p : Nat) (v : Word64) :
    Keeps s₀ (kvAllocWrite s who p v) := by
  unfold kvAllocWrite
  repeat' first
    | with_reducible assumption
    | with_reducible apply State.setSlotW0_keeps
    | with_reducible apply State.kvDone_keeps
    | with_reducible apply State.takeRun_keeps
    | with_reducible apply State.toLimbo_keeps
    | with_reducible apply State.kvRefuse_keeps
    | with_reducible refine State.letIn_keeps ?_ _ _ _ (fun _ _ => ?_)
    | lift_lets
    | (intro y; clear_value y)
    | with_reducible refine Keeps.ite (fun _ => ?_) (fun _ => ?_)
    | split

theorem kvEpochAdv_keeps {s₀ : State} {s : State} (hk : Keeps s₀ s) (who : Requester) (p : Nat) :
    Keeps s₀ (kvEpochAdv s who p) := by
  unfold kvEpochAdv
  repeat' first
    | with_reducible assumption
    | with_reducible refine State.letIn_keeps ?_ _ _ _ (fun _ _ => ?_)
    | with_reducible apply State.epochAdv_keeps

theorem State.moveStart_keeps {s₀ s : State} (h : Keeps s₀ s) (p : Nat) (cmd : Option (Nat × Nat)) (e : Nat) (toHost : Bool)
    (dst : Option Nat) (low : Nat) {t : State} (e₁ : s.moveStart p cmd e toHost dst low = .ok t) : Keeps s₀ t := by
  unfold State.moveStart at e₁
  dsimp only at e₁
  split at e₁
  · cases e₁
  · rcases of_ite_eq e₁ with ⟨_, e₁⟩ | ⟨_, e₁⟩
    · cases e₁
    · split at e₁
      · cases e₁
      · rcases of_ite_eq e₁ with ⟨_, e₁⟩ | ⟨_, e₁⟩
        · cases e₁
        · split at e₁
          · cases e₁
          · cases e₁
            exact Keeps.upd (State.setSlotSt_keeps (State.takeRun_keeps h ..) ..)

theorem State.moveCopy_keeps {s₀ : State} {s : State} (hk : Keeps s₀ s) (m : KvMove) :
    Keeps s₀ (State.moveCopy s m) := by
  unfold State.moveCopy
  repeat' first
    | with_reducible assumption
    | with_reducible apply State.wrHost_keeps
    | with_reducible apply State.wrs_keeps
    | lift_lets
    | (intro y; clear_value y)
    | with_reducible refine Keeps.ite (fun _ => ?_) (fun _ => ?_)

theorem State.moved_keeps {s₀ : State} {s : State} (hk : Keeps s₀ s) (m : KvMove) (ok : Bool) (info : Nat) :
    Keeps s₀ (State.moved s m ok info) := by
  unfold State.moved
  repeat' first
    | with_reducible assumption
    | with_reducible apply State.modCmd_keeps
    | split

theorem State.commitMove_keeps {s₀ : State} {s : State} (hk : Keeps s₀ s) (m : KvMove) :
    Keeps s₀ (State.commitMove s m) := by
  unfold State.commitMove
  repeat' first
    | with_reducible assumption
    | with_reducible apply State.setSlotW0_keeps
    | with_reducible apply State.wr64_keeps
    | with_reducible apply State.moved_keeps
    | with_reducible apply State.finish_keeps
    | with_reducible apply State.recordBad_keeps
    | with_reducible apply State.dropWork_keeps
    | with_reducible apply State.dropMove_keeps
    | with_reducible apply State.addFld_keeps
    | with_reducible apply State.setSlotUse_keeps
    | with_reducible apply State.toLimbo_keeps
    | with_reducible apply State.moveCopy_keeps
    | lift_lets
    | (intro y; with_reducible refine Keeps.cut (x := y) ?_ (fun _ => ?_); rotate_left 1; clear_value y; rotate_left 1; unfold y)
    | (intro y; clear_value y)
    | with_reducible refine Keeps.ite (fun _ => ?_) (fun _ => ?_)
    | (with_reducible apply Keeps.upd; first | with_reducible assumption)
    | split

theorem kvMoveCommit_keeps {s₀ : State} {s : State} (hk : Keeps s₀ s) (p : Nat) :
    Keeps s₀ (kvMoveCommit s p) := by
  unfold kvMoveCommit
  repeat' first
    | with_reducible assumption
    | with_reducible apply State.commitMove_keeps
    | split

theorem State.skipPage_keeps {s₀ : State} {s : State} (hk : Keeps s₀ s) (r q info : Nat) (prog : List Nat) :
    Keeps s₀ (State.skipPage s r q info prog) := by
  unfold State.skipPage
  repeat' first
    | with_reducible assumption
    | with_reducible apply State.modCmd_keeps

theorem State.moveList_keeps {s₀ s : State} (h : Keeps s₀ s) (c : InFlight) (toHost : Bool) (i n : Nat) :
    Keeps s₀ (s.moveList c toHost i n) := by
  induction n generalizing s i with
  | zero => exact State.finish_keeps h ..
  | succ n ih =>
    unfold State.moveList
    split
    · exact State.finish_keeps h ..
    · dsimp only
      refine Keeps.ite (fun _ => ih (State.skipPage_keeps h ..) (i + 1)) (fun _ => ?_)
      split
      · exact ih (State.skipPage_keeps h ..) (i + 1)
      · exact State.modCmd_keeps (State.moveStart_keeps h _ _ _ _ _ _ (by assumption)) ..

theorem State.spillPick_keeps {s₀ s : State} (h : Keeps s₀ s) (c : InFlight) (n : Nat) : Keeps s₀ (s.spillPick c n) := by
  induction n generalizing s with
  | zero => exact State.finish_keeps h ..
  | succ n ih =>
    unfold State.spillPick
    extract_lets now n' skip done
    refine Keeps.ite (fun _ => State.finish_keeps h ..) (fun _ => ?_)
    split
    · exact State.finish_keeps (State.skipPage_keeps h ..) ..
    · refine Keeps.ite (fun _ => State.finish_keeps (State.skipPage_keeps h ..) ..) (fun _ => ?_)
      split
      · exact State.modCmd_keeps (State.moveStart_keeps h _ _ _ _ _ _ (by assumption)) ..
      · exact ih (State.skipPage_keeps h ..)

theorem State.moveEntries_keeps {s₀ s : State} (h : Keeps s₀ s) (c : InFlight) (es : List Nat) (i : Nat) (l : List Nat) :
    Keeps s₀ (s.moveEntries c es i l) := by
  induction l generalizing s i with
  | nil => exact State.finish_keeps h ..
  | cons e r ih =>
    unfold State.moveEntries
    split
    · exact ih (State.skipPage_keeps h ..) (i + 1)
    · exact State.modCmd_keeps (State.moveStart_keeps h _ _ _ _ _ _ (by assumption)) ..

theorem State.tierNext_keeps {s₀ : State} {s : State} (hk : Keeps s₀ s) (c : InFlight) :
    Keeps s₀ (State.tierNext s c) := by
  unfold State.tierNext
  repeat' first
    | with_reducible assumption
    | with_reducible apply State.spillPick_keeps
    | with_reducible apply State.finish_keeps
    | with_reducible apply State.moveList_keeps
    | with_reducible apply State.knowHead_keeps
    | with_reducible apply State.moveEntries_keeps
    | lift_lets
    | (intro y; clear_value y)
    | with_reducible refine Keeps.ite (fun _ => ?_) (fun _ => ?_)
    | split

theorem spillCmd_keeps {s₀ : State} {s : State} (hk : Keeps s₀ s) (r q : Nat) :
    Keeps s₀ (spillCmd s r q) := by
  unfold spillCmd
  repeat' first
    | with_reducible assumption
    | with_reducible apply State.tierNext_keeps
    | with_reducible refine State.contCmd_keeps ?_ _ _ _ _ _ (fun _ _ _ => ?_) (fun _ _ _ => ?_)

theorem fetchCmd_keeps {s₀ : State} {s : State} (hk : Keeps s₀ s) (r q : Nat) :
    Keeps s₀ (fetchCmd s r q) := by
  unfold fetchCmd
  repeat' first
    | with_reducible assumption
    | with_reducible apply State.tierNext_keeps
    | with_reducible refine State.contCmd_keeps ?_ _ _ _ _ _ (fun _ _ _ => ?_) (fun _ _ _ => ?_)

theorem State.reserveRuns_keeps {s₀ s : State} (h : Keeps s₀ s) (p : Nat) (host : Bool) (l : List Nat) {t : State × List Nat}
    (e₁ : s.reserveRuns p host l = some t) : Keeps s₀ t.1 := by
  induction l generalizing s t with
  | nil => cases e₁; exact h
  | cons a r ih =>
    unfold State.reserveRuns at e₁
    split at e₁
    · cases e₁
    · obtain ⟨x, hx, rfl⟩ := Option.map_eq_some_iff.1 e₁
      show Keeps s₀ x.1
      exact ih (State.takeRun_keeps h ..) hx

theorem State.parkStart_keeps {s₀ s : State} (h : Keeps s₀ s) (c : InFlight) (park : Bool) : Keeps s₀ (s.parkStart c park) := by
  unfold State.parkStart
  extract_lets p a
  split
  · exact State.finish_keeps h ..
  · extract_lets es pages
    refine Keeps.ite (fun _ => h) (fun _ => Keeps.ite (fun _ => State.finish_keeps h ..)
      (fun _ => Keeps.ite (fun _ => State.finish_keeps h ..) (fun _ => ?_)))
    split
    · exact State.finish_keeps h ..
    · next t rs e =>
      have ht : Keeps s₀ t := State.reserveRuns_keeps h _ _ _ e
      exact State.modCmd_keeps (State.knowHead_keeps (State.epochAdv_keeps (State.wr64_keeps ht ..) ..) ..) ..

theorem State.parkEnd_keeps {s₀ : State} {s : State} (hk : Keeps s₀ s) (c : InFlight) (park : Bool) (a : Nat) (rs : List Nat) :
    Keeps s₀ (State.parkEnd s c park a rs) := by
  unfold State.parkEnd
  repeat' first
    | with_reducible assumption
    | with_reducible apply State.freeRun_keeps
    | with_reducible apply State.wr64_keeps
    | with_reducible apply State.finish_keeps
    | with_reducible apply State.modCmd_keeps
    | lift_lets
    | (with_reducible apply Keeps.upd; first | with_reducible refine Keeps.foldl ?_ _ _ (fun _ _ _ => ?_))

theorem State.parkMoves_keeps {s₀ s : State} (h : Keeps s₀ s) (c : InFlight) (park : Bool) (a e0 i : Nat) (rs l : List Nat) :
    Keeps s₀ (s.parkMoves c park a e0 i rs l) := by
  induction l generalizing s i with
  | nil => exact State.parkEnd_keeps h ..
  | cons e r ih =>
    unfold State.parkMoves
    extract_lets p w span d
    refine Keeps.ite (fun _ => ih h (i + 1)) (fun _ => ?_)
    split
    · exact ih (State.skipPage_keeps h ..) (i + 1)
    · exact State.modCmd_keeps (State.moveStart_keeps h _ _ _ _ _ _ (by assumption)) ..

theorem State.parkNext_keeps {s₀ : State} {s : State} (hk : Keeps s₀ s) (c : InFlight) (park : Bool) :
    Keeps s₀ (State.parkNext s c park) := by
  unfold State.parkNext
  repeat' first
    | with_reducible assumption
    | with_reducible apply State.parkStart_keeps
    | with_reducible apply State.parkMoves_keeps
    | with_reducible apply State.finish_keeps
    | with_reducible apply State.dropWork_keeps
    | lift_lets
    | (intro y; clear_value y)
    | with_reducible refine Keeps.ite (fun _ => ?_) (fun _ => ?_)
    | split

theorem seqParkCmd_keeps {s₀ : State} {s : State} (hk : Keeps s₀ s) (r q : Nat) :
    Keeps s₀ (seqParkCmd s r q) := by
  unfold seqParkCmd
  repeat' first
    | with_reducible assumption
    | with_reducible apply State.parkStart_keeps
    | with_reducible apply State.parkNext_keeps
    | with_reducible refine State.contCmd_keeps ?_ _ _ _ _ _ (fun _ _ _ => ?_) (fun _ _ _ => ?_)

theorem seqUnparkCmd_keeps {s₀ : State} {s : State} (hk : Keeps s₀ s) (r q : Nat) :
    Keeps s₀ (seqUnparkCmd s r q) := by
  unfold seqUnparkCmd
  repeat' first
    | with_reducible assumption
    | with_reducible apply State.parkStart_keeps
    | with_reducible apply State.parkNext_keeps
    | with_reducible refine State.contCmd_keeps ?_ _ _ _ _ _ (fun _ _ _ => ?_) (fun _ _ _ => ?_)

theorem parkStrokesReached_keeps {s₀ : State} {s : State} (hk : Keeps s₀ s) (p : Nat) :
    Keeps s₀ (parkStrokesReached s p) := by
  unfold parkStrokesReached
  repeat' first
    | with_reducible assumption
    | with_reducible apply State.modPart_keeps
    | with_reducible apply State.setFld_keeps
    | with_reducible apply State.raise_keeps
    | lift_lets
    | (intro y; clear_value y)
    | with_reducible refine Keeps.ite (fun _ => ?_) (fun _ => ?_)

theorem State.kvBoundary_keeps {s₀ : State} {s : State} (hk : Keeps s₀ s) (p : Nat) :
    Keeps s₀ (State.kvBoundary s p) := by
  unfold State.kvBoundary
  repeat' first
    | with_reducible assumption
    | with_reducible apply State.modPart_keeps
    | with_reducible apply State.setFld_keeps
    | with_reducible apply State.setBit_keeps
    | with_reducible apply State.raise_keeps
    | lift_lets
    | (intro y; with_reducible refine Keeps.cut (x := y) ?_ (fun _ => ?_); rotate_left 1; clear_value y; rotate_left 1; unfold y)
    | (intro y; clear_value y)
    | with_reducible refine Keeps.ite (fun _ => ?_) (fun _ => ?_)

theorem execParkStrokesReached_keeps {s₀ : State} (part : Nat) {s : State} (hk : Keeps s₀ s) {t₁ : State} (e₁ : execParkStrokesReached part s = .next t₁) :
    Keeps s₀ t₁ := by
  unfold execParkStrokesReached State.done at e₁
  cases e₁
  apply State.observe_keeps
  repeat' first
    | with_reducible assumption
    | with_reducible apply parkStrokesReached_keeps

theorem execKvAlloc_keeps {s₀ : State} (who : Requester) (part : Nat) (v : Word64) {s : State} (hk : Keeps s₀ s) {t₁ : State} (e₁ : execKvAlloc who part v s = .next t₁) :
    Keeps s₀ t₁ := by
  unfold execKvAlloc State.done at e₁
  cases e₁
  apply State.observe_keeps
  repeat' first
    | with_reducible assumption
    | with_reducible apply kvAllocWrite_keeps

theorem execKvFree_keeps {s₀ : State} (who : Requester) (part : Nat) (v : Word64) {s : State} (hk : Keeps s₀ s) {t₁ : State} (e₁ : execKvFree who part v s = .next t₁) :
    Keeps s₀ t₁ := by
  unfold execKvFree State.done at e₁
  cases e₁
  apply State.observe_keeps
  repeat' first
    | with_reducible assumption
    | with_reducible apply kvAllocWrite_keeps

theorem execKvReown_keeps {s₀ : State} (who : Requester) (part : Nat) (v : Word64) {s : State} (hk : Keeps s₀ s) {t₁ : State} (e₁ : execKvReown who part v s = .next t₁) :
    Keeps s₀ t₁ := by
  unfold execKvReown State.done at e₁
  cases e₁
  apply State.observe_keeps
  repeat' first
    | with_reducible assumption
    | with_reducible apply kvAllocWrite_keeps

theorem execEpochAdv_keeps {s₀ : State} (who : Requester) (part : Nat) {s : State} (hk : Keeps s₀ s) {t₁ : State} (e₁ : execEpochAdv who part s = .next t₁) :
    Keeps s₀ t₁ := by
  unfold execEpochAdv State.done at e₁
  cases e₁
  apply State.observe_keeps
  repeat' first
    | with_reducible assumption
    | with_reducible apply kvEpochAdv_keeps

theorem execLimboRelease_keeps {s₀ : State} (part : Nat) {s : State} (hk : Keeps s₀ s) {t₁ : State} (e₁ : execLimboRelease part s = .next t₁) :
    Keeps s₀ t₁ := by
  unfold execLimboRelease State.done at e₁
  cases e₁
  apply State.observe_keeps
  repeat' first
    | with_reducible assumption
    | with_reducible apply State.limboRelease_keeps

theorem execKvSpill_keeps {s₀ : State} (ring seq : Nat) {s : State} (hk : Keeps s₀ s) {t₁ : State} (e₁ : execKvSpill ring seq s = .next t₁) :
    Keeps s₀ t₁ := by
  unfold execKvSpill State.done at e₁
  cases e₁
  apply State.observe_keeps
  repeat' first
    | with_reducible assumption
    | with_reducible apply spillCmd_keeps

theorem execKvFetch_keeps {s₀ : State} (ring seq : Nat) {s : State} (hk : Keeps s₀ s) {t₁ : State} (e₁ : execKvFetch ring seq s = .next t₁) :
    Keeps s₀ t₁ := by
  unfold execKvFetch State.done at e₁
  cases e₁
  apply State.observe_keeps
  repeat' first
    | with_reducible assumption
    | with_reducible apply fetchCmd_keeps

theorem execSeqPark_keeps {s₀ : State} (ring seq : Nat) {s : State} (hk : Keeps s₀ s) {t₁ : State} (e₁ : execSeqPark ring seq s = .next t₁) :
    Keeps s₀ t₁ := by
  unfold execSeqPark State.done at e₁
  cases e₁
  apply State.observe_keeps
  repeat' first
    | with_reducible assumption
    | with_reducible apply seqParkCmd_keeps

theorem execSeqUnpark_keeps {s₀ : State} (ring seq : Nat) {s : State} (hk : Keeps s₀ s) {t₁ : State} (e₁ : execSeqUnpark ring seq s = .next t₁) :
    Keeps s₀ t₁ := by
  unfold execSeqUnpark State.done at e₁
  cases e₁
  apply State.observe_keeps
  repeat' first
    | with_reducible assumption
    | with_reducible apply seqUnparkCmd_keeps

theorem execKvMoveCommit_keeps {s₀ : State} (part : Nat) {s : State} (hk : Keeps s₀ s) {t₁ : State} (e₁ : execKvMoveCommit part s = .next t₁) :
    Keeps s₀ t₁ := by
  unfold execKvMoveCommit State.done at e₁
  cases e₁
  apply State.observe_keeps
  repeat' first
    | with_reducible assumption
    | with_reducible apply kvMoveCommit_keeps

theorem rwtEntryCommit_keeps {s₀ : State} {s : State} (hk : Keeps s₀ s) (who : Requester) (p : Nat) (v : Word64) :
    Keeps s₀ (rwtEntryCommit s who p v) := by
  unfold rwtEntryCommit
  repeat' first
    | with_reducible assumption
    | with_reducible apply State.modPart_keeps
    | with_reducible apply State.refuseF_keeps
    | with_reducible refine State.letIn_keeps ?_ _ _ _ (fun _ _ => ?_)
    | lift_lets
    | (intro y; clear_value y)
    | with_reducible refine Keeps.ite (fun _ => ?_) (fun _ => ?_)
    | (with_reducible apply Keeps.upd; first | with_reducible assumption)
    | split

theorem rwtSelRead_keeps {s₀ : State} {s : State} (hk : Keeps s₀ s) (who : Requester) (p : Nat) :
    Keeps s₀ (rwtSelRead s who p) := by
  unfold rwtSelRead
  repeat' first
    | with_reducible assumption
    | with_reducible refine Keeps.ite (fun _ => ?_) (fun _ => ?_)
    | with_reducible apply Keeps.emit

theorem State.rwtMiss_keeps {s₀ : State} {s : State} (hk : Keeps s₀ s) (who : Requester) :
    Keeps s₀ (State.rwtMiss s who) := by
  unfold State.rwtMiss
  repeat' first
    | with_reducible assumption
    | with_reducible apply State.raise_keeps
    | with_reducible apply State.addFld_keeps

theorem State.bar2Record_keeps {s₀ : State} {s : State} (hk : Keeps s₀ s) (who : Requester) (rid a part : Nat) (code : Code) :
    Keeps s₀ (State.bar2Record s who rid a part code) := by
  unfold State.bar2Record
  repeat' first
    | with_reducible assumption
    | with_reducible apply State.recordError_keeps

theorem State.bar2Put_keeps {s₀ s : State} (h : Keeps s₀ s) (bs : List (Nat × Nat)) (ds : List Byte) : Keeps s₀ (s.bar2Put bs ds) := by
  induction bs generalizing s ds with
  | nil => unfold State.bar2Put; exact h
  | cons b bs ih =>
    cases ds with
    | nil => unfold State.bar2Put; exact h
    | cons d ds => unfold State.bar2Put; exact ih (State.wr_keeps h ..) ds

theorem bar2Write_keeps {s₀ : State} {s : State} (hk : Keeps s₀ s) (who : Requester) (rid a : Nat) (data : List Byte) :
    Keeps s₀ (bar2Write s who rid a data) := by
  unfold bar2Write
  repeat' first
    | with_reducible assumption
    | with_reducible apply State.rwtMiss_keeps
    | with_reducible apply State.bar2Put_keeps
    | with_reducible apply State.bar2Record_keeps
    | with_reducible apply State.observe_keeps
    | with_reducible refine Keeps.ite (fun _ => ?_) (fun _ => ?_)
    | split

theorem bar2Read_keeps {s₀ : State} {s : State} (hk : Keeps s₀ s) (who : Requester) (rid a len : Nat) :
    Keeps s₀ (bar2Read s who rid a len) := by
  unfold bar2Read
  repeat' first
    | with_reducible assumption
    | with_reducible apply State.rwtMiss_keeps
    | with_reducible apply State.recordBad_keeps
    | with_reducible apply State.bar2Record_keeps
    | lift_lets
    | with_reducible refine Keeps.ite (fun _ => ?_) (fun _ => ?_)
    | with_reducible apply Keeps.emit
    | split

theorem State.placeRefused_keeps {s₀ : State} {s : State} (hk : Keeps s₀ s) (who : Requester) (p : Nat) :
    Keeps s₀ (State.placeRefused s who p) := by
  unfold State.placeRefused
  repeat' first
    | with_reducible assumption
    | with_reducible apply State.addFld_keeps
    | with_reducible apply State.refuseF_keeps
    | lift_lets
    | with_reducible refine Keeps.ite (fun _ => ?_) (fun _ => ?_)

theorem placeDone_keeps {s₀ : State} {s : State} (hk : Keeps s₀ s) (who : Requester) (p : Nat) (v : Word64) :
    Keeps s₀ (placeDone s who p v) := by
  unfold placeDone
  repeat' first
    | with_reducible assumption
    | with_reducible apply State.placeRefused_keeps
    | with_reducible apply State.recordBad_keeps
    | with_reducible apply State.recordError_keeps
    | with_reducible refine State.letIn_keeps ?_ _ _ _ (fun _ _ => ?_)
    | lift_lets
    | (intro y; clear_value y)
    | with_reducible refine Keeps.ite (fun _ => ?_) (fun _ => ?_)
    | split
    | (refine State.applySignal_keeps ?_ (e := by assumption))

theorem atsInvalidate_keeps {s₀ : State} {s : State} (hk : Keeps s₀ s) (h a n : Nat) :
    Keeps s₀ (atsInvalidate s h a n) := by
  unfold atsInvalidate
  repeat' first
    | with_reducible assumption
    | lift_lets
    | with_reducible refine Keeps.ite (fun _ => ?_) (fun _ => ?_)
    | with_reducible apply Keeps.emit

theorem State.moveByte_keeps {s₀ s : State} (h : Keeps s₀ s) (c : InFlight) (d : MoveDesc) (i : Nat) {t : State}
    (e₁ : s.moveByte c d i = .ok t) : Keeps s₀ t := by
  unfold State.moveByte at e₁
  extract_lets sa da x got y at e₁
  clear_value got
  split at e₁
  · cases e₁
  · rcases of_ite_eq e₁ with ⟨_, e₁⟩ | ⟨_, e₁⟩
    · rcases of_ite_eq e₁ with ⟨_, e₁⟩ | ⟨_, e₁⟩
      · cases e₁; exact State.hwr_keeps h ..
      · cases e₁
    · split at e₁
      · cases e₁
      · cases e₁; exact State.wr_keeps h ..

theorem State.movePiece_keeps {s₀ s : State} (h : Keeps s₀ s) (c : InFlight) (d : MoveDesc) (i n : Nat) :
    Keeps s₀ (s.movePiece c d i n).1 := by
  induction n generalizing s i with
  | zero => exact h
  | succ n ih =>
    unfold State.movePiece
    split
    · exact h
    · exact ih (State.moveByte_keeps h _ _ _ (by assumption)) (i + 1)

theorem State.moveNext_keeps {s₀ : State} {s : State} (hk : Keeps s₀ s) (c : InFlight) :
    Keeps s₀ (State.moveNext s c) := by
  unfold State.moveNext
  repeat' first
    | with_reducible assumption
    | with_reducible apply State.movePiece_keeps
    | with_reducible apply State.stopCmd_keeps
    | with_reducible apply State.endCmd_keeps
    | with_reducible apply State.modCmd_keeps
    | with_reducible apply State.observe_keeps
    | lift_lets
    | (intro y; with_reducible refine Keeps.cut (x := y.1) ?_ (fun _ => ?_); rotate_left 1; clear_value y; rotate_left 1; unfold y)
    | (intro y; clear_value y)
    | with_reducible refine Keeps.ite (fun _ => ?_) (fun _ => ?_)

theorem moveCmd_keeps {s₀ : State} {s : State} (hk : Keeps s₀ s) (r q : Nat) :
    Keeps s₀ (moveCmd s r q) := by
  unfold moveCmd
  repeat' first
    | with_reducible assumption
    | with_reducible apply State.moveNext_keeps
    | with_reducible refine State.contCmd_keeps ?_ _ _ _ _ _ (fun _ _ _ => ?_) (fun _ _ _ => ?_)

theorem State.newRetainId_keeps {s₀ : State} {s : State} (hk : Keeps s₀ s) :
    Keeps s₀ (State.newRetainId s) := by
  unfold State.newRetainId
  repeat' first
    | with_reducible assumption
    | with_reducible apply State.setReg_keeps
    | with_reducible apply State.draw_keeps

theorem linkUp_keeps {s₀ : State} {s : State} (hk : Keeps s₀ s) (h speed width : Nat) (cxl : Bool) :
    Keeps s₀ (linkUp s h speed width cxl) := by
  unfold linkUp
  repeat' first
    | with_reducible assumption
    | with_reducible apply State.newRetainId_keeps
    | with_reducible apply State.setFld_keeps
    | with_reducible apply State.setBit_keeps
    | with_reducible apply State.raise_keeps
    | lift_lets
    | (intro y; with_reducible refine Keeps.cut (x := y) ?_ (fun _ => ?_); rotate_left 1; clear_value y; rotate_left 1; unfold y)
    | (intro y; clear_value y)
    | with_reducible refine Keeps.ite (fun _ => ?_) (fun _ => ?_)
    | (with_reducible apply Keeps.upd; first | with_reducible assumption)

theorem linkRecovery_keeps {s₀ : State} {s : State} (hk : Keeps s₀ s) (h : Nat) :
    Keeps s₀ (linkRecovery s h) := by
  unfold linkRecovery
  repeat' first
    | with_reducible assumption
    | with_reducible apply State.raise_keeps
    | with_reducible apply State.addFld_keeps
    | with_reducible refine Keeps.ite (fun _ => ?_) (fun _ => ?_)

theorem recordFlushingRead_keeps {s₀ : State} {s : State} (hk : Keeps s₀ s) (h : Nat) :
    Keeps s₀ (recordFlushingRead s h) := by
  unfold recordFlushingRead
  repeat' first
    | with_reducible assumption
    | with_reducible apply State.modHp_keeps
    | with_reducible refine Keeps.ite (fun _ => ?_) (fun _ => ?_)

theorem execRwtEntryCommit_keeps {s₀ : State} (who : Requester) (part : Nat) (v : Word64) {s : State} (hk : Keeps s₀ s) {t₁ : State} (e₁ : execRwtEntryCommit who part v s = .next t₁) :
    Keeps s₀ t₁ := by
  unfold execRwtEntryCommit State.done at e₁
  cases e₁
  apply State.observe_keeps
  repeat' first
    | with_reducible assumption
    | with_reducible apply rwtEntryCommit_keeps

theorem execRwtSelRead_keeps {s₀ : State} (who : Requester) (part : Nat) {s : State} (hk : Keeps s₀ s) {t₁ : State} (e₁ : execRwtSelRead who part s = .next t₁) :
    Keeps s₀ t₁ := by
  unfold execRwtSelRead State.done at e₁
  cases e₁
  apply State.observe_keeps
  repeat' first
    | with_reducible assumption
    | with_reducible apply rwtSelRead_keeps

theorem execBar2Write_keeps {s₀ : State} (who : Requester) (rid addr : Nat) (data : List Byte) {s : State} (hk : Keeps s₀ s) {t₁ : State} (e₁ : execBar2Write who rid addr data s = .next t₁) :
    Keeps s₀ t₁ := by
  unfold execBar2Write State.done at e₁
  cases e₁
  apply State.observe_keeps
  repeat' first
    | with_reducible assumption
    | with_reducible apply bar2Write_keeps

theorem execBar2Read_keeps {s₀ : State} (who : Requester) (rid addr len : Nat) {s : State} (hk : Keeps s₀ s) {t₁ : State} (e₁ : execBar2Read who rid addr len s = .next t₁) :
    Keeps s₀ t₁ := by
  unfold execBar2Read State.done at e₁
  cases e₁
  apply State.observe_keeps
  repeat' first
    | with_reducible assumption
    | with_reducible apply bar2Read_keeps

theorem execPlaceDone_keeps {s₀ : State} (who : Requester) (part : Nat) (v : Word64) {s : State} (hk : Keeps s₀ s) {t₁ : State} (e₁ : execPlaceDone who part v s = .next t₁) :
    Keeps s₀ t₁ := by
  unfold execPlaceDone State.done at e₁
  cases e₁
  apply State.observe_keeps
  repeat' first
    | with_reducible assumption
    | with_reducible apply placeDone_keeps

theorem execAtsInvalidate_keeps {s₀ : State} (port addr len : Nat) {s : State} (hk : Keeps s₀ s) {t₁ : State} (e₁ : execAtsInvalidate port addr len s = .next t₁) :
    Keeps s₀ t₁ := by
  unfold execAtsInvalidate State.done at e₁
  cases e₁
  apply State.observe_keeps
  repeat' first
    | with_reducible assumption
    | with_reducible apply atsInvalidate_keeps

theorem execMoveRect_keeps {s₀ : State} (ring seq : Nat) {s : State} (hk : Keeps s₀ s) {t₁ : State} (e₁ : execMoveRect ring seq s = .next t₁) :
    Keeps s₀ t₁ := by
  unfold execMoveRect State.done at e₁
  cases e₁
  apply State.observe_keeps
  repeat' first
    | with_reducible assumption
    | with_reducible apply moveCmd_keeps

theorem execLinkUp_keeps {s₀ : State} (port speed width : Nat) (cxl : Bool) {s : State} (hk : Keeps s₀ s) {t₁ : State} (e₁ : execLinkUp port speed width cxl s = .next t₁) :
    Keeps s₀ t₁ := by
  unfold execLinkUp State.done at e₁
  cases e₁
  apply State.observe_keeps
  repeat' first
    | with_reducible assumption
    | with_reducible apply linkUp_keeps

theorem execLinkRecovery_keeps {s₀ : State} (port : Nat) {s : State} (hk : Keeps s₀ s) {t₁ : State} (e₁ : execLinkRecovery port s = .next t₁) :
    Keeps s₀ t₁ := by
  unfold execLinkRecovery State.done at e₁
  cases e₁
  apply State.observe_keeps
  repeat' first
    | with_reducible assumption
    | with_reducible apply linkRecovery_keeps

theorem execRecordFlushingRead_keeps {s₀ : State} (port : Nat) {s : State} (hk : Keeps s₀ s) {t₁ : State} (e₁ : execRecordFlushingRead port s = .next t₁) :
    Keeps s₀ t₁ := by
  unfold execRecordFlushingRead State.done at e₁
  cases e₁
  apply State.observe_keeps
  repeat' first
    | with_reducible assumption
    | with_reducible apply recordFlushingRead_keeps

theorem State.arith_keeps {s₀ : State} {s : State} (hk : Keeps s₀ s) (c : InFlight) (core flags : Nat) :
    Keeps s₀ (State.arith s c core flags) := by
  unfold State.arith
  repeat' first
    | with_reducible assumption
    | with_reducible apply State.setReg_keeps
    | with_reducible apply State.modCmd_keeps

theorem State.tick_keeps {s₀ : State} {s : State} (hk : Keeps s₀ s) (pg : Nat) (f : Fld) :
    Keeps s₀ (State.tick s pg f) := by
  unfold State.tick
  repeat' first
    | with_reducible assumption
    | with_reducible apply State.addFld_keeps
    | with_reducible apply State.draw_keeps

theorem State.stopBad_keeps {s₀ : State} {s : State} (hk : Keeps s₀ s) (c : InFlight) (key good : Nat) :
    Keeps s₀ (State.stopBad s c key good) := by
  unfold State.stopBad
  repeat' first
    | with_reducible assumption
    | with_reducible apply State.recordBad_keeps
    | with_reducible apply State.endCmd_keeps

theorem State.correctKeys_keeps {s₀ : State} {s : State} (hk : Keeps s₀ s) (c : InFlight) (core : Nat) (ks : List Nat) :
    Keeps s₀ (State.correctKeys s c core ks) := by
  unfold State.correctKeys
  repeat' first
    | with_reducible assumption
    | with_reducible apply State.recordError_keeps
    | lift_lets
    | (with_reducible apply Keeps.upd; first | with_reducible assumption | with_reducible refine Keeps.foldl ?_ _ _ (fun _ _ _ => ?_))

theorem State.correctSp_keeps {s₀ : State} {s : State} (hk : Keeps s₀ s) (c : InFlight) (core : Nat) (os : List Nat) :
    Keeps s₀ (State.correctSp s c core os) := by
  unfold State.correctSp
  repeat' first
    | with_reducible assumption
    | with_reducible apply State.correctKeys_keeps
    | with_reducible refine Keeps.ite (fun _ => ?_) (fun _ => ?_)

theorem State.viewPut_keeps {s₀ : State} {s : State} (hk : Keeps s₀ s) (core : Nat) (v : View) (i j code : Nat) :
    Keeps s₀ (State.viewPut s core v i j code) := by
  unfold State.viewPut
  repeat' first
    | with_reducible assumption
    | with_reducible apply State.wrs_keeps

theorem State.putPlain_keeps {s₀ : State} {s : State} (hk : Keeps s₀ s) (core : Nat) (v : View) (mode : Nat) (rand : Rand) (scale : Val) (idx : Nat → Nat → Nat) (cells : List (Nat × Nat × Val)) :
    Keeps s₀ (State.putPlain s core v mode rand scale idx cells).1 := by
  unfold State.putPlain
  repeat' first
    | with_reducible assumption
    | with_reducible apply State.viewPut_keeps
    | lift_lets
    | (intro y; clear_value y)
    | with_reducible refine Keeps.foldlP Prod.fst ?_ _ _ (fun _ _ _ => ?_)

theorem State.zeroAbsent_keeps {s₀ : State} {s : State} (hk : Keeps s₀ s) (core : Nat) (v : View) (axis : Nat) (b : Nat × Nat) :
    Keeps s₀ (State.zeroAbsent s core v axis b) := by
  unfold State.zeroAbsent
  repeat' first
    | with_reducible assumption
    | with_reducible apply State.viewPut_keeps
    | (with_reducible apply Keeps.upd; first | with_reducible refine Keeps.foldl ?_ _ _ (fun _ _ _ => ?_))

theorem State.putMx_keeps {s₀ : State} {s : State} (hk : Keeps s₀ s) (core : Nat) (v : View) (axis mode : Nat) (rand : Rand) (idx : Nat → Nat → Nat) (cells : List (Nat × Nat × Val)) :
    Keeps s₀ (State.putMx s core v axis mode rand idx cells).1 := by
  unfold State.putMx
  repeat' first
    | with_reducible assumption
    | with_reducible apply State.zeroAbsent_keeps
    | with_reducible apply State.viewPut_keeps
    | with_reducible apply State.wr_keeps
    | lift_lets
    | (with_reducible apply Keeps.upd; first | with_reducible refine Keeps.foldl ?_ _ _ (fun _ _ _ => ?_))
    | with_reducible refine Keeps.foldlP Prod.fst ?_ _ _ (fun _ _ _ => ?_)
    | split

theorem State.putCells_keeps {s₀ : State} {s : State} (hk : Keeps s₀ s) (core : Nat) (v : View) (dims : Nat × Nat) (mode : Nat) (rand : Rand) (scale : Val) (idx : Nat → Nat → Nat) (cells : List (Nat × Nat × Val)) :
    Keeps s₀ (State.putCells s core v dims mode rand scale idx cells).1 := by
  unfold State.putCells
  repeat' first
    | with_reducible assumption
    | with_reducible apply State.putPlain_keeps
    | with_reducible apply State.putMx_keeps
    | with_reducible refine Keeps.ite1 (fun _ => ?_) (fun _ => ?_)

theorem drainTile_keeps {s₀ : State} (core : Nat) (g : GemmDesc) (j : DrainJob) {x : DrainRun} (hk : Keeps s₀ x.s) (m0 n0 : Nat) :
    Keeps s₀ (drainTile core g j x m0 n0).s := by
  unfold drainTile
  repeat' first
    | with_reducible assumption
    | with_reducible apply State.wrs_keeps
    | lift_lets
    | (intro y; with_reducible refine Keeps.cut (x := y) ?_ (fun _ => ?_); rotate_left 1; clear_value y; rotate_left 1; unfold y)
    | (intro y; clear_value y)
    | with_reducible refine Keeps.ite (fun _ => ?_) (fun _ => ?_)
    | (with_reducible apply Keeps.upd; first | with_reducible refine Keeps.foldl ?_ _ _ (fun _ _ _ => ?_))
    | split

theorem State.loseAm_keeps {s₀ : State} {s : State} (hk : Keeps s₀ s) (core : Nat) (es : List Nat) :
    Keeps s₀ (State.loseAm s core es) := by
  unfold State.loseAm
  repeat' first
    | with_reducible assumption
    | with_reducible apply State.lose_keeps
    | (with_reducible apply Keeps.upd; first | with_reducible refine Keeps.foldl ?_ _ _ (fun _ _ _ => ?_))

theorem State.drainAll_keeps {s₀ : State} {s : State} (hk : Keeps s₀ s) (c : InFlight) (core : Nat) (g : GemmDesc) (scale : Val) (j : DrainJob) :
    Keeps s₀ (State.drainAll s c core g scale j) := by
  unfold State.drainAll
  repeat' first
    | with_reducible assumption
    | with_reducible apply State.putCells_keeps
    | with_reducible apply State.endCmd_keeps
    | with_reducible apply State.stopBad_keeps
    | with_reducible apply drainTile_keeps
    | with_reducible apply State.loseAm_keeps
    | with_reducible apply State.tick_keeps
    | with_reducible apply State.modCmd_keeps
    | with_reducible apply State.correctSp_keeps
    | with_reducible apply State.arith_keeps
    | lift_lets
    | (intro y; with_reducible refine Keeps.cut (x := y) ?_ (fun _ => ?_); rotate_left 1; clear_value y; rotate_left 1; unfold y)
    | (intro y; clear_value y)
    | with_reducible refine Keeps.ite (fun _ => ?_) (fun _ => ?_)
    | with_reducible refine Keeps.foldlP DrainRun.s ?_ _ _ (fun _ _ _ => ?_)
    | split

theorem gemmCmd_keeps {s₀ : State} {s : State} (hk : Keeps s₀ s) (r q : Nat) :
    Keeps s₀ (gemmCmd s r q) := by
  unfold gemmCmd
  repeat' first
    | with_reducible assumption
    | with_reducible apply State.stopBad_keeps
    | with_reducible apply State.stopCmd_keeps
    | with_reducible apply State.drainAll_keeps
    | with_reducible apply State.endCmd_keeps
    | with_reducible refine State.runCmd_keeps ?_ _ _ _ _ (fun _ _ _ => ?_)
    | lift_lets
    | (intro y; clear_value y)
    | split

theorem execGemm_keeps {s₀ : State} (ring seq : Nat) {s : State} (hk : Keeps s₀ s) {t₁ : State} (e₁ : execGemm ring seq s = .next t₁) :
    Keeps s₀ t₁ := by
  unfold execGemm State.done at e₁
  cases e₁
  apply State.observe_keeps
  repeat' first
    | with_reducible assumption
    | with_reducible apply gemmCmd_keeps

theorem State.modBrim_keeps {s₀ : State} {s : State} (hk : Keeps s₀ s) (f : Brim → Brim) :
    Keeps s₀ (State.modBrim s f) := by
  unfold State.modBrim
  repeat' first
    | (with_reducible apply Keeps.upd; first | with_reducible assumption)

theorem State.raiseMembers_keeps {s₀ : State} {s : State} (hk : Keeps s₀ s) (bit : Nat) :
    Keeps s₀ (State.raiseMembers s bit) := by
  unfold State.raiseMembers
  repeat' first
    | with_reducible assumption
    | with_reducible apply State.raise_keeps
    | with_reducible refine Keeps.ite (fun _ => ?_) (fun _ => ?_)
    | (with_reducible apply Keeps.upd; first | with_reducible refine Keeps.foldl ?_ _ _ (fun _ _ _ => ?_))

theorem State.setConn_keeps {s₀ : State} {s : State} (hk : Keeps s₀ s) (c : BrimConn) :
    Keeps s₀ (State.setConn s c) := by
  unfold State.setConn
  repeat' first
    | with_reducible assumption
    | with_reducible apply State.modBrim_keeps

theorem State.dropConns_keeps {s₀ : State} {s : State} (hk : Keeps s₀ s) (b : Nat) :
    Keeps s₀ (State.dropConns s b) := by
  unfold State.dropConns
  repeat' first
    | with_reducible assumption
    | with_reducible apply State.modBrim_keeps

theorem State.emitFrame_keeps {s₀ : State} {s : State} (hk : Keeps s₀ s) (b : Nat) (f : BrimFrame) :
    Keeps s₀ (State.emitFrame s b f) := by
  unfold State.emitFrame
  repeat' first
    | with_reducible assumption
    | with_reducible apply State.addFld_keeps
    | with_reducible apply Keeps.emit

theorem State.pump_keeps {s₀ s : State} (h : Keeps s₀ s) (c : BrimConn) (n : Nat) : Keeps s₀ (s.pump c n) := by
  induction n generalizing s c with
  | zero => exact State.setConn_keeps h ..
  | succ n ih =>
    unfold State.pump
    split
    · exact State.setConn_keeps h ..
    · refine Keeps.ite (fun _ => State.setConn_keeps h ..) (fun _ => ?_)
      exact ih (State.emitFrame_keeps h ..) _

theorem State.sendOn_keeps {s₀ : State} {s : State} (hk : Keeps s₀ s) (b : Nat) (f : BrimFrame) (owner : Option (Nat × Nat)) :
    Keeps s₀ (State.sendOn s b f owner) := by
  unfold State.sendOn
  repeat' first
    | with_reducible assumption
    | with_reducible apply State.pump_keeps

theorem State.sendTo_keeps {s₀ : State} {s : State} (hk : Keeps s₀ s) (mask : Nat) (f : BrimFrame) (owner : Option (Nat × Nat)) :
    Keeps s₀ (State.sendTo s mask f owner) := by
  unfold State.sendTo
  repeat' first
    | with_reducible assumption
    | with_reducible apply State.sendOn_keeps
    | lift_lets
    | (intro y; clear_value y)
    | split

theorem State.sendAck_keeps {s₀ : State} {s : State} (hk : Keeps s₀ s) (b n : Nat) :
    Keeps s₀ (State.sendAck s b n) := by
  unfold State.sendAck
  repeat' first
    | with_reducible assumption
    | with_reducible apply State.emitFrame_keeps
    | with_reducible apply State.setConn_keeps

theorem State.loseDev_keeps {s₀ : State} {s : State} (hk : Keeps s₀ s) (p a n : Nat) : Keeps s₀ (State.loseDev s p a n) := by
  unfold State.loseDev
  refine Keeps.foldl hk _ _ (fun t i ht => ?_)
  split
  · exact State.lose_keeps ht _ _
  · exact ht

theorem State.loseOutputs_keeps {s₀ : State} {s : State} (hk : Keeps s₀ s) (c : InFlight) : Keeps s₀ (State.loseOutputs s c) := by
  unfold State.loseOutputs
  repeat' first
    | with_reducible assumption
    | with_reducible apply State.loseDev_keeps
    | lift_lets
    | (intro y; with_reducible refine Keeps.cut (x := y) ?_ (fun _ => ?_); rotate_left 1; clear_value y; rotate_left 1; unfold y)
    | (intro y; clear_value y)
    | with_reducible refine Keeps.ite (fun _ => ?_) (fun _ => ?_)

theorem State.failWhere_keeps {s₀ : State} {s : State} (hk : Keeps s₀ s) (n : Nat) (job : Option Nat) :
    Keeps s₀ (State.failWhere s n job) := by
  unfold State.failWhere
  repeat' first
    | with_reducible assumption
    | with_reducible apply State.loseOutputs_keeps
    | with_reducible apply State.endCmd_keeps
    | with_reducible apply State.modBrim_keeps
    | with_reducible apply State.modCmd_keeps
    | lift_lets
    | (with_reducible apply Keeps.upd; first | with_reducible refine Keeps.foldl ?_ _ _ (fun _ _ _ => ?_))

theorem State.failNode_keeps {s₀ : State} {s : State} (hk : Keeps s₀ s) (n : Nat) :
    Keeps s₀ (State.failNode s n) := by
  unfold State.failNode
  repeat' first
    | with_reducible assumption
    | with_reducible apply State.failWhere_keeps

theorem State.failJob_keeps {s₀ : State} {s : State} (hk : Keeps s₀ s) (n job : Nat) :
    Keeps s₀ (State.failJob s n job) := by
  unfold State.failJob
  repeat' first
    | with_reducible assumption
    | with_reducible apply State.failWhere_keeps

theorem State.noticeReset_keeps {s₀ : State} {s : State} (hk : Keeps s₀ s) (p : Nat) :
    Keeps s₀ (State.noticeReset s p) := by
  unfold State.noticeReset
  repeat' first
    | with_reducible assumption
    | with_reducible apply State.sendTo_keeps
    | lift_lets
    | (intro y; clear_value y)
    | with_reducible refine Keeps.ite (fun _ => ?_) (fun _ => ?_)
    | (with_reducible apply Keeps.upd; first | with_reducible refine Keeps.foldl ?_ _ _ (fun _ _ _ => ?_))

theorem State.recordLost_keeps {s₀ : State} {s : State} (hk : Keeps s₀ s) (n : Nat) :
    Keeps s₀ (State.recordLost s n) := by
  unfold State.recordLost
  repeat' first
    | with_reducible assumption
    | with_reducible apply State.recordError_keeps

theorem State.loseNode_keeps {s₀ : State} {s : State} (hk : Keeps s₀ s) (n : Nat) :
    Keeps s₀ (State.loseNode s n) := by
  unfold State.loseNode
  repeat' first
    | with_reducible assumption
    | with_reducible apply State.sendTo_keeps
    | with_reducible apply State.raiseMembers_keeps
    | with_reducible apply State.setReg_keeps
    | with_reducible apply State.modBrim_keeps
    | with_reducible apply State.recordLost_keeps
    | with_reducible apply State.failNode_keeps
    | lift_lets
    | (intro y; with_reducible refine Keeps.cut (x := y) ?_ (fun _ => ?_); rotate_left 1; clear_value y; rotate_left 1; unfold y)
    | with_reducible refine Keeps.ite (fun _ => ?_) (fun _ => ?_)
    | (with_reducible apply Keeps.upd; first | with_reducible refine Keeps.foldl ?_ _ _ (fun _ _ _ => ?_))

theorem State.findLost_keeps {s₀ : State} {s : State} (hk : Keeps s₀ s) :
    Keeps s₀ (State.findLost s) := by
  unfold State.findLost
  repeat' first
    | with_reducible assumption
    | with_reducible apply State.loseNode_keeps
    | with_reducible refine Keeps.ite (fun _ => ?_) (fun _ => ?_)
    | (with_reducible apply Keeps.upd; first | with_reducible refine Keeps.foldl ?_ _ _ (fun _ _ _ => ?_))

theorem State.setPort_keeps {s₀ : State} {s : State} (hk : Keeps s₀ s) (b st : Nat) :
    Keeps s₀ (State.setPort s b st) := by
  unfold State.setPort
  repeat' first
    | with_reducible assumption
    | with_reducible apply State.modBrim_keeps
    | with_reducible apply State.setFld_keeps
    | with_reducible apply State.raise_keeps
    | with_reducible apply State.dropConns_keeps
    | lift_lets
    | (intro y; with_reducible refine Keeps.cut (x := y) ?_ (fun _ => ?_); rotate_left 1; clear_value y; rotate_left 1; unfold y)
    | (intro y; clear_value y)
    | with_reducible refine Keeps.ite (fun _ => ?_) (fun _ => ?_)

theorem brimLinkUp_keeps {s₀ : State} {s : State} (hk : Keeps s₀ s) (b : Nat) :
    Keeps s₀ (brimLinkUp s b) := by
  unfold brimLinkUp
  repeat' first
    | with_reducible assumption
    | with_reducible apply State.draw_keeps
    | lift_lets
    | (intro y; clear_value y)
    | with_reducible apply State.setFld_keeps
    | with_reducible apply State.setPort_keeps
    | with_reducible refine Keeps.ite (fun _ => ?_) (fun _ => ?_)

theorem brimLinkLoss_keeps {s₀ : State} {s : State} (hk : Keeps s₀ s) (b : Nat) :
    Keeps s₀ (brimLinkLoss s b) := by
  unfold brimLinkLoss
  repeat' first
    | with_reducible assumption
    | with_reducible apply State.findLost_keeps
    | with_reducible apply State.setFld_keeps
    | with_reducible apply State.setPort_keeps
    | with_reducible refine Keeps.ite (fun _ => ?_) (fun _ => ?_)

theorem brimDrainDone_keeps {s₀ : State} {s : State} (hk : Keeps s₀ s) (b : Nat) :
    Keeps s₀ (brimDrainDone s b) := by
  unfold brimDrainDone
  repeat' first
    | with_reducible assumption
    | with_reducible apply State.setPort_keeps
    | with_reducible refine Keeps.ite (fun _ => ?_) (fun _ => ?_)

theorem State.admitPorts_keeps {s₀ : State} {s : State} (hk : Keeps s₀ s) :
    Keeps s₀ (State.admitPorts s) := by
  unfold State.admitPorts
  repeat' first
    | with_reducible assumption
    | with_reducible apply State.setPort_keeps
    | lift_lets
    | (intro y; clear_value y)
    | with_reducible refine Keeps.ite (fun _ => ?_) (fun _ => ?_)
    | (with_reducible apply Keeps.upd; first | with_reducible refine Keeps.foldl ?_ _ _ (fun _ _ _ => ?_))

theorem State.discover_keeps {s₀ : State} {s : State} (hk : Keeps s₀ s) (b : Nat) (du : Lldpdu) :
    Keeps s₀ (State.discover s b du) := by
  unfold State.discover
  repeat' first
    | with_reducible assumption
    | with_reducible apply State.modBrim_keeps
    | with_reducible apply State.setFld_keeps
    | with_reducible apply State.setPort_keeps
    | with_reducible apply State.raise_keeps
    | lift_lets
    | (intro y; with_reducible refine Keeps.cut (x := y) ?_ (fun _ => ?_); rotate_left 1; clear_value y; rotate_left 1; unfold y)
    | (intro y; clear_value y)
    | with_reducible refine Keeps.ite (fun _ => ?_) (fun _ => ?_)
    | split

theorem lldpduRx_keeps {s₀ : State} {s : State} (hk : Keeps s₀ s) (b : Nat) (du : Lldpdu) :
    Keeps s₀ (lldpduRx s b du) := by
  unfold lldpduRx
  repeat' first
    | with_reducible assumption
    | with_reducible apply State.modBrim_keeps
    | with_reducible apply State.discover_keeps
    | with_reducible apply State.admitPorts_keeps
    | lift_lets
    | (intro y; with_reducible refine Keeps.cut (x := y) ?_ (fun _ => ?_); rotate_left 1; clear_value y; rotate_left 1; unfold y)
    | with_reducible refine Keeps.ite (fun _ => ?_) (fun _ => ?_)

theorem udpDiscoveryTimeout_keeps {s₀ : State} {s : State} (hk : Keeps s₀ s) (b : Nat) :
    Keeps s₀ (udpDiscoveryTimeout s b) := by
  unfold udpDiscoveryTimeout
  repeat' first
    | with_reducible assumption
    | with_reducible apply State.setPort_keeps
    | with_reducible apply State.admitPorts_keeps
    | with_reducible refine Keeps.ite (fun _ => ?_) (fun _ => ?_)

theorem lldpTtlExpiry_keeps {s₀ : State} {s : State} (hk : Keeps s₀ s) (b : Nat) :
    Keeps s₀ (lldpTtlExpiry s b) := by
  unfold lldpTtlExpiry
  repeat' first
    | with_reducible assumption
    | with_reducible apply State.modBrim_keeps

theorem lldpTx_keeps {s₀ : State} {s : State} (hk : Keeps s₀ s) (b : Nat) :
    Keeps s₀ (lldpTx s b) := by
  unfold lldpTx
  repeat' first
    | with_reducible assumption
    | with_reducible apply State.draw_keeps
    | lift_lets
    | (intro y; clear_value y)
    | with_reducible refine Keeps.ite (fun _ => ?_) (fun _ => ?_)
    | with_reducible apply Keeps.emit

theorem State.announced_keeps {s₀ : State} {s : State} (hk : Keeps s₀ s) (code : Code) :
    Keeps s₀ (State.announced s code) := by
  unfold State.announced
  repeat' first
    | with_reducible assumption
    | with_reducible apply State.setFld_keeps

theorem State.makePending_keeps {s₀ : State} {s : State} (hk : Keeps s₀ s) (k e bm : Nat) :
    Keeps s₀ (State.makePending s k e bm) := by
  unfold State.makePending
  repeat' first
    | with_reducible assumption
    | with_reducible apply State.announced_keeps
    | with_reducible apply State.modBrim_keeps
    | with_reducible apply State.setFld_keeps
    | with_reducible apply State.admitPorts_keeps

theorem State.sendAnnounce_keeps {s₀ : State} {s : State} (hk : Keeps s₀ s) (n k e bm : Nat) :
    Keeps s₀ (State.sendAnnounce s n k e bm) := by
  unfold State.sendAnnounce
  repeat' first
    | with_reducible assumption
    | with_reducible apply State.sendTo_keeps
    | with_reducible apply State.emitFrame_keeps
    | lift_lets
    | (intro y; clear_value y)
    | with_reducible refine Keeps.ite (fun _ => ?_) (fun _ => ?_)
    | split

theorem announce_keeps {s₀ : State} {s : State} (hk : Keeps s₀ s) (who : Requester) (edie : Nat) :
    Keeps s₀ (announce s who edie) := by
  unfold announce
  repeat' first
    | with_reducible assumption
    | with_reducible apply State.announced_keeps
    | with_reducible apply State.refuseF_keeps
    | with_reducible apply State.makePending_keeps
    | with_reducible apply State.sendAnnounce_keeps
    | with_reducible refine State.letIn_keeps ?_ _ _ _ (fun _ _ => ?_)
    | lift_lets
    | (intro y; clear_value y)
    | with_reducible refine Keeps.ite (fun _ => ?_) (fun _ => ?_)
    | (with_reducible apply Keeps.upd; first | with_reducible refine Keeps.foldl ?_ _ _ (fun _ _ _ => ?_))

theorem State.takeAnnounce_keeps {s₀ : State} {s : State} (hk : Keeps s₀ s) (k e bm : Nat) :
    Keeps s₀ (State.takeAnnounce s k e bm) := by
  unfold State.takeAnnounce
  repeat' first
    | with_reducible assumption
    | with_reducible apply State.raiseMembers_keeps
    | with_reducible apply State.announced_keeps
    | with_reducible apply State.makePending_keeps
    | lift_lets
    | (intro y; with_reducible refine Keeps.cut (x := y) ?_ (fun _ => ?_); rotate_left 1; clear_value y; rotate_left 1; unfold y)
    | (intro y; clear_value y)
    | with_reducible refine Keeps.ite (fun _ => ?_) (fun _ => ?_)

theorem State.dropFrame_keeps {s₀ : State} {s : State} (hk : Keeps s₀ s) (b : Nat) :
    Keeps s₀ (State.dropFrame s b) := by
  unfold State.dropFrame
  repeat' first
    | with_reducible assumption
    | with_reducible apply State.addFld_keeps

theorem State.forward_keeps {s₀ : State} {s : State} (hk : Keeps s₀ s) (b : Nat) (f : BrimFrame) :
    Keeps s₀ (State.forward s b f) := by
  unfold State.forward
  repeat' first
    | with_reducible assumption
    | with_reducible apply State.dropFrame_keeps
    | with_reducible apply State.emitFrame_keeps
    | lift_lets
    | (intro y; clear_value y)
    | with_reducible refine Keeps.ite (fun _ => ?_) (fun _ => ?_)
    | split

theorem State.acked_keeps {s₀ s : State} (h : Keeps s₀ s) (o : Option (Nat × Nat)) : Keeps s₀ (s.acked o) := by
  unfold State.acked
  split
  · exact h
  · exact State.modCmd_keeps h ..

theorem State.takeAck_keeps {s₀ s : State} (hk : Keeps s₀ s) (b : Nat) (f : BrimFrame) : Keeps s₀ (s.takeAck b f) := by
  unfold State.takeAck
  extract_lets c base d d' c' s1
  have h1 : Keeps s₀ s1 := State.pump_keeps hk ..
  exact h1.foldl _ _ (fun _ _ ht => State.acked_keeps ht ..)

theorem State.sendNak_keeps {s₀ : State} {s : State} (hk : Keeps s₀ s) (b : Nat) (f : BrimFrame) (code : Code) :
    Keeps s₀ (State.sendNak s b f code) := by
  unfold State.sendNak
  repeat' first
    | with_reducible assumption
    | with_reducible apply State.sendOn_keeps

theorem State.applyPut_keeps {s₀ : State} {s : State} (hk : Keeps s₀ s) (job a : Nat) (data : List Byte) :
    Keeps s₀ (State.applyPut s job a data).1 := by
  unfold State.applyPut
  repeat' first
    | with_reducible assumption
    | with_reducible apply State.observe_keeps
    | with_reducible apply State.wrDev_keeps
    | split

theorem State.applyRemote_keeps {s₀ : State} {s : State} (hk : Keeps s₀ s) (job a op v : Nat) :
    Keeps s₀ (State.applyRemote s job a op v).1 := by
  unfold State.applyRemote
  repeat' first
    | with_reducible assumption
    | with_reducible apply State.recordBad_keeps
    | with_reducible refine Keeps.ite1 (fun _ => ?_) (fun _ => ?_)
    | split
    | (refine State.applySignal_keeps ?_ (e := by assumption))

theorem State.takeNak_keeps {s₀ : State} {s : State} (hk : Keeps s₀ s) (b : Nat) (f : BrimFrame) (code seq : Nat) :
    Keeps s₀ (State.takeNak s b f code seq) := by
  unfold State.takeNak
  repeat' first
    | with_reducible assumption
    | with_reducible apply State.modCmd_keeps
    | split

theorem State.takeFrame_keeps {s₀ s : State} (h : Keeps s₀ s) (b : Nat) (f : BrimFrame) (apply : State → Nat → BrimFrame → State)
    (happly : ∀ t a0 a1, Keeps s₀ t → Keeps s₀ (apply t a0 a1)) : Keeps s₀ (s.takeFrame b f apply) := by
  unfold State.takeFrame
  extract_lets owed
  have ho : ∀ {t : State}, Keeps s₀ t → Keeps s₀ (owed t) := fun ht => State.setConn_keeps ht _
  refine Keeps.ite (fun _ => State.modBrim_keeps h _) (fun _ => Keeps.ite (fun _ => ho (State.dropFrame_keeps h _)) (fun _ => ?_))
  split
  · exact State.modBrim_keeps (State.autoWake_keeps h _) _
  · exact happly _ _ _ (ho h)

theorem State.rxFrame_keeps {s₀ : State} {s : State} (hk : Keeps s₀ s) (b : Nat) (f : BrimFrame) (apply : State → Nat → BrimFrame → State) (happly : ∀ t a0 a1, Keeps s₀ t → Keeps s₀ (apply t a0 a1)) :
    Keeps s₀ (State.rxFrame s b f apply) := by
  unfold State.rxFrame
  repeat' first
    | with_reducible assumption
    | with_reducible apply happly
    | with_reducible apply State.takeAck_keeps
    | with_reducible apply State.setConn_keeps
    | with_reducible refine State.takeFrame_keeps ?_ _ _ _ (fun _ _ _ _ => ?_)
    | with_reducible apply State.dropFrame_keeps
    | with_reducible apply State.sendAck_keeps
    | with_reducible apply State.addFld_keeps
    | with_reducible apply State.forward_keeps
    | with_reducible apply State.takeNak_keeps
    | lift_lets
    | (intro y; with_reducible refine Keeps.cut (x := y) ?_ (fun _ => ?_); rotate_left 1; clear_value y; rotate_left 1; unfold y)
    | (intro y; clear_value y)
    | with_reducible refine Keeps.ite (fun _ => ?_) (fun _ => ?_)
    | split

theorem rtoExpiry_keeps {s₀ : State} {s : State} (hk : Keeps s₀ s) (b n : Nat) :
    Keeps s₀ (rtoExpiry s b n) := by
  unfold rtoExpiry
  repeat' first
    | with_reducible assumption
    | with_reducible apply State.findLost_keeps
    | with_reducible apply State.setConn_keeps
    | with_reducible apply State.addFld_keeps
    | with_reducible apply State.emitFrame_keeps
    | lift_lets
    | (intro y; with_reducible refine Keeps.cut (x := y) ?_ (fun _ => ?_); rotate_left 1; clear_value y; rotate_left 1; unfold y)
    | (intro y; clear_value y)
    | with_reducible refine Keeps.ite (fun _ => ?_) (fun _ => ?_)
    | (with_reducible apply Keeps.upd; first | with_reducible refine Keeps.foldl ?_ _ _ (fun _ _ _ => ?_))

theorem execBrimLinkUp_keeps {s₀ : State} (port : Nat) {s : State} (hk : Keeps s₀ s) {t₁ : State} (e₁ : execBrimLinkUp port s = .next t₁) :
    Keeps s₀ t₁ := by
  unfold execBrimLinkUp State.done at e₁
  cases e₁
  apply State.observe_keeps
  repeat' first
    | with_reducible assumption
    | with_reducible apply brimLinkUp_keeps

theorem execBrimLinkLoss_keeps {s₀ : State} (port : Nat) {s : State} (hk : Keeps s₀ s) {t₁ : State} (e₁ : execBrimLinkLoss port s = .next t₁) :
    Keeps s₀ t₁ := by
  unfold execBrimLinkLoss State.done at e₁
  cases e₁
  apply State.observe_keeps
  repeat' first
    | with_reducible assumption
    | with_reducible apply brimLinkLoss_keeps

theorem execLldpTx_keeps {s₀ : State} (port : Nat) {s : State} (hk : Keeps s₀ s) {t₁ : State} (e₁ : execLldpTx port s = .next t₁) :
    Keeps s₀ t₁ := by
  unfold execLldpTx State.done at e₁
  cases e₁
  apply State.observe_keeps
  repeat' first
    | with_reducible assumption
    | with_reducible apply lldpTx_keeps

theorem execLldpduRx_keeps {s₀ : State} (port : Nat) (du : Lldpdu) {s : State} (hk : Keeps s₀ s) {t₁ : State} (e₁ : execLldpduRx port du s = .next t₁) :
    Keeps s₀ t₁ := by
  unfold execLldpduRx State.done at e₁
  cases e₁
  apply State.observe_keeps
  repeat' first
    | with_reducible assumption
    | with_reducible apply lldpduRx_keeps

theorem execUdpDiscoveryTimeout_keeps {s₀ : State} (port : Nat) {s : State} (hk : Keeps s₀ s) {t₁ : State} (e₁ : execUdpDiscoveryTimeout port s = .next t₁) :
    Keeps s₀ t₁ := by
  unfold execUdpDiscoveryTimeout State.done at e₁
  cases e₁
  apply State.observe_keeps
  repeat' first
    | with_reducible assumption
    | with_reducible apply udpDiscoveryTimeout_keeps

theorem execBrimDrainDone_keeps {s₀ : State} (port : Nat) {s : State} (hk : Keeps s₀ s) {t₁ : State} (e₁ : execBrimDrainDone port s = .next t₁) :
    Keeps s₀ t₁ := by
  unfold execBrimDrainDone State.done at e₁
  cases e₁
  apply State.observe_keeps
  repeat' first
    | with_reducible assumption
    | with_reducible apply brimDrainDone_keeps

theorem execAnnounce_keeps {s₀ : State} (who : Requester) (edie : Nat) {s : State} (hk : Keeps s₀ s) {t₁ : State} (e₁ : execAnnounce who edie s = .next t₁) :
    Keeps s₀ t₁ := by
  unfold execAnnounce State.done at e₁
  cases e₁
  apply State.observe_keeps
  repeat' first
    | with_reducible assumption
    | with_reducible apply announce_keeps

theorem execRtoExpiry_keeps {s₀ : State} (port node : Nat) {s : State} (hk : Keeps s₀ s) {t₁ : State} (e₁ : execRtoExpiry port node s = .next t₁) :
    Keeps s₀ t₁ := by
  unfold execRtoExpiry State.done at e₁
  cases e₁
  apply State.observe_keeps
  repeat' first
    | with_reducible assumption
    | with_reducible apply rtoExpiry_keeps

theorem execLldpTtlExpiry_keeps {s₀ : State} (port : Nat) {s : State} (hk : Keeps s₀ s) {t₁ : State} (e₁ : execLldpTtlExpiry port s = .next t₁) :
    Keeps s₀ t₁ := by
  unfold execLldpTtlExpiry State.done at e₁
  cases e₁
  apply State.observe_keeps
  repeat' first
    | with_reducible assumption
    | with_reducible apply lldpTtlExpiry_keeps

theorem State.releaseBarrier_keeps {s₀ : State} {s : State} (hk : Keeps s₀ s) (c : InFlight) (a : Nat) :
    Keeps s₀ (State.releaseBarrier s c a) := by
  unfold State.releaseBarrier
  repeat' first
    | with_reducible assumption
    | with_reducible apply State.endCmd_keeps
    | with_reducible apply State.setFld_keeps
    | with_reducible apply State.addFld_keeps
    | with_reducible apply State.modCtx_keeps
    | with_reducible apply State.raise_keeps
    | lift_lets
    | (intro y; with_reducible refine Keeps.cut (x := y) ?_ (fun _ => ?_); rotate_left 1; clear_value y; rotate_left 1; unfold y)
    | with_reducible refine Keeps.ite (fun _ => ?_) (fun _ => ?_)

theorem State.pounceEnd_keeps {s₀ : State} {s : State} (hk : Keeps s₀ s) (c : InFlight) (vals : List Nat) :
    Keeps s₀ (State.pounceEnd s c vals) := by
  unfold State.pounceEnd
  repeat' first
    | with_reducible assumption
    | with_reducible apply State.endCmd_keeps
    | with_reducible apply State.wrDev_keeps
    | with_reducible apply State.observe_keeps

theorem State.localResult_keeps {s₀ : State} {s : State} (hk : Keeps s₀ s) (key : List Nat) (r q code : Nat) (vals : List Nat) :
    Keeps s₀ (State.localResult s key r q code vals) := by
  unfold State.localResult
  repeat' first
    | with_reducible assumption
    | with_reducible apply State.lateAt_keeps
    | with_reducible apply State.endCmd_keeps
    | with_reducible apply State.modBrim_keeps
    | with_reducible apply State.releaseBarrier_keeps
    | with_reducible apply State.modCmd_keeps
    | with_reducible apply State.pounceEnd_keeps
    | lift_lets
    | (intro y; with_reducible refine Keeps.cut (x := y) ?_ (fun _ => ?_); rotate_left 1; clear_value y; rotate_left 1; unfold y)
    | with_reducible refine Keeps.ite (fun _ => ?_) (fun _ => ?_)
    | split

theorem State.deliver_keeps {s₀ : State} {s : State} (hk : Keeps s₀ s) (g : Group) (code : Nat) (vals : List Nat) (t : Contribution) :
    Keeps s₀ (State.deliver s g code vals t) := by
  unfold State.deliver
  repeat' first
    | with_reducible assumption
    | with_reducible apply State.sendTo_keeps
    | with_reducible apply State.localResult_keeps
    | split

theorem State.pruneGroups_keeps {s₀ : State} {s : State} (hk : Keeps s₀ s) :
    Keeps s₀ (State.pruneGroups s) := by
  unfold State.pruneGroups
  repeat' first
    | with_reducible assumption
    | with_reducible apply State.modBrim_keeps

theorem State.setGroup_keeps {s₀ : State} {s : State} (hk : Keeps s₀ s) (g : Group) :
    Keeps s₀ (State.setGroup s g) := by
  unfold State.setGroup
  repeat' first
    | with_reducible assumption
    | with_reducible apply State.modBrim_keeps

theorem State.tryClose_keeps {s₀ : State} {s : State} (hk : Keeps s₀ s) (g : Group) :
    Keeps s₀ (State.tryClose s g) := by
  unfold State.tryClose
  repeat' first
    | with_reducible assumption
    | with_reducible apply State.sendTo_keeps
    | with_reducible apply State.deliver_keeps
    | with_reducible apply State.setGroup_keeps
    | lift_lets
    | (intro y; with_reducible refine Keeps.cut (x := y) ?_ (fun _ => ?_); rotate_left 1; clear_value y; rotate_left 1; unfold y)
    | (intro y; clear_value y)
    | with_reducible refine Keeps.ite (fun _ => ?_) (fun _ => ?_)
    | (with_reducible apply Keeps.upd; first | with_reducible refine Keeps.foldl ?_ _ _ (fun _ _ _ => ?_))
    | split

theorem State.groupAdd_keeps {s₀ : State} {s : State} (hk : Keeps s₀ s) (key params : List Nat) (t : Contribution) :
    Keeps s₀ (State.groupAdd s key params t) := by
  unfold State.groupAdd
  repeat' first
    | with_reducible assumption
    | with_reducible apply State.deliver_keeps
    | with_reducible apply State.modBrim_keeps
    | with_reducible apply State.pruneGroups_keeps
    | with_reducible apply State.tryClose_keeps
    | lift_lets
    | (intro y; with_reducible refine Keeps.cut (x := y) ?_ (fun _ => ?_); rotate_left 1; clear_value y; rotate_left 1; unfold y)
    | with_reducible refine Keeps.ite (fun _ => ?_) (fun _ => ?_)
    | (with_reducible apply Keeps.upd; first | with_reducible refine Keeps.foldl ?_ _ _ (fun _ _ _ => ?_))
    | split

theorem State.joinGroup_keeps {s₀ : State} {s : State} (hk : Keeps s₀ s) (root : Nat) (key params vals : List Nat) (c : InFlight) :
    Keeps s₀ (State.joinGroup s root key params vals c) := by
  unfold State.joinGroup
  repeat' first
    | with_reducible assumption
    | with_reducible apply State.sendTo_keeps
    | with_reducible apply State.groupAdd_keeps
    | with_reducible apply State.modBrim_keeps
    | lift_lets
    | (intro y; with_reducible refine Keeps.cut (x := y) ?_ (fun _ => ?_); rotate_left 1; clear_value y; rotate_left 1; unfold y)
    | with_reducible refine Keeps.ite (fun _ => ?_) (fun _ => ?_)

theorem State.takeVote_keeps {s₀ : State} {s : State} (hk : Keeps s₀ s) (src : Nat) (key params vals : List Nat) (count : Nat) (up : Bool) (code : Nat) :
    Keeps s₀ (State.takeVote s src key params vals count up code) := by
  unfold State.takeVote
  repeat' first
    | with_reducible assumption
    | with_reducible apply State.deliver_keeps
    | with_reducible apply State.groupAdd_keeps
    | with_reducible apply State.modBrim_keeps
    | with_reducible apply State.localResult_keeps
    | with_reducible refine Keeps.ite (fun _ => ?_) (fun _ => ?_)
    | (with_reducible apply Keeps.upd; first | with_reducible refine Keeps.foldl ?_ _ _ (fun _ _ _ => ?_))
    | split

theorem syncBarrierPropose_keeps {s₀ : State} {s : State} (hk : Keeps s₀ s) (r q : Nat) (nodes : List Nat) :
    Keeps s₀ (syncBarrierPropose s r q nodes) := by
  unfold syncBarrierPropose
  repeat' first
    | with_reducible assumption
    | with_reducible apply State.started_keeps
    | with_reducible apply State.joinGroup_keeps
    | with_reducible apply State.modCmd_keeps
    | with_reducible apply State.observe_keeps
    | lift_lets
    | (intro y; with_reducible refine Keeps.cut (x := y) ?_ (fun _ => ?_); rotate_left 1; clear_value y; rotate_left 1; unfold y)
    | (intro y; clear_value y)
    | with_reducible refine Keeps.ite (fun _ => ?_) (fun _ => ?_)
    | split

theorem State.pounceStart_keeps {s₀ : State} {s : State} (hk : Keeps s₀ s) (c : InFlight) :
    Keeps s₀ (State.pounceStart s c) := by
  unfold State.pounceStart
  repeat' first
    | with_reducible assumption
    | with_reducible apply State.stopCmd_keeps
    | with_reducible apply State.pruneGroups_keeps
    | with_reducible apply State.joinGroup_keeps
    | with_reducible apply State.modCmd_keeps
    | with_reducible apply State.pounceEnd_keeps
    | lift_lets
    | (intro y; with_reducible refine Keeps.cut (x := y) ?_ (fun _ => ?_); rotate_left 1; clear_value y; rotate_left 1; unfold y)
    | (intro y; clear_value y)
    | with_reducible refine Keeps.ite (fun _ => ?_) (fun _ => ?_)
    | split

theorem pounceCmd_keeps {s₀ : State} {s : State} (hk : Keeps s₀ s) (r q : Nat) :
    Keeps s₀ (pounceCmd s r q) := by
  unfold pounceCmd
  repeat' first
    | with_reducible assumption
    | with_reducible refine State.contCmd_keeps ?_ _ _ _ _ _ (fun _ _ _ => ?_) (fun _ _ _ => ?_)
    | with_reducible apply State.pounceStart_keeps

theorem execPounce_keeps {s₀ : State} (ring seq : Nat) {s : State} (hk : Keeps s₀ s) {t₁ : State} (e₁ : execPounce ring seq s = .next t₁) :
    Keeps s₀ t₁ := by
  unfold execPounce State.done at e₁
  cases e₁
  apply State.observe_keeps
  repeat' first
    | with_reducible assumption
    | with_reducible apply pounceCmd_keeps

theorem execSyncBarrierPropose_keeps {s₀ : State} (ring seq : Nat) (nodes : List Nat) {s : State} (hk : Keeps s₀ s) {t₁ : State} (e₁ : execSyncBarrierPropose ring seq nodes s = .next t₁) :
    Keeps s₀ t₁ := by
  unfold execSyncBarrierPropose State.done at e₁
  cases e₁
  apply State.observe_keeps
  repeat' first
    | with_reducible assumption
    | with_reducible apply syncBarrierPropose_keeps

theorem State.setColl_keeps {s₀ : State} {s : State} (hk : Keeps s₀ s) (k : Coll) :
    Keeps s₀ (State.setColl s k) := by
  unfold State.setColl
  repeat' first
    | with_reducible assumption
    | with_reducible apply State.modBrim_keeps

theorem State.spoilColl_keeps {s₀ : State} {s : State} (hk : Keeps s₀ s) (k : Coll) :
    Keeps s₀ (State.spoilColl s k) := by
  unfold State.spoilColl
  repeat' first
    | with_reducible assumption
    | with_reducible apply State.setColl_keeps
    | with_reducible apply State.endCmd_keeps
    | split

theorem State.dropColl_keeps {s₀ : State} {s : State} (hk : Keeps s₀ s) (k : Coll) :
    Keeps s₀ (State.dropColl s k) := by
  unfold State.dropColl
  repeat' first
    | with_reducible assumption
    | with_reducible apply State.modBrim_keeps

theorem State.collMismatch_keeps {s₀ : State} {s : State} (hk : Keeps s₀ s) (k : Coll) (nodes : List Nat) :
    Keeps s₀ (State.collMismatch s k nodes) := by
  unfold State.collMismatch
  repeat' first
    | with_reducible assumption
    | with_reducible apply State.sendTo_keeps
    | with_reducible apply State.spoilColl_keeps
    | (with_reducible apply Keeps.upd; first | with_reducible refine Keeps.foldl ?_ _ _ (fun _ _ _ => ?_))

theorem State.collTry_keeps {s₀ : State} {s : State} (hk : Keeps s₀ s) (k : Coll) :
    Keeps s₀ (State.collTry s k) := by
  unfold State.collTry
  repeat' first
    | with_reducible assumption
    | with_reducible apply State.dropColl_keeps
    | with_reducible apply State.endCmd_keeps
    | with_reducible apply State.wrDev_keeps
    | with_reducible apply State.modCmd_keeps
    | with_reducible apply State.observe_keeps
    | lift_lets
    | (intro y; with_reducible refine Keeps.cut (x := y.1) ?_ (fun _ => ?_); rotate_left 1; clear_value y; rotate_left 1; unfold y)
    | (intro y; clear_value y)
    | with_reducible refine Keeps.ite (fun _ => ?_) (fun _ => ?_)
    | with_reducible refine Keeps.ite1 (fun _ => ?_) (fun _ => ?_)
    | split

theorem State.sendPart_keeps {s₀ : State} {s : State} (hk : Keeps s₀ s) (c : InFlight) (d : CollDesc) (digest : List Nat) (me nf node : Nat) (bytes : List Byte) :
    Keeps s₀ (State.sendPart s c d digest me nf node bytes) := by
  unfold State.sendPart
  repeat' first
    | with_reducible assumption
    | with_reducible apply State.sendTo_keeps
    | lift_lets
    | (with_reducible apply Keeps.upd; first | with_reducible refine Keeps.foldl ?_ _ _ (fun _ _ _ => ?_))

theorem State.collJoin_keeps {s₀ : State} {s : State} (hk : Keeps s₀ s) (c : InFlight) (d : CollDesc) (digest : List Nat) (own : CollPart) :
    Keeps s₀ (State.collJoin s c d digest own).1 := by
  unfold State.collJoin
  repeat' first
    | with_reducible assumption
    | with_reducible apply State.setColl_keeps

theorem State.collStart_keeps {s₀ : State} {s : State} (hk : Keeps s₀ s) (c : InFlight) :
    Keeps s₀ (State.collStart s c) := by
  unfold State.collStart
  repeat' first
    | with_reducible assumption
    | with_reducible apply State.stopCmd_keeps
    | with_reducible apply State.loseNode_keeps
    | with_reducible apply State.collMismatch_keeps
    | with_reducible apply State.endCmd_keeps
    | with_reducible apply State.sendPart_keeps
    | with_reducible apply State.collJoin_keeps
    | with_reducible apply State.collTry_keeps
    | lift_lets
    | (intro y; with_reducible refine Keeps.cut (x := y) ?_ (fun _ => ?_); rotate_left 1; clear_value y; rotate_left 1; unfold y)
    | (intro y; clear_value y)
    | with_reducible refine Keeps.ite (fun _ => ?_) (fun _ => ?_)
    | (with_reducible apply Keeps.upd; first | with_reducible refine Keeps.foldl ?_ _ _ (fun _ _ _ => ?_))
    | split

theorem collCmd_keeps {s₀ : State} (op : Nat) {s : State} (hk : Keeps s₀ s) (r q : Nat) :
    Keeps s₀ (collCmd op s r q) := by
  unfold collCmd
  repeat' first
    | with_reducible assumption
    | with_reducible refine State.contCmd_keeps ?_ _ _ _ _ _ (fun _ _ _ => ?_) (fun _ _ _ => ?_)
    | with_reducible apply State.collStart_keeps

theorem State.putStart_keeps {s₀ : State} {s : State} (hk : Keeps s₀ s) (c : InFlight) :
    Keeps s₀ (State.putStart s c) := by
  unfold State.putStart
  repeat' first
    | with_reducible assumption
    | with_reducible apply State.sendTo_keeps
    | with_reducible apply State.stopCmd_keeps
    | with_reducible apply State.loseNode_keeps
    | with_reducible apply State.endCmd_keeps
    | with_reducible apply State.applyPut_keeps
    | with_reducible apply State.modCmd_keeps
    | lift_lets
    | (intro y; with_reducible refine Keeps.cut (x := y) ?_ (fun _ => ?_); rotate_left 1; clear_value y; rotate_left 1; unfold y)
    | (intro y; with_reducible refine Keeps.cut (x := y.1) ?_ (fun _ => ?_); rotate_left 1; clear_value y; rotate_left 1; unfold y)
    | (intro y; clear_value y)
    | with_reducible refine Keeps.ite (fun _ => ?_) (fun _ => ?_)
    | (with_reducible apply Keeps.upd; first | with_reducible refine Keeps.foldl ?_ _ _ (fun _ _ _ => ?_))
    | split

theorem State.putNext_keeps {s₀ : State} {s : State} (hk : Keeps s₀ s) (c : InFlight) :
    Keeps s₀ (State.putNext s c) := by
  unfold State.putNext
  repeat' first
    | with_reducible assumption
    | with_reducible apply State.endCmd_keeps
    | with_reducible refine Keeps.ite (fun _ => ?_) (fun _ => ?_)

theorem putCmd_keeps {s₀ : State} {s : State} (hk : Keeps s₀ s) (r q : Nat) :
    Keeps s₀ (putCmd s r q) := by
  unfold putCmd
  repeat' first
    | with_reducible assumption
    | with_reducible apply State.putNext_keeps
    | with_reducible refine State.contCmd_keeps ?_ _ _ _ _ _ (fun _ _ _ => ?_) (fun _ _ _ => ?_)
    | with_reducible apply State.putStart_keeps

theorem State.voteStart_keeps {s₀ : State} {s : State} (hk : Keeps s₀ s) (c : InFlight) :
    Keeps s₀ (State.voteStart s c) := by
  unfold State.voteStart
  repeat' first
    | with_reducible assumption
    | with_reducible apply State.stopCmd_keeps
    | with_reducible apply State.loseNode_keeps
    | with_reducible apply State.endCmd_keeps
    | with_reducible apply State.joinGroup_keeps
    | with_reducible apply State.modCmd_keeps
    | lift_lets
    | (intro y; with_reducible refine Keeps.cut (x := y) ?_ (fun _ => ?_); rotate_left 1; clear_value y; rotate_left 1; unfold y)
    | (intro y; clear_value y)
    | with_reducible refine Keeps.ite (fun _ => ?_) (fun _ => ?_)
    | (with_reducible apply Keeps.upd; first | with_reducible refine Keeps.foldl ?_ _ _ (fun _ _ _ => ?_))
    | split

theorem State.voteNext_keeps {s₀ : State} {s : State} (hk : Keeps s₀ s) (c : InFlight) :
    Keeps s₀ (State.voteNext s c) := by
  unfold State.voteNext
  repeat' first
    | with_reducible assumption
    | with_reducible apply State.endCmd_keeps
    | with_reducible apply State.wrDev_keeps
    | with_reducible apply State.observe_keeps
    | lift_lets
    | split
    | dsimp only

theorem voteCmd_keeps {s₀ : State} {s : State} (hk : Keeps s₀ s) (r q : Nat) :
    Keeps s₀ (voteCmd s r q) := by
  unfold voteCmd
  repeat' first
    | with_reducible assumption
    | with_reducible apply State.voteNext_keeps
    | with_reducible refine State.contCmd_keeps ?_ _ _ _ _ _ (fun _ _ _ => ?_) (fun _ _ _ => ?_)
    | with_reducible apply State.voteStart_keeps

theorem State.sendSignal_keeps {s₀ s : State} (h : Keeps s₀ s) (c : InFlight) (n a : Nat) : Keeps s₀ (s.sendSignal c n a) := by
  unfold State.sendSignal
  extract_lets stop s1 w s2
  have hs : ∀ {t : State} (e : Code), Keeps s₀ t → Keeps s₀ (stop t e) := fun _ ht => State.modCmd_keeps ht ..
  have h1 : Keeps s₀ s1 := Keeps.ite (fun _ => State.loseNode_keeps h ..) (fun _ => h)
  have hw : Keeps s₀ w.1 := State.applyRemote_keeps h1 ..
  have h2 : Keeps s₀ s2 := State.modCmd_keeps h1 ..
  exact Keeps.ite (fun _ => hs _ h1) (fun _ => Keeps.ite (fun _ => hs _ h1) (fun _ => Keeps.ite
    (fun _ => Keeps.ite (fun _ => State.modCmd_keeps hw ..) (fun _ => hs _ hw)) (fun _ => State.sendTo_keeps h2 ..)))

theorem commandComplete_keeps {s₀ : State} {s : State} (hk : Keeps s₀ s) (r q : Nat) :
    Keeps s₀ (commandComplete s r q) := by
  unfold commandComplete
  repeat' first
    | with_reducible assumption
    | with_reducible apply State.sendSignal_keeps
    | with_reducible refine State.unlessHeld_keeps ?_ _ (fun _ _ => ?_)
    | with_reducible apply State.complete_keeps
    | lift_lets
    | with_reducible refine Keeps.ite (fun _ => ?_) (fun _ => ?_)
    | split

theorem State.takeColl_keeps {s₀ : State} {s : State} (hk : Keeps s₀ s) (f : BrimFrame) (digest : List Nat) (p : CollPart) :
    Keeps s₀ (State.takeColl s f digest p) := by
  unfold State.takeColl
  repeat' first
    | with_reducible assumption
    | with_reducible apply State.collTry_keeps
    | with_reducible apply State.collMismatch_keeps
    | with_reducible apply State.setColl_keeps
    | lift_lets
    | (intro y; clear_value y)
    | with_reducible refine Keeps.ite (fun _ => ?_) (fun _ => ?_)

theorem State.applyFrame_keeps {s₀ : State} {s : State} (hk : Keeps s₀ s) (b : Nat) (f : BrimFrame) :
    Keeps s₀ (State.applyFrame s b f) := by
  unfold State.applyFrame
  repeat' first
    | with_reducible assumption
    | with_reducible apply State.failJob_keeps
    | with_reducible apply State.spoilColl_keeps
    | with_reducible apply State.loseNode_keeps
    | with_reducible apply State.applyPut_keeps
    | with_reducible apply State.sendNak_keeps
    | with_reducible apply State.applyRemote_keeps
    | with_reducible apply State.takeVote_keeps
    | with_reducible apply State.takeAnnounce_keeps
    | with_reducible apply State.takeColl_keeps
    | lift_lets
    | (intro y; with_reducible refine Keeps.cut (x := y.1) ?_ (fun _ => ?_); rotate_left 1; clear_value y; rotate_left 1; unfold y)
    | with_reducible refine Keeps.ite (fun _ => ?_) (fun _ => ?_)
    | split

theorem frameRx_keeps {s₀ : State} (typ : Nat) {s : State} (hk : Keeps s₀ s) (b : Nat) (f : BrimFrame) :
    Keeps s₀ (frameRx typ s b f) := by
  unfold frameRx
  repeat' first
    | with_reducible assumption
    | with_reducible refine State.rxFrame_keeps ?_ _ _ _ (fun _ _ _ _ => ?_)
    | with_reducible apply State.applyFrame_keeps
    | with_reducible refine Keeps.ite (fun _ => ?_) (fun _ => ?_)

theorem State.releaseHeld_keeps {s₀ : State} {s : State} (hk : Keeps s₀ s) :
    Keeps s₀ (State.releaseHeld s) := by
  unfold State.releaseHeld
  repeat' first
    | with_reducible assumption
    | with_reducible apply State.applyFrame_keeps
    | with_reducible apply State.modBrim_keeps
    | with_reducible refine State.takeFrame_keeps ?_ _ _ _ (fun _ _ _ _ => ?_)
    | lift_lets
    | (intro y; with_reducible refine Keeps.cut (x := y) ?_ (fun _ => ?_); rotate_left 1; clear_value y; rotate_left 1; unfold y)
    | (intro y; clear_value y)
    | (with_reducible apply Keeps.upd; first | with_reducible refine Keeps.foldl ?_ _ _ (fun _ _ _ => ?_))

theorem State.epochEffect_keeps {s₀ : State} {s : State} (hk : Keeps s₀ s) :
    Keeps s₀ (State.epochEffect s) := by
  unfold State.epochEffect
  repeat' first
    | with_reducible assumption
    | with_reducible apply State.raiseMembers_keeps
    | with_reducible apply State.modBrim_keeps
    | with_reducible apply State.setFld_keeps
    | with_reducible apply State.setPort_keeps
    | with_reducible apply State.releaseHeld_keeps
    | with_reducible apply State.failNode_keeps
    | with_reducible apply State.admitPorts_keeps
    | lift_lets
    | (intro y; with_reducible refine Keeps.cut (x := y) ?_ (fun _ => ?_); rotate_left 1; clear_value y; rotate_left 1; unfold y)
    | (intro y; clear_value y)
    | with_reducible refine Keeps.ite (fun _ => ?_) (fun _ => ?_)
    | (with_reducible apply Keeps.upd; first | with_reducible refine Keeps.foldl ?_ _ _ (fun _ _ _ => ?_))
    | split

theorem execCommandComplete_keeps {s₀ : State} (ring seq : Nat) {s : State} (hk : Keeps s₀ s) {t₁ : State} (e₁ : execCommandComplete ring seq s = .next t₁) :
    Keeps s₀ t₁ := by
  unfold execCommandComplete State.done at e₁
  cases e₁
  apply State.observe_keeps
  repeat' first
    | with_reducible assumption
    | with_reducible apply commandComplete_keeps

theorem execAllReduce_keeps {s₀ : State} (ring seq : Nat) {s : State} (hk : Keeps s₀ s) {t₁ : State} (e₁ : execAllReduce ring seq s = .next t₁) :
    Keeps s₀ t₁ := by
  unfold execAllReduce State.done at e₁
  cases e₁
  apply State.observe_keeps
  repeat' first
    | with_reducible assumption
    | with_reducible apply collCmd_keeps

theorem execReduceScatter_keeps {s₀ : State} (ring seq : Nat) {s : State} (hk : Keeps s₀ s) {t₁ : State} (e₁ : execReduceScatter ring seq s = .next t₁) :
    Keeps s₀ t₁ := by
  unfold execReduceScatter State.done at e₁
  cases e₁
  apply State.observe_keeps
  repeat' first
    | with_reducible assumption
    | with_reducible apply collCmd_keeps

theorem execAllGather_keeps {s₀ : State} (ring seq : Nat) {s : State} (hk : Keeps s₀ s) {t₁ : State} (e₁ : execAllGather ring seq s = .next t₁) :
    Keeps s₀ t₁ := by
  unfold execAllGather State.done at e₁
  cases e₁
  apply State.observe_keeps
  repeat' first
    | with_reducible assumption
    | with_reducible apply collCmd_keeps

theorem execAllToAll_keeps {s₀ : State} (ring seq : Nat) {s : State} (hk : Keeps s₀ s) {t₁ : State} (e₁ : execAllToAll ring seq s = .next t₁) :
    Keeps s₀ t₁ := by
  unfold execAllToAll State.done at e₁
  cases e₁
  apply State.observe_keeps
  repeat' first
    | with_reducible assumption
    | with_reducible apply collCmd_keeps

theorem execBroadcast_keeps {s₀ : State} (ring seq : Nat) {s : State} (hk : Keeps s₀ s) {t₁ : State} (e₁ : execBroadcast ring seq s = .next t₁) :
    Keeps s₀ t₁ := by
  unfold execBroadcast State.done at e₁
  cases e₁
  apply State.observe_keeps
  repeat' first
    | with_reducible assumption
    | with_reducible apply collCmd_keeps

theorem execPutRemote_keeps {s₀ : State} (ring seq : Nat) {s : State} (hk : Keeps s₀ s) {t₁ : State} (e₁ : execPutRemote ring seq s = .next t₁) :
    Keeps s₀ t₁ := by
  unfold execPutRemote State.done at e₁
  cases e₁
  apply State.observe_keeps
  repeat' first
    | with_reducible assumption
    | with_reducible apply putCmd_keeps

theorem execVoteWord_keeps {s₀ : State} (ring seq : Nat) {s : State} (hk : Keeps s₀ s) {t₁ : State} (e₁ : execVoteWord ring seq s = .next t₁) :
    Keeps s₀ t₁ := by
  unfold execVoteWord State.done at e₁
  cases e₁
  apply State.observe_keeps
  repeat' first
    | with_reducible assumption
    | with_reducible apply voteCmd_keeps

theorem execAnnounceRx_keeps {s₀ : State} (port : Nat) (frame : BrimFrame) {s : State} (hk : Keeps s₀ s) {t₁ : State} (e₁ : execAnnounceRx port frame s = .next t₁) :
    Keeps s₀ t₁ := by
  unfold execAnnounceRx State.done at e₁
  cases e₁
  apply State.observe_keeps
  repeat' first
    | with_reducible assumption
    | with_reducible apply frameRx_keeps

theorem execDataRx_keeps {s₀ : State} (port : Nat) (frame : BrimFrame) {s : State} (hk : Keeps s₀ s) {t₁ : State} (e₁ : execDataRx port frame s = .next t₁) :
    Keeps s₀ t₁ := by
  unfold execDataRx State.done at e₁
  cases e₁
  apply State.observe_keeps
  repeat' first
    | with_reducible assumption
    | with_reducible apply frameRx_keeps

theorem execAckRx_keeps {s₀ : State} (port : Nat) (frame : BrimFrame) {s : State} (hk : Keeps s₀ s) {t₁ : State} (e₁ : execAckRx port frame s = .next t₁) :
    Keeps s₀ t₁ := by
  unfold execAckRx State.done at e₁
  cases e₁
  apply State.observe_keeps
  repeat' first
    | with_reducible assumption
    | with_reducible apply frameRx_keeps

theorem execVoteRx_keeps {s₀ : State} (port : Nat) (frame : BrimFrame) {s : State} (hk : Keeps s₀ s) {t₁ : State} (e₁ : execVoteRx port frame s = .next t₁) :
    Keeps s₀ t₁ := by
  unfold execVoteRx State.done at e₁
  cases e₁
  apply State.observe_keeps
  repeat' first
    | with_reducible assumption
    | with_reducible apply frameRx_keeps

theorem execSignalRx_keeps {s₀ : State} (port : Nat) (frame : BrimFrame) {s : State} (hk : Keeps s₀ s) {t₁ : State} (e₁ : execSignalRx port frame s = .next t₁) :
    Keeps s₀ t₁ := by
  unfold execSignalRx State.done at e₁
  cases e₁
  apply State.observe_keeps
  repeat' first
    | with_reducible assumption
    | with_reducible apply frameRx_keeps

theorem execLostRx_keeps {s₀ : State} (port : Nat) (frame : BrimFrame) {s : State} (hk : Keeps s₀ s) {t₁ : State} (e₁ : execLostRx port frame s = .next t₁) :
    Keeps s₀ t₁ := by
  unfold execLostRx State.done at e₁
  cases e₁
  apply State.observe_keeps
  repeat' first
    | with_reducible assumption
    | with_reducible apply frameRx_keeps

theorem execNakRx_keeps {s₀ : State} (port : Nat) (frame : BrimFrame) {s : State} (hk : Keeps s₀ s) {t₁ : State} (e₁ : execNakRx port frame s = .next t₁) :
    Keeps s₀ t₁ := by
  unfold execNakRx State.done at e₁
  cases e₁
  apply State.observe_keeps
  repeat' first
    | with_reducible assumption
    | with_reducible apply frameRx_keeps

theorem State.bitPut_keeps {s₀ : State} {s : State} (hk : Keeps s₀ s) (core : Nat) (p : Place) (bits code : Nat) :
    Keeps s₀ (State.bitPut s core p bits code) := by
  unfold State.bitPut
  repeat' first
    | with_reducible assumption
    | with_reducible apply State.wrs_keeps

theorem State.strmPut_keeps {s₀ : State} {s : State} (hk : Keeps s₀ s) (core : Nat) (t : Strm) (mode : Nat) (rand : Rand) (ps : List Place) (vs : List Val) :
    Keeps s₀ (State.strmPut s core t mode rand ps vs).1 := by
  unfold State.strmPut
  repeat' first
    | with_reducible assumption
    | with_reducible apply State.bitPut_keeps
    | lift_lets
    | (intro y; clear_value y)
    | with_reducible refine Keeps.ite1 (fun _ => ?_) (fun _ => ?_)
    | with_reducible refine Keeps.foldlP Prod.fst ?_ _ _ (fun _ _ _ => ?_)

theorem State.strmPutMx_keeps {s₀ : State} {s : State} (hk : Keeps s₀ s) (core : Nat) (t : Strm) (mode : Nat) (rand : Rand) (line : Nat) (ps : List Place) (vs : List Val) :
    Keeps s₀ (State.strmPutMx s core t mode rand line ps vs).1 := by
  unfold State.strmPutMx
  repeat' first
    | with_reducible assumption
    | with_reducible apply State.bitPut_keeps
    | with_reducible apply State.wr_keeps
    | lift_lets
    | (intro y; clear_value y)
    | with_reducible refine Keeps.ite (fun _ => ?_) (fun _ => ?_)
    | (with_reducible apply Keeps.upd; first | with_reducible refine Keeps.foldl ?_ _ _ (fun _ _ _ => ?_))
    | with_reducible refine Keeps.foldlP Prod.fst ?_ _ _ (fun _ _ _ => ?_)

theorem State.vecOut_keeps {s₀ : State} {s : State} (hk : Keeps s₀ s) (core : Nat) (d : VecDesc) (topk : Bool) (o : Nat) (ps : List Place) (vs : List Val) :
    Keeps s₀ (State.vecOut s core d topk o ps vs).1 := by
  unfold State.vecOut
  repeat' first
    | with_reducible assumption
    | with_reducible apply State.strmPut_keeps
    | with_reducible apply State.strmPutMx_keeps
    | lift_lets
    | (intro y; clear_value y)
    | with_reducible refine Keeps.ite1 (fun _ => ?_) (fun _ => ?_)

theorem State.slotPut_keeps {s₀ : State} {s : State} (hk : Keeps s₀ s) (core slot : Nat) (v : Val) (aux : Nat) :
    Keeps s₀ (State.slotPut s core slot v aux) := by
  unfold State.slotPut
  repeat' first
    | with_reducible assumption
    | with_reducible apply State.setReg_keeps
    | with_reducible apply State.modTc_keeps
    | with_reducible apply State.raise_keeps

theorem State.vecReds_keeps {s₀ : State} {s : State} (hk : Keeps s₀ s) (core : Nat) (d : VecDesc) (srcs : List (List Val)) (lines : Nat → List Place) :
    Keeps s₀ (State.vecReds s core d srcs lines).1 := by
  unfold State.vecReds
  repeat' first
    | with_reducible assumption
    | with_reducible apply State.strmPut_keeps
    | with_reducible apply State.slotPut_keeps
    | lift_lets
    | (intro y; with_reducible refine Keeps.cut (x := y.1) ?_ (fun _ => ?_); rotate_left 1; clear_value y; rotate_left 1; unfold y)
    | (intro y; clear_value y)
    | with_reducible refine Keeps.ite (fun _ => ?_) (fun _ => ?_)
    | (with_reducible apply Keeps.upd; first | with_reducible refine Keeps.foldl ?_ _ _ (fun _ _ _ => ?_))
    | with_reducible refine Keeps.ite1 (fun _ => ?_) (fun _ => ?_)
    | with_reducible refine Keeps.foldlP Prod.fst ?_ _ _ (fun _ _ _ => ?_)
    | split

theorem State.vecEnd_keeps {s₀ : State} {s : State} (hk : Keeps s₀ s) (c : InFlight) (core flags good : Nat) (bad : Option Nat) :
    Keeps s₀ (State.vecEnd s c core flags good bad) := by
  unfold State.vecEnd
  repeat' first
    | with_reducible assumption
    | with_reducible apply State.stopBad_keeps
    | with_reducible apply State.endCmd_keeps
    | with_reducible apply State.tick_keeps
    | with_reducible apply State.arith_keeps
    | lift_lets
    | (intro y; with_reducible refine Keeps.cut (x := y) ?_ (fun _ => ?_); rotate_left 1; clear_value y; rotate_left 1; unfold y)
    | split

theorem State.vecChain_keeps {s₀ : State} {s : State} (hk : Keeps s₀ s) (c : InFlight) (core : Nat) (d : VecDesc) (index : Nat → Nat → Option Nat) :
    Keeps s₀ (State.vecChain s c core d index) := by
  unfold State.vecChain
  repeat' first
    | with_reducible assumption
    | with_reducible apply State.vecOut_keeps
    | with_reducible apply State.vecReds_keeps
    | with_reducible apply State.correctSp_keeps
    | with_reducible apply State.vecEnd_keeps
    | lift_lets
    | (intro y; with_reducible refine Keeps.cut (x := y) ?_ (fun _ => ?_); rotate_left 1; clear_value y; rotate_left 1; unfold y)
    | (intro y; clear_value y)
    | with_reducible refine Keeps.ite (fun _ => ?_) (fun _ => ?_)
    | with_reducible refine Keeps.foldlP Prod.fst ?_ _ _ (fun _ _ _ => ?_)
    | split

theorem State.vecTopk_keeps {s₀ : State} {s : State} (hk : Keeps s₀ s) (c : InFlight) (core : Nat) (d : VecDesc) (index : Nat → Nat → Option Nat) :
    Keeps s₀ (State.vecTopk s c core d index) := by
  unfold State.vecTopk
  repeat' first
    | with_reducible assumption
    | with_reducible apply State.bitPut_keeps
    | with_reducible apply State.vecOut_keeps
    | with_reducible apply State.correctSp_keeps
    | with_reducible apply State.vecEnd_keeps
    | with_reducible apply State.modCmd_keeps
    | lift_lets
    | (intro y; with_reducible refine Keeps.cut (x := y) ?_ (fun _ => ?_); rotate_left 1; clear_value y; rotate_left 1; unfold y)
    | (intro y; clear_value y)
    | with_reducible refine Keeps.ite (fun _ => ?_) (fun _ => ?_)
    | (with_reducible apply Keeps.upd; first | with_reducible refine Keeps.foldl ?_ _ _ (fun _ _ _ => ?_))
    | split

theorem vecCmd_keeps {s₀ : State} {s : State} (hk : Keeps s₀ s) (r q : Nat) :
    Keeps s₀ (vecCmd s r q) := by
  unfold vecCmd
  repeat' first
    | with_reducible assumption
    | with_reducible apply State.stopBad_keeps
    | with_reducible apply State.vecChain_keeps
    | with_reducible apply State.endCmd_keeps
    | with_reducible apply State.vecTopk_keeps
    | with_reducible refine State.runCmd_keeps ?_ _ _ _ _ (fun _ _ _ => ?_)
    | lift_lets
    | (intro y; clear_value y)
    | with_reducible refine Keeps.ite (fun _ => ?_) (fun _ => ?_)
    | split

theorem execVecStream_keeps {s₀ : State} (ring seq : Nat) {s : State} (hk : Keeps s₀ s) {t₁ : State} (e₁ : execVecStream ring seq s = .next t₁) :
    Keeps s₀ t₁ := by
  unfold execVecStream State.done at e₁
  cases e₁
  apply State.observe_keeps
  repeat' first
    | with_reducible assumption
    | with_reducible apply vecCmd_keeps

theorem State.putRow_keeps {s₀ : State} {s : State} (hk : Keeps s₀ s) (p a fmt : Nat) (vs : List Val) :
    Keeps s₀ (State.putRow s p a fmt vs).1 := by
  unfold State.putRow
  repeat' first
    | with_reducible assumption
    | with_reducible apply State.wrDev_keeps

theorem State.fetchPage_keeps {s₀ s : State} (h : Keeps s₀ s) (c : InFlight) (ad : AttnDesc) (g : KvPage) :
    Keeps s₀ (s.fetchPage c ad g).1 := by
  unfold State.fetchPage
  extract_lets p info count e moving s3 e' n a s4
  have hi : ∀ {t : State} (i : Nat), Keeps s₀ t → Keeps s₀ (info t i) := fun _ ht => State.modCmd_keeps ht ..
  have hc : ∀ {t : State}, Keeps s₀ t → Keeps s₀ (count t) := fun ht => by
    unfold count
    extract_lets u
    have hu : Keeps s₀ u := State.addFld_keeps ht ..
    exact Keeps.ite (fun _ => hu) (fun _ => hi _ (State.addFld_keeps hu ..))
  have h3 : Keeps s₀ s3 := by
    refine Keeps.ite (fun _ => ?_) (fun _ => h)
    split
    · exact h
    · next t ht =>
      have hd : Keeps s₀ t.draw.2 := State.draw_keeps (State.moveStart_keeps h _ _ _ _ _ _ ht)
      refine Keeps.ite (fun _ => ?_) (fun _ => hd)
      split
      · exact State.commitMove_keeps hd ..
      · exact hd
  have h4 : Keeps s₀ s4 := by
    unfold s4
    split
    · exact Keeps.ite (fun _ => State.setSlotUse_keeps h3 ..) (fun _ => h3)
    · exact h3
  refine Keeps.ite1 (fun _ => h) (fun _ => Keeps.ite1 (fun _ => Keeps.ite1 (fun _ => h3)
    (fun _ => hi _ (State.addFld_keeps (hc h3) ..))) (fun _ => ?_))
  split
  · exact h4
  · exact hc h4

theorem State.fetchPages_keeps {s₀ s : State} (h : Keeps s₀ s) (c : InFlight) (ad : AttnDesc) (l : List KvPage) :
    Keeps s₀ (s.fetchPages c ad l).s := by
  induction l generalizing s with
  | nil => exact h
  | cons g r ih =>
    unfold State.fetchPages
    have hx : Keeps s₀ (s.fetchPage c ad g).1 := State.fetchPage_keeps h ..
    dsimp only
    split
    · exact hx
    · exact ih hx

theorem State.passFetch_keeps {s₀ s : State} (h : Keeps s₀ s) (c : InFlight) (ad : AttnDesc) (ts : List AttnTile) :
    Keeps s₀ (s.passFetch c ad ts).s := State.addFld_keeps (State.fetchPages_keeps h ..) ..

theorem attnFwdTile_keeps {s₀ : State} (c : InFlight) (ad : AttnDesc) {x : AttnRun} (hk : Keeps s₀ x.s) (t : AttnTile) :
    Keeps s₀ (attnFwdTile c ad x t).s := by
  unfold attnFwdTile
  repeat' first
    | with_reducible assumption
    | with_reducible apply State.putRow_keeps
    | with_reducible apply State.wrDev_keeps
    | with_reducible apply State.modCmd_keeps
    | lift_lets
    | with_reducible refine Keeps.foldlP Prod.fst ?_ _ _ (fun _ _ _ => ?_)

theorem attnFwdPass_keeps {s₀ : State} (c : InFlight) (ad : AttnDesc) {x : AttnRun} (hk : Keeps s₀ x.s) (ts : List AttnTile) :
    Keeps s₀ (attnFwdPass c ad x ts).s := by
  unfold attnFwdPass
  repeat' first
    | with_reducible assumption
    | with_reducible apply attnFwdTile_keeps
    | with_reducible apply State.passFetch_keeps
    | lift_lets
    | (intro y; with_reducible refine Keeps.cut (x := y.1) ?_ (fun _ => ?_); rotate_left 1; clear_value y; rotate_left 1; unfold y)
    | (intro y; clear_value y)
    | with_reducible refine Keeps.foldlP AttnRun.s ?_ _ _ (fun _ _ _ => ?_)
    | split

theorem State.sweep1_keeps {s₀ : State} {s : State} (hk : Keeps s₀ s) (p : Nat) (ad : AttnDesc) (e : SeqEntry) (ps : List KvPage) :
    Keeps s₀ (State.sweep1 s p ad e ps).1 := by
  unfold State.sweep1
  repeat' first
    | with_reducible assumption
    | with_reducible apply State.putRow_keeps
    | lift_lets
    | (intro y; clear_value y)
    | with_reducible refine Keeps.foldlP Prod.fst ?_ _ _ (fun _ _ _ => ?_)

theorem State.sweep2_keeps {s₀ : State} {s : State} (hk : Keeps s₀ s) (p : Nat) (ad : AttnDesc) (e : SeqEntry) (ps : List KvPage) (head : Nat) (rows : List Nat) :
    Keeps s₀ (State.sweep2 s p ad e ps head rows).1 := by
  unfold State.sweep2
  repeat' first
    | with_reducible assumption
    | with_reducible apply State.putRow_keeps
    | lift_lets
    | (intro y; clear_value y)
    | with_reducible refine Keeps.foldlP Prod.fst ?_ _ _ (fun _ _ _ => ?_)

theorem attnBwdPass_keeps {s₀ : State} (c : InFlight) (ad : AttnDesc) {x : AttnRun} (hk : Keeps s₀ x.s) (ts : List AttnTile) :
    Keeps s₀ (attnBwdPass c ad x ts).s := by
  unfold attnBwdPass
  repeat' first
    | with_reducible assumption
    | with_reducible apply State.sweep2_keeps
    | with_reducible apply State.passFetch_keeps
    | lift_lets
    | (intro y; with_reducible refine Keeps.cut (x := y.1) ?_ (fun _ => ?_); rotate_left 1; clear_value y; rotate_left 1; unfold y)
    | (intro y; clear_value y)
    | with_reducible refine Keeps.foldlP Prod.fst ?_ _ _ (fun _ _ _ => ?_)
    | split

theorem State.attnBwdRun_keeps {s₀ : State} {s : State} (hk : Keeps s₀ s) (c : InFlight) (ad : AttnDesc) (size : Nat) (es : List (SeqEntry × List KvPage)) :
    Keeps s₀ (State.attnBwdRun s c ad size es).s := by
  unfold State.attnBwdRun
  repeat' first
    | with_reducible assumption
    | with_reducible apply attnBwdPass_keeps
    | with_reducible apply State.passFetch_keeps
    | with_reducible apply State.sweep1_keeps
    | lift_lets
    | (intro y; with_reducible refine Keeps.cut (x := y.1) ?_ (fun _ => ?_); rotate_left 1; clear_value y; rotate_left 1; unfold y)
    | (intro y; clear_value y)
    | with_reducible refine Keeps.foldlP Prod.fst ?_ _ _ (fun _ _ _ => ?_)
    | with_reducible refine Keeps.foldlP AttnRun.s ?_ _ _ (fun _ _ _ => ?_)
    | split

theorem State.attnRun_keeps {s₀ : State} {s : State} (hk : Keeps s₀ s) (c : InFlight) (list : Nat) (heads : List Nat) :
    Keeps s₀ (State.attnRun s c list heads) := by
  unfold State.attnRun
  repeat' first
    | with_reducible assumption
    | with_reducible apply State.stopBad_keeps
    | with_reducible apply State.endCmd_keeps
    | with_reducible apply attnFwdPass_keeps
    | with_reducible apply State.attnBwdRun_keeps
    | with_reducible apply State.modCmd_keeps
    | with_reducible apply State.tick_keeps
    | with_reducible apply State.knowHead_keeps
    | with_reducible apply State.lose_keeps
    | with_reducible apply State.arith_keeps
    | lift_lets
    | (intro y; with_reducible refine Keeps.cut (x := y) ?_ (fun _ => ?_); rotate_left 1; clear_value y; rotate_left 1; unfold y)
    | (intro y; with_reducible refine Keeps.cut (x := y.1) ?_ (fun _ => ?_); rotate_left 1; clear_value y; rotate_left 1; unfold y)
    | (intro y; clear_value y)
    | (with_reducible apply Keeps.upd; first | with_reducible refine Keeps.foldl ?_ _ _ (fun _ _ _ => ?_))
    | with_reducible refine Keeps.foldlP AttnRun.s ?_ _ _ (fun _ _ _ => ?_)
    | split

theorem State.attnHeads_keeps {s₀ s : State} (h : Keeps s₀ s) (c : InFlight) (list : Nat) (heads : List Nat) (n : Nat) :
    Keeps s₀ (s.attnHeads c list heads n) := by
  induction n generalizing heads with
  | zero => exact State.attnRun_keeps h ..
  | succ n ih =>
    unfold State.attnHeads
    extract_lets ad e
    refine Keeps.ite (fun _ => State.endCmd_keeps h ..) (fun _ => Keeps.ite (fun _ => State.endCmd_keeps h ..) (fun _ => ?_))
    split
    · exact State.stopCmd_keeps h ..
    · exact Keeps.ite (fun _ => State.modCmd_keeps h ..) (fun _ => ih _)

theorem State.attnStart_keeps {s₀ : State} {s : State} (hk : Keeps s₀ s) (c : InFlight) :
    Keeps s₀ (State.attnStart s c) := by
  unfold State.attnStart
  repeat' first
    | with_reducible assumption
    | with_reducible apply State.stopCmd_keeps
    | with_reducible apply State.attnHeads_keeps
    | with_reducible apply State.modCmd_keeps
    | lift_lets
    | (intro y; with_reducible refine Keeps.cut (x := y) ?_ (fun _ => ?_); rotate_left 1; clear_value y; rotate_left 1; unfold y)
    | (intro y; clear_value y)
    | split

theorem attnFwdCmd_keeps {s₀ : State} {s : State} (hk : Keeps s₀ s) (r q : Nat) :
    Keeps s₀ (attnFwdCmd s r q) := by
  unfold attnFwdCmd
  repeat' first
    | with_reducible assumption
    | with_reducible apply State.attnStart_keeps
    | with_reducible refine State.contCmd_keeps ?_ _ _ _ _ _ (fun _ _ _ => ?_) (fun _ _ _ => ?_)

theorem attnBwdCmd_keeps {s₀ : State} {s : State} (hk : Keeps s₀ s) (r q : Nat) :
    Keeps s₀ (attnBwdCmd s r q) := by
  unfold attnBwdCmd
  repeat' first
    | with_reducible assumption
    | with_reducible apply State.attnStart_keeps
    | with_reducible refine State.contCmd_keeps ?_ _ _ _ _ _ (fun _ _ _ => ?_) (fun _ _ _ => ?_)

theorem headEditRetry_keeps {s₀ : State} {s : State} (hk : Keeps s₀ s) (r q : Nat) :
    Keeps s₀ (headEditRetry s r q) := by
  unfold headEditRetry
  repeat' first
    | with_reducible assumption
    | with_reducible apply State.attnHeads_keeps
    | with_reducible apply State.modCmd_keeps
    | lift_lets
    | (intro y; with_reducible refine Keeps.cut (x := y) ?_ (fun _ => ?_); rotate_left 1; clear_value y; rotate_left 1; unfold y)
    | with_reducible refine Keeps.ite (fun _ => ?_) (fun _ => ?_)
    | split

theorem execAttnFwd_keeps {s₀ : State} (ring seq : Nat) {s : State} (hk : Keeps s₀ s) {t₁ : State} (e₁ : execAttnFwd ring seq s = .next t₁) :
    Keeps s₀ t₁ := by
  unfold execAttnFwd State.done at e₁
  cases e₁
  apply State.observe_keeps
  repeat' first
    | with_reducible assumption
    | with_reducible apply attnFwdCmd_keeps

theorem execAttnBwd_keeps {s₀ : State} (ring seq : Nat) {s : State} (hk : Keeps s₀ s) {t₁ : State} (e₁ : execAttnBwd ring seq s = .next t₁) :
    Keeps s₀ t₁ := by
  unfold execAttnBwd State.done at e₁
  cases e₁
  apply State.observe_keeps
  repeat' first
    | with_reducible assumption
    | with_reducible apply attnBwdCmd_keeps

theorem execHeadEditRetry_keeps {s₀ : State} (ring seq : Nat) {s : State} (hk : Keeps s₀ s) {t₁ : State} (e₁ : execHeadEditRetry ring seq s = .next t₁) :
    Keeps s₀ t₁ := by
  unfold execHeadEditRetry State.done at e₁
  cases e₁
  apply State.observe_keeps
  repeat' first
    | with_reducible assumption
    | with_reducible apply headEditRetry_keeps

theorem State.poolFwd_keeps {s₀ : State} {s : State} (hk : Keeps s₀ s) (c : InFlight) (core : Nat) (d : ConvDesc) (g : GemmDesc) :
    Keeps s₀ (State.poolFwd s c core d g) := by
  unfold State.poolFwd
  repeat' first
    | with_reducible assumption
    | with_reducible apply State.modCmd_keeps
    | with_reducible apply State.correctSp_keeps
    | with_reducible apply State.putCells_keeps
    | with_reducible apply State.vecEnd_keeps

theorem State.poolBwd_keeps {s₀ : State} {s : State} (hk : Keeps s₀ s) (c : InFlight) (core : Nat) (d : ConvDesc) (g : GemmDesc) :
    Keeps s₀ (State.poolBwd s c core d g) := by
  unfold State.poolBwd
  repeat' first
    | with_reducible assumption
    | with_reducible apply State.modCmd_keeps
    | with_reducible apply State.correctSp_keeps
    | with_reducible apply State.putCells_keeps
    | with_reducible apply State.vecEnd_keeps
    | lift_lets
    | (intro y; with_reducible refine Keeps.cut (x := y) ?_ (fun _ => ?_); rotate_left 1; clear_value y; rotate_left 1; unfold y)
    | (intro y; clear_value y)
    | split

theorem convCmd_keeps {s₀ : State} {s : State} (hk : Keeps s₀ s) (r q : Nat) :
    Keeps s₀ (convCmd s r q) := by
  unfold convCmd
  repeat' first
    | with_reducible assumption
    | with_reducible apply State.stopCmd_keeps
    | with_reducible apply State.poolFwd_keeps
    | with_reducible apply State.drainAll_keeps
    | with_reducible apply State.endCmd_keeps
    | with_reducible apply State.poolBwd_keeps
    | with_reducible refine State.runCmd_keeps ?_ _ _ _ _ (fun _ _ _ => ?_)
    | lift_lets
    | (intro y; clear_value y)
    | with_reducible refine Keeps.ite (fun _ => ?_) (fun _ => ?_)
    | split

theorem execConvolve_keeps {s₀ : State} (ring seq : Nat) {s : State} (hk : Keeps s₀ s) {t₁ : State} (e₁ : execConvolve ring seq s = .next t₁) :
    Keeps s₀ t₁ := by
  unfold execConvolve State.done at e₁
  cases e₁
  apply State.observe_keeps
  repeat' first
    | with_reducible assumption
    | with_reducible apply convCmd_keeps

theorem State.spanLost?_keeps {s₀ : State} {s : State} (hk : Keeps s₀ s) (c : InFlight) (a : Nat) {t : State} (e : State.spanLost? s c a = some t) :
    Keeps s₀ t := by
  unfold State.spanLost? at e
  (repeat' split at e) <;> first | contradiction | (cases e; repeat' first
    | with_reducible assumption
    | with_reducible apply State.recordBad_keeps
    | with_reducible apply State.recordError_keeps)

theorem State.evacSpans_keeps {s₀ s : State} (h : Keeps s₀ s) (c : InFlight) (src dst i n : Nat) :
    Keeps s₀ (s.evacSpans c src dst i n).1 := by
  induction n generalizing s i with
  | zero => exact h
  | succ n ih =>
    unfold State.evacSpans
    extract_lets a
    split
    · next t ht => exact ih (State.spanLost?_keeps h c a ht) _
    · split
      · exact h
      · extract_lets w
        have hw : Keeps s₀ w.1 := State.wrDev_keeps h ..
        exact Keeps.ite1 (fun _ => hw) (fun _ => ih hw _)

theorem evacuateCmd_keeps {s₀ : State} {s : State} (hk : Keeps s₀ s) (r q : Nat) :
    Keeps s₀ (evacuateCmd s r q) := by
  unfold evacuateCmd
  repeat' first
    | with_reducible assumption
    | with_reducible apply State.endCmd_keeps
    | with_reducible apply State.evacSpans_keeps
    | with_reducible apply State.wrDev_keeps
    | with_reducible apply State.modCmd_keeps
    | with_reducible refine State.runCmd_keeps ?_ _ _ _ _ (fun _ _ _ => ?_)

theorem execEvacuate_keeps {s₀ : State} (ring seq : Nat) {s : State} (hk : Keeps s₀ s) {t₁ : State} (e₁ : execEvacuate ring seq s = .next t₁) :
    Keeps s₀ t₁ := by
  unfold execEvacuate State.done at e₁
  cases e₁
  apply State.observe_keeps
  repeat' first
    | with_reducible assumption
    | with_reducible apply evacuateCmd_keeps

theorem State.setUuStep_keeps {s₀ : State} {s : State} (hk : Keeps s₀ s) (ch g v : Nat) :
    Keeps s₀ (State.setUuStep s ch g v) := by
  unfold State.setUuStep
  repeat' first
    | with_reducible assumption
    | with_reducible apply State.modChan_keeps

theorem State.gateEnd_keeps {s₀ : State} {s : State} (hk : Keeps s₀ s) (c : InFlight) (v : List Nat) :
    Keeps s₀ (State.gateEnd s c v) := by
  unfold State.gateEnd
  repeat' first
    | with_reducible assumption
    | with_reducible apply State.endCmd_keeps
    | with_reducible apply State.wrDev_keeps
    | with_reducible apply State.modCmd_keeps
    | with_reducible apply State.observe_keeps
    | lift_lets
    | (intro y; with_reducible refine Keeps.cut (x := y.1) ?_ (fun _ => ?_); rotate_left 1; clear_value y; rotate_left 1; unfold y)
    | (intro y; clear_value y)
    | with_reducible refine Keeps.ite (fun _ => ?_) (fun _ => ?_)

theorem State.updCheckStart_keeps {s₀ : State} {s : State} (hk : Keeps s₀ s) (c : InFlight) :
    Keeps s₀ (State.updCheckStart s c) := by
  unfold State.updCheckStart
  repeat' first
    | with_reducible assumption
    | with_reducible apply State.stopCmd_keeps
    | with_reducible apply State.gateEnd_keeps
    | with_reducible apply State.joinGroup_keeps
    | lift_lets
    | (intro y; clear_value y)
    | with_reducible refine Keeps.ite (fun _ => ?_) (fun _ => ?_)
    | split

theorem updCheckCmd_keeps {s₀ : State} {s : State} (hk : Keeps s₀ s) (r q : Nat) :
    Keeps s₀ (updCheckCmd s r q) := by
  unfold updCheckCmd
  repeat' first
    | with_reducible assumption
    | with_reducible apply State.gateEnd_keeps
    | with_reducible refine State.contCmd_keeps ?_ _ _ _ _ _ (fun _ _ _ => ?_) (fun _ _ _ => ?_)
    | with_reducible apply State.updCheckStart_keeps
    | with_reducible refine Keeps.ite (fun _ => ?_) (fun _ => ?_)

theorem UpdRun.stop_keeps {s₀ : State} {x : UpdRun} (hk : Keeps s₀ x.s) (c : InFlight) (ch : Nat) (e : Code) (a n : Nat) :
    Keeps s₀ (UpdRun.stop x c ch e a n).s := by
  unfold UpdRun.stop
  repeat' first
    | with_reducible assumption
    | with_reducible apply State.recordBad_keeps
    | split

theorem UpdRun.group_keeps {s₀ : State} {x : UpdRun} (hk : Keeps s₀ x.s) (c : InFlight) (d : UpdDesc) (mode k : Nat) (u : UpdWork) (j : Nat) :
    Keeps s₀ (UpdRun.group x c d mode k u j).s := by
  unfold UpdRun.group
  repeat' first
    | with_reducible assumption
    | with_reducible apply UpdRun.stop_keeps
    | with_reducible apply State.addFld_keeps
    | with_reducible apply State.recordError_keeps
    | with_reducible apply State.wrAll_keeps
    | lift_lets
    | (intro y; with_reducible refine Keeps.cut (x := y.1) ?_ (fun _ => ?_); rotate_left 1; clear_value y; rotate_left 1; unfold y)
    | (intro y; clear_value y)
    | with_reducible refine Keeps.ite (fun _ => ?_) (fun _ => ?_)
    | split

theorem UpdRun.pairs_keeps {s₀ : State} {x : UpdRun} (hk : Keeps s₀ x.s) (c : InFlight) (u : UpdWork) :
    Keeps s₀ (UpdRun.pairs x c u).s := by
  unfold UpdRun.pairs
  repeat' first
    | with_reducible assumption
    | with_reducible apply UpdRun.stop_keeps
    | with_reducible apply State.wrDev_keeps
    | lift_lets
    | (intro y; with_reducible refine Keeps.cut (x := y.1) ?_ (fun _ => ?_); rotate_left 1; clear_value y; rotate_left 1; unfold y)
    | (intro y; clear_value y)
    | with_reducible refine Keeps.foldlP UpdRun.s ?_ _ _ (fun _ _ _ => ?_)
    | split

theorem updScan_keeps {s₀ : State} {s : State} (hk : Keeps s₀ s) (c : InFlight) (d : UpdDesc) (mode : Nat) (ws : List UpdWork) :
    Keeps s₀ (updScan s c d mode ws).s := by
  unfold updScan
  repeat' first
    | with_reducible assumption
    | with_reducible apply UpdRun.group_keeps
    | with_reducible apply UpdRun.pairs_keeps
    | lift_lets
    | (intro y; with_reducible refine Keeps.cut (x := y.1) ?_ (fun _ => ?_); rotate_left 1; clear_value y; rotate_left 1; unfold y)
    | with_reducible refine Keeps.foldlP UpdRun.s ?_ _ _ (fun _ _ _ => ?_)
    | split

theorem State.statsEnd_keeps {s₀ : State} {s : State} (hk : Keeps s₀ s) (c : InFlight) (d : UpdDesc) (ratios : List (Nat × Val)) (rows : List (List Nat)) :
    Keeps s₀ (State.statsEnd s c d ratios rows) := by
  unfold State.statsEnd
  repeat' first
    | with_reducible assumption
    | with_reducible apply State.endCmd_keeps
    | with_reducible apply State.modCmd_keeps
    | with_reducible apply State.observe_keeps
    | with_reducible apply State.wrAll_keeps
    | lift_lets
    | (intro y; with_reducible refine Keeps.cut (x := y) ?_ (fun _ => ?_); rotate_left 1; clear_value y; rotate_left 1; unfold y)
    | (intro y; clear_value y)
    | with_reducible refine Keeps.ite (fun _ => ?_) (fun _ => ?_)
    | with_reducible refine Keeps.ite1 (fun _ => ?_) (fun _ => ?_)

theorem State.updCount_keeps {s₀ : State} {s : State} (hk : Keeps s₀ s) (c : InFlight) (d : UpdDesc) (mode : Nat) (stopped : List (Nat × Code)) :
    Keeps s₀ (State.updCount s c d mode stopped) := by
  unfold State.updCount
  repeat' first
    | with_reducible assumption
    | with_reducible apply State.setUuStep_keeps
    | with_reducible apply State.addFld_keeps
    | with_reducible refine Keeps.ite (fun _ => ?_) (fun _ => ?_)
    | (with_reducible apply Keeps.upd; first | with_reducible refine Keeps.foldl ?_ _ _ (fun _ _ _ => ?_))

theorem State.updRun_keeps {s₀ : State} {s : State} (hk : Keeps s₀ s) (c : InFlight) (d : UpdDesc) (mode info : Nat) (ws : List UpdWork) :
    Keeps s₀ (State.updRun s c d mode info ws) := by
  unfold State.updRun
  repeat' first
    | with_reducible assumption
    | with_reducible apply State.updCount_keeps
    | with_reducible apply State.statsEnd_keeps
    | with_reducible apply State.endCmd_keeps
    | with_reducible apply State.joinGroup_keeps
    | with_reducible apply updScan_keeps
    | with_reducible apply State.modCmd_keeps
    | lift_lets
    | (intro y; with_reducible refine Keeps.cut (x := y.1) ?_ (fun _ => ?_); rotate_left 1; clear_value y; rotate_left 1; unfold y)
    | with_reducible refine Keeps.ite (fun _ => ?_) (fun _ => ?_)
    | split

theorem State.updStart_keeps {s₀ : State} {s : State} (hk : Keeps s₀ s) (c : InFlight) :
    Keeps s₀ (State.updStart s c) := by
  unfold State.updStart
  repeat' first
    | with_reducible assumption
    | with_reducible apply State.stopCmd_keeps
    | with_reducible apply State.updRun_keeps
    | lift_lets
    | (intro y; clear_value y)
    | with_reducible refine Keeps.ite (fun _ => ?_) (fun _ => ?_)
    | split

theorem State.updGoOn_keeps {s₀ : State} {s : State} (hk : Keeps s₀ s) (c : InFlight) :
    Keeps s₀ (State.updGoOn s c) := by
  unfold State.updGoOn
  repeat' first
    | with_reducible assumption
    | with_reducible apply State.stopCmd_keeps
    | with_reducible apply State.statsEnd_keeps
    | lift_lets
    | (intro y; clear_value y)
    | with_reducible refine Keeps.ite (fun _ => ?_) (fun _ => ?_)
    | split

theorem updApplyCmd_keeps {s₀ : State} {s : State} (hk : Keeps s₀ s) (r q : Nat) :
    Keeps s₀ (updApplyCmd s r q) := by
  unfold updApplyCmd
  repeat' first
    | with_reducible assumption
    | with_reducible refine State.contCmd_keeps ?_ _ _ _ _ _ (fun _ _ _ => ?_) (fun _ _ _ => ?_)
    | with_reducible apply State.updGoOn_keeps
    | with_reducible apply State.updStart_keeps

theorem updStatsCmd_keeps {s₀ : State} {s : State} (hk : Keeps s₀ s) (r q : Nat) :
    Keeps s₀ (updStatsCmd s r q) := by
  unfold updStatsCmd
  repeat' first
    | with_reducible assumption
    | with_reducible refine State.contCmd_keeps ?_ _ _ _ _ _ (fun _ _ _ => ?_) (fun _ _ _ => ?_)
    | with_reducible apply State.updGoOn_keeps
    | with_reducible apply State.updStart_keeps

theorem uuStepWrite_keeps {s₀ : State} {s : State} (hk : Keeps s₀ s) (who : Requester) (ch : Nat) (v : Word64) :
    Keeps s₀ (uuStepWrite s who ch v) := by
  unfold uuStepWrite
  repeat' first
    | with_reducible assumption
    | with_reducible apply State.setUuStep_keeps
    | with_reducible apply State.refuseF_keeps
    | with_reducible refine State.letIn_keeps ?_ _ _ _ (fun _ _ => ?_)
    | lift_lets
    | with_reducible refine Keeps.ite (fun _ => ?_) (fun _ => ?_)

theorem execUpdCheck_keeps {s₀ : State} (ring seq : Nat) {s : State} (hk : Keeps s₀ s) {t₁ : State} (e₁ : execUpdCheck ring seq s = .next t₁) :
    Keeps s₀ t₁ := by
  unfold execUpdCheck State.done at e₁
  cases e₁
  apply State.observe_keeps
  repeat' first
    | with_reducible assumption
    | with_reducible apply updCheckCmd_keeps

theorem execUpdApply_keeps {s₀ : State} (ring seq : Nat) {s : State} (hk : Keeps s₀ s) {t₁ : State} (e₁ : execUpdApply ring seq s = .next t₁) :
    Keeps s₀ t₁ := by
  unfold execUpdApply State.done at e₁
  cases e₁
  apply State.observe_keeps
  repeat' first
    | with_reducible assumption
    | with_reducible apply updApplyCmd_keeps

theorem execUpdStats_keeps {s₀ : State} (ring seq : Nat) {s : State} (hk : Keeps s₀ s) {t₁ : State} (e₁ : execUpdStats ring seq s = .next t₁) :
    Keeps s₀ t₁ := by
  unfold execUpdStats State.done at e₁
  cases e₁
  apply State.observe_keeps
  repeat' first
    | with_reducible assumption
    | with_reducible apply updStatsCmd_keeps

theorem execMcUuStepWrite_keeps {s₀ : State} (who : Requester) (ch : Nat) (v : Word64) {s : State} (hk : Keeps s₀ s) {t₁ : State} (e₁ : execMcUuStepWrite who ch v s = .next t₁) :
    Keeps s₀ t₁ := by
  unfold execMcUuStepWrite State.done at e₁
  cases e₁
  apply State.observe_keeps
  repeat' first
    | with_reducible assumption
    | with_reducible apply uuStepWrite_keeps

theorem FactorRun.block_keeps {s₀ : State} {x : FactorRun} (hk : Keeps s₀ x.s) (c : InFlight) (fe : Nat) (list : List Byte) (i : Nat) :
    Keeps s₀ (FactorRun.block x c fe list i).s := by
  unfold FactorRun.block
  repeat' first
    | with_reducible assumption
    | with_reducible apply State.addFld_keeps
    | with_reducible apply State.wrAll_keeps
    | lift_lets
    | (intro y; clear_value y)
    | with_reducible refine Keeps.ite (fun _ => ?_) (fun _ => ?_)
    | split

theorem State.factorStart_keeps {s₀ : State} {s : State} (hk : Keeps s₀ s) (c : InFlight) :
    Keeps s₀ (State.factorStart s c) := by
  unfold State.factorStart
  repeat' first
    | with_reducible assumption
    | with_reducible apply FactorRun.block_keeps
    | with_reducible apply State.stopCmd_keeps
    | with_reducible apply State.endCmd_keeps
    | with_reducible apply State.modCmd_keeps
    | with_reducible apply State.observe_keeps
    | lift_lets
    | (intro y; with_reducible refine Keeps.cut (x := y.1) ?_ (fun _ => ?_); rotate_left 1; clear_value y; rotate_left 1; unfold y)
    | (intro y; clear_value y)
    | with_reducible refine Keeps.ite (fun _ => ?_) (fun _ => ?_)
    | with_reducible refine Keeps.foldlP FactorRun.s ?_ _ _ (fun _ _ _ => ?_)
    | split

theorem factorCmd_keeps {s₀ : State} {s : State} (hk : Keeps s₀ s) (r q : Nat) :
    Keeps s₀ (factorCmd s r q) := by
  unfold factorCmd
  repeat' first
    | with_reducible assumption
    | with_reducible apply State.factorStart_keeps
    | with_reducible refine State.runCmd_keeps ?_ _ _ _ _ (fun _ _ _ => ?_)

theorem execFactorRefresh_keeps {s₀ : State} (ring seq : Nat) {s : State} (hk : Keeps s₀ s) {t₁ : State} (e₁ : execFactorRefresh ring seq s = .next t₁) :
    Keeps s₀ t₁ := by
  unfold execFactorRefresh State.done at e₁
  cases e₁
  apply State.observe_keeps
  repeat' first
    | with_reducible assumption
    | with_reducible apply factorCmd_keeps

theorem State.fulStep_keeps {s₀ : State} {s : State} (hk : Keeps s₀ s) (c : InFlight) (next : State → Nat → State) (hnext : ∀ t a0, Keeps s₀ t → Keeps s₀ (next t a0)) :
    Keeps s₀ (State.fulStep s c next) := by
  unfold State.fulStep
  repeat' first
    | with_reducible assumption
    | with_reducible apply hnext
    | with_reducible apply State.endCmd_keeps
    | lift_lets
    | (intro y; clear_value y)
    | with_reducible refine Keeps.ite (fun _ => ?_) (fun _ => ?_)
    | (with_reducible apply Keeps.upd; first | with_reducible assumption)
    | split

theorem State.fulCount_keeps {s₀ : State} {s : State} (hk : Keeps s₀ s) (f unc cont raw stored : Nat) :
    Keeps s₀ (State.fulCount s f unc cont raw stored) := by
  unfold State.fulCount
  repeat' first
    | with_reducible assumption
    | with_reducible apply State.addFld_keeps

theorem State.fulDone_keeps {s₀ : State} {s : State} (hk : Keeps s₀ s) (c : InFlight) (d : FulDesc) (good : Nat) :
    Keeps s₀ (State.fulDone s c d good) := by
  unfold State.fulDone
  repeat' first
    | with_reducible assumption
    | with_reducible apply State.endCmd_keeps
    | with_reducible apply State.wrDev_keeps
    | lift_lets
    | (intro y; with_reducible refine Keeps.cut (x := y.1) ?_ (fun _ => ?_); rotate_left 1; clear_value y; rotate_left 1; unfold y)
    | (intro y; clear_value y)
    | with_reducible refine Keeps.ite (fun _ => ?_) (fun _ => ?_)

theorem State.packNext_keeps {s₀ : State} {s : State} (hk : Keeps s₀ s) (c : InFlight) :
    Keeps s₀ (State.packNext s c) := by
  unfold State.packNext
  repeat' first
    | with_reducible assumption
    | with_reducible apply State.stopBad_keeps
    | with_reducible apply State.endCmd_keeps
    | with_reducible refine State.fulStep_keeps ?_ _ _ (fun _ _ _ => ?_)
    | with_reducible apply State.fulDone_keeps
    | with_reducible apply State.fulCount_keeps
    | with_reducible apply State.wrDev_keeps
    | with_reducible apply State.wrHost_keeps
    | with_reducible apply State.modCmd_keeps
    | with_reducible apply State.observe_keeps
    | lift_lets
    | (intro y; clear_value y)
    | with_reducible refine Keeps.ite (fun _ => ?_) (fun _ => ?_)
    | with_reducible refine Keeps.ite1 (fun _ => ?_) (fun _ => ?_)
    | split
    | dsimp only

theorem State.packStart_keeps {s₀ : State} {s : State} (hk : Keeps s₀ s) (c : InFlight) :
    Keeps s₀ (State.packStart s c) := by
  unfold State.packStart
  repeat' first
    | with_reducible assumption
    | with_reducible apply State.stopCmd_keeps
    | with_reducible apply State.packNext_keeps
    | with_reducible apply State.modCmd_keeps
    | lift_lets
    | (intro y; clear_value y)
    | split

theorem fulPackCmd_keeps {s₀ : State} {s : State} (hk : Keeps s₀ s) (r q : Nat) :
    Keeps s₀ (fulPackCmd s r q) := by
  unfold fulPackCmd
  repeat' first
    | with_reducible assumption
    | with_reducible apply State.packStart_keeps
    | with_reducible apply State.packNext_keeps
    | with_reducible refine State.contCmd_keeps ?_ _ _ _ _ _ (fun _ _ _ => ?_) (fun _ _ _ => ?_)

theorem State.corruptChunk_keeps {s₀ : State} {s : State} (hk : Keeps s₀ s) (c : InFlight) (d : FulDesc) (f i off good : Nat) (code : Code) :
    Keeps s₀ (State.corruptChunk s c d f i off good code) := by
  unfold State.corruptChunk
  repeat' first
    | with_reducible assumption
    | with_reducible apply State.endCmd_keeps
    | with_reducible apply State.setFld_keeps
    | with_reducible apply State.addFld_keeps
    | with_reducible apply State.recordError_keeps
    | with_reducible apply State.raise_keeps

theorem State.contStop_keeps {s₀ : State} {s : State} (hk : Keeps s₀ s) (c : InFlight) (d : FulDesc) (o n good : Nat) (e : Code) :
    Keeps s₀ (State.contStop s c d o n good e) := by
  unfold State.contStop
  repeat' first
    | with_reducible assumption
    | with_reducible apply State.stopCmd_keeps
    | with_reducible apply State.endCmd_keeps
    | with_reducible refine Keeps.ite (fun _ => ?_) (fun _ => ?_)

theorem State.putChunk_keeps {s₀ : State} {s : State} (hk : Keeps s₀ s) (p : Nat) (d : FulDesc) (xs : List (Nat × Nat)) :
    Keeps s₀ (State.putChunk s p d xs).1 := by
  unfold State.putChunk
  repeat' first
    | with_reducible assumption
    | with_reducible apply State.wrDev_keeps
    | lift_lets
    | (intro y; clear_value y)
    | (with_reducible apply Keeps.upd; first | with_reducible refine Keeps.foldl ?_ _ _ (fun _ _ _ => ?_))
    | with_reducible refine Keeps.ite1 (fun _ => ?_) (fun _ => ?_)

theorem State.unpackNext_keeps {s₀ : State} {s : State} (hk : Keeps s₀ s) (c : InFlight) :
    Keeps s₀ (State.unpackNext s c) := by
  unfold State.unpackNext
  repeat' first
    | with_reducible assumption
    | with_reducible apply State.endCmd_keeps
    | with_reducible apply State.putChunk_keeps
    | with_reducible apply State.fulDone_keeps
    | with_reducible apply State.fulCount_keeps
    | with_reducible apply State.observe_keeps
    | with_reducible apply State.corruptChunk_keeps
    | with_reducible refine State.fulStep_keeps ?_ _ _ (fun _ _ _ => ?_)
    | with_reducible apply State.modCmd_keeps
    | with_reducible apply State.contStop_keeps
    | lift_lets
    | (intro y; clear_value y)
    | with_reducible refine Keeps.ite (fun _ => ?_) (fun _ => ?_)
    | split
    | dsimp only

theorem fulUnpackCmd_keeps {s₀ : State} {s : State} (hk : Keeps s₀ s) (r q : Nat) :
    Keeps s₀ (fulUnpackCmd s r q) := by
  unfold fulUnpackCmd
  repeat' first
    | with_reducible assumption
    | with_reducible apply State.unpackNext_keeps
    | with_reducible refine State.contCmd_keeps ?_ _ _ _ _ _ (fun _ _ _ => ?_) (fun _ _ _ => ?_)

theorem execFulPack_keeps {s₀ : State} (ring seq : Nat) {s : State} (hk : Keeps s₀ s) {t₁ : State} (e₁ : execFulPack ring seq s = .next t₁) :
    Keeps s₀ t₁ := by
  unfold execFulPack State.done at e₁
  cases e₁
  apply State.observe_keeps
  repeat' first
    | with_reducible assumption
    | with_reducible apply fulPackCmd_keeps

theorem execFulUnpack_keeps {s₀ : State} (ring seq : Nat) {s : State} (hk : Keeps s₀ s) {t₁ : State} (e₁ : execFulUnpack ring seq s = .next t₁) :
    Keeps s₀ t₁ := by
  unfold execFulUnpack State.done at e₁
  cases e₁
  apply State.observe_keeps
  repeat' first
    | with_reducible assumption
    | with_reducible apply fulUnpackCmd_keeps

theorem State.putSlot_keeps {s₀ : State} {s : State} (hk : Keeps s₀ s) (p v k : Nat) (x : VcSlot) :
    Keeps s₀ (State.putSlot s p v k x) := by
  unfold State.putSlot
  repeat' first
    | with_reducible assumption
    | with_reducible apply State.wrAll_keeps
    | with_reducible apply State.modVc_keeps

theorem State.vcOpenStart_keeps {s₀ : State} {s : State} (hk : Keeps s₀ s) (c : InFlight) :
    Keeps s₀ (State.vcOpenStart s c) := by
  unfold State.vcOpenStart
  repeat' first
    | with_reducible assumption
    | with_reducible apply State.stopCmd_keeps
    | with_reducible apply State.endCmd_keeps
    | with_reducible apply State.putSlot_keeps
    | lift_lets
    | (intro y; clear_value y)
    | with_reducible refine Keeps.ite (fun _ => ?_) (fun _ => ?_)
    | split

theorem State.vcCloseRun_keeps {s₀ : State} {s : State} (hk : Keeps s₀ s) (c : InFlight) :
    Keeps s₀ (State.vcCloseRun s c) := by
  unfold State.vcCloseRun
  repeat' first
    | with_reducible assumption
    | with_reducible apply State.endCmd_keeps
    | with_reducible apply State.modVc_keeps
    | with_reducible apply State.putSlot_keeps
    | lift_lets
    | (intro y; clear_value y)
    | with_reducible refine Keeps.ite (fun _ => ?_) (fun _ => ?_)
    | split

theorem State.vcCloseStart_keeps {s₀ : State} {s : State} (hk : Keeps s₀ s) (c : InFlight) :
    Keeps s₀ (State.vcCloseStart s c) := by
  unfold State.vcCloseStart
  repeat' first
    | with_reducible assumption
    | with_reducible apply State.vcCloseRun_keeps
    | with_reducible apply State.endCmd_keeps
    | lift_lets
    | (intro y; clear_value y)
    | with_reducible refine Keeps.ite (fun _ => ?_) (fun _ => ?_)
    | split

theorem State.vcReleaseRun_keeps {s₀ : State} {s : State} (hk : Keeps s₀ s) (c : InFlight) :
    Keeps s₀ (State.vcReleaseRun s c) := by
  unfold State.vcReleaseRun
  repeat' first
    | with_reducible assumption
    | with_reducible apply State.endCmd_keeps
    | with_reducible apply State.putSlot_keeps
    | lift_lets
    | (intro y; clear_value y)
    | with_reducible refine Keeps.ite (fun _ => ?_) (fun _ => ?_)
    | split

theorem State.vcReleaseStart_keeps {s₀ : State} {s : State} (hk : Keeps s₀ s) (c : InFlight) :
    Keeps s₀ (State.vcReleaseStart s c) := by
  unfold State.vcReleaseStart
  repeat' first
    | with_reducible assumption
    | with_reducible apply State.endCmd_keeps
    | with_reducible apply State.vcReleaseRun_keeps
    | with_reducible refine Keeps.ite (fun _ => ?_) (fun _ => ?_)
    | split

theorem State.fenceMax_keeps {s₀ : State} {s : State} (hk : Keeps s₀ s) (p a v : Nat) :
    Keeps s₀ (State.fenceMax s p a v).1 := by
  unfold State.fenceMax
  repeat' first
    | with_reducible assumption
    | with_reducible refine Keeps.ite1 (fun _ => ?_) (fun _ => ?_)
    | split
    | (refine State.applySignal_keeps ?_ (e := by assumption))

theorem State.vcDecodeRun_keeps {s₀ : State} {s : State} (hk : Keeps s₀ s) (c : InFlight) (v k : Nat) (x : VcSlot) :
    Keeps s₀ (State.vcDecodeRun s c v k x) := by
  unfold State.vcDecodeRun
  repeat' first
    | with_reducible assumption
    | with_reducible apply State.stopCmd_keeps
    | with_reducible apply State.endCmd_keeps
    | with_reducible apply State.addFld_keeps
    | with_reducible apply State.raise_keeps
    | with_reducible apply State.observe_keeps
    | with_reducible apply State.modCmd_keeps
    | with_reducible apply State.fenceMax_keeps
    | with_reducible apply State.wrAll_keeps
    | with_reducible apply State.putSlot_keeps
    | lift_lets
    | (intro y; with_reducible refine Keeps.cut (x := y.1) ?_ (fun _ => ?_); rotate_left 1; clear_value y; rotate_left 1; unfold y)
    | (intro y; clear_value y)
    | with_reducible refine Keeps.ite (fun _ => ?_) (fun _ => ?_)
    | split

theorem State.vcSlice_keeps {s₀ : State} {s : State} (hk : Keeps s₀ s) (c : InFlight) (e : EncRun) :
    Keeps s₀ (State.vcSlice s c e).1 := by
  unfold State.vcSlice
  repeat' first
    | with_reducible assumption
    | with_reducible apply State.fenceMax_keeps
    | with_reducible apply State.putRecord_keeps
    | with_reducible apply State.wrDev_keeps
    | lift_lets
    | (intro y; with_reducible refine Keeps.cut (x := y.1) ?_ (fun _ => ?_); rotate_left 1; clear_value y; rotate_left 1; unfold y)
    | (intro y; clear_value y)
    | with_reducible refine Keeps.ite1 (fun _ => ?_) (fun _ => ?_)

theorem State.vcEncodeEnd_keeps {s₀ : State} {s : State} (hk : Keeps s₀ s) (c : InFlight) (v k : Nat) (x : VcSlot) (e : EncRun) :
    Keeps s₀ (State.vcEncodeEnd s c v k x e) := by
  unfold State.vcEncodeEnd
  repeat' first
    | with_reducible assumption
    | with_reducible apply State.endCmd_keeps
    | with_reducible apply State.addFld_keeps
    | with_reducible apply State.raise_keeps
    | with_reducible apply State.observe_keeps
    | with_reducible apply State.modCmd_keeps
    | with_reducible apply State.wrAll_keeps
    | with_reducible apply State.putSlot_keeps
    | lift_lets
    | (intro y; with_reducible refine Keeps.cut (x := y.1) ?_ (fun _ => ?_); rotate_left 1; clear_value y; rotate_left 1; unfold y)
    | (intro y; clear_value y)
    | with_reducible refine Keeps.ite (fun _ => ?_) (fun _ => ?_)

theorem State.vcEncodeStop_keeps {s₀ : State} {s : State} (hk : Keeps s₀ s) (c : InFlight) (v k : Nat) (x : VcSlot) (e : EncRun) (code : Code) :
    Keeps s₀ (State.vcEncodeStop s c v k x e code) := by
  unfold State.vcEncodeStop
  repeat' first
    | with_reducible assumption
    | with_reducible apply State.endCmd_keeps
    | with_reducible apply State.modCmd_keeps
    | with_reducible apply State.putSlot_keeps

theorem State.vcEncodeRow_keeps {s₀ : State} {s : State} (hk : Keeps s₀ s) (c : InFlight) (v k : Nat) (x : VcSlot) :
    Keeps s₀ (State.vcEncodeRow s c v k x) := by
  unfold State.vcEncodeRow
  repeat' first
    | with_reducible assumption
    | with_reducible apply State.vcEncodeStop_keeps
    | with_reducible apply State.vcEncodeEnd_keeps
    | with_reducible apply State.vcSlice_keeps
    | with_reducible apply State.recordBad_keeps
    | with_reducible apply State.modCmd_keeps
    | lift_lets
    | (intro y; clear_value y)
    | with_reducible refine Keeps.ite (fun _ => ?_) (fun _ => ?_)
    | with_reducible refine Keeps.ite1 (fun _ => ?_) (fun _ => ?_)
    | split
    | dsimp only

theorem State.vcEncodeRun_keeps {s₀ : State} {s : State} (hk : Keeps s₀ s) (c : InFlight) (v k : Nat) (x : VcSlot) :
    Keeps s₀ (State.vcEncodeRun s c v k x) := by
  unfold State.vcEncodeRun
  repeat' first
    | with_reducible assumption
    | with_reducible apply State.stopCmd_keeps
    | with_reducible apply State.endCmd_keeps
    | with_reducible apply State.vcEncodeRow_keeps
    | with_reducible apply State.wrAll_keeps
    | with_reducible apply State.modCmd_keeps
    | with_reducible apply State.modVc_keeps
    | lift_lets
    | (intro y; clear_value y)
    | with_reducible refine Keeps.ite (fun _ => ?_) (fun _ => ?_)
    | (with_reducible apply Keeps.upd; first | with_reducible refine Keeps.foldl ?_ _ _ (fun _ _ _ => ?_))
    | split
    | dsimp only

theorem State.vcPictureRun_keeps {s₀ : State} {s : State} (hk : Keeps s₀ s) (c : InFlight) :
    Keeps s₀ (State.vcPictureRun s c) := by
  unfold State.vcPictureRun
  repeat' first
    | with_reducible assumption
    | with_reducible apply State.endCmd_keeps
    | with_reducible apply State.vcEncodeRun_keeps
    | with_reducible apply State.vcDecodeRun_keeps
    | with_reducible apply State.modVc_keeps
    | lift_lets
    | (intro y; with_reducible refine Keeps.cut (x := y) ?_ (fun _ => ?_); rotate_left 1; clear_value y; rotate_left 1; unfold y)
    | (intro y; clear_value y)
    | with_reducible refine Keeps.ite (fun _ => ?_) (fun _ => ?_)
    | split

theorem State.vcPictureStart_keeps {s₀ : State} {s : State} (hk : Keeps s₀ s) (c : InFlight) :
    Keeps s₀ (State.vcPictureStart s c) := by
  unfold State.vcPictureStart
  repeat' first
    | with_reducible assumption
    | with_reducible apply State.endCmd_keeps
    | with_reducible apply State.vcPictureRun_keeps
    | with_reducible refine Keeps.ite (fun _ => ?_) (fun _ => ?_)
    | split

theorem vcRowStart_keeps {s₀ : State} {s : State} (hk : Keeps s₀ s) (r q : Nat) :
    Keeps s₀ (vcRowStart s r q) := by
  unfold vcRowStart
  repeat' first
    | with_reducible assumption
    | with_reducible apply State.vcEncodeRow_keeps
    | with_reducible refine State.contCmd_keeps ?_ _ _ _ _ _ (fun _ _ _ => ?_) (fun _ _ _ => ?_)
    | with_reducible apply State.vcPictureStart_keeps
    | with_reducible apply State.vcPictureRun_keeps
    | lift_lets
    | (intro y; clear_value y)
    | with_reducible refine Keeps.ite (fun _ => ?_) (fun _ => ?_)
    | split

theorem vcOpenCmd_keeps {s₀ : State} {s : State} (hk : Keeps s₀ s) (r q : Nat) :
    Keeps s₀ (vcOpenCmd s r q) := by
  unfold vcOpenCmd
  repeat' first
    | with_reducible assumption
    | with_reducible apply State.vcOpenStart_keeps
    | with_reducible refine State.runCmd_keeps ?_ _ _ _ _ (fun _ _ _ => ?_)

theorem vcCloseCmd_keeps {s₀ : State} {s : State} (hk : Keeps s₀ s) (r q : Nat) :
    Keeps s₀ (vcCloseCmd s r q) := by
  unfold vcCloseCmd
  repeat' first
    | with_reducible assumption
    | with_reducible apply State.vcCloseRun_keeps
    | with_reducible refine State.contCmd_keeps ?_ _ _ _ _ _ (fun _ _ _ => ?_) (fun _ _ _ => ?_)
    | with_reducible apply State.vcCloseStart_keeps

theorem vcDecodeCmd_keeps {s₀ : State} {s : State} (hk : Keeps s₀ s) (r q : Nat) :
    Keeps s₀ (vcDecodeCmd s r q) := by
  unfold vcDecodeCmd
  repeat' first
    | with_reducible assumption
    | with_reducible refine State.contCmd_keeps ?_ _ _ _ _ _ (fun _ _ _ => ?_) (fun _ _ _ => ?_)
    | with_reducible apply State.vcPictureStart_keeps
    | with_reducible apply State.vcPictureRun_keeps

theorem vcEncodeCmd_keeps {s₀ : State} {s : State} (hk : Keeps s₀ s) (r q : Nat) :
    Keeps s₀ (vcEncodeCmd s r q) := by
  unfold vcEncodeCmd
  repeat' first
    | with_reducible assumption
    | with_reducible refine State.contCmd_keeps ?_ _ _ _ _ _ (fun _ _ _ => ?_) (fun _ _ _ => ?_)
    | with_reducible apply State.vcPictureStart_keeps
    | with_reducible apply State.vcPictureRun_keeps

theorem vcReleaseCmd_keeps {s₀ : State} {s : State} (hk : Keeps s₀ s) (r q : Nat) :
    Keeps s₀ (vcReleaseCmd s r q) := by
  unfold vcReleaseCmd
  repeat' first
    | with_reducible assumption
    | with_reducible apply State.vcReleaseRun_keeps
    | with_reducible refine State.contCmd_keeps ?_ _ _ _ _ _ (fun _ _ _ => ?_) (fun _ _ _ => ?_)
    | with_reducible apply State.vcReleaseStart_keeps

theorem State.closeSessions_keeps {s₀ : State} {s : State} (hk : Keeps s₀ s) (v : Nat) :
    Keeps s₀ (State.closeSessions s v) := by
  unfold State.closeSessions
  repeat' first
    | with_reducible assumption
    | with_reducible apply State.wrDev_keeps
    | with_reducible apply State.raise_keeps
    | with_reducible apply State.modVc_keeps
    | lift_lets
    | (intro y; with_reducible refine Keeps.cut (x := y) ?_ (fun _ => ?_); rotate_left 1; clear_value y; rotate_left 1; unfold y)
    | (intro y; clear_value y)
    | with_reducible refine Keeps.ite (fun _ => ?_) (fun _ => ?_)
    | (with_reducible apply Keeps.upd; first | with_reducible refine Keeps.foldl ?_ _ _ (fun _ _ _ => ?_))
    | split

theorem execVcOpen_keeps {s₀ : State} (ring seq : Nat) {s : State} (hk : Keeps s₀ s) {t₁ : State} (e₁ : execVcOpen ring seq s = .next t₁) :
    Keeps s₀ t₁ := by
  unfold execVcOpen State.done at e₁
  cases e₁
  apply State.observe_keeps
  repeat' first
    | with_reducible assumption
    | with_reducible apply vcOpenCmd_keeps

theorem execVcClose_keeps {s₀ : State} (ring seq : Nat) {s : State} (hk : Keeps s₀ s) {t₁ : State} (e₁ : execVcClose ring seq s = .next t₁) :
    Keeps s₀ t₁ := by
  unfold execVcClose State.done at e₁
  cases e₁
  apply State.observe_keeps
  repeat' first
    | with_reducible assumption
    | with_reducible apply vcCloseCmd_keeps

theorem execVcDecode_keeps {s₀ : State} (ring seq : Nat) {s : State} (hk : Keeps s₀ s) {t₁ : State} (e₁ : execVcDecode ring seq s = .next t₁) :
    Keeps s₀ t₁ := by
  unfold execVcDecode State.done at e₁
  cases e₁
  apply State.observe_keeps
  repeat' first
    | with_reducible assumption
    | with_reducible apply vcDecodeCmd_keeps

theorem execVcEncode_keeps {s₀ : State} (ring seq : Nat) {s : State} (hk : Keeps s₀ s) {t₁ : State} (e₁ : execVcEncode ring seq s = .next t₁) :
    Keeps s₀ t₁ := by
  unfold execVcEncode State.done at e₁
  cases e₁
  apply State.observe_keeps
  repeat' first
    | with_reducible assumption
    | with_reducible apply vcEncodeCmd_keeps

theorem execVcEncodeRowStart_keeps {s₀ : State} (ring seq : Nat) {s : State} (hk : Keeps s₀ s) {t₁ : State} (e₁ : execVcEncodeRowStart ring seq s = .next t₁) :
    Keeps s₀ t₁ := by
  unfold execVcEncodeRowStart State.done at e₁
  cases e₁
  apply State.observe_keeps
  repeat' first
    | with_reducible assumption
    | with_reducible apply vcRowStart_keeps

theorem execVcRelease_keeps {s₀ : State} (ring seq : Nat) {s : State} (hk : Keeps s₀ s) {t₁ : State} (e₁ : execVcRelease ring seq s = .next t₁) :
    Keeps s₀ t₁ := by
  unfold execVcRelease State.done at e₁
  cases e₁
  apply State.observe_keeps
  repeat' first
    | with_reducible assumption
    | with_reducible apply vcReleaseCmd_keeps

theorem State.recordFetchBad_keeps {s₀ : State} {s : State} (hk : Keeps s₀ s) (p a n : Nat) :
    Keeps s₀ (State.recordFetchBad s p a n) := by
  unfold State.recordFetchBad
  repeat' first
    | with_reducible assumption
    | with_reducible apply State.recordBad_keeps
    | split

theorem State.recordCheckBad_keeps {s₀ s : State} (h : Keeps s₀ s) (p r : Nat) (c : Cmd) : Keeps s₀ (s.recordCheckBad p r c) := by
  unfold State.recordCheckBad
  extract_lets x at_ s1
  have ha : ∀ {t : State} (en : Bool) (i : Nat), Keeps s₀ t → Keeps s₀ (at_ t en i) := fun _ _ ht =>
    Keeps.ite (fun _ => State.recordFetchBad_keeps ht ..) (fun _ => ht)
  have h1 : Keeps s₀ s1 := Keeps.ite (fun _ => h) (fun _ => State.recordFetchBad_keeps h ..)
  exact ha _ _ (ha _ _ (ha _ _ h1))

theorem State.takeCmd_keeps {s₀ : State} {s : State} (hk : Keeps s₀ s) (p r seq ccp : Nat) (b : List Byte) (f : InFlight → InFlight) :
    Keeps s₀ (State.takeCmd s p r seq ccp b f) := by
  unfold State.takeCmd
  repeat' first
    | with_reducible assumption
    | with_reducible apply State.observe_keeps
    | lift_lets
    | (with_reducible apply Keeps.upd; first | with_reducible apply State.recordCheckBad_keeps)

theorem State.fetchFrom_keeps {s₀ : State} {s : State} (hk : Keeps s₀ s) (k r : Nat) :
    Keeps s₀ (State.fetchFrom s k r) := by
  unfold State.fetchFrom
  repeat' first
    | with_reducible assumption
    | with_reducible apply State.takeCmd_keeps
    | with_reducible apply State.modRing_keeps
    | with_reducible apply State.recordFetchBad_keeps
    | with_reducible apply State.setRing_keeps
    | lift_lets
    | (intro y; with_reducible refine Keeps.cut (x := y) ?_ (fun _ => ?_); rotate_left 1; clear_value y; rotate_left 1; unfold y)
    | with_reducible refine Keeps.ite (fun _ => ?_) (fun _ => ?_)
    | (with_reducible apply Keeps.upd; first | with_reducible assumption)
    | split

theorem State.takeIssued_keeps {s₀ : State} {s : State} (hk : Keeps s₀ s) (k n : Nat) :
    Keeps s₀ (State.takeIssued s k n) := by
  unfold State.takeIssued
  repeat' first
    | with_reducible assumption
    | with_reducible apply State.takeCmd_keeps
    | with_reducible apply State.modTc_keeps
    | lift_lets
    | (intro y; clear_value y)
    | split

theorem commandFetch_keeps {s₀ : State} {s : State} (hk : Keeps s₀ s) (k : Nat) :
    Keeps s₀ (commandFetch s k) := by
  unfold commandFetch
  repeat' first
    | with_reducible assumption
    | with_reducible apply State.fetchFrom_keeps
    | with_reducible refine State.unlessHeld_keeps ?_ _ (fun _ _ => ?_)
    | with_reducible apply State.takeIssued_keeps
    | with_reducible refine Keeps.ite (fun _ => ?_) (fun _ => ?_)
    | split

theorem execCommandFetch_keeps {s₀ : State} (ccp : Nat) {s : State} (hk : Keeps s₀ s) {t₁ : State} (e₁ : execCommandFetch ccp s = .next t₁) :
    Keeps s₀ t₁ := by
  unfold execCommandFetch State.done at e₁
  cases e₁
  apply State.observe_keeps
  repeat' first
    | with_reducible assumption
    | with_reducible apply commandFetch_keeps

theorem dwQueueEnable_keeps {s₀ : State} {s : State} (hk : Keeps s₀ s) (who : Requester) (h : Nat) (v : Word64) :
    Keeps s₀ (dwQueueEnable s who h v) := by
  unfold dwQueueEnable
  repeat' first
    | with_reducible assumption
    | with_reducible apply State.modHp_keeps
    | with_reducible apply State.setFld_keeps
    | with_reducible apply State.refuseF_keeps
    | with_reducible apply State.refuse_keeps
    | with_reducible refine State.letIn_keeps ?_ _ _ _ (fun _ _ => ?_)
    | lift_lets
    | (intro y; with_reducible refine Keeps.cut (x := y) ?_ (fun _ => ?_); rotate_left 1; clear_value y; rotate_left 1; unfold y)
    | (intro y; clear_value y)
    | with_reducible refine Keeps.ite (fun _ => ?_) (fun _ => ?_)

theorem State.dwStop_keeps {s₀ : State} {s : State} (hk : Keeps s₀ s) (h : Nat) (code : Code) :
    Keeps s₀ (State.dwStop s h code) := by
  unfold State.dwStop
  repeat' first
    | with_reducible assumption
    | with_reducible apply State.setFld_keeps

theorem dwSqTailWrite_keeps {s₀ : State} {s : State} (hk : Keeps s₀ s) (who : Requester) (h : Nat) (v : Word64) :
    Keeps s₀ (dwSqTailWrite s who h v) := by
  unfold dwSqTailWrite
  repeat' first
    | with_reducible assumption
    | with_reducible apply State.modHp_keeps
    | with_reducible apply State.dwStop_keeps
    | lift_lets
    | (intro y; clear_value y)
    | with_reducible refine Keeps.ite (fun _ => ?_) (fun _ => ?_)

theorem dwCqHeadWrite_keeps {s₀ : State} {s : State} (hk : Keeps s₀ s) (who : Requester) (h : Nat) (v : Word64) :
    Keeps s₀ (dwCqHeadWrite s who h v) := by
  unfold dwCqHeadWrite
  repeat' first
    | with_reducible assumption
    | with_reducible apply State.modHp_keeps
    | lift_lets
    | (intro y; clear_value y)
    | with_reducible refine Keeps.ite (fun _ => ?_) (fun _ => ?_)

theorem State.dwIssue_keeps {s₀ : State} {s : State} (hk : Keeps s₀ s) (h r : Nat) (b : List Byte) (op need : Nat) (body : List Byte) :
    Keeps s₀ (State.dwIssue s h r b op need body) := by
  unfold State.dwIssue
  repeat' first
    | with_reducible assumption
    | with_reducible apply State.observe_keeps
    | lift_lets
    | (with_reducible apply Keeps.upd; first | with_reducible apply State.setRing_keeps)

theorem dwCommand_keeps {s₀ s : State} (hk : Keeps s₀ s) (h r : Nat) : Keeps s₀ (dwCommand s h r) := by
  unfold dwCommand
  extract_lets pg n q at_ b take fail
  have ht : ∀ {t : State}, Keeps s₀ t → Keeps s₀ (take t) := fun h => State.setFld_keeps (State.modHp_keeps h ..) ..
  have hf : ∀ e, Keeps s₀ (fail e) := fun _ => State.putDw_keeps (ht hk) ..
  refine Keeps.ite (fun _ => hk) (fun _ => Keeps.ite (fun _ => State.dwStop_keeps hk ..) (fun _ => ?_))
  split
  · exact hf _
  · refine Keeps.ite (fun _ => hf _) (fun _ => ?_)
    split
    · exact hf _
    · exact Keeps.ite (fun _ => State.dwIssue_keeps (ht hk) ..) (fun _ => hk)

theorem execDwQueueEnable_keeps {s₀ : State} (who : Requester) (port : Nat) (v : Word64) {s : State} (hk : Keeps s₀ s) {t₁ : State} (e₁ : execDwQueueEnable who port v s = .next t₁) :
    Keeps s₀ t₁ := by
  unfold execDwQueueEnable State.done at e₁
  cases e₁
  apply State.observe_keeps
  repeat' first
    | with_reducible assumption
    | with_reducible apply dwQueueEnable_keeps

theorem execDwSqTailWrite_keeps {s₀ : State} (who : Requester) (port : Nat) (v : Word64) {s : State} (hk : Keeps s₀ s) {t₁ : State} (e₁ : execDwSqTailWrite who port v s = .next t₁) :
    Keeps s₀ t₁ := by
  unfold execDwSqTailWrite State.done at e₁
  cases e₁
  apply State.observe_keeps
  repeat' first
    | with_reducible assumption
    | with_reducible apply dwSqTailWrite_keeps

theorem execDwCqHeadWrite_keeps {s₀ : State} (who : Requester) (port : Nat) (v : Word64) {s : State} (hk : Keeps s₀ s) {t₁ : State} (e₁ : execDwCqHeadWrite who port v s = .next t₁) :
    Keeps s₀ t₁ := by
  unfold execDwCqHeadWrite State.done at e₁
  cases e₁
  apply State.observe_keeps
  repeat' first
    | with_reducible assumption
    | with_reducible apply dwCqHeadWrite_keeps

theorem execDwCommand_keeps {s₀ : State} (port ring : Nat) {s : State} (hk : Keeps s₀ s) {t₁ : State} (e₁ : execDwCommand port ring s = .next t₁) :
    Keeps s₀ t₁ := by
  unfold execDwCommand State.done at e₁
  cases e₁
  apply State.observe_keeps
  repeat' first
    | with_reducible assumption
    | with_reducible apply dwCommand_keeps

theorem State.rtRespond_keeps {s₀ : State} {s : State} (hk : Keeps s₀ s) (p tag status r1 r2 : Nat) :
    Keeps s₀ (State.rtRespond s p tag status r1 r2) := by
  unfold State.rtRespond
  repeat' first
    | with_reducible assumption
    | with_reducible apply State.setFld_keeps
    | with_reducible apply State.wrHost_keeps
    | lift_lets
    | (intro y; with_reducible refine Keeps.cut (x := y) ?_ (fun _ => ?_); rotate_left 1; clear_value y; rotate_left 1; unfold y)
    | (intro y; clear_value y)
    | with_reducible apply Keeps.emit

theorem State.rtTake_keeps {s₀ : State} {s : State} (hk : Keeps s₀ s) (p : Nat) :
    Keeps s₀ (State.rtTake s p) := by
  unfold State.rtTake
  repeat' first
    | with_reducible assumption
    | with_reducible apply State.setFld_keeps

theorem State.rtUnknown_keeps {s₀ s : State} (h : Keeps s₀ s) (p n : Nat) : Keeps s₀ (s.rtUnknown p n) := by
  induction n generalizing s with
  | zero => exact h
  | succ n ih =>
    unfold State.rtUnknown
    split
    · exact h
    · exact Keeps.ite (fun _ => h) (fun _ => ih (State.rtRespond_keeps (State.rtTake_keeps h ..) ..))

theorem State.rtServe_keeps {s₀ : State} {s : State} (hk : Keeps s₀ s) (p op : Nat) (f : State → List Byte → State) (hf : ∀ t a0, Keeps s₀ t → Keeps s₀ (f t a0)) :
    Keeps s₀ (State.rtServe s p op f) := by
  unfold State.rtServe
  repeat' first
    | with_reducible assumption
    | with_reducible apply hf
    | with_reducible apply State.rtTake_keeps
    | with_reducible apply State.rtUnknown_keeps
    | with_reducible refine Keeps.ite (fun _ => ?_) (fun _ => ?_)
    | split

theorem State.rtFail_keeps {s₀ : State} {s : State} (hk : Keeps s₀ s) (p : Nat) (b : List Byte) (code : Code) :
    Keeps s₀ (State.rtFail s p b code) := by
  unfold State.rtFail
  repeat' first
    | with_reducible assumption
    | with_reducible apply State.rtRespond_keeps

theorem rtDoorbell_keeps {s₀ : State} {s : State} (hk : Keeps s₀ s) (who : Requester) (p : Nat) (v : Word64) :
    Keeps s₀ (rtDoorbell s who p v) := by
  unfold rtDoorbell
  repeat' first
    | with_reducible assumption
    | with_reducible refine State.letIn_keeps ?_ _ _ _ (fun _ _ => ?_)
    | with_reducible apply State.modPart_keeps
    | with_reducible apply State.rtUnknown_keeps

theorem State.rmtWrite_keeps {s₀ : State} {s : State} (hk : Keeps s₀ s) (i o : Nat) (bs : List Byte) :
    Keeps s₀ (State.rmtWrite s i o bs) := by
  unfold State.rmtWrite
  repeat' first
    | with_reducible assumption
    | with_reducible apply State.wrDev_keeps

theorem State.evictModel_keeps {s₀ : State} {s : State} (hk : Keeps s₀ s) (p i : Nat) (b : List Byte) :
    Keeps s₀ (State.evictModel s p i b) := by
  unfold State.evictModel
  repeat' first
    | with_reducible apply State.rmtWrite_keeps
    | lift_lets
    | (with_reducible apply Keeps.upd; first | with_reducible assumption)

theorem modelLoad_keeps {s₀ : State} {s : State} (hk : Keeps s₀ s) (p list : Nat) (rs : List (Nat × Nat)) :
    Keeps s₀ (modelLoad s p list rs) := by
  unfold modelLoad
  repeat' first
    | with_reducible assumption
    | with_reducible refine State.rtServe_keeps ?_ _ _ _ (fun _ _ _ => ?_)
    | with_reducible apply State.rtFail_keeps
    | with_reducible apply State.modPart_keeps
    | with_reducible apply State.evictModel_keeps
    | with_reducible apply State.rmtWrite_keeps
    | with_reducible apply State.wrDev_keeps
    | lift_lets
    | (intro y; with_reducible refine Keeps.cut (x := y) ?_ (fun _ => ?_); rotate_left 1; clear_value y; rotate_left 1; unfold y)
    | (intro y; clear_value y)
    | with_reducible refine Keeps.ite (fun _ => ?_) (fun _ => ?_)
    | split

theorem State.loadRegions_keeps {s₀ s : State} (hk : Keeps s₀ s) (p h src : Nat) (l : List (Nat × Nat)) :
    Keeps s₀ (s.loadRegions p h src l) := by
  induction l generalizing s src with
  | nil => exact hk
  | cons r rs ih => exact ih (State.wrDev_keeps hk ..) _

theorem modelLoadDone_keeps {s₀ : State} {s : State} (hk : Keeps s₀ s) (p : Nat) :
    Keeps s₀ (modelLoadDone s p) := by
  unfold modelLoadDone
  repeat' first
    | with_reducible assumption
    | with_reducible apply State.rtRespond_keeps
    | with_reducible apply State.modPart_keeps
    | with_reducible apply State.rmtWrite_keeps
    | with_reducible apply State.loadRegions_keeps
    | lift_lets
    | (intro y; with_reducible refine Keeps.cut (x := y) ?_ (fun _ => ?_); rotate_left 1; clear_value y; rotate_left 1; unfold y)
    | (intro y; clear_value y)
    | with_reducible refine Keeps.ite (fun _ => ?_) (fun _ => ?_)
    | split

theorem modelEvict_keeps {s₀ : State} {s : State} (hk : Keeps s₀ s) (p : Nat) :
    Keeps s₀ (modelEvict s p) := by
  unfold modelEvict
  repeat' first
    | with_reducible assumption
    | with_reducible refine State.rtServe_keeps ?_ _ _ _ (fun _ _ _ => ?_)
    | with_reducible apply State.rtFail_keeps
    | with_reducible apply State.rtRespond_keeps
    | with_reducible apply State.evictModel_keeps
    | lift_lets
    | (intro y; clear_value y)
    | with_reducible refine Keeps.ite (fun _ => ?_) (fun _ => ?_)
    | split

theorem modelPin_keeps {s₀ : State} {s : State} (hk : Keeps s₀ s) (p : Nat) :
    Keeps s₀ (modelPin s p) := by
  unfold modelPin
  repeat' first
    | with_reducible assumption
    | with_reducible refine State.rtServe_keeps ?_ _ _ _ (fun _ _ _ => ?_)
    | with_reducible apply State.rtFail_keeps
    | with_reducible apply State.rtRespond_keeps
    | with_reducible apply State.pinModel_keeps
    | lift_lets
    | (intro y; clear_value y)
    | with_reducible refine Keeps.ite (fun _ => ?_) (fun _ => ?_)
    | split

theorem contextCreate_keeps {s₀ : State} {s : State} (hk : Keeps s₀ s) (p map : Nat) (areas : List Nat) :
    Keeps s₀ (contextCreate s p map areas) := by
  unfold contextCreate
  repeat' first
    | with_reducible assumption
    | with_reducible refine State.rtServe_keeps ?_ _ _ _ (fun _ _ _ => ?_)
    | with_reducible apply State.rtFail_keeps
    | with_reducible apply State.rtRespond_keeps
    | with_reducible apply State.makeReady_keeps
    | with_reducible apply State.wrDev_keeps
    | lift_lets
    | (intro y; with_reducible refine Keeps.cut (x := y.1) ?_ (fun _ => ?_); rotate_left 1; clear_value y; rotate_left 1; unfold y)
    | (intro y; clear_value y)
    | with_reducible refine Keeps.ite (fun _ => ?_) (fun _ => ?_)
    | split

theorem contextDestroy_keeps {s₀ : State} {s : State} (hk : Keeps s₀ s) (p : Nat) :
    Keeps s₀ (contextDestroy s p) := by
  unfold contextDestroy
  repeat' first
    | with_reducible assumption
    | with_reducible refine State.rtServe_keeps ?_ _ _ _ (fun _ _ _ => ?_)
    | with_reducible apply State.rtFail_keeps
    | with_reducible apply State.rtRespond_keeps
    | with_reducible apply State.emptyCtx_keeps
    | lift_lets
    | (intro y; clear_value y)
    | with_reducible refine Keeps.ite (fun _ => ?_) (fun _ => ?_)

theorem tierPolicy_keeps {s₀ : State} {s : State} (hk : Keeps s₀ s) (p : Nat) :
    Keeps s₀ (tierPolicy s p) := by
  unfold tierPolicy
  repeat' first
    | with_reducible assumption
    | with_reducible refine State.rtServe_keeps ?_ _ _ _ (fun _ _ _ => ?_)
    | with_reducible apply State.rtFail_keeps
    | with_reducible apply State.rtRespond_keeps
    | with_reducible apply State.modPart_keeps
    | with_reducible apply State.setFld_keeps
    | lift_lets
    | (intro y; with_reducible refine Keeps.cut (x := y) ?_ (fun _ => ?_); rotate_left 1; clear_value y; rotate_left 1; unfold y)
    | (intro y; clear_value y)
    | with_reducible refine Keeps.ite (fun _ => ?_) (fun _ => ?_)

theorem rwtGrant_keeps {s₀ s : State} (hk : Keeps s₀ s) (p alloc : Nat) : Keeps s₀ (rwtGrant s p alloc) := by
  unfold rwtGrant
  refine State.rtServe_keeps hk _ _ _ (fun t b ht => ?_)
  extract_lets bytes dev sem n perm
  clear_value bytes dev sem n perm
  refine Keeps.ite (fun _ => State.rtFail_keeps ht ..) (fun _ => Keeps.ite (fun _ => State.rtFail_keeps ht ..) (fun _ =>
    Keeps.ite (fun _ => State.rtFail_keeps ht ..) (fun _ => ?_)))
  split
  · exact State.rtFail_keeps ht ..
  · have h2 := State.draw_keeps ht
    generalize t.draw = o at h2
    rcases o with ⟨k, t2⟩
    replace h2 : Keeps s₀ t2 := h2
    dsimp -zeta only
    extract_lets key e t3
    have h3 : Keeps s₀ t3 := h2.upd
    exact State.rtRespond_keeps h3 ..

theorem query_keeps {s₀ : State} {s : State} (hk : Keeps s₀ s) (p : Nat) :
    Keeps s₀ (query s p) := by
  unfold query
  repeat' first
    | with_reducible assumption
    | with_reducible refine State.rtServe_keeps ?_ _ _ _ (fun _ _ _ => ?_)
    | with_reducible apply State.rtFail_keeps
    | with_reducible apply State.rtRespond_keeps
    | lift_lets
    | (intro y; clear_value y)
    | with_reducible refine Keeps.ite (fun _ => ?_) (fun _ => ?_)

theorem execRtDoorbell_keeps {s₀ : State} (who : Requester) (part : Nat) (v : Word64) {s : State} (hk : Keeps s₀ s) {t₁ : State} (e₁ : execRtDoorbell who part v s = .next t₁) :
    Keeps s₀ t₁ := by
  unfold execRtDoorbell State.done at e₁
  cases e₁
  apply State.observe_keeps
  repeat' first
    | with_reducible assumption
    | with_reducible apply rtDoorbell_keeps

theorem execModelLoad_keeps {s₀ : State} (part list : Nat) (regions : List (Nat × Nat)) {s : State} (hk : Keeps s₀ s) {t₁ : State} (e₁ : execModelLoad part list regions s = .next t₁) :
    Keeps s₀ t₁ := by
  unfold execModelLoad State.done at e₁
  cases e₁
  apply State.observe_keeps
  repeat' first
    | with_reducible assumption
    | with_reducible apply modelLoad_keeps

theorem execModelLoadDone_keeps {s₀ : State} (part : Nat) {s : State} (hk : Keeps s₀ s) {t₁ : State} (e₁ : execModelLoadDone part s = .next t₁) :
    Keeps s₀ t₁ := by
  unfold execModelLoadDone State.done at e₁
  cases e₁
  apply State.observe_keeps
  repeat' first
    | with_reducible assumption
    | with_reducible apply modelLoadDone_keeps

theorem execModelEvict_keeps {s₀ : State} (part : Nat) {s : State} (hk : Keeps s₀ s) {t₁ : State} (e₁ : execModelEvict part s = .next t₁) :
    Keeps s₀ t₁ := by
  unfold execModelEvict State.done at e₁
  cases e₁
  apply State.observe_keeps
  repeat' first
    | with_reducible assumption
    | with_reducible apply modelEvict_keeps

theorem execModelPin_keeps {s₀ : State} (part : Nat) {s : State} (hk : Keeps s₀ s) {t₁ : State} (e₁ : execModelPin part s = .next t₁) :
    Keeps s₀ t₁ := by
  unfold execModelPin State.done at e₁
  cases e₁
  apply State.observe_keeps
  repeat' first
    | with_reducible assumption
    | with_reducible apply modelPin_keeps

theorem execContextCreate_keeps {s₀ : State} (part map : Nat) (areas : List Nat) {s : State} (hk : Keeps s₀ s) {t₁ : State} (e₁ : execContextCreate part map areas s = .next t₁) :
    Keeps s₀ t₁ := by
  unfold execContextCreate State.done at e₁
  cases e₁
  apply State.observe_keeps
  repeat' first
    | with_reducible assumption
    | with_reducible apply contextCreate_keeps

theorem execContextDestroy_keeps {s₀ : State} (part : Nat) {s : State} (hk : Keeps s₀ s) {t₁ : State} (e₁ : execContextDestroy part s = .next t₁) :
    Keeps s₀ t₁ := by
  unfold execContextDestroy State.done at e₁
  cases e₁
  apply State.observe_keeps
  repeat' first
    | with_reducible assumption
    | with_reducible apply contextDestroy_keeps

theorem execTierPolicy_keeps {s₀ : State} (part : Nat) {s : State} (hk : Keeps s₀ s) {t₁ : State} (e₁ : execTierPolicy part s = .next t₁) :
    Keeps s₀ t₁ := by
  unfold execTierPolicy State.done at e₁
  cases e₁
  apply State.observe_keeps
  repeat' first
    | with_reducible assumption
    | with_reducible apply tierPolicy_keeps

theorem execRwtGrant_keeps {s₀ : State} (part alloc : Nat) {s : State} (hk : Keeps s₀ s) {t₁ : State} (e₁ : execRwtGrant part alloc s = .next t₁) :
    Keeps s₀ t₁ := by
  unfold execRwtGrant State.done at e₁
  cases e₁
  apply State.observe_keeps
  repeat' first
    | with_reducible assumption
    | with_reducible apply rwtGrant_keeps

theorem execQuery_keeps {s₀ : State} (part : Nat) {s : State} (hk : Keeps s₀ s) {t₁ : State} (e₁ : execQuery part s = .next t₁) :
    Keeps s₀ t₁ := by
  unfold execQuery State.done at e₁
  cases e₁
  apply State.observe_keeps
  repeat' first
    | with_reducible assumption
    | with_reducible apply query_keeps

theorem State.resetPages_keeps {s₀ : State} {s : State} (hk : Keeps s₀ s) (pick : Nat → Bool) :
    Keeps s₀ (State.resetPages s pick) := by
  unfold State.resetPages
  repeat' first
    | (with_reducible apply Keeps.upd; first | with_reducible assumption)

theorem State.rebuildSet_keeps {s₀ : State} {s : State} (hk : Keeps s₀ s) (t : Nat) :
    Keeps s₀ (State.rebuildSet s t) := by
  unfold State.rebuildSet
  repeat' first
    | with_reducible assumption
    | with_reducible apply State.lose_keeps
    | with_reducible apply State.trimUnit_keeps
    | lift_lets
    | (with_reducible apply Keeps.upd; first | with_reducible refine Keeps.foldl ?_ _ _ (fun _ _ _ => ?_))
    | dsimp only

theorem State.rebuildSets_keeps {s₀ : State} {s : State} (hk : Keeps s₀ s) (p : Nat) :
    Keeps s₀ (State.rebuildSets s p) := by
  unfold State.rebuildSets
  repeat' first
    | with_reducible assumption
    | with_reducible apply State.frameRetired_keeps
    | with_reducible apply State.rebuildSet_keeps
    | with_reducible apply State.mapRetired_keeps
    | lift_lets
    | with_reducible refine Keeps.ite (fun _ => ?_) (fun _ => ?_)
    | (with_reducible apply Keeps.upd; first | with_reducible refine Keeps.foldl ?_ _ _ (fun _ _ _ => ?_))

theorem State.takeFailed_keeps {s₀ : State} {s : State} (hk : Keeps s₀ s) (p : Nat) :
    Keeps s₀ (State.takeFailed s p) := by
  unfold State.takeFailed
  repeat' first
    | with_reducible assumption
    | with_reducible apply State.setFld_keeps
    | with_reducible apply State.trimUnit_keeps
    | lift_lets
    | (intro y; with_reducible refine Keeps.cut (x := y) ?_ (fun _ => ?_); rotate_left 1; clear_value y; rotate_left 1; unfold y)
    | (intro y; clear_value y)
    | with_reducible refine Keeps.ite (fun _ => ?_) (fun _ => ?_)
    | (with_reducible apply Keeps.upd; first | with_reducible assumption | with_reducible refine Keeps.foldl ?_ _ _ (fun _ _ _ => ?_))

theorem State.resetPart_keeps {s₀ : State} {s : State} (hk : Keeps s₀ s) (p : Nat) :
    Keeps s₀ (State.resetPart s p) := by
  unfold State.resetPart
  repeat' first
    | with_reducible assumption
    | with_reducible apply State.closeSessions_keeps
    | with_reducible apply State.modPart_keeps
    | with_reducible apply State.loseUnits_keeps
    | with_reducible apply State.setFld_keeps
    | with_reducible apply State.emptyCtx_keeps
    | with_reducible apply State.resetPages_keeps
    | with_reducible apply State.endAll_keeps
    | with_reducible apply State.takeFailed_keeps
    | with_reducible apply State.rebuildSets_keeps
    | with_reducible apply State.freeTable_keeps
    | with_reducible apply State.noticeReset_keeps
    | lift_lets
    | (intro y; clear_value y)
    | (with_reducible apply Keeps.upd; first | with_reducible apply State.setFld_keeps | with_reducible apply State.clearSticky_keeps | with_reducible refine Keeps.foldl ?_ _ _ (fun _ _ _ => ?_))

theorem State.startPartReset_keeps {s₀ : State} {s : State} (hk : Keeps s₀ s) (p : Nat) :
    Keeps s₀ (State.startPartReset s p) := by
  unfold State.startPartReset
  repeat' first
    | with_reducible assumption
    | with_reducible apply State.modPart_keeps
    | with_reducible apply State.setFld_keeps
    | with_reducible apply State.resetPart_keeps
    | lift_lets
    | (intro y; with_reducible refine Keeps.cut (x := y) ?_ (fun _ => ?_); rotate_left 1; clear_value y; rotate_left 1; unfold y)
    | with_reducible refine Keeps.ite (fun _ => ?_) (fun _ => ?_)

theorem partitionResetDone_keeps {s₀ : State} {s : State} (hk : Keeps s₀ s) (p : Nat) :
    Keeps s₀ (partitionResetDone s p) := by
  unfold partitionResetDone
  repeat' first
    | with_reducible assumption
    | with_reducible apply State.modPart_keeps
    | with_reducible apply State.resetPart_keeps
    | with_reducible refine Keeps.ite (fun _ => ?_) (fun _ => ?_)

theorem flr_keeps {s₀ : State} {s : State} (hk : Keeps s₀ s) (who : Requester) :
    Keeps s₀ (flr s who) := by
  unfold flr
  repeat' first
    | with_reducible assumption
    | with_reducible apply State.startPartReset_keeps
    | with_reducible apply State.releaseLock_keeps
    | lift_lets
    | with_reducible refine Keeps.ite (fun _ => ?_) (fun _ => ?_)
    | (with_reducible apply Keeps.upd; first | with_reducible refine Keeps.foldl ?_ _ _ (fun _ _ _ => ?_))
    | split

theorem State.dropSvn_keeps {s₀ : State} {s : State} (hk : Keeps s₀ s) :
    Keeps s₀ (State.dropSvn s) := by
  unfold State.dropSvn
  repeat' first
    | with_reducible assumption
    | lift_lets
    | with_reducible refine Keeps.ite (fun _ => ?_) (fun _ => ?_)
    | (with_reducible apply Keeps.upd; first | with_reducible apply State.draw_keeps)

theorem State.logInFlight_keeps {s₀ : State} {s : State} (hk : Keeps s₀ s) :
    Keeps s₀ (State.logInFlight s) := by
  unfold State.logInFlight
  repeat' first
    | with_reducible assumption
    | with_reducible apply State.modHp_keeps
    | with_reducible apply State.dropWork_keeps
    | with_reducible apply State.dropCmd_keeps
    | with_reducible apply State.logRecord_keeps
    | lift_lets
    | (intro y; with_reducible refine Keeps.cut (x := y) ?_ (fun _ => ?_); rotate_left 1; clear_value y; rotate_left 1; unfold y)
    | (intro y; clear_value y)
    | with_reducible refine Keeps.ite (fun _ => ?_) (fun _ => ?_)
    | (with_reducible apply Keeps.upd; first | with_reducible refine Keeps.foldl ?_ _ _ (fun _ _ _ => ?_))

theorem State.abortLive_keeps {s₀ : State} {s : State} (hk : Keeps s₀ s) :
    Keeps s₀ (State.abortLive s) := by
  unfold State.abortLive
  repeat' first
    | with_reducible assumption
    | with_reducible apply State.abortCtx_keeps
    | (with_reducible apply Keeps.upd; first | with_reducible refine Keeps.foldl ?_ _ _ (fun _ _ _ => ?_))
    | split

theorem State.wiped_keeps {s₀ : State} {s : State} (hk : Keeps s₀ s) (kept : Option Bool) :
    Keeps s₀ (State.wiped s kept) := by
  unfold State.wiped
  repeat' first
    | with_reducible assumption
    | with_reducible apply State.dropSvn_keeps
    | lift_lets
    | (intro y; with_reducible refine Keeps.cut (x := y) ?_ (fun _ => ?_); rotate_left 1; clear_value y; rotate_left 1; unfold y)
    | (intro y; clear_value y)
    | (with_reducible apply Keeps.upd; first | with_reducible apply State.lose_keeps)
    | split

theorem State.beginReset_keeps {s₀ : State} {s : State} (hk : Keeps s₀ s) (retained : Bool) (cause : Nat) :
    Keeps s₀ (State.beginReset s retained cause) := by
  unfold State.beginReset
  repeat' first
    | with_reducible assumption
    | with_reducible apply State.settleKv_keeps
    | with_reducible apply State.abortLive_keeps
    | with_reducible apply State.logInFlight_keeps
    | with_reducible apply State.setFld_keeps
    | with_reducible apply State.setBit_keeps
    | lift_lets
    | (intro y; clear_value y)
    | with_reducible refine Keeps.ite (fun _ => ?_) (fun _ => ?_)
    | (with_reducible apply Keeps.upd; first | with_reducible apply State.wiped_keeps)

theorem State.packageReset_keeps {s₀ : State} {s : State} (hk : Keeps s₀ s) (retained : Bool) (cause : Nat) :
    Keeps s₀ (State.packageReset s retained cause) := by
  unfold State.packageReset
  repeat' first
    | with_reducible assumption
    | with_reducible apply State.setFld_keeps
    | with_reducible apply State.requestPreempt_keeps
    | with_reducible apply State.beginReset_keeps
    | lift_lets
    | (intro y; with_reducible refine Keeps.cut (x := y) ?_ (fun _ => ?_); rotate_left 1; clear_value y; rotate_left 1; unfold y)
    | (intro y; clear_value y)
    | with_reducible refine Keeps.ite (fun _ => ?_) (fun _ => ?_)
    | (with_reducible apply Keeps.upd; first | with_reducible assumption | with_reducible refine Keeps.foldl ?_ _ _ (fun _ _ _ => ?_))

theorem State.crnReset_keeps {s₀ : State} {s : State} (hk : Keeps s₀ s) (who : Requester) (crown : Nat) (v : Word64) :
    Keeps s₀ (State.crnReset s who crown v) := by
  unfold State.crnReset
  repeat' first
    | with_reducible assumption
    | with_reducible apply State.packageReset_keeps
    | with_reducible apply State.refuseF_keeps
    | with_reducible apply State.startPartReset_keeps
    | with_reducible refine State.letIn_keeps ?_ _ _ _ (fun _ _ => ?_)
    | lift_lets
    | (intro y; clear_value y)
    | with_reducible refine Keeps.ite (fun _ => ?_) (fun _ => ?_)

theorem resetNAssert_keeps {s₀ : State} {s : State} (hk : Keeps s₀ s) :
    Keeps s₀ (resetNAssert s) := by
  unfold resetNAssert
  repeat' first
    | with_reducible assumption
    | with_reducible apply State.packageReset_keeps
    | with_reducible apply State.beginReset_keeps
    | lift_lets
    | (intro y; with_reducible refine Keeps.cut (x := y) ?_ (fun _ => ?_); rotate_left 1; clear_value y; rotate_left 1; unfold y)
    | (intro y; clear_value y)
    | with_reducible refine Keeps.ite (fun _ => ?_) (fun _ => ?_)
    | (with_reducible apply Keeps.upd; first | with_reducible assumption)

theorem retainDiscard_keeps {s₀ : State} {s : State} (hk : Keeps s₀ s) (who : Requester) (h : Nat) :
    Keeps s₀ (retainDiscard s who h) := by
  unfold retainDiscard
  repeat' first
    | with_reducible assumption
    | with_reducible apply State.beginReset_keeps
    | with_reducible refine State.letIn_keeps ?_ _ _ _ (fun _ _ => ?_)
    | with_reducible apply State.packageReset_keeps
    | lift_lets
    | with_reducible refine Keeps.ite (fun _ => ?_) (fun _ => ?_)

theorem execPartitionResetDone_keeps {s₀ : State} (part : Nat) {s : State} (hk : Keeps s₀ s) {t₁ : State} (e₁ : execPartitionResetDone part s = .next t₁) :
    Keeps s₀ t₁ := by
  unfold execPartitionResetDone State.done at e₁
  cases e₁
  apply State.observe_keeps
  repeat' first
    | with_reducible assumption
    | with_reducible apply partitionResetDone_keeps

theorem execFlr_keeps {s₀ : State} (who : Requester) {s : State} (hk : Keeps s₀ s) {t₁ : State} (e₁ : execFlr who s = .next t₁) :
    Keeps s₀ t₁ := by
  unfold execFlr State.done at e₁
  cases e₁
  apply State.observe_keeps
  repeat' first
    | with_reducible assumption
    | with_reducible apply flr_keeps

theorem execCrnResetPart_keeps {s₀ : State} (who : Requester) (crown : Nat) (v : Word64) {s : State} (hk : Keeps s₀ s) {t₁ : State} (e₁ : execCrnResetPart who crown v s = .next t₁) :
    Keeps s₀ t₁ := by
  unfold execCrnResetPart State.done at e₁
  cases e₁
  apply State.observe_keeps
  repeat' first
    | with_reducible assumption
    | with_reducible apply State.crnReset_keeps

theorem execCrnResetPkg_keeps {s₀ : State} (who : Requester) (crown : Nat) (v : Word64) {s : State} (hk : Keeps s₀ s) {t₁ : State} (e₁ : execCrnResetPkg who crown v s = .next t₁) :
    Keeps s₀ t₁ := by
  unfold execCrnResetPkg State.done at e₁
  cases e₁
  apply State.observe_keeps
  repeat' first
    | with_reducible assumption
    | with_reducible apply State.crnReset_keeps

theorem execResetNAssert_keeps {s₀ : State} {s : State} (hk : Keeps s₀ s) {t₁ : State} (e₁ : execResetNAssert s = .next t₁) :
    Keeps s₀ t₁ := by
  unfold execResetNAssert State.done at e₁
  cases e₁
  apply State.observe_keeps
  repeat' first
    | with_reducible assumption
    | with_reducible apply resetNAssert_keeps

theorem execRetainDiscard_keeps {s₀ : State} (who : Requester) (port : Nat) {s : State} (hk : Keeps s₀ s) {t₁ : State} (e₁ : execRetainDiscard who port s = .next t₁) :
    Keeps s₀ t₁ := by
  unfold execRetainDiscard State.done at e₁
  cases e₁
  apply State.observe_keeps
  repeat' first
    | with_reducible assumption
    | with_reducible apply retainDiscard_keeps

theorem State.recordSlots_keeps {s₀ : State} {s : State} (hk : Keeps s₀ s) (slots : List FwSlot) (counter : Nat) :
    Keeps s₀ (State.recordSlots s slots counter) := by
  unfold State.recordSlots
  repeat' first
    | with_reducible assumption
    | with_reducible apply State.crnRecord_keeps
    | with_reducible refine Keeps.ite (fun _ => ?_) (fun _ => ?_)
    | (with_reducible apply Keeps.upd; first | with_reducible refine Keeps.foldl ?_ _ _ (fun _ _ _ => ?_))

theorem State.buildTrim_keeps {s₀ : State} {s : State} (hk : Keeps s₀ s) (f : BootReport) :
    Keeps s₀ (State.buildTrim s f) := by
  unfold State.buildTrim
  repeat' first
    | with_reducible assumption
    | with_reducible apply State.raise_keeps
    | lift_lets
    | (intro y; with_reducible refine Keeps.cut (x := y) ?_ (fun _ => ?_); rotate_left 1; clear_value y; rotate_left 1; unfold y)
    | (intro y; clear_value y)
    | with_reducible refine Keeps.ite (fun _ => ?_) (fun _ => ?_)
    | (with_reducible apply Keeps.upd; first | with_reducible assumption)

theorem State.trainChannels_keeps {s₀ : State} {s : State} (hk : Keeps s₀ s) (f : BootReport) :
    Keeps s₀ (State.trainChannels s f) := by
  unfold State.trainChannels
  repeat' first
    | with_reducible assumption
    | with_reducible apply State.markOut_keeps
    | with_reducible apply State.setFld_keeps
    | lift_lets
    | (intro y; with_reducible refine Keeps.cut (x := y) ?_ (fun _ => ?_); rotate_left 1; clear_value y; rotate_left 1; unfold y)
    | with_reducible refine Keeps.ite (fun _ => ?_) (fun _ => ?_)
    | (with_reducible apply Keeps.upd; first | with_reducible assumption | with_reducible refine Keeps.foldl ?_ _ _ (fun _ _ _ => ?_))

theorem State.showGens_keeps {s₀ : State} {s : State} (hk : Keeps s₀ s) :
    Keeps s₀ (State.showGens s) := by
  unfold State.showGens
  repeat' first
    | with_reducible assumption
    | with_reducible apply State.setFld_keeps

theorem State.loadBank_keeps {s₀ : State} {s : State} (hk : Keeps s₀ s) (b : Bank) (slot : Option Nat) :
    Keeps s₀ (State.loadBank s b slot) := by
  unfold State.loadBank
  repeat' first
    | with_reducible apply State.driveStrokeOut_keeps
    | with_reducible apply State.setReg_keeps
    | with_reducible apply State.setFld_keeps
    | with_reducible apply State.showGens_keeps
    | lift_lets
    | (intro y; clear_value y)
    | (with_reducible apply Keeps.upd; first | with_reducible assumption | with_reducible apply State.setFld_keeps)

theorem State.freePools_keeps {s₀ : State} {s : State} (hk : Keeps s₀ s) :
    Keeps s₀ (State.freePools s) := by
  unfold State.freePools
  repeat' first
    | with_reducible assumption
    | with_reducible apply State.freeTable_keeps
    | with_reducible refine Keeps.ite (fun _ => ?_) (fun _ => ?_)
    | (with_reducible apply Keeps.upd; first | with_reducible refine Keeps.foldl ?_ _ _ (fun _ _ _ => ?_))

theorem State.loseReformed_keeps {s₀ : State} {s : State} (hk : Keeps s₀ s) :
    Keeps s₀ (State.loseReformed s) := by
  unfold State.loseReformed
  repeat' first
    | with_reducible assumption
    | with_reducible apply State.lose_keeps
    | lift_lets
    | (intro y; with_reducible refine Keeps.cut (x := y) ?_ (fun _ => ?_); rotate_left 1; clear_value y; rotate_left 1; unfold y)
    | (intro y; clear_value y)
    | with_reducible refine Keeps.ite (fun _ => ?_) (fun _ => ?_)
    | (with_reducible apply Keeps.upd; first | with_reducible assumption | with_reducible refine Keeps.foldl ?_ _ _ (fun _ _ _ => ?_))

theorem State.loadShape_keeps {s₀ : State} {s : State} (hk : Keeps s₀ s) :
    Keeps s₀ (State.loadShape s) := by
  unfold State.loadShape
  repeat' first
    | with_reducible assumption
    | with_reducible apply State.loseReformed_keeps
    | with_reducible apply State.setFld_keeps
    | with_reducible apply State.loadBank_keeps
    | with_reducible apply State.recordError_keeps
    | with_reducible apply State.freePools_keeps
    | with_reducible apply State.mapRetired_keeps
    | lift_lets
    | split

theorem State.judgeService_keeps {s₀ : State} {s : State} (hk : Keeps s₀ s) (refclk : Bool) (bootLead : Nat) :
    Keeps s₀ (State.judgeService s refclk bootLead) := by
  unfold State.judgeService
  repeat' first
    | with_reducible assumption
    | with_reducible apply State.setBit_keeps
    | lift_lets
    | (intro y; with_reducible refine Keeps.cut (x := y) ?_ (fun _ => ?_); rotate_left 1; clear_value y; rotate_left 1; unfold y)
    | (intro y; clear_value y)
    | (with_reducible apply Keeps.upd; first | with_reducible apply State.setBit_keeps)

theorem State.startPorts_keeps {s₀ : State} {s : State} (hk : Keeps s₀ s) :
    Keeps s₀ (State.startPorts s) := by
  unfold State.startPorts
  repeat' first
    | with_reducible assumption
    | with_reducible apply State.setPort_keeps
    | with_reducible refine Keeps.ite (fun _ => ?_) (fun _ => ?_)
    | (with_reducible apply Keeps.upd; first | with_reducible refine Keeps.foldl ?_ _ _ (fun _ _ _ => ?_))

theorem State.bootKeys_keeps {s₀ : State} {s : State} (hk : Keeps s₀ s) (f : BootReport) :
    Keeps s₀ (State.bootKeys s f).1 := by
  unfold State.bootKeys
  repeat' first
    | with_reducible assumption
    | with_reducible apply State.setBit_keeps
    | with_reducible apply State.crnRecord_keeps
    | lift_lets
    | (intro y; with_reducible refine Keeps.cut (x := y) ?_ (fun _ => ?_); rotate_left 1; clear_value y; rotate_left 1; unfold y)
    | (intro y; clear_value y)
    | with_reducible refine Keeps.ite (fun _ => ?_) (fun _ => ?_)
    | (with_reducible apply Keeps.upd; first | with_reducible assumption | with_reducible refine Keeps.foldl ?_ _ _ (fun _ _ _ => ?_))

theorem State.toRecovery_keeps {s₀ : State} {s : State} (hk : Keeps s₀ s) (lead : Nat) (code : Code) :
    Keeps s₀ (State.toRecovery s lead code) := by
  unfold State.toRecovery
  repeat' first
    | with_reducible assumption
    | with_reducible apply State.crnRecord_keeps
    | lift_lets
    | (intro y; with_reducible refine Keeps.cut (x := y) ?_ (fun _ => ?_); rotate_left 1; clear_value y; rotate_left 1; unfold y)
    | with_reducible refine Keeps.ite (fun _ => ?_) (fun _ => ?_)
    | (with_reducible apply Keeps.upd; first | with_reducible assumption)

theorem State.bootService_keeps {s₀ : State} {s : State} (hk : Keeps s₀ s) (f : BootReport) (lead a b : Nat) :
    Keeps s₀ (State.bootService s f lead a b) := by
  unfold State.bootService
  repeat' first
    | with_reducible apply State.buildTrim_keeps
    | with_reducible apply State.trainChannels_keeps
    | with_reducible apply State.setFld_keeps
    | with_reducible apply State.judgeService_keeps
    | with_reducible apply State.startPorts_keeps
    | with_reducible apply State.loadShape_keeps
    | lift_lets
    | (intro y; clear_value y)
    | (with_reducible apply Keeps.upd; first | with_reducible assumption)

theorem State.boot_keeps {s₀ : State} {s : State} (hk : Keeps s₀ s) (f : BootReport) :
    Keeps s₀ (State.boot s f) := by
  unfold State.boot
  repeat' first
    | with_reducible assumption
    | with_reducible apply State.bootService_keeps
    | with_reducible apply State.toRecovery_keeps
    | with_reducible apply State.recordSlots_keeps
    | with_reducible apply State.bootKeys_keeps
    | lift_lets
    | with_reducible refine Keeps.ite (fun _ => ?_) (fun _ => ?_)
    | split

theorem State.openDebug_keeps {s₀ : State} {s : State} (hk : Keeps s₀ s) :
    Keeps s₀ (State.openDebug s) := by
  unfold State.openDebug
  repeat' first
    | with_reducible assumption
    | with_reducible apply State.setFld_keeps
    | with_reducible apply State.zeroHbm_keeps
    | lift_lets
    | (intro y; with_reducible refine Keeps.cut (x := y) ?_ (fun _ => ?_); rotate_left 1; clear_value y; rotate_left 1; unfold y)
    | with_reducible refine Keeps.ite (fun _ => ?_) (fun _ => ?_)
    | (with_reducible apply Keeps.upd; first | with_reducible assumption)

theorem State.holdRetained_keeps {s₀ : State} {s : State} (hk : Keeps s₀ s) :
    Keeps s₀ (State.holdRetained s) := by
  unfold State.holdRetained
  repeat' first
    | with_reducible assumption
    | with_reducible apply State.setFld_keeps
    | with_reducible apply State.raise_keeps
    | lift_lets
    | with_reducible refine Keeps.ite (fun _ => ?_) (fun _ => ?_)
    | (with_reducible apply Keeps.upd; first | with_reducible refine Keeps.foldl ?_ _ _ (fun _ _ _ => ?_))

theorem packageResetDone_keeps {s₀ : State} {s : State} (hk : Keeps s₀ s) (f : BootReport) :
    Keeps s₀ (packageResetDone s f) := by
  unfold packageResetDone
  repeat' first
    | with_reducible assumption
    | with_reducible apply State.boot_keeps
    | with_reducible apply State.openDebug_keeps
    | with_reducible apply State.setFld_keeps
    | with_reducible apply State.beginReset_keeps
    | with_reducible apply State.holdRetained_keeps
    | lift_lets
    | (intro y; with_reducible refine Keeps.cut (x := y) ?_ (fun _ => ?_); rotate_left 1; clear_value y; rotate_left 1; unfold y)
    | with_reducible refine Keeps.ite (fun _ => ?_) (fun _ => ?_)
    | (with_reducible apply Keeps.upd; first | with_reducible assumption)
    | split

theorem State.startBoot_keeps {s₀ : State} {s : State} (hk : Keeps s₀ s) :
    Keeps s₀ (State.startBoot s) := by
  unfold State.startBoot
  repeat' first
    | with_reducible apply State.setReg_keeps
    | with_reducible apply State.setFld_keeps
    | lift_lets
    | (intro y; clear_value y)
    | (with_reducible apply Keeps.upd; first | with_reducible assumption)

theorem State.tryBoot_keeps {s₀ : State} {s : State} (hk : Keeps s₀ s) :
    Keeps s₀ (State.tryBoot s) := by
  unfold State.tryBoot
  repeat' first
    | with_reducible assumption
    | with_reducible apply State.startBoot_keeps
    | with_reducible refine Keeps.ite (fun _ => ?_) (fun _ => ?_)

theorem coldPowerOn_keeps {s₀ : State} {s : State} (hk : Keeps s₀ s) :
    Keeps s₀ (coldPowerOn s) := by
  unfold coldPowerOn
  repeat' first
    | with_reducible assumption
    | with_reducible apply State.tryBoot_keeps
    | lift_lets
    | (intro y; with_reducible refine Keeps.cut (x := y) ?_ (fun _ => ?_); rotate_left 1; clear_value y; rotate_left 1; unfold y)
    | (intro y; clear_value y)
    | with_reducible refine Keeps.ite (fun _ => ?_) (fun _ => ?_)
    | (with_reducible apply Keeps.upd; first | with_reducible assumption)

theorem bootComplete_keeps {s₀ : State} {s : State} (hk : Keeps s₀ s) (f : BootReport) :
    Keeps s₀ (bootComplete s f) := by
  unfold bootComplete
  repeat' first
    | with_reducible assumption
    | with_reducible apply State.boot_keeps
    | lift_lets
    | (intro y; with_reducible refine Keeps.cut (x := y) ?_ (fun _ => ?_); rotate_left 1; clear_value y; rotate_left 1; unfold y)
    | with_reducible refine Keeps.ite (fun _ => ?_) (fun _ => ?_)
    | (with_reducible apply Keeps.upd; first | with_reducible assumption)

theorem resetNRelease_keeps {s₀ : State} {s : State} (hk : Keeps s₀ s) :
    Keeps s₀ (resetNRelease s) := by
  unfold resetNRelease
  repeat' first
    | with_reducible apply State.tryBoot_keeps
    | (with_reducible apply Keeps.upd; first | with_reducible assumption)

theorem State.losePower_keeps {s₀ : State} {s : State} (hk : Keeps s₀ s) :
    Keeps s₀ (State.losePower s) := by
  unfold State.losePower
  repeat' first
    | with_reducible assumption
    | with_reducible apply State.wiped_keeps
    | lift_lets
    | (intro y; with_reducible refine Keeps.cut (x := y) ?_ (fun _ => ?_); rotate_left 1; clear_value y; rotate_left 1; unfold y)
    | with_reducible refine Keeps.ite (fun _ => ?_) (fun _ => ?_)
    | (with_reducible apply Keeps.upd; first | with_reducible assumption)

theorem pwrGoodFall_keeps {s₀ : State} {s : State} (hk : Keeps s₀ s) :
    Keeps s₀ (pwrGoodFall s) := by
  unfold pwrGoodFall
  repeat' first
    | with_reducible assumption
    | with_reducible apply State.losePower_keeps
    | lift_lets
    | (intro y; with_reducible refine Keeps.cut (x := y) ?_ (fun _ => ?_); rotate_left 1; clear_value y; rotate_left 1; unfold y)
    | (with_reducible apply Keeps.upd; first | with_reducible assumption)

theorem v48Loss_keeps {s₀ : State} {s : State} (hk : Keeps s₀ s) :
    Keeps s₀ (v48Loss s) := by
  unfold v48Loss
  repeat' first
    | with_reducible assumption
    | with_reducible apply State.losePower_keeps
    | lift_lets
    | (intro y; with_reducible refine Keeps.cut (x := y) ?_ (fun _ => ?_); rotate_left 1; clear_value y; rotate_left 1; unfold y)
    | (with_reducible apply Keeps.upd; first | with_reducible assumption)

theorem v48Threshold_keeps {s₀ : State} {s : State} (hk : Keeps s₀ s) (mV : Nat) :
    Keeps s₀ (v48Threshold s mV) := by
  unfold v48Threshold
  repeat' first
    | with_reducible assumption
    | with_reducible apply State.setAlert_keeps
    | lift_lets
    | (intro y; clear_value y)
    | with_reducible refine Keeps.ite (fun _ => ?_) (fun _ => ?_)
    | with_reducible apply Keeps.emit
    | (with_reducible apply Keeps.upd; first | with_reducible assumption)

theorem mainPowerApply_keeps {s₀ : State} {s : State} (hk : Keeps s₀ s) :
    Keeps s₀ (mainPowerApply s) := by
  unfold mainPowerApply
  repeat' first
    | with_reducible assumption
    | with_reducible refine Keeps.ite (fun _ => ?_) (fun _ => ?_)
    | (with_reducible apply Keeps.upd; first | with_reducible assumption)

theorem softStartDone_keeps {s₀ : State} {s : State} (hk : Keeps s₀ s) :
    Keeps s₀ (softStartDone s) := by
  unfold softStartDone
  repeat' first
    | with_reducible assumption
    | with_reducible apply State.tryBoot_keeps
    | with_reducible refine Keeps.ite (fun _ => ?_) (fun _ => ?_)
    | (with_reducible apply Keeps.upd; first | with_reducible assumption)

theorem standbyPowerLoss_keeps {s₀ : State} {s : State} (hk : Keeps s₀ s) :
    Keeps s₀ (standbyPowerLoss s) := by
  unfold standbyPowerLoss
  repeat' first
    | with_reducible assumption
    | with_reducible apply State.losePower_keeps
    | lift_lets
    | (intro y; with_reducible refine Keeps.cut (x := y) ?_ (fun _ => ?_); rotate_left 1; clear_value y; rotate_left 1; unfold y)
    | (with_reducible apply Keeps.upd; first | with_reducible assumption)

theorem standbyPowerOn_keeps {s₀ : State} {s : State} (hk : Keeps s₀ s) (vbatHeld : Bool) :
    Keeps s₀ (standbyPowerOn s vbatHeld) := by
  unfold standbyPowerOn
  repeat' first
    | with_reducible assumption
    | with_reducible apply State.setReg_keeps
    | with_reducible apply State.setAlert_keeps
    | lift_lets
    | (intro y; with_reducible refine Keeps.cut (x := y) ?_ (fun _ => ?_); rotate_left 1; clear_value y; rotate_left 1; unfold y)
    | (intro y; clear_value y)
    | with_reducible refine Keeps.ite (fun _ => ?_) (fun _ => ?_)
    | (with_reducible apply Keeps.upd; first | with_reducible assumption)

theorem execPackageResetDone_keeps {s₀ : State} (found : BootReport) {s : State} (hk : Keeps s₀ s) {t₁ : State} (e₁ : execPackageResetDone found s = .next t₁) :
    Keeps s₀ t₁ := by
  unfold execPackageResetDone State.done at e₁
  cases e₁
  apply State.observe_keeps
  repeat' first
    | with_reducible assumption
    | with_reducible apply packageResetDone_keeps

theorem execColdPowerOn_keeps {s₀ : State} {s : State} (hk : Keeps s₀ s) {t₁ : State} (e₁ : execColdPowerOn s = .next t₁) :
    Keeps s₀ t₁ := by
  unfold execColdPowerOn State.done at e₁
  cases e₁
  apply State.observe_keeps
  repeat' first
    | with_reducible assumption
    | with_reducible apply coldPowerOn_keeps

theorem execBootComplete_keeps {s₀ : State} (found : BootReport) {s : State} (hk : Keeps s₀ s) {t₁ : State} (e₁ : execBootComplete found s = .next t₁) :
    Keeps s₀ t₁ := by
  unfold execBootComplete State.done at e₁
  cases e₁
  apply State.observe_keeps
  repeat' first
    | with_reducible assumption
    | with_reducible apply bootComplete_keeps

theorem execResetNRelease_keeps {s₀ : State} {s : State} (hk : Keeps s₀ s) {t₁ : State} (e₁ : execResetNRelease s = .next t₁) :
    Keeps s₀ t₁ := by
  unfold execResetNRelease State.done at e₁
  cases e₁
  apply State.observe_keeps
  repeat' first
    | with_reducible assumption
    | with_reducible apply resetNRelease_keeps

theorem execPwrGoodFall_keeps {s₀ : State} {s : State} (hk : Keeps s₀ s) {t₁ : State} (e₁ : execPwrGoodFall s = .next t₁) :
    Keeps s₀ t₁ := by
  unfold execPwrGoodFall State.done at e₁
  cases e₁
  apply State.observe_keeps
  repeat' first
    | with_reducible assumption
    | with_reducible apply pwrGoodFall_keeps

theorem execV48Loss_keeps {s₀ : State} {s : State} (hk : Keeps s₀ s) {t₁ : State} (e₁ : execV48Loss s = .next t₁) :
    Keeps s₀ t₁ := by
  unfold execV48Loss State.done at e₁
  cases e₁
  apply State.observe_keeps
  repeat' first
    | with_reducible assumption
    | with_reducible apply v48Loss_keeps

theorem execV48Threshold_keeps {s₀ : State} (mV : Nat) {s : State} (hk : Keeps s₀ s) {t₁ : State} (e₁ : execV48Threshold mV s = .next t₁) :
    Keeps s₀ t₁ := by
  unfold execV48Threshold State.done at e₁
  cases e₁
  apply State.observe_keeps
  repeat' first
    | with_reducible assumption
    | with_reducible apply v48Threshold_keeps

theorem execMainPowerApply_keeps {s₀ : State} {s : State} (hk : Keeps s₀ s) {t₁ : State} (e₁ : execMainPowerApply s = .next t₁) :
    Keeps s₀ t₁ := by
  unfold execMainPowerApply State.done at e₁
  cases e₁
  apply State.observe_keeps
  repeat' first
    | with_reducible assumption
    | with_reducible apply mainPowerApply_keeps

theorem execSoftStartDone_keeps {s₀ : State} {s : State} (hk : Keeps s₀ s) {t₁ : State} (e₁ : execSoftStartDone s = .next t₁) :
    Keeps s₀ t₁ := by
  unfold execSoftStartDone State.done at e₁
  cases e₁
  apply State.observe_keeps
  repeat' first
    | with_reducible assumption
    | with_reducible apply softStartDone_keeps

theorem execStandbyPowerLoss_keeps {s₀ : State} {s : State} (hk : Keeps s₀ s) {t₁ : State} (e₁ : execStandbyPowerLoss s = .next t₁) :
    Keeps s₀ t₁ := by
  unfold execStandbyPowerLoss State.done at e₁
  cases e₁
  apply State.observe_keeps
  repeat' first
    | with_reducible assumption
    | with_reducible apply standbyPowerLoss_keeps

theorem execStandbyPowerOn_keeps {s₀ : State} (vbatHeld : Bool) {s : State} (hk : Keeps s₀ s) {t₁ : State} (e₁ : execStandbyPowerOn vbatHeld s = .next t₁) :
    Keeps s₀ t₁ := by
  unfold execStandbyPowerOn State.done at e₁
  cases e₁
  apply State.observe_keeps
  repeat' first
    | with_reducible assumption
    | with_reducible apply standbyPowerOn_keeps

theorem errorRingHeadWrite_keeps {s₀ : State} {s : State} (hk : Keeps s₀ s) (who : Requester) (crown : Nat) (v : Word64) :
    Keeps s₀ (errorRingHeadWrite s who crown v) := by
  unfold errorRingHeadWrite
  repeat' first
    | with_reducible assumption
    | with_reducible refine State.letIn_keeps ?_ _ _ _ (fun _ _ => ?_)
    | with_reducible apply State.passErrs_keeps
    | lift_lets
    | (intro y; clear_value y)
    | with_reducible refine Keeps.ite (fun _ => ?_) (fun _ => ?_)

theorem meshLinkFailed_keeps {s₀ : State} {s : State} (hk : Keeps s₀ s) (link : Nat) :
    Keeps s₀ (meshLinkFailed s link) := by
  unfold meshLinkFailed
  repeat' first
    | with_reducible assumption
    | with_reducible apply State.crnRecord_keeps
    | with_reducible refine Keeps.ite (fun _ => ?_) (fun _ => ?_)

theorem edieCrownFailed_keeps {s₀ : State} {s : State} (hk : Keeps s₀ s) (unit : Nat) :
    Keeps s₀ (edieCrownFailed s unit) := by
  unfold edieCrownFailed
  repeat' first
    | with_reducible assumption
    | with_reducible apply State.recordError_keeps
    | with_reducible refine Keeps.ite (fun _ => ?_) (fun _ => ?_)

theorem selfTestSweepDone_keeps {s₀ : State} {s : State} (hk : Keeps s₀ s) (failing : List (Nat × Nat)) :
    Keeps s₀ (selfTestSweepDone s failing) := by
  unfold selfTestSweepDone
  repeat' first
    | with_reducible assumption
    | with_reducible apply State.failUnit_keeps
    | with_reducible refine Keeps.ite (fun _ => ?_) (fun _ => ?_)
    | (with_reducible apply Keeps.upd; first | with_reducible refine Keeps.foldl ?_ _ _ (fun _ _ _ => ?_))

theorem pldmRequest_keeps {s₀ : State} {s : State} (hk : Keeps s₀ s) :
    Keeps s₀ (pldmRequest s) := by
  unfold pldmRequest
  repeat' first
    | with_reducible assumption
    | with_reducible refine Keeps.ite (fun _ => ?_) (fun _ => ?_)
    | with_reducible apply Keeps.emit

theorem svnCommit_keeps {s₀ : State} {s : State} (hk : Keeps s₀ s) (who : Requester) (v : Word64) :
    Keeps s₀ (svnCommit s who v) := by
  unfold svnCommit
  repeat' first
    | with_reducible assumption
    | with_reducible apply State.setFld_keeps
    | with_reducible apply State.refuseF_keeps
    | with_reducible refine State.letIn_keeps ?_ _ _ _ (fun _ _ => ?_)
    | with_reducible apply State.queueNvm_keeps
    | lift_lets
    | (intro y; with_reducible refine Keeps.cut (x := y) ?_ (fun _ => ?_); rotate_left 1; clear_value y; rotate_left 1; unfold y)
    | (intro y; clear_value y)
    | with_reducible refine Keeps.ite (fun _ => ?_) (fun _ => ?_)
    | (with_reducible apply Keeps.upd; first | with_reducible assumption)

theorem pldmFwUpdate_keeps {s₀ : State} {s : State} (hk : Keeps s₀ s) (m : FwImage) :
    Keeps s₀ (pldmFwUpdate s m) := by
  unfold pldmFwUpdate
  repeat' first
    | with_reducible assumption
    | with_reducible apply State.refuse_keeps
    | lift_lets
    | (intro y; clear_value y)
    | with_reducible refine Keeps.ite (fun _ => ?_) (fun _ => ?_)
    | with_reducible apply Keeps.emit
    | (with_reducible apply Keeps.upd; first | with_reducible assumption)

theorem runtimeRestart_keeps {s₀ : State} {s : State} (hk : Keeps s₀ s) :
    Keeps s₀ (runtimeRestart s) := by
  unfold runtimeRestart
  repeat' first
    | with_reducible assumption
    | with_reducible apply State.releaseLock_keeps

theorem State.spdmAfter_keeps {s₀ : State} {s : State} (hk : Keeps s₀ s) (via step : Nat) (answer : Nat → SpdmAnswer) (next : Option Nat) :
    Keeps s₀ (State.spdmAfter s via step answer next) := by
  unfold State.spdmAfter
  repeat' first
    | with_reducible assumption
    | lift_lets
    | (intro y; with_reducible refine Keeps.cut (x := y) ?_ (fun _ => ?_); rotate_left 1; clear_value y; rotate_left 1; unfold y)
    | (intro y; clear_value y)
    | with_reducible refine Keeps.ite (fun _ => ?_) (fun _ => ?_)
    | with_reducible apply Keeps.emit
    | (with_reducible apply Keeps.upd; first | with_reducible assumption)
    | split

theorem getVersion_keeps {s₀ : State} {s : State} (hk : Keeps s₀ s) (via : Nat) :
    Keeps s₀ (getVersion s via) := by
  unfold getVersion
  repeat' first
    | with_reducible assumption
    | with_reducible apply State.spdmAfter_keeps

theorem getCapabilities_keeps {s₀ : State} {s : State} (hk : Keeps s₀ s) (via : Nat) :
    Keeps s₀ (getCapabilities s via) := by
  unfold getCapabilities
  repeat' first
    | with_reducible assumption
    | with_reducible apply State.spdmAfter_keeps

theorem negotiateAlgorithms_keeps {s₀ : State} {s : State} (hk : Keeps s₀ s) (via : Nat) :
    Keeps s₀ (negotiateAlgorithms s via) := by
  unfold negotiateAlgorithms
  repeat' first
    | with_reducible assumption
    | with_reducible apply State.spdmAfter_keeps

theorem getDigests_keeps {s₀ : State} {s : State} (hk : Keeps s₀ s) (via : Nat) :
    Keeps s₀ (getDigests s via) := by
  unfold getDigests
  repeat' first
    | with_reducible assumption
    | with_reducible apply State.spdmAfter_keeps

theorem getCertificate_keeps {s₀ : State} {s : State} (hk : Keeps s₀ s) (via slot off len : Nat) :
    Keeps s₀ (getCertificate s via slot off len) := by
  unfold getCertificate
  repeat' first
    | with_reducible assumption
    | with_reducible apply State.spdmAfter_keeps

theorem challenge_keeps {s₀ : State} {s : State} (hk : Keeps s₀ s) (via slot : Nat) :
    Keeps s₀ (challenge s via slot) := by
  unfold challenge
  repeat' first
    | with_reducible assumption
    | with_reducible apply State.spdmAfter_keeps
    | with_reducible apply State.draw_keeps

theorem getMeasurements_keeps {s₀ : State} {s : State} (hk : Keeps s₀ s) (via index : Nat) (signed : Bool) :
    Keeps s₀ (getMeasurements s via index signed) := by
  unfold getMeasurements
  repeat' first
    | with_reducible assumption
    | with_reducible apply State.spdmAfter_keeps
    | with_reducible apply State.draw_keeps

theorem spdmUnsupportedRequest_keeps {s₀ : State} {s : State} (hk : Keeps s₀ s) (via : Nat) :
    Keeps s₀ (spdmUnsupportedRequest s via) := by
  unfold spdmUnsupportedRequest
  repeat' first
    | with_reducible assumption
    | with_reducible apply State.spdmAfter_keeps

theorem debugChallengeRead_keeps {s₀ : State} {s : State} (hk : Keeps s₀ s) :
    Keeps s₀ (debugChallengeRead s) := by
  unfold debugChallengeRead
  repeat' first
    | with_reducible assumption
    | with_reducible apply State.draw_keeps
    | lift_lets
    | with_reducible refine Keeps.ite (fun _ => ?_) (fun _ => ?_)
    | with_reducible apply Keeps.emit
    | (with_reducible apply Keeps.upd; first | with_reducible apply State.draw_keeps)

theorem debugChallengeExpiry_keeps {s₀ : State} {s : State} (hk : Keeps s₀ s) :
    Keeps s₀ (debugChallengeExpiry s) := by
  unfold debugChallengeExpiry
  repeat' first
    | (with_reducible apply Keeps.upd; first | with_reducible assumption)

theorem State.debugRefused_keeps {s₀ : State} {s : State} (hk : Keeps s₀ s) :
    Keeps s₀ (State.debugRefused s) := by
  unfold State.debugRefused
  repeat' first
    | with_reducible assumption
    | with_reducible apply State.setBit_keeps
    | with_reducible apply State.raise_keeps
    | with_reducible apply State.setFld_keeps
    | with_reducible apply State.refuse_keeps

theorem debugUnlockResponse_keeps {s₀ s : State} (h : Keeps s₀ s) (level : Nat) (sound : Bool) :
    Keeps s₀ (debugUnlockResponse s level sound) := by
  unfold debugUnlockResponse
  extract_lets x s1 dbg s2
  have h1 : Keeps s₀ s1 := h.upd
  have h2 : Keeps s₀ s2 := Keeps.ite
    (fun _ => Keeps.ite (fun _ => State.setFld_keeps (State.setFld_keeps h1 ..) ..) (fun _ => h1))
    (fun _ => Keeps.ite (fun _ => State.setFld_keeps h1 ..) (fun _ => h1))
  exact Keeps.ite (fun _ => h) (fun _ => Keeps.ite (fun _ => State.raise_keeps (State.refuse_keeps h ..) ..)
    (fun _ => Keeps.ite (fun _ => State.debugRefused_keeps h) (fun _ => State.raise_keeps h2 ..)))

theorem execCoalesceWindowEnd_keeps {s₀ : State} (source code : Nat) {s : State} (hk : Keeps s₀ s) {t₁ : State} (e₁ : execCoalesceWindowEnd source code s = .next t₁) :
    Keeps s₀ t₁ := by
  unfold execCoalesceWindowEnd State.done at e₁
  cases e₁
  apply State.observe_keeps
  repeat' first
    | with_reducible assumption
    | with_reducible apply State.endWindow_keeps

theorem execErrorRingHeadWrite_keeps {s₀ : State} (who : Requester) (crown : Nat) (v : Word64) {s : State} (hk : Keeps s₀ s) {t₁ : State} (e₁ : execErrorRingHeadWrite who crown v s = .next t₁) :
    Keeps s₀ t₁ := by
  unfold execErrorRingHeadWrite State.done at e₁
  cases e₁
  apply State.observe_keeps
  repeat' first
    | with_reducible assumption
    | with_reducible apply errorRingHeadWrite_keeps

theorem execSvnCommit_keeps {s₀ : State} (who : Requester) (v : Word64) {s : State} (hk : Keeps s₀ s) {t₁ : State} (e₁ : execSvnCommit who v s = .next t₁) :
    Keeps s₀ t₁ := by
  unfold execSvnCommit State.done at e₁
  cases e₁
  apply State.observe_keeps
  repeat' first
    | with_reducible assumption
    | with_reducible apply svnCommit_keeps

theorem execPldmFwUpdate_keeps {s₀ : State} (image : FwImage) {s : State} (hk : Keeps s₀ s) {t₁ : State} (e₁ : execPldmFwUpdate image s = .next t₁) :
    Keeps s₀ t₁ := by
  unfold execPldmFwUpdate State.done at e₁
  cases e₁
  apply State.observe_keeps
  repeat' first
    | with_reducible assumption
    | with_reducible apply pldmFwUpdate_keeps

theorem execGetVersion_keeps {s₀ : State} (via : Nat) {s : State} (hk : Keeps s₀ s) {t₁ : State} (e₁ : execGetVersion via s = .next t₁) :
    Keeps s₀ t₁ := by
  unfold execGetVersion State.done at e₁
  cases e₁
  apply State.observe_keeps
  repeat' first
    | with_reducible assumption
    | with_reducible apply getVersion_keeps

theorem execGetCapabilities_keeps {s₀ : State} (via : Nat) {s : State} (hk : Keeps s₀ s) {t₁ : State} (e₁ : execGetCapabilities via s = .next t₁) :
    Keeps s₀ t₁ := by
  unfold execGetCapabilities State.done at e₁
  cases e₁
  apply State.observe_keeps
  repeat' first
    | with_reducible assumption
    | with_reducible apply getCapabilities_keeps

theorem execNegotiateAlgorithms_keeps {s₀ : State} (via : Nat) {s : State} (hk : Keeps s₀ s) {t₁ : State} (e₁ : execNegotiateAlgorithms via s = .next t₁) :
    Keeps s₀ t₁ := by
  unfold execNegotiateAlgorithms State.done at e₁
  cases e₁
  apply State.observe_keeps
  repeat' first
    | with_reducible assumption
    | with_reducible apply negotiateAlgorithms_keeps

theorem execGetDigests_keeps {s₀ : State} (via : Nat) {s : State} (hk : Keeps s₀ s) {t₁ : State} (e₁ : execGetDigests via s = .next t₁) :
    Keeps s₀ t₁ := by
  unfold execGetDigests State.done at e₁
  cases e₁
  apply State.observe_keeps
  repeat' first
    | with_reducible assumption
    | with_reducible apply getDigests_keeps

theorem execGetCertificate_keeps {s₀ : State} (via slot off len : Nat) {s : State} (hk : Keeps s₀ s) {t₁ : State} (e₁ : execGetCertificate via slot off len s = .next t₁) :
    Keeps s₀ t₁ := by
  unfold execGetCertificate State.done at e₁
  cases e₁
  apply State.observe_keeps
  repeat' first
    | with_reducible assumption
    | with_reducible apply getCertificate_keeps

theorem execChallenge_keeps {s₀ : State} (via slot : Nat) {s : State} (hk : Keeps s₀ s) {t₁ : State} (e₁ : execChallenge via slot s = .next t₁) :
    Keeps s₀ t₁ := by
  unfold execChallenge State.done at e₁
  cases e₁
  apply State.observe_keeps
  repeat' first
    | with_reducible assumption
    | with_reducible apply challenge_keeps

theorem execGetMeasurements_keeps {s₀ : State} (via index : Nat) (signed : Bool) {s : State} (hk : Keeps s₀ s) {t₁ : State} (e₁ : execGetMeasurements via index signed s = .next t₁) :
    Keeps s₀ t₁ := by
  unfold execGetMeasurements State.done at e₁
  cases e₁
  apply State.observe_keeps
  repeat' first
    | with_reducible assumption
    | with_reducible apply getMeasurements_keeps

theorem execSpdmUnsupportedRequest_keeps {s₀ : State} (via : Nat) {s : State} (hk : Keeps s₀ s) {t₁ : State} (e₁ : execSpdmUnsupportedRequest via s = .next t₁) :
    Keeps s₀ t₁ := by
  unfold execSpdmUnsupportedRequest State.done at e₁
  cases e₁
  apply State.observe_keeps
  repeat' first
    | with_reducible assumption
    | with_reducible apply spdmUnsupportedRequest_keeps

theorem execDebugChallengeRead_keeps {s₀ : State} {s : State} (hk : Keeps s₀ s) {t₁ : State} (e₁ : execDebugChallengeRead s = .next t₁) :
    Keeps s₀ t₁ := by
  unfold execDebugChallengeRead State.done at e₁
  cases e₁
  apply State.observe_keeps
  repeat' first
    | with_reducible assumption
    | with_reducible apply debugChallengeRead_keeps

theorem execDebugUnlockResponse_keeps {s₀ : State} (level : Nat) (sound : Bool) {s : State} (hk : Keeps s₀ s) {t₁ : State} (e₁ : execDebugUnlockResponse level sound s = .next t₁) :
    Keeps s₀ t₁ := by
  unfold execDebugUnlockResponse State.done at e₁
  cases e₁
  apply State.observe_keeps
  repeat' first
    | with_reducible assumption
    | with_reducible apply debugUnlockResponse_keeps

theorem execDebugChallengeExpiry_keeps {s₀ : State} {s : State} (hk : Keeps s₀ s) {t₁ : State} (e₁ : execDebugChallengeExpiry s = .next t₁) :
    Keeps s₀ t₁ := by
  unfold execDebugChallengeExpiry State.done at e₁
  cases e₁
  apply State.observe_keeps
  repeat' first
    | with_reducible assumption
    | with_reducible apply debugChallengeExpiry_keeps

theorem execRuntimeRestart_keeps {s₀ : State} {s : State} (hk : Keeps s₀ s) {t₁ : State} (e₁ : execRuntimeRestart s = .next t₁) :
    Keeps s₀ t₁ := by
  unfold execRuntimeRestart State.done at e₁
  cases e₁
  apply State.observe_keeps
  repeat' first
    | with_reducible assumption
    | with_reducible apply runtimeRestart_keeps

theorem execMeshLinkFailed_keeps {s₀ : State} (link : Nat) {s : State} (hk : Keeps s₀ s) {t₁ : State} (e₁ : execMeshLinkFailed link s = .next t₁) :
    Keeps s₀ t₁ := by
  unfold execMeshLinkFailed State.done at e₁
  cases e₁
  apply State.observe_keeps
  repeat' first
    | with_reducible assumption
    | with_reducible apply meshLinkFailed_keeps

theorem execEdieCrownFailed_keeps {s₀ : State} (unit : Nat) {s : State} (hk : Keeps s₀ s) {t₁ : State} (e₁ : execEdieCrownFailed unit s = .next t₁) :
    Keeps s₀ t₁ := by
  unfold execEdieCrownFailed State.done at e₁
  cases e₁
  apply State.observe_keeps
  repeat' first
    | with_reducible assumption
    | with_reducible apply edieCrownFailed_keeps

theorem execPldmRequest_keeps {s₀ : State} {s : State} (hk : Keeps s₀ s) {t₁ : State} (e₁ : execPldmRequest s = .next t₁) :
    Keeps s₀ t₁ := by
  unfold execPldmRequest State.done at e₁
  cases e₁
  apply State.observe_keeps
  repeat' first
    | with_reducible assumption
    | with_reducible apply pldmRequest_keeps

theorem execSelfTestSweepDone_keeps {s₀ : State} (failing : List (Nat × Nat)) {s : State} (hk : Keeps s₀ s) {t₁ : State} (e₁ : execSelfTestSweepDone failing s = .next t₁) :
    Keeps s₀ t₁ := by
  unfold execSelfTestSweepDone State.done at e₁
  cases e₁
  apply State.observe_keeps
  repeat' first
    | with_reducible assumption
    | with_reducible apply selfTestSweepDone_keeps

theorem clusterNap_keeps {s₀ : State} {s : State} (hk : Keeps s₀ s) (k : Nat) :
    Keeps s₀ (clusterNap s k) := by
  unfold clusterNap
  repeat' first
    | with_reducible assumption
    | lift_lets
    | (intro y; clear_value y)
    | with_reducible refine Keeps.ite (fun _ => ?_) (fun _ => ?_)
    | (with_reducible apply Keeps.upd; first | with_reducible assumption)

theorem State.partPwr_keeps {s₀ : State} {s : State} (hk : Keeps s₀ s) (who : Requester) (p : Nat) (v : Word64) :
    Keeps s₀ (State.partPwr s who p v) := by
  unfold State.partPwr
  repeat' first
    | with_reducible assumption
    | with_reducible apply State.modPart_keeps
    | with_reducible apply State.setFld_keeps
    | with_reducible apply State.refuseF_keeps
    | with_reducible refine State.letIn_keeps ?_ _ _ _ (fun _ _ => ?_)
    | lift_lets
    | (intro y; with_reducible refine Keeps.cut (x := y) ?_ (fun _ => ?_); rotate_left 1; clear_value y; rotate_left 1; unfold y)
    | (intro y; clear_value y)
    | with_reducible refine Keeps.ite (fun _ => ?_) (fun _ => ?_)

theorem deepNapEntryDone_keeps {s₀ : State} {s : State} (hk : Keeps s₀ s) (p : Nat) :
    Keeps s₀ (deepNapEntryDone s p) := by
  unfold deepNapEntryDone
  repeat' first
    | with_reducible assumption
    | with_reducible apply State.modPart_keeps
    | with_reducible apply State.loseUnits_keeps
    | with_reducible apply State.setFld_keeps
    | with_reducible apply State.clearSticky_keeps
    | lift_lets
    | (intro y; with_reducible refine Keeps.cut (x := y) ?_ (fun _ => ?_); rotate_left 1; clear_value y; rotate_left 1; unfold y)
    | (intro y; clear_value y)
    | with_reducible refine Keeps.ite (fun _ => ?_) (fun _ => ?_)

theorem deepNapWakeDone_keeps {s₀ : State} {s : State} (hk : Keeps s₀ s) (p : Nat) :
    Keeps s₀ (deepNapWakeDone s p) := by
  unfold deepNapWakeDone
  repeat' first
    | with_reducible assumption
    | with_reducible apply State.setFld_keeps
    | with_reducible apply State.releaseHeld_keeps
    | lift_lets
    | (intro y; with_reducible refine Keeps.cut (x := y) ?_ (fun _ => ?_); rotate_left 1; clear_value y; rotate_left 1; unfold y)
    | (intro y; clear_value y)
    | with_reducible refine Keeps.ite (fun _ => ?_) (fun _ => ?_)

theorem State.enterHold_keeps {s₀ : State} {s : State} (hk : Keeps s₀ s) (byD3 : Bool) :
    Keeps s₀ (State.enterHold s byD3) := by
  unfold State.enterHold
  repeat' first
    | with_reducible assumption
    | with_reducible apply State.setFld_keeps
    | with_reducible apply State.requestPreempt_keeps
    | lift_lets
    | (intro y; with_reducible refine Keeps.cut (x := y) ?_ (fun _ => ?_); rotate_left 1; clear_value y; rotate_left 1; unfold y)
    | (intro y; clear_value y)
    | with_reducible refine Keeps.ite (fun _ => ?_) (fun _ => ?_)
    | (with_reducible apply Keeps.upd; first | with_reducible assumption | with_reducible refine Keeps.foldl ?_ _ _ (fun _ _ _ => ?_))

theorem State.setHeld_keeps {s₀ : State} {s : State} (hk : Keeps s₀ s) :
    Keeps s₀ (State.setHeld s) := by
  unfold State.setHeld
  repeat' first
    | with_reducible assumption
    | with_reducible apply State.setFld_keeps
    | (with_reducible apply Keeps.upd; first | with_reducible refine Keeps.foldl ?_ _ _ (fun _ _ _ => ?_))

theorem State.holdState_keeps {s₀ : State} {s : State} (hk : Keeps s₀ s) :
    Keeps s₀ (State.holdState s) := by
  unfold State.holdState
  repeat' first
    | with_reducible assumption
    | with_reducible apply State.modStroke_keeps
    | with_reducible apply State.setFld_keeps
    | with_reducible apply State.resetPages_keeps
    | lift_lets
    | with_reducible refine Keeps.ite (fun _ => ?_) (fun _ => ?_)
    | (with_reducible apply Keeps.upd; first | with_reducible apply State.modStroke_keeps | with_reducible apply State.lose_keeps | with_reducible apply State.setLock_keeps | with_reducible refine Keeps.foldl ?_ _ _ (fun _ _ _ => ?_))
    | split

theorem State.moveStacks_keeps {s₀ : State} {s : State} (hk : Keeps s₀ s) (from_ to_ : Nat) :
    Keeps s₀ (State.moveStacks s from_ to_) := by
  unfold State.moveStacks
  repeat' first
    | with_reducible assumption
    | with_reducible apply State.setFld_keeps
    | with_reducible refine Keeps.ite (fun _ => ?_) (fun _ => ?_)
    | (with_reducible apply Keeps.upd; first | with_reducible refine Keeps.foldl ?_ _ _ (fun _ _ _ => ?_))

theorem blockHoldEntryDone_keeps {s₀ : State} {s : State} (hk : Keeps s₀ s) :
    Keeps s₀ (blockHoldEntryDone s) := by
  unfold blockHoldEntryDone
  repeat' first
    | with_reducible assumption
    | with_reducible apply State.moveStacks_keeps
    | with_reducible apply State.holdState_keeps
    | with_reducible apply State.setFld_keeps
    | with_reducible apply State.setHeld_keeps
    | lift_lets
    | (intro y; with_reducible refine Keeps.cut (x := y) ?_ (fun _ => ?_); rotate_left 1; clear_value y; rotate_left 1; unfold y)
    | with_reducible refine Keeps.ite (fun _ => ?_) (fun _ => ?_)
    | (with_reducible apply Keeps.upd; first | with_reducible apply State.raise_keeps)
    | split

theorem blockHoldExitDone_keeps {s₀ : State} {s : State} (hk : Keeps s₀ s) :
    Keeps s₀ (blockHoldExitDone s) := by
  unfold blockHoldExitDone
  repeat' first
    | with_reducible assumption
    | with_reducible apply State.moveStacks_keeps
    | with_reducible apply State.recalibrated_keeps
    | with_reducible apply State.setFld_keeps
    | with_reducible apply State.startPorts_keeps
    | with_reducible apply State.raise_keeps
    | lift_lets
    | (intro y; with_reducible refine Keeps.cut (x := y) ?_ (fun _ => ?_); rotate_left 1; clear_value y; rotate_left 1; unfold y)
    | with_reducible refine Keeps.ite (fun _ => ?_) (fun _ => ?_)
    | (with_reducible apply Keeps.upd; first | with_reducible refine Keeps.foldl ?_ _ _ (fun _ _ _ => ?_))

theorem pfD3hot_keeps {s₀ : State} {s : State} (hk : Keeps s₀ s) (h : Nat) :
    Keeps s₀ (pfD3hot s h) := by
  unfold pfD3hot
  repeat' first
    | with_reducible assumption
    | with_reducible apply State.enterHold_keeps
    | lift_lets
    | (intro y; with_reducible refine Keeps.cut (x := y) ?_ (fun _ => ?_); rotate_left 1; clear_value y; rotate_left 1; unfold y)
    | (intro y; clear_value y)
    | with_reducible refine Keeps.ite (fun _ => ?_) (fun _ => ?_)
    | (with_reducible apply Keeps.upd; first | with_reducible assumption)

theorem pfD0_keeps {s₀ s : State} (hk : Keeps s₀ s) (h : Nat) : Keeps s₀ (pfD0 s h) := by
  unfold pfD0
  refine Keeps.ite (fun _ => hk) (fun _ => ?_)
  extract_lets w s1 st
  have h1 : Keeps s₀ s1 := hk.upd
  refine Keeps.ite (fun _ => h1) (fun _ => Keeps.ite (fun _ => h1.upd) (fun _ => Keeps.ite (fun _ => State.setFld_keeps h1 ..) (fun _ => h1)))

theorem State.copyUncovered_keeps {s₀ : State} {s : State} (hk : Keeps s₀ s) (h : Nat) :
    Keeps s₀ (State.copyUncovered s h) := by
  unfold State.copyUncovered
  repeat' first
    | with_reducible assumption
    | with_reducible apply State.modHp_keeps
    | with_reducible apply State.logRecord_keeps
    | lift_lets
    | (intro y; with_reducible refine Keeps.cut (x := y) ?_ (fun _ => ?_); rotate_left 1; clear_value y; rotate_left 1; unfold y)
    | (intro y; clear_value y)
    | (with_reducible apply Keeps.upd; first | with_reducible refine Keeps.foldl ?_ _ _ (fun _ _ _ => ?_))

theorem State.dropHeld_keeps {s₀ : State} {s : State} (hk : Keeps s₀ s) (h : Nat) :
    Keeps s₀ (State.dropHeld s h) := by
  unfold State.dropHeld
  repeat' first
    | lift_lets
    | (intro y; clear_value y)
    | (with_reducible apply Keeps.upd; first | with_reducible assumption)

theorem State.holdOnLoss_keeps {s₀ : State} {s : State} (hk : Keeps s₀ s) :
    Keeps s₀ (State.holdOnLoss s) := by
  unfold State.holdOnLoss
  repeat' first
    | with_reducible assumption
    | with_reducible apply State.enterHold_keeps
    | with_reducible apply State.setHeld_keeps
    | lift_lets
    | (intro y; with_reducible refine Keeps.cut (x := y) ?_ (fun _ => ?_); rotate_left 1; clear_value y; rotate_left 1; unfold y)
    | (intro y; clear_value y)
    | with_reducible refine Keeps.ite (fun _ => ?_) (fun _ => ?_)
    | (with_reducible apply Keeps.upd; first | with_reducible assumption)

theorem State.cutPort_keeps {s₀ : State} {s : State} (hk : Keeps s₀ s) (h : Nat) :
    Keeps s₀ (State.cutPort s h) := by
  unfold State.cutPort
  repeat' first
    | lift_lets
    | (intro y; with_reducible refine Keeps.cut (x := y) ?_ (fun _ => ?_); rotate_left 1; clear_value y; rotate_left 1; unfold y)
    | (intro y; clear_value y)
    | (with_reducible apply Keeps.upd; first | with_reducible assumption)

theorem hostLoss_keeps {s₀ : State} {s : State} (hk : Keeps s₀ s) (h : Nat) :
    Keeps s₀ (hostLoss s h) := by
  unfold hostLoss
  repeat' first
    | with_reducible assumption
    | with_reducible apply State.modHp_keeps
    | with_reducible apply State.setFld_keeps
    | with_reducible apply State.holdOnLoss_keeps
    | with_reducible apply State.addFld_keeps
    | with_reducible apply State.releaseLock_keeps
    | with_reducible apply State.cutPort_keeps
    | with_reducible apply State.recordError_keeps
    | with_reducible apply State.copyUncovered_keeps
    | with_reducible apply State.raise_keeps
    | with_reducible apply State.dropHeld_keeps
    | lift_lets
    | (intro y; with_reducible refine Keeps.cut (x := y) ?_ (fun _ => ?_); rotate_left 1; clear_value y; rotate_left 1; unfold y)
    | (intro y; clear_value y)
    | with_reducible refine Keeps.ite (fun _ => ?_) (fun _ => ?_)

theorem State.checkContexts_keeps {s₀ : State} {s : State} (hk : Keeps s₀ s) (p : Nat) :
    Keeps s₀ (State.checkContexts s p) := by
  unfold State.checkContexts
  repeat' first
    | with_reducible assumption
    | with_reducible apply State.abortCtx_keeps
    | with_reducible apply State.modCtx_keeps
    | split
    | lift_lets
    | (intro y; clear_value y)
    | with_reducible refine Keeps.ite (fun _ => ?_) (fun _ => ?_)
    | (with_reducible apply Keeps.upd; first | with_reducible refine Keeps.foldl ?_ _ _ (fun _ _ _ => ?_))

theorem retainClaim_keeps {s₀ s : State} (hk : Keeps s₀ s) (who : Requester) (h ms : Nat) (v : Word64) :
    Keeps s₀ (retainClaim s who h ms v) := by
  unfold retainClaim
  refine State.letIn_keeps hk _ _ _ (fun t ht => ?_)
  cases who
  case pf port =>
    dsimp -zeta only
    extract_lets pg soon s1 s2 s3
    clear_value soon
    have h1 : Keeps s₀ s1 := Keeps.ite (fun _ => ht) (fun _ => State.modHp_keeps ht ..)
    clear_value s1
    have h2 : Keeps s₀ s2 := h1.foldl _ _ (fun _ _ hu => State.setFld_keeps hu ..)
    have h3 : Keeps s₀ s3 := State.setFld_keeps (State.newRetainId_keeps h2) ..
    clear_value s3
    refine Keeps.ite (fun _ => ht) (fun _ => Keeps.ite (fun _ => ?_) (fun _ => ?_))
    · exact State.raise_keeps (State.addFld_keeps (State.refuseF_keeps h1 ..) ..) ..
    · exact h3.foldl _ _ (fun _ _ hu => State.checkContexts_keeps hu ..)
  all_goals exact ht

theorem execHostLoss_keeps {s₀ : State} (port : Nat) {s : State} (hk : Keeps s₀ s) {t₁ : State} (e₁ : execHostLoss port s = .next t₁) :
    Keeps s₀ t₁ := by
  unfold execHostLoss State.done at e₁
  cases e₁
  apply State.observe_keeps
  repeat' first
    | with_reducible assumption
    | with_reducible apply hostLoss_keeps

theorem execRetainClaim_keeps {s₀ : State} (who : Requester) (port ms : Nat) (v : Word64) {s : State} (hk : Keeps s₀ s) {t₁ : State} (e₁ : execRetainClaim who port ms v s = .next t₁) :
    Keeps s₀ t₁ := by
  unfold execRetainClaim State.done at e₁
  cases e₁
  apply State.observe_keeps
  repeat' first
    | with_reducible assumption
    | with_reducible apply retainClaim_keeps

theorem execClusterNap_keeps {s₀ : State} (clu : Nat) {s : State} (hk : Keeps s₀ s) {t₁ : State} (e₁ : execClusterNap clu s = .next t₁) :
    Keeps s₀ t₁ := by
  unfold execClusterNap State.done at e₁
  cases e₁
  apply State.observe_keeps
  repeat' first
    | with_reducible assumption
    | with_reducible apply clusterNap_keeps

theorem execDeepNapEnter_keeps {s₀ : State} (who : Requester) (part : Nat) (v : Word64) {s : State} (hk : Keeps s₀ s) {t₁ : State} (e₁ : execDeepNapEnter who part v s = .next t₁) :
    Keeps s₀ t₁ := by
  unfold execDeepNapEnter State.done at e₁
  cases e₁
  apply State.observe_keeps
  repeat' first
    | with_reducible assumption
    | with_reducible apply State.partPwr_keeps

theorem execDeepNapExit_keeps {s₀ : State} (who : Requester) (part : Nat) (v : Word64) {s : State} (hk : Keeps s₀ s) {t₁ : State} (e₁ : execDeepNapExit who part v s = .next t₁) :
    Keeps s₀ t₁ := by
  unfold execDeepNapExit State.done at e₁
  cases e₁
  apply State.observe_keeps
  repeat' first
    | with_reducible assumption
    | with_reducible apply State.partPwr_keeps

theorem execDeepNapEntryDone_keeps {s₀ : State} (part : Nat) {s : State} (hk : Keeps s₀ s) {t₁ : State} (e₁ : execDeepNapEntryDone part s = .next t₁) :
    Keeps s₀ t₁ := by
  unfold execDeepNapEntryDone State.done at e₁
  cases e₁
  apply State.observe_keeps
  repeat' first
    | with_reducible assumption
    | with_reducible apply deepNapEntryDone_keeps

theorem execDeepNapWakeDone_keeps {s₀ : State} (part : Nat) {s : State} (hk : Keeps s₀ s) {t₁ : State} (e₁ : execDeepNapWakeDone part s = .next t₁) :
    Keeps s₀ t₁ := by
  unfold execDeepNapWakeDone State.done at e₁
  cases e₁
  apply State.observe_keeps
  repeat' first
    | with_reducible assumption
    | with_reducible apply deepNapWakeDone_keeps

theorem execBlockHoldEntryDone_keeps {s₀ : State} {s : State} (hk : Keeps s₀ s) {t₁ : State} (e₁ : execBlockHoldEntryDone s = .next t₁) :
    Keeps s₀ t₁ := by
  unfold execBlockHoldEntryDone State.done at e₁
  cases e₁
  apply State.observe_keeps
  repeat' first
    | with_reducible assumption
    | with_reducible apply blockHoldEntryDone_keeps

theorem execBlockHoldExitDone_keeps {s₀ : State} {s : State} (hk : Keeps s₀ s) {t₁ : State} (e₁ : execBlockHoldExitDone s = .next t₁) :
    Keeps s₀ t₁ := by
  unfold execBlockHoldExitDone State.done at e₁
  cases e₁
  apply State.observe_keeps
  repeat' first
    | with_reducible assumption
    | with_reducible apply blockHoldExitDone_keeps

theorem execPfD3hot_keeps {s₀ : State} (port : Nat) {s : State} (hk : Keeps s₀ s) {t₁ : State} (e₁ : execPfD3hot port s = .next t₁) :
    Keeps s₀ t₁ := by
  unfold execPfD3hot State.done at e₁
  cases e₁
  apply State.observe_keeps
  repeat' first
    | with_reducible assumption
    | with_reducible apply pfD3hot_keeps

theorem execPfD0_keeps {s₀ : State} (port : Nat) {s : State} (hk : Keeps s₀ s) {t₁ : State} (e₁ : execPfD0 port s = .next t₁) :
    Keeps s₀ t₁ := by
  unfold execPfD0 State.done at e₁
  cases e₁
  apply State.observe_keeps
  repeat' first
    | with_reducible assumption
    | with_reducible apply pfD0_keeps

theorem State.tcRaise_keeps {s₀ : State} {s : State} (hk : Keeps s₀ s) (n bit : Nat) :
    Keeps s₀ (State.tcRaise s n bit) := by
  unfold State.tcRaise
  repeat' first
    | with_reducible assumption
    | with_reducible apply State.modTc_keeps

theorem tcIssue_keeps {s₀ s : State} (h : Keeps s₀ s) (n addr : Nat) : Keeps s₀ (tcIssue s n addr) := by
  unfold tcIssue
  extract_lets t r ok b b' s1
  have h1 : Keeps s₀ s1 := h.drawn 64
  exact Keeps.ite (fun _ => h) (fun _ => Keeps.ite (fun _ => State.refuse_keeps (State.tcRaise_keeps h ..) ..)
    (fun _ => Keeps.ite (fun _ => State.modTc_keeps h ..) (fun _ => State.modTc_keeps h1 ..)))

theorem tcStickyClr_keeps {s₀ : State} {s : State} (hk : Keeps s₀ s) (n : Nat) (v : Word64) :
    Keeps s₀ (tcStickyClr s n v) := by
  unfold tcStickyClr
  repeat' first
    | with_reducible assumption
    | with_reducible apply State.setReg_keeps

theorem tcWdogWrite_keeps {s₀ : State} {s : State} (hk : Keeps s₀ s) (n : Nat) (v : Word64) :
    Keeps s₀ (tcWdogWrite s n v) := by
  unfold tcWdogWrite
  repeat' first
    | with_reducible assumption
    | with_reducible apply State.modTc_keeps

theorem State.tcRecord_keeps {s₀ : State} {s : State} (hk : Keeps s₀ s) (n : Nat) (code : Code) :
    Keeps s₀ (State.tcRecord s n code) := by
  unfold State.tcRecord
  repeat' first
    | with_reducible assumption
    | with_reducible apply State.recordError_keeps

theorem tcWatchdogExpiry_keeps {s₀ : State} {s : State} (hk : Keeps s₀ s) (n : Nat) :
    Keeps s₀ (tcWatchdogExpiry s n) := by
  unfold tcWatchdogExpiry
  repeat' first
    | with_reducible assumption
    | with_reducible apply State.tcRaise_keeps
    | with_reducible apply State.modTc_keeps
    | with_reducible apply State.setFld_keeps
    | with_reducible apply State.raise_keeps
    | with_reducible apply State.tcRecord_keeps
    | lift_lets
    | (intro y; clear_value y)
    | with_reducible refine Keeps.ite (fun _ => ?_) (fun _ => ?_)

theorem tcRunWrite_keeps {s₀ : State} {s : State} (hk : Keeps s₀ s) (who : Requester) (n : Nat) (v : Word64) :
    Keeps s₀ (tcRunWrite s who n v) := by
  unfold tcRunWrite
  repeat' first
    | with_reducible assumption
    | with_reducible apply State.modTc_keeps
    | with_reducible apply State.setFld_keeps
    | with_reducible refine State.letIn_keeps ?_ _ _ _ (fun _ _ => ?_)
    | lift_lets
    | (intro y; with_reducible refine Keeps.cut (x := y) ?_ (fun _ => ?_); rotate_left 1; clear_value y; rotate_left 1; unfold y)
    | (intro y; clear_value y)
    | with_reducible refine Keeps.ite (fun _ => ?_) (fun _ => ?_)

theorem tcMboxWrite_keeps {s₀ : State} {s : State} (hk : Keeps s₀ s) (who : Requester) (n : Nat) (v : Word64) :
    Keeps s₀ (tcMboxWrite s who n v) := by
  unfold tcMboxWrite
  repeat' first
    | with_reducible assumption
    | with_reducible apply State.setReg_keeps
    | with_reducible refine State.letIn_keeps ?_ _ _ _ (fun _ _ => ?_)
    | with_reducible apply State.tcRaise_keeps

theorem State.tcRdKeys_keeps {s₀ : State} {s : State} (hk : Keeps s₀ s) (n : Nat) (ks : List Nat) :
    Keeps s₀ (State.tcRdKeys s n ks).1 := by
  unfold State.tcRdKeys
  repeat' first
    | with_reducible assumption
    | with_reducible apply State.recordBad_keeps
    | with_reducible apply State.draw_keeps
    | split

theorem State.tcWrKeys_keeps {s₀ : State} {s : State} (hk : Keeps s₀ s) (ks : List Nat) (v : Nat) :
    Keeps s₀ (State.tcWrKeys s ks v) := by
  unfold State.tcWrKeys
  repeat' first
    | with_reducible assumption
    | with_reducible apply State.wr_keeps
    | (with_reducible apply Keeps.upd; first | with_reducible refine Keeps.foldl ?_ _ _ (fun _ _ _ => ?_))

theorem State.tcRead?_keeps {s₀ s : State} (h : Keeps s₀ s) (n a size : Nat) {t : State × Nat} (e₁ : s.tcRead? n a size = some t) :
    Keeps s₀ t.1 := by
  unfold State.tcRead? at e₁
  split at e₁
  · cases e₁
    exact State.tcRdKeys_keeps h ..
  · rcases of_ite_eq e₁ with ⟨_, e₁⟩ | ⟨_, e₁⟩
    · rcases of_ite_eq e₁ with ⟨_, e₁⟩ | ⟨_, e₁⟩
      · cases e₁; exact h
      · cases e₁
    · rcases of_ite_eq e₁ with ⟨_, e₁⟩ | ⟨_, e₁⟩
      · cases e₁; exact h
      · cases e₁

theorem State.tcWrite?_keeps {s₀ s : State} (h : Keeps s₀ s) (n a size v : Nat) {t : State} (e₁ : s.tcWrite? n a size v = some t) :
    Keeps s₀ t := by
  unfold State.tcWrite? at e₁
  split at e₁
  · cases e₁
    exact State.observe_keeps (State.tcWrKeys_keeps h ..)
  · rcases of_ite_eq e₁ with ⟨_, e₁⟩ | ⟨_, e₁⟩
    · rcases of_ite_eq e₁ with ⟨_, e₁⟩ | ⟨_, e₁⟩
      · rcases of_ite_eq e₁ with ⟨_, e₁⟩ | ⟨_, e₁⟩
        · cases e₁; exact dbTailWrite_keeps h ..
        · rcases of_ite_eq e₁ with ⟨_, e₁⟩ | ⟨_, e₁⟩
          · cases e₁; exact dbCqHeadWrite_keeps h ..
          · cases e₁; exact h
      · cases e₁
    · rcases of_ite_eq e₁ with ⟨_, e₁⟩ | ⟨_, e₁⟩
      · cases e₁; exact h
      · cases e₁

theorem State.tcTrap_keeps {s₀ : State} {s : State} (hk : Keeps s₀ s) (n cause tval : Nat) :
    Keeps s₀ (State.tcTrap s n cause tval) := by
  unfold State.tcTrap
  repeat' first
    | with_reducible assumption
    | with_reducible apply State.modTc_keeps
    | with_reducible apply State.setReg_keeps
    | with_reducible apply State.setFld_keeps
    | with_reducible apply State.raise_keeps
    | with_reducible apply State.tcRecord_keeps
    | lift_lets
    | (intro y; with_reducible refine Keeps.cut (x := y) ?_ (fun _ => ?_); rotate_left 1; clear_value y; rotate_left 1; unfold y)
    | (intro y; clear_value y)
    | with_reducible refine Keeps.ite (fun _ => ?_) (fun _ => ?_)

theorem State.tcRetire_keeps {s₀ : State} {s : State} (hk : Keeps s₀ s) (n : Nat) (pc : Word64) (f : Tc → Tc) :
    Keeps s₀ (State.tcRetire s n pc f) := by
  unfold State.tcRetire
  repeat' first
    | with_reducible assumption
    | with_reducible apply State.modTc_keeps

theorem State.csrRead?_keeps {s₀ s : State} (h : Keeps s₀ s) (n csr : Nat) {t : State × Word64} (e₁ : s.csrRead? n csr = some t) :
    Keeps s₀ t.1 := by
  unfold State.csrRead? at e₁
  extract_lets x fs ok nat at e₁
  have hok : ∀ v, ok v = some t → Keeps s₀ t.1 := fun v e => by cases e; exact h
  have hnat : ∀ v, nat v = some t → Keeps s₀ t.1 := fun v e => by cases e; exact h
  clear_value ok nat
  split at e₁
  all_goals first
    | exact hok _ e₁
    | exact hnat _ e₁
    | (cases e₁; exact State.draw_keeps h)
    | (split at e₁
       · cases e₁
       · exact hnat _ e₁)
    | (rcases of_ite_eq e₁ with ⟨_, e₁⟩ | ⟨_, e₁⟩
       · exact hok _ e₁
       · rcases of_ite_eq e₁ with ⟨_, e₁⟩ | ⟨_, e₁⟩
         · exact hnat _ e₁
         · rcases of_ite_eq e₁ with ⟨_, e₁⟩ | ⟨_, e₁⟩
           · exact hok _ e₁
           · cases e₁)

theorem State.csrWrite_keeps {s₀ s : State} (h : Keeps s₀ s) (n csr : Nat) (v : Word64) : Keeps s₀ (s.csrWrite n csr v) := by
  unfold State.csrWrite
  extract_lets fdirty
  have hf : ∀ f, Keeps s₀ (fdirty f) := fun _ => State.modTc_keeps h ..
  split
  all_goals first
    | exact h
    | exact hf _
    | with_reducible exact State.modTc_keeps h ..
    | exact tcIssue_keeps h ..
    | exact tcStickyClr_keeps h ..
    | exact tcWdogWrite_keeps h ..

theorem State.tcIllegal_keeps {s₀ : State} {s : State} (hk : Keeps s₀ s) (n bits : Nat) :
    Keeps s₀ (State.tcIllegal s n bits) := by
  unfold State.tcIllegal
  repeat' first
    | with_reducible assumption
    | with_reducible apply State.tcTrap_keeps

theorem State.tcCsr_keeps {s₀ s : State} (hk : Keeps s₀ s) (n w bits len : Nat) : Keeps s₀ (s.tcCsr n w bits len) := by
  unfold State.tcCsr
  extract_lets t csr f3 rd rs1 src writes next
  refine Keeps.ite (fun _ => State.tcIllegal_keeps hk ..) (fun _ => Keeps.ite (fun _ => hk) (fun _ => Keeps.ite (fun _ => ?_) (fun _ => ?_)))
  · split
    · exact State.tcIllegal_keeps hk ..
    · exact State.csrWrite_keeps (State.tcRetire_keeps hk ..) ..
  · split
    · exact State.tcIllegal_keeps hk ..
    · next e =>
      have h1 := State.csrRead?_keeps hk _ _ e
      exact Keeps.ite (fun _ => State.csrWrite_keeps (State.tcRetire_keeps h1 ..) ..) (fun _ => State.tcRetire_keeps h1 ..)

theorem State.tcSystem_keeps {s₀ : State} {s : State} (hk : Keeps s₀ s) (n w bits len : Nat) :
    Keeps s₀ (State.tcSystem s n w bits len) := by
  unfold State.tcSystem
  repeat' first
    | with_reducible assumption
    | with_reducible apply State.setFld_keeps
    | with_reducible apply State.tcIllegal_keeps
    | with_reducible apply State.tcRetire_keeps
    | with_reducible apply State.tcTrap_keeps
    | with_reducible apply State.tcCsr_keeps
    | lift_lets
    | (intro y; with_reducible refine Keeps.cut (x := y) ?_ (fun _ => ?_); rotate_left 1; clear_value y; rotate_left 1; unfold y)
    | (intro y; clear_value y)
    | with_reducible refine Keeps.ite (fun _ => ?_) (fun _ => ?_)
    | split

theorem State.tcLoad_keeps {s₀ s : State} (hk : Keeps s₀ s) (n w bits len : Nat) : Keeps s₀ (s.tcLoad n w bits len) := by
  unfold State.tcLoad
  extract_lets t f3 a size
  refine Keeps.ite (fun _ => State.tcIllegal_keeps hk ..) (fun _ => ?_)
  split
  · exact State.tcTrap_keeps hk ..
  · next e => exact State.tcRetire_keeps (State.tcRead?_keeps hk _ _ _ e) ..

theorem State.tcStore_keeps {s₀ s : State} (hk : Keeps s₀ s) (n w bits len : Nat) : Keeps s₀ (s.tcStore n w bits len) := by
  unfold State.tcStore
  extract_lets t f3 a
  refine Keeps.ite (fun _ => State.tcIllegal_keeps hk ..) (fun _ => ?_)
  split
  · exact State.tcTrap_keeps hk ..
  · next e => exact State.tcRetire_keeps (State.tcWrite?_keeps hk _ _ _ _ e) ..

theorem State.tcAtomic_keeps {s₀ : State} {s : State} (hk : Keeps s₀ s) (n w bits len : Nat) :
    Keeps s₀ (State.tcAtomic s n w bits len) := by
  unfold State.tcAtomic
  repeat' first
    | with_reducible assumption
    | with_reducible apply State.tcRdKeys_keeps
    | with_reducible apply State.tcIllegal_keeps
    | with_reducible apply State.tcRetire_keeps
    | with_reducible apply State.tcTrap_keeps
    | with_reducible apply State.observe_keeps
    | with_reducible apply State.tcWrKeys_keeps
    | lift_lets
    | (intro y; with_reducible refine Keeps.cut (x := y.1) ?_ (fun _ => ?_); rotate_left 1; clear_value y; rotate_left 1; unfold y)
    | (intro y; clear_value y)
    | with_reducible refine Keeps.ite (fun _ => ?_) (fun _ => ?_)
    | split

theorem State.tcFp_keeps {s₀ : State} {s : State} (hk : Keeps s₀ s) (n w bits len : Nat) :
    Keeps s₀ (State.tcFp s n w bits len) := by
  unfold State.tcFp
  repeat' first
    | with_reducible assumption
    | with_reducible apply State.tcIllegal_keeps
    | with_reducible apply State.tcRetire_keeps
    | lift_lets
    | (intro y; clear_value y)
    | split

theorem State.tcFpMem_keeps {s₀ s : State} (hk : Keeps s₀ s) (n w bits len : Nat) : Keeps s₀ (s.tcFpMem n w bits len) := by
  unfold State.tcFpMem
  extract_lets t next load a
  refine Keeps.ite (fun _ => State.tcIllegal_keeps hk ..) (fun _ => Keeps.ite (fun _ => ?_) (fun _ => ?_))
  · split
    · exact State.tcTrap_keeps hk ..
    · next e => exact State.tcRetire_keeps (State.tcRead?_keeps hk _ _ _ e) ..
  · split
    · exact State.tcTrap_keeps hk ..
    · next e => exact State.tcRetire_keeps (State.tcWrite?_keeps hk _ _ _ _ e) ..

theorem State.tcExec_keeps {s₀ s : State} (h : Keeps s₀ s) (n w bits len : Nat) : Keeps s₀ (s.tcExec n w bits len) := by
  unfold State.tcExec
  extract_lets t next rd f3 a b put
  have hp : ∀ v, Keeps s₀ (put v) := fun v => by
    cases v
    · exact State.tcIllegal_keeps h ..
    · exact State.tcRetire_keeps h ..
  clear_value put
  split
  all_goals first
    | with_reducible exact hp _
    | with_reducible exact State.tcRetire_keeps h ..
    | with_reducible exact State.tcLoad_keeps h ..
    | with_reducible exact State.tcStore_keeps h ..
    | with_reducible exact State.tcSystem_keeps h ..
    | with_reducible exact State.tcAtomic_keeps h ..
    | with_reducible exact State.tcFpMem_keeps h ..
    | with_reducible exact State.tcFp_keeps h ..
    | with_reducible exact State.tcIllegal_keeps h ..
    | with_reducible exact Keeps.ite (fun _ => State.tcRetire_keeps h ..) (fun _ => State.tcIllegal_keeps h ..)
    | (split
       · exact State.tcIllegal_keeps h ..
       · exact State.tcRetire_keeps h ..)

theorem State.tcCode?_keeps {s₀ s : State} (h : Keeps s₀ s) (n a : Nat) {t : State × Nat} (e₁ : s.tcCode? n a = some t) :
    Keeps s₀ t.1 := by
  obtain ⟨_, _, rfl⟩ := Option.map_eq_some_iff.1 e₁
  exact State.tcRdKeys_keeps h ..

theorem tcInstruction_keeps {s₀ s : State} (hk : Keeps s₀ s) (n : Nat) : Keeps s₀ (tcInstruction s n) := by
  unfold tcInstruction
  extract_lets st t0 intr s1
  have h1 : Keeps s₀ s1 := Keeps.ite (fun _ => State.setFld_keeps hk ..) (fun _ => hk)
  refine Keeps.ite (fun _ => hk) (fun _ => ?_)
  clear_value s1
  have h2 := State.draw_keeps h1
  generalize s1.draw = o at h2
  rcases o with ⟨cyc, s2⟩
  replace h2 : Keeps s₀ s2 := h2
  dsimp -zeta only
  extract_lets s3 t
  have h3 : Keeps s₀ s3 := State.modTc_keeps h2 ..
  clear_value s3
  refine Keeps.ite (fun _ => State.modTc_keeps h3 ..) (fun _ => ?_)
  split
  · exact State.tcTrap_keeps h3 ..
  · next e =>
    have h4 := State.tcCode?_keeps h3 _ _ e
    refine Keeps.ite (fun _ => ?_) (fun _ => ?_)
    · split
      · exact State.tcIllegal_keeps h4 ..
      · exact State.tcExec_keeps h4 ..
    · split
      · exact State.tcTrap_keeps h4 ..
      · next e2 => exact State.tcExec_keeps (State.tcCode?_keeps h4 _ _ e2) ..

theorem execTcInstruction_keeps {s₀ : State} (core : Nat) {s : State} (hk : Keeps s₀ s) {t₁ : State} (e₁ : execTcInstruction core s = .next t₁) :
    Keeps s₀ t₁ := by
  unfold execTcInstruction State.done at e₁
  cases e₁
  apply State.observe_keeps
  repeat' first
    | with_reducible assumption
    | with_reducible apply tcInstruction_keeps

theorem execTcIssue_keeps {s₀ : State} (core addr : Nat) {s : State} (hk : Keeps s₀ s) {t₁ : State} (e₁ : execTcIssue core addr s = .next t₁) :
    Keeps s₀ t₁ := by
  unfold execTcIssue State.done at e₁
  cases e₁
  apply State.observe_keeps
  repeat' first
    | with_reducible assumption
    | with_reducible apply tcIssue_keeps

theorem execTcStickyClr_keeps {s₀ : State} (core : Nat) (v : Word64) {s : State} (hk : Keeps s₀ s) {t₁ : State} (e₁ : execTcStickyClr core v s = .next t₁) :
    Keeps s₀ t₁ := by
  unfold execTcStickyClr State.done at e₁
  cases e₁
  apply State.observe_keeps
  repeat' first
    | with_reducible assumption
    | with_reducible apply tcStickyClr_keeps

theorem execTcWdogWrite_keeps {s₀ : State} (core : Nat) (v : Word64) {s : State} (hk : Keeps s₀ s) {t₁ : State} (e₁ : execTcWdogWrite core v s = .next t₁) :
    Keeps s₀ t₁ := by
  unfold execTcWdogWrite State.done at e₁
  cases e₁
  apply State.observe_keeps
  repeat' first
    | with_reducible assumption
    | with_reducible apply tcWdogWrite_keeps

theorem execTcWatchdogExpiry_keeps {s₀ : State} (core : Nat) {s : State} (hk : Keeps s₀ s) {t₁ : State} (e₁ : execTcWatchdogExpiry core s = .next t₁) :
    Keeps s₀ t₁ := by
  unfold execTcWatchdogExpiry State.done at e₁
  cases e₁
  apply State.observe_keeps
  repeat' first
    | with_reducible assumption
    | with_reducible apply tcWatchdogExpiry_keeps

theorem execTcRunWrite_keeps {s₀ : State} (who : Requester) (core : Nat) (v : Word64) {s : State} (hk : Keeps s₀ s) {t₁ : State} (e₁ : execTcRunWrite who core v s = .next t₁) :
    Keeps s₀ t₁ := by
  unfold execTcRunWrite State.done at e₁
  cases e₁
  apply State.observe_keeps
  repeat' first
    | with_reducible assumption
    | with_reducible apply tcRunWrite_keeps

theorem execTcMboxWrite_keeps {s₀ : State} (who : Requester) (core : Nat) (v : Word64) {s : State} (hk : Keeps s₀ s) {t₁ : State} (e₁ : execTcMboxWrite who core v s = .next t₁) :
    Keeps s₀ t₁ := by
  unfold execTcMboxWrite State.done at e₁
  cases e₁
  apply State.observe_keeps
  repeat' first
    | with_reducible assumption
    | with_reducible apply tcMboxWrite_keeps

theorem State.modShape_keeps {s₀ : State} {s : State} (hk : Keeps s₀ s) (f : ShapeUnit → ShapeUnit) :
    Keeps s₀ (State.modShape s f) := by
  unfold State.modShape
  repeat' first
    | (with_reducible apply Keeps.upd; first | with_reducible assumption)

theorem State.enableBlock_keeps {s₀ : State} {s : State} (hk : Keeps s₀ s) (pg : Nat) :
    Keeps s₀ (State.enableBlock s pg) := by
  unfold State.enableBlock
  repeat' first
    | with_reducible assumption
    | with_reducible apply State.setFld_keeps
    | with_reducible apply State.refuseF_keeps
    | with_reducible apply State.modShape_keeps
    | with_reducible refine Keeps.ite (fun _ => ?_) (fun _ => ?_)

theorem blockEnable_keeps {s₀ : State} {s : State} (hk : Keeps s₀ s) (who : Requester) (pg : Nat) :
    Keeps s₀ (blockEnable s who pg) := by
  unfold blockEnable
  repeat' first
    | with_reducible assumption
    | with_reducible refine State.letIn_keeps ?_ _ _ _ (fun _ _ => ?_)
    | with_reducible apply State.enableBlock_keeps

theorem blockCheckDone_keeps {s₀ : State} {s : State} (hk : Keeps s₀ s) (pg : Nat) :
    Keeps s₀ (blockCheckDone s pg) := by
  unfold blockCheckDone
  repeat' first
    | with_reducible assumption
    | with_reducible apply State.setFld_keeps
    | with_reducible apply State.refuse_keeps
    | with_reducible apply State.modShape_keeps
    | lift_lets
    | (intro y; with_reducible refine Keeps.cut (x := y) ?_ (fun _ => ?_); rotate_left 1; clear_value y; rotate_left 1; unfold y)
    | with_reducible refine Keeps.ite (fun _ => ?_) (fun _ => ?_)
    | split

theorem State.disableBlock_keeps {s₀ : State} {s : State} (hk : Keeps s₀ s) (pg : Nat) :
    Keeps s₀ (State.disableBlock s pg) := by
  unfold State.disableBlock
  repeat' first
    | with_reducible assumption
    | with_reducible apply State.setFld_keeps
    | with_reducible apply State.refuseF_keeps
    | with_reducible apply State.modShape_keeps
    | lift_lets
    | (intro y; with_reducible refine Keeps.cut (x := y) ?_ (fun _ => ?_); rotate_left 1; clear_value y; rotate_left 1; unfold y)
    | (intro y; clear_value y)
    | with_reducible refine Keeps.ite (fun _ => ?_) (fun _ => ?_)

theorem blockDisable_keeps {s₀ : State} {s : State} (hk : Keeps s₀ s) (who : Requester) (pg : Nat) :
    Keeps s₀ (blockDisable s who pg) := by
  unfold blockDisable
  repeat' first
    | with_reducible assumption
    | with_reducible refine State.letIn_keeps ?_ _ _ _ (fun _ _ => ?_)
    | with_reducible apply State.disableBlock_keeps

theorem blockDrainDone_keeps {s₀ : State} {s : State} (hk : Keeps s₀ s) (pg : Nat) :
    Keeps s₀ (blockDrainDone s pg) := by
  unfold blockDrainDone
  repeat' first
    | with_reducible assumption
    | with_reducible apply State.setFld_keeps
    | with_reducible refine Keeps.ite (fun _ => ?_) (fun _ => ?_)

theorem State.resetRw_keeps {s₀ : State} {s : State} (hk : Keeps s₀ s) (pg : Nat) :
    Keeps s₀ (State.resetRw s pg) := by
  unfold State.resetRw
  repeat' first
    | (with_reducible apply Keeps.upd; first | with_reducible assumption)

theorem State.resetUnit_keeps {s₀ : State} {s : State} (hk : Keeps s₀ s) (pg : Nat) :
    Keeps s₀ (State.resetUnit s pg) := by
  unfold State.resetUnit
  lift_lets; intro i; clear_value i
  split
  · exact State.modTc_keeps (hk.foldl imageRegs _ (fun _ _ h => State.setReg_keeps h ..)) ..
  · exact Keeps.ite (fun _ => State.modStk_keeps (State.setFld_keeps hk ..) ..) (fun _ => hk)
  · exact State.closeSessions_keeps hk ..
  · exact Keeps.ite (fun _ => State.modHp_keeps (State.setFld_keeps hk ..) ..) (fun _ => hk)
  · exact State.modPart_keeps hk ..
  · exact hk

theorem State.engineReset_keeps {s₀ : State} {s : State} (hk : Keeps s₀ s) (pg : Nat) :
    Keeps s₀ (State.engineReset s pg) := by
  unfold State.engineReset
  repeat' first
    | with_reducible assumption
    | with_reducible apply State.resetRw_keeps
    | with_reducible apply State.resetUnit_keeps
    | with_reducible apply State.modShape_keeps
    | with_reducible apply State.endAll_keeps

theorem engineReset_keeps {s₀ : State} {s : State} (hk : Keeps s₀ s) (who : Requester) (pg : Nat) :
    Keeps s₀ (engineReset s who pg) := by
  unfold engineReset
  repeat' first
    | with_reducible assumption
    | with_reducible apply State.engineReset_keeps
    | with_reducible refine State.letIn_keeps ?_ _ _ _ (fun _ _ => ?_)

theorem engineResetDone_keeps {s₀ : State} {s : State} (hk : Keeps s₀ s) (pg : Nat) :
    Keeps s₀ (engineResetDone s pg) := by
  unfold engineResetDone
  repeat' first
    | with_reducible assumption
    | with_reducible apply State.modShape_keeps

theorem State.ctrlWrite_keeps {s₀ : State} {s : State} (hk : Keeps s₀ s) (pg : Nat) (v : Word64) :
    Keeps s₀ (State.ctrlWrite s pg v) := by
  unfold State.ctrlWrite
  repeat' first
    | with_reducible assumption
    | with_reducible apply State.engineReset_keeps
    | with_reducible apply State.enableBlock_keeps
    | with_reducible apply State.disableBlock_keeps
    | lift_lets
    | (intro y; with_reducible refine Keeps.cut (x := y) ?_ (fun _ => ?_); rotate_left 1; clear_value y; rotate_left 1; unfold y)
    | with_reducible refine Keeps.ite (fun _ => ?_) (fun _ => ?_)

theorem State.plainWrite_keeps {s₀ : State} {s : State} (hk : Keeps s₀ s) (pg : Nat) (r : RegRow) (x : Word64) :
    Keeps s₀ (State.plainWrite s pg r x) := by
  unfold State.plainWrite
  repeat' first
    | with_reducible assumption
    | with_reducible apply State.setReg_keeps

theorem State.maskWrite_keeps {s₀ : State} {s : State} (hk : Keeps s₀ s) (pg : Nat) (r : RegRow) (x : Word64) :
    Keeps s₀ (State.maskWrite s pg r x) := by
  unfold State.maskWrite
  repeat' first
    | with_reducible assumption
    | with_reducible apply State.plainWrite_keeps
    | lift_lets
    | (intro y; clear_value y)
    | with_reducible apply Keeps.emit
    | (with_reducible apply Keeps.upd; first | with_reducible refine Keeps.foldl ?_ _ _ (fun _ _ _ => ?_))

theorem State.clogHeadWrite_keeps {s₀ : State} {s : State} (hk : Keeps s₀ s) (h : Nat) (x : Word64) :
    Keeps s₀ (State.clogHeadWrite s h x) := by
  unfold State.clogHeadWrite
  repeat' first
    | with_reducible assumption
    | with_reducible apply State.modHp_keeps
    | with_reducible apply State.setFld_keeps

theorem State.ringRegWrite_keeps {s₀ : State} {s : State} (hk : Keeps s₀ s) (p off : Nat) (f : Ring → Ring) :
    Keeps s₀ (State.ringRegWrite s p off f) := by
  unfold State.ringRegWrite
  repeat' first
    | with_reducible assumption
    | with_reducible apply State.refuse_keeps
    | with_reducible apply State.setRing_keeps
    | lift_lets
    | (intro y; clear_value y)
    | with_reducible refine Keeps.ite (fun _ => ?_) (fun _ => ?_)

theorem State.ctxRegWrite_keeps {s₀ : State} {s : State} (hk : Keeps s₀ s) (p : Nat) (fld : Fld) (f : Ctx → Ctx) :
    Keeps s₀ (State.ctxRegWrite s p fld f) := by
  unfold State.ctxRegWrite
  repeat' first
    | with_reducible assumption
    | with_reducible apply State.ctxRefuse_keeps
    | with_reducible apply State.modCtx_keeps
    | lift_lets
    | (intro y; clear_value y)
    | with_reducible refine Keeps.ite (fun _ => ?_) (fun _ => ?_)

theorem State.kvWmWrite_keeps {s₀ : State} {s : State} (hk : Keeps s₀ s) (p : Nat) (r : RegRow) (x : Word64) :
    Keeps s₀ (State.kvWmWrite s p r x) := by
  unfold State.kvWmWrite
  repeat' first
    | with_reducible assumption
    | with_reducible apply State.plainWrite_keeps
    | with_reducible apply State.refuseF_keeps
    | with_reducible refine Keeps.ite (fun _ => ?_) (fun _ => ?_)

theorem ctxCmdWrite_keeps {s₀ : State} {s : State} (hk : Keeps s₀ s) (who : Requester) (p : Nat) (x : Word64) :
    Keeps s₀ (ctxCmdWrite s who p x) := by
  unfold ctxCmdWrite
  repeat' first
    | with_reducible assumption
    | with_reducible apply abortCmd_keeps
    | with_reducible apply suspendCtx_keeps
    | with_reducible apply resumeCtx_keeps
    | with_reducible apply switchTo_keeps
    | lift_lets
    | (intro y; with_reducible refine Keeps.cut (x := y) ?_ (fun _ => ?_); rotate_left 1; clear_value y; rotate_left 1; unfold y)
    | with_reducible refine Keeps.ite (fun _ => ?_) (fun _ => ?_)

theorem State.partWrite_keeps {s₀ : State} {s : State} (hk : Keeps s₀ s) (who : Requester) (p : Nat) (r : RegRow) (w : Width) (x : Word64) :
    Keeps s₀ (State.partWrite s who p r w x) := by
  unfold State.partWrite
  repeat' first
    | with_reducible assumption
    | with_reducible apply rtDoorbell_keeps
    | with_reducible apply State.modPart_keeps
    | with_reducible apply ctxCmdWrite_keeps
    | with_reducible apply State.ctxRegWrite_keeps
    | with_reducible apply State.kvWmWrite_keeps
    | with_reducible apply State.plainWrite_keeps
    | with_reducible apply placeDone_keeps
    | with_reducible apply State.modCtx_keeps
    | with_reducible apply State.partPwr_keeps
    | with_reducible apply kvAllocWrite_keeps
    | with_reducible apply rwtEntryCommit_keeps
    | with_reducible apply kvEpochAdv_keeps
    | with_reducible apply ringCfgWrite_keeps
    | with_reducible apply ctxCfgWrite_keeps
    | with_reducible apply State.ringRegWrite_keeps
    | with_reducible refine Keeps.ite (fun _ => ?_) (fun _ => ?_)
    | split

theorem State.claimWrite_keeps {s₀ : State} {s : State} (hk : Keeps s₀ s) (who : Requester) (h : Nat) (x : Word64) :
    Keeps s₀ (State.claimWrite s who h x) := by
  unfold State.claimWrite
  repeat' first
    | with_reducible assumption
    | with_reducible apply retainClaim_keeps
    | with_reducible apply State.draw_keeps

theorem State.hpWrite_keeps {s₀ : State} {s : State} (hk : Keeps s₀ s) (who : Requester) (h : Nat) (r : RegRow) (x : Word64) :
    Keeps s₀ (State.hpWrite s who h r x) := by
  unfold State.hpWrite
  repeat' first
    | with_reducible assumption
    | with_reducible apply State.claimWrite_keeps
    | with_reducible apply State.clogHeadWrite_keeps
    | with_reducible apply State.plainWrite_keeps
    | with_reducible apply retainDiscard_keeps
    | with_reducible apply dwQueueEnable_keeps
    | with_reducible refine Keeps.ite (fun _ => ?_) (fun _ => ?_)
    | split

theorem State.regWrite_keeps {s₀ : State} {s : State} (hk : Keeps s₀ s) (who : Requester) (pg : Nat) (r : RegRow) (w : Width) (x : Word64) :
    Keeps s₀ (State.regWrite s who pg r w x) := by
  unfold State.regWrite
  repeat' first
    | with_reducible assumption
    | with_reducible apply ccTimeSWrite_keeps
    | with_reducible apply State.ctrlWrite_keeps
    | with_reducible apply frameAttrWrite_keeps
    | with_reducible apply uuStepWrite_keeps
    | with_reducible apply errorRingHeadWrite_keeps
    | with_reducible apply svnCommit_keeps
    | with_reducible apply shpCtrlWrite_keeps
    | with_reducible apply State.crnReset_keeps
    | with_reducible apply State.refuse_keeps
    | with_reducible apply ccTimeFWrite_keeps
    | with_reducible apply tcRunWrite_keeps
    | with_reducible apply marginStart_keeps
    | with_reducible apply State.plainWrite_keeps
    | with_reducible apply tcMboxWrite_keeps
    | with_reducible apply announce_keeps
    | with_reducible apply State.partWrite_keeps
    | with_reducible apply State.hpWrite_keeps
    | with_reducible apply shpLockWrite_keeps
    | with_reducible apply strLoad_keeps
    | with_reducible apply State.maskWrite_keeps
    | lift_lets
    | (intro y; clear_value y)
    | with_reducible refine Keeps.ite (fun _ => ?_) (fun _ => ?_)
    | split

theorem State.holdHalf_keeps {s₀ : State} {s : State} (hk : Keeps s₀ s) (k : Nat) (h : Option (Nat × BitVec 32)) :
    Keeps s₀ (State.holdHalf s k h) := by
  unfold State.holdHalf
  repeat' first
    | with_reducible assumption
    | with_reducible apply State.modShape_keeps

theorem State.storeWord_keeps {s₀ s : State} (hk : Keeps s₀ s) (who : Requester) (pg : Nat) (r : RegRow) (w : Width) (v : Word64) :
    Keeps s₀ (s.storeWord who pg r w v) := by
  unfold State.storeWord
  refine Keeps.ite (fun _ => Keeps.ite (fun _ => State.refuse_keeps hk ..) (fun _ => hk)) (fun _ => ?_)
  extract_lets x t
  have h1 : Keeps s₀ t := State.holdHalf_keeps hk ..
  exact Keeps.ite (fun _ => State.regWrite_keeps h1 ..) (fun _ => h1)

theorem registerWrite_keeps {s₀ s : State} (hk : Keeps s₀ s) (who : Requester) (off : Nat) (w : Width) (v : Word64) :
    Keeps s₀ (registerWrite s who off w v) := by
  unfold registerWrite
  extract_lets pg
  clear_value pg
  refine Keeps.ite (fun _ => shFieldWrite_keeps hk ..) (fun _ => State.letIn_keeps hk _ _ _ (fun t ht => ?_))
  split
  · exact ht
  · exact State.storeWord_keeps ht ..

theorem execRegisterWrite_keeps {s₀ : State} (who : Requester) (off : Nat) (w : Width) (v : Word64) {s : State} (hk : Keeps s₀ s) {t₁ : State} (e₁ : execRegisterWrite who off w v s = .next t₁) :
    Keeps s₀ t₁ := by
  unfold execRegisterWrite State.done at e₁
  cases e₁
  apply State.observe_keeps
  repeat' first
    | with_reducible assumption
    | with_reducible apply registerWrite_keeps

theorem execBlockEnable_keeps {s₀ : State} (who : Requester) (page : Nat) {s : State} (hk : Keeps s₀ s) {t₁ : State} (e₁ : execBlockEnable who page s = .next t₁) :
    Keeps s₀ t₁ := by
  unfold execBlockEnable State.done at e₁
  cases e₁
  apply State.observe_keeps
  repeat' first
    | with_reducible assumption
    | with_reducible apply blockEnable_keeps

theorem execBlockCheckDone_keeps {s₀ : State} (page : Nat) {s : State} (hk : Keeps s₀ s) {t₁ : State} (e₁ : execBlockCheckDone page s = .next t₁) :
    Keeps s₀ t₁ := by
  unfold execBlockCheckDone State.done at e₁
  cases e₁
  apply State.observe_keeps
  repeat' first
    | with_reducible assumption
    | with_reducible apply blockCheckDone_keeps

theorem execBlockDisable_keeps {s₀ : State} (who : Requester) (page : Nat) {s : State} (hk : Keeps s₀ s) {t₁ : State} (e₁ : execBlockDisable who page s = .next t₁) :
    Keeps s₀ t₁ := by
  unfold execBlockDisable State.done at e₁
  cases e₁
  apply State.observe_keeps
  repeat' first
    | with_reducible assumption
    | with_reducible apply blockDisable_keeps

theorem execBlockDrainDone_keeps {s₀ : State} (page : Nat) {s : State} (hk : Keeps s₀ s) {t₁ : State} (e₁ : execBlockDrainDone page s = .next t₁) :
    Keeps s₀ t₁ := by
  unfold execBlockDrainDone State.done at e₁
  cases e₁
  apply State.observe_keeps
  repeat' first
    | with_reducible assumption
    | with_reducible apply blockDrainDone_keeps

theorem execEngineReset_keeps {s₀ : State} (who : Requester) (page : Nat) {s : State} (hk : Keeps s₀ s) {t₁ : State} (e₁ : execEngineReset who page s = .next t₁) :
    Keeps s₀ t₁ := by
  unfold execEngineReset State.done at e₁
  cases e₁
  apply State.observe_keeps
  repeat' first
    | with_reducible assumption
    | with_reducible apply engineReset_keeps

theorem execEngineResetDone_keeps {s₀ : State} (page : Nat) {s : State} (hk : Keeps s₀ s) {t₁ : State} (e₁ : execEngineResetDone page s = .next t₁) :
    Keeps s₀ t₁ := by
  unfold execEngineResetDone State.done at e₁
  cases e₁
  apply State.observe_keeps
  repeat' first
    | with_reducible assumption
    | with_reducible apply engineResetDone_keeps

theorem State.setStep_keeps {s₀ : State} {s : State} (hk : Keeps s₀ s) (n : Nat) :
    Keeps s₀ (State.setStep s n) := by
  unfold State.setStep
  repeat' first
    | with_reducible assumption
    | with_reducible apply State.setFld_keeps
    | with_reducible apply State.raise_keeps
    | lift_lets
    | (intro y; with_reducible refine Keeps.cut (x := y) ?_ (fun _ => ?_); rotate_left 1; clear_value y; rotate_left 1; unfold y)
    | (intro y; clear_value y)
    | with_reducible refine Keeps.ite (fun _ => ?_) (fun _ => ?_)
    | (with_reducible apply Keeps.upd; first | with_reducible assumption | with_reducible apply State.addFld_keeps)
    | split

theorem powerSample_keeps {s₀ : State} {s : State} (hk : Keeps s₀ s) (p : Nat) :
    Keeps s₀ (powerSample s p) := by
  unfold powerSample
  repeat' first
    | with_reducible assumption
    | with_reducible apply State.setFld_keeps
    | with_reducible apply State.raise_keeps
    | lift_lets
    | (intro y; with_reducible refine Keeps.cut (x := y) ?_ (fun _ => ?_); rotate_left 1; clear_value y; rotate_left 1; unfold y)
    | (intro y; clear_value y)
    | with_reducible refine Keeps.ite (fun _ => ?_) (fun _ => ?_)
    | (with_reducible apply Keeps.upd; first | with_reducible assumption | with_reducible apply State.setStep_keeps)

theorem State.thermalTrip_keeps {s₀ : State} {s : State} (hk : Keeps s₀ s) :
    Keeps s₀ (State.thermalTrip s) := by
  unfold State.thermalTrip
  repeat' first
    | with_reducible assumption
    | with_reducible apply State.setFld_keeps
    | with_reducible apply State.crnRecord_keeps
    | lift_lets
    | (intro y; with_reducible refine Keeps.cut (x := y) ?_ (fun _ => ?_); rotate_left 1; clear_value y; rotate_left 1; unfold y)
    | (intro y; clear_value y)
    | with_reducible refine Keeps.ite (fun _ => ?_) (fun _ => ?_)
    | (with_reducible apply Keeps.upd; first | with_reducible assumption | with_reducible refine Keeps.foldl ?_ _ _ (fun _ _ _ => ?_))

theorem junctionTempSample_keeps {s₀ : State} {s : State} (hk : Keeps s₀ s) (tj : Int) :
    Keeps s₀ (junctionTempSample s tj) := by
  unfold junctionTempSample
  repeat' first
    | with_reducible assumption
    | with_reducible apply State.setFld_keeps
    | with_reducible apply State.setStep_keeps
    | with_reducible apply State.thermalTrip_keeps
    | with_reducible apply State.raise_keeps
    | lift_lets
    | (intro y; with_reducible refine Keeps.cut (x := y) ?_ (fun _ => ?_); rotate_left 1; clear_value y; rotate_left 1; unfold y)
    | with_reducible refine Keeps.ite (fun _ => ?_) (fun _ => ?_)
    | (with_reducible apply Keeps.upd; first | with_reducible assumption)

theorem execPowerSample_keeps {s₀ : State} (inputW : Nat) {s : State} (hk : Keeps s₀ s) {t₁ : State} (e₁ : execPowerSample inputW s = .next t₁) :
    Keeps s₀ t₁ := by
  unfold execPowerSample State.done at e₁
  cases e₁
  apply State.observe_keeps
  repeat' first
    | with_reducible assumption
    | with_reducible apply powerSample_keeps

theorem execJunctionTempSample_keeps {s₀ : State} (tj : Int) {s : State} (hk : Keeps s₀ s) {t₁ : State} (e₁ : execJunctionTempSample tj s = .next t₁) :
    Keeps s₀ t₁ := by
  unfold execJunctionTempSample State.done at e₁
  cases e₁
  apply State.observe_keeps
  repeat' first
    | with_reducible assumption
    | with_reducible apply junctionTempSample_keeps

theorem State.moveOwners_keeps {s₀ : State} {s : State} (hk : Keeps s₀ s) (old : Bank) :
    Keeps s₀ (State.moveOwners s old) := by
  unfold State.moveOwners
  repeat' first
    | with_reducible assumption
    | with_reducible apply State.closeSessions_keeps
    | lift_lets
    | (intro y; with_reducible refine Keeps.cut (x := y) ?_ (fun _ => ?_); rotate_left 1; clear_value y; rotate_left 1; unfold y)
    | (intro y; clear_value y)
    | with_reducible refine Keeps.ite (fun _ => ?_) (fun _ => ?_)
    | (with_reducible apply Keeps.upd; first | with_reducible assumption | with_reducible refine Keeps.foldl ?_ _ _ (fun _ _ _ => ?_))

theorem State.reformSets_keeps {s₀ : State} {s : State} (hk : Keeps s₀ s) (old : Bank) :
    Keeps s₀ (State.reformSets s old) := by
  unfold State.reformSets
  repeat' first
    | with_reducible assumption
    | with_reducible apply State.lose_keeps
    | lift_lets
    | (intro y; clear_value y)
    | with_reducible refine Keeps.ite (fun _ => ?_) (fun _ => ?_)
    | (with_reducible apply Keeps.upd; first | with_reducible assumption | with_reducible refine Keeps.foldl ?_ _ _ (fun _ _ _ => ?_))

theorem State.reformKv_keeps {s₀ : State} {s : State} (hk : Keeps s₀ s) (old : Bank) (p : Nat) :
    Keeps s₀ (State.reformKv s old p) := by
  unfold State.reformKv
  repeat' first
    | with_reducible assumption
    | with_reducible apply State.wrs_keeps
    | with_reducible apply State.settleKv_keeps
    | with_reducible apply State.setFld_keeps
    | with_reducible apply State.freeTier_keeps
    | lift_lets
    | (intro y; with_reducible refine Keeps.cut (x := y) ?_ (fun _ => ?_); rotate_left 1; clear_value y; rotate_left 1; unfold y)
    | (intro y; clear_value y)
    | with_reducible refine Keeps.ite (fun _ => ?_) (fun _ => ?_)
    | (with_reducible apply Keeps.upd; first | with_reducible assumption | with_reducible apply State.freeTier_keeps)
    | split
    | dsimp only

theorem State.applyParts_keeps {s₀ : State} {s : State} (hk : Keeps s₀ s) (old : Bank) (parts : List Nat) :
    Keeps s₀ (State.applyParts s old parts) := by
  unfold State.applyParts
  repeat' first
    | with_reducible assumption
    | with_reducible apply State.reformKv_keeps
    | with_reducible apply State.checkContexts_keeps
    | (with_reducible apply Keeps.upd; first | with_reducible refine Keeps.foldl ?_ _ _ (fun _ _ _ => ?_))

theorem State.applyEnables_keeps {s₀ : State} {s : State} (hk : Keeps s₀ s) (old : Bank) :
    Keeps s₀ (State.applyEnables s old) := by
  unfold State.applyEnables
  repeat' first
    | with_reducible assumption
    | with_reducible apply State.setPort_keeps
    | lift_lets
    | (intro y; clear_value y)
    | with_reducible refine Keeps.ite (fun _ => ?_) (fun _ => ?_)
    | (with_reducible apply Keeps.upd; first | with_reducible refine Keeps.foldl ?_ _ _ (fun _ _ _ => ?_))

theorem State.applyOverrides_keeps {s₀ : State} {s : State} (hk : Keeps s₀ s) :
    Keeps s₀ (State.applyOverrides s) := by
  unfold State.applyOverrides
  repeat' first
    | with_reducible assumption
    | with_reducible apply State.trimUnit_keeps
    | with_reducible refine Keeps.ite (fun _ => ?_) (fun _ => ?_)
    | (with_reducible apply Keeps.upd; first | with_reducible refine Keeps.foldl ?_ _ _ (fun _ _ _ => ?_))

theorem State.applyStroke_keeps {s₀ : State} {s : State} (hk : Keeps s₀ s) (old : Bank) :
    Keeps s₀ (State.applyStroke s old) := by
  unfold State.applyStroke
  repeat' first
    | with_reducible assumption
    | with_reducible apply State.modStroke_keeps
    | with_reducible apply State.refuseF_keeps
    | lift_lets
    | (intro y; with_reducible refine Keeps.cut (x := y) ?_ (fun _ => ?_); rotate_left 1; clear_value y; rotate_left 1; unfold y)
    | (intro y; clear_value y)
    | with_reducible refine Keeps.ite (fun _ => ?_) (fun _ => ?_)

theorem State.quietStrokeOut_keeps {s₀ : State} {s : State} (hk : Keeps s₀ s) :
    Keeps s₀ (State.quietStrokeOut s) := by
  unfold State.quietStrokeOut
  repeat' first
    | with_reducible assumption
    | with_reducible refine Keeps.ite (fun _ => ?_) (fun _ => ?_)
    | (with_reducible apply Keeps.upd; first | with_reducible assumption)

theorem State.holdGens_keeps {s₀ : State} {s : State} (hk : Keeps s₀ s) (oldGen : Nat) :
    Keeps s₀ (State.holdGens s oldGen) := by
  unfold State.holdGens
  repeat' first
    | with_reducible apply State.setBit_keeps
    | lift_lets
    | (intro y; clear_value y)
    | (with_reducible apply Keeps.upd; first | with_reducible assumption)

theorem State.raiseApplied_keeps {s₀ s : State} (hk : Keeps s₀ s) : Keeps s₀ s.raiseApplied :=
  hk.foldl _ _ (fun _ _ ht => Keeps.ite (fun _ => ht) (fun _ => State.raise_keeps ht ..))

theorem shapeSwap_keeps {s₀ : State} {s : State} (hk : Keeps s₀ s) :
    Keeps s₀ (shapeSwap s) := by
  unfold shapeSwap
  repeat' first
    | with_reducible assumption
    | with_reducible apply State.quietStrokeOut_keeps
    | with_reducible apply State.raiseApplied_keeps
    | with_reducible apply State.setDirty_keeps
    | with_reducible apply State.moveOwners_keeps
    | with_reducible apply State.applyOverrides_keeps
    | with_reducible apply State.setFld_keeps
    | with_reducible apply State.pinNow_keeps
    | with_reducible apply State.shapeDone_keeps
    | with_reducible apply State.applyEnables_keeps
    | with_reducible apply State.applyStroke_keeps
    | with_reducible apply State.holdGens_keeps
    | with_reducible apply State.reformSets_keeps
    | with_reducible apply State.showGens_keeps
    | with_reducible apply State.applyParts_keeps
    | with_reducible apply State.mapRetired_keeps
    | lift_lets
    | (intro y; with_reducible refine Keeps.cut (x := y) ?_ (fun _ => ?_); rotate_left 1; clear_value y; rotate_left 1; unfold y)
    | (intro y; clear_value y)
    | with_reducible refine Keeps.ite (fun _ => ?_) (fun _ => ?_)
    | (with_reducible apply Keeps.upd; first | with_reducible assumption)
    | split

theorem execShapeSwap_keeps {s₀ : State} {s : State} (hk : Keeps s₀ s) {t₁ : State} (e₁ : execShapeSwap s = .next t₁) :
    Keeps s₀ t₁ := by
  unfold execShapeSwap State.done at e₁
  cases e₁
  apply State.observe_keeps
  repeat' first
    | with_reducible assumption
    | with_reducible apply shapeSwap_keeps

theorem State.takeStrokeChange_keeps {s₀ : State} {s : State} (hk : Keeps s₀ s) :
    Keeps s₀ (State.takeStrokeChange s) := by
  unfold State.takeStrokeChange
  repeat' first
    | with_reducible assumption
    | with_reducible apply State.modStroke_keeps
    | with_reducible apply State.setFld_keeps
    | with_reducible apply State.raise_keeps
    | with_reducible apply State.showGens_keeps
    | lift_lets
    | (intro y; with_reducible refine Keeps.cut (x := y) ?_ (fun _ => ?_); rotate_left 1; clear_value y; rotate_left 1; unfold y)
    | (intro y; clear_value y)
    | with_reducible refine Keeps.ite (fun _ => ?_) (fun _ => ?_)
    | (with_reducible apply Keeps.upd; first | with_reducible assumption)
    | split

theorem State.measurePhase_keeps {s₀ : State} {s : State} (hk : Keeps s₀ s) (phaseNs : Int) :
    Keeps s₀ (State.measurePhase s phaseNs) := by
  unfold State.measurePhase
  repeat' first
    | with_reducible assumption
    | with_reducible apply State.modStroke_keeps
    | with_reducible apply State.setFld_keeps
    | lift_lets
    | (intro y; clear_value y)
    | with_reducible refine Keeps.ite (fun _ => ?_) (fun _ => ?_)

theorem State.judgeEdge_keeps {s₀ : State} {s : State} (hk : Keeps s₀ s) :
    Keeps s₀ (State.judgeEdge s) := by
  unfold State.judgeEdge
  repeat' first
    | with_reducible assumption
    | with_reducible apply State.modStroke_keeps
    | with_reducible apply State.setFld_keeps
    | with_reducible apply State.setBit_keeps
    | lift_lets
    | (intro y; with_reducible refine Keeps.cut (x := y) ?_ (fun _ => ?_); rotate_left 1; clear_value y; rotate_left 1; unfold y)
    | (intro y; clear_value y)
    | with_reducible refine Keeps.ite (fun _ => ?_) (fun _ => ?_)
    | (with_reducible apply Keeps.upd; first | with_reducible assumption)

theorem State.followSource_keeps {s₀ : State} {s : State} (hk : Keeps s₀ s) (phaseNs : Int) :
    Keeps s₀ (State.followSource s phaseNs) := by
  unfold State.followSource
  repeat' first
    | with_reducible assumption
    | with_reducible apply State.followPtp_keeps
    | with_reducible apply State.setFld_keeps
    | with_reducible apply State.measurePhase_keeps
    | with_reducible apply State.judgeEdge_keeps
    | lift_lets
    | (intro y; with_reducible refine Keeps.cut (x := y) ?_ (fun _ => ?_); rotate_left 1; clear_value y; rotate_left 1; unfold y)
    | with_reducible refine Keeps.ite (fun _ => ?_) (fun _ => ?_)

theorem State.recordSteps_keeps {s₀ : State} {s : State} (hk : Keeps s₀ s) :
    Keeps s₀ (State.recordSteps s) := by
  unfold State.recordSteps
  repeat' first
    | with_reducible assumption
    | with_reducible apply State.setFld_keeps
    | lift_lets
    | (intro y; with_reducible refine Keeps.cut (x := y) ?_ (fun _ => ?_); rotate_left 1; clear_value y; rotate_left 1; unfold y)
    | (with_reducible apply Keeps.upd; first | with_reducible assumption | with_reducible apply State.addFld_keeps)
    | split

theorem State.strokeWait_keeps {s₀ : State} {s : State} (hk : Keeps s₀ s) (c : InFlight) :
    Keeps s₀ (State.strokeWait s c) := by
  unfold State.strokeWait
  repeat' first
    | with_reducible assumption
    | with_reducible apply waitStrokeCmd_keeps
    | with_reducible apply State.started_keeps
    | with_reducible apply State.releaseBarrier_keeps
    | with_reducible refine Keeps.ite (fun _ => ?_) (fun _ => ?_)
    | split

theorem State.strokeWaits_keeps {s₀ : State} {s : State} (hk : Keeps s₀ s) :
    Keeps s₀ (State.strokeWaits s) := by
  unfold State.strokeWaits
  repeat' first
    | with_reducible assumption
    | with_reducible apply State.strokeWait_keeps
    | with_reducible apply State.observe_keeps
    | with_reducible refine Keeps.ite (fun _ => ?_) (fun _ => ?_)
    | (with_reducible apply Keeps.upd; first | with_reducible refine Keeps.foldl ?_ _ _ (fun _ _ _ => ?_))

theorem State.residentStroke_keeps {s₀ : State} {s : State} (hk : Keeps s₀ s) (p c : Nat) :
    Keeps s₀ (State.residentStroke s p c) := by
  unfold State.residentStroke
  repeat' first
    | with_reducible assumption
    | with_reducible apply State.useModel_keeps
    | with_reducible apply State.modCtx_keeps
    | lift_lets
    | (intro y; with_reducible refine Keeps.cut (x := y) ?_ (fun _ => ?_); rotate_left 1; clear_value y; rotate_left 1; unfold y)
    | (intro y; clear_value y)
    | (with_reducible apply Keeps.upd; first | with_reducible refine Keeps.foldl ?_ _ _ (fun _ _ _ => ?_))

theorem State.schedule_keeps {s₀ : State} {s : State} (hk : Keeps s₀ s) (p : Nat) :
    Keeps s₀ (State.schedule s p) := by
  unfold State.schedule
  repeat' first
    | with_reducible assumption
    | with_reducible apply State.residentStroke_keeps
    | with_reducible apply State.startRestore_keeps
    | with_reducible apply State.requestPreempt_keeps
    | lift_lets
    | (intro y; with_reducible refine Keeps.cut (x := y) ?_ (fun _ => ?_); rotate_left 1; clear_value y; rotate_left 1; unfold y)
    | with_reducible refine Keeps.ite (fun _ => ?_) (fun _ => ?_)
    | split

theorem State.strokeToCores_keeps {s₀ : State} {s : State} (hk : Keeps s₀ s) (p : Nat) :
    Keeps s₀ (State.strokeToCores s p) := by
  unfold State.strokeToCores
  repeat' first
    | with_reducible assumption
    | with_reducible apply State.tcRaise_keeps
    | with_reducible refine Keeps.ite (fun _ => ?_) (fun _ => ?_)
    | (with_reducible apply Keeps.upd; first | with_reducible refine Keeps.foldl ?_ _ _ (fun _ _ _ => ?_))

theorem State.maintWork_keeps {s₀ : State} {s : State} (hk : Keeps s₀ s) :
    Keeps s₀ (State.maintWork s) := by
  unfold State.maintWork
  repeat' first
    | with_reducible assumption
    | with_reducible apply State.windowRecal_keeps
    | lift_lets
    | (intro y; with_reducible refine Keeps.cut (x := y) ?_ (fun _ => ?_); rotate_left 1; clear_value y; rotate_left 1; unfold y)
    | with_reducible refine Keeps.ite (fun _ => ?_) (fun _ => ?_)
    | (with_reducible apply Keeps.upd; first | with_reducible assumption | with_reducible refine Keeps.foldl ?_ _ _ (fun _ _ _ => ?_))

theorem strokeBoundary_keeps {s₀ : State} {s : State} (hk : Keeps s₀ s) (phaseNs : Int) (ptpNs : Nat) :
    Keeps s₀ (strokeBoundary s phaseNs ptpNs) := by
  unfold strokeBoundary
  repeat' first
    | with_reducible assumption
    | with_reducible apply State.kvBoundary_keeps
    | with_reducible apply State.driveStrokeOut_keeps
    | with_reducible apply State.modStroke_keeps
    | with_reducible apply State.setReg_keeps
    | with_reducible apply State.strokeToCores_keeps
    | with_reducible apply State.takeStrokeChange_keeps
    | with_reducible apply State.recordSteps_keeps
    | with_reducible apply State.addFld_keeps
    | with_reducible apply State.strokeWaits_keeps
    | with_reducible apply State.maintWork_keeps
    | with_reducible apply State.followSource_keeps
    | with_reducible apply State.nextCount_keeps
    | with_reducible apply State.schedule_keeps
    | with_reducible apply State.epochEffect_keeps
    | with_reducible apply State.observe_keeps
    | lift_lets
    | (intro y; with_reducible refine Keeps.cut (x := y) ?_ (fun _ => ?_); rotate_left 1; clear_value y; rotate_left 1; unfold y)
    | with_reducible refine Keeps.ite (fun _ => ?_) (fun _ => ?_)
    | (with_reducible apply Keeps.upd; first | with_reducible refine Keeps.foldl ?_ _ _ (fun _ _ _ => ?_))

theorem execStrokeBoundary_keeps {s₀ : State} (phaseNs : Int) (ptpNs : Nat) {s : State} (hk : Keeps s₀ s) {t₁ : State} (e₁ : execStrokeBoundary phaseNs ptpNs s = .next t₁) :
    Keeps s₀ t₁ := by
  unfold execStrokeBoundary State.done at e₁
  cases e₁
  apply State.observe_keeps
  repeat' first
    | with_reducible assumption
    | with_reducible apply strokeBoundary_keeps

/-- Every command keeps what no command undoes. -/
theorem exec_keeps {s t : State} (c : Instr) (e : exec c s = .next t) : Keeps s t := by
  cases c with
  | registerWrite who off w v => exact execRegisterWrite_keeps who off w v (hk := Keeps.refl s) (e₁ := e)
  | blockEnable who page => exact execBlockEnable_keeps who page (hk := Keeps.refl s) (e₁ := e)
  | blockCheckDone page => exact execBlockCheckDone_keeps page (hk := Keeps.refl s) (e₁ := e)
  | blockDisable who page => exact execBlockDisable_keeps who page (hk := Keeps.refl s) (e₁ := e)
  | blockDrainDone page => exact execBlockDrainDone_keeps page (hk := Keeps.refl s) (e₁ := e)
  | engineReset who page => exact execEngineReset_keeps who page (hk := Keeps.refl s) (e₁ := e)
  | engineResetDone page => exact execEngineResetDone_keeps page (hk := Keeps.refl s) (e₁ := e)
  | shFieldWrite who off w v => exact execShFieldWrite_keeps who off w v (hk := Keeps.refl s) (e₁ := e)
  | shpLockWrite who v => exact execShpLockWrite_keeps who v (hk := Keeps.refl s) (e₁ := e)
  | shapeCommit who ctrl => exact execShapeCommit_keeps who ctrl (hk := Keeps.refl s) (e₁ := e)
  | shapeCommitCheckDone => exact execShapeCommitCheckDone_keeps (hk := Keeps.refl s) (e₁ := e)
  | shapeSwap => exact execShapeSwap_keeps (hk := Keeps.refl s) (e₁ := e)
  | shapeRevert who ctrl => exact execShapeRevert_keeps who ctrl (hk := Keeps.refl s) (e₁ := e)
  | shapePin who ctrl => exact execShapePin_keeps who ctrl (hk := Keeps.refl s) (e₁ := e)
  | shapePinDone ok => exact execShapePinDone_keeps ok (hk := Keeps.refl s) (e₁ := e)
  | shapeDiscard who ctrl => exact execShapeDiscard_keeps who ctrl (hk := Keeps.refl s) (e₁ := e)
  | strokeBoundary phaseNs ptpNs => exact execStrokeBoundary_keeps phaseNs ptpNs (hk := Keeps.refl s) (e₁ := e)
  | strokeOutFall => exact execStrokeOutFall_keeps (hk := Keeps.refl s) (e₁ := e)
  | parkStrokesReached part => exact execParkStrokesReached_keeps part (hk := Keeps.refl s) (e₁ := e)
  | quantumExpiry part => exact execQuantumExpiry_keeps part (hk := Keeps.refl s) (e₁ := e)
  | strokeInEdge offsetNs => exact execStrokeInEdge_keeps offsetNs (hk := Keeps.refl s) (e₁ := e)
  | strokeSourcePresent => exact execStrokeSourcePresent_keeps (hk := Keeps.refl s) (e₁ := e)
  | strokeLockAcquired ptpNs => exact execStrokeLockAcquired_keeps ptpNs (hk := Keeps.refl s) (e₁ := e)
  | strokeSourceLost => exact execStrokeSourceLost_keeps (hk := Keeps.refl s) (e₁ := e)
  | holdoverExpiry => exact execHoldoverExpiry_keeps (hk := Keeps.refl s) (e₁ := e)
  | ptpMessageRx port msg => exact execPtpMessageRx_keeps port msg (hk := Keeps.refl s) (e₁ := e)
  | strLoad who => exact execStrLoad_keeps who (hk := Keeps.refl s) (e₁ := e)
  | ccTimeSRead who => exact execCcTimeSRead_keeps who (hk := Keeps.refl s) (e₁ := e)
  | ccTimeFWrite who v => exact execCcTimeFWrite_keeps who v (hk := Keeps.refl s) (e₁ := e)
  | ccTimeSWrite who v => exact execCcTimeSWrite_keeps who v (hk := Keeps.refl s) (e₁ := e)
  | xtalStop => exact execXtalStop_keeps (hk := Keeps.refl s) (e₁ := e)
  | xtalCheck ticking => exact execXtalCheck_keeps ticking (hk := Keeps.refl s) (e₁ := e)
  | vbatSample mV => exact execVbatSample_keeps mV (hk := Keeps.refl s) (e₁ := e)
  | ringEnable who part v => exact execRingEnable_keeps who part v (hk := Keeps.refl s) (e₁ := e)
  | ringDisable who part v => exact execRingDisable_keeps who part v (hk := Keeps.refl s) (e₁ := e)
  | ringDrainDone ring => exact execRingDrainDone_keeps ring (hk := Keeps.refl s) (e₁ := e)
  | dbTailWrite who ring v => exact execDbTailWrite_keeps who ring v (hk := Keeps.refl s) (e₁ := e)
  | dbCqHeadWrite who ring v => exact execDbCqHeadWrite_keeps who ring v (hk := Keeps.refl s) (e₁ := e)
  | commandFetch ccp => exact execCommandFetch_keeps ccp (hk := Keeps.refl s) (e₁ := e)
  | commandComplete ring seq => exact execCommandComplete_keeps ring seq (hk := Keeps.refl s) (e₁ := e)
  | nop ring seq => exact execNop_keeps ring seq (hk := Keeps.refl s) (e₁ := e)
  | fence ring seq => exact execFence_keeps ring seq (hk := Keeps.refl s) (e₁ := e)
  | waitStroke ring seq => exact execWaitStroke_keeps ring seq (hk := Keeps.refl s) (e₁ := e)
  | syncBarrierPropose ring seq nodes => exact execSyncBarrierPropose_keeps ring seq nodes (hk := Keeps.refl s) (e₁ := e)
  | semSignal ring seq => exact execSemSignal_keeps ring seq (hk := Keeps.refl s) (e₁ := e)
  | atomic ring seq => exact execAtomic_keeps ring seq (hk := Keeps.refl s) (e₁ := e)
  | pounce ring seq => exact execPounce_keeps ring seq (hk := Keeps.refl s) (e₁ := e)
  | gemm ring seq => exact execGemm_keeps ring seq (hk := Keeps.refl s) (e₁ := e)
  | vecStream ring seq => exact execVecStream_keeps ring seq (hk := Keeps.refl s) (e₁ := e)
  | tcInstruction core => exact execTcInstruction_keeps core (hk := Keeps.refl s) (e₁ := e)
  | tcIssue core addr => exact execTcIssue_keeps core addr (hk := Keeps.refl s) (e₁ := e)
  | tcStickyClr core v => exact execTcStickyClr_keeps core v (hk := Keeps.refl s) (e₁ := e)
  | tcWdogWrite core v => exact execTcWdogWrite_keeps core v (hk := Keeps.refl s) (e₁ := e)
  | tcWatchdogExpiry core => exact execTcWatchdogExpiry_keeps core (hk := Keeps.refl s) (e₁ := e)
  | tcRunWrite who core v => exact execTcRunWrite_keeps who core v (hk := Keeps.refl s) (e₁ := e)
  | tcMboxWrite who core v => exact execTcMboxWrite_keeps who core v (hk := Keeps.refl s) (e₁ := e)
  | convolve ring seq => exact execConvolve_keeps ring seq (hk := Keeps.refl s) (e₁ := e)
  | attnFwd ring seq => exact execAttnFwd_keeps ring seq (hk := Keeps.refl s) (e₁ := e)
  | attnBwd ring seq => exact execAttnBwd_keeps ring seq (hk := Keeps.refl s) (e₁ := e)
  | headEditRetry ring seq => exact execHeadEditRetry_keeps ring seq (hk := Keeps.refl s) (e₁ := e)
  | kvAlloc who part v => exact execKvAlloc_keeps who part v (hk := Keeps.refl s) (e₁ := e)
  | kvFree who part v => exact execKvFree_keeps who part v (hk := Keeps.refl s) (e₁ := e)
  | kvReown who part v => exact execKvReown_keeps who part v (hk := Keeps.refl s) (e₁ := e)
  | epochAdv who part => exact execEpochAdv_keeps who part (hk := Keeps.refl s) (e₁ := e)
  | limboRelease part => exact execLimboRelease_keeps part (hk := Keeps.refl s) (e₁ := e)
  | kvSpill ring seq => exact execKvSpill_keeps ring seq (hk := Keeps.refl s) (e₁ := e)
  | kvFetch ring seq => exact execKvFetch_keeps ring seq (hk := Keeps.refl s) (e₁ := e)
  | seqPark ring seq => exact execSeqPark_keeps ring seq (hk := Keeps.refl s) (e₁ := e)
  | seqUnpark ring seq => exact execSeqUnpark_keeps ring seq (hk := Keeps.refl s) (e₁ := e)
  | kvMoveCommit part => exact execKvMoveCommit_keeps part (hk := Keeps.refl s) (e₁ := e)
  | fulPack ring seq => exact execFulPack_keeps ring seq (hk := Keeps.refl s) (e₁ := e)
  | fulUnpack ring seq => exact execFulUnpack_keeps ring seq (hk := Keeps.refl s) (e₁ := e)
  | updCheck ring seq => exact execUpdCheck_keeps ring seq (hk := Keeps.refl s) (e₁ := e)
  | updApply ring seq => exact execUpdApply_keeps ring seq (hk := Keeps.refl s) (e₁ := e)
  | updStats ring seq => exact execUpdStats_keeps ring seq (hk := Keeps.refl s) (e₁ := e)
  | factorRefresh ring seq => exact execFactorRefresh_keeps ring seq (hk := Keeps.refl s) (e₁ := e)
  | mcUuStepWrite who ch v => exact execMcUuStepWrite_keeps who ch v (hk := Keeps.refl s) (e₁ := e)
  | hbmAccessComplete ch acc => exact execHbmAccessComplete_keeps ch acc (hk := Keeps.refl s) (e₁ := e)
  | retrainDone ch pass us lanes => exact execRetrainDone_keeps ch pass us lanes (hk := Keeps.refl s) (e₁ := e)
  | rowRemapCopyDone ch entry => exact execRowRemapCopyDone_keeps ch entry (hk := Keeps.refl s) (e₁ := e)
  | stackTempSample stk tempC => exact execStackTempSample_keeps stk tempC (hk := Keeps.refl s) (e₁ := e)
  | recalDue ch => exact execRecalDue_keeps ch (hk := Keeps.refl s) (e₁ := e)
  | recalOverdue ch => exact execRecalOverdue_keeps ch (hk := Keeps.refl s) (e₁ := e)
  | recalDone ch => exact execRecalDone_keeps ch (hk := Keeps.refl s) (e₁ := e)
  | evacuate ring seq => exact execEvacuate_keeps ring seq (hk := Keeps.refl s) (e₁ := e)
  | frameAttrWrite who die v => exact execFrameAttrWrite_keeps who die v (hk := Keeps.refl s) (e₁ := e)
  | frameRelease who die v => exact execFrameRelease_keeps who die v (hk := Keeps.refl s) (e₁ := e)
  | marginStart who stk v => exact execMarginStart_keeps who stk v (hk := Keeps.refl s) (e₁ := e)
  | marginDone stk errors lanes => exact execMarginDone_keeps stk errors lanes (hk := Keeps.refl s) (e₁ := e)
  | nvmWriteDone ok => exact execNvmWriteDone_keeps ok (hk := Keeps.refl s) (e₁ := e)
  | vcOpen ring seq => exact execVcOpen_keeps ring seq (hk := Keeps.refl s) (e₁ := e)
  | vcClose ring seq => exact execVcClose_keeps ring seq (hk := Keeps.refl s) (e₁ := e)
  | vcDecode ring seq => exact execVcDecode_keeps ring seq (hk := Keeps.refl s) (e₁ := e)
  | vcEncode ring seq => exact execVcEncode_keeps ring seq (hk := Keeps.refl s) (e₁ := e)
  | vcEncodeRowStart ring seq => exact execVcEncodeRowStart_keeps ring seq (hk := Keeps.refl s) (e₁ := e)
  | vcRelease ring seq => exact execVcRelease_keeps ring seq (hk := Keeps.refl s) (e₁ := e)
  | bar2Write who rid addr data => exact execBar2Write_keeps who rid addr data (hk := Keeps.refl s) (e₁ := e)
  | bar2Read who rid addr len => exact execBar2Read_keeps who rid addr len (hk := Keeps.refl s) (e₁ := e)
  | rwtEntryCommit who part v => exact execRwtEntryCommit_keeps who part v (hk := Keeps.refl s) (e₁ := e)
  | rwtSelRead who part => exact execRwtSelRead_keeps who part (hk := Keeps.refl s) (e₁ := e)
  | placeDone who part v => exact execPlaceDone_keeps who part v (hk := Keeps.refl s) (e₁ := e)
  | moveRect ring seq => exact execMoveRect_keeps ring seq (hk := Keeps.refl s) (e₁ := e)
  | atsInvalidate port addr len => exact execAtsInvalidate_keeps port addr len (hk := Keeps.refl s) (e₁ := e)
  | rtDoorbell who part v => exact execRtDoorbell_keeps who part v (hk := Keeps.refl s) (e₁ := e)
  | modelLoad part list regions => exact execModelLoad_keeps part list regions (hk := Keeps.refl s) (e₁ := e)
  | modelLoadDone part => exact execModelLoadDone_keeps part (hk := Keeps.refl s) (e₁ := e)
  | modelEvict part => exact execModelEvict_keeps part (hk := Keeps.refl s) (e₁ := e)
  | modelPin part => exact execModelPin_keeps part (hk := Keeps.refl s) (e₁ := e)
  | contextCreate part map areas => exact execContextCreate_keeps part map areas (hk := Keeps.refl s) (e₁ := e)
  | contextDestroy part => exact execContextDestroy_keeps part (hk := Keeps.refl s) (e₁ := e)
  | tierPolicy part => exact execTierPolicy_keeps part (hk := Keeps.refl s) (e₁ := e)
  | rwtGrant part alloc => exact execRwtGrant_keeps part alloc (hk := Keeps.refl s) (e₁ := e)
  | query part => exact execQuery_keeps part (hk := Keeps.refl s) (e₁ := e)
  | linkRecovery port => exact execLinkRecovery_keeps port (hk := Keeps.refl s) (e₁ := e)
  | linkUp port speed width cxl => exact execLinkUp_keeps port speed width cxl (hk := Keeps.refl s) (e₁ := e)
  | hostLoss port => exact execHostLoss_keeps port (hk := Keeps.refl s) (e₁ := e)
  | retainClaim who port ms v => exact execRetainClaim_keeps who port ms v (hk := Keeps.refl s) (e₁ := e)
  | retainDiscard who port => exact execRetainDiscard_keeps who port (hk := Keeps.refl s) (e₁ := e)
  | flr who => exact execFlr_keeps who (hk := Keeps.refl s) (e₁ := e)
  | dwQueueEnable who port v => exact execDwQueueEnable_keeps who port v (hk := Keeps.refl s) (e₁ := e)
  | dwSqTailWrite who port v => exact execDwSqTailWrite_keeps who port v (hk := Keeps.refl s) (e₁ := e)
  | dwCqHeadWrite who port v => exact execDwCqHeadWrite_keeps who port v (hk := Keeps.refl s) (e₁ := e)
  | dwCommand port ring => exact execDwCommand_keeps port ring (hk := Keeps.refl s) (e₁ := e)
  | pfD3hot port => exact execPfD3hot_keeps port (hk := Keeps.refl s) (e₁ := e)
  | pfD0 port => exact execPfD0_keeps port (hk := Keeps.refl s) (e₁ := e)
  | brimLinkUp port => exact execBrimLinkUp_keeps port (hk := Keeps.refl s) (e₁ := e)
  | brimLinkLoss port => exact execBrimLinkLoss_keeps port (hk := Keeps.refl s) (e₁ := e)
  | lldpTx port => exact execLldpTx_keeps port (hk := Keeps.refl s) (e₁ := e)
  | lldpduRx port du => exact execLldpduRx_keeps port du (hk := Keeps.refl s) (e₁ := e)
  | udpDiscoveryTimeout port => exact execUdpDiscoveryTimeout_keeps port (hk := Keeps.refl s) (e₁ := e)
  | brimDrainDone port => exact execBrimDrainDone_keeps port (hk := Keeps.refl s) (e₁ := e)
  | announce who edie => exact execAnnounce_keeps who edie (hk := Keeps.refl s) (e₁ := e)
  | announceRx port frame => exact execAnnounceRx_keeps port frame (hk := Keeps.refl s) (e₁ := e)
  | dataRx port frame => exact execDataRx_keeps port frame (hk := Keeps.refl s) (e₁ := e)
  | ackRx port frame => exact execAckRx_keeps port frame (hk := Keeps.refl s) (e₁ := e)
  | voteRx port frame => exact execVoteRx_keeps port frame (hk := Keeps.refl s) (e₁ := e)
  | signalRx port frame => exact execSignalRx_keeps port frame (hk := Keeps.refl s) (e₁ := e)
  | lostRx port frame => exact execLostRx_keeps port frame (hk := Keeps.refl s) (e₁ := e)
  | nakRx port frame => exact execNakRx_keeps port frame (hk := Keeps.refl s) (e₁ := e)
  | rtoExpiry port node => exact execRtoExpiry_keeps port node (hk := Keeps.refl s) (e₁ := e)
  | allReduce ring seq => exact execAllReduce_keeps ring seq (hk := Keeps.refl s) (e₁ := e)
  | reduceScatter ring seq => exact execReduceScatter_keeps ring seq (hk := Keeps.refl s) (e₁ := e)
  | allGather ring seq => exact execAllGather_keeps ring seq (hk := Keeps.refl s) (e₁ := e)
  | allToAll ring seq => exact execAllToAll_keeps ring seq (hk := Keeps.refl s) (e₁ := e)
  | broadcast ring seq => exact execBroadcast_keeps ring seq (hk := Keeps.refl s) (e₁ := e)
  | putRemote ring seq => exact execPutRemote_keeps ring seq (hk := Keeps.refl s) (e₁ := e)
  | voteWord ring seq => exact execVoteWord_keeps ring seq (hk := Keeps.refl s) (e₁ := e)
  | contextEnable who part v => exact execContextEnable_keeps who part v (hk := Keeps.refl s) (e₁ := e)
  | contextDisable who part v => exact execContextDisable_keeps who part v (hk := Keeps.refl s) (e₁ := e)
  | switchTo who part => exact execSwitchTo_keeps who part (hk := Keeps.refl s) (e₁ := e)
  | suspend who part => exact execSuspend_keeps who part (hk := Keeps.refl s) (e₁ := e)
  | resume who part => exact execResume_keeps who part (hk := Keeps.refl s) (e₁ := e)
  | ctxAbort who part => exact execCtxAbort_keeps who part (hk := Keeps.refl s) (e₁ := e)
  | preemptDrainDone part => exact execPreemptDrainDone_keeps part (hk := Keeps.refl s) (e₁ := e)
  | contextSaveDone part ns => exact execContextSaveDone_keeps part ns (hk := Keeps.refl s) (e₁ := e)
  | contextRestoreDone part ns => exact execContextRestoreDone_keeps part ns (hk := Keeps.refl s) (e₁ := e)
  | preemptDeadlineExpiry part => exact execPreemptDeadlineExpiry_keeps part (hk := Keeps.refl s) (e₁ := e)
  | progressWatchdogExpiry part => exact execProgressWatchdogExpiry_keeps part (hk := Keeps.refl s) (e₁ := e)
  | crnResetPart who crown v => exact execCrnResetPart_keeps who crown v (hk := Keeps.refl s) (e₁ := e)
  | partitionResetDone part => exact execPartitionResetDone_keeps part (hk := Keeps.refl s) (e₁ := e)
  | crnResetPkg who crown v => exact execCrnResetPkg_keeps who crown v (hk := Keeps.refl s) (e₁ := e)
  | resetNAssert => exact execResetNAssert_keeps (hk := Keeps.refl s) (e₁ := e)
  | resetNRelease => exact execResetNRelease_keeps (hk := Keeps.refl s) (e₁ := e)
  | packageResetDone found => exact execPackageResetDone_keeps found (hk := Keeps.refl s) (e₁ := e)
  | standbyPowerOn vbatHeld => exact execStandbyPowerOn_keeps vbatHeld (hk := Keeps.refl s) (e₁ := e)
  | coldPowerOn => exact execColdPowerOn_keeps (hk := Keeps.refl s) (e₁ := e)
  | bootComplete found => exact execBootComplete_keeps found (hk := Keeps.refl s) (e₁ := e)
  | pwrGoodFall => exact execPwrGoodFall_keeps (hk := Keeps.refl s) (e₁ := e)
  | v48Threshold mV => exact execV48Threshold_keeps mV (hk := Keeps.refl s) (e₁ := e)
  | v48Loss => exact execV48Loss_keeps (hk := Keeps.refl s) (e₁ := e)
  | clusterNap clu => exact execClusterNap_keeps clu (hk := Keeps.refl s) (e₁ := e)
  | deepNapEnter who part v => exact execDeepNapEnter_keeps who part v (hk := Keeps.refl s) (e₁ := e)
  | deepNapEntryDone part => exact execDeepNapEntryDone_keeps part (hk := Keeps.refl s) (e₁ := e)
  | deepNapExit who part v => exact execDeepNapExit_keeps who part v (hk := Keeps.refl s) (e₁ := e)
  | deepNapWakeDone part => exact execDeepNapWakeDone_keeps part (hk := Keeps.refl s) (e₁ := e)
  | blockHoldEntryDone => exact execBlockHoldEntryDone_keeps (hk := Keeps.refl s) (e₁ := e)
  | blockHoldExitDone => exact execBlockHoldExitDone_keeps (hk := Keeps.refl s) (e₁ := e)
  | powerSample inputW => exact execPowerSample_keeps inputW (hk := Keeps.refl s) (e₁ := e)
  | junctionTempSample tj => exact execJunctionTempSample_keeps tj (hk := Keeps.refl s) (e₁ := e)
  | coalesceWindowEnd source code => exact execCoalesceWindowEnd_keeps source code (hk := Keeps.refl s) (e₁ := e)
  | errorRingHeadWrite who crown v => exact execErrorRingHeadWrite_keeps who crown v (hk := Keeps.refl s) (e₁ := e)
  | svnCommit who v => exact execSvnCommit_keeps who v (hk := Keeps.refl s) (e₁ := e)
  | pldmFwUpdate image => exact execPldmFwUpdate_keeps image (hk := Keeps.refl s) (e₁ := e)
  | getVersion via => exact execGetVersion_keeps via (hk := Keeps.refl s) (e₁ := e)
  | getCapabilities via => exact execGetCapabilities_keeps via (hk := Keeps.refl s) (e₁ := e)
  | negotiateAlgorithms via => exact execNegotiateAlgorithms_keeps via (hk := Keeps.refl s) (e₁ := e)
  | getDigests via => exact execGetDigests_keeps via (hk := Keeps.refl s) (e₁ := e)
  | getCertificate via slot off len => exact execGetCertificate_keeps via slot off len (hk := Keeps.refl s) (e₁ := e)
  | challenge via slot => exact execChallenge_keeps via slot (hk := Keeps.refl s) (e₁ := e)
  | getMeasurements via index signed => exact execGetMeasurements_keeps via index signed (hk := Keeps.refl s) (e₁ := e)
  | spdmUnsupportedRequest via => exact execSpdmUnsupportedRequest_keeps via (hk := Keeps.refl s) (e₁ := e)
  | debugChallengeRead => exact execDebugChallengeRead_keeps (hk := Keeps.refl s) (e₁ := e)
  | debugUnlockResponse level sound => exact execDebugUnlockResponse_keeps level sound (hk := Keeps.refl s) (e₁ := e)
  | debugChallengeExpiry => exact execDebugChallengeExpiry_keeps (hk := Keeps.refl s) (e₁ := e)
  | crystalTick => exact execCrystalTick_keeps (hk := Keeps.refl s) (e₁ := e)
  | ptpMessageTx port => exact execPtpMessageTx_keeps port (hk := Keeps.refl s) (e₁ := e)
  | lldpTtlExpiry port => exact execLldpTtlExpiry_keeps port (hk := Keeps.refl s) (e₁ := e)
  | runtimeRestart => exact execRuntimeRestart_keeps (hk := Keeps.refl s) (e₁ := e)
  | recordFlushingRead port => exact execRecordFlushingRead_keeps port (hk := Keeps.refl s) (e₁ := e)
  | meshLinkFailed link => exact execMeshLinkFailed_keeps link (hk := Keeps.refl s) (e₁ := e)
  | edieCrownFailed unit => exact execEdieCrownFailed_keeps unit (hk := Keeps.refl s) (e₁ := e)
  | pldmRequest => exact execPldmRequest_keeps (hk := Keeps.refl s) (e₁ := e)
  | selfTestSweepDone failing => exact execSelfTestSweepDone_keeps failing (hk := Keeps.refl s) (e₁ := e)
  | mainPowerApply => exact execMainPowerApply_keeps (hk := Keeps.refl s) (e₁ := e)
  | softStartDone => exact execSoftStartDone_keeps (hk := Keeps.refl s) (e₁ := e)
  | standbyPowerLoss => exact execStandbyPowerLoss_keeps (hk := Keeps.refl s) (e₁ := e)

end Sys2Proof.Machine
end

