-- ==== Sys2Proof/Laws/PerInstr.lean ====
section
/-!
SUPPORT. Statements made of every command, one lemma per constructor: the sender of a well-formed command is a requester the device has.
-/
namespace Sys2Proof.Laws.WellFormedSender

open Sys2Proof

/-- Who sends a command, where one of its operands says so. -/
def sender? : Instr → Option Requester
  | .registerWrite who _ _ _ => some who
  | .blockEnable who _ => some who
  | .blockDisable who _ => some who
  | .engineReset who _ => some who
  | .shFieldWrite who _ _ _ => some who
  | .shpLockWrite who _ => some who
  | .shapeCommit who _ => some who
  | .shapeRevert who _ => some who
  | .shapePin who _ => some who
  | .shapeDiscard who _ => some who
  | .strLoad who => some who
  | .ccTimeSRead who => some who
  | .ccTimeFWrite who _ => some who
  | .ccTimeSWrite who _ => some who
  | .ringEnable who _ _ => some who
  | .ringDisable who _ _ => some who
  | .dbTailWrite who _ _ => some who
  | .dbCqHeadWrite who _ _ => some who
  | .tcRunWrite who _ _ => some who
  | .tcMboxWrite who _ _ => some who
  | .kvAlloc who _ _ => some who
  | .kvFree who _ _ => some who
  | .kvReown who _ _ => some who
  | .epochAdv who _ => some who
  | .mcUuStepWrite who _ _ => some who
  | .frameAttrWrite who _ _ => some who
  | .frameRelease who _ _ => some who
  | .marginStart who _ _ => some who
  | .bar2Write who _ _ _ => some who
  | .bar2Read who _ _ _ => some who
  | .rwtEntryCommit who _ _ => some who
  | .rwtSelRead who _ => some who
  | .placeDone who _ _ => some who
  | .rtDoorbell who _ _ => some who
  | .retainClaim who _ _ _ => some who
  | .retainDiscard who _ => some who
  | .flr who => some who
  | .dwQueueEnable who _ _ => some who
  | .dwSqTailWrite who _ _ => some who
  | .dwCqHeadWrite who _ _ => some who
  | .announce who _ => some who
  | .contextEnable who _ _ => some who
  | .contextDisable who _ _ => some who
  | .switchTo who _ => some who
  | .suspend who _ => some who
  | .resume who _ => some who
  | .ctxAbort who _ => some who
  | .crnResetPart who _ _ => some who
  | .crnResetPkg who _ _ => some who
  | .deepNapEnter who _ _ => some who
  | .deepNapExit who _ _ => some who
  | .errorRingHeadWrite who _ _ => some who
  | .svnCommit who _ => some who
  | .blockCheckDone _ => none
  | .blockDrainDone _ => none
  | .engineResetDone _ => none
  | .shapeCommitCheckDone => none
  | .shapeSwap => none
  | .shapePinDone _ => none
  | .strokeBoundary _ _ => none
  | .strokeOutFall => none
  | .parkStrokesReached _ => none
  | .quantumExpiry _ => none
  | .strokeInEdge _ => none
  | .strokeSourcePresent => none
  | .strokeLockAcquired _ => none
  | .strokeSourceLost => none
  | .holdoverExpiry => none
  | .ptpMessageRx _ _ => none
  | .xtalStop => none
  | .xtalCheck _ => none
  | .vbatSample _ => none
  | .ringDrainDone _ => none
  | .commandFetch _ => none
  | .commandComplete _ _ => none
  | .nop _ _ => none
  | .fence _ _ => none
  | .waitStroke _ _ => none
  | .syncBarrierPropose _ _ _ => none
  | .semSignal _ _ => none
  | .atomic _ _ => none
  | .pounce _ _ => none
  | .gemm _ _ => none
  | .vecStream _ _ => none
  | .tcInstruction _ => none
  | .tcIssue _ _ => none
  | .tcStickyClr _ _ => none
  | .tcWdogWrite _ _ => none
  | .tcWatchdogExpiry _ => none
  | .convolve _ _ => none
  | .attnFwd _ _ => none
  | .attnBwd _ _ => none
  | .headEditRetry _ _ => none
  | .limboRelease _ => none
  | .kvSpill _ _ => none
  | .kvFetch _ _ => none
  | .seqPark _ _ => none
  | .seqUnpark _ _ => none
  | .kvMoveCommit _ => none
  | .fulPack _ _ => none
  | .fulUnpack _ _ => none
  | .updCheck _ _ => none
  | .updApply _ _ => none
  | .updStats _ _ => none
  | .factorRefresh _ _ => none
  | .hbmAccessComplete _ _ => none
  | .retrainDone _ _ _ _ => none
  | .rowRemapCopyDone _ _ => none
  | .stackTempSample _ _ => none
  | .recalDue _ => none
  | .recalOverdue _ => none
  | .recalDone _ => none
  | .evacuate _ _ => none
  | .marginDone _ _ _ => none
  | .nvmWriteDone _ => none
  | .vcOpen _ _ => none
  | .vcClose _ _ => none
  | .vcDecode _ _ => none
  | .vcEncode _ _ => none
  | .vcEncodeRowStart _ _ => none
  | .vcRelease _ _ => none
  | .moveRect _ _ => none
  | .atsInvalidate _ _ _ => none
  | .modelLoad _ _ _ => none
  | .modelLoadDone _ => none
  | .modelEvict _ => none
  | .modelPin _ => none
  | .contextCreate _ _ _ => none
  | .contextDestroy _ => none
  | .tierPolicy _ => none
  | .rwtGrant _ _ => none
  | .query _ => none
  | .linkRecovery _ => none
  | .linkUp _ _ _ _ => none
  | .hostLoss _ => none
  | .dwCommand _ _ => none
  | .pfD3hot _ => none
  | .pfD0 _ => none
  | .brimLinkUp _ => none
  | .brimLinkLoss _ => none
  | .lldpTx _ => none
  | .lldpduRx _ _ => none
  | .udpDiscoveryTimeout _ => none
  | .brimDrainDone _ => none
  | .announceRx _ _ => none
  | .dataRx _ _ => none
  | .ackRx _ _ => none
  | .voteRx _ _ => none
  | .signalRx _ _ => none
  | .lostRx _ _ => none
  | .nakRx _ _ => none
  | .rtoExpiry _ _ => none
  | .allReduce _ _ => none
  | .reduceScatter _ _ => none
  | .allGather _ _ => none
  | .allToAll _ _ => none
  | .broadcast _ _ => none
  | .putRemote _ _ => none
  | .voteWord _ _ => none
  | .preemptDrainDone _ => none
  | .contextSaveDone _ _ => none
  | .contextRestoreDone _ _ => none
  | .preemptDeadlineExpiry _ => none
  | .progressWatchdogExpiry _ => none
  | .partitionResetDone _ => none
  | .resetNAssert => none
  | .resetNRelease => none
  | .packageResetDone _ => none
  | .standbyPowerOn _ => none
  | .coldPowerOn => none
  | .bootComplete _ => none
  | .pwrGoodFall => none
  | .v48Threshold _ => none
  | .v48Loss => none
  | .clusterNap _ => none
  | .deepNapEntryDone _ => none
  | .deepNapWakeDone _ => none
  | .blockHoldEntryDone => none
  | .blockHoldExitDone => none
  | .powerSample _ => none
  | .junctionTempSample _ => none
  | .coalesceWindowEnd _ _ => none
  | .pldmFwUpdate _ => none
  | .getVersion _ => none
  | .getCapabilities _ => none
  | .negotiateAlgorithms _ => none
  | .getDigests _ => none
  | .getCertificate _ _ _ _ => none
  | .challenge _ _ => none
  | .getMeasurements _ _ _ => none
  | .spdmUnsupportedRequest _ => none
  | .debugChallengeRead => none
  | .debugUnlockResponse _ _ => none
  | .debugChallengeExpiry => none
  | .crystalTick => none
  | .ptpMessageTx _ => none
  | .lldpTtlExpiry _ => none
  | .runtimeRestart => none
  | .recordFlushingRead _ => none
  | .meshLinkFailed _ => none
  | .edieCrownFailed _ => none
  | .pldmRequest => none
  | .selfTestSweepDone _ => none
  | .mainPowerApply => none
  | .softStartDone => none
  | .standbyPowerLoss => none

/-- The sender of a well-formed command is a requester the device has (Table 2.10, R21, R180). -/
def Statement (i : Instr) : Prop := i.wf = true → ∀ who, sender? i = some who → requesterOk who = true

/-- A command that names no sender. -/
theorem unsent {who : Requester} {p : Prop} (h : (none : Option Requester) = some who) : p := nomatch h

theorem registerWrite (x0 : Requester) (x1 : Nat) (x2 : Width) (x3 : Word64) : Statement (.registerWrite x0 x1 x2 x3) := by
  intro h who e; cases e; delta Instr.wf at h; simp_all
theorem blockEnable (x0 : Requester) (x1 : Nat) : Statement (.blockEnable x0 x1) := by
  intro h who e; cases e; delta Instr.wf at h; simp_all
theorem blockCheckDone (x0 : Nat) : Statement (.blockCheckDone x0) := fun _ _ h => unsent h
theorem blockDisable (x0 : Requester) (x1 : Nat) : Statement (.blockDisable x0 x1) := by
  intro h who e; cases e; delta Instr.wf at h; simp_all
theorem blockDrainDone (x0 : Nat) : Statement (.blockDrainDone x0) := fun _ _ h => unsent h
theorem engineReset (x0 : Requester) (x1 : Nat) : Statement (.engineReset x0 x1) := by
  intro h who e; cases e; delta Instr.wf at h; simp_all
theorem engineResetDone (x0 : Nat) : Statement (.engineResetDone x0) := fun _ _ h => unsent h
theorem shFieldWrite (x0 : Requester) (x1 : Nat) (x2 : Width) (x3 : Word64) : Statement (.shFieldWrite x0 x1 x2 x3) := by
  intro h who e; cases e; delta Instr.wf at h; simp_all
theorem shpLockWrite (x0 : Requester) (x1 : Word64) : Statement (.shpLockWrite x0 x1) := by
  intro h who e; cases e; delta Instr.wf at h; simp_all
theorem shapeCommit (x0 : Requester) (x1 : CommitWrite) : Statement (.shapeCommit x0 x1) := by
  intro h who e; cases e; delta Instr.wf at h; simp_all
theorem shapeCommitCheckDone : Statement (.shapeCommitCheckDone) := fun _ _ h => unsent h
theorem shapeSwap : Statement (.shapeSwap) := fun _ _ h => unsent h
theorem shapeRevert (x0 : Requester) (x1 : Word64) : Statement (.shapeRevert x0 x1) := by
  intro h who e; cases e; delta Instr.wf at h; simp_all
theorem shapePin (x0 : Requester) (x1 : Word64) : Statement (.shapePin x0 x1) := by
  intro h who e; cases e; delta Instr.wf at h; simp_all
theorem shapePinDone (x0 : Bool) : Statement (.shapePinDone x0) := fun _ _ h => unsent h
theorem shapeDiscard (x0 : Requester) (x1 : Word64) : Statement (.shapeDiscard x0 x1) := by
  intro h who e; cases e; delta Instr.wf at h; simp_all
theorem strokeBoundary (x0 : Int) (x1 : Nat) : Statement (.strokeBoundary x0 x1) := fun _ _ h => unsent h
theorem strokeOutFall : Statement (.strokeOutFall) := fun _ _ h => unsent h
theorem parkStrokesReached (x0 : Nat) : Statement (.parkStrokesReached x0) := fun _ _ h => unsent h
theorem quantumExpiry (x0 : Nat) : Statement (.quantumExpiry x0) := fun _ _ h => unsent h
theorem strokeInEdge (x0 : Int) : Statement (.strokeInEdge x0) := fun _ _ h => unsent h
theorem strokeSourcePresent : Statement (.strokeSourcePresent) := fun _ _ h => unsent h
theorem strokeLockAcquired (x0 : Nat) : Statement (.strokeLockAcquired x0) := fun _ _ h => unsent h
theorem strokeSourceLost : Statement (.strokeSourceLost) := fun _ _ h => unsent h
theorem holdoverExpiry : Statement (.holdoverExpiry) := fun _ _ h => unsent h
theorem ptpMessageRx (x0 : Nat) (x1 : PtpMessage) : Statement (.ptpMessageRx x0 x1) := fun _ _ h => unsent h
theorem strLoad (x0 : Requester) : Statement (.strLoad x0) := by
  intro h who e; cases e; delta Instr.wf at h; simp_all
theorem ccTimeSRead (x0 : Requester) : Statement (.ccTimeSRead x0) := by
  intro h who e; cases e; delta Instr.wf at h; simp_all
theorem ccTimeFWrite (x0 : Requester) (x1 : Word64) : Statement (.ccTimeFWrite x0 x1) := by
  intro h who e; cases e; delta Instr.wf at h; simp_all
theorem ccTimeSWrite (x0 : Requester) (x1 : Word64) : Statement (.ccTimeSWrite x0 x1) := by
  intro h who e; cases e; delta Instr.wf at h; simp_all
theorem xtalStop : Statement (.xtalStop) := fun _ _ h => unsent h
theorem xtalCheck (x0 : Bool) : Statement (.xtalCheck x0) := fun _ _ h => unsent h
theorem vbatSample (x0 : Nat) : Statement (.vbatSample x0) := fun _ _ h => unsent h
theorem ringEnable (x0 : Requester) (x1 : Nat) (x2 : Word64) : Statement (.ringEnable x0 x1 x2) := by
  intro h who e; cases e; delta Instr.wf at h; simp_all
theorem ringDisable (x0 : Requester) (x1 : Nat) (x2 : Word64) : Statement (.ringDisable x0 x1 x2) := by
  intro h who e; cases e; delta Instr.wf at h; simp_all
theorem ringDrainDone (x0 : Nat) : Statement (.ringDrainDone x0) := fun _ _ h => unsent h
theorem dbTailWrite (x0 : Requester) (x1 : Nat) (x2 : Word64) : Statement (.dbTailWrite x0 x1 x2) := by
  intro h who e; cases e; delta Instr.wf at h; simp_all
theorem dbCqHeadWrite (x0 : Requester) (x1 : Nat) (x2 : Word64) : Statement (.dbCqHeadWrite x0 x1 x2) := by
  intro h who e; cases e; delta Instr.wf at h; simp_all
theorem commandFetch (x0 : Nat) : Statement (.commandFetch x0) := fun _ _ h => unsent h
theorem commandComplete (x0 : Nat) (x1 : Nat) : Statement (.commandComplete x0 x1) := fun _ _ h => unsent h
theorem nop (x0 : Nat) (x1 : Nat) : Statement (.nop x0 x1) := fun _ _ h => unsent h
theorem fence (x0 : Nat) (x1 : Nat) : Statement (.fence x0 x1) := fun _ _ h => unsent h
theorem waitStroke (x0 : Nat) (x1 : Nat) : Statement (.waitStroke x0 x1) := fun _ _ h => unsent h
theorem syncBarrierPropose (x0 : Nat) (x1 : Nat) (x2 : List Nat) : Statement (.syncBarrierPropose x0 x1 x2) := fun _ _ h => unsent h
theorem semSignal (x0 : Nat) (x1 : Nat) : Statement (.semSignal x0 x1) := fun _ _ h => unsent h
theorem atomic (x0 : Nat) (x1 : Nat) : Statement (.atomic x0 x1) := fun _ _ h => unsent h
theorem pounce (x0 : Nat) (x1 : Nat) : Statement (.pounce x0 x1) := fun _ _ h => unsent h
theorem gemm (x0 : Nat) (x1 : Nat) : Statement (.gemm x0 x1) := fun _ _ h => unsent h
theorem vecStream (x0 : Nat) (x1 : Nat) : Statement (.vecStream x0 x1) := fun _ _ h => unsent h
theorem tcInstruction (x0 : Nat) : Statement (.tcInstruction x0) := fun _ _ h => unsent h
theorem tcIssue (x0 : Nat) (x1 : Nat) : Statement (.tcIssue x0 x1) := fun _ _ h => unsent h
theorem tcStickyClr (x0 : Nat) (x1 : Word64) : Statement (.tcStickyClr x0 x1) := fun _ _ h => unsent h
theorem tcWdogWrite (x0 : Nat) (x1 : Word64) : Statement (.tcWdogWrite x0 x1) := fun _ _ h => unsent h
theorem tcWatchdogExpiry (x0 : Nat) : Statement (.tcWatchdogExpiry x0) := fun _ _ h => unsent h
theorem tcRunWrite (x0 : Requester) (x1 : Nat) (x2 : Word64) : Statement (.tcRunWrite x0 x1 x2) := by
  intro h who e; cases e; delta Instr.wf at h; simp_all
theorem tcMboxWrite (x0 : Requester) (x1 : Nat) (x2 : Word64) : Statement (.tcMboxWrite x0 x1 x2) := by
  intro h who e; cases e; delta Instr.wf at h; simp_all
theorem convolve (x0 : Nat) (x1 : Nat) : Statement (.convolve x0 x1) := fun _ _ h => unsent h
theorem attnFwd (x0 : Nat) (x1 : Nat) : Statement (.attnFwd x0 x1) := fun _ _ h => unsent h
theorem attnBwd (x0 : Nat) (x1 : Nat) : Statement (.attnBwd x0 x1) := fun _ _ h => unsent h
theorem headEditRetry (x0 : Nat) (x1 : Nat) : Statement (.headEditRetry x0 x1) := fun _ _ h => unsent h
theorem kvAlloc (x0 : Requester) (x1 : Nat) (x2 : Word64) : Statement (.kvAlloc x0 x1 x2) := by
  intro h who e; cases e; delta Instr.wf at h; simp_all
theorem kvFree (x0 : Requester) (x1 : Nat) (x2 : Word64) : Statement (.kvFree x0 x1 x2) := by
  intro h who e; cases e; delta Instr.wf at h; simp_all
theorem kvReown (x0 : Requester) (x1 : Nat) (x2 : Word64) : Statement (.kvReown x0 x1 x2) := by
  intro h who e; cases e; delta Instr.wf at h; simp_all
theorem epochAdv (x0 : Requester) (x1 : Nat) : Statement (.epochAdv x0 x1) := by
  intro h who e; cases e; delta Instr.wf at h; simp_all
theorem limboRelease (x0 : Nat) : Statement (.limboRelease x0) := fun _ _ h => unsent h
theorem kvSpill (x0 : Nat) (x1 : Nat) : Statement (.kvSpill x0 x1) := fun _ _ h => unsent h
theorem kvFetch (x0 : Nat) (x1 : Nat) : Statement (.kvFetch x0 x1) := fun _ _ h => unsent h
theorem seqPark (x0 : Nat) (x1 : Nat) : Statement (.seqPark x0 x1) := fun _ _ h => unsent h
theorem seqUnpark (x0 : Nat) (x1 : Nat) : Statement (.seqUnpark x0 x1) := fun _ _ h => unsent h
theorem kvMoveCommit (x0 : Nat) : Statement (.kvMoveCommit x0) := fun _ _ h => unsent h
theorem fulPack (x0 : Nat) (x1 : Nat) : Statement (.fulPack x0 x1) := fun _ _ h => unsent h
theorem fulUnpack (x0 : Nat) (x1 : Nat) : Statement (.fulUnpack x0 x1) := fun _ _ h => unsent h
theorem updCheck (x0 : Nat) (x1 : Nat) : Statement (.updCheck x0 x1) := fun _ _ h => unsent h
theorem updApply (x0 : Nat) (x1 : Nat) : Statement (.updApply x0 x1) := fun _ _ h => unsent h
theorem updStats (x0 : Nat) (x1 : Nat) : Statement (.updStats x0 x1) := fun _ _ h => unsent h
theorem factorRefresh (x0 : Nat) (x1 : Nat) : Statement (.factorRefresh x0 x1) := fun _ _ h => unsent h
theorem mcUuStepWrite (x0 : Requester) (x1 : Nat) (x2 : Word64) : Statement (.mcUuStepWrite x0 x1 x2) := by
  intro h who e; cases e; delta Instr.wf at h; simp_all
theorem hbmAccessComplete (x0 : Nat) (x1 : HbmAccess) : Statement (.hbmAccessComplete x0 x1) := fun _ _ h => unsent h
theorem retrainDone (x0 : Nat) (x1 : Bool) (x2 : Nat) (x3 : Nat) : Statement (.retrainDone x0 x1 x2 x3) := fun _ _ h => unsent h
theorem rowRemapCopyDone (x0 : Nat) (x1 : Nat) : Statement (.rowRemapCopyDone x0 x1) := fun _ _ h => unsent h
theorem stackTempSample (x0 : Nat) (x1 : Int) : Statement (.stackTempSample x0 x1) := fun _ _ h => unsent h
theorem recalDue (x0 : Nat) : Statement (.recalDue x0) := fun _ _ h => unsent h
theorem recalOverdue (x0 : Nat) : Statement (.recalOverdue x0) := fun _ _ h => unsent h
theorem recalDone (x0 : Nat) : Statement (.recalDone x0) := fun _ _ h => unsent h
theorem evacuate (x0 : Nat) (x1 : Nat) : Statement (.evacuate x0 x1) := fun _ _ h => unsent h
theorem frameAttrWrite (x0 : Requester) (x1 : Nat) (x2 : Word64) : Statement (.frameAttrWrite x0 x1 x2) := by
  intro h who e; cases e; delta Instr.wf at h; simp_all
theorem frameRelease (x0 : Requester) (x1 : Nat) (x2 : Word64) : Statement (.frameRelease x0 x1 x2) := by
  intro h who e; cases e; delta Instr.wf at h; simp_all
theorem marginStart (x0 : Requester) (x1 : Nat) (x2 : Word64) : Statement (.marginStart x0 x1 x2) := by
  intro h who e; cases e; delta Instr.wf at h; simp_all
theorem marginDone (x0 : Nat) (x1 : Nat) (x2 : Nat) : Statement (.marginDone x0 x1 x2) := fun _ _ h => unsent h
theorem nvmWriteDone (x0 : Bool) : Statement (.nvmWriteDone x0) := fun _ _ h => unsent h
theorem vcOpen (x0 : Nat) (x1 : Nat) : Statement (.vcOpen x0 x1) := fun _ _ h => unsent h
theorem vcClose (x0 : Nat) (x1 : Nat) : Statement (.vcClose x0 x1) := fun _ _ h => unsent h
theorem vcDecode (x0 : Nat) (x1 : Nat) : Statement (.vcDecode x0 x1) := fun _ _ h => unsent h
theorem vcEncode (x0 : Nat) (x1 : Nat) : Statement (.vcEncode x0 x1) := fun _ _ h => unsent h
theorem vcEncodeRowStart (x0 : Nat) (x1 : Nat) : Statement (.vcEncodeRowStart x0 x1) := fun _ _ h => unsent h
theorem vcRelease (x0 : Nat) (x1 : Nat) : Statement (.vcRelease x0 x1) := fun _ _ h => unsent h
theorem bar2Write (x0 : Requester) (x1 : Nat) (x2 : Nat) (x3 : List Byte) : Statement (.bar2Write x0 x1 x2 x3) := by
  intro h who e; cases e; delta Instr.wf at h; simp_all
theorem bar2Read (x0 : Requester) (x1 : Nat) (x2 : Nat) (x3 : Nat) : Statement (.bar2Read x0 x1 x2 x3) := by
  intro h who e; cases e; delta Instr.wf at h; simp_all
theorem rwtEntryCommit (x0 : Requester) (x1 : Nat) (x2 : Word64) : Statement (.rwtEntryCommit x0 x1 x2) := by
  intro h who e; cases e; delta Instr.wf at h; simp_all
theorem rwtSelRead (x0 : Requester) (x1 : Nat) : Statement (.rwtSelRead x0 x1) := by
  intro h who e; cases e; delta Instr.wf at h; simp_all
theorem placeDone (x0 : Requester) (x1 : Nat) (x2 : Word64) : Statement (.placeDone x0 x1 x2) := by
  intro h who e; cases e; delta Instr.wf at h; simp_all
theorem moveRect (x0 : Nat) (x1 : Nat) : Statement (.moveRect x0 x1) := fun _ _ h => unsent h
theorem atsInvalidate (x0 : Nat) (x1 : Nat) (x2 : Nat) : Statement (.atsInvalidate x0 x1 x2) := fun _ _ h => unsent h
theorem rtDoorbell (x0 : Requester) (x1 : Nat) (x2 : Word64) : Statement (.rtDoorbell x0 x1 x2) := by
  intro h who e; cases e; delta Instr.wf at h; simp_all
theorem modelLoad (x0 : Nat) (x1 : Nat) (x2 : List (Nat × Nat)) : Statement (.modelLoad x0 x1 x2) := fun _ _ h => unsent h
theorem modelLoadDone (x0 : Nat) : Statement (.modelLoadDone x0) := fun _ _ h => unsent h
theorem modelEvict (x0 : Nat) : Statement (.modelEvict x0) := fun _ _ h => unsent h
theorem modelPin (x0 : Nat) : Statement (.modelPin x0) := fun _ _ h => unsent h
theorem contextCreate (x0 : Nat) (x1 : Nat) (x2 : List Nat) : Statement (.contextCreate x0 x1 x2) := fun _ _ h => unsent h
theorem contextDestroy (x0 : Nat) : Statement (.contextDestroy x0) := fun _ _ h => unsent h
theorem tierPolicy (x0 : Nat) : Statement (.tierPolicy x0) := fun _ _ h => unsent h
theorem rwtGrant (x0 : Nat) (x1 : Nat) : Statement (.rwtGrant x0 x1) := fun _ _ h => unsent h
theorem query (x0 : Nat) : Statement (.query x0) := fun _ _ h => unsent h
theorem linkRecovery (x0 : Nat) : Statement (.linkRecovery x0) := fun _ _ h => unsent h
theorem linkUp (x0 : Nat) (x1 : Nat) (x2 : Nat) (x3 : Bool) : Statement (.linkUp x0 x1 x2 x3) := fun _ _ h => unsent h
theorem hostLoss (x0 : Nat) : Statement (.hostLoss x0) := fun _ _ h => unsent h
theorem retainClaim (x0 : Requester) (x1 : Nat) (x2 : Nat) (x3 : Word64) : Statement (.retainClaim x0 x1 x2 x3) := by
  intro h who e; cases e; delta Instr.wf at h; simp_all
theorem retainDiscard (x0 : Requester) (x1 : Nat) : Statement (.retainDiscard x0 x1) := by
  intro h who e; cases e; delta Instr.wf at h; simp_all
theorem flr (x0 : Requester) : Statement (.flr x0) := by
  intro h who e; cases e; delta Instr.wf at h; simp_all
theorem dwQueueEnable (x0 : Requester) (x1 : Nat) (x2 : Word64) : Statement (.dwQueueEnable x0 x1 x2) := by
  intro h who e; cases e; delta Instr.wf at h; simp_all
theorem dwSqTailWrite (x0 : Requester) (x1 : Nat) (x2 : Word64) : Statement (.dwSqTailWrite x0 x1 x2) := by
  intro h who e; cases e; delta Instr.wf at h; simp_all
theorem dwCqHeadWrite (x0 : Requester) (x1 : Nat) (x2 : Word64) : Statement (.dwCqHeadWrite x0 x1 x2) := by
  intro h who e; cases e; delta Instr.wf at h; simp_all
theorem dwCommand (x0 : Nat) (x1 : Nat) : Statement (.dwCommand x0 x1) := fun _ _ h => unsent h
theorem pfD3hot (x0 : Nat) : Statement (.pfD3hot x0) := fun _ _ h => unsent h
theorem pfD0 (x0 : Nat) : Statement (.pfD0 x0) := fun _ _ h => unsent h
theorem brimLinkUp (x0 : Nat) : Statement (.brimLinkUp x0) := fun _ _ h => unsent h
theorem brimLinkLoss (x0 : Nat) : Statement (.brimLinkLoss x0) := fun _ _ h => unsent h
theorem lldpTx (x0 : Nat) : Statement (.lldpTx x0) := fun _ _ h => unsent h
theorem lldpduRx (x0 : Nat) (x1 : Lldpdu) : Statement (.lldpduRx x0 x1) := fun _ _ h => unsent h
theorem udpDiscoveryTimeout (x0 : Nat) : Statement (.udpDiscoveryTimeout x0) := fun _ _ h => unsent h
theorem brimDrainDone (x0 : Nat) : Statement (.brimDrainDone x0) := fun _ _ h => unsent h
theorem announce (x0 : Requester) (x1 : Nat) : Statement (.announce x0 x1) := by
  intro h who e; cases e; delta Instr.wf at h; simp_all
theorem announceRx (x0 : Nat) (x1 : BrimFrame) : Statement (.announceRx x0 x1) := fun _ _ h => unsent h
theorem dataRx (x0 : Nat) (x1 : BrimFrame) : Statement (.dataRx x0 x1) := fun _ _ h => unsent h
theorem ackRx (x0 : Nat) (x1 : BrimFrame) : Statement (.ackRx x0 x1) := fun _ _ h => unsent h
theorem voteRx (x0 : Nat) (x1 : BrimFrame) : Statement (.voteRx x0 x1) := fun _ _ h => unsent h
theorem signalRx (x0 : Nat) (x1 : BrimFrame) : Statement (.signalRx x0 x1) := fun _ _ h => unsent h
theorem lostRx (x0 : Nat) (x1 : BrimFrame) : Statement (.lostRx x0 x1) := fun _ _ h => unsent h
theorem nakRx (x0 : Nat) (x1 : BrimFrame) : Statement (.nakRx x0 x1) := fun _ _ h => unsent h
theorem rtoExpiry (x0 : Nat) (x1 : Nat) : Statement (.rtoExpiry x0 x1) := fun _ _ h => unsent h
theorem allReduce (x0 : Nat) (x1 : Nat) : Statement (.allReduce x0 x1) := fun _ _ h => unsent h
theorem reduceScatter (x0 : Nat) (x1 : Nat) : Statement (.reduceScatter x0 x1) := fun _ _ h => unsent h
theorem allGather (x0 : Nat) (x1 : Nat) : Statement (.allGather x0 x1) := fun _ _ h => unsent h
theorem allToAll (x0 : Nat) (x1 : Nat) : Statement (.allToAll x0 x1) := fun _ _ h => unsent h
theorem broadcast (x0 : Nat) (x1 : Nat) : Statement (.broadcast x0 x1) := fun _ _ h => unsent h
theorem putRemote (x0 : Nat) (x1 : Nat) : Statement (.putRemote x0 x1) := fun _ _ h => unsent h
theorem voteWord (x0 : Nat) (x1 : Nat) : Statement (.voteWord x0 x1) := fun _ _ h => unsent h
theorem contextEnable (x0 : Requester) (x1 : Nat) (x2 : Word64) : Statement (.contextEnable x0 x1 x2) := by
  intro h who e; cases e; delta Instr.wf at h; simp_all
theorem contextDisable (x0 : Requester) (x1 : Nat) (x2 : Word64) : Statement (.contextDisable x0 x1 x2) := by
  intro h who e; cases e; delta Instr.wf at h; simp_all
theorem switchTo (x0 : Requester) (x1 : Nat) : Statement (.switchTo x0 x1) := by
  intro h who e; cases e; delta Instr.wf at h; simp_all
theorem suspend (x0 : Requester) (x1 : Nat) : Statement (.suspend x0 x1) := by
  intro h who e; cases e; delta Instr.wf at h; simp_all
theorem resume (x0 : Requester) (x1 : Nat) : Statement (.resume x0 x1) := by
  intro h who e; cases e; delta Instr.wf at h; simp_all
theorem ctxAbort (x0 : Requester) (x1 : Nat) : Statement (.ctxAbort x0 x1) := by
  intro h who e; cases e; delta Instr.wf at h; simp_all
theorem preemptDrainDone (x0 : Nat) : Statement (.preemptDrainDone x0) := fun _ _ h => unsent h
theorem contextSaveDone (x0 : Nat) (x1 : Nat) : Statement (.contextSaveDone x0 x1) := fun _ _ h => unsent h
theorem contextRestoreDone (x0 : Nat) (x1 : Nat) : Statement (.contextRestoreDone x0 x1) := fun _ _ h => unsent h
theorem preemptDeadlineExpiry (x0 : Nat) : Statement (.preemptDeadlineExpiry x0) := fun _ _ h => unsent h
theorem progressWatchdogExpiry (x0 : Nat) : Statement (.progressWatchdogExpiry x0) := fun _ _ h => unsent h
theorem crnResetPart (x0 : Requester) (x1 : Nat) (x2 : Word64) : Statement (.crnResetPart x0 x1 x2) := by
  intro h who e; cases e; delta Instr.wf at h; simp_all
theorem partitionResetDone (x0 : Nat) : Statement (.partitionResetDone x0) := fun _ _ h => unsent h
theorem crnResetPkg (x0 : Requester) (x1 : Nat) (x2 : Word64) : Statement (.crnResetPkg x0 x1 x2) := by
  intro h who e; cases e; delta Instr.wf at h; simp_all
theorem resetNAssert : Statement (.resetNAssert) := fun _ _ h => unsent h
theorem resetNRelease : Statement (.resetNRelease) := fun _ _ h => unsent h
theorem packageResetDone (x0 : BootReport) : Statement (.packageResetDone x0) := fun _ _ h => unsent h
theorem standbyPowerOn (x0 : Bool) : Statement (.standbyPowerOn x0) := fun _ _ h => unsent h
theorem coldPowerOn : Statement (.coldPowerOn) := fun _ _ h => unsent h
theorem bootComplete (x0 : BootReport) : Statement (.bootComplete x0) := fun _ _ h => unsent h
theorem pwrGoodFall : Statement (.pwrGoodFall) := fun _ _ h => unsent h
theorem v48Threshold (x0 : Nat) : Statement (.v48Threshold x0) := fun _ _ h => unsent h
theorem v48Loss : Statement (.v48Loss) := fun _ _ h => unsent h
theorem clusterNap (x0 : Nat) : Statement (.clusterNap x0) := fun _ _ h => unsent h
theorem deepNapEnter (x0 : Requester) (x1 : Nat) (x2 : Word64) : Statement (.deepNapEnter x0 x1 x2) := by
  intro h who e; cases e; delta Instr.wf at h; simp_all
theorem deepNapEntryDone (x0 : Nat) : Statement (.deepNapEntryDone x0) := fun _ _ h => unsent h
theorem deepNapExit (x0 : Requester) (x1 : Nat) (x2 : Word64) : Statement (.deepNapExit x0 x1 x2) := by
  intro h who e; cases e; delta Instr.wf at h; simp_all
theorem deepNapWakeDone (x0 : Nat) : Statement (.deepNapWakeDone x0) := fun _ _ h => unsent h
theorem blockHoldEntryDone : Statement (.blockHoldEntryDone) := fun _ _ h => unsent h
theorem blockHoldExitDone : Statement (.blockHoldExitDone) := fun _ _ h => unsent h
theorem powerSample (x0 : Nat) : Statement (.powerSample x0) := fun _ _ h => unsent h
theorem junctionTempSample (x0 : Int) : Statement (.junctionTempSample x0) := fun _ _ h => unsent h
theorem coalesceWindowEnd (x0 : Nat) (x1 : Nat) : Statement (.coalesceWindowEnd x0 x1) := fun _ _ h => unsent h
theorem errorRingHeadWrite (x0 : Requester) (x1 : Nat) (x2 : Word64) : Statement (.errorRingHeadWrite x0 x1 x2) := by
  intro h who e; cases e; delta Instr.wf at h; simp_all
theorem svnCommit (x0 : Requester) (x1 : Word64) : Statement (.svnCommit x0 x1) := by
  intro h who e; cases e; delta Instr.wf at h; simp_all
theorem pldmFwUpdate (x0 : FwImage) : Statement (.pldmFwUpdate x0) := fun _ _ h => unsent h
theorem getVersion (x0 : Nat) : Statement (.getVersion x0) := fun _ _ h => unsent h
theorem getCapabilities (x0 : Nat) : Statement (.getCapabilities x0) := fun _ _ h => unsent h
theorem negotiateAlgorithms (x0 : Nat) : Statement (.negotiateAlgorithms x0) := fun _ _ h => unsent h
theorem getDigests (x0 : Nat) : Statement (.getDigests x0) := fun _ _ h => unsent h
theorem getCertificate (x0 : Nat) (x1 : Nat) (x2 : Nat) (x3 : Nat) : Statement (.getCertificate x0 x1 x2 x3) := fun _ _ h => unsent h
theorem challenge (x0 : Nat) (x1 : Nat) : Statement (.challenge x0 x1) := fun _ _ h => unsent h
theorem getMeasurements (x0 : Nat) (x1 : Nat) (x2 : Bool) : Statement (.getMeasurements x0 x1 x2) := fun _ _ h => unsent h
theorem spdmUnsupportedRequest (x0 : Nat) : Statement (.spdmUnsupportedRequest x0) := fun _ _ h => unsent h
theorem debugChallengeRead : Statement (.debugChallengeRead) := fun _ _ h => unsent h
theorem debugUnlockResponse (x0 : Nat) (x1 : Bool) : Statement (.debugUnlockResponse x0 x1) := fun _ _ h => unsent h
theorem debugChallengeExpiry : Statement (.debugChallengeExpiry) := fun _ _ h => unsent h
theorem crystalTick : Statement (.crystalTick) := fun _ _ h => unsent h
theorem ptpMessageTx (x0 : Nat) : Statement (.ptpMessageTx x0) := fun _ _ h => unsent h
theorem lldpTtlExpiry (x0 : Nat) : Statement (.lldpTtlExpiry x0) := fun _ _ h => unsent h
theorem runtimeRestart : Statement (.runtimeRestart) := fun _ _ h => unsent h
theorem recordFlushingRead (x0 : Nat) : Statement (.recordFlushingRead x0) := fun _ _ h => unsent h
theorem meshLinkFailed (x0 : Nat) : Statement (.meshLinkFailed x0) := fun _ _ h => unsent h
theorem edieCrownFailed (x0 : Nat) : Statement (.edieCrownFailed x0) := fun _ _ h => unsent h
theorem pldmRequest : Statement (.pldmRequest) := fun _ _ h => unsent h
theorem selfTestSweepDone (x0 : List (Nat × Nat)) : Statement (.selfTestSweepDone x0) := fun _ _ h => unsent h
theorem mainPowerApply : Statement (.mainPowerApply) := fun _ _ h => unsent h
theorem softStartDone : Statement (.softStartDone) := fun _ _ h => unsent h
theorem standbyPowerLoss : Statement (.standbyPowerLoss) := fun _ _ h => unsent h

end Sys2Proof.Laws.WellFormedSender
end

