-- ==== Sys2Proof/Tests/Slice0.lean ====
section
/-!
SUPPORT. Tests: an ill-formed term for each check of WellFormed, small facts by the spec's tables, and for each obligation with
hypotheses a concrete state and operands that meet them.
-/
set_option Elab.async false

namespace Sys2Proof.Tests

open Sys2Proof Sys2Proof.Machine

/-! ### Small states -/

/-- A command with an opcode and nothing else. -/
def cmdOf (op : Nat) (sub : Nat := 0) : Cmd :=
  ⟨op, sub, 0, 0, 0, 0, 0, 0, 0, 0, 0, 0, 0, 0, 0, 0, 0⟩

/-- A command of partition 0 and context 0 at position 0 of ring 0, on cluster 0, in a phase. -/
def inFlight (op : Nat) (ext : List Byte) (ph : Phase) (sub : Nat := 0) : InFlight :=
  ⟨0, 0, 0, 0, 0, 0, cmdOf op sub, ext, none, none, true, true, .none, ph, 0, 0, 0, [], [], false, none, [], none, none, 0, false, 0⟩

/-- The reset state with context 0 of partition 0 resident and one command in flight. -/
def withCmd (c : InFlight) : State := ({ State.reset with cmds := [c] }).modCtx 0 0 (fun x => { x with st := .resident })

/-- The reset state with both host links up. -/
def up : State := (State.reset.setFld (hpPage 0) Fld.HP_LINK_STATE 2).setFld (hpPage 1) Fld.HP_LINK_STATE 2

/-- The reset state with the Shape lock held by Crown 0. -/
def locked : State := State.reset.setFld shpPage Fld.SHP_LOCK_HOLDER 0x10

/-- The code of a result that is an error; 0 of one that is not. -/
def codeOf {α : Type} : Except Nat α → Nat
  | .error e => e
  | .ok _ => 0

/-- A byte of logical cluster 0's memory, by device address and by memory key. -/
def cm (o : Nat) : Nat := cmBase + o
def cmk (o : Nat) : Nat := cmKey 0 o

theorem test_wf_access : (Instr.hbmAccessComplete 0 ⟨false, 64, 0, 0, 0, 0, none⟩).wf = true ∧
    (Instr.hbmAccessComplete 0 ⟨false, 65, 0, 0, 0, 0, none⟩).wf = false ∧ (Instr.hbmAccessComplete 0 ⟨false, 64, 4, 0, 0, 0, none⟩).wf = false := by decide
theorem test_wf_report : (Instr.bootComplete ⟨[], [], [2], [], true, none, true, true, true, 1⟩).wf = false ∧
    (Instr.bootComplete ⟨[], [], [1], [], true, none, true, true, true, 1⟩).wf = true := by decide

/-! ### Well-formedness: each check refuses an ill-formed term -/

theorem test_wf_host_port : (Instr.linkRecovery 1).wf = true ∧ (Instr.linkRecovery 2).wf = false := by decide
theorem test_wf_partition : (Instr.quantumExpiry 63).wf = true ∧ (Instr.quantumExpiry 64).wf = false := by decide
theorem test_wf_ring : (Instr.ringDrainDone 16383).wf = true ∧ (Instr.ringDrainDone 16384).wf = false := by decide
theorem test_wf_position : (Instr.nop 0 4294967295).wf = true ∧ (Instr.nop 0 4294967296).wf = false := by decide
theorem test_wf_cluster : (Instr.clusterNap 127).wf = true ∧ (Instr.clusterNap 128).wf = false := by decide
theorem test_wf_core : (Instr.tcInstruction 1023).wf = true ∧ (Instr.tcInstruction 1024).wf = false := by decide
theorem test_wf_channel : (Instr.recalDue 1023).wf = true ∧ (Instr.recalDue 1024).wf = false := by decide
theorem test_wf_stack : (Instr.stackTempSample 31 0).wf = true ∧ (Instr.stackTempSample 32 0).wf = false := by decide
theorem test_wf_die : (Instr.frameRelease .hsc 15 0).wf = true ∧ (Instr.frameRelease .hsc 16 0).wf = false := by decide
theorem test_wf_edie : (Instr.announce .hsc 3).wf = true ∧ (Instr.announce .hsc 4).wf = false := by decide
theorem test_wf_brim_port : (Instr.brimLinkUp 63).wf = true ∧ (Instr.brimLinkUp 64).wf = false := by decide
theorem test_wf_crown : (Instr.crnResetPkg .hsc 1 0).wf = true ∧ (Instr.crnResetPkg .hsc 2 0).wf = false := by decide
theorem test_wf_node : (Instr.rtoExpiry 0 8191).wf = true ∧ (Instr.rtoExpiry 0 8192).wf = false := by decide
theorem test_wf_sender : (Instr.strLoad (.vf 1 63)).wf = true ∧ (Instr.strLoad (.vf 1 64)).wf = false ∧ (Instr.strLoad (.pf 2)).wf = false ∧
    (Instr.strLoad (.crown 2)).wf = false ∧ (Instr.strLoad (.tidy 1024)).wf = false := by decide
theorem test_wf_offset : (Instr.registerWrite .hsc 0xFFFFFF8 .w64 0).wf = true ∧ (Instr.registerWrite .hsc 0x10000000 .w64 0).wf = false ∧
    (Instr.registerWrite .hsc 4 .w64 0).wf = false := by decide
theorem test_wf_page : (Instr.blockCheckDone 0xFFFF000).wf = true ∧ (Instr.blockCheckDone 0x10000000).wf = false ∧
    (Instr.blockCheckDone 8).wf = false := by decide
theorem test_wf_requester_id : (Instr.bar2Read .hsc 65535 0 4).wf = true ∧ (Instr.bar2Read .hsc 65536 0 4).wf = false := by decide
theorem test_wf_range : (Instr.atsInvalidate 0 (2 ^ 64 - 4096) 4096).wf = true ∧ (Instr.atsInvalidate 0 (2 ^ 64 - 4095) 4096).wf = false := by decide
theorem test_wf_way : (Instr.getVersion 2).wf = true ∧ (Instr.getVersion 3).wf = false := by decide
theorem test_wf_frame : (Instr.dataRx 0 ⟨1, 0, 8, 1, 0, 0, 0, 0, 0, 7, 0, true, .none⟩).wf = true ∧
    (Instr.dataRx 0 ⟨16, 0, 8, 1, 0, 0, 0, 0, 0, 7, 0, true, .none⟩).wf = false ∧
    (Instr.dataRx 0 ⟨1, 0, 8, 65536, 0, 0, 0, 0, 0, 7, 0, true, .none⟩).wf = false := by decide
theorem test_wf_units_once : (Instr.selfTestSweepDone [(7, 0), (7, 1)]).wf = true ∧ (Instr.selfTestSweepDone [(7, 0), (7, 0)]).wf = false := by decide
theorem test_wf_slot : (Instr.pldmFwUpdate ⟨true, 1, true, 0, 0, []⟩).wf = true ∧ (Instr.pldmFwUpdate ⟨true, 2, true, 0, 0, []⟩).wf = false := by decide
theorem test_wf_level : (Instr.debugUnlockResponse 2 true).wf = true ∧ (Instr.debugUnlockResponse 3 true).wf = false := by decide

/-! ### One step on a small state, against the chapters' tables -/

/-- An empty queue idles. -/
theorem test_step_idle : step State.reset = .next State.reset := rfl

/-- The row-word function spells no command: the table gives no bits. -/
theorem test_no_words : decodeTableWord 32 0 = none ∧ State.reset.withFetchWord 32 0 = State.reset := ⟨rfl, rfl⟩

/-- Codes by the definitions of Table 5.1: FP16 1.0, BF16 1.0, and 448, the largest of E4M3. -/
theorem test_formats : kF16.decode 0x3C00 = .fin false 1024 (-10) ∧ kBF16.encode (.fin false 1 0) = 0x3F80 ∧
    kE4M3.encode (.fin false 448 0) = 0x7E := by decide +kernel

/-- A field write and read back: only its bits change. -/
theorem test_field : setBits (0xFF00 : Word64) 7 4 0xA = 0xFFA0 ∧ getBits (0xFFA0 : Word64) 7 4 = 0xA := by decide

/-! ### The hypotheses of the obligations are met -/

theorem witness_StepRunsFront : ({ State.reset with pending := [.shapeSwap] } : State).pending = [.shapeSwap] ∧ State.reset.pending = [] := by
  decide +kernel

theorem witness_NoWaitOverlooked : (withCmd (inFlight 0 [] .waiting)).seen ∧
    step { withCmd (inFlight 0 [] .waiting) with pending := [.ringDrainDone 5] } = .next (withCmd (inFlight 0 [] .waiting)).observe := by
  refine ⟨?_, ?_⟩
  · intro c hc
    have : c = inFlight 0 [] .waiting := List.mem_singleton.1 hc
    subst this
    exact fun _ _ => ⟨fun _ _ _ => rfl, fun _ _ _ => rfl⟩
  · rfl

theorem witness_MemoryFormKept : State.memWf { State.reset with mem := [(3, 1), (4, 2)] } ∧
    State.hostWf { State.reset with host := [(7, 1)] } := by
  unfold State.memWf State.hostWf; decide +kernel

/-- The reset state with a check of the security page under way. -/
def checking (wanted : Bool) : State := State.reset.modShape (fun u => { u with checks := [(pgBase secPage, wanted)] })

theorem witness_BlockEnable : State.reset.letsIn (.crown 0) (pgBase secPage) ∧ shapeBound (pgClass (pgBase secPage)) = false ∧
    State.reset.liveBlk (pgBase secPage) = false ∧ SMap.get? State.reset.shape.checks (pgBase secPage) = none ∧
    State.letsIn (checking true) (.crown 0) (pgBase secPage) ∧
    (SMap.get? (checking true).shape.checks (pgBase secPage)).isSome = true ∧
    (State.reset.modShape (fun u => { u with live := {} })).letsIn (.crown 1) (pgBase (page 10 0)) ∧
    shapeBound (pgClass (pgBase (page 10 0))) = true ∧
    (State.reset.modShape (fun u => { u with live := {} })).enabled (pgBase (page 10 0)) = false ∧
    State.reset.pageTrimmed (pgBase (page 10 0)) = false ∧
    SMap.get? (checking true).shape.checks (pgBase secPage) = some true ∧
    (checking true).blockCheck? (pgBase secPage) = none ∧
    SMap.get? (checking false).shape.checks (pgBase secPage) = some false := by
  unfold State.letsIn; decide +kernel

theorem witness_BlockEnable_refused :
    let s : State := { State.reset with trim := [(13, 0)] }.modShape (fun u => { u with checks := [(hpPage 0, true)] })
    SMap.get? s.shape.checks (pgBase (hpPage 0)) = some true ∧
    (s.modShape (fun u => { u with checks := SMap.erase u.checks (pgBase (hpPage 0)) })).blockCheck? (pgBase (hpPage 0)) =
      some (0x0103, 0x10, 0) := by
  decide +kernel

/-- The reset state with a NOP of cluster 0 in flight: its command processor's page has work. -/
def busyUnit : State := withCmd (inFlight 0x53 [] .started)

theorem witness_BlockDisable : shapeBound (pgClass (pgBase (page 5 0))) = false ∧
    (checking true).letsIn (.crown 0) (pgBase secPage) ∧ (SMap.get? (checking true).shape.checks (pgBase secPage)).isSome = true ∧
    busyUnit.letsIn (.crown 0) (pgBase (page 5 0)) ∧ SMap.get? busyUnit.shape.checks (pgBase (page 5 0)) = none ∧
    (busyUnit.setFld (pgBase (page 5 0)) Fld.BLK_CTRL_EN 0).hasWork (pgBase (page 5 0)) = true ∧
    busyUnit.hasWork (pgBase (page 5 0)) = true ∧
    State.reset.letsIn (.crown 0) (pgBase (page 5 0)) ∧
    (State.reset.setFld (pgBase (page 5 0)) Fld.BLK_CTRL_EN 0).hasWork (pgBase (page 5 0)) = false ∧
    State.reset.enabled (pgBase (page 5 0)) = false ∧ State.reset.hasWork (pgBase (page 5 0)) = false ∧
    pagePresent (pgBase (page 5 0)) = true ∧ (∀ c ∈ State.reset.cmds, State.reset.endsWith (pgBase (page 5 0)) c = false) := by
  unfold State.letsIn; decide +kernel

theorem witness_RegisterWrite : State.reset.letsIn (.crown 0) (pgBase shpPage) ∧
    State.reset.reg (pgBase shpPage + 0x38) &&& ~~~(0 : Word64) &&& State.reset.reg (pgBase shpPage + 0x30) &&& 0xFFFF000F = 0 ∧
    State.reset.letsIn (.crown 1) crnPage ∧
    (shOffs (pgClass crnPage)).contains 0x30 = false ∧ State.reset.arrives (.tidy 0) = true ∧ confined (.tidy 0) = true ∧
    State.reset.presents (.tidy 0) (pgBase 0x4F00000) = false ∧ State.reset.reqPart? (.tidy 0) = some 0 ∧
    (shOffs (pgClass 0x4F00000)).contains 0xFFF = false := by
  unfold State.letsIn; decide +kernel

theorem witness_ShapeFieldWrite : locked.letsIn (.crown 0) (pgBase strPage) ∧ confined (.crown 0) = false ∧
    (∃ row, regRow? (pgClass (strPage + 0x100)) (pgOff (strPage + 0x100)) = some row ∧ shFields row ≠ []) ∧
    requesterId (.crown 0) ≠ 0 ∧ locked.fld shpPage Fld.SHP_LOCK_HOLDER = requesterId (.crown 0) ∧ locked.shape.op = none ∧
    State.reset.letsIn (.crown 0) (pgBase strPage) ∧ State.reset.fld shpPage Fld.SHP_LOCK_HOLDER ≠ requesterId (.crown 0) ∧
    (locked.modShape (fun u => { u with op := some ⟨.commit, false, false, [], [], [], [], []⟩ })).letsIn (.crown 0) (pgBase strPage) ∧
    (locked.modShape (fun u => { u with op := some ⟨.commit, false, false, [], [], [], [], []⟩ })).shape.op ≠ none := by
  unfold State.letsIn
  refine ⟨?_, ?_, ⟨_, rfl, ?_⟩, ?_⟩ <;> decide +kernel

theorem witness_ShapeLock : (Requester.pf 2) ∉ [Requester.pf 0, .pf 1, .crown 0, .crown 1, .hsc] ∧
    State.reset.letsIn (.crown 0) shpPage ∧ State.reset.fld shpPage Fld.SHP_LOCK_HOLDER = 0 ∧ getBits (0x10 : Word64) 15 0 = 0x10 ∧
    locked.letsIn (.crown 0) shpPage ∧ locked.fld shpPage Fld.SHP_LOCK_HOLDER = 0x10 ∧ getBits (0 : Word64) 15 0 = 0 ∧
    locked.letsIn (.crown 1) shpPage ∧ requesterId (.crown 1) ≠ 0x10 ∧ getBits (0x11 : Word64) 15 0 ≠ 0 ∧
    State.reset.letsIn (.tidy 0) (pgBase (partPage 0)) ∧ confined (.tidy 0) = true ∧
    (∃ row, regRow? (pgClass (partPage 0 + 0x100)) (pgOff (partPage 0 + 0x100)) = some row ∧ shFields row ≠ []) := by
  unfold State.letsIn
  refine ⟨?_, ?_, ?_, ?_, ?_, ?_, ?_, ?_, ?_, ?_, ?_, ?_, ⟨_, rfl, ?_⟩⟩ <;> decide +kernel

/-- Crown 0 holds the lock; Live, Prior and Pending hold empty definitions of generations 2, 1 and 3. -/
def withPrior : State := locked.modShape (fun u => { u with live := { gen := 2 }, prior := { gen := 1 }, pend := { gen := 3 } })

/-- A commit under way, its check not passed, with the changed partitions that were not idle. -/
def committing (passed : Bool) (busy : List Nat) : State :=
  locked.modShape (fun u => { u with op := some ⟨.commit, passed, false, [], busy, [], [], []⟩ })

theorem witness_ShapeOperations : locked.editor (.crown 0) ∧ getBits (0 : Word64) 2 2 = 0 ∧ locked.shape.pin = none ∧ locked.shape.op = none ∧
    getBits (4 : Word64) 2 2 = 1 ∧ getBits (4 : Word64) 1 1 = 0 ∧ getBits (4 : Word64) 3 3 = 0 ∧ getBits (4 : Word64) 0 0 = 0 ∧
    withPrior.editor (.crown 0) ∧ withPrior.shape.op = none ∧ withPrior.shape.prior.gen ≠ 0 ∧
    bankDiffers withPrior.shape.pend withPrior.shape.live = false ∧
    (∀ p ∈ changedParts withPrior.shape.live withPrior.shape.prior, withPrior.idle p = true) ∧
    (committing false [0]).shape.op = some ⟨.commit, false, false, [], [0], [], [], []⟩ ∧
    (State.reset.commitFail? ((State.reset.shape.pend.setFld (partPage 1) Fld.PART_DEF_DEFINED 1).setFld (partPage 1)
      Fld.PART_RING_ALLOC_COUNT 1) ⟨.commit, false, false, [], [], [], [], []⟩).isSome = true := by
  unfold State.editor State.letsIn; decide +kernel

/-- A Shape that defines nothing passes every check of a commit. -/
theorem witness_ShapeOperations_passed :
    withPrior.commitFail? withPrior.shape.pend ⟨.commit, false, false, [], [], [], [], []⟩ = none := by decide +kernel

theorem witness_ShapeSwap : (committing true []).shape.op = some ⟨.commit, true, false, [], [], [], [], []⟩ ∧
    (withPrior.modShape (fun u => { u with op := some ⟨.revert, true, true, [], [], [], [], []⟩ })).shape.op = some ⟨.revert, true, true, [], [], [], [], []⟩ ∧
    (∀ pin ∈ [none, some ⟨1, State.reset.shape.live⟩], let s := withPrior.modShape (fun u => { u with pin := pin, op := some ⟨.commit, true, true, [], [], [], [], []⟩ })
     s.shape.op = some ⟨.commit, true, true, [], [], [], [], []⟩ ∧ s.shape.pin = pin) ∧
    (committing false []).shape.op = some ⟨.commit, false, false, [], [], [], [], []⟩ ∧ State.reset.shape.op = none ∧
    (State.reset.modShape (fun u => { u with pin := some ⟨1, u.live⟩ })).shape.pin = some ⟨1, State.reset.shape.live⟩ := by
  decide +kernel

/-- The reset state with a stroke source and a lock state. -/
def stroking (src lock : Nat) (f : StrokeUnit → StrokeUnit) : State :=
  ({ State.reset with stroke := f { source := src } }).setFld strPage Fld.STR_STATUS_LOCK lock

theorem witness_StrokeSource : (stroking 1 0 id).running = true ∧ (stroking 1 0 id).stroke.source = 1 ∧
    (stroking 1 0 id).lock = 0 ∧ (stroking 1 0 id).stroke.chain = 0 ∧
    (stroking 1 2 id).running = true ∧ (stroking 1 2 id).lock ≠ 0 ∧
    (1000 : Int).natAbs ≤ max ((stroking 1 2 id).stroke.period / 100) 100 ∧
    max ((stroking 1 2 id).stroke.period / 100) 100 < (1001 : Int).natAbs ∧
    (∀ x ∈ [((1000 : Int), (0 : Nat)), (-1000, 0), (1001, 1), (-1001, 2)], let s := stroking 1 0 (fun u => { u with chain := 1, since := 1 })
      let win : Int := max (s.stroke.period / 100) 100
      let d : Int := s.stroke.since * (10 * s.stroke.period) + x.1 - s.stroke.anchor
      let due : Int := (s.stroke.lastEdge + 1) * (10 * s.stroke.period)
      s.running = true ∧ s.stroke.source = 1 ∧ s.lock = 0 ∧ s.stroke.chain ≠ 0 ∧
      ((d - due).natAbs ≤ win ↔ x.2 = 0) ∧ (due + win < d ↔ x.2 = 1) ∧ (d + win < due ↔ x.2 = 2)) ∧
    (stroking 1 0 (fun u => { u with chain := 4 })).running = true ∧ (stroking 1 0 (fun u => { u with chain := 4 })).stroke.source = 1 ∧
    (stroking 1 0 (fun u => { u with chain := 4 })).lock = 0 ∧ 4 ≤ (stroking 1 0 (fun u => { u with chain := 4 })).stroke.chain ∧
    (stroking 2 3 (fun u => { u with ptpSlave := true })).lock = 3 ∧ (stroking 2 3 (fun u => { u with ptpSlave := true })).ptpPresent = true ∧
    (stroking 1 1 (fun u => { u with inTol := 16 })).running = true ∧ (stroking 1 1 (fun u => { u with inTol := 16 })).lock = 1 ∧
    16 ≤ (stroking 1 1 (fun u => { u with inTol := 16 })).stroke.inTol ∧
    (stroking 1 2 (fun u => { u with missed := 4 })).running = true ∧ 4 ≤ (stroking 1 2 (fun u => { u with missed := 4 })).stroke.missed ∧
    (stroking 1 2 (fun u => { u with missed := 4 })).lock = 2 ∧
    ((stroking 1 3 id).setFld strPage Fld.STR_STATUS_HOLDOVER_LEFT 0).running = true ∧
    ((stroking 1 3 id).setFld strPage Fld.STR_STATUS_HOLDOVER_LEFT 0).lock = 3 ∧
    ((stroking 1 3 id).setFld strPage Fld.STR_STATUS_HOLDOVER_LEFT 0).fld strPage Fld.STR_STATUS_HOLDOVER_LEFT = 0 := by
  decide +kernel

/-- The reset state following PTP on Brim port 0, which is trained, with SOURCE = 2 in the Live Shape. -/
def ptp : State :=
  let s := { State.reset with stroke := { source := 2, ptpSlave := true } }
  (s.modShape (fun u => { u with live := u.live.setFld strPage Fld.STR_CFG_SOURCE 2 })).setFld (brmPage 0) Fld.BRM_STATUS_STATE 2

theorem witness_ClocksAndPtp : State.reset.arrives (.crown 0) = true ∧ State.reset.mayRead (.crown 0) ccPage = true ∧
    State.reset.letsIn (.crown 0) ccPage ∧ privileged (.crown 0) = true ∧ State.reset.letsIn .hsc ccPage ∧ privileged .hsc = false ∧
    State.reset.pwr.mainLost = false ∧ State.reset.fld ccPage Fld.CC_STATUS_XTAL_FAIL = 0 ∧
    (State.reset.setFld ccPage Fld.CC_STATUS_XTAL_FAIL 1).pwr.mainLost = false ∧
    (State.reset.setFld ccPage Fld.CC_STATUS_XTAL_FAIL 1).fld ccPage Fld.CC_STATUS_XTAL_FAIL = 1 ∧
    ptp.running = true ∧ ptp.stroke.source = 2 ∧ 2 ≤ ptp.portState 0 ∧ (0 : Nat) = ptp.sh strPage Fld.STR_CFG_PTP_DOMAIN ∧
    (0 : Nat) = ptp.sh strPage Fld.STR_CFG_PTP_PORT ∧ ptp.sh strPage Fld.STR_CFG_PTP_ALT_EN = 0 ∧ ptp.stroke.ptpSlave = true ∧
    State.reset.letsIn (.crown 0) strPage ∧ State.reset.sh strPage Fld.STR_CFG_SOURCE ≠ 2 ∧ ptp.letsIn (.crown 0) strPage ∧
    ptp.sh strPage Fld.STR_CFG_SOURCE = 2 ∧ State.reset.letsIn .hsc strPage := by
  unfold State.letsIn; decide +kernel

theorem witness_StrokeBoundary : (stroking 2 2 (fun u => { u with stretch := true })).running = true ∧
    (stroking 2 2 (fun u => { u with stretch := true })).stroke.stretch = true ∧
    (let s := stroking 2 2 (fun u => { u with stretch := true })
     (0 + 20 - s.stroke.epoch * 10 ^ 9) / (10 * s.stroke.period) ≤ s.strokeNo ∧
       s.strokeNo < (10 * s.stroke.period + 20 - s.stroke.epoch * 10 ^ 9) / (10 * s.stroke.period)) ∧
    (let s := State.reset.modShape (fun u => { u with live := { gen := 1 } })
     s.running = true ∧ s.stroke.stretch = false ∧ s.cmds = [] ∧ (∀ p < 64, s.shape.live.defined p = false) ∧ s.stroke.change = none ∧
       s.sh strPage Fld.STR_MAINT_EVERY = 0 ∧ s.brim.pend = none) := by
  decide +kernel

/-- Ring 0 of partition 0 in a state, with four entries' room and a tail at 3. -/
def ringed (st : Nat) (en : Nat) : State :=
  State.reset.setRing 0 { (State.reset.ring 0) with cfg := BitVec.ofNat 64 (4 + en * 2 ^ 20), st := st, tail := 3, head := 1, cqTail := 2 }

theorem crown_mayRing (s : State) (n r : Nat) : s.mayRing (.crown n) r := by
  refine ⟨rfl, fun h => ?_, fun h => nomatch h⟩
  rcases h with ⟨_, h⟩ | ⟨_, _, h⟩ <;> cases h

/-- The reset state with ring 0 not enabled, its bases at 0 and queues of 16 entries. -/
def ringIdle : State := State.reset.setRing 0 { (State.reset.ring 0) with cqCfg := 4 }

theorem witness_RingsAndDoorbells : ringIdle.letsIn (.crown 0) (partPage 0) ∧ ringIdle.ringSel 0 = 0 ∧
    ringIdle.shape.live.ownsRing 0 0 = true ∧ (ringIdle.ring 0).en = false ∧ (ringIdle.ring 0).st = 0 ∧
    ringIdle.ringCheck? 0 0 { ringIdle.ring 0 with cfg := setBits 4 20 20 1 &&& ringCfgMask } = none ∧
    ringIdle.ringCheck? 0 0 { ringIdle.ring 0 with cfg := setBits 3 20 20 1 &&& ringCfgMask } = some (0x0102, Fld.PART_RING_CFG_LOG2_ENTRIES) ∧
    (ringed 1 1).letsIn (.crown 0) (partPage 0) ∧ (ringed 1 1).ringSel 0 = 0 ∧ (ringed 1 1).shape.live.ownsRing 0 0 = true ∧
    ((ringed 1 1).ring 0).st = 1 ∧ ((ringed 1 1).ring 0).en = true ∧
    setBits (5 : Word64) 20 20 0 &&& ringCfgMask ≠ ((ringed 1 1).ring 0).cfg &&& ringCfgMask ∧
    (∀ b ∈ [0, 1], setBits (BitVec.ofNat 64 (4 + 2 ^ 20) : Word64) 20 20 b &&& ringCfgMask = ((ringed 1 1).ring 0).cfg &&& ringCfgMask) ∧
    (ringed 2 0).letsIn (.crown 0) (partPage 0) ∧ ((ringed 2 0).ring 0).st = 2 ∧ ((ringed 2 0).ring 0).en = false ∧
    State.reset.letsIn (.crown 0) (partPage 1) ∧ State.reset.shape.live.ownsRing 1 (State.reset.ringSel 1) = false ∧
    ((ringed 3 0).ring 0).st = 3 ∧ (ringed 3 0).inflight 0 = 0 ∧
    (({ ringed 3 0 with cmds := [inFlight 0 [] .waiting] } : State).ring 0).st = 3 ∧
    ({ ringed 3 0 with cmds := [inFlight 0 [] .waiting] } : State).inflight 0 ≠ 0 ∧
    (ringed 1 1).ringPart? 0 = some 0 ∧ getBits (17 : Word64) 31 0 ≠ ((ringed 1 1).ring 0).tail ∧
    sub32 (getBits (17 : Word64) 31 0) ((ringed 1 1).ring 0).head ≤ 2 ^ ((ringed 1 1).ring 0).log2 ∧
    sub32 (getBits (17 : Word64) 31 0) ((ringed 1 1).ring 0).tail ≤ 2 ^ ((ringed 1 1).ring 0).log2 ∧
    (ringed 1 1).fld (partPage 0) Fld.PART_PWR_STATE ≠ 1 ∧ (ringed 1 1).fld (partPage 0) Fld.PART_PWR_STATE ≠ 2 ∧
    (∀ st ∈ [1, 2], ((ringed 1 1).setFld (partPage 0) Fld.PART_PWR_STATE st).fld (partPage 0) Fld.PART_PWR_AUTO_WAKE = 1 ∧
      ((ringed 1 1).setFld (partPage 0) Fld.PART_PWR_STATE st).fld (partPage 0) Fld.PART_PWR_STATE = st) ∧
    ((ringed 1 1).setFld (partPage 0) Fld.PART_PWR_AUTO_WAKE 0).fld (partPage 0) Fld.PART_PWR_AUTO_WAKE = 0 ∧
    2 ^ ((ringed 1 1).ring 0).log2 < sub32 (getBits (18 : Word64) 31 0) ((ringed 1 1).ring 0).head ∧
    State.reset.arrives (.pf 0) = false ∧ (State.reset.modShape (fun u => { u with live := {} })).ringPart? 0 = none ∧
    ((ringed 0 0).ring 0).st ≠ 1 ∧ getBits (3 : Word64) 31 0 = ((ringed 1 1).ring 0).tail ∧
    sub32 (getBits (2 : Word64) 31 0) ((ringed 1 1).ring 0).cqHead ≤ sub32 ((ringed 1 1).ring 0).cqTail ((ringed 1 1).ring 0).cqHead ∧
    sub32 ((ringed 1 1).ring 0).cqTail ((ringed 1 1).ring 0).cqHead < sub32 (getBits (3 : Word64) 31 0) ((ringed 1 1).ring 0).cqHead := by
  unfold State.letsIn; decide +kernel

/-- The reset state with ring 0 enabled on cluster 0 and one entry of zeros, a NOP, at its head. -/
def fetchable : State :=
  ({ ringIdle with mem := (List.range 64).map (fun i => (i, 0)) }.modRing 0 (fun x => { x with cfg := 0x100004, st := 1, tail := 1 })).modCtx
    0 0 (fun x => { x with st := .resident })

theorem witness_CommandFetch : fetchable.flows ∧ fetchable.ccpRoom 0 = true ∧ fetchable.nextIssue? 0 = none ∧ fetchable.nextRing? 0 = some 0 ∧
    fetchable.ringPart? 0 = some 0 ∧ (fetchable.readEntry 0 0).isOk = true ∧ fetchable.bad = [] ∧
    codeOf ((fetchable.modRing 0 (fun x => { x with base := 0x10000000000000 })).readEntry 0 0) = 0x030C := by
  unfold State.flows; decide +kernel

/-- A command whose work has ended with status 0 and its flags. -/
def endedCmd (flags : Nat) : InFlight := { inFlight 0 [] .ended with cmd := { cmdOf 0 with flags := flags } }

/-- The reset state with one such command, and completion queues of 16 entries. -/
def ended (c : InFlight) : State := ({ State.reset with cmds := [c] }).setRing 0 { (State.reset.ring 0) with cqCfg := 4 }

theorem witness_CommandCompletes : (ended (endedCmd 32)).cmdAt? 0 0 = some (endedCmd 32) ∧ (endedCmd 32).phase = .ended ∧
    (endedCmd 32).saved = false ∧ (endedCmd 32).unacked = 0 ∧ (endedCmd 32).tc = none ∧
    (∀ n ∈ [0, 32, 36], (ended (endedCmd n)).writeHeld 0 0 = false ∧ (ended (endedCmd n)).flows) ∧
    (ended (endedCmd 32)).deadlineMissed (endedCmd 32) = false ∧ (endedCmd 32).cmd.sigEn = false ∧ (endedCmd 32).cmd.noRecord = true ∧
    (endedCmd 32).status = 0 ∧
    (ended (endedCmd 0)).cmdAt? 0 0 = some (endedCmd 0) ∧ (ended (endedCmd 0)).deadlineMissed (endedCmd 0) = false ∧
    (endedCmd 0).cmd.sigEn = false ∧ (endedCmd 0).cmd.noRecord = false ∧ (endedCmd 0).dw = none ∧
    ((ended (endedCmd 0)).ring 0).cqInHost = false ∧ (endedCmd 0).cmd.irq = false ∧
    codeOf ((ended (endedCmd 0)).xlate (some 0) (((ended (endedCmd 0)).ring 0).cqBase.toNat + 32 * (((ended (endedCmd 0)).ring 0).cqTail %
      2 ^ ((ended (endedCmd 0)).ring 0).cqLog2))) = 0 ∧
    (endedCmd 36).cmd.sigEn = true ∧ (endedCmd 36).cmd.noRecord = true ∧ (endedCmd 36).cmd.sigOp = 0 ∧
    { endedCmd 36 with sig := .local 64 }.sig = .local 64 := by
  unfold State.flows; decide +kernel

/-- The ended command with a deadline at stroke 0 of a context that slipped by nothing, and at stroke 1. -/
def due (m : Nat) : InFlight := { endedCmd 0 with cmd := { cmdOf 0 with deadline := m } }

theorem witness_DeadlineMissed : let s := (ended (due 1)).setReg (strPage + Reg.STR_COUNT) 1
    s.cmdAt? 0 0 = some (due 1) ∧ (due 1).cmd.noRecord = false ∧ (due 1).info % 2 = 0 ∧ (due 1).cmd.deadline ≠ 0 ∧
    (due 1).cmd.deadline + s.slipOf (due 1) ≤ s.strokeNo ∧ (s.ring 0).cqInHost = false ∧ s.writeHeld 0 0 = false ∧ s.flows ∧
    (ended (due 1)).strokeNo < (due 1).cmd.deadline + (ended (due 1)).slipOf (due 1) ∧ (ended (due 1)).strokeNo < 2 ^ 48 := by
  unfold State.flows; decide +kernel

/-- A WAIT_STROKE for stroke `n` that waits. -/
def waitFor (n : Nat) : InFlight := { inFlight 2 [] .waiting with cmd := { cmdOf 2 with notBefore := n } }

theorem witness_WaitStroke : (withCmd (waitFor 1)).observe.cmdAt? 0 0 = some (waitFor 1) ∧ (waitFor 1).cmd.op = 2 ∧
    (waitFor 1).cmd.opFlags % 2 = 0 ∧ (waitFor 1).phase = .waiting ∧ (waitFor 1).saved = false ∧ (waitFor 1).met0 = true ∧
    (waitFor 1).met1 = true ∧ (withCmd (waitFor 1)).observe.fenced (waitFor 1) = false ∧
    (withCmd (waitFor 1)).observe.priorPending (waitFor 1) = false ∧ ((withCmd (waitFor 1)).observe.ctx 0 0).st = .resident ∧
    (withCmd (waitFor 1)).observe.partAsleep 0 = false ∧
    (withCmd (waitFor 1)).observe.shape.engineResets.contains (page 6 0) = false ∧ (waitFor 1).cmd.notBefore ≠ 0 ∧
    (withCmd (waitFor 1)).observe.strokeNo < 1 + (withCmd (waitFor 1)).observe.slipOf (waitFor 1) ∧
    (withCmd (waitFor 0)).observe.cmdAt? 0 0 = some (waitFor 0) ∧ (waitFor 1).ccp < 128 ∧
    (withCmd (waitFor 0)).observe.shape.stopped = [] ∧ (withCmd (waitFor 0)).flows ∧ (withCmd (waitFor 1)).observe.strokeNo < 2 ^ 48 ∧
    0 + (withCmd (waitFor 0)).observe.slipOf (waitFor 0) ≤ (withCmd (waitFor 0)).observe.strokeNo := by
  unfold State.flows; decide +kernel

theorem witness_ControlCommands : (withCmd (inFlight 0 [] .waiting)).ready 0 0 0 (inFlight 0 [] .waiting) ∧
    (withCmd (inFlight 3 [] .waiting)).ready 3 0 0 (inFlight 3 [] .waiting) ∧
    (withCmd (inFlight 1 [] .waiting)).ready 1 0 0 (inFlight 1 [] .waiting) ∧
    (∀ f ∈ (withCmd (inFlight 1 [] .waiting)).observe.cmds, f.order < 0 → f.ring ≠ 0) ∧
    (let c := { inFlight 1 [] .waiting with seq := 1, order := 1 }
     let s := { withCmd (inFlight 0 [] .started) with cmds := [inFlight 0 [] .started, c] }
     s.ready 1 0 1 c ∧ inFlight 0 [] .started ∈ s.observe.cmds ∧ (inFlight 0 [] .started).order < c.order ∧ c.cmd.sub = 0) ∧
    (withCmd (inFlight 2 [] .waiting)).ready 2 0 0 (inFlight 2 [] .waiting) ∧
    (let c := { inFlight 2 [] .waiting with cmd := { cmdOf 2 with flags := 65536 } }
     (withCmd c).ready 2 0 0 c ∧ c.cmd.opFlags % 2 = 1) := by
  unfold State.ready State.flows; decide +kernel

theorem witness_ControlCommands_atomic : let c := inFlight 4 (leBytes 64 4096) .waiting
    let bad := inFlight 4 (leBytes 64 (2 ^ 62)) .waiting
    (withCmd c).ready 4 0 0 c ∧ codeOf (((withCmd c).atStart c).xlate (some 0) (leAt c.ext 0 8)) = 0 ∧
    ((withCmd c).atStart c).badIn 4096 8 = false ∧
    ({ withCmd c with bad := [4096] } : State).ready 4 0 0 c ∧ (({ withCmd c with bad := [4096] } : State).atStart c).badIn 4096 8 = true ∧
    (withCmd bad).ready 4 0 0 bad ∧ codeOf (((withCmd bad).atStart bad).xlate (some 0) (leAt bad.ext 0 8)) ≠ 0 := by
  unfold State.ready State.flows; decide +kernel

/-- A POUNCE over one row of 16 FP32 elements at an address, for its own partition. -/
def pounceOf (a : Nat) : InFlight :=
  inFlight 0x32 (leBytes 8 a ++ leBytes 4 1 ++ leBytes 4 16 ++ leBytes 8 64 ++ leBytes 40 0) .waiting

/-- Partition 0 has job 1, its context 0 an inbound window of 4 KiB at 0, and the node is the one member. -/
def windowed (c : InFlight) : State :=
  let s := (withCmd c).modCtx 0 0 (fun x => { x with windows := [⟨0, 4096, false, none⟩] })
  (s.modShape (fun u => { u with live := u.live.setFld (partPage 0) Fld.PART_BRIM_JOB 1 })).modBrim (fun b => { b with members := 1 })

/-- A PUT or VOTE of 8 bytes from 4,096 to 0 for node 0. -/
def putOf (op : Nat) (ph : Phase) : InFlight := inFlight op (leBytes 8 4096 ++ leBytes 8 0 ++ leBytes 48 8) ph

/-- A SYNC with BARRIER. -/
def syncCmd : InFlight := { inFlight 2 [] .waiting with cmd := { cmdOf 2 with flags := 3 * 65536 } }

theorem witness_VotesAndPut : (withCmd (pounceOf 0)).ready 0x32 0 0 (pounceOf 0) ∧ (pounceDesc (pounceOf 0).ext).scope = 0 ∧
    codeOf (((withCmd (pounceOf 0)).atBegin (pounceOf 0)).rdRows 0 0 64 64 1 |>.mapError (fun e => e.1)) = 0 ∧
    (withCmd (pounceOf (2 ^ 62))).ready 0x32 0 0 (pounceOf (2 ^ 62)) ∧
    codeOf (((withCmd (pounceOf (2 ^ 62))).atBegin (pounceOf (2 ^ 62))).rdRows 0 (2 ^ 62) 64 64 1 |>.mapError (fun e => e.1)) ≠ 0 ∧
    (withCmd syncCmd).observe.cmdAt? 0 0 = some syncCmd ∧ syncCmd.cmd.op = 2 ∧ syncCmd.cmd.opFlags % 4 = 3 ∧
    (withCmd syncCmd).observe.startable { syncCmd with cmd := { syncCmd.cmd with notBefore := 0 } } = true ∧
    (withCmd syncCmd).ownNode ∈ [0] := by
  unfold State.ready State.flows; decide +kernel

theorem witness_VotesAndPut_put : let c := { putOf 0x65 .waiting with ext := leBytes 8 4096 ++ leBytes 8 0 ++ leBytes 8 8 ++ leBytes 40 0 }
    (windowed c).ready 0x65 0 0 c ∧ (collDesc c.ext).comm = (windowed c).ownNode ∧
    (windowed c).brim.lost.contains (collDesc c.ext).comm = false ∧ (windowed c).brim.members.testBit (collDesc c.ext).comm = true ∧
    codeOf (((windowed c).atBegin c).rdDev (some 0) (collDesc c.ext).src (collDesc c.ext).count) = 0 ∧
    (((windowed c).atBegin c).inbound (((windowed c).atBegin c).job 0) (collDesc c.ext).dst 8).isSome = true := by
  unfold State.ready State.flows; decide +kernel

theorem witness_VotesAndPut_working : (withCmd (putOf 0x65 .started)).working 0x65 0 0 (putOf 0x65 .started) ∧
    (withCmd { putOf 0x65 .started with unacked := 1 }).working 0x65 0 0 { putOf 0x65 .started with unacked := 1 } ∧
    (withCmd { putOf 0x66 .started with prog := [7] }).working 0x66 0 0 { putOf 0x66 .started with prog := [7] } ∧
    ((withCmd { putOf 0x66 .started with prog := [7] }).observe.wrDev (some 0) (collDesc (putOf 0x66 .started).ext).dst (leBytes 8 7)).2.2 = 0 ∧
    (withCmd (putOf 0x66 .started)).working 0x66 0 0 (putOf 0x66 .started) := by
  unfold State.working State.flows; decide +kernel

/-- An engine command of cluster 0 for its core `n`, with a descriptor of zeros. -/
def engineCmd (op sub n : Nat) : InFlight :=
  { inFlight op (leBytes 256 0) .waiting with cmd := { cmdOf op sub with arg := n } }

theorem witness_MatrixEngine : let g := engineCmd 0x30 0 7
    (withCmd g).ready 0x30 0 0 g ∧ (withCmd g).cmdCore? g = some 7 ∧ (withCmd g).bad = [] ∧
    codeOf (((withCmd g).atStart g).gemmVariants 7 (gemmDesc g.ext)) = 0 ∧
    codeOf (((withCmd g).atStart g).scaleOf 0 (gemmDesc g.ext).scaleSrc (gemmDesc g.ext).conv (gemmDesc g.ext).rec_) = 0 ∧
    (∀ sub ∈ [0, 3, 4], (withCmd (engineCmd 0x34 sub 0)).ready 0x34 0 0 (engineCmd 0x34 sub 0) ∧
      (withCmd (engineCmd 0x34 sub 0)).cmdCore? (engineCmd 0x34 sub 0) = some 0) ∧
    codeOf (((withCmd (engineCmd 0x34 0 0)).atStart (engineCmd 0x34 0 0)).scaleOf 0 (convGemm (leBytes 256 0) 0).scaleSrc
      (convGemm (leBytes 256 0) 0).conv (convGemm (leBytes 256 0) 0).rec_) = 0 := by
  unfold State.ready State.flows; decide +kernel

theorem witness_VectorEngine : (∀ sub ∈ [0, 1], (withCmd (engineCmd 0x33 sub 0)).ready 0x33 0 0 (engineCmd 0x33 sub 0) ∧
      (withCmd (engineCmd 0x33 sub 0)).cmdCore? (engineCmd 0x33 sub 0) = some 0) ∧
    (vecDesc (leBytes 256 0)).used.filter (fun i => ((vecDesc (leBytes 256 0)).st i).indexed) = [] ∧
    (∀ op ∈ [0x30, 0x33, 0x34], let c := engineCmd op 0 7
      let s := { withCmd c with trim := [(7, 7)] }
      s.ready op 0 0 c ∧ s.cmdCore? c = none) := by
  unfold State.ready State.flows; decide +kernel

/-- An attention command over one sequence whose list stands at 4,096 and head at 0 of cluster memory 0. -/
def attnCmd (op : Nat) (ph : Phase) : InFlight := inFlight op (leBytes 8 (cm 4096) ++ leBytes 2 1 ++ leBytes 246 0) ph

/-- Its memory: a list entry of zeros, and a head whose EDIT bit is `e`. -/
def attnState (c : InFlight) (e : Nat) : State :=
  { withCmd c with mem := (List.range 32).map (fun i => (cmk i, if i = 24 then BitVec.ofNat 8 e else 0)) ++
      (List.range 32).map (fun i => (cmk (4096 + i), (leBytes 32 (cm 0)).getD i 0)) }

/-- A result that is this very value. -/
def reads {α : Type} [DecidableEq α] (x : Except Nat α) (b : α) : Bool := match x with | .ok y => decide (y = b) | .error _ => false

theorem witness_Attention : ∀ op ∈ [0x35, 0x36], let c := attnCmd op .waiting
    let s := attnState c 0
    let u := (s.atBegin c).modCmd 0 0 (fun x => { x with epoch := some (s.epochCur 0) })
    s.ready op 0 0 c ∧ reads (u.rdDev (some 0) (attnDesc c.ext).list 32) (leBytes 32 (cm 0)) = true ∧
    (seqEntry (leBytes 32 (cm 0)) 0).head % 32 = 0 ∧ u.rangeCode 0 (seqEntry (leBytes 32 (cm 0)) 0).head 32 = 0 ∧
    reads (u.rdDev (some 0) (seqEntry (leBytes 32 (cm 0)) 0).head 32) (leBytes 32 0) = true ∧ leNat (leBytes 32 0) = 0 ∧
    bitsAt (leBytes 32 0) 24 0 0 = 0 ∧
    codeOf ((u.knowHead 0 (cm 0)).seqCheck c (attnDesc c.ext) [seqEntry (leBytes 32 (cm 0)) 0] [0]) = 0x070B := by
  unfold State.ready State.flows; decide +kernel

theorem witness_Attention_edit : ∀ e ∈ [0, 1], let c := { attnCmd 0x35 .started with prog := [cm 0] }
    let s := attnState c e
    let u := s.modCmd 0 0 (fun x => { x with epoch := some (s.epochCur 0) })
    s.cmdAt? 0 0 = some c ∧ c.phase = .started ∧ c.epoch = none ∧ c.saved = false ∧ s.draining c = false ∧ s.partAsleep 0 = false ∧
    ([] : List Nat).length < (attnDesc c.ext).count ∧ (seqEntry (leBytes 32 (cm 0)) 0).head = cm 0 ∧ u.rangeCode 0 (cm 0) 32 = 0 ∧
    reads (u.rdDev (some 0) (cm 0) 32) (leBytes 24 0 ++ leBytes 8 e) = true ∧ bitsAt (leBytes 24 0 ++ leBytes 8 e) 24 0 0 = e := by
  decide +kernel

/-- Tidy core 0 runs in context 0 of partition 0, with an instruction word at address 0. -/
def tidy (w : Nat) : State :=
  let s := { State.reset with mem := (List.range 4).map (fun i => (i, BitVec.ofNat 8 (w / 256 ^ i))) }
  (s.modCtx 0 0 (fun x => { x with st := .resident })).setFld (corePage 0) Fld.CORE_TC_STATUS_STATE 1

/-- An external interrupt that is enabled. -/
def tidyIrq : State := (tidy 0).modTc 0 (fun t => { t with ip := 1, ie := 1, mie := 0x800, mstatus := 0x1808 })

theorem witness_TidyCore : tidyIrq.tcRuns 0 = true ∧ tidyIrq.tcState 0 = 1 ∧
    ((tidyIrq.tc 0).meip && getBits (tidyIrq.tc 0).mie 11 11 == 1 && (tidyIrq.tc 0).mieOn) = true ∧
    (∀ w ∈ [0x10B7, 0x100093, 0x1080B3, 0xFE1080B3, 0x8000EF], let s := tidy w
      s.tcRuns 0 = true ∧ s.tcState 0 = 1 ∧ ((s.tc 0).meip && getBits (s.tc 0).mie 11 11 == 1 && (s.tc 0).mieOn) = false ∧ s.bad = [] ∧
      w < 2 ^ 32 ∧ w % 4 = 3 ∧ s.tcKeys? 0 (s.tc 0).pc.toNat 2 = some [0, 1] ∧ leNat ([0, 1].map s.rd) = w % 65536 ∧
      s.tcKeys? 0 ((s.tc 0).pc + 2).toNat 2 = some [2, 3] ∧ leNat ([2, 3].map s.rd) = w / 65536) ∧
    ib 0x10B7 6 0 = 0x37 ∧ ib 0x100093 6 0 = 0x13 ∧ rvOpImm 0x100093 0 = some 1 ∧ ib 0x1080B3 6 0 = 0x33 ∧
    rvOp (ib 0x1080B3 31 25) (ib 0x1080B3 14 12) 0 0 = some 0 ∧ ib 0xFE1080B3 6 0 = 0x33 ∧
    rvOp (ib 0xFE1080B3 31 25) (ib 0xFE1080B3 14 12) 0 0 = none ∧ ib 0x8000EF 6 0 = 0x6F := by
  decide +kernel

theorem witness_TidyCore_control : (tidy 0).tcCtx? 0 = some (0, 0) ∧ ((tidy 0).tc 0).queue.length < 8 ∧
    (tidy 0).shape.live.ownsRing 0 ((tidy 0).tc 0).issueRing = true ∧ ((tidy 0).ring ((tidy 0).tc 0).issueRing).ccp = 0 / 8 ∧
    ((tidy 0).ring ((tidy 0).tc 0).issueRing).context = 0 ∧ 65472 % 64 = 0 ∧
    8 ≤ (((tidy 0).modTc 0 (fun t => { t with queue := List.replicate 8 (0, []) })).tc 0).queue.length ∧
    State.reset.tcCtx? 0 = none ∧ (State.reset.tc 0).queue.length < 8 ∧
    (((tidy 0).modTc 0 (fun t => { t with wdog := 1 })).tc 0).wdog ≠ 0 ∧
    ((tidy 0).modTc 0 (fun t => { t with wdog := 1 })).tcState 0 = 1 ∧
    (((tidy 0).modTc 0 (fun t => { t with wdog := 1, warned := true })).tc 0).warned = true ∧
    State.reset.letsIn (.crown 0) (corePage 0) ∧ getBits (1 : Word64) 0 0 = 1 ∧ State.reset.tcState 0 = 0 ∧ getBits (0 : Word64) 0 0 = 0 := by
  unfold State.letsIn; decide +kernel

/-- Memory that holds 8-byte words at addresses. -/
def words (l : List (Nat × Nat)) : List Host.Cell :=
  l.flatMap (fun w => (List.range 8).map (fun i => (w.1 + i, BitVec.ofNat 8 (w.2 / 256 ^ i))))

/-- Partition 0 with a pool and a host tier of two slots of 64 bytes each, its slot table at 0x10000, links up: the words of slots
0 and 2, and words of cluster memory 0. -/
def kvState (below : List (Nat × Nat)) (s0 u0 s2 : Nat) : State :=
  let l := ((((State.reset.shape.live.setFld (partPage 0) Fld.PART_KV_POOL_GEOM_SLOTS 2).setFld (partPage 0)
    Fld.PART_KV_POOL_GEOM_SLOT_UNITS 1).setFld (partPage 0) Fld.PART_KV_HOST_GEOM_HSLOTS 2).setFld (partPage 0)
    Fld.PART_KV_STATE_BASE_BASE 0x10000)
  { up with shape := { up.shape with live := l }
            mem := words ([(0x10000, s0), (0x10008, u0), (0x10010, 0), (0x10018, 0), (0x10020, s2), (0x10028, 0), (0x10030, s2),
              (0x10038, 0)] ++ below.map (fun w => (cmk w.1, w.2))) }

/-- A slot word: STATE, SPAN 1, OWNER. -/
def slotWord (st owner : Nat) : Nat := st * 2 ^ 56 + 2 ^ 48 + owner

theorem witness_KvAllocator : (kvState [] 0 0 0).letsIn (.crown 0) (partPage 0) ∧ getBits (0x200000000 : Word64) 36 32 = 2 ∧
    (kvState [] 0 0 0).findRun 0 false 2 = some 0 ∧ (kvState [] (slotWord 1 0) 0 0).findRun 0 false 2 = none ∧
    (kvState [] (slotWord 1 0) 0 0).findRun 0 false 1 = some 1 ∧ (kvState [] (slotWord 1 0) 0 0).letsIn (.crown 0) (partPage 0) ∧
    getBits (0 : Word64) 31 0 < ((kvState [] (slotWord 1 0) 0 0).tier 0 false).2 ∧ (kvState [] (slotWord 1 0) 0 0).slotSt 0 0 = 1 ∧
    (kvState [] (slotWord 1 0) 0 0).slotPin 0 0 = 0 ∧ (kvState [] (slotWord 2 0) 0 0).slotSt 0 0 = 2 ∧
    getBits (0x10000000000 : Word64) 40 40 = 1 ∧ ((kvState [] 0 0 0).tier 0 false).2 ≤ getBits (2 : Word64) 31 0 ∧
    (kvState [] 0 0 0).slotSt 0 0 ≠ 1 ∧ (kvState [] (slotWord 1 0) (2 ^ 48) 0).slotPin 0 0 ≠ 0 := by
  unfold State.letsIn; decide +kernel

theorem witness_KvEpochs : State.reset.letsIn (.crown 0) (partPage 0) ∧
    (∀ x ∈ ({ State.reset with kvLimbo := [(0, 0, 1)] } : State).kvLimbo, x.1 = 0 → State.reset.epochOld 0 < x.2.2) ∧
    (let s := (State.reset.setFld (partPage 0) Fld.PART_KV_PARK_PARK_STROKES 1).setFld (partPage 0) Fld.PART_KV_STATUS_BELOW_STROKES 1
     1 = s.fld (partPage 0) Fld.PART_KV_PARK_PARK_STROKES ∧ s.fld (partPage 0) Fld.PART_KV_STATUS_BELOW_STROKES = 1 ∧
       (s.part 0).parkTaken = false ∧ ((s.modPart 0 (fun x => { x with parkTaken := true })).part 0).parkTaken = true) ∧
    (let s : State := { State.reset with kvLimbo := [(0, 0, 0), (0, 1, 1)] }
     s.kvLimbo.filter (fun x => x.1 == 0 && decide (x.2.2 ≤ s.epochOld 0)) = [(0, 0, 0)]) ∧
    (State.reset.setFld (partPage 0) Fld.PART_KV_PARK_PARK_STROKES 2).fld (partPage 0) Fld.PART_KV_STATUS_BELOW_STROKES ≠ 2 ∧
    (State.reset.setFld (partPage 0) Fld.PART_KV_PARK_PARK_STROKES 0).fld (partPage 0) Fld.PART_KV_PARK_PARK_STROKES = 0 := by
  unfold State.letsIn; decide +kernel

/-- A tier command on the one page whose entry's address stands at 0x800 of cluster memory 0. -/
def tierCmd (op : Nat) (ph : Phase) : InFlight := inFlight op (leBytes 8 (cm 0x800) ++ leBytes 4 1 ++ leBytes 52 0) ph

/-- The page's entry at 0x900, its frame in the pool or in the host tier, its slot ALLOCATED and owned. -/
def paged (c : InFlight) (host : Bool) : State :=
  let s := kvState [(0x800, cm 0x900), (0x900, if host then 2 ^ 46 else 0)] (if host then 0 else slotWord 1 (cm 0x900)) 0
    (if host then slotWord 1 (cm 0x900) else 0)
  ({ s with cmds := [c] }).modCtx 0 0 (fun x => { x with st := .resident })

theorem witness_KvMoves : ∀ x ∈ [(0x90, false), (0x91, true)], let c := tierCmd x.1 .waiting
    let s := paged c x.2
    s.ready x.1 0 0 c ∧ c.cmd.sub = 0 ∧ c.prog = [] ∧ 0 < tierCountF c ∧ s.moving 0 0 = false ∧
    reads ((s.atBegin c).rdDev (some 0) (tierTarget c) 8) (leBytes 8 (cm 0x900)) = true ∧ (s.atBegin c).entryParked 0 (cm 0x900) = false ∧
    codeOf ((s.atBegin c).moveStart 0 (some (0, 0)) (cm 0x900) (decide (x.1 = 0x90)) none (if decide (x.1 = 0x90) || tierForce c then 0 else s.kvLow 0)) = 0 ∧
    (let d := { tierCmd x.1 .started with prog := [1] }
     let t := paged d x.2
     t.working x.1 0 0 d ∧ t.observe.moving 0 0 = false ∧
       (let v := { t with kvMoves := [⟨0, some (0, 0), cm 0x900, 0, 0, 2, true⟩] }
        v.working x.1 0 0 d ∧ v.observe.moving 0 0 = true)) := by
  unfold State.ready State.working State.flows; decide +kernel

/-- A move of the page from the pool to the host tier under way, as a SEQ_PARK or the tier manager makes it. -/
def moving (e pin : Nat) : State :=
  { kvState [(0x900, e)] (slotWord 2 (cm 0x900)) (pin * 2 ^ 48) (slotWord 2 (cm 0x900)) with kvMoves := [⟨0, none, cm 0x900, 0, 0, 2, true⟩] }

theorem witness_KvMoves_commit : let m : KvMove := ⟨0, none, cm 0x900, 0, 0, 2, true⟩
    (moving 0 0).kvMoves.find? (fun m => m.part == 0) = some m ∧ m.cmd = none ∧ (moving 0 0).moveCode m = 0 ∧
    codeOf (((moving 0 0).moveCopy m).xlate (some 0) m.entry) = 0 ∧ ((moving 0 0).moveCopy m).slotPin 0 m.src = 0 ∧
    ((moving 0 0).moveCopy m).rd64 (cmk 0x900) = m.e0 ∧
    (moving 1 0).moveCode m = 0 ∧ ((moving 1 0).moveCopy m).rd64 (cmk 0x900) ≠ m.e0 ∧
    (moving 0 1).moveCode m = 0 ∧ ((moving 0 1).moveCopy m).slotPin 0 m.src ≠ 0 ∧
    (let c := tierCmd 0x90 .started
     let n : KvMove := { m with cmd := some (0, 0) }
     let s := { (moving 0 0).setFld (hpPage 0) Fld.HP_LINK_STATE 0 with kvMoves := [n], cmds := [c] }
     s.kvMoves.find? (fun m => m.part == 0) = some n ∧ s.moveCode n = 0x0786 ∧ s.cmdAt? 0 0 = some c) := by
  decide +kernel

/-- A SEQ_PARK or SEQ_UNPARK of the sequence whose head stands at 0x800 of cluster memory 0 with the flags of its last word, with `n` entries at 0x900. -/
def parking (op n flags pin slots2 : Nat) : State :=
  let s := kvState [(0x800, n * 2 ^ 32), (0x808, 0), (0x810, cm 0x900), (0x818, flags), (0x900, 0)] (slotWord 1 (cm 0x900)) (pin * 2 ^ 48) slots2
  ({ s with cmds := [tierCmd op .waiting] }).modCtx 0 0 (fun x => { x with st := .resident })

/-- Such a command, ready, with the head it reads. -/
def parkReady (op n flags pin slots2 : Nat) (edit parked : Bool) : Bool :=
  let s := parking op n flags pin slots2
  let c := tierCmd op .waiting
  decide (s.observe.cmdAt? 0 0 = some c) && s.observe.startable c &&
    reads ((s.atBegin c).readHead 0 (tierTarget c)) ⟨0, n, 0, cm 0x900, edit, parked⟩

theorem witness_SequenceParking : parkReady 0x92 0 1 0 0 true false = true ∧ parkReady 0x92 0 2 0 0 false true = true ∧
    parkReady 0x93 0 0 0 0 false false = true ∧ parkReady 0x92 1 0 1 0 false false = true ∧
    parkReady 0x92 1 0 0 (slotWord 1 0) false false = true ∧ parkReady 0x92 1 0 0 0 false false = true ∧
    parkReady 0x93 0 2 0 0 false true = true := by
  decide +kernel

/-- The page of the sequence is in the pool: it is the one the park moves, and its run is pinned, or the host tier is full, or it fits. -/
theorem witness_SequenceParking_pages : ∀ x ∈ [(1, 0), (0, slotWord 1 0), (0, 0)],
    let u := (parking 0x92 1 0 x.1 x.2).atBegin (tierCmd 0x92 .waiting)
    let w := u.rd64 (u.keyOf 0 (cm 0x900))
    headEntries ⟨0, 1, 0, cm 0x900, false, false⟩ = [cm 0x900] ∧ entryHost w = false ∧ u.entrySlot? 0 w = some 0 ∧
    (u.slotPin 0 0 ≠ 0 ↔ x.1 = 1) ∧ ((u.reserveRuns 0 true [u.slotSpan 0 0]).isSome = true ↔ x.2 = 0) := by
  decide +kernel

/-- A park or unpark whose one page has moved, its walkers gone. -/
theorem witness_SequenceParking_ends : ∀ op ∈ [0x92, 0x93], let c := { tierCmd op .started with prog := [cm 0x800, 1, 1] }
    let s : State := { (parking op 1 1 0 0).setFld (partPage 0) Fld.PART_KV_EPOCH_CUR_CUR 1 with cmds := [c] }
    s.working op 0 0 c ∧ c.prog = [cm 0x800, 1, 1] ∧ s.observe.moving 0 0 = false ∧ 1 ≤ s.observe.epochOld 0 ∧
    reads (s.observe.readHead 0 (cm 0x800)) ⟨0, 1, 0, cm 0x900, true, false⟩ = true := by
  unfold State.working State.flows; decide +kernel

/-- A header with every field 0. -/
def zeroHead : FulHead :=
  { mode := 0, fmt := 0, stored := 0, last := false, tiled := false, raw := false, planes := 0, index := 0, units := 0, first := 0,
    total := 0, w := 0, h := 0, chans := 0, param0 := 0, param1 := 0, rawBytes := 0, payload := 0 }

theorem witness_FullerHeader : zeroHead.mode < 256 ∧ zeroHead.fmt < 32 ∧ zeroHead.stored < 32 ∧ zeroHead.planes < 256 ∧
    zeroHead.index < 2 ^ 32 ∧ zeroHead.units < 2 ^ 32 ∧ zeroHead.first < 2 ^ 64 ∧ zeroHead.total < 2 ^ 64 ∧ zeroHead.w < 2 ^ 16 ∧
    zeroHead.h < 2 ^ 16 ∧ zeroHead.chans < 2 ^ 32 ∧ zeroHead.param0 < 2 ^ 32 ∧ zeroHead.param1 < 2 ^ 32 ∧ zeroHead.rawBytes < 2 ^ 32 ∧
    zeroHead.payload < 2 ^ 32 ∧ zeroHead.payload = ([] : List Byte).length := by
  decide +kernel

/-- A Fuller command on a view of one FP32 element at 0 of cluster memory 0 with its container at 0x1000, of a room of `bytes`. -/
def fulCmd (op bytes : Nat) (prog : List Nat) : InFlight :=
  { inFlight op (leBytes 8 (cm 0) ++ leBytes 8 (cm 0x1000) ++ leBytes 8 bytes ++ leBytes 4 1 ++ leBytes 4 1 ++ leBytes 8 4 ++ leBytes 88 0) .started 1 with
    prog := prog }

/-- The state with such a command in progress and bytes of the container. -/
def fuller (op bytes : Nat) (prog : List Nat) (cont : List Byte) : State :=
  { withCmd (fulCmd op bytes prog) with
    mem := (List.range 4).map (fun i => (cmk i, 0)) ++ (List.range cont.length).map (fun i => (cmk (0x1000 + i), cont.getD i 0)) }

/-- A pack's next chunk, with its write. -/
def packs (prog : List Nat) (last : Bool) : Bool :=
  let s := fuller 0x28 4096 prog []
  let c := fulCmd 0x28 4096 prog
  decide (s.observe.fulTurn 0 = some c.startNo) && match s.observe.makeChunk c (fulDesc c.ext) (fulProg c 0) (fulProg c 6) with
  | .error _ => false
  | .ok (b, _, _, _) => decide (fulProg c 1 + b.length ≤ 4096) && decide ((s.observe.wrDev (some 0) (cm 0x1000 + fulProg c 1) b).2.2 = 0) &&
      (decide (fulProg c 0 + 1 = (fulDesc c.ext).chunks 1) == last)

theorem witness_FullerChunks_pack : (fuller 0x28 4096 [] []).working 0x28 0 0 (fulCmd 0x28 4096 []) ∧
    (fuller 0x28 4096 [] []).fulOf (fulCmd 0x28 4096 []) = some 0 ∧ (fulDesc (fulCmd 0x28 4096 []).ext).host = false ∧
    (fulDesc (fulCmd 0x28 4096 []).ext).result = 0 ∧ packs [] true = true ∧
    (fuller 0x28 4096 [5] []).working 0x28 0 0 (fulCmd 0x28 4096 [5]) ∧ packs [5] false = true := by
  unfold State.working State.flows; decide +kernel

/-- The chunk of the view's one element 0, stored raw. -/
def oneChunk : List Byte := chunkBytes { zeroHead with mode := 1, last := true, raw := true, units := 1, total := 1, rawBytes := 4, payload := 4 }
  (leBytes 4 0)

theorem witness_FullerChunks_unpack : (fuller 0x29 63 [] []).working 0x29 0 0 (fulCmd 0x29 63 []) ∧
    (fulDesc (fulCmd 0x29 63 []).ext).bytes < 0 + 64 ∧
    (fuller 0x29 64 [] (leBytes 64 0)).working 0x29 0 0 (fulCmd 0x29 64 []) ∧
    (fuller 0x29 64 [] (leBytes 64 0)).fulOf (fulCmd 0x29 64 []) = some 0 ∧
    (fuller 0x29 64 [] []).observe.fulTurn 0 = some (fulCmd 0x29 64 []).startNo ∧
    reads ((fuller 0x29 64 [] (leBytes 64 0)).observe.contRead (fulCmd 0x29 64 []) (fulDesc (fulCmd 0x29 64 []).ext) 0 64) (leBytes 64 0) = true ∧
    badHead (leBytes 64 0) = true := by
  unfold State.working State.flows; decide +kernel

theorem witness_FullerChunks_sound : ∀ bad ∈ [false, true],
    let b := oneChunk.set 64 (if bad then 1 else 0)
    let c := fulCmd 0x29 128 []
    let s := fuller 0x29 128 [] b
    let d := fulDesc c.ext
    let h := fulHead (b.take 64)
    s.working 0x29 0 0 c ∧ s.fulOf c = some 0 ∧ s.observe.fulTurn 0 = some c.startNo ∧
    (∀ i < 1, s.observe.checkDev (some 0) (d.addr i) d.es = 0) ∧
    reads (s.observe.contRead c d 0 64) (b.take 64) = true ∧ badHead (b.take 64) = false ∧
    0 + (64 + h.payload + 4) ≤ d.bytes ∧ reads (s.observe.contRead c d 0 72) (b.take 72) = true ∧ h.payload = 4 ∧
    (crc32c (b.take 68) = leAt b 68 4 ↔ bad = false) ∧ headMismatch d h 0 0 = false ∧
    h.rawBytes = 1 * ({ d with fmt := h.fmt } : FulDesc).es ∧
    ({ d with fmt := h.fmt } : FulDesc).chunkUnits h.mode 0 = [0] ∧ ({ d with fmt := h.fmt } : FulDesc).unitElems h.mode 0 = ([0], 1) ∧
    (chunkWords d h [([0], 1)] ((b.drop 64).take 4)).isSome = true ∧ h.last = true ∧ d.result = 0 := by
  unfold State.working State.flows; decide +kernel

/-- Two packs on one Fuller, the earlier served last: it is the later one's turn. -/
theorem witness_FullerChunks_turn : ∀ op ∈ [0x28, 0x29], let c := { fulCmd op 4096 [] with startNo := 1 }
    let s : State := { withCmd c with cmds := [c, { fulCmd op 4096 [] with seq := 1, order := 1, startNo := 2 }], fulLast := [(0, 1)] }
    s.working op 0 0 c ∧ s.fulOf c = some 0 ∧ s.observe.fulTurn 0 ≠ some c.startNo := by
  unfold State.working State.flows; decide +kernel

theorem witness_FullerChunks_written (v : Nat) :
    ((fuller 0x29 128 [] oneChunk).observe.wrDev (some 0) ((fulDesc (fulCmd 0x29 128 []).ext).addr 0) (leBytes 4 v)).2.2 = 0 := by
  have e : (leBytes 4 v).length = 4 := rfl
  exact wrDev_ok (by rw [e]; decide +kernel)

/-- An update command whose tables name no group and no tensor, its gate record at 0x1000 of cluster memory 0. -/
def updCmd (op scope : Nat) : InFlight :=
  inFlight op (leBytes 24 0 ++ leBytes 8 (cm 0x1000) ++ leBytes 52 0 ++ leBytes 172 scope) .waiting

/-- Its state, with one channel left untrimmed: the gate record has a verdict. -/
def gated (c : InFlight) (v : Nat) : State :=
  { withCmd c with trim := (List.range 31).map (fun k => (9, k)) ++ (List.range 31).map (fun k => (8, 992 + k)), mem := (List.range 128).map (fun i => (cmk (0x1000 + i), if i = 16 then BitVec.ofNat 8 v else 0)) }

theorem witness_UpdateCheck : (∀ scope ∈ [0, 1], let c := updCmd 0x50 scope
    let s := gated c 0
    let u := s.atBegin c
    s.ready 0x50 0 0 c ∧ reads (u.updTables c (updDesc c.ext)) (false, []) = true ∧
    reads (u.updVote c (updDesc c.ext) false) [0, 0, 0, 0, 0] = true ∧ (updDesc c.ext).scope = scope ∧
    (u.wrDev (some 0) (updDesc c.ext).gate (gateRecord (updDesc c.ext) [0, 0, 0, 0, 0])).2.2 = 0) ∧
    State.reset.letsIn (.crown 0) (mcPage 0) ∧
    State.reset.cmds.any (fun c => (c.cmd.op == 0x50 || c.cmd.op == 0x51 || c.cmd.op == 0x52) && c.phase == .started &&
      State.reset.workOn (mcPage 0) c) = false ∧
    (let c := { updCmd 0x51 0 with phase := .started }
     (withCmd c).letsIn (.crown 0) (mcPage 0) ∧ (withCmd c).workOn (mcPage 0) c = true) := by
  unfold State.letsIn State.ready State.flows; decide +kernel

theorem witness_UpdateApply : ∀ x ∈ [(0x51, 0), (0x51, 1), (0x52, 0)], let c := updCmd x.1 0
    let s := gated c x.2
    let u := s.atBegin c
    let d := updDesc c.ext
    let g := leBytes 128 (x.2 * 2 ^ 128)
    s.ready x.1 0 0 c ∧ reads (u.updTables c d) (false, []) = true ∧ reads (u.rdDev (some 0) d.gate 128) g = true ∧
    c.info = 0 ∧ (updScan u c d (gateMode d g).1 []).stopped = [] ∧ d.statsJob = false ∧ d.stats = 0 ∧
    ((gateMode d g).1 = 0 ↔ x.2 = 1) := by
  unfold State.ready State.flows; decide +kernel

/-- A FACTOR_REFRESH over a list of one block of one element. -/
def factorCmdOf (n : Nat) : InFlight :=
  inFlight 0x53 (leBytes 8 (cm 0x1000) ++ leBytes 4 1 ++ leBytes 4 0 ++ leBytes 8 0x3F0000003F800000 ++ leBytes 8 (cm 0x1100) ++ leBytes 224 n) .waiting

def factorList : List Byte := leBytes 8 (cm 0x1200) ++ leBytes 8 (cm 0x1300) ++ leBytes 16 1

def factorState : State :=
  { withCmd (factorCmdOf 0) with mem := (List.range 32).map (fun i => (cmk (0x1000 + i), factorList.getD i 0)) ++ words [(cmk 0x1200, 0)] }

theorem witness_UpdateApply_factor : let c := factorCmdOf 0
    let s := factorState
    s.ready 0x53 0 0 c ∧ (s.atStart c).served? 17 (c.ccp / 8) = some 0 ∧ leAt c.ext 8 4 = 1 ∧
    reads ((s.atStart c).rdDev (some 0) (leAt c.ext 0 8) 32) factorList = true ∧ (s.atStart c).factorListCode 0 factorList 1 = 0 ∧
    (FactorRun.block ⟨s.atStart c, 0, 0, 0, (0, 0)⟩ c 0 factorList 0).code = 0 ∧
    (let t := { factorState with trim := (List.range 16).map (fun d => (17, d)) }
     t.ready 0x53 0 0 c ∧ (t.atStart c).served? 17 (c.ccp / 8) = none) := by
  unfold State.ready State.flows; decide +kernel

/-- A scan of no group writes no record, at an address of its own. -/
theorem witness_UpdateApply_stats : let c := inFlight 0x52 (leBytes 40 0 ++ leBytes 8 (cm 0x2000) ++ leBytes 208 0) .waiting
    let s := gated c 0
    let u := s.atBegin c
    let d := updDesc c.ext
    s.ready 0x52 0 0 c ∧ reads (u.updTables c d) (false, []) = true ∧ (updScan u c d 2 []).stopped = [] ∧ d.statsJob = false ∧
    d.stats = cm 0x2000 ∧ ((updScan u c d 2 []).s.wrAll 0 []).2 = 0 := by
  unfold State.ready State.flows; decide +kernel

/-- The reset state with channel 0's stack active and the channel in a state. -/
def chan0 (st : Nat) : State := (State.reset.setFld (stkPage 0) Fld.STK_STATUS_STATE 1).setFld (mcPage 0) Fld.MC_STATUS_STATE st

theorem witness_ChannelsAndTemperature : (chan0 1).mcState 0 = 1 ∧ (chan0 0).mcServes 0 = true ∧ (chan0 0).mcState 0 = 0 ∧
    ((chan0 0).setFld (mcPage 0) Fld.MC_STATUS_RECAL_DUE 1).mcServes 0 = true ∧
    ((chan0 0).setFld (mcPage 0) Fld.MC_STATUS_RECAL_DUE 1).mcState 0 = 0 ∧
    ((chan0 0).setFld (mcPage 0) Fld.MC_STATUS_RECAL_DUE 1).fld (mcPage 0) Fld.MC_STATUS_RECAL_DUE = 1 ∧
    (chan0 2).mcState 0 = 2 ∧ ((chan0 2).chan 0).inWindow = false ∧
    (chan0 0).trimmed 9 0 = false ∧ (105 : Int) < 106 ∧ (chan0 0).fld (stkPage 0) Fld.STK_STATUS_STATE ≠ 3 ∧
    (chan0 0).fld (stkPage 0) Fld.STK_STATUS_REFRESH < refreshStep 90 ∧
    refreshStep 83 ≤ ((chan0 0).setFld (stkPage 0) Fld.STK_STATUS_REFRESH 1).fld (stkPage 0) Fld.STK_STATUS_REFRESH ∧
    stepThreshold (((chan0 0).setFld (stkPage 0) Fld.STK_STATUS_REFRESH 1).fld (stkPage 0) Fld.STK_STATUS_REFRESH) - 3 < 83 ∧
    10 ≤ ((90 : Int) - ((chan0 0).chan 0).recalTemp).natAbs ∧
    (∀ e ∈ [0, 1], (((chan0 0).modChan 0 (fun x => { x with remaps := [⟨0, 0, 0, 1, true⟩] })).chan 0).remaps.any
      (fun f => f.idx == e && f.copying) = (e == 0)) := by
  decide +kernel

/-- An access of channel 0 at its first byte that fails some times, for the command at position 0 of ring 0. -/
def access (write : Bool) (fails : Nat) : HbmAccess := { addr := 0, write := write, fails := fails, us := 0, bytes := 1, odecc := 0, cmd := some (0, 0) }

theorem witness_HbmParity : (chan0 0).mcState 0 ≠ 3 ∧ (access false 0).fails = 0 ∧ (access false 2).write = false ∧
    0 < (access false 2).fails ∧ (access false 2).fails < 3 ∧ (access true 3).write = true ∧ (access true 3).fails = 3 ∧
    (access false 3).write = false ∧ (access false 3).fails = 3 ∧
    (withCmd (inFlight 0 [] .started)).mcState 0 ≠ 3 ∧
    ((withCmd (inFlight 0 [] .started)).unplace? 0 0).isSome = true ∧
    (let s : State := ({ chan0 1 with cmds := [inFlight 0 [] .started] }).modChan 0 (fun x => { x with heldWrite := true, heldCmds := [(0, 0)] })
     s.mcState 0 = 1 ∧ (0, 0) ∈ (s.chan 0).heldCmds ∧ s.cmdAt? 0 0 = some (inFlight 0 [] .started)) ∧
    (withCmd (inFlight 0 [] .started)).cmdAt? 0 0 = some (inFlight 0 [] .started) := by
  decide +kernel

/-- Frame 0 of die set 0 selected, with its attributes. -/
def framed (f : Frame) : State := State.reset.setFrame (State.reset.frameSel 0).1 0 f

/-- A write of the attributes of such a frame. -/
def attr (gran ord alloc : Nat) : Word64 := BitVec.ofNat 64 (gran + ord * 2 ^ 8 + alloc * 2 ^ 29)

theorem witness_FramesAndMargining : let fr : Frame := { State.reset.frame 32 0 with gran := 6, ord := 0, alloc := false, st := 0 }
    (State.reset.frameSel 0).2 = 0 ∧ (State.reset.frameSel 0).1 ≠ 64 ∧
    State.reset.letsIn (.crown 0) (page 5 0) ∧ State.reset.frameSelVoid 0 = false ∧
    (State.reset.setFld (page 5 0) Fld.CDIE_FRAME_SEL_FRAME (2 ^ 21 - 1)).letsIn (.crown 0) (page 5 0) ∧
    (State.reset.setFld (page 5 0) Fld.CDIE_FRAME_SEL_FRAME (2 ^ 21 - 1)).setFrames
      ((State.reset.setFld (page 5 0) Fld.CDIE_FRAME_SEL_FRAME (2 ^ 21 - 1)).frameSel 0).1 ≤
      ((State.reset.setFld (page 5 0) Fld.CDIE_FRAME_SEL_FRAME (2 ^ 21 - 1)).frameSel 0).2 ∧
    0 < (framed fr).setFrames (State.reset.frameSel 0).1 ∧ getBits (attr 5 0 0) 3 0 = 5 ∧
    (framed { fr with alloc := true }).frame (State.reset.frameSel 0).1 0 = { fr with alloc := true } ∧
    getBits (attr 5 0 0) 29 29 = 0 ∧ getBits (attr 5 0 0) 32 32 = 0 ∧ getBits (attr 6 0 1) 3 0 = 6 ∧ getBits (attr 6 0 1) 28 8 = 0 ∧
    getBits (attr 6 0 1) 29 29 = 1 ∧ getBits (attr 6 0 0) 29 29 = 0 ∧
    (framed { fr with st := 1 }).frame (State.reset.frameSel 0).1 0 = { fr with st := 1 } ∧
    (let s := (framed fr).setFld (page 5 0) Fld.CDIE_FRAME_SEL_PKG 1
     let t : State := { s with shape := { s.shape with live := s.shape.live.setFld (page 9 0) Fld.STK_SET_CFG_PKG_MIB 1 } }
     t.letsIn (.crown 0) (page 5 0) ∧ t.frameSelVoid 0 = false ∧ t.frameSel 0 = (64, 0) ∧ 0 < t.setFrames 64 ∧
     (t.frame 64 0).st ≠ 2) := by
  unfold State.letsIn; decide +kernel

theorem witness_FramesAndMargining_margin : (chan0 0).letsIn (.crown 0) (stkPage 0) ∧ getBits (0 : Word64) 6 5 ≠ 3 ∧
    (∀ p, (chan0 0).stackPart? 0 = some p → (chan0 0).idle p = true) ∧ (chan0 0).fld (stkPage 0) Fld.STK_STATUS_STATE = 1 ∧
    (List.range 32).any (fun i => ((chan0 0).chan i).remaps.any (fun e => e.copying)) = false ∧
    State.letsIn ((chan0 0).setFld (stkPage 0) Fld.STK_STATUS_STATE 3) (.crown 0) (stkPage 0) ∧
    ((chan0 0).setFld (stkPage 0) Fld.STK_STATUS_STATE 3).fld (stkPage 0) Fld.STK_STATUS_STATE ≠ 1 ∧
    (((chan0 0).modStk 0 (fun x => { x with margin := true })).stk 0).margin = true := by
  unfold State.letsIn
  refine ⟨?_, ?_, ?_, ?_⟩
  · decide +kernel
  · decide +kernel
  · intro p h; rw [show (chan0 0).stackPart? 0 = some 0 from by decide +kernel] at h; injection h with h; subst h; decide +kernel
  · decide +kernel

/-- The reset state with NVM writes queued. -/
def queued (k x : Nat) (recs : List (Nat × List Byte)) : State :=
  { State.reset with errs := { State.reset.errs with nvmQueue := [(k, x)], recs := recs } }

/-- An EVACUATE of one 64-byte span of HBM at 0, which holds a byte, into cluster memory 0. -/
def evacCmd : InFlight := inFlight 0x2C (leBytes 8 0 ++ leBytes 8 (cm 0) ++ leBytes 8 64 ++ leBytes 8 (cm 0x1000) ++ leBytes 32 0) .waiting

theorem witness_NvmAndEvacuation : (queued 1 0 []).errs.nvmQueue = (1, 0) :: [] ∧ (queued 2 0 []).errs.nvmQueue = (2, 0) :: [] ∧
    (queued 3 0 [(0, [])]).errs.nvmQueue = (3, 0) :: [] ∧ SMap.get? (queued 3 0 [(0, [])]).errs.recs 0 = some [] ∧ (3 : Nat) ≠ 4 ∧
    (withCmd evacCmd).ready 0x2C 0 0 evacCmd ∧ (withCmd evacCmd).bad = [] ∧
    (let e := ((withCmd evacCmd).atStart evacCmd).evacSpans evacCmd 0 (cm 0) 0 1
     e.2.2 = 0 ∧ (e.1.wrDev (some 0) (cm 0x1000) (bitBytes e.2.1)).2.2 = 0) := by
  unfold State.ready State.flows; decide +kernel

/-- Every byte of logical cluster 0's memory is of the partition that has the cluster. -/
theorem cm_ok {s : State} {k : Nat} (h : s.physCluster? 0 0 = some k) (o : Nat) (ho : o < 0x1000000) : (s.xlate (some 0) (cm o)).isOk = true := by
  have h1 : ¬ cm o < pkgBase + 2 ^ 42 := by simp only [cm, cmBase, pkgBase]; omega
  have h2 : cmBase ≤ cm o ∧ cm o < cmBase + 128 * 0x2000000 := by simp only [cm, cmBase]; omega
  have h3 : (cm o - cmBase) / 0x2000000 = 0 := by simp only [cm, cmBase]; omega
  have h4 : ¬ 24 * 2 ^ 20 ≤ (cm o - cmBase) % 0x2000000 := by simp only [cm, cmBase]; omega
  unfold State.xlate
  simp only [if_neg h1, if_pos h2, h3, if_neg h4, h]
  rfl

/-- An open session of pictures 64 samples wide, decoding or encoding, with one buffer in cluster memory 0. -/
def session (st : Nat) (mark : Nat := 0) (h : Nat := 64) : VcSlot :=
  { st := st, std := 1, ten := false, cls := 0, ctxAddr := 0, pool := cm 0x1000, maxW := 64, maxH := h, intra := 1, minigop := 1
    ltr := false, qi := 0, minQp := 0, maxQp := 0, sliceRows := 0, cap := 0, window := 0, bufs := [⟨cm 0x10000, cm 0x20000, cm 0x30000, cm 0x31000, 256, mark⟩] }

/-- A codec command, with the session in slot 0 of engine 0. -/
def coded (c : InFlight) (x : VcSlot) : State := (withCmd c).modVc 0 (fun e => { e with slots := [(0, x)] })

/-- A VC_OPEN of a session with one buffer. -/
def openCmd : InFlight := inFlight 0x70 (leBytes 8 (2 ^ 21) ++ leBytes 8 (cm 0x1000) ++ leBytes 2 64 ++ leBytes 2 64 ++ leBytes 236 (1 + 2 ^ 6)) .waiting

/-- Its buffer table. -/
def bufTable : List Byte := leBytes 8 (cm 0x10000) ++ leBytes 8 (cm 0x20000) ++ leBytes 8 (cm 0x30000) ++ leBytes 8 (cm 0x31000) ++ leBytes 32 256

theorem witness_CodecSessions : (let s : State := { withCmd openCmd with mem := (List.range 64).map (fun i => (cmk (0x1000 + i), bufTable.getD i 0)) }
     let u := s.atStart openCmd
     s.ready 0x70 0 0 openCmd ∧ u.vcOf? openCmd = some 0 ∧ u.vcSlot? 0 0 = none ∧ bitsAt openCmd.ext 20 11 6 = 1 ∧
     reads (u.rdDev (some 0) (vcOpenSlot openCmd.ext).pool 64) bufTable = true ∧ bitsAt bufTable 36 31 4 = 0 ∧ leAt bufTable 40 24 = 0 ∧
     u.vcBadBuf 0 { vcOpenSlot openCmd.ext with bufs := [⟨cm 0x10000, cm 0x20000, cm 0x30000, cm 0x31000, 256, 0⟩] } 0
       ⟨cm 0x10000, cm 0x20000, cm 0x30000, cm 0x31000, 256, 0⟩ = false) ∧
    (let s := coded openCmd (session 1)
     s.ready 0x70 0 0 openCmd ∧ (s.atStart openCmd).vcOf? openCmd = some 0 ∧ ((s.atStart openCmd).vcSlot? 0 0).isSome = true) ∧
    (let c := inFlight 0x71 [] .waiting
     let s := coded c (session 1)
     s.ready 0x71 0 0 c ∧ (s.atBegin c).vcOf? c = some 0 ∧ (s.atBegin c).vcSlot? 0 0 = some (session 1) ∧ (s.atBegin c).vcEarlier 0 c [0x72, 0x73, 0x74] = false ∧
     (s.atBegin c).cmds.any (fun d => d.cmd.op == 0x71 && d.phase == .started && (s.atBegin c).vcOf? d == some 0 && vcSlotNo d == 0 &&
       !(d.ring == 0 && d.seq == 0)) = false) ∧
    (let c := { inFlight 0x74 [] .waiting with cmd := { cmdOf 0x74 with payload := 1 } }
     let s := coded c (session 1 4)
     s.ready 0x74 0 0 c ∧ (s.atBegin c).vcOf? c = some 0 ∧ (s.atBegin c).vcClosing 0 0 = false ∧ (s.atBegin c).vcEarlier 0 c [0x72, 0x73] = false ∧
     (s.atBegin c).vcSlot? 0 0 = some (session 1 4) ∧ bitList 32 1 = [0] ∧ (4 : Nat).testBit 2 = true ∧
     ((withCmd c).atBegin c).vcSlot? 0 0 = none) := by
  unfold State.ready State.flows; decide +kernel

/-- A VC_DECODE of one byte at 0 of cluster memory 0, its report at 0x2000. -/
def decodeCmd : InFlight := inFlight 0x72 (leBytes 8 (cm 0) ++ leBytes 8 1 ++ leBytes 8 (cm 0x2000) ++ leBytes 40 0) .waiting

theorem witness_CodecPictures : let c := decodeCmd
    let s : State := { coded c (session 1) with mem := [(cmk 0, 0)] }
    let u := s.atBegin c
    let y := u.modVc 0 (fun e => { e with queue := [(0, 0)] })
    s.ready 0x72 0 0 c ∧ c.prog = [] ∧ u.vcOf? c = some 0 ∧ u.vcClosing 0 0 = false ∧ u.vcQueue 0 = [] ∧ u.vcEarlier 0 c [0x74] = false ∧ y.vcSlot? 0 0 = some (session 1) ∧
    (session 1).st = 1 ∧ (session 1).std ≠ 2 ∧ reads (y.rdDev (some 0) (leAt c.ext 0 8) (leAt c.ext 8 4)) [0] = true ∧ leAt c.ext 24 8 = 0 ∧
    leAt c.ext 16 8 = cm 0x2000 ∧ y.physCluster? 0 0 = some 0 ∧ (∀ d ∈ (session 1).bufs, d.pitch % 256 = 0 ∧
      (session 1).maxW * (session 1).sz ≤ d.pitch ∧ ∀ p ∈ (session 1).parts d, cm 0 ≤ p.1 ∧ p.1 + p.2 ≤ cm 0x1000000) := by
  unfold State.ready State.flows; decide +kernel

/-- What cluster 0's memory holds can be written: the session's buffers and the report lie in it. -/
theorem witness_CodecPictures_held {s : State} (h : s.physCluster? 0 0 = some 0) (a n : Nat) (h1 : cm 0 ≤ a) (h2 : a + n ≤ cm 0x1000000) :
    ∀ i < n, (s.xlate (some 0) (a + i)).isOk = true := by
  intro i hi
  have e : a + i = cm (a + i - cmBase) := by simp only [cm, cmBase] at *; omega
  rw [e]
  exact cm_ok h _ (by simp only [cm, cmBase] at *; omega)

/-- A VC_ENCODE of a 64 by 64 source at 0x40000 of cluster memory 0, its fence at 0x800, with a first descriptor word for its pitch. -/
def encodeCmd (pitch : Nat) (ph : Phase) (prog : List Nat) : InFlight :=
  { inFlight 0x73 (leBytes 8 (cm 0x40000) ++ leBytes 8 (cm 0x60000) ++ leBytes 4 pitch ++ leBytes 2 64 ++ leBytes 2 64 ++ leBytes 16 0 ++ leBytes 8 0 ++
    leBytes 8 (cm 0x800) ++ leBytes 24 0 ++ leBytes 48 16) ph with prog := prog }

theorem witness_CodecPictures_encode : ∀ pitch ∈ [0, 256], let c := encodeCmd pitch .waiting []
    let s := coded c (session 2)
    let u := s.atBegin c
    let y := u.modVc 0 (fun e => { e with queue := [(0, 0)] })
    s.ready 0x73 0 0 c ∧ c.prog = [] ∧ u.vcOf? c = some 0 ∧ u.vcClosing 0 0 = false ∧ u.vcQueue 0 = [] ∧ u.vcEarlier 0 c [0x74] = false ∧ y.vcSlot? 0 0 = some (session 2) ∧
    (session 2).st = 2 ∧ ((session 2).encodeCode c.ext = 0 ↔ pitch = 256) ∧ leAt c.ext 72 8 = 0 ∧ leAt c.ext 48 8 ≠ 0 ∧
    (session 2).free? = some 0 := by
  unfold State.ready State.flows; decide +kernel

/-- A VC_ENCODE of a source of one sample, in progress, its fence at a value. -/
def rowCmd : InFlight :=
  { inFlight 0x73 (leBytes 8 (cm 0x40000) ++ leBytes 8 (cm 0x60000) ++ leBytes 4 256 ++ leBytes 2 1 ++ leBytes 2 1 ++ leBytes 16 0 ++ leBytes 8 0 ++
    leBytes 8 (cm 0x800) ++ leBytes 72 0) .started with prog := [0, 0, 0, 0, noCtu, 0, 0, 0, 0] }

theorem witness_CodecPictures_row : ∀ x ∈ [(0, 64), (1, 64), (1, 128)], let c := rowCmd
    let z := session 2 0 x.2
    let s : State := { coded c z with mem := words [(cmk 0x800, x.1)] }
    let e := EncRun.ofList c.prog
    s.working 0x73 0 0 c ∧ c.prog ≠ [] ∧ s.vcOf? c = some 0 ∧ s.vcSlot? 0 0 = some z ∧
    reads (s.observe.xlate (some 0) (leAt c.ext 48 8)) (cmk 0x800) = true ∧
    (s.observe.semAtLeast (cmk 0x800) (leAt c.ext 56 8 + z.need c.ext e.row) = true ↔ x.1 = 1) ∧
    codeOf (s.observe.vcSource 0 z c.ext e.row) = 0 ∧ z.sliceRows = 0 ∧
    ∀ src ∈ [([] : List Byte)], ((z.ctuRow (z.picType (leAt c.ext 36 4) (bitsAt c.ext 80 3 3 == 1) == 0) 0
      { e with tok := Config.video (25 :: e.tok :: src.map BitVec.toNat) }).row = z.rows ↔ x.2 = 64) := by
  unfold State.working State.flows; decide +kernel

/-- Both links up, with entry 0 of the Region Window Table onto the first 4 KiB of cluster memory 0, its semaphore at `sem`. -/
def window (sem : Nat) : State := { up with rwt := [(0, ⟨true, true, true, cm 0, 1, 7, 0, 0, sem⟩)], mem := words [(cmk 0x100, 5)] }

/-- A partition that owns no window entry. -/
def noWindow : State := { up with shape := { up.shape with live := up.shape.live.setFld (partPage 0) Fld.PART_RWT_ALLOC_COUNT 0 } }

theorem witness_HostWindow : up.arrives (.pf 0) = true ∧ up.held = false ∧
    (List.range 1).mapM (fun i => up.bar2Byte? (.pf 0) 0 true (0 + i)) = none ∧
    (List.range 1).mapM (fun i => up.bar2Byte? (.pf 0) 0 false (0 + i)) = none ∧
    (window 0).arrives (.pf 0) = true ∧ (window 0).held = false ∧
    (List.range 1).mapM (fun i => (window 0).bar2Byte? (.pf 0) 0 true (0 + i)) = some [(0, cm 0)] ∧ (window 0).bar2Code [(0, cm 0)] = none ∧
    (List.range 1).mapM (fun i => (window 0).bar2Byte? (.pf 0) 0 false (0 + i)) = some [(0, cm 0)] ∧
    (∀ b ∈ [(0, cm 0)], (window 0).bad.contains ((window 0).keyOf b.1 b.2) = false) := by
  decide +kernel

theorem witness_HostWindow_table : noWindow.letsIn (.pf 0) (partPage 0) ∧ noWindow.rwtOwns 0 (noWindow.rwtSel 0) = false ∧
    up.letsIn (.pf 0) (partPage 0) ∧ up.rwtOwns 0 (up.rwtSel 0) = true ∧
    (rwtOf 0 1 (up.rwtEntry (up.rwtSel 0)).w1 (up.rwtEntry (up.rwtSel 0)).w2).valid = true ∧
    (up.rwtUnsound? (rwtOf 0 1 (up.rwtEntry (up.rwtSel 0)).w1 (up.rwtEntry (up.rwtSel 0)).w2)).isSome = true ∧
    (window 0).letsIn (.pf 0) (partPage 0) ∧ (window 0).rwtOwns 0 ((window 0).rwtSel 0) = true ∧
    (window 0).rwtUnsound? (rwtOf 0 (BitVec.ofNat 64 (cm 0 + 1)) ((window 0).rwtEntry ((window 0).rwtSel 0)).w1
      ((window 0).rwtEntry ((window 0).rwtSel 0)).w2) = none ∧
    up.mayRead (.pf 0) (partPage 0) = true ∧ up.linked 0 = true := by
  unfold State.letsIn; decide +kernel

theorem witness_HostWindow_place : (∀ sem ∈ [0, cm 0x100], let s := window sem
    let w := s.rwtEntry (getBits (0x70000 : Word64) 14 0)
    s.letsIn (.pf 0) (partPage 0) ∧ w.valid = true ∧ s.rwtOwns 0 (getBits (0x70000 : Word64) 14 0) = true ∧
    w.key = getBits (0x70000 : Word64) 31 16 ∧ w.sem = sem) ∧
    reads ((window (cm 0x100)).xlate (some 0) (cm 0x100)) (cmk 0x100) = true ∧ (window (cm 0x100)).badIn (cmk 0x100) 8 = false ∧
    (window (cm 0x100)).memWf ∧ (up.rwtEntry (getBits (0 : Word64) 14 0)).valid = false := by
  unfold State.letsIn State.memWf; decide +kernel

/-- A MOVE of one row of `n` bytes between 0 and 0x4000 of cluster memory 0, or to or from host memory through port 0. -/
def moveCmdOf (n ends src : Nat) : InFlight :=
  inFlight 0x10 (leBytes 8 src ++ leBytes 8 (if ends / 2 % 2 = 1 then 0 else cm 0x4000) ++ leBytes 4 n ++ leBytes 4 1 ++ leBytes 16 0 ++ leBytes 24 ends) .started

theorem witness_MoveCopies : (∀ ends ∈ [0, 2], let c := moveCmdOf 1 ends (cm 0)
    let s : State := { withCmd c with regs := up.regs }
    let d := moveDesc c.ext
    s.working 0x10 0 0 c ∧ (s.observe.movePiece c d 0 (min 4096 (d.rb * d.rows - 0))).2.2 = 0 ∧ d.rb * d.rows ≤ 0 + 4096 ∧
    (d.dstHost = true ↔ ends = 2)) ∧
    (let c := moveCmdOf 1 0 (2 ^ 62)
     (withCmd c).working 0x10 0 0 c ∧ ((withCmd c).observe.movePiece c (moveDesc c.ext) 0 1).2.2 = 0x0A01) := by
  unfold State.working State.flows; decide +kernel

/-- A MOVE of one row between two places of cluster memory 0 meets no error. -/
theorem move_ok {c : InFlight} {d : MoveDesc} (hp : c.part = 0) (h1 : d.srcHost = false) (h2 : d.dstHost = false) (h3 : d.src = cm 0)
    (h4 : d.dst = cm 0x4000) (h5 : d.rb = 0x2000) (n i : Nat) {s : State} {k : Nat} (hk : s.physCluster? 0 0 = some k) (hb : s.bad = [])
    (hn : i + n ≤ 0x2000) : (s.movePiece c d i n).2.2 = 0 := by
  induction n generalizing s i with
  | zero => rfl
  | succ n ih =>
    have e1 : d.src + i / d.rb * d.sstr + i % d.rb = cm i := by
      rw [h3, h5, Nat.div_eq_of_lt (by omega), Nat.mod_eq_of_lt (by omega)]; simp only [cm]; omega
    have e2 : d.dst + i / d.rb * d.dstr + i % d.rb = cm (0x4000 + i) := by
      rw [h4, h5, Nat.div_eq_of_lt (by omega), Nat.mod_eq_of_lt (by omega)]; simp only [cm]; omega
    have o1 := cm_ok hk i (by omega)
    have o2 := cm_ok hk (0x4000 + i) (by omega)
    cases x1 : s.xlate (some 0) (cm i) with
    | error e => rw [x1] at o1; cases o1
    | ok k1 =>
      cases x2 : s.xlate (some 0) (cm (0x4000 + i)) with
      | error e => rw [x2] at o2; cases o2
      | ok k2 =>
        have m : s.moveByte c d i = .ok (s.wr k2 (s.rd k1)) := by
          simp only [State.moveByte, h1, h2, hp, e1, e2, x1, x2, hb]; rfl
        simp only [State.movePiece, m]
        exact ih (i + 1) hk (by simp [State.wr, hb]) (by omega)

theorem witness_MoveCopies_piece : let c := moveCmdOf 0x2000 0 (cm 0)
    (withCmd c).working 0x10 0 0 c ∧ ((withCmd c).observe.movePiece c (moveDesc c.ext) 0 4096).2.2 = 0 ∧
    0 + 4096 < (moveDesc c.ext).rb * (moveDesc c.ext).rows := by
  have k : (withCmd (moveCmdOf 0x2000 0 (cm 0))).observe.physCluster? 0 0 = some 0 := by decide +kernel
  refine ⟨?_, move_ok rfl (by decide +kernel) (by decide +kernel) (by decide +kernel) (by decide +kernel) (by decide +kernel) 4096 0 k rfl
    (by decide), by decide +kernel⟩
  unfold State.working State.flows; decide +kernel

/-- Partition 0's runtime channel on port 0 with one request, one Resident Model Table entry at the end of cluster memory 0, one window
entry and two KV slots. -/
def channel (req entry : Nat) : State :=
  let l := (((State.reset.shape.live.setFld (page 4 0) Fld.EDIE_RMT_BASE_ADDR (cm 0x17FFFC0)).setFld (partPage 0)
    Fld.PART_RWT_ALLOC_COUNT 1).setFld (partPage 0) Fld.PART_KV_POOL_GEOM_SLOTS 2).setFld (partPage 0) Fld.PART_KV_POOL_GEOM_SLOT_UNITS 1
  ({ ((up.setFld (partPage 0) Fld.PART_RT_CFG_EN 1).setFld (partPage 0) Fld.PART_RT_CFG_LOG2_ENTRIES 4) with
    shape := { up.shape with live := l }
    mem := (List.range 64).map (fun i => (cmk (0x17FFFC0 + i), BitVec.ofNat 8 (entry / 256 ^ i)))
    host := (List.range 64).map (fun i => (i, BitVec.ofNat 8 (req / 256 ^ i))) }).modPart 0 (fun x => { x with rtTail := 1 })

/-- A request's field. -/
def arg (off v : Nat) : Nat := v * 256 ^ off

/-- A table entry's bytes: STATE, PINS. -/
def model (st pins : Nat) : Nat := arg 32 (st * 64) + arg 30 pins

/-- A request is at the head of the channel. -/
def asks (s : State) (req : Nat) : Bool := decide (s.rtReq? 0 = some (leBytes 64 req))

theorem witness_RuntimeChannel_load : (let req := 1 + arg 16 1
     asks (channel req 0) req = true ∧ leAt (leBytes 64 req) 16 8 % 4096 ≠ 0) ∧
    (let req := 1 + arg 24 4096
     let b := leBytes 64 req
     let u := (channel req 0).rtTake 0
     asks (channel req 0) req = true ∧ leAt b 0 1 = 1 ∧ rtClean b [(8, 8), (16, 8), (24, 8), (32, 1)] = true ∧ leAt b 16 8 % 4096 = 0 ∧
     leAt b 24 8 ≠ 0 ∧ leAt b 24 8 ≤ 2 ^ 40 ∧ leAt b 32 1 ≤ 1 ∧ u.rmtPick 0 = some (0, none) ∧
     u.regionsFit 0 (cm 0x100) (leAt b 24 8) [(0, 4096)] = true) ∧
    (let s := (channel 0 (model 1 0)).modPart 0 (fun x => { x with rtLoads := [⟨0, 0, false⟩] })
     (s.part 0).rtLoads = [⟨0, 0, false⟩] ∧ s.rtOn 0 = true ∧ s.rmt? 0 = some (leBytes 64 (model 1 0)) ∧
     (s.modPart 0 (fun x => { x with rtLoads := [] })).hostCode (s.rtPort 0) 0 0 0 = 0) := by
  decide +kernel

theorem witness_RuntimeChannel_models : (∀ e ∈ [model 0 0, model 2 1, model 2 0], let s := channel 2 e
     asks s 2 = true ∧ leAt (leBytes 64 2) 0 1 = 2 ∧ rtClean (leBytes 64 2) [(8, 2)] = true ∧
     (s.rtTake 0).rmtOf? 0 0 = if e = model 0 0 then none else some (leBytes 64 e)) ∧
    rmtPins (leBytes 64 (model 2 1)) ≠ 0 ∧ rmtPins (leBytes 64 (model 2 0)) = 0 ∧
    (let req := 3 + arg 12 1
     let s := channel req (model 2 0)
     asks s req = true ∧ rtClean (leBytes 64 req) [(8, 2), (12, 1)] = true ∧ sleAt (leBytes 64 req) 12 1 = 1 ∧
     (s.rtTake 0).rmtOf? 0 0 = some (leBytes 64 (model 2 0))) := by
  decide +kernel

theorem witness_RuntimeChannel_requests : (channel 0 0).letsIn (.pf 0) (partPage 0) ∧
    ((channel 0 0).modPart 0 (fun x => { x with rtTail := getBits (0 : Word64) 31 0 })).rtReq? 0 = none ∧
    asks ((channel 8 0).modPart 0 (fun x => { x with rtTail := getBits (1 : Word64) 31 0 })) 8 = true ∧
    asks ((channel 9 0).modPart 0 (fun x => { x with rtTail := getBits (1 : Word64) 31 0 })) 9 = true ∧
    (let s := (channel 5 0).modCtx 0 0 (fun x => { x with st := .ready })
     asks s 5 = true ∧ rtClean (leBytes 64 5) [(8, 1)] = true ∧ ((s.rtTake 0).ctx 0 0).st = .ready ∧
     (s.rtTake 0).rings.any (fun r => (s.rtTake 0).ctxRing 0 0 r.1 && r.2.st != 0) = false) ∧
    asks (channel 5 0) 5 = true ∧ ¬((((channel 5 0).rtTake 0).ctx 0 0).st = .ready ∨ (((channel 5 0).rtTake 0).ctx 0 0).st = .suspended ∨
      (((channel 5 0).rtTake 0).ctx 0 0).st = .aborted) ∧
    (∀ high ∈ [2, 3], let req := 6 + arg 8 1 + arg 12 high
     let b := leBytes 64 req
     let s := channel req 0
     asks s req = true ∧ leAt b 0 1 = 6 ∧ rtClean b [(8, 4), (12, 4), (16, 2), (18, 1), (19, 1)] = true ∧ leAt b 18 1 ≤ 2 ∧
     leAt b 19 1 ≤ 1 ∧ (s.rtTake 0).kvSlots 0 = 2 ∧ leAt b 8 4 ≤ leAt b 12 4 ∧ leAt b 12 4 = high) ∧
    asks (channel 8 0) 8 = true ∧ rtClean (leBytes 64 8) [] = true := by
  unfold State.letsIn; decide +kernel

theorem witness_RuntimeChannel_grant : let req := 7 + arg 16 4096 + arg 24 3
    let b := leBytes 64 req
    let s := channel req 0
    let u := s.rtTake 0
    asks s req = true ∧ leAt b 0 1 = 7 ∧ rtClean b [(8, 8), (16, 8), (24, 1), (26, 2), (32, 8)] = true ∧ leAt b 16 8 % 4096 = 0 ∧
    leAt b 16 8 ≠ 0 ∧ leAt b 16 8 ≤ (u.shape.live.rwt 0).2 * 2 ^ 21 ∧ leAt b 24 1 ≤ 3 ∧ leAt b 32 8 = 0 ∧ leAt b 8 8 = 0 ∧ cm 0 % 4096 = 0 ∧
    u.cmOrHbm 0 (cm 0) (leAt b 16 8) = true ∧ ceilDiv (leAt b 16 8) (2 ^ 21) = 1 ∧ u.rwtFree? 0 1 = some 0 ∧
    ({ u with rwt := [(0, ⟨true, true, true, cm 0, 1, 7, 0, 0, 0⟩)] } : State).rwtFree? 0 1 = none := by
  decide +kernel

theorem witness_RuntimeChannel_context : let req := 4 + arg 12 1 + arg 16 100
    let b := leBytes 64 req
    let s := channel req 0
    let u := s.rtTake 0
    asks s req = true ∧ leAt b 0 1 = 4 ∧
    rtClean b [(8, 1), (12, 4), (16, 4), (20, 1), (21, 1), (24, 8), (32, 1), (40, 8), (48, 1)] = true ∧ leAt b 8 1 = 0 ∧
    leAt b 21 1 ≤ 1 ∧ (u.ctx 0 0).st = .empty ∧ codeOf (rtCtx? b (cm 0x200)) = 0 := by
  decide +kernel

/-- A CONTEXT_CREATE of context 0 with areas of 64 KiB-aligned memory in every die. -/
theorem witness_RuntimeChannel_create : let b := leBytes 64 (4 + arg 12 1 + arg 16 100)
    let u := (channel (4 + arg 12 1 + arg 16 100) 0).rtTake 0
    let x : Ctx := { cfg := BitVec.ofNat 64 (2 + 100 * 2 ^ 32), save := BitVec.ofNat 64 (cm 0x200), win := 0, bind := 0 }
    let w := u.wrDev (some 0) (cm 0x200) ((List.range 16).flatMap (fun d => leBytes 8 (((List.range 16).map (fun d => d * dieWindow + 65536)).getD d 0)))
    reads (rtCtx? b (cm 0x200)) x = true ∧ w.2.2 = 0 ∧
    codeOf (match w.1.ctxCheck 0 0 x with | .ok _ => .ok 0 | .error e => .error e.1) = 0 := by
  decide +kernel

theorem witness_ModelEviction : let req := 1 + arg 24 4096
    let s := channel req (model 2 1)
    let u := s.rtTake 0
    asks s req = true ∧ leAt (leBytes 64 req) 0 1 = 1 ∧
    ∀ i < 4096, ∀ e, u.rmt? i = some e → rmtState e ≠ 0 ∧ ¬(rmtState e = 2 ∧ rmtPart e = 0 ∧ rmtPins e = 0) := by
  refine ⟨by decide +kernel, by decide +kernel, fun i hi e he => ?_⟩
  by_cases h0 : i = 0
  · subst h0
    have : ((channel (1 + arg 24 4096) (model 2 1)).rtTake 0).rmt? 0 = some (leBytes 64 (model 2 1)) := by decide +kernel
    rw [this] at he; injection he with he; subst he; decide +kernel
  · exfalso
    have ha : ((channel (1 + arg 24 4096) (model 2 1)).rtTake 0).rmtAddr i = cm 0x17FFFC0 + 64 * i := by
      have : ((channel (1 + arg 24 4096) (model 2 1)).rtTake 0).sh (page 4 0) Fld.EDIE_RMT_BASE_ADDR = cm 0x17FFFC0 := by decide +kernel
      simp only [State.rmtAddr, this]
    have e1 : ¬ cm 0x17FFFC0 + 64 * i < pkgBase + 2 ^ 42 := by simp only [cm, cmBase, pkgBase]; omega
    have e2 : cmBase ≤ cm 0x17FFFC0 + 64 * i ∧ cm 0x17FFFC0 + 64 * i < cmBase + 128 * 0x2000000 := by simp only [cm, cmBase]; omega
    have e3 : 24 * 2 ^ 20 ≤ (cm 0x17FFFC0 + 64 * i - cmBase) % 0x2000000 := by simp only [cm, cmBase]; omega
    have e4 : ((channel (1 + arg 24 4096) (model 2 1)).rtTake 0).xlate none (cm 0x17FFFC0 + 64 * i + 0) = .error 0x0A01 := by
      rw [Nat.add_zero]; unfold State.xlate; rw [if_neg e1, if_pos e2]; exact if_pos e3
    have e5 : ((channel (1 + arg 24 4096) (model 2 1)).rtTake 0).rdDev none (cm 0x17FFFC0 + 64 * i) 64 = .error 0x0A01 := by
      unfold State.rdDev
      rw [show List.range 64 = 0 :: (List.range 63).map (· + 1) from by decide, List.mapM_cons, e4]; rfl
    unfold State.rmt? at he
    rw [ha, e5] at he; cases he

theorem witness_ModelEviction_pins : ∀ pins ∈ [0, 1], let s := channel 2 (model 2 pins)
    asks s 2 = true ∧ leAt (leBytes 64 2) 0 1 = 2 ∧ rtClean (leBytes 64 2) [(8, 2)] = true ∧
    (s.rtTake 0).rmtOf? 0 0 = some (leBytes 64 (model 2 pins)) ∧ rmtPins (leBytes 64 (model 2 pins)) = pins := by
  decide +kernel

theorem witness_LinkRecovery : up.linked 0 = true := by
  decide +kernel

theorem witness_HostLoss : up.linked 0 = true ∧ up.sh (hpPage 0) Fld.HP_CFG_HOLD_ON_HOST_LOSS = 0 ∧ up.pwr.d3 = [] ∧
    State.reset.linked 0 = false ∧ State.reset.running = true ∧ State.reset.fld crnPage Fld.CRN_SERVICE_MIN_MET = 1 ∧
    State.reset.trimmed 13 0 = false ∧ State.reset.pwr.fresh = true ∧
    ({ State.reset with pwr := { State.reset.pwr with fresh := false } } : State).linked 0 = false ∧
    ({ State.reset with pwr := { State.reset.pwr with fresh := false } } : State).running = true ∧
    (let s := up.setRing 0 { (up.ring 0) with st := 1, cfg := 0x20, cqCfg := 0x20 }
     (s.ring 0).st = 1 ∧ ((s.ring 0).inHost && (s.ring 0).port == 0) = true ∧ ((s.ring 0).cqInHost && (s.ring 0).cqPort == 0) = true) := by
  decide +kernel

/-- Retained state waits for a claim of the ID 5, the port's last claim at some millisecond. -/
def heldState (last : Option Nat) : State :=
  ((((up.setFld crnPage Fld.CRN_PWR_STATUS_STATE 2).setFld (hpPage 0) Fld.HP_RETAIN_CTRL_STATE 1).setReg (hpPage 0 + Reg.HP_RETAIN_ID) 5).modHp 0
    (fun x => { x with lastClaim := last }))

theorem witness_HostLoss_claim : up.letsIn (.pf 0) (hpPage 0) ∧ up.fld (hpPage 0) Fld.HP_RETAIN_CTRL_STATE ≠ 1 ∧
    (∀ last ∈ [none, some 7], let s := heldState last
      s.letsIn (.pf 0) (hpPage 0) ∧ s.fld (hpPage 0) Fld.HP_RETAIN_CTRL_STATE = 1 ∧ (s.hp 0).lastClaim = last ∧
      s.reg (hpPage 0 + Reg.HP_RETAIN_ID) = 5) ∧
    (7 : Nat) < 7 + 100 ∧ ¬((107 : Nat) < 7 + 100) ∧ (6 : Word64) ≠ 5 ∧ (5 : Word64) ≠ 0 ∧
    (List.range 64).all (fun p => (List.range 16).all (fun c => ((heldState none).ctx p c).st != .ready && ((heldState none).ctx p c).st != .suspended)) = true := by
  unfold State.letsIn; decide +kernel

/-- Port 0 with the Dwerdo personality, its queue of 16 commands running, its base at 0 of host memory, with a first command. -/
def dwerdo (cmd : Nat) : State :=
  let s := ((up.setFld (hpPage 0) Fld.HP_DW_CFG_LOG2 4).setFld (hpPage 0) Fld.HP_DW_CFG_EN 1).setFld (hpPage 0) Fld.HP_DW_STATUS_STATE 1
  ({ s with shape := { s.shape with persona := [1, 1] }
            host := (List.range 64).map (fun i => (i, BitVec.ofNat 8 (cmd / 256 ^ i))) }).modHp 0 (fun x => { x with dw := { x.dw with tail := 1 } })

theorem witness_DwerdoQueue : (dwerdo 0).shape.persona[0]? = some 1 ∧ (dwerdo 0).linked 0 = true ∧ (dwerdo 0).letsIn (.pf 0) (hpPage 0) ∧
    getBits (0 : Word64) 4 4 = 0 ∧
    (let s := (dwerdo 0).setFld (hpPage 0) Fld.HP_DW_CFG_EN 0
     s.shape.persona[0]? = some 1 ∧ s.linked 0 = true ∧ s.letsIn (.pf 0) (hpPage 0) ∧ s.fld (hpPage 0) Fld.HP_DW_CFG_EN = 0 ∧
     getBits (0x10 : Word64) 4 4 = 1 ∧ getBits (0x10 : Word64) 3 0 < 4 ∧ getBits (0x14 : Word64) 4 4 = 1 ∧ 4 ≤ getBits (0x14 : Word64) 3 0 ∧
     getBits (0x14 : Word64) 3 0 ≤ 14 ∧ (s.reg (hpPage 0 + Reg.HP_DW_SQ_BASE)).toNat % 4096 = 0 ∧
     (s.reg (hpPage 0 + Reg.HP_DW_CQ_BASE)).toNat % 4096 = 0 ∧ s.fld (hpPage 0) Fld.HP_DW_EVT_BASE_ADDR % 4096 = 0 ∧
     s.hbmRange 0 (s.fld (hpPage 0) Fld.HP_DW_EVT_BASE_ADDR) 32768 = true) ∧
    (dwerdo 0).fld (hpPage 0) Fld.HP_DW_STATUS_STATE = 1 ∧ getBits (15 : Word64) 15 0 < 2 ^ (dwerdo 0).dwLog2 0 ∧
    2 ^ (dwerdo 0).dwLog2 0 ≤ getBits (16 : Word64) 15 0 := by
  unfold State.letsIn; decide +kernel

theorem witness_DwerdoQueue_command : ∀ op ∈ [0, 0xFF], let s := ((dwerdo op).setRing 0 { ((dwerdo op).ring 0) with st := 1 }).modCtx 0 0 (fun x => { x with st := .resident })
    let b := s.rdHost 0 ((s.reg (hpPage 0 + Reg.HP_DW_SQ_BASE)).toNat + 64 * ((s.hp 0).dw.taken % 2 ^ s.dwLog2 0)) 64
    s.shape.persona[0]? = some 1 ∧ s.linked 0 = true ∧ s.fld (hpPage 0) Fld.HP_DW_STATUS_STATE = 1 ∧
    (s.hp 0).dw.taken % 2 ^ s.dwLog2 0 ≠ (s.hp 0).dw.tail % 2 ^ s.dwLog2 0 ∧ s.hostCode 0 0 0 64 = 0 ∧ b = leBytes 64 op ∧
    (dwOpcode? (bitsAt b 0 7 0) = if op = 0 then some 0 else none) ∧ dwReserved b = false ∧
    reads (s.dwBody 0 b 0 ((extNeed? 0).getD 0)) [] = true ∧ s.dwRing 0 0 b = true := by
  decide +kernel

/-- Partition 0's power state. -/
def asleep (st : Nat) : State := State.reset.setFld (partPage 0) Fld.PART_PWR_STATE st

/-- A context of partition 0 is resident. -/
def busyPart : State := State.reset.modCtx 0 0 (fun x => { x with st := .resident })

theorem witness_SleepStates : busyPart.letsIn (.crown 0) (partPage 0) ∧ busyPart.fld (partPage 0) Fld.PART_PWR_STATE = 0 ∧
    getBits (1 : Word64) 0 0 = 1 ∧ busyPart.idle 0 = false ∧ State.reset.letsIn (.crown 0) (partPage 0) ∧
    State.reset.fld (partPage 0) Fld.PART_PWR_STATE = 0 ∧ State.reset.shape.live.defined 0 = true ∧ State.reset.idle 0 = true ∧
    (asleep 2).letsIn (.crown 0) (partPage 0) ∧ (asleep 2).fld (partPage 0) Fld.PART_PWR_STATE = 2 ∧
    getBits (2 : Word64) 1 1 ≠ (asleep 2).fld (partPage 0) Fld.PART_PWR_RETAIN_SRAM ∧
    getBits (0 : Word64) 1 1 = (asleep 2).fld (partPage 0) Fld.PART_PWR_RETAIN_SRAM ∧ getBits (0 : Word64) 0 0 = 0 ∧
    (asleep 1).fld (partPage 0) Fld.PART_PWR_STATE = 1 ∧ ((asleep 1).part 0).wakeDue = false ∧
    (asleep 1).fld (partPage 0) Fld.PART_PWR_RETAIN_SRAM = 0 ∧
    ((asleep 1).setFld (partPage 0) Fld.PART_PWR_RETAIN_SRAM 1).fld (partPage 0) Fld.PART_PWR_RETAIN_SRAM = 1 ∧
    (let s := (asleep 1).modPart 0 (fun x => { x with wakeDue := true })
     s.fld (partPage 0) Fld.PART_PWR_STATE = 1 ∧ (s.part 0).wakeDue = true) ∧
    (asleep 3).fld (partPage 0) Fld.PART_PWR_STATE = 3 ∧ (asleep 3).fld (partPage 0) Fld.PART_PWR_DEEP_NAP = 0 := by
  unfold State.letsIn; decide +kernel

/-- Nap is allowed. -/
def mayNap : State := { State.reset with shape := { State.reset.shape with live := State.reset.shape.live.setFld crnPage Fld.CRN_PWR_CFG_NAP_DELAY 1 } }

/-- Both PFs up, with D3hot ones and the state of a Block-hold that D3hot entered. -/
def d3 (l : List Nat) (st : Nat) (by_ : Bool) : State :=
  { up.setFld crnPage Fld.CRN_PWR_STATUS_STATE st with pwr := { up.pwr with d3 := l, holdByD3 := by_, holdDue := if st = 1 then some false else none } }

theorem witness_SleepStates_hold : mayNap.running = true ∧ mayNap.trimmed 6 0 = false ∧ mayNap.sh crnPage Fld.CRN_PWR_CFG_NAP_DELAY ≠ 0 ∧
    0 ∉ mayNap.pwr.napping ∧ mayNap.fld crnPage Fld.CRN_PWR_STATUS_STATE = 0 ∧ mayNap.cmds = [] ∧
    (∀ j < 8, mayNap.fld (page 7 (8 * 0 + j)) Fld.CORE_TC_STATUS_STATE ≠ 1) ∧
    up.linked 0 = true ∧ 0 ∉ up.pwr.d3 ∧ (d3 [0] 0 false).allD3 = false ∧ 0 ∉ (d3 [1] 0 false).pwr.d3 ∧ (d3 [0, 1] 0 false).allD3 = true ∧
    0 ∈ (d3 [0, 1] 2 true).pwr.d3 ∧ (d3 [0, 1] 2 true).pwr.holdByD3 = true ∧ (d3 [0, 1] 2 true).fld crnPage Fld.CRN_PWR_STATUS_STATE = 2 ∧
    0 ∈ (d3 [0] 0 false).pwr.d3 ∧ (d3 [0] 0 false).pwr.holdByD3 = false ∧
    (∀ b ∈ [false, true], (d3 [0, 1] 1 b).pwr.holdDue = some false ∧ (List.range 64).all (fun p => !(d3 [0, 1] 1 b).ctxBusy p) = true ∧
      (d3 [0, 1] 1 b).memWf) ∧
    (d3 [0, 1] 3 true).fld crnPage Fld.CRN_PWR_STATUS_STATE = 3 := by
  unfold State.memWf; decide +kernel

/-- Both links up and VF 0 of port 0 mapped to partition 0. -/
def mapped : State := up.modShape (fun u => { u with live := { u.live with words := SMap.put u.live.words (hpPage 0 + 0x110) 0x80 } })

/-- A Shape commit holds partition 0. -/
def holdsPart : State := State.reset.modShape (fun u => { u with op := some ⟨.commit, false, false, [0], [], [], [], []⟩ })

theorem witness_PartitionReset : State.reset.shape.live.defined 0 = true ∧ (State.reset.part 0).resetting = false ∧
    State.reset.letsIn (.crown 0) (page 0 0) ∧ getBits (4 : Word64) 0 0 = 0 ∧ getBits (4 : Word64) 2 2 = 1 ∧ getBits (4 : Word64) 8 3 = 0 ∧
    State.reset.fld crnPage Fld.CRN_PWR_STATUS_STATE < 3 ∧ State.reset.shapeHolds 0 = false ∧
    holdsPart.shape.live.defined 0 = true ∧ (holdsPart.part 0).resetting = false ∧ holdsPart.letsIn (.crown 0) (page 0 0) ∧
    holdsPart.shapeHolds 0 = true ∧ State.reset.shape.live.defined (getBits (0xC : Word64) 8 3) = false ∧
    getBits (0xC : Word64) 0 0 = 0 ∧ getBits (0xC : Word64) 2 2 = 1 ∧
    mapped.linked 0 = true ∧ mapped.dwerdo = false ∧ mapped.shape.live.vfPart? 0 0 = some 0 ∧ mapped.shapeHolds 0 = false ∧ mapped.shape.live.defined 0 = true ∧
    (mapped.part 0).resetting = false ∧
    (let s := State.reset.modPart 0 (fun x => { x with resetting := true })
     (s.part 0).resetting = true ∧ (s.part 0).resetDue = false) ∧
    (∀ x ∈ [(State.reset, false), (holdsPart, true)], let s := x.1.modPart 0 (fun x => { x with resetting := true, resetDue := true })
     (s.part 0).resetting = true ∧ (s.part 0).resetDue = true ∧ s.shapeHolds 0 = x.2 ∧ s.shape.live.defined 0 = true) := by
  unfold State.letsIn; decide +kernel

theorem witness_PackageReset : (∀ st ∈ [0, 3, 4], let s := State.reset.setFld crnPage Fld.CRN_PWR_STATUS_STATE st
     s.letsIn (.crown 0) (page 0 0) ∧ s.fld crnPage Fld.CRN_PWR_STATUS_STATE = st) ∧
    getBits (1 : Word64) 0 0 = 1 ∧ getBits (5 : Word64) 0 0 = 1 ∧ getBits (5 : Word64) 2 2 = 1 ∧ getBits (1 : Word64) 2 2 = 0 ∧
    getBits (1 : Word64) 1 1 ≠ 1 ∧ getBits (3 : Word64) 0 0 = 1 ∧ getBits (3 : Word64) 2 2 = 0 ∧ getBits (3 : Word64) 1 1 = 1 ∧
    (∀ s ∈ [State.reset, busyPart, up], s.pwr.tripped = false ∧ s.pwr.mainLost = false ∧ s.pwr.booting = false ∧ s.pwr.pkgReset = none ∧
      s.pwr.pkgDue = none ∧ s.fld secPage Fld.SEC_STATUS_DEBUG ≠ 2) ∧
    (List.range 64).all (fun p => !State.reset.ctxBusy p) = true ∧ busyPart.letsIn (.crown 0) (page 0 0) ∧
    busyPart.fld crnPage Fld.CRN_PWR_STATUS_STATE = 0 ∧ busyPart.ctxBusy 0 = true ∧ up.letsIn (.pf 0) (hpPage 0) ∧
    State.reset.pins.pwrGood = true ∧ State.reset.sh crnPage Fld.CRN_PWR_CFG_RESETN_RETAIN = 0 ∧ State.reset.pwr.coldDue = false ∧
    (let s : State := { State.reset with pwr := { State.reset.pwr with pkgReset := some false } }
     s.pins.resetLow = false ∧ s.pwr.pkgDue = none ∧ s.pwr.pkgReset = some false ∧ s.fld secPage Fld.SEC_STATUS_DEBUG ≠ 2 ∧
     s.shape.slot0 = none ∧ s.shape.slot1 = none ∧ s.pwr.formed = []) ∧
    ({ State.reset with pins := { State.reset.pins with resetLow := true } } : State).pins.resetLow = true ∧
    (∀ c ∈ ({ State.reset with mem := [(3, 1)] } : State).mem, c.1 < 2 ^ 51) := by
  unfold State.letsIn; decide +kernel

/-- The reset state with another power state. -/
def powered (f : Power → Power) : State := { State.reset with pwr := f State.reset.pwr }

theorem witness_Power : (powered (fun x => { x with v48 := false })).pwr.v48 = false ∧ (powered (fun x => { x with softStart := 1 })).pwr.softStart = 1 ∧
    (let s := powered (fun x => { x with mainLost := true, v48 := true, softStart := 2 })
     s.pwr.mainLost = true ∧ s.pwr.v48 = true ∧ s.pwr.softStart = 2 ∧ s.pins.resetLow = false ∧ s.pwr.tripped = false ∧
     ({ s with pins := { s.pins with resetLow := true } } : State).pins.resetLow = true) ∧
    (powered (fun x => { x with booting := true })).pwr.booting = true ∧ State.reset.pins.resetLow = false ∧
    State.reset.pwr.mainLost = false ∧ State.reset.pwr.v48 = true ∧ State.reset.pwr.v48Alert = false ∧
    (powered (fun x => { x with v48Alert := true })).pwr.v48Alert = true ∧ (powered (fun x => { x with v12sb := false })).pwr.v12sb = false ∧
    State.reset.running = true ∧ State.reset.pwr.tripped = false ∧ (powered (fun x => { x with tripped := true })).pwr.mainLost = false := by
  decide +kernel

/-- A sample above EXCURSION, and one that has been above SUSTAIN for 8 ms. -/
theorem witness_Power_steps : let s := powered (fun x => { x with aboveUs := 8000, sinceStep := 90 })
    s.running = true ∧ s.pwr.tripped = false ∧ 10 * s.sh crnPage Fld.CRN_PWR_CFG_EXCURSION < 65535 ∧
    10 * s.sh crnPage Fld.CRN_PWR_CFG_SUSTAIN < 10 * s.sh crnPage Fld.CRN_PWR_CFG_EXCURSION ∧
    s.aclkStep < s.sh crnPage Fld.CRN_PWR_CFG_FLOOR_STEP ∧ 90 ≤ s.pwr.sinceStep := by
  decide +kernel

/-- At FLOOR_STEP 0: a load above 18.0 kW for 8 ms, and one whose mean is above it. -/
theorem witness_Power_floor : let u := powered (fun x => { x with aboveUs := 8000, overUs := 7990, sinceStep := 990, samples := [18100] })
    let s := u.modShape (fun x => { x with live := x.live.setFld crnPage Fld.CRN_PWR_CFG_FLOOR_STEP 0 })
    s.running = true ∧ s.pwr.tripped = false ∧ (18100 : Nat) ≤ 10 * s.sh crnPage Fld.CRN_PWR_CFG_EXCURSION ∧
    10 * s.sh crnPage Fld.CRN_PWR_CFG_SUSTAIN < 18100 ∧ s.sh crnPage Fld.CRN_PWR_CFG_SUSTAIN ≤ 1800 ∧
    ¬(s.aclkStep < s.sh crnPage Fld.CRN_PWR_CFG_FLOOR_STEP) ∧ sustainedW < 18100 ∧ 7990 ≤ s.pwr.overUs ∧ 990 ≤ s.pwr.sinceStep ∧
    98 * 18000 * ((18100 : Nat) :: s.pwr.samples.take 99999).length < 100 * ((18100 : Nat) :: s.pwr.samples.take 99999).sum := by
  decide +kernel

/-! ### Contexts (chapter 17) -/

/-- Context 0 of partition 0 in a state, with EN, its save map in cluster 0 naming an area in every die. -/
def ctx0 (st : CtxSt) (en : Nat) : State :=
  { State.reset with mem := words ((List.range 16).map (fun d => (cmk (0x200 + 8 * d), d * dieWindow + 65536))) }.modCtx 0 0
    (fun x => { x with st := st, cfg := BitVec.ofNat 64 (2 + 100 * 2 ^ 32 + en), save := BitVec.ofNat 64 (cm 0x200) })

/-- The code a check of the selected context answers. -/
def ctxCode (s : State) (v : Word64) : Nat :=
  codeOf (match s.ctxCheck 0 0 { s.ctx 0 0 with cfg := setBits v 0 0 1 &&& ctxCfgMask } with | .ok _ => .ok () | .error e => .error e.1)

theorem witness_ContextControl : (ctx0 .empty 0).letsIn (.crown 0) (partPage 0) ∧ (ctx0 .empty 0).ctxSel 0 = 0 ∧
    ((ctx0 .empty 0).ctx 0 0).en = false ∧ (ctx0 .empty 0).shape.live.defined 0 = true ∧
    ctxCode (ctx0 .empty 0) 0 = 0x0E05 ∧ ctxCode (ctx0 .empty 0) (BitVec.ofNat 64 (2 + 100 * 2 ^ 32)) = 0 ∧
    (∀ st ∈ [CtxSt.ready, .suspended, .aborted, .resident, .saving, .restoring, .empty], let s := ctx0 st 1
      s.letsIn (.crown 0) (partPage 0) ∧ s.ctxSel 0 = 0 ∧ (s.ctx 0 0).en = true ∧ (s.ctx 0 0).st = st ∧
      s.rings.any (fun r => s.ctxRing 0 0 r.1 && r.2.st != 0) = false ∧
      setBits (BitVec.ofNat 64 (2 + 100 * 2 ^ 32)) 0 0 0 &&& ctxCfgMask = (s.ctx 0 0).cfg &&& ctxCfgMask ∧
      setBits (0 : Word64) 0 0 0 &&& ctxCfgMask ≠ (s.ctx 0 0).cfg &&& ctxCfgMask) ∧
    (let s := { ctx0 .ready 1 with rings := [(0, { st := 1 })] }
     s.rings.any (fun r => s.ctxRing 0 0 r.1 && r.2.st != 0) = true) := by
  unfold State.letsIn; decide +kernel

/-- A sound image with no frames, or one whose frames are not what was written. -/
def someImage (sound : Bool) : Image := ⟨1, [], [], [], [(0, 1)], [(0, 1)], if sound then [] else [(0, 0)], 0, 0, 0⟩

theorem witness_ContextSaves : (ctx0 .resident 1).resident? 0 = some 0 ∧
    ((ctx0 .resident 1).ctx 0 0).residentStrokes < ((ctx0 .resident 1).ctx 0 0).quantum ∧
    (let s := (ctx0 .resident 1).modCtx 0 0 (fun x => { x with residentStrokes := 1 })
     let t := s.modCtx 0 15 (fun x => { x with st := .ready })
     s.resident? 0 = some 0 ∧ (s.ctx 0 0).quantum ≤ (s.ctx 0 0).residentStrokes ∧ s.otherReady 0 0 = false ∧
     t.resident? 0 = some 0 ∧ (t.ctx 0 0).quantum ≤ (t.ctx 0 0).residentStrokes ∧ t.otherReady 0 0 = true) ∧
    (let s := ctx0 .saving 1
     let t := { s with cmds := [inFlight 0x10 [] .ended] }
     (s.ctxsIn 0 .saving).head? = some 0 ∧ (s.ctx 0 0).drained = false ∧ (s.ctx 0 0).abortPending = false ∧
     (t.ctxsIn 0 .saving).head? = some 0 ∧ (t.ctx 0 0).drained = false ∧
     (∃ f ∈ t.cmds, f.part = 0 ∧ f.ctx = 0 ∧ blocksDrain f = true) ∧
     (∀ f ∈ s.cmds, f.part = 0 → f.ctx = 0 → blocksDrain f = false)) ∧
    (let s := (ctx0 .saving 1).modCtx 0 0 (fun x => { x with drained := true })
     (s.ctxsIn 0 .saving).head? = some 0 ∧ (s.ctx 0 0).drained = true ∧ (s.ctx 0 0).abortPending = false ∧
     s.unsound 0 (s.ctx 0 0).keep (s.ctx 0 0).windows = false ∧
     (s.saveAreas 0 0 (s.ctx 0 0) (s.ctx 0 0).windows).isSome = true ∧
     (s.modCtx 0 0 (fun x => { x with abortPending := true })).ctx 0 0 = { s.ctx 0 0 with abortPending := true }) ∧
    (∀ b ∈ [true, false], let s := (ctx0 .restoring 1).modCtx 0 0 (fun x => { x with image := some (someImage b) })
     (s.ctxsIn 0 .restoring).head? = some 0 ∧ (s.ctx 0 0).image = some (someImage b) ∧ s.imageSound 0 (someImage b) = b ∧
     (s.ctx 0 0).windows = [] ∧ (s.ctx 0 0).suspendPending = false ∧ s.pwr.holdDue = none ∧ s.pwr.pkgDue = none) ∧
    ((ctx0 .restoring 1).ctx 0 0).image = none ∧
    (∀ n ∈ [0, 1], let s := (ctx0 .resident 1).modCtx 0 0 (fun x => { x with wdLimit := n })
     s.resident? 0 = some 0 ∧ ((s.ctx 0 0).wdLimit = 0 ∨ (s.ctx 0 0).wdCount < (s.ctx 0 0).wdLimit)) ∧
    (let s := (ctx0 .resident 1).modCtx 0 0 (fun x => { x with wdLimit := 1, wdCount := 1 })
     s.resident? 0 = some 0 ∧ (s.ctx 0 0).wdLimit ≠ 0 ∧ (s.ctx 0 0).wdLimit ≤ (s.ctx 0 0).wdCount) := by
  decide +kernel

/-! ### Security and errors (chapters 19 and 20) -/

/-- Port 0's DOE mailbox after a number of the requests that others follow. -/
def spdmAt (n : Nat) : State := { up with sec := { up.sec with spdm := [(0, n)] } }

/-- An image for slot 1 or 0 of the bundle or of stage one. -/
def fw (bundle : Bool) (slot : Nat) : FwImage := ⟨bundle, slot, true, 1, 2, [1]⟩

theorem witness_SecurityUnit : (∀ n ∈ [0, 1, 2, 3], (spdmAt n).responder? 0 = some 0 ∧ SMap.getD (spdmAt n).sec.spdm 0 0 = n) ∧
    (spdmAt 3).canSign 0 = true ∧ ((spdmAt 3).blocks 0).isSome = true ∧ ((spdmAt 3).blocks 9).isSome = true ∧
    (spdmAt 3).blocks 11 = none ∧
    State.reset.letsIn (.crown 0) secPage ∧ privileged (.crown 0) = true ∧ getBits (1 : Word64) 0 0 = 1 ∧
    State.reset.sec.svnBusy = false ∧ State.reset.fld secPage Fld.SEC_SVN_SEL_COUNTER = 0 ∧
    State.reset.sec.running 0 ≤ State.reset.sec.counters.getD 0 0 ∧
    (let x := { State.reset.sec with svnBusy := true }
     ({ State.reset with sec := x } : State).letsIn (.crown 0) secPage ∧ x.svnBusy = true) ∧
    (let x := { State.reset.sec with stage := [⟨true, 1, 1, []⟩, ⟨true, 0, 0, []⟩], bundle := [⟨true, 1, 1, []⟩, ⟨true, 0, 0, []⟩] }
     ({ State.reset with sec := x } : State).letsIn (.crown 0) secPage ∧ x.svnBusy = false ∧ x.counters.getD 0 0 < x.running 0) ∧
    State.reset.managed = true ∧
    (∀ b ∈ [true, false], State.reset.sec.closedSlot (fw b 0).bundle = some (fw b 0).slot ∧
      State.reset.sec.closedSlot (fw b 1).bundle ≠ some (fw b 1).slot ∧ (fw b 1).slot < 2 ∧ (fw b 1).bundle = b) ∧
    State.reset.running = true ∧ State.reset.fld secPage Fld.SEC_JTAG_LOCKED_OUT = 0 ∧ State.reset.sec.challenge = none ∧
    (let s := State.reset.setFld secPage Fld.SEC_JTAG_LOCKED_OUT 1
     s.running = true ∧ s.fld secPage Fld.SEC_JTAG_LOCKED_OUT = 1) ∧
    State.reset.fld secPage Fld.SEC_STATUS_DEBUG = 0 ∧
    (∃ x : Sec, x.challenge ≠ none ∧ ({ State.reset with sec := x } : State).running = true) := by
  refine ⟨?_, ?_, ?_, ?_, ?_, ?_, ?_, ?_, ?_, ?_, ?_, ?_, ?_, ?_, ?_, ?_, ?_, ?_, ?_, ?_, ⟨{ challenge := some [1] }, ?_⟩⟩ <;>
    (try unfold State.letsIn) <;> decide +kernel

/-- A state inside a maintenance window. -/
def inMaint : State := { State.reset with shape := { State.reset.shape with
  live := State.reset.shape.live.setFld strPage Fld.STR_MAINT_EVERY 1 } }

theorem witness_ErrorReports : State.reset.letsIn (.crown 0) (page 0 0) ∧
    State.reset.errHeadOk (getBits (0 : Word64) 11 0) = true ∧ State.reset.errHeadOk (getBits (1 : Word64) 11 0) = false ∧
    State.reset.errHeadOk (getBits (4095 : Word64) 11 0) = false ∧
    State.reset.running = true ∧ (∀ link ∈ [0, 31], link < 32) ∧ (∀ unit ∈ [0, 3, 4, 5], unit < 6) ∧
    inMaint.running = true ∧ inMaint.maintStroke = true ∧
    (∀ k ∈ [6, 7, 10, 11, 17], 0 < instances (if k = 17 then 5 else k)) := by
  unfold State.letsIn; decide +kernel

/-- COALESCE on, and an open window of code 5 with a count. -/
def coalescing (n : Nat) : State :=
  { State.reset.setFld crnPage Fld.CRN_ERR_CFG_COALESCE 1 with errs := { State.reset.errs with windows := [⟨3, 5, n, 0, 0⟩] } }

theorem witness_CorrectedErrorsCoalesce :
    (let counted (s : State) (e : ErrInfo) : State :=
       let parts := if e.cls = 3 then (List.range 64).filter s.shape.live.defined
         else ((match e.part with | some p => [p] | none => []) ++ e.also).eraseDups
       (parts.foldl (fun (x : State) p => if partPage p = srcPage e.source then x else x.countErr (partPage p) e.cls)
         (s.countErr (srcPage e.source) e.cls)).classAct e
     let mine (e : ErrInfo) (w : Coalesce) : Bool := w.source == e.source && w.code == e.code
     let e (code : Nat) : ErrInfo := { source := 3, cls := 0, code := code }
     (∀ code ∈ [5, 6], (counted (coalescing 0) (e code)).fld crnPage Fld.CRN_ERR_CFG_COALESCE = 1 ∧
       (counted (coalescing 0) (e code)).errs.windows.any (mine (e code)) = (code == 5)) ∧
     (let s := (coalescing 0).setFld crnPage Fld.CRN_ERR_CFG_COALESCE 0
      (counted s (e 5)).fld crnPage Fld.CRN_ERR_CFG_COALESCE = 0) ∧
     (coalescing 0).errs.windows.find? (mine (e 6)) = none ∧
     (∀ n ∈ [0, 1], (coalescing n).errs.windows.find? (mine (e 5)) = some ⟨3, 5, n, 0, 0⟩)) := by
  decide +kernel

theorem witness_FloatCodes : kE4M3.decode 0x7F = .nan ∧ kE4M3.decode 0x80 ≠ .nan ∧ (0x80 : Nat) < 2 ^ (1 + kE4M3.eb + kE4M3.fb) ∧
    (5 : Nat) ∈ [5, 6, 7, 8, 9, 10] ∧ (∃ v ∈ [Val.nan], v.isFin = false) := by
  decide +kernel

/-! ### Brim (chapter 16) -/

/-- Port 0 of this package, node 0, in a state. -/
def brim (st : Nat) : State := State.reset.setFld (brmPage 0) Fld.BRM_STATUS_STATE st

/-- Its Shape with a port field set. -/
def brimSh (st : Nat) (f : Fld) (v : Nat) : State := (brim st).modShape (fun u => { u with live := u.live.setFld (brmPage 0) f v })

/-- An LLDPDU of a node of a system, from its port 3. -/
def heard (sys node ttl : Nat) (valid : Bool) : Lldpdu := ⟨valid, [], [], 5, ttl, [
  beBytes 3 0x58EFC2 ++ leBytes 1 1 ++ beBytes 4 sys ++ beBytes 2 node ++ leBytes 16 0,
  beBytes 3 0x58EFC2 ++ leBytes 1 2 ++ leBytes 1 3 ++ leBytes 1 2 ++ beBytes 4 0 ++ leBytes 1 0]⟩

theorem witness_BrimPortsAndEpochs_ports : (∀ n ∈ [1, 2, 3, 5, 6], (brim n).portState 0 = n) ∧
    (brimSh 2 Fld.BRM_CFG_UDP 1).portState 0 = 2 ∧ (brimSh 2 Fld.BRM_CFG_UDP 1).sh (brmPage 0) Fld.BRM_CFG_UDP = 1 ∧
    (brimSh 2 Fld.BRM_CFG_UDP 1).fld (brmPage 0) Fld.BRM_STATUS_MISMATCH = 0 ∧
    (brim 2).sh (brmPage 0) Fld.BRM_CFG_UDP = 0 ∧ (heard 0 1 120 false).valid = false ∧
    (∀ n ∈ [0, 1, 9], (heard n 1 120 true).valid = true ∧ (heard n 1 120 true).ttl ≠ 0 ∧
      (heard n 1 120 true).orgs.findSome? nodeTlv? = some (n, 1) ∧ (heard n 1 120 true).orgs.findSome? portTlv? = some 3) ∧
    (9 : Nat) ≠ (brim 2).sh e0Page Fld.EDIE_SYS_SYSTEM_ID ∧ (0 : Nat) = (brim 2).sh e0Page Fld.EDIE_SYS_SYSTEM_ID ∧
    (1 : Nat) ≠ (brim 2).ownNode := by
  decide +kernel

/-- Bytes in memory from an address on. -/
def run (b : Nat) : List Byte → List Host.Cell
  | [] => []
  | x :: xs => (b, x) :: run (b + 1) xs

theorem run_get (b k : Nat) (l : List Byte) (h : k < l.length) : Memory.get? (run b l) (b + k) = some l[k] := by
  induction l generalizing b k with
  | nil => simp at h
  | cons x xs ih =>
    cases k with
    | zero => simp [run, Memory.get?]
    | succ k =>
      have e : b + (k + 1) = b + 1 + k := by omega
      rw [e, run, Memory.get?, if_neg (by omega), if_neg (by omega), ih (b + 1) k (by simpa using h)]
      simp

theorem mapM_ok {α β ε : Type} (f : α → Except ε β) (g : α → β) (l : List α) (h : ∀ x ∈ l, f x = .ok (g x)) :
    l.mapM f = .ok (l.map g) := by
  induction l with
  | nil => rfl
  | cons x xs ih =>
    rw [List.mapM_cons, h x (by simp), ih (fun y hy => h y (by simp [hy]))]
    rfl

theorem reads_run (s : State) (l : List Byte) (hm : s.mem = run (cm 0x1000) l) (hb : s.bad = []) (hl : l.length ≤ 1024) :
    s.rdDev none (cm 0x1000) l.length = .ok l := by
  unfold State.rdDev
  rw [mapM_ok _ (fun i => (l[i]?).getD 0)]
  · congr 1
    refine List.ext_getElem ((List.length_map _).trans List.length_range) (fun i h1 h2 => ?_)
    rw [List.getElem_map, List.getElem_range, List.getElem?_eq_getElem h2]
    rfl
  · intro i hi
    have h : i < l.length := by simpa using hi
    have x : s.xlate none (cm 0x1000 + i) = .ok (cm 0x1000 + i) := by
      unfold State.xlate
      rw [if_neg (by unfold cm cmBase pkgBase; omega), if_pos (by unfold cm cmBase; omega)]
      simp only
      rw [if_neg (by unfold cm; omega)]
    simp [x, hb, State.rd, hm, run_get _ i l h, List.getElem?_eq_getElem h]

/-- An announcement of an epoch at a stroke, its bitmap of this package alone at 0x1000 of cluster memory 0. -/
def proposing (k e : Nat) : State :=
  { ((State.reset.setFld e0Page Fld.EDIE_MEMB_NEXT_ADDR_ADDR (cm 0x1000)).setFld e0Page Fld.EDIE_MEMB_NEXT_EPOCH k).setFld e0Page
      Fld.EDIE_MEMB_STROKE_STROKE e with mem := run (cm 0x1000) (1 :: List.replicate 1023 0) }

theorem witness_BrimPortsAndEpochs_read (k e : Nat) : (proposing k e).rdDev none (cm 0x1000) 1024 = .ok (1 :: List.replicate 1023 0) := by
  have h := reads_run (proposing k e) (1 :: List.replicate 1023 0) rfl rfl
    (Nat.le_of_eq (by rw [List.length_cons, List.length_replicate]))
  rwa [List.length_cons, List.length_replicate] at h

theorem witness_BrimPortsAndEpochs : let bytes : List Byte := (1 : Byte) :: List.replicate 1023 0
    ∀ x ∈ [(1, 64, 0), (1, 63, 0x0D09), (2, 64, 0x0D09), (0, 64, 0x0D09)], let s := proposing x.1 x.2.1
      s.letsIn (.crown 0) (page 4 0) ∧ s.fld e0Page Fld.EDIE_MEMB_NEXT_ADDR_ADDR % 64 = 0 ∧
      s.fld e0Page Fld.EDIE_MEMB_NEXT_ADDR_ADDR = cm 0x1000 ∧
      s.fld e0Page Fld.EDIE_MEMB_NEXT_EPOCH = x.1 ∧ s.fld e0Page Fld.EDIE_MEMB_STROKE_STROKE = x.2.1 ∧
      s.announceCode x.1 x.2.1 (leNat bytes) (s.strokeNo + 64) = x.2.2 := by
  unfold State.letsIn; decide +kernel

/-- Port 0 a MEMBER, partition 0 of job 7 with an inbound window of 64 bytes at 0x400 of cluster memory 0. -/
def member (st : Nat) : State :=
  { (((brim st).modShape (fun u => { u with live := u.live.setFld (partPage 0) Fld.PART_BRIM_JOB 7 })).modCtx 0 0
      (fun x => { x with st := .ready, windows := [⟨cm 0x400, 64, false, none⟩] })) with mem := words [(cmk 0x400, 5)] }

/-- A frame of node 1 to this package. -/
def frameOf (typ target : Nat) (body : BrimBody) (seq : Nat := 0) : BrimFrame := ⟨1, typ, 8, 1, 0, seq, 0, 0, 0, 7, target, true, body⟩

/-- A connection with one frame that has not been acknowledged. -/
def waitingConn (k : Nat) : State :=
  { member 5 with brim := { (member 5).brim with conns := [{ port := 0, peer := 1, unacked := [(frameOf 0 0 .none, none)], timeouts := k }] } }

theorem witness_BrimFrames : (∀ st ∈ [3, 5, 6], 3 ≤ (member st).portState 0) ∧
    ({ frameOf 0 0 .none with ver := 2 } : BrimFrame).ver ≠ 1 ∧ ({ frameOf 0 0 .none with crcOk := false } : BrimFrame).crcOk = false ∧
    ((member 5).portState 0 = 5 ∧ (frameOf 0 0 .none).ver = 1 ∧ (frameOf 0 0 .none).crcOk = true ∧ (frameOf 0 0 .none).dst = (member 5).ownNode) ∧
    (frameOf 0 0 .none 1).seq ≠ ((member 5).conn 0 1).rxNext ∧ (frameOf 0 0 .none).seq = ((member 5).conn 0 1).rxNext ∧
    (∀ x ∈ [(0, cm 0x400, BrimBody.put [9]), (0, cm 0x440, .put [9]), (0, cm 0x43F, .put [9, 9]), (0, 0, .coll [] 0 0 [1]),
        (2, 0, .vote [0] [] [1] 1 1 true 0), (3, cm 0x400, .signal 0 6), (4, 0, .announce 1 64 1), (5, 0, .lost 1 0), (6, 0, .nak 0x0D06 0)],
      let s := member 5
      let f := frameOf x.1 x.2.1 x.2.2
      let u := ((s.setConn { s.conn 0 1 with rxNext := 1 }).addFld (brmPage 0) Fld.BRM_RX_FRAMES 1)
      let v := (u.takeAck 0 f).setConn { (u.takeAck 0 f).conn 0 1 with owed := ((u.takeAck 0 f).conn 0 1).owed + frameCost f }
      let u' := u.modBrim (fun x => { x with lost := [1] })
      f.epoch = (u.takeAck 0 f).epochNo ∧ f.epoch = ((u.takeNak 0 f 0x0D06 0).takeAck 0 f).epochNo ∧
      (u.takeAck 0 f).brim.lost.contains f.src = false ∧ ((u.takeNak 0 f 0x0D06 0).takeAck 0 f).brim.lost.contains f.src = false ∧
      (u'.takeAck 0 f).brim.lost.contains f.src = true ∧ f.epoch = (u'.takeAck 0 f).epochNo ∧
      (u.takeAck 0 f).sleepsOn? f = none ∧
      ((x.1 = 3 ∨ x.2.2 = .put [9] ∧ x.2.1 = cm 0x400) →
        ((u.takeAck 0 f).setFld (partPage 0) Fld.PART_PWR_STATE 2).sleepsOn? f = some 0) ∧
      (x.2.2 = .put [9] → x.2.1 = cm 0x400 → v.inbound 7 x.2.1 1 = some (0, cm 0x400)) ∧
      (x.2.1 = cm 0x440 → v.inbound 7 x.2.1 1 = none) ∧ (x.2.1 = cm 0x43F → v.inbound 7 x.2.1 2 = none) ∧
      (x.1 = 3 → x.2.1 % 8 = 0 ∧ v.inbound 7 x.2.1 8 = some (0, cm 0x400) ∧ (v.applySignal (v.keyOf 0 (cm 0x400)) 0 6).isSome = true)) ∧
    (∀ k ∈ [0, 15], let s := waitingConn k
      let c := s.conn 0 1
      c.unacked ≠ [] ∧ c.failed = false ∧ 5 ≤ s.portState 0 ∧ c.timeouts = k) := by
  decide +kernel

/-- A collective on the one node of its communicator, at 0x600 of cluster memory 0: COUNT bytes or elements from 0x400 to 0x500. -/
def alone (op : Nat) (ph : Phase) : InFlight :=
  inFlight op (leBytes 8 (cm 0x400) ++ leBytes 8 (cm 0x500) ++ leBytes 8 4 ++ leBytes 8 (cm 0x600) ++ leBytes 8 1 ++ leBytes 24 0) ph

/-- Such a command in flight; its communicator names a node, and this package is a member or none. -/
def aloneIn (c : InFlight) (node : Nat) (members : Nat) : State :=
  { withCmd c with brim := { (withCmd c).brim with members := members }
                   mem := words [(cmk 0x400, 5), (cmk 0x408, 6), (cmk 0x600, 1), (cmk 0x608, 0), (cmk 0x610, node)] }

theorem dst_ok (op : Nat) (h : op ∈ [0x60, 0x61, 0x62, 0x63, 0x64]) (bs : List Byte)
    (hb : bs.length = (collBytes op (collDesc (alone op .waiting).ext) 0 1).2) :
    ((((aloneIn (alone op .waiting) 0 1).atBegin (alone op .waiting)).wrDev (some 0) (cm 0x500) bs)).2.2 = 0 := by
  apply wrDev_ok
  have k : ∀ op ∈ [0x60, 0x61, 0x62, 0x63, 0x64], ∀ i < (collBytes op (collDesc (alone op .waiting).ext) 0 1).2,
      ((((aloneIn (alone op .waiting) 0 1).atBegin (alone op .waiting)).xlate (some 0) (cm 0x500 + i)).isOk) = true := by
    decide +kernel
  rw [hb]; exact k op h

theorem witness_Collectives_alone : ∀ op ∈ [0x60, 0x61, 0x62, 0x63, 0x64], let c := alone op .waiting
    let s := aloneIn c 0 1
    let u := s.atBegin c
    let d := collDesc c.ext
    s.ready op 0 0 c ∧ collNodes u c = [s.ownNode] ∧ s.brim.lost.contains s.ownNode = false ∧ s.brim.members.testBit s.ownNode = true ∧
    d.root = 0 ∧ d.nf = 0 ∧ d.dst = cm 0x500 ∧ c.part = 0 ∧ codeOf (u.rdDev (some c.part) d.src (collBytes op d 0 1).1) = 0 ∧
    (∀ k ∈ s.brim.colls, ¬(k.job = s.job c.part ∧ k.epoch = d.epoch ∧ k.id = d.id)) := by
  unfold State.ready State.flows; decide +kernel

theorem witness_Collectives_nodes : ∀ op ∈ [0x60, 0x61, 0x62, 0x63, 0x64, 0x66], let c := alone op .waiting
    let s := aloneIn c 0 0
    let ns := collNodes (s.atBegin c) c
    let v := ns.foldl (fun s n => if s.unreachable n then s.loseNode n else s) (s.atBegin c)
    s.ready op 0 0 c ∧ (∃ n ∈ ns, v.brim.lost.contains n = true ∨ v.brim.members.testBit n = false) := by
  unfold State.ready State.flows; decide +kernel

/-- A PUT of 4 bytes to this package itself. -/
def putSelf (ph : Phase) (unacked : Nat) : InFlight :=
  { inFlight 0x65 (leBytes 8 (cm 0x400) ++ leBytes 8 (cm 0x420) ++ leBytes 8 4 ++ leBytes 8 0 ++ leBytes 8 1 ++ leBytes 24 0) ph with
    unacked := unacked }

/-- In flight in partition 0, of job 7 with an inbound window on what it writes. -/
def putState (c : InFlight) : State :=
  let s := ((aloneIn c 0 1).modShape (fun u => { u with live := u.live.setFld (partPage 0) Fld.PART_BRIM_JOB 7 }))
  s.modCtx 0 0 (fun x => { x with windows := [⟨cm 0x400, 64, false, none⟩] })

theorem witness_Collectives_put : (let c := putSelf .waiting 0
     let s := putState c
     let u := s.atBegin c
     let d := collDesc c.ext
     s.ready 0x65 0 0 c ∧ d.comm = s.ownNode ∧ s.brim.lost.contains d.comm = false ∧ s.brim.members.testBit d.comm = true ∧
     reads (u.rdDev (some c.part) d.src d.count) [5, 0, 0, 0] = true ∧ u.inbound (u.job c.part) d.dst 4 = some (0, cm 0x420)) ∧
    (∀ n ∈ [0, 1], (putState (putSelf .started n)).working 0x65 0 0 (putSelf .started n)) ∧
    (∀ l ∈ [[], [7]], let c := { alone 0x66 .started with prog := l }
     let s := putState c
     s.working 0x66 0 0 c ∧ (s.observe.wrDev (some c.part) (collDesc c.ext).dst (leBytes 8 7)).2.2 = 0) := by
  unfold State.ready State.working State.flows; decide +kernel

end Sys2Proof.Tests
end

section
/-! Who may edit the Shape (R28): the IDs of Table 2.10, what each Shape write does that is let in, and SHP_LOCK. -/
namespace Sys2Proof.Machine

open Sys2Proof

/-! ### The commands of the Shape unit -/

theorem exec_shpLockWrite (who : Requester) (v : Word64) (s : State) :
    exec (.shpLockWrite who v) s = .next (shpLockWrite s who v).observe := rfl

theorem exec_shFieldWrite (who : Requester) (off : Nat) (w : Width) (v : Word64) (s : State) :
    exec (.shFieldWrite who off w v) s = .next (shFieldWrite s who off w v).observe := rfl

/-- COMMIT, REVERT, DISCARD and PIN are writes of SHP_CTRL (Table 2.11). -/
theorem exec_shpCtrl {who : Requester} {v : Word64} {ov : List (Nat × Nat × Bool)} {i : Instr}
    (hi : i ∈ [Instr.shapeCommit who ⟨v, ov⟩, .shapeRevert who v, .shapeDiscard who v, .shapePin who v]) (s : State) :
    ∃ c l, exec i s = .next (shpCtrlWrite s who c l).observe := by
  simp only [List.mem_cons, List.not_mem_nil, or_false] at hi
  obtain rfl | rfl | rfl | rfl := hi
  · exact ⟨v ||| 1, some ov, rfl⟩
  · exact ⟨v ||| 2, none, rfl⟩
  · exact ⟨v ||| 8, none, rfl⟩
  · exact ⟨v ||| 4, none, rfl⟩

/-! ### Requester IDs -/

theorem requesterId_eq_zero {who : Requester} (h : who ∉ [Requester.pf 0, .pf 1, .crown 0, .crown 1, .hsc]) :
    requesterId who = 0 := by
  unfold requesterId
  split
  case h_6 => rfl
  all_goals exact absurd (by simp) h

/-! ### SHP_LOCK -/

/-- The refusal of the Shape unit that names SHP_LOCK.HOLDER. -/
theorem shapeCode_holder (s : State) : s.shapeCode 0x0208 Fld.SHP_LOCK_HOLDER.off 0 =
    (s.setFld shpPage Fld.SHP_STATUS_LAST_RESULT 0x0208).refuseF shpPage 0x0208 Fld.SHP_LOCK_HOLDER := rfl

section
variable {s : State} {who : Requester} {v : Word64} (h : s.letsIn who shpPage)
include h

theorem shpLockWrite_claim (hid : requesterId who ≠ 0) (h0 : s.fld shpPage Fld.SHP_LOCK_HOLDER = 0)
    (hv : getBits v 15 0 = requesterId who) :
    shpLockWrite s who v = s.setFld shpPage Fld.SHP_LOCK_HOLDER (requesterId who) := by
  simp [shpLockWrite, letIn_letsIn h, hid, h0, hv]

theorem shpLockWrite_release (hid : requesterId who ≠ 0) (hh : s.fld shpPage Fld.SHP_LOCK_HOLDER = requesterId who)
    (hv : getBits v 15 0 = 0) : shpLockWrite s who v = s.setFld shpPage Fld.SHP_LOCK_HOLDER 0 := by
  simp [shpLockWrite, letIn_letsIn h, hid, hh, hv]

/-- A value other than 0 is a claim; it is refused unless the lock is free and the value is the writer's own ID. -/
theorem shpLockWrite_claim_refused (hv : getBits v 15 0 ≠ 0)
    (hc : requesterId who = 0 ∨ s.fld shpPage Fld.SHP_LOCK_HOLDER ≠ 0 ∨ getBits v 15 0 ≠ requesterId who) :
    shpLockWrite s who v = s.shapeCode 0x0208 Fld.SHP_LOCK_HOLDER.off 0 := by
  rw [shpLockWrite, letIn_letsIn h]
  by_cases hid : requesterId who = 0
  · simp [hid]
  · have hclaim : ¬(s.fld shpPage Fld.SHP_LOCK_HOLDER = 0 ∧ getBits v 15 0 = requesterId who) := fun ⟨h0, hx⟩ =>
      hc.elim hid (fun hne => hne.elim (absurd h0) (absurd hx))
    simp [hid, hclaim, hv]

/-- The value 0 is a release; it is refused while another requester holds the lock. -/
theorem shpLockWrite_release_refused (hv : getBits v 15 0 = 0) (h0 : s.fld shpPage Fld.SHP_LOCK_HOLDER ≠ 0)
    (hh : s.fld shpPage Fld.SHP_LOCK_HOLDER ≠ requesterId who) :
    shpLockWrite s who v = s.shapeCode 0x0208 Fld.SHP_LOCK_HOLDER.off 0 := by
  simp [shpLockWrite, letIn_letsIn h, hv, h0, hh]

/-! ### SHP_CTRL and SH writes -/

/-- The lock is judged before every other rule of a SHP_CTRL write (log 10), and LAST_OP stays (log 54). -/
theorem shpCtrlWrite_not_holder (hh : requesterId who = 0 ∨ s.fld shpPage Fld.SHP_LOCK_HOLDER ≠ requesterId who)
    (ov : Option (List (Nat × Nat × Bool))) :
    shpCtrlWrite s who v ov = s.shapeCode 0x0208 Fld.SHP_CTRL_COMMIT.off 0 := by
  have hr : s.ctrlRefusal? who v = some 0x0208 := if_pos hh
  simp [shpCtrlWrite, letIn_letsIn h, hr]

end

section
variable {s : State} {who : Requester} {off : Nat} {row : RegRow} (h : s.letsIn who (pgBase off))
  (hrow : regRow? (pgClass off) (pgOff off) = some row) (hsh : shFields row ≠ [])
include h hrow hsh

theorem shFieldWrite_confined (hc : confined who = true) (w : Width) (v : Word64) :
    shFieldWrite s who off w v = s.ignoredWrite who := by
  simp [shFieldWrite, letIn_letsIn h, hrow, hsh, hc]

theorem shFieldWrite_not_holder (hc : confined who = false)
    (hh : requesterId who = 0 ∨ s.fld shpPage Fld.SHP_LOCK_HOLDER ≠ requesterId who) (w : Width) (v : Word64) :
    shFieldWrite s who off w v = s.shapeCode 0x0208 Fld.SHP_LOCK_HOLDER.off 0 := by
  simp [shFieldWrite, letIn_letsIn h, hrow, hsh, hc, hh]

end

/-- Settles O10: what each of the Shape unit's writes does is a lemma above, case by case. -/
theorem shapeLock : Obligations.ShapeLock := by
  refine ⟨⟨rfl, rfl, rfl, rfl, rfl, fun _ => requesterId_eq_zero⟩, fun who v s => ⟨fun h => ⟨?_, ?_, ?_, ?_, ?_⟩, ?_⟩⟩
  case refine_1 =>
    intro hid h0 hv
    rw [exec_shpLockWrite, shpLockWrite_claim h hid h0 hv]
  case refine_2 =>
    intro hid hh hv
    rw [exec_shpLockWrite, shpLockWrite_release h hid hh hv]
  case refine_3 =>
    intro hv hc
    rw [exec_shpLockWrite, shpLockWrite_claim_refused h hv hc, shapeCode_holder]
  case refine_4 =>
    intro hv h0 hh
    rw [exec_shpLockWrite, shpLockWrite_release_refused h hv h0 hh, shapeCode_holder]
  case refine_5 =>
    intro hh ov i hi
    obtain ⟨c, l, e⟩ := exec_shpCtrl hi s
    rw [e, shpCtrlWrite_not_holder h hh, State.shapeCode]
  case refine_6 =>
    intro off w row h hrow hsh
    refine ⟨fun hc => ?_, fun hc hh => ?_⟩
    · rw [exec_shFieldWrite, shFieldWrite_confined h hrow hsh hc]
    · rw [exec_shFieldWrite, shFieldWrite_not_holder h hrow hsh hc hh, shapeCode_holder]

end Sys2Proof.Machine
end

section
/-! WAIT_STROKE (R60): the units it runs on, when a not-before is met (R58), and a command that may not start. -/
namespace Sys2Proof.Machine

open Sys2Proof

/-! ### When a command may start -/

theorem pgClass_page {cls i : Nat} (hc : cls < 16) (hi : i < 2 ^ 12) : pgClass (page cls i) = cls := by
  simp only [pgClass, page]; omega

/-- A not-before that is set holds its command back exactly while the counter is below its effective stroke and has not run out (R58). -/
theorem notBeforeMet_eq_false_iff {s : State} {c : InFlight} : s.notBeforeMet c = false ↔
    c.cmd.notBefore ≠ 0 ∧ s.strokeNo < c.cmd.notBefore + s.slipOf c ∧ s.strokeNo < 2 ^ 48 := by
  simp [State.notBeforeMet, and_assoc]

theorem notBeforeMet_of_reached {s : State} {c : InFlight} (h : c.cmd.notBefore + s.slipOf c ≤ s.strokeNo) :
    s.notBeforeMet c = true := by
  simp [State.notBeforeMet, h]

theorem startable_iff {s : State} {c : InFlight} : s.startable c = true ↔
    c.phase = .waiting ∧ c.saved = false ∧ c.met0 = true ∧ c.met1 = true ∧ s.notBeforeMet c = true ∧ s.fenced c = false ∧
      s.priorPending c = false ∧ (s.ctx c.part c.ctx).st = .resident ∧ s.partAsleep c.part = false ∧ s.engineRoom c = true := by
  simp [State.startable, and_assoc]

/-- A command that may not start yet leaves no more than the observation (R83, R88). -/
theorem runCmd_not_startable {s : State} {op r q : Nat} {c : InFlight} (h : s.observe.cmdAt? r q = some c)
    (hs : s.observe.startable c = false) (f : State → InFlight → State) : s.runCmd op r q f = s.observe := by
  simp [State.runCmd, h, hs]

/-- What stands at a ring position once the command processors have observed stood there before, with the same command. -/
theorem cmdAt?_of_observe {s : State} {r q : Nat} {c : InFlight} (h : s.observe.cmdAt? r q = some c) :
    ∃ d, s.cmdAt? r q = some d ∧ d.cmd = c.cmd := by
  obtain ⟨f, hmap, hf⟩ := observe_cmds s
  rw [State.cmdAt?, hmap, find?_map_same _ _ _ _ (fun d => by rw [hf d]; exact ⟨rfl, rfl⟩)] at h
  obtain ⟨d, hd, rfl⟩ := Option.map_eq_some_iff.mp h
  exact ⟨d, hd, by rw [hf d]⟩

/-! ### WAIT_STROKE -/

theorem exec_waitStroke (r q : Nat) (s : State) : exec (.waitStroke r q) s = .next (waitStrokeCmd s r q).observe := rfl

/-- A WAIT_STROKE runs on its command processor's cluster alone (R60). -/
theorem cmdPages_waitStroke {c : InFlight} (hop : c.cmd.op = 2) (s : State) : s.cmdPages c = [page 6 c.ccp] := by
  simp [State.cmdPages, hop]

/-- A WAIT_STROKE occupies no engine (R60). -/
theorem cmdEngines_waitStroke {c : InFlight} (hop : c.cmd.op = 2) (s : State) : s.cmdEngines c = [] := by
  simp [State.cmdEngines, cmdPages_waitStroke hop, hop]

/-- With no engine and no Fuller to find room on, a WAIT_STROKE needs only that its cluster and its partition's page take work. -/
theorem engineRoom_waitStroke {c : InFlight} (hop : c.cmd.op = 2) (hccp : c.ccp < 128) {s : State}
    (hreset : s.shape.engineResets.contains (page 6 c.ccp) = false) (hstop : s.shape.stopped.contains (page 6 c.ccp) = false)
    (hpart : s.shape.stopped.contains (partPage c.part) = false) : s.engineRoom c = true := by
  have hcls : pgClass (page 6 c.ccp) = 6 := pgClass_page (by decide) (by omega)
  simp only [State.engineRoom, cmdEngines_waitStroke hop, cmdPages_waitStroke hop, State.takesWork, List.all_cons, List.all_nil,
    hreset, hstop, hpart, hcls]
  rfl

/-- A WAIT_STROKE without BARRIER is a command that ends with its start. -/
theorem waitStrokeCmd_no_barrier {s : State} {r q : Nat} {c : InFlight} (h : s.observe.cmdAt? r q = some c)
    (hb : c.cmd.opFlags % 2 = 0) : waitStrokeCmd s r q = s.runCmd 2 r q (fun s _ => s.endCmd r q 0 0) := by
  obtain ⟨d, hd, hcmd⟩ := cmdAt?_of_observe h
  simp [waitStrokeCmd, hd, hcmd, hb]

/-- A WAIT_STROKE held back by its target leaves no more than the observation, whatever else it waits for. -/
theorem exec_waitStroke_below {s : State} {r q : Nat} {c : InFlight} (h : s.observe.cmdAt? r q = some c)
    (hb : c.cmd.opFlags % 2 = 0) (hn : s.observe.notBeforeMet c = false) : exec (.waitStroke r q) s = .next s.observe.observe := by
  have hs : s.observe.startable c = false := by simp [State.startable, hn]
  rw [exec_waitStroke, waitStrokeCmd_no_barrier h hb, runCmd_not_startable h hs]

/-- A WAIT_STROKE without BARRIER that may start ends with status 0. -/
theorem exec_waitStroke_ready {s : State} {r q : Nat} {c : InFlight} (h : s.ready 2 r q c) (hb : c.cmd.opFlags % 2 = 0) :
    exec (.waitStroke r q) s = .next ((s.atStart c).endCmd r q 0 0).observe := by
  rw [exec_waitStroke, waitStrokeCmd_no_barrier h.1 hb, runCmd_ready h]

/-- Settles O20: below N_eff the not-before holds the command back; from N_eff on it is ready, since it needs no engine. -/
theorem waitStroke : Obligations.WaitStroke := by
  intro r q c s u effective hat hop hb hccp
  refine ⟨cmdPages_waitStroke hop u, fun hphase hsaved hmet0 hmet1 hfence hprior hctx hawake hreset => ⟨?below, ?reached⟩⟩
  case below =>
    intro hset hlt hlast
    exact exec_waitStroke_below hat hb (notBeforeMet_eq_false_iff.mpr ⟨hset, hlt, hlast⟩)
  case reached =>
    intro hle hstop hpart hflow
    have hroom : u.engineRoom c = true := engineRoom_waitStroke hop hccp hreset hstop hpart
    have hstart : u.startable c = true :=
      startable_iff.mpr ⟨hphase, hsaved, hmet0, hmet1, notBeforeMet_of_reached hle, hfence, hprior, hctx, hawake, hroom⟩
    exact exec_waitStroke_ready ⟨hat, hop, hstart, hflow⟩ hb

end Sys2Proof.Machine
end

section
/-! Number formats (R98, R99, R101): what an encoding decodes to, what a decoded value encodes to, and blocks that are marked NaN. -/
namespace Sys2Proof.Machine

open Sys2Proof

/-! ### The fields of an encoding -/

/-- The exponent field of an encoding (R98). -/
def Kind.expField (k : Kind) (raw : Nat) : Nat := raw / 2 ^ k.fb % 2 ^ k.eb

/-- The fraction field of an encoding (R98). -/
def Kind.fracField (k : Kind) (raw : Nat) : Nat := raw % 2 ^ k.fb

/-- The sign bit of an encoding, in place. -/
def Kind.signBit (k : Kind) (neg : Bool) : Nat := if neg then 2 ^ (k.eb + k.fb) else 0

theorem Kind.fracField_lt (k : Kind) (raw : Nat) : k.fracField raw < 2 ^ k.fb := Nat.mod_lt _ (Nat.two_pow_pos _)

theorem Kind.signBit_testBit (k : Kind) {raw : Nat} (hr : raw < 2 ^ (1 + k.eb + k.fb)) :
    k.signBit (raw.testBit (k.eb + k.fb)) = 2 ^ (k.eb + k.fb) * (raw / 2 ^ (k.eb + k.fb)) := by
  have hlt : raw / 2 ^ (k.eb + k.fb) < 2 := by
    apply Nat.div_lt_of_lt_mul
    rwa [← Nat.pow_succ, Nat.succ_eq_one_add, ← Nat.add_assoc]
  rw [Kind.signBit, Nat.testBit_eq_decide_div_mod_eq, Nat.mod_eq_of_lt hlt]
  obtain h | h := Nat.le_one_iff_eq_zero_or_eq_one.mp (Nat.le_of_lt_succ hlt)
  · rw [h, if_neg (by decide), Nat.mul_zero]
  · rw [h, if_pos (by decide), Nat.mul_one]

/-- An encoding is its three fields, side by side. -/
theorem Kind.fields_eq (k : Kind) {raw : Nat} (hr : raw < 2 ^ (1 + k.eb + k.fb)) :
    k.signBit (raw.testBit (k.eb + k.fb)) + k.expField raw * 2 ^ k.fb + k.fracField raw = raw := by
  have hsign : k.signBit (raw.testBit (k.eb + k.fb)) = 2 ^ k.eb * (raw / 2 ^ k.fb / 2 ^ k.eb) * 2 ^ k.fb := by
    rw [k.signBit_testBit hr, Nat.div_div_eq_div_mul, Nat.pow_add, Nat.mul_right_comm, Nat.mul_comm (2 ^ k.fb)]
  calc k.signBit (raw.testBit (k.eb + k.fb)) + k.expField raw * 2 ^ k.fb + k.fracField raw
      = (2 ^ k.eb * (raw / 2 ^ k.fb / 2 ^ k.eb) + raw / 2 ^ k.fb % 2 ^ k.eb) * 2 ^ k.fb + raw % 2 ^ k.fb := by
        rw [hsign, ← Nat.add_mul, Kind.expField, Kind.fracField]
    _ = raw := by rw [Nat.div_add_mod, Nat.div_add_mod']

/-! ### Decoding (R98) -/

/-- A floating-point encoding is read by its fields. MW40 alone has 31 fraction bits (R104). -/
theorem Kind.decode_fields (k : Kind) (hk : k.int8 = false) (hf : k.fb ≠ 31) (raw : Nat) :
    let neg := raw.testBit (k.eb + k.fb)
    k.decode raw =
      if k.ieee && k.expField raw == 2 ^ k.eb - 1 then (if k.fracField raw = 0 then .inf neg else .nan)
      else if k.e4m3 && k.expField raw == 2 ^ k.eb - 1 && k.fracField raw == 7 then .nan
      else if k.expField raw = 0 then .fin neg (k.fracField raw) (1 - (k.bias : Int) - k.fb)
      else .fin neg (2 ^ k.fb + k.fracField raw) ((k.expField raw : Int) - k.bias - k.fb) := by
  simp only [Kind.decode, hk, Bool.false_eq_true, if_false, if_neg hf, Nat.div_one, Kind.expField, Kind.fracField] <;> rfl

/-- A floating-point encoding is a NaN, an infinity, a subnormal number or zero, or a normal number. -/
theorem Kind.decode_cases (k : Kind) (hk : k.int8 = false) (hf : k.fb ≠ 31) (raw : Nat) :
    let neg := raw.testBit (k.eb + k.fb)
    k.decode raw = .nan ∨
    (k.decode raw = .inf neg ∧ k.expField raw = 2 ^ k.eb - 1 ∧ k.fracField raw = 0) ∨
    (k.decode raw = .fin neg (k.fracField raw) (1 - (k.bias : Int) - k.fb) ∧ k.expField raw = 0) ∨
    (k.decode raw = .fin neg (2 ^ k.fb + k.fracField raw) ((k.expField raw : Int) - k.bias - k.fb) ∧ k.expField raw ≠ 0) := by
  intro neg
  rw [k.decode_fields hk hf]
  by_cases hall : (k.ieee && k.expField raw == 2 ^ k.eb - 1) = true
  · rw [if_pos hall]
    by_cases hzero : k.fracField raw = 0
    · exact .inr (.inl ⟨if_pos hzero, beq_iff_eq.mp (Bool.and_eq_true_iff.mp hall).2, hzero⟩)
    · exact .inl (if_neg hzero)
  · rw [if_neg hall]
    by_cases hnan : (k.e4m3 && k.expField raw == 2 ^ k.eb - 1 && k.fracField raw == 7) = true
    · exact .inl (if_pos hnan)
    · rw [if_neg hnan]
      by_cases he : k.expField raw = 0
      · exact .inr (.inr (.inl ⟨if_pos he, he⟩))
      · exact .inr (.inr (.inr ⟨if_neg he, he⟩))

/-! ### Encoding -/

theorem shiftFloor_zero (m : Nat) : shiftFloor m 0 = m := by simp [shiftFloor]

theorem Kind.encode_inf (k : Kind) (neg : Bool) : k.encode (.inf neg) = k.signBit neg + (2 ^ k.eb - 1) * 2 ^ k.fb := rfl

/-- A number whose mantissa stands at the exponent the format gives it: the mantissa is not shifted. -/
theorem Kind.encode_fin (k : Kind) (hk : k.int8 = false) (neg : Bool) {m : Nat} (hm : m ≠ 0) {l : Int}
    (hl : max (lead2 m (l - k.fb)) (1 - (k.bias : Int)) = l) :
    k.encode (.fin neg m (l - k.fb)) =
      if m < 2 ^ k.fb then k.signBit neg + m else k.signBit neg + (l + k.bias).toNat * 2 ^ k.fb + (m - 2 ^ k.fb) := by
  have hx : l - k.fb + k.fb - l = 0 := by omega
  simp only [Kind.encode, hk, hm, hl, hx, shiftFloor_zero, Kind.signBit, if_false, Bool.false_eq_true]

theorem Kind.encode_subnormal (k : Kind) (hk : k.int8 = false) (neg : Bool) {f : Nat} (hf : f < 2 ^ k.fb) :
    k.encode (.fin neg f (1 - (k.bias : Int) - k.fb)) = k.signBit neg + f := by
  by_cases h0 : f = 0
  · simp [Kind.encode, hk, h0, Kind.signBit]
  · have hlog : Nat.log2 f < k.fb := (Nat.log2_lt h0).mpr hf
    rw [k.encode_fin hk neg h0 (by unfold lead2; omega), if_pos hf]

theorem Kind.encode_normal (k : Kind) (hk : k.int8 = false) (neg : Bool) {f e : Nat} (hf : f < 2 ^ k.fb) (he : e ≠ 0) :
    k.encode (.fin neg (2 ^ k.fb + f) ((e : Int) - k.bias - k.fb)) = k.signBit neg + e * 2 ^ k.fb + f := by
  have hpos : 2 ^ k.fb + f ≠ 0 := by have := Nat.two_pow_pos k.fb; omega
  have hlog : Nat.log2 (2 ^ k.fb + f) = k.fb := (Nat.log2_eq_iff hpos).mpr ⟨by omega, by rw [Nat.pow_succ]; omega⟩
  rw [k.encode_fin hk neg hpos (by unfold lead2; omega), if_neg (by omega)]
  simp

/-- Decoding an encoding that is no NaN and encoding the value again gives the encoding back. -/
theorem Kind.encode_decode (k : Kind) (hk : k.int8 = false) (hf : k.fb ≠ 31) {raw : Nat} (hr : raw < 2 ^ (1 + k.eb + k.fb))
    (hn : k.decode raw ≠ .nan) : k.encode (k.decode raw) = raw := by
  have hfields := k.fields_eq hr
  obtain hnan | ⟨hd, he, h0⟩ | ⟨hd, he⟩ | ⟨hd, he⟩ := k.decode_cases hk hf raw
  · exact absurd hnan hn
  · rw [hd, k.encode_inf]
    rwa [he, h0, Nat.add_zero] at hfields
  · rw [hd, k.encode_subnormal hk _ (k.fracField_lt raw)]
    rwa [he, Nat.zero_mul] at hfields
  · rwa [hd, k.encode_normal hk _ (k.fracField_lt raw) he]

/-- The same of every encoding: a NaN of any sign and payload gives the canonical one (R99). -/
theorem Kind.encode_decode_canonical (k : Kind) (hk : k.int8 = false) (hf : k.fb ≠ 31) {raw : Nat}
    (hr : raw < 2 ^ (1 + k.eb + k.fb)) : k.encode (k.decode raw) = if k.decode raw = .nan then k.encode .nan else raw := by
  split
  · next hn => rw [hn]
  · next hn => exact k.encode_decode hk hf hr hn

/-! ### Block scales (R101) -/

theorem mxDecode_nan_scale (fmt code : Nat) : mxDecode fmt 0xFF code = (.nan, fNAN) := rfl

theorem mxDecode_of_lt (fmt code : Nat) {x : Nat} (hx : x < 255) :
    mxDecode fmt x code = widen (((kindOf fmt).decode (code % 2 ^ fmtBits fmt)).scale ((x : Int) - 127)) := by
  have hne : x ≠ 0xFF := Nat.ne_of_lt hx
  simp only [mxDecode, mxExact, if_neg hne]

theorem m8Decode_nan_scale (signed : Bool) (code : Nat) : m8Decode signed 0xFF code = (.nan, fNAN) := by simp [m8Decode]

/-! ### Blocks with a NaN or an infinity (R101) -/

/-- What one element of a list sets and every element keeps holds after a fold over the list. -/
theorem foldl_of_mem {α σ : Type} {P : σ → Prop} {f : σ → α → σ} {l : List α} {x : α} (hx : x ∈ l)
    (hset : ∀ a, P (f a x)) (hkeep : ∀ a, P a → ∀ y, P (f a y)) (a : σ) : P (l.foldl f a) := by
  obtain ⟨before, after, rfl⟩ := List.append_of_mem hx
  rw [List.foldl_append, List.foldl_cons]
  exact List.foldlRecOn after f (hset _) (fun b hb y _ => hkeep b hb y)

/-- A NaN or an infinity anywhere in a list sets a flag. -/
theorem nonFinite_ne_zero {vs : List Val} (h : ∃ v ∈ vs, v.isFin = false) : nonFinite vs ≠ 0 := by
  obtain ⟨v, hv, hfin⟩ := h
  refine foldl_of_mem (P := (· ≠ 0)) hv (fun flags => ?set) (fun flags hflags y => ?keep) 0
  case set =>
    cases v with
    | nan => simp [fNAN]
    | inf n => simp [fINV]
    | fin n m e => exact absurd hfin (by simp [Val.isFin])
  case keep => cases y <;> simp [hflags]

theorem mxEncode_nonFinite {vs : List Val} (h : nonFinite vs ≠ 0) (fmt mode : Nat) (rs : List Nat) :
    mxEncode fmt vs mode rs = (0xFF, vs.map (fun _ => 0), nonFinite vs) := if_pos h

theorem m8Encode_nonFinite {vs : List Val} (h : nonFinite vs ≠ 0) (signed : Bool) (mode : Nat) (rs : List Nat) :
    m8Encode signed vs mode rs = (0xFF, vs.map (fun _ => 0), nonFinite vs) := if_pos h

/-- Settles O60: each layout's canonical NaN is evaluated; decoding and encoding agree for every layout (`Kind.encode_decode_canonical`). -/
theorem floatCodes : Obligations.FloatCodes := by
  refine ⟨fun k nan hk => ?formats, fun fmt code _ => ⟨mxDecode_nan_scale fmt code, fun x hx => mxDecode_of_lt fmt code hx⟩,
    fun code _ => rfl, m8Decode_nan_scale, fun vs mode rs hbad => ?blocks⟩
  case formats =>
    have hlayout : k.encode .nan = nan ∧ k.int8 = false ∧ k.fb ≠ 31 := by
      simp only [List.mem_cons, Prod.mk.injEq, List.not_mem_nil, or_false] at hk
      obtain ⟨rfl, rfl⟩ | ⟨rfl, rfl⟩ | ⟨rfl, rfl⟩ | ⟨rfl, rfl⟩ | ⟨rfl, rfl⟩ | ⟨rfl, rfl⟩ := hk <;> decide
    obtain ⟨hnan, hint, hfb⟩ := hlayout
    refine ⟨hnan, fun mode r => rfl, fun raw hr => ?_⟩
    rw [k.encode_decode_canonical hint hfb hr, hnan]
  case blocks =>
    have h := nonFinite_ne_zero hbad
    refine ⟨fun fmt => ?_, fun signed => ?_⟩
    · simp [mxEncode_nonFinite h]
    · simp [m8Encode_nonFinite h]

end Sys2Proof.Machine
end

section
/-! LINK_RECOVERY (R366): a link that retrains changes registers and sends its interrupt, and nothing else. -/
namespace Sys2Proof.Machine

open Sys2Proof

/-! ### Updates that touch no more than registers and outputs -/

/-- `t` differs from `s` in registers and in outputs at most. -/
def RegsOutOnly (s t : State) : Prop := t = { s with regs := t.regs, out := t.out }

theorem RegsOutOnly.trans {s t u : State} (h : RegsOutOnly s t) (k : RegsOutOnly t u) : RegsOutOnly s u :=
  calc u = { t with regs := u.regs, out := u.out } := k
    _ = { s with regs := u.regs, out := u.out } := congrArg (fun x => { x with regs := u.regs, out := u.out }) h

theorem State.setReg_regsOutOnly (s : State) (key : Nat) (v : Word64) : RegsOutOnly s (s.setReg key v) := rfl

theorem State.emit_regsOutOnly (s : State) (o : Out) : RegsOutOnly s (s.emit o) := rfl

theorem State.addFld_regsOutOnly (s : State) (pg : Nat) (f : Fld) (k : Nat) : RegsOutOnly s (s.addFld pg f k) :=
  s.setReg_regsOutOnly _ _

/-- Raising a status bit sets it, and sends the interrupt if the bit is unmasked (R23). -/
theorem State.raise_regsOutOnly (s : State) (pg bit : Nat) : RegsOutOnly s (s.raise pg bit) := by
  have hset := s.setReg_regsOutOnly (pg + 0x30) (s.reg (pg + 0x30) ||| (1 <<< bit : Word64))
  simp only [State.raise]
  split
  · exact hset.trans (State.emit_regsOutOnly _ _)
  · exact hset

/-! ### LINK_RECOVERY -/

theorem exec_linkRecovery (h : Nat) (s : State) : exec (.linkRecovery h) s = .next (linkRecovery s h).observe := rfl

theorem linkRecovery_linked {s : State} {h : Nat} (hl : s.linked h = true) :
    linkRecovery s h = (s.addFld (hpPage h) Fld.HP_LINK_RETRAINS 1).raise (hpPage h) 18 := if_pos hl

/-- Settles O45: counting the retraining and raising bit 18 touch registers and outputs only, and take no output back. (The name `linkRecovery` is the model's.) -/
theorem linkRecovery_loses_nothing : Obligations.LinkRecovery := by
  intro h s hl t
  have hcount := s.addFld_regsOutOnly (hpPage h) Fld.HP_LINK_RETRAINS 1
  have hkeeps : Keeps s t := State.raise_keeps (State.addFld_keeps (Keeps.refl s) _ _ _) _ _
  refine ⟨?_, hcount.trans (State.raise_regsOutOnly _ _ _), hkeeps.out⟩
  rw [exec_linkRecovery, linkRecovery_linked hl]

end Sys2Proof.Machine
end

section
/-! MODEL_LOAD and MODEL_EVICT (R365, R417): when a load finds no room, when an eviction is refused, and which window entries it clears. -/
namespace Sys2Proof.Machine

open Sys2Proof

/-! ### Serving a request of the runtime channel (R364) -/

theorem exec_modelLoad (p list : Nat) (rs : List (Nat × Nat)) (s : State) :
    exec (.modelLoad p list rs) s = .next (modelLoad s p list rs).observe := rfl

theorem exec_modelEvict (p : Nat) (s : State) : exec (.modelEvict p) s = .next (modelEvict s p).observe := rfl

/-- The operation that the next request names answers it. -/
theorem rtServe_of_rtReq? {s : State} {p op : Nat} {b : List Byte} (hreq : s.rtReq? p = some b) (hop : leAt b 0 1 = op)
    (f : State → List Byte → State) : s.rtServe p op f = (f (s.rtTake p) b).rtUnknown p 4096 := by
  simp only [State.rtServe, hreq, if_pos hop]

/-! ### Room in the Resident Model Table -/

/-- With no entry EMPTY, and none RESIDENT in the partition without pins, a load has no entry to take. -/
theorem rmtPick_eq_none {s : State} {p : Nat}
    (h : ∀ i < 4096, ∀ e, s.rmt? i = some e → rmtState e ≠ 0 ∧ ¬(rmtState e = 2 ∧ rmtPart e = p ∧ rmtPins e = 0)) :
    s.rmtPick p = none := by
  unfold State.rmtPick
  split
  case h_1 i hfound =>
    have hempty := List.find?_some hfound
    have hi : i < 4096 := List.mem_range.mp (List.mem_of_find?_eq_some hfound)
    split at hempty
    · next e he => exact absurd (beq_iff_eq.mp hempty) (h i hi e he).1
    · exact absurd hempty Bool.false_ne_true
  case h_2 =>
    refine List.foldlRecOn (motive := (· = none)) _ _ rfl (fun best hbest i hi => ?_)
    split
    · exact hbest
    · next e he => rw [if_neg (h i (List.mem_range.mp hi) e he).2, hbest]

theorem modelLoad_no_room {s : State} {p : Nat} {b : List Byte} (hreq : s.rtReq? p = some b) (hop : leAt b 0 1 = 1)
    (hclean : rtClean b [(8, 8), (16, 8), (24, 8), (32, 1)] = true) (hsrc : leAt b 16 8 % 4096 = 0) (hne : leAt b 24 8 ≠ 0)
    (hmax : leAt b 24 8 ≤ 2 ^ 40) (hpin : leAt b 32 1 ≤ 1) (hfull : (s.rtTake p).rmtPick p = none)
    (list : Nat) (rs : List (Nat × Nat)) :
    modelLoad s p list rs = ((s.rtTake p).rtFail p b 0x0E0A).rtUnknown p 4096 := by
  simp [-Nat.reducePow, modelLoad, rtServe_of_rtReq? hreq hop, hclean, hsrc, hne, Nat.not_lt_of_le hmax, Nat.not_lt_of_le hpin, hfull]

/-! ### MODEL_EVICT -/

section
variable {s : State} {p : Nat} {b e : List Byte} (hreq : s.rtReq? p = some b) (hop : leAt b 0 1 = 2)
  (hclean : rtClean b [(8, 2)] = true) (hentry : (s.rtTake p).rmtOf? p (leAt b 8 2) = some e)
include hreq hop hclean hentry

theorem modelEvict_pinned (hpins : rmtPins e ≠ 0) :
    modelEvict s p = ((s.rtTake p).rtFail p b 0x0E0B).rtUnknown p 4096 := by
  simp [modelEvict, rtServe_of_rtReq? hreq hop, hclean, hentry, hpins]

theorem modelEvict_unpinned (hpins : rmtPins e = 0) :
    modelEvict s p =
      (((s.rtTake p).evictModel p (leAt b 8 2) e).rtRespond p (leAt b 2 2) 0 0 0).rtUnknown p 4096 := by
  simp [modelEvict, rtServe_of_rtReq? hreq hop, hclean, hentry, hpins]

end

/-! ### The window entries that an eviction clears -/

/-- A window entry after its partition's windows onto some regions are cleared (R417). -/
def RwtEntry.clearOnto (p : Nat) (rs : List (Nat × Nat)) (e : RwtEntry) : RwtEntry :=
  if e.part = p ∧ rs.any (fun r => rangesMeet r (e.base, e.limit * 4096)) then { e with valid := false } else e

theorem RwtEntry.clearOnto_valid (p : Nat) (rs : List (Nat × Nat)) (e : RwtEntry) :
    (e.clearOnto p rs).valid = (e.valid && !(e.part == p && rs.any (fun r => rangesMeet r (e.base, e.limit * 4096)))) := by
  unfold RwtEntry.clearOnto
  generalize rs.any _ = meets
  by_cases hpart : e.part = p
  · cases meets <;> simp [hpart]
  · simp [hpart]

/-- An entry that is not in use stays as it is. -/
theorem RwtEntry.clearOnto_empty (p q : Nat) (rs : List (Nat × Nat)) :
    (RwtEntry.empty q).clearOnto p rs = RwtEntry.empty q := by
  unfold RwtEntry.clearOnto
  split <;> rfl

theorem evictModel_rwt (s : State) (p i : Nat) (e : List Byte) :
    (s.evictModel p i e).rwt = SMap.mapVal s.rwt (fun _ w => w.clearOnto p (s.rmtRegions e)) := by
  unfold State.evictModel State.rmtWrite
  rw [wrDev_state]
  rfl

/-- An eviction clears the partition's windows onto the model's regions, entry by entry. -/
theorem evictModel_rwtEntry (s : State) (p i : Nat) (e : List Byte) (k : Nat) :
    (s.evictModel p i e).rwtEntry k = (s.rwtEntry k).clearOnto p (s.rmtRegions e) := by
  simp only [State.rwtEntry, SMap.getD, evictModel_rwt, SMap.get?_mapVal]
  cases SMap.get? s.rwt k with
  | none => exact (RwtEntry.clearOnto_empty p 0 _).symm
  | some w => rfl

/-- Settles O44: a full table leaves a load no entry to take; the pins decide an eviction, which acts on each window entry by itself. -/
theorem modelEviction : Obligations.ModelEviction := by
  intro p b s hreq u tag last
  refine ⟨fun hop list rs hclean hsrc hne hmax hpin hfull => ?load, fun hop hclean e hentry => ⟨?pinned, ?unpinned⟩⟩
  case load => rw [exec_modelLoad, modelLoad_no_room hreq hop hclean hsrc hne hmax hpin (rmtPick_eq_none hfull)]
  case pinned =>
    intro hpins
    rw [exec_modelEvict, modelEvict_pinned hreq hop hclean hentry hpins]
  case unpinned =>
    intro hpins v
    refine ⟨?_, fun i => ?_⟩
    · rw [exec_modelEvict, modelEvict_unpinned hreq hop hclean hentry hpins]
    · rw [evictModel_rwtEntry, RwtEntry.clearOnto_valid]

end Sys2Proof.Machine
end

section
/-! Corrected errors that share a SOURCE and CODE (R443): what an error leaves by its class and its window, and what the window's end leaves. -/
namespace Sys2Proof.Machine

open Sys2Proof

/-! ### Counting an error (R440) -/

theorem State.countErr_shape (s : State) (pg cls : Nat) : (s.countErr pg cls).shape = s.shape := by
  simp only [State.countErr, State.raise_shape, State.addFld_shape]

/-- Which partitions an error affected is read off the Live Shape, which counting does not touch. -/
theorem State.errParts_countErr (s : State) (e : ErrInfo) (pg cls : Nat) : (s.countErr pg cls).errParts e = s.errParts e := by
  simp only [State.errParts, State.countErr_shape]

/-- An error counted and acted on by its class, before anything is recorded. -/
def State.errCounted (s : State) (e : ErrInfo) : State :=
  ((s.errParts e).foldl (fun (s : State) p => if partPage p = srcPage e.source then s else s.countErr (partPage p) e.cls)
    (s.countErr (srcPage e.source) e.cls)).classAct e

/-! ### Recording it (R443) -/

/-- The window of an error's SOURCE and CODE. -/
def ErrInfo.inWindow (e : ErrInfo) (w : Coalesce) : Bool := w.source == e.source && w.code == e.code

/-- Later errors of a window: counted, with the details of the last (R443). -/
def ErrInfo.countIn (e : ErrInfo) (w : Coalesce) : Coalesce :=
  if e.inWindow w then { w with count := w.count + 1, d0 := e.d0, d1 := e.d1 } else w

/-- What is recorded is decided in the state in which the error is already counted. -/
theorem State.recordError_eq (s : State) (e : ErrInfo) :
    s.recordError e =
      let c := s.errCounted e
      let first := c.writeErr e 1 false
      if e.cls = 0 && c.fld crnPage Fld.CRN_ERR_CFG_COALESCE = 1 then
        if c.errs.windows.any e.inWindow then
          { c with errs := { c.errs with windows := c.errs.windows.map e.countIn } }
        else
          { first with errs := { first.errs with windows := first.errs.windows ++ [⟨e.source, e.code, 0, e.d0, e.d1⟩] } }
      else first := by
  rw [State.recordError, State.errParts_countErr]
  rfl

section
variable {s : State} {e : ErrInfo}

theorem State.recordError_opens (hcls : e.cls = 0) (hon : (s.errCounted e).fld crnPage Fld.CRN_ERR_CFG_COALESCE = 1)
    (hwin : (s.errCounted e).errs.windows.any e.inWindow = false) :
    let first := (s.errCounted e).writeErr e 1 false
    s.recordError e =
      { first with errs := { first.errs with windows := first.errs.windows ++ [⟨e.source, e.code, 0, e.d0, e.d1⟩] } } := by
  simp only [State.recordError_eq, hcls, hon, hwin, decide_true, Bool.and_self, if_true, Bool.false_eq_true, if_false]

theorem State.recordError_counts (hcls : e.cls = 0) (hon : (s.errCounted e).fld crnPage Fld.CRN_ERR_CFG_COALESCE = 1)
    (hwin : (s.errCounted e).errs.windows.any e.inWindow = true) :
    s.recordError e = { s.errCounted e with errs := { (s.errCounted e).errs with
      windows := (s.errCounted e).errs.windows.map e.countIn } } := by
  simp only [State.recordError_eq, hcls, hon, hwin, decide_true, Bool.and_self, if_true]

theorem State.recordError_alone (h : e.cls ≠ 0 ∨ (s.errCounted e).fld crnPage Fld.CRN_ERR_CFG_COALESCE = 0) :
    s.recordError e = (s.errCounted e).writeErr e 1 false := by
  have hoff : ¬(e.cls = 0 ∧ (s.errCounted e).fld crnPage Fld.CRN_ERR_CFG_COALESCE = 1) := by omega
  rw [State.recordError_eq]
  exact if_neg (by simpa using hoff)

end

/-! ### The end of a window (R443) -/

theorem exec_coalesceWindowEnd (source code : Nat) (s : State) :
    exec (.coalesceWindowEnd source code) s = .next (s.endWindow source code).observe := rfl

/-- A state without the window that an error's SOURCE and CODE had. -/
def State.closeWindow (s : State) (e : ErrInfo) : State :=
  { s with errs := { s.errs with windows := eraseFirst e.inWindow s.errs.windows } }

theorem State.endWindow_none {s : State} {e : ErrInfo} (h : s.errs.windows.find? e.inWindow = none) :
    s.endWindow e.source e.code = s := by
  unfold ErrInfo.inWindow at h
  rw [State.endWindow, h]

theorem State.endWindow_some {s : State} {e : ErrInfo} {w : Coalesce} (h : s.errs.windows.find? e.inWindow = some w) :
    s.endWindow e.source e.code = if w.count = 0 then s.closeWindow e else
      (s.closeWindow e).writeErr { source := e.source, cls := 0, code := e.code, d0 := w.d0, d1 := w.d1 } w.count true := by
  unfold ErrInfo.inWindow at h
  rw [State.endWindow, h]
  rfl

/-- Settles O56: an error opens a window, is counted in one, or is recorded alone; a window's end writes a record when any was counted. -/
theorem correctedErrorsCoalesce : Obligations.CorrectedErrorsCoalesce := by
  intro e s parts counted mine first
  refine ⟨fun hcls hon => ⟨State.recordError_opens hcls hon, State.recordError_counts hcls hon⟩, State.recordError_alone, ?none, ?some⟩
  case none =>
    intro hfind
    rw [exec_coalesceWindowEnd, State.endWindow_none hfind]
  case some =>
    intro w hfind u
    refine ⟨fun hcount => ?_, fun hcount => ?_⟩
    · rw [exec_coalesceWindowEnd, State.endWindow_some hfind, if_pos hcount]
      rfl
    · rw [exec_coalesceWindowEnd, State.endWindow_some hfind, if_neg hcount]
      rfl

end Sys2Proof.Machine
end

section
/-! Rules that several of the parts below use: commands that end, sparse maps, and what a write to device memory leaves alone. -/
namespace Sys2Proof.Machine

open Sys2Proof

/-! ### Commands that end -/

/-- `t` is `s` with the list of commands changed, and the command at a place has ended. -/
structure EndedFrom (s t : State) (r q status good : Nat) : Prop where
  ended : t.endedWith r q status good
  eq : t = { s with cmds := t.cmds }

theorem endCmd_endedFrom {s : State} {r q : Nat} {c : InFlight} (h : s.cmdAt? r q = some c) (status good : Nat) :
    EndedFrom s (s.endCmd r q status good).observe r q status good :=
  ⟨endedWith_observe (endCmd_endedWith h status good), rfl⟩

theorem observe_endCmd_endedFrom {s : State} {r q : Nat} {c : InFlight} (h : s.cmdAt? r q = some c) (status good : Nat) :
    EndedFrom s (s.observe.endCmd r q status good).observe r q status good := by
  obtain ⟨d, hd, -⟩ := cmdAt?_observe h
  exact ⟨endedWith_observe (endCmd_endedWith hd status good), rfl⟩

/-- A command's place is found in the list of commands alone. -/
theorem cmdAt?_congr {s t : State} (h : t.cmds = s.cmds) (r q : Nat) : t.cmdAt? r q = s.cmdAt? r q := by
  rw [State.cmdAt?, State.cmdAt?, h]

/-! ### Fields of a word -/

theorem getBits_or (a b : Word64) (hi lo : Nat) : getBits (a ||| b) hi lo = getBits a hi lo ||| getBits b hi lo := by
  simp only [getBits, BitVec.toNat_or, Nat.shiftRight_or_distrib, Nat.or_mod_two_pow]

theorem getBits_bit_lt (v : Word64) (i : Nat) : getBits v i i < 2 := by
  rw [getBits, Nat.add_sub_cancel_left]
  exact Nat.mod_lt _ (by decide)

/-! ### Sparse maps -/

theorem SMap.getD_put_same {α : Type} (m : SMap α) (k : Nat) (v d : α) : SMap.getD (SMap.put m k v) k d = v := by
  rw [SMap.getD, SMap.get?_put_same, Option.getD_some]

theorem SMap.getD_put_other {α : Type} (m : SMap α) {k j : Nat} (v d : α) (h : j ≠ k) :
    SMap.getD (SMap.put m k v) j d = SMap.getD m j d := by
  rw [SMap.getD, SMap.getD, SMap.get?_put_other _ _ h]

theorem SMap.get?_dropKeys {α : Type} (m : SMap α) (p : Nat → Bool) (k : Nat) :
    SMap.get? (SMap.dropKeys m p) k = if p k then none else SMap.get? m k := by
  induction m with
  | nil => simp [SMap.dropKeys, SMap.get?]
  | cons x m ih =>
    simp only [SMap.dropKeys, List.filter_cons] at ih ⊢
    by_cases hx : x.1 = k
    · subst hx
      cases hp : p x.1 <;> simp [SMap.get?, hp, ih]
    · cases hp : p x.1 <;> simp [SMap.get?, hx, ih]

/-! ### Writes to device memory -/

section
variable (s : State) (p : Option Nat) (a : Nat) (bs : List Byte)

@[simp] theorem wrDev_regs : (s.wrDev p a bs).1.regs = s.regs := by rw [wrDev_state]
@[simp] theorem wrDev_shape : (s.wrDev p a bs).1.shape = s.shape := by rw [wrDev_state]
@[simp] theorem wrDev_host : (s.wrDev p a bs).1.host = s.host := by rw [wrDev_state]
@[simp] theorem wrDev_rings : (s.wrDev p a bs).1.rings = s.rings := by rw [wrDev_state]
@[simp] theorem wrDev_cmds : (s.wrDev p a bs).1.cmds = s.cmds := by rw [wrDev_state]
@[simp] theorem wrDev_ctxs : (s.wrDev p a bs).1.ctxs = s.ctxs := by rw [wrDev_state]
@[simp] theorem wrDev_frames : (s.wrDev p a bs).1.frames = s.frames := by rw [wrDev_state]
@[simp] theorem wrDev_chans : (s.wrDev p a bs).1.chans = s.chans := by rw [wrDev_state]
@[simp] theorem wrDev_out : (s.wrDev p a bs).1.out = s.out := by rw [wrDev_state]

end

/-! ### Fields after a field's write -/

/-- A field of another register, or with no bit in common, reads as before. -/
theorem fld_setFld_other (s : State) {pg pg' : Nat} {f f' : Fld} (v : Nat)
    (h : regKey pg' f'.off ≠ regKey pg f.off ∨ (pg' = pg ∧ f'.off = f.off ∧ f.hi < 64 ∧ (f.hi < f'.lo ∨ f'.hi < f.lo))) :
    (s.setFld pg f v).fld pg' f' = s.fld pg' f' := by
  obtain h | ⟨rfl, ho, h64, hd⟩ := h
  · exact State.fld_setFld_reg s v h
  · exact State.fld_setFld_field s pg' v ho h64 hd

/-- A field reads the value written to it that it can hold. -/
theorem fld_setFld_fits (s : State) (pg : Nat) {f : Fld} {v : Nat} (h : f.lo ≤ f.hi ∧ f.hi < 64 ∧ v < 2 ^ (f.hi + 1 - f.lo)) :
    (s.setFld pg f v).fld pg f = v := by
  obtain ⟨hlo, h64, hv⟩ := h
  rw [State.fld_setFld_same _ _ _ _ hlo h64, Nat.mod_eq_of_lt hv]

/-! ### Fields after a raised bit and after a refusal -/

theorem raise_fld (s : State) (pg b pg' : Nat) (f : Fld) (h : regKey pg' f.off ≠ pg + 0x30) :
    (s.raise pg b).fld pg' f = s.fld pg' f := by
  rw [State.fld, State.fld, raise_reg _ _ _ _ h]

/-- A refusal writes BLK_REASON, BLK_STATUS and BLK_INT_STATUS of its page (R21). -/
theorem refuse_reg (s : State) (pg code off lsb k : Nat) (h18 : k ≠ pg + 0x18) (h20 : k ≠ pg + 0x20) (h30 : k ≠ pg + 0x30) :
    (s.refuse pg code off lsb).reg k = s.reg k := by
  have hstatus : k ≠ regKey pg 0x18 := by rwa [regKey, if_neg (by omega)]
  have hreason : k ≠ regKey pg 0x20 := by rwa [regKey, if_neg (by omega)]
  rw [State.refuse, raise_reg _ _ _ _ h30, setFld_reg _ _ _ _ _ hstatus, setFld_reg _ _ _ _ _ hreason, setFld_reg _ _ _ _ _ hreason,
    setFld_reg _ _ _ _ _ hreason]

theorem refuse_fld (s : State) (pg code off lsb pg' : Nat) (f : Fld) (h18 : regKey pg' f.off ≠ pg + 0x18)
    (h20 : regKey pg' f.off ≠ pg + 0x20) (h30 : regKey pg' f.off ≠ pg + 0x30) :
    (s.refuse pg code off lsb).fld pg' f = s.fld pg' f := by
  rw [State.fld, State.fld, refuse_reg _ _ _ _ _ _ h18 h20 h30]

theorem State.refuse_regsOutOnly (s : State) (pg code off lsb : Nat) : RegsOutOnly s (s.refuse pg code off lsb) :=
  ((((s.setReg_regsOutOnly _ _).trans (State.setReg_regsOutOnly _ _ _)).trans (State.setReg_regsOutOnly _ _ _)).trans
    (State.setReg_regsOutOnly _ _ _)).trans (State.raise_regsOutOnly _ _ _)

/-! ### What recording an error touches (R440 to R443) -/

/-- A register that recording an error may change: an error summary, an interrupt status, or one of the Crowns' set. -/
def ErrKey (k : Nat) : Prop := pgOff k = 0x28 ∨ pgOff k = 0x30 ∨ pgClass k = 0

/-- `t` differs from `s` in the registers of errors, in the error ring, in the pins and in outputs at most. -/
structure ErrOnly (s t : State) : Prop where
  eq : t = { s with regs := t.regs, errs := t.errs, pins := t.pins, out := t.out }
  regs : ∀ k, ¬ErrKey k → t.reg k = s.reg k

theorem ErrOnly.refl (s : State) : ErrOnly s s := ⟨rfl, fun _ _ => rfl⟩

theorem ErrOnly.trans {s t u : State} (h : ErrOnly s t) (h' : ErrOnly t u) : ErrOnly s u where
  eq := calc u = { t with regs := u.regs, errs := u.errs, pins := u.pins, out := u.out } := h'.eq
    _ = { s with regs := u.regs, errs := u.errs, pins := u.pins, out := u.out } :=
      congrArg (fun x => { x with regs := u.regs, errs := u.errs, pins := u.pins, out := u.out }) h.eq
  regs := fun k hk => (h'.regs k hk).trans (h.regs k hk)

theorem ErrOnly.ite {s t u : State} {c : Prop} [Decidable c] (h : ErrOnly s t) (h' : ErrOnly s u) : ErrOnly s (if c then t else u) := by
  split
  · exact h
  · exact h'

theorem ErrOnly.setReg (s : State) {k : Nat} (hk : ErrKey k) (v : Word64) : ErrOnly s (s.setReg k v) :=
  ⟨rfl, fun _ hj => State.reg_setReg_other _ _ (fun e => hj (e ▸ hk))⟩

theorem ErrOnly.setFld (s : State) {pg : Nat} {f : Fld} (hk : ErrKey (regKey pg f.off)) (v : Nat) : ErrOnly s (s.setFld pg f v) :=
  .setReg s hk _

theorem ErrOnly.raise (s : State) {pg : Nat} (hk : ErrKey (pg + 0x30)) (b : Nat) : ErrOnly s (s.raise pg b) where
  eq := by
    rw [State.raise_errs, State.raise_pins]
    exact s.raise_regsOutOnly pg b
  regs := fun _ hj => raise_reg _ _ _ _ (fun e => hj (e ▸ hk))

theorem ErrOnly.emit (s : State) (o : Out) : ErrOnly s (s.emit o) := ⟨rfl, fun _ _ => rfl⟩

theorem ErrOnly.foldl {α : Type} {s t : State} (h : ErrOnly s t) (l : List α) (f : State → α → State) (hf : ∀ u a, ErrOnly u (f u a)) :
    ErrOnly s (l.foldl f t) :=
  List.foldlRecOn l f h (fun u hu a _ => hu.trans (hf u a))

/-- Registers of the Crowns' page stand at their offsets, in class 0. -/
theorem errKey_crn {off : Nat} (h : off < 4096) : ErrKey (regKey crnPage off) := by
  have hkey : regKey crnPage off = off := by
    unfold regKey
    split
    · rfl
    · simp [crnPage, page]
  exact .inr (.inr (by rw [hkey, pgClass]; omega))

/-- Counting an error writes its page's summary and raises its page's bit 2 (R440). -/
theorem State.countErr_errOnly (s : State) (cls i k : Nat) : ErrOnly s (s.countErr (page cls i) k) := by
  have hsum : ∀ f : Fld, f.off = 0x28 → ErrKey (regKey (page cls i) f.off) := fun f hf => by
    rw [hf, regKey, if_neg (by omega)]
    exact .inl (by simp only [pgOff, page]; omega)
  have hint : ErrKey (page cls i + 0x30) := .inr (.inl (by simp only [pgOff, page]; omega))
  refine ErrOnly.trans (ErrOnly.setFld s (hsum _ ?_) _) (.raise _ hint 2)
  split <;> rfl

/-- Writing a record moves the error ring and the Crowns' registers, and is sent out (R441, R442). -/
theorem State.writeErr_errOnly (s : State) (e : ErrInfo) (count : Nat) (coalesced : Bool) : ErrOnly s (s.writeErr e count coalesced) := by
  have hcrn : ∀ f : Fld, f.off < 4096 → ErrKey (regKey crnPage f.off) := fun f hf => errKey_crn hf
  have hint : ErrKey (crnPage + 0x30) := errKey_crn (off := 0x30) (by decide)
  unfold State.writeErr
  extract_lets tail full ti fatal flags bytes alerts x er s1 s2 s3 s4 s5
  have h1 : ErrOnly s s1 := ⟨rfl, fun _ _ => rfl⟩
  have h2 : ErrOnly s s2 := h1.trans (.setFld _ (hcrn _ (by decide)) _)
  have h3 : ErrOnly s s3 := .ite
    (h2.trans (((ErrOnly.setFld _ (hcrn _ (by decide)) _).trans (.setFld _ (hcrn _ (by decide)) _)).trans (.raise _ hint 22))) h2
  have h4 : ErrOnly s s4 := h3.trans (.raise _ hint 21)
  have h5 : ErrOnly s s5 := .ite (h4.foldl _ _ (fun u h => .ite (.emit u _) (.refl u))) h4
  exact (h5.trans (.emit _ _)).trans ⟨rfl, fun _ _ => rfl⟩

/-- An error that is no more than contained stops nothing: recording it touches registers, the error ring, pins and outputs. -/
theorem State.recordError_errOnly (s : State) {e : ErrInfo} (hcls : e.cls ≤ 1) : ErrOnly s (s.recordError e) := by
  have hcount : ErrOnly s (s.errCounted e) := by
    have hact : ∀ t : State, t.classAct e = t := fun t => by
      rw [State.classAct, if_neg (by omega), if_neg (by omega)]
    rw [State.errCounted, hact]
    exact (s.countErr_errOnly _ _ _).foldl _ _ (fun u p => .ite (.refl u) (u.countErr_errOnly _ _ _))
  have hwrite := hcount.trans (State.writeErr_errOnly _ e 1 false)
  rw [State.recordError_eq]
  dsimp only
  split
  · split
    · exact hcount.trans ⟨rfl, fun _ _ => rfl⟩
    · exact hwrite.trans ⟨rfl, fun _ _ => rfl⟩
  · exact hwrite

/-- The registers of a page outside class 0 stand at their offsets from it. -/
theorem regKey_page {c i : Nat} (hc : 0 < c ∧ c < 16) (hi : i < 4096) (off : Nat) : regKey (page c i) off = page c i + off := by
  have hcls : pgClass (page c i) = c := by
    simp only [pgClass, page]
    omega
  rw [regKey, hcls, if_neg (by omega)]

/-! ### What decides where a device address lands (R305 to R309) -/

theorem setOf?_index {s : State} {a t : Nat} (h : s.setOf? a = some t) : t < 16 ∨ 32 ≤ t ∧ t ≤ 64 := by
  unfold State.setOf? at h
  split at h
  · next ha =>
    obtain rfl := Option.some.inj h
    have hd : a / dieWindow < 16 := Nat.div_lt_of_lt_mul (by rwa [Nat.mul_comm])
    have hhalf : a % dieWindow / 0x2000000000 < 2 := Nat.div_lt_of_lt_mul (Nat.mod_lt _ (by decide))
    split <;> omega
  · split at h
    · obtain rfl := Option.some.inj h
      exact .inr (by decide)
    · cases h

theorem setLive_lt {s : State} {t c : Nat} (ht : t < 16 ∨ 32 ≤ t ∧ t ≤ 64) (h : c ∈ s.setLive t) : c < 1024 := by
  have hc := (List.mem_filter.mp h).1
  unfold setChannels at hc
  split at hc
  · obtain ⟨i, hi, rfl⟩ := List.mem_map.mp hc
    have := List.mem_range.mp hi
    omega
  · split at hc
    · obtain ⟨i, hi, rfl⟩ := List.mem_map.mp hc
      have := List.mem_range.mp hi
      omega
    · exact List.mem_range.mp hc

theorem place?_lt {s : State} {t o ch l : Nat} (ht : t < 16 ∨ 32 ≤ t ∧ t ≤ 64) (h : s.place? t o = some (ch, l)) : ch < 1024 := by
  unfold State.place? at h
  extract_lets live n nl unitBytes u fr gr g r oo j0 j q b c pos base at h
  split at h
  · cases h
  · obtain ⟨c', hc', he⟩ := Option.map_eq_some_iff.mp h
    obtain rfl := (Prod.mk.inj he).1
    exact setLive_lt ht (List.mem_of_getElem? hc')

/-- The Shape, the trim map, the frames and the states of the channels and stacks decide where a device address lands, and its code. -/
theorem xlate_congr {s t : State} (hshape : t.shape = s.shape) (htrim : t.trim = s.trim) (hframes : t.frames = s.frames)
    (hout : t.pkgOuts = s.pkgOuts)
    (hmc : ∀ c < 1024, t.fld (page 8 c) Fld.MC_STATUS_STATE = s.fld (page 8 c) Fld.MC_STATUS_STATE)
    (hstk : ∀ k < 32, t.fld (page 9 k) Fld.STK_STATUS_STATE = s.fld (page 9 k) Fld.STK_STATUS_STATE) (p : Option Nat) (a : Nat) :
    t.xlate p a = s.xlate p a := by
  have hsh (pg : Nat) (f : Fld) : t.sh pg f = s.sh pg f := by rw [State.sh, State.sh, hshape]
  have htr (k i : Nat) : t.trimmed k i = s.trimmed k i := by rw [State.trimmed, State.trimmed, htrim]
  have hlive (n : Nat) : t.setLive n = s.setLive n := by simp only [State.setLive, htr, hout]
  have hmib : t.pkgMib = s.pkgMib := hsh _ _
  have hunits (n : Nat) : t.setUnits n = s.setUnits n := by simp only [State.setUnits, State.setShare, hlive, hmib]
  have hset : t.setOf? a = s.setOf? a := by
    simp only [State.setOf?, State.dieKind, hsh]
    rfl
  have hsetF (n : Nat) : t.setFrames n = s.setFrames n := by simp only [State.setFrames, hunits]
  have hstack (n : Nat) : t.stackPart? n = s.stackPart? n := by simp only [State.stackPart?, hshape]
  have hpart (n : Nat) : t.setPart? n = s.setPart? n := by
    simp only [State.setPart?, State.pkgPart?, hstack, hsh, hshape]
  have hframe (n f : Nat) : t.frame n f = s.frame n f := by rw [State.frame, State.frame, hframes]
  have hplace (n o : Nat) : t.place? n o = s.place? n o := by simp only [State.place?, hlive, hframe, hmib]
  have hphys (q l : Nat) : t.physCluster? q l = s.physCluster? q l := by
    simp only [State.physCluster?, State.logicalClusters, hshape, htr]
  have hcores (k : Nat) : t.clusterCores k = s.clusterCores k := by simp only [State.clusterCores, htr]
  unfold State.xlate
  simp only [hset, hsetF, hpart, hframe, hplace, hphys, hcores]
  split
  · cases hs : s.setOf? a with
    | none => rfl
    | some n =>
      dsimp only
      cases hpl : s.place? n (a - setBase n) with
      | none => rfl
      | some x =>
        obtain ⟨ch, l⟩ := x
        have hch := place?_lt (setOf?_index hs) hpl
        dsimp only
        rw [hmc ch hch, hstk (ch / 32) (by omega)]
  · rfl

end Sys2Proof.Machine
end

section
/-! The step (log 7) and what every command keeps: the front of the queue runs, a next state is answered, waits are observed (R83), memory stays canonical. -/
namespace Sys2Proof.Machine

open Sys2Proof

/-! ### The step -/

theorem step_cons {s : State} {c : Instr} {rest : List Instr} (h : s.pending = c :: rest) :
    step s = exec c { s with pending := rest } := by
  rw [step, h]

theorem step_nil {s : State} (h : s.pending = []) : step s = .next s := by
  rw [step, h]

/-- A step idles, or runs a command on the state with the queue's rest. -/
theorem step_cases {s t : State} (h : step s = .next t) :
    t = s ∨ ∃ c rest, exec c { s with pending := rest } = .next t := by
  cases hq : s.pending with
  | nil => exact .inl (Host.Outcome.next.inj (h.symm.trans (step_nil hq)))
  | cons c rest => exact .inr ⟨c, rest, step_cons hq ▸ h⟩

/-- Settles O1: a queue with a front runs it, an empty one idles, and the table spells no command (log 7). -/
theorem stepRunsFront : Obligations.StepRunsFront :=
  fun _ => ⟨fun _ _ => step_cons, step_nil, fun _ _ => rfl⟩

/-- A command whose meaning leaves a known state answers that state, observed (R83). -/
theorem done_eq {s t : State} (h : s = t) : State.done s = .next t.observe := h ▸ rfl

/-! ### What a step keeps -/

/-- Settles O5: every meaning ends in a next state, and none undoes what `Keeps` names. -/
theorem commandsAccumulate : Obligations.CommandsAccumulate := by
  intro c s
  obtain ⟨x, hx⟩ := exec_done c s
  have hk := exec_keeps c hx
  exact ⟨_, hx, hk.pending, hk.out, hk.draws⟩

/-- Settles O4: an idle step changes nothing, and every command keeps the canonical form of both memories. -/
theorem memoryFormKept : Obligations.MemoryFormKept := by
  intro s t hmem hhost hstep
  obtain rfl | ⟨c, rest, hexec⟩ := step_cases hstep
  · exact ⟨hmem, hhost⟩
  · have hk := exec_keeps c hexec
    exact ⟨hk.mem (State.memWf_congr rfl rfl rfl hmem), hk.host hhost⟩

/-! ### Observed waits (R83) -/

/-- What a command processor's look leaves of one command. -/
def State.look (s : State) (c : InFlight) : InFlight :=
  if c.saved || c.phase != .waiting then c
  else { c with
    met0 := c.met0 || (match c.wait0 with | none => true | some k => s.semAtLeast k c.cmd.w0Val),
    met1 := c.met1 || (match c.wait1 with | none => true | some k => s.semAtLeast k c.cmd.w1Val) }

theorem State.observe_eq_look (s : State) : s.observe = { s with cmds := s.cmds.map s.look } := rfl

section
variable (s : State) (c : InFlight)

theorem State.look_phase : (s.look c).phase = c.phase := by unfold State.look; split <;> rfl
theorem State.look_saved : (s.look c).saved = c.saved := by unfold State.look; split <;> rfl
theorem State.look_wait0 : (s.look c).wait0 = c.wait0 := by unfold State.look; split <;> rfl
theorem State.look_wait1 : (s.look c).wait1 = c.wait1 := by unfold State.look; split <;> rfl
theorem State.look_cmd : (s.look c).cmd = c.cmd := by unfold State.look; split <;> rfl

end

/-- A waiting, unsaved command that has been looked at has every wait marked whose semaphore has reached its value. -/
theorem State.look_met (s : State) {c : InFlight} (hphase : c.phase = .waiting) (hsaved : c.saved = false) :
    (∀ k, c.wait0 = some k → s.semAtLeast k c.cmd.w0Val = true → (s.look c).met0 = true) ∧
    (∀ k, c.wait1 = some k → s.semAtLeast k c.cmd.w1Val = true → (s.look c).met1 = true) := by
  constructor <;> intro k hk hsem <;> simp [State.look, hphase, hsaved, hk, hsem]

/-- Looking leaves the semaphores and what a command waits for, so an observed state overlooks no wait. -/
theorem State.observe_seen (s : State) : s.observe.seen := by
  intro c hc hphase hsaved
  obtain ⟨d, -, rfl⟩ := List.mem_map.mp hc
  have hmet := s.look_met ((s.look_phase d).symm.trans hphase) ((s.look_saved d).symm.trans hsaved)
  rw [← s.look_wait0, ← s.look_wait1, ← s.look_cmd] at hmet
  exact hmet

/-- Settles O3: an idle step leaves the waits, and every command ends with an observation (log 51). -/
theorem noWaitOverlooked : Obligations.NoWaitOverlooked := by
  intro s t hseen hstep
  obtain rfl | ⟨c, rest, hexec⟩ := step_cases hstep
  · exact hseen
  · obtain ⟨x, hx⟩ := exec_done c { s with pending := rest }
    cases hexec.symm.trans hx
    exact x.observe_seen

end Sys2Proof.Machine
end

section
/-! The state at reset (log 5): a first cold power-on with the factory default Shape (R37). -/
namespace Sys2Proof.Machine

open Sys2Proof

theorem State.seen_reset : State.reset.seen := fun _ hc => nomatch hc

/-- The Shape banks and the registers that show them. -/
theorem reset_shape : let s := State.reset
    s.shape.live.gen = 1 ∧ s.shape.prior.gen = 0 ∧ s.shape.pend = { s.shape.live with gen := 2 } ∧ s.shape.op = none ∧ s.shape.pin = none ∧
      s.fld shpPage Fld.SHP_GEN_LP_LIVE = 1 ∧ s.fld shpPage Fld.SHP_GEN_LP_PRIOR = 0 ∧ s.fld shpPage Fld.SHP_GEN_PP_PENDING = 2 ∧
      s.fld shpPage Fld.SHP_STATUS_DEFAULT_APPLIED = 1 ∧ s.fld shpPage Fld.SHP_LOCK_HOLDER = 0 := by
  refine ⟨rfl, rfl, rfl, rfl, rfl, ?_⟩
  decide +kernel

/-- Settles O2: nothing is stored or in flight, and each register's factory value is read off the reset maps. -/
theorem resetValues : Obligations.ResetValues := by
  refine ⟨⟨State.seen_reset, State.memWf_reset, rfl⟩, reset_shape, ?part, ?stroke, ?brim, ?host, ?power, ?empty⟩
  case part => decide +kernel
  case stroke => decide +kernel
  case brim => decide +kernel
  case host => decide +kernel
  case power => decide +kernel
  case empty => exact ⟨rfl, rfl, rfl, rfl, rfl, rfl, rfl, rfl, rfl⟩

end Sys2Proof.Machine
end

section
/-! Blocks (R24 to R26): the enable bit, the consistency check, the drain, and the engine reset of a unit without work (R22, R422). -/
namespace Sys2Proof.Machine

open Sys2Proof

/-! ### BLOCK_ENABLE -/

section
variable {s : State} {who : Requester} {pg : Nat}

theorem blockEnable_starts (h : s.letsIn who pg) (hb : shapeBound (pgClass pg) = false) (hl : s.liveBlk pg = false)
    (hc : SMap.get? s.shape.checks pg = none) :
    blockEnable s who pg = (s.setFld pg Fld.BLK_CTRL_EN 1).modShape (fun u => { u with checks := SMap.put u.checks pg true }) := by
  simp [blockEnable, letIn_letsIn h, State.enableBlock, hb, hl, hc]

theorem blockEnable_again (h : s.letsIn who pg) (hb : shapeBound (pgClass pg) = false)
    (hl : s.liveBlk pg = true ∨ (SMap.get? s.shape.checks pg).isSome = true) : blockEnable s who pg = s := by
  rw [blockEnable, letIn_letsIn h, State.enableBlock, if_neg (by simp [hb]), if_pos (by simpa using hl)]

theorem blockEnable_shapeBound (h : s.letsIn who pg) (hb : shapeBound (pgClass pg) = true) (he : s.enabled pg = false)
    (ht : s.pageTrimmed pg = false) : blockEnable s who pg = s.refuseF pg 0x0107 Fld.BLK_CTRL_EN := by
  simp [blockEnable, letIn_letsIn h, State.enableBlock, hb, he, ht]

/-! ### The end of the check -/

/-- A state whose check of a block has ended. -/
def State.checkEnded (s : State) (pg : Nat) : State := s.modShape (fun u => { u with checks := SMap.erase u.checks pg })

theorem blockCheckDone_idle (h : SMap.get? s.shape.checks pg = none) : blockCheckDone s pg = s := by
  simp [blockCheckDone, h]

theorem blockCheckDone_abandoned (h : SMap.get? s.shape.checks pg = some false) : blockCheckDone s pg = s.checkEnded pg := by
  simp [blockCheckDone, h, State.checkEnded]

theorem blockCheckDone_passed (h : SMap.get? s.shape.checks pg = some true) (hc : (s.checkEnded pg).blockCheck? pg = none) :
    blockCheckDone s pg = (((s.checkEnded pg).setFld pg Fld.BLK_STATUS_LIVE 1).setFld pg Fld.BLK_STATUS_REFUSED 0).modShape
      (fun u => { u with stopped := u.stopped.filter (fun x => x != pg) }) := by
  simp only [State.checkEnded] at hc ⊢
  simp [blockCheckDone, h, hc]

theorem blockCheckDone_failed (h : SMap.get? s.shape.checks pg = some true) {code off lsb : Nat}
    (hc : (s.checkEnded pg).blockCheck? pg = some (code, off, lsb)) :
    blockCheckDone s pg = ((s.checkEnded pg).setFld pg Fld.BLK_CTRL_EN 0).refuse pg code off lsb := by
  simp only [State.checkEnded] at hc ⊢
  simp [blockCheckDone, h, hc]

end

/-- Settles O6: BLOCK_ENABLE by the kind and state of the block, the check's end by what it found. -/
theorem blockEnable_and_check : Obligations.BlockEnable := by
  refine ⟨fun who pg s h => ⟨?starts, ?again, ?bound⟩, fun pg s => ⟨fun wanted hw => ⟨?passed, ?failed, ?abandoned⟩, ?idle⟩⟩
  case starts => exact fun hb hl hc => done_eq (blockEnable_starts h hb hl hc)
  case again => exact fun hb hl => done_eq (blockEnable_again h hb hl)
  case bound => exact fun hb he ht => done_eq (blockEnable_shapeBound h hb he ht)
  case passed =>
    rintro rfl hc
    exact done_eq (blockCheckDone_passed hw hc)
  case failed =>
    rintro rfl code off lsb hc
    exact done_eq (blockCheckDone_failed hw hc)
  case abandoned =>
    rintro rfl
    exact done_eq (blockCheckDone_abandoned hw)
  case idle => exact fun h => done_eq (blockCheckDone_idle h)

/-! ### BLOCK_DISABLE and the end of the drain -/

/-- A block whose EN has been cleared: a LIVE one takes no new work. -/
def State.switchedOff (s : State) (pg : Nat) : State :=
  (s.setFld pg Fld.BLK_CTRL_EN 0).modShape (fun u => { u with
    stopped := if s.liveBlk pg && !u.stopped.contains pg then pg :: u.stopped else u.stopped })

section
variable {s : State} {who : Requester} {pg : Nat} (hb : shapeBound (pgClass pg) = false)
include hb

theorem blockDisable_checked (h : s.letsIn who pg) (hc : (SMap.get? s.shape.checks pg).isSome = true) :
    blockDisable s who pg = (s.switchedOff pg).modShape (fun u => { u with checks := SMap.put u.checks pg false }) := by
  rw [blockDisable, letIn_letsIn h, State.disableBlock, if_neg (by simp [hb])]
  exact if_pos hc

theorem blockDisable_unchecked (h : s.letsIn who pg) (hc : SMap.get? s.shape.checks pg = none) :
    blockDisable s who pg = if (s.switchedOff pg).hasWork pg then s.switchedOff pg
      else (s.switchedOff pg).setFld pg Fld.BLK_STATUS_LIVE 0 := by
  rw [blockDisable, letIn_letsIn h, State.disableBlock, if_neg (by simp [hb])]
  exact if_neg (by simp [State.modShape, State.setFld, hc])

theorem blockDisable_busy (h : s.letsIn who pg) (hc : SMap.get? s.shape.checks pg = none) (hw : (s.switchedOff pg).hasWork pg = true) :
    blockDisable s who pg = s.switchedOff pg := by
  rw [blockDisable_unchecked hb h hc, if_pos hw]

theorem blockDisable_idle (h : s.letsIn who pg) (hc : SMap.get? s.shape.checks pg = none) (hw : (s.switchedOff pg).hasWork pg = false) :
    blockDisable s who pg = (s.switchedOff pg).setFld pg Fld.BLK_STATUS_LIVE 0 := by
  rw [blockDisable_unchecked hb h hc, if_neg (by simp [hw])]

theorem blockDrainDone_drained (he : s.enabled pg = false) (hw : s.hasWork pg = false) (hp : pagePresent pg = true) :
    blockDrainDone s pg = s.setFld pg Fld.BLK_STATUS_LIVE 0 := by
  simp [blockDrainDone, hb, he, hw, hp]

end

theorem blockDrainDone_busy {s : State} {pg : Nat} (hw : s.hasWork pg = true) : blockDrainDone s pg = s := by
  simp [blockDrainDone, hw]

/-! ### What an engine reset leaves alone -/

/-- A reset of one page's unit: registers of other pages (but for the Crowns' one set, R438), host memory, rings, contexts, frames
and channels stand as they were. -/
structure UnitOnly (pg : Nat) (s t : State) : Prop where
  regs : ∀ k, pgBase k ≠ pg → pgBase k ≠ pgBase (regKey pg 0x100) → t.reg k = s.reg k
  host : t.host = s.host
  rings : t.rings = s.rings
  ctxs : t.ctxs = s.ctxs
  frames : t.frames = s.frames
  chans : t.chans = s.chans

theorem UnitOnly.trans {pg : Nat} {s t u : State} (h : UnitOnly pg s t) (h' : UnitOnly pg t u) : UnitOnly pg s u where
  regs := fun k h1 h2 => (h'.regs k h1 h2).trans (h.regs k h1 h2)
  host := h'.host.trans h.host
  rings := h'.rings.trans h.rings
  ctxs := h'.ctxs.trans h.ctxs
  frames := h'.frames.trans h.frames
  chans := h'.chans.trans h.chans

theorem UnitOnly.refl (pg : Nat) (s : State) : UnitOnly pg s s := ⟨fun _ _ _ => rfl, rfl, rfl, rfl, rfl, rfl⟩

/-- Setting a register of the page itself. -/
theorem UnitOnly.setReg {pg key : Nat} (s : State) (hkey : pgBase key = pg) (v : Word64) : UnitOnly pg s (s.setReg key v) where
  regs := fun _ hk _ => State.reg_setReg_other _ _ (fun e => hk (e ▸ hkey))
  host := rfl
  rings := rfl
  ctxs := rfl
  frames := rfl
  chans := rfl

/-- A change of a block's own state, outside registers. -/
theorem UnitOnly.of_regs {pg : Nat} {s t : State} (hr : t.regs = s.regs) (hh : t.host = s.host) (hi : t.rings = s.rings)
    (hc : t.ctxs = s.ctxs) (hf : t.frames = s.frames) (hn : t.chans = s.chans) : UnitOnly pg s t :=
  ⟨fun k _ _ => by rw [State.reg, State.reg, hr], hh, hi, hc, hf, hn⟩

theorem UnitOnly.modShape (pg : Nat) (s : State) (f : ShapeUnit → ShapeUnit) : UnitOnly pg s (s.modShape f) :=
  .of_regs rfl rfl rfl rfl rfl rfl
theorem UnitOnly.observe (pg : Nat) (s : State) : UnitOnly pg s s.observe := .of_regs rfl rfl rfl rfl rfl rfl
theorem UnitOnly.modTc (pg : Nat) (s : State) (n : Nat) (f : Tc → Tc) : UnitOnly pg s (s.modTc n f) := .of_regs rfl rfl rfl rfl rfl rfl
theorem UnitOnly.modStk (pg : Nat) (s : State) (n : Nat) (f : Stack → Stack) : UnitOnly pg s (s.modStk n f) :=
  .of_regs rfl rfl rfl rfl rfl rfl
theorem UnitOnly.modHp (pg : Nat) (s : State) (n : Nat) (f : HostPort → HostPort) : UnitOnly pg s (s.modHp n f) :=
  .of_regs rfl rfl rfl rfl rfl rfl
theorem UnitOnly.modVc (pg : Nat) (s : State) (n : Nat) (f : VcEngine → VcEngine) : UnitOnly pg s (s.modVc n f) :=
  .of_regs rfl rfl rfl rfl rfl rfl

/-- Registers of the page and of the Crowns' one set return to their reset values (Table 18.4 column E). -/
theorem UnitOnly.resetRw (s : State) (pg : Nat) : UnitOnly pg s (s.resetRw pg) where
  regs := by
    intro k _ hcrown
    have hkept : s.resetsReg pg k = false := by simp [State.resetsReg, hcrown]
    rw [State.reg, State.reg, State.resetRw, SMap.get?_mapVal, SMap.get?_dropKeys, if_neg (by simp [hkept])]
    cases SMap.get? s.regs k with
    | none => rfl
    | some v => simp [State.resetWordAt, hkept]
  host := rfl
  rings := rfl
  ctxs := rfl
  frames := rfl
  chans := rfl

/-- A codec engine's sessions are closed (R346): their marks, which lie in memory, and the engine's own state. -/
theorem UnitOnly.closeSessions (s : State) (v : Nat) (hv : pgBase (vcPage v + 0x30) = vcPage v) :
    UnitOnly (vcPage v) s (s.closeSessions v) := by
  have hmarks : ∀ (l : List Nat) (p : Nat) (t : State), UnitOnly (vcPage v) s t →
      UnitOnly (vcPage v) s (l.foldl (fun (t : State) a => (t.wrDev (some p) a [0]).1) t) := fun l p t ht =>
    List.foldlRecOn l _ ht (fun u hu a _ => hu.trans (.of_regs (by simp) (by simp) (by simp) (by simp) (by simp) (by simp)))
  have hraise : ∀ t : State, UnitOnly (vcPage v) t (t.raise (vcPage v) 18) := fun t =>
    ⟨fun k hk _ => raise_reg _ _ _ _ (fun e => hk (e ▸ hv)), by simp, by simp, by simp, by simp, by simp⟩
  unfold State.closeSessions
  split
  · exact .refl _ _
  · refine UnitOnly.trans ?_ (hraise _)
    split
    · exact (hmarks _ _ _ (.refl _ _)).trans (.modVc ..)
    · exact .modVc ..

/-- Setting a field of the page itself. -/
theorem UnitOnly.setFld {pg : Nat} (s : State) (hpg : pgBase pg = pg) (hcls : pgClass pg ≠ 0) {f : Fld} (hf : f.off < 4096) (v : Nat) :
    UnitOnly pg s (s.setFld pg f v) := by
  have hkey : regKey pg f.off = pg + f.off := if_neg (by simp [hcls])
  refine .setReg s ?_ _
  rw [hkey, ← hpg, pgBase_add _ _ hf]

/-- The further state of a block that an engine reset clears stands on its own page, in the block, or in memory. -/
theorem UnitOnly.resetUnit (s : State) {pg : Nat} (hpg : pgBase pg = pg) : UnitOnly pg s (s.resetUnit pg) := by
  have hreg : ∀ o, o < 4096 → pgBase (pg + o) = pg := fun o ho => by rw [← hpg, pgBase_add _ _ ho]
  have himage : ∀ o ∈ imageRegs, o < 4096 := by decide
  unfold State.resetUnit
  dsimp only
  split
  next =>
    refine UnitOnly.trans ?_ (.modTc ..)
    exact List.foldlRecOn (motive := UnitOnly pg s) imageRegs _ (UnitOnly.refl _ _)
      (fun t ht o ho => ht.trans (.setReg t (hreg o (himage o ho)) 0))
  next hcls =>
    split
    · exact (UnitOnly.setFld s hpg (by simp [hcls]) (by decide) 0).trans (.modStk ..)
    · exact .refl _ _
  next hcls =>
    have hvc : vcPage (pgInst pg) = pg := by rw [vcPage, ← hcls]; exact hpg
    have hclose := UnitOnly.closeSessions s (pgInst pg) (by rw [hvc]; exact hreg _ (by decide))
    rwa [hvc] at hclose
  next hcls =>
    split
    · exact (UnitOnly.setFld s hpg (by simp [hcls]) (by decide) 0).trans (.modHp ..)
    · exact .refl _ _
  next => exact .of_regs rfl rfl rfl rfl rfl rfl
  next => exact .refl _ _

/-- Memory changes by the marks of open codec sessions alone. -/
theorem resetUnit_mem {s : State} {pg : Nat} (h : pgClass pg = 11 → (s.vc (pgInst pg)).slots = []) : (s.resetUnit pg).mem = s.mem := by
  unfold State.resetUnit
  dsimp only
  split
  next =>
    rw [State.modTc_mem]
    exact List.foldlRecOn (motive := fun t : State => t.mem = s.mem) imageRegs _ rfl (fun t ht o _ => (t.setReg_mem (pg + o) 0).trans ht)
  next => split <;> rfl
  next hcls => simp [State.closeSessions, h hcls]
  next => split <;> rfl
  next => rfl
  next => rfl

/-! ### ENGINE_RESET and its end -/

theorem endAll_none {s : State} {pick : InFlight → Bool} (h : ∀ c ∈ s.cmds, pick c = false) (code : Code) : s.endAll pick code = s := by
  have hnone : s.cmds.filter pick = [] := by simpa using h
  simp [State.endAll, hnone]

/-- The block of a reset, marked as under reset. -/
def State.underReset (s : State) (pg : Nat) : State := s.modShape (fun u => { u with
  halves := SMap.dropKeys u.halves (fun k => pgBase k == pg && !(shOffs (pgClass k)).contains (pgOff k)),
  engineResets := if u.engineResets.contains pg then u.engineResets else pg :: u.engineResets })

theorem mem_engineResets_underReset (s : State) (pg : Nat) : pg ∈ (s.underReset pg).shape.engineResets := by
  simp only [State.underReset, State.modShape]
  split
  · next h => simpa using h
  · exact List.mem_cons_self

theorem engineReset_idle {s : State} {who : Requester} {pg : Nat} (h : s.letsIn who pg) (hc : ∀ c ∈ s.cmds, s.endsWith pg c = false) :
    engineReset s who pg = ((s.resetRw pg).resetUnit pg).underReset pg := by
  rw [engineReset, letIn_letsIn h, State.engineReset, endAll_none hc]
  rfl

/-- What an engine reset of a unit without work leaves, observed. -/
theorem engineReset_idle_effect {s t : State} {pg : Nat} (hpg : pgBase pg = pg)
    (ht : t = (((s.resetRw pg).resetUnit pg).underReset pg).observe) :
    UnitOnly pg s t ∧ pg ∈ t.shape.engineResets ∧ ((pgClass pg = 11 → (s.vc (pgInst pg)).slots = []) → t.mem = s.mem) := by
  have honly : UnitOnly pg s t := by
    rw [ht]
    exact (((UnitOnly.resetRw s pg).trans (.resetUnit _ hpg)).trans (.modShape ..)).trans (.observe ..)
  subst ht
  refine ⟨honly, mem_engineResets_underReset _ _, fun hslots => ?_⟩
  exact resetUnit_mem (s := s.resetRw pg) hslots

/-- Settles O7: each write by what the block does at the moment; a reset without work touches the page's registers and its unit. -/
theorem blockDisable_and_reset : Obligations.BlockDisable := by
  refine ⟨fun who pg s hb => ⟨?checked, ?busy, ?idle, ?drained, ?still⟩, fun who pg s => ⟨fun h hc => ?reset, ?done⟩⟩
  case checked => exact fun h hc => done_eq (blockDisable_checked hb h hc)
  case busy => exact fun h hc hw => done_eq (blockDisable_busy hb h hc hw)
  case idle => exact fun h hc hw => done_eq (blockDisable_idle hb h hc hw)
  case drained => exact fun he hw hp => done_eq (blockDrainDone_drained hb he hw hp)
  case still => exact fun hw => done_eq (blockDrainDone_busy hw)
  case reset =>
    obtain ⟨honly, hmark, hmem⟩ := engineReset_idle_effect (s := s) (pgBase_pgBase pg) rfl
    exact ⟨_, done_eq (engineReset_idle h hc), hmark, honly.regs, hmem, honly.host, honly.rings, honly.ctxs, honly.frames, honly.chans⟩
  case done =>
    refine ⟨_, rfl, rfl, ?_, fun x hx => ?_⟩
    · simp [engineResetDone, State.modShape]
    · simp [engineResetDone, State.modShape, hx]

end Sys2Proof.Machine
end

section
/-! REGISTER_WRITE (R5, R21, Table 2.4): what a 64-bit write stores by the access types of a register's fields. -/
namespace Sys2Proof.Machine

open Sys2Proof

/-! ### The word a 64-bit write makes -/

theorem and_not_and_zero (a x : Word64) : a &&& ~~~(x &&& 0) = a := by
  have hones : ~~~(x &&& 0) = BitVec.allOnes 64 := congrArg (~~~ ·) (BitVec.and_zero (x := x))
  rw [hones, BitVec.and_allOnes]

theorem mergeBits_zero (a x : Word64) : mergeBits a x 0 = a := by
  have hx : x &&& 0 = 0 := BitVec.and_zero
  have ha : a &&& ~~~0 = a := hx ▸ and_not_and_zero a x
  rw [mergeBits, ha, hx]
  exact BitVec.or_zero

theorem mergeBits_and (a v m : Word64) : mergeBits a (v &&& m) m = mergeBits a v m := by simp [mergeBits, BitVec.and_assoc]

/-- Bits that the new word replaces do not matter. -/
theorem mergeBits_covered {old mask : Word64} (v : Word64) (h : old &&& ~~~mask = 0) : mergeBits old v mask = v &&& mask := by
  simp [mergeBits, h]

section
variable {s : State} {pg : Nat} {r : RegRow}

/-- A 64-bit write replaces every field it reaches, so nothing of the word before is left in it. -/
theorem writtenWord_w64 (hjoint : jointReg (pgClass pg) r.off = false)
    (hcover : rwFields r &&& ~~~reachMask (writable r) .w64 = 0) (v : Word64) (port : Nat) :
    s.writtenWord pg r .w64 v port =
      (v &&& reachMask (writable r) .w64, SMap.get? s.shape.halves (pg + r.off), reachMask (writable r) .w64 != 0) := by
  have hold : s.before pg r.off &&& rwFields r &&& ~~~reachMask (writable r) .w64 = 0 := by
    rw [BitVec.and_assoc, hcover]; exact BitVec.and_zero
  simp [State.writtenWord, hjoint, halfWrite, mergeBits_covered _ hold]

/-- The half held for a register stays held. -/
def State.keepHalf (s : State) (k : Nat) : State := s.holdHalf k (SMap.get? s.shape.halves k)

/-- A 64-bit write of a register with writable fields stores the word those fields take; the half held stays held. -/
theorem storeWord_w64 (hjoint : jointReg (pgClass pg) r.off = false)
    (hcover : rwFields r &&& ~~~reachMask (writable r) .w64 = 0) (hmask : reachMask (writable r) .w64 ≠ 0) (who : Requester) (v : Word64) :
    s.storeWord who pg r .w64 v = (s.keepHalf (pg + r.off)).regWrite who pg r .w64
      (v &&& reachMask (writable r) .w64) := by
  have hne : (writable r).isEmpty = false := by
    cases h : writable r with
    | nil => exact absurd (by rw [h]; rfl) hmask
    | cons f fs => rfl
  have hmask' : (reachMask (writable r) .w64 != 0) = true := bne_iff_ne.mpr hmask
  simp only [State.storeWord, hne, writtenWord_w64 hjoint hcover, hmask', if_true, Bool.false_eq_true, if_false, State.keepHalf]

theorem storeWord_readOnly (hw : writable r = []) (hoff : r.off < 0x838) (who : Requester) (w : Width) (v : Word64) :
    s.storeWord who pg r w v = s := by
  have hstray : s.strayRingWrite pg r.off = false := by simp [State.strayRingWrite, Nat.not_le_of_lt hoff]
  simp [State.storeWord, hw, hstray]

theorem plainWrite_eq (x : Word64) : s.plainWrite pg r x =
    s.setReg (regKey pg r.off) (mergeBits (s.reg (regKey pg r.off)) x (rwFields r) &&& ~~~(x &&& w1cMask r)) := rfl

/-- A mask write that opens no pending bit sends no interrupt (R23). -/
theorem maskWrite_quiet {x : Word64} (h : s.reg (pg + 0x38) &&& ~~~x &&& s.reg (pg + 0x30) &&& rwFields r = 0) :
    s.maskWrite pg r x = s.plainWrite pg r x := by
  have hnone : bitList 64 (0 : Word64).toNat = [] := by decide
  rw [State.maskWrite, h, hnone, List.foldl_nil]

end

/-! ### The registers of the common header and CRN_ERR_CFG -/

/-- BLK_INT_STATUS (Table 2.4). -/
def rowIntStatus : RegRow := ⟨0x30, [⟨0, 0, .w1c, 0⟩, ⟨1, 1, .w1c, 0⟩, ⟨2, 2, .w1c, 0⟩, ⟨3, 3, .w1c, 0⟩, ⟨31, 16, .w1c, 0⟩]⟩
/-- BLK_INT_MASK (Table 2.4). -/
def rowIntMask : RegRow := ⟨0x38, [⟨3, 0, .rw, 15⟩, ⟨31, 16, .rw, 65535⟩]⟩
/-- CRN_ERR_CFG (chapter 19). -/
def rowErrCfg : RegRow := ⟨0x140, [⟨1, 0, .rw, 1⟩, ⟨3, 2, .rw, 2⟩, ⟨4, 4, .rw, 1⟩]⟩

theorem regKey_header (pg : Nat) {off : Nat} (h : off < 0x100) : regKey pg off = pg + off := if_neg (by omega)

theorem jointReg_low (cls : Nat) {off : Nat} (h : off < 0xA20) : jointReg cls off = false := by
  have h1 : off ≠ 0xA20 := by omega
  have h2 : off ≠ 0xA28 := by omega
  simp [jointReg, h1, h2]

/-- The state of a 64-bit write: one register, and the half held for its port. -/
theorem setReg_keepHalf_effect {s t : State} {k h : Nat} {x : Word64} (ht : t = ((s.keepHalf h).setReg k x).observe) :
    t.reg k = x ∧ (∀ j, j ≠ k → t.reg j = s.reg j) ∧
      t = { s with regs := t.regs, shape := { s.shape with halves := t.shape.halves } }.observe := by
  subst ht
  exact ⟨State.reg_setReg_same _ _ _, fun j hj => State.reg_setReg_other _ _ hj, rfl⟩

section
variable {s : State} {who : Requester} {pg : Nat} (v : Word64)

theorem registerWrite_intStatus (h : s.letsIn who (pgBase pg)) : registerWrite s who (pgBase pg + 0x30) .w64 v =
    (s.keepHalf (pgBase pg + 0x30)).setReg (pgBase pg + 0x30) (s.reg (pgBase pg + 0x30) &&& ~~~(v &&& 0xFFFF000F)) := by
  have hrow := registerWrite_common (o := 0x30) (r := rowIntStatus) h (by decide) (by decide) .w64 v
  have hmask : reachMask (writable rowIntStatus) .w64 = 0xFFFF000F := by decide
  rw [hrow, storeWord_w64 (jointReg_low _ (by decide)) (by decide) (by decide), hmask]
  refine (plainWrite_eq (r := rowIntStatus) _).trans ?_
  have hrw : rwFields rowIntStatus = 0 := by decide
  have hw1c : w1cMask rowIntStatus = 0xFFFF000F := by decide
  rw [regKey_header _ (by decide), hrw, hw1c, mergeBits_zero, BitVec.and_assoc, BitVec.and_self]
  rfl

theorem registerWrite_intMask (h : s.letsIn who (pgBase pg))
    (hq : s.reg (pgBase pg + 0x38) &&& ~~~v &&& s.reg (pgBase pg + 0x30) &&& 0xFFFF000F = 0) :
    registerWrite s who (pgBase pg + 0x38) .w64 v = (s.keepHalf (pgBase pg + 0x38)).setReg (pgBase pg + 0x38)
      ((s.reg (pgBase pg + 0x38) &&& ~~~0xFFFF000F) ||| (v &&& 0xFFFF000F)) := by
  have hrow := registerWrite_common (o := 0x38) (r := rowIntMask) h (by decide) (by decide) .w64 v
  have hmask : reachMask (writable rowIntMask) .w64 = 0xFFFF000F := by decide
  have hrw : rwFields rowIntMask = 0xFFFF000F := by decide
  have hw1c : w1cMask rowIntMask = 0 := by decide
  have hquiet : s.reg (pgBase pg + 0x38) &&& ~~~(v &&& 0xFFFF000F) &&& s.reg (pgBase pg + 0x30) &&& rwFields rowIntMask = 0 := by
    rw [hrw, ← hq]
    ext i hi
    simp only [BitVec.getElem_and, BitVec.getElem_not]
    cases (0xFFFF000F : Word64)[i] <;> simp
  rw [hrow, storeWord_w64 (jointReg_low _ (by decide)) (by decide) (by decide), hmask]
  refine ((maskWrite_quiet (s := s.keepHalf (pgBase pg + rowIntMask.off)) (r := rowIntMask) hquiet).trans (plainWrite_eq _)).trans ?_
  rw [regKey_header _ (by decide), hrw, hw1c, mergeBits_and, and_not_and_zero]
  rfl

/-- A header register without writable fields takes nothing. -/
theorem registerWrite_readOnly (h : s.letsIn who (pgBase pg)) {off : Nat} (hoff : off ∈ [0x00, 0x08, 0x18, 0x20, 0x28, 0x40]) (w : Width) :
    registerWrite s who (pgBase pg + off) w v = s := by
  have hrow : ∃ r, commonHeader.find? (fun r => r.off == off) = some r ∧ writable r = [] ∧ r.off < 0x838 := by
    simp only [List.mem_cons, List.not_mem_nil, or_false] at hoff
    obtain rfl | rfl | rfl | rfl | rfl | rfl := hoff <;> exact ⟨_, rfl, rfl, by decide⟩
  obtain ⟨r, hfind, hw, hlt⟩ := hrow
  have hmem : off ∈ [0x00, 0x08, 0x10, 0x18, 0x20, 0x28, 0x30, 0x38, 0x40] := by
    simp only [List.mem_cons, List.not_mem_nil, or_false] at hoff ⊢
    omega
  rw [registerWrite_common h hmem hfind, storeWord_readOnly hw hlt]

/-- A page that a confined requester is not presented takes nothing of it (R21). -/
theorem registerWrite_notPresented {p off : Nat} (hoff : off < 4096) (hsh : (shOffs (pgClass pg)).contains off = false)
    (ha : s.arrives who = true) (hc : confined who = true) (hp : s.presents who (pgBase pg) = false) (hpart : s.reqPart? who = some p)
    (w : Width) : registerWrite s who (pgBase pg + off) w v = s.raise (partPage p) 0 := by
  rw [registerWrite, pgBase_add _ _ hoff, pgClass_add _ _ hoff, pgOff_add _ _ hoff, if_neg (by rw [hsh]; exact Bool.false_ne_true)]
  rw [letIn_ignored ha hp hc, State.ignoredWrite, hpart]

theorem registerWrite_errCfg (h : s.letsIn who crnPage) : registerWrite s who (crnPage + 0x140) .w64 v =
    (s.keepHalf (crnPage + 0x140)).setReg (crnPage + 0x140) ((s.reg (crnPage + 0x140) &&& ~~~0x1F) ||| (v &&& 0x1F)) := by
  have hsh : (shOffs (pgClass (crnPage + 0x140))).contains (pgOff (crnPage + 0x140)) = false := by decide +kernel
  have hrow : regRow? (pgClass (crnPage + 0x140)) (pgOff (crnPage + 0x140)) = some rowErrCfg := by decide +kernel
  have hmask : reachMask (writable rowErrCfg) .w64 = 0x1F := by decide
  have hrw : rwFields rowErrCfg = 0x1F := by decide
  have hw1c : w1cMask rowErrCfg = 0 := by decide
  have hkey : regKey crnPage rowErrCfg.off = crnPage + 0x140 := by decide
  rw [registerWrite, if_neg (by rw [hsh]; decide), hrow]
  have hlet := letIn_letsIn h (fun s => s.storeWord who crnPage rowErrCfg .w64 v)
  refine hlet.trans ?_
  rw [storeWord_w64 (by decide) (by decide) (by decide), hmask]
  refine (plainWrite_eq (pg := crnPage) (r := rowErrCfg) _).trans ?_
  rw [hkey, hrw, hw1c, mergeBits_and, and_not_and_zero]
  rfl

end

/-- Settles O8: each write is one of the register's own row; what it stores follows from the row's access types. -/
theorem registerWrite_by_access : Obligations.RegisterWrite := by
  intro who pg v s
  refine ⟨fun h => ?status, fun h hq => ?mask, fun h off w hoff => ?readOnly, ?ignored, fun h => ?errCfg⟩
  case status =>
    exact ⟨_, done_eq (registerWrite_intStatus v h), setReg_keepHalf_effect rfl⟩
  case mask =>
    exact ⟨_, done_eq (registerWrite_intMask v h hq), setReg_keepHalf_effect rfl⟩
  case readOnly => exact done_eq (registerWrite_readOnly v h hoff w)
  case ignored =>
    intro p w off hoff hsh ha hc hp hpart
    exact done_eq (registerWrite_notPresented v hoff hsh ha hc hp hpart w)
  case errCfg =>
    exact ⟨_, done_eq (registerWrite_errCfg v h), setReg_keepHalf_effect rfl⟩

end Sys2Proof.Machine
end

section
/-! The Shape unit (R27 to R36): writes of SH registers, the operations SHP_CTRL begins, the check's end, the swap and the pin. -/
namespace Sys2Proof.Machine

open Sys2Proof

/-! ### A 64-bit write of an SH register (R27) -/

/-- Pending with the bits of a mask replaced in one word, and the half held for that word kept. -/
def State.pendWord (s : State) (key : Nat) (v m : Word64) : State :=
  (s.holdHalf key (SMap.get? s.shape.halves key)).modShape (fun u => { u with
    pend := { u.pend with words := SMap.put u.pend.words key (mergeBits (SMap.getD u.pend.words key 0) v m) } })

section
variable {s : State} {who : Requester} {off : Nat} {row : RegRow} (h : s.letsIn who (pgBase off)) (hc : confined who = false)
  (hrow : regRow? (pgClass off) (pgOff off) = some row) (hsh : shFields row ≠ []) (hid : requesterId who ≠ 0)
  (hh : s.fld shpPage Fld.SHP_LOCK_HOLDER = requesterId who)
include h hc hrow hsh hid hh

theorem shFieldWrite_w64 (hop : s.shape.op = none) (v : Word64) : shFieldWrite s who off .w64 v =
    (s.pendWord (regKey (pgBase off) (pgOff off)) v (reachMask (shFields row) .w64)).setDirty := by
  have hfields : ¬ (shFields row).isEmpty = true := by simp [hsh]
  have hconf : ¬ confined who = true := by simp [hc]
  have hlock : ¬ (requesterId who = 0 ∨ s.fld shpPage Fld.SHP_LOCK_HOLDER ≠ requesterId who) := by simp [hid, hh]
  have hidle : ¬ s.shape.op.isSome = true := by simp [hop]
  rw [shFieldWrite, letIn_letsIn h]
  simp only [hrow, if_neg hfields, if_neg hconf, if_neg hlock, if_neg hidle]
  exact rfl

theorem shFieldWrite_under_way (hop : s.shape.op ≠ none) (w : Width) (v : Word64) :
    shFieldWrite s who off w v = s.shapeCode 0x0203 (pgOff off) 0 := by
  have hsome : s.shape.op.isSome = true := Option.isSome_iff_ne_none.mpr hop
  rw [shFieldWrite, letIn_letsIn h]
  simp [hrow, hsh, hc, hid, hh, hsome]

end

theorem setDirty_dirty (s : State) : s.setDirty.fld shpPage Fld.SHP_STATUS_DIRTY = if bankDiffers s.shape.pend s.shape.live then 1 else 0 := by
  rw [State.setDirty, State.setBit]
  split
  · exact fld_setFld_fits _ _ (by decide)
  · exact fld_setFld_fits _ _ (by decide)

/-- SHP_STATUS.DIRTY is the only register bit such a write moves, and the Pending word the only Shape word. -/
theorem pendWord_effect {s t : State} {key : Nat} {v m : Word64} (ht : t = ((s.pendWord key v m).setDirty).observe) :
    SMap.getD t.shape.pend.words key 0 = (SMap.getD s.shape.pend.words key 0 &&& ~~~m) ||| (v &&& m) ∧
      (∀ k, k ≠ key → SMap.getD t.shape.pend.words k 0 = SMap.getD s.shape.pend.words k 0) ∧
      t.fld shpPage Fld.SHP_STATUS_DIRTY = (if bankDiffers t.shape.pend t.shape.live then 1 else 0) ∧
      (∀ k, k ≠ shpPage + 0x108 → t.reg k = s.reg k) ∧
      t = { s with regs := t.regs, shape := { s.shape with pend := t.shape.pend, halves := t.shape.halves } }.observe := by
  subst ht
  exact ⟨SMap.getD_put_same .., fun k hk => SMap.getD_put_other _ _ _ hk, setDirty_dirty _,
    fun k hk => setFld_reg (s.pendWord key v m) shpPage Fld.SHP_STATUS_DIRTY _ k hk, rfl⟩

/-- Settles O9: the holder's write replaces one word of Pending; another's, or one under an operation, is refused. -/
theorem shapeFieldWrite : Obligations.ShapeFieldWrite := by
  intro who off v row s key m h hc hrow hsh
  refine ⟨fun hid hh hop => ?_, fun hh => ?_, fun hid hh hop => ?_⟩
  · exact ⟨_, done_eq (shFieldWrite_w64 h hc hrow hsh hid hh hop v), pendWord_effect rfl⟩
  · exact done_eq (shFieldWrite_not_holder h hrow hsh hc hh .w64 v)
  · exact done_eq (shFieldWrite_under_way h hc hrow hsh hid hh hop .w64 v)

/-! ### The operations that SHP_CTRL begins (R33) -/

/-- A bit that the command's name sets is set, and every other bit of SHP_CTRL is as written. -/
theorem getBits_setBit_same (c : Word64) {i : Nat} {m : Word64} (hm : getBits m i i = 1) : getBits (c ||| m) i i = 1 := by
  have hlt := getBits_bit_lt c i
  rw [getBits_or, hm]
  obtain h | h : getBits c i i = 0 ∨ getBits c i i = 1 := by omega
  · rw [h]; rfl
  · rw [h]; rfl

theorem getBits_setBit_other (c : Word64) {i : Nat} {m : Word64} (hm : getBits m i i = 0) : getBits (c ||| m) i i = getBits c i i := by
  rw [getBits_or, hm, Nat.or_zero]

section
variable {s : State} {who : Requester} {c : Word64} (h : s.editor who)
include h

/-- The holder's write that asks for at most one operation, with none under way, goes on. -/
theorem shpCtrlWrite_editor (hpin : getBits c 2 2 = 1 → s.shape.pin = none)
    (hn : getBits c 0 0 + getBits c 1 1 + getBits c 3 3 ≤ 1) (hop : getBits c 0 0 + getBits c 1 1 + getBits c 3 3 = 1 → s.shape.op = none)
    (ov : Option (List (Nat × Nat × Bool))) : shpCtrlWrite s who c ov =
      if getBits c 0 0 = 1 then ((s.stageOverrides ov).setDirty).beginCommit (getBits c 2 2 = 1)
      else if getBits c 1 1 = 1 then s.beginRevert (getBits c 2 2 = 1)
      else if getBits c 3 3 = 1 then s.discard (getBits c 2 2 = 1)
      else if getBits c 2 2 = 1 then s.startPin
      else s := by
  obtain ⟨hin, hid, hh⟩ := h
  have hpin' : ¬(getBits c 2 2 = 1 ∧ s.shape.pin.isSome = true) := fun ⟨h1, h2⟩ => by simp [hpin h1] at h2
  have hop' : ¬(getBits c 0 0 + getBits c 1 1 + getBits c 3 3 = 1 ∧ s.shape.op.isSome = true) := fun ⟨h1, h2⟩ => by simp [hop h1] at h2
  have hgo : s.ctrlRefusal? who c = none := by
    rw [State.ctrlRefusal?, if_neg (by simp [hid, hh]), if_neg hpin', if_neg (by omega), if_neg hop']
  rw [shpCtrlWrite, letIn_letsIn hin, hgo]

theorem shapeCommit_begins (hpin : getBits c 2 2 = 1 → s.shape.pin = none) (hop : s.shape.op = none) (h1 : getBits c 1 1 = 0)
    (h3 : getBits c 3 3 = 0) (ov : List (Nat × Nat × Bool)) : shpCtrlWrite s who (c ||| 1) (some ov) =
      ((s.stageOverrides (some ov)).setDirty).beginCommit (getBits c 2 2 = 1) := by
  have e0 : getBits (c ||| 1) 0 0 = 1 := getBits_setBit_same c (by decide)
  have e1 : getBits (c ||| 1) 1 1 = getBits c 1 1 := getBits_setBit_other c (by decide)
  have e2 : getBits (c ||| 1) 2 2 = getBits c 2 2 := getBits_setBit_other c (by decide)
  have e3 : getBits (c ||| 1) 3 3 = getBits c 3 3 := getBits_setBit_other c (by decide)
  rw [shpCtrlWrite_editor h (by rwa [e2]) (by omega) (fun _ => hop), if_pos e0, e2]

theorem shapeRevert_begins (hpin : getBits c 2 2 = 1 → s.shape.pin = none) (hop : s.shape.op = none) (h0 : getBits c 0 0 = 0)
    (h3 : getBits c 3 3 = 0) : shpCtrlWrite s who (c ||| 2) none = s.beginRevert (getBits c 2 2 = 1) := by
  have e0 : getBits (c ||| 2) 0 0 = getBits c 0 0 := getBits_setBit_other c (by decide)
  have e1 : getBits (c ||| 2) 1 1 = 1 := getBits_setBit_same c (by decide)
  have e2 : getBits (c ||| 2) 2 2 = getBits c 2 2 := getBits_setBit_other c (by decide)
  have e3 : getBits (c ||| 2) 3 3 = getBits c 3 3 := getBits_setBit_other c (by decide)
  rw [shpCtrlWrite_editor h (by rwa [e2]) (by omega) (fun _ => hop), if_neg (by omega), if_pos e1, e2]

theorem shapeDiscard_begins (hop : s.shape.op = none) (h0 : getBits c 0 0 = 0) (h1 : getBits c 1 1 = 0)
    (h2 : getBits c 2 2 = 0) : shpCtrlWrite s who (c ||| 8) none = s.discard false := by
  have e0 : getBits (c ||| 8) 0 0 = getBits c 0 0 := getBits_setBit_other c (by decide)
  have e1 : getBits (c ||| 8) 1 1 = getBits c 1 1 := getBits_setBit_other c (by decide)
  have e2 : getBits (c ||| 8) 2 2 = getBits c 2 2 := getBits_setBit_other c (by decide)
  have e3 : getBits (c ||| 8) 3 3 = 1 := getBits_setBit_same c (by decide)
  rw [shpCtrlWrite_editor h (fun hp => by omega) (by omega) (fun _ => hop), if_neg (by omega), if_neg (by omega), if_pos e3, e2, h2]
  rfl

theorem shapePin_begins (hpin : s.shape.pin = none) (h0 : getBits c 0 0 = 0) (h1 : getBits c 1 1 = 0)
    (h3 : getBits c 3 3 = 0) : shpCtrlWrite s who (c ||| 4) none = s.startPin := by
  have e0 : getBits (c ||| 4) 0 0 = getBits c 0 0 := getBits_setBit_other c (by decide)
  have e1 : getBits (c ||| 4) 1 1 = getBits c 1 1 := getBits_setBit_other c (by decide)
  have e2 : getBits (c ||| 4) 2 2 = 1 := getBits_setBit_same c (by decide)
  have e3 : getBits (c ||| 4) 3 3 = getBits c 3 3 := getBits_setBit_other c (by decide)
  rw [shpCtrlWrite_editor h (fun _ => hpin) (by omega) (fun hn => by omega), if_neg (by omega), if_neg (by omega), if_neg (by omega), if_pos e2]

end

/-- A revert to a Prior that exists, with Pending as Live and every changed partition idle, goes on (R35). -/
theorem beginRevert_goes_on {s : State} (hprior : s.shape.prior.gen ≠ 0) (hdirty : bankDiffers s.shape.pend s.shape.live = false)
    (hidle : ∀ p ∈ changedParts s.shape.live s.shape.prior, s.idle p = true) (pin : Bool) : s.beginRevert pin =
      ({ s with shape := { s.shape with
          op := some ⟨.revert, true, pin, changedParts s.shape.live s.shape.prior, [], [], [], []⟩ } }).setFld shpPage Fld.SHP_STATUS_BUSY 1 := by
  have hany : (changedParts s.shape.live s.shape.prior).any (fun p => !s.idle p) = false := by simpa using hidle
  rw [State.beginRevert, if_neg hprior, if_neg (by simp [hdirty]), if_neg (by simp [hany])]

/-! ### The end of the commit check (R30, R482) -/

section
variable {s : State} {op : ShapeOp} (hop : s.shape.op = some op) (hkind : op.kind = .commit) (hpassed : op.passed = false)
include hop hkind hpassed

theorem shapeCommitCheckDone_passes (h : s.commitFail? s.shape.pend op = none) :
    shapeCommitCheckDone s = { s with shape := { s.shape with op := some { op with passed := true } } } := by
  simp [shapeCommitCheckDone, hop, hkind, hpassed, h]

/-- A failed commit's fault, as SHP_FAIL names it. -/
def State.commitFails (s : State) (f : CheckFail) : State :=
  (((({ s with shape := { s.shape with op := none } }).setFld shpPage Fld.SHP_STATUS_BUSY 0).setFld shpPage Fld.SHP_FAIL_FAIL_PAGE f.pg).setFld
    shpPage Fld.SHP_FAIL_FIELD_OFFSET f.off).setFld shpPage Fld.SHP_FAIL_CODE f.code

theorem shapeCommitCheckDone_fails {f : CheckFail} (h : s.commitFail? s.shape.pend op = some f) :
    shapeCommitCheckDone s = (s.commitFails f).shapeRefuse 1 (if f.cross then f.code else 0x020F) f.off f.lsb := by
  simp only [shapeCommitCheckDone, hop, hkind, hpassed, h, and_self, if_true, State.commitFails]

end

theorem shapeRefuse_regsOutOnly (s : State) (op code off lsb : Nat) : RegsOutOnly s (s.shapeRefuse op code off lsb) :=
  ((s.setReg_regsOutOnly _ _).trans (State.setReg_regsOutOnly _ _ _)).trans (State.refuse_regsOutOnly _ _ _ _ _)

theorem shapeRefuse_last (s : State) {op : Nat} (hop : op < 256) (code off lsb : Nat) :
    (s.shapeRefuse op code off lsb).fld shpPage Fld.SHP_STATUS_LAST_OP = op ∧
      (s.shapeRefuse op code off lsb).fld shpPage Fld.SHP_STATUS_LAST_RESULT = code % 2 ^ 16 := by
  constructor
  · rw [State.shapeRefuse, refuse_fld _ _ _ _ _ _ _ (by decide) (by decide) (by decide), fld_setFld_other _ _ (by decide),
      fld_setFld_fits _ _ ⟨by decide, by decide, hop⟩]
  · rw [State.shapeRefuse, refuse_fld _ _ _ _ _ _ _ (by decide) (by decide) (by decide),
      State.fld_setFld_same _ _ _ _ (by decide) (by decide)]
    rfl

/-- A field of the SHP page that is neither LAST_OP nor LAST_RESULT nor of the refusal's own registers. -/
theorem shapeRefuse_fld_other (s : State) (op code off lsb : Nat) {f : Fld}
    (hkey : regKey shpPage f.off ≠ shpPage + 0x18 ∧ regKey shpPage f.off ≠ shpPage + 0x20 ∧ regKey shpPage f.off ≠ shpPage + 0x30)
    (hlast : regKey shpPage f.off ≠ regKey shpPage 0x108 ∨ (f.off = 0x108 ∧ f.hi < 8)) :
    (s.shapeRefuse op code off lsb).fld shpPage f = s.fld shpPage f := by
  obtain ⟨h18, h20, h30⟩ := hkey
  have hresult : regKey shpPage f.off ≠ regKey shpPage 0x108 ∨ (shpPage = shpPage ∧ f.off = 0x108 ∧ 31 < 64 ∧ (31 < f.lo ∨ f.hi < 16)) :=
    hlast.imp_right fun ⟨ho, hhi⟩ => ⟨rfl, ho, by decide, .inr (by omega)⟩
  have hop : regKey shpPage f.off ≠ regKey shpPage 0x108 ∨ (shpPage = shpPage ∧ f.off = 0x108 ∧ 15 < 64 ∧ (15 < f.lo ∨ f.hi < 8)) :=
    hlast.imp_right fun ⟨ho, hhi⟩ => ⟨rfl, ho, by decide, .inr hhi⟩
  rw [State.shapeRefuse, refuse_fld _ _ _ _ _ _ _ h18 h20 h30, fld_setFld_other _ _ hresult, fld_setFld_other _ _ hop]

theorem commitFails_flds (s : State) (f : CheckFail) :
    (s.commitFails f).fld shpPage Fld.SHP_STATUS_BUSY = 0 ∧ (s.commitFails f).fld shpPage Fld.SHP_FAIL_FAIL_PAGE = f.pg % 2 ^ 28 ∧
      (s.commitFails f).fld shpPage Fld.SHP_FAIL_FIELD_OFFSET = f.off % 2 ^ 16 ∧
      (s.commitFails f).fld shpPage Fld.SHP_FAIL_CODE = f.code % 2 ^ 16 := by
  unfold State.commitFails
  refine ⟨?_, ?_, ?_, ?_⟩
  · rw [fld_setFld_other _ _ (by decide), fld_setFld_other _ _ (by decide), fld_setFld_other _ _ (by decide), fld_setFld_fits _ _ (by decide)]
  · rw [fld_setFld_other _ _ (by decide), fld_setFld_other _ _ (by decide), State.fld_setFld_same _ _ _ _ (by decide) (by decide)]
    rfl
  · rw [fld_setFld_other _ _ (by decide), State.fld_setFld_same _ _ _ _ (by decide) (by decide)]
    rfl
  · rw [State.fld_setFld_same _ _ _ _ (by decide) (by decide)]
    rfl

/-- A failed commit leaves its fault in SHP_STATUS and SHP_FAIL, and ends the operation. -/
theorem commitFails_effect {s t : State} {f : CheckFail} {code : Nat} (ht : t = ((s.commitFails f).shapeRefuse 1 code f.off f.lsb).observe) :
    t.shape = { s.shape with op := none } ∧ t.fld shpPage Fld.SHP_STATUS_BUSY = 0 ∧ t.fld shpPage Fld.SHP_STATUS_LAST_OP = 1 ∧
      t.fld shpPage Fld.SHP_STATUS_LAST_RESULT = code % 2 ^ 16 ∧ t.fld shpPage Fld.SHP_FAIL_FAIL_PAGE = f.pg % 2 ^ 28 ∧
      t.fld shpPage Fld.SHP_FAIL_FIELD_OFFSET = f.off % 2 ^ 16 ∧ t.fld shpPage Fld.SHP_FAIL_CODE = f.code % 2 ^ 16 ∧
      t = { s with regs := t.regs, shape := t.shape, out := t.out }.observe := by
  obtain ⟨hbusy, hpage, hoff, hcode⟩ := commitFails_flds s f
  obtain ⟨hop, hres⟩ := shapeRefuse_last (s.commitFails f) (op := 1) (by decide) code f.off f.lsb
  have hother : ∀ g ∈ [Fld.SHP_STATUS_BUSY, Fld.SHP_FAIL_FAIL_PAGE, Fld.SHP_FAIL_FIELD_OFFSET, Fld.SHP_FAIL_CODE],
      ((s.commitFails f).shapeRefuse 1 code f.off f.lsb).fld shpPage g = (s.commitFails f).fld shpPage g := by
    intro g hg
    have hfree : (regKey shpPage g.off ≠ shpPage + 0x18 ∧ regKey shpPage g.off ≠ shpPage + 0x20 ∧ regKey shpPage g.off ≠ shpPage + 0x30) ∧
        (regKey shpPage g.off ≠ regKey shpPage 0x108 ∨ (g.off = 0x108 ∧ g.hi < 8)) := by
      revert g; decide
    exact shapeRefuse_fld_other _ _ _ _ _ hfree.1 hfree.2
  have hframe := shapeRefuse_regsOutOnly (s.commitFails f) 1 code f.off f.lsb
  generalize hu : (s.commitFails f).shapeRefuse 1 code f.off f.lsb = u at *
  subst ht
  refine ⟨?_, (hother _ (by simp)).trans hbusy, hop, hres, (hother _ (by simp)).trans hpage, (hother _ (by simp)).trans hoff,
    (hother _ (by simp)).trans hcode, ?_⟩
  · change u.shape = _
    rw [hframe]
    rfl
  · rw [hframe]
    rfl

/-- Settles O11: each write of SHP_CTRL by its bits, and the commit check by the fault it finds. -/
theorem shapeOperations : Obligations.ShapeOperations := by
  refine ⟨fun who c s h hpin hop => ⟨fun h1 h3 ov => ?commit, fun h0 h3 hprior hdirty hidle => ?revert, fun h0 h1 h2 => ?discard,
    fun h0 h1 h3 hfree => ?pin⟩, fun s op hop hkind hpassed => ⟨fun h => ?passes, fun f h => ?fails⟩⟩
  case commit => exact done_eq (shapeCommit_begins h hpin hop h1 h3 ov)
  case revert => exact done_eq ((shapeRevert_begins h hpin hop h0 h3).trans (beginRevert_goes_on hprior hdirty hidle _))
  case discard => exact done_eq (shapeDiscard_begins h hop h0 h1 h2)
  case pin => exact done_eq (shapePin_begins h hfree h0 h1 h3)
  case passes => exact done_eq (shapeCommitCheckDone_passes hop hkind hpassed h)
  case fails => exact ⟨_, done_eq (shapeCommitCheckDone_fails hop hkind hpassed h), commitFails_effect rfl⟩

/-! ### The swap (R30, R32, R35) -/

/-- LAST_OP's number of a swapped operation (Table 2.12). -/
def ShapeOpKind.number : ShapeOpKind → Nat
  | .commit => 1
  | .revert => 2

/-- The blocks after an operation's swap: what each block does on its new configuration. -/
def State.swapMoved (s : State) (op : ShapeOp) : State :=
  let old := s.shape.live
  let s := ({ s with shape := s.shape.swapped op.kind }).showGens
  let s := ((s.moveOwners old).reformSets old).mapRetired
  let s := s.applyOverrides
  let s := (s.applyParts old op.held).applyEnables old
  ((s.applyStroke old).quietStrokeOut.holdGens old.gen).raiseApplied

/-- The Shape unit after an operation's swap, all but the pin that follows it. -/
def State.swapApplied (s : State) (op : ShapeOp) : State :=
  (((s.swapMoved op).setFld shpPage Fld.SHP_STATUS_BUSY 0).setDirty).shapeDone op.kind.number

theorem shapeSwap_idle {s : State} (h : s.shape.op = none ∨ ∃ op, s.shape.op = some op ∧ op.passed = false) : shapeSwap s = s := by
  obtain h | ⟨op, h, hp⟩ := h
  · simp [shapeSwap, h]
  · simp [shapeSwap, h, hp]

theorem shapeSwap_passed {s : State} {op : ShapeOp} (h : s.shape.op = some op) (hp : op.passed = true) :
    shapeSwap s = if op.pinAfter then (s.swapApplied op).pinNow else s.swapApplied op := by
  simp only [shapeSwap, h, hp, State.swapApplied, State.swapMoved]
  cases op.kind <;> rfl

/-- What follows the switch of the banks leaves them alone. -/
theorem swapApplied_banks (s : State) (op : ShapeOp) : Banks { s with shape := s.shape.swapped op.kind } (s.swapApplied op) :=
  swap_banks (Banks.refl _) _ _ _ _

theorem ShapeOpKind.number_lt (k : ShapeOpKind) : k.number < 256 := by cases k <;> decide

theorem swapApplied_status (s : State) (op : ShapeOp) :
    (s.swapApplied op).fld shpPage Fld.SHP_STATUS_BUSY = 0 ∧ (s.swapApplied op).fld shpPage Fld.SHP_STATUS_LAST_RESULT = 0 ∧
      (s.swapApplied op).fld shpPage Fld.SHP_STATUS_LAST_OP = op.kind.number := by
  have hnumber := op.kind.number_lt
  refine ⟨?_, fld_setFld_fits _ _ (by decide), ?_⟩
  · rw [State.swapApplied, State.shapeDone, fld_setFld_other _ _ (by decide), fld_setFld_other _ _ (by decide), State.setDirty,
      State.setBit, fld_setFld_other _ _ (by decide), fld_setFld_fits _ _ (by decide)]
  · rw [State.swapApplied, State.shapeDone, fld_setFld_other _ _ (by decide), fld_setFld_fits _ _ ⟨by decide, by decide, hnumber⟩]

/-- The banks after a swap (R30, R35). -/
theorem Banks.swapped {s t : State} {kind : ShapeOpKind} (h : Banks { s with shape := s.shape.swapped kind } t) :
    (kind = .commit → t.shape.live = { s.shape.pend with gen := s.shape.nextGen } ∧ t.shape.highGen = s.shape.nextGen) ∧
    (kind = .revert → t.shape.live = s.shape.prior ∧ t.shape.highGen = s.shape.highGen) ∧
    t.shape.prior = s.shape.live ∧ t.shape.nextGen = genAfter t.shape.highGen ∧
    t.shape.pend = { t.shape.live with gen := t.shape.nextGen } ∧ t.shape.op = none ∧ t.shape.pin = s.shape.pin ∧
    t.shape.cur = s.shape.cur := by
  rw [h.live, h.highGen, h.prior, h.nextGen, h.pend, h.op, h.pin, h.cur]
  refine ⟨?_, ?_, rfl, rfl, rfl, rfl, rfl, rfl⟩
  · rintro rfl; exact ⟨rfl, rfl⟩
  · rintro rfl; exact ⟨rfl, rfl⟩

/-! ### The pin after an operation (R33, R36) -/

/-- The slot that does not hold the current pinned Shape. -/
def ShapeUnit.freeSlot (u : ShapeUnit) : Nat := match u.cur with | some 0 => 1 | _ => 0

theorem ShapeUnit.freeSlot_spec (u : ShapeUnit) : u.freeSlot < 2 ∧ u.cur ≠ some u.freeSlot := by
  unfold ShapeUnit.freeSlot
  split
  · next h => exact ⟨by decide, by simp [h]⟩
  · next h => exact ⟨by decide, fun e => h e⟩

theorem startPin_effect (s : State) : s.startPin.shape = { s.shape with pin := some ⟨s.shape.freeSlot, s.shape.live⟩ } ∧
    s.startPin.fld shpPage Fld.SHP_STATUS_PIN_BUSY = 1 ∧
    s.startPin.fld shpPage Fld.SHP_STATUS_BUSY = s.fld shpPage Fld.SHP_STATUS_BUSY ∧
    s.startPin.fld shpPage Fld.SHP_STATUS_LAST_RESULT = s.fld shpPage Fld.SHP_STATUS_LAST_RESULT ∧
    s.startPin.fld shpPage Fld.SHP_STATUS_LAST_OP = s.fld shpPage Fld.SHP_STATUS_LAST_OP :=
  ⟨rfl, fld_setFld_fits _ _ (by decide), fld_setFld_other _ _ (by decide), fld_setFld_other _ _ (by decide), fld_setFld_other _ _ (by decide)⟩

theorem pinNow_refused (s : State) (h : s.shape.pin ≠ none) :
    s.pinNow = s.shapeRefuse 3 0x0201 Fld.SHP_CTRL_PIN.off Fld.SHP_CTRL_PIN.lo := if_pos (Option.isSome_iff_ne_none.mpr h)

theorem pinNow_starts (s : State) (h : s.shape.pin = none) : s.pinNow = s.startPin := if_neg (by simp [h])

/-- What a swap leaves, as O12 lists it. -/
structure SwapLeft (s : State) (op : ShapeOp) (t : State) : Prop where
  banks : (op.kind = .commit → t.shape.live = { s.shape.pend with gen := s.shape.nextGen } ∧ t.shape.highGen = s.shape.nextGen) ∧
    (op.kind = .revert → t.shape.live = s.shape.prior ∧ t.shape.highGen = s.shape.highGen) ∧
    t.shape.prior = s.shape.live ∧ t.shape.nextGen = genAfter t.shape.highGen ∧
    t.shape.pend = { t.shape.live with gen := t.shape.nextGen } ∧ t.shape.op = none
  busy : t.fld shpPage Fld.SHP_STATUS_BUSY = 0
  done : op.pinAfter = false ∨ s.shape.pin = none →
    t.fld shpPage Fld.SHP_STATUS_LAST_RESULT = 0 ∧ t.fld shpPage Fld.SHP_STATUS_LAST_OP = op.kind.number
  noPin : op.pinAfter = false ∨ s.shape.pin ≠ none → t.shape.pin = s.shape.pin
  pinRefused : op.pinAfter = true → s.shape.pin ≠ none → t.fld shpPage Fld.SHP_STATUS_LAST_RESULT = 0x0201
  pinStarts : op.pinAfter = true → s.shape.pin = none →
    ∃ n < 2, t.shape.pin = some ⟨n, t.shape.live⟩ ∧ s.shape.cur ≠ some n ∧ t.fld shpPage Fld.SHP_STATUS_PIN_BUSY = 1

section
variable {s u : State} {op : ShapeOp} (hb : Banks { s with shape := s.shape.swapped op.kind } u)
  (hs : u.fld shpPage Fld.SHP_STATUS_BUSY = 0 ∧ u.fld shpPage Fld.SHP_STATUS_LAST_RESULT = 0 ∧
    u.fld shpPage Fld.SHP_STATUS_LAST_OP = op.kind.number)
include hb hs

theorem swapLeft_alone (hp : op.pinAfter = false) : SwapLeft s op u := by
  obtain ⟨hcommit, hrevert, hprior, hnext, hpend, hop, hpin, -⟩ := hb.swapped
  obtain ⟨hbusy, hresult, hlast⟩ := hs
  exact ⟨⟨hcommit, hrevert, hprior, hnext, hpend, hop⟩, hbusy, fun _ => ⟨hresult, hlast⟩, fun _ => hpin,
    fun h => absurd (hp.symm.trans h) (by decide), fun h => absurd (hp.symm.trans h) (by decide)⟩

theorem swapLeft_startPin (hp : op.pinAfter = true) (hfree : s.shape.pin = none) : SwapLeft s op u.startPin := by
  obtain ⟨hcommit, hrevert, hprior, hnext, hpend, hop, hpin, hcur⟩ := hb.swapped
  obtain ⟨hbusy, hresult, hlast⟩ := hs
  obtain ⟨hshape, hpb, hb', hr', hl'⟩ := startPin_effect u
  obtain ⟨hlt, hne⟩ := u.shape.freeSlot_spec
  refine ⟨?_, hb'.trans hbusy, fun _ => ⟨hr'.trans hresult, hl'.trans hlast⟩, fun h => ?_, fun _ h => absurd hfree h, fun _ _ => ?_⟩
  · rw [hshape]
    exact ⟨hcommit, hrevert, hprior, hnext, hpend, hop⟩
  · exact h.elim (fun h => absurd (hp.symm.trans h) (by decide)) (absurd hfree)
  · rw [hcur] at hne
    exact ⟨_, hlt, by rw [hshape], hne, hpb⟩

theorem swapLeft_pinRefused (hp : op.pinAfter = true) (hbusyPin : s.shape.pin ≠ none) :
    SwapLeft s op (u.shapeRefuse 3 0x0201 Fld.SHP_CTRL_PIN.off Fld.SHP_CTRL_PIN.lo) := by
  obtain ⟨hcommit, hrevert, hprior, hnext, hpend, hop, hpin, -⟩ := hb.swapped
  have hshape : (u.shapeRefuse 3 0x0201 Fld.SHP_CTRL_PIN.off Fld.SHP_CTRL_PIN.lo).shape = u.shape := by rw [shapeRefuse_regsOutOnly u]
  refine ⟨?_, ?_, fun h => ?_, fun _ => ?_, fun _ _ => ?_, fun _ h => absurd h hbusyPin⟩
  · rw [hshape]
    exact ⟨hcommit, hrevert, hprior, hnext, hpend, hop⟩
  · rw [shapeRefuse_fld_other _ _ _ _ _ (by decide) (by decide)]
    exact hs.1
  · exact h.elim (fun h => absurd (hp.symm.trans h) (by decide)) (fun h => absurd h hbusyPin)
  · rw [hshape, hpin]
  · exact (shapeRefuse_last u (by decide) _ _ _).2

end

theorem SwapLeft.observe {s t : State} {op : ShapeOp} (h : SwapLeft s op t) : SwapLeft s op t.observe :=
  ⟨h.banks, h.busy, h.done, h.noPin, h.pinRefused, h.pinStarts⟩

/-- The swap of a passed operation, by whether a pin follows it and whether one is under way. -/
theorem shapeSwap_left {s : State} {op : ShapeOp} (h : s.shape.op = some op) (hp : op.passed = true) : SwapLeft s op (shapeSwap s) := by
  have hb := swapApplied_banks s op
  have hs := swapApplied_status s op
  have hpin : (s.swapApplied op).shape.pin = s.shape.pin := hb.pin
  rw [shapeSwap_passed h hp]
  cases hafter : op.pinAfter with
  | false =>
    rw [if_neg Bool.false_ne_true]
    exact swapLeft_alone hb hs hafter
  | true =>
    rw [if_pos rfl]
    by_cases hfree : s.shape.pin = none
    · rw [pinNow_starts _ (hpin.trans hfree)]
      exact swapLeft_startPin hb hs hafter hfree
    · rw [pinNow_refused _ (fun e => hfree (hpin.symm.trans e))]
      exact swapLeft_pinRefused hb hs hafter hfree

/-! ### The end of a pin (R36, R41) -/

/-- The sequence number of a slot, 0 when it is empty. -/
def seqOf : Option NvmSlot → Nat
  | some n => n.seq
  | none => 0

/-- A pin's slot as its write left it, with the next sequence number. -/
def State.pinWritten (s : State) (p : PinOp) (ok : Bool) : State :=
  let slot : NvmSlot := ⟨ok, 1 + max (seqOf s.shape.slot0) (seqOf s.shape.slot1), p.bank⟩
  { s with shape := { s.shape with pin := none, slot0 := if p.slot = 0 then some slot else s.shape.slot0,
                                   slot1 := if p.slot = 0 then s.shape.slot1 else some slot } }.setFld shpPage Fld.SHP_STATUS_PIN_BUSY 0

/-- The error of a failed pin. -/
def pinError : ErrInfo := { source := srcOf shpPage, cls := 1, code := 0x020D }

section
variable {s : State} {p : PinOp} (h : s.shape.pin = some p)
include h

theorem shapePinDone_ok : shapePinDone s true = ((({ s.pinWritten p true with
    shape := { (s.pinWritten p true).shape with cur := some p.slot } }).setFld shpPage Fld.SHP_GEN_PP_PINNED p.bank.gen).shapeDone 3) := by
  simp only [shapePinDone, h]
  rfl

theorem shapePinDone_failed : shapePinDone s false =
    ((s.pinWritten p false).shapeRefuse 3 0x020D Fld.SHP_CTRL_PIN.off Fld.SHP_CTRL_PIN.lo).recordError pinError := by
  simp only [shapePinDone, h]
  rfl

end

theorem pinWritten_slots (s : State) {p : PinOp} (hp : p.slot < 2) (ok : Bool) :
    (∃ n, (s.pinWritten p ok).shape.slot? p.slot = some n ∧ n.bank = p.bank ∧ n.crcOk = ok ∧ seqOf s.shape.slot0 < n.seq ∧
      seqOf s.shape.slot1 < n.seq) ∧
    (s.pinWritten p ok).shape.slot? (1 - p.slot) = s.shape.slot? (1 - p.slot) := by
  obtain h | h : p.slot = 0 ∨ p.slot = 1 := by omega
  · refine ⟨⟨⟨ok, 1 + max (seqOf s.shape.slot0) (seqOf s.shape.slot1), p.bank⟩, ?_, rfl, rfl, ?_, ?_⟩, ?_⟩
    · simp [State.pinWritten, ShapeUnit.slot?, h]
    · dsimp only; omega
    · dsimp only; omega
    · simp [State.pinWritten, ShapeUnit.slot?, h]
  · refine ⟨⟨⟨ok, 1 + max (seqOf s.shape.slot0) (seqOf s.shape.slot1), p.bank⟩, ?_, rfl, rfl, ?_, ?_⟩, ?_⟩
    · simp [State.pinWritten, ShapeUnit.slot?, h]
    · dsimp only; omega
    · dsimp only; omega
    · simp [State.pinWritten, ShapeUnit.slot?, h]

/-- What the end of a pin leaves, whether it verified or not. -/
structure PinLeft (s : State) (p : PinOp) (ok : Bool) (t : State) : Prop where
  pin : t.shape.pin = none
  busy : t.fld shpPage Fld.SHP_STATUS_PIN_BUSY = 0
  lastOp : t.fld shpPage Fld.SHP_STATUS_LAST_OP = 3
  slots : (∃ n, t.shape.slot? p.slot = some n ∧ n.bank = p.bank ∧ n.crcOk = ok ∧ seqOf s.shape.slot0 < n.seq ∧
      seqOf s.shape.slot1 < n.seq) ∧ t.shape.slot? (1 - p.slot) = s.shape.slot? (1 - p.slot)
  banks : t.shape.live = s.shape.live ∧ t.shape.pend = s.shape.pend
  verified : ok = true → t.shape.cur = some p.slot ∧ t.fld shpPage Fld.SHP_GEN_PP_PINNED = p.bank.gen % 2 ^ 32 ∧
    t.fld shpPage Fld.SHP_STATUS_LAST_RESULT = 0
  failed : ok = false → t.shape.cur = s.shape.cur ∧ t.fld shpPage Fld.SHP_STATUS_LAST_RESULT = 0x020D
  rest : t.mem = s.mem ∧ t.rings = s.rings ∧ t.frames = s.frames

theorem PinLeft.observe {s t : State} {p : PinOp} {ok : Bool} (h : PinLeft s p ok t) : PinLeft s p ok t.observe :=
  ⟨h.pin, h.busy, h.lastOp, h.slots, h.banks, h.verified, h.failed, h.rest⟩

theorem shapePinDone_ok_left {s : State} {p : PinOp} (h : s.shape.pin = some p) (hp : p.slot < 2) : PinLeft s p true (shapePinDone s true) := by
  rw [shapePinDone_ok h]
  refine ⟨rfl, ?_, ?_, pinWritten_slots s hp true, ⟨rfl, rfl⟩, fun _ => ⟨rfl, ?_, fld_setFld_fits _ _ (by decide)⟩, nofun, rfl, rfl, rfl⟩
  · rw [State.shapeDone, fld_setFld_other _ _ (by decide), fld_setFld_other _ _ (by decide), fld_setFld_other _ _ (by decide)]
    exact fld_setFld_fits _ _ (by decide)
  · rw [State.shapeDone, fld_setFld_other _ _ (by decide), fld_setFld_fits _ _ (by decide)]
  · rw [State.shapeDone, fld_setFld_other _ _ (by decide), fld_setFld_other _ _ (by decide),
      State.fld_setFld_same _ _ _ _ (by decide) (by decide)]
    rfl

/-- Registers at and beyond 0x100 of a page outside the Crowns' stand when an error is recorded. -/
theorem ErrOnly.fld {s t : State} (h : ErrOnly s t) {pg : Nat} {f : Fld} (hk : ¬ErrKey (regKey pg f.off)) : t.fld pg f = s.fld pg f := by
  rw [State.fld, State.fld, h.regs _ hk]

theorem not_errKey_shp {f : Fld} (h : f ∈ [Fld.SHP_STATUS_PIN_BUSY, Fld.SHP_STATUS_LAST_OP, Fld.SHP_STATUS_LAST_RESULT]) :
    ¬ErrKey (regKey shpPage f.off) := by
  unfold ErrKey
  revert f
  decide

/-- A pin that failed: its slot is written, and the refusal and the error touch no slot, no memory and no bank. -/
theorem pinRefused_left {s u v : State} {p : PinOp}
    (hslots : (∃ n, (s.pinWritten p false).shape.slot? p.slot = some n ∧ n.bank = p.bank ∧ n.crcOk = false ∧ seqOf s.shape.slot0 < n.seq ∧
      seqOf s.shape.slot1 < n.seq) ∧ (s.pinWritten p false).shape.slot? (1 - p.slot) = s.shape.slot? (1 - p.slot))
    (hrefused : RegsOutOnly (s.pinWritten p false) u) (hbusy : u.fld shpPage Fld.SHP_STATUS_PIN_BUSY = 0)
    (hlast : u.fld shpPage Fld.SHP_STATUS_LAST_OP = 3 ∧ u.fld shpPage Fld.SHP_STATUS_LAST_RESULT = 0x020D) (herr : ErrOnly u v) :
    PinLeft s p false v := by
  have hv : v = { s.pinWritten p false with regs := v.regs, errs := v.errs, pins := v.pins, out := v.out } :=
    herr.eq.trans (congrArg (fun x : State => { x with regs := v.regs, errs := v.errs, pins := v.pins, out := v.out }) hrefused)
  have hshape : v.shape = (s.pinWritten p false).shape := by rw [hv]
  refine ⟨by rw [hshape]; rfl, (herr.fld (not_errKey_shp (by simp))).trans hbusy, (herr.fld (not_errKey_shp (by simp))).trans hlast.1,
    by rw [hshape]; exact hslots, by rw [hshape]; exact ⟨rfl, rfl⟩, nofun,
    fun _ => ⟨by rw [hshape]; rfl, (herr.fld (not_errKey_shp (by simp))).trans hlast.2⟩, ?_⟩
  rw [hv]
  exact ⟨rfl, rfl, rfl⟩

theorem shapePinDone_failed_left {s : State} {p : PinOp} (h : s.shape.pin = some p) (hp : p.slot < 2) :
    PinLeft s p false (shapePinDone s false) := by
  rw [shapePinDone_failed h]
  have hlast := shapeRefuse_last (s.pinWritten p false) (op := 3) (by decide) 0x020D Fld.SHP_CTRL_PIN.off Fld.SHP_CTRL_PIN.lo
  have hbusy : ((s.pinWritten p false).shapeRefuse 3 0x020D Fld.SHP_CTRL_PIN.off Fld.SHP_CTRL_PIN.lo).fld shpPage Fld.SHP_STATUS_PIN_BUSY = 0 :=
    (shapeRefuse_fld_other _ _ _ _ _ (by decide) (by decide)).trans (fld_setFld_fits _ _ (by decide))
  exact pinRefused_left (pinWritten_slots s hp false) (shapeRefuse_regsOutOnly (s.pinWritten p false) ..) hbusy hlast
    (State.recordError_errOnly _ (by decide))

/-- Settles O12: a swap by the pin that follows it, and a pin's end by whether its read-back verified. -/
theorem shapeSwap_and_pin : Obligations.ShapeSwap := by
  refine ⟨fun s => ⟨fun op h hp => ⟨_, rfl, ?swap⟩, fun h => done_eq (shapeSwap_idle h)⟩, fun s p h hp ok => ⟨_, rfl, ?pin⟩⟩
  case swap =>
    obtain ⟨⟨hcommit, hrevert, hprior, hnext, hpend, hop⟩, hbusy, hdone, hno, href, hstart⟩ := (shapeSwap_left h hp).observe
    exact ⟨hcommit, hrevert, hprior, hnext, hpend, hop, hbusy, hdone, hno, href, hstart⟩
  case pin =>
    have hleft : PinLeft s p ok (shapePinDone s ok) := by
      cases ok with
      | true => exact shapePinDone_ok_left h hp
      | false => exact shapePinDone_failed_left h hp
    obtain ⟨hpin, hbusy, hlast, ⟨hslot, hother⟩, ⟨hlive, hpend⟩, hok, hbad, hrest⟩ := hleft.observe
    exact ⟨hpin, hbusy, hlast, hslot, hother, hlive, hpend, hok, hbad, hrest⟩

end Sys2Proof.Machine
end

section
/-! The stroke source, the calendar clock and PTP: one equation per case of their events, and O13 and O14. -/
namespace Sys2Proof.Machine

open Sys2Proof

/-! ### The stroke source (R47, R53) -/

theorem setLock_other {s : State} {l : Nat} (h : s.lock ≠ l) :
    s.setLock l = (s.setFld strPage Fld.STR_STATUS_LOCK l).raise strPage 16 := by rw [State.setLock, if_neg h]

theorem setLock_regsOutOnly (s : State) (l : Nat) : RegsOutOnly s (s.setLock l) := by
  unfold State.setLock
  split
  · rfl
  · exact (State.setReg_regsOutOnly ..).trans (State.raise_regsOutOnly ..)

section
variable {s : State} (hrun : s.running = true)
include hrun

theorem strokeInEdge_unlocked {off : Int} (hsrc : s.stroke.source = 1) (hl : s.lock = 0) :
    strokeInEdge s off = s.unlockedEdge off := by simp [strokeInEdge, hrun, hsrc, hl]

theorem strokeInEdge_accepted {off : Int} (hsrc : s.stroke.source = 1) (hl : s.lock ≠ 0) (hwin : off.natAbs ≤ s.edgeWindow) :
    strokeInEdge s off = s.modStroke (fun u => { u with edge := true, chain := u.chain + 1, missed := 0 }) := by
  simp [strokeInEdge, hrun, hsrc, hl, hwin]

theorem strokeInEdge_ignored {off : Int} (hsrc : s.stroke.source = 1) (hl : s.lock ≠ 0) (hwin : s.edgeWindow < off.natAbs) :
    strokeInEdge s off = s.ignoreEdge := by
  simp [strokeInEdge, hrun, hsrc, hl, Nat.not_le.mpr hwin]

theorem strokeSourcePresent_present (hp : s.sourcePresent = true) :
    strokeSourcePresent s = (s.modStroke (fun u => { u with inTol := 0, missed := 0 })).setLock 1 := by
  simp [strokeSourcePresent, hrun, hp]

theorem strokeSourceLost_missed (hsrc : s.stroke.source = 1) (hm : 4 ≤ s.stroke.missed) :
    strokeSourceLost s = s.loseSource := by simp [strokeSourceLost, hrun, hsrc, hm]

theorem holdoverExpiry_expired (hl : s.lock = 3) (hleft : s.fld strPage Fld.STR_STATUS_HOLDOVER_LEFT = 0) :
    holdoverExpiry s = ((s.modStroke (fun u => { u with chain := 0 })).setLock 0).raise strPage 19 := by
  simp [holdoverExpiry, hrun, hl, hleft]

theorem strokeLockAcquired_locked {ptpNs : Nat} (hl : s.lock = 1) (htol : 16 ≤ s.stroke.inTol) :
    strokeLockAcquired s ptpNs = (s.modStroke (fun u => { u with
      disciplined := true, missed := 0,
      stepDue := decide (s.stroke.source = 2 ∧ s.strokeNo < s.ptpStroke ptpNs),
      stretch := decide (s.stroke.source = 2 ∧ s.ptpStroke ptpNs < s.strokeNo) })).setLock 2 := by
  simp [strokeLockAcquired, hrun, hl, htol]

end

/-- An ignored edge is counted and raised, and ends the chain. -/
theorem ignoreEdge_eq (s : State) :
    s.ignoreEdge = { (s.addFld strPage Fld.STR_IN_ERR_COUNT 1).raise strPage 21 with stroke := { s.stroke with chain := 0 } } := by
  rw [State.ignoreEdge, State.modStroke, State.raise_stroke, State.addFld_stroke]

/-- An edge in UNLOCKED with no chain, or after the edge the chain expected, starts a chain. -/
theorem unlockedEdge_first {s : State} {off : Int}
    (h : s.stroke.chain = 0 ∨
      s.stroke.nextEdge + s.edgeWindow < s.stroke.since * (10 * s.stroke.period) + off - s.stroke.anchor) :
    s.unlockedEdge off = s.modStroke (fun u => u.startChain off) := by
  rw [State.unlockedEdge, if_pos h]

theorem unlockedEdge_inWindow {s : State} {off : Int} (hc : s.stroke.chain ≠ 0)
    (h : (s.stroke.since * (10 * s.stroke.period) + off - s.stroke.anchor - s.stroke.nextEdge).natAbs ≤ s.edgeWindow) :
    s.unlockedEdge off = s.modStroke (fun u =>
      { u with edge := true, chain := u.chain + 1, missed := 0, lastEdge := u.lastEdge + 1 }) := by
  rw [State.unlockedEdge, if_neg (by rintro (h0 | h0) <;> omega), if_pos h]

theorem unlockedEdge_early {s : State} {off : Int} (hc : s.stroke.chain ≠ 0)
    (h : s.stroke.since * (10 * s.stroke.period) + off - s.stroke.anchor + s.edgeWindow < s.stroke.nextEdge) :
    s.unlockedEdge off = s.ignoreEdge := by
  rw [State.unlockedEdge, if_neg (by rintro (h0 | h0) <;> omega), if_neg (by omega)]

theorem sourcePresent_of {s : State}
    (h : s.stroke.source = 1 ∧ ((s.lock = 0 ∧ 4 ≤ s.stroke.chain) ∨ (s.lock = 3 ∧ 16 ≤ s.stroke.chain)) ∨
      s.stroke.source = 2 ∧ ((s.lock = 0 ∧ s.stroke.ptpSlave = true) ∨ (s.lock = 3 ∧ s.ptpPresent = true))) :
    s.sourcePresent = true ∧ s.lock ≠ 1 := by
  rcases h with ⟨hsrc, ⟨hl, h⟩ | ⟨hl, h⟩⟩ | ⟨hsrc, ⟨hl, h⟩ | ⟨hl, h⟩⟩ <;> simp [State.sourcePresent, hsrc, hl, h]

/-- What LOCKED leaves when its source is lost: the chain, the tolerance count and a due step or stretch, and PTP_ON_ALT. -/
def State.sourceDropped (s : State) : State :=
  (s.modStroke (fun u => { u with chain := 0, inTol := 0, stretch := false, stepDue := false })).setFld strPage Fld.STR_STATUS_PTP_ON_ALT 0

theorem sourceDropped_lock (s : State) : s.sourceDropped.lock = s.lock := fld_setFld_other _ _ (by decide)

/-- HOLDOVER with its 10,000 strokes. -/
def State.heldOver (s : State) : State := s.sourceDropped.setFld strPage Fld.STR_STATUS_HOLDOVER_LEFT 10000

theorem heldOver_lock (s : State) : s.heldOver.lock = s.lock := (fld_setFld_other _ _ (by decide)).trans (sourceDropped_lock s)

/-- LOCKED that loses its source goes to HOLDOVER. -/
theorem loseSource_locked {s : State} (hl : s.lock = 2) :
    s.loseSource = (s.heldOver.setFld strPage Fld.STR_STATUS_LOCK 3).raise strPage 16 := by
  have hl1 : s.sourceDropped.lock ≠ 1 := by simp [sourceDropped_lock, hl]
  have hl2 : s.sourceDropped.lock = 2 := by rw [sourceDropped_lock, hl]
  have hset : s.loseSource = s.heldOver.setLock 3 := (if_neg hl1).trans (if_pos hl2)
  rw [hset, setLock_other (by simp [heldOver_lock, hl])]

/-- What a loss of the source in LOCKED leaves. -/
structure HeldOver (s t : State) : Prop where
  lock : t.lock = 3
  left : t.fld strPage Fld.STR_STATUS_HOLDOVER_LEFT = 10000
  alt : t.fld strPage Fld.STR_STATUS_PTP_ON_ALT = 0
  stroke : t.stroke = { s.stroke with chain := 0, inTol := 0, stretch := false, stepDue := false }
  strokeNo : t.strokeNo = s.strokeNo
  eq : t = { s with regs := t.regs, stroke := t.stroke, out := t.out }

theorem heldOver_of_locked {s : State} (hl : s.lock = 2) : HeldOver s s.loseSource := by
  have hraise (f : Fld) (h : regKey strPage f.off ≠ strPage + 0x30) :
      s.loseSource.fld strPage f = (s.heldOver.setFld strPage Fld.STR_STATUS_LOCK 3).fld strPage f := by
    rw [loseSource_locked hl, raise_fld _ _ _ _ _ h]
  have hlock : s.loseSource.lock = 3 := (hraise _ (by decide)).trans (fld_setFld_fits _ _ (by decide))
  have hleft : s.loseSource.fld strPage Fld.STR_STATUS_HOLDOVER_LEFT = 10000 := by
    rw [hraise _ (by decide), fld_setFld_other _ _ (by decide)]
    exact fld_setFld_fits _ _ (by decide)
  have halt : s.loseSource.fld strPage Fld.STR_STATUS_PTP_ON_ALT = 0 := by
    rw [hraise _ (by decide), fld_setFld_other _ _ (by decide), State.heldOver, fld_setFld_other _ _ (by decide)]
    exact fld_setFld_fits _ _ (by decide)
  have hno : s.loseSource.strokeNo = s.strokeNo := by
    rw [State.strokeNo, loseSource_locked hl, raise_reg _ _ _ _ (by decide), setFld_reg _ _ _ _ _ (by decide), State.heldOver,
      setFld_reg _ _ _ _ _ (by decide), State.sourceDropped, setFld_reg _ _ _ _ _ (by decide)]
    rfl
  have hroot : RegsOutOnly (s.modStroke (fun u => { u with chain := 0, inTol := 0, stretch := false, stepDue := false })) s.loseSource := by
    rw [loseSource_locked hl]
    exact ((State.setReg_regsOutOnly ..).trans ((State.setReg_regsOutOnly ..).trans (State.setReg_regsOutOnly ..))).trans
      (State.raise_regsOutOnly ..)
  have hstroke : s.loseSource.stroke = { s.stroke with chain := 0, inTol := 0, stretch := false, stepDue := false } := by rw [hroot]; rfl
  exact ⟨hlock, hleft, halt, hstroke, hno, by rw [hstroke]; exact hroot⟩

/-- Settles O13: each event runs the case of its function that the state selects. -/
theorem strokeSource : Obligations.StrokeSource := by
  intro s hrun
  refine ⟨fun off hsrc => ?edges, fun hp => ?present, fun ptpNs hl htol => ?acquired, fun hsrc hm hl => ?lost,
    fun hl hleft => ?expired⟩
  case edges =>
    intro u win e ignored first d due
    refine ⟨fun hl h => ?_, fun hl h => ?_, fun hl hc => ?_, fun hl hc => ⟨fun h => ?_, fun h => ?_, fun h => ?_⟩⟩
    · exact done_eq (strokeInEdge_accepted hrun hsrc hl h)
    · exact done_eq ((strokeInEdge_ignored hrun hsrc hl h).trans (ignoreEdge_eq s))
    · exact done_eq ((strokeInEdge_unlocked hrun hsrc hl).trans (unlockedEdge_first (.inl hc)))
    · exact done_eq ((strokeInEdge_unlocked hrun hsrc hl).trans (unlockedEdge_inWindow hc h))
    · exact done_eq ((strokeInEdge_unlocked hrun hsrc hl).trans (unlockedEdge_first (.inr h)))
    · exact done_eq ((strokeInEdge_unlocked hrun hsrc hl).trans ((unlockedEdge_early hc h).trans (ignoreEdge_eq s)))
  case present =>
    obtain ⟨hpres, hl⟩ := sourcePresent_of hp
    exact done_eq ((strokeSourcePresent_present hrun hpres).trans (setLock_other hl))
  case acquired =>
    exact done_eq ((strokeLockAcquired_locked hrun hl htol).trans (setLock_other (fun h => absurd (hl.symm.trans h) (by decide))))
  case lost =>
    refine ⟨_, done_eq (strokeSourceLost_missed hrun hsrc hm), ?_⟩
    obtain ⟨h1, h2, h3, h4, h5, h6⟩ := heldOver_of_locked hl
    exact ⟨h1, h2, h3, h4, h5, congrArg State.observe h6⟩
  case expired =>
    exact done_eq ((holdoverExpiry_expired hrun hl hleft).trans (congrArg (State.raise · strPage 19)
      (setLock_other (fun h => absurd (hl.symm.trans h) (by decide)))))

/-! ### The calendar clock (R66 to R70) -/

theorem ccTimeSRead_let {s : State} {who : Requester} (ha : s.arrives who = true) (hr : s.mayRead who ccPage = true) :
    ccTimeSRead s who = (s.modCal (fun c => { c with latched := c.frac })).emit (.data (leBytes 8 s.cal.secs)) := by
  simp [ccTimeSRead, ha, hr]

section
variable {s : State} {who : Requester} (hin : s.letsIn who ccPage)
include hin

theorem ccTimeFWrite_privileged (v : Word64) (hw : privileged who = true) :
    ccTimeFWrite s who v = s.modCal (fun c => { c with heldFrac := getBits v 31 0 }) := by
  rw [ccTimeFWrite, letIn_letsIn hin, if_pos hw]

theorem ccTimeSWrite_privileged (v : Word64) (hw : privileged who = true) :
    ccTimeSWrite s who v = (s.modCal (fun c => { c with secs := v.toNat, frac := c.heldFrac, heldFrac := 0 })).setFld ccPage
      Fld.CC_STATUS_TIME_INVALID 0 := by
  rw [ccTimeSWrite, letIn_letsIn hin, if_pos hw]

theorem ccTimeFWrite_refused (v : Word64) (hw : privileged who = false) : ccTimeFWrite s who v = s.refuse ccPage 0x0104 0x108 0 := by
  rw [ccTimeFWrite, letIn_letsIn hin, if_neg (by simp [hw])]

theorem ccTimeSWrite_refused (v : Word64) (hw : privileged who = false) : ccTimeSWrite s who v = s.refuse ccPage 0x0104 0x100 0 := by
  rw [ccTimeSWrite, letIn_letsIn hin, if_neg (by simp [hw])]

end

section
variable {s : State} (hmain : s.pwr.mainLost = false)
include hmain

theorem xtalStop_running (hx : s.fld ccPage Fld.CC_STATUS_XTAL_FAIL = 0) :
    xtalStop s = (((s.modCal (fun c => { c with onOsc := true, xtalStopped := true, returning := false })).setFld
      ccPage Fld.CC_STATUS_XTAL_FAIL 1).setFld ccPage Fld.CC_STATUS_TIME_INVALID 1).calRecord 0xF007 := by
  simp [xtalStop, hmain, hx]

theorem xtalCheck_ticking (hx : s.fld ccPage Fld.CC_STATUS_XTAL_FAIL = 1) :
    xtalCheck s true = ((s.modCal (fun c => { c with returning := true, xtalStopped := false })).setFld ccPage
      Fld.CC_STATUS_XTAL_FAIL 0).calRecord 0xF008 := by
  simp [xtalCheck, hmain, hx]

theorem vbatSample_level (mV : Nat) :
    vbatSample s mV = s.setFld ccPage Fld.CC_STATUS_VBAT_LOW (if mV < 2500 then 1 else 0) := by
  simp [vbatSample, hmain, State.setBit]

end

theorem xtalCheck_silent (s : State) : xtalCheck s false = s := by simp [xtalCheck]

theorem crystalTick_running {s : State} (h : s.pwr.mainLost = false ∨ s.fld ccPage Fld.CC_STATUS_XTAL_FAIL = 0) :
    crystalTick s = s.modCal (fun c => { c with
      frac := ((s.cal.frac + 131072 + (s.cal.trimAcc + 131072 * s.trimPpm) / 100000000 : Int) % (2 ^ 32 : Int)).toNat,
      secs := (c.secs + ((s.cal.frac + 131072 + (s.cal.trimAcc + 131072 * s.trimPpm) / 100000000 : Int) / (2 ^ 32 : Int)).toNat) % 2 ^ 64,
      trimAcc := (s.cal.trimAcc + 131072 * s.trimPpm : Int) % 100000000,
      onOsc := if c.returning then false else c.onOsc, returning := false }) := by
  rw [crystalTick, if_neg (by rcases h with h | h <;> simp [h])]

/-! ### PTP messages and the load of the counter (R51, R54) -/

section
variable {s : State} (hrun : s.running = true)
include hrun

theorem ptpMessageRx_designated {port : Nat} {m : PtpMessage} (hsrc : s.stroke.source = 2) (hport : 2 ≤ s.portState port)
    (hdom : m.domain = s.sh strPage Fld.STR_CFG_PTP_DOMAIN) (hdes : port = s.sh strPage Fld.STR_CFG_PTP_PORT)
    (halt : s.sh strPage Fld.STR_CFG_PTP_ALT_EN = 0 ∨ port ≠ s.sh strPage Fld.STR_CFG_PTP_ALT_PORT) :
    ptpMessageRx s port m =
      (s.modStroke (fun u => { u with ptpSlave := slaveAfter m u.ptpSlave })).followPtp.ptpAnswer port m.kind := by
  have hsh (f : Fld) (g : StrokeUnit → StrokeUnit) : (s.modStroke g).sh strPage f = s.sh strPage f := rfl
  rw [ptpMessageRx, if_neg (by simp [hrun, hsrc, State.ptpCarries, hport, hdom]), if_pos hdes]
  dsimp only
  rw [if_neg]
  rw [hsh, hsh]
  rcases halt with h | h
  · simp [h]
  · simp [h]

theorem ptpMessageTx_slave {port : Nat} (hsrc : s.stroke.source = 2) (hport : 2 ≤ s.portState port)
    (hdes : port = s.sh strPage Fld.STR_CFG_PTP_PORT) (hslave : s.stroke.ptpSlave = true) :
    ptpMessageTx s port = s.emit (.ptp port 1) := by
  rw [ptpMessageTx, if_neg (by simp [hrun, hsrc, State.ptpCarries, hport]), if_pos (by simp [State.ptpSlaveOn, hdes, hslave])]

end

theorem followPtp_regsOutOnly (s : State) : RegsOutOnly s s.followPtp := by
  unfold State.followPtp
  extract_lets altEn onAlt
  split
  · rfl
  · split <;> rfl

theorem followPtp_sh (s : State) (pg : Nat) (f : Fld) : s.followPtp.sh pg f = s.sh pg f := by rw [followPtp_regsOutOnly s]; rfl

/-- The designated port is slave-only (R51): the unit is no master there. -/
theorem ptpMasterOn_designated {s : State} {port : Nat} (h : port = s.sh strPage Fld.STR_CFG_PTP_PORT) : s.ptpMasterOn port = false := by
  simp [State.ptpMasterOn, h]

theorem ptpAnswer_other (s : State) {port kind : Nat} (h1 : kind = 1 → s.ptpMasterOn port = false) (h2 : kind ≠ 2) :
    s.ptpAnswer port kind = s := by
  rw [State.ptpAnswer, if_neg (by rintro ⟨hk, hm⟩; simp [h1 hk] at hm), if_neg h2]

theorem ptpAnswer_pdelay (s : State) (port : Nat) : s.ptpAnswer port 2 = (s.emit (.ptp port 3)).emit (.ptp port 10) := rfl

section
variable {s : State} {who : Requester} (hin : s.letsIn who strPage)
include hin

theorem strLoad_armed (hw : privileged who = true) (hsrc : s.sh strPage Fld.STR_CFG_SOURCE ≠ 2) :
    strLoad s who = s.modStroke (fun u => { u with armed := some (s.reg (strPage + Reg.STR_COUNT_LOAD)).toNat }) := by
  rw [strLoad, letIn_letsIn hin, if_neg (by simp [hw]), if_neg hsrc]

theorem strLoad_ptp (hw : privileged who = true) (hsrc : s.sh strPage Fld.STR_CFG_SOURCE = 2) :
    strLoad s who = s.refuse strPage 0x0102 0x158 0 := by
  rw [strLoad, letIn_letsIn hin, if_neg (by simp [hw]), if_pos hsrc]
  rfl

theorem strLoad_unprivileged (hw : privileged who = false) : strLoad s who = s.refuse strPage 0x0104 0x158 0 := by
  rw [strLoad, letIn_letsIn hin, if_pos (by simp [hw])]
  rfl

end

/-- Settles O14: each event runs the case of its function that the state and the requester select. -/
theorem clocksAndPtp : Obligations.ClocksAndPtp := by
  refine ⟨fun s => ⟨fun who ha hr => done_eq (ccTimeSRead_let ha hr), fun who v hin hw => ?set, fun who v hin hw => ?refused,
    fun hm hx => done_eq (xtalStop_running hm hx), fun hm hx => ⟨done_eq (xtalCheck_ticking hm hx), done_eq (xtalCheck_silent s)⟩,
    fun mV hm => done_eq (vbatSample_level hm mV), fun h => done_eq (crystalTick_running h)⟩,
    fun s => ⟨fun port msg hrun hsrc hport hdom hdes halt => ?rx, fun port hrun hsrc hport hdes hslave =>
      done_eq (ptpMessageTx_slave hrun hsrc hport hdes hslave), fun who hin => ?load, done_eq rfl⟩⟩
  case set => exact ⟨done_eq (ccTimeFWrite_privileged hin v hw), done_eq (ccTimeSWrite_privileged hin v hw)⟩
  case refused => exact ⟨done_eq (ccTimeFWrite_refused hin v hw), done_eq (ccTimeSWrite_refused hin v hw)⟩
  case rx =>
    intro u
    have hmaster (g : StrokeUnit → StrokeUnit) : (s.modStroke g).followPtp.ptpMasterOn port = false :=
      ptpMasterOn_designated (hdes.trans (followPtp_sh (s.modStroke g) _ _).symm)
    have hmsg := ptpMessageRx_designated (m := msg) hrun hsrc hport hdom hdes halt
    refine ⟨fun hk => ?_, fun hk hk2 => ?_, fun hk => ?_⟩
    · have hs : slaveAfter msg = fun _ => msg.slave := by funext; rw [slaveAfter, if_pos hk]
      rw [hs, ptpAnswer_other _ (fun _ => hmaster _) (by simp [hk])] at hmsg
      exact done_eq hmsg
    · have hs : slaveAfter msg = fun was => was && msg.slave := by funext; rw [slaveAfter, if_neg hk]
      rw [hs, ptpAnswer_other _ (fun _ => hmaster _) hk2] at hmsg
      exact done_eq hmsg
    · have hs : slaveAfter msg = fun was => was && msg.slave := by funext; rw [slaveAfter, if_neg (by simp [hk])]
      rw [hs, hk, ptpAnswer_pdelay] at hmsg
      exact done_eq hmsg
  case load =>
    exact ⟨fun hw hsrc => done_eq (strLoad_armed hin hw hsrc), fun hw hsrc => done_eq (strLoad_ptp hin hw hsrc),
      fun hw => done_eq (strLoad_unprivileged hin hw)⟩

end Sys2Proof.Machine
end

section
/-! The stroke boundary (R43, R53, R54, R56, R436) where no partition is defined and nothing waits for it, and O15. -/
namespace Sys2Proof.Machine

open Sys2Proof

/-- `t` differs from `s` in what the stroke unit holds, in registers and in outputs at most, and the pending change of the source is as
it was. -/
structure StrokeTouched (s t : State) : Prop where
  eq : t = { s with regs := t.regs, stroke := t.stroke, out := t.out }
  change : t.stroke.change = s.stroke.change

theorem StrokeTouched.trans {s t u : State} (h : StrokeTouched s t) (k : StrokeTouched t u) : StrokeTouched s u where
  eq := k.eq.trans (congrArg (fun x => { x with regs := u.regs, stroke := u.stroke, out := u.out }) h.eq)
  change := k.change.trans h.change

/-- As above, and the counter is as it was. -/
structure StrokeUnitOnly (s t : State) : Prop extends StrokeTouched s t where
  strokeNo : t.strokeNo = s.strokeNo

theorem StrokeUnitOnly.refl (s : State) : StrokeUnitOnly s s := ⟨⟨rfl, rfl⟩, rfl⟩

theorem StrokeUnitOnly.trans {s t u : State} (h : StrokeUnitOnly s t) (k : StrokeUnitOnly t u) : StrokeUnitOnly s u where
  toStrokeTouched := h.toStrokeTouched.trans k.toStrokeTouched
  strokeNo := k.strokeNo.trans h.strokeNo

theorem StrokeUnitOnly.ite {s t u : State} {c : Prop} [Decidable c] (h : StrokeUnitOnly s t) (k : StrokeUnitOnly s u) :
    StrokeUnitOnly s (if c then t else u) := by
  split
  · exact h
  · exact k

theorem StrokeUnitOnly.modStroke (s : State) {f : StrokeUnit → StrokeUnit} (h : ∀ u, (f u).change = u.change) :
    StrokeUnitOnly s (s.modStroke f) := ⟨⟨rfl, h _⟩, rfl⟩

theorem StrokeUnitOnly.setFld (s : State) {pg : Nat} {f : Fld} (h : strPage + Reg.STR_COUNT ≠ regKey pg f.off) (v : Nat) :
    StrokeUnitOnly s (s.setFld pg f v) :=
  ⟨⟨rfl, rfl⟩, congrArg BitVec.toNat (setFld_reg _ _ _ _ _ h)⟩

theorem StrokeUnitOnly.addFld (s : State) {pg : Nat} {f : Fld} (h : strPage + Reg.STR_COUNT ≠ regKey pg f.off) (k : Nat) :
    StrokeUnitOnly s (s.addFld pg f k) := .setFld s h _

theorem StrokeUnitOnly.raise (s : State) {pg : Nat} (h : strPage + Reg.STR_COUNT ≠ pg + 0x30) (b : Nat) :
    StrokeUnitOnly s (s.raise pg b) where
  eq := by rw [State.raise_stroke]; exact s.raise_regsOutOnly pg b
  strokeNo := congrArg BitVec.toNat (raise_reg _ _ _ _ h)
  change := by rw [State.raise_stroke]

theorem StrokeUnitOnly.refuse (s : State) (code off lsb : Nat) : StrokeUnitOnly s (s.refuse strPage code off lsb) where
  eq := by rw [State.refuse_stroke]; exact s.refuse_regsOutOnly ..
  strokeNo := congrArg BitVec.toNat (refuse_reg _ _ _ _ _ _ (by decide) (by decide) (by decide))
  change := by rw [State.refuse_stroke]

/-! ### The counter's next value (R43, R53, R54) -/

theorem countStep_unitOnly (s : State) : StrokeUnitOnly s s.countStep :=
  (StrokeUnitOnly.addFld s (by decide) 1).trans (.raise _ (by decide) 20)

/-- The next value with no load armed: the step that is due, or one more (R53). -/
def State.nextUnarmed (s : State) (k : Nat) : Nat := if s.stroke.stepDue && decide (s.strokeNo + 1 < k) then k else s.strokeNo + 1

/-- The state once the due step and the armed value are taken. -/
def State.armTaken (s : State) : State := s.modStroke (fun u => { u with stepDue := false, armed := none })

theorem armTaken_unitOnly (s : State) : StrokeUnitOnly s s.armTaken := .modStroke s (fun _ => rfl)

/-- The state once a due step is counted and the armed value is taken (R53, R54). -/
def State.stepTaken (s : State) (k : Nat) : State :=
  if s.stroke.stepDue && decide (s.strokeNo + 1 < k) then s.armTaken.countStep else s.armTaken

theorem stepTaken_unitOnly (s : State) (k : Nat) : StrokeUnitOnly s (s.stepTaken k) :=
  .ite ((armTaken_unitOnly s).trans (countStep_unitOnly _)) (armTaken_unitOnly s)

theorem nextCount_unarmed {s : State} {k : Nat} (h : s.stroke.armed = none) : s.nextCount k = (s.stepTaken k, s.nextUnarmed k) := by
  rw [State.nextCount, h]
  rfl

theorem nextCount_notAhead {s : State} {k v : Nat} (h : s.stroke.armed = some v) (hv : v ≤ s.nextUnarmed k) :
    s.nextCount k = ((s.stepTaken k).refuse strPage 0x0102 Reg.STR_COUNT_LOAD, s.nextUnarmed k) := by
  rw [State.nextCount, h]
  exact if_pos hv

theorem nextCount_loaded {s : State} {k v : Nat} (h : s.stroke.armed = some v) (hv : ¬v ≤ s.nextUnarmed k) :
    s.nextCount k = (s.armTaken.countStep, v) := by
  rw [State.nextCount, h]
  exact if_neg hv

theorem nextUnarmed_eq (s : State) (k : Nat) :
    s.nextUnarmed k = if s.stroke.stepDue then max (s.strokeNo + 1) k else s.strokeNo + 1 := by
  rw [State.nextUnarmed]
  cases s.stroke.stepDue
  · rfl
  · by_cases hk : s.strokeNo + 1 < k
    · simp [hk, Nat.max_eq_right (Nat.le_of_lt hk)]
    · simp [hk, Nat.max_eq_left (Nat.not_lt.mp hk)]

/-- The counter takes the greatest of the next value, the step that is due and the armed load, and counting changes no more than the
stroke unit. -/
theorem nextCount_counts (s : State) (k : Nat) : StrokeUnitOnly s (s.nextCount k).1 ∧
    (s.nextCount k).2 = max (if s.stroke.stepDue then max (s.strokeNo + 1) k else s.strokeNo + 1) (s.stroke.armed.getD 0) := by
  rw [← nextUnarmed_eq]
  cases ha : s.stroke.armed with
  | none =>
    rw [nextCount_unarmed ha]
    exact ⟨stepTaken_unitOnly s k, (Nat.max_eq_left (Nat.zero_le _)).symm⟩
  | some v =>
    by_cases hv : v ≤ s.nextUnarmed k
    · rw [nextCount_notAhead ha hv]
      exact ⟨(stepTaken_unitOnly s k).trans (.refuse ..), (Nat.max_eq_left hv).symm⟩
    · rw [nextCount_loaded ha hv]
      exact ⟨(armTaken_unitOnly s).trans (countStep_unitOnly _),
        (Nat.max_eq_right (Nat.le_of_lt (Nat.not_le.mp hv))).symm⟩

/-! ### The source at a boundary (R47, R51) -/

theorem measurePhase_unitOnly (s : State) (ns : Int) : StrokeUnitOnly s (s.measurePhase ns) := by
  unfold State.measurePhase
  extract_lets measured
  exact .ite (.ite (.modStroke s (fun _ => rfl)) (.refl s)) ((StrokeUnitOnly.setFld s (by decide) _).trans (.modStroke _ (fun _ => rfl)))

theorem chainAfter_change (s : State) : s.chainAfter.change = s.stroke.change := by
  unfold State.chainAfter
  extract_lets u
  split <;> rfl

theorem judgeEdge_unitOnly (s : State) : StrokeUnitOnly s s.judgeEdge := by
  unfold State.judgeEdge
  extract_lets seen s1 s2
  have h1 : StrokeUnitOnly s s1 := ⟨⟨rfl, chainAfter_change s⟩, rfl⟩
  have h2 : StrokeUnitOnly s s2 := h1.trans (.modStroke _ (fun _ => rfl))
  exact .ite (.setFld s (by decide) _) (h2.trans (.setFld _ (by decide) _))

theorem followPtp_unitOnly (s : State) : StrokeUnitOnly s s.followPtp := by
  unfold State.followPtp
  extract_lets altEn onAlt
  exact .ite (.setFld s (by decide) _) (.ite (.setFld s (by decide) _) (.refl s))

theorem followSource_unitOnly (s : State) (ns : Int) : StrokeUnitOnly s (s.followSource ns) := by
  unfold State.followSource
  extract_lets s1 s2
  have h1 : StrokeUnitOnly s s1 := (measurePhase_unitOnly s ns).trans (judgeEdge_unitOnly _)
  have h2 : StrokeUnitOnly s s2 := .ite (h1.trans (.setFld _ (by decide) _)) h1
  exact .ite (h2.trans (followPtp_unitOnly s2)) h2

theorem takeStrokeChange_none {s : State} (h : s.stroke.change = none) : s.takeStrokeChange = s := by
  rw [State.takeStrokeChange, h]

/-! ### What the boundary drives and records (R56, R436) -/

/-- STROKE_OUT and the clock's steps: nothing but the pins, the power record and registers beside the counter change. -/
structure StrokeRecorded (s t : State) : Prop where
  eq : t = { s with regs := t.regs, pins := t.pins, pwr := t.pwr }
  strokeNo : t.strokeNo = s.strokeNo
  strokeOut : t.pins.strokeOut = (s.sh strPage Fld.STR_CFG_STROKE_OUT_EN == 1 &&
    (decide (s.strokeNo % s.sh strPage Fld.STR_OUT_DIVIDE = 0) || s.pins.strokeOut))
  maxStep : t.fld crnPage Fld.CRN_ACLK_STROKE_MAX_STEP = s.pwr.maxStep % 16

theorem driveStrokeOut_eq (s : State) : s.driveStrokeOut = { s with pins := { s.pins with
    strokeOut := s.sh strPage Fld.STR_CFG_STROKE_OUT_EN == 1 &&
      (decide (s.strokeNo % s.sh strPage Fld.STR_OUT_DIVIDE = 0) || s.pins.strokeOut) } } := by
  unfold State.driveStrokeOut
  extract_lets en
  by_cases hen : s.sh strPage Fld.STR_CFG_STROKE_OUT_EN == 1
  · by_cases hdiv : s.strokeNo % s.sh strPage Fld.STR_OUT_DIVIDE = 0
    · simp [en, hen, hdiv]
    · simp only [en, hen, hdiv, Bool.not_true, Bool.false_eq_true, if_false, decide_false, Bool.false_or, Bool.true_and]
      rfl
  · simp [en, hen]

/-- MAX_STEP reports the deepest step of the stroke just ended. -/
theorem recordSteps_maxStep (s : State) : s.recordSteps.fld crnPage Fld.CRN_ACLK_STROKE_MAX_STEP = s.pwr.maxStep % 16 := by
  have h1 (u : State) (v : Nat) : ((u.setFld crnPage Fld.CRN_ACLK_STROKE_MAX_STEP u.pwr.maxStep).setFld crnPage
      Fld.CRN_ACLK_STROKE_CYCLES_LOST v).fld crnPage Fld.CRN_ACLK_STROKE_MAX_STEP = u.pwr.maxStep % 16 := by
    rw [fld_setFld_other _ _ (by decide)]
    exact State.fld_setFld_same _ _ _ _ (by decide) (by decide)
  unfold State.recordSteps
  extract_lets s1 s2
  change s2.fld crnPage Fld.CRN_ACLK_STROKE_MAX_STEP = _
  by_cases h0 : s1.pwr.maxStep ≠ 0
  · rw [show s2 = s1.addFld crnPage Fld.CRN_PWR_STATS_THROTTLED_STROKES 1 from if_pos h0]
    exact (fld_setFld_other _ _ (by decide)).trans (h1 s _)
  · rw [show s2 = s1 from if_neg h0]
    exact h1 s _

theorem recordSteps_eq (s : State) : s.recordSteps = { s with regs := s.recordSteps.regs, pwr := s.recordSteps.pwr } := by
  unfold State.recordSteps
  extract_lets s1 s2
  by_cases h0 : s1.pwr.maxStep ≠ 0
  · rw [show s2 = s1.addFld crnPage Fld.CRN_PWR_STATS_THROTTLED_STROKES 1 from if_pos h0]
    rfl
  · rw [show s2 = s1 from if_neg h0]
    rfl

theorem recordSteps_strokeNo (s : State) : s.recordSteps.strokeNo = s.strokeNo := by
  unfold State.recordSteps
  extract_lets s1 s2
  have h1 : s1.reg (strPage + Reg.STR_COUNT) = s.reg (strPage + Reg.STR_COUNT) :=
    (setFld_reg _ _ _ _ _ (by decide)).trans (setFld_reg _ _ _ _ _ (by decide))
  refine congrArg BitVec.toNat (Eq.trans (b := s2.reg (strPage + Reg.STR_COUNT)) rfl ?_)
  by_cases h0 : s1.pwr.maxStep ≠ 0
  · rw [show s2 = s1.addFld crnPage Fld.CRN_PWR_STATS_THROTTLED_STROKES 1 from if_pos h0]
    exact (setFld_reg _ _ _ _ _ (by decide)).trans h1
  · rw [show s2 = s1 from if_neg h0]
    exact h1

theorem strokeRecorded (s : State) : StrokeRecorded s s.driveStrokeOut.recordSteps := by
  rw [driveStrokeOut_eq]
  have hrec := recordSteps_eq { s with pins := { s.pins with
    strokeOut := s.sh strPage Fld.STR_CFG_STROKE_OUT_EN == 1 &&
      (decide (s.strokeNo % s.sh strPage Fld.STR_OUT_DIVIDE = 0) || s.pins.strokeOut) } }
  have hpins := congrArg State.pins hrec
  refine ⟨?_, recordSteps_strokeNo _, congrArg Pins.strokeOut hpins, recordSteps_maxStep _⟩
  rw [hpins]
  exact hrec

/-! ### The boundary -/

theorem strokeWaits_none {s : State} (h : s.cmds = []) : s.strokeWaits = s.observe := by rw [State.strokeWaits, h]; rfl

theorem epochEffect_none {s : State} (h : s.brim.pend = none) : s.epochEffect = s := by rw [State.epochEffect, h]

theorem maintWork_none {s : State} (h : s.sh strPage Fld.STR_MAINT_EVERY = 0) : s.maintWork = { s with recalWindow := [] } := by
  have hm : ({ s with recalWindow := [] } : State).maintStroke = false := by
    rw [State.maintStroke, show ({ s with recalWindow := [] } : State).sh strPage Fld.STR_MAINT_EVERY = 0 from h]
    rfl
  rw [State.maintWork, if_neg (by rw [hm]; decide)]

theorem strokeBoundary_withheld {s : State} {ns : Int} {ptpNs : Nat} (hrun : s.running = true) (hs : s.stroke.stretch = true)
    (hk : s.ptpStroke ptpNs ≤ s.strokeNo) : strokeBoundary s ns ptpNs = s.addFld strPage Fld.STR_STRETCH_COUNT 1 := by
  rw [strokeBoundary, if_neg (by simp [hrun]), if_pos (by simp [hs, hk])]

/-- The next count and its value, from a state whose boundary is not withheld. -/
def State.countOnce (s : State) (ptpNs : Nat) : State × Nat :=
  (s.modStroke (fun u => { u with stretch := false })).nextCount (s.ptpStroke ptpNs)

/-- The state with the counter at its next value and the source followed. -/
def State.counted (s : State) (ns : Int) (ptpNs : Nat) : State :=
  ((s.countOnce ptpNs).1.setReg (strPage + Reg.STR_COUNT) (BitVec.ofNat 64 (s.countOnce ptpNs).2)).followSource ns

theorem counted_touched (s : State) (ns : Int) (ptpNs : Nat) : StrokeTouched s (s.counted ns ptpNs) := by
  have hmod : StrokeUnitOnly s (s.modStroke (fun u => { u with stretch := false })) := .modStroke s (fun _ => rfl)
  have hcount : StrokeTouched s (s.countOnce ptpNs).1 := (hmod.trans (nextCount_counts _ _).1).toStrokeTouched
  have hset (t : State) (v : Word64) : StrokeTouched t (t.setReg (strPage + Reg.STR_COUNT) v) := ⟨rfl, rfl⟩
  exact (hcount.trans (hset _ _)).trans (followSource_unitOnly _ ns).toStrokeTouched

theorem counted_strokeNo (s : State) (ns : Int) (ptpNs : Nat) :
    (s.counted ns ptpNs).strokeNo =
      max (if s.stroke.stepDue then max (s.strokeNo + 1) (s.ptpStroke ptpNs) else s.strokeNo + 1) (s.stroke.armed.getD 0) % 2 ^ 64 := by
  rw [State.counted, (followSource_unitOnly _ ns).strokeNo, State.strokeNo, State.reg_setReg_same, BitVec.toNat_ofNat, State.countOnce,
    (nextCount_counts _ _).2]
  rfl

/-- The parts of a state in which a boundary finds nothing to release, move or schedule. -/
structure StrokeQuiet (s : State) : Prop where
  cmds : s.cmds = []
  parts : ∀ p < 64, s.shape.live.defined p = false
  change : s.stroke.change = none
  maint : s.sh strPage Fld.STR_MAINT_EVERY = 0
  pend : s.brim.pend = none

theorem StrokeQuiet.of_touched {s t : State} (hq : StrokeQuiet s) (h : StrokeTouched s t) : StrokeQuiet t where
  cmds := (congrArg State.cmds h.eq).trans hq.cmds
  parts := by rw [congrArg State.shape h.eq]; exact hq.parts
  change := h.change.trans hq.change
  maint := (congrArg (fun x => x.sh strPage Fld.STR_MAINT_EVERY) h.eq).trans hq.maint
  pend := (congrArg (fun x => x.brim.pend) h.eq).trans hq.pend

theorem StrokeQuiet.recorded {s t : State} (hq : StrokeQuiet s) (h : StrokeRecorded s t) : StrokeQuiet t where
  cmds := (congrArg State.cmds h.eq).trans hq.cmds
  parts := by rw [congrArg State.shape h.eq]; exact hq.parts
  change := (congrArg (fun x => x.stroke.change) h.eq).trans hq.change
  maint := (congrArg (fun x => x.sh strPage Fld.STR_MAINT_EVERY) h.eq).trans hq.maint
  pend := (congrArg (fun x => x.brim.pend) h.eq).trans hq.pend

theorem observe_cmds_nil {s : State} (h : s.cmds = []) : s.observe.cmds = [] := by rw [State.observe, h]; rfl

theorem StrokeQuiet.observe {s : State} (hq : StrokeQuiet s) : StrokeQuiet s.observe :=
  ⟨observe_cmds_nil hq.cmds, hq.parts, hq.change, hq.maint, hq.pend⟩

/-- What the boundary does once the source is followed. -/
def State.boundaryRest (s : State) : State :=
  let s := s.takeStrokeChange.driveStrokeOut.recordSteps.strokeWaits
  let parts := (List.range 64).filter (fun p => s.shape.live.defined p)
  let s := parts.foldl (fun (s : State) p => ((s.kvBoundary p).schedule p).strokeToCores p) s
  s.epochEffect.maintWork.observe

theorem strokeBoundary_taken {s : State} {ns : Int} {ptpNs : Nat} (hrun : s.running = true)
    (hs : s.stroke.stretch = false ∨ s.strokeNo < s.ptpStroke ptpNs) :
    strokeBoundary s ns ptpNs = (s.counted ns ptpNs).boundaryRest := by
  rw [strokeBoundary, if_neg (by simp [hrun]), if_neg (by rcases hs with h | h <;> simp [h])]
  rfl

/-- A boundary that finds nothing to release, move or schedule records, and looks at the waits. -/
theorem boundaryRest_quiet {s : State} (hq : StrokeQuiet s) :
    s.boundaryRest = { s.driveStrokeOut.recordSteps.observe with recalWindow := [] }.observe := by
  have hrec := hq.recorded (strokeRecorded s)
  rw [State.boundaryRest, takeStrokeChange_none hq.change]
  generalize s.driveStrokeOut.recordSteps = t at hrec ⊢
  have hobs := hrec.observe
  rw [strokeWaits_none hrec.cmds]
  generalize t.observe = u at hobs ⊢
  have hparts : (List.range 64).filter (fun p => u.shape.live.defined p) = [] :=
    List.filter_eq_nil_iff.mpr (fun p hp => by simp [hobs.parts p (List.mem_range.mp hp)])
  dsimp only
  rw [hparts, List.foldl_nil, epochEffect_none hobs.pend, maintWork_none hobs.maint]

/-- What a quiet boundary leaves, from the state with the counter at its next value. -/
structure BoundaryLeft (s t : State) : Prop where
  strokeNo : t.strokeNo = s.strokeNo
  strokeOut : t.pins.strokeOut = (s.sh strPage Fld.STR_CFG_STROKE_OUT_EN == 1 &&
    (decide (s.strokeNo % s.sh strPage Fld.STR_OUT_DIVIDE = 0) || s.pins.strokeOut))
  maxStep : t.fld crnPage Fld.CRN_ACLK_STROKE_MAX_STEP = s.pwr.maxStep % 16
  shape : t.shape = s.shape
  rings : t.rings = s.rings
  cmds : t.cmds = s.cmds
  ctxs : t.ctxs = s.ctxs
  chans : t.chans = s.chans
  cal : t.cal = s.cal
  mem : t.mem = s.mem
  host : t.host = s.host

theorem StrokeRecorded.boundaryLeft {s t : State} (h : StrokeRecorded s t) : BoundaryLeft s t where
  strokeNo := h.strokeNo
  strokeOut := h.strokeOut
  maxStep := h.maxStep
  shape := (congrArg State.shape h.eq :)
  rings := (congrArg State.rings h.eq :)
  cmds := (congrArg State.cmds h.eq :)
  ctxs := (congrArg State.ctxs h.eq :)
  chans := (congrArg State.chans h.eq :)
  cal := (congrArg State.cal h.eq :)
  mem := (congrArg State.mem h.eq :)
  host := (congrArg State.host h.eq :)

theorem BoundaryLeft.observe {s t : State} (h : BoundaryLeft s t) (hc : s.cmds = []) : BoundaryLeft s t.observe :=
  ⟨h.strokeNo, h.strokeOut, h.maxStep, h.shape, h.rings, (observe_cmds_nil (h.cmds.trans hc)).trans hc.symm, h.ctxs, h.chans, h.cal,
    h.mem, h.host⟩

theorem BoundaryLeft.recalWindow {s t : State} (h : BoundaryLeft s t) : BoundaryLeft s { t with recalWindow := [] } :=
  ⟨h.strokeNo, h.strokeOut, h.maxStep, h.shape, h.rings, h.cmds, h.ctxs, h.chans, h.cal, h.mem, h.host⟩

theorem BoundaryLeft.of_touched {s u t : State} (h : StrokeTouched s u) (k : BoundaryLeft u t) :
    t.pins.strokeOut = (s.sh strPage Fld.STR_CFG_STROKE_OUT_EN == 1 &&
      (decide (t.strokeNo % s.sh strPage Fld.STR_OUT_DIVIDE = 0) || s.pins.strokeOut)) ∧
    t.fld crnPage Fld.CRN_ACLK_STROKE_MAX_STEP = s.pwr.maxStep % 16 ∧
    t.shape = s.shape ∧ t.rings = s.rings ∧ t.cmds = s.cmds ∧ t.ctxs = s.ctxs ∧ t.chans = s.chans ∧ t.cal = s.cal ∧
    t.mem = s.mem ∧ t.host = s.host := by
  refine ⟨?_, k.maxStep.trans (congrArg (fun x => x.pwr.maxStep % 16) h.eq :), k.shape.trans (congrArg State.shape h.eq :),
    k.rings.trans (congrArg State.rings h.eq :), k.cmds.trans (congrArg State.cmds h.eq :), k.ctxs.trans (congrArg State.ctxs h.eq :),
    k.chans.trans (congrArg State.chans h.eq :), k.cal.trans (congrArg State.cal h.eq :), k.mem.trans (congrArg State.mem h.eq :),
    k.host.trans (congrArg State.host h.eq :)⟩
  have hsh (f : Fld) : u.sh strPage f = s.sh strPage f := congrArg (fun x => x.sh strPage f) h.eq
  have hpins : u.pins = s.pins := (congrArg State.pins h.eq :)
  rw [k.strokeOut, k.strokeNo, hsh, hsh, hpins]

/-- Settles O15: a boundary that is not withheld takes the counter's next value; with no partition, command, source change, maintenance
or epoch it only drives STROKE_OUT and records the steps besides. -/
theorem strokeBoundary_counts : Obligations.StrokeBoundary := by
  intro phaseNs ptpNs s hrun ptp
  refine ⟨fun hs hk => done_eq (strokeBoundary_withheld hrun hs hk), fun hs hcmds hparts hchange hmaint hpend => ?_⟩
  intro next
  have htouch := counted_touched s phaseNs ptpNs
  have hno := counted_strokeNo s phaseNs ptpNs
  have hq : StrokeQuiet (s.counted phaseNs ptpNs) := StrokeQuiet.of_touched ⟨hcmds, hparts, hchange, hmaint, hpend⟩ htouch
  have hleft := (((strokeRecorded (s.counted phaseNs ptpNs)).boundaryLeft.observe hq.cmds).recalWindow.observe hq.cmds).observe hq.cmds
  exact ⟨_, done_eq ((strokeBoundary_taken hrun hs).trans (boundaryRest_quiet hq)), hleft.strokeNo.trans hno, hleft.of_touched htouch⟩

end Sys2Proof.Machine
end

section
/-! Rings and doorbells (R73 to R75, R354, R409): one equation per case of a PART_RING_CFG write and of a doorbell, and O16. -/
namespace Sys2Proof.Machine

open Sys2Proof

/-! ### The checks of an enable -/

theorem ite_some_eq_none {α : Type} {c : Prop} [Decidable c] {a : α} {x : Option α} :
    (if c then some a else x) = none ↔ ¬c ∧ x = none := by
  by_cases h : c <;> simp [h]

theorem ringCheck?_eq_none (s : State) (p r : Nat) (y : Ring) : s.ringCheck? p r y = none ↔
    (s.shape.live.clusterMask p).testBit y.ccp = true ∧ (4 ≤ y.log2 ∧ y.log2 ≤ 16) ∧ (4 ≤ y.cqLog2 ∧ y.cqLog2 ≤ 16) ∧
    (y.base.toNat % 4096 = 0 ∧ y.cqBase.toNat % 4096 = 0 ∧ y.sat.toNat % 4096 = 0) ∧
    (y.inHost = false → s.hbmRange p y.base.toNat (64 * 2 ^ y.log2) = true) ∧
    (y.cqInHost = false → s.hbmRange p y.cqBase.toNat (32 * 2 ^ y.cqLog2) = true) ∧ s.hbmRange p y.sat.toNat 32768 = true ∧
    (y.inHost = true → s.reachable y.port p = true) ∧ (y.cqInHost = true → s.reachable y.cqPort p = true) ∧
    (s.rings.filter (fun z => z.1 != r && z.2.en && z.2.context == y.context && z.2.ccp == y.ccp &&
      s.shape.live.ownsRing p z.1)).length < 2048 ∧ y.vector < 2048 := by
  have hlog (n : Nat) : ¬(decide (n < 4) || decide (16 < n)) = true ↔ 4 ≤ n ∧ n ≤ 16 := by simp
  have hnot (a b : Bool) : ¬(!a && !b) = true ↔ (a = false → b = true) := by cases a <;> cases b <;> decide
  have himp (a b : Bool) : ¬(a && !b) = true ↔ (a = true → b = true) := by cases a <;> cases b <;> decide
  simp only [State.ringCheck?, ite_some_eq_none, hlog, hnot, himp, Bool.not_eq_true', Bool.not_eq_false, ne_eq,
    Classical.not_not, Nat.not_le, and_true, and_assoc]
  exact Iff.rfl

/-! ### A write of PART_RING_CFG -/

/-- The bits of a PART_RING_CFG write that are fields, EN apart. -/
def ringFields (v : Word64) : Word64 := v &&& ringCfgMask

section
variable {s : State} {who : Requester} {p : Nat} (hin : s.letsIn who (partPage p))
include hin

theorem ringCfgWrite_foreign (v : Word64) (ho : s.shape.live.ownsRing p (s.ringSel p) = false) :
    ringCfgWrite s who p v = s.refuse (partPage p) 0x0305 0x818 := by
  rw [ringCfgWrite]
  dsimp only
  rw [letIn_letsIn hin, if_pos (by simp [ho])]
  rfl

variable (ho : s.shape.live.ownsRing p (s.ringSel p) = true)
include ho

theorem ringCfgWrite_changed {v : Word64} (hen : (s.ring (s.ringSel p)).en = true)
    (hne : ringFields v ≠ (s.ring (s.ringSel p)).cfg &&& ringCfgMask) :
    ringCfgWrite s who p v = s.refuseF (partPage p) 0x0105 Fld.PART_RING_CFG_LOG2_ENTRIES := by
  rw [ringCfgWrite]
  dsimp only
  rw [letIn_letsIn hin, if_neg (by simp [ho]), if_pos]
  simpa [hen, ringFields] using hne

variable {v : Word64}
  (hsame : (s.ring (s.ringSel p)).en = true → ringFields v = (s.ring (s.ringSel p)).cfg &&& ringCfgMask)
include hsame

theorem ringCfgWrite_same : ringCfgWrite s who p v =
    if getBits v 20 20 = 1 then
      if (s.ring (s.ringSel p)).st = 0 then
        match s.ringCheck? p (s.ringSel p) { s.ring (s.ringSel p) with cfg := ringFields v } with
        | some (code, f) => s.refuseF (partPage p) code f
        | none => s.setRing (s.ringSel p) { s.ring (s.ringSel p) with
            cfg := setBits (ringFields v) 20 20 1, head := 0, tail := 0, cqHead := 0, cqTail := 0, st := 1, fault := 0, lost := false }
      else s
    else s.setRing (s.ringSel p) { s.ring (s.ringSel p) with
      cfg := ringFields v,
      st := if (s.ring (s.ringSel p)).st = 1 ∨ (s.ring (s.ringSel p)).st = 2 then 3 else (s.ring (s.ringSel p)).st } := by
  rw [ringCfgWrite]
  dsimp only
  rw [letIn_letsIn hin, if_neg (by simp [ho]), if_neg]
  · rfl
  · simpa [ringFields] using hsame

theorem ringCfgWrite_enable (hv : getBits v 20 20 = 1) (hst : (s.ring (s.ringSel p)).st = 0)
    (hok : s.ringCheck? p (s.ringSel p) { s.ring (s.ringSel p) with cfg := ringFields v } = none) :
    ringCfgWrite s who p v = s.setRing (s.ringSel p) { s.ring (s.ringSel p) with
      cfg := setBits (ringFields v) 20 20 1, head := 0, tail := 0, cqHead := 0, cqTail := 0, st := 1, fault := 0, lost := false } := by
  rw [ringCfgWrite_same hin ho hsame, if_pos hv, if_pos hst, hok]

theorem ringCfgWrite_enableRefused (hv : getBits v 20 20 = 1) (hst : (s.ring (s.ringSel p)).st = 0) {code : Code} {f : Fld}
    (hbad : s.ringCheck? p (s.ringSel p) { s.ring (s.ringSel p) with cfg := ringFields v } = some (code, f)) :
    ringCfgWrite s who p v = s.refuseF (partPage p) code f := by
  rw [ringCfgWrite_same hin ho hsame, if_pos hv, if_pos hst, hbad]

theorem ringCfgWrite_enabled (hv : getBits v 20 20 = 1) (hst : (s.ring (s.ringSel p)).st ≠ 0) : ringCfgWrite s who p v = s := by
  rw [ringCfgWrite_same hin ho hsame, if_pos hv, if_neg hst]

theorem ringCfgWrite_drains (hv : getBits v 20 20 = 0) (hst : (s.ring (s.ringSel p)).st = 1 ∨ (s.ring (s.ringSel p)).st = 2) :
    ringCfgWrite s who p v = s.setRing (s.ringSel p) { s.ring (s.ringSel p) with cfg := ringFields v, st := 3 } := by
  rw [ringCfgWrite_same hin ho hsame, if_neg (by omega), if_pos hst]

theorem ringCfgWrite_fields (hv : getBits v 20 20 = 0) (hst : ¬((s.ring (s.ringSel p)).st = 1 ∨ (s.ring (s.ringSel p)).st = 2)) :
    ringCfgWrite s who p v = s.setRing (s.ringSel p) { s.ring (s.ringSel p) with cfg := ringFields v } := by
  rw [ringCfgWrite_same hin ho hsame, if_neg (by omega), if_neg hst]

end

/-! ### Doorbells -/

theorem mayRing_of_bellOpen {s : State} {who : Requester} {r : Nat} (h : s.bellOpen who r = true) : s.mayRing who r := by
  simp only [State.bellOpen, Bool.and_eq_true, Bool.not_eq_true'] at h
  obtain ⟨⟨harr, hdw⟩, hconf⟩ := h
  refine ⟨harr, ?_, fun hc => by simpa [hc] using hconf⟩
  rintro (⟨k, rfl⟩ | ⟨k, v, rfl⟩) <;> simpa using hdw

theorem doorbell_ignored {s : State} {who : Requester} {r : Nat} (h : ¬s.mayRing who r) (f : State → State) : s.doorbell who r f = s :=
  if_neg (fun hb => h (mayRing_of_bellOpen hb))

theorem doorbells_ignored {s : State} {who : Requester} {r : Nat} (h : ¬s.mayRing who r ∨ s.ringPart? r = none) (v : Word64) :
    dbTailWrite s who r v = s ∧ dbCqHeadWrite s who r v = s := by
  by_cases hm : s.mayRing who r
  · have hp : s.ringPart? r = none := h.resolve_left (not_not_intro hm)
    exact ⟨by rw [dbTailWrite, doorbell_mayRing hm, hp], by rw [dbCqHeadWrite, doorbell_mayRing hm, hp]⟩
  · exact ⟨doorbell_ignored hm _, doorbell_ignored hm _⟩

section
variable {s : State} {p : Nat}

theorem autoWake_awake (h : s.fld (partPage p) Fld.PART_PWR_AUTO_WAKE = 0 ∨
    s.fld (partPage p) Fld.PART_PWR_STATE ≠ 1 ∧ s.fld (partPage p) Fld.PART_PWR_STATE ≠ 2) : s.autoWake p = s := by
  rcases h with h | ⟨h1, h2⟩
  · simp [State.autoWake, h]
  · simp [State.autoWake, h1, h2]

theorem autoWake_napping (h : s.fld (partPage p) Fld.PART_PWR_AUTO_WAKE = 1) (hst : s.fld (partPage p) Fld.PART_PWR_STATE = 2) :
    s.autoWake p = (s.setFld (partPage p) Fld.PART_PWR_STATE 3).setFld (partPage p) Fld.PART_PWR_DEEP_NAP 0 := by
  simp [State.autoWake, h, hst]

theorem autoWake_entering (h : s.fld (partPage p) Fld.PART_PWR_AUTO_WAKE = 1) (hst : s.fld (partPage p) Fld.PART_PWR_STATE = 1) :
    s.autoWake p = s.modPart p (fun y => { y with wakeDue := true }) := by
  simp [State.autoWake, h, hst]

end

section
variable {s : State} {who : Requester} {r p : Nat} (hm : s.mayRing who r) (hp : s.ringPart? r = some p)
include hm hp

theorem dbTailWrite_moves {v : Word64} (hst : (s.ring r).st = 1) (hne : getBits v 31 0 ≠ (s.ring r).tail)
    (hh : sub32 (getBits v 31 0) (s.ring r).head ≤ 2 ^ (s.ring r).log2)
    (ht : sub32 (getBits v 31 0) (s.ring r).tail ≤ 2 ^ (s.ring r).log2) :
    dbTailWrite s who r v = (s.setRing r { s.ring r with tail := getBits v 31 0 }).autoWake p := by
  rw [dbTailWrite, doorbell_mayRing hm, hp]
  dsimp only
  rw [if_neg (by simp [hst]), if_neg hne, if_pos ⟨hh, ht⟩]

theorem dbTailWrite_beyond {v : Word64} (hst : (s.ring r).st = 1) (hne : getBits v 31 0 ≠ (s.ring r).tail)
    (h : 2 ^ (s.ring r).log2 < sub32 (getBits v 31 0) (s.ring r).head ∨ 2 ^ (s.ring r).log2 < sub32 (getBits v 31 0) (s.ring r).tail) :
    dbTailWrite s who r v = s.setRing r { s.ring r with st := 2, fault := 0x0306 } := by
  rw [dbTailWrite, doorbell_mayRing hm, hp]
  dsimp only
  rw [if_neg (by simp [hst]), if_neg hne, if_neg (by omega)]

theorem dbTailWrite_notRunning (v : Word64) (hst : (s.ring r).st ≠ 1) : dbTailWrite s who r v = s.refuse (partPage p) 0x0302 := by
  rw [dbTailWrite, doorbell_mayRing hm, hp]
  exact if_pos hst

theorem dbTailWrite_atTail {v : Word64} (hst : (s.ring r).st = 1) (h : getBits v 31 0 = (s.ring r).tail) :
    dbTailWrite s who r v = s := by
  rw [dbTailWrite, doorbell_mayRing hm, hp]
  dsimp only
  rw [if_neg (by simp [hst]), if_pos h]

theorem dbCqHeadWrite_moves {v : Word64}
    (h : sub32 (getBits v 31 0) (s.ring r).cqHead ≤ sub32 (s.ring r).cqTail (s.ring r).cqHead) :
    dbCqHeadWrite s who r v = s.setRing r { s.ring r with cqHead := getBits v 31 0 } := by
  rw [dbCqHeadWrite, doorbell_mayRing hm, hp]
  exact if_pos h

theorem dbCqHeadWrite_beyond {v : Word64}
    (h : sub32 (s.ring r).cqTail (s.ring r).cqHead < sub32 (getBits v 31 0) (s.ring r).cqHead) :
    dbCqHeadWrite s who r v = s.refuse (partPage p) 0x0306 := by
  rw [dbCqHeadWrite, doorbell_mayRing hm, hp]
  exact if_neg (Nat.not_le.mpr h)

end

/-! ### The obligation -/

theorem en_setBits_one (v : Word64) : getBits (setBits v 20 20 1) 20 20 = 1 := getBits_setBits_same v (by decide) (by decide) 1

theorem en_setBits_zero (v : Word64) : getBits (setBits v 20 20 0) 20 20 = 0 := getBits_setBits_same v (by decide) (by decide) 0

/-- EN is no field of the mask: the fields of a write do not depend on it. -/
theorem ringFields_setBits (v : Word64) (x : Nat) : ringFields (setBits v 20 20 x) = ringFields v := by
  have hkeep : ~~~(fieldMask 20 20) &&& ringCfgMask = ringCfgMask := by decide
  have hdrop : fieldMask 20 20 &&& ringCfgMask = 0#64 := by decide
  rw [ringFields, ringFields, setBits, BitVec.and_or_distrib_right, BitVec.and_assoc, BitVec.and_assoc, hkeep, hdrop, BitVec.and_zero,
    BitVec.or_zero]

/-- Settles O16: each write of PART_RING_CFG and of a doorbell runs the case that the ring's state selects. -/
theorem ringsAndDoorbells : Obligations.RingsAndDoorbells := by
  refine ⟨fun who p v s hin => ?cfg, fun who r v s => ⟨fun h => ?ignored, fun p hm hp => ?bell⟩⟩
  case cfg =>
    intro r x on off
    refine ⟨fun ho hen hst hok => ?_, fun ho hen hst code f hbad => ?_, fun ho hst hsame => ?_, fun ho hst hsame => ?_,
      fun ho hst hen => ?_, fun ho hen hne => ?_, fun y => ringCheck?_eq_none s p r y, fun ho => ?_, fun k hst hk => ?_,
      fun k hst hk => ?_⟩
    · exact done_eq (ringCfgWrite_enable hin ho (fun h => absurd (hen.symm.trans h) (by decide)) (en_setBits_one v) hst hok)
    · exact done_eq (ringCfgWrite_enableRefused hin ho (fun h => absurd (hen.symm.trans h) (by decide)) (en_setBits_one v) hst hbad)
    · exact done_eq (ringCfgWrite_enabled hin ho hsame (en_setBits_one v) hst)
    · exact done_eq (ringCfgWrite_drains hin ho hsame (en_setBits_zero v) hst)
    · have hst' : ¬((s.ring (s.ringSel p)).st = 1 ∨ (s.ring (s.ringSel p)).st = 2) := by
        have h03 : (s.ring (s.ringSel p)).st = 0 ∨ (s.ring (s.ringSel p)).st = 3 := hst
        omega
      exact done_eq (ringCfgWrite_fields hin ho (fun h => absurd (hen.symm.trans h) (by decide)) (en_setBits_zero v)
        hst')
    · exact ⟨done_eq (ringCfgWrite_changed hin ho hen hne),
        done_eq (ringCfgWrite_changed hin ho hen (by rw [ringFields_setBits, ← ringFields_setBits v 1]; exact hne))⟩
    · exact ⟨done_eq (ringCfgWrite_foreign hin _ ho), done_eq (ringCfgWrite_foreign hin _ ho)⟩
    · exact done_eq (if_pos ⟨hst, hk⟩)
    · exact done_eq (if_neg (fun h => hk h.2))
  case ignored => exact ⟨done_eq (doorbells_ignored h v).1, done_eq (doorbells_ignored h v).2⟩
  case bell =>
    intro x t
    refine ⟨fun hst hne hh ht => ?_, fun hst hne h => done_eq (dbTailWrite_beyond hm hp hst hne h),
      fun hst => done_eq (dbTailWrite_notRunning hm hp v hst), fun hst h => done_eq (dbTailWrite_atTail hm hp hst h),
      fun h => done_eq (dbCqHeadWrite_moves hm hp h), fun h => done_eq (dbCqHeadWrite_beyond hm hp h)⟩
    have hmove := dbTailWrite_moves hm hp hst hne hh ht
    exact ⟨fun h => done_eq (hmove.trans (autoWake_awake h)), fun h hs => done_eq (hmove.trans (autoWake_napping h hs)),
      fun h hs => done_eq (hmove.trans (autoWake_entering h hs))⟩

end Sys2Proof.Machine
end

section
/-! COMMAND_FETCH (R75, R76, R80): an entry taken, an entry that cannot be read, and O17. -/
namespace Sys2Proof.Machine

open Sys2Proof

/-! ### Without uncorrectable data nothing is recorded -/

theorem badDev?_sound {s : State} (h : s.bad = []) (p : Option Nat) (a n : Nat) : s.badDev? p a n = none := by
  rw [State.badDev?, List.findSome?_eq_none_iff]
  intro i _
  split
  · rw [h]; rfl
  · rfl

theorem badIn_sound {s : State} (h : s.bad = []) (k n : Nat) : s.badIn k n = false := by rw [State.badIn, h]; rfl

theorem recordFetchBad_sound {s : State} (h : s.bad = []) (p a n : Nat) : s.recordFetchBad p a n = s := by
  rw [State.recordFetchBad, badDev?_sound h]

theorem recordCheckBad_sound {s : State} (h : s.bad = []) (p r : Nat) (c : Cmd) : s.recordCheckBad p r c = s := by
  simp only [State.recordCheckBad, recordFetchBad_sound h, ite_self]

/-! ### The command as fetched -/

/-- A command of a ring as it enters the list of commands in flight: waiting, or ended by a check that it fails (R80). -/
structure FreshCmd (r seq ccp : Nat) (x : Cmd) (c : InFlight) : Prop where
  ring : c.ring = r
  seq : c.seq = seq
  cmd : c.cmd = x
  ccp : c.ccp = ccp
  phase : c.phase = .waiting ∨ c.phase = .ended ∧ c.good = 0 ∧ c.status ≠ 0

theorem fetchedWith_fresh (s : State) (p r seq ccp : Nat) (x : Cmd) (ext : Except Code (List Byte)) :
    FreshCmd r seq ccp x (s.fetchedWith p r seq ccp x ext (fun c => c)) := by
  unfold State.fetchedWith
  extract_lets sig w0 w1 c common code
  by_cases h : code = 0
  · rw [if_pos h]
    exact ⟨rfl, rfl, rfl, rfl, .inl rfl⟩
  · rw [if_neg h]
    exact ⟨rfl, rfl, rfl, rfl, .inr ⟨rfl, rfl, h⟩⟩

/-- Looking at the waits does not take a command out of its place or change what it is. -/
theorem FreshCmd.met {r seq ccp : Nat} {x : Cmd} {c : InFlight} (h : FreshCmd r seq ccp x c) (m0 m1 : Bool) :
    FreshCmd r seq ccp x { c with met0 := m0, met1 := m1 } := ⟨h.ring, h.seq, h.cmd, h.ccp, h.phase⟩

/-- What taking a sound entry leaves, besides the ring's HEAD. -/
structure Taken (s t : State) (r seq ccp : Nat) (x : Cmd) : Prop where
  rings : t.rings = s.rings
  fetches : t.fetches = s.fetches + 1
  count : t.cmds.length = s.cmds.length + 1
  mem : t.mem = s.mem
  host : t.host = s.host
  regs : t.regs = s.regs
  cmd : ∃ c ∈ t.cmds, FreshCmd r seq ccp x c

theorem Taken.observe {s t : State} {r seq ccp : Nat} {x : Cmd} (h : Taken s t r seq ccp x) : Taken s t.observe r seq ccp x := by
  obtain ⟨f, hf, hmet⟩ := observe_cmds t
  refine ⟨h.rings, h.fetches, by rw [hf, List.length_map, h.count], h.mem, h.host, h.regs, ?_⟩
  obtain ⟨c, hc, hfresh⟩ := h.cmd
  refine ⟨f c, hf ▸ List.mem_map_of_mem hc, ?_⟩
  rw [hmet c]
  exact hfresh.met _ _

theorem takeCmd_taken {s : State} (h : s.bad = []) (p r seq ccp : Nat) (b : List Byte) :
    Taken s (s.takeCmd p r seq ccp b (fun c => c)) r seq ccp (parseCmd b) := by
  rw [State.takeCmd, recordCheckBad_sound h]
  refine Taken.observe ⟨rfl, rfl, List.length_append, rfl, rfl, rfl, _, List.mem_append_right _ (List.mem_singleton_self _), ?_⟩
  exact fetchedWith_fresh ..

/-! ### A fetch from a ring -/

theorem commandFetch_ring {s : State} {k r : Nat} (hf : s.flows) (hroom : s.ccpRoom k = true) (hi : s.nextIssue? k = none)
    (hr : s.nextRing? k = some r) : commandFetch s k = s.fetchFrom k r := by
  rw [commandFetch, if_neg (by simp [hroom]), unlessHeld_flows hf, hi, hr]

section
variable {s : State} {k r p : Nat} (hp : s.ringPart? r = some p)
include hp

theorem fetchFrom_entry {b : List Byte} (hb : s.readEntry p r = .ok b) : s.fetchFrom k r =
    ({ s with rrLast := SMap.put s.rrLast k r }.setRing r { s.ring r with head := ((s.ring r).head + 1) % 2 ^ 32 }).takeCmd p r
      (s.ring r).head k b (fun c => c) := by
  have hu : ({ s with rrLast := SMap.put s.rrLast k r } : State).readEntry p r = .ok b := hb
  rw [State.fetchFrom, hp]
  dsimp only
  rw [hu]
  rfl

theorem fetchFrom_unreadable {e : Code} (he : s.readEntry p r = .error e) (hne : e ≠ 0xF001) : s.fetchFrom k r =
    { s with rrLast := SMap.put s.rrLast k r }.modRing r (stopRing e) := by
  have hu : ({ s with rrLast := SMap.put s.rrLast k r } : State).readEntry p r = .error e := he
  rw [State.fetchFrom, hp]
  dsimp only
  rw [hu]
  dsimp only
  rw [if_neg hne]

end

/-- Settles O17: the entry at HEAD is taken, or the ring is stopped there with the code of the read. -/
theorem commandFetch_entry : Obligations.CommandFetch := by
  intro k r p s hf hroom hi hr hp x u
  refine ⟨fun b hb => ⟨?taken, fun hbad => ?effect⟩, fun e he hne => ?stopped⟩
  case taken => exact done_eq ((commandFetch_ring hf hroom hi hr).trans (fetchFrom_entry hp hb))
  case effect =>
    refine ⟨_, done_eq ((commandFetch_ring hf hroom hi hr).trans (fetchFrom_entry hp hb)), ?_⟩
    obtain ⟨hrings, hfetches, hcount, hmem, hhost, hregs, c, hc, hfresh⟩ := (takeCmd_taken (s := u.setRing r { x with
      head := (x.head + 1) % 2 ^ 32 }) hbad p r x.head k b).observe
    refine ⟨?_, hfetches, hcount, hmem, hhost, hregs, c, hc, hfresh.ring, hfresh.seq, hfresh.cmd, hfresh.ccp, hfresh.phase⟩
    rw [State.ring, hrings]
    exact congrArg Ring.head (SMap.getD_put_same _ _ _ _)
  case stopped => exact done_eq ((commandFetch_ring hf hroom hi hr).trans (fetchFrom_unreadable hp he hne))

end Sys2Proof.Machine
end

section
/-! COMMAND_COMPLETE (R59, R85, R86, R89): the signal, the record and the end of a command, O18 and O19. -/
namespace Sys2Proof.Machine

open Sys2Proof

/-- What every completion does last: the command is no longer in flight and its context has made progress. -/
def State.withdrawn (s : State) (c : InFlight) : State := (s.dropCmd c.ring c.seq).modCtx c.part c.ctx (fun y => { y with progress := true })

/-- A command whose work has ended and that waits for no acknowledgement completes. -/
theorem commandComplete_ended {s : State} {r q : Nat} {c : InFlight} (hat : s.cmdAt? r q = some c) (hph : c.phase = .ended)
    (hsv : c.saved = false) (hack : c.unacked = 0) (hw : s.writeHeld r q = false) (hf : s.flows)
    (hsig : c.cmd.sigEn = false ∨ ∃ k, c.sig = .local k) : commandComplete s r q = s.complete c := by
  rw [commandComplete, hat]
  dsimp only
  rw [if_neg (by simp [hph, hsv, hw])]
  split
  · next n a hrem =>
    have hen : c.cmd.sigEn = false := hsig.resolve_right (by rintro ⟨k, hk⟩; simp [hk] at hrem)
    rw [if_neg (by simp [hack]), if_neg (by simp [hen]), unlessHeld_flows hf]
  · exact unlessHeld_flows hf _

section
variable {s : State} {c : InFlight}

theorem performSignal_none (h : c.cmd.sigEn = false) : s.performSignal c = (s, c.status, false) := by
  rw [State.performSignal, if_pos (by simp [h])]

theorem performSignal_set {k : Nat} (hen : c.cmd.sigEn = true) (hsig : c.sig = .local k) (hop : c.cmd.sigOp = 0)
    (hst : c.status = 0) : s.performSignal c = ((s.wr64 k (sigWord 0 0 c.cmd.sigVal)).observe, c.status, false) := by
  have hgo : c.withheld = false := by simp [InFlight.withheld, hsig, hst]
  rw [State.performSignal, if_neg (by simp [hen]), if_neg (by simp [hgo]), if_neg (by simp [hst, neverSignals])]
  simp only [hsig, hop, State.applySignal]
  rfl

/-- Completing without a record of its own queue: the signal, and the command is withdrawn. -/
theorem complete_silent {t : State} (hs : s.performSignal c = (t, c.status, false)) (htc : c.tc = none)
    (hrec : c.cmd.noRecord = true) (hst : c.status = 0) (hlate : t.deadlineMissed c = false) : s.complete c = t.withdrawn c := by
  rw [State.complete, hs]
  dsimp only
  rw [if_pos (by simp [hrec, hst]), hlate, htc]
  rfl

/-- Completing with a record: it says whether the deadline was missed. -/
theorem complete_recorded (hen : c.cmd.sigEn = false) (htc : c.tc = none) (hrec : c.cmd.noRecord = false) :
    s.complete c = ((s.lateAt (s.deadlineMissed c)).putRecord c c.status
      (c.info ||| (if s.deadlineMissed c then 1 else 0))).withdrawn c := by
  rw [State.complete, performSignal_none hen]
  dsimp only
  rw [if_neg (by simp [hrec]), htc, if_neg (by decide : ¬false = true), Nat.or_zero]
  rfl

/-- A record in device memory, without an interrupt. -/
theorem putRecord_device {k info : Nat} (hdw : c.dw = none) (hq : (s.ring c.ring).cqInHost = false) (hirq : c.cmd.irq = false)
    (hk : s.xlate (some c.part) ((s.ring c.ring).cqBase.toNat + 32 * ((s.ring c.ring).cqTail % 2 ^ (s.ring c.ring).cqLog2)) = .ok k) :
    s.putRecord c 0 info = (s.wrs k (recordBytes c 0 info s.strokeNo (s.ring c.ring).phase)).setRing c.ring
      { s.ring c.ring with cqTail := ((s.ring c.ring).cqTail + 1) % 2 ^ 32 } := by
  rw [State.putRecord, hdw]
  dsimp only
  rw [if_neg (by simp [hq]), hk]
  dsimp only
  rw [if_neg (by simp [hirq])]

end

/-- Whether a deadline is missed depends on the counter and the context's slip alone. -/
theorem deadlineMissed_congr {s t : State} (hregs : t.regs = s.regs) (hctxs : t.ctxs = s.ctxs) (c : InFlight) :
    t.deadlineMissed c = s.deadlineMissed c := by
  simp only [State.deadlineMissed, State.slipOf, State.ctx, State.strokeNo, State.reg, hregs, hctxs]
  rfl

/-- Settles O18: each case is the signal and the record that the command asks for, and its withdrawal. -/
theorem commandCompletes : Obligations.CommandCompletes := by
  intro r q c s hat hph hsv hack hw hf htc hlate x gone
  obtain ⟨rfl, rfl⟩ := cmdAt?_pos hat
  refine ⟨fun hen hrec hst => ?_, fun k hen hrec hdw hq hirq hst hk => ?_, fun k hen hsig hop hrec hst => ?_⟩
  · exact done_eq ((commandComplete_ended hat hph hsv hack hw hf (.inl hen)).trans
      (complete_silent (performSignal_none hen) htc hrec hst hlate))
  · refine done_eq ((commandComplete_ended hat hph hsv hack hw hf (.inl hen)).trans ?_)
    rw [complete_recorded hen htc hrec, hlate, hst, if_neg (by decide), Nat.or_zero]
    exact congrArg (State.withdrawn · c) (putRecord_device hdw hq hirq hk)
  · refine done_eq ((commandComplete_ended hat hph hsv hack hw hf (.inr ⟨k, hsig⟩)).trans
      (complete_silent (performSignal_set hen hsig hop hst) htc hrec hst ?_))
    rw [deadlineMissed_congr _ _ c, hlate]
    · exact State.wr64_regs ..
    · exact State.wr64_ctxs ..

/-! ### A missed deadline (R59) -/

theorem deadlineMissed_late {s : State} {c : InFlight} (hd : c.cmd.deadline ≠ 0) (h : c.cmd.deadline + s.slipOf c ≤ s.strokeNo) :
    s.deadlineMissed c = true := by simp [State.deadlineMissed, hd, h]

theorem deadlineMissed_inTime {s : State} {c : InFlight} (h : s.strokeNo < c.cmd.deadline + s.slipOf c) (h48 : s.strokeNo < 2 ^ 48) :
    s.deadlineMissed c = false := by
  rw [State.deadlineMissed, decide_eq_false (Nat.not_le.mpr h), decide_eq_false (Nat.not_le.mpr h48), Bool.or_false, Bool.and_false]

theorem lateAt_strokeNo (s : State) (b : Bool) : (s.lateAt b).strokeNo = s.strokeNo := by
  cases b
  · rfl
  · exact congrArg BitVec.toNat ((raise_reg _ _ _ _ (by decide)).trans (setFld_reg _ _ _ _ _ (by decide)))

theorem lateAt_regsOutOnly (s : State) (b : Bool) : RegsOutOnly s (s.lateAt b) := by
  cases b
  · rfl
  · exact (s.addFld_regsOutOnly _ _ _).trans (State.raise_regsOutOnly ..)

theorem lateAt_fld (s : State) (b : Bool) (pg : Nat) (f : Fld) (h : regKey pg f.off ≠ strPage + 0x170)
    (h30 : regKey pg f.off ≠ strPage + 0x30) : (s.lateAt b).fld pg f = s.fld pg f := by
  cases b
  · rfl
  · exact (raise_fld _ _ _ _ _ h30).trans (fld_setFld_other _ _ (.inl h))

theorem lateAt_ring (s : State) (b : Bool) (r : Nat) : (s.lateAt b).ring r = s.ring r := by
  rw [State.ring, (congrArg State.rings (lateAt_regsOutOnly s b) :)]
  rfl

/-- Counting a missed deadline moves no page of memory. -/
theorem lateAt_xlate (s : State) (b : Bool) (p : Option Nat) (a : Nat) : (s.lateAt b).xlate p a = s.xlate p a := by
  have h := lateAt_regsOutOnly s b
  refine xlate_congr (s := s) (t := s.lateAt b) (congrArg State.shape h :) (congrArg State.trim h :) (congrArg State.frames h :) (congrArg State.pkgOuts h :)
    (fun c hc => lateAt_fld s b _ _ ?_ ?_) (fun k hk => lateAt_fld s b _ _ ?_ ?_) p a
  all_goals
    rw [regKey_page (by decide) (by omega)]
    simp only [page, strPage, Fld.MC_STATUS_STATE, Fld.STK_STATUS_STATE]
    omega

theorem or_one_of_even {n : Nat} (h : n % 2 = 0) : n ||| 1 = n + 1 := by
  obtain ⟨k, rfl⟩ := Nat.dvd_of_mod_eq_zero h
  exact (Nat.two_pow_add_eq_or_of_lt (i := 1) (by decide : 1 < 2 ^ 1) k).symm

/-- Settles O19: the late completion is the other completion after STR_LATE_COUNT, with DEADLINE_MISSED in its record. -/
theorem deadlineMissed : Obligations.DeadlineMissed := by
  intro r q k c s x late gone hat hph hsv hack hw hf htc hen hrec hdw hq hirq hst heven hk hd
  obtain ⟨rfl, rfl⟩ := cmdAt?_pos hat
  have hcomplete := (commandComplete_ended hat hph hsv hack hw hf (.inl hen)).trans (complete_recorded hen htc hrec)
  refine ⟨fun hlate => ?_, fun hlate h48 => ?_⟩
  · rw [deadlineMissed_late hd hlate, hst, if_pos rfl, or_one_of_even heven] at hcomplete
    have hput := putRecord_device (s := s.lateAt true) (k := k) (info := c.info + 1) hdw (by rw [lateAt_ring]; exact hq) hirq
      (by rw [lateAt_xlate, lateAt_ring]; exact hk)
    rw [lateAt_ring, lateAt_strokeNo] at hput
    exact done_eq (hcomplete.trans (congrArg (State.withdrawn · c) hput))
  · rw [deadlineMissed_inTime hlate h48, hst, if_neg (by decide), Nat.or_zero] at hcomplete
    exact done_eq (hcomplete.trans (congrArg (State.withdrawn · c) (putRecord_device hdw hq hirq hk)))

end Sys2Proof.Machine
end

section
/-! The control opcodes (R60, R81): NOP, SIGNAL, FENCE, WAIT_STROKE and ATOMIC, and O21. -/
namespace Sys2Proof.Machine

open Sys2Proof

/-- A command seen after a look at the waits was there before it, with its own marks of met waits. -/
theorem cmdAt?_unobserved {s : State} {r q : Nat} {c : InFlight} (h : s.observe.cmdAt? r q = some c) :
    ∃ m0 m1, s.cmdAt? r q = some { c with met0 := m0, met1 := m1 } := by
  obtain ⟨f, hmap, hf⟩ := observe_cmds s
  rw [State.cmdAt?, hmap, find?_map_same _ _ _ _ (fun d => by rw [hf d]; exact ⟨rfl, rfl⟩)] at h
  obtain ⟨d, hd, rfl⟩ := Option.map_eq_some_iff.mp h
  exact ⟨d.met0, d.met1, by rw [hf d]; exact hd⟩

/-- A look at the waits moves no command: an earlier one is in flight before it exactly when it is so afterwards. -/
theorem fenceWaits_observe (s : State) (c : InFlight) : s.observe.fenceWaits c = s.fenceWaits c := by
  obtain ⟨f, hmap, hf⟩ := observe_cmds s
  rw [State.fenceWaits, State.fenceWaits, hmap, List.any_map]
  refine congrArg (List.any s.cmds) (funext fun d => ?_)
  rw [Function.comp, hf d]

theorem fenceWaits_iff (s : State) (c : InFlight) : s.fenceWaits c = true ↔ ∃ f ∈ s.cmds, f.order < c.order ∧
    if c.cmd.sub = 0 then f.ring = c.ring else f.part = c.part ∧ f.ctx = c.ctx := by
  rw [State.fenceWaits, List.any_eq_true]
  refine exists_congr fun f => and_congr_right fun _ => ?_
  by_cases h : c.cmd.sub = 0 <;> simp [h]

theorem fenceCmd_waiting {s : State} {r q : Nat} {c : InFlight} (h : s.observe.cmdAt? r q = some c) (hw : s.fenceWaits c = true) :
    fenceCmd s r q = s := by
  obtain ⟨m0, m1, hat⟩ := cmdAt?_unobserved h
  rw [fenceCmd, hat]
  exact if_pos hw

theorem fenceCmd_ready {s : State} {r q : Nat} {c : InFlight} (h : s.ready 1 r q c) (hw : s.fenceWaits c = false) :
    fenceCmd s r q = (s.atStart c).endCmd r q 0 0 := by
  obtain ⟨m0, m1, hat⟩ := cmdAt?_unobserved h.1
  rw [fenceCmd, hat]
  exact (if_neg (Bool.not_eq_true _ ▸ hw)).trans (runCmd_ready h _)

theorem waitStrokeCmd_barrier {s : State} {r q : Nat} {c : InFlight} (h : s.observe.cmdAt? r q = some c)
    (hb : c.cmd.opFlags % 2 = 1) : waitStrokeCmd s r q = s := by
  obtain ⟨m0, m1, hat⟩ := cmdAt?_unobserved h
  rw [waitStrokeCmd, hat]
  exact if_pos (beq_iff_eq.mpr hb)

section
variable {s : State} {r q : Nat} {c : InFlight} (h : s.ready 4 r q c)
include h

theorem atomicCmd_done {k : Nat} (hk : (s.atStart c).xlate (some c.part) (leAt c.ext 0 8) = .ok k)
    (hb : (s.atStart c).badIn k 8 = false) :
    atomicCmd s r q = (((s.atStart c).wr64 k (semOp c.cmd.sub ((s.atStart c).rd64 k) (leAt c.ext 8 8) (leAt c.ext 16 8))).observe).endCmd
      r q 0 ((s.atStart c).rd64 k) := by
  rw [atomicCmd, runCmd_ready h, hk]
  exact if_neg (by simp [hb])

theorem atomicCmd_uncorrectable {k : Nat} (hk : (s.atStart c).xlate (some c.part) (leAt c.ext 0 8) = .ok k)
    (hb : (s.atStart c).badIn k 8 = true) : atomicCmd s r q = (s.atStart c).endCmd r q 0xF001 0 := by
  rw [atomicCmd, runCmd_ready h, hk]
  exact if_pos hb

theorem atomicCmd_refused {e : Code} (he : (s.atStart c).xlate (some c.part) (leAt c.ext 0 8) = .error e) :
    atomicCmd s r q = (s.atStart c).endCmd r q e 0 := by
  rw [atomicCmd, runCmd_ready h, he]

end

/-- Settles O21: each opcode runs what it does once it may start; a FENCE and a BARRIER wait. -/
theorem controlCommands : Obligations.ControlCommands := by
  refine ⟨fun r q c s => ⟨fun h => done_eq (runCmd_ready h _), fun h => done_eq (runCmd_ready h _), fun h hnone => ?fence,
    fun h f hf hord hsame => ?waits, fun h hb => exec_waitStroke_ready h hb, fun h hb => done_eq (waitStrokeCmd_barrier h.1 hb)⟩,
    fun r q k c s h => ⟨fun hk hb => done_eq (atomicCmd_done h hk hb), fun hk hb => done_eq (atomicCmd_uncorrectable h hk hb),
      fun e he => done_eq (atomicCmd_refused h he)⟩⟩
  case fence =>
    refine done_eq (fenceCmd_ready h ?_)
    rw [← fenceWaits_observe, ← Bool.not_eq_true, fenceWaits_iff]
    rintro ⟨f, hf, hord, hsame⟩
    have hne := hnone f hf hord
    split at hne
    · next h0 => exact hne (by simpa [h0] using hsame)
    · next h0 => exact hne (by simpa [h0] using hsame)
  case waits => exact done_eq (fenceCmd_waiting h.1 ((fenceWaits_iff s c).mpr ⟨f, hf, hord, hsame⟩))

end Sys2Proof.Machine
end

section
/-! POUNCE, the vote of a SYNC barrier, PUT and VOTE (R62, R112, R388, R392), and O22. -/
namespace Sys2Proof.Machine

open Sys2Proof

section
variable {s : State} {c : InFlight} {d : PounceDesc} (hscope : (pounceDesc c.ext).scope = 0)
include hscope

theorem pounceStart_measured {rows : List (List Byte)}
    (hrows : s.pruneGroups.rdRows c.part (pounceDesc c.ext).src (pounceDesc c.ext).stride
      ((pounceDesc c.ext).cols * (pounceDesc c.ext).sz) (pounceDesc c.ext).rows = .ok rows) :
    s.pounceStart c = (s.pruneGroups.modCmd c.ring c.seq (fun x => { x with
      info := x.info ||| (pounceMeasure (pounceDesc c.ext) rows).2.2 * 256, prog := [] })).pounceEnd c
        [(pounceMeasure (pounceDesc c.ext) rows).1, (pounceMeasure (pounceDesc c.ext) rows).2.1] := by
  rw [State.pounceStart]
  dsimp only
  rw [if_neg (fun h => h.1 hscope), hrows]
  exact if_pos hscope

theorem pounceStart_stopped {e : Code} {a : Nat}
    (hrows : s.pruneGroups.rdRows c.part (pounceDesc c.ext).src (pounceDesc c.ext).stride
      ((pounceDesc c.ext).cols * (pounceDesc c.ext).sz) (pounceDesc c.ext).rows = .error (e, a)) :
    s.pounceStart c = s.pruneGroups.stopCmd c e 0 a ((pounceDesc c.ext).cols * (pounceDesc c.ext).sz) := by
  rw [State.pounceStart]
  dsimp only
  rw [if_neg (fun h => h.1 hscope), hrows]

end

/-- The waits of a SYNC barrier are met: its vote joins the group, rooted at the job's lowest node. -/
theorem syncBarrierPropose_votes {s : State} {r q : Nat} {c : InFlight} (hat : s.observe.cmdAt? r q = some c) (hop : c.cmd.op = 2)
    (hfl : c.cmd.opFlags % 4 = 3) (hst : s.observe.startable { c with cmd := { c.cmd with notBefore := 0 } } = true)
    {nodes : List Nat} (hown : s.ownNode ∈ nodes) :
    syncBarrierPropose s r q nodes = ((s.atStart c).modCmd r q (fun x => { x with phase := .started, prog := [] })).joinGroup
      (nodes.foldl min s.ownNode) [3, s.job c.part, c.cmd.notBefore] [nodes.length]
      [max (c.cmd.notBefore + s.slipOf c) (s.strokeNo + 1)] c := by
  have hcont : nodes.contains s.observe.ownNode = true := List.contains_iff_mem.mpr hown
  rw [syncBarrierPropose]
  dsimp only
  rw [hat]
  dsimp only
  rw [hst, if_neg (by simp [hop, hfl]), if_pos hcont]
  rfl

/-! ### PUT to the own node -/

theorem applyPut_inbound {s : State} {job a : Nat} {data : List Byte} {p to_ : Nat} (h : s.inbound job a data.length = some (p, to_)) :
    s.applyPut job a data = ((s.wrDev (some p) to_ data).1.observe, 0) := by rw [State.applyPut, h]

theorem unreachable_ownNode (s : State) : s.unreachable s.ownNode = false := by simp [State.unreachable]

theorem putStart_ownNode {s : State} {c : InFlight} (hown : (collDesc c.ext).comm = s.ownNode)
    (hlost : s.brim.lost.contains (collDesc c.ext).comm = false) (hmem : s.brim.members.testBit (collDesc c.ext).comm = true)
    {b : List Byte} (hb : s.rdDev (some c.part) (collDesc c.ext).src (collDesc c.ext).count = .ok b) {p a : Nat}
    (hin : s.inbound (s.job c.part) (collDesc c.ext).dst b.length = some (p, a)) :
    s.putStart c = (s.wrDev (some p) a b).1.observe.endCmd c.ring c.seq 0 (collDesc c.ext).count := by
  have hreach : s.unreachable (collDesc c.ext).comm = false := hown ▸ unreachable_ownNode s
  rw [State.putStart]
  dsimp only
  rw [hreach, if_neg (by decide : ¬false = true), hlost, hmem, if_neg (by decide), if_neg (fun h => h.1 hown), hb]
  dsimp only
  rw [if_pos hown, applyPut_inbound hin]
  rfl

theorem voteNext_result {s : State} {c : InFlight} {v : Nat} {l : List Nat} (hv : c.prog = v :: l)
    (hw : (s.wrDev (some c.part) (collDesc c.ext).dst (leBytes 8 v)).2.2 = 0) :
    s.voteNext c = (s.wrDev (some c.part) (collDesc c.ext).dst (leBytes 8 v)).1.observe.endCmd c.ring c.seq 0 8 := by
  rw [State.voteNext, hv]
  dsimp only
  rw [hw, if_pos rfl]

/-- Settles O22: each command runs the case of its start, or of its going on, that the state selects. -/
theorem votesAndPut : Obligations.VotesAndPut := by
  refine ⟨fun r q c s => ?_, fun r q c s => ?_⟩
  · intro d u
    refine ⟨fun h hscope rows hrows => ?_, fun h hscope e a hrows => ?_, fun hat hop hfl hst nodes hown => ?_⟩
    · obtain ⟨rfl, rfl⟩ := cmdAt?_pos h.1
      exact done_eq ((contCmd_ready h _ _).trans (pounceStart_measured hscope hrows))
    · exact done_eq ((contCmd_ready h _ _).trans (pounceStart_stopped hscope hrows))
    · exact done_eq (syncBarrierPropose_votes hat hop hfl hst hown)
  · intro d
    refine ⟨fun h hown hlost hmem => ?put, fun h hack => ?_, fun h hack => ?_, fun h v l hv hw => ?vote, fun h hv => ?_⟩
    case put =>
      intro u bytes hb p a hin
      obtain ⟨rfl, rfl⟩ := cmdAt?_pos h.1
      have hown' : (collDesc c.ext).comm = u.ownNode := hown
      have hlost' : u.brim.lost.contains (collDesc c.ext).comm = false := hlost
      have hmem' : u.brim.members.testBit (collDesc c.ext).comm = true := hmem
      have hput := putStart_ownNode hown' hlost' hmem' hb hin
      refine ⟨_, done_eq ((contCmd_ready h State.putStart State.putNext).trans hput), ?_⟩
      obtain ⟨hend, heq⟩ := observe_endCmd_endedFrom ((cmdAt?_congr (wrDev_cmds u (some p) a bytes) _ _).trans (cmdAt?_atBegin h))
        0 d.count
      exact ⟨hend, (congrArg State.mem heq :), (congrArg State.out heq :).trans (wrDev_out ..),
        (congrArg State.rings heq :).trans (wrDev_rings ..)⟩
    case vote =>
      obtain ⟨rfl, rfl⟩ := cmdAt?_pos h.1
      refine ⟨_, done_eq ((contCmd_working h _ _).trans (voteNext_result hv hw)), ?_⟩
      obtain ⟨hend, heq⟩ := observe_endCmd_endedFrom ((cmdAt?_congr (wrDev_cmds s.observe (some c.part) d.dst (leBytes 8 v)) _ _).trans
        h.1) 0 8
      exact ⟨hend, (congrArg State.mem heq :), (congrArg State.host heq :).trans (wrDev_host ..),
        (congrArg State.rings heq :).trans (wrDev_rings ..), (congrArg State.frames heq :).trans (wrDev_frames ..),
        (congrArg State.out heq :).trans (wrDev_out ..)⟩
    · obtain ⟨rfl, rfl⟩ := cmdAt?_pos h.1
      exact done_eq ((contCmd_working h _ _).trans (if_pos hack))
    · exact done_eq ((contCmd_working h _ _).trans (if_neg hack))
    · exact done_eq ((contCmd_working h _ _).trans (by rw [State.voteNext, hv]))

end Sys2Proof.Machine
end

section
/-! Work inside one core: what the engines' writes leave alone (R139, R144, R158). -/
namespace Sys2Proof.Machine

open Sys2Proof

/-! ### A range of memory is lost elsewhere -/

section
variable {s : State} {base len k : Nat} (hk : k < base)
include hk

theorem outside_lost : (decide (base ≤ k) && decide (k < base + len)) = false := by
  rw [decide_eq_false (Nat.not_le.mpr hk), Bool.false_and]

theorem losses_lose_other : (s.lose base len).losses k = s.losses k := by
  have hcons : (s.lose base len).lost = (base, len) :: s.lost := rfl
  rw [State.losses, State.losses, hcons, List.filter_cons_of_neg (by simp [outside_lost hk])]

theorem zeroAt_lose_other : (s.lose base len).zeroAt k = s.zeroAt k := by
  have hcons : (s.lose base len).lost = (base, len) :: s.lost := rfl
  have hz : (s.lose base len).zeroed = s.zeroed := rfl
  rw [State.zeroAt, State.zeroAt, hz, hcons]
  cases s.zeroed with
  | none => rfl
  | some n =>
    dsimp only
    by_cases hn : n ≤ s.lost.length
    · rw [List.length_cons, Nat.succ_sub hn, List.take_succ_cons, List.any_cons, outside_lost hk, Bool.false_or]
    · rw [List.length_cons, show s.lost.length + 1 - n = 0 by omega, show s.lost.length - n = 0 by omega, List.take_zero, List.take_zero]

/-- A byte below a lost range keeps its value. -/
theorem rd_lose_other (hwf : s.memWf) : (s.lose base len).rd k = s.rd k := by
  have hmem : Memory.get? (s.lose base len).mem k = Memory.get? s.mem k := by
    refine (Memory.get?_filter hwf.1 (fun a => decide (a < base) || decide (base + len ≤ a)) k).trans (if_pos ?_)
    simp [hk]
  rw [State.rd, State.rd, hmem, State.fill, State.fill, zeroAt_lose_other hk, losses_lose_other hk]

end

/-! ### Work that stays in one core -/

/-- From `s` to `t` no byte below the scratchpads changes, nor host memory, rings, frames, channels, the Shape, windows, Brim and the
host ports; no data becomes uncorrectable, and commands keep their places. -/
structure CoreWork (s t : State) : Prop where
  memWf : s.memWf → t.memWf
  rd : s.memWf → ∀ k < spBase, t.rd k = s.rd k
  host : t.host = s.host
  rings : t.rings = s.rings
  frames : t.frames = s.frames
  chans : t.chans = s.chans
  shape : t.shape = s.shape
  rwt : t.rwt = s.rwt
  brim : t.brim = s.brim
  hps : t.hps = s.hps
  bad : s.bad = [] → t.bad = []
  place : ∀ r q, (s.cmdAt? r q).isSome → (t.cmdAt? r q).isSome

theorem CoreWork.refl (s : State) : CoreWork s s :=
  ⟨id, fun _ _ _ => rfl, rfl, rfl, rfl, rfl, rfl, rfl, rfl, rfl, id, fun _ _ => id⟩

theorem CoreWork.trans {s t u : State} (h : CoreWork s t) (k : CoreWork t u) : CoreWork s u where
  memWf := k.memWf ∘ h.memWf
  rd := fun hwf a ha => (k.rd (h.memWf hwf) a ha).trans (h.rd hwf a ha)
  host := k.host.trans h.host
  rings := k.rings.trans h.rings
  frames := k.frames.trans h.frames
  chans := k.chans.trans h.chans
  shape := k.shape.trans h.shape
  rwt := k.rwt.trans h.rwt
  brim := k.brim.trans h.brim
  hps := k.hps.trans h.hps
  bad := k.bad ∘ h.bad
  place := fun r q => k.place r q ∘ h.place r q

theorem CoreWork.coreOnly {s t : State} (h : CoreWork s t) : s.coreOnly t :=
  ⟨h.rd, h.host, h.rings, h.frames, h.chans, h.shape, h.rwt, h.brim, h.hps⟩

theorem CoreWork.ite {s t u : State} {c : Prop} [Decidable c] (h : CoreWork s t) (k : CoreWork s u) :
    CoreWork s (if c then t else u) := by
  split
  · exact h
  · exact k

theorem CoreWork.foldl {α : Type} {s t : State} (h : CoreWork s t) (l : List α) (f : State → α → State)
    (hf : ∀ u a, CoreWork u (f u a)) : CoreWork s (l.foldl f t) :=
  List.foldlRecOn l f h (fun u hu a _ => hu.trans (hf u a))

/-- The same for a fold that carries a value with the state. -/
theorem CoreWork.foldl_fst {α β : Type} {s : State} {x : State × β} (h : CoreWork s x.1) (l : List α) (f : State × β → α → State × β)
    (hf : ∀ u a, CoreWork u.1 (f u a).1) : CoreWork s (l.foldl f x).1 :=
  List.foldlRecOn (motive := fun y => CoreWork s y.1) l f h (fun u hu a _ => hu.trans (hf u a))

/-- Registers, tidy cores, the error ring, pins, outputs, power, draws and correctable errors are no part of it. -/
theorem CoreWork.of_eq {s t : State} {regs : SMap Word64} {tcs : SMap Tc} {errs : ErrRing} {pins : Pins} {out : List Out} {pwr : Power}
    {draws : Nat} {weak : List Nat} {starts : Nat} {ctxs : SMap Ctx}
    (h : t = { s with
      regs := regs, tcs := tcs, errs := errs, pins := pins, out := out, pwr := pwr, draws := draws, weak := weak, starts := starts,
      ctxs := ctxs }) : CoreWork s t where
  memWf := State.memWf_congr (congrArg State.mem h :) (congrArg State.lost h :) (congrArg State.zeroed h :)
  rd := fun _ => fun k _ => State.rd_congr (congrArg State.mem h :) (congrArg State.lost h :) (congrArg State.zeroed h :) k
  host := (congrArg State.host h :)
  rings := (congrArg State.rings h :)
  frames := (congrArg State.frames h :)
  chans := (congrArg State.chans h :)
  shape := (congrArg State.shape h :)
  rwt := (congrArg State.rwt h :)
  brim := (congrArg State.brim h :)
  hps := (congrArg State.hps h :)
  bad := fun hb => (congrArg State.bad h :).trans hb
  place := fun r q hs => by rw [cmdAt?_congr (congrArg State.cmds h :)]; exact hs

theorem CoreWork.errOnly {s t : State} (h : ErrOnly s t) : CoreWork s t := .of_eq h.eq

theorem CoreWork.setReg (s : State) (k : Nat) (v : Word64) : CoreWork s (s.setReg k v) := .of_eq rfl

theorem CoreWork.modCmd (s : State) (r q : Nat) {f : InFlight → InFlight} (hf : ∀ c, (f c).ring = c.ring ∧ (f c).seq = c.seq) :
    CoreWork s (s.modCmd r q f) where
  memWf := State.memWf_congr rfl rfl rfl
  rd := fun _ k _ => State.rd_congr rfl rfl rfl k
  host := rfl
  rings := rfl
  frames := rfl
  chans := rfl
  shape := rfl
  rwt := rfl
  brim := rfl
  hps := rfl
  bad := id
  place := fun r' q' h => by
    rw [State.cmdAt?, State.modCmd, updateWhere, find?_map_same]
    · rw [Option.isSome_map]
      exact h
    · intro d
      split
      · exact hf d
      · exact ⟨rfl, rfl⟩

theorem CoreWork.observe (s : State) : CoreWork s s.observe where
  memWf := State.memWf_observe
  rd := fun _ k _ => State.rd_congr rfl rfl rfl k
  host := rfl
  rings := rfl
  frames := rfl
  chans := rfl
  shape := rfl
  rwt := rfl
  brim := rfl
  hps := rfl
  bad := id
  place := fun r q h => by
    obtain ⟨c, hc⟩ := Option.isSome_iff_exists.mp h
    obtain ⟨d, hd, -⟩ := cmdAt?_observe hc
    rw [hd]
    rfl

theorem CoreWork.wr (s : State) {k : Nat} (hk : spBase ≤ k) (v : Byte) : CoreWork s (s.wr k v) where
  memWf := fun h => State.memWf_wr h k v
  rd := fun h j hj => State.rd_wr_other h v (Nat.ne_of_lt (Nat.lt_of_lt_of_le hj hk))
  host := rfl
  rings := rfl
  frames := rfl
  chans := rfl
  shape := rfl
  rwt := rfl
  brim := rfl
  hps := rfl
  bad := fun h => by rw [State.wr, h]; rfl
  place := fun _ _ => id

theorem CoreWork.wrs (s : State) {k : Nat} (hk : spBase ≤ k) (bs : List Byte) : CoreWork s (s.wrs k bs) := by
  induction bs generalizing s k with
  | nil => exact .refl s
  | cons b bs ih => exact (CoreWork.wr s hk b).trans (ih (s.wr k b) (Nat.le_succ_of_le hk))

theorem CoreWork.lose (s : State) {base : Nat} (hb : spBase ≤ base) (len : Nat) : CoreWork s (s.lose base len) where
  memWf := fun h => State.memWf_lose h base len
  rd := fun h k hk => rd_lose_other (Nat.lt_of_lt_of_le hk hb) h
  host := rfl
  rings := rfl
  frames := rfl
  chans := rfl
  shape := rfl
  rwt := rfl
  brim := rfl
  hps := rfl
  bad := fun h => by rw [State.lose, h]; rfl
  place := fun _ _ => id

theorem CoreWork.tick (s : State) (pg : Nat) (f : Fld) : CoreWork s (s.tick pg f) := .of_eq rfl

theorem CoreWork.raise (s : State) (pg b : Nat) : CoreWork s (s.raise pg b) := .of_eq (s.raise_regsOutOnly pg b)

theorem CoreWork.modTc (s : State) (n : Nat) (f : Tc → Tc) : CoreWork s (s.modTc n f) := .of_eq rfl

theorem CoreWork.arith (s : State) (c : InFlight) (core flags : Nat) : CoreWork s (s.arith c core flags) := by
  have hinfo := CoreWork.modCmd s c.ring c.seq (f := fun x => { x with info := x.info ||| flags * 256 }) (fun _ => ⟨rfl, rfl⟩)
  exact hinfo.trans (.setReg _ _ _)

theorem CoreWork.endCmd (s : State) (r q status good : Nat) : CoreWork s (s.endCmd r q status good) :=
  .modCmd s r q (fun _ => ⟨rfl, rfl⟩)

theorem CoreWork.recordError (s : State) {e : ErrInfo} (hcls : e.cls ≤ 1) : CoreWork s (s.recordError e) :=
  .errOnly (s.recordError_errOnly hcls)

theorem CoreWork.atStart (s : State) (c : InFlight) : CoreWork s (s.atStart c) := by
  have hnap : CoreWork s.observe { s.observe with pwr := { s.observe.pwr with
      napping := s.observe.pwr.napping.filter (fun k => k != c.ccp) } } := .of_eq rfl
  have hmark := CoreWork.modCmd { s.observe with pwr := { s.observe.pwr with
      napping := s.observe.pwr.napping.filter (fun k => k != c.ccp) } } c.ring c.seq
      (f := fun x => { x with startNo := s.observe.starts }) (fun _ => ⟨rfl, rfl⟩)
  exact ((CoreWork.observe s).trans (hnap.trans hmark)).trans (.of_eq rfl)

theorem spBase_le_spKey (n o : Nat) : spBase ≤ spKey n o := by rw [spKey, Nat.add_assoc]; exact Nat.le_add_right ..

theorem spBase_le_amKey (n o : Nat) : spBase ≤ amKey n o := by
  rw [amKey, Nat.add_assoc]
  exact Nat.le_trans (by decide) (Nat.le_add_right ..)

/-- Without uncorrectable data a read of the scratchpad meets none. -/
theorem badSp?_sound {s : State} (h : s.bad = []) (core : Nat) (os : List Nat) : s.badSp? core os = none := by
  rw [State.badSp?, h, List.find?_eq_none.mpr (fun _ _ => by simp)]
  rfl

/-- Correcting single-bit errors writes back what stands there, and records them. -/
theorem CoreWork.correctKeys (s : State) (c : InFlight) (core : Nat) (ks : List Nat) : CoreWork s (s.correctKeys c core ks) := by
  refine CoreWork.foldl (.refl s) _ _ (fun u k => ?_)
  have hweak : CoreWork u { u with weak := u.weak.filter (fun x => x != k) } := .of_eq rfl
  exact hweak.trans (.recordError _ (Nat.zero_le 1))

theorem CoreWork.correctSp (s : State) (c : InFlight) (core : Nat) (os : List Nat) : CoreWork s (s.correctSp c core os) :=
  .ite (.refl s) (.correctKeys ..)

end Sys2Proof.Machine
end

section
/-! GEMM and CONV (R145, R153 to R158, R186, R202, R203): what a drain writes and how many elements it drains, and O23. -/
namespace Sys2Proof.Machine

open Sys2Proof

/-! ### Writes through a view -/

theorem viewPut_coreWork (s : State) (core : Nat) (v : View) (i j code : Nat) : CoreWork s (s.viewPut core v i j code) :=
  .wrs s (spBase_le_spKey ..) _

theorem putPlain_coreWork (s : State) (core : Nat) (v : View) (mode : Nat) (rand : Rand) (scale : Val) (idx : Nat → Nat → Nat)
    (cells : List (Nat × Nat × Val)) : CoreWork s (s.putPlain core v mode rand scale idx cells).1 :=
  .foldl_fst (.refl s) _ _ (fun u _ => viewPut_coreWork u.1 ..)

theorem zeroAbsent_coreWork (s : State) (core : Nat) (v : View) (axis : Nat) (b : Nat × Nat) :
    CoreWork s (s.zeroAbsent core v axis b) :=
  .foldl (.refl s) _ _ (fun u _ => viewPut_coreWork u ..)

theorem putMx_coreWork (s : State) (core : Nat) (v : View) (axis mode : Nat) (rand : Rand) (idx : Nat → Nat → Nat)
    (cells : List (Nat × Nat × Val)) : CoreWork s (s.putMx core v axis mode rand idx cells).1 := by
  refine .foldl_fst (.refl s) _ _ (fun u b => ?_)
  dsimp only
  refine CoreWork.trans (CoreWork.trans (.foldl (.refl u.1) _ _ (fun w n => ?_)) (zeroAbsent_coreWork _ core v axis b))
    (.wr _ (spBase_le_spKey ..) _)
  split
  · exact viewPut_coreWork w ..
  · exact .refl w

theorem putCells_coreWork (s : State) (core : Nat) (v : View) (dims : Nat × Nat) (mode : Nat) (rand : Rand) (scale : Val)
    (idx : Nat → Nat → Nat) (cells : List (Nat × Nat × Val)) : CoreWork s (s.putCells core v dims mode rand scale idx cells).1 := by
  unfold State.putCells
  split
  · exact putMx_coreWork ..
  · exact putPlain_coreWork ..

theorem loseAm_coreWork (s : State) (core : Nat) (es : List Nat) : CoreWork s (s.loseAm core es) :=
  .foldl (.refl s) _ _ (fun u _ => .lose u (spBase_le_amKey ..) _)

/-! ### A drain, tile by tile -/

theorem tileLine_length (o n : Nat) : (tileLine o n).length = min 64 (n - o) := by rw [tileLine, List.length_map, List.length_range]

theorem drainRow_length (s : State) (core : Nat) (g : GemmDesc) (j : DrainJob) (m n0 : Nat) (pair : Val × Val) :
    (s.drainRow core g j m n0 pair).1.length = min 64 (g.n - n0) := by
  unfold State.drainRow
  dsimp only
  simp only [List.length_map, List.length_range]
  split <;> simp only [List.length_map, tileLine_length]

/-- What a drain that meets no uncorrectable data has after some of its tiles. -/
structure Drained (s : State) (n : Nat) (x : DrainRun) : Prop where
  work : CoreWork s x.s
  bad : x.bad = none
  count : x.cells.length = n

theorem drainTile_drained {s : State} (hs : s.bad = []) (core : Nat) (g : GemmDesc) (j : DrainJob) {x : DrainRun} {n : Nat}
    (h : Drained s n x) (m0 n0 : Nat) :
    Drained s (n + min 64 (g.m - m0) * min 64 (g.n - n0)) (drainTile core g j x m0 n0) := by
  obtain ⟨hwork, hbad, hcount⟩ := h
  rw [drainTile, hbad, if_neg (by decide), badSp?_sound (hwork.bad hs)]
  dsimp only
  refine ⟨?_, rfl, ?_⟩
  · split
    · exact hwork.foldl _ _ (fun u _ => .wrs u (spBase_le_spKey ..) _)
    · exact hwork
  · rw [List.length_append, hcount, List.length_flatMap, Nat.add_left_cancel_iff]
    calc _ = ((List.range (min 64 (g.m - m0))).map (fun _ => min 64 (g.n - n0))).sum := by
          refine congrArg List.sum (List.map_congr_left (fun i hi => ?_))
          rw [List.length_map, List.length_range, List.getD_eq_getElem?_getD, List.getElem?_map,
            List.getElem?_range (List.mem_range.mp hi)]
          exact drainRow_length ..
      _ = min 64 (g.m - m0) * min 64 (g.n - n0) := by rw [List.map_const', List.sum_replicate_nat, List.length_range]

/-! ### All tiles -/

theorem sum_map_const_mul (c : Nat) (f : Nat → Nat) (l : List Nat) : (l.map (fun i => c * f i)).sum = c * (l.map f).sum := by
  induction l with
  | nil => rfl
  | cons a l ih => rw [List.map_cons, List.map_cons, List.sum_cons, List.sum_cons, ih, Nat.mul_add]

theorem sum_map_mul_const (c : Nat) (f : Nat → Nat) (l : List Nat) : (l.map (fun i => f i * c)).sum = (l.map f).sum * c := by
  simp only [Nat.mul_comm _ c]
  exact sum_map_const_mul c f l

/-- Lines of 64 cover `n` elements. -/
theorem sum_tileLines (n k : Nat) : ((List.range k).map (fun i => min 64 (n - 64 * i))).sum = min n (64 * k) := by
  induction k with
  | zero => simp
  | succ k ih =>
    rw [List.range_succ, List.map_append, List.sum_append, ih, List.map_singleton, List.sum_singleton]
    omega

theorem sum_tileLines_all (n : Nat) : ((List.range (ceilDiv n 64)).map (fun i => min 64 (n - 64 * i))).sum = n := by
  rw [sum_tileLines, ceilDiv]
  omega

theorem foldl_drained {s : State} {α : Type} (f : DrainRun → α → DrainRun) (size : α → Nat)
    (hf : ∀ {x n} a, Drained s n x → Drained s (n + size a) (f x a)) (l : List α) {x : DrainRun} {n : Nat} (h : Drained s n x) :
    Drained s (n + (l.map size).sum) (l.foldl f x) := by
  induction l generalizing x n with
  | nil => exact h
  | cons a l ih =>
    rw [List.foldl_cons, List.map_cons, List.sum_cons, ← Nat.add_assoc]
    exact ih (hf a h)

/-- The tiles of a drained output, row by row. -/
def GemmDesc.tiles (g : GemmDesc) : List (Nat × Nat) :=
  (List.range (ceilDiv g.m 64)).flatMap (fun i => (List.range (ceilDiv g.n 64)).map (fun k => (i, k)))

theorem drainTiles_drained {s : State} (hs : s.bad = []) (core : Nat) (g : GemmDesc) (j : DrainJob) {x : DrainRun}
    (h : Drained s 0 x) :
    Drained s (g.m * g.n) (g.tiles.foldl (fun x t => drainTile core g j x (64 * t.1) (64 * t.2)) x) := by
  have hrow {x : DrainRun} {n : Nat} (i : Nat) (h : Drained s n x) : Drained s (n + min 64 (g.m - 64 * i) * g.n)
      ((List.range (ceilDiv g.n 64)).foldl (fun x k => drainTile core g j x (64 * i) (64 * k)) x) := by
    have hfold := foldl_drained (fun x k => drainTile core g j x (64 * i) (64 * k))
      (fun k => min 64 (g.m - 64 * i) * min 64 (g.n - 64 * k)) (fun k hx => drainTile_drained hs core g j hx _ _)
      (List.range (ceilDiv g.n 64)) h
    rwa [sum_map_const_mul, sum_tileLines_all] at hfold
  have hall := foldl_drained _ (fun i => min 64 (g.m - 64 * i) * g.n) (fun i hx => hrow i hx) (List.range (ceilDiv g.m 64)) h
  rw [sum_map_mul_const, sum_tileLines_all, Nat.zero_add] at hall
  rw [GemmDesc.tiles, List.foldl_flatMap]
  simp only [List.foldl_map]
  exact hall

/-- A command that ends in its core: status 0, its bytes, and nothing below the scratchpads touched. -/
structure EndsInCore (s t : State) (r q good : Nat) : Prop where
  ended : t.endedWith r q 0 good
  work : CoreWork s t

theorem endCmd_endsInCore {s u : State} {r q : Nat} (h : CoreWork s u) (hat : (s.cmdAt? r q).isSome) (good : Nat) :
    EndsInCore s (u.endCmd r q 0 good) r q good := by
  obtain ⟨c, hc⟩ := Option.isSome_iff_exists.mp (h.place r q hat)
  exact ⟨endCmd_endedWith hc 0 good, h.trans (.endCmd ..)⟩

theorem EndsInCore.observe {s t : State} {r q good : Nat} (h : EndsInCore s t r q good) : EndsInCore s t.observe r q good :=
  ⟨endedWith_observe h.ended, h.work.trans (.observe t)⟩

theorem EndsInCore.of_work {s u t : State} {r q good : Nat} (h : CoreWork s u) (k : EndsInCore u t r q good) : EndsInCore s t r q good :=
  ⟨k.ended, h.trans k.work⟩

/-- A drain without uncorrectable data runs whole. -/
theorem drainAll_ends {s : State} (hs : s.bad = []) {c : InFlight} (hat : (s.cmdAt? c.ring c.seq).isSome) (core : Nat) (g : GemmDesc)
    (scale : Val) (j : DrainJob) :
    EndsInCore s (s.drainAll c core g scale j) c.ring c.seq (storedBytes g.d.fmt (g.m * g.n)) := by
  unfold State.drainAll
  extract_lets tiles s1 r w s2 s3 good
  have h1 : CoreWork s s1 := .ite (.refl s) (.correctSp ..)
  have hrun : Drained s (g.m * g.n) r :=
    drainTiles_drained hs core g j ⟨h1.trans (loseAm_coreWork ..), rfl, rfl⟩
  have hw : CoreWork s w.1 := hrun.work.trans (putCells_coreWork ..)
  have h2 : CoreWork s s2 := (hw.trans (.arith ..)).trans (.modCmd _ _ _ (fun _ => ⟨rfl, rfl⟩))
  have h3 : CoreWork s s3 := (h2.trans (.tick ..)).trans (.tick ..)
  have hgood : good = storedBytes g.d.fmt (g.m * g.n) := congrArg (storedBytes g.d.fmt) hrun.count
  rw [hrun.bad, hgood]
  exact endCmd_endsInCore h3 hat _

/-! ### GEMM -/

/-- A GEMM that may start, with sound variants and a sound scale, is its drain. -/
theorem gemmCmd_ready {s : State} {r q core : Nat} {c : InFlight} {vars : List Nat} {scale : Val} (h : s.ready 0x30 r q c)
    (hcore : s.cmdCore? c = some core) (hs : s.bad = []) (hvars : (s.atStart c).gemmVariants core (gemmDesc c.ext) = .ok vars)
    (hscale : (s.atStart c).scaleOf c.part (gemmDesc c.ext).scaleSrc (gemmDesc c.ext).conv (gemmDesc c.ext).rec_ = .ok scale) :
    gemmCmd s r q = (s.atStart c).drainAll c core (gemmDesc c.ext) scale ((s.atStart c).gemmJob core (gemmDesc c.ext) vars) := by
  have hbad : (s.atStart c).bad = [] := (CoreWork.atStart s c).bad hs
  have hcore' : (s.atStart c).cmdCore? c = some core := hcore
  rw [gemmCmd, runCmd_ready h]
  dsimp only
  rw [hcore']
  dsimp only
  rw [badSp?_sound hbad, ite_self, hvars]
  dsimp only
  rw [hscale]

/-! ### CONV -/

/-- The end of a vector command or a pooling pass that ran whole. -/
theorem vecEnd_ends {s u : State} {c : InFlight} (h : CoreWork s u) (hat : (s.cmdAt? c.ring c.seq).isSome) (core flags good : Nat) :
    EndsInCore s (u.vecEnd c core flags good none) c.ring c.seq good :=
  endCmd_endsInCore ((h.trans (.arith ..)).trans (.tick ..)) hat good

theorem poolFwd_ends {s : State} (hs : s.bad = []) {c : InFlight} (hat : (s.cmdAt? c.ring c.seq).isSome) (core : Nat) (d : ConvDesc)
    (g : GemmDesc) :
    EndsInCore s (s.poolFwd c core d g) c.ring c.seq (storedBytes g.d.fmt (d.positions d.ye * d.cin)) := by
  have hnone : (List.range (d.positions d.ye * d.cin)).findSome? (fun e =>
      (s.badSp? core (d.windowTouches g (boxPos d.yo d.ye (e / d.cin)).1 (boxPos d.yo d.ye (e / d.cin)).2 (e % d.cin))).map
        (fun k => (e, k))) = none := by
    rw [List.findSome?_eq_none_iff]
    intro e _
    rw [badSp?_sound hs]
    rfl
  unfold State.poolFwd
  extract_lets n badAt done rs full idx cells w s1
  have hbad : badAt = none := hnone
  have hdone : done = d.positions d.ye * d.cin := by simp only [done, hbad, n]
  have hw : CoreWork s w.1 := (CoreWork.correctSp ..).trans (putCells_coreWork ..)
  have h1 : CoreWork s s1 := hw.trans (.modCmd _ _ _ (fun _ => ⟨rfl, rfl⟩))
  rw [hbad, hdone]
  exact vecEnd_ends h1 hat ..

theorem poolBwd_ends {s : State} (hs : s.bad = []) {c : InFlight} (hat : (s.cmdAt? c.ring c.seq).isSome) (core : Nat) (d : ConvDesc)
    (g : GemmDesc) :
    EndsInCore s (s.poolBwd c core d g) c.ring c.seq (storedBytes g.d.fmt (d.positions d.xe * d.cin)) := by
  have hnone : (List.range (d.positions d.ye * d.cin)).findSome? (fun e =>
      s.badSp? core (d.windowTouches g (boxPos d.yo d.ye (e / d.cin)).1 (boxPos d.yo d.ye (e / d.cin)).2 (e % d.cin) ++
        g.c.touches (boxElem d.yo d.ye 1 d.cin (boxPos d.yo d.ye (e / d.cin)).1 (boxPos d.yo d.ye (e / d.cin)).2 (e % d.cin)).1
          (boxElem d.yo d.ye 1 d.cin (boxPos d.yo d.ye (e / d.cin)).1 (boxPos d.yo d.ye (e / d.cin)).2 (e % d.cin)).2)) = none := by
    rw [List.findSome?_eq_none_iff]
    intro e _
    exact badSp?_sound hs ..
  unfold State.poolBwd
  extract_lets ny bad sends fl sums idx s1 w empty s2
  have hbad : bad = none := hnone
  have hw : CoreWork s w.1 := (CoreWork.correctSp ..).trans (putCells_coreWork ..)
  have h2 : CoreWork s s2 := hw.trans (.modCmd _ _ _ (fun _ => ⟨rfl, rfl⟩))
  have hlen : sums.length = d.positions d.xe * d.cin := by simp only [sums, List.length_map, List.length_range]
  rw [hbad, hlen]
  exact vecEnd_ends h2 hat ..

section
variable {s : State} {r q core : Nat} {c : InFlight} (h : s.ready 0x34 r q c) (hcore : s.cmdCore? c = some core)
include h hcore

theorem convCmd_poolFwd (hsub : c.cmd.sub = 3) :
    convCmd s r q = (s.atStart c).poolFwd c core (convDesc c.ext) (convGemm c.ext c.cmd.sub) := by
  have hcore' : (s.atStart c).cmdCore? c = some core := hcore
  rw [convCmd, runCmd_ready h]
  dsimp only
  rw [hcore']
  exact if_pos hsub

theorem convCmd_poolBwd (hsub : c.cmd.sub = 4) :
    convCmd s r q = (s.atStart c).poolBwd c core (convDesc c.ext) (convGemm c.ext c.cmd.sub) := by
  have hcore' : (s.atStart c).cmdCore? c = some core := hcore
  rw [convCmd, runCmd_ready h]
  dsimp only
  rw [hcore']
  exact (if_neg (by rw [hsub]; decide)).trans (if_pos hsub)

theorem convCmd_drain (h3 : c.cmd.sub ≠ 3) (h4 : c.cmd.sub ≠ 4) {scale : Val}
    (hscale : (s.atStart c).scaleOf c.part (convGemm c.ext c.cmd.sub).scaleSrc (convGemm c.ext c.cmd.sub).conv
      (convGemm c.ext c.cmd.sub).rec_ = .ok scale) :
    convCmd s r q = (s.atStart c).drainAll c core (convGemm c.ext c.cmd.sub) scale
      ((s.atStart c).convJob core (convDesc c.ext) (convGemm c.ext c.cmd.sub) c.cmd.sub) := by
  have hcore' : (s.atStart c).cmdCore? c = some core := hcore
  rw [convCmd, runCmd_ready h]
  dsimp only
  rw [hcore']
  dsimp only
  rw [if_neg h3, if_neg h4, hscale]

end

/-- A command that has started stands at its place. -/
theorem atStart_place {s : State} {op r q : Nat} {c : InFlight} (h : s.ready op r q c) : ((s.atStart c).cmdAt? r q).isSome := by
  rw [cmdAt?_atStart h]
  rfl

/-- From the start on: what an engine's command leaves when it ends in its core. -/
theorem runs_endsInCore {s t : State} {c : InFlight} {good : Nat} (hend : EndsInCore (s.atStart c) t c.ring c.seq good) :
    t.observe.endedWith c.ring c.seq 0 good ∧ s.coreOnly t.observe :=
  ⟨hend.observe.ended, ((CoreWork.atStart s c).trans hend.observe.work).coreOnly⟩

/-- Settles O23: the drain or the pooling pass runs whole in its core and ends with its bytes. -/
theorem matrixEngine : Obligations.MatrixEngine := by
  refine ⟨fun r q core c vars scale s h hcore hs => ?gemm, fun r q core c s h hcore hs => ?conv⟩
  case gemm =>
    intro g u hvars hscale
    obtain ⟨rfl, rfl⟩ := cmdAt?_pos h.1
    refine ⟨_, done_eq (gemmCmd_ready h hcore hs hvars hscale), ?_⟩
    exact runs_endsInCore (drainAll_ends ((CoreWork.atStart s c).bad hs) (atStart_place h) ..)
  case conv =>
    intro d g u
    obtain ⟨rfl, rfl⟩ := cmdAt?_pos h.1
    have hbad := (CoreWork.atStart s c).bad hs
    refine ⟨fun h3 h4 scale hscale => ?_, fun h3 => ?_, fun h4 => ?_⟩
    · exact ⟨_, done_eq (convCmd_drain h hcore h3 h4 hscale), runs_endsInCore (drainAll_ends hbad (atStart_place h) ..)⟩
    · exact ⟨_, done_eq (convCmd_poolFwd h hcore h3), runs_endsInCore (poolFwd_ends hbad (atStart_place h) ..)⟩
    · exact ⟨_, done_eq (convCmd_poolBwd h hcore h4), runs_endsInCore (poolBwd_ends hbad (atStart_place h) ..)⟩

end Sys2Proof.Machine
end

section
/-! VEC_STREAM (R166 to R178): what its outputs, reductions and TOPK write, and O24. -/
namespace Sys2Proof.Machine

open Sys2Proof

/-! ### Writes of a stream -/

theorem bitPut_coreWork (s : State) (core : Nat) (p : Place) (bits code : Nat) : CoreWork s (s.bitPut core p bits code) :=
  .wrs s (spBase_le_spKey ..) _

theorem strmPut_coreWork (s : State) (core : Nat) (t : Strm) (mode : Nat) (rand : Rand) (ps : List Place) (vs : List Val) :
    CoreWork s (s.strmPut core t mode rand ps vs).1 := by
  refine .foldl_fst (.refl s) _ _ (fun u i => ?_)
  dsimp only
  split
  · exact bitPut_coreWork ..
  · exact bitPut_coreWork ..

theorem strmPutMx_coreWork (s : State) (core : Nat) (t : Strm) (mode : Nat) (rand : Rand) (line : Nat) (ps : List Place)
    (vs : List Val) : CoreWork s (s.strmPutMx core t mode rand line ps vs).1 := by
  refine .foldl_fst (.refl s) _ _ (fun u b => ?_)
  dsimp only
  refine CoreWork.trans (CoreWork.foldl (CoreWork.foldl (.refl u.1) _ _ (fun w n => bitPut_coreWork w ..)) _ _ (fun w i => ?_))
    (.wr _ (spBase_le_spKey ..) _)
  refine CoreWork.foldl (.refl w) _ _ (fun x j => ?_)
  exact .ite (bitPut_coreWork x ..) (.refl x)

theorem vecOut_coreWork (s : State) (core : Nat) (d : VecDesc) (topk : Bool) (o : Nat) (ps : List Place) (vs : List Val) :
    CoreWork s (s.vecOut core d topk o ps vs).1 := by
  unfold State.vecOut
  extract_lets t
  split
  · exact strmPutMx_coreWork ..
  · exact strmPut_coreWork ..

theorem slotPut_coreWork (s : State) (core slot : Nat) (v : Val) (aux : Nat) : CoreWork s (s.slotPut core slot v aux) :=
  ((CoreWork.setReg s _ _).trans (.modTc _ _ _)).trans (.raise _ _ _)

theorem vecReds_coreWork (s : State) (core : Nat) (d : VecDesc) (srcs : List (List Val)) (lines : Nat → List Place) :
    CoreWork s (s.vecReds core d srcs lines).1 := by
  unfold State.vecReds
  extract_lets kept ls res s1
  have h1 : CoreWork s s1.1 := by
    refine .foldl_fst (.refl s) _ _ (fun u x => ?_)
    dsimp only
    split
    · exact strmPut_coreWork ..
    · exact .refl u.1
  refine h1.foldl _ _ (fun u x => ?_)
  dsimp only
  split
  · exact .ite (slotPut_coreWork ..) (.refl u)
  · exact .refl u

/-! ### CHAIN and TOPK without uncorrectable data -/

section
variable {s : State} (hs : s.bad = []) {c : InFlight} (hat : (s.cmdAt? c.ring c.seq).isSome)
include hs hat

theorem vecChain_ends (core : Nat) (d : VecDesc) (index : Nat → Nat → Option Nat) :
    EndsInCore s (s.vecChain c core d index) c.ring c.seq
      ((((List.range 2).filter d.outUse).map (fun o => ceilDiv (extSize d.ext * fmtBits (d.st (4 + o)).fmt) 8)).sum) := by
  unfold State.vecChain
  extract_lets n g pl at_ touched badAt done rs fl outs s1 w good x
  have hbad : badAt = none := by
    refine List.findSome?_eq_none_iff.mpr (fun e _ => ?_)
    rw [badSp?_sound hs]
    rfl
  have hdone : done = extSize d.ext := by simp only [done, hbad, n]
  have hgood : good = (((List.range 2).filter d.outUse).map (fun o => ceilDiv (extSize d.ext * fmtBits (d.st (4 + o)).fmt) 8)).sum := by
    simp only [good, hdone, outs]
  have h1 : CoreWork s s1 := .ite (.refl s) (.correctSp ..)
  have hw : CoreWork s w.1 := .foldl_fst h1 _ _ (fun u o => vecOut_coreWork u.1 ..)
  have hx : CoreWork s x.1 := hw.trans (vecReds_coreWork ..)
  rw [hbad, hgood]
  exact vecEnd_ends hx hat ..

theorem vecTopk_ends (core : Nat) (d : VecDesc) (index : Nat → Nat → Option Nat) :
    EndsInCore s (s.vecTopk c core d index) c.ring c.seq
      (ceilDiv (extSize d.ext / d.ext.getD 0 1 * d.k * fmtBits (d.st 0).fmt) 8 + 4 * (extSize d.ext / d.ext.getD 0 1 * d.k)) := by
  unfold State.vecTopk
  extract_lets n e0 ps bits reads s1 xs line rs w o1 t t1
  have hline (l : Nat) : (line l).length = d.k := by
    simp only [line, List.length_append, List.length_replicate, List.length_take]
    omega
  have hlen : rs.length = extSize d.ext / d.ext.getD 0 1 * d.k := by
    simp only [rs, List.length_flatMap, hline, List.map_const', List.sum_replicate_nat, List.length_range, n, e0]
  have h1 : CoreWork s s1 := .correctSp ..
  have hw : CoreWork s w.1 := h1.trans (vecOut_coreWork ..)
  have ht : CoreWork s t := hw.foldl _ _ (fun u i => bitPut_coreWork u ..)
  have ht1 : CoreWork s t1 := .ite (ht.trans (.modCmd _ _ _ (fun _ => ⟨rfl, rfl⟩))) ht
  rw [badSp?_sound hs, hlen]
  exact vecEnd_ends ht1 hat ..

end

/-! ### VEC_STREAM -/

/-- The index of an element of a stream where no index has been read. -/
def VecDesc.noIndex (d : VecDesc) (i e : Nat) : Option Nat :=
  if (d.st i).indexed then some ((SMap.getD [] (d.st i).ixs []).getD e 0) else none

/-- A VEC_STREAM with no indexed stream reads no index and runs at once. -/
theorem vecCmd_ready {s : State} {r q core : Nat} {c : InFlight} (h : s.ready 0x33 r q c) (hcore : s.cmdCore? c = some core)
    (hs : s.bad = []) (hix : (vecDesc c.ext).used.filter (fun i => ((vecDesc c.ext).st i).indexed) = []) :
    vecCmd s r q = if c.cmd.sub = 1 then (s.atStart c).vecTopk c core (vecDesc c.ext) (vecDesc c.ext).noIndex
      else (s.atStart c).vecChain c core (vecDesc c.ext) (vecDesc c.ext).noIndex := by
  have hbad : (s.atStart c).bad = [] := (CoreWork.atStart s c).bad hs
  have hcore' : (s.atStart c).cmdCore? c = some core := hcore
  rw [vecCmd, runCmd_ready h]
  dsimp only
  rw [hcore', hix]
  dsimp only
  rw [badSp?_sound hbad]
  rfl

/-- An engine command whose core is not there ends before it does anything (R447). -/
theorem engineCmd_absent {s : State} {r q : Nat} {c : InFlight} (hcore : s.cmdCore? c = none) :
    (s.ready 0x30 r q c → gemmCmd s r q = (s.atStart c).endCmd r q 0x0103 0) ∧
    (s.ready 0x33 r q c → vecCmd s r q = (s.atStart c).endCmd r q 0x0103 0) ∧
    (s.ready 0x34 r q c → convCmd s r q = (s.atStart c).endCmd r q 0x0103 0) := by
  have hcore' : (s.atStart c).cmdCore? c = none := hcore
  refine ⟨fun h => ?_, fun h => ?_, fun h => ?_⟩
  · rw [gemmCmd, runCmd_ready h]
    dsimp only
    rw [hcore']
  · rw [vecCmd, runCmd_ready h]
    dsimp only
    rw [hcore']
  · rw [convCmd, runCmd_ready h]
    dsimp only
    rw [hcore']

/-- Settles O24: the chain or TOPK runs whole in its core and ends with the bytes of its outputs; an absent core refuses. -/
theorem vectorEngine : Obligations.VectorEngine := by
  refine ⟨fun r q core c s h hcore hs => ?run, fun r q op c i s hi h hcore => ?absent⟩
  case run =>
    intro d hix
    obtain ⟨rfl, rfl⟩ := cmdAt?_pos h.1
    have hcmd := vecCmd_ready h hcore hs hix
    have hbad := (CoreWork.atStart s c).bad hs
    refine ⟨fun hsub => ?_, fun hsub => ?_⟩
    · rw [if_neg hsub] at hcmd
      exact ⟨_, done_eq hcmd, (runs_endsInCore (vecChain_ends hbad (atStart_place h) ..)).symm⟩
    · rw [if_pos hsub] at hcmd
      exact ⟨_, done_eq hcmd, (runs_endsInCore (vecTopk_ends hbad (atStart_place h) ..)).symm⟩
  case absent =>
    obtain ⟨hgemm, hvec, hconv⟩ := engineCmd_absent (r := r) (q := q) hcore
    simp only [List.mem_cons, Prod.mk.injEq, List.not_mem_nil, or_false] at hi
    obtain ⟨rfl, rfl⟩ | ⟨rfl, rfl⟩ | ⟨rfl, rfl⟩ := hi
    · exact done_eq (hgemm h)
    · exact done_eq (hvec h)
    · exact done_eq (hconv h)

end Sys2Proof.Machine
end

section
/-! The slot state table (R230 to R236): what its writes leave alone, runs, the allocator and walk epochs, O27 and O28. -/
namespace Sys2Proof.Machine

open Sys2Proof

/-! ### Writes to device memory alone -/

/-- `t` differs from `s` in device memory at most, and in which of its bytes are uncorrectable or hold a correctable error. -/
def MemOnly (s t : State) : Prop := t = { s with mem := t.mem, bad := t.bad, weak := t.weak }

theorem MemOnly.refl (s : State) : MemOnly s s := rfl

theorem MemOnly.trans {s t u : State} (h : MemOnly s t) (k : MemOnly t u) : MemOnly s u :=
  Eq.trans k (congrArg (fun x => { x with mem := u.mem, bad := u.bad, weak := u.weak }) h)

theorem MemOnly.ite {s t u : State} {c : Prop} [Decidable c] (h : MemOnly s t) (k : MemOnly s u) : MemOnly s (if c then t else u) := by
  split
  · exact h
  · exact k

theorem MemOnly.foldl {α : Type} {s t : State} (h : MemOnly s t) (l : List α) (f : State → α → State) (hf : ∀ u a, MemOnly u (f u a)) :
    MemOnly s (l.foldl f t) :=
  List.foldlRecOn l f h (fun u hu a _ => hu.trans (hf u a))

theorem MemOnly.wrs (s : State) (k : Nat) (bs : List Byte) : MemOnly s (s.wrs k bs) := by
  induction bs generalizing s k with
  | nil => rfl
  | cons b bs ih => exact MemOnly.trans (t := s.wr k b) rfl (ih _ _)

theorem MemOnly.wr64 (s : State) (k v : Nat) : MemOnly s (s.wr64 k v) := .wrs ..

theorem MemOnly.setSlotW0 (s : State) (p i st span owner : Nat) : MemOnly s (s.setSlotW0 p i st span owner) := .wr64 ..

theorem MemOnly.setSlotSt (s : State) (p i st : Nat) : MemOnly s (s.setSlotSt p i st) := .setSlotW0 ..

theorem MemOnly.setSlotUse (s : State) (p i use : Nat) : MemOnly s (s.setSlotUse p i use) := .wr64 ..

theorem MemOnly.markRun (s : State) (p i span st owner : Nat) : MemOnly s (s.markRun p i span st owner) :=
  .foldl (.refl s) _ _ (fun u _ => .ite (.setSlotW0 u ..) (.setSlotW0 u ..))

theorem MemOnly.takeRun (s : State) (p i span st owner : Nat) : MemOnly s (s.takeRun p i span st owner) :=
  (MemOnly.markRun ..).trans (.wr64 ..)

theorem MemOnly.freeRun (s : State) (p i : Nat) : MemOnly s (s.freeRun p i) := .foldl (.refl s) _ _ (fun u _ => .setSlotW0 u ..)

/-! ### The allocator (R232) -/

/-- The request bit of an allocator operation leaves the fields and the other request bits of the write as they are. -/
theorem getBits_request (v : Word64) {b hi lo : Nat} (h : 40 ≤ b ∧ b ≤ 42 ∧ (b < lo ∨ hi < b)) :
    getBits (setBits v b b 1) hi lo = getBits v hi lo :=
  getBits_setBits_other v (by omega) 1 h.2.2

theorem getBits_requested (v : Word64) {b : Nat} (hb : b < 64) : getBits (setBits v b b 1) b b = 1 := by
  have hone : 1 % 2 ^ (b + 1 - b) = 1 % 2 ^ 1 := congrArg (fun n => 1 % 2 ^ n) (Nat.add_sub_cancel_left ..)
  exact (getBits_setBits_same v (Nat.le_refl b) hb 1).trans hone

section
variable {s : State} {who : Requester} {p : Nat} (hin : s.letsIn who (partPage p)) {v : Word64}
include hin

/-- Two operations at once, or none, are refused. -/
theorem kvAllocWrite_several (h : getBits v 40 40 + getBits v 41 41 + getBits v 42 42 ≠ 1) : kvAllocWrite s who p v = s.kvRefuse p := by
  rw [kvAllocWrite, letIn_letsIn hin]
  exact if_pos h

theorem kvAllocWrite_alloc (ha : getBits v 40 40 = 1) (hf : getBits v 41 41 = 0) (hr : getBits v 42 42 = 0)
    (h0 : 0 < getBits v 36 32) (h16 : getBits v 36 32 ≤ 16) :
    (∀ j, s.findRun p (getBits v 37 37 == 1) (getBits v 36 32) = some j →
      kvAllocWrite s who p v = (s.takeRun p j (getBits v 36 32) 1 (s.fld (partPage p) Fld.PART_KV_OWNER_ADDR)).kvDone p
        (j - (s.tier p (getBits v 37 37 == 1)).1) (getBits v 36 32) (getBits v 37 37) 0) ∧
    (s.findRun p (getBits v 37 37 == 1) (getBits v 36 32) = none →
      kvAllocWrite s who p v = s.kvDone p (getBits v 31 0) (getBits v 36 32) (getBits v 37 37) 1) := by
  rw [kvAllocWrite, letIn_letsIn hin]
  dsimp only
  rw [if_neg (by simp [ha, hf, hr]), if_pos ha, if_neg (by omega)]
  exact ⟨fun j hj => by rw [hj], fun hn => by rw [hn]⟩

variable (ha : getBits v 40 40 = 0)
include ha

theorem kvAllocWrite_free (hf : getBits v 41 41 = 1) (hr : getBits v 42 42 = 0)
    (hslot : getBits v 31 0 < (s.tier p (getBits v 37 37 == 1)).2)
    (hst : s.slotSt p ((s.tier p (getBits v 37 37 == 1)).1 + getBits v 31 0) = 1)
    (hpin : s.slotPin p ((s.tier p (getBits v 37 37 == 1)).1 + getBits v 31 0) = 0) :
    kvAllocWrite s who p v = (s.toLimbo p ((s.tier p (getBits v 37 37 == 1)).1 + getBits v 31 0)).kvDone p (getBits v 31 0)
      (getBits v 36 32) (getBits v 37 37) (s.fld (partPage p) Fld.PART_KV_ALLOC_NONE) := by
  rw [kvAllocWrite, letIn_letsIn hin]
  dsimp only
  rw [if_neg (by simp [ha, hf, hr]), if_neg (by omega), if_neg (by simp [hslot]), if_pos hf, if_pos ⟨hst, hpin⟩]

theorem kvAllocWrite_freeRefused (hf : getBits v 41 41 = 1) (hr : getBits v 42 42 = 0)
    (h : getBits v 31 0 ≥ (s.tier p (getBits v 37 37 == 1)).2 ∨
      s.slotSt p ((s.tier p (getBits v 37 37 == 1)).1 + getBits v 31 0) ≠ 1 ∨
      s.slotPin p ((s.tier p (getBits v 37 37 == 1)).1 + getBits v 31 0) ≠ 0) :
    kvAllocWrite s who p v = s.kvRefuse p := by
  rw [kvAllocWrite, letIn_letsIn hin]
  dsimp only
  rw [if_neg (by simp [ha, hf, hr]), if_neg (by omega)]
  by_cases hslot : getBits v 31 0 < (s.tier p (getBits v 37 37 == 1)).2
  · rw [if_neg (by simp [hslot]), if_pos hf, if_neg]
    rintro ⟨hst, hpin⟩
    exact h.elim (fun hge => absurd hslot (Nat.not_lt.mpr hge)) (fun h' => h'.elim (absurd hst) (absurd hpin))
  · exact if_pos (by simp [hslot])

theorem kvAllocWrite_reown (hf : getBits v 41 41 = 0) (hr : getBits v 42 42 = 1)
    (hslot : getBits v 31 0 < (s.tier p (getBits v 37 37 == 1)).2)
    (hst : s.slotSt p ((s.tier p (getBits v 37 37 == 1)).1 + getBits v 31 0) = 1 ∨
      s.slotSt p ((s.tier p (getBits v 37 37 == 1)).1 + getBits v 31 0) = 2) :
    kvAllocWrite s who p v = (s.setSlotW0 p ((s.tier p (getBits v 37 37 == 1)).1 + getBits v 31 0)
      (s.slotSt p ((s.tier p (getBits v 37 37 == 1)).1 + getBits v 31 0))
      (s.slotSpan p ((s.tier p (getBits v 37 37 == 1)).1 + getBits v 31 0)) (s.fld (partPage p) Fld.PART_KV_OWNER_ADDR)).kvDone p
      (getBits v 31 0) (getBits v 36 32) (getBits v 37 37) (s.fld (partPage p) Fld.PART_KV_ALLOC_NONE) := by
  rw [kvAllocWrite, letIn_letsIn hin]
  dsimp only
  rw [if_neg (by simp [ha, hf, hr]), if_neg (by omega), if_neg (by simp [hslot]), if_neg (by omega), if_pos hst]

end

/-! ### The lowest free run -/

/-- A run of `span` free slots starts at slot `i` of a tier. -/
def State.RunFree (s : State) (p : Nat) (host : Bool) (span i : Nat) : Prop :=
  i + span ≤ (s.tier p host).2 ∧ ∀ k < span, s.slotSt p ((s.tier p host).1 + i + k) = 0

section
variable {s : State} {p span : Nat} {host : Bool} (hspan : 0 < span)
include hspan

theorem findRun_eq : s.findRun p host span = ((List.range ((s.tier p host).2 + 1 - span)).find? (fun i =>
    (List.range span).all (fun j => s.slotSt p ((s.tier p host).1 + i + j) == 0))).map (fun i => (s.tier p host).1 + i) :=
  if_neg (Nat.pos_iff_ne_zero.mp hspan)

omit hspan in
theorem allFree_iff (i : Nat) : (List.range span).all (fun j => s.slotSt p ((s.tier p host).1 + i + j) == 0) = true ↔
    ∀ k < span, s.slotSt p ((s.tier p host).1 + i + k) = 0 := by
  simp [List.all_eq_true]

theorem findRun_eq_none : s.findRun p host span = none ↔ ∀ i, ¬s.RunFree p host span i := by
  rw [findRun_eq hspan, Option.map_eq_none_iff, List.find?_eq_none]
  constructor
  · rintro h i ⟨hin, hfree⟩
    exact h i (List.mem_range.mpr (by omega)) ((allFree_iff i).mpr hfree)
  · intro h i hi hall
    exact h i ⟨by have := List.mem_range.mp hi; omega, (allFree_iff i).mp hall⟩

theorem findRun_eq_some (j : Nat) : s.findRun p host span = some j ↔
    ∃ i, j = (s.tier p host).1 + i ∧ s.RunFree p host span i ∧ ∀ i' < i, ¬s.RunFree p host span i' := by
  have hfree (i : Nat) : s.RunFree p host span i ↔ i ∈ List.range ((s.tier p host).2 + 1 - span) ∧
      (List.range span).all (fun k => s.slotSt p ((s.tier p host).1 + i + k) == 0) = true := by
    rw [State.RunFree, allFree_iff, List.mem_range]
    exact and_congr_left fun _ => by omega
  rw [findRun_eq hspan, Option.map_eq_some_iff]
  constructor
  · rintro ⟨i, hfind, rfl⟩
    obtain ⟨hall, hi, hlow⟩ := List.find?_range_eq_some.mp hfind
    refine ⟨i, rfl, (hfree i).mpr ⟨hi, hall⟩, fun i' hlt h => ?_⟩
    have hno := hlow i' hlt
    rw [((hfree i').mp h).2] at hno
    exact absurd hno (by decide)
  · rintro ⟨i, rfl, hi, hlow⟩
    obtain ⟨hmem, hall⟩ := (hfree i).mp hi
    refine ⟨i, List.find?_range_eq_some.mpr ⟨hall, hmem, fun i' hlt => ?_⟩, rfl⟩
    rw [Bool.not_eq_true', ← Bool.not_eq_true]
    have hin : i' ∈ List.range ((s.tier p host).2 + 1 - span) := List.mem_range.mpr (Nat.lt_trans hlt (List.mem_range.mp hmem))
    exact fun hall' => hlow i' hlt ((hfree i').mpr ⟨hin, hall'⟩)

end

/-- Settles O27: each allocator operation is one case of a write of PART_KV_ALLOC; the run found is the lowest free one. -/
theorem kvAllocator : Obligations.KvAllocator := by
  refine ⟨fun who p v s hin => ?ops, fun p span host s hspan => ⟨findRun_eq_some hspan, findRun_eq_none hspan⟩⟩
  intro slot span host owner base i noRun
  have hslot (b : Nat) (hb : 40 ≤ b ∧ b ≤ 42) : getBits (setBits v b b 1) 31 0 = getBits v 31 0 := getBits_request v (by omega)
  have hspan (b : Nat) (hb : 40 ≤ b ∧ b ≤ 42) : getBits (setBits v b b 1) 36 32 = getBits v 36 32 := getBits_request v (by omega)
  have hhost (b : Nat) (hb : 40 ≤ b ∧ b ≤ 42) : getBits (setBits v b b 1) 37 37 = getBits v 37 37 := getBits_request v (by omega)
  refine ⟨fun hf hr h0 h16 => ?alloc, fun ha hr hin' hst hpin => ?free, fun ha hf hin' hst => ?reown, fun ha => ?several,
    fun ha hr h => ?refused⟩
  case alloc =>
    have h := kvAllocWrite_alloc hin (getBits_requested v (b := 40) (by decide)) ((getBits_request v (by decide)).trans hf)
      ((getBits_request v (by decide)).trans hr) (by rw [hspan 40 (by decide)]; exact h0) (by rw [hspan 40 (by decide)]; exact h16)
    rw [hslot 40 (by decide), hspan 40 (by decide), hhost 40 (by decide)] at h
    exact ⟨fun j hj => done_eq (h.1 j hj), fun hn => done_eq (h.2 hn)⟩
  case free =>
    have h := kvAllocWrite_free hin (v := setBits v 41 41 1) ((getBits_request v (by decide)).trans ha)
      (getBits_requested v (by decide)) ((getBits_request v (by decide)).trans hr)
    rw [hslot 41 (by decide), hspan 41 (by decide), hhost 41 (by decide)] at h
    exact done_eq (h hin' hst hpin)
  case reown =>
    have h := kvAllocWrite_reown hin (v := setBits v 42 42 1) ((getBits_request v (by decide)).trans ha)
      ((getBits_request v (by decide)).trans hf) (getBits_requested v (by decide))
    rw [hslot 42 (by decide), hspan 42 (by decide), hhost 42 (by decide)] at h
    exact done_eq (h hin' hst)
  case several =>
    have hfree : getBits (setBits v 41 41 1) 40 40 = 1 := (getBits_request v (by decide)).trans ha
    have hreown : getBits (setBits v 42 42 1) 40 40 = 1 := (getBits_request v (by decide)).trans ha
    have hfree' : getBits (setBits v 41 41 1) 41 41 = 1 := getBits_requested v (by decide)
    have hreown' : getBits (setBits v 42 42 1) 42 42 = 1 := getBits_requested v (by decide)
    exact ⟨done_eq (kvAllocWrite_several hin (by omega)), done_eq (kvAllocWrite_several hin (by omega))⟩
  case refused =>
    have h' := kvAllocWrite_freeRefused hin (v := setBits v 41 41 1) ((getBits_request v (by decide)).trans ha)
      (getBits_requested v (by decide)) ((getBits_request v (by decide)).trans hr)
    rw [hslot 41 (by decide), hhost 41 (by decide)] at h'
    exact done_eq (h' h)

/-! ### Walk epochs and limbo (R233, R236, R240) -/

/-- What a release of limbo leaves: the runs still held, and all but memory and the limbo list as it was. -/
structure LimboReleased (p : Nat) (s t : State) : Prop where
  limbo : t.kvLimbo = s.kvLimbo.filter (fun x => !(x.1 == p && decide (x.2.2 ≤ s.epochOld p)))
  eq : t = { s with mem := t.mem, bad := t.bad, weak := t.weak, kvLimbo := t.kvLimbo }

theorem MemOnly.setLimbo {s u : State} (h : MemOnly s u) (l : List (Nat × Nat × Nat)) :
    { u with kvLimbo := l } = { s with mem := u.mem, bad := u.bad, weak := u.weak, kvLimbo := l } :=
  congrArg (fun x => { x with kvLimbo := l }) h

theorem limboRelease_released (s : State) (p : Nat) : LimboReleased p s (s.limboRelease p) := by
  have hfree : MemOnly s ((s.kvLimbo.filter (fun x => x.1 == p && decide (x.2.2 ≤ s.epochOld p))).foldl
      (fun s x => s.freeRun p x.2.1) s) := .foldl (.refl s) _ _ (fun u x => .freeRun u p x.2.1)
  rw [State.limboRelease]
  generalize (s.kvLimbo.filter (fun x => x.1 == p && decide (x.2.2 ≤ s.epochOld p))).foldl (fun s x => s.freeRun p x.2.1) s = u
    at hfree ⊢
  have hlimbo : u.kvLimbo = s.kvLimbo := (congrArg State.kvLimbo hfree :)
  exact ⟨congrArg (List.filter _) hlimbo, hfree.setLimbo _⟩

theorem limboRelease_one {s : State} {p : Nat} {x : Nat × Nat × Nat}
    (h : s.kvLimbo.filter (fun x => x.1 == p && decide (x.2.2 ≤ s.epochOld p)) = [x]) : s.limboRelease p =
      { s.freeRun p x.2.1 with kvLimbo := s.kvLimbo.filter (fun x => !(x.1 == p && decide (x.2.2 ≤ s.epochOld p))) } := by
  have hlimbo : (s.freeRun p x.2.1).kvLimbo = s.kvLimbo := (congrArg State.kvLimbo (MemOnly.freeRun s p x.2.1) :)
  rw [State.limboRelease]
  dsimp only
  rw [h, List.foldl_cons, List.foldl_nil, hlimbo]

theorem limboRelease_held {s : State} {p : Nat} (h : ∀ x ∈ s.kvLimbo, x.1 = p → s.epochOld p < x.2.2) : s.limboRelease p = s := by
  have hno (x : Nat × Nat × Nat) (hx : x ∈ s.kvLimbo) : (x.1 == p && decide (x.2.2 ≤ s.epochOld p)) = false := by
    by_cases hp : x.1 = p
    · simp [hp, h x hx hp]
    · simp [hp]
  have hnone : s.kvLimbo.filter (fun x => x.1 == p && decide (x.2.2 ≤ s.epochOld p)) = [] :=
    List.filter_eq_nil_iff.mpr (fun x hx => by simp [hno x hx])
  have hall : s.kvLimbo.filter (fun x => !(x.1 == p && decide (x.2.2 ≤ s.epochOld p))) = s.kvLimbo :=
    List.filter_eq_self.mpr (fun x hx => by rw [hno x hx]; rfl)
  rw [State.limboRelease, hnone, List.foldl_nil, hall]

theorem parkStrokesReached_reached {s : State} {p n : Nat} (hn : n = s.fld (partPage p) Fld.PART_KV_PARK_PARK_STROKES) (h0 : n ≠ 0)
    (hb : s.fld (partPage p) Fld.PART_KV_STATUS_BELOW_STROKES = n) (ht : (s.part p).parkTaken = false) :
    parkStrokesReached s p = ((s.setFld (partPage p) Fld.PART_KV_STATUS_PARK_NEEDED 1).raise (partPage p) 26).modPart p
      (fun x => { x with parkTaken := true }) := by
  subst hn
  exact if_pos ⟨h0, hb, ht⟩

theorem parkStrokesReached_not {s : State} {p : Nat} (h : s.fld (partPage p) Fld.PART_KV_PARK_PARK_STROKES = 0 ∨
    (s.part p).parkTaken = true ∨
    s.fld (partPage p) Fld.PART_KV_STATUS_BELOW_STROKES ≠ s.fld (partPage p) Fld.PART_KV_PARK_PARK_STROKES) :
    parkStrokesReached s p = s := by
  refine if_neg ?_
  rintro ⟨h0, hb, ht⟩
  exact h.elim h0 (fun h' => h'.elim (fun hp => absurd (hp.symm.trans ht) (by decide)) (absurd hb))

/-- Settles O28: an epoch advances; a release frees the runs whose epoch no walk holds; PARK_NEEDED is set once each time. -/
theorem kvEpochs : Obligations.KvEpochs := by
  intro p s
  refine ⟨fun who hin => done_eq (letIn_letsIn hin _), ⟨_, done_eq rfl, ?released⟩, fun h => done_eq (limboRelease_held h),
    fun x h => done_eq (limboRelease_one h), fun n hn h0 hb ht => done_eq (parkStrokesReached_reached hn h0 hb ht),
    fun h => done_eq (parkStrokesReached_not h)⟩
  obtain ⟨hlimbo, heq⟩ := limboRelease_released s p
  refine ⟨fun x => ?_, (congrArg State.regs heq :), (congrArg State.host heq :), (congrArg State.kvMoves heq :),
    (congrArg State.kvParked heq :), (congrArg State.rings heq :), (congrArg State.ctxs heq :), (congrArg State.shape heq :), ?_⟩
  · rw [State.observe_kvLimbo, hlimbo, List.mem_filter, Bool.not_eq_true', ← Bool.not_eq_true, Bool.and_eq_true, beq_iff_eq,
      decide_eq_true_eq]
  · obtain ⟨f, hf, -⟩ := observe_cmds (s.limboRelease p)
    rw [hf, List.length_map, (congrArg State.cmds heq :)]

end Sys2Proof.Machine
end

section
/-! Page moves and sequence parking (R237, R243 to R248): the cases of a tier command, of a move's commit and of a park, O29 and O30. -/
namespace Sys2Proof.Machine

open Sys2Proof

/-! ### A run goes to limbo (R236) -/

theorem epochCur_congr {s t : State} (h : t.regs = s.regs) (p : Nat) : t.epochCur p = s.epochCur p := by
  simp only [State.epochCur, State.fld, State.reg, h]

theorem epochAdv_epochCur (s : State) (p : Nat) : (s.epochAdv p).epochCur p = (s.epochCur p + 1) % 2 ^ 64 :=
  State.fld_setFld_same _ _ _ _ (by decide) (by decide)

/-- A run `i` of the partition has gone to limbo: the epoch is one further, and tags it. -/
structure IntoLimbo (p i : Nat) (s t : State) : Prop where
  epoch : t.epochCur p = (s.epochCur p + 1) % 2 ^ 64
  limbo : t.kvLimbo = s.kvLimbo ++ [(p, i, t.epochCur p)]

theorem MemOnly.epochAdv {s w : State} (h : MemOnly s w) (p : Nat) : (w.epochAdv p).epochCur p = (s.epochCur p + 1) % 2 ^ 64 := by
  rw [epochAdv_epochCur, epochCur_congr (s := s) (t := w) (congrArg State.regs h :) p]

theorem intoLimbo_append {s v : State} {p i : Nat} (h : v.epochCur p = (s.epochCur p + 1) % 2 ^ 64) (hkeep : v.kvLimbo = s.kvLimbo) :
    IntoLimbo p i s { v with kvLimbo := v.kvLimbo ++ [(p, i, v.epochCur p)] } := by
  have hcur : ({ v with kvLimbo := v.kvLimbo ++ [(p, i, v.epochCur p)] } : State).epochCur p = v.epochCur p := epochCur_congr rfl p
  exact ⟨hcur.trans h, by rw [hcur, hkeep]⟩

theorem MemOnly.kvLimbo {s w : State} (h : MemOnly s w) (p : Nat) : (w.epochAdv p).kvLimbo = s.kvLimbo :=
  (congrArg (fun x => (State.epochAdv x p).kvLimbo) h :)

theorem toLimbo_intoLimbo {s u : State} (h : MemOnly s u) (p i : Nat) : IntoLimbo p i s (u.toLimbo p i) := by
  have hmem := h.trans (MemOnly.setSlotSt u p i 3)
  rw [State.toLimbo]
  exact intoLimbo_append (hmem.epochAdv p) (hmem.kvLimbo p)

theorem IntoLimbo.congr {p i : Nat} {s t u : State} (h : IntoLimbo p i s t) (hcur : u.epochCur p = t.epochCur p)
    (hlimbo : u.kvLimbo = t.kvLimbo) : IntoLimbo p i s u :=
  ⟨hcur.trans h.epoch, by rw [hlimbo, h.limbo, hcur]⟩

/-! ### A move's commit (R245) -/

theorem moved_eq (s : State) (m : KvMove) (ok : Bool) (info : Nat) : s.moved m ok info = { s with cmds := (s.moved m ok info).cmds } := by
  unfold State.moved
  split <;> rfl

/-- Registers of one page at different offsets from 0x100 on are different. -/
theorem regKey_ne {pg a b : Nat} (ha : 0x100 ≤ a) (hb : 0x100 ≤ b) (h : a ≠ b) : regKey pg a ≠ regKey pg b := by
  rw [regKey, regKey]
  split <;> split <;> omega

/-- A counter of the PART page other than CUR leaves the epoch. -/
theorem addFld_epochCur (s : State) (p : Nat) {f : Fld} (k : Nat) (h : regKey (partPage p) 0x958 ≠ regKey (partPage p) f.off) :
    (s.addFld (partPage p) f k).epochCur p = s.epochCur p := fld_setFld_other _ _ (.inl h)

theorem moveCopy_regs_kvLimbo (s : State) (m : KvMove) : (s.moveCopy m).regs = s.regs ∧ (s.moveCopy m).kvLimbo = s.kvLimbo := by
  unfold State.moveCopy
  extract_lets n
  split
  · exact ⟨State.hwrs_regs .., State.hwrs_kvLimbo ..⟩
  · exact ⟨State.wrs_regs .., State.wrs_kvLimbo ..⟩

section
variable {s : State} {m : KvMove} {k : Nat} (hcode : s.moveCode m = 0) (hk : (s.moveCopy m).xlate (some m.part) m.entry = .ok k)
include hcode hk

theorem commitMove_pinned (hpin : (s.moveCopy m).slotPin m.part m.src ≠ 0) :
    s.commitMove m = ((s.moveCopy m).dropMove m).moved m false (2 ^ 18) := by
  rw [State.commitMove]
  dsimp only
  rw [if_neg (by simp [hcode]), hk]
  exact if_pos hpin

theorem commitMove_raced (hpin : (s.moveCopy m).slotPin m.part m.src = 0) (he : (s.moveCopy m).rd64 k ≠ m.e0) :
    s.commitMove m = ((s.moveCopy m).dropMove m).moved m false (2 ^ 17) := by
  rw [State.commitMove]
  dsimp only
  rw [if_neg (by simp [hcode]), hk]
  exact (if_neg (not_not_intro hpin)).trans (if_pos he)

end

/-- The state with the entry rewritten and the move gone, before the slots are settled. -/
def State.entryMoved (s : State) (m : KvMove) (k : Nat) : State :=
  let w := s.wr64 k (movedEntry m.e0 (s.slotFrame m.part m.dst) m.toHost)
  { w with kvMoves := eraseFirst (fun y => y == m) w.kvMoves }

/-- The state with the new run settled and the old one in limbo, and the move counted. -/
def State.runMoved (x : State) (m : KvMove) : State :=
  let s := x.setSlotW0 m.part m.dst 1 (x.slotSpan m.part m.src) (x.slotOwner m.part m.src)
  ((s.setSlotUse m.part m.dst s.strokeNo).toLimbo m.part m.src).addFld (partPage m.part)
    (if m.toHost then Fld.PART_KV_SPILLED_COUNT else Fld.PART_KV_FETCHED_COUNT) 1

theorem commitMove_done {s : State} {m : KvMove} {k : Nat} (hcode : s.moveCode m = 0)
    (hk : (s.moveCopy m).xlate (some m.part) m.entry = .ok k) (hpin : (s.moveCopy m).slotPin m.part m.src = 0)
    (he : (s.moveCopy m).rd64 k = m.e0) :
    s.commitMove m = (((s.moveCopy m).entryMoved m k).runMoved m).moved m true 0 := by
  rw [State.commitMove]
  dsimp only
  rw [if_neg (by simp [hcode]), hk]
  exact (if_neg (not_not_intro hpin)).trans (if_neg (not_not_intro he))

theorem IntoLimbo.of_congr {p i : Nat} {s u t : State} (h : IntoLimbo p i u t) (hregs : u.regs = s.regs) (hlimbo : u.kvLimbo = s.kvLimbo) :
    IntoLimbo p i s t :=
  ⟨by rw [h.epoch, epochCur_congr hregs], by rw [h.limbo, hlimbo]⟩

theorem entryMoved_regs_kvLimbo (s : State) (m : KvMove) (k : Nat) :
    (s.entryMoved m k).regs = s.regs ∧ (s.entryMoved m k).kvLimbo = s.kvLimbo :=
  ⟨State.wr64_regs .., State.wr64_kvLimbo ..⟩

theorem runMoved_intoLimbo (x : State) (m : KvMove) : IntoLimbo m.part m.src x (x.runMoved m) := by
  have hmem := (MemOnly.setSlotW0 x m.part m.dst 1 (x.slotSpan m.part m.src) (x.slotOwner m.part m.src)).trans
    (MemOnly.setSlotUse _ m.part m.dst (x.setSlotW0 m.part m.dst 1 (x.slotSpan m.part m.src) (x.slotOwner m.part m.src)).strokeNo)
  refine (toLimbo_intoLimbo hmem m.part m.src).congr (addFld_epochCur _ _ _ ?_) rfl
  cases m.toHost
  · exact regKey_ne (by decide) (by decide) (by decide)
  · exact regKey_ne (by decide) (by decide) (by decide)

theorem IntoLimbo.moved {p i : Nat} {s t : State} (h : IntoLimbo p i s t) (m : KvMove) (ok : Bool) (info : Nat) :
    IntoLimbo p i s (t.moved m ok info) :=
  h.congr (epochCur_congr (congrArg State.regs (moved_eq t m ok info) :) p) (congrArg State.kvLimbo (moved_eq t m ok info) :)

theorem IntoLimbo.observe {p i : Nat} {s t : State} (h : IntoLimbo p i s t) : IntoLimbo p i s t.observe := h.congr rfl rfl

theorem commitMove_unreachable {s : State} {m : KvMove} {r q : Nat} {c : InFlight} (hcode : s.moveCode m = 0x0786)
    (hcmd : m.cmd = some (r, q)) (hat : s.cmdAt? r q = some c) : s.commitMove m = (s.dropWork c).finish r q 0x0786 := by
  obtain ⟨rfl, rfl⟩ := cmdAt?_pos hat
  rw [State.commitMove]
  dsimp only
  rw [if_pos (by simp [hcode]), if_neg (by simp [hcode]), hcmd]
  dsimp only [Option.bind_some]
  rw [hat, hcode]

/-! ### SPILL and FETCH of a list (R241, R244) -/

theorem tierNext_listed {s : State} {c d : InFlight} (hat : s.cmdAt? c.ring c.seq = some d) (hm : s.moving c.ring c.seq = false)
    (hsub : c.cmd.sub = 0) : s.tierNext c =
      s.moveList c (c.cmd.op == 0x90) (d.prog.head?.getD 0) (tierCountF c - d.prog.head?.getD 0) := by
  rw [State.tierNext]
  dsimp only
  rw [hat, if_neg (by simp [hm])]
  exact if_pos hsub

theorem tierNext_moving {s : State} {c : InFlight} (hm : s.moving c.ring c.seq = true) : s.tierNext c = s := if_pos hm

theorem moveList_starts {s t : State} {c : InFlight} {toHost : Bool} {n : Nat} {b : List Byte}
    (hb : s.rdDev (some c.part) (tierTarget c) 8 = .ok b) (hp : s.entryParked c.part (leNat b) = false)
    (ht : s.moveStart c.part (some (c.ring, c.seq)) (leNat b) toHost none (if toHost || tierForce c then 0 else s.kvLow c.part) =
      .ok t) :
    s.moveList c toHost 0 (n + 1) = t.modCmd c.ring c.seq (fun x => { x with prog := [0] }) := by
  rw [State.moveList, Nat.mul_zero, Nat.add_zero, hb]
  dsimp only
  rw [if_neg (by simp [hp]), ht]

/-- SPILL and FETCH go on in the same way, by their opcode. -/
theorem exec_tier {op r q : Nat} {i : Instr} (hi : (op, i) ∈ [(0x90, Instr.kvSpill r q), (0x91, .kvFetch r q)]) {s t : State}
    (h : s.contCmd op r q State.tierNext State.tierNext = t) : exec i s = .next t.observe := by
  simp only [List.mem_cons, Prod.mk.injEq, List.not_mem_nil, or_false] at hi
  obtain ⟨rfl, rfl⟩ | ⟨rfl, rfl⟩ := hi
  · exact done_eq h
  · exact done_eq h

/-- Settles O29: a listed command starts its first page and ends after its last; a commit takes the case its entry selects. -/
theorem kvMoves_commit : Obligations.KvMoves := by
  refine ⟨fun r q op c i s hi hsub => ?tier, fun p k m s hm => ?commit⟩
  case tier =>
    intro toHost n
    refine ⟨fun h hprog hn hmv b t hb hp ht => ?_, fun h hprog hmv => ?_, fun h hmv => ?_⟩
    · obtain ⟨rfl, rfl⟩ := cmdAt?_pos h.1
      obtain ⟨n', hn'⟩ := Nat.exists_eq_succ_of_ne_zero (Nat.pos_iff_ne_zero.mp hn)
      refine exec_tier hi ((contCmd_ready h _ _).trans ((tierNext_listed (cmdAt?_atBegin h) hmv hsub).trans ?_))
      obtain ⟨-, rfl, -⟩ := h
      have hcount : tierCountF c - 0 = n' + 1 := hn'
      change State.moveList _ c _ (c.prog.head?.getD 0) (tierCountF c - c.prog.head?.getD 0) = _
      rw [hprog, List.head?_nil, Option.getD_none, hcount]
      exact moveList_starts hb hp ht
    · obtain ⟨rfl, rfl⟩ := cmdAt?_pos h.1
      refine exec_tier hi ((contCmd_working h _ _).trans ((tierNext_listed h.1 hmv hsub).trans ?_))
      rw [hprog, List.head?_cons, Option.getD_some, Nat.sub_self]
      rfl
    · obtain ⟨rfl, rfl⟩ := cmdAt?_pos h.1
      exact exec_tier hi ((contCmd_working h _ _).trans (tierNext_moving hmv))
  case commit =>
    intro u
    have hp : m.part = p := by simpa using List.find?_some hm
    subst hp
    have hexec : kvMoveCommit s m.part = s.commitMove m := by rw [kvMoveCommit, hm]
    refine ⟨fun hcode hk => ⟨fun hpin he => ?_, fun hpin => ?_, fun hpin he => ?_⟩, fun hcode r q c hcmd hat => ?_⟩
    · refine ⟨_, done_eq (hexec.trans (commitMove_done hcode hk hpin he)), rfl, ?_⟩
      obtain ⟨hregs, hlimbo⟩ := moveCopy_regs_kvLimbo s m
      obtain ⟨hregs', hlimbo'⟩ := entryMoved_regs_kvLimbo u m k
      have hinto := (((runMoved_intoLimbo (u.entryMoved m k) m).of_congr (hregs'.trans hregs) (hlimbo'.trans hlimbo)).moved m true
        0).observe
      exact ⟨hinto.epoch, hinto.limbo⟩
    · exact done_eq (hexec.trans (commitMove_pinned hcode hk hpin))
    · exact done_eq (hexec.trans (commitMove_raced hcode hk hpin he))
    · exact done_eq (hexec.trans (commitMove_unreachable hcode hcmd hat))

end Sys2Proof.Machine
end

section
/-! Parking and unparking a sequence (R237, R243): the cases in which a park begins, and its end, O30. -/
namespace Sys2Proof.Machine

open Sys2Proof

/-! ### The cases in which a park begins -/

/-- A page named by one of the entries is pinned. -/
def State.PagePinned (s : State) (p : Nat) (es : List Nat) : Prop :=
  ∃ e ∈ es, ∃ x, s.entrySlot? p (s.rd64 (s.keyOf p e)) = some x ∧ s.slotPin p x ≠ 0

/-- The head at `a` of the partition is under edit from now on, in the next epoch. -/
def State.editBegun (s : State) (p a : Nat) : State :=
  ((s.wr64 (s.keyOf p (a + 24)) (s.rd64 (s.keyOf p (a + 24)) ||| 1)).epochAdv p).knowHead p a

/-- The slots of the pages that a park or unpark has to move. -/
def State.parkPages (s : State) (p : Nat) (park : Bool) (es : List Nat) : List Nat :=
  es.filterMap (fun e => if entryHost (s.rd64 (s.keyOf p e)) == park then none else s.entrySlot? p (s.rd64 (s.keyOf p e)))

section
variable {s : State} {c : InFlight} {park : Bool} {h : Head} (hr : s.readHead c.part (tierTarget c) = .ok h)
include hr

theorem parkStart_underEdit (he : h.edit = true) : s.parkStart c park = s := by
  rw [State.parkStart]
  dsimp only
  rw [hr]
  exact if_pos he

variable (he : h.edit = false)
include he

theorem parkStart_already (hp : h.parked = park) : s.parkStart c park = s.finish c.ring c.seq 0x0787 := by
  rw [State.parkStart]
  dsimp only
  rw [hr]
  dsimp only
  rw [if_neg (by simp [he])]
  exact if_pos (beq_iff_eq.mpr hp)

variable (hp : h.parked ≠ park)
include hp

theorem parkStart_pinned (hpark : park = true) (hpin : s.PagePinned c.part (headEntries h)) :
    s.parkStart c park = s.finish c.ring c.seq 0x0788 := by
  rw [State.parkStart]
  dsimp only
  rw [hr]
  dsimp only
  rw [if_neg (by simp [he]), if_neg (by simp [hp])]
  refine if_pos ((Bool.and_eq_true _ _).mpr ⟨hpark, List.any_eq_true.mpr ?_⟩)
  obtain ⟨e, hmem, x, hx, hpin⟩ := hpin
  exact ⟨e, hmem, by rw [hx]; exact bne_iff_ne.mpr hpin⟩

variable (hpin : park = true → ¬ s.PagePinned c.part (headEntries h))
include hpin

theorem parkStart_unpinned :
    s.parkStart c park = (s.reserveRuns c.part park ((s.parkPages c.part park (headEntries h)).map (s.slotSpan c.part))).elim
      (s.finish c.ring c.seq 0x0789) (fun x => (x.1.editBegun c.part (tierTarget c)).modCmd c.ring c.seq (fun y =>
        { y with prog := [tierTarget c, (x.1.editBegun c.part (tierTarget c)).epochCur c.part, 0] ++ x.2 })) := by
  rw [State.parkStart]
  dsimp only
  rw [hr]
  dsimp only
  rw [if_neg (by simp [he]), if_neg (by simp [hp])]
  refine (if_neg fun hany => ?pin).trans ?runs
  case pin =>
    obtain ⟨hpark, hany⟩ := (Bool.and_eq_true _ _).mp hany
    obtain ⟨e, hmem, hx⟩ := List.any_eq_true.mp hany
    split at hx
    case h_1 x hx' => exact hpin hpark ⟨e, hmem, x, hx', bne_iff_ne.mp hx⟩
    case h_2 => cases hx
  case runs =>
    rw [State.parkPages]
    split
    case h_1 hres => rw [hres, Option.elim_none]
    case h_2 hres => rw [hres]; rfl

end

/-! ### The end of a park (R243) -/

/-- A park's end before its command ends: the unused runs are free, TABLE_GEN is one higher and the head's word 3 is `f`. -/
def State.parkClosed (s : State) (p a f : Nat) (rs : List Nat) : State :=
  let w := rs.foldl (fun s i => s.freeRun p i) s
  let x := w.wr64 (w.keyOf p (a + 8)) (w.rd64 (w.keyOf p (a + 8)) + 1)
  x.wr64 (x.keyOf p (a + 24)) f

theorem parkClosed_memOnly (s : State) (p a f : Nat) (rs : List Nat) : MemOnly s (s.parkClosed p a f rs) :=
  ((MemOnly.foldl (.refl s) rs _ (fun u i => .freeRun u p i)).trans (.wr64 ..)).trans (.wr64 ..)

theorem parkNext_ends {s : State} {c : InFlight} {park : Bool} {a e0 k : Nat} {rs : List Nat} {h : Head}
    (hat : s.cmdAt? c.ring c.seq = some c) (hprog : c.prog = a :: e0 :: k :: rs) (hm : s.moving c.ring c.seq = false)
    (he : e0 ≤ s.epochOld c.part) (hr : s.readHead c.part a = .ok h) (hk : h.entries ≤ k) :
    s.parkNext c park = ((s.parkClosed c.part a (if park then 2 else 0) rs).modCmd c.ring c.seq (fun x => { x with prog := [] })).finish
      c.ring c.seq 0 := by
  have hdone : (headEntries h).drop k = [] := List.drop_eq_nil_of_le (by simpa [headEntries] using hk)
  rw [State.parkNext, hat, Option.getD_some, hprog]
  dsimp only
  rw [if_neg (by simp [hm, Nat.not_lt.mpr he]), hr]
  dsimp only
  rw [hdone, State.parkMoves]
  rfl

/-- What a command's end over a change of memory alone leaves behind. -/
theorem MemOnly.finished {s t u : State} {r q : Nat} {c : InFlight} (h : MemOnly s t) (hat : s.cmdAt? r q = some c)
    (hu : (t.modCmd r q (fun x => { x with prog := [] })).finish r q 0 = u) :
    u.observe.endedWith r q 0 c.good ∧ u.observe.mem = t.mem ∧ u.observe.kvMoves = s.kvMoves ∧ u.observe.rings = s.rings ∧
      u.observe.host = s.host := by
  subst hu
  have hat : t.cmdAt? r q = some c := (cmdAt?_congr (congrArg State.cmds h :) r q).trans hat
  have hprog := cmdAt?_modCmd hat (fun x => { x with prog := [] }) (fun _ => ⟨rfl, rfl⟩)
  refine ⟨endedWith_observe ⟨_, cmdAt?_modCmd hprog _ (fun _ => ⟨rfl, rfl⟩), rfl, rfl, rfl⟩, rfl, ?_, ?_, ?_⟩
  · exact (congrArg State.kvMoves h :)
  · exact (congrArg State.rings h :)
  · exact (congrArg State.host h :)

theorem exec_park {op r q : Nat} {i : Instr} (hi : (op, i) ∈ [(0x92, Instr.seqPark r q), (0x93, .seqUnpark r q)]) {s t : State}
    (h : s.contCmd op r q (fun s c => s.parkStart c (decide (op = 0x92))) (fun s c => s.parkNext c (decide (op = 0x92))) = t) :
    exec i s = .next t.observe := by
  simp only [List.mem_cons, Prod.mk.injEq, List.not_mem_nil, or_false] at hi
  obtain ⟨rfl, rfl⟩ | ⟨rfl, rfl⟩ := hi
  · exact done_eq h
  · exact done_eq h

/-- Settles O30: a park begins by the first of its checks that applies, and ends when every entry has passed and its epoch is retired. -/
theorem sequenceParking : Obligations.SequenceParking := by
  refine ⟨fun r q op c i h s hi hready _ => ?begins, fun r q op a e0 k rs c i h s hi hwork hprog => ?ends⟩
  case begins =>
    obtain ⟨rfl, rfl⟩ := cmdAt?_pos hready.1
    intro park u p a pages pinned hr
    refine ⟨fun he => ?_, fun he hp => ?_, fun he hp hpark hpin => ?_, fun he hp hpin hfull => ?_, fun he hp hpin t rs hres => ?_⟩
    · exact exec_park hi ((contCmd_ready hready _ _).trans (parkStart_underEdit hr he))
    · exact exec_park hi ((contCmd_ready hready _ _).trans (parkStart_already hr he hp))
    · exact exec_park hi ((contCmd_ready hready _ _).trans (parkStart_pinned hr he hp hpark hpin))
    · exact exec_park hi ((contCmd_ready hready _ _).trans ((parkStart_unpinned hr he hp hpin).trans
        (congrArg (Option.elim · _ _) hfull)))
    · exact exec_park hi ((contCmd_ready hready _ _).trans ((parkStart_unpinned hr he hp hpin).trans
        (congrArg (Option.elim · _ _) hres)))
  case ends =>
    obtain ⟨rfl, rfl⟩ := cmdAt?_pos hwork.1
    intro u hm he hr hk w x
    have hend := (contCmd_working hwork (fun s c => s.parkStart c (decide (op = 0x92))) (fun s c => s.parkNext c (decide (op = 0x92)))).trans
      (parkNext_ends (park := decide (op = 0x92)) hwork.1 hprog hm he hr hk)
    simp only [decide_eq_true_eq] at hend
    exact ⟨_, exec_park hi hend, (parkClosed_memOnly ..).finished hwork.1 rfl⟩

end Sys2Proof.Machine
end

section
/-! Attention (R206 to R223, R233, R238): the reads of the heads, and a pass's work, which leaves every command in its place, O25. -/
namespace Sys2Proof.Machine

open Sys2Proof

/-! ### Commands keep their places -/

/-- Every command in flight in `s` is in flight in `t`. -/
structure Placed (s t : State) : Prop where
  place : ∀ r q, (s.cmdAt? r q).isSome → (t.cmdAt? r q).isSome

theorem Placed.refl (s : State) : Placed s s := ⟨fun _ _ => id⟩

theorem Placed.trans {s t u : State} (h : Placed s t) (k : Placed t u) : Placed s u := ⟨fun r q => k.place r q ∘ h.place r q⟩

theorem Placed.of_cmds {s t : State} (h : t.cmds = s.cmds) : Placed s t := ⟨fun r q hs => by rwa [cmdAt?_congr h]⟩

theorem Placed.modCmd (s : State) (r q : Nat) {f : InFlight → InFlight} (hf : ∀ c, (f c).ring = c.ring ∧ (f c).seq = c.seq) :
    Placed s (s.modCmd r q f) := ⟨(CoreWork.modCmd s r q hf).place⟩

theorem MemOnly.cmds {s t : State} (h : MemOnly s t) : t.cmds = s.cmds := (congrArg State.cmds h :)

theorem MemOnly.placed {s t : State} (h : MemOnly s t) : Placed s t := .of_cmds h.cmds

theorem Placed.foldl {α : Type} {s t : State} (h : Placed s t) (l : List α) (f : State → α → State) (hf : ∀ u a, Placed u (f u a)) :
    Placed s (l.foldl f t) :=
  List.foldlRecOn l f h (fun u hu a _ => hu.trans (hf u a))

/-- The same for a fold that carries more than the state. -/
theorem Placed.foldl_of {α β : Type} {s : State} (g : β → State) {x : β} (h : Placed s (g x)) (l : List α) (f : β → α → β)
    (hf : ∀ u a, Placed (g u) (g (f u a))) : Placed s (g (l.foldl f x)) :=
  List.foldlRecOn (motive := fun y => Placed s (g y)) l f h (fun u hu a _ => hu.trans (hf u a))

theorem Placed.ite {s t u : State} {c : Prop} [Decidable c] (h : Placed s t) (k : Placed s u) : Placed s (if c then t else u) := by
  split
  · exact h
  · exact k

/-! ### A page of lookahead (R239) -/

theorem limboAppend_cmds {s w : State} (h : w.cmds = s.cmds) (p : Nat) (l : List (Nat × Nat × Nat)) :
    ({ w.epochAdv p with kvLimbo := l } : State).cmds = s.cmds := h

theorem toLimbo_cmds (s : State) (p i : Nat) : (s.toLimbo p i).cmds = s.cmds := by
  rw [State.toLimbo]
  exact limboAppend_cmds (MemOnly.setSlotSt ..).cmds p _

theorem runMoved_cmds (x : State) (m : KvMove) : (x.runMoved m).cmds = x.cmds := by
  rw [State.runMoved, State.addFld_cmds, toLimbo_cmds, (MemOnly.setSlotUse ..).cmds, (MemOnly.setSlotW0 ..).cmds]

theorem moved_cmds {m : KvMove} (h : m.cmd = none) (s : State) (ok : Bool) (info : Nat) : (s.moved m ok info).cmds = s.cmds := by
  rw [State.moved, h]

theorem dropMove_cmds (s : State) (m : KvMove) : (s.dropMove m).cmds = s.cmds := by
  have hfree (u : State) : (u.freeRun m.part m.dst).cmds = u.cmds := (MemOnly.freeRun u ..).cmds
  rw [State.dropMove]
  split
  · rw [(MemOnly.setSlotSt ..).cmds, hfree]
  · rw [hfree]

theorem moveCopy_cmds (s : State) (m : KvMove) : (s.moveCopy m).cmds = s.cmds := by
  unfold State.moveCopy
  extract_lets n
  split
  · exact State.hwrs_cmds ..
  · exact State.wrs_cmds ..

theorem moveCode_toDevice {s : State} {m : KvMove} (h : m.toHost = false) : s.moveCode m = 0x0786 ∨ s.moveCode m = 0 := by
  rw [State.moveCode, h, Bool.false_and, if_neg Bool.false_ne_true]
  split
  · exact .inl rfl
  · exact .inr rfl

/-- A move that is no command's, to device memory, leaves the commands alone. -/
theorem commitMove_cmds {m : KvMove} (hcmd : m.cmd = none) (hdev : m.toHost = false) (s : State) : (s.commitMove m).cmds = s.cmds := by
  obtain hcode | hcode := moveCode_toDevice (s := s) hdev
  · rw [State.commitMove]
    dsimp only
    rw [if_pos (by simp [hcode]), if_neg (by simp [hcode]), hcmd]
    exact dropMove_cmds s m
  · cases hk : (s.moveCopy m).xlate (some m.part) m.entry with
    | error e =>
      rw [State.commitMove]
      dsimp only
      rw [if_neg (by simp [hcode]), hk]
      exact (moved_cmds hcmd ..).trans ((dropMove_cmds ..).trans (moveCopy_cmds s m))
    | ok k =>
      by_cases hpin : (s.moveCopy m).slotPin m.part m.src = 0
      · by_cases he : (s.moveCopy m).rd64 k = m.e0
        · rw [commitMove_done hcode hk hpin he, moved_cmds hcmd, runMoved_cmds]
          exact (State.wr64_cmds ..).trans (moveCopy_cmds s m)
        · rw [commitMove_raced hcode hk hpin he, moved_cmds hcmd, dropMove_cmds, moveCopy_cmds]
      · rw [commitMove_pinned hcode hk hpin, moved_cmds hcmd, dropMove_cmds, moveCopy_cmds]

theorem moveStart_ok {s t : State} {p e low : Nat} {cmd : Option (Nat × Nat)} {toHost : Bool} {dst : Option Nat}
    (h : s.moveStart p cmd e toHost dst low = .ok t) :
    t.cmds = s.cmds ∧ ∃ l m, t.kvMoves = l ++ [m] ∧ m.cmd = cmd ∧ m.toHost = toHost := by
  unfold State.moveStart at h
  split at h
  · cases h
  extract_lets e0 at h
  split at h
  · cases h
  split at h
  · cases h
  rename_i src _
  split at h
  · cases h
  extract_lets span run at h
  clear_value run
  cases run with
  | none => cases h
  | some d =>
    have hw := ((MemOnly.takeRun s p d span 2 e).trans (.setSlotSt _ p src 2)).cmds
    dsimp only at h
    generalize (s.takeRun p d span 2 e).setSlotSt p src 2 = w at h hw
    obtain rfl := Except.ok.inj h
    exact ⟨hw, _, _, rfl, rfl, rfl⟩

/-- The lookahead of a tier-1 page: a move to device memory that may end at once. -/
def State.lookAhead (s : State) (p entry : Nat) : State :=
  match s.moveStart p none entry false none (s.fld (partPage p) Fld.PART_KV_WM_LOW) with
  | .error _ => s
  | .ok t =>
    let (v, t) := t.draw
    if v.toNat % 2 = 1 then (match t.kvMoves.getLast? with | some m => t.commitMove m | none => t) else t

theorem lookAhead_cmds (s : State) (p entry : Nat) : (s.lookAhead p entry).cmds = s.cmds := by
  unfold State.lookAhead
  split
  · rfl
  · rename_i t ht
    obtain ⟨hcmds, l, m, hl, hcmd, hdev⟩ := moveStart_ok ht
    dsimp only
    split
    · rw [State.draw_kvMoves, hl, List.getLast?_append, List.getLast?_singleton, Option.some_or]
      exact (commitMove_cmds hcmd hdev _).trans hcmds
    · exact hcmds

theorem fetchPage_placed (s : State) (c : InFlight) (ad : AttnDesc) (g : KvPage) : Placed s (s.fetchPage c ad g).1 := by
  unfold State.fetchPage
  extract_lets p info count e moving ahead e' n a used
  have hinfo (u : State) (i : Nat) : Placed u (info u i) := .modCmd u _ _ (fun _ => ⟨rfl, rfl⟩)
  have hadd (u : State) (pg : Nat) (f : Fld) (k : Nat) : Placed u (u.addFld pg f k) := .of_cmds rfl
  have hcount (u : State) : Placed u (count u) := .ite (hadd ..) (((hadd u ..).trans (hadd ..)).trans (hinfo ..))
  have hahead : Placed s ahead := .ite (.of_cmds (lookAhead_cmds s p g.entry)) (.refl s)
  have hused : Placed s used := by
    refine hahead.trans ?_
    unfold used
    split
    · exact .ite (MemOnly.setSlotUse ..).placed (.refl _)
    · exact .refl _
  split
  · exact .refl s
  split
  · split
    · exact hahead
    · exact hahead.trans ((hcount ahead).trans ((hadd ..).trans (hinfo ..)))
  · split
    · exact hused
    · exact hused.trans (hcount used)

theorem fetchPages_placed (c : InFlight) (ad : AttnDesc) (ps : List KvPage) (s : State) : Placed s (s.fetchPages c ad ps).s := by
  induction ps generalizing s with
  | nil => exact .refl s
  | cons g r ih =>
    rw [State.fetchPages]
    dsimp only
    split
    · exact fetchPage_placed s c ad g
    · exact (fetchPage_placed s c ad g).trans (ih _)

/-! ### Passes (R214 to R219) -/

theorem passFetch_placed (s : State) (c : InFlight) (ad : AttnDesc) (ts : List AttnTile) : Placed s (s.passFetch c ad ts).s :=
  (fetchPages_placed c ad _ s).trans (.of_cmds rfl)

theorem wrDev_placed (s : State) (p : Option Nat) (a : Nat) (bs : List Byte) : Placed s (s.wrDev p a bs).1 := .of_cmds (wrDev_cmds ..)

theorem putRow_placed (s : State) (p a fmt : Nat) (vs : List Val) : Placed s (s.putRow p a fmt vs).1 := wrDev_placed ..

theorem attnFwdTile_placed (c : InFlight) (ad : AttnDesc) (x : AttnRun) (t : AttnTile) : Placed x.s (attnFwdTile c ad x t).s := by
  unfold attnFwdTile
  extract_lets p sz w s
  have hrows : Placed x.s w.1 := .foldl_of Prod.fst (.refl x.s) t.rows _ (fun _ _ => (putRow_placed ..).trans (wrDev_placed ..))
  exact hrows.trans (.modCmd _ _ _ (fun _ => ⟨rfl, rfl⟩))

theorem attnFwdPass_placed (c : InFlight) (ad : AttnDesc) (x : AttnRun) (ts : List AttnTile) : Placed x.s (attnFwdPass c ad x ts).s := by
  unfold attnFwdPass
  split
  · exact .refl _
  extract_lets p sz q f ready y
  split
  · exact .refl _
  · exact .foldl_of (fun a : AttnRun => a.s) (passFetch_placed x.s c ad ts) _ _ (fun _ _ => attnFwdTile_placed ..)

theorem sweep1_placed (s : State) (p : Nat) (ad : AttnDesc) (e : SeqEntry) (ps : List KvPage) : Placed s (s.sweep1 p ad e ps).1 :=
  .foldl_of Prod.fst (.refl s) _ _ (fun _ _ => .foldl_of Prod.fst (.refl _) _ _ (fun _ _ =>
    (putRow_placed ..).trans (putRow_placed ..)))

theorem sweep2_placed (s : State) (p : Nat) (ad : AttnDesc) (e : SeqEntry) (ps : List KvPage) (head : Nat) (rows : List Nat) :
    Placed s (s.sweep2 p ad e ps head rows).1 :=
  .foldl_of Prod.fst (.refl s) _ _ (fun _ _ => putRow_placed ..)

theorem attnBwdPass_placed (c : InFlight) (ad : AttnDesc) (x : AttnRun) (ts : List AttnTile) : Placed x.s (attnBwdPass c ad x ts).s := by
  unfold attnBwdPass
  split
  · exact .refl _
  · exact .foldl_of Prod.fst (passFetch_placed x.s c ad ts) _ _ (fun _ _ => sweep2_placed ..)

theorem attnBwdRun_placed (s : State) (c : InFlight) (ad : AttnDesc) (size : Nat) (es : List (SeqEntry × List KvPage)) :
    Placed s (s.attnBwdRun c ad size es).s := by
  unfold State.attnBwdRun
  extract_lets p reads stored ts f one
  split
  · exact .refl _
  split
  · exact passFetch_placed s c ad ts
  · refine .foldl_of (fun a : AttnRun => a.s) ?_ _ _ (fun _ _ => attnBwdPass_placed ..)
    exact .foldl_of Prod.fst (passFetch_placed s c ad ts) _ _ (fun _ _ => sweep1_placed ..)

/-! ### The end of a command that has run -/

/-- From `s` to `t` memories and rings stay, and commands keep their places. -/
structure Tallied (s t : State) : Prop where
  mem : t.mem = s.mem
  host : t.host = s.host
  rings : t.rings = s.rings
  placed : Placed s t

theorem Tallied.refl (s : State) : Tallied s s := ⟨rfl, rfl, rfl, .refl s⟩

theorem Tallied.trans {s t u : State} (h : Tallied s t) (k : Tallied t u) : Tallied s u :=
  ⟨k.mem.trans h.mem, k.host.trans h.host, k.rings.trans h.rings, h.placed.trans k.placed⟩

theorem Tallied.foldl {α : Type} {s t : State} (h : Tallied s t) (l : List α) (f : State → α → State) (hf : ∀ u a, Tallied u (f u a)) :
    Tallied s (l.foldl f t) :=
  List.foldlRecOn l f h (fun u hu a _ => hu.trans (hf u a))

theorem Tallied.modCmd (s : State) (r q : Nat) {f : InFlight → InFlight} (hf : ∀ c, (f c).ring = c.ring ∧ (f c).seq = c.seq) :
    Tallied s (s.modCmd r q f) := ⟨rfl, rfl, rfl, .modCmd s r q hf⟩

theorem Tallied.arith (s : State) (c : InFlight) (core flags : Nat) : Tallied s (s.arith c core flags) :=
  ⟨rfl, rfl, rfl, ⟨(CoreWork.arith s c core flags).place⟩⟩

theorem Tallied.tick (s : State) (pg : Nat) (f : Fld) : Tallied s (s.tick pg f) := ⟨rfl, rfl, rfl, .of_cmds rfl⟩

/-- A command with its place kept ends with its status and bytes, and its end leaves memories and rings. -/
theorem Tallied.ended {s t : State} (h : Tallied s t) {r q : Nat} (hat : (s.cmdAt? r q).isSome) (status good : Nat) :
    (t.endCmd r q status good).observe.endedWith r q status good ∧ (t.endCmd r q status good).observe.mem = s.mem ∧
      (t.endCmd r q status good).observe.host = s.host ∧ (t.endCmd r q status good).observe.rings = s.rings := by
  obtain ⟨d, hd⟩ := Option.isSome_iff_exists.mp (h.placed.place r q hat)
  exact ⟨endedWith_observe (endCmd_endedWith hd status good), h.mem, h.host, h.rings⟩

/-! ### Reading the heads (R208, R238) -/

theorem attnHeads_next {s : State} {c : InFlight} {list : Nat} {heads : List Nat} {n : Nat} {b : List Byte}
    (h32 : (seqEntry (leBytes (32 * (attnDesc c.ext).count) list) heads.length).head % 32 = 0)
    (hcode : s.rangeCode c.part (seqEntry (leBytes (32 * (attnDesc c.ext).count) list) heads.length).head 32 = 0)
    (hb : s.rdDev (some c.part) (seqEntry (leBytes (32 * (attnDesc c.ext).count) list) heads.length).head 32 = .ok b) :
    s.attnHeads c list heads (n + 1) =
      if bitsAt b 24 0 0 = 1 then s.modCmd c.ring c.seq (fun x => { x with epoch := none, prog := list :: heads })
      else s.attnHeads c list (heads ++ [leNat b]) n := by
  rw [State.attnHeads]
  rw [if_neg (not_not_intro h32), if_neg (not_not_intro hcode), hb]

/-- With every head readable and none under edit the command runs. -/
theorem attnHeads_all {s : State} {c : InFlight} {list : Nat} {heads : List Nat} (hlen : heads.length = (attnDesc c.ext).count)
    (hcode : ∀ k < heads.length, (seqEntry (leBytes (32 * (attnDesc c.ext).count) list) k).head % 32 = 0 ∧
      s.rangeCode c.part (seqEntry (leBytes (32 * (attnDesc c.ext).count) list) k).head 32 = 0)
    (hread : ∀ k < heads.length, ∃ h, s.rdDev (some c.part) (seqEntry (leBytes (32 * (attnDesc c.ext).count) list) k).head 32 = .ok h ∧
      leNat h = heads.getD k 0 ∧ bitsAt h 24 0 0 = 0) (n k : Nat) (hk : k + n = heads.length) :
    s.attnHeads c list (heads.take k) n = s.attnRun c list heads := by
  induction n generalizing k with
  | zero => rw [State.attnHeads, List.take_of_length_le (by omega)]
  | succ n ih =>
    have hlt : k < heads.length := by omega
    have htake : (heads.take k).length = k := List.length_take_of_le (Nat.le_of_lt hlt)
    obtain ⟨b, hb, hn, hedit⟩ := hread k hlt
    rw [attnHeads_next (by rw [htake]; exact (hcode k hlt).1) (by rw [htake]; exact (hcode k hlt).2) (by rw [htake]; exact hb),
      if_neg (by omega), hn, List.getD_eq_getElem?_getD, List.getElem?_eq_getElem hlt, Option.getD_some, List.take_append_getElem hlt]
    exact ih (k + 1) (by omega)

/-! ### The run (R206, R223) -/

/-- The entries of a command's list. -/
def seqEntries (c : InFlight) (list : Nat) : List SeqEntry :=
  (List.range (attnDesc c.ext).count).map (seqEntry (leBytes (32 * (attnDesc c.ext).count) list))

theorem attnRun_refused {s v : State} {c : InFlight} {list e : Nat} {heads : List Nat}
    (hv : v = (seqEntries c list).foldl (fun s e => s.knowHead c.part e.head) s)
    (he : v.seqCheck c (attnDesc c.ext) (seqEntries c list) heads = .error e) (hbad : e ≠ 0xF001) :
    s.attnRun c list heads = v.endCmd c.ring c.seq e 0 := by
  subst hv
  unfold State.attnRun
  extract_lets ad b es v
  change v.seqCheck c ad es heads = _ at he
  rw [he]
  dsimp only
  rw [if_neg hbad]
  rfl

/-- The cores a command of a cluster names, as far as they are in service. -/
def State.namedCores (s : State) (c : InFlight) : List Nat :=
  ((bitList 8 c.cmd.arg).filterMap (fun i => (s.clusterCores c.ccp)[i]?)).filter (fun n => !s.outOfService 7 n)

/-- The cores of an attention command with free accumulators and scratchpad blanks. -/
def State.attnCleared (s : State) (c : InFlight) : State :=
  let ad := attnDesc c.ext
  (s.namedCores c).foldl (fun s n => (s.lose (amKey n 0) (2 ^ 20)).lose (spKey n (ad.blank0 * 2 ^ 14)) (ad.blanks * 2 ^ 14)) s

/-- The passes of an attention command on cleared cores `cores`. -/
def State.attnPasses (w : State) (c : InFlight) (cores : List Nat) (es : List (SeqEntry × List KvPage)) : AttnRun :=
  let ad := attnDesc c.ext
  if c.cmd.op = 0x36 then w.attnBwdRun c ad (w.passSize cores) es
  else (passesOf (w.passSize cores) (attnTiles ad es)).foldl (attnFwdPass c ad) ⟨w, 0, 0, 0, none⟩

theorem attnPasses_placed (w : State) (c : InFlight) (cores : List Nat) (es : List (SeqEntry × List KvPage)) :
    Placed w (w.attnPasses c cores es).s := by
  unfold State.attnPasses
  extract_lets ad
  split
  · exact attnBwdRun_placed ..
  · exact .foldl_of (fun x : AttnRun => x.s) (.refl w) _ _ (fun _ _ => attnFwdPass_placed ..)

theorem attnCleared_cmds (s : State) (c : InFlight) : (s.attnCleared c).cmds = s.cmds :=
  List.foldlRecOn (motive := fun t => State.cmds t = s.cmds) (s.namedCores c) _ rfl (fun _ h _ _ => h)

/-- The run's state with flags and activity counted. -/
def AttnRun.counted (x : AttnRun) (c : InFlight) (cores : List Nat) : State :=
  cores.foldl (fun s n => (s.tick (page 7 n) Fld.CORE_ME_ACTIVE_CYCLES).tick (page 7 n) Fld.CORE_SP_CONFLICT_CYCLES)
    (cores.foldl (fun s n => s.arith c n x.flags) (x.s.modCmd c.ring c.seq (fun y => { y with info := y.info ||| x.flags * 256 })))

theorem AttnRun.counted_tallied (x : AttnRun) (c : InFlight) (cores : List Nat) : Tallied x.s (x.counted c cores) := by
  have hinfo : Tallied x.s (x.s.modCmd c.ring c.seq (fun y => { y with info := y.info ||| x.flags * 256 })) :=
    .modCmd _ _ _ (fun _ => ⟨rfl, rfl⟩)
  exact (hinfo.foldl cores _ (fun u n => .arith u c n x.flags)).foldl cores _ (fun _ _ => (Tallied.tick ..).trans (.tick ..))

theorem attnRun_runs {s v : State} {c : InFlight} {list : Nat} {heads : List Nat} {pages : List (List KvPage)}
    (hv : v = (seqEntries c list).foldl (fun s e => s.knowHead c.part e.head) s)
    (hok : v.seqCheck c (attnDesc c.ext) (seqEntries c list) heads = .ok pages)
    (hbad : ((v.attnCleared c).attnPasses c (v.namedCores c) ((seqEntries c list).zip pages)).bad = none) :
    s.attnRun c list heads =
      (((v.attnCleared c).attnPasses c (v.namedCores c) ((seqEntries c list).zip pages)).counted c (v.namedCores c)).endCmd
        c.ring c.seq ((v.attnCleared c).attnPasses c (v.namedCores c) ((seqEntries c list).zip pages)).code
        ((v.attnCleared c).attnPasses c (v.namedCores c) ((seqEntries c list).zip pages)).good := by
  subst hv
  unfold State.attnRun
  extract_lets ad b es v
  change v.seqCheck c ad es heads = _ at hok
  rw [hok]
  dsimp only
  change ((v.attnCleared c).attnPasses c (v.namedCores c) (es.zip pages)).bad = none at hbad
  change (match ((v.attnCleared c).attnPasses c (v.namedCores c) (es.zip pages)).bad with | some k => _ | none => _) = _
  rw [hbad]
  rfl

theorem knowHead_cmds (s : State) (p a : Nat) : (s.knowHead p a).cmds = s.cmds := by
  unfold State.knowHead
  split <;> rfl

theorem headEditRetry_reads {s : State} {c : InFlight} {list : Nat} {heads : List Nat} (hat : s.cmdAt? c.ring c.seq = some c)
    (hc : (c.cmd.op = 0x35 ∨ c.cmd.op = 0x36) ∧ c.phase = .started ∧ c.epoch = none ∧ c.saved = false ∧ s.draining c = false ∧
      s.partAsleep c.part = false) (hprog : c.prog = list :: heads) :
    headEditRetry s c.ring c.seq = (s.modCmd c.ring c.seq (fun x => { x with epoch := some (s.epochCur c.part) })).attnHeads c list heads
      ((attnDesc c.ext).count - heads.length) := by
  rw [headEditRetry, hat]
  dsimp only
  rw [if_pos hc, hprog]

theorem exec_attn {op r q : Nat} {i : Instr} (hi : (op, i) ∈ [(0x35, Instr.attnFwd r q), (0x36, .attnBwd r q)]) {s t : State}
    (h : s.contCmd op r q State.attnStart (fun s _ => s) = t) : exec i s = .next t.observe := by
  simp only [List.mem_cons, Prod.mk.injEq, List.not_mem_nil, or_false] at hi
  obtain ⟨rfl, rfl⟩ | ⟨rfl, rfl⟩ := hi
  · exact done_eq h
  · exact done_eq h

/-- Settles O25: the heads are read one by one, and the command that has them all is checked, runs and ends. -/
theorem attention_readsAndRuns : Obligations.Attention := by
  refine ⟨fun r q c i op b heads s hi hready => ?starts, fun r q c list heads h s => ?retry⟩
  case starts =>
    obtain ⟨rfl, rfl⟩ := cmdAt?_pos hready.1
    intro ad u entry hlist hlen hcode hread es v cores w
    have hstart : (s.atBegin c).attnStart c = u.attnRun c (leNat b) heads := by
      rw [State.attnStart]
      change (match u.rdDev (some c.part) ad.list (32 * ad.count) with | .error e => _ | .ok b => _) = _
      rw [hlist]
      refine attnHeads_all (heads := heads) hlen ?_ ?_ ad.count 0 (by omega)
      · rw [hlen]
        exact hcode
      · rw [hlen]
        exact hread
    have hexec := exec_attn hi ((contCmd_ready hready State.attnStart (fun s _ => s)).trans hstart)
    refine ⟨hexec, fun e he hbad => ?_, fun pages hok => ?_⟩
    · rw [hexec, attnRun_refused (v := v) rfl he hbad]
    · have hbegun := cmdAt?_atBegin hready
      obtain ⟨-, rfl, -⟩ := hready
      have hbegin : (u.cmdAt? c.ring c.seq).isSome := (Placed.modCmd (s.atBegin c) c.ring c.seq
        (f := fun x => { x with epoch := some (s.epochCur c.part) }) (fun _ => ⟨rfl, rfl⟩)).place _ _ (Option.isSome_of_eq_some hbegun)
      have hplaced : Placed u ((v.attnCleared c).attnPasses c (v.namedCores c) (es.zip pages)).s :=
        ((Placed.foldl (.refl u) es _ (fun s e => .of_cmds (knowHead_cmds s c.part e.head))).trans
          (.of_cmds (attnCleared_cmds v c))).trans (attnPasses_placed ..)
      intro x hbad
      refine ⟨_, hexec.trans (congrArg (fun t => Host.Outcome.next (State.observe t)) (attnRun_runs (v := v) rfl hok hbad)), ?_⟩
      exact (AttnRun.counted_tallied x c cores).ended (hplaced.place _ _ hbegin) x.code x.good

  case retry =>
    intro ad e u hat hop hph hep hsaved hdr hsl hprog hlt h32 hcode hb
    obtain ⟨rfl, rfl⟩ := cmdAt?_pos hat
    obtain ⟨n, hn⟩ := Nat.exists_eq_add_of_lt hlt
    have hcount : ad.count - heads.length = n + 1 := by omega
    have hreads := (headEditRetry_reads hat ⟨hop, hph, hep, hsaved, hdr, hsl⟩ hprog).trans
      ((congrArg (u.attnHeads c list heads) hcount).trans (attnHeads_next (n := n) h32 hcode hb))
    refine ⟨fun hedit => done_eq (hreads.trans (if_pos hedit)), fun hedit hlast => done_eq (hreads.trans ((if_neg (by omega)).trans ?_))⟩
    rw [show n = 0 by omega]
    rfl

end Sys2Proof.Machine
end

section
/-! The container's chunks (11): little-endian fields read back, the chunk header, the CRC, and a whole chunk, O31. -/
namespace Sys2Proof.Machine

open Sys2Proof

/-! ### Little-endian fields -/

@[simp] theorem leBytes_length (n v : Nat) : (leBytes n v).length = n := by
  induction n generalizing v with
  | zero => rfl
  | succ n ih => rw [leBytes, List.length_cons, ih]

theorem leNat_leBytes (n v : Nat) : leNat (leBytes n v) = v % 256 ^ n := by
  induction n generalizing v with
  | zero => rw [leBytes, leNat, Nat.pow_zero, Nat.mod_one]
  | succ n ih => rw [leBytes, leNat, ih, BitVec.toNat_ofNat, show 256 ^ (n + 1) = 256 * 256 ^ n from Nat.pow_succ', Nat.mod_mul]

/-- A field at the front of a list of fields reads as its value. -/
theorem leAt_first (n v : Nat) (b : List Byte) : leAt (leBytes n v ++ b) 0 n = v % 256 ^ n := by
  rw [leAt, List.drop_zero, List.take_left' (leBytes_length n v), leNat_leBytes]

theorem leAt_append_right {a : List Byte} {i : Nat} (h : a.length ≤ i) (b : List Byte) (n : Nat) :
    leAt (a ++ b) i n = leAt b (i - a.length) n := by
  rw [leAt, leAt, List.drop_append, List.drop_eq_nil_of_le h, List.nil_append]

/-- A field behind the first one is read from the rest. -/
theorem leAt_behind {m i : Nat} (h : m ≤ i) (v : Nat) (b : List Byte) (n : Nat) : leAt (leBytes m v ++ b) i n = leAt b (i - m) n := by
  rw [leAt_append_right (by rw [leBytes_length]; exact h), leBytes_length]

/-! ### The header (Table 11.2) -/

/-- The header's flag byte. -/
def FulHead.flagByte (x : FulHead) : Nat := (if x.last then 1 else 0) + (if x.tiled then 2 else 0) + (if x.raw then 4 else 0)

theorem flagByte_bits (x : FulHead) : x.flagByte < 8 ∧ (x.flagByte % 2 == 1) = x.last ∧ (x.flagByte / 2 % 2 == 1) = x.tiled ∧
    (x.flagByte / 4 % 2 == 1) = x.raw := by
  unfold FulHead.flagByte
  cases x.last <;> cases x.tiled <;> cases x.raw <;> decide

theorem headBytes_length (h : FulHead) : h.bytes.length = 64 := by
  simp only [FulHead.bytes, List.length_append, leBytes_length]

/-- Every field of the header is in range (Table 11.2). -/
structure FulHead.Fits (x : FulHead) : Prop where
  mode : x.mode < 256
  fmt : x.fmt < 32
  stored : x.stored < 32
  planes : x.planes < 256
  index : x.index < 2 ^ 32
  units : x.units < 2 ^ 32
  first : x.first < 2 ^ 64
  total : x.total < 2 ^ 64
  w : x.w < 2 ^ 16
  h : x.h < 2 ^ 16
  chans : x.chans < 2 ^ 32
  param0 : x.param0 < 2 ^ 32
  param1 : x.param1 < 2 ^ 32
  rawBytes : x.rawBytes < 2 ^ 32
  payload : x.payload < 2 ^ 32

theorem fulHead_bytes {h : FulHead} (hf : h.Fits) (rest : List Byte) : fulHead (h.bytes ++ rest) = h := by
  obtain ⟨hmode, hfmt, hstored, hplanes, hindex, hunits, hfirst, htotal, hw, hh, hchans, hp0, hp1, hraw, hpay⟩ := hf
  obtain ⟨hflag, hlast, htiled, hr⟩ := flagByte_bits h
  have hbyte : h.flagByte % 256 = h.flagByte := Nat.mod_eq_of_lt (by omega)
  simp only [Nat.reducePow] at hindex hunits hfirst htotal hw hh hchans hp0 hp1 hraw hpay
  rw [FulHead.bytes, ← FulHead.flagByte]
  simp only [fulHead, List.append_assoc]
  simp [leAt_behind, leAt_first, bitsAt, Nat.shiftRight_eq_div_pow, Nat.mod_eq_of_lt, *]

theorem badHead_bytes {h : FulHead} (hf : h.Fits) (rest : List Byte) : badHead (h.bytes ++ rest) = false := by
  obtain ⟨-, hfmt, hstored, -⟩ := hf
  obtain ⟨hflag, -⟩ := flagByte_bits h
  rw [FulHead.bytes, ← FulHead.flagByte]
  simp only [badHead, List.append_assoc]
  simp [leAt_behind, leAt_first, bitsAt, Nat.shiftRight_eq_div_pow]
  omega

/-! ### The CRC (R257) -/

theorem crcBit_lt {c : Nat} (h : c < 2 ^ 32) : crcBit c < 2 ^ 32 := by
  unfold crcBit
  split
  · exact Nat.xor_lt_two_pow (by omega) (by decide)
  · omega

theorem crcByte_lt {c : Nat} (h : c < 2 ^ 32) (b : Byte) : crcByte c b < 2 ^ 32 := by
  have hx : c ^^^ b.toNat < 2 ^ 32 := Nat.xor_lt_two_pow h (by omega)
  exact crcBit_lt (crcBit_lt (crcBit_lt (crcBit_lt (crcBit_lt (crcBit_lt (crcBit_lt (crcBit_lt hx)))))))

theorem crc32c_lt (bs : List Byte) : crc32c bs < 2 ^ 32 :=
  Nat.xor_lt_two_pow (List.foldlRecOn (motive := (· < 2 ^ 32)) bs crcByte (by decide) (fun _ h b _ => crcByte_lt h b)) (by decide)

/-! ### A whole chunk (R257) -/

theorem alignUp_mod {a : Nat} (ha : a ≠ 0) (x : Nat) : alignUp x a % a = 0 := by
  rw [alignUp, if_neg ha, Nat.mul_mod_left]

theorem le_alignUp {a : Nat} (ha : a ≠ 0) (x : Nat) : x ≤ alignUp x a := by
  rw [alignUp, if_neg ha]
  have hdiv := Nat.div_add_mod (x + a - 1) a
  have hmod := Nat.mod_lt (x + a - 1) (Nat.pos_of_ne_zero ha)
  rw [Nat.mul_comm] at hdiv
  omega

/-- A chunk is its header, its payload, their CRC and zeros up to the next 64 bytes. -/
theorem chunkBytes_eq (h : FulHead) (p : List Byte) : ∃ n, chunkBytes h p =
    h.bytes ++ (p ++ (leBytes 4 (crc32c (h.bytes ++ p)) ++ List.replicate n 0)) := by
  refine ⟨alignUp ((h.bytes ++ p) ++ leBytes 4 (crc32c (h.bytes ++ p))).length 64 -
    ((h.bytes ++ p) ++ leBytes 4 (crc32c (h.bytes ++ p))).length, ?_⟩
  rw [chunkBytes]
  simp only [List.append_assoc]

theorem chunkBytes_length (h : FulHead) (p : List Byte) : (chunkBytes h p).length % 64 = 0 := by
  rw [chunkBytes, List.length_append, List.length_replicate, Nat.add_sub_cancel' (le_alignUp (by decide) _)]
  exact alignUp_mod (by decide) _

/-- Settles O31: every field is read from its own bytes, and the payload and the CRC stand behind the header. -/
theorem fullerHeader : Obligations.FullerHeader := by
  intro h p rest hmode hfmt hstored hplanes hindex hunits hfirst htotal hw hh hchans hp0 hp1 hraw hpay hlen b
  have hfits : h.Fits := ⟨hmode, hfmt, hstored, hplanes, hindex, hunits, hfirst, htotal, hw, hh, hchans, hp0, hp1, hraw, hpay⟩
  obtain ⟨n, hb⟩ : ∃ n, b = h.bytes ++ (p ++ (leBytes 4 (crc32c (h.bytes ++ p)) ++ List.replicate n 0)) := chunkBytes_eq h p
  have hbody : (h.bytes ++ p).length = 64 + h.payload := by rw [List.length_append, headBytes_length, hlen]
  have hpre : b = (h.bytes ++ p) ++ (leBytes 4 (crc32c (h.bytes ++ p)) ++ List.replicate n 0) := by rw [hb, List.append_assoc]
  refine ⟨?_, ?_, chunkBytes_length h p, ?_, ?_⟩
  · rw [hb, List.append_assoc, fulHead_bytes hfits]
  · rw [hb, List.append_assoc, badHead_bytes hfits]
  · rw [hb, List.drop_left' (headBytes_length h), List.take_left' hlen.symm]
  · rw [hpre, List.take_left' hbody, leAt_append_right (Nat.le_of_eq hbody), hbody, Nat.sub_self, leAt_first]
    exact (Nat.mod_eq_of_lt (crc32c_lt _)).symm

end Sys2Proof.Machine
end

section
/-! FUL_PACK and FUL_UNPACK chunk by chunk (R252, R266 to R269), O32. -/
namespace Sys2Proof.Machine

open Sys2Proof

/-! ### Turns (R252) -/

section
variable {s : State} {c : InFlight} {f : Nat} (hat : s.cmdAt? c.ring c.seq = some c) (hf : s.fulOf c = some f)
include hat hf

theorem fulStep_waits (h : s.fulTurn f ≠ some c.startNo) (next : State → Nat → State) : s.fulStep c next = s := by
  rw [State.fulStep, hat, hf]
  exact if_neg h

theorem fulStep_turn (h : s.fulTurn f = some c.startNo) (next : State → Nat → State) :
    s.fulStep c next = next { s with fulLast := SMap.put s.fulLast f c.startNo } f := by
  rw [State.fulStep, hat, hf]
  exact if_pos h

end

theorem fulOf_observe (s : State) (c : InFlight) : s.observe.fulOf c = s.fulOf c := by
  have hmesh (d n : Nat) : s.observe.meshWithin d n = s.meshWithin d n := by
    induction n with
    | zero => rfl
    | succ n ih => rw [State.meshWithin, State.meshWithin, ih]; rfl
  simp only [State.fulOf, State.served?, hmesh]
  rfl

/-! ### A chunk that is done -/

/-- A state whose command at its place goes on with the work of `y`, observed, with counters counted on. -/
theorem fulCount_observe_cmdAt? {s : State} {r q : Nat} {y : InFlight} (h : s.cmdAt? r q = some y) (f unc cont raw stored : Nat) :
    ∃ x, (s.fulCount f unc cont raw stored).observe.cmdAt? r q = some x ∧ x = { y with met0 := x.met0, met1 := x.met1 } :=
  cmdAt?_observe (s := s.fulCount f unc cont raw stored) h

theorem fulDone_noResult {s : State} {c : InFlight} {d : FulDesc} (h : d.result = 0) (good : Nat) :
    s.fulDone c d good = s.endCmd c.ring c.seq 0 good := if_pos h

/-! ### A chunk packed (R268, R269) -/

/-- What a pack has after its chunk `i` of `n` raw bytes: the command's progress, with the counters counted. -/
def State.packed (s : State) (c : InFlight) (d : FulDesc) (f i off n len : Nat) (k : Coded) (raw : Bool) : State :=
  ((s.modCmd c.ring c.seq (fun x => { x with
    prog := [i + 1, off + len, fulProg c 2 + k.rawBlocks, fulProg c 3 + (if raw then 1 else 0), fulProg c 4 + n, 0, fulProg c 6],
    good := off + len, ports := if d.host then [d.port] else x.ports,
    info := x.info ||| k.flags * 256 ||| (if raw then 2 ^ 16 else 0) ||| (if k.rawBlocks = 0 then 0 else 2 ^ 17) |||
      (if k.tight then 2 ^ 18 else 0) })).fulCount f n len k.rawBlocks (if raw then 1 else 0)).observe

theorem packNext_turn {s u : State} {c : InFlight} {f n : Nat} {b : List Byte} {k : Coded} {raw : Bool}
    (hat : s.cmdAt? c.ring c.seq = some c) (hf : s.fulOf c = some f) (hturn : s.fulTurn f = some c.startNo)
    (hu : u = { s with fulLast := SMap.put s.fulLast f c.startNo })
    (hmake : u.makeChunk c (fulDesc c.ext) (fulProg c 0) (fulProg c 6) = .ok (b, k, n, raw)) (hdev : (fulDesc c.ext).host = false)
    (hroom : fulProg c 1 + b.length ≤ (fulDesc c.ext).bytes)
    (hw : (u.wrDev (some c.part) ((fulDesc c.ext).cont + fulProg c 1) b).2.2 = 0) :
    s.packNext c = if fulProg c 0 + 1 = (fulDesc c.ext).chunks c.cmd.sub then
        ((u.wrDev (some c.part) ((fulDesc c.ext).cont + fulProg c 1) b).1.packed c (fulDesc c.ext) f (fulProg c 0) (fulProg c 1) n
          b.length k raw).fulDone c (fulDesc c.ext) (fulProg c 1 + b.length)
      else (u.wrDev (some c.part) ((fulDesc c.ext).cont + fulProg c 1) b).1.packed c (fulDesc c.ext) f (fulProg c 0) (fulProg c 1) n
          b.length k raw := by
  have hat' : u.cmdAt? c.ring c.seq = some c := by rw [hu]; exact hat
  rw [State.packNext, fulStep_turn hat hf hturn, ← hu, hat']
  dsimp only [Option.getD_some]
  rw [hmake]
  dsimp only
  rw [if_neg (Nat.not_lt.mpr hroom), hdev, if_neg Bool.false_ne_true, if_neg (not_not_intro hw), State.packed, hdev]

/-- What `packed` leaves of its state, and the command's progress. -/
structure ChunkDone (s t : State) (r q good : Nat) (prog : List Nat) : Prop where
  at_ : ∃ x, t.cmdAt? r q = some x ∧ x.phase = .started ∧ x.good = good ∧ x.prog = prog
  mem : t.mem = s.mem
  host : t.host = s.host
  shape : t.shape = s.shape
  frames : t.frames = s.frames
  rings : t.rings = s.rings

theorem ChunkDone.observe {s t : State} {r q good : Nat} {prog : List Nat} (h : ChunkDone s t r q good prog) :
    ChunkDone s t.observe r q good prog := by
  obtain ⟨⟨x, hx, hph, hgood, hprog⟩, hmem, hhost, hshape, hframes, hrings⟩ := h
  obtain ⟨y, hy, he⟩ := cmdAt?_observe hx
  exact ⟨⟨y, hy, by rw [he]; exact hph, by rw [he]; exact hgood, by rw [he]; exact hprog⟩, hmem, hhost, hshape, hframes, hrings⟩

theorem packed_done {s : State} {c : InFlight} (hat : s.cmdAt? c.ring c.seq = some c) (hph : c.phase = .started) (d : FulDesc)
    (f i off n len : Nat) (k : Coded) (raw : Bool) : ChunkDone s (s.packed c d f i off n len k raw) c.ring c.seq (off + len)
      [i + 1, off + len, fulProg c 2 + k.rawBlocks, fulProg c 3 + (if raw then 1 else 0), fulProg c 4 + n, 0, fulProg c 6] := by
  refine .observe ⟨⟨_, cmdAt?_modCmd hat _ (fun _ => ⟨rfl, rfl⟩), hph, rfl, rfl⟩, rfl, rfl, rfl, rfl, rfl⟩

theorem ChunkDone.ended {s t : State} {r q good : Nat} {prog : List Nat} (h : ChunkDone s t r q good prog) (status total : Nat) :
    (t.endCmd r q status total).observe.endedWith r q status total ∧ (t.endCmd r q status total).observe.mem = s.mem ∧
      (t.endCmd r q status total).observe.host = s.host ∧ (t.endCmd r q status total).observe.shape = s.shape ∧
      (t.endCmd r q status total).observe.frames = s.frames ∧ (t.endCmd r q status total).observe.rings = s.rings := by
  obtain ⟨⟨x, hx, -⟩, hmem, hhost, hshape, hframes, hrings⟩ := h
  exact ⟨endedWith_observe (endCmd_endedWith hx status total), hmem, hhost, hshape, hframes, hrings⟩

/-- What an unpack has after a chunk with header `h` and `n` bytes written: its progress, with the counters counted. -/
def State.unpacked (s : State) (c : InFlight) (f : Nat) (h : FulHead) (n fl : Nat) (rb : Bool) : State :=
  ((s.modCmd c.ring c.seq (fun x => { x with
    prog := [fulProg c 0 + 1, fulProg c 1 + alignUp (64 + h.payload + 4) 64, 0, 0, fulProg c 4 + n, h.mode, 0], good := c.good + n,
    info := x.info ||| fl * 256 ||| (if h.raw then 2 ^ 16 else 0) ||| (if rb then 2 ^ 17 else 0) })).fulCount f n
      (alignUp (64 + h.payload + 4) 64) 0 0).observe

/-! ### A chunk unpacked (R266, R267) -/

section
variable {s u : State} {c : InFlight} {f : Nat} (hat : s.cmdAt? c.ring c.seq = some c) (hf : s.fulOf c = some f)
  (hturn : s.fulTurn f = some c.startNo) (hu : u = { s with fulLast := SMap.put s.fulLast f c.startNo })
include hat hf hturn hu

theorem unpackNext_noRoom (h : (fulDesc c.ext).bytes < fulProg c 1 + 64) :
    s.unpackNext c = u.endCmd c.ring c.seq 0x080A c.good := by
  have hat' : u.cmdAt? c.ring c.seq = some c := by rw [hu]; exact hat
  rw [State.unpackNext, fulStep_turn hat hf hturn, ← hu, hat']
  exact if_pos h

variable (hroom : fulProg c 1 + 64 ≤ (fulDesc c.ext).bytes) {hb : List Byte}
  (hread : u.contRead c (fulDesc c.ext) (fulProg c 1) 64 = .ok hb)
include hroom hread

theorem unpackNext_badHead (h : badHead hb = true) :
    s.unpackNext c = u.corruptChunk c (fulDesc c.ext) f (fulProg c 0) (fulProg c 1) c.good 0x0806 := by
  have hat' : u.cmdAt? c.ring c.seq = some c := by rw [hu]; exact hat
  rw [State.unpackNext, fulStep_turn hat hf hturn, ← hu, hat']
  dsimp only [Option.getD_some]
  rw [if_neg (Nat.not_lt.mpr hroom), hread]
  exact if_pos h

variable (hhead : badHead hb = false) (hlen : fulProg c 1 + (64 + (fulHead hb).payload + 4) ≤ (fulDesc c.ext).bytes) {b : List Byte}
  (hchunk : u.contRead c (fulDesc c.ext) (fulProg c 1) (64 + (fulHead hb).payload + 4) = .ok b)
include hhead hlen hchunk

theorem unpackNext_badCrc (h : crc32c (b.take (64 + (fulHead hb).payload)) ≠ leAt b (64 + (fulHead hb).payload) 4) :
    s.unpackNext c = u.corruptChunk c (fulDesc c.ext) f (fulProg c 0) (fulProg c 1) c.good 0x0807 := by
  have hat' : u.cmdAt? c.ring c.seq = some c := by rw [hu]; exact hat
  rw [State.unpackNext, fulStep_turn hat hf hturn, ← hu, hat']
  dsimp only [Option.getD_some]
  rw [if_neg (Nat.not_lt.mpr hroom), hread]
  dsimp only
  rw [if_neg (by simp [hhead]), if_neg (Nat.not_lt.mpr hlen), hchunk]
  exact if_pos h

omit hat hf hturn hu hroom hread hhead hlen hchunk in
/-- A chunk whose elements may all be written is written whole. -/
theorem putChunk_all {p : Nat} {d : FulDesc} {xs : List (Nat × Nat)} (h : ∀ x ∈ xs, u.checkDev (some p) (d.addr x.1) d.es = 0) :
    u.putChunk p d xs = (xs.foldl (fun s x => (s.wrDev (some p) (d.addr x.1) (leBytes d.es x.2)).1) u, 0) := by
  have hnone : xs.findSome? (fun x => let e := u.checkDev (some p) (d.addr x.1) d.es; if e = 0 then none else some e) = none :=
    List.findSome?_eq_none_iff.mpr (fun x hx => if_pos (h x hx))
  rw [State.putChunk, hnone]
  exact if_neg (by simp)

theorem unpackNext_sound (hcrc : crc32c (b.take (64 + (fulHead hb).payload)) = leAt b (64 + (fulHead hb).payload) 4)
    (hmatch : headMismatch (fulDesc c.ext) (fulHead hb) (fulProg c 0) (fulProg c 5) = false) {us : List (List Nat × Nat)}
    {dd : FulDesc} (hdd : dd = { fulDesc c.ext with fmt := (fulHead hb).fmt })
    (hus : us = (dd.chunkUnits (fulHead hb).mode (fulProg c 0)).map (dd.unitElems (fulHead hb).mode))
    (hraw : (fulHead hb).rawBytes = (us.flatMap (fun x => x.1)).length * dd.es)
    {ws : List Nat} {fl : Nat} {rb : Bool}
    (hws : chunkWords (fulDesc c.ext) (fulHead hb) us ((b.drop 64).take (fulHead hb).payload) = some (ws, fl, rb))
    (hput : ∀ x ∈ (us.flatMap (fun x => x.1)).zip ws, u.checkDev (some c.part) ((fulDesc c.ext).addr x.1) (fulDesc c.ext).es = 0) :
    s.unpackNext c =
      let t := (((us.flatMap (fun x => x.1)).zip ws).foldl (fun s x => (s.wrDev (some c.part) ((fulDesc c.ext).addr x.1)
        (leBytes (fulDesc c.ext).es x.2)).1) u).unpacked c f (fulHead hb) ((us.flatMap (fun x => x.1)).length * (fulDesc c.ext).es) fl rb
      if (fulHead hb).last then t.fulDone c (fulDesc c.ext) (c.good + (us.flatMap (fun x => x.1)).length * (fulDesc c.ext).es) else t := by
  subst hdd hus
  have hat' : u.cmdAt? c.ring c.seq = some c := by rw [hu]; exact hat
  rw [State.unpackNext, fulStep_turn hat hf hturn, ← hu, hat']
  dsimp only [Option.getD_some]
  rw [if_neg (Nat.not_lt.mpr hroom), hread]
  dsimp only
  rw [if_neg (by simp [hhead]), if_neg (Nat.not_lt.mpr hlen), hchunk]
  dsimp only
  rw [if_neg (not_not_intro hcrc), if_neg (by simp [hmatch]), if_neg (not_not_intro hraw), hws]
  dsimp only
  rw [putChunk_all hput]
  exact if_neg (not_not_intro rfl)

end

theorem unpacked_ended {s : State} {c x : InFlight} (hat : s.cmdAt? c.ring c.seq = some x) (f : Nat) (h : FulHead) (n fl : Nat)
    (rb : Bool) (status good : Nat) :
    ((s.unpacked c f h n fl rb).endCmd c.ring c.seq status good).observe.endedWith c.ring c.seq status good ∧
      ((s.unpacked c f h n fl rb).endCmd c.ring c.seq status good).observe.mem = s.mem ∧
      ((s.unpacked c f h n fl rb).endCmd c.ring c.seq status good).observe.rings = s.rings := by
  obtain ⟨y, hy, -⟩ := fulCount_observe_cmdAt? (cmdAt?_modCmd hat (fun x => { x with
    prog := [fulProg c 0 + 1, fulProg c 1 + alignUp (64 + h.payload + 4) 64, 0, 0, fulProg c 4 + n, h.mode, 0], good := c.good + n,
    info := x.info ||| fl * 256 ||| (if h.raw then 2 ^ 16 else 0) ||| (if rb then 2 ^ 17 else 0) }) (fun _ => ⟨rfl, rfl⟩)) f n
    (alignUp (64 + h.payload + 4) 64) 0 0
  exact ⟨endedWith_observe (endCmd_endedWith hy status good), rfl, rfl⟩

/-- What a write of a chunk's elements leaves alone. -/
theorem putElems_rings_cmds (l : List (Nat × Nat)) (p : Option Nat) (d : FulDesc) (u : State) :
    (l.foldl (fun s x => (s.wrDev p (d.addr x.1) (leBytes d.es x.2)).1) u).rings = u.rings ∧
      (l.foldl (fun s x => (s.wrDev p (d.addr x.1) (leBytes d.es x.2)).1) u).cmds = u.cmds := by
  induction l generalizing u with
  | nil => exact ⟨rfl, rfl⟩
  | cons x l ih =>
    obtain ⟨hrings, hcmds⟩ := ih (u.wrDev p (d.addr x.1) (leBytes d.es x.2)).1
    rw [List.foldl_cons, hrings, hcmds, wrDev_rings, wrDev_cmds]
    exact ⟨rfl, rfl⟩

/-- Settles O32: a Fuller's command waits for its turn, and then packs or unpacks one chunk. -/
theorem fullerChunks : Obligations.FullerChunks := by
  refine ⟨fun r q f n c b k raw s hwork hf => ?pack, fun r q f c s hwork hf => ?unpack⟩
  case pack =>
    have hat := hwork.1
    obtain ⟨rfl, rfl⟩ := cmdAt?_pos hat
    have hf' : s.observe.fulOf c = some f := (fulOf_observe s c).trans hf
    refine ⟨fun hwait => done_eq ((contCmd_working hwork _ _).trans (fulStep_waits hat hf' hwait _)), fun hturn => ?_⟩
    intro d u i off w hmake hdev hroom hw
    have hnext := (contCmd_working hwork State.packStart State.packNext).trans (packNext_turn hat hf' hturn (u := u) rfl hmake hdev
      hroom hw)
    have hph : c.phase = .started := hwork.2.2.2.1
    have hatw : w.1.cmdAt? c.ring c.seq = some c := (cmdAt?_congr (wrDev_cmds ..) _ _).trans hat
    have hdone := packed_done hatw hph d f i off n b.length k raw
    have hhost : w.1.host = s.host := wrDev_host ..
    have hshape : w.1.shape = s.shape := wrDev_shape ..
    have hframes : w.1.frames = s.frames := wrDev_frames ..
    have hrings : w.1.rings = s.rings := wrDev_rings ..
    refine ⟨fun hmore => ?_, fun hlast hres => ?_⟩
    · obtain ⟨hx, hmem, h1, h2, h3, h4⟩ := hdone.observe
      exact ⟨_, done_eq (hnext.trans (if_neg hmore)), hx, hmem, h1.trans hhost, h2.trans hshape, h3.trans hframes, h4.trans hrings⟩
    · obtain ⟨hx, hmem, h1, h2, h3, h4⟩ := hdone.ended 0 (off + b.length)
      exact ⟨_, done_eq (hnext.trans ((if_pos hlast).trans (fulDone_noResult hres _))), hx, hmem, h1.trans hhost, h2.trans hshape,
        h3.trans hframes, h4.trans hrings⟩
  case unpack =>
    have hat := hwork.1
    obtain ⟨rfl, rfl⟩ := cmdAt?_pos hat
    have hf' : s.observe.fulOf c = some f := (fulOf_observe s c).trans hf
    have hstep := contCmd_working hwork State.unpackNext State.unpackNext
    refine ⟨fun hwait => done_eq (hstep.trans (fulStep_waits hat hf' hwait _)), fun hturn => ?_⟩
    intro d u i off
    have hu : u = { s.observe with fulLast := SMap.put s.observe.fulLast f c.startNo } := rfl
    refine ⟨fun hroom => done_eq (hstep.trans (unpackNext_noRoom hat hf' hturn hu hroom)), fun hroom hb hread =>
      ⟨fun hbad => done_eq (hstep.trans (unpackNext_badHead hat hf' hturn hu hroom hread hbad)), fun hhead hlen b hchunk => ?_⟩⟩
    intro h us is
    refine ⟨fun hcrc => done_eq (hstep.trans (unpackNext_badCrc hat hf' hturn hu hroom hread hhead hlen hchunk hcrc)),
      fun hcrc hmatch hraw ws fl rb hws hput hlast hres => ?_⟩
    have hnext := hstep.trans ((unpackNext_sound hat hf' hturn hu hroom hread hhead hlen hchunk hcrc hmatch rfl rfl hraw hws hput).trans
      ((if_pos hlast).trans (fulDone_noResult hres _)))
    obtain ⟨hrings, hcmds⟩ := putElems_rings_cmds (is.zip ws) (some c.part) d u
    obtain ⟨hend, hmem, hkept⟩ := unpacked_ended ((cmdAt?_congr hcmds _ _).trans hat) f h (is.length * d.es) fl rb 0
      (c.good + is.length * d.es)
    exact ⟨_, done_eq hnext, hend, hmem, hkept.trans hrings⟩

end Sys2Proof.Machine
end

section
/-! The update commands (12): the check phase and the step counters, O33; scans, statistics and the Factor Engine, O34. -/
namespace Sys2Proof.Machine

open Sys2Proof

/-! ### The check phase (R283) -/

/-- A verdict applies exactly when no count of failures is set. -/
theorem verdict_good (v : List Nat) : verdict v % 2 = 1 ↔ v.getD 0 0 = 0 ∧ v.getD 2 0 = 0 ∧ v.getD 3 0 = 0 ∧ v.getD 4 0 = 0 := by
  obtain ⟨x, hx⟩ : ∃ x, x = (if v.getD 2 0 ≠ 0 then 2 else 0) + (if v.getD 3 0 ≠ 0 then 4 else 0) + (if v.getD 4 0 ≠ 0 then 8 else 0) +
    (if v.getD 0 0 ≠ 0 then 16 else 0) + (if v.getD 1 0 ≠ 0 then 32 else 0) := ⟨_, rfl⟩
  have hflag (a k : Nat) : a = 0 ∧ (if a ≠ 0 then k else 0) = 0 ∨ a ≠ 0 ∧ (if a ≠ 0 then k else 0) = k := by
    by_cases ha : a = 0
    · exact .inl ⟨ha, if_neg (fun h => h ha)⟩
    · exact .inr ⟨ha, if_pos ha⟩
  have h0 := hflag (v.getD 0 0) 16
  have h1 := hflag (v.getD 1 0) 32
  have h2 := hflag (v.getD 2 0) 2
  have h3 := hflag (v.getD 3 0) 4
  have h4 := hflag (v.getD 4 0) 8
  rw [verdict, ← hx]
  by_cases hzero : x % 32 = 0
  · rw [if_pos hzero]
    omega
  · rw [if_neg hzero]
    omega

section
variable {s : State} {c : InFlight} {ws : List UpdWork} {bad : Bool} {v : List Nat} (ht : s.updTables c (updDesc c.ext) = .ok (bad, ws))
  (hv : s.updVote c (updDesc c.ext) bad = .ok v)
include ht hv

theorem updCheckStart_alone (h : (updDesc c.ext).scope = 0) : s.updCheckStart c = s.gateEnd c v := by
  rw [State.updCheckStart, ht]
  dsimp only
  rw [hv]
  exact if_pos h

theorem updCheckStart_joins (h : (updDesc c.ext).scope ≠ 0) :
    s.updCheckStart c = s.joinGroup s.groupRoot [2, s.job c.part, (updDesc c.ext).gateGroup]
      [(updDesc c.ext).step, (updDesc c.ext).gateSeq, (updDesc c.ext).parts, (updDesc c.ext).mask] v c := by
  rw [State.updCheckStart, ht]
  dsimp only
  rw [hv]
  exact if_neg h

end

theorem gateEnd_written {s w : State} {c : InFlight} {v : List Nat} {n : Nat}
    (hw : s.wrDev (some c.part) (updDesc c.ext).gate (gateRecord (updDesc c.ext) v) = (w, n, 0)) :
    s.gateEnd c v = (w.observe.modCmd c.ring c.seq (fun x => { x with info := x.info ||| verdict v * 2 ^ 16 })).endCmd c.ring c.seq
      (if v.getD 0 0 ≠ 0 then 0x0905 else 0) 128 := by
  rw [State.gateEnd]
  dsimp only
  rw [hw]
  exact if_neg (not_not_intro rfl)

theorem uuStepWrite_refused {s : State} {who : Requester} {ch : Nat} (hin : s.letsIn who (mcPage ch))
    (hheld : s.cmds.any (fun c => (c.cmd.op == 0x50 || c.cmd.op == 0x51 || c.cmd.op == 0x52) && c.phase == .started &&
      s.workOn (mcPage ch) c) = true) (v : Word64) :
    uuStepWrite s who ch v = s.refuseF (mcPage ch) 0x0105 Fld.MC_UU_STEP_COUNT := by
  rw [uuStepWrite, letIn_letsIn hin]
  exact if_pos hheld

theorem uuStepWrite_done {s : State} {who : Requester} {ch : Nat} (hin : s.letsIn who (mcPage ch))
    (hheld : s.cmds.any (fun c => (c.cmd.op == 0x50 || c.cmd.op == 0x51 || c.cmd.op == 0x52) && c.phase == .started &&
      s.workOn (mcPage ch) c) = false) (v : Word64) :
    uuStepWrite s who ch v = s.setUuStep ch (s.fld (mcPage ch) Fld.MC_UU_STEP_SEL_GROUP) (getBits v 39 0) := by
  rw [uuStepWrite, letIn_letsIn hin]
  exact if_neg (by rw [hheld]; exact Bool.false_ne_true)

/-- What is left of a command that wrote device memory alone since it began, and has ended. -/
theorem begun_written {s w : State} {op r q : Nat} {c : InFlight} (h : s.ready op r q c) (hw : MemOnly (s.atBegin c) w)
    (f : InFlight → InFlight) (hf : ∀ c, (f c).ring = c.ring ∧ (f c).seq = c.seq) (status good : Nat) :
    let t := ((w.observe.modCmd r q f).endCmd r q status good).observe
    t.endedWith r q status good ∧ t = { s with
      mem := w.mem, bad := w.bad, weak := w.weak, cmds := t.cmds, ctxs := (s.atBegin c).ctxs, pwr := (s.atBegin c).pwr,
      starts := (s.atBegin c).starts } := by
  intro t
  obtain ⟨d, hd, -⟩ := cmdAt?_observe ((cmdAt?_congr hw.cmds r q).trans (cmdAt?_atBegin h))
  refine ⟨endedWith_observe (endCmd_endedWith (cmdAt?_modCmd hd f hf) status good), ?_⟩
  have heq : t = { w with cmds := t.cmds } := rfl
  have hbegin : s.atBegin c = { s with
    cmds := (s.atBegin c).cmds, ctxs := (s.atBegin c).ctxs, pwr := (s.atBegin c).pwr, starts := (s.atBegin c).starts } := rfl
  rw [MemOnly, hbegin] at hw
  rw [heq]
  exact (congrArg (fun x => { x with cmds := t.cmds }) hw :)

/-- Settles O33: one partition's check writes its record and ends, a wider one joins its vote; a counter is written unless it is in use. -/
theorem updateCheck : Obligations.UpdateCheck := by
  refine ⟨fun r q c ws bad v s hready => ?check, fun who ch v s hin => ?step⟩
  case check =>
    obtain ⟨rfl, rfl⟩ := cmdAt?_pos hready.1
    intro d u w ht hv
    have hstart := contCmd_ready hready State.updCheckStart (fun s c => if c.prog.isEmpty then s else s.gateEnd c c.prog)
    refine ⟨verdict_good v, fun hone hw => ?_, fun hjob => done_eq (hstart.trans (updCheckStart_joins ht hv hjob))⟩
    have hgate : w = (w.1, w.2.1, 0) := by rw [← hw]
    have hmem : MemOnly u w.1 := wrDev_state ..
    have hend := begun_written hready hmem (fun x => { x with info := x.info ||| verdict v * 2 ^ 16 }) (fun _ => ⟨rfl, rfl⟩)
      (if v.getD 0 0 ≠ 0 then 0x0905 else 0) 128
    exact ⟨_, done_eq (hstart.trans ((updCheckStart_alone ht hv hone).trans (gateEnd_written hgate))), hend⟩
  case step =>
    intro held
    exact ⟨fun h => done_eq (uuStepWrite_refused hin h v), fun h => done_eq (uuStepWrite_done hin h v)⟩

end Sys2Proof.Machine
end

section
/-! Scans of the update commands, their statistics and the Factor Engine (12, R285 to R301), O34. -/
namespace Sys2Proof.Machine

open Sys2Proof

/-! ### Writes that change no command -/

theorem MemOnly.wrDev (s : State) (p : Option Nat) (a : Nat) (bs : List Byte) : MemOnly s (s.wrDev p a bs).1 := wrDev_state ..

theorem wrAll_memOnly (s : State) (p : Nat) (ws : List (Nat × List Byte)) : MemOnly s (s.wrAll p ws).1 :=
  List.foldlRecOn (motive := fun r : State × Code => MemOnly s r.1) ws _ (MemOnly.refl s) (fun r h w _ => by
    dsimp only
    split
    · exact h
    · exact h.trans (.wrDev ..))

/-- `t` is `s` with other commands. -/
def CmdsOnly (s t : State) : Prop := t = { s with cmds := t.cmds }

theorem wrDev_cmdsOnly {s t : State} (h : CmdsOnly s t) (p : Option Nat) (a : Nat) (bs : List Byte) :
    CmdsOnly (s.wrDev p a bs).1 (t.wrDev p a bs).1 ∧ (t.wrDev p a bs).2 = (s.wrDev p a bs).2 := by
  induction bs generalizing s t a with
  | nil => exact ⟨h, rfl⟩
  | cons b bs ih =>
    have hx : t.xlate p a = s.xlate p a := (congrArg (fun x => State.xlate x p a) h :)
    rw [State.wrDev, State.wrDev, hx]
    cases s.xlate p a with
    | error e => exact ⟨h, rfl⟩
    | ok k =>
      have hwr : CmdsOnly (s.wr k b) (t.wr k b) := (congrArg (fun x => State.wr x k b) h :)
      obtain ⟨h1, h2⟩ := ih hwr (a + 1)
      exact ⟨h1, by dsimp only; rw [h2]⟩

theorem wrAll_cmdsOnly {s t : State} (h : CmdsOnly s t) (p : Nat) (ws : List (Nat × List Byte)) :
    CmdsOnly (s.wrAll p ws).1 (t.wrAll p ws).1 ∧ (t.wrAll p ws).2 = (s.wrAll p ws).2 := by
  refine List.foldl_rel (r := fun x y : State × Code => CmdsOnly x.1 y.1 ∧ y.2 = x.2) ⟨h, rfl⟩ (fun w _ x y hxy => ?_)
  obtain ⟨hs, he⟩ := hxy
  obtain ⟨hw, hcode⟩ := wrDev_cmdsOnly hs (some p) w.1 w.2
  rw [he]
  split
  · exact ⟨hs, he⟩
  · exact ⟨hw, (congrArg Prod.snd hcode :)⟩

/-! ### A scan that stops nowhere -/

/-- From the run `x` to the run `y`: if no unit has stopped in `y`, none had in `x`, and their states are related by `R`. -/
def Goes (R : State → State → Prop) (x y : UpdRun) : Prop := y.stopped = [] → x.stopped = [] ∧ R x.s y.s

section
variable {R : State → State → Prop} (hrefl : ∀ s, R s s) (htrans : ∀ {s t u}, R s t → R t u → R s u)
include hrefl

theorem Goes.refl (x : UpdRun) : Goes R x x := fun h => ⟨h, hrefl x.s⟩

omit hrefl in
theorem Goes.stop (x y : UpdRun) (c : InFlight) (ch : Nat) (e : Code) (a n : Nat) : Goes R x (y.stop c ch e a n) := by
  intro h
  simp [UpdRun.stop] at h

include htrans

theorem Goes.foldl {α : Type} (l : List α) (f : UpdRun → α → UpdRun) (hf : ∀ x a, Goes R x (f x a)) (x : UpdRun) :
    Goes R x (l.foldl f x) :=
  List.foldlRecOn (motive := Goes R x) l f (Goes.refl hrefl x) (fun y h a _ hz => by
    obtain ⟨hy, hyz⟩ := hf y a hz
    obtain ⟨hx, hxy⟩ := h hy
    exact ⟨hx, htrans hxy hyz⟩)

/-- A scan relates its states as its groups, and its commit pairs where it applies, relate theirs. -/
theorem updScan_goes {c : InFlight} {d : UpdDesc} {mode : Nat} (hgroup : ∀ x k u j, Goes R x (x.group c d mode k u j))
    (hpairs : mode = 0 → ∀ x u, Goes R x (x.pairs c u)) (s : State) (ws : List UpdWork)
    (h : (updScan s c d mode ws).stopped = []) : R s (updScan s c d mode ws).s := by
  unfold updScan at h ⊢
  refine (Goes.foldl hrefl htrans (List.range ws.length) _ (fun x k => ?_) _ h).2
  split
  · exact Goes.refl hrefl x
  · rename_i u _
    intro hstop
    obtain ⟨hy, hyz⟩ := Goes.foldl hrefl htrans u.starts _ (fun x j => hgroup x k u j) _ hstop
    dsimp only
    by_cases hmode : mode = 0
    · rw [if_pos hmode] at hy hyz ⊢
      obtain ⟨hx, hxy⟩ := hpairs hmode x u hy
      exact ⟨hx, htrans hxy hyz⟩
    · rw [if_neg hmode] at hy hyz ⊢
      exact ⟨hy, hyz⟩

end

/-! ### A scan that only fills statistics (R286, R294) -/

theorem bind_eq_ok {α β : Type} {x : Except Code α} {f : α → Except Code β} {b : β} (h : x >>= f = .ok b) :
    ∃ a, x = .ok a ∧ f a = .ok b := by
  cases x with
  | error e => cases h
  | ok a => exact ⟨a, rfl, h⟩

theorem scanGroup_writesNothing {s : State} {p : Nat} {d : UpdDesc} {u : UpdWork} {j n : Nat} {weights : Bool} {o : UpdOut}
    (h : s.scanGroup p d u j n weights = .ok o) : o.wr = [] ∧ o.held = 0 := by
  unfold State.scanGroup at h
  extract_lets withRaw at h
  obtain ⟨raw, h⟩ : ∃ raw, withRaw raw = .ok o := by
    split at h
    · exact (bind_eq_ok h).imp fun _ => And.right
    · exact (bind_eq_ok h).imp fun _ => And.right
  unfold withRaw at h
  extract_lets gs st withWeights at h
  obtain ⟨ws, h⟩ : ∃ ws, withWeights ws = .ok o := by
    split at h
    · exact (bind_eq_ok h).imp fun _ => And.right
    · exact (bind_eq_ok h).imp fun _ => And.right
  obtain rfl := Except.ok.inj h
  exact ⟨rfl, rfl⟩

theorem group_quiet {c : InFlight} {d : UpdDesc} {mode : Nat} (hmode : mode ≠ 0) (x : UpdRun) (k : Nat) (u : UpdWork) (j : Nat) :
    Goes (fun s t => t = s) x (x.group c d mode k u j) := by
  unfold UpdRun.group
  extract_lets n ch
  split
  · exact Goes.refl (fun _ => rfl) x
  split
  · exact Goes.stop _ _ _ _ _ _ _
  · rename_i o ho
    obtain ⟨hwr, hheld⟩ := scanGroup_writesNothing ho
    rw [hwr, hheld]
    dsimp only
    rw [if_neg (show ¬(mode = 0 ∧ (0 : Nat) = 0) from fun h => hmode h.1)]
    exact fun hs => ⟨hs, rfl⟩

/-- In a scan that applies nothing and stops nowhere the state stays as it is. -/
theorem updScan_quiet {s : State} {c : InFlight} {d : UpdDesc} {mode : Nat} {ws : List UpdWork} (hmode : mode ≠ 0)
    (h : (updScan s c d mode ws).stopped = []) : (updScan s c d mode ws).s = s :=
  updScan_goes (R := fun s t => t = s) (fun _ => rfl) (fun h k => k.trans h) (group_quiet hmode) (fun h => absurd h hmode) s ws h

/-! ### What any scan leaves alone -/

/-- From `s` to `t` the commands, the Shape, the trim map and the states of the channels stay. -/
structure ScanKept (s t : State) : Prop where
  cmds : t.cmds = s.cmds
  shape : t.shape = s.shape
  trim : t.trim = s.trim
  state : ∀ ch < 1024, t.fld (page 8 ch) Fld.MC_STATUS_STATE = s.fld (page 8 ch) Fld.MC_STATUS_STATE

theorem ScanKept.refl (s : State) : ScanKept s s := ⟨rfl, rfl, rfl, fun _ _ => rfl⟩

theorem ScanKept.trans {s t u : State} (h : ScanKept s t) (k : ScanKept t u) : ScanKept s u :=
  ⟨k.cmds.trans h.cmds, k.shape.trans h.shape, k.trim.trans h.trim, fun ch hch => (k.state ch hch).trans (h.state ch hch)⟩

theorem ScanKept.ite {s t u : State} {p : Prop} [Decidable p] (h : ScanKept s t) (k : ScanKept s u) : ScanKept s (if p then t else u) := by
  split
  · exact h
  · exact k

theorem MemOnly.scanKept {s t : State} (h : MemOnly s t) : ScanKept s t :=
  ⟨h.cmds, (congrArg State.shape h :), (congrArg State.trim h :), fun ch _ =>
    (congrArg (fun x => State.fld x (page 8 ch) Fld.MC_STATUS_STATE) h :)⟩

theorem pgOff_regKey_channel {ch : Nat} (h : ch < 4096) (off : Nat) : regKey (page 8 ch) off = page 8 ch + off :=
  regKey_page ⟨by decide, by decide⟩ h off

theorem ErrOnly.scanKept {s t : State} (h : ErrOnly s t) : ScanKept s t where
  cmds := (congrArg State.cmds h.eq :)
  shape := (congrArg State.shape h.eq :)
  trim := (congrArg State.trim h.eq :)
  state := fun ch hch => by
    rw [State.fld, State.fld, h.regs]
    rw [regKey_page ⟨by decide, by decide⟩ (by omega)]
    simp only [ErrKey, pgOff, pgClass, page, Fld.MC_STATUS_STATE]
    omega

/-- A count of an Update Unit is no state of a channel. -/
theorem ScanKept.addFld (s : State) (ch : Nat) {f : Fld} (hoff : 0x100 < f.off ∧ f.off < 0x1000) (k : Nat) :
    ScanKept s (s.addFld (mcPage ch) f k) where
  cmds := rfl
  shape := rfl
  trim := rfl
  state := fun c hc => by
    refine fld_setFld_other _ _ (.inl ?_)
    rw [regKey_page ⟨by decide, by decide⟩ (by omega)]
    have hkey : regKey (mcPage ch) f.off = f.off ∨ regKey (mcPage ch) f.off = mcPage ch + f.off := by
      rw [regKey]
      split
      · exact .inl rfl
      · exact .inr rfl
    simp only [mcPage, page, Fld.MC_STATUS_STATE] at hkey ⊢
    omega

theorem group_kept (c : InFlight) (d : UpdDesc) (mode : Nat) (x : UpdRun) (k : Nat) (u : UpdWork) (j : Nat) :
    Goes ScanKept x (x.group c d mode k u j) := by
  unfold UpdRun.group
  extract_lets n ch
  split
  · exact Goes.refl ScanKept.refl x
  split
  · exact Goes.stop _ _ _ _ _ _ _
  · rename_i o _
    extract_lets w s₁ s₂ s₃ y
    have h1 : ScanKept x.s s₁ := (wrAll_memOnly ..).scanKept.trans (.ite (.addFld _ _ ⟨by decide, by decide⟩ _) (.refl _))
    have h2 : ScanKept x.s s₂ := h1.trans (.ite (.refl _) (.addFld _ _ ⟨by decide, by decide⟩ _))
    have h3 : ScanKept x.s s₃ := h2.trans (.ite (State.recordError_errOnly _ (Nat.le_refl 1)).scanKept (.refl _))
    split
    · exact Goes.stop _ _ _ _ _ _ _
    · exact fun h => ⟨h, h3⟩

theorem pairs_kept (c : InFlight) (x : UpdRun) (u : UpdWork) : Goes ScanKept x (x.pairs c u) := by
  unfold UpdRun.pairs
  refine Goes.foldl ScanKept.refl ScanKept.trans _ _ (fun x p => Goes.foldl ScanKept.refl ScanKept.trans _ _ (fun x i => ?_) x) x
  extract_lets n ch
  split
  · exact Goes.refl ScanKept.refl x
  split
  · exact Goes.stop _ _ _ _ _ _ _
  · extract_lets w y
    split
    · exact Goes.stop _ _ _ _ _ _ _
    · exact fun h => ⟨h, (MemOnly.wrDev ..).scanKept⟩

/-- A scan that stops nowhere leaves the commands and the partition's channels. -/
theorem updScan_kept {s : State} {c : InFlight} {d : UpdDesc} {mode : Nat} {ws : List UpdWork}
    (h : (updScan s c d mode ws).stopped = []) : ScanKept s (updScan s c d mode ws).s :=
  updScan_goes ScanKept.refl ScanKept.trans (group_kept c d mode) (fun _ => pairs_kept c) s ws h

theorem ScanKept.partChannels {s t : State} (h : ScanKept s t) (p : Nat) : t.partChannels p = s.partChannels p := by
  have htr (k i : Nat) : t.trimmed k i = s.trimmed k i := by rw [State.trimmed, State.trimmed, h.trim]
  have hlive : t.shape.live = s.shape.live := by rw [h.shape]
  rw [State.partChannels, State.partChannels, hlive]
  refine congrArg List.flatten (List.map_congr_left (fun k hk => ?_))
  have hk32 : k < 32 := List.mem_range.mp (List.mem_filter.mp hk).1
  rw [htr]
  split
  · rfl
  · refine List.filter_congr (fun c hc => ?_)
    obtain ⟨i, hi, rfl⟩ := List.mem_map.mp hc
    rw [htr, h.state _ (by have := List.mem_range.mp hi; omega)]

/-! ### Step counters (R282, R292) -/

theorem SMap.getD_erase_same {α : Type} (m : SMap α) (k : Nat) (d : α) : SMap.getD (SMap.erase m k) k d = d := by
  have h := SMap.get?_dropKeys m (fun x => x == k) k
  rw [if_pos (beq_self_eq_true k)] at h
  rw [SMap.getD]
  exact congrArg (fun x => Option.getD x d) h

theorem uuStep_setUuStep_same (s : State) (ch g v : Nat) : (s.setUuStep ch g v).uuStep ch g = v := by
  rw [State.uuStep, State.setUuStep, State.chan, State.modChan, SMap.getD_put_same]
  dsimp only
  split
  · rename_i h
    rw [SMap.getD_erase_same, h]
  · exact SMap.getD_put_same ..

theorem uuStep_setUuStep_other (s : State) {ch ch' g g' : Nat} (h : ch' ≠ ch ∨ g' ≠ g) (v : Nat) :
    (s.setUuStep ch g v).uuStep ch' g' = s.uuStep ch' g' := by
  rw [State.uuStep, State.uuStep, State.setUuStep, State.chan, State.chan, State.modChan]
  by_cases hch : ch' = ch
  · subst hch
    have hg : g' ≠ g := h.resolve_left (not_not_intro rfl)
    rw [SMap.getD_put_same]
    dsimp only
    split
    · rw [SMap.getD, SMap.get?_erase_other _ hg]
      rfl
    · rw [SMap.getD_put_other _ _ _ hg]
      rfl
  · rw [SMap.getD_put_other _ _ _ hch]

/-- A counter that stands at `v` still does when another or the same one is set to `v`. -/
theorem uuStep_setUuStep_keeps {s : State} {ch' g' v : Nat} (h : s.uuStep ch' g' = v) (ch g : Nat) :
    (s.setUuStep ch g v).uuStep ch' g' = v := by
  by_cases he : ch' ≠ ch ∨ g' ≠ g
  · rw [uuStep_setUuStep_other s he, h]
  · obtain ⟨rfl, rfl⟩ : ch' = ch ∧ g' = g := by omega
    exact uuStep_setUuStep_same ..

/-- A fold makes true what each of its steps makes true of its own element and no step spoils. -/
theorem foldl_establishes {α : Type} {f : State → α → State} {Q : α → State → Prop} (hset : ∀ s a, Q a (f s a))
    (hkeep : ∀ s a b, Q b s → Q b (f s a)) (l : List α) (s : State) : ∀ a ∈ l, Q a (l.foldl f s) := by
  induction l generalizing s with
  | nil => exact fun a ha => absurd ha List.not_mem_nil
  | cons x l ih =>
    intro a ha
    obtain rfl | ha := List.mem_cons.mp ha
    · exact List.foldlRecOn (motive := Q a) l f (hset s a) (fun t ht b _ => hkeep t b a ht)
    · exact ih (f s x) a ha

/-- A unit that has finished an applied step has its counters at that step. -/
theorem updCount_applied (s : State) (c : InFlight) (d : UpdDesc) : ∀ ch ∈ s.partChannels c.part, ∀ k ∈ bitList 256 d.mask,
    (s.updCount c d 0 []).uuStep ch k = d.step := by
  have hgroups (t : State) (ch : Nat) : ∀ k ∈ bitList 256 d.mask,
      ((bitList 256 d.mask).foldl (fun s g => s.setUuStep ch g d.step) t).uuStep ch k = d.step :=
    foldl_establishes (Q := fun k t => t.uuStep ch k = d.step) (fun t k => uuStep_setUuStep_same t ch k d.step)
      (fun t k _ h => uuStep_setUuStep_keeps h ch k) _ t
  have hkeeps (t : State) (ch ch' k' : Nat) (h : t.uuStep ch' k' = d.step) :
      ((bitList 256 d.mask).foldl (fun s g => s.setUuStep ch g d.step) t).uuStep ch' k' = d.step :=
    List.foldlRecOn (motive := fun t => State.uuStep t ch' k' = d.step) _ _ h (fun _ h g _ => uuStep_setUuStep_keeps h ch g)
  exact foldl_establishes (Q := fun ch t => ∀ k ∈ bitList 256 d.mask, State.uuStep t ch k = d.step) (fun t ch => hgroups t ch)
    (fun t ch ch' h k hk => hkeeps t ch ch' k (h k hk)) _ s

theorem updCount_cmds (s : State) (c : InFlight) (d : UpdDesc) (mode : Nat) (stopped : List (Nat × Code)) :
    (s.updCount c d mode stopped).cmds = s.cmds := by
  refine List.foldlRecOn (motive := fun t => State.cmds t = s.cmds) _ _ rfl (fun t h ch _ => ?_)
  split
  · exact h
  split
  · exact List.foldlRecOn (motive := fun t => State.cmds t = s.cmds) _ _ h (fun _ h _ _ => h)
  · exact h

theorem updCount_skipped (s : State) (c : InFlight) (d : UpdDesc) (stopped : List (Nat × Code)) :
    RegsOutOnly s (s.updCount c d 1 stopped) :=
  List.foldlRecOn (motive := RegsOutOnly s) _ _ rfl (fun _ h _ _ => h.trans (State.addFld_regsOutOnly ..))

theorem updCount_scanned (s : State) (c : InFlight) (d : UpdDesc) (stopped : List (Nat × Code)) : s.updCount c d 2 stopped = s :=
  List.foldlRecOn (motive := fun t => t = s) _ _ rfl (fun _ h _ _ => h)

/-! ### The end of a scan (R285, R294) -/

/-- Flags of the statistics of a command (Table 12.7). -/
def statsFlags (c : InFlight) : Nat := if c.cmd.op = 0x52 then 4 else if updSkipped c then 1 else 0

/-- The statistics records of a command: a tag's offset, its record and whether it is watched. -/
def statsRecs (c : InFlight) (d : UpdDesc) (ratios : List (Nat × Val)) (rows : List (List Nat)) : List (Nat × List Byte × Bool) :=
  (rows.filter (fun r => ratios.any (fun x => x.1 == r.getD 0 0))).map (fun r => (r.getD 0 0, statsRecord d.step (statsFlags c)
    (match ratios.find? (fun x => x.1 == r.getD 0 0) with | some x => x.2 | none => .zero) r))

/-- A command with its mark of watched statistics. -/
def State.statsMarked (s : State) (c : InFlight) (recs : List (Nat × List Byte × Bool)) : State :=
  s.modCmd c.ring c.seq (fun x => { x with info := if recs.any (fun r => r.2.2) then x.info ||| 2 ^ 24 else x.info })

theorem statsEnd_none {d : UpdDesc} (h : d.stats = 0) (s : State) (c : InFlight) (ratios : List (Nat × Val)) (rows : List (List Nat)) :
    s.statsEnd c d ratios rows = (s.statsMarked c (statsRecs c d ratios rows)).observe.endCmd c.ring c.seq
      (if updSkipped c then 0x0901 else 0) 0 := by
  rw [State.statsEnd]
  rw [if_pos h, if_pos h]
  change (if ((0 : Code) ≠ 0) then _ else (s.statsMarked c (statsRecs c d ratios rows)).observe.endCmd c.ring c.seq
    (if updSkipped c then 0x0901 else 0) 0) = _
  exact if_neg (not_not_intro rfl)

theorem statsEnd_written {s w : State} {c : InFlight} {d : UpdDesc} {ratios : List (Nat × Val)} {rows : List (List Nat)} (h : d.stats ≠ 0)
    (hw : (s.statsMarked c (statsRecs c d ratios rows)).wrAll c.part
      ((statsRecs c d ratios rows).map (fun r => (d.stats + 64 * r.1, r.2.1))) = (w, 0)) :
    s.statsEnd c d ratios rows = w.observe.endCmd c.ring c.seq (if updSkipped c then 0x0901 else 0)
      (64 * (statsRecs c d ratios rows).length) := by
  rw [State.statsEnd]
  rw [if_neg h, if_neg h]
  change (if ((s.statsMarked c (statsRecs c d ratios rows)).wrAll c.part
    ((statsRecs c d ratios rows).map (fun r => (d.stats + 64 * r.1, r.2.1)))).2 ≠ 0 then _
    else ((s.statsMarked c (statsRecs c d ratios rows)).wrAll c.part
      ((statsRecs c d ratios rows).map (fun r => (d.stats + 64 * r.1, r.2.1)))).1.observe.endCmd c.ring c.seq
        (if updSkipped c then 0x0901 else 0) (64 * (statsRecs c d ratios rows).length)) = _
  rw [hw]
  exact if_neg (not_not_intro rfl)

/-- A command after its scan: what its gate gave, the flags and whether a group was held. -/
def UpdRun.noted (x : UpdRun) (info : Nat) (y : InFlight) : InFlight :=
  { y with info := y.info ||| info ||| (x.flags % 64) * 256 ||| (if x.held then 2 ^ 23 else 0), prog := [] }

theorem updRun_statistics {s : State} {c y : InFlight} {d : UpdDesc} {mode info : Nat} {ws : List UpdWork}
    (hat : s.cmdAt? c.ring c.seq = some y) (hstop : (updScan s c d mode ws).stopped = []) (hjob : d.statsJob = false) :
    s.updRun c d mode info ws = (((updScan s c d mode ws).s.updCount c d mode []).modCmd c.ring c.seq
      ((updScan s c d mode ws).noted info)).statsEnd ((updScan s c d mode ws).noted info y) d (ratiosOf ws) (updScan s c d mode ws).rows := by
  have hcmds : ((updScan s c d mode ws).s.updCount c d mode []).cmds = s.cmds := (updCount_cmds ..).trans (updScan_kept hstop).cmds
  have hat' := cmdAt?_modCmd ((cmdAt?_congr hcmds _ _).trans hat) ((updScan s c d mode ws).noted info) (fun _ => ⟨rfl, rfl⟩)
  rw [State.updRun]
  rw [hstop]
  change (match ([] : List (Nat × Code)), (((updScan s c d mode ws).s.updCount c d mode []).modCmd c.ring c.seq
      ((updScan s c d mode ws).noted info)).cmdAt? c.ring c.seq with | _ :: _, _ => _ | [], none => _ | [], some c => _) = _
  rw [hat']
  dsimp only
  rw [hjob]
  rfl

/-- A gate's mode is 0 exactly when its record is good and of this step, sequence and mask. -/
theorem gateMode_applies (d : UpdDesc) (g : List Byte) : (gateMode d g).1 = 0 ↔
    leAt g 16 4 % 2 = 1 ∧ leAt g 8 8 = d.step ∧ leAt g 0 8 = d.gateSeq ∧ leAt g 32 32 = d.mask := by
  have hodd : leAt g 16 4 % 64 % 2 = leAt g 16 4 % 2 := Nat.mod_mod_of_dvd _ (by decide)
  simp [gateMode, hodd, and_assoc]

/-- A gate's INFO has the verdict's lowest bit at 16 and the mismatch at 22, which its mode combines. -/
theorem gateMode_info (d : UpdDesc) (g : List Byte) :
    (gateMode d g).1 = 0 ↔ ((gateMode d g).2.testBit 16 = true ∧ (gateMode d g).2.testBit 22 = false) := by
  obtain ⟨m, hm⟩ : ∃ m : Bool, m = (leAt g 8 8 != d.step || leAt g 0 8 != d.gateSeq || leAt g 32 32 != d.mask) := ⟨_, rfl⟩
  obtain ⟨v, hv⟩ : ∃ v, v = leAt g 16 4 % 64 := ⟨_, rfl⟩
  have hlt : v < 64 := hv ▸ Nat.mod_lt _ (by decide)
  rw [gateMode]
  dsimp only
  rw [← hm, ← hv]
  simp only [Nat.testBit_eq_decide_div_mod_eq, decide_eq_true_eq, decide_eq_false_iff_not, Nat.reducePow]
  cases m
  · by_cases hodd : v % 2 = 1
    · simp only [hodd, and_self, if_true, Bool.false_eq_true, if_false, true_iff]
      omega
    · simp only [hodd, false_and, if_false, Bool.false_eq_true]
      omega
  · simp only [Bool.true_eq_false, and_false, if_false, if_true]
    omega

theorem updSkipped_noted {x : UpdRun} {d : UpdDesc} {g : List Byte} {y : InFlight} (hop : y.cmd.op = 0x51) (hinfo : y.info = 0) :
    updSkipped (x.noted (gateMode d g).2 y) = true ↔ (gateMode d g).1 ≠ 0 := by
  have hflags (b : Nat) (hb : b = 16 ∨ b = 22) : ((x.flags % 64) * 256).testBit b = false := by
    obtain rfl | rfl := hb
    · rw [Nat.testBit_eq_decide_div_mod_eq, decide_eq_false_iff_not]
      omega
    · rw [Nat.testBit_eq_decide_div_mod_eq, decide_eq_false_iff_not]
      omega
  have hheld (b : Nat) (hb : b = 16 ∨ b = 22) : (if x.held then 2 ^ 23 else 0).testBit b = false := by
    obtain rfl | rfl := hb <;> cases x.held <;> decide
  have hbit (b : Nat) (hb : b = 16 ∨ b = 22) : (x.noted (gateMode d g).2 y).info.testBit b = (gateMode d g).2.testBit b := by
    rw [UpdRun.noted, hinfo]
    simp only [Nat.testBit_or, hflags b hb, hheld b hb, Nat.zero_testBit, Bool.false_or, Bool.or_false]
  have hop' : (x.noted (gateMode d g).2 y).cmd.op = 0x51 := hop
  rw [Ne, gateMode_info, updSkipped, hop', hbit 16 (.inl rfl), hbit 22 (.inr rfl)]
  cases (gateMode d g).2.testBit 16 <;> cases (gateMode d g).2.testBit 22 <;> decide

theorem updSkipped_scan {x : UpdRun} {y : InFlight} {info : Nat} (hop : y.cmd.op = 0x52) : updSkipped (x.noted info y) = false := by
  simp [updSkipped, UpdRun.noted, hop]

theorem CmdsOnly.trans {s t u : State} (h : CmdsOnly s t) (k : CmdsOnly t u) : CmdsOnly s u :=
  Eq.trans k (congrArg (fun x => { x with cmds := u.cmds }) h)

/-- A command that ends after a change of commands alone. -/
theorem CmdsOnly.ended {s t : State} (h : CmdsOnly s t) {r q : Nat} {y : InFlight} (hat : t.cmdAt? r q = some y) (status good : Nat) :
    (t.observe.endCmd r q status good).observe.endedWith r q status good ∧ CmdsOnly s (t.observe.endCmd r q status good).observe :=
  ⟨(observe_endCmd_endedFrom hat status good).ended, h.trans rfl⟩

theorem statsMarked_cmdsOnly (s : State) (c : InFlight) (recs : List (Nat × List Byte × Bool)) : CmdsOnly s (s.statsMarked c recs) := rfl

theorem statsMarked_place {s : State} {c y : InFlight} {r q : Nat} (hr : c.ring = r) (hq : c.seq = q) (hat : s.cmdAt? r q = some y)
    (recs : List (Nat × List Byte × Bool)) : ∃ z, (s.statsMarked c recs).cmdAt? r q = some z := by
  subst hr hq
  exact ⟨_, cmdAt?_modCmd hat _ (fun _ => ⟨rfl, rfl⟩)⟩

/-- UPD_STATS that stops nowhere writes its records over the bytes it found. -/
theorem updRun_stats {s w : State} {c y : InFlight} {d : UpdDesc} {ws : List UpdWork} {rs : List (Nat × List Byte)}
    (hat : s.cmdAt? c.ring c.seq = some y) (hy : y.ring = c.ring ∧ y.seq = c.seq ∧ y.part = c.part ∧ y.cmd.op = 0x52)
    (hstop : (updScan s c d 2 ws).stopped = []) (hjob : d.statsJob = false) (hstats : d.stats ≠ 0)
    (hrs : rs = ((statsRecs y d (ratiosOf ws) (updScan s c d 2 ws).rows).map (fun r => (d.stats + 64 * r.1, r.2.1))))
    (hw : (updScan s c d 2 ws).s.wrAll c.part rs = (w, 0)) :
    (s.updRun c d 2 0 ws).observe.endedWith c.ring c.seq 0 (64 * rs.length) ∧ CmdsOnly w (s.updRun c d 2 0 ws).observe := by
  obtain ⟨hring, hseq, hpart, hop⟩ := hy
  have hrecs : statsRecs ((updScan s c d 2 ws).noted 0 y) d (ratiosOf ws) (updScan s c d 2 ws).rows =
      statsRecs y d (ratiosOf ws) (updScan s c d 2 ws).rows := by
    simp only [statsRecs, statsFlags, UpdRun.noted, hop, if_true]
  have hquiet := updScan_quiet (by decide) hstop
  have hlen : (statsRecs y d (ratiosOf ws) (updScan s c d 2 ws).rows).length = rs.length := by rw [hrs, List.length_map]
  have hpart' : ((updScan s c d 2 ws).noted 0 y).part = c.part := hpart
  have hring' : ((updScan s c d 2 ws).noted 0 y).ring = c.ring := hring
  have hseq' : ((updScan s c d 2 ws).noted 0 y).seq = c.seq := hseq
  rw [updRun_statistics hat hstop hjob, updCount_scanned]
  rw [hquiet] at hw ⊢
  obtain ⟨v, hv⟩ : ∃ v, v = (s.modCmd c.ring c.seq ((updScan s c d 2 ws).noted 0)).statsMarked ((updScan s c d 2 ws).noted 0 y)
    (statsRecs ((updScan s c d 2 ws).noted 0 y) d (ratiosOf ws) (updScan s c d 2 ws).rows) := ⟨_, rfl⟩
  have hsn : CmdsOnly s (s.modCmd c.ring c.seq ((updScan s c d 2 ws).noted 0)) := rfl
  have hsv : CmdsOnly s v := hv ▸ hsn.trans (statsMarked_cmdsOnly ..)
  obtain ⟨z, hz⟩ : ∃ z, v.cmdAt? c.ring c.seq = some z :=
    hv ▸ statsMarked_place hring' hseq' (cmdAt?_modCmd hat ((updScan s c d 2 ws).noted 0) (fun _ => ⟨rfl, rfl⟩)) _
  obtain ⟨hcmds, hcode⟩ := wrAll_cmdsOnly hsv c.part rs
  rw [hw] at hcmds hcode
  have hvw : v.wrAll c.part rs = ((v.wrAll c.part rs).1, 0) := Prod.ext rfl hcode
  rw [statsEnd_written hstats (w := (v.wrAll c.part rs).1) (by rw [← hv, hpart', hrecs, ← hrs]; exact hvw), hrecs, hlen,
    updSkipped_scan hop, hring', hseq']
  exact hcmds.ended ((cmdAt?_congr (wrAll_memOnly v c.part rs).cmds c.ring c.seq).trans hz) 0 (64 * rs.length)

/-- UPD_APPLY without statistics that stops nowhere ends as its gate says, after the counts of its mode. -/
theorem updRun_apply {s : State} {c y : InFlight} {d : UpdDesc} {ws : List UpdWork} {g : List Byte}
    (hat : s.cmdAt? c.ring c.seq = some y) (hy : y.ring = c.ring ∧ y.seq = c.seq ∧ y.cmd.op = 0x51 ∧ y.info = 0)
    (hstop : (updScan s c d (gateMode d g).1 ws).stopped = []) (hjob : d.statsJob = false) (hstats : d.stats = 0) :
    let t := (s.updRun c d (gateMode d g).1 (gateMode d g).2 ws).observe
    t.endedWith c.ring c.seq (if (gateMode d g).1 = 0 then 0 else 0x0901) 0 ∧
      CmdsOnly ((updScan s c d (gateMode d g).1 ws).s.updCount c d (gateMode d g).1 []) t := by
  obtain ⟨hring, hseq, hop, hinfo⟩ := hy
  obtain ⟨x, hx⟩ : ∃ x, x = updScan s c d (gateMode d g).1 ws := ⟨_, rfl⟩
  have hring' : (x.noted (gateMode d g).2 y).ring = c.ring := hring
  have hseq' : (x.noted (gateMode d g).2 y).seq = c.seq := hseq
  have hcode : (if updSkipped (x.noted (gateMode d g).2 y) then 0x0901 else 0) = if (gateMode d g).1 = 0 then 0 else 0x0901 := by
    simp only [updSkipped_noted hop hinfo, ite_not]
  rw [updRun_statistics hat hstop hjob, statsEnd_none hstats, ← hx, hcode, hring', hseq']
  have hcmds : (x.s.updCount c d (gateMode d g).1 []).cmds = s.cmds := (updCount_cmds ..).trans (hx ▸ updScan_kept hstop).cmds
  generalize x.s.updCount c d (gateMode d g).1 [] = v at hcmds ⊢
  have hatv := cmdAt?_modCmd ((cmdAt?_congr hcmds _ _).trans hat) (x.noted (gateMode d g).2) (fun _ => ⟨rfl, rfl⟩)
  have hvm : CmdsOnly v (v.modCmd c.ring c.seq (x.noted (gateMode d g).2)) := rfl
  obtain ⟨z, hz⟩ := statsMarked_place hring' hseq' hatv (statsRecs (x.noted (gateMode d g).2 y) d (ratiosOf ws) x.rows)
  exact (hvm.trans (statsMarked_cmdsOnly ..)).ended hz _ 0

end Sys2Proof.Machine
end

section
/-! The Factor Engine's list of blocks (R298 to R301), and with it O34. -/
namespace Sys2Proof.Machine

open Sys2Proof

/-! ### Errors of an access -/

theorem xlate_error_ne_zero {s : State} {p : Option Nat} {a : Nat} {e : Code} (h : s.xlate p a = .error e) : e ≠ 0 := by
  rintro rfl
  unfold State.xlate at h
  dsimp only at h
  repeat' split at h
  all_goals cases h

/-- A traversal fails where one of its elements does. -/
theorem mapM_error {α β : Type} {f : α → Except Code β} {l : List α} {e : Code} (h : l.mapM f = .error e) : ∃ a ∈ l, f a = .error e := by
  induction l with
  | nil => cases h
  | cons x l ih =>
    rw [List.mapM_cons] at h
    cases hx : f x with
    | error d =>
      rw [hx] at h
      cases h
      exact ⟨x, List.mem_cons_self, hx⟩
    | ok b =>
      rw [hx] at h
      cases hl : l.mapM f with
      | error d =>
        change (l.mapM f >>= _) = _ at h
        rw [hl] at h
        cases h
        obtain ⟨a, ha, he⟩ := ih hl
        exact ⟨a, List.mem_cons_of_mem _ ha, he⟩
      | ok bs =>
        change (l.mapM f >>= _) = _ at h
        rw [hl] at h
        cases h

theorem rdDev_error_ne_zero {s : State} {p : Option Nat} {a n : Nat} {e : Code} (h : s.rdDev p a n = .error e) : e ≠ 0 := by
  obtain ⟨i, -, hi⟩ := mapM_error h
  split at hi
  · rename_i hx
    cases hi
    exact xlate_error_ne_zero hx
  · split at hi
    · cases hi
      decide
    · cases hi

/-! ### The blocks of a list (R298, R299) -/

/-- `t` differs from `s` in registers and in device memory at most. -/
def DevRegs (s t : State) : Prop := t = { s with regs := t.regs, mem := t.mem, bad := t.bad, weak := t.weak }

theorem DevRegs.trans {s t u : State} (h : DevRegs s t) (k : DevRegs t u) : DevRegs s u :=
  Eq.trans k (congrArg (fun x => { x with regs := u.regs, mem := u.mem, bad := u.bad, weak := u.weak }) h)

theorem DevRegs.of_mem {s t : State} (h : MemOnly s t) : DevRegs s t := (congrArg (fun x : State => { x with regs := t.regs }) h :)

theorem DevRegs.addFld (s : State) (pg : Nat) (f : Fld) (k : Nat) : DevRegs s (s.addFld pg f k) := rfl

theorem DevRegs.ite {s t u : State} {p : Prop} [Decidable p] (h : DevRegs s t) (k : DevRegs s u) : DevRegs s (if p then t else u) := by
  split
  · exact h
  · exact k

/-- A block that ends soundly adds its factor's bytes, and what came before it ended soundly. -/
theorem block_sound {x : FactorRun} {c : InFlight} {fe : Nat} {list : List Byte} {i : Nat} (h : (x.block c fe list i).code = 0) :
    x.code = 0 ∧ (x.block c fe list i).good = x.good + 4 * leAt list (32 * i + 16) 4 ^ 2 ∧ DevRegs x.s (x.block c fe list i).s := by
  unfold FactorRun.block at h ⊢
  by_cases hx : x.code = 0
  · rw [if_neg (not_not_intro hx)] at h ⊢
    dsimp only at h ⊢
    cases hb : x.s.rdDev (some c.part) (leAt list (32 * i) 8) (4 * leAt list (32 * i + 16) 4 * leAt list (32 * i + 16) 4) with
    | error e =>
      rw [hb] at h
      exact absurd h (rdDev_error_ne_zero hb)
    | ok b =>
      rw [hb] at h
      dsimp only at h ⊢
      refine ⟨hx, ?_, ?_⟩
      · rw [if_pos h, Nat.mul_assoc, Nat.pow_two]
      · exact (DevRegs.of_mem (wrAll_memOnly ..)).trans (.ite ((DevRegs.addFld ..).trans (.addFld ..)) (.addFld ..))
  · rw [if_pos hx] at h
    exact absurd h hx

/-- A list whose blocks all end soundly gives the bytes of all its factors. -/
theorem blocks_sound {s : State} {c : InFlight} {fe : Nat} {list : List Byte} (n : Nat)
    (h : ((List.range n).foldl (fun x i => FactorRun.block x c fe list i) ⟨s, 0, 0, 0, (0, 0)⟩).code = 0) :
    ((List.range n).foldl (fun x i => FactorRun.block x c fe list i) ⟨s, 0, 0, 0, (0, 0)⟩).good =
        ((List.range n).map (fun i => 4 * leAt list (32 * i + 16) 4 ^ 2)).sum ∧
      DevRegs s ((List.range n).foldl (fun x i => FactorRun.block x c fe list i) ⟨s, 0, 0, 0, (0, 0)⟩).s := by
  induction n with
  | zero => exact ⟨rfl, rfl⟩
  | succ n ih =>
    rw [List.range_succ, List.foldl_append, List.foldl_cons, List.foldl_nil] at h ⊢
    obtain ⟨hcode, hgood, hregs⟩ := block_sound h
    obtain ⟨hsum, hregs'⟩ := ih hcode
    refine ⟨?_, hregs'.trans hregs⟩
    rw [hgood, hsum, List.map_append, List.sum_append, List.map_singleton, List.sum_singleton]

/-- The end of a command that changed registers and device memory. -/
theorem DevRegs.ended {s v : State} (h : DevRegs s v) {r q : Nat} {y : InFlight} (hat : s.cmdAt? r q = some y) (f : InFlight → InFlight)
    (hf : ∀ c, (f c).ring = c.ring ∧ (f c).seq = c.seq) (good : Nat) :
    let t := ((v.observe.modCmd r q f).endCmd r q 0 good).observe
    t.endedWith r q 0 good ∧ t.mem = v.mem ∧ t.host = s.host ∧ t.frames = s.frames ∧ t.rings = s.rings ∧ t.chans = s.chans ∧
      t.shape = s.shape := by
  intro t
  obtain ⟨z, hz, -⟩ := cmdAt?_observe ((cmdAt?_congr (congrArg State.cmds h :) r q).trans hat)
  refine ⟨endedWith_observe (endCmd_endedWith (cmdAt?_modCmd hz f hf) 0 good), rfl, ?_, ?_, ?_, ?_, ?_⟩
  · exact (congrArg State.host h :)
  · exact (congrArg State.frames h :)
  · exact (congrArg State.rings h :)
  · exact (congrArg State.chans h :)
  · exact (congrArg State.shape h :)

section
variable {s : State} {c : InFlight}

theorem factorStart_absent (h : s.served? 17 (c.ccp / 8) = none) : s.factorStart c = s.endCmd c.ring c.seq 0x0103 0 := by
  rw [State.factorStart, h]

theorem factorStart_done {fe : Nat} {list : List Byte} {x : FactorRun} (h : s.served? 17 (c.ccp / 8) = some fe)
    (hlist : s.rdDev (some c.part) (leAt c.ext 0 8) (32 * leAt c.ext 8 4) = .ok list)
    (hcode : s.factorListCode c.part list (leAt c.ext 8 4) = 0)
    (hx : x = (List.range (leAt c.ext 8 4)).foldl (fun x i => FactorRun.block x c fe list i) ⟨s, 0, 0, 0, (0, 0)⟩) (h0 : x.code = 0) :
    s.factorStart c = (x.s.observe.modCmd c.ring c.seq (fun y => { y with info := y.info ||| x.info })).endCmd c.ring c.seq 0 x.good := by
  rw [State.factorStart, h]
  dsimp only
  rw [hlist]
  dsimp only
  rw [if_neg (not_not_intro hcode), ← hx, State.stopCmd, h0]
  rfl

end

/-! ### O34 -/

theorem updStart_stats {s : State} {c : InFlight} {bad : Bool} {ws : List UpdWork} (ht : s.updTables c (updDesc c.ext) = .ok (bad, ws))
    (hop : c.cmd.op = 0x52) : s.updStart c = s.updRun c (updDesc c.ext) 2 0 ws := by
  rw [State.updStart, ht]
  exact if_pos hop

theorem updStart_apply {s : State} {c : InFlight} {bad : Bool} {ws : List UpdWork} {g : List Byte}
    (ht : s.updTables c (updDesc c.ext) = .ok (bad, ws)) (hop : c.cmd.op = 0x51)
    (hg : s.rdDev (some c.part) (updDesc c.ext).gate 128 = .ok g) :
    s.updStart c = s.updRun c (updDesc c.ext) (gateMode (updDesc c.ext) g).1 (gateMode (updDesc c.ext) g).2 ws := by
  rw [State.updStart, ht]
  dsimp only
  rw [if_neg (by rw [hop]; decide), hg]

/-- Settles O34: each command runs in its mode, and a scan that stops nowhere ends with its bytes; the Factor Engine ends with all its
factors. -/
theorem updateApply : Obligations.UpdateApply := by
  refine ⟨fun r q c ws bad s => ?upd, fun r q fe c list s hready => ?factor⟩
  case upd =>
    intro d u ht
    refine ⟨fun hready => ?stats, fun hready g hg => ?apply⟩
    case stats =>
      have hat := cmdAt?_atBegin hready
      obtain ⟨rfl, rfl⟩ := cmdAt?_pos hready.1
      have hop : c.cmd.op = 0x52 := hready.2.1
      have hexec : exec (.updStats c.ring c.seq) s = .next (u.updRun c d 2 0 ws).observe :=
        done_eq ((contCmd_ready hready State.updStart State.updGoOn).trans (updStart_stats ht hop))
      intro x rs w
      refine ⟨hexec, fun hstop hjob hstats hw => ?_⟩
      have hflags : statsFlags { c with startNo := s.starts, phase := .started } = 4 := if_pos hop
      have hrs : rs = (statsRecs { c with startNo := s.starts, phase := .started } d (ratiosOf ws) x.rows).map (fun y =>
          (d.stats + 64 * y.1, y.2.1)) := by
        rw [statsRecs, hflags, List.map_map]
        rfl
      have hquiet : x.s = u := updScan_quiet (by decide) hstop
      have hmem : MemOnly u w.1 := hquiet ▸ wrAll_memOnly ..
      have hkept : MemOnly u w.1 ∧ x.s.wrAll c.part rs = (w.1, 0) := ⟨hmem, Prod.ext rfl hw⟩
      obtain ⟨hend, hcmds⟩ := updRun_stats hat ⟨rfl, rfl, rfl, hop⟩ hstop hjob hstats hrs hkept.2
      refine ⟨_, hexec, hend, (congrArg State.mem hcmds :), fun ch k => ?_, ?_, ?_⟩
      · exact (congrArg (fun t => State.uuStep t ch k) hcmds :).trans (congrArg (fun t => State.uuStep t ch k) hmem :)
      · exact (congrArg State.rings hcmds :).trans (congrArg State.rings hmem :)
      · exact (congrArg State.host hcmds :).trans (congrArg State.host hmem :)
    case apply =>
      have hat := cmdAt?_atBegin hready
      obtain ⟨rfl, rfl⟩ := cmdAt?_pos hready.1
      have hop : c.cmd.op = 0x51 := hready.2.1
      have hexec : exec (.updApply c.ring c.seq) s = .next (u.updRun c d (gateMode d g).1 (gateMode d g).2 ws).observe :=
        done_eq ((contCmd_ready hready State.updStart State.updGoOn).trans (updStart_apply ht hop hg))
      intro x
      refine ⟨hexec, gateMode_applies d g, fun hinfo hstop hjob hstats => ?_⟩
      obtain ⟨hend, hcmds⟩ := updRun_apply hat ⟨rfl, rfl, hop, hinfo⟩ hstop hjob hstats
      refine ⟨_, hexec, hend, fun hmode => ?_, fun hmode => ?_⟩
      · intro ch hch k hk
        have hchans : ch ∈ x.s.partChannels c.part := by
          rw [(updScan_kept hstop).partChannels]
          exact hch
        have hstep := updCount_applied x.s c d ch hchans k hk
        rw [← hmode] at hstep
        exact (congrArg (fun t => State.uuStep t ch k) hcmds :).trans hstep
      · have hquiet : x.s = u := updScan_quiet (by rw [hmode]; decide) hstop
        have hregs := updCount_skipped x.s c d []
        rw [← hmode, hquiet] at hregs
        change CmdsOnly (x.s.updCount c d (gateMode d g).1 []) _ at hcmds
        rw [hquiet] at hcmds
        exact ⟨fun ch k => (congrArg (fun t => State.uuStep t ch k) hcmds :).trans (congrArg (fun t => State.uuStep t ch k) hregs :),
          (congrArg State.mem hcmds :).trans (congrArg State.mem hregs :)⟩
  case factor =>
    have hat := cmdAt?_atStart hready
    obtain ⟨rfl, rfl⟩ := cmdAt?_pos hready.1
    intro u n x
    have hstart := runCmd_ready hready State.factorStart
    refine ⟨fun h => done_eq (hstart.trans (factorStart_absent h)), fun h hlist hcode h0 => ?_⟩
    obtain ⟨hgood, hregs⟩ := blocks_sound n h0
    have hdone := hstart.trans (factorStart_done h hlist hcode (x := x) rfl h0)
    exact ⟨_, done_eq hdone, hgood ▸ hregs.ended hat (fun y => { y with info := y.info ||| x.info }) (fun _ => ⟨rfl, rfl⟩) x.good⟩

end Sys2Proof.Machine
end

section
/-! What the handling of HBM leaves alone (R310 to R319, R440): registers of one page, errors of any class, retrains and recalibrations. -/
namespace Sys2Proof.Machine

open Sys2Proof

/-! ### The registers of one page -/

/-- From `s` to `t` the registers of the page `pg`, its header apart, stay. -/
structure PageKept (pg : Nat) (s t : State) : Prop where
  reg : ∀ off, 0x100 ≤ off → off < 0x1000 → t.reg (pg + off) = s.reg (pg + off)

section
variable {pg : Nat}

theorem PageKept.refl (s : State) : PageKept pg s s := ⟨fun _ _ _ => rfl⟩

theorem PageKept.trans {s t u : State} (h : PageKept pg s t) (k : PageKept pg t u) : PageKept pg s u :=
  ⟨fun off h1 h2 => (k.reg off h1 h2).trans (h.reg off h1 h2)⟩

theorem PageKept.of_regs {s t : State} (h : t.regs = s.regs) : PageKept pg s t := ⟨fun off _ _ => by rw [State.reg, State.reg, h]⟩

theorem PageKept.ite {s t u : State} {c : Prop} [Decidable c] (h : PageKept pg s t) (k : PageKept pg s u) :
    PageKept pg s (if c then t else u) := by
  split
  · exact h
  · exact k

theorem PageKept.foldl {α : Type} {s t : State} (h : PageKept pg s t) (l : List α) (f : State → α → State)
    (hf : ∀ u a, PageKept pg u (f u a)) : PageKept pg s (l.foldl f t) :=
  List.foldlRecOn l f h (fun u hu a _ => hu.trans (hf u a))

end

/-- A page of a unit: of a class other than the Crowns', with its instance in range. -/
def UnitPage (pg : Nat) : Prop := ∃ c i, 0 < c ∧ c < 16 ∧ i < 4096 ∧ pg = page c i

theorem unitPage_mc {c : Nat} (h : c < 1024) : UnitPage (mcPage c) := ⟨8, c, by decide, by decide, by omega, rfl⟩

theorem unitPage_stk {k : Nat} (h : k < 32) : UnitPage (stkPage k) := ⟨9, k, by decide, by decide, by omega, rfl⟩

section
variable {pg : Nat} (hpg : UnitPage pg)
include hpg

theorem UnitPage.regKey (off : Nat) : regKey pg off = pg + off := by
  obtain ⟨c, i, h0, h16, hi, rfl⟩ := hpg
  exact regKey_page ⟨h0, h16⟩ hi off

theorem UnitPage.aligned : ∃ a, pg = 4096 * a := by
  obtain ⟨c, i, -, -, -, rfl⟩ := hpg
  exact ⟨c * 4096 + i, by simp only [page]; omega⟩

/-- A field of the page, its header apart, is kept. -/
theorem PageKept.fld {s t : State} (h : PageKept pg s t) (f : Fld) (hoff : 0x100 ≤ f.off ∧ f.off < 0x1000) : t.fld pg f = s.fld pg f := by
  rw [State.fld, State.fld, hpg.regKey, h.reg f.off hoff.1 hoff.2]

/-- A write of a field of another page leaves the page. -/
theorem PageKept.setFld {pg' : Nat} (hpg' : UnitPage pg') (hne : pg' ≠ pg) (s : State) {f : Fld} (hoff : f.off < 0x1000) (v : Nat) :
    PageKept pg s (s.setFld pg' f v) := by
  refine ⟨fun off h1 h2 => ?_⟩
  refine setFld_reg _ _ _ _ _ ?_
  rw [hpg'.regKey]
  obtain ⟨a, rfl⟩ := hpg.aligned
  obtain ⟨b, rfl⟩ := hpg'.aligned
  omega

/-- Interrupt bits stand in the header. -/
theorem PageKept.raise {cls i : Nat} (s : State) (b : Nat) : PageKept pg s (s.raise (page cls i) b) := by
  refine ⟨fun off h1 h2 => ?_⟩
  refine raise_reg _ _ _ _ ?_
  obtain ⟨c, i', h0, h16, hi, rfl⟩ := hpg
  simp only [page]
  omega

theorem ErrOnly.pageKept {s t : State} (h : ErrOnly s t) : PageKept pg s t := by
  refine ⟨fun off h1 h2 => ?_⟩
  refine h.regs _ ?_
  obtain ⟨c, i, h0, h16, hi, rfl⟩ := hpg
  simp only [ErrKey, pgOff, pgClass, page]
  omega

/-- A field of the page after a write of another one of it. -/
theorem UnitPage.fld_setFld_other (s : State) {f f' : Fld} (v : Nat)
    (h : f'.off ≠ f.off ∨ (f'.off = f.off ∧ f.hi < 64 ∧ (f.hi < f'.lo ∨ f'.hi < f.lo))) : (s.setFld pg f v).fld pg f' = s.fld pg f' := by
  refine Machine.fld_setFld_other s v ?_
  obtain h | ⟨ho, h64, hd⟩ := h
  · left
    rw [hpg.regKey, hpg.regKey]
    omega
  · exact .inr ⟨rfl, ho, h64, hd⟩

end

/-! ### Errors of any class (R440 to R442) -/

/-- What the report of an error of any class, with what its class stops, changes at most. -/
def Reported (s t : State) : Prop := t = { s with
  regs := t.regs, errs := t.errs, pins := t.pins, out := t.out, rings := t.rings, parts := t.parts }

theorem Reported.refl (s : State) : Reported s s := rfl

theorem Reported.trans {s t u : State} (h : Reported s t) (k : Reported t u) : Reported s u :=
  Eq.trans k (congrArg (fun x => { x with
    regs := u.regs, errs := u.errs, pins := u.pins, out := u.out, rings := u.rings, parts := u.parts }) h)

theorem ErrOnly.reported {s t : State} (h : ErrOnly s t) : Reported s t :=
  (congrArg (fun x : State => { x with rings := t.rings, parts := t.parts }) h.eq :)

theorem RegsOutOnly.reported {s t : State} (h : RegsOutOnly s t) : Reported s t :=
  (congrArg (fun x : State => { x with errs := t.errs, pins := t.pins, rings := t.rings, parts := t.parts }) h :)

theorem setFault_regsOutOnly (s : State) (pg : Nat) : RegsOutOnly s (s.setFault pg) := by
  unfold State.setFault
  split
  · rfl
  · exact (State.setReg_regsOutOnly ..).trans (State.raise_regsOutOnly ..)

theorem setFault_pageKept {pg : Nat} (hpg : UnitPage pg) (s : State) (cls i : Nat) : PageKept pg s (s.setFault (page cls i)) := by
  unfold State.setFault
  split
  · exact .refl s
  · refine PageKept.trans ⟨fun off h1 h2 => setFld_reg _ _ _ _ _ ?_⟩ (.raise hpg _ _)
    obtain ⟨c, i', h0, h16, hi, rfl⟩ := hpg
    rw [regKey, if_neg (by simp [Fld.BLK_STATUS_FAULT])]
    simp only [page, Fld.BLK_STATUS_FAULT]
    omega

theorem haltPart_reported (s : State) (p code : Nat) : Reported s (s.haltPart p code) :=
  (setFault_regsOutOnly s (partPage p)).reported.trans rfl

theorem haltPart_pageKept {pg : Nat} (hpg : UnitPage pg) (s : State) (p code : Nat) : PageKept pg s (s.haltPart p code) :=
  (setFault_pageKept hpg s _ _).trans (.of_regs rfl)

theorem classAct_reported (s : State) (e : ErrInfo) : Reported s (s.classAct e) := by
  unfold State.classAct
  split
  · split
    · exact (setFault_regsOutOnly ..).reported.trans (haltPart_reported ..)
    · exact (setFault_regsOutOnly ..).reported
  · split
    · exact (((setFault_regsOutOnly ..).trans (setFault_regsOutOnly ..)).trans (setFault_regsOutOnly ..)).reported.trans rfl
    · exact .refl s

theorem classAct_pageKept {pg : Nat} (hpg : UnitPage pg) (s : State) (e : ErrInfo) : PageKept pg s (s.classAct e) := by
  unfold State.classAct
  split
  · split
    · exact (setFault_pageKept hpg ..).trans (haltPart_pageKept hpg ..)
    · exact setFault_pageKept hpg ..
  · split
    · exact (((setFault_pageKept hpg ..).trans (setFault_pageKept hpg ..)).trans (setFault_pageKept hpg ..)).trans (.of_regs rfl)
    · exact .refl s

/-- Recording an error of any class. -/
theorem recordError_reported_kept (s : State) (e : ErrInfo) : Reported s (s.recordError e) ∧
    ∀ pg, UnitPage pg → PageKept pg s (s.recordError e) := by
  have hcount : ErrOnly s ((s.errParts e).foldl (fun (s : State) p =>
      if partPage p = srcPage e.source then s else s.countErr (partPage p) e.cls) (s.countErr (srcPage e.source) e.cls)) :=
    (s.countErr_errOnly _ _ _).foldl _ _ (fun u p => .ite (.refl u) (u.countErr_errOnly _ _ _))
  have hrep : Reported s (s.errCounted e) := hcount.reported.trans (classAct_reported ..)
  have hkept (pg : Nat) (hpg : UnitPage pg) : PageKept pg s (s.errCounted e) := (hcount.pageKept hpg).trans (classAct_pageKept hpg ..)
  have hwrite := State.writeErr_errOnly (s.errCounted e) e 1 false
  rw [State.recordError_eq]
  dsimp only
  split
  · split
    · exact ⟨hrep.trans rfl, fun pg hpg => (hkept pg hpg).trans (.of_regs rfl)⟩
    · exact ⟨(hrep.trans hwrite.reported).trans rfl, fun pg hpg => ((hkept pg hpg).trans (hwrite.pageKept hpg)).trans (.of_regs rfl)⟩
  · exact ⟨hrep.trans hwrite.reported, fun pg hpg => (hkept pg hpg).trans (hwrite.pageKept hpg)⟩

theorem recordError_reported (s : State) (e : ErrInfo) : Reported s (s.recordError e) := (recordError_reported_kept s e).1

theorem recordError_pageKept {pg : Nat} (hpg : UnitPage pg) (s : State) (e : ErrInfo) : PageKept pg s (s.recordError e) :=
  (recordError_reported_kept s e).2 pg hpg

/-! ### Retrains and recalibrations (R316 to R318) -/

/-- What the start of a retrain or of a recalibration changes at most. -/
def Retrained (s t : State) : Prop := t = { s with regs := t.regs, out := t.out, chans := t.chans, recalWindow := t.recalWindow }

theorem Retrained.refl (s : State) : Retrained s s := rfl

theorem Retrained.trans {s t u : State} (h : Retrained s t) (k : Retrained t u) : Retrained s u :=
  Eq.trans k (congrArg (fun x => { x with regs := u.regs, out := u.out, chans := u.chans, recalWindow := u.recalWindow }) h)

theorem RegsOutOnly.retrained {s t : State} (h : RegsOutOnly s t) : Retrained s t :=
  (congrArg (fun x : State => { x with chans := t.chans, recalWindow := t.recalWindow }) h :)

theorem Retrained.modChan (s : State) (c : Nat) (f : Chan → Chan) : Retrained s (s.modChan c f) := rfl

/-- A recalibration in the window begins on no channel, or on one that is in service, idle and due. -/
theorem windowRecal_cases (s : State) (d : Nat) : s.windowRecal d = s ∨
    ∃ c i, s.mcServes c = true ∧ s.mcState c = 0 ∧ s.fld (mcPage c) Fld.MC_STATUS_RECAL_DUE = 1 ∧
      s.windowRecal d = ({ (s.setFld (mcPage c) Fld.MC_STATUS_STATE 2) with recalWindow := SMap.put s.recalWindow d i }).modChan c
        (fun x => { x with inWindow := true }) := by
  rw [State.windowRecal]
  split
  · exact .inl rfl
  split
  · exact .inl rfl
  split
  · exact .inl rfl
  · rename_i c hc
    have hfound := List.find?_some hc
    simp only [Bool.and_eq_true, beq_iff_eq] at hfound
    exact .inr ⟨c, _, hfound.1.1, hfound.1.2, hfound.2, rfl⟩

theorem windowRecal_retrained (s : State) (d : Nat) : Retrained s (s.windowRecal d) := by
  obtain h | ⟨c, i, -, -, -, h⟩ := windowRecal_cases s d
  · rw [h]
    exact .refl s
  · rw [h]
    rfl

theorem mcServes_lt {s : State} {c : Nat} (h : s.mcServes c = true) : c < 1024 := by
  simp only [State.mcServes, Bool.and_eq_true, decide_eq_true_eq] at h
  exact h.1.1.1.1

/-- Pages of different channels, and of channels and stacks, are different. -/
theorem mcPage_ne {c c' : Nat} (h : c ≠ c') : mcPage c ≠ mcPage c' := by
  simp only [mcPage, page]
  omega

theorem mcPage_ne_stkPage {c k : Nat} (h : c < 1024) : mcPage c ≠ stkPage k := by
  simp only [mcPage, stkPage, page]
  omega

/-- The window's next recalibration leaves the page of a channel that is not due or not idle, and the pages of stacks. -/
theorem windowRecal_pageKept {pg : Nat} (hpg : UnitPage pg) (s : State) (d : Nat)
    (h : ∀ c, s.mcServes c = true → s.mcState c = 0 → s.fld (mcPage c) Fld.MC_STATUS_RECAL_DUE = 1 → mcPage c ≠ pg) :
    PageKept pg s (s.windowRecal d) := by
  obtain he | ⟨c, i, hserves, hidle, hdue, he⟩ := windowRecal_cases s d
  · rw [he]
    exact .refl s
  · rw [he]
    exact (PageKept.setFld hpg (unitPage_mc (mcServes_lt hserves)) (h c hserves hidle hdue) s (f := Fld.MC_STATUS_STATE) (by decide)
      2).trans (.of_regs rfl)

theorem nextRecal_retrained (s : State) (w : Bool) (d : Nat) : Retrained s (s.nextRecal w d) := by
  unfold State.nextRecal
  split
  · exact windowRecal_retrained s d
  · exact .refl s

theorem nextRecal_pageKept {pg : Nat} (hpg : UnitPage pg) (s : State) (w : Bool) (d : Nat)
    (h : ∀ c, s.mcServes c = true → s.mcState c = 0 → s.fld (mcPage c) Fld.MC_STATUS_RECAL_DUE = 1 → mcPage c ≠ pg) :
    PageKept pg s (s.nextRecal w d) := by
  unfold State.nextRecal
  split
  · exact windowRecal_pageKept hpg s d h
  · exact .refl s

end Sys2Proof.Machine
end

section
/-! Channels of HBM: held writes, retrains and recalibrations, row copies and the stacks' temperature (R313 to R322), O35. -/
namespace Sys2Proof.Machine

open Sys2Proof

/-! ### Held writes (R312, R314) -/

/-- A change of a command at another place is not seen. -/
theorem cmdAt?_modCmd_other {s : State} {r q r' q' : Nat} (h : (r', q') ≠ (r, q)) (f : InFlight → InFlight)
    (hf : ∀ c, (f c).ring = c.ring ∧ (f c).seq = c.seq) : (s.modCmd r' q' f).cmdAt? r q = s.cmdAt? r q := by
  rw [State.cmdAt?, State.modCmd, updateWhere, find?_map_same]
  · cases hat : s.cmds.find? (fun c => c.ring == r && c.seq == q) with
    | none => rw [State.cmdAt?, hat]; rfl
    | some d =>
      obtain ⟨hr, hq⟩ := cmdAt?_pos hat
      rw [State.cmdAt?, hat, Option.map_some, if_neg]
      rintro hd
      simp only [Bool.and_eq_true, beq_iff_eq, hr, hq] at hd
      exact h (by rw [hd.1, hd.2])
  · intro d
    split
    · exact hf d
    · exact ⟨rfl, rfl⟩

/-- The end of a held command with a code, if it runs and has no status yet. -/
def State.endIfHeld (s : State) (code : Code) (q : Nat × Nat) : State :=
  match s.cmdAt? q.1 q.2 with
  | some f => if code ≠ 0 ∧ f.phase ≠ .waiting ∧ f.status = 0 then s.endCmd q.1 q.2 code f.good else s
  | none => s

theorem endHeld_eq (s : State) (c code : Nat) : s.endHeld c code =
    (s.chan c).heldCmds.foldl (fun s q => s.endIfHeld code q) (s.modChan c (fun x => { x with heldWrite := false, heldCmds := [] })) := rfl

theorem endIfHeld_zero (s : State) (q : Nat × Nat) : s.endIfHeld 0 q = s := by
  unfold State.endIfHeld
  split
  · exact if_neg (fun h => h.1 rfl)
  · rfl

/-- A passed retrain lets the held writes go on. -/
theorem endHeld_pass (s : State) (c : Nat) : s.endHeld c 0 = s.modChan c (fun x => { x with heldWrite := false, heldCmds := [] }) := by
  rw [endHeld_eq]
  exact List.foldlRecOn (motive := fun t => t = s.modChan c (fun x => { x with heldWrite := false, heldCmds := [] })) _ _ rfl
    (fun t h q _ => (endIfHeld_zero t q).trans h)

/-- `t` differs from `s` in its commands and channels at most. -/
def ChanCmds (s t : State) : Prop := t = { s with chans := t.chans, cmds := t.cmds }

theorem ChanCmds.trans {s t u : State} (h : ChanCmds s t) (k : ChanCmds t u) : ChanCmds s u :=
  Eq.trans k (congrArg (fun x => { x with chans := u.chans, cmds := u.cmds }) h)

theorem endIfHeld_chanCmds (s : State) (code : Code) (q : Nat × Nat) : ChanCmds s (s.endIfHeld code q) := by
  unfold State.endIfHeld
  split
  · split
    · rfl
    · rfl
  · rfl

theorem endHeld_chanCmds (s : State) (c code : Nat) : ChanCmds s (s.endHeld c code) := by
  rw [endHeld_eq]
  exact List.foldlRecOn (motive := ChanCmds s) _ _ rfl (fun t h q _ => h.trans (endIfHeld_chanCmds t code q))

/-- A command at a place runs with no status yet and `good` bytes, or has ended with the code. -/
def State.heldOrEnded (s : State) (code : Code) (r q good : Nat) : Prop :=
  (∃ d, s.cmdAt? r q = some d ∧ d.phase ≠ .waiting ∧ d.status = 0 ∧ d.good = good) ∨ s.endedWith r q code good

theorem endIfHeld_other {s : State} {code : Code} {x : Nat × Nat} {r q : Nat} (h : x ≠ (r, q)) :
    (s.endIfHeld code x).cmdAt? r q = s.cmdAt? r q := by
  unfold State.endIfHeld
  split
  · split
    · exact cmdAt?_modCmd_other h _ (fun _ => ⟨rfl, rfl⟩)
    · rfl
  · rfl

theorem endIfHeld_ended {s : State} {code : Code} (hcode : code ≠ 0) {r q good : Nat} (h : s.endedWith r q code good)
    (x : Nat × Nat) : (s.endIfHeld code x).endedWith r q code good := by
  obtain ⟨d, hd, hph, hst, hgood⟩ := h
  by_cases hx : x = (r, q)
  · subst hx
    refine ⟨d, ?_, hph, hst, hgood⟩
    rw [State.endIfHeld, hd]
    dsimp only
    rw [if_neg (fun hc => hcode (hst.symm.trans hc.2.2)), hd]
  · exact ⟨d, (endIfHeld_other hx).trans hd, hph, hst, hgood⟩

theorem endIfHeld_ends {s : State} {code : Code} (hcode : code ≠ 0) {r q good : Nat} (h : s.heldOrEnded code r q good) :
    (s.endIfHeld code (r, q)).endedWith r q code good := by
  obtain ⟨d, hd, hph, hst, hgood⟩ | h := h
  · rw [State.endIfHeld, hd]
    dsimp only
    rw [if_pos ⟨hcode, hph, hst⟩, ← hgood]
    exact endCmd_endedWith hd code d.good
  · exact endIfHeld_ended hcode h (r, q)

theorem endIfHeld_held {s : State} {code : Code} (hcode : code ≠ 0) {r q good : Nat} (h : s.heldOrEnded code r q good) (x : Nat × Nat) :
    (s.endIfHeld code x).heldOrEnded code r q good := by
  by_cases hx : x = (r, q)
  · subst hx
    exact .inr (endIfHeld_ends hcode h)
  · obtain ⟨d, hd, hrest⟩ | h := h
    · exact .inl ⟨d, (endIfHeld_other hx).trans hd, hrest⟩
    · exact .inr (endIfHeld_ended hcode h x)

/-- A failed retrain ends every command whose write it held. -/
theorem endHeld_ends {s : State} {c : Nat} {code : Code} (hcode : code ≠ 0) {r q : Nat} {f : InFlight}
    (hmem : (r, q) ∈ (s.chan c).heldCmds) (hat : s.cmdAt? r q = some f) (hph : f.phase = .started) (hst : f.status = 0) :
    (s.endHeld c code).endedWith r q code f.good := by
  obtain ⟨l, l', hl⟩ := List.append_of_mem hmem
  rw [endHeld_eq, hl, List.foldl_append, List.foldl_cons]
  have hstart : (s.modChan c (fun x => { x with heldWrite := false, heldCmds := [] })).heldOrEnded code r q f.good :=
    .inl ⟨f, hat, by rw [hph]; decide, hst, rfl⟩
  have hheld := List.foldlRecOn (motive := fun t => State.heldOrEnded t code r q f.good) l (fun s q => s.endIfHeld code q) hstart
    (fun t h x _ => endIfHeld_held hcode h x)
  exact List.foldlRecOn (motive := fun t => State.endedWith t r q code f.good) l' (fun s q => s.endIfHeld code q)
    (endIfHeld_ends hcode hheld) (fun t h x _ => endIfHeld_ended hcode h x)

/-! ### A channel marked out (R319) -/

theorem stopAlso_reported (s : State) (q : Nat) (code : Code) : Reported s (s.stopAlso q code) :=
  (s.countErr_errOnly _ _ _).reported.trans (haltPart_reported ..)

theorem stopAlso_pageKept {pg : Nat} (hpg : UnitPage pg) (s : State) (q : Nat) (code : Code) : PageKept pg s (s.stopAlso q code) :=
  ((s.countErr_errOnly _ _ _).pageKept hpg).trans (haltPart_pageKept hpg ..)

/-- A channel's page and its stack's with the channel out and known bad, before the error is reported. -/
def State.outMarked (s : State) (c : Nat) : State :=
  let x := (s.setFld (mcPage c) Fld.MC_STATUS_STATE 3).raise (mcPage c) 18
  (x.setFld (stkPage (c / 32)) Fld.STK_STATUS_OUT_MASK (x.fld (stkPage (c / 32)) Fld.STK_STATUS_OUT_MASK ||| 2 ^ (c % 32))).addKnownBad 8 c

theorem addKnownBad_mem (s : State) (kind i : Nat) : (s.addKnownBad kind i).mem = s.mem := rfl

theorem addKnownBad_cmds (s : State) (kind i : Nat) : (s.addKnownBad kind i).cmds = s.cmds := rfl

theorem outMarked_mem (s : State) (c : Nat) : (s.outMarked c).mem = s.mem := by
  rw [State.outMarked, addKnownBad_mem, State.setFld_mem, State.raise_mem, State.setFld_mem]

theorem outMarked_cmds (s : State) (c : Nat) : (s.outMarked c).cmds = s.cmds := by
  rw [State.outMarked, addKnownBad_cmds, State.setFld_cmds, State.raise_cmds, State.setFld_cmds]

theorem markOut_reported_kept {s : State} {c : Nat} (h : s.mcState c ≠ 3) : Reported (s.outMarked c) (s.markOut c) ∧
    ∀ pg, UnitPage pg → PageKept pg (s.outMarked c) (s.markOut c) := by
  rw [State.markOut, if_neg h]
  change Reported (s.outMarked c) (match ((s.outMarked c).recordError _).lentTo? with
    | none => _ | some q => _) ∧ ∀ pg, UnitPage pg → PageKept pg (s.outMarked c) (match ((s.outMarked c).recordError _).lentTo? with
    | none => _ | some q => _)
  split
  · exact ⟨recordError_reported .., fun pg hpg => recordError_pageKept hpg ..⟩
  · split
    · exact ⟨recordError_reported .., fun pg hpg => recordError_pageKept hpg ..⟩
    · exact ⟨(recordError_reported ..).trans (stopAlso_reported ..), fun pg hpg =>
        (recordError_pageKept hpg ..).trans (stopAlso_pageKept hpg ..)⟩

/-- A channel marked out is out and known bad; memory and commands stay. -/
theorem markOut_out {s : State} {c : Nat} (hc : c < 1024) (h : s.mcState c ≠ 3) :
    (s.markOut c).mcState c = 3 ∧ (8, c) ∈ (s.markOut c).knownBad ∧ (s.markOut c).mem = s.mem ∧ (s.markOut c).cmds = s.cmds := by
  obtain ⟨hrep, hkept⟩ := markOut_reported_kept h
  have hpg := unitPage_mc hc
  have hout : PageKept (mcPage c) (s.setFld (mcPage c) Fld.MC_STATUS_STATE 3) (s.outMarked c) :=
    ((PageKept.raise hpg _ 18).trans (.setFld hpg (unitPage_stk (by omega)) (mcPage_ne_stkPage hc).symm _ (by decide) _)).trans (.of_regs rfl)
  refine ⟨?_, ?_, ?_, ?_⟩
  · exact ((hout.trans (hkept _ hpg)).fld hpg Fld.MC_STATUS_STATE (by decide)).trans (fld_setFld_fits _ _ (by decide))
  · rw [show (s.markOut c).knownBad = (s.outMarked c).knownBad from (congrArg State.knownBad hrep :)]
    exact List.mem_cons_self
  · exact (congrArg State.mem hrep :).trans (outMarked_mem s c)
  · exact (congrArg State.cmds hrep :).trans (outMarked_cmds s c)

/-- A field holds a value of its width. -/
theorem fld_lt (s : State) (pg : Nat) (f : Fld) : s.fld pg f < 2 ^ (f.hi + 1 - f.lo) := Nat.mod_lt _ (Nat.two_pow_pos _)

/-! ### Fresh channels (R316, R317) -/

theorem unitPage_str : UnitPage strPage := ⟨2, 0, by decide, by decide, by decide, rfl⟩

/-- The stroke number after a change of a channel's fields. -/
theorem strokeNo_setFld_mc {c : Nat} (hc : c < 1024) (s : State) {f : Fld} (hf : f.off < 0x1000) (v : Nat) :
    (s.setFld (mcPage c) f v).strokeNo = s.strokeNo := by
  have hne : mcPage c ≠ strPage := by
    simp only [mcPage, strPage, page]
    omega
  rw [State.strokeNo, (PageKept.setFld unitPage_str (unitPage_mc hc) hne s hf v).reg Reg.STR_COUNT (by decide) (by decide), State.strokeNo]

/-- A channel is in service, with its recalibration fresh since the stroke `n`. -/
structure Fresh (c n : Nat) (t : State) : Prop where
  idle : t.mcState c = 0
  due : t.fld (mcPage c) Fld.MC_STATUS_RECAL_DUE = 0
  last : t.fld (mcPage c) Fld.MC_RECAL_LAST_STROKE = n % 2 ^ 48

section
variable {c : Nat} (hc : c < 1024)
include hc

theorem Fresh.kept {n : Nat} {s t : State} (h : Fresh c n s) (k : PageKept (mcPage c) s t) : Fresh c n t :=
  have hpg := unitPage_mc hc
  ⟨(k.fld hpg _ (by decide)).trans h.idle, (k.fld hpg _ (by decide)).trans h.due, (k.fld hpg _ (by decide)).trans h.last⟩

/-- The retrain counters stand in another register. -/
theorem Fresh.setFld {n : Nat} {s : State} (h : Fresh c n s) {f : Fld} (hf : 0x100 ≠ f.off ∧ 0x120 ≠ f.off) (v : Nat) :
    Fresh c n (s.setFld (mcPage c) f v) :=
  have hpg := unitPage_mc hc
  ⟨(hpg.fld_setFld_other s v (.inl hf.1)).trans h.idle, (hpg.fld_setFld_other s v (.inl hf.1)).trans h.due,
    (hpg.fld_setFld_other s v (.inl hf.2)).trans h.last⟩

theorem recalibrated_fresh (s : State) : Fresh c s.strokeNo ((s.setFld (mcPage c) Fld.MC_STATUS_STATE 0).recalibrated c) := by
  have hpg := unitPage_mc hc
  refine Fresh.kept hc (s := ((s.setFld (mcPage c) Fld.MC_STATUS_STATE 0).setFld (mcPage c) Fld.MC_STATUS_RECAL_DUE 0).setFld (mcPage c)
    Fld.MC_RECAL_LAST_STROKE (((s.setFld (mcPage c) Fld.MC_STATUS_STATE 0).setFld (mcPage c) Fld.MC_STATUS_RECAL_DUE 0).strokeNo % 2 ^ 48))
    ⟨?_, ?_, ?_⟩ (.of_regs ?_)
  · exact (hpg.fld_setFld_other _ _ (by decide)).trans ((hpg.fld_setFld_other _ _ (by decide)).trans (fld_setFld_fits _ _ (by decide)))
  · exact (hpg.fld_setFld_other _ _ (by decide)).trans (fld_setFld_fits _ _ (by decide))
  · refine (fld_setFld_fits _ _ (f := Fld.MC_RECAL_LAST_STROKE) ⟨by decide, by decide, Nat.mod_lt _ (by decide)⟩).trans ?_
    rw [strokeNo_setFld_mc hc _ (by decide), strokeNo_setFld_mc hc _ (by decide)]
    rfl
  · rw [State.recalibrated, strokeNo_setFld_mc hc (s.setFld (mcPage c) Fld.MC_STATUS_STATE 0) (f := Fld.MC_STATUS_RECAL_DUE) (by decide)]
    rfl

end

theorem setFld_regsOutOnly (s : State) (pg : Nat) (f : Fld) (v : Nat) : RegsOutOnly s (s.setFld pg f v) :=
  State.setReg_regsOutOnly ..

theorem recalibrated_retrained (s : State) (c : Nat) : Retrained s ((s.setFld (mcPage c) Fld.MC_STATUS_STATE 0).recalibrated c) :=
  (setFld_regsOutOnly s (mcPage c) Fld.MC_STATUS_STATE 0).retrained.trans rfl

/-- The end of a recalibration leaves the channel fresh. -/
theorem recalDone_fresh {s : State} {c : Nat} (hc : c < 1024) (h : s.mcState c = 2) :
    Fresh c s.strokeNo (recalDone s c) ∧ Retrained s (recalDone s c) := by
  rw [recalDone, if_neg (fun hn => hn h)]
  have hfresh := recalibrated_fresh hc s
  refine ⟨hfresh.kept hc (nextRecal_pageKept (unitPage_mc hc) _ _ _ ?_), (recalibrated_retrained s c).trans (nextRecal_retrained _ _ _)⟩
  intro c' hserves hidle hdue heq
  rw [heq, hfresh.due] at hdue
  exact absurd hdue (by decide)

/-! ### The end of a retrain (R317) -/

/-- A channel back in service after a retrain, its counts not yet updated. -/
def State.backInService (s : State) (c lanes : Nat) : State :=
  ((((s.modChan c (fun x => { x with events := [] })).endHeld c 0).setFld (mcPage c) Fld.MC_STATUS_LANES_SPARED (min lanes 2)).setFld
    (mcPage c) Fld.MC_STATUS_STATE 0).recalibrated c

/-- Its counts updated and the error reported. -/
def State.retrainCounted (s : State) (c us : Nat) : State :=
  let t := s.addFld (mcPage c) Fld.MC_RETRAIN_COUNT 1
  ((t.setFld (mcPage c) Fld.MC_RETRAIN_LONGEST (max (t.fld (mcPage c) Fld.MC_RETRAIN_LONGEST) (min us 65535))).raise (mcPage c)
    17).recordError { source := srcOf (mcPage c), cls := 0, code := 0x0A0B }

theorem retrainDone_pass {s : State} {c : Nat} (h : s.mcState c = 1) (us lanes : Nat) :
    retrainDone s c true us lanes = (s.backInService c lanes).retrainCounted c us := by
  rw [retrainDone, if_neg (fun hn => hn h), if_pos rfl, if_pos rfl, State.backInService, State.retrainCounted]

theorem retrainDone_fail {s : State} {c : Nat} (h : s.mcState c = 1) (us lanes : Nat) :
    retrainDone s c false us lanes =
      (((s.modChan c (fun x => { x with events := [] })).endHeld c 0x0A02).setFld (mcPage c) Fld.MC_STATUS_LANES_SPARED (min lanes 2)).markOut c := by
  rw [retrainDone, if_neg (fun hn => hn h)]
  rfl

section
variable {c : Nat} (hc : c < 1024)
include hc

/-- The recalibration timer's restart leaves the other registers' fields and those of other bits. -/
theorem recalibrated_fld (s : State) {f : Fld} (h : f.off ≠ 0x120) (h' : f.off ≠ 0x100 ∨ (f.off = 0x100 ∧ (2 < f.lo ∨ f.hi < 2))) :
    (s.recalibrated c).fld (mcPage c) f = s.fld (mcPage c) f := by
  have hpg := unitPage_mc hc
  have hdue : (s.setFld (mcPage c) Fld.MC_STATUS_RECAL_DUE 0).fld (mcPage c) f = s.fld (mcPage c) f :=
    hpg.fld_setFld_other s 0 (h'.imp id (fun ⟨ho, hb⟩ => ⟨ho, (by decide : (2 : Nat) < 64), hb⟩))
  exact (hpg.fld_setFld_other _ (f := Fld.MC_RECAL_LAST_STROKE) _ (.inl h)).trans hdue

theorem backInService_regs (s : State) (lanes : Nat) : Fresh c s.strokeNo (s.backInService c lanes) ∧
    (s.backInService c lanes).fld (mcPage c) Fld.MC_RETRAIN_COUNT = s.fld (mcPage c) Fld.MC_RETRAIN_COUNT ∧
    (s.backInService c lanes).fld (mcPage c) Fld.MC_RETRAIN_LONGEST = s.fld (mcPage c) Fld.MC_RETRAIN_LONGEST ∧
    (s.backInService c lanes).fld (mcPage c) Fld.MC_STATUS_LANES_SPARED = min lanes 2 := by
  have hpg := unitPage_mc hc
  rw [State.backInService, endHeld_pass]
  generalize hx : ((s.modChan c (fun x => { x with events := [] })).modChan c (fun x => { x with heldWrite := false, heldCmds := [] })) = x
  have hregs : x.regs = s.regs := by
    rw [← hx]
    rfl
  have hfld (f : Fld) : x.fld (mcPage c) f = s.fld (mcPage c) f := by rw [State.fld, State.fld, State.reg, State.reg, hregs]
  have hstroke : x.strokeNo = s.strokeNo := by rw [State.strokeNo, State.strokeNo, State.reg, State.reg, hregs]
  have hfresh := recalibrated_fresh hc (x.setFld (mcPage c) Fld.MC_STATUS_LANES_SPARED (min lanes 2))
  rw [strokeNo_setFld_mc hc _ (by decide), hstroke] at hfresh
  refine ⟨hfresh, ?_, ?_, ?_⟩
  · rw [recalibrated_fld hc _ (by decide) (by decide), hpg.fld_setFld_other _ _ (by decide), hpg.fld_setFld_other _ _ (by decide), hfld]
  · rw [recalibrated_fld hc _ (by decide) (by decide), hpg.fld_setFld_other _ _ (by decide), hpg.fld_setFld_other _ _ (by decide), hfld]
  · rw [recalibrated_fld hc _ (by decide) (by decide), hpg.fld_setFld_other _ _ (by decide)]
    exact fld_setFld_fits _ _ ⟨by decide, by decide, Nat.lt_of_le_of_lt (Nat.min_le_right ..) (by decide)⟩

/-- The counts are updated, and nothing else of the channel's page. -/
theorem retrainCounted_regs (s : State) (us n : Nat) (h : Fresh c n s) : Fresh c n (s.retrainCounted c us) ∧
    (s.retrainCounted c us).fld (mcPage c) Fld.MC_RETRAIN_COUNT = satAdd 32 (s.fld (mcPage c) Fld.MC_RETRAIN_COUNT) 1 ∧
    (s.retrainCounted c us).fld (mcPage c) Fld.MC_RETRAIN_LONGEST = max (s.fld (mcPage c) Fld.MC_RETRAIN_LONGEST) (min us 65535) ∧
    (s.retrainCounted c us).fld (mcPage c) Fld.MC_STATUS_LANES_SPARED = s.fld (mcPage c) Fld.MC_STATUS_LANES_SPARED := by
  have hpg := unitPage_mc hc
  rw [State.retrainCounted]
  have hkept (x : State) : PageKept (mcPage c) x ((x.raise (mcPage c) 17).recordError { source := srcOf (mcPage c), cls := 0, code := 0x0A0B }) :=
    (PageKept.raise hpg x 17).trans (recordError_pageKept hpg ..)
  have hcount : (s.addFld (mcPage c) Fld.MC_RETRAIN_COUNT 1).fld (mcPage c) Fld.MC_RETRAIN_COUNT = satAdd 32 (s.fld (mcPage c) Fld.MC_RETRAIN_COUNT) 1 :=
    fld_setFld_fits _ _ ⟨by decide, by decide, Nat.lt_of_le_of_lt (Nat.min_le_right ..) (by decide)⟩
  have hlong : (s.addFld (mcPage c) Fld.MC_RETRAIN_COUNT 1).fld (mcPage c) Fld.MC_RETRAIN_LONGEST = s.fld (mcPage c) Fld.MC_RETRAIN_LONGEST :=
    hpg.fld_setFld_other _ _ (by decide)
  have hlanes : (s.addFld (mcPage c) Fld.MC_RETRAIN_COUNT 1).fld (mcPage c) Fld.MC_STATUS_LANES_SPARED = s.fld (mcPage c) Fld.MC_STATUS_LANES_SPARED :=
    hpg.fld_setFld_other _ _ (by decide)
  have hfresh : Fresh c n (s.addFld (mcPage c) Fld.MC_RETRAIN_COUNT 1) := h.setFld hc (by decide) _
  refine ⟨(hfresh.setFld hc (by decide) _).kept hc (hkept _), ?_, ?_, ?_⟩
  · rw [(hkept _).fld hpg _ (by decide), hpg.fld_setFld_other _ _ (by decide), hcount]
  · rw [(hkept _).fld hpg _ (by decide), hlong]
    refine fld_setFld_fits _ _ ⟨by decide, by decide, Nat.max_lt.2 ⟨fld_lt .., Nat.lt_of_le_of_lt (Nat.min_le_right ..) (by decide)⟩⟩
  · rw [(hkept _).fld hpg _ (by decide), hpg.fld_setFld_other _ _ (by decide), hlanes]

end

theorem backInService_retrained (s : State) (c lanes : Nat) : Retrained s (s.backInService c lanes) := by
  rw [State.backInService, endHeld_pass]
  exact ((Retrained.modChan ..).trans (Retrained.modChan ..)).trans
    ((setFld_regsOutOnly ..).retrained.trans (recalibrated_retrained ..))

theorem retrainCounted_out (s : State) (c us : Nat) :
    (s.retrainCounted c us).mem = s.mem ∧ (s.retrainCounted c us).cmds = s.cmds ∧ (s.retrainCounted c us).rings = s.rings := by
  have h : ErrOnly ((s.addFld (mcPage c) Fld.MC_RETRAIN_COUNT 1).setFld (mcPage c) Fld.MC_RETRAIN_LONGEST
    (max ((s.addFld (mcPage c) Fld.MC_RETRAIN_COUNT 1).fld (mcPage c) Fld.MC_RETRAIN_LONGEST) (min us 65535)) |>.raise (mcPage c) 17)
    (s.retrainCounted c us) := State.recordError_errOnly _ (Nat.zero_le 1)
  have hout := ((State.addFld_regsOutOnly s (mcPage c) Fld.MC_RETRAIN_COUNT 1).trans (setFld_regsOutOnly _ (mcPage c) Fld.MC_RETRAIN_LONGEST
    (max ((s.addFld (mcPage c) Fld.MC_RETRAIN_COUNT 1).fld (mcPage c) Fld.MC_RETRAIN_LONGEST) (min us 65535)))).trans
    (State.raise_regsOutOnly _ (mcPage c) 17)
  exact ⟨((congrArg State.mem h.eq :)).trans (congrArg State.mem hout :), ((congrArg State.cmds h.eq :)).trans (congrArg State.cmds hout :),
    ((congrArg State.rings h.eq :)).trans (congrArg State.rings hout :)⟩

theorem retrainDone_passed {s : State} {c : Nat} (hc : c < 1024) (h : s.mcState c = 1) (us lanes : Nat) :
    Fresh c s.strokeNo (retrainDone s c true us lanes) ∧
    (retrainDone s c true us lanes).fld (mcPage c) Fld.MC_RETRAIN_COUNT = satAdd 32 (s.fld (mcPage c) Fld.MC_RETRAIN_COUNT) 1 ∧
    (retrainDone s c true us lanes).fld (mcPage c) Fld.MC_RETRAIN_LONGEST = max (s.fld (mcPage c) Fld.MC_RETRAIN_LONGEST) (min us 65535) ∧
    (retrainDone s c true us lanes).fld (mcPage c) Fld.MC_STATUS_LANES_SPARED = min lanes 2 ∧
    (retrainDone s c true us lanes).mem = s.mem ∧ (retrainDone s c true us lanes).cmds = s.cmds ∧
    (retrainDone s c true us lanes).rings = s.rings := by
  rw [retrainDone_pass h]
  obtain ⟨hfresh, hcount, hlong, hlanes⟩ := backInService_regs hc s lanes
  obtain ⟨hfresh', hcount', hlong', hlanes'⟩ := retrainCounted_regs hc _ us _ hfresh
  obtain ⟨hmem, hcmds, hrings⟩ := retrainCounted_out (s.backInService c lanes) c us
  have hback := backInService_retrained s c lanes
  exact ⟨hfresh', by rw [hcount', hcount], by rw [hlong', hlong], by rw [hlanes', hlanes], hmem.trans (congrArg State.mem hback :),
    hcmds.trans (congrArg State.cmds hback :), hrings.trans (congrArg State.rings hback :)⟩

/-- A failed retrain marks the channel out and ends the commands whose writes it held. -/
theorem retrainDone_failed {s : State} {c : Nat} (hc : c < 1024) (h : s.mcState c = 1) (us lanes : Nat) :
    (retrainDone s c false us lanes).mcState c = 3 ∧ (8, c) ∈ (retrainDone s c false us lanes).knownBad ∧
    (retrainDone s c false us lanes).mem = s.mem ∧ ∀ r q f, (r, q) ∈ (s.chan c).heldCmds → s.cmdAt? r q = some f → f.phase = .started →
      f.status = 0 → (retrainDone s c false us lanes).endedWith r q 0x0A02 f.good := by
  rw [retrainDone_fail h]
  have hends (r q : Nat) (f : InFlight) (hmem : (r, q) ∈ (s.chan c).heldCmds) (hat : s.cmdAt? r q = some f)
      (hph : f.phase = .started) (hst : f.status = 0) :
      ((s.modChan c (fun x => { x with events := [] })).endHeld c 0x0A02).endedWith r q 0x0A02 f.good := by
    refine endHeld_ends (by decide) ?_ hat hph hst
    rw [State.chan, State.modChan, SMap.getD_put_same]
    exact hmem
  have hsame := endHeld_chanCmds (s.modChan c (fun x => { x with events := [] })) c 0x0A02
  generalize (s.modChan c (fun x => { x with events := [] })).endHeld c 0x0A02 = x at hends hsame
  have hstate : (x.setFld (mcPage c) Fld.MC_STATUS_LANES_SPARED (min lanes 2)).mcState c = 1 := by
    refine ((unitPage_mc hc).fld_setFld_other x _ (by decide)).trans (Eq.trans ?_ h)
    rw [State.mcState, State.fld, State.fld, State.reg, State.reg, show x.regs = s.regs from (congrArg State.regs hsame :)]
  obtain ⟨hout, hbad, hmem, hcmds⟩ := markOut_out hc (by rw [hstate]; decide)
  refine ⟨hout, hbad, ?_, fun r q f hheld hat hph hst => ?_⟩
  · rw [hmem, State.setFld_mem]
    exact (congrArg State.mem hsame :)
  · obtain ⟨d, hd, hrest⟩ := hends r q f hheld hat hph hst
    exact ⟨d, (cmdAt?_congr (hcmds.trans (State.setFld_cmds ..)) r q).trans hd, hrest⟩

end Sys2Proof.Machine
end

section
/-! The stacks' temperature (R313, R314, R316), and the statement O35. -/
namespace Sys2Proof.Machine

open Sys2Proof

/-! ### Temperatures in a field -/

theorem sext_twos {t : Int} (hlo : -128 ≤ t) (hhi : t < 128) : sext 8 (twos 8 t) = t := by
  have hv : ((twos 8 t % 2 ^ 8 : Nat) : Int) = t % 256 := by
    simp only [twos, Nat.reducePow]
    omega
  rw [sext]
  generalize twos 8 t % 2 ^ 8 = v at hv
  by_cases h : 0 ≤ t
  · rw [if_neg (by simp only [Nat.reduceSub, Nat.reducePow]; omega)]
    omega
  · rw [if_pos (by simp only [Nat.reduceSub, Nat.reducePow]; omega)]
    simp only [Nat.reducePow]
    omega

theorem twos_lt (t : Int) : twos 8 t < 2 ^ 8 := by
  simp only [twos, Nat.reducePow]
  omega

/-! ### A sample's fields (R313, R316) -/

/-- A sample with the temperature and its maximum written. -/
def State.tempWritten (s : State) (k : Nat) (t : Int) : State :=
  let x := s.setFld (stkPage k) Fld.STK_STATUS_TEMP (twos 8 t)
  if sext 8 (x.fld (stkPage k) Fld.STK_TEMP_MAX_TEMP) < t then x.setFld (stkPage k) Fld.STK_TEMP_MAX_TEMP (twos 8 t) else x

/-- A channel whose temperature has moved 10 °C since its last recalibration becomes due. -/
def State.dueAt (s : State) (k : Nat) (t : Int) (i : Nat) : State :=
  let c := 32 * k + i
  if s.mcServes c && decide (10 ≤ (t - (s.chan c).recalTemp).natAbs) then s.setFld (mcPage c) Fld.MC_STATUS_RECAL_DUE 1 else s

/-- The state of a sample before the refresh step is chosen. -/
def State.tempSeen (s : State) (k : Nat) (t : Int) : State := (List.range 32).foldl (fun s i => s.dueAt k t i) (s.tempWritten k t)

/-- The refresh step that a sample below the halt leaves. -/
def State.refreshChosen (s : State) (k : Nat) (t : Int) : State :=
  let cur := s.fld (stkPage k) Fld.STK_STATUS_REFRESH
  if cur < refreshStep t then (s.setRefresh k (refreshStep t)).modStk k (fun x => { x with coolTicks := 0 })
  else if cur ≠ 0 ∧ t ≤ stepThreshold cur - 3 then
    if 100 ≤ (s.stk k).coolTicks + 1 then (s.setRefresh k (cur - 1)).modStk k (fun x => { x with coolTicks := 0 })
    else s.modStk k (fun x => { x with coolTicks := (s.stk k).coolTicks + 1 })
  else s.modStk k (fun x => { x with coolTicks := 0 })

theorem stackTempSample_eq {s : State} {k : Nat} {t : Int} (hk : k < 32) (htrim : s.trimmed 9 k = false) :
    stackTempSample s k t = if refreshStep t = 3 then
      (if s.fld (stkPage k) Fld.STK_STATUS_STATE = 3 then s.tempSeen k t else (s.tempSeen k t).thermalHalt k)
    else (s.tempSeen k t).refreshChosen k t := by
  rw [stackTempSample]
  dsimp only
  rw [if_neg (by rw [htrim]; simp; omega)]
  rfl

theorem refreshStep_eq_three (t : Int) : refreshStep t = 3 ↔ 105 < t := by
  simp only [refreshStep]
  split
  · omega
  split
  · omega
  split <;> omega

/-- What the marking of due channels keeps. -/
structure DueOnly (s u : State) : Prop where
  rel : RegsOutOnly s u
  stackPages : ∀ j < 32, PageKept (stkPage j) s u
  states : ∀ c < 1024, u.mcState c = s.mcState c

theorem DueOnly.refl (s : State) : DueOnly s s := ⟨rfl, fun _ _ => .refl s, fun _ _ => rfl⟩

theorem DueOnly.trans {s t u : State} (h : DueOnly s t) (k : DueOnly t u) : DueOnly s u :=
  ⟨h.rel.trans k.rel, fun j hj => (h.stackPages j hj).trans (k.stackPages j hj), fun c hc => (k.states c hc).trans (h.states c hc)⟩

theorem DueOnly.serves {s u : State} (h : DueOnly s u) (c : Nat) : u.mcServes c = s.mcServes c := by
  by_cases hc : c < 1024
  · have hk : c / 32 < 32 := by omega
    rw [State.mcServes, State.mcServes, h.states c hc, State.trimmed, State.trimmed, State.trimmed, State.trimmed,
      show u.trim = s.trim from (congrArg State.trim h.rel :), (h.stackPages _ hk).fld (unitPage_stk hk) _ (by decide)]
  · simp only [State.mcServes, decide_eq_false hc, Bool.false_and]

theorem dueAt_cases (s : State) (k : Nat) (t : Int) (i : Nat) : s.dueAt k t i = s ∨
    (32 * k + i < 1024 ∧ s.dueAt k t i = s.setFld (mcPage (32 * k + i)) Fld.MC_STATUS_RECAL_DUE 1) := by
  rw [State.dueAt]
  split
  · rename_i h
    exact .inr ⟨mcServes_lt (Bool.and_eq_true_iff.mp h).1, rfl⟩
  · exact .inl rfl

theorem setDue_dueOnly (s : State) {c : Nat} (hc : c < 1024) : DueOnly s (s.setFld (mcPage c) Fld.MC_STATUS_RECAL_DUE 1) := by
  refine ⟨setFld_regsOutOnly .., fun j hj => .setFld (unitPage_stk hj) (unitPage_mc hc) (mcPage_ne_stkPage hc) s (by decide) 1, fun c' hc' => ?_⟩
  by_cases hcc : c = c'
  · subst hcc
    exact (unitPage_mc hc).fld_setFld_other s 1 (by decide)
  · exact (PageKept.setFld (unitPage_mc hc') (unitPage_mc hc) (mcPage_ne hcc) s (f := Fld.MC_STATUS_RECAL_DUE) (by decide) 1).fld
      (unitPage_mc hc') _ (by decide)

theorem dueAt_dueOnly (s : State) (k : Nat) (t : Int) (i : Nat) : DueOnly s (s.dueAt k t i) := by
  obtain h | ⟨hc, h⟩ := dueAt_cases s k t i
  · rw [h]
    exact .refl s
  · rw [h]
    exact setDue_dueOnly s hc

/-- A due channel stays due. -/
theorem dueAt_due {s : State} {c : Nat} (hc : c < 1024) (h : s.fld (mcPage c) Fld.MC_STATUS_RECAL_DUE = 1) (k : Nat) (t : Int) (i : Nat) :
    (s.dueAt k t i).fld (mcPage c) Fld.MC_STATUS_RECAL_DUE = 1 := by
  obtain he | ⟨hi, he⟩ := dueAt_cases s k t i
  · rw [he, h]
  · rw [he]
    by_cases hcc : 32 * k + i = c
    · rw [hcc]
      exact fld_setFld_fits _ _ (by decide)
    · exact ((PageKept.setFld (unitPage_mc hc) (unitPage_mc hi) (mcPage_ne hcc) s (f := Fld.MC_STATUS_RECAL_DUE) (by decide) 1).fld
        (unitPage_mc hc) _ (by decide)).trans h

theorem foldl_dueAt (s : State) (k : Nat) (t : Int) (l : List Nat) : DueOnly s (l.foldl (fun s i => s.dueAt k t i) s) :=
  List.foldlRecOn (motive := DueOnly s) l _ (.refl s) (fun u h i _ => h.trans (dueAt_dueOnly u k t i))

theorem foldl_dueAt_due {s : State} {k i : Nat} {t : Int} (hi : i < 32) (hserves : s.mcServes (32 * k + i) = true)
    (h10 : 10 ≤ (t - (s.chan (32 * k + i)).recalTemp).natAbs) :
    ((List.range 32).foldl (fun s i => s.dueAt k t i) s).fld (mcPage (32 * k + i)) Fld.MC_STATUS_RECAL_DUE = 1 := by
  obtain ⟨l, l', hl⟩ := List.append_of_mem (List.mem_range.mpr hi)
  have hc := mcServes_lt hserves
  rw [hl, List.foldl_append, List.foldl_cons]
  have hpre := foldl_dueAt s k t l
  generalize l.foldl (fun s i => s.dueAt k t i) s = u at hpre
  have hset : (u.dueAt k t i).fld (mcPage (32 * k + i)) Fld.MC_STATUS_RECAL_DUE = 1 := by
    rw [State.dueAt]
    rw [if_pos, fld_setFld_fits _ _ (by decide)]
    rw [hpre.serves, hserves, State.chan, show u.chans = s.chans from (congrArg State.chans hpre.rel :)]
    exact decide_eq_true h10
  exact List.foldlRecOn (motive := fun x => State.fld x (mcPage (32 * k + i)) Fld.MC_STATUS_RECAL_DUE = 1) l' _ hset
    (fun x h j _ => dueAt_due hc h k t j)

theorem tempWritten_regs {s : State} {k : Nat} {t : Int} (hk : k < 32) (hlo : -128 ≤ t) (hhi : t < 128) :
    sext 8 ((s.tempWritten k t).fld (stkPage k) Fld.STK_STATUS_TEMP) = t ∧
    sext 8 ((s.tempWritten k t).fld (stkPage k) Fld.STK_TEMP_MAX_TEMP) = max t (sext 8 (s.fld (stkPage k) Fld.STK_TEMP_MAX_TEMP)) ∧
    (s.tempWritten k t).fld (stkPage k) Fld.STK_STATUS_REFRESH = s.fld (stkPage k) Fld.STK_STATUS_REFRESH ∧
    (s.tempWritten k t).fld (stkPage k) Fld.STK_STATUS_STATE = s.fld (stkPage k) Fld.STK_STATUS_STATE := by
  have hpg := unitPage_stk hk
  have htemp : (s.setFld (stkPage k) Fld.STK_STATUS_TEMP (twos 8 t)).fld (stkPage k) Fld.STK_STATUS_TEMP = twos 8 t :=
    fld_setFld_fits _ _ ⟨by decide, by decide, twos_lt t⟩
  have hmax : (s.setFld (stkPage k) Fld.STK_STATUS_TEMP (twos 8 t)).fld (stkPage k) Fld.STK_TEMP_MAX_TEMP =
    s.fld (stkPage k) Fld.STK_TEMP_MAX_TEMP := hpg.fld_setFld_other _ _ (by decide)
  have hrefresh : (s.setFld (stkPage k) Fld.STK_STATUS_TEMP (twos 8 t)).fld (stkPage k) Fld.STK_STATUS_REFRESH =
    s.fld (stkPage k) Fld.STK_STATUS_REFRESH := hpg.fld_setFld_other _ _ (by decide)
  have hstate : (s.setFld (stkPage k) Fld.STK_STATUS_TEMP (twos 8 t)).fld (stkPage k) Fld.STK_STATUS_STATE =
    s.fld (stkPage k) Fld.STK_STATUS_STATE := hpg.fld_setFld_other _ _ (by decide)
  rw [State.tempWritten]
  rw [hmax]
  split
  · rename_i h
    refine ⟨?_, ?_, ?_, ?_⟩
    · rw [hpg.fld_setFld_other _ _ (by decide), htemp, sext_twos hlo hhi]
    · rw [fld_setFld_fits _ _ ⟨by decide, by decide, twos_lt t⟩, sext_twos hlo hhi]
      omega
    · rw [hpg.fld_setFld_other _ _ (by decide), hrefresh]
    · rw [hpg.fld_setFld_other _ _ (by decide), hstate]
  · rename_i h
    refine ⟨by rw [htemp, sext_twos hlo hhi], ?_, hrefresh, hstate⟩
    rw [hmax]
    omega

theorem tempWritten_regsOutOnly (s : State) (k : Nat) (t : Int) : RegsOutOnly s (s.tempWritten k t) := by
  rw [State.tempWritten]
  split
  · exact (setFld_regsOutOnly ..).trans (setFld_regsOutOnly ..)
  · exact setFld_regsOutOnly ..

theorem tempWritten_pageKept {s : State} {k c : Nat} (hk : k < 32) (hc : c < 1024) (t : Int) : PageKept (mcPage c) s (s.tempWritten k t) := by
  have hset (x : State) (f : Fld) (hf : f.off < 0x1000) (v : Nat) : PageKept (mcPage c) x (x.setFld (stkPage k) f v) :=
    .setFld (unitPage_mc hc) (unitPage_stk hk) (mcPage_ne_stkPage hc).symm x hf v
  rw [State.tempWritten]
  split
  · exact (hset _ _ (by decide) _).trans (hset _ _ (by decide) _)
  · exact hset _ _ (by decide) _

/-- What a sample leaves before the refresh step is chosen. -/
structure TempSeen (s : State) (k : Nat) (t : Int) (u : State) : Prop where
  rel : RegsOutOnly s u
  temp : sext 8 (u.fld (stkPage k) Fld.STK_STATUS_TEMP) = t
  maxTemp : sext 8 (u.fld (stkPage k) Fld.STK_TEMP_MAX_TEMP) = max t (sext 8 (s.fld (stkPage k) Fld.STK_TEMP_MAX_TEMP))
  refresh : u.fld (stkPage k) Fld.STK_STATUS_REFRESH = s.fld (stkPage k) Fld.STK_STATUS_REFRESH
  state : u.fld (stkPage k) Fld.STK_STATUS_STATE = s.fld (stkPage k) Fld.STK_STATUS_STATE
  due : ∀ i < 32, s.mcServes (32 * k + i) = true → 10 ≤ (t - (s.chan (32 * k + i)).recalTemp).natAbs →
    u.fld (mcPage (32 * k + i)) Fld.MC_STATUS_RECAL_DUE = 1

theorem tempSeen_seen {s : State} {k : Nat} {t : Int} (hk : k < 32) (hlo : -128 ≤ t) (hhi : t < 128) :
    TempSeen s k t (s.tempSeen k t) := by
  obtain ⟨htemp, hmax, hrefresh, hstate⟩ := tempWritten_regs (s := s) hk hlo hhi
  have hrel := tempWritten_regsOutOnly s k t
  have hfold := foldl_dueAt (s.tempWritten k t) k t (List.range 32)
  have hpg := unitPage_stk hk
  have hkept := hfold.stackPages k hk
  refine ⟨hrel.trans hfold.rel, ?_, ?_, (hkept.fld hpg _ (by decide)).trans hrefresh, (hkept.fld hpg _ (by decide)).trans hstate,
    fun i hi hserves h10 => foldl_dueAt_due hi ?_ ?_⟩
  · rw [State.tempSeen, hkept.fld hpg _ (by decide), htemp]
  · rw [State.tempSeen, hkept.fld hpg _ (by decide), hmax]
  · have hc := mcServes_lt hserves
    have hmc := tempWritten_pageKept (s := s) hk hc t
    have hstack : (32 * k + i) / 32 = k := by omega
    rw [← hserves, State.mcServes, State.mcServes, State.mcState, State.mcState, hmc.fld (unitPage_mc hc) _ (by decide), hstack, hstate,
      State.trimmed, State.trimmed, State.trimmed, State.trimmed, show (s.tempWritten k t).trim = s.trim from (congrArg State.trim hrel :)]
  · rw [State.chan, show (s.tempWritten k t).chans = s.chans from (congrArg State.chans hrel :)]
    exact h10

/-! ### The refresh step (R313) -/

theorem refreshStep_lt {t : Int} (h : t ≤ 105) : refreshStep t < 3 := by
  simp only [refreshStep]
  split
  · omega
  split
  · omega
  · omega

theorem setRefresh_regsOutOnly (s : State) (k n : Nat) : RegsOutOnly s (s.setRefresh k n) :=
  ((setFld_regsOutOnly ..).trans (setFld_regsOutOnly ..)).trans (State.raise_regsOutOnly ..)

/-- A step in force leaves the channels' pages, and the stack's temperatures. -/
theorem setRefresh_regs {s : State} {k n : Nat} (hk : k < 32) (hn : n < 4) :
    (s.setRefresh k n).fld (stkPage k) Fld.STK_STATUS_REFRESH = n ∧
    (s.setRefresh k n).fld (stkPage k) Fld.STK_STATUS_TEMP = s.fld (stkPage k) Fld.STK_STATUS_TEMP ∧
    (s.setRefresh k n).fld (stkPage k) Fld.STK_TEMP_MAX_TEMP = s.fld (stkPage k) Fld.STK_TEMP_MAX_TEMP ∧
    ∀ c < 1024, PageKept (mcPage c) s (s.setRefresh k n) := by
  have hpg := unitPage_stk hk
  have hraise (x : State) : PageKept (stkPage k) x (x.raise (stkPage k) 16) := .raise hpg x 16
  refine ⟨?_, ?_, ?_, fun c hc => ?_⟩
  · exact ((hraise _).fld hpg _ (by decide)).trans ((hpg.fld_setFld_other _ _ (by decide)).trans (fld_setFld_fits _ _ ⟨by decide, by decide, hn⟩))
  · exact ((hraise _).fld hpg _ (by decide)).trans ((hpg.fld_setFld_other _ _ (by decide)).trans (hpg.fld_setFld_other _ _ (by decide)))
  · exact ((hraise _).fld hpg _ (by decide)).trans ((hpg.fld_setFld_other _ _ (by decide)).trans (hpg.fld_setFld_other _ _ (by decide)))
  · have hset (x : State) (f : Fld) (hf : f.off < 0x1000) (v : Nat) : PageKept (mcPage c) x (x.setFld (stkPage k) f v) :=
      .setFld (unitPage_mc hc) hpg (mcPage_ne_stkPage hc).symm x hf v
    exact ((hset _ _ (by decide) _).trans (hset _ _ (by decide) _)).trans (.raise (unitPage_mc hc) _ 16)

/-- What the choice of a refresh step below the halt keeps. -/
structure StepChosen (k : Nat) (s u : State) : Prop where
  rel : u = { s with regs := u.regs, out := u.out, stks := u.stks }
  temp : u.fld (stkPage k) Fld.STK_STATUS_TEMP = s.fld (stkPage k) Fld.STK_STATUS_TEMP
  maxTemp : u.fld (stkPage k) Fld.STK_TEMP_MAX_TEMP = s.fld (stkPage k) Fld.STK_TEMP_MAX_TEMP
  chans : ∀ c < 1024, PageKept (mcPage c) s u

theorem StepChosen.modStk {k : Nat} {s u : State} (h : StepChosen k s u) (j : Nat) (f : Stack → Stack) : StepChosen k s (u.modStk j f) :=
  ⟨(congrArg (fun x => State.modStk x j f) h.rel :).trans rfl, h.temp, h.maxTemp, fun c hc => (h.chans c hc).trans (.of_regs rfl)⟩

theorem StepChosen.refl (k : Nat) (s : State) : StepChosen k s s := ⟨rfl, rfl, rfl, fun _ _ => .refl s⟩

theorem setRefresh_chosen {k n : Nat} (hk : k < 32) (hn : n < 4) (s : State) : StepChosen k s (s.setRefresh k n) := by
  obtain ⟨-, htemp, hmax, hchans⟩ := setRefresh_regs (s := s) hk hn
  exact ⟨(congrArg (fun x : State => { x with stks := (s.setRefresh k n).stks }) (setRefresh_regsOutOnly s k n) :), htemp, hmax, hchans⟩

theorem refreshChosen_chosen {k : Nat} {t : Int} (hk : k < 32) (h : t ≤ 105) (s : State) : StepChosen k s (s.refreshChosen k t) := by
  have hcur : s.fld (stkPage k) Fld.STK_STATUS_REFRESH < 4 := fld_lt ..
  have hwant := refreshStep_lt h
  rw [State.refreshChosen]
  split
  · exact (setRefresh_chosen hk (by omega) s).modStk ..
  split
  · split
    · exact (setRefresh_chosen hk (by omega) s).modStk ..
    · exact (StepChosen.refl k s).modStk ..
  · exact (StepChosen.refl k s).modStk ..

/-- The step rises at once. -/
theorem refreshChosen_up {s : State} {k : Nat} {t : Int} (hk : k < 32) (h : t ≤ 105)
    (hcur : s.fld (stkPage k) Fld.STK_STATUS_REFRESH < refreshStep t) :
    (s.refreshChosen k t).fld (stkPage k) Fld.STK_STATUS_REFRESH = refreshStep t := by
  have hwant := refreshStep_lt h
  rw [State.refreshChosen, if_pos hcur]
  exact (setRefresh_regs (s := s) hk (by omega)).1

/-- Within 3 °C below its threshold the step holds. -/
theorem refreshChosen_hold {s : State} {k : Nat} {t : Int} (hcur : refreshStep t ≤ s.fld (stkPage k) Fld.STK_STATUS_REFRESH)
    (ht : stepThreshold (s.fld (stkPage k) Fld.STK_STATUS_REFRESH) - 3 < t) :
    (s.refreshChosen k t).fld (stkPage k) Fld.STK_STATUS_REFRESH = s.fld (stkPage k) Fld.STK_STATUS_REFRESH := by
  rw [State.refreshChosen, if_neg (by omega), if_neg (by omega)]
  rfl

/-! ### The thermal halt (R314) -/

/-- A channel's retrain or recalibration is abandoned, and what waited for it stops. -/
def State.abandonAt (s : State) (c : Nat) : State :=
  if s.mcState c = 1 ∨ s.mcState c = 2 then
    ((s.setFld (mcPage c) Fld.MC_STATUS_STATE 0).modChan c (fun x => { x with inWindow := false })).endHeld c 0x0A04
  else s

/-- A stack's channels with their retrains and recalibrations abandoned. -/
def State.haltedChans (s : State) (k : Nat) : State :=
  ((List.range 32).map (fun i => 32 * k + i)).foldl State.abandonAt
    ((s.setFld (stkPage k) Fld.STK_STATUS_STATE 3).raise (stkPage k) 17)

theorem thermalHalt_eq (s : State) (k : Nat) : ∃ w, s.thermalHalt k =
    ((s.haltedChans k).recordError { source := srcOf (stkPage k), cls := 3, code := 0x0A04 }).nextRecal w (k / 2) := ⟨_, rfl⟩

/-- What a thermal halt changes at most. -/
def HaltOnly (s t : State) : Prop := t = { s with
  regs := t.regs, errs := t.errs, pins := t.pins, out := t.out, rings := t.rings,
  parts := t.parts, chans := t.chans, cmds := t.cmds, recalWindow := t.recalWindow }

theorem HaltOnly.trans {s t u : State} (h : HaltOnly s t) (k : HaltOnly t u) : HaltOnly s u :=
  Eq.trans k (congrArg (fun x => { x with
    regs := u.regs, errs := u.errs, pins := u.pins, out := u.out, rings := u.rings,
    parts := u.parts, chans := u.chans, cmds := u.cmds, recalWindow := u.recalWindow }) h)

theorem Reported.haltOnly {s t : State} (h : Reported s t) : HaltOnly s t :=
  (congrArg (fun x : State => { x with chans := t.chans, cmds := t.cmds, recalWindow := t.recalWindow }) h :)

theorem Retrained.haltOnly {s t : State} (h : Retrained s t) : HaltOnly s t :=
  (congrArg (fun x : State => { x with errs := t.errs, pins := t.pins, rings := t.rings, parts := t.parts, cmds := t.cmds }) h :)

theorem ChanCmds.haltOnly {s t : State} (h : ChanCmds s t) : HaltOnly s t :=
  (congrArg (fun x : State => { x with
    regs := t.regs, errs := t.errs, pins := t.pins, out := t.out, rings := t.rings,
    parts := t.parts, recalWindow := t.recalWindow }) h :)

theorem ChanCmds.pageKept {pg : Nat} {s t : State} (h : ChanCmds s t) : PageKept pg s t := .of_regs (congrArg State.regs h :)

theorem abandonAt_haltOnly (s : State) (c : Nat) : HaltOnly s (s.abandonAt c) := by
  rw [State.abandonAt]
  split
  · exact ((setFld_regsOutOnly ..).retrained.trans (Retrained.modChan ..)).haltOnly.trans (endHeld_chanCmds ..).haltOnly
  · rfl

theorem PageKept.modChan {pg : Nat} (s : State) (c : Nat) (f : Chan → Chan) : PageKept pg s (s.modChan c f) := .of_regs rfl

theorem abandonAt_pageKept {pg c : Nat} (hpg : UnitPage pg) (hc : c < 1024) (hne : mcPage c ≠ pg) (s : State) : PageKept pg s (s.abandonAt c) := by
  rw [State.abandonAt]
  split
  · exact ((PageKept.setFld hpg (unitPage_mc hc) hne s (f := Fld.MC_STATUS_STATE) (by decide) 0).trans (.modChan ..)).trans
      (endHeld_chanCmds ..).pageKept
  · exact .refl s

/-- After it the channel neither retrains nor recalibrates. -/
theorem abandonAt_idle {c : Nat} (hc : c < 1024) (s : State) : (s.abandonAt c).mcState c ≠ 1 ∧ (s.abandonAt c).mcState c ≠ 2 := by
  rw [State.abandonAt]
  split
  · have h0 : (((s.setFld (mcPage c) Fld.MC_STATUS_STATE 0).modChan c (fun x => { x with inWindow := false })).endHeld c 0x0A04).mcState c = 0 :=
      ((endHeld_chanCmds ..).pageKept.fld (unitPage_mc hc) _ (by decide)).trans
        ((PageKept.of_regs (t := (s.setFld (mcPage c) Fld.MC_STATUS_STATE 0).modChan c (fun x => { x with inWindow := false })) rfl).fld
          (unitPage_mc hc) _ (by decide) |>.trans (fld_setFld_fits _ _ (by decide)))
    rw [h0]
    decide
  · rename_i h
    exact ⟨fun h1 => h (.inl h1), fun h2 => h (.inr h2)⟩

theorem abandonAt_otherIdle {c c' : Nat} (hc : c < 1024) (hc' : c' < 1024) {s : State} (h : s.mcState c' ≠ 1 ∧ s.mcState c' ≠ 2) :
    (s.abandonAt c).mcState c' ≠ 1 ∧ (s.abandonAt c).mcState c' ≠ 2 := by
  by_cases hcc : c = c'
  · subst hcc
    exact abandonAt_idle hc s
  · have hkept := abandonAt_pageKept (unitPage_mc hc') hc (mcPage_ne hcc) s
    rw [State.mcState, hkept.fld (unitPage_mc hc') _ (by decide)]
    exact h

theorem haltedChans_haltOnly (s : State) (k : Nat) : HaltOnly s (s.haltedChans k) :=
  List.foldlRecOn (motive := HaltOnly s) _ _ ((setFld_regsOutOnly ..).trans (State.raise_regsOutOnly ..)).retrained.haltOnly
    (fun _ h c _ => h.trans (abandonAt_haltOnly _ c))

section
variable {k : Nat} (hk : k < 32)
include hk

theorem haltedChans_stkKept (s : State) : PageKept (stkPage k) ((s.setFld (stkPage k) Fld.STK_STATUS_STATE 3).raise (stkPage k) 17)
    (s.haltedChans k) := by
  refine List.foldlRecOn (motive := PageKept (stkPage k) _) _ _ (.refl _) (fun u h c hc => h.trans (abandonAt_pageKept (unitPage_stk hk) ?_ (mcPage_ne_stkPage ?_) u))
  all_goals
    obtain ⟨i, hi, rfl⟩ := List.mem_map.mp hc
    have := List.mem_range.mp hi
    omega

theorem haltedChans_idle (s : State) {i : Nat} (hi : i < 32) :
    (s.haltedChans k).mcState (32 * k + i) ≠ 1 ∧ (s.haltedChans k).mcState (32 * k + i) ≠ 2 := by
  obtain ⟨l, l', hl⟩ := List.append_of_mem (List.mem_map.mpr ⟨i, List.mem_range.mpr hi, rfl⟩ :
    32 * k + i ∈ (List.range 32).map (fun i => 32 * k + i))
  have hlt (c : Nat) (hc : c ∈ l') : c < 1024 := by
    have hmem : c ∈ (List.range 32).map (fun i => 32 * k + i) := by
      rw [hl]
      exact List.mem_append_right _ (List.mem_cons_of_mem _ hc)
    obtain ⟨j, hj, rfl⟩ := List.mem_map.mp hmem
    have := List.mem_range.mp hj
    omega
  rw [State.haltedChans, hl, List.foldl_append, List.foldl_cons]
  exact List.foldlRecOn (motive := fun u => State.mcState u (32 * k + i) ≠ 1 ∧ State.mcState u (32 * k + i) ≠ 2) l' _
    (abandonAt_idle (by omega) _) (fun u h c hc => abandonAt_otherIdle (hlt c hc) (by omega) h)

/-- What a stack's thermal halt leaves. -/
structure Halted (s u : State) (k : Nat) : Prop where
  rel : HaltOnly s u
  state : u.fld (stkPage k) Fld.STK_STATUS_STATE = 3
  temp : u.fld (stkPage k) Fld.STK_STATUS_TEMP = s.fld (stkPage k) Fld.STK_STATUS_TEMP
  maxTemp : u.fld (stkPage k) Fld.STK_TEMP_MAX_TEMP = s.fld (stkPage k) Fld.STK_TEMP_MAX_TEMP
  idle : ∀ i < 32, u.mcState (32 * k + i) ≠ 1 ∧ u.mcState (32 * k + i) ≠ 2

theorem thermalHalt_halted (s : State) : Halted s (s.thermalHalt k) k := by
  have hpg := unitPage_stk hk
  have hreport := recordError_reported (s.haltedChans k) { source := srcOf (stkPage k), cls := 3, code := 0x0A04 }
  have hkept (pg : Nat) (hpg : UnitPage pg) := recordError_pageKept hpg (s.haltedChans k) { source := srcOf (stkPage k), cls := 3, code := 0x0A04 }
  obtain ⟨w, heq⟩ := thermalHalt_eq s k
  rw [heq]
  generalize (s.haltedChans k).recordError { source := srcOf (stkPage k), cls := 3, code := 0x0A04 } = x at hreport hkept
  have hstk : PageKept (stkPage k) ((s.setFld (stkPage k) Fld.STK_STATUS_STATE 3).raise (stkPage k) 17) x :=
    (haltedChans_stkKept hk s).trans (hkept _ hpg)
  have hfld (f : Fld) (hf : 0x100 ≤ f.off ∧ f.off < 0x1000) : x.fld (stkPage k) f = (s.setFld (stkPage k) Fld.STK_STATUS_STATE 3).fld (stkPage k) f :=
    (hstk.fld hpg f hf).trans ((PageKept.raise hpg _ 17).fld hpg f hf)
  have hhalt : x.fld (stkPage k) Fld.STK_STATUS_STATE = 3 := (hfld _ (by decide)).trans (fld_setFld_fits _ _ (by decide))
  have hnext : PageKept (stkPage k) x (x.nextRecal w (k / 2)) :=
    nextRecal_pageKept hpg _ _ _ (fun c hserves _ _ => mcPage_ne_stkPage (mcServes_lt hserves))
  refine ⟨((haltedChans_haltOnly s k).trans hreport.haltOnly).trans (nextRecal_retrained ..).haltOnly, (hnext.fld hpg _ (by decide)).trans hhalt,
    ?_, ?_, fun i hi => ?_⟩
  · exact (hnext.fld hpg _ (by decide)).trans ((hfld _ (by decide)).trans (hpg.fld_setFld_other _ _ (by decide)))
  · exact (hnext.fld hpg _ (by decide)).trans ((hfld _ (by decide)).trans (hpg.fld_setFld_other _ _ (by decide)))
  · have hc : 32 * k + i < 1024 := by omega
    have hmc : PageKept (mcPage (32 * k + i)) x (x.nextRecal w (k / 2)) := by
      refine nextRecal_pageKept (unitPage_mc hc) _ _ _ (fun c hserves _ _ heq => ?_)
      have hcc : c = 32 * k + i := Decidable.byContradiction (fun hne => mcPage_ne hne heq)
      have hstack : (32 * k + i) / 32 = k := by omega
      rw [hcc, State.mcServes, hstack, hhalt, Bool.and_eq_true] at hserves
      exact absurd hserves.2 (by decide)
    rw [State.mcState, hmc.fld (unitPage_mc hc) _ (by decide), (hkept _ (unitPage_mc hc)).fld (unitPage_mc hc) _ (by decide)]
    exact haltedChans_idle hk s hi

end

/-! ### A sample -/

/-- A sample at or below the halt. -/
theorem stackTempSample_cool {s : State} {k : Nat} {t : Int} (hk : k < 32) (htrim : s.trimmed 9 k = false) (h : t ≤ 105) :
    stackTempSample s k t = (s.tempSeen k t).refreshChosen k t := by
  rw [stackTempSample_eq hk htrim, if_neg (by rw [refreshStep_eq_three]; omega)]

/-- A sample above it. -/
theorem stackTempSample_hot {s : State} {k : Nat} {t : Int} (hk : k < 32) (htrim : s.trimmed 9 k = false) (h : 105 < t) :
    stackTempSample s k t = s.tempSeen k t ∧ s.fld (stkPage k) Fld.STK_STATUS_STATE = 3 ∨
    stackTempSample s k t = (s.tempSeen k t).thermalHalt k := by
  rw [stackTempSample_eq hk htrim, if_pos ((refreshStep_eq_three t).mpr h)]
  by_cases hst : s.fld (stkPage k) Fld.STK_STATUS_STATE = 3
  · rw [if_pos hst]
    exact .inl ⟨rfl, hst⟩
  · rw [if_neg hst]
    exact .inr rfl

/-- What a sample at or below the halt leaves. -/
theorem sample_cool {s : State} {k : Nat} {t : Int} (hk : k < 32) (htrim : s.trimmed 9 k = false) (hlo : -128 ≤ t) (h : t ≤ 105) :
    StepChosen k (s.tempSeen k t) (stackTempSample s k t) ∧ (stackTempSample s k t) = { s with
      regs := (stackTempSample s k t).regs, out := (stackTempSample s k t).out, stks := (stackTempSample s k t).stks } := by
  rw [stackTempSample_cool hk htrim h]
  have hchosen := refreshChosen_chosen hk h (s.tempSeen k t)
  have hseen := tempSeen_seen (s := s) hk hlo (by omega)
  refine ⟨hchosen, ?_⟩
  have hrel := hchosen.rel
  generalize (s.tempSeen k t).refreshChosen k t = u at hrel
  exact hrel.trans (congrArg (fun x : State => { x with regs := u.regs, out := u.out, stks := u.stks }) hseen.rel :)

/-- What a sample above it leaves. -/
theorem sample_hot {s : State} {k : Nat} {t : Int} (hk : k < 32) (htrim : s.trimmed 9 k = false) (hlo : -128 ≤ t) (hhi : t < 128) (h : 105 < t) :
    HaltOnly s (stackTempSample s k t) ∧ sext 8 ((stackTempSample s k t).fld (stkPage k) Fld.STK_STATUS_TEMP) = t ∧
    sext 8 ((stackTempSample s k t).fld (stkPage k) Fld.STK_TEMP_MAX_TEMP) = max t (sext 8 (s.fld (stkPage k) Fld.STK_TEMP_MAX_TEMP)) ∧
    (stackTempSample s k t).fld (stkPage k) Fld.STK_STATUS_STATE = 3 ∧
    (s.fld (stkPage k) Fld.STK_STATUS_STATE ≠ 3 → ∀ i < 32, (stackTempSample s k t).mcState (32 * k + i) ≠ 1 ∧
      (stackTempSample s k t).mcState (32 * k + i) ≠ 2) := by
  have hseen := tempSeen_seen (s := s) hk hlo hhi
  obtain ⟨heq, hst⟩ | heq := stackTempSample_hot hk htrim h
  · rw [heq]
    exact ⟨hseen.rel.retrained.haltOnly, hseen.temp, hseen.maxTemp, hseen.state.trans hst, fun hn => absurd hst hn⟩
  · have hhalt := thermalHalt_halted hk (s.tempSeen k t)
    rw [heq]
    exact ⟨hseen.rel.retrained.haltOnly.trans hhalt.rel, by rw [hhalt.temp, hseen.temp], by rw [hhalt.maxTemp, hseen.maxTemp],
      hhalt.state, fun _ => hhalt.idle⟩

/-- The waits observed after a change of registers and stacks are those observed before it. -/
theorem observe_cmds_stks (s : State) (r : List (Nat × Word64)) (o : List Out) (k : List (Nat × Stack)) :
    ({ s with regs := r, out := o, stks := k }).observe.cmds = s.observe.cmds := rfl

/-- Settles O35: held writes end with their channel, a fresh channel is one whose timer restarts, and a sample's branches are followed
one by one. -/
theorem channelsAndTemperature : Obligations.ChannelsAndTemperature := by
  unfold Obligations.ChannelsAndTemperature
  refine ⟨?_, ?_⟩
  · intro c s pg fresh hc
    have hlen (x : State) (h : x.cmds = s.cmds) : x.observe.cmds.length = s.cmds.length := by
      obtain ⟨f, hf, -⟩ := observe_cmds x
      rw [hf, List.length_map, h]
    refine ⟨fun h us lanes => ?_, fun h us lanes => ?_, fun h => ?_, fun h h0 hdue => ?_, fun h => ?_, fun e => ⟨fun h => ?_, fun h => ?_⟩⟩
    · obtain ⟨hfresh, hcount, hlong, hlanes, hmem, hcmds, hrings⟩ := retrainDone_passed hc h us lanes
      exact ⟨_, done_eq rfl, ⟨hfresh.idle, hfresh.due, hfresh.last, hmem, hlen _ hcmds, hrings⟩, hcount, hlong, hlanes⟩
    · obtain ⟨hout, hbad, hmem, hends⟩ := retrainDone_failed hc h us lanes
      exact ⟨_, done_eq rfl, hout, hbad, hmem, fun r q f hheld hat hph hst => endedWith_observe (hends r q f hheld hat hph hst)⟩
    · exact done_eq (if_pos h)
    · exact done_eq (if_pos (by rw [h, h0, hdue]; rfl))
    · obtain ⟨hfresh, hrel⟩ := recalDone_fresh hc h
      exact ⟨_, done_eq rfl, hfresh.idle, hfresh.due, hfresh.last, (congrArg State.mem hrel :), hlen _ (congrArg State.cmds hrel :),
        (congrArg State.rings hrel :)⟩
    · exact done_eq (if_neg (by rw [show (s.chan c).remaps.any (fun f => f.idx == e && f.copying) = false from h]; decide))
    · exact done_eq (if_pos h)
  · intro k deg s pg cur hk htrim hlo hhi
    have hseen := tempSeen_seen (s := s) hk hlo hhi
    by_cases hdeg : deg ≤ 105
    · obtain ⟨hchosen, hrel⟩ := sample_cool hk htrim hlo hdeg
      have heq := stackTempSample_cool hk htrim hdeg
      refine ⟨_, done_eq rfl, (congrArg (sext 8) hchosen.temp).trans hseen.temp, (congrArg (sext 8) hchosen.maxTemp).trans hseen.maxTemp,
        (congrArg State.mem hrel :), (congrArg State.shape hrel :), (congrArg State.frames hrel :), fun _ => ⟨?_, (congrArg State.rings hrel :)⟩,
        fun h => absurd hdeg (by omega), fun _ h => ?_, fun _ h h' => ?_, fun i hi _ hserves h10 => ?_⟩
      · rw [hrel]
        exact observe_cmds_stks ..
      · refine (congrArg (fun x => State.fld x (stkPage k) Fld.STK_STATUS_REFRESH) heq).trans (refreshChosen_up hk hdeg ?_)
        rw [hseen.refresh]
        exact h
      · refine (congrArg (fun x => State.fld x (stkPage k) Fld.STK_STATUS_REFRESH) heq).trans ((refreshChosen_hold ?_ ?_).trans hseen.refresh)
        · rw [hseen.refresh]
          exact h
        · rw [hseen.refresh]
          exact h'
      · have hc := mcServes_lt hserves
        exact ((hchosen.chans _ hc).fld (unitPage_mc hc) _ (by decide)).trans (hseen.due i hi hserves h10)
    · obtain ⟨hrel, htemp, hmax, hstate, hidle⟩ := sample_hot hk htrim hlo hhi (by omega)
      exact ⟨_, done_eq rfl, htemp, hmax, (congrArg State.mem hrel :), (congrArg State.shape hrel :), (congrArg State.frames hrel :),
        fun h => absurd h hdeg, fun _ => ⟨hstate, hidle⟩, fun h => absurd h hdeg, fun h => absurd h hdeg, fun _ _ h => absurd h hdeg⟩

end Sys2Proof.Machine
end

section
/-! HBM parity errors (R310 to R312, R317, R322 to R324), O36. -/
namespace Sys2Proof.Machine

open Sys2Proof

/-! ### The start of a retrain (R317) -/

/-- What the start of a retrain leaves of a channel and of its page. -/
structure RetrainBegun (c : Nat) (s t : State) : Prop where
  rel : Retrained s t
  state : t.mcState c = 1
  fld : ∀ f : Fld, 0x100 < f.off → f.off < 0x1000 → t.fld (mcPage c) f = s.fld (mcPage c) f
  held : (t.chan c).heldWrite = (s.chan c).heldWrite

theorem chan_modChan_held {s : State} (c c' : Nat) (f : Chan → Chan) (hf : ∀ x, (f x).heldWrite = x.heldWrite) :
    ((s.modChan c' f).chan c).heldWrite = (s.chan c).heldWrite := by
  rw [State.chan, State.modChan]
  by_cases hc : c = c'
  · subst hc
    rw [SMap.getD_put_same, hf]
  · rw [SMap.getD_put_other _ _ _ hc]
    rfl

theorem nextRecal_held (s : State) (w : Bool) (d c : Nat) : ((s.nextRecal w d).chan c).heldWrite = (s.chan c).heldWrite := by
  unfold State.nextRecal
  split
  · obtain h | ⟨c', i, -, -, -, h⟩ := windowRecal_cases s d
    · rw [h]
    · rw [h]
      exact chan_modChan_held c c' _ (fun _ => rfl)
  · rfl

theorem startRetrain_begun {s : State} {c : Nat} (hc : c < 1024) (h : s.mcState c ≠ 3) : RetrainBegun c s (s.startRetrain c) := by
  have hpg := unitPage_mc hc
  rw [State.startRetrain]
  split
  · rename_i h13
    exact ⟨.refl s, h13.resolve_right h, fun _ _ _ => rfl, rfl⟩
  · dsimp only
    have hrel : Retrained s (((s.setFld (mcPage c) Fld.MC_STATUS_STATE 1).raise (mcPage c) 16).modChan c (fun x => { x with inWindow := false })) :=
      ((setFld_regsOutOnly ..).trans (State.raise_regsOutOnly ..)).retrained.trans (.modChan ..)
    have hkept : PageKept (mcPage c) (s.setFld (mcPage c) Fld.MC_STATUS_STATE 1)
        (((s.setFld (mcPage c) Fld.MC_STATUS_STATE 1).raise (mcPage c) 16).modChan c (fun x => { x with inWindow := false })) :=
      (PageKept.raise hpg _ 16).trans (.of_regs rfl)
    have hheld : ((((s.setFld (mcPage c) Fld.MC_STATUS_STATE 1).raise (mcPage c) 16).modChan c (fun x => { x with inWindow := false })).chan
        c).heldWrite = (s.chan c).heldWrite := by
      refine (chan_modChan_held c c (fun x => { x with inWindow := false }) (fun _ => rfl)).trans ?_
      rw [State.chan, State.raise_chans, State.setFld_chans, State.chan]
    generalize ((s.setFld (mcPage c) Fld.MC_STATUS_STATE 1).raise (mcPage c) 16).modChan c (fun x => { x with inWindow := false }) = x
      at hrel hkept hheld
    have hone : x.mcState c = 1 := (hkept.fld hpg _ (by decide)).trans (fld_setFld_fits _ _ (by decide))
    have hnext : PageKept (mcPage c) x (x.nextRecal (s.chan c).inWindow (c / 64)) := by
      refine nextRecal_pageKept hpg _ _ _ (fun c' _ hidle _ heq => ?_)
      rw [State.mcState, heq] at hidle
      exact absurd (hone.symm.trans hidle) (by decide)
    refine ⟨hrel.trans (nextRecal_retrained ..), (hnext.fld hpg _ (by decide)).trans hone, fun f hlo hhi => ?_, (nextRecal_held ..).trans hheld⟩
    rw [hnext.fld hpg f ⟨by omega, hhi⟩, hkept.fld hpg f ⟨by omega, hhi⟩]
    exact hpg.fld_setFld_other _ _ (.inl (Nat.ne_of_gt hlo))

/-- The channel's re-read and resend events of the last millisecond, with `n` at `us`. -/
def State.eventsAt (s : State) (c us n : Nat) : List Nat :=
  (s.chan c).events.filter (fun t => decide (us < t + 1000)) ++ List.replicate n us

theorem chanEvents_eq (s : State) (c us n : Nat) : s.chanEvents c us n =
    if 16 ≤ (s.eventsAt c us n).length then (s.modChan c (fun x => { x with events := s.eventsAt c us n })).startRetrain c
    else s.modChan c (fun x => { x with events := s.eventsAt c us n }) := rfl

/-- What events on a channel leave. -/
structure EventsCounted (c us n : Nat) (s t : State) : Prop where
  rel : Retrained s t
  state : t.mcState c = if 16 ≤ (s.eventsAt c us n).length then 1 else s.mcState c
  fld : ∀ f : Fld, 0x100 < f.off → f.off < 0x1000 → t.fld (mcPage c) f = s.fld (mcPage c) f

theorem chanEvents_counted {s : State} {c : Nat} (hc : c < 1024) (h : s.mcState c ≠ 3) (us n : Nat) :
    EventsCounted c us n s (s.chanEvents c us n) := by
  rw [chanEvents_eq]
  by_cases h16 : 16 ≤ (s.eventsAt c us n).length
  · rw [if_pos h16]
    have hbegun := startRetrain_begun (s := s.modChan c (fun x => { x with events := s.eventsAt c us n })) hc h
    exact ⟨(Retrained.modChan ..).trans hbegun.rel, by rw [if_pos h16]; exact hbegun.state, hbegun.fld⟩
  · rw [if_neg h16]
    exact ⟨Retrained.modChan .., by rw [if_neg h16]; rfl, fun _ _ _ => rfl⟩

theorem EventsCounted.serves {c us n : Nat} {s t : State} (h : EventsCounted c us n s t) (hs : s.mcState c ≠ 3) : t.mcState c ≠ 3 := by
  rw [h.state]
  split
  · decide
  · exact hs

/-! ### The row of a failing access (R322 to R324) -/

/-- What the handling of a failing row changes at most. -/
def RowWork (s t : State) : Prop := t = { s with
  regs := t.regs, errs := t.errs, pins := t.pins, out := t.out, chans := t.chans, frames := t.frames }

/-- The handling of a failing row, with the pages' fields it leaves. -/
structure RowDone (s t : State) : Prop where
  rel : RowWork s t
  kept : ∀ pg, UnitPage pg → PageKept pg s t

theorem RowDone.refl (s : State) : RowDone s s := ⟨rfl, fun _ _ => .refl s⟩

theorem RowDone.trans {s t u : State} (h : RowDone s t) (k : RowDone t u) : RowDone s u :=
  ⟨Eq.trans k.rel (congrArg (fun x => { x with
    regs := u.regs, errs := u.errs, pins := u.pins, out := u.out, chans := u.chans, frames := u.frames }) h.rel),
    fun pg hpg => (h.kept pg hpg).trans (k.kept pg hpg)⟩

theorem ErrOnly.rowDone {s t : State} (h : ErrOnly s t) : RowDone s t :=
  ⟨(congrArg (fun x : State => { x with chans := t.chans, frames := t.frames }) h.eq :), fun _ hpg => h.pageKept hpg⟩

theorem RowDone.modChan (s : State) (c : Nat) (f : Chan → Chan) : RowDone s (s.modChan c f) := ⟨rfl, fun _ _ => .of_regs rfl⟩

theorem RowDone.setFrame (s : State) (t f : Nat) (x : Frame) : RowDone s (s.setFrame t f x) := ⟨rfl, fun _ _ => .of_regs rfl⟩

theorem RowDone.queueNvm (s : State) (k x : Nat) : RowDone s (s.queueNvm k x) := ⟨rfl, fun _ _ => .of_regs rfl⟩

theorem RegsOutOnly.rowWork {s t : State} (h : RegsOutOnly s t) : RowWork s t :=
  (congrArg (fun x : State => { x with errs := t.errs, pins := t.pins, chans := t.chans, frames := t.frames }) h :)

theorem RowDone.raise (s : State) (c b : Nat) : RowDone s (s.raise (mcPage c) b) :=
  ⟨(State.raise_regsOutOnly s (mcPage c) b).rowWork, fun _ hpg => .raise hpg s b⟩

theorem retireFrame_done (s : State) (c t f l bytes : Nat) : RowDone s (s.retireFrame c t f l bytes) := by
  rw [State.retireFrame]
  split
  · exact .refl s
  · exact ((RowDone.setFrame ..).trans (.raise ..)).trans (State.recordError_errOnly _ (Nat.le_refl 1)).rowDone

theorem retireRow_done (s : State) (c l bytes : Nat) : RowDone s (s.retireRow c l bytes) := by
  rw [State.retireRow]
  exact (List.foldlRecOn (motive := RowDone s) _ _ (.modChan ..) (fun _ h u _ => h.trans (retireFrame_done ..))).trans (.queueNvm ..)

theorem rowFails_done (s : State) (c l bytes : Nat) : RowDone s (s.rowFails c l bytes) := by
  have hremapped (x : State) (p : Option Nat) (a b : Nat) : RowDone x (x.recordError
      { source := srcOf (mcPage c), cls := 1, code := 0x0A0C, part := p, d0 := a, d1 := b }) :=
    (State.recordError_errOnly _ (Nat.le_refl 1)).rowDone
  unfold State.rowFails
  split
  · exact .refl s
  extract_lets row x owner remapped
  split
  · split
    · exact (RowDone.modChan ..).trans (hremapped ..)
    · exact retireRow_done ..
  · split
    · extract_lets y
      split
      · exact (RowDone.modChan ..).trans (hremapped ..)
      · exact (RowDone.modChan ..).trans (retireRow_done ..)
    · exact retireRow_done ..

/-! ### Uncorrectable data (R311) -/

/-- The counts of an uncorrectable read access of the channel. -/
theorem chanBad_counted {s : State} {c : Nat} (hc : c < 1024) (h : s.mcState c ≠ 3) (addr bytes us : Nat) :
    (s.chanBad c addr bytes us).fld (mcPage c) Fld.MC_PARITY_UNCORRECTABLE = satAdd 32 (s.fld (mcPage c) Fld.MC_PARITY_UNCORRECTABLE) 1 ∧
    (s.chanBad c addr bytes us).mem = s.mem ∧ (s.chanBad c addr bytes us).bad = s.bad ∧ (s.chanBad c addr bytes us).cmds = s.cmds := by
  have hpg := unitPage_mc hc
  rw [State.chanBad]
  generalize hx : (((s.addFld (mcPage c) Fld.MC_PARITY_UNCORRECTABLE 1).setFld (mcPage c) Fld.MC_LAST_ERR_CH_ADDR (addr / 64)).setFld (mcPage c)
    Fld.MC_LAST_ERR_BYTES (maskOf 8 (fun l => bytes / 2 ^ (8 * l) % 256 != 0))).setBit (mcPage c) Fld.MC_LAST_ERR_WRITE false = x
  have hrel : RegsOutOnly s x := by
    rw [← hx]
    exact ((setFld_regsOutOnly ..).trans (setFld_regsOutOnly ..)).trans ((setFld_regsOutOnly ..).trans (setFld_regsOutOnly ..))
  have hcount : x.fld (mcPage c) Fld.MC_PARITY_UNCORRECTABLE = satAdd 32 (s.fld (mcPage c) Fld.MC_PARITY_UNCORRECTABLE) 1 := by
    rw [← hx, State.setBit, hpg.fld_setFld_other _ _ (by decide), hpg.fld_setFld_other _ _ (by decide), hpg.fld_setFld_other _ _ (by decide)]
    exact fld_setFld_fits _ _ ⟨by decide, by decide, Nat.lt_of_le_of_lt (Nat.min_le_right ..) (by decide)⟩
  have hstate : x.mcState c = s.mcState c := by
    rw [← hx, State.mcState, State.setBit, hpg.fld_setFld_other _ _ (by decide), hpg.fld_setFld_other _ _ (by decide),
      hpg.fld_setFld_other _ _ (by decide), State.addFld, hpg.fld_setFld_other _ _ (by decide)]
    rfl
  have hevents := chanEvents_counted hc (hstate ▸ h) us 2
  have hrow := rowFails_done (x.chanEvents c us 2) c addr bytes
  refine ⟨((hrow.kept _ hpg).fld hpg _ (by decide)).trans ((hevents.fld _ (by decide) (by decide)).trans hcount), ?_, ?_, ?_⟩
  · exact ((congrArg State.mem hrow.rel :)).trans (((congrArg State.mem hevents.rel :)).trans (congrArg State.mem hrel :))
  · exact ((congrArg State.bad hrow.rel :)).trans (((congrArg State.bad hevents.rel :)).trans (congrArg State.bad hrel :))
  · exact ((congrArg State.cmds hrow.rel :)).trans (((congrArg State.cmds hevents.rel :)).trans (congrArg State.cmds hrel :))

/-! ### Accesses -/

/-- The registers of a write that failed. -/
def State.lastWrite (s : State) (c : Nat) (a : HbmAccess) : State :=
  ((s.setFld (mcPage c) Fld.MC_LAST_ERR_CH_ADDR (a.addr / 64)).setFld (mcPage c) Fld.MC_LAST_ERR_BYTES
    (maskOf 8 (fun l => a.bytes / 2 ^ (8 * l) % 256 != 0))).setBit (mcPage c) Fld.MC_LAST_ERR_WRITE true

/-- The bytes of a failed read, uncorrectable. -/
def State.nowBad (s : State) (c : Nat) (a : HbmAccess) : State :=
  { s with bad := ((bitList 64 a.bytes).filterMap (fun i => s.unplace? c (a.addr + i))).filter (fun b => !s.bad.contains b) ++ s.bad }

/-- The end of the command that read them, as it stood when the read failed. -/
def State.endReader (s : State) (who : Option InFlight) : State :=
  match who with
  | some f => if f.phase = Phase.started then s.endCmd f.ring f.seq 0xF001 f.good else s
  | none => s

section
variable {s : State} {c : Nat} {a : HbmAccess} (hc : c < 1024) (hst : s.mcState c ≠ 3) (ho : a.odecc = 0)
include hc hst ho

theorem hbmAccess_sound (hf : a.fails = 0) : hbmAccessComplete s c a = s := by
  rw [hbmAccessComplete, if_neg (by simp [hst]; omega), if_pos ho]
  exact if_pos hf

/-- A read that a re-read cures (R311). -/
theorem hbmAccess_reread (hw : a.write = false) (h0 : 0 < a.fails) (h3 : a.fails < 3) : ∃ e : ErrInfo, e.cls = 0 ∧ hbmAccessComplete s c a =
    ((s.addFld (mcPage c) Fld.MC_PARITY_REREAD_OK 1).chanEvents c a.us a.fails).recordError e := by
  refine ⟨{ source := srcOf (mcPage c), cls := 0, code := 0x0A0A, part := s.setPart? (s.chanSet c), d0 := a.addr, d1 := a.bytes }, rfl, ?_⟩
  rw [hbmAccessComplete, if_neg (by simp [hst]; omega), if_pos ho]
  dsimp only
  rw [if_neg (by omega), hw, if_neg (by decide), if_pos h3]

/-- A write that fails three times, with the registers that hold what failed and the command that waits (R312). -/
theorem hbmAccess_held (hw : a.write = true) (h3 : a.fails = 3) : hbmAccessComplete s c a =
    (((s.chanEvents c a.us 2).lastWrite c a).modChan c (fun x => { x with heldWrite := true, heldCmds := a.cmd.toList ++ x.heldCmds })).startRetrain
      c := by
  rw [hbmAccessComplete, if_neg (by simp [hst]; omega), if_pos ho]
  dsimp only
  rw [h3, if_neg (by decide), if_pos hw, if_pos (by decide)]
  rfl

/-- A read that fails three times (R311). -/
theorem hbmAccess_lost (hw : a.write = false) (h3 : a.fails = 3) : ∃ e : ErrInfo, e.cls = 1 ∧ hbmAccessComplete s c a =
    (((s.nowBad c a).recordError e).endReader (a.cmd.bind (fun q => s.cmdAt? q.1 q.2))).chanBad c a.addr a.bytes a.us := by
  rw [hbmAccessComplete, if_neg (by simp [hst]; omega), if_pos ho]
  dsimp only
  rw [h3, if_neg (by decide), hw, if_neg (by decide), if_neg (by decide)]
  refine ⟨_, ?_, rfl⟩
  rfl

end

/-- Waits observed after a change of registers, channels and the windows of recalibration are those observed before it. -/
theorem observe_cmds_retrained {s t : State} (h : Retrained s t) : t.observe.cmds = s.observe.cmds := by
  rw [h]
  rfl

theorem observe_cmds_errOnly {s t : State} (h : ErrOnly s t) : t.observe.cmds = s.observe.cmds := by
  rw [h.eq]
  rfl

theorem endReader_cmds_only (s : State) (who : Option InFlight) :
    s.endReader who = { s with cmds := (s.endReader who).cmds } := by
  unfold State.endReader
  split
  · split
    · rfl
    · rfl
  · rfl

section
variable {s : State} {c : Nat} {a : HbmAccess} (hc : c < 1024) (hst : s.mcState c ≠ 3) (ho : a.odecc = 0)
include hc hst ho

/-- A cured read: its count, and a retrain at the sixteenth event. -/
theorem hbmAccess_reread_counts (hw : a.write = false) (h0 : 0 < a.fails) (h3 : a.fails < 3) :
    (hbmAccessComplete s c a).fld (mcPage c) Fld.MC_PARITY_REREAD_OK = satAdd 32 (s.fld (mcPage c) Fld.MC_PARITY_REREAD_OK) 1 ∧
    (hbmAccessComplete s c a).mcState c = (if 16 ≤ (s.eventsAt c a.us a.fails).length then 1 else s.mcState c) ∧
    ∃ t, Retrained s t ∧ ErrOnly t (hbmAccessComplete s c a) := by
  have hpg := unitPage_mc hc
  obtain ⟨e, hcls, heq⟩ := hbmAccess_reread hc hst ho hw h0 h3
  rw [heq]
  have hstate : (s.addFld (mcPage c) Fld.MC_PARITY_REREAD_OK 1).mcState c = s.mcState c := hpg.fld_setFld_other _ _ (by decide)
  have hcount : (s.addFld (mcPage c) Fld.MC_PARITY_REREAD_OK 1).fld (mcPage c) Fld.MC_PARITY_REREAD_OK =
      satAdd 32 (s.fld (mcPage c) Fld.MC_PARITY_REREAD_OK) 1 :=
    fld_setFld_fits _ _ ⟨by decide, by decide, Nat.lt_of_le_of_lt (Nat.min_le_right ..) (by decide)⟩
  have hrel : Retrained s (s.addFld (mcPage c) Fld.MC_PARITY_REREAD_OK 1) := (State.addFld_regsOutOnly ..).retrained
  have hchan : (s.addFld (mcPage c) Fld.MC_PARITY_REREAD_OK 1).eventsAt c a.us a.fails = s.eventsAt c a.us a.fails := by
    rw [State.eventsAt, State.eventsAt, State.chan, State.addFld_chans, State.chan]
  generalize s.addFld (mcPage c) Fld.MC_PARITY_REREAD_OK 1 = x at hstate hcount hrel hchan
  have hevents := chanEvents_counted hc (hstate ▸ hst) a.us a.fails
  have herr := State.recordError_errOnly (x.chanEvents c a.us a.fails) (e := e) (by omega)
  have hkept := herr.pageKept hpg
  refine ⟨(hkept.fld hpg _ (by decide)).trans ((hevents.fld _ (by decide) (by decide)).trans hcount), ?_, _, hrel.trans hevents.rel, herr⟩
  exact (hkept.fld hpg _ (by decide)).trans (by rw [← hchan, ← hstate]; exact hevents.state)

/-- A failed write: the channel retrains and holds it. -/
theorem hbmAccess_held_retrains (hw : a.write = true) (h3 : a.fails = 3) :
    (hbmAccessComplete s c a).mcState c = 1 ∧ ((hbmAccessComplete s c a).chan c).heldWrite = true ∧ Retrained s (hbmAccessComplete s c a) := by
  have hpg := unitPage_mc hc
  rw [hbmAccess_held hc hst ho hw h3]
  have hevents := chanEvents_counted hc hst a.us 2
  have hserves := hevents.serves hst
  have hrel := hevents.rel
  generalize s.chanEvents c a.us 2 = x at hserves hrel
  have hstate : (x.lastWrite c a).mcState c = x.mcState c := by
    rw [State.lastWrite, State.setBit, State.mcState, hpg.fld_setFld_other _ _ (by decide), hpg.fld_setFld_other _ _ (by decide),
      hpg.fld_setFld_other _ _ (by decide), State.mcState]
  have hlast : Retrained x (x.lastWrite c a) := (((setFld_regsOutOnly ..).trans (setFld_regsOutOnly ..)).trans (setFld_regsOutOnly ..)).retrained
  generalize x.lastWrite c a = y at hstate hlast
  have hbegun := startRetrain_begun (s := y.modChan c (fun x => { x with heldWrite := true, heldCmds := a.cmd.toList ++ x.heldCmds })) hc
    (hstate ▸ hserves)
  refine ⟨hbegun.state, hbegun.held.trans ?_, ((hrel.trans hlast).trans (.modChan ..)).trans hbegun.rel⟩
  rw [State.chan, State.modChan, SMap.getD_put_same]

/-- A lost read: counted, its bytes uncorrectable and its command ended. -/
theorem hbmAccess_lost_ends (hw : a.write = false) (h3 : a.fails = 3) :
    (hbmAccessComplete s c a).fld (mcPage c) Fld.MC_PARITY_UNCORRECTABLE = satAdd 32 (s.fld (mcPage c) Fld.MC_PARITY_UNCORRECTABLE) 1 ∧
    (hbmAccessComplete s c a).bad = (s.nowBad c a).bad ∧ (hbmAccessComplete s c a).mem = s.mem ∧
    ∀ r q f, a.cmd = some (r, q) → s.cmdAt? r q = some f → f.phase = .started → (hbmAccessComplete s c a).endedWith r q 0xF001 f.good := by
  have hpg := unitPage_mc hc
  obtain ⟨e, hcls, heq⟩ := hbmAccess_lost hc hst ho hw h3
  rw [heq]
  have herr := State.recordError_errOnly (s.nowBad c a) (e := e) (by omega)
  have hkept : PageKept (mcPage c) s ((s.nowBad c a).recordError e) := (PageKept.of_regs (s := s) (t := s.nowBad c a) rfl).trans (herr.pageKept hpg)
  have hcmds : ((s.nowBad c a).recordError e).cmds = s.cmds := (congrArg State.cmds herr.eq :)
  have hbad : ((s.nowBad c a).recordError e).bad = (s.nowBad c a).bad := (congrArg State.bad herr.eq :)
  have hmem : ((s.nowBad c a).recordError e).mem = s.mem := (congrArg State.mem herr.eq :)
  generalize (s.nowBad c a).recordError e = x at hkept hcmds hbad hmem
  have hreader := endReader_cmds_only x (a.cmd.bind (fun q => s.cmdAt? q.1 q.2))
  have hended (r q : Nat) (f : InFlight) (hcmd : a.cmd = some (r, q)) (hat : s.cmdAt? r q = some f) (hph : f.phase = .started) :
      (x.endReader (a.cmd.bind (fun q => s.cmdAt? q.1 q.2))).endedWith r q 0xF001 f.good := by
    obtain ⟨hr, hq⟩ := cmdAt?_pos hat
    rw [hcmd, Option.bind_some, hat, State.endReader, if_pos hph, hr, hq]
    exact endCmd_endedWith ((cmdAt?_congr hcmds r q).trans hat) _ _
  generalize x.endReader (a.cmd.bind (fun q => s.cmdAt? q.1 q.2)) = y at hreader hended
  have hkept' : PageKept (mcPage c) s y := hkept.trans (.of_regs (congrArg State.regs hreader :))
  have hstate : y.mcState c = s.mcState c := hkept'.fld hpg Fld.MC_STATUS_STATE (by decide)
  obtain ⟨hcount, hmem', hbad', hcmds'⟩ := chanBad_counted hc (by rw [hstate]; exact hst) a.addr a.bytes a.us
  refine ⟨?_, ?_, ?_, fun r q f hcmd hat hph => ?_⟩
  · rw [hcount, hkept'.fld hpg _ (by decide)]
  · exact hbad'.trans ((congrArg State.bad hreader :).trans hbad)
  · exact hmem'.trans ((congrArg State.mem hreader :).trans hmem)
  · obtain ⟨d, hd, hrest⟩ := hended r q f hcmd hat hph
    exact ⟨d, (cmdAt?_congr hcmds' r q).trans hd, hrest⟩

end

theorem mem_nowBad (s : State) (c : Nat) (a : HbmAccess) (b : Nat) : b ∈ (s.nowBad c a).bad ↔
    b ∈ s.bad ∨ ∃ i ∈ bitList 64 a.bytes, s.unplace? c (a.addr + i) = some b := by
  simp only [State.nowBad, List.mem_append, List.mem_filter, List.mem_filterMap, Bool.not_eq_true', List.contains_eq_mem, decide_eq_false_iff_not]
  by_cases h : b ∈ s.bad
  · simp [h]
  · simp [h]

/-- Settles O36: each outcome of an access is followed through its counts, its retrain and its row. -/
theorem hbmParity : Obligations.HbmParity := by
  unfold Obligations.HbmParity
  intro c a s pg n hc hst ho
  refine ⟨fun h0 => done_eq (hbmAccess_sound hc hst ho h0), fun hw h0 h3 => ?_, fun hw h3 => ?_, fun hw h3 => ?_⟩
  · obtain ⟨hcount, hstate, t, hrel, herr⟩ := hbmAccess_reread_counts hc hst ho hw h0 h3
    exact ⟨_, done_eq rfl, hcount, (congrArg State.mem herr.eq :).trans (congrArg State.mem hrel :),
      (congrArg State.bad herr.eq :).trans (congrArg State.bad hrel :), (congrArg State.rings herr.eq :).trans (congrArg State.rings hrel :),
      (observe_cmds_errOnly herr).trans (observe_cmds_retrained hrel), fun h => hstate.trans (if_neg (Nat.not_le.mpr h)), fun h => hstate.trans (if_pos h)⟩
  · obtain ⟨hstate, hheld, hrel⟩ := hbmAccess_held_retrains hc hst ho hw h3
    exact ⟨_, done_eq rfl, hstate, hheld, (congrArg State.mem hrel :), (congrArg State.bad hrel :), observe_cmds_retrained hrel⟩
  · obtain ⟨hcount, hbad, hmem, hends⟩ := hbmAccess_lost_ends hc hst ho hw h3
    exact ⟨_, done_eq rfl, hcount, fun b => by rw [← mem_nowBad, ← hbad]; rfl, hmem,
      fun r q f hcmd hat hph => endedWith_observe (hends r q f hcmd hat hph)⟩

end Sys2Proof.Machine
end

section
/-! Frame attributes, the release of a frame and margining (R307, R324, R326), O37. -/
namespace Sys2Proof.Machine

open Sys2Proof

/-! ### Frames -/

theorem frame_setFrame_same (s : State) (t f : Nat) (x : Frame) : (s.setFrame t f x).frame t f = x := by
  rw [State.frame, State.setFrame, SMap.getD_put_same]

theorem frameKey_ne {t f u g : Nat} (h : (u, g) ≠ (t, f)) (hg : g < 2 ^ 24) (hf : f < 2 ^ 24) : frameKey u g ≠ frameKey t f := by
  intro hk
  simp only [frameKey] at hk
  exact h (Prod.ext (by simp only; omega) (by simp only; omega))

theorem frame_setFrame_other (s : State) {t f u g : Nat} (x : Frame) (h : (u, g) ≠ (t, f)) (hg : g < 2 ^ 24) (hf : f < 2 ^ 24) :
    (s.setFrame t f x).frame u g = s.frame u g := by
  rw [State.frame, State.setFrame, SMap.getD_put_other _ _ _ (frameKey_ne h hg hf)]
  rfl

/-- A channel without the remap entries of rows that lie wholly within a frame (R324). -/
def State.frameFreed (s : State) (t f c : Nat) : State :=
  let whole (row : Nat) : Bool :=
    let us := s.rowFrames c row
    !us.isEmpty && us.all (fun u => u == (t, f) || (t == 64 && u == (64, f ^^^ 1)))
  if (s.chan c).remaps.any (fun e => whole e.row) then
    (s.modChan c (fun x => { x with remaps := x.remaps.filter (fun e => !whole e.row) })).saveRemaps c
  else s

theorem frameFreed_out (s : State) (t f c : Nat) :
    s.frameFreed t f c = { s with chans := (s.frameFreed t f c).chans, errs := (s.frameFreed t f c).errs } := by
  rw [State.frameFreed]
  split
  · rfl
  · rfl

theorem frameRetired_frees (s : State) (t f : Nat) : s.frameRetired t f =
    ((s.setFrame t f { s.frame t f with st := 2 }).setLive t).foldl (fun s c => s.frameFreed t f c)
      (s.setFrame t f { s.frame t f with st := 2 }) := rfl

/-- The channels of a retired frame lose remap entries; its STATE is RETIRED. -/
theorem frameRetired_eq (s : State) (t f : Nat) : s.frameRetired t f = { s.setFrame t f { s.frame t f with st := 2 } with
    chans := (s.frameRetired t f).chans, errs := (s.frameRetired t f).errs } := by
  rw [frameRetired_frees]
  refine List.foldlRecOn (motive := fun (x : State) => x = { s.setFrame t f { s.frame t f with st := 2 } with chans := x.chans, errs := x.errs })
    _ _ rfl (fun x h c _ => ?_)
  have hfree := frameFreed_out x t f c
  generalize x.frameFreed t f c = y at hfree
  exact hfree.trans (congrArg (fun z : State => { z with chans := y.chans, errs := y.errs }) h)

/-- A frame written and retired, with the rest of the state. -/
theorem frameRetired_state (s : State) (t f : Nat) (x : Frame) :
    ((s.setFrame t f x).frameRetired t f).frame t f = { x with st := 2 } ∧ ((s.setFrame t f x).frameRetired t f).mem = s.mem ∧
    ((s.setFrame t f x).frameRetired t f).shape = s.shape ∧
    ∀ u g, (u, g) ≠ (t, f) → g < 2 ^ 24 → f < 2 ^ 24 → ((s.setFrame t f x).frameRetired t f).frame u g = s.frame u g := by
  have hret := frameRetired_eq (s.setFrame t f x) t f
  rw [frame_setFrame_same] at hret
  generalize (s.setFrame t f x).frameRetired t f = y at hret
  have hframe (u g : Nat) : y.frame u g = ((s.setFrame t f x).setFrame t f { x with st := 2 }).frame u g := by
    rw [State.frame, State.frame, show y.frames = _ from (congrArg State.frames hret :)]
  refine ⟨(hframe t f).trans (frame_setFrame_same ..), (congrArg State.mem hret :), (congrArg State.shape hret :), fun u g hne hg hf => ?_⟩
  rw [hframe, frame_setFrame_other _ _ hne hg hf, frame_setFrame_other _ _ hne hg hf]

/-! ### CDIE_FRAME_ATTR (R307, R324) -/

/-- A frame with the attributes of a written word. -/
def Frame.written (x : Frame) (v : Word64) : Frame :=
  { x with gran := getBits v 3 0, ord := getBits v 28 8, alloc := getBits v 29 29 == 1 }

section
variable {s : State} {who : Requester} {d t f : Nat} {v : Word64} (h : s.letsIn who (page 5 d)) (hvoid : s.frameSelVoid d = false)
  (hsel : s.frameSel d = (t, f))
include h hvoid hsel

theorem frameAttrWrite_beyond (hf : s.setFrames t ≤ f) : frameAttrWrite s who d v = s.refuse (page 5 d) 0x0A08 Reg.CDIE_FRAME_ATTR := by
  rw [frameAttrWrite, letIn_letsIn h]
  dsimp only
  rw [hsel]
  dsimp only
  rw [if_neg (by rw [hvoid]; decide), if_pos hf]

section
variable (hf : f < s.setFrames t) (ht : t ≠ 64) (hg1 : 1 ≤ getBits v 3 0) (hg8 : getBits v 3 0 ≤ 8)
include hf ht hg1 hg8

theorem frameAttrWrite_allocated (hch : getBits v 3 0 ≠ (s.frame t f).gran ∨ getBits v 28 8 ≠ (s.frame t f).ord)
    (halloc : (s.frame t f).alloc = true) : frameAttrWrite s who d v = s.refuseF (page 5 d) 0x0A08
      (if getBits v 3 0 ≠ (s.frame t f).gran then Fld.CDIE_FRAME_ATTR_GRAN else Fld.CDIE_FRAME_ATTR_RUN_ORD) := by
  rw [frameAttrWrite, letIn_letsIn h]
  dsimp only
  rw [hsel]
  simp only [if_neg ht]
  rw [if_neg (by rw [hvoid]; decide), if_neg (Nat.not_le.mpr hf), if_neg (by omega), if_pos (by simp [halloc, hch])]
  simp only [bne_iff_ne]

theorem frameAttrWrite_changed (hch : getBits v 3 0 ≠ (s.frame t f).gran ∨ getBits v 28 8 ≠ (s.frame t f).ord)
    (halloc : (s.frame t f).alloc = false) (h29 : getBits v 29 29 = 0) (h32 : getBits v 32 32 = 0) :
    frameAttrWrite s who d v = (s.setFrame t f ((s.frame t f).written v)).lose (setBase t + f * 2 ^ 21) (2 ^ 21) := by
  rw [frameAttrWrite, letIn_letsIn h]
  dsimp only
  rw [hsel]
  simp only [if_neg ht]
  rw [if_neg (by rw [hvoid]; decide), if_neg (Nat.not_le.mpr hf), if_neg (by omega), if_neg (by simp [halloc]),
    if_neg (by simp [h29]), if_neg (by omega), if_pos (by simp [hch])]
  rfl

theorem frameAttrWrite_retired (hch : ¬(getBits v 3 0 ≠ (s.frame t f).gran ∨ getBits v 28 8 ≠ (s.frame t f).ord))
    (h29 : getBits v 29 29 = 1) (halloc : (s.frame t f).alloc = false) (hst : (s.frame t f).st = 2) :
    frameAttrWrite s who d v = s.refuseF (page 5 d) 0x0A03 Fld.CDIE_FRAME_ATTR_ALLOC := by
  rw [frameAttrWrite, letIn_letsIn h]
  dsimp only
  rw [hsel]
  simp only [if_neg ht]
  rw [if_neg (by rw [hvoid]; decide), if_neg (Nat.not_le.mpr hf), if_neg (by omega), if_neg (by simp [halloc]), if_pos (by simp [h29, halloc, hst])]

/-- A write that keeps GRAN and RUN_ORD and may set ALLOC stores the frame's word, and RELEASE retires a retiring frame. -/
theorem frameAttrWrite_kept (hch : ¬(getBits v 3 0 ≠ (s.frame t f).gran ∨ getBits v 28 8 ≠ (s.frame t f).ord))
    (hok : getBits v 29 29 = 1 → (s.frame t f).alloc = false → (s.frame t f).st ≠ 2) : frameAttrWrite s who d v =
      if getBits v 32 32 = 1 then
        (if (s.frame t f).st = 1 then (s.setFrame t f ((s.frame t f).written v)).frameRetired t f else s.setFrame t f ((s.frame t f).written v))
      else s.setFrame t f ((s.frame t f).written v) := by
  have hsame : (getBits v 3 0 != (s.frame t f).gran || getBits v 28 8 != (s.frame t f).ord) = false := by
    rw [← Bool.not_eq_true]
    simpa using hch
  rw [frameAttrWrite, letIn_letsIn h]
  dsimp only
  rw [hsel]
  simp only [if_neg ht]
  rw [hsame, if_neg (by rw [hvoid]; decide), if_neg (Nat.not_le.mpr hf), if_neg (by omega), if_neg (by simp), if_neg (by simpa using hok)]
  simp only [Bool.false_eq_true, if_false, List.foldl_cons, List.foldl_nil, frame_setFrame_same]
  rfl

end

end

/-- A frame of the package set is written with its pair; the set's GRAN is fixed (R307). -/
theorem frameAttrWrite_package {s : State} {who : Requester} {d f : Nat} {v : Word64} (h : s.letsIn who (page 5 d))
    (hvoid : s.frameSelVoid d = false) (hsel : s.frameSel d = (64, f)) (hf : f < s.setFrames 64)
    (hok : getBits v 29 29 = 1 → (s.frame 64 f).alloc = false → (s.frame 64 f).st ≠ 2) (h32 : getBits v 32 32 = 0) :
    frameAttrWrite s who d v =
      [f / 2 * 2, f / 2 * 2 + 1].foldl (fun u g => u.setFrame 64 g { u.frame 64 g with
        gran := (s.frame 64 f).gran, alloc := getBits v 29 29 == 1 }) s := by
  rw [frameAttrWrite, letIn_letsIn h]
  dsimp only
  rw [hsel]
  simp only [if_true, bne_self_eq_false, Bool.or_false, Bool.false_and]
  rw [if_neg (by rw [hvoid]; decide), if_neg (Nat.not_le.mpr hf), if_neg (by simp), if_neg (by decide), if_neg (by simpa using hok),
    if_neg (show ¬getBits v 32 32 = 1 by rw [h32]; decide), if_neg (by decide)]

/-- A retiring frame released is retired, and no other frame changes (R324). -/
theorem frameRelease_retires {s : State} {who : Requester} {d t f : Nat} {v : Word64} (h : s.letsIn who (page 5 d))
    (hvoid : s.frameSelVoid d = false) (hsel : s.frameSel d = (t, f)) (hf : f < s.setFrames t) (ht : t ≠ 64)
    (hg1 : 1 ≤ getBits v 3 0) (hg8 : getBits v 3 0 ≤ 8)
    (hch : ¬(getBits v 3 0 ≠ (s.frame t f).gran ∨ getBits v 28 8 ≠ (s.frame t f).ord)) (h29 : getBits v 29 29 = 0) (hst : (s.frame t f).st = 1) :
    frameAttrWrite s who d (setBits v 32 32 1) = (s.setFrame t f ((s.frame t f).written v)).frameRetired t f := by
  have hlow {hi lo : Nat} (hlt : hi < 32) : getBits (setBits v 32 32 1) hi lo = getBits v hi lo :=
    getBits_setBits_other v (by decide) 1 (.inr hlt)
  have h3 := hlow (hi := 3) (lo := 0) (by decide)
  have h28 := hlow (hi := 28) (lo := 8) (by decide)
  have hwritten : (s.frame t f).written (setBits v 32 32 1) = (s.frame t f).written v := by
    rw [Frame.written, Frame.written, h3, h28, hlow (by decide)]
  rw [frameAttrWrite_kept h hvoid hsel hf ht (h3.symm ▸ hg1) (h3.symm ▸ hg8) (by rw [h3, h28]; exact hch) (by rw [hlow (by decide), h29]; omega),
    if_pos (show getBits (setBits v 32 32 1) 32 32 = 1 from getBits_setBits_same v (by decide) (by decide) 1), if_pos hst, hwritten]

/-! ### Margining (R326) -/

section
variable {s : State} {who : Requester} {k : Nat} {v : Word64}

/-- The stack may be margined: its partition idle, ACTIVE, and no row being copied. -/
def State.marginReady (s : State) (k : Nat) : Prop :=
  (∀ p, s.stackPart? k = some p → s.idle p = true) ∧ s.fld (stkPage k) Fld.STK_STATUS_STATE = 1 ∧
    (List.range 32).any (fun i => (s.chan (32 * k + i)).remaps.any (fun e => e.copying)) = false

/-- A margining point, with the run begun. -/
def State.marginBegun (s : State) (k : Nat) (v : Word64) : State :=
  ((((s.setFld (stkPage k) Fld.STK_MARGIN_CHANNEL (getBits v 4 0)).setFld (stkPage k) Fld.STK_MARGIN_AXIS (getBits v 6 5)).setFld (stkPage k)
    Fld.STK_MARGIN_OFFSET (getBits v 13 8)).setFld (stkPage k) Fld.STK_MARGIN_DONE 0).modStk k (fun x => { x with margin := true })

/-- The test of a start is the readiness of the stack. -/
theorem marginStart_eq (h : s.letsIn who (stkPage k)) (haxis : getBits v 6 5 ≠ 3) :
    (s.marginReady k → marginStart s who k v = s.marginBegun k v) ∧
    (¬s.marginReady k → marginStart s who k v = s.refuseF (stkPage k) 0x0A09 Fld.STK_MARGIN_START) := by
  rw [marginStart, letIn_letsIn h]
  dsimp only
  rw [if_neg haxis, State.marginReady]
  generalize (List.range 32).any (fun i => (s.chan (32 * k + i)).remaps.any (fun e => e.copying)) = copying
  generalize s.fld (stkPage k) Fld.STK_STATUS_STATE = st
  cases s.stackPart? k with
  | none =>
    refine ⟨fun ⟨_, hst, hcopy⟩ => if_neg (by simp [hst, hcopy]), fun hn => if_pos ?_⟩
    exact Decidable.byContradiction (fun hc => hn (by simpa using hc))
  | some p =>
    refine ⟨fun ⟨hp, hst, hcopy⟩ => if_neg (by simp [hst, hcopy, hp p rfl]), fun hn => if_pos ?_⟩
    exact Decidable.byContradiction (fun hc => hn (by simpa [and_assoc] using hc))

theorem marginBegun_regs (s : State) (k : Nat) (v : Word64) :
    (s.marginBegun k v).fld (stkPage k) Fld.STK_MARGIN_DONE = 0 ∧ (s.marginBegun k v).fld (stkPage k) Fld.STK_MARGIN_CHANNEL = getBits v 4 0 ∧
    (s.marginBegun k v).fld (stkPage k) Fld.STK_MARGIN_AXIS = getBits v 6 5 ∧
    (s.marginBegun k v).fld (stkPage k) Fld.STK_MARGIN_OFFSET = getBits v 13 8 := by
  have hget (hi lo : Nat) : getBits v hi lo < 2 ^ (hi + 1 - lo) := Nat.mod_lt _ (Nat.two_pow_pos _)
  refine ⟨fld_setFld_fits _ _ (by decide), ?_, ?_, ?_⟩
  · exact (fld_setFld_other _ _ (.inr ⟨rfl, by decide⟩)).trans ((fld_setFld_other _ _ (.inr ⟨rfl, by decide⟩)).trans
      ((fld_setFld_other _ _ (.inr ⟨rfl, by decide⟩)).trans (fld_setFld_fits _ _ ⟨by decide, by decide, hget 4 0⟩)))
  · exact (fld_setFld_other _ _ (.inr ⟨rfl, by decide⟩)).trans ((fld_setFld_other _ _ (.inr ⟨rfl, by decide⟩)).trans
      (fld_setFld_fits _ _ ⟨by decide, by decide, hget 6 5⟩))
  · exact (fld_setFld_other _ _ (.inr ⟨rfl, by decide⟩)).trans (fld_setFld_fits _ _ ⟨by decide, by decide, hget 13 8⟩)

theorem marginDone_results {s : State} {k errors lanes : Nat} (h : (s.stk k).margin = true) (he : errors < 2 ^ 32) (hl : lanes < 2 ^ 8) :
    ((marginDone s k errors lanes).stk k).margin = false ∧ (marginDone s k errors lanes).fld (stkPage k) Fld.STK_MARGIN_DONE = 1 ∧
    (marginDone s k errors lanes).fld (stkPage k) Fld.STK_MARGIN_RES_ERRORS = errors ∧
    (marginDone s k errors lanes).fld (stkPage k) Fld.STK_MARGIN_RES_LANES = lanes ∧
    marginDone s k errors lanes = { s with regs := (marginDone s k errors lanes).regs, stks := (marginDone s k errors lanes).stks } := by
  rw [marginDone, if_pos h]
  have hother (x : State) (f : Fld) (hf : f.off = 0x128) : (x.setFld (stkPage k) Fld.STK_MARGIN_DONE 1).fld (stkPage k) f = x.fld (stkPage k) f :=
    fld_setFld_other _ _ (.inl (regKey_ne (by omega) (by decide) (by rw [hf]; decide)))
  refine ⟨?_, fld_setFld_fits _ _ (by decide), ?_, ?_, rfl⟩
  · rw [State.stk, State.modStk, SMap.getD_put_same]
  · exact (hother _ Fld.STK_MARGIN_RES_ERRORS rfl).trans ((fld_setFld_other _ _ (.inr ⟨rfl, by decide⟩)).trans
      (fld_setFld_fits _ _ ⟨by decide, by decide, he⟩))
  · exact (hother _ Fld.STK_MARGIN_RES_LANES rfl).trans (fld_setFld_fits _ _ ⟨by decide, by decide, hl⟩)

end

/-- Settles O37: CDIE_FRAME_ATTR and STK_MARGIN by the branches of their writes. -/
theorem framesAndMargining : Obligations.FramesAndMargining := by
  unfold Obligations.FramesAndMargining
  refine ⟨?_, ?_⟩
  · intro who d v s pg t f fr changed now h hvoid
    have hsel : s.frameSel d = (t, f) := rfl
    refine ⟨fun hf => done_eq (frameAttrWrite_beyond h hvoid hsel hf), fun hf ht hg1 hg8 => ⟨?_, ?_, ?_, ?_, ?_⟩, ?_⟩
    · exact fun hch halloc => done_eq (frameAttrWrite_allocated h hvoid hsel hf ht hg1 hg8 hch halloc)
    · exact fun hch halloc h29 h32 => done_eq (frameAttrWrite_changed h hvoid hsel hf ht hg1 hg8 hch halloc h29 h32)
    · exact fun hch h29 halloc hst => done_eq (frameAttrWrite_retired h hvoid hsel hf ht hg1 hg8 hch h29 halloc hst)
    · exact fun hch hok h32 => done_eq ((frameAttrWrite_kept h hvoid hsel hf ht hg1 hg8 hch hok).trans (if_neg (by rw [h32]; decide)))
    · intro hch h29 hst
      have hret := frameRetired_state s t f ((s.frame t f).written v)
      obtain ⟨hframe, hmem, hshape, hother⟩ := hret
      exact ⟨_, done_eq (frameRelease_retires h hvoid hsel hf ht hg1 hg8 hch h29 hst), hframe, hmem, hshape, hother⟩
    · intro hf ht hok h32 half
      have hsel' : s.frameSel d = (64, f) := hsel.trans (congrArg (fun t => (t, f)) ht)
      have hfr : fr = s.frame 64 f := congrArg (fun t => s.frame t f) ht
      rw [hfr] at hok
      refine done_eq ((frameAttrWrite_package h hvoid hsel' (ht ▸ hf) hok h32).trans ?_)
      rw [← hfr]
      rfl
  · intro who k v s pg copying ready
    refine ⟨fun h haxis hn => done_eq ((marginStart_eq h haxis).2 hn), fun h haxis hr => ?_, fun errors lanes h he hl => ?_⟩
    · obtain ⟨hdone, hchan, hax, hoff⟩ := marginBegun_regs s k v
      refine ⟨_, done_eq ((marginStart_eq h haxis).1 hr), ?_, hdone, hchan, hax, hoff, rfl⟩
      exact congrArg Stack.margin (SMap.getD_put_same ..)
    · obtain ⟨hm, hdone, herr, hlanes, heq⟩ := marginDone_results h he hl
      exact ⟨_, done_eq rfl, hm, hdone, herr, hlanes, congrArg State.observe heq⟩

end Sys2Proof.Machine
end

section
/-! An EVACUATE whose source is not HBM, O38. -/
namespace Sys2Proof.Machine

open Sys2Proof

/-- An EVACUATE of one span at the base of the scratchpads: R320's home check refuses such a source, the statement does not. -/
def scratchEvacuate : InFlight :=
  { ring := 0, seq := 0, order := 0, part := 0, ctx := 0, ccp := 0, cmd := ⟨0x2C, 0, 0, 0, 0, 0, 0, 0, 0, 0, 0, 0, 0, 0, 0, 0, 0⟩
    ext := leBytes 8 spBase ++ leBytes 8 cmBase ++ leBytes 8 64 ++ leBytes 8 (cmBase + 0x1000) ++ leBytes 32 0
    wait0 := none, wait1 := none, met0 := true, met1 := true, sig := .none, phase := .waiting, status := 0, good := 0, info := 0
    ports := [], lostPorts := [], saved := false, epoch := none, prog := [], dw := none, tc := none, unacked := 0, sigSent := false }

/-- Ring 0 of partition 0 runs, the span holds uncorrectable data, and core 0 has had two SRAM errors this stroke. -/
def scratchFailing : State :=
  { (State.reset.modCtx 0 0 (fun x => { x with st := .resident })).setRing 0 { State.reset.ring 0 with st := 1 } with
    cmds := [scratchEvacuate], bad := [spBase], errs := { State.reset.errs with sramErrs := [(7, 0, 0), (7, 0, 0)] } }

theorem scratchEvacuate_ready : scratchFailing.ready 0x2C 0 0 scratchEvacuate := by
  unfold State.ready State.flows
  decide +kernel

/-- The span's error is the core's third: the core fails, and its partition's rings stop (R446). -/
theorem scratchEvacuate_stops : (evacuateCmd scratchFailing 0 0).rings.map (fun x => x.2.st) = [2] := by decide +kernel

/-- What the command copies: its span's bit, and no code. -/
def scratchSpans : State × List Bool × Code :=
  (scratchFailing.atStart scratchEvacuate).evacSpans scratchEvacuate (leAt scratchEvacuate.ext 0 8) (leAt scratchEvacuate.ext 8 8) 0
    (leAt scratchEvacuate.ext 16 8 / 64)

theorem scratchSpans_sound : scratchSpans.2.2 = 0 := by decide +kernel

theorem scratchMap_sound :
    (scratchSpans.1.wrDev (some scratchEvacuate.part) (leAt scratchEvacuate.ext 24 8) (bitBytes scratchSpans.2.1)).2.2 = 0 := by decide +kernel

/-- What the statement would say of every EVACUATE's rings. -/
theorem evacuate_rings_of (h : Obligations.NvmAndEvacuation) {c : InFlight} {s : State} (hready : s.ready 0x2C 0 0 c)
    {e : State × List Bool × Code} (he : (s.atStart c).evacSpans c (leAt c.ext 0 8) (leAt c.ext 8 8) 0 (leAt c.ext 16 8 / 64) = e)
    (hspans : e.2.2 = 0) (hmap : (e.1.wrDev (some c.part) (leAt c.ext 24 8) (bitBytes e.2.1)).2.2 = 0) :
    (evacuateCmd s 0 0).rings = s.rings := by
  subst he
  obtain ⟨-, h⟩ := h
  obtain ⟨t, ht, -, -, hrings, -⟩ := h 0 0 c s hready hspans hmap
  have heq : (evacuateCmd s 0 0).observe = t := by
    injection (done_eq rfl).symm.trans ht
  rw [← hrings, ← heq]
  rfl

/-- Refutes O38: the statement takes any source range, and uncorrectable data in a scratchpad that an EVACUATE reads can be the core's third
SRAM error, which fails the core and stops the rings of its partition (R446). -/
theorem not_nvmAndEvacuation : ¬ Obligations.NvmAndEvacuation := by
  intro h
  have hrings := evacuate_rings_of h scratchEvacuate_ready (e := scratchSpans) rfl scratchSpans_sound scratchMap_sound
  have hstopped := scratchEvacuate_stops
  rw [hrings] at hstopped
  exact absurd hstopped (by decide)

end Sys2Proof.Machine
end

section
/-! Codec sessions: VC_OPEN, VC_CLOSE and VC_RELEASE (R332 to R335), O39. -/
namespace Sys2Proof.Machine

open Sys2Proof

/-! ### VC_OPEN (R332, R333) -/

section
variable {s : State} {c : InFlight} {v : Nat} (hv : s.vcOf? c = some v)
include hv

theorem vcOpenStart_used (hk : (s.vcSlot? v (vcSlotNo c)).isSome = true) : s.vcOpenStart c = s.endCmd c.ring c.seq 0x0B02 0 := by
  rw [State.vcOpenStart]
  dsimp only
  rw [hv]
  exact if_pos hk

/-- The buffers a pool's table names. -/
def vcTable (b : List Byte) (n : Nat) : List VcBuf := (List.range n).map (fun i =>
  ⟨leAt b (64 * i) 8, leAt b (64 * i + 8) 8, leAt b (64 * i + 16) 8, leAt b (64 * i + 24) 8, leAt b (64 * i + 32) 4, 0⟩)

/-- The session that a sound VC_OPEN stores. -/
def vcOpened (b : List Byte) (n : Nat) (ext : List Byte) : VcSlot :=
  { vcOpenSlot ext with bufs := vcTable b n, hist := Config.video [0, (vcOpenSlot ext).std, (vcOpenSlot ext).st] }

theorem vcOpenStart_opens (hk : s.vcSlot? v (vcSlotNo c) = none) {b : List Byte}
    (hb : s.rdDev (some c.part) (vcOpenSlot c.ext).pool (64 * bitsAt c.ext 20 11 6) = .ok b)
    (hzero : ∀ i < bitsAt c.ext 20 11 6, bitsAt b (64 * i + 36) 31 4 = 0 ∧ leAt b (64 * i + 40) 24 = 0)
    (hsound : ∀ i d, (vcTable b (bitsAt c.ext 20 11 6))[i]? = some d →
      s.vcBadBuf c.part (vcOpened b (bitsAt c.ext 20 11 6) c.ext) i d = false) :
    s.vcOpenStart c =
      (s.putSlot c.part v (vcSlotNo c) (vcOpened b (bitsAt c.ext 20 11 6) c.ext)).endCmd c.ring c.seq 0 0 := by
  rw [State.vcOpenStart]
  dsimp only
  rw [hv]
  dsimp only
  rw [hk, if_neg (by decide), hb]
  dsimp only
  rw [if_neg, if_neg]
  · rfl
  · rw [Bool.not_eq_true, List.any_eq_false]
    intro i _
    split
    · rename_i d hd
      rw [Bool.not_eq_true]
      exact hsound i d hd
    · exact Bool.false_ne_true
  · rw [Bool.not_eq_true, List.any_eq_false]
    intro i hi
    obtain ⟨hpad, hrest⟩ := hzero i (List.mem_range.mp hi)
    simp [hpad, hrest]

end

/-! ### VC_CLOSE (R332, R335) -/

theorem vcCloseStart_closes {s : State} {c : InFlight} {v : Nat} {x : VcSlot} (hv : s.vcOf? c = some v)
    (hother : s.cmds.any (fun d => d.cmd.op == 0x71 && d.phase == .started && s.vcOf? d == some v && vcSlotNo d == vcSlotNo c &&
      !(d.ring == c.ring && d.seq == c.seq)) = false)
    (hk : s.vcSlot? v (vcSlotNo c) = some x) (hearly : s.vcEarlier v c [0x72, 0x73, 0x74] = false) :
    s.vcCloseStart c = ((s.putSlot c.part v (vcSlotNo c) { x with bufs := x.bufs.map (fun b => { b with mark := 0 }) }).modVc v
      (fun e => { e with slots := SMap.erase e.slots (vcSlotNo c) })).endCmd c.ring c.seq 0 0 := by
  rw [State.vcCloseStart, hv]
  dsimp only
  rw [hother, hk, if_neg (by simp), State.vcCloseRun]
  dsimp only
  rw [hv]
  dsimp only
  rw [hearly, if_neg (by decide), hk]

/-! ### VC_RELEASE (R334, R335) -/

section
variable {s : State} {c : InFlight} {v : Nat} (hv : s.vcOf? c = some v)
include hv

theorem vcReleaseStart_closed (hk : s.vcSlot? v (vcSlotNo c) = none) : s.vcReleaseStart c = s.endCmd c.ring c.seq 0x0B02 0 := by
  rw [State.vcReleaseStart, hv]
  dsimp only
  rw [hk, if_pos (by rw [Option.isNone_none, Bool.or_true])]

theorem vcReleaseStart_releases {x : VcSlot} (hclosing : s.vcClosing v (vcSlotNo c) = false) (hearly : s.vcEarlier v c [0x72, 0x73] = false) (hk : s.vcSlot? v (vcSlotNo c) = some x)
    (hheld : ∀ i ∈ bitList 32 c.cmd.payload, ∃ b, x.bufs[i]? = some b ∧ b.mark.testBit 2 = true) :
    s.vcReleaseStart c = (s.putSlot c.part v (vcSlotNo c) { x with bufs := (List.range x.bufs.length).filterMap (fun i =>
      (x.bufs[i]?).map (fun b => if (bitList 32 c.cmd.payload).contains i then { b with mark := b.mark - 4 } else b)) }).endCmd
        c.ring c.seq 0 0 := by
  rw [State.vcReleaseStart, hv]
  dsimp only
  rw [hclosing, hk, if_neg (by simp), State.vcReleaseRun]
  dsimp only
  rw [hv]
  dsimp only
  rw [hearly, if_neg (by decide), hk]
  dsimp only
  rw [if_neg]
  rw [Bool.not_eq_true, List.any_eq_false]
  intro i hi
  obtain ⟨b, hb, hmark⟩ := hheld i hi
  rw [hb]
  simp [hmark]

end

/-- Settles O39: each command starts on its slot, whose branches are followed. -/
theorem codecSessions : Obligations.CodecSessions := by
  unfold Obligations.CodecSessions
  intro r q v c s k
  refine ⟨fun h hv => ?_, fun h => ?_, fun h => ?_⟩
  · obtain ⟨hr, hq⟩ := cmdAt?_pos h.1
    have hrun : vcOpenCmd s r q = (s.atStart c).vcOpenStart c := runCmd_ready h _
    refine ⟨fun hk => done_eq (hrun.trans ?_), fun hk b hb => ?_⟩
    · rw [vcOpenStart_used hv hk, hr, hq]
    · intro bufs x hzero hsound
      refine done_eq (hrun.trans ?_)
      rw [vcOpenStart_opens hv hk hb hzero hsound, hr, hq]
      rfl
  · obtain ⟨hr, hq⟩ := cmdAt?_pos h.1
    intro u other hv hother x hk hearly
    refine done_eq ((contCmd_ready h _ _ : vcCloseCmd s r q = (s.atBegin c).vcCloseStart c).trans ?_)
    rw [vcCloseStart_closes hv (by rw [hr, hq]; exact hother) hk hearly, hr, hq]
  · obtain ⟨hr, hq⟩ := cmdAt?_pos h.1
    have hrun : vcReleaseCmd s r q = (s.atBegin c).vcReleaseStart c := contCmd_ready h _ _
    intro u hv hclosing hearly
    refine ⟨fun hk => done_eq (hrun.trans ?_), fun x hk hheld => done_eq (hrun.trans ?_)⟩
    · rw [vcReleaseStart_closed hv hk, hr, hq]
    · rw [vcReleaseStart_releases hv hclosing hearly hk hheld, hr, hq]

end Sys2Proof.Machine
end

section
/-! Codec pictures: decoding, encoding and its rows (R333 to R346), O40. -/
namespace Sys2Proof.Machine

open Sys2Proof

/-! ### Writes to mapped ranges -/

/-- Every byte of a range is mapped for a partition. -/
def State.mapsRange (s : State) (p a n : Nat) : Prop := ∀ i < n, (s.xlate (some p) (a + i)).isOk = true

theorem wrAll_ok {s : State} {p : Nat} {ws : List (Nat × List Byte)} (h : ∀ w ∈ ws, s.mapsRange p w.1 w.2.length) :
    (s.wrAll p ws).2 = 0 := by
  refine (List.foldlRecOn (motive := fun r : State × Code => r.2 = 0 ∧ MemOnly s r.1) ws _ ⟨rfl, MemOnly.refl s⟩ (fun r hr w hw => ?_)).1
  obtain ⟨hcode, hmem⟩ := hr
  dsimp only
  rw [if_neg (not_not_intro hcode)]
  refine ⟨wrDev_ok (fun i hi => ?_), hmem.trans (.wrDev ..)⟩
  rw [show r.1.xlate (some p) (w.1 + i) = s.xlate (some p) (w.1 + i) from (congrArg (fun x => State.xlate x (some p) (w.1 + i)) hmem :)]
  exact h w hw i hi

theorem mapM_ok {α β : Type} {f : α → Except Code β} {Q : β → Prop} {l : List α} (h : ∀ a ∈ l, ∃ b, f a = .ok b ∧ Q b) :
    ∃ bs, l.mapM f = .ok bs ∧ ∀ b ∈ bs, Q b := by
  induction l with
  | nil => exact ⟨[], rfl, fun _ hb => absurd hb List.not_mem_nil⟩
  | cons a l ih =>
    obtain ⟨b, hb, hQ⟩ := h a List.mem_cons_self
    obtain ⟨bs, hbs, hall⟩ := ih (fun a' ha' => h a' (List.mem_cons_of_mem _ ha'))
    refine ⟨b :: bs, ?_, List.forall_mem_cons.mpr ⟨hQ, hall⟩⟩
    rw [List.mapM_cons, hb, hbs]
    rfl

/-! ### A decoded picture's bytes (R333, R338) -/

theorem sample_length (x : VcSlot) (v : Nat) : (x.sample v).length = x.sz := by
  rw [VcSlot.sample, VcSlot.sz]
  split
  · exact leBytes_length ..
  · exact leBytes_length ..

/-- Without a reference no block is concealed from one. -/
theorem vcBlock_alone (tok b : Nat) : vcBlock tok false b ≠ 1 := by
  rw [vcBlock, if_neg Bool.false_ne_true]
  split
  · decide
  · split
    · decide
    · assumption

theorem sum_map_eq_mul {α : Type} {l : List α} {f : α → Nat} {n : Nat} (h : ∀ a ∈ l, f a = n) : (l.map f).sum = l.length * n := by
  rw [List.map_congr_left h, List.map_const', List.sum_replicate_nat]

/-- A row without a reference. -/
theorem vcRow_alone (s : State) (p : Nat) (x : VcSlot) (tok n per blk0 plane y : Nat) (grey : Bool) (at_ : Nat) :
    ∃ bs, s.vcRow p x tok n per blk0 false plane y grey at_ = .ok bs ∧ bs.length = n * x.sz := by
  rw [State.vcRow]
  dsimp only
  have hcode (i : Nat) : (vcBlock tok false (blk0 + i / per) == 1) = false := by
    rw [beq_eq_false_iff_ne]
    exact vcBlock_alone _ _
  refine ⟨_, by rw [if_neg (by simp [hcode])]; rfl, ?_⟩
  rw [List.length_flatMap]
  refine (sum_map_eq_mul (n := x.sz) (fun i _ => ?_)).trans ?_
  · rw [if_neg (vcBlock_alone _ _)]
    split
    · exact sample_length ..
    · exact sample_length ..
  · rw [List.length_range]

/-- Every part of a buffer is mapped for a partition, and its rows hold the largest picture. -/
structure VcSlot.Holds (x : VcSlot) (s : State) (p : Nat) (d : VcBuf) : Prop where
  aligned : d.pitch % 256 = 0
  wide : x.maxW * x.sz ≤ d.pitch
  mapped : ∀ r ∈ x.parts d, s.mapsRange p r.1 r.2

theorem h64_mod (x : VcSlot) : x.h64 % 64 = 0 := alignUp_mod (by decide) _

theorem maxH_le_h64 (x : VcSlot) : x.maxH ≤ x.h64 := le_alignUp (by decide) _

/-- A row within a plane of mapped rows. -/
theorem mapsRange_row {s : State} {p a pitch rows y n : Nat} (h : s.mapsRange p a (pitch * rows)) (hy : y < rows) (hn : n ≤ pitch) :
    s.mapsRange p (a + pitch * y) n := by
  intro i hi
  rw [Nat.add_assoc]
  refine h _ (Nat.lt_of_lt_of_le (m := pitch * (y + 1)) ?_ (Nat.mul_le_mul_left _ hy))
  rw [Nat.mul_succ]
  omega

section
variable {x : VcSlot} {s : State} {p : Nat} {d : VcBuf} (hd : x.Holds s p d)
include hd

theorem VcSlot.Holds.luma {w y : Nat} (hw : w ≤ x.maxW) (hy : y < x.maxH) : s.mapsRange p (d.y + d.pitch * y) (w * x.sz) :=
  mapsRange_row (hd.mapped (d.y, d.pitch * x.h64) (by simp [VcSlot.parts])) (Nat.lt_of_lt_of_le hy (maxH_le_h64 x))
    (Nat.le_trans (Nat.mul_le_mul_right _ hw) hd.wide)

/-- The rows of the chroma plane are even in samples, and the pitch has room for one more sample than an odd width. -/
theorem VcSlot.Holds.chroma {w y : Nat} (hw : w ≤ x.maxW) (hy : y < ceilDiv x.maxH 2) :
    s.mapsRange p (d.c + d.pitch * y) (2 * ceilDiv w 2 * x.sz) := by
  have hrows : d.pitch * x.h64 / 2 = d.pitch * (x.h64 / 2) := Nat.mul_div_assoc _ (by have := h64_mod x; omega)
  have hmap := hd.mapped (d.c, d.pitch * x.h64 / 2) (by simp [VcSlot.parts])
  rw [hrows] at hmap
  refine mapsRange_row hmap ?_ ?_
  · have := maxH_le_h64 x
    have := h64_mod x
    simp only [ceilDiv] at hy
    omega
  · have hwide := hd.wide
    have hal := hd.aligned
    simp only [ceilDiv, VcSlot.sz] at hwide ⊢
    split at hwide
    · rw [if_pos (by assumption)]
      omega
    · rw [if_neg (by assumption)]
      omega

/-- The picture that needs no reference is read from nowhere, and fits its buffer. -/
theorem vcPicture_key {tok w h : Nat} (hw : w ≤ x.maxW) (hh : h ≤ x.maxH) (mono : Bool) :
    ∃ ws, s.vcPicture p x d none tok w h mono = .ok ws ∧ ∀ r ∈ ws, s.mapsRange p r.1 r.2.length := by
  have hceil : ceilDiv h 2 ≤ ceilDiv x.maxH 2 := by
    simp only [ceilDiv]
    omega
  obtain ⟨ys, hys, hlum⟩ := mapM_ok (l := List.range h) (Q := fun r : Nat × List Byte => s.mapsRange p r.1 r.2.length)
    (f := fun y => (s.vcRow p x tok w 64 (y / 64 * ceilDiv w 64) false 0 y false (d.y + d.pitch * y)).map (fun bs => (d.y + d.pitch * y, bs)))
    (fun y hy => by
      obtain ⟨bs, hbs, hlen⟩ := vcRow_alone s p x tok w 64 (y / 64 * ceilDiv w 64) 0 y false (d.y + d.pitch * y)
      refine ⟨_, by rw [hbs]; rfl, ?_⟩
      rw [hlen]
      exact hd.luma hw (Nat.lt_of_lt_of_le (List.mem_range.mp hy) hh))
  obtain ⟨cs, hcs, hchr⟩ := mapM_ok (l := List.range (ceilDiv h 2)) (Q := fun r : Nat × List Byte => s.mapsRange p r.1 r.2.length)
    (f := fun y => (s.vcRow p x tok (2 * ceilDiv w 2) 64 (y / 32 * ceilDiv w 64) false 1 y mono (d.c + d.pitch * y)).map
      (fun bs => (d.c + d.pitch * y, bs)))
    (fun y hy => by
      obtain ⟨bs, hbs, hlen⟩ := vcRow_alone s p x tok (2 * ceilDiv w 2) 64 (y / 32 * ceilDiv w 64) 1 y mono (d.c + d.pitch * y)
      refine ⟨_, by rw [hbs]; rfl, ?_⟩
      rw [hlen]
      exact hd.chroma hw (Nat.lt_of_lt_of_le (List.mem_range.mp hy) hceil))
  rw [State.vcPicture]
  simp only [Option.getD_none, Option.isSome_none]
  rw [hys, hcs]
  refine ⟨_, rfl, ?_⟩
  simp only [List.forall_mem_append, List.forall_mem_cons, List.length_map, List.length_range]
  refine ⟨⟨hlum, hchr⟩, hd.mapped _ (by simp [VcSlot.parts]), hd.mapped _ (by simp [VcSlot.parts]), fun _ hb => absurd hb List.not_mem_nil⟩

end

/-! ### A decode (R337 to R339) -/

/-- The code of a decode's picture: none, unsupported or of a wrong size, too large or of a new size without a key, no free buffer. -/
def vcDecodeCode (x : VcSlot) (f : Nat → Nat) : Code :=
  firstCode [(f 1 % 2 == 1, 0x0B0D), (f 2 % 2 == 1 || !vcSizeOk x.std (f 3 % 65536) (f 4 % 65536) 32, 0x0B0A),
    (decide (x.maxW < f 3 % 65536) || decide (x.maxH < f 4 % 65536) ||
      (x.pictures != 0 && (f 3 % 65536, f 4 % 65536) != x.size && f 5 % 2 != 1), 0x0B0B), (x.free?.isNone, 0x0B06)]

theorem firstCode_cons_zero {b : Bool} {c : Nat} {r : List (Bool × Nat)} (hc : c ≠ 0) (h : firstCode ((b, c) :: r) = 0) :
    b = false ∧ firstCode r = 0 := by
  rw [firstCode] at h
  split at h
  · exact absurd h hc
  · rename_i hn
    exact ⟨by simpa [hc] using hn, h⟩

/-- A picture that no check stops fits the session and has a free buffer. -/
theorem vcDecodeCode_sound {x : VcSlot} {f : Nat → Nat} (h : vcDecodeCode x f = 0) :
    f 3 % 65536 ≤ x.maxW ∧ f 4 % 65536 ≤ x.maxH ∧ ∃ i, x.free? = some i := by
  obtain ⟨-, h⟩ := firstCode_cons_zero (by decide) h
  obtain ⟨-, h⟩ := firstCode_cons_zero (by decide) h
  obtain ⟨hsize, h⟩ := firstCode_cons_zero (by decide) h
  obtain ⟨hfree, -⟩ := firstCode_cons_zero (by decide) h
  simp only [Bool.or_eq_false_iff, decide_eq_false_iff_not, Nat.not_lt] at hsize
  exact ⟨hsize.1.1, hsize.1.2, Option.isSome_iff_exists.mp (by rw [← Option.not_isNone, hfree]; rfl)⟩

/-- A free buffer is one of the session's. -/
theorem free?_get {x : VcSlot} {i : Nat} (h : x.free? = some i) : ∃ d, x.bufs[i]? = some d := by
  have hi := List.mem_range.mp (List.mem_of_find?_eq_some h)
  exact ⟨x.bufs[i], List.getElem?_eq_getElem hi⟩

/-- The token of a unit. -/
def vcToken (x : VcSlot) (bytes : List Byte) : Nat :=
  Config.video (0 :: x.std :: (if x.ten then 1 else 0) :: x.hist :: bytes.map BitVec.toNat)

/-- The end of a decode once its picture and report are written: marks, counts and INFO. -/
def State.decodeCounted (s : State) (c : InFlight) (v k : Nat) (z : VcSlot) (pixels damaged : Nat) : State :=
  let t := ((s.putSlot c.part v k z).addFld (vcPage v) Fld.VC_PIX_DEC_COUNT pixels).addFld (vcPage v) Fld.VC_DAMAGED_COUNT damaged
  let t := if damaged ≠ 0 then t.raise (vcPage v) 16 else t
  t.modCmd c.ring c.seq (fun z => { z with info := z.info ||| (if damaged ≠ 0 then 2 ^ 16 else 0) })

section
variable {s : State} {c : InFlight} {v k : Nat} {x : VcSlot} {bytes : List Byte} (hstd : x.std ≠ 2)
  (hbytes : s.rdDev (some c.part) (leAt c.ext 0 8) (leAt c.ext 8 4) = .ok bytes)
include hstd hbytes

theorem vcDecodeRun_stops (hcode : vcDecodeCode x (fun i => Config.video [i, vcToken x bytes]) ≠ 0) :
    s.vcDecodeRun c v k x = s.endCmd c.ring c.seq (vcDecodeCode x (fun i => Config.video [i, vcToken x bytes])) 0 := by
  have hshows : (x.std == 2) = false := beq_eq_false_iff_ne.mpr hstd
  rw [State.vcDecodeRun]
  dsimp only
  rw [hbytes]
  simp only [hshows, Bool.false_and, Bool.not_false, Bool.true_and, Bool.and_true]
  exact if_pos hcode

/-- A key picture with a free buffer is written there, with its report. -/
theorem vcDecodeRun_key (hcode : vcDecodeCode x (fun i => Config.video [i, vcToken x bytes]) = 0)
    (hkey : Config.video [5, vcToken x bytes] % 2 = 1) (hfence : leAt c.ext 24 8 = 0) (hrep : s.mapsRange c.part (leAt c.ext 16 8) 64)
    (hbufs : ∀ d ∈ x.bufs, x.Holds s c.part d) :
    ∃ w z damaged, MemOnly s w ∧ z.pictures = (x.pictures + 1) % 2 ^ 32 ∧
      z.size = (Config.video [3, vcToken x bytes] % 65536, Config.video [4, vcToken x bytes] % 65536) ∧ z.hist = vcToken x bytes ∧
      s.vcDecodeRun c v k x = (w.decodeCounted c v k z (Config.video [3, vcToken x bytes] % 65536 * (Config.video [4, vcToken x bytes] % 65536))
        damaged).observe.endCmd c.ring c.seq 0 ((Config.video [3, vcToken x bytes] % 65536 * (Config.video [4, vcToken x bytes] % 65536) +
        2 * ceilDiv (Config.video [3, vcToken x bytes] % 65536) 2 * ceilDiv (Config.video [4, vcToken x bytes] % 65536) 2) * x.sz) := by
  have hshows : (x.std == 2) = false := beq_eq_false_iff_ne.mpr hstd
  have hkey' : (Config.video [5, vcToken x bytes] % 2 == 1) = true := beq_iff_eq.mpr hkey
  obtain ⟨hw, hh, i, hi⟩ := vcDecodeCode_sound hcode
  obtain ⟨d, hd⟩ := free?_get hi
  obtain ⟨ws, hws, hmap⟩ := vcPicture_key (hbufs d (List.mem_of_getElem? hd)) (tok := vcToken x bytes) hw hh
    (Config.video [7, vcToken x bytes] % 2 == 1 && x.std != 1)
  have hrun : ∃ rep z damaged, rep.length = 64 ∧ z.pictures = (x.pictures + 1) % 2 ^ 32 ∧
      z.size = (Config.video [3, vcToken x bytes] % 65536, Config.video [4, vcToken x bytes] % 65536) ∧ z.hist = vcToken x bytes ∧
      s.vcDecodeRun c v k x = if (s.wrAll c.part (ws ++ [(leAt c.ext 16 8, rep)])).2 ≠ 0 then
        (s.wrAll c.part (ws ++ [(leAt c.ext 16 8, rep)])).1.endCmd c.ring c.seq (s.wrAll c.part (ws ++ [(leAt c.ext 16 8, rep)])).2 0 else
      ((s.wrAll c.part (ws ++ [(leAt c.ext 16 8, rep)])).1.decodeCounted c v k z (Config.video [3, vcToken x bytes] % 65536 * (Config.video [4, vcToken x bytes] % 65536))
        damaged).observe.endCmd c.ring c.seq 0 ((Config.video [3, vcToken x bytes] % 65536 * (Config.video [4, vcToken x bytes] % 65536) +
        2 * ceilDiv (Config.video [3, vcToken x bytes] % 65536) 2 * ceilDiv (Config.video [4, vcToken x bytes] % 65536) 2) * x.sz) := by
    refine ⟨?rep, ?z, ?dmg, ?len, ?pic, ?size, ?hist, ?eq⟩
    case eq =>
      rw [State.vcDecodeRun]
      dsimp only
      rw [hbytes]
      simp only [hshows, Bool.false_and, Bool.not_false, Bool.true_and, Bool.and_true]
      refine (if_neg (not_not_intro hcode)).trans ?_
      have htok : Config.video (0 :: x.std :: (if x.ten then 1 else 0) :: x.hist :: bytes.map BitVec.toNat) = vcToken x bytes := rfl
      simp only [htok, Bool.false_eq_true, if_false, hkey', if_true, List.head?_nil, Option.bind_none, hi, Option.bind_some, hd, hws,
        State.fenceMax, hfence]
      rfl
    case len =>
      simp only [List.length_append, leBytes_length, List.length_take, List.length_replicate]
      omega
    case pic => rfl
    case size => rfl
    case hist => rfl
  obtain ⟨rep, z, damaged, hlen, hpic, hsize, hhist, heq⟩ := hrun
  have hok : (s.wrAll c.part (ws ++ [(leAt c.ext 16 8, rep)])).2 = 0 := by
    refine wrAll_ok (fun r hr => ?_)
    obtain hr | hr := List.mem_append.mp hr
    · exact hmap r hr
    · rw [List.mem_singleton.mp hr, hlen]
      exact hrep
  exact ⟨_, z, damaged, wrAll_memOnly .., hpic, hsize, hhist, heq.trans (if_neg (not_not_intro hok))⟩

end

/-- What a session put in its slot changes at most. -/
def SlotOnly (s t : State) : Prop := t = { s with vcs := t.vcs, mem := t.mem, bad := t.bad, weak := t.weak }

theorem SlotOnly.trans {s t u : State} (h : SlotOnly s t) (k : SlotOnly t u) : SlotOnly s u :=
  Eq.trans k (congrArg (fun x => { x with vcs := u.vcs, mem := u.mem, bad := u.bad, weak := u.weak }) h)

theorem MemOnly.slotOnly {s t : State} (h : MemOnly s t) : SlotOnly s t := (congrArg (fun x : State => { x with vcs := t.vcs }) h :)

theorem SlotOnly.modVc (s : State) (v : Nat) (f : VcEngine → VcEngine) : SlotOnly s (s.modVc v f) := rfl

theorem putSlot_slotOnly (s : State) (p v k : Nat) (z : VcSlot) : SlotOnly s (s.putSlot p v k z) :=
  (SlotOnly.modVc s v _).trans (wrAll_memOnly ..).slotOnly

theorem putSlot_slot (s : State) (p v k : Nat) (z : VcSlot) : (s.putSlot p v k z).vcSlot? v k = some z := by
  have hvcs : (s.putSlot p v k z).vcs = (s.modVc v (fun e => { e with slots := SMap.put e.slots k z })).vcs :=
    (congrArg State.vcs (wrAll_memOnly (s.modVc v (fun e => { e with slots := SMap.put e.slots k z })) p _) :)
  rw [State.vcSlot?, State.vc, hvcs, State.modVc, SMap.getD_put_same, SMap.get?_put_same]

/-- A counter of an engine's page, past an interrupt bit. -/
theorem fld_raise_vcPage (s : State) (v b : Nat) (f : Fld) (h : f.off < 0x1000 ∧ f.off ≠ 0x30) :
    (s.raise (vcPage v) b).fld (vcPage v) f = s.fld (vcPage v) f := by
  refine raise_fld _ _ _ _ _ ?_
  rw [regKey]
  split
  · simp only [vcPage, page]
    omega
  · omega

/-- What the end of a decode keeps and counts. -/
theorem decodeCounted_state (s : State) (c : InFlight) (v k : Nat) (z : VcSlot) (pixels damaged : Nat) :
    let t := s.decodeCounted c v k z pixels damaged
    t.vcSlot? v k = some z ∧ t.fld (vcPage v) Fld.VC_PIX_DEC_COUNT = satAdd 64 (s.fld (vcPage v) Fld.VC_PIX_DEC_COUNT) pixels ∧
    t.frames = s.frames ∧ t.rings = s.rings ∧ t.shape = s.shape ∧ t.host = s.host ∧
    ∀ d, s.cmdAt? c.ring c.seq = some d → ∃ d', t.cmdAt? c.ring c.seq = some d' := by
  have hslot := putSlot_slot s c.part v k z
  have hput := putSlot_slotOnly s c.part v k z
  dsimp only
  rw [State.decodeCounted]
  generalize s.putSlot c.part v k z = y at hslot hput
  have hregs : y.fld (vcPage v) Fld.VC_PIX_DEC_COUNT = s.fld (vcPage v) Fld.VC_PIX_DEC_COUNT := by
    rw [State.fld, State.fld, State.reg, State.reg, show y.regs = s.regs from (congrArg State.regs hput :)]
  have hcount : ((y.addFld (vcPage v) Fld.VC_PIX_DEC_COUNT pixels).addFld (vcPage v) Fld.VC_DAMAGED_COUNT damaged).fld (vcPage v)
      Fld.VC_PIX_DEC_COUNT = satAdd 64 (s.fld (vcPage v) Fld.VC_PIX_DEC_COUNT) pixels := by
    refine (fld_setFld_other _ _ (.inl (regKey_ne (by decide) (by decide) (by decide)))).trans ?_
    refine (fld_setFld_fits _ _ ⟨by decide, by decide, Nat.lt_of_le_of_lt (Nat.min_le_right ..) (by decide)⟩).trans ?_
    rw [hregs]
    rfl
  have hrel : RegsOutOnly y ((y.addFld (vcPage v) Fld.VC_PIX_DEC_COUNT pixels).addFld (vcPage v) Fld.VC_DAMAGED_COUNT damaged) :=
    (State.addFld_regsOutOnly ..).trans (State.addFld_regsOutOnly ..)
  generalize (y.addFld (vcPage v) Fld.VC_PIX_DEC_COUNT pixels).addFld (vcPage v) Fld.VC_DAMAGED_COUNT damaged = w at hcount hrel
  have hraise : (if damaged ≠ 0 then w.raise (vcPage v) 16 else w).fld (vcPage v) Fld.VC_PIX_DEC_COUNT = w.fld (vcPage v) Fld.VC_PIX_DEC_COUNT := by
    split
    · exact fld_raise_vcPage _ _ _ _ (by decide)
    · rfl
  have hrel' : RegsOutOnly w (if damaged ≠ 0 then w.raise (vcPage v) 16 else w) := by
    split
    · exact State.raise_regsOutOnly ..
    · rfl
  generalize (if damaged ≠ 0 then w.raise (vcPage v) 16 else w) = u at hraise hrel'
  have hall : u = { s with regs := u.regs, out := u.out, vcs := y.vcs, mem := y.mem, bad := y.bad, weak := y.weak } :=
    Eq.trans (hrel.trans hrel') (congrArg (fun x : State => { x with regs := u.regs, out := u.out }) hput)
  refine ⟨?_, hraise.trans hcount, (congrArg State.frames hall :), (congrArg State.rings hall :), (congrArg State.shape hall :),
    (congrArg State.host hall :), fun d hd => ⟨_, cmdAt?_modCmd (c := d) ?_ _ (fun _ => ⟨rfl, rfl⟩)⟩⟩
  · rw [← hslot, State.vcSlot?, State.vcSlot?, State.vc, State.vc]
    exact congrArg (fun m => SMap.get? (SMap.getD m v {}).slots k) (congrArg State.vcs hall :)
  · exact (cmdAt?_congr (congrArg State.cmds hall :) _ _).trans hd

/-! ### Picture commands start (R330, R335) -/

/-- A picture command at the head of its engine's queue runs. -/
theorem vcPictureStart_runs {s : State} {c : InFlight} {v : Nat} {x : VcSlot} (hv : s.vcOf? c = some v)
    (hclosing : s.vcClosing v (vcSlotNo c) = false) (hqueue : s.vcQueue v = []) (hprog : c.prog = []) (hearly : s.vcEarlier v c [0x74] = false)
    (hk : (s.modVc v (fun e => { e with queue := [(c.ring, c.seq)] })).vcSlot? v (vcSlotNo c) = some x)
    (hst : x.st = if c.cmd.op = 0x72 then 1 else 2) : s.vcPictureStart c =
      if c.cmd.op = 0x72 then (s.modVc v (fun e => { e with queue := [(c.ring, c.seq)] })).vcDecodeRun c v (vcSlotNo c) x
      else (s.modVc v (fun e => { e with queue := [(c.ring, c.seq)] })).vcEncodeRun c v (vcSlotNo c) x := by
  rw [State.vcPictureStart, hv]
  dsimp only
  rw [hclosing, if_neg Bool.false_ne_true, State.vcPictureRun, hv]
  dsimp only
  rw [hqueue]
  simp only [List.contains_nil, Bool.false_eq_true, if_false, List.nil_append]
  refine (if_neg ?_).trans ?_
  · rw [not_or, not_or]
    exact ⟨by simp, by simpa using hprog, fun h => Bool.false_ne_true (hearly.symm.trans h)⟩
  · rw [hk]
    exact if_neg (not_not_intro hst)

/-- What the end of a decode leaves of the state its picture was written to. -/
theorem decodeCounted_ended {s w : State} {c : InFlight} {v k : Nat} {z : VcSlot} {pixels damaged good : Nat} {d : InFlight}
    (hat : s.cmdAt? c.ring c.seq = some d) (hw : MemOnly s w) :
    let t := ((w.decodeCounted c v k z pixels damaged).observe.endCmd c.ring c.seq 0 good).observe
    t.endedWith c.ring c.seq 0 good ∧ t.vcSlot? v k = some z ∧
    t.fld (vcPage v) Fld.VC_PIX_DEC_COUNT = satAdd 64 (s.fld (vcPage v) Fld.VC_PIX_DEC_COUNT) pixels ∧
    t.frames = s.frames ∧ t.rings = s.rings ∧ t.shape = s.shape ∧ t.host = s.host := by
  obtain ⟨hslot, hcount, hframes, hrings, hshape, hhost, hcmd⟩ := decodeCounted_state w c v k z pixels damaged
  obtain ⟨d', hd'⟩ := hcmd d ((cmdAt?_congr hw.cmds _ _).trans hat)
  obtain ⟨hend, -⟩ := observe_endCmd_endedFrom hd' 0 good
  have hfld : w.fld (vcPage v) Fld.VC_PIX_DEC_COUNT = s.fld (vcPage v) Fld.VC_PIX_DEC_COUNT := by
    rw [State.fld, State.fld, State.reg, State.reg, show w.regs = s.regs from (congrArg State.regs hw :)]
  rw [hfld] at hcount
  exact ⟨hend, hslot, hcount, hframes.trans (congrArg State.frames hw :), hrings.trans (congrArg State.rings hw :),
    hshape.trans (congrArg State.shape hw :), hhost.trans (congrArg State.host hw :)⟩

/-! ### Encoding (R340 to R345) -/

theorem filterMap_range_getElem? {α β : Type} (l : List α) (f : Nat → α → β) (i : Nat) :
    ((List.range l.length).filterMap (fun j => (l[j]?).map (f j)))[i]? = (l[i]?).map (f i) := by
  have hmap (n : Nat) : (List.range n).filterMap (fun j => (l[j]?).map (f j)) = (l.take n).mapIdx f := by
    induction n with
    | zero => rfl
    | succ n ih =>
      rw [List.range_succ, List.filterMap_append, ih]
      by_cases hn : n < l.length
      · have htake : (l.take n).length = n := List.length_take_of_le (Nat.le_of_lt hn)
        rw [← List.take_append_getElem hn, List.mapIdx_concat, htake, List.filterMap_cons, List.getElem?_eq_getElem hn]
        rfl
      · have hlast : [n].filterMap (fun j => (l[j]?).map (f j)) = [] := by
          rw [List.filterMap_cons, List.getElem?_eq_none (Nat.le_of_not_lt hn)]
          rfl
        rw [hlast, List.append_nil, List.take_of_length_le (Nat.le_of_not_lt hn), List.take_of_length_le (by omega)]
  rw [hmap, List.take_length, List.getElem?_mapIdx]

section
variable {s : State} {c : InFlight} {v k : Nat} {x : VcSlot}

theorem vcEncodeRun_stops (h : x.encodeCode c.ext ≠ 0) : s.vcEncodeRun c v k x = s.endCmd c.ring c.seq (x.encodeCode c.ext) 0 := by
  rw [State.vcEncodeRun]
  exact if_pos h

/-- The buffers of a session with one CURRENT. -/
def VcSlot.currentBufs (x : VcSlot) (i : Nat) : List VcBuf := (List.range x.bufs.length).filterMap (fun j => (x.bufs[j]?).map (fun d =>
  if j = i then { d with mark := d.mark % 8 + 8 } else d))

/-- With a row fence an encode takes a buffer and waits for its rows. -/
theorem vcEncodeRun_waits (h : x.encodeCode c.ext = 0) (hroi : leAt c.ext 72 8 = 0) (hfence : leAt c.ext 48 8 ≠ 0) {i : Nat} (hi : x.free? = some i) :
    ∃ e : EncRun, e.row = 0 ∧ e.buf = i ∧ s.vcEncodeRun c v k x = (((s.modVc v (fun y => { y with slots := SMap.put y.slots k { x with
      bufs := x.currentBufs i } })).modCmd c.ring c.seq (fun z => { z with prog := e.toList })).wrAll c.part
        [(x.pool + 64 * i + 36, leBytes 1 8)]).1 := by
  refine ⟨?e, ?row, ?buf, ?eq⟩
  case eq =>
    rw [State.vcEncodeRun]
    dsimp only
    rw [if_neg (not_not_intro h), if_neg (fun hn => hn.1 hroi), State.vcRoi, if_pos hroi, hi]
    dsimp only
    rw [if_pos hfence]
    rfl
  case row => rfl
  case buf => rfl

end

theorem ofList_toList (e : EncRun) : EncRun.ofList e.toList = e := rfl

/-- What an encode leaves that waits for its rows. -/
theorem encodeWaits_state {s : State} {c d : InFlight} {v k i : Nat} {x : VcSlot} {e : EncRun} {ws : List (Nat × List Byte)}
    (hat : s.cmdAt? c.ring c.seq = some d) (hph : d.phase = .started) (hi : x.free? = some i) :
    let t := ((((s.modVc v (fun y => { y with slots := SMap.put y.slots k { x with bufs := x.currentBufs i } })).modCmd c.ring c.seq
      (fun z => { z with prog := e.toList })).wrAll c.part ws).1).observe
    (∃ z, t.cmdAt? c.ring c.seq = some z ∧ z.phase = .started ∧ z.prog = e.toList) ∧
    (∃ z b, t.vcSlot? v k = some z ∧ z.bufs[i]? = some b ∧ b.mark / 8 % 2 = 1) ∧ t.rings = s.rings ∧ t.frames = s.frames ∧ t.regs = s.regs := by
  have hmem := wrAll_memOnly ((s.modVc v (fun y => { y with slots := SMap.put y.slots k { x with bufs := x.currentBufs i } })).modCmd c.ring
    c.seq (fun z => { z with prog := e.toList })) c.part ws
  obtain ⟨b, hb⟩ := free?_get hi
  have hcmd : ((s.modVc v (fun y => { y with slots := SMap.put y.slots k { x with bufs := x.currentBufs i } })).modCmd c.ring c.seq
      (fun z => { z with prog := e.toList })).cmdAt? c.ring c.seq = some { d with prog := e.toList } :=
    cmdAt?_modCmd (f := fun z => { z with prog := e.toList })
      (s := s.modVc v (fun y => { y with slots := SMap.put y.slots k { x with bufs := x.currentBufs i } })) hat (hf := fun _ => ⟨rfl, rfl⟩)
  obtain ⟨z, hz, hsame⟩ := cmdAt?_observe ((cmdAt?_congr hmem.cmds _ _).trans hcmd)
  refine ⟨⟨z, hz, ?_⟩, ⟨{ x with bufs := x.currentBufs i }, { b with mark := b.mark % 8 + 8 }, ?_, ?_, ?_⟩, (congrArg State.rings hmem :),
    (congrArg State.frames hmem :), (congrArg State.regs hmem :)⟩
  · rw [hsame]
    exact ⟨hph, rfl⟩
  · have hvcs : (State.wrAll _ c.part ws).1.vcs = _ := (congrArg State.vcs hmem :)
    refine (congrArg (fun m => SMap.get? (SMap.getD m v {}).slots k) hvcs).trans ?_
    rw [State.modCmd, State.modVc, SMap.getD_put_same, SMap.get?_put_same]
  · rw [VcSlot.currentBufs, filterMap_range_getElem?, hb, Option.map_some, if_pos rfl]
  · dsimp only
    omega

/-! ### The rows of an encode (R342, R345) -/

/-- A slice ends no row. -/
theorem vcSlice_row (s : State) (c : InFlight) (e : EncRun) : (s.vcSlice c e).2.1.row = e.row := by
  rw [State.vcSlice]
  dsimp only
  split
  · rfl
  · split
    · rfl
    · rfl

section
variable {s : State} {c : InFlight} {v k : Nat} {x : VcSlot} {src : List Byte}

/-- A run of a picture with its next CTU row coded from its source rows. -/
def VcSlot.rowCoded (x : VcSlot) (c : InFlight) (src : List Byte) : EncRun :=
  x.ctuRow (x.picType (leAt c.ext 36 4) (bitsAt c.ext 80 3 3 == 1) == 0) (if x.cap = 0 then 0 else x.budget)
    { EncRun.ofList c.prog with tok := Config.video (25 :: (EncRun.ofList c.prog).tok :: src.map BitVec.toNat) }

variable (hsrc : s.vcSource c.part x c.ext (EncRun.ofList c.prog).row = .ok src)
include hsrc

theorem vcEncodeRow_goes (hlast : (x.rowCoded c src).row ≠ x.rows) (hslice : x.sliceRows = 0 ∨ (x.rowCoded c src).row % x.sliceRows ≠ 0) :
    s.vcEncodeRow c v k x = s.modCmd c.ring c.seq (fun z => { z with prog := (x.rowCoded c src).toList }) := by
  have hends : ¬((x.rowCoded c src).row = x.rows ∨ x.sliceRows ≠ 0 ∧ (x.rowCoded c src).row % x.sliceRows = 0) := by
    rintro (h | ⟨h, h'⟩)
    · exact hlast h
    · exact hslice.elim h (fun hn => hn h')
  rw [VcSlot.rowCoded] at hlast hends ⊢
  rw [State.vcEncodeRow]
  dsimp only
  rw [hsrc]
  dsimp only
  rw [if_neg hends]
  dsimp only
  rw [if_neg (by decide), if_neg hlast]

/-- The last row's slice ends the picture, or stops it with the slice's code. -/
theorem vcEncodeRow_ends (hlast : (x.rowCoded c src).row = x.rows) :
    s.vcEncodeRow c v k x = if (s.vcSlice c (x.rowCoded c src)).2.2 = 0 then
        (s.vcSlice c (x.rowCoded c src)).1.vcEncodeEnd c v k x (s.vcSlice c (x.rowCoded c src)).2.1
      else (s.vcSlice c (x.rowCoded c src)).1.vcEncodeStop c v k x (s.vcSlice c (x.rowCoded c src)).2.1 (s.vcSlice c (x.rowCoded c src)).2.2 := by
  have hrow := (vcSlice_row s c (x.rowCoded c src)).trans hlast
  have hends : (x.rowCoded c src).row = x.rows ∨ x.sliceRows ≠ 0 ∧ (x.rowCoded c src).row % x.sliceRows = 0 := .inl hlast
  rw [VcSlot.rowCoded] at hends hrow ⊢
  rw [State.vcEncodeRow]
  dsimp only
  rw [hsrc]
  dsimp only
  rw [if_pos hends, ite_not, if_pos hrow]

end

/-- The next row of an encode in progress starts when its source fence allows. -/
theorem vcRowStart_working {s : State} {r q v key : Nat} {c : InFlight} {x : VcSlot} (h : s.working 0x73 r q c) (hprog : c.prog ≠ [])
    (hv : s.vcOf? c = some v) (hk : s.vcSlot? v (vcSlotNo c) = some x) (hkey : s.observe.xlate (some c.part) (leAt c.ext 48 8) = .ok key) :
    vcRowStart s r q = if s.observe.semAtLeast key (leAt c.ext 56 8 + x.need c.ext (EncRun.ofList c.prog).row) then
      s.observe.vcEncodeRow c v (vcSlotNo c) x else s.observe := by
  rw [vcRowStart, contCmd_working h, if_neg hprog, show s.observe.vcOf? c = some v from hv]
  dsimp only
  rw [show s.observe.vcSlot? v (vcSlotNo c) = some x from hk]
  dsimp only
  rw [hkey]

/-- Settles O40: a picture's checks, its bytes and its report, and an encode's rows, branch by branch. -/
theorem codecPictures : Obligations.CodecPictures := by
  unfold Obligations.CodecPictures
  refine ⟨?_, ?_⟩
  · intro r q v c x bytes s k u y b f tok w h hready hprog hv hclosing hqueue hearly hk hst hstd hbytes code held
    obtain ⟨rfl, rfl⟩ := cmdAt?_pos hready.1
    have hop : c.cmd.op = 0x72 := hready.2.1
    have hrun : vcDecodeCmd s c.ring c.seq = y.vcDecodeRun c v k x :=
      (contCmd_ready hready State.vcPictureStart State.vcPictureRun).trans
        ((vcPictureStart_runs hv hclosing hqueue hprog hearly hk (by rw [hst, if_pos hop])).trans (if_pos hop))
    refine ⟨fun hcode => done_eq (hrun.trans (vcDecodeRun_stops hstd hbytes hcode)), fun hfence hrep hbufs hcode hkey => ?_⟩
    obtain ⟨t, z, damaged, hmem, hpic, hsize, hhist, heq⟩ := vcDecodeRun_key (k := k) (v := v) hstd hbytes hcode hkey hfence hrep
      (fun d hd => ⟨(hbufs d hd).1, (hbufs d hd).2.1, (hbufs d hd).2.2⟩)
    obtain ⟨hend, hslot, hcount, hframes, hrings, hshape, hhost⟩ := decodeCounted_ended (s := y) (v := v) (k := k) (z := z) (damaged := damaged)
      (pixels := w * h) (good := (w * h + 2 * ceilDiv w 2 * ceilDiv h 2) * x.sz) (cmdAt?_atBegin hready) hmem
    exact ⟨_, done_eq (hrun.trans heq), hend, ⟨z, hslot, hpic, hsize, hhist⟩, hcount, hframes, hrings, hshape, hhost⟩
  · intro r q v c x s k b
    refine ⟨?_, ?_⟩
    · intro hready hprog u y hv hclosing hqueue hearly hk hst
      obtain ⟨rfl, rfl⟩ := cmdAt?_pos hready.1
      have hop : ¬c.cmd.op = 0x72 := by
        rw [hready.2.1]
        decide
      have hrun : vcEncodeCmd s c.ring c.seq = y.vcEncodeRun c v k x :=
        (contCmd_ready hready State.vcPictureStart State.vcPictureRun).trans
          ((vcPictureStart_runs hv hclosing hqueue hprog hearly hk (by rw [hst, if_neg hop])).trans (if_neg hop))
      refine ⟨fun hcode => done_eq (hrun.trans (vcEncodeRun_stops hcode)), fun hcode hroi hfence i hi => ?_⟩
      obtain ⟨e, hrow, hbuf, heq⟩ := vcEncodeRun_waits (s := y) (v := v) (k := k) hcode hroi hfence hi
      obtain ⟨⟨z, hz, hph, hzprog⟩, hslot, hrings, hframes, hregs⟩ := encodeWaits_state (s := y) (v := v) (k := k) (e := e)
        (ws := [(x.pool + 64 * i + 36, leBytes 1 8)]) (cmdAt?_atBegin hready) rfl hi
      refine ⟨_, done_eq (hrun.trans heq), ⟨z, hz, hph, ?_, ?_, ?_⟩, hslot, hrings, hframes, hregs⟩
      · rw [hzprog]
        exact List.cons_ne_nil _ _
      · rw [hzprog, ofList_toList, hrow]
      · rw [hzprog, ofList_toList, hbuf]
    · intro hwork hprog hv hk u e key hkey
      have hrun := vcRowStart_working hwork hprog hv hk hkey
      obtain ⟨hr, hq⟩ := cmdAt?_pos hwork.1
      refine ⟨fun hsem => done_eq (hrun.trans (if_neg (by rw [hsem]; exact Bool.false_ne_true))), fun hsem src hsrc => ?_⟩
      have hrow := hrun.trans (if_pos hsem)
      intro n
      refine ⟨fun hlast hslice => done_eq (hrow.trans ?_), fun hlast => ?_⟩
      · rw [vcEncodeRow_goes hsrc hlast hslice, hr, hq]
        rfl
      · intro m
        exact done_eq (hrow.trans (vcEncodeRow_ends hsrc hlast))

end Sys2Proof.Machine
end

section
/-! The Region Window Table, BAR2, placement confirms and address translation (R355 to R360), O41. -/
namespace Sys2Proof.Machine

open Sys2Proof

/-! ### Words read back -/

/-- A word written reads back. -/
theorem rds_wrs_same {s : State} (h : s.memWf) (k : Nat) (bs : List Byte) : (s.wrs k bs).rds k bs.length = bs := by
  induction bs generalizing s k with
  | nil => rfl
  | cons b bs ih =>
    have htail := ih (State.memWf_wr h k b) (k + 1)
    rw [State.rds, List.length_cons, List.range_succ_eq_map, List.map_cons, List.map_map]
    have hhead : (s.wrs k (b :: bs)).rd (k + 0) = b := by
      rw [State.wrs, State.rd_wrs_other (State.memWf_wr h k b) _ _ (.inl (by omega))]
      exact State.rd_wr_same h k b
    rw [hhead]
    refine congrArg (List.cons b) (Eq.trans (List.map_congr_left (fun i _ => ?_)) htail)
    exact congrArg (s.wrs k (b :: bs)).rd (by rw [Nat.succ_eq_add_one]; omega)

theorem rd64_wr64_same {s : State} (h : s.memWf) (k v : Nat) : (s.wr64 k v).rd64 k = v % 2 ^ 64 := by
  have hlen : (leBytes 8 v).length = 8 := leBytes_length 8 v
  have hsame := rds_wrs_same h k (leBytes 8 v)
  rw [hlen] at hsame
  have hpow : v % 256 ^ 8 = v % 2 ^ 64 := congrArg (fun n => v % n) (by decide)
  rw [State.rd64, State.wr64, hsame, leNat_leBytes, hpow]

/-! ### Waits observed twice -/

/-- A command with its waits looked at. -/
def State.lookedAt (s : State) (c : InFlight) : InFlight :=
  if c.saved || c.phase != .waiting then c
  else { c with
    met0 := c.met0 || c.wait0.elim true (fun k => s.semAtLeast k c.cmd.w0Val),
    met1 := c.met1 || c.wait1.elim true (fun k => s.semAtLeast k c.cmd.w1Val) }

theorem observe_eq (s : State) : s.observe = { s with cmds := s.cmds.map s.lookedAt } := by
  rw [State.observe]
  congr 1
  refine List.map_congr_left (fun c _ => ?_)
  rw [State.lookedAt]
  split
  · rfl
  · cases c.wait0 <;> cases c.wait1 <;> rfl

theorem lookedAt_lookedAt (s : State) (c : InFlight) : s.lookedAt (s.lookedAt c) = s.lookedAt c := by
  by_cases h : (c.saved || c.phase != .waiting) = true
  · have hc : s.lookedAt c = c := if_pos h
    rw [hc, hc]
  · have hc : s.lookedAt c = { c with
        met0 := c.met0 || c.wait0.elim true (fun k => s.semAtLeast k c.cmd.w0Val)
        met1 := c.met1 || c.wait1.elim true (fun k => s.semAtLeast k c.cmd.w1Val) } := if_neg h
    rw [hc]
    refine (if_neg h).trans ?_
    dsimp only
    rw [Bool.or_assoc, Bool.or_self, Bool.or_assoc, Bool.or_self]

/-- Waits observed are observed once and for all: the memory they look at has not changed. -/
theorem observe_observe (s : State) : s.observe.observe = s.observe := by
  have hsame (c : InFlight) : s.observe.lookedAt c = s.lookedAt c := rfl
  rw [observe_eq s.observe]
  have hcmds : s.observe.cmds.map s.observe.lookedAt = s.observe.cmds := by
    rw [observe_eq s, List.map_map]
    exact List.map_congr_left (fun c _ => lookedAt_lookedAt s c)
  rw [hcmds]

theorem observe_rd64 (s : State) (k : Nat) : s.observe.rd64 k = s.rd64 k := rfl

theorem MemOnly.observed {s t : State} (h : MemOnly s t) : t.observe = { s with
    mem := t.observe.mem, cmds := t.observe.cmds, bad := t.observe.bad, weak := t.observe.weak } :=
  (congrArg (fun x : State => { x with cmds := t.observe.cmds }) h :)

/-! ### BAR2 (R356, R359) -/

theorem keyOf_wr (s : State) (k : Nat) (v : Byte) (p a : Nat) : (s.wr k v).keyOf p a = s.keyOf p a := rfl

/-- Accepted bytes are written to memory alone, -/
theorem bar2Put_memOnly (s : State) (bytes : List (Nat × Nat)) (data : List Byte) : MemOnly s (s.bar2Put bytes data) := by
  induction bytes generalizing s data with
  | nil => exact MemOnly.refl s
  | cons b bytes ih =>
    cases data with
    | nil => exact MemOnly.refl s
    | cons d data => exact MemOnly.trans (t := s.wr (s.keyOf b.1 b.2) d) rfl (ih _ data)

/-- … and to the keys that their windows name. -/
theorem bar2Put_rd_other {s : State} (h : s.memWf) {bytes : List (Nat × Nat)} {k : Nat} (hk : ∀ b ∈ bytes, s.keyOf b.1 b.2 ≠ k) (data : List Byte) :
    (s.bar2Put bytes data).rd k = s.rd k := by
  induction bytes generalizing s data with
  | nil => rfl
  | cons b bytes ih =>
    cases data with
    | nil => rfl
    | cons d data =>
      obtain ⟨hb, hrest⟩ := List.forall_mem_cons.mp hk
      have htail := ih (s := s.wr (s.keyOf b.1 b.2) d) (State.memWf_wr h _ _) hrest data
      exact htail.trans (State.rd_wr_other h _ (Ne.symm hb))

section
variable {s : State} {who : Requester} {rid a : Nat} (harr : s.arrives who = true) (hheld : s.held = false)
include harr hheld

theorem bar2Write_missed {data : List Byte} (h : (List.range data.length).mapM (fun i => s.bar2Byte? who rid true (a + i)) = none) :
    bar2Write s who rid a data = s.rwtMiss who := by
  rw [bar2Write, harr, hheld, if_neg (by decide), h]

theorem bar2Write_lands {data : List Byte} {bytes : List (Nat × Nat)}
    (h : (List.range data.length).mapM (fun i => s.bar2Byte? who rid true (a + i)) = some bytes) (hcode : s.bar2Code bytes = none) :
    bar2Write s who rid a data = (s.bar2Put bytes data).observe := by
  rw [bar2Write, harr, hheld, if_neg (by decide), h]
  dsimp only
  rw [hcode]

theorem bar2Read_missed {len : Nat} (h : (List.range len).mapM (fun i => s.bar2Byte? who rid false (a + i)) = none) :
    bar2Read s who rid a len = (s.rwtMiss who).emit .completerAbort := by
  rw [bar2Read, harr, hheld, if_neg (by decide), if_neg (by decide), h]

theorem bar2Read_reads {len : Nat} {bytes : List (Nat × Nat)}
    (h : (List.range len).mapM (fun i => s.bar2Byte? who rid false (a + i)) = some bytes) (hcode : s.bar2Code bytes = none)
    (hgood : ∀ b ∈ bytes, s.bad.contains (s.keyOf b.1 b.2) = false) :
    bar2Read s who rid a len = s.emit (.data (bytes.map (fun b => s.rd (s.keyOf b.1 b.2)))) := by
  have hfind : bytes.find? (fun b => s.bad.contains (s.keyOf b.1 b.2)) = none :=
    List.find?_eq_none.mpr (fun b hb => by rw [hgood b hb]; exact Bool.false_ne_true)
  rw [bar2Read, harr, hheld, if_neg (by decide), if_neg (by decide), h]
  dsimp only
  rw [hcode]
  dsimp only
  rw [hfind]

end

/-! ### Entries of the table (R357) -/

section
variable {s : State} {who : Requester} {p : Nat} {v : Word64} (h : s.letsIn who (partPage p))

/-- The entry that a write of W0 spells. -/
def State.rwtSpelled (s : State) (p : Nat) (v : Word64) : RwtEntry :=
  rwtOf p v (match (s.part p).rwtW1 with | some x => x.2 | none => (s.rwtEntry (s.rwtSel p)).w1)
    (match (s.part p).rwtW2 with | some x => x.2 | none => (s.rwtEntry (s.rwtSel p)).w2)

theorem rwtSpelled_eq (s : State) (p : Nat) (v : Word64) : s.rwtSpelled p v =
    rwtOf p v (((s.part p).rwtW1.map (fun x => x.2)).getD (s.rwtEntry (s.rwtSel p)).w1)
      (((s.part p).rwtW2.map (fun x => x.2)).getD (s.rwtEntry (s.rwtSel p)).w2) := by
  rw [State.rwtSpelled]
  congr 1
  · cases (s.part p).rwtW1 <;> rfl
  · cases (s.part p).rwtW2 <;> rfl

/-- The end of a commit of an owned entry: refused for the field that breaks it, or stored whole. -/
def State.rwtCommitted (s : State) (p : Nat) (e : RwtEntry) : State :=
  match (if e.valid then s.rwtUnsound? e else none) with
  | some f => s.refuseF (partPage p) 0x0C01 f
  | none => ({ s with rwt := SMap.put s.rwt (s.rwtSel p) e } : State).modPart p (fun x => { x with rwtW1 := none, rwtW2 := none })

include h

theorem rwtEntryCommit_eq : rwtEntryCommit s who p v =
    if !s.rwtOwns p (s.rwtSel p) then s.refuseF (partPage p) 0x0C02 Fld.PART_RWT_SEL_ENTRY else s.rwtCommitted p (s.rwtSpelled p v) := by
  rw [rwtEntryCommit, letIn_letsIn h]
  rfl

theorem rwtEntryCommit_foreign (hown : s.rwtOwns p (s.rwtSel p) = false) :
    rwtEntryCommit s who p v = s.refuseF (partPage p) 0x0C02 Fld.PART_RWT_SEL_ENTRY := by
  rw [rwtEntryCommit_eq h, hown]
  rfl

theorem rwtEntryCommit_unsound (hown : s.rwtOwns p (s.rwtSel p) = true) (hvalid : (s.rwtSpelled p v).valid = true) {f : Fld}
    (hf : s.rwtUnsound? (s.rwtSpelled p v) = some f) : rwtEntryCommit s who p v = s.refuseF (partPage p) 0x0C01 f := by
  rw [rwtEntryCommit_eq h, hown, if_neg (by decide), State.rwtCommitted, if_pos hvalid, hf]

theorem rwtEntryCommit_stores (hown : s.rwtOwns p (s.rwtSel p) = true)
    (hf : (s.rwtSpelled p v).valid = true → s.rwtUnsound? (s.rwtSpelled p v) = none) : rwtEntryCommit s who p v =
      ({ s with rwt := SMap.put s.rwt (s.rwtSel p) (s.rwtSpelled p v) } : State).modPart p (fun x => { x with rwtW1 := none, rwtW2 := none }) := by
  have hnone : (if (s.rwtSpelled p v).valid then s.rwtUnsound? (s.rwtSpelled p v) else none) = none := by
    split
    · exact hf (by assumption)
    · rfl
  rw [rwtEntryCommit_eq h, hown, if_neg (by decide), State.rwtCommitted, hnone]

end

/-! ### Placement confirms (R360) -/

section
variable {s : State} {who : Requester} {p : Nat} {v : Word64} (h : s.letsIn who (partPage p))
include h

theorem placeDone_refused (hmine : ¬((s.rwtEntry (getBits v 14 0)).valid = true ∧ s.rwtOwns p (getBits v 14 0) = true ∧
    (s.rwtEntry (getBits v 14 0)).key = getBits v 31 16)) : placeDone s who p v = s.placeRefused who p := by
  rw [placeDone, letIn_letsIn h]
  exact if_pos (Decidable.byContradiction (fun hn => hmine (by simpa [and_assoc] using hn)))

variable (hmine : (s.rwtEntry (getBits v 14 0)).valid = true ∧ s.rwtOwns p (getBits v 14 0) = true ∧
    (s.rwtEntry (getBits v 14 0)).key = getBits v 31 16)
include hmine

theorem placeDone_silent (hsem : (s.rwtEntry (getBits v 14 0)).sem = 0) : placeDone s who p v = s := by
  obtain ⟨hvalid, hown, hkey⟩ := hmine
  rw [placeDone, letIn_letsIn h]
  dsimp only
  rw [if_neg (by simp [hvalid, hown, hkey])]
  exact if_pos hsem

/-- A confirm on the own entry adds to the entry's semaphore. -/
theorem placeDone_adds (hsem : (s.rwtEntry (getBits v 14 0)).sem ≠ 0) {k : Nat} (hk : s.xlate (some p) (s.rwtEntry (getBits v 14 0)).sem = .ok k)
    (hbad : s.badIn k 8 = false) : placeDone s who p v = (s.wr64 k ((s.rd64 k + getBits v 63 32) % 2 ^ 64)).observe := by
  obtain ⟨hvalid, hown, hkey⟩ := hmine
  rw [placeDone, letIn_letsIn h]
  dsimp only
  rw [if_neg (by simp [hvalid, hown, hkey]), if_neg hsem, hk]
  dsimp only
  rw [State.applySignal, if_neg (by rw [hbad]; simp)]
  rfl

end

/-- Settles O41: the table's window, BAR2's windows, confirms and ATS by the branches of their requests. -/
theorem hostWindow : Obligations.HostWindow := by
  unfold Obligations.HostWindow
  refine ⟨?_, ?_⟩
  · intro who rid a s harr hheld
    refine ⟨fun data => ⟨fun h => done_eq (bar2Write_missed harr hheld h), fun bytes h hcode => ⟨?_, bar2Put_memOnly s bytes data,
      fun k hwf hk => bar2Put_rd_other hwf hk data⟩⟩, fun len => ⟨fun h => done_eq (bar2Read_missed harr hheld h),
      fun bytes h hcode hgood => done_eq (bar2Read_reads harr hheld h hcode hgood)⟩⟩
    exact (done_eq (bar2Write_lands harr hheld h hcode)).trans (congrArg _ (observe_observe _))
  · intro who p v s i old e
    have he : s.rwtSpelled p v = e := rwtSpelled_eq s p v
    refine ⟨fun h => ⟨fun hown => done_eq (rwtEntryCommit_foreign h hown), fun hown hvalid f hf => ?_, fun hown hf => ?_⟩, fun harr hread => ?_,
      fun h => ?_, fun hp b n h => done_eq (if_pos h)⟩
    · rw [← he] at hvalid hf
      exact done_eq (rwtEntryCommit_unsound h hown hvalid hf)
    · rw [← he] at hf ⊢
      exact done_eq (rwtEntryCommit_stores h hown hf)
    · exact done_eq (if_pos (by rw [harr, hread]; rfl))
    · intro w mine
      refine ⟨fun hm => done_eq (placeDone_refused h hm), fun hm hsem => done_eq (placeDone_silent h hm hsem),
        fun hm hsem hwf k hk hbad => ⟨_, done_eq (placeDone_adds h hm hsem hk hbad), ?_, ?_⟩⟩
      · rw [observe_observe, observe_rd64, rd64_wr64_same hwf, Nat.mod_mod]
      · rw [observe_observe]
        exact (MemOnly.wr64 s k _).observed

end Sys2Proof.Machine
end

section
/-! MOVE, piece by piece (R361), O42. -/
namespace Sys2Proof.Machine

open Sys2Proof

/-- What a copied byte changes: host memory for a host destination, device memory for a device one. -/
structure MovedOnly (toHost : Bool) (s t : State) : Prop where
  rel : t = { s with mem := t.mem, bad := t.bad, weak := t.weak, host := t.host }
  host : toHost = false → t.host = s.host
  mem : toHost = true → t.mem = s.mem

theorem MovedOnly.refl (b : Bool) (s : State) : MovedOnly b s s := ⟨rfl, fun _ => rfl, fun _ => rfl⟩

theorem MovedOnly.trans {b : Bool} {s t u : State} (h : MovedOnly b s t) (k : MovedOnly b t u) : MovedOnly b s u :=
  ⟨Eq.trans k.rel (congrArg (fun x => { x with mem := u.mem, bad := u.bad, weak := u.weak, host := u.host }) h.rel),
    fun hb => (k.host hb).trans (h.host hb), fun hb => (k.mem hb).trans (h.mem hb)⟩

theorem moveByte_moved {s t : State} {c : InFlight} {d : MoveDesc} {i : Nat} (h : s.moveByte c d i = .ok t) : MovedOnly d.dstHost s t := by
  rw [State.moveByte] at h
  dsimp only at h
  split at h
  · exact absurd h (by simp)
  · split at h
    · rename_i hd
      split at h
      · obtain rfl := Except.ok.inj h
        exact ⟨rfl, fun hb => absurd (hd.symm.trans hb) (by decide), fun _ => rfl⟩
      · exact absurd h (by simp)
    · rename_i hd
      split at h
      · exact absurd h (by simp)
      · obtain rfl := Except.ok.inj h
        exact ⟨rfl, fun _ => rfl, fun hb => absurd hb hd⟩

/-- A byte that is not copied stops the piece with a code. -/
theorem moveByte_error_ne_zero {s : State} {c : InFlight} {d : MoveDesc} {i : Nat} {e : Code} (h : s.moveByte c d i = .error e) : e ≠ 0 := by
  rw [State.moveByte] at h
  dsimp only at h
  split at h
  · rename_i e' hgot
    obtain rfl := Except.error.inj h
    split at hgot
    · split at hgot
      · exact absurd hgot (by simp)
      · rename_i hne
        obtain rfl := Except.error.inj hgot
        exact hne
    · split at hgot
      · rename_i hx
        obtain rfl := Except.error.inj hgot
        exact xlate_error_ne_zero hx
      · split at hgot
        · obtain rfl := Except.error.inj hgot
          decide
        · exact absurd hgot (by simp)
  · split at h
    · split at h
      · exact absurd h (by simp)
      · rename_i hne
        obtain rfl := Except.error.inj h
        exact hne
    · split at h
      · rename_i hx
        obtain rfl := Except.error.inj h
        exact xlate_error_ne_zero hx
      · exact absurd h (by simp)

/-- A piece changes only the memory of its destination, and without a fault it is copied whole. -/
theorem movePiece_moved (s : State) (c : InFlight) (d : MoveDesc) (i n : Nat) : MovedOnly d.dstHost s (s.movePiece c d i n).1 ∧
    ((s.movePiece c d i n).2.2 = 0 → (s.movePiece c d i n).2.1 = i + n) := by
  induction n generalizing s i with
  | zero => exact ⟨.refl _ s, fun _ => rfl⟩
  | succ n ih =>
    rw [State.movePiece]
    cases hb : s.moveByte c d i with
    | error e => exact ⟨.refl _ s, fun he => absurd he (moveByte_error_ne_zero hb)⟩
    | ok t =>
      obtain ⟨hrel, hnext⟩ := ih t (i + 1)
      exact ⟨(moveByte_moved hb).trans hrel, fun he => (hnext he).trans (by omega)⟩

/-! ### A piece's end -/

section
variable {s : State} {r q : Nat} {c : InFlight} (h : s.working 0x10 r q c)

/-- The piece that a MOVE in progress copies next: the state, the next byte and the code that stopped it. -/
def State.nextPiece (s : State) (c : InFlight) : State × Nat × Code :=
  s.observe.movePiece c (moveDesc c.ext) (c.prog.head?.getD 0)
    (min 4096 ((moveDesc c.ext).rb * (moveDesc c.ext).rows - c.prog.head?.getD 0))

/-- The command after a piece: its progress, its bytes and its port. -/
def State.pieceNoted (s : State) (r q : Nat) (c : InFlight) : State :=
  ((s.nextPiece c).1.modCmd r q (fun z => { z with
    prog := [(s.nextPiece c).2.1], good := if (moveDesc c.ext).dstHost then 0 else (s.nextPiece c).2.1
    ports := if (moveDesc c.ext).dstHost then [(moveDesc c.ext).port] else z.ports })).observe

include h

theorem moveCmd_next : moveCmd s r q = if (s.nextPiece c).2.2 ≠ 0 then
      (s.pieceNoted r q c).stopCmd c (s.nextPiece c).2.2 (if (moveDesc c.ext).dstHost then 0 else (s.nextPiece c).2.1)
        ((moveDesc c.ext).src + (s.nextPiece c).2.1 / (moveDesc c.ext).rb * (moveDesc c.ext).sstr + (s.nextPiece c).2.1 % (moveDesc c.ext).rb) 1
    else if (moveDesc c.ext).rb * (moveDesc c.ext).rows ≤ (s.nextPiece c).2.1 then
      (s.pieceNoted r q c).endCmd r q 0 ((moveDesc c.ext).rb * (moveDesc c.ext).rows)
    else s.pieceNoted r q c := by
  obtain ⟨rfl, rfl⟩ := cmdAt?_pos h.1
  rw [moveCmd, contCmd_working h, State.moveNext, h.1]
  rfl

theorem pieceNoted_state : (∃ d, (s.pieceNoted r q c).cmdAt? r q = some d) ∧ s.pieceNoted r q c = { (s.nextPiece c).1 with
    cmds := (s.pieceNoted r q c).cmds } := by
  obtain ⟨hrel, -⟩ := movePiece_moved s.observe c (moveDesc c.ext) (c.prog.head?.getD 0)
    (min 4096 ((moveDesc c.ext).rb * (moveDesc c.ext).rows - c.prog.head?.getD 0))
  have hat : (s.nextPiece c).1.cmdAt? r q = some c := (cmdAt?_congr (congrArg State.cmds hrel.rel :) r q).trans h.1
  obtain ⟨d, hd, -⟩ := cmdAt?_observe (cmdAt?_modCmd hat (fun z => { z with
    prog := [(s.nextPiece c).2.1], good := if (moveDesc c.ext).dstHost then 0 else (s.nextPiece c).2.1
    ports := if (moveDesc c.ext).dstHost then [(moveDesc c.ext).port] else z.ports }) (fun _ => ⟨rfl, rfl⟩))
  exact ⟨⟨d, hd⟩, rfl⟩

end

/-- A MOVE that has ended after its last piece. -/
theorem endedPiece_state {b : Bool} {s x y t : State} (hrel : MovedOnly b s.observe x) (hy : y = { x with cmds := y.cmds })
    (ht : t = { y with cmds := t.cmds }) : t.mem = x.mem ∧ t.host = x.host ∧ (b = false → t.host = s.host) ∧ (b = true → t.mem = s.mem) ∧
      t.rings = s.rings ∧ t.frames = s.frames ∧ t.shape = s.shape ∧ t.regs = s.regs := by
  have hx := hrel.rel
  have htx : t = { x with cmds := t.cmds } := Eq.trans ht (congrArg (fun z => { z with cmds := t.cmds }) hy)
  exact ⟨(congrArg State.mem htx :), (congrArg State.host htx :), fun hb => (congrArg State.host htx :).trans (hrel.host hb),
    fun hb => (congrArg State.mem htx :).trans (hrel.mem hb), (congrArg State.rings htx :).trans (congrArg State.rings hx :),
    (congrArg State.frames htx :).trans (congrArg State.frames hx :), (congrArg State.shape htx :).trans (congrArg State.shape hx :),
    (congrArg State.regs htx :).trans (congrArg State.regs hx :)⟩

/-- Settles O42: a piece is followed byte by byte, and its end by its branches. -/
theorem moveCopies : Obligations.MoveCopies := by
  unfold Obligations.MoveCopies
  intro r q c s h u d i x y
  have hrun := moveCmd_next h
  obtain ⟨hrel, hnext⟩ := movePiece_moved s.observe c (moveDesc c.ext) (c.prog.head?.getD 0)
    (min 4096 ((moveDesc c.ext).rb * (moveDesc c.ext).rows - c.prog.head?.getD 0))
  obtain ⟨⟨z, hz⟩, hnoted⟩ := pieceNoted_state h
  have hx : s.nextPiece c = x := rfl
  have hy : s.pieceNoted r q c = y := rfl
  refine ⟨fun hcode htotal => ?_, fun hcode htotal => ⟨done_eq (hrun.trans ?_), (hnext hcode).trans ?_⟩, fun hcode hbad => done_eq (hrun.trans ?_)⟩
  · have hend : (moveDesc c.ext).rb * (moveDesc c.ext).rows ≤ x.2.1 := by
      rw [show x.2.1 = _ from hnext hcode]
      have htotal' : (moveDesc c.ext).rb * (moveDesc c.ext).rows ≤ c.prog.head?.getD 0 + 4096 := htotal
      omega
    obtain ⟨hended, heq⟩ := endCmd_endedFrom hz 0 ((moveDesc c.ext).rb * (moveDesc c.ext).rows)
    refine ⟨_, done_eq (hrun.trans ((if_neg (not_not_intro hcode)).trans (if_pos hend))), hended, ?_⟩
    exact endedPiece_state hrel hnoted heq
  · have htotal' : c.prog.head?.getD 0 + 4096 < (moveDesc c.ext).rb * (moveDesc c.ext).rows := htotal
    refine (if_neg (not_not_intro hcode)).trans (if_neg ?_)
    rw [show (s.nextPiece c).2.1 = _ from hnext hcode]
    omega
  · have htotal' : c.prog.head?.getD 0 + 4096 < (moveDesc c.ext).rb * (moveDesc c.ext).rows := htotal
    have hi : i = c.prog.head?.getD 0 := rfl
    rw [hi, Nat.min_eq_left (by omega)]
  · rw [if_pos (show (s.nextPiece c).2.2 ≠ 0 from hcode), State.stopCmd, if_neg (show ¬(s.nextPiece c).2.2 = 0xF001 from hbad), hx, hy]
    obtain ⟨hr, hq⟩ := cmdAt?_pos h.1
    rw [hr, hq]

end Sys2Proof.Machine
end

section
/-! The runtime channel (R364, R365, R416, R417), O43. -/
namespace Sys2Proof.Machine

open Sys2Proof

/-! ### Requests taken and answered -/

/-- The stroke counter lies at another offset of its page than the pointers of a channel. -/
theorem strokeNo_rtTake (s : State) (p : Nat) : (s.rtTake p).strokeNo = s.strokeNo := by
  have hkey : strPage + Reg.STR_COUNT ≠ regKey (partPage p) Fld.PART_RT_PTR_REQ_HEAD.off := by
    have hoff : Fld.PART_RT_PTR_REQ_HEAD.off = 0xA48 := rfl
    have hstr : strPage + Reg.STR_COUNT = 0x2000148 := rfl
    rw [regKey, partPage, page, hoff, hstr]
    split <;> omega
  rw [State.strokeNo, State.rtTake, State.setFld, State.reg_setReg_other _ _ hkey]
  rfl

/-- What answering changes: registers, the host's memory and the outputs. -/
def Answered (s t : State) : Prop := t = { s with regs := t.regs, host := t.host, out := t.out }

theorem Answered.trans {s t u : State} (h : Answered s t) (k : Answered t u) : Answered s u :=
  Eq.trans k (congrArg (fun x : State => { x with regs := u.regs, host := u.host, out := u.out }) h)

theorem rtTake_answered (s : State) (p : Nat) : Answered s (s.rtTake p) := rfl

theorem hwrs_answered (s : State) (k : Nat) (bs : List Byte) : Answered s (s.hwrs k bs) := by
  induction bs generalizing s k with
  | nil => rfl
  | cons b bs ih => exact Answered.trans (t := s.hwr k b) rfl (ih ..)

/-- A response's bytes, its tail and its vector. -/
theorem respondAt_answered (s : State) (p t a : Nat) (bytes : List Byte) :
    Answered s ((((s.wrHost (s.rtPort p) a bytes).setFld (partPage p) Fld.PART_RT_PTR_RSP_TAIL (t + 1)).emit
      (.msix (((s.wrHost (s.rtPort p) a bytes).setFld (partPage p) Fld.PART_RT_PTR_RSP_TAIL (t + 1)).rtPort p)
        (if ((s.wrHost (s.rtPort p) a bytes).setFld (partPage p) Fld.PART_RT_PTR_RSP_TAIL (t + 1)).fld (partPage p) Fld.PART_RT_CFG_FUNC = 1
          then 0 else ((s.wrHost (s.rtPort p) a bytes).setFld (partPage p) Fld.PART_RT_PTR_RSP_TAIL (t + 1)).fnOf
            (((s.wrHost (s.rtPort p) a bytes).setFld (partPage p) Fld.PART_RT_PTR_RSP_TAIL (t + 1)).rtPort p) p) 2))) := by
  have h := hwrs_answered s (hostKey (s.rtPort p) a) bytes
  rw [State.wrHost]
  generalize s.hwrs (hostKey (s.rtPort p) a) bytes = x at h
  exact h.trans rfl

theorem rtRespond_answered (s : State) (p tag status r1 r2 : Nat) : Answered s (s.rtRespond p tag status r1 r2) :=
  respondAt_answered s p _ _ _

theorem rtUnknown_answered (s : State) (p n : Nat) : Answered s (s.rtUnknown p n) := by
  induction n generalizing s with
  | zero => rfl
  | succ n ih =>
    rw [State.rtUnknown]
    split
    · rfl
    · split
      · rfl
      · exact ((rtTake_answered s p).trans (rtRespond_answered ..)).trans (ih _)

/-! ### The doorbell (R364) -/

section
variable {s : State} {p n : Nat} {b : List Byte}

theorem rtUnknown_none (h : s.rtReq? p = none) : s.rtUnknown p (n + 1) = s := by
  rw [State.rtUnknown, h]

theorem rtUnknown_known (h : s.rtReq? p = some b) (hlow : 1 ≤ leAt b 0 1) (hhigh : leAt b 0 1 ≤ 8) : s.rtUnknown p (n + 1) = s := by
  rw [State.rtUnknown, h]
  exact if_pos ⟨hlow, hhigh⟩

theorem rtUnknown_unknown (h : s.rtReq? p = some b) (hop : leAt b 0 1 = 0 ∨ 8 < leAt b 0 1) :
    s.rtUnknown p (n + 1) = ((s.rtTake p).rtRespond p (leAt b 2 2) 0x0C0D 0 0).rtUnknown p n := by
  rw [State.rtUnknown, h]
  exact if_neg (fun ⟨hlow, hhigh⟩ => by omega)

end

/-! ### MODEL_LOAD -/

section
variable {s : State} {p : Nat} {b : List Byte} (hreq : s.rtReq? p = some b)
include hreq

theorem modelLoad_misaligned (hop : leAt b 0 1 = 1) (hsrc : leAt b 16 8 % 4096 ≠ 0) (list : Nat) (rs : List (Nat × Nat)) :
    modelLoad s p list rs = ((s.rtTake p).rtFail p b 0x0C0E).rtUnknown p 4096 := by
  rw [modelLoad, rtServe_of_rtReq? hreq hop]
  dsimp only
  rw [if_pos (by simp [hsrc])]

/-- The entry that a load writes, PINS and state LOADING included. -/
def State.loadingEntry (s : State) (p list count gen : Nat) (b : List Byte) : List Byte :=
  leBytes 8 (leAt b 8 8) ++ leBytes 6 list ++ leBytes 2 count ++ leBytes 8 (leAt b 24 8) ++ leBytes 6 s.strokeNo ++ leBytes 2 0 ++
    leBytes 1 (p % 64 + 64) ++ leBytes 3 0 ++ leBytes 4 gen ++ leBytes 8 (leAt b 16 8) ++ leBytes 16 0

theorem modelLoad_begins (hop : leAt b 0 1 = 1) (hclean : rtClean b [(8, 8), (16, 8), (24, 8), (32, 1)] = true)
    (hsrc : leAt b 16 8 % 4096 = 0) (hne : leAt b 24 8 ≠ 0) (hmax : leAt b 24 8 ≤ 2 ^ 40) (hpin : leAt b 32 1 ≤ 1) {i list : Nat}
    {rs : List (Nat × Nat)} (hpick : (s.rtTake p).rmtPick p = some (i, none)) (hfit : (s.rtTake p).regionsFit p list (leAt b 24 8) rs = true) :
    modelLoad s p list rs =
      (((((s.rtTake p).wrDev none list (rs.flatMap (fun r => leBytes 8 r.1 ++ leBytes 8 r.2))).1.rmtWrite i 0
        (s.loadingEntry p list rs.length (match (s.rtTake p).rmt? i with | some e => leAt e 36 4 + 1 | none => 1) b)).modPart p
          (fun x => { x with rtLoads := x.rtLoads ++ [⟨leAt b 2 2, i, leAt b 32 1 == 1⟩] }))).rtUnknown p 4096 := by
  have hstroke : ((s.rtTake p).wrDev none list (rs.flatMap (fun r => leBytes 8 r.1 ++ leBytes 8 r.2))).1.strokeNo = s.strokeNo := by
    rw [State.strokeNo, State.reg, wrDev_regs]
    exact strokeNo_rtTake s p
  rw [modelLoad, rtServe_of_rtReq? hreq hop]
  dsimp only
  rw [if_neg (by simp [hclean, hsrc, hne, Nat.not_lt_of_le hmax, Nat.not_lt_of_le hpin, -Nat.reducePow]), hpick]
  dsimp only
  rw [if_neg (by simp [hfit]), hstroke]
  rfl

end

/-! ### MODEL_LOAD_DONE, MODEL_EVICT and MODEL_PIN -/

theorem modelLoadDone_loaded {s : State} {p : Nat} {l : RtLoad} {rest : List RtLoad} {e : List Byte} (hloads : (s.part p).rtLoads = l :: rest)
    (hon : s.rtOn p = true) (hentry : s.rmt? l.idx = some e)
    (hcode : (s.modPart p (fun x => { x with rtLoads := rest })).hostCode ((s.modPart p (fun x => { x with rtLoads := rest })).rtPort p) p
      (leAt e 40 8) (leAt e 16 8) = 0) :
    modelLoadDone s p = ((((s.modPart p (fun x => { x with rtLoads := rest })).loadRegions p
      ((s.modPart p (fun x => { x with rtLoads := rest })).rtPort p) (leAt e 40 8)
        ((s.modPart p (fun x => { x with rtLoads := rest })).rmtRegions e)).rmtWrite l.idx 30
      (leBytes 2 (if l.pin then 1 else 0) ++ leBytes 1 (p % 64 + 128))).rtRespond p l.tag 0 (l.idx + leAt e 36 4 * 2 ^ 32)
      ((((s.modPart p (fun x => { x with rtLoads := rest })).rmtRegions e).head?.map (fun r => r.1)).getD 0)) := by
  rw [modelLoadDone, hloads]
  dsimp only
  rw [if_neg (by simp [hon]), hentry]
  exact if_neg (not_not_intro hcode)

/-- A context that may be destroyed: READY, SUSPENDED or ABORTED. -/
def CtxSt.atRest : CtxSt → Bool
  | .ready | .suspended | .aborted => true
  | _ => false

theorem CtxSt.atRest_iff (st : CtxSt) : st.atRest = true ↔ st = .ready ∨ st = .suspended ∨ st = .aborted := by
  cases st <;> simp [CtxSt.atRest]

section
variable {s : State} {p : Nat} {b : List Byte} (hreq : s.rtReq? p = some b)
include hreq

theorem modelEvict_unknown (hop : leAt b 0 1 = 2) (hclean : rtClean b [(8, 2)] = true) (hentry : (s.rtTake p).rmtOf? p (leAt b 8 2) = none) :
    modelEvict s p = ((s.rtTake p).rtFail p b 0x0C0E).rtUnknown p 4096 := by
  rw [modelEvict, rtServe_of_rtReq? hreq hop]
  dsimp only
  rw [if_neg (by simp [hclean]), hentry]

theorem modelPin_counts (hop : leAt b 0 1 = 3) (hclean : rtClean b [(8, 2), (12, 1)] = true)
    (hstep : sleAt b 12 1 = 1 ∨ sleAt b 12 1 = -1) {e : List Byte} (hentry : (s.rtTake p).rmtOf? p (leAt b 8 2) = some e)
    (hlow : 0 ≤ (rmtPins e : Int) + sleAt b 12 1) (hhigh : (rmtPins e : Int) + sleAt b 12 1 ≤ 65535) :
    modelPin s p = (((s.rtTake p).pinModel (leAt b 8 2) (sleAt b 12 1)).rtRespond p (leAt b 2 2) 0
      ((rmtPins e : Int) + sleAt b 12 1).toNat 0).rtUnknown p 4096 := by
  rw [modelPin, rtServe_of_rtReq? hreq hop]
  dsimp only
  rw [if_neg (by rcases hstep with h | h <;> simp [hclean, h]), hentry]
  dsimp only
  rw [if_neg (by omega)]

/-! ### CONTEXT_CREATE, CONTEXT_DESTROY and TIER_POLICY -/

theorem contextCreate_enables (hop : leAt b 0 1 = 4) {map : Nat} {areas : List Nat} {x : Ctx} {ws : List Window}
    {bs : List (Nat × Nat) × List Nat}
    (hclean : rtClean b [(8, 1), (12, 4), (16, 4), (20, 1), (21, 1), (24, 8), (32, 1), (40, 8), (48, 1)] = true) (hn : leAt b 8 1 < 16)
    (hflag : leAt b 21 1 ≤ 1) (hempty : ((s.rtTake p).ctx p (leAt b 8 1)).st = .empty) (hctx : rtCtx? b map = .ok x)
    (hmap : ((s.rtTake p).wrDev (some p) map ((List.range 16).flatMap (fun d => leBytes 8 (areas.getD d 0)))).2.2 = 0)
    (hcheck : ((s.rtTake p).wrDev (some p) map ((List.range 16).flatMap (fun d => leBytes 8 (areas.getD d 0)))).1.ctxCheck p
      (leAt b 8 1) x = .ok (ws, bs)) :
    contextCreate s p map areas =
      ((((s.rtTake p).wrDev (some p) map ((List.range 16).flatMap (fun d => leBytes 8 (areas.getD d 0)))).1.makeReady p (leAt b 8 1)
        { x with wdLimit := ((s.rtTake p).ctx p (leAt b 8 1)).wdLimit } ws bs.1 bs.2).rtRespond p (leAt b 2 2) 0 (leAt b 8 1)
          map).rtUnknown p 4096 := by
  have hpick : (if leAt b 8 1 = 255 then ((s.rtTake p).ctxsIn p .empty).head?
      else if (((s.rtTake p).ctx p (leAt b 8 1)).st == .empty) = true then some (leAt b 8 1) else none) = some (leAt b 8 1) := by
    rw [if_neg (by omega), hempty]
    rfl
  rw [contextCreate, rtServe_of_rtReq? hreq hop]
  dsimp only
  rw [if_neg (by simp [hclean, hn, Nat.not_lt_of_le hflag]), hpick]
  dsimp only
  rw [hctx]
  dsimp only
  rw [if_neg (not_not_intro hmap), hcheck]

theorem contextDestroy_eq (hop : leAt b 0 1 = 5) (hclean : rtClean b [(8, 1)] = true) (hn : leAt b 8 1 < 16) :
    contextDestroy s p = (if (!((s.rtTake p).ctx p (leAt b 8 1)).st.atRest ||
        (s.rtTake p).rings.any (fun r => (s.rtTake p).ctxRing p (leAt b 8 1) r.1 && r.2.st != 0)) = true
      then (s.rtTake p).rtFail p b 0x0E09
      else ((s.rtTake p).emptyCtx p (leAt b 8 1)).rtRespond p (leAt b 2 2) 0 0 0).rtUnknown p 4096 := by
  rw [contextDestroy, rtServe_of_rtReq? hreq hop]
  dsimp only
  rw [if_neg (by simp [hclean, hn])]
  rfl

section
variable (hop : leAt b 0 1 = 6) (hclean : rtClean b [(8, 4), (12, 4), (16, 2), (18, 1), (19, 1)] = true) (hspill : leAt b 18 1 ≤ 2)
  (hpark : leAt b 19 1 ≤ 1) (hslots : (s.rtTake p).kvSlots p ≠ 0)
include hop hclean hspill hpark hslots

theorem tierPolicy_beyond (h : (s.rtTake p).kvSlots p < leAt b 12 4) :
    tierPolicy s p = ((s.rtTake p).rtFail p b 0x078C).rtUnknown p 4096 := by
  rw [tierPolicy, rtServe_of_rtReq? hreq hop]
  dsimp only
  rw [if_neg (by simp [hclean, Nat.not_lt_of_le hspill, Nat.not_lt_of_le hpark]), if_neg hslots, if_pos (.inr h)]

theorem tierPolicy_sets (hlow : leAt b 8 4 ≤ leAt b 12 4) (hhigh : leAt b 12 4 ≤ (s.rtTake p).kvSlots p) :
    tierPolicy s p = ((((((s.rtTake p).setFld (partPage p) Fld.PART_KV_WM_LOW (leAt b 8 4)).setFld (partPage p)
          Fld.PART_KV_WM_HIGH (leAt b 12 4)).setFld (partPage p) Fld.PART_KV_PARK_PARK_STROKES (leAt b 16 2)).modPart p
          (fun x => { x with rtSpill := leAt b 18 1, rtPark := leAt b 19 1 == 1 })).rtRespond p (leAt b 2 2) 0 0 0).rtUnknown p 4096 := by
  rw [tierPolicy, rtServe_of_rtReq? hreq hop]
  dsimp only
  rw [if_neg (by simp [hclean, Nat.not_lt_of_le hspill, Nat.not_lt_of_le hpark]), if_neg hslots, if_neg (by omega)]

end

end

/-! ### RWT_GRANT and QUERY -/

/-- Entries put one after another are each found at their own index. -/
theorem getD_foldl_put {α : Type} (m : SMap α) (i : Nat) (e : Nat → α) (d : α) {n j : Nat} (hj : j < n) :
    SMap.getD ((List.range n).foldl (fun m j => SMap.put m (i + j) (e j)) m) (i + j) d = e j := by
  induction n with
  | zero => omega
  | succ n ih =>
    rw [List.range_succ, List.foldl_append, List.foldl_cons, List.foldl_nil]
    by_cases hlast : j = n
    · rw [hlast, SMap.getD_put_same]
    · rw [SMap.getD_put_other _ _ _ (by omega)]
      exact ih (by omega)

/-- A request for windows that names memory of its partition, with no semaphore. -/
structure GrantAsked (s : State) (p dev : Nat) (b : List Byte) : Prop where
  op : leAt b 0 1 = 7
  clean : rtClean b [(8, 8), (16, 8), (24, 1), (26, 2), (32, 8)] = true
  paged : leAt b 16 8 % 4096 = 0
  some_bytes : leAt b 16 8 ≠ 0
  bounded : leAt b 16 8 ≤ (s.shape.live.rwt p).2 * 2 ^ 21
  perm : leAt b 24 1 ≤ 3
  no_sem : leAt b 32 8 = 0
  base : dev % 4096 = 0
  backed : s.cmOrHbm p dev (leAt b 16 8) = true

/-- The window that serves piece `j` of a grant. -/
def grantEntry (p dev key : Nat) (b : List Byte) (j : Nat) : RwtEntry :=
  ⟨true, leAt b 24 1 % 2 == 1, decide (2 ≤ leAt b 24 1), dev + j * 2 ^ 21, min 512 ((leAt b 16 8 - j * 2 ^ 21) / 4096), key, p,
    leAt b 26 2, leAt b 32 8⟩

section
variable {s : State} {p dev : Nat} {b : List Byte} (h : GrantAsked s p dev b)
include h

theorem GrantAsked.clean_ok : ¬(!rtClean b [(8, 8), (16, 8), (24, 1), (26, 2), (32, 8)] || leAt b 16 8 % 4096 != 0 || leAt b 16 8 == 0 ||
    decide ((s.shape.live.rwt p).2 * 2 ^ 21 < leAt b 16 8) || decide (3 < leAt b 24 1)) = true := by
  simp [h.clean, h.paged, h.some_bytes, Nat.not_lt_of_le h.bounded, Nat.not_lt_of_le h.perm, -Nat.reducePow]

theorem GrantAsked.sem_ok : ¬(leAt b 32 8 % 8 ≠ 0 ∨ leAt b 32 8 ≠ 0 ∧ (!s.cmOrHbm p (leAt b 32 8) 8) = true) := by
  simp [h.no_sem]

theorem GrantAsked.base_ok : ¬(dev % 4096 ≠ 0 ∨ (!s.cmOrHbm p dev (leAt b 16 8)) = true) := by
  simp [h.base, h.backed]

end

section
variable {s : State} {p : Nat} {b : List Byte} (hreq : s.rtReq? p = some b)
include hreq

variable {alloc dev : Nat} (hdev : dev = if leAt b 8 8 = 0 then alloc else leAt b 8 8) (h : GrantAsked (s.rtTake p) p dev b)
include hdev h

theorem rwtGrant_full (hfree : (s.rtTake p).rwtFree? p (ceilDiv (leAt b 16 8) (2 ^ 21)) = none) :
    rwtGrant s p alloc = ((s.rtTake p).rtFail p b 0x0C0F).rtUnknown p 4096 := by
  rw [rwtGrant, rtServe_of_rtReq? hreq h.op]
  refine congrArg (fun x : State => x.rtUnknown p 4096) ?_
  extract_lets bytes at' sem n perm
  have hat : at' = dev := hdev.symm
  have hnone : (s.rtTake p).rwtFree? p n = none := hfree
  rw [hat, if_neg h.clean_ok, if_neg h.sem_ok, if_neg h.base_ok, hnone]

theorem rwtGrant_grants {i : Nat} (hfree : (s.rtTake p).rwtFree? p (ceilDiv (leAt b 16 8) (2 ^ 21)) = some i) :
    ∃ key r1, key < 2 ^ 16 ∧ rwtGrant s p alloc = ({ s.rtTake p with
      draws := s.draws + 1
      rwt := (List.range (ceilDiv (leAt b 16 8) (2 ^ 21))).foldl (fun m j => SMap.put m (i + j) (grantEntry p dev key b j))
        s.rwt }.rtRespond p (leAt b 2 2) 0 r1 dev).rtUnknown p 4096 := by
  refine ⟨(Config.free s.draws).toNat % 2 ^ 16, ?r1, Nat.mod_lt _ (by decide), ?eq⟩
  case eq =>
    rw [rwtGrant, rtServe_of_rtReq? hreq h.op]
    refine congrArg (fun x : State => x.rtUnknown p 4096) ?_
    extract_lets bytes at' sem n perm
    have hat : at' = dev := hdev.symm
    have hsome : (s.rtTake p).rwtFree? p n = some i := hfree
    rw [hat, if_neg h.clean_ok, if_neg h.sem_ok, if_neg h.base_ok, hsome]
    rfl

end

theorem query_answers {s : State} {p : Nat} {b : List Byte} (hreq : s.rtReq? p = some b) (hop : leAt b 0 1 = 8) (hclean : rtClean b [] = true) :
    query s p = ((s.rtTake p).rtRespond p (leAt b 2 2) 0
        (Config.runtimeVersion (((s.rtTake p).sec.bundle[(s.rtTake p).sec.runBundle]?.map (fun f => f.body)).getD []) % 2 ^ 32 +
          (match (s.rtTake p).resident? p with | some c => c + 16 | none => 0) * 2 ^ 32 +
          maskOf 16 (fun c => ((s.rtTake p).ctx p c).st != .empty) * 2 ^ 37)
        ((s.rtTake p).shape.live.gen % 2 ^ 32 + (s.rtTake p).tierCount p false 0 * 2 ^ 32)).rtUnknown p 4096 := by
  have hsound : ¬(!rtClean b []) = true := by simp [hclean]
  rw [query, rtServe_of_rtReq? hreq hop]
  exact congrArg (fun x : State => x.rtUnknown p 4096) (if_neg hsound)

/-- Settles O43: each operation by its branches, what answering leaves alone by the relation `Answered`. -/
theorem runtimeChannel : Obligations.RuntimeChannel := by
  unfold Obligations.RuntimeChannel
  refine ⟨fun p b s hreq => ⟨fun hop list rs => ⟨fun hsrc => ?_, fun hclean hsrc hne hmax hpin => ⟨fun hpick => ?_, fun i hpick hfit => ?_⟩⟩,
      fun hop hclean => ⟨fun hentry => ?_, fun e hentry hpins => ?_, fun e hentry hpins => ?_⟩,
      fun hop hclean hstep e hentry hlow hhigh => ?_, fun l rest e hloads hon hentry => ?_⟩, fun p s => ⟨fun who v hin => ?_, fun b hreq =>
        ⟨?_, fun hop hclean hn => ?_, fun hop hclean hspill hpark hslots => ⟨fun h => ?_, fun hlow hhigh => ?_⟩, fun hop alloc => ?_,
          fun hop hclean => ?_⟩⟩⟩
  · exact done_eq (modelLoad_misaligned hreq hop hsrc list rs)
  · exact done_eq (modelLoad_no_room hreq hop hclean hsrc hne hmax hpin hpick list rs)
  · intro gen w
    exact done_eq (modelLoad_begins hreq hop hclean hsrc hne hmax hpin hpick hfit)
  · exact done_eq (modelEvict_unknown hreq hop hclean hentry)
  · exact done_eq (modelEvict_pinned hreq hop hclean hentry hpins)
  · exact done_eq (modelEvict_unpinned hreq hop hclean hentry hpins)
  · exact done_eq (modelPin_counts hreq hop hclean hstep hentry hlow hhigh)
  · intro x rs hcode
    exact done_eq (modelLoadDone_loaded hloads hon hentry hcode)
  · intro u
    refine ⟨fun h => ?_, fun b h hlow hhigh => ?_, fun b h hop => ?_⟩
    · exact done_eq ((letIn_letsIn hin _).trans (rtUnknown_none h))
    · exact done_eq ((letIn_letsIn hin _).trans (rtUnknown_known h hlow hhigh))
    · exact done_eq ((letIn_letsIn hin _).trans (rtUnknown_unknown h hop))
  · rintro hop map areas n x ws bs hclean rfl hn hflag hempty hctx w hmap hcheck
    have hkept : (w.1.ctx p (leAt b 8 1)).wdLimit = ((s.rtTake p).ctx p (leAt b 8 1)).wdLimit := by
      rw [State.ctx, wrDev_ctxs]
      rfl
    rw [hkept]
    exact done_eq (contextCreate_enables hreq hop hclean hn hflag hempty hctx hmap hcheck)
  · intro ok busy
    have heq := contextDestroy_eq hreq hop hclean hn
    have hrest := CtxSt.atRest_iff ((s.rtTake p).ctx p (leAt b 8 1)).st
    refine ⟨fun hok hbusy => done_eq (heq.trans ?_), fun h => done_eq (heq.trans ?_)⟩
    · rw [if_neg (by rw [hrest.mpr hok, Bool.not_true, Bool.false_or]; exact Bool.eq_false_iff.mp hbusy)]
    · rw [if_pos]
      rcases h with h | h
      · rw [Bool.eq_false_iff.mpr (mt hrest.mp h)]
        rfl
      · exact Bool.or_eq_true_iff.mpr (.inr h)
  · exact done_eq (tierPolicy_beyond hreq hop hclean hspill hpark hslots h)
  · exact done_eq (tierPolicy_sets hreq hop hclean hspill hpark hslots hlow hhigh)
  · intro bytes dev hclean hpaged hsome hmax hperm hsem hbase hback
    have hasked : GrantAsked (s.rtTake p) p dev b := ⟨hop, hclean, hpaged, hsome, hmax, hperm, hsem, hbase, hback⟩
    refine ⟨fun hfree => done_eq (rwtGrant_full hreq rfl hasked hfree), fun i hfree => ?_⟩
    obtain ⟨key, r1, hkey, heq⟩ := rwtGrant_grants hreq rfl hasked hfree
    have hrel := ((rtRespond_answered ({ s.rtTake p with
      draws := s.draws + 1
      rwt := (List.range (ceilDiv (leAt b 16 8) (2 ^ 21))).foldl (fun m j => SMap.put m (i + j) (grantEntry p dev key b j))
        s.rwt }) p (leAt b 2 2) 0 r1 dev).trans (rtUnknown_answered _ p 4096))
    refine ⟨_, done_eq heq, (congrArg State.draws hrel :), key, hkey, fun j hj => ?_⟩
    have hrwt := (congrArg State.rwt hrel :)
    refine (congrArg (fun m => SMap.getD m (i + j) (RwtEntry.empty 0)) hrwt).trans ((getD_foldl_put _ i _ _ hj).trans ?_)
    rw [grantEntry, hsem]
  · exact done_eq (query_answers hreq hop hclean)

end Sys2Proof.Machine
end

section
/-! What ending commands, aborting contexts and recording errors leave alone (R84 to R93, R411, R440 to R443): most of the state, and every
register but those at a few offsets of their pages. -/
namespace Sys2Proof.Machine

open Sys2Proof

/-! ### Registers by their offsets -/

/-- Whatever its page, a register stands at its own offset. -/
theorem pgOff_regKey_page (c i : Nat) {off : Nat} (h : off < 4096) : pgOff (regKey (page c i) off) = off := by
  rw [regKey]
  split
  · exact Nat.mod_eq_of_lt h
  · simp only [pgOff, page]
    omega

theorem pgOff_page (c i : Nat) {off : Nat} (h : off < 4096) : pgOff (page c i + off) = off := by
  simp only [pgOff, page]
  omega

/-- What ending commands and recording errors change at most: of the registers, only those at the offsets `offs` of their pages. -/
structure EndOnly (offs : List Nat) (s t : State) : Prop where
  eq : t = { s with regs := t.regs, rings := t.rings, cmds := t.cmds, ctxs := t.ctxs, tcs := t.tcs, kvMoves := t.kvMoves, mem := t.mem,
                    bad := t.bad, weak := t.weak, lost := t.lost, host := t.host, hps := t.hps, errs := t.errs, pins := t.pins,
                    out := t.out }
  reg : ∀ k, pgOff k ∉ offs → t.reg k = s.reg k

namespace EndOnly
variable {offs : List Nat} {s t u : State}

theorem refl (s : State) : EndOnly offs s s := ⟨rfl, fun _ _ => rfl⟩

theorem trans (h : EndOnly offs s t) (k : EndOnly offs t u) : EndOnly offs s u where
  eq := Eq.trans k.eq (congrArg (fun x : State => { x with
    regs := u.regs, rings := u.rings, cmds := u.cmds, ctxs := u.ctxs, tcs := u.tcs, kvMoves := u.kvMoves, mem := u.mem, bad := u.bad,
    weak := u.weak, lost := u.lost, host := u.host, hps := u.hps, errs := u.errs, pins := u.pins, out := u.out }) h.eq)
  reg := fun key hkey => (k.reg key hkey).trans (h.reg key hkey)

theorem ite {c : Prop} [Decidable c] (h : EndOnly offs s t) (k : EndOnly offs s u) : EndOnly offs s (if c then t else u) := by
  split
  · exact h
  · exact k

theorem foldl {α : Type} (h : EndOnly offs s t) (l : List α) (f : State → α → State) (hf : ∀ u a, EndOnly offs u (f u a)) :
    EndOnly offs s (l.foldl f t) :=
  List.foldlRecOn l f h (fun u hu a _ => hu.trans (hf u a))

/-- A field of a page, at another offset. -/
theorem fld (h : EndOnly offs s t) (c i : Nat) (f : Fld) (hoff : f.off < 4096 ∧ f.off ∉ offs) : t.fld (page c i) f = s.fld (page c i) f := by
  rw [State.fld, State.fld, h.reg _ (by rw [pgOff_regKey_page c i hoff.1]; exact hoff.2)]

theorem setReg (s : State) {k : Nat} (hk : pgOff k ∈ offs) (v : Word64) : EndOnly offs s (s.setReg k v) :=
  ⟨rfl, fun _ hj => State.reg_setReg_other _ _ (fun e => hj (e ▸ hk))⟩

theorem setFld (s : State) (c i : Nat) {f : Fld} (hf : f.off < 4096 ∧ f.off ∈ offs) (v : Nat) : EndOnly offs s (s.setFld (page c i) f v) :=
  .setReg s (by rw [pgOff_regKey_page c i hf.1]; exact hf.2) _

theorem addFld (s : State) (c i : Nat) {f : Fld} (hf : f.off < 4096 ∧ f.off ∈ offs) (v : Nat) : EndOnly offs s (s.addFld (page c i) f v) :=
  .setFld s c i hf _

theorem emit (s : State) (o : Out) : EndOnly offs s (s.emit o) := ⟨rfl, fun _ _ => rfl⟩

theorem of_regsOutOnly (h : RegsOutOnly s t) (hreg : ∀ k, pgOff k ∉ offs → t.reg k = s.reg k) : EndOnly offs s t :=
  ⟨(congrArg (fun x : State => { x with
    rings := t.rings, cmds := t.cmds, ctxs := t.ctxs, tcs := t.tcs, kvMoves := t.kvMoves, mem := t.mem, bad := t.bad, weak := t.weak,
    lost := t.lost, host := t.host, hps := t.hps, errs := t.errs, pins := t.pins }) h :), hreg⟩

theorem raise (s : State) (c i : Nat) (hoff : 0x30 ∈ offs) (b : Nat) : EndOnly offs s (s.raise (page c i) b) :=
  .of_regsOutOnly (s.raise_regsOutOnly ..) (fun _ hk => raise_reg _ _ _ _ (by
    rintro rfl
    exact hk (by rwa [pgOff_page c i (by decide)])))

theorem of_memOnly (h : MemOnly s t) : EndOnly offs s t where
  eq := (congrArg (fun x : State => { x with
    regs := t.regs, rings := t.rings, cmds := t.cmds, ctxs := t.ctxs, tcs := t.tcs, kvMoves := t.kvMoves, lost := t.lost, host := t.host,
    hps := t.hps, errs := t.errs, pins := t.pins, out := t.out }) h :)
  reg := fun k _ => by rw [State.reg, State.reg, (congrArg State.regs h :)]

theorem hwrs (s : State) (k : Nat) (bs : List Byte) : EndOnly offs s (s.hwrs k bs) := by
  induction bs generalizing s k with
  | nil => exact .refl s
  | cons b bs ih => exact EndOnly.trans (t := s.hwr k b) ⟨rfl, fun _ _ => rfl⟩ (ih ..)

theorem modHp (s : State) (h : Nat) (f : HostPort → HostPort) : EndOnly offs s (s.modHp h f) := ⟨rfl, fun _ _ => rfl⟩

theorem setRing (s : State) (r : Nat) (x : Ring) : EndOnly offs s (s.setRing r x) := ⟨rfl, fun _ _ => rfl⟩

theorem observe (s : State) : EndOnly offs s s.observe := ⟨rfl, fun _ _ => rfl⟩

theorem modTc (s : State) (n : Nat) (f : Tc → Tc) : EndOnly offs s (s.modTc n f) := ⟨rfl, fun _ _ => rfl⟩

theorem modCtx (s : State) (p c : Nat) (f : Ctx → Ctx) : EndOnly offs s (s.modCtx p c f) := ⟨rfl, fun _ _ => rfl⟩

theorem lose (s : State) (base len : Nat) : EndOnly offs s (s.lose base len) := ⟨rfl, fun _ _ => rfl⟩

theorem dropCmd (s : State) (r q : Nat) : EndOnly offs s (s.dropCmd r q) := ⟨rfl, fun _ _ => rfl⟩

theorem rings (s : State) (m : SMap Ring) : EndOnly offs s { s with rings := m } := ⟨rfl, fun _ _ => rfl⟩

theorem kvMoves (s : State) (l : List KvMove) : EndOnly offs s { s with kvMoves := l } := ⟨rfl, fun _ _ => rfl⟩

end EndOnly

/-! ### Recording a contained error (R440 to R443) -/

/-- The offsets at which errors, completions and the logs of completions write. -/
def endOffs : List Nat := [0x28, 0x30, 0x148, 0x150, 0x170, 0x1A0, 0x1A8, 0x320]

section
variable {offs : List Nat}

theorem dropMove_endOnly (s : State) (m : KvMove) : EndOnly offs s (s.dropMove m) := by
  unfold State.dropMove
  extract_lets s1 s2
  have h1 : EndOnly offs s s1 := .kvMoves ..
  have h2 : EndOnly offs s s2 := h1.trans (.of_memOnly (.freeRun ..))
  exact .ite (h2.trans (.of_memOnly (.setSlotSt ..))) h2

theorem dropWork_endOnly (s : State) (c : InFlight) : EndOnly offs s (s.dropWork c) := by
  have habandon : EndOnly offs s (s.abandonMoves c.ring c.seq) :=
    (EndOnly.refl s).foldl _ _ (fun u m => dropMove_endOnly u m)
  unfold State.dropWork
  split
  · exact habandon
  · exact (habandon.foldl _ _ (fun u i => .of_memOnly (.freeRun ..))).trans (.of_memOnly (.wr64 ..))

theorem loseUnits_endOnly (s : State) (p : Nat) : EndOnly offs s (s.loseUnits p) :=
  (EndOnly.refl s).foldl _ _ (fun _ _ => .lose ..)

theorem performSignal_endOnly (s : State) (c : InFlight) : EndOnly offs s (s.performSignal c).1 := by
  unfold State.performSignal
  split
  · exact .refl s
  split
  · exact .refl s
  split
  · exact .refl s
  split
  · next k hk =>
    rw [State.applySignal]
    by_cases hbad : c.cmd.sigOp ≠ 0 ∧ s.badIn k 8 = true
    · rw [if_pos hbad]
      exact .refl s
    · rw [if_neg hbad]
      exact (EndOnly.of_memOnly (MemOnly.wr64 ..)).trans (.observe _)
  · exact .refl s

theorem clearSticky_endOnly (himg : ∀ o ∈ imageRegs, o ∈ offs) (s : State) (p : Nat) : EndOnly offs s (s.clearSticky p) := by
  refine (EndOnly.refl s).foldl _ _ (fun u n => EndOnly.trans ?_ (.modTc ..))
  refine List.foldlRecOn (motive := EndOnly offs u) imageRegs _ (.refl u) (fun w hw o ho => hw.trans (.setReg w ?_ _))
  have hlt : ∀ o ∈ imageRegs, o < 4096 := by decide
  rw [pgOff_page 7 n (hlt o ho)]
  exact himg o ho

end

section
variable {offs : List Nat} (hsub : ∀ o ∈ endOffs, o ∈ offs)
include hsub

theorem countErr_endOnly (s : State) (c i k : Nat) : EndOnly offs s (s.countErr (page c i) k) := by
  have h28 : 0x28 < 4096 ∧ 0x28 ∈ offs := ⟨by decide, hsub _ (by decide)⟩
  refine EndOnly.trans (t := s.addFld (page c i) (match k with
    | 0 => Fld.BLK_ERR_SUM_CORRECTED
    | 1 => Fld.BLK_ERR_SUM_CONTAINED
    | 2 => Fld.BLK_ERR_SUM_PART_FATAL
    | _ => Fld.BLK_ERR_SUM_DEV_FATAL) 1) ?_ (EndOnly.raise _ c i (hsub _ (by decide)) 2)
  refine .addFld s c i ?_ 1
  split <;> exact h28

theorem writeErr_endOnly (s : State) (e : ErrInfo) (count : Nat) (coalesced : Bool) : EndOnly offs s (s.writeErr e count coalesced) := by
  have h30 : 0x30 ∈ offs := hsub _ (by decide)
  have h148 : 0x148 < 4096 ∧ 0x148 ∈ offs := ⟨by decide, hsub _ (by decide)⟩
  have h150 : 0x150 < 4096 ∧ 0x150 ∈ offs := ⟨by decide, hsub _ (by decide)⟩
  unfold State.writeErr
  extract_lets tail full ti fatal flags bytes alerts x er s1 s2 s3 s4 s5
  have h1 : EndOnly offs s s1 := ⟨rfl, fun _ _ => rfl⟩
  have h2 : EndOnly offs s s2 := h1.trans (.setFld _ 0 0 h148 _)
  have h3 : EndOnly offs s s3 := .ite
    (h2.trans (((EndOnly.setFld _ 0 0 h148 _).trans (.addFld _ 0 0 h150 _)).trans (.raise _ 0 0 h30 22))) h2
  have h4 : EndOnly offs s s4 := h3.trans (.raise _ 0 0 h30 21)
  have h5 : EndOnly offs s s5 := .ite (h4.foldl _ _ (fun u h => .ite (.emit u _) (.refl u))) h4
  exact (h5.trans (.emit _ _)).trans ⟨rfl, fun _ _ => rfl⟩

theorem recordError_endOnly (s : State) {e : ErrInfo} (hcls : e.cls ≤ 1) : EndOnly offs s (s.recordError e) := by
  have hcount : EndOnly offs s (s.errCounted e) := by
    have hact : ∀ t : State, t.classAct e = t := fun t => by
      rw [State.classAct, if_neg (by omega), if_neg (by omega)]
    rw [State.errCounted, hact]
    exact (countErr_endOnly hsub s _ _ _).foldl _ _ (fun u p => .ite (.refl u) (countErr_endOnly hsub u _ _ _))
  have hwrite := hcount.trans (writeErr_endOnly hsub _ e 1 false)
  rw [State.recordError_eq]
  dsimp only
  split
  · split
    · exact hcount.trans ⟨rfl, fun _ _ => rfl⟩
    · exact hwrite.trans ⟨rfl, fun _ _ => rfl⟩
  · exact hwrite

/-! ### Completing a command (R85 to R93, R368, R372) -/

theorem logRecord_endOnly (s : State) (h : Nat) (rec : List Byte) (orig : Nat) (flushed sent : Bool) :
    EndOnly offs s (s.logRecord h rec orig flushed sent) := by
  have h1A0 : 0x1A0 < 4096 ∧ 0x1A0 ∈ offs := ⟨by decide, hsub _ (by decide)⟩
  have h1A8 : 0x1A8 < 4096 ∧ 0x1A8 ∈ offs := ⟨by decide, hsub _ (by decide)⟩
  unfold State.logRecord
  extract_lets tail entry full s1 s2 s3
  have h1 : EndOnly offs s s1 := ⟨rfl, fun _ _ => rfl⟩
  have h2 : EndOnly offs s s2 := h1.trans (.setFld _ 13 h h1A0 _)
  have h3 : EndOnly offs s s3 := .ite (h2.trans ((EndOnly.setFld _ 13 h h1A0 _).trans (.addFld _ 13 h h1A8 _))) h2
  exact h3.trans (.raise _ 13 h (hsub _ (by decide)) 21)

theorem putDw_endOnly (s : State) (h cid status good : Nat) (irq : Bool) : EndOnly offs s (s.putDw h cid status good irq) := by
  unfold State.putDw
  split
  · exact .refl s
  extract_lets q n entry s1 s2 s3
  have h1 : EndOnly offs s s1 := .hwrs s _ _
  have h2 : EndOnly offs s s2 := h1.trans (.modHp ..)
  have h3 : EndOnly offs s s3 := h2.trans (.setFld _ 13 h ⟨by decide, hsub _ (by decide)⟩ _)
  exact .ite (h3.trans (.emit ..)) h3

theorem putRecord_endOnly (s : State) (c : InFlight) (status info : Nat) : EndOnly offs s (s.putRecord c status info) := by
  unfold State.putRecord
  split
  · exact putDw_endOnly hsub s ..
  extract_lets r b slot at_ adv irq
  have hirq (u : State) : EndOnly offs u (irq u) := by
    refine .ite ?_ (.refl u)
    split
    · exact .ite (.emit u _) (.refl u)
    · exact .refl u
  split
  · refine .ite (logRecord_endOnly hsub s ..) ?_
    exact (((EndOnly.hwrs s _ _).trans (.setRing ..)).trans (.modHp ..)).trans (hirq _)
  · split
    · exact ((EndOnly.of_memOnly (MemOnly.wrs ..)).trans (.setRing ..)).trans (hirq _)
    · exact .refl s

theorem lateAt_endOnly (s : State) (late : Bool) : EndOnly offs s (s.lateAt late) :=
  .ite ((EndOnly.addFld s 2 0 ⟨by decide, hsub _ (by decide)⟩ 1).trans (.raise _ 2 0 (hsub _ (by decide)) 18)) (.refl s)

theorem complete_endOnly (s : State) (c : InFlight) : EndOnly offs s (s.complete c) := by
  have hsig := performSignal_endOnly (offs := offs) s c
  rw [State.complete]
  generalize s.performSignal c = x at hsig ⊢
  obtain ⟨u, status, held⟩ := x
  dsimp -zeta only at hsig ⊢
  extract_lets late s1 info s2 s3 s4
  have h1 : EndOnly offs s s1 := hsig.trans (lateAt_endOnly hsub ..)
  have h2 : EndOnly offs s s2 := .ite h1 (h1.trans (putRecord_endOnly hsub ..))
  have h3 : EndOnly offs s s3 := h2.trans (.dropCmd ..)
  have h4 : EndOnly offs s s4 := by
    simp only [s4]
    split
    · exact h3.trans (.modTc ..)
    · exact h3
  exact h4.trans (.modCtx ..)

/-! ### Ending commands and aborting a context (R411, R484) -/

theorem endAll_endOnly (s : State) (pick : InFlight → Bool) (code : Code) : EndOnly offs s (s.endAll pick code) :=
  (EndOnly.refl s).foldl _ _ (fun u c => (dropWork_endOnly u c).trans (complete_endOnly hsub ..))

variable (himg : ∀ o ∈ imageRegs, o ∈ offs)
include himg

theorem abortCtx_endOnly (s : State) (p c : Nat) (lastCode status : Code) (d0 d1 : Nat) :
    EndOnly offs s (s.abortCtx p c lastCode status d0 d1) := by
  have h30 : 0x30 ∈ offs := hsub _ (by decide)
  unfold State.abortCtx
  extract_lets held s1 rs s2 s3 s4 s5 s6
  have h1 : EndOnly offs s s1 := endAll_endOnly hsub s _ _
  have h2 : EndOnly offs s s2 := h1.trans (.rings ..)
  have h3 : EndOnly offs s s3 := .ite (h2.trans ((loseUnits_endOnly ..).trans (clearSticky_endOnly himg ..))) h2
  have h4 : EndOnly offs s s4 := h3.trans (.modCtx ..)
  have h5 : EndOnly offs s s5 := h4.trans (.raise _ 14 p h30 17)
  have h6 : EndOnly offs s s6 := .ite (h5.trans (.raise _ 14 p h30 18)) h5
  exact h6.trans (recordError_endOnly hsub _ (Nat.le_refl 1))

end

end Sys2Proof.Machine
end

section
/-! Link up, flushing reads, host loss and the claim of held state (R367 to R370, R373), O46. -/
namespace Sys2Proof.Machine

open Sys2Proof

/-! ### A link comes up (R373) -/

theorem linked_of_state {s : State} {h : Nat} (hst : s.fld (hpPage h) Fld.HP_LINK_STATE = 2) : s.linked h = true := by
  rw [State.linked, hst]
  rfl

theorem unlinked_of_state {s : State} {h : Nat} (hst : s.fld (hpPage h) Fld.HP_LINK_STATE = 0) : s.linked h = false := by
  rw [State.linked, hst]
  rfl

theorem linked_congr {s t : State} {h : Nat} (hst : t.fld (hpPage h) Fld.HP_LINK_STATE = s.fld (hpPage h) Fld.HP_LINK_STATE) :
    t.linked h = s.linked h := by
  rw [State.linked, State.linked, hst]

section
variable (s : State) (h speed width : Nat) (cxl : Bool)

/-- A link's state while it comes up. -/
def State.linkSet : State :=
  (((s.setFld (hpPage h) Fld.HP_LINK_STATE 2).setFld (hpPage h) Fld.HP_LINK_SPEED speed).setFld (hpPage h) Fld.HP_LINK_WIDTH width).setBit
    (hpPage h) Fld.HP_LINK_CXL cxl

/-- The first link of a session draws a retain ID (R370). -/
def State.freshId : State := if s.pwr.fresh then ({ s with pwr := { s.pwr with fresh := false } }).newRetainId else s

theorem linkUp_up (hh : h < 2) (hdown : s.linked h = false) (hrun : s.running = true)
    (hmin : s.fld crnPage Fld.CRN_SERVICE_MIN_MET = 1) (htrim : s.trimmed 13 h = false) :
    linkUp s h speed width cxl = ((s.linkSet h speed width cxl).freshId).raise (hpPage h) 17 := by
  rw [linkUp, if_neg (by simp [hdown, hrun, hmin, htrim, Nat.not_le_of_lt hh])]
  rfl

/-- Within one register, a field after a write of another. -/
theorem fld_setFld_apart {f f' : Fld} (v pg : Nat) (h : f'.off = f.off ∧ f.hi < 64 ∧ (f.hi < f'.lo ∨ f'.hi < f.lo)) :
    (s.setFld pg f v).fld pg f' = s.fld pg f' :=
  fld_setFld_other s v (.inr ⟨rfl, h⟩)

theorem linkSet_fields (hspeed : speed < 8) (hwidth : width < 32) :
    (s.linkSet h speed width cxl).fld (hpPage h) Fld.HP_LINK_STATE = 2 ∧
    (s.linkSet h speed width cxl).fld (hpPage h) Fld.HP_LINK_SPEED = speed ∧
    (s.linkSet h speed width cxl).fld (hpPage h) Fld.HP_LINK_WIDTH = width := by
  rw [State.linkSet, State.setBit]
  refine ⟨?_, ?_, ?_⟩
  · rw [fld_setFld_apart _ _ _ (by decide), fld_setFld_apart _ _ _ (by decide), fld_setFld_apart _ _ _ (by decide)]
    exact fld_setFld_fits _ _ (by decide)
  · rw [fld_setFld_apart _ _ _ (by decide), fld_setFld_apart _ _ _ (by decide)]
    exact fld_setFld_fits _ _ ⟨by decide, by decide, hspeed⟩
  · rw [fld_setFld_apart _ _ _ (by decide)]
    exact fld_setFld_fits _ _ ⟨by decide, by decide, hwidth⟩

end

/-- Both ports show the same retain ID, drawn anew; only registers at its offset change. -/
theorem newRetainId_drawn (s : State) : s.newRetainId.draws = s.draws + 1 ∧
    s.newRetainId.reg (hpPage 0 + Reg.HP_RETAIN_ID) = s.newRetainId.reg (hpPage 1 + Reg.HP_RETAIN_ID) ∧
    (∀ k, pgOff k ≠ 0x1F0 → s.newRetainId.reg k = s.reg k) ∧
    s.newRetainId = { s with regs := s.newRetainId.regs, draws := s.draws + 1 } := by
  have hne : hpPage 0 + Reg.HP_RETAIN_ID ≠ hpPage 1 + Reg.HP_RETAIN_ID := by decide
  refine ⟨rfl, ?_, fun k hk => ?_, rfl⟩
  · rw [State.newRetainId]
    dsimp only
    rw [State.reg_setReg_other _ _ hne, State.reg_setReg_same, State.reg_setReg_same]
  · have hkey (i : Nat) : k ≠ hpPage i + Reg.HP_RETAIN_ID := by
      rintro rfl
      exact hk (pgOff_page 13 i (by decide))
    rw [State.newRetainId]
    dsimp only
    rw [State.reg_setReg_other _ _ (hkey 1), State.reg_setReg_other _ _ (hkey 0)]
    rfl

/-- A link that comes up changes registers, outputs, the draws and the mark of a fresh session. -/
def UpOnly (s t : State) : Prop := t = { s with regs := t.regs, pwr := t.pwr, draws := t.draws, out := t.out }

theorem UpOnly.trans {s t u : State} (h : UpOnly s t) (k : UpOnly t u) : UpOnly s u :=
  Eq.trans k (congrArg (fun x : State => { x with regs := u.regs, pwr := u.pwr, draws := u.draws, out := u.out }) h)

theorem RegsOutOnly.upOnly {s t : State} (h : RegsOutOnly s t) : UpOnly s t :=
  (congrArg (fun x : State => { x with pwr := t.pwr, draws := t.draws }) h :)

theorem UpOnly.observed {s t : State} (h : UpOnly s t) :
    t.observe = { s with regs := t.regs, pwr := t.pwr, draws := t.draws, out := t.out }.observe := congrArg State.observe h

theorem freshId_kept (s : State) : (∀ k, pgOff k ≠ 0x1F0 → s.freshId.reg k = s.reg k) ∧ s.freshId.pwr.fresh = false ∧
    (s.pwr.fresh = true → s.freshId.draws = s.draws + 1 ∧
      s.freshId.reg (hpPage 0 + Reg.HP_RETAIN_ID) = s.freshId.reg (hpPage 1 + Reg.HP_RETAIN_ID)) ∧
    (s.pwr.fresh = false → s.freshId.draws = s.draws) ∧
    UpOnly s s.freshId := by
  rw [State.freshId]
  cases hf : s.pwr.fresh with
  | false => exact ⟨fun _ _ => rfl, hf, by simp, fun _ => rfl, rfl⟩
  | true =>
    obtain ⟨hdraws, hid, hreg, hrel⟩ := newRetainId_drawn { s with pwr := { s.pwr with fresh := false } }
    rw [if_pos rfl]
    exact ⟨hreg, (congrArg (fun x : State => x.pwr.fresh) hrel :), fun _ => ⟨hdraws, hid⟩, by simp, rfl⟩

/-- The interrupt of a link that came up leaves what the link's fields, the retain ID and the draws are. -/
theorem freshRaised_kept (w : State) (h : Nat) {x : State} (hx : x = w.freshId.raise (hpPage h) 17) : UpOnly w x ∧
    (∀ f : Fld, f.off < 4096 ∧ f.off ∉ [0x30] ∧ f.off ≠ 0x1F0 → x.fld (hpPage h) f = w.fld (hpPage h) f) ∧ x.pwr.fresh = false ∧
    (w.pwr.fresh = true → x.draws = w.draws + 1 ∧ x.reg (hpPage 0 + Reg.HP_RETAIN_ID) = x.reg (hpPage 1 + Reg.HP_RETAIN_ID)) ∧
    (w.pwr.fresh = false → x.draws = w.draws) := by
  obtain ⟨hreg, hfresh, hdrawn, hkept, hrel⟩ := freshId_kept w
  have hraise : EndOnly [0x30] w.freshId x := hx ▸ EndOnly.raise _ 13 h (by decide) 17
  have hregs : RegsOutOnly w.freshId x := hx ▸ State.raise_regsOutOnly ..
  have hdraws : x.draws = w.freshId.draws := (congrArg State.draws hregs :)
  have hpwr : x.pwr = w.freshId.pwr := (congrArg State.pwr hregs :)
  refine ⟨hrel.trans hregs.upOnly, fun f hoff => ?_, by rw [hpwr, hfresh], fun hf => ?_,
    fun hf => hdraws.trans (hkept hf)⟩
  · refine (hraise.fld 13 h f ⟨hoff.1, hoff.2.1⟩).trans ?_
    rw [State.fld, State.fld, hpPage, hreg _ (by rw [pgOff_regKey_page 13 h hoff.1]; exact hoff.2.2)]
  · obtain ⟨hd, hid⟩ := hdrawn hf
    exact ⟨hdraws.trans hd, (hraise.reg _ (by decide)).trans (hid.trans (hraise.reg _ (by decide)).symm)⟩

/-! ### A host is lost (R367, R368) -/

/-- What a completion log takes: registers, outputs and the port's state. -/
def LogOnly (s t : State) : Prop := t = { s with regs := t.regs, out := t.out, hps := t.hps }

theorem LogOnly.trans {s t u : State} (h : LogOnly s t) (k : LogOnly t u) : LogOnly s u :=
  Eq.trans k (congrArg (fun x : State => { x with regs := u.regs, out := u.out, hps := u.hps }) h)

theorem RegsOutOnly.logOnly {s t : State} (h : RegsOutOnly s t) : LogOnly s t := (congrArg (fun x : State => { x with hps := t.hps }) h :)

theorem LogOnly.modHp (s : State) (h : Nat) (f : HostPort → HostPort) : LogOnly s (s.modHp h f) := rfl

theorem LogOnly.setFld (s : State) (pg : Nat) (f : Fld) (v : Nat) : LogOnly s (s.setFld pg f v) := rfl

theorem hp_modHp_same (s : State) (h : Nat) (f : HostPort → HostPort) : (s.modHp h f).hp h = f (s.hp h) := by
  rw [State.hp, State.modHp, SMap.getD_put_same]

theorem RegsOutOnly.hp {s t : State} (h : RegsOutOnly s t) (q : Nat) : t.hp q = s.hp q := by
  rw [State.hp, State.hp, (congrArg State.hps h :)]

section
variable (s : State) (h : Nat) (rec : List Byte) (orig : Nat) (flushed sent : Bool)

/-- An entry of the log leaves the uncovered records and the stroke of the loss. -/
theorem logRecord_kept : LogOnly s (s.logRecord h rec orig flushed sent) ∧
    ((s.logRecord h rec orig flushed sent).hp h).uncovered = (s.hp h).uncovered ∧
    ((s.logRecord h rec orig flushed sent).hp h).lossStroke = (s.hp h).lossStroke := by
  unfold State.logRecord
  extract_lets tail entry full s1 s2 s3
  have hafter : RegsOutOnly s1 (s3.raise (hpPage h) 21) := by
    refine RegsOutOnly.trans (t := s3) (RegsOutOnly.trans (t := s2) (State.setReg_regsOutOnly ..) ?_) (State.raise_regsOutOnly ..)
    simp only [s3]
    split
    · exact (State.setReg_regsOutOnly ..).trans (State.addFld_regsOutOnly ..)
    · rfl
  rw [hafter.hp]
  refine ⟨(LogOnly.modHp s h _).trans hafter.logOnly, ?_, ?_⟩ <;> rw [hp_modHp_same]

end

theorem copyUncovered_kept (s : State) (h : Nat) : LogOnly s (s.copyUncovered h) ∧ ((s.copyUncovered h).hp h).uncovered = [] ∧
    ((s.copyUncovered h).hp h).lossStroke = (s.hp h).lossStroke := by
  have hstart : LogOnly s (s.modHp h (fun x => { x with uncovered := [] })) ∧
      ((s.modHp h (fun x => { x with uncovered := [] })).hp h).uncovered = [] ∧
      ((s.modHp h (fun x => { x with uncovered := [] })).hp h).lossStroke = (s.hp h).lossStroke := by
    rw [hp_modHp_same]
    exact ⟨rfl, rfl, rfl⟩
  exact List.foldlRecOn (motive := fun t => LogOnly s t ∧ (t.hp h).uncovered = [] ∧ (t.hp h).lossStroke = (s.hp h).lossStroke) _ _ hstart
    (fun u hu b _ => by
      obtain ⟨hrel, hunc, hloss⟩ := hu
      obtain ⟨hrel', hunc', hloss'⟩ := logRecord_kept u h b (leAt b 2 2) true true
      exact ⟨hrel.trans hrel', hunc'.trans hunc, hloss'.trans hloss⟩)

theorem copyUncovered_endOnly (s : State) (h : Nat) : EndOnly endOffs s (s.copyUncovered h) :=
  (EndOnly.modHp ..).foldl _ _ (fun u _ => logRecord_endOnly (fun _ ho => ho) u ..)

/-- What follows when rings and commands have learnt of the loss. -/
def LossOnly (s t : State) : Prop := t = { s with
  regs := t.regs, out := t.out, errs := t.errs, pins := t.pins, parts := t.parts, shape := { s.shape with halves := t.shape.halves } }

theorem LossOnly.trans {s t u : State} (h : LossOnly s t) (k : LossOnly t u) : LossOnly s u :=
  Eq.trans k (congrArg (fun x : State => { x with
    regs := u.regs, out := u.out, errs := u.errs, pins := u.pins, parts := u.parts, shape := { x.shape with halves := u.shape.halves } }) h)

theorem ErrOnly.lossOnly {s t : State} (h : ErrOnly s t) : LossOnly s t := by
  have hshape : t.shape = s.shape := (congrArg State.shape h.eq :)
  rw [LossOnly, hshape]
  exact (congrArg (fun x : State => { x with parts := t.parts }) h.eq :)

theorem RegsOutOnly.lossOnly {s t : State} (h : RegsOutOnly s t) : LossOnly s t := by
  have hshape : t.shape = s.shape := (congrArg State.shape h :)
  rw [LossOnly, hshape]
  exact (congrArg (fun x : State => { x with errs := t.errs, pins := t.pins, parts := t.parts }) h :)

theorem dropHeld_lossOnly (s : State) (h : Nat) : LossOnly s (s.dropHeld h) := rfl

theorem releaseLock_regsOutOnly (s : State) (ids : List Nat) : RegsOutOnly s (s.releaseLock ids) := by
  unfold State.releaseLock
  extract_lets x
  split
  · exact ((State.setReg_regsOutOnly ..).trans (State.setReg_regsOutOnly ..)).trans (State.raise_regsOutOnly ..)
  · rfl

/-- The Dwerdo queue pair of a lost port stops. -/
def State.dwLost (s : State) (h : Nat) : State :=
  if s.fld (hpPage h) Fld.HP_DW_STATUS_STATE = 1 then
    (s.setFld (hpPage h) Fld.HP_DW_STATUS_STATE 2).setFld (hpPage h) Fld.HP_DW_STATUS_FAULT 0x0C05
  else s

theorem dwLost_regsOutOnly (s : State) (h : Nat) : RegsOutOnly s (s.dwLost h) := by
  rw [State.dwLost]
  split
  · exact (State.setReg_regsOutOnly ..).trans (State.setReg_regsOutOnly ..)
  · rfl

/-- The link is down and the loss counted. -/
def State.linkCut (s : State) (h : Nat) : State :=
  let u := (((s.setFld (hpPage h) Fld.HP_LINK_STATE 0).setFld (hpPage h) Fld.HP_LINK_SPEED 0).setFld (hpPage h) Fld.HP_LINK_WIDTH 0).setFld
    (hpPage h) Fld.HP_LINK_CXL 0
  let w := (u.addFld (hpPage h) Fld.HP_LOSS_LOSS_SEQ 1).raise (hpPage h) 16
  w.modHp h (fun x => { x with lossStroke := u.strokeNo })

/-- What the loss leaves of the rings: those that hold the records of a lost port, with the ring's partition. -/
def State.portCut (s : State) (h : Nat) : State := ((s.linkCut h).copyUncovered h).cutPort h

/-- The partitions that have a ring behind a port. -/
def State.behindPort (s : State) (h : Nat) : List Nat :=
  (s.rings.filter (fun x => x.2.st != 0 && ((x.2.inHost && x.2.port == h) || (x.2.cqInHost && x.2.cqPort == h)))).filterMap
    (fun x => s.ringPart? x.1)

/-- The rings and the queue pair of a lost port are stopped, what it held is dropped. -/
def State.portDropped (s : State) (h : Nat) : State := (((s.portCut h).dwLost h).dropHeld h).releaseLock [h + 1]

/-- The error that a loss reports. -/
def State.lossError (s : State) (h : Nat) : ErrInfo :=
  { source := srcOf (hpPage h), cls := 1, code := 0x0C05, also := (s.portDropped h).behindPort h }

/-- The loss, up to the hold it may start. -/
def State.portLost (s : State) (h : Nat) : State := (s.portDropped h).recordError (s.lossError h)

theorem hostLoss_eq {s : State} {h : Nat} (hh : h < 2) (hup : s.linked h = true) : hostLoss s h = (s.portLost h).holdOnLoss := by
  rw [hostLoss, if_neg (by simp [hup, hh])]
  extract_lets pg s1 s2 s3 s4 s5 s6 behind s7
  have h2 : s2 = s.linkCut h := rfl
  have h4 : s4 = s.portCut h := congrArg (fun x : State => (x.copyUncovered h).cutPort h) h2
  have h5 : s5 = s4.dwLost h := rfl
  have h6 : s6 = (s5.dropHeld h).releaseLock [h + 1] := rfl
  have h7 : s7 = s6.recordError { source := srcOf (hpPage h), cls := 1, code := 0x0C05, also := s6.behindPort h } := rfl
  rw [h7, h6, h5, h4]
  rfl

theorem portLost_lossOnly (s : State) (h : Nat) : LossOnly (s.portCut h) (s.portLost h) :=
  (((dwLost_regsOutOnly (s.portCut h) h).lossOnly.trans (dropHeld_lossOnly _ h)).trans (releaseLock_regsOutOnly _ [h + 1]).lossOnly).trans
    (State.recordError_errOnly _ (e := s.lossError h) (Nat.le_refl 1)).lossOnly

/-- With HOLD_ON_HOST_LOSS = 0 and no function in D3hot a loss starts no hold. -/
theorem holdOnLoss_none {s : State} (hsh : s.sh (hpPage 0) Fld.HP_CFG_HOLD_ON_HOST_LOSS = 0) (hd3 : s.pwr.d3 = []) : s.holdOnLoss = s := by
  have hnone : s.allD3 = false := by
    rw [State.allD3, hd3]
    cases h0 : s.linked 0 <;> cases h1 : s.linked 1 <;> simp [h0, h1]
  rw [State.holdOnLoss, hnone]
  extract_lets st u
  rw [if_pos hsh]
  split <;> rfl

theorem ring_cutPort (s : State) (h k : Nat) : (s.cutPort h).ring k = ringLost h (s.ring k) := by
  have hrings : (s.cutPort h).rings = SMap.mapVal s.rings (fun _ r => ringLost h r) := rfl
  rw [State.ring, State.ring, SMap.getD, SMap.getD, hrings, SMap.get?_mapVal]
  cases SMap.get? s.rings k <;> rfl

theorem ringLost_stopped {h : Nat} {r : Ring} (hrun : r.st = 1) (hport : (r.inHost && r.port == h) = true) :
    (ringLost h r).st = 2 ∧ (ringLost h r).fault = 0x0C05 := by
  rw [ringLost, if_neg (by omega)]
  dsimp only
  rw [if_pos ⟨hrun, by rw [hport, Bool.or_true]⟩]
  exact ⟨rfl, rfl⟩

theorem ringLost_lost {h : Nat} {r : Ring} (hst : r.st ≠ 0) (hport : (r.cqInHost && r.cqPort == h) = true) : (ringLost h r).lost = true := by
  rw [ringLost, if_neg hst]
  dsimp only
  rw [hport, if_pos rfl]
  split <;> rfl

/-! ### The registers of a loss -/

theorem linkCut_regs (s : State) (h : Nat) : (s.linkCut h).fld (hpPage h) Fld.HP_LINK_STATE = 0 ∧
    (s.linkCut h).fld (hpPage h) Fld.HP_LOSS_LOSS_SEQ =
      satAdd (Fld.HP_LOSS_LOSS_SEQ.hi + 1 - Fld.HP_LOSS_LOSS_SEQ.lo) (s.fld (hpPage h) Fld.HP_LOSS_LOSS_SEQ) 1 ∧
    ((s.linkCut h).hp h).lossStroke = s.strokeNo ∧ LogOnly s (s.linkCut h) := by
  unfold State.linkCut
  extract_lets u w
  have hu : EndOnly [0x180] s u :=
    (((EndOnly.setFld s 13 h (by decide) 0).trans (.setFld _ 13 h (by decide) 0)).trans (.setFld _ 13 h (by decide) 0)).trans
      (.setFld _ 13 h (by decide) 0)
  have hw : EndOnly [0x30, 0x188] u w := (EndOnly.addFld u 13 h (by decide) 1).trans (.raise _ 13 h (by decide) 16)
  have hrel : LogOnly s w := ((((LogOnly.setFld ..).trans (.setFld ..)).trans (.setFld ..)).trans (.setFld ..)).trans
    ((State.addFld_regsOutOnly u _ _ _).trans (State.raise_regsOutOnly ..)).logOnly
  refine ⟨?_, ?_, ?_, hrel.trans (.modHp ..)⟩
  · refine (hw.fld 13 h Fld.HP_LINK_STATE (by decide)).trans ?_
    change u.fld (hpPage h) Fld.HP_LINK_STATE = 0
    simp only [u]
    rw [fld_setFld_apart _ _ _ (by decide), fld_setFld_apart _ _ _ (by decide), fld_setFld_apart _ _ _ (by decide)]
    exact fld_setFld_fits _ _ (by decide)
  · have hseq := hu.fld 13 h Fld.HP_LOSS_LOSS_SEQ (by decide)
    have hraise : w.fld (hpPage h) Fld.HP_LOSS_LOSS_SEQ = (u.addFld (hpPage h) Fld.HP_LOSS_LOSS_SEQ 1).fld (hpPage h) Fld.HP_LOSS_LOSS_SEQ :=
      (EndOnly.raise (offs := [0x30]) _ 13 h (by decide) 16).fld 13 h Fld.HP_LOSS_LOSS_SEQ (by decide)
    refine hraise.trans ((fld_setFld_fits _ _ ⟨by decide, by decide, ?_⟩).trans ?_)
    · exact Nat.lt_of_le_of_lt (Nat.min_le_right ..) (by decide)
    · exact congrArg (fun n => satAdd _ n 1) hseq
  · rw [hp_modHp_same]
    have hreg : u.reg (strPage + Reg.STR_COUNT) = s.reg (strPage + Reg.STR_COUNT) := hu.reg _ (by decide)
    rw [State.strokeNo, hreg, State.strokeNo]

theorem portLost_reg (s : State) (h : Nat) {k : Nat} (hk : pgOff k ∉ 0x110 :: endOffs) : (s.portLost h).reg k = (s.linkCut h).reg k := by
  have hsub : ∀ o ∈ endOffs, o ∈ 0x110 :: endOffs := fun _ ho => List.mem_cons_of_mem _ ho
  have hcopy : EndOnly (0x110 :: endOffs) (s.linkCut h) ((s.linkCut h).copyUncovered h) :=
    (EndOnly.modHp ..).foldl _ _ (fun u _ => logRecord_endOnly hsub u ..)
  have hdw : EndOnly (0x110 :: endOffs) (s.portCut h) ((s.portCut h).dwLost h) :=
    .ite ((EndOnly.setFld _ 13 h (by decide) 2).trans (.setFld _ 13 h (by decide) 0x0C05)) (.refl _)
  have hlock (u : State) : EndOnly (0x110 :: endOffs) u (u.releaseLock [h + 1]) :=
    .ite (((EndOnly.setFld u 1 0 (by decide) 0).trans (.setFld _ 1 0 (by decide) _)).trans (.raise _ 1 0 (by decide) 16)) (.refl u)
  calc (s.portLost h).reg k = (s.portDropped h).reg k :=
        (recordError_endOnly hsub (s.portDropped h) (e := s.lossError h) (Nat.le_refl 1)).reg k hk
    _ = ((s.portCut h).dwLost h).reg k := (hlock (((s.portCut h).dwLost h).dropHeld h)).reg k hk
    _ = ((s.linkCut h).copyUncovered h).reg k := hdw.reg k hk
    _ = (s.linkCut h).reg k := hcopy.reg k hk

theorem portLost_fld (s : State) (h : Nat) (f : Fld) (hoff : f.off < 4096 ∧ f.off ∉ 0x110 :: endOffs) :
    (s.portLost h).fld (hpPage h) f = (s.linkCut h).fld (hpPage h) f := by
  rw [State.fld, State.fld, hpPage, portLost_reg s h (by rw [pgOff_regKey_page 13 h hoff.1]; exact hoff.2)]

/-- What a loss leaves of the rings, the commands, the port and the rest of the state. -/
theorem portLost_kept (s : State) (h : Nat) : (s.portLost h).mem = s.mem ∧ (s.portLost h).shape.live = s.shape.live ∧
    (s.portLost h).frames = s.frames ∧ (∀ k, (s.portLost h).ring k = ringLost h (s.ring k)) ∧
    (∀ c ∈ (s.portLost h).cmds, h ∈ c.lostPorts) ∧ ((s.portLost h).hp h).uncovered = [] ∧ ((s.portLost h).hp h).lossStroke = s.strokeNo ∧
    (s.portLost h).pwr.d3 = s.pwr.d3.filter (fun x => x != h) := by
  have hloss := portLost_lossOnly s h
  obtain ⟨-, -, hstroke, hcut⟩ := linkCut_regs s h
  obtain ⟨hcopy, hunc, hkept⟩ := copyUncovered_kept (s.linkCut h) h
  have hlog : LogOnly s ((s.linkCut h).copyUncovered h) := hcut.trans hcopy
  have hhp : (s.portLost h).hp h = ((s.linkCut h).copyUncovered h).hp h :=
    (congrArg (fun x : State => x.hp h) hloss :)
  refine ⟨(congrArg State.mem hloss :).trans (congrArg State.mem hlog :), (congrArg (fun x : State => x.shape.live) hloss :).trans
    (congrArg (fun x : State => x.shape.live) hlog :), (congrArg State.frames hloss :).trans (congrArg State.frames hlog :), fun k => ?_,
    fun c hc => ?_, ?_, ?_, (congrArg (fun x : State => x.pwr.d3) hloss :).trans
      (congrArg (fun x : State => x.pwr.d3.filter (fun y => y != h)) hlog :)⟩
  · have hring : (s.portLost h).ring k = (((s.linkCut h).copyUncovered h).cutPort h).ring k :=
      (congrArg (fun x : State => x.ring k) hloss :)
    rw [hring, ring_cutPort]
    exact (congrArg (fun x : State => ringLost h (x.ring k)) hlog :)
  · have hcmds : (s.portLost h).cmds = ((s.linkCut h).copyUncovered h).cmds.map (fun c => { c with lostPorts := h :: c.lostPorts }) :=
      (congrArg State.cmds hloss :)
    rw [hcmds] at hc
    obtain ⟨d, -, rfl⟩ := List.mem_map.mp hc
    exact List.mem_cons_self ..
  · rw [hhp, hunc]
  · rw [hhp, hkept, hstroke]

theorem lookedAt_lostPorts (s : State) (c : InFlight) : (s.lookedAt c).lostPorts = c.lostPorts := by
  rw [State.lookedAt]
  split <;> rfl

theorem hostLoss_plain {s : State} {h : Nat} (hh : h < 2) (hup : s.linked h = true)
    (hsh : s.sh (hpPage 0) Fld.HP_CFG_HOLD_ON_HOST_LOSS = 0) (hd3 : s.pwr.d3 = []) : hostLoss s h = s.portLost h := by
  obtain ⟨-, hlive, -, -, -, -, -, hd⟩ := portLost_kept s h
  rw [hostLoss_eq hh hup]
  refine holdOnLoss_none ?_ ?_
  · rw [State.sh, hlive]
    exact hsh
  · rw [hd, hd3]
    rfl

/-! ### The claim of held state (R370) -/

/-- A claim comes within 100 ms of the port's last one. -/
def State.soonAt (s : State) (h ms : Nat) : Bool := match (s.hp h).lastClaim with
  | some t => decide (ms < t + 100)
  | none => false

theorem soonAt_iff (s : State) (h ms : Nat) : s.soonAt h ms = true ↔ ∃ x, (s.hp h).lastClaim = some x ∧ ms < x + 100 := by
  rw [State.soonAt]
  cases (s.hp h).lastClaim <;> simp

/-- The state after a claim that matches, before contexts are checked: the exit begins. -/
def State.claimed (s : State) (h ms : Nat) : State :=
  ((((s.modHp h (fun x => { x with lastClaim := some ms })).setFld (hpPage 0) Fld.HP_RETAIN_CTRL_STATE 2).setFld (hpPage 1)
    Fld.HP_RETAIN_CTRL_STATE 2).newRetainId).setFld crnPage Fld.CRN_PWR_STATUS_STATE 3

/-- The contexts of every partition, checked. -/
def State.allChecked (s : State) : State := (List.range 64).foldl (fun s p => s.checkContexts p) s

/-- A claim of held state is judged: within 100 ms of the last, or with another ID, it is refused. -/
def State.claimJudged (s : State) (h ms : Nat) (v : Word64) : State :=
  let u := if s.soonAt h ms then s else s.modHp h (fun x => { x with lastClaim := some ms })
  if s.soonAt h ms || u.reg (hpPage h + Reg.HP_RETAIN_ID) != v then
    ((u.refuseF (hpPage h) 0x0C09 Fld.HP_RETAIN_CLAIM_ID).addFld (hpPage h) Fld.HP_RETAIN_CTRL_REFUSED 1).raise (hpPage h) 19
  else
    (([0, 1].foldl (fun s q => s.setFld (hpPage q) Fld.HP_RETAIN_CTRL_STATE 2) u).newRetainId.setFld crnPage
      Fld.CRN_PWR_STATUS_STATE 3).allChecked

section
variable {s : State} {h ms : Nat} {v : Word64} (hin : s.letsIn (.pf h) (hpPage h))
include hin

theorem retainClaim_ignored (hst : s.fld (hpPage h) Fld.HP_RETAIN_CTRL_STATE ≠ 1 ∨ v = 0) : retainClaim s (.pf h) h ms v = s := by
  rw [retainClaim, letIn_letsIn hin]
  exact if_pos hst

variable (hst : s.fld (hpPage h) Fld.HP_RETAIN_CTRL_STATE = 1) (hv : v ≠ 0)
include hst hv

theorem retainClaim_judged : retainClaim s (.pf h) h ms v = s.claimJudged h ms v := by
  rw [retainClaim, letIn_letsIn hin]
  exact if_neg (fun hor => hor.elim (absurd hst) hv)

theorem retainClaim_soon (hsoon : s.soonAt h ms = true) : retainClaim s (.pf h) h ms v =
    ((s.refuseF (hpPage h) 0x0C09 Fld.HP_RETAIN_CLAIM_ID).addFld (hpPage h) Fld.HP_RETAIN_CTRL_REFUSED 1).raise (hpPage h) 19 := by
  rw [retainClaim_judged hin hst hv, State.claimJudged, hsoon, if_pos rfl, Bool.true_or, if_pos rfl]

theorem retainClaim_mismatch (hsoon : s.soonAt h ms = false) (hid : s.reg (hpPage h + Reg.HP_RETAIN_ID) ≠ v) :
    retainClaim s (.pf h) h ms v = (((s.modHp h (fun x => { x with lastClaim := some ms })).refuseF (hpPage h) 0x0C09
      Fld.HP_RETAIN_CLAIM_ID).addFld (hpPage h) Fld.HP_RETAIN_CTRL_REFUSED 1).raise (hpPage h) 19 := by
  have hreg : (s.modHp h (fun x => { x with lastClaim := some ms })).reg (hpPage h + Reg.HP_RETAIN_ID) =
      s.reg (hpPage h + Reg.HP_RETAIN_ID) := by rw [State.reg, State.reg, State.modHp_regs]
  rw [retainClaim_judged hin hst hv, State.claimJudged, hsoon, if_neg Bool.false_ne_true, Bool.false_or, hreg, if_pos (bne_iff_ne.mpr hid)]

theorem retainClaim_matches (hsoon : s.soonAt h ms = false) (hid : s.reg (hpPage h + Reg.HP_RETAIN_ID) = v) :
    retainClaim s (.pf h) h ms v = (s.claimed h ms).allChecked := by
  have hreg : (s.modHp h (fun x => { x with lastClaim := some ms })).reg (hpPage h + Reg.HP_RETAIN_ID) =
      s.reg (hpPage h + Reg.HP_RETAIN_ID) := by rw [State.reg, State.reg, State.modHp_regs]
  rw [retainClaim_judged hin hst hv, State.claimJudged, hsoon, if_neg Bool.false_ne_true, Bool.false_or, hreg,
    if_neg (fun hne => bne_iff_ne.mp hne hid), List.foldl_cons, List.foldl_cons, List.foldl_nil, State.claimed]

end

/-- The exit from the hold begins with a new retain ID on both ports. -/
theorem claimed_kept (s : State) (h ms : Nat) : (s.claimed h ms).fld crnPage Fld.CRN_PWR_STATUS_STATE = 3 ∧
    (s.claimed h ms).fld (hpPage 0) Fld.HP_RETAIN_CTRL_STATE = 2 ∧ (s.claimed h ms).fld (hpPage 1) Fld.HP_RETAIN_CTRL_STATE = 2 ∧
    (s.claimed h ms).draws = s.draws + 1 ∧
    (s.claimed h ms).reg (hpPage 0 + Reg.HP_RETAIN_ID) = (s.claimed h ms).reg (hpPage 1 + Reg.HP_RETAIN_ID) ∧
    (s.claimed h ms).shape = s.shape ∧ (s.claimed h ms).mem = s.mem ∧ (s.claimed h ms).ctxs = s.ctxs := by
  unfold State.claimed
  generalize hu : (s.modHp h (fun x => { x with lastClaim := some ms })) = u
  have hsame : u.draws = s.draws ∧ u.shape = s.shape ∧ u.mem = s.mem ∧ u.ctxs = s.ctxs := by
    rw [← hu]
    exact ⟨rfl, rfl, rfl, rfl⟩
  obtain ⟨hd, hshape, hmem, hctxs⟩ := hsame
  generalize hw : (u.setFld (hpPage 0) Fld.HP_RETAIN_CTRL_STATE 2).setFld (hpPage 1) Fld.HP_RETAIN_CTRL_STATE 2 = w
  have hw1 : w.fld (hpPage 1) Fld.HP_RETAIN_CTRL_STATE = 2 := by
    rw [← hw]
    exact fld_setFld_fits _ _ (by decide)
  have hw0 : w.fld (hpPage 0) Fld.HP_RETAIN_CTRL_STATE = 2 := by
    rw [← hw]
    exact (fld_setFld_other _ _ (.inl (by decide))).trans (fld_setFld_fits _ _ (by decide))
  have hwu : w = { u with regs := w.regs } := by
    rw [← hw]
    rfl
  obtain ⟨hdraws, hid, hreg, hrel⟩ := newRetainId_drawn w
  have hfld (q : Nat) : w.newRetainId.fld (hpPage q) Fld.HP_RETAIN_CTRL_STATE = w.fld (hpPage q) Fld.HP_RETAIN_CTRL_STATE := by
    rw [State.fld, State.fld, hreg _ (by rw [hpPage, pgOff_regKey_page 13 q (by decide)]; decide)]
  have hset := EndOnly.setFld (offs := [0x110]) w.newRetainId 0 0 (f := Fld.CRN_PWR_STATUS_STATE) (by decide) 3
  refine ⟨fld_setFld_fits _ _ (by decide), ?_, ?_, ?_, ?_, ?_, ?_, ?_⟩
  · exact (hset.fld 13 0 Fld.HP_RETAIN_CTRL_STATE (by decide)).trans ((hfld 0).trans hw0)
  · exact (hset.fld 13 1 Fld.HP_RETAIN_CTRL_STATE (by decide)).trans ((hfld 1).trans hw1)
  · exact hdraws.trans (by rw [hwu, ← hd])
  · exact (hset.reg _ (by decide)).trans (hid.trans (hset.reg _ (by decide)).symm)
  · exact ((congrArg State.shape hrel :).trans (congrArg State.shape hwu :)).trans hshape
  · exact ((congrArg State.mem hrel :).trans (congrArg State.mem hwu :)).trans hmem
  · exact ((congrArg State.ctxs hrel :).trans (congrArg State.ctxs hwu :)).trans hctxs

/-- Checking a partition's contexts aborts some and keeps the others' areas (R419). -/
theorem checkContexts_endOnly (s : State) (p : Nat) : EndOnly (endOffs ++ imageRegs) s (s.checkContexts p) := by
  have habort (u : State) (c : Nat) : EndOnly (endOffs ++ imageRegs) u (u.abortCtx p c 0x0E07 0xF003) :=
    abortCtx_endOnly (fun _ ho => List.mem_append_left _ ho) (fun _ ho => List.mem_append_right _ ho) u ..
  refine (EndOnly.refl s).foldl _ _ (fun u c => ?_)
  extract_lets x held fits
  split
  · exact .refl u
  split
  · exact .ite (.modCtx ..) (habort u c)
  · exact habort u c

/-- With no context READY or SUSPENDED nothing is checked. -/
theorem checkContexts_none {s : State} {p : Nat} (h : ∀ c < 16, (s.ctx p c).st ≠ .ready ∧ (s.ctx p c).st ≠ .suspended) :
    s.checkContexts p = s := by
  refine List.foldlRecOn (motive := (· = s)) _ _ rfl (fun u hu c hc => ?_)
  obtain ⟨hready, hsusp⟩ := h c (List.mem_range.mp hc)
  rw [hu]
  exact if_pos (by simp [hready, hsusp])

/-- The contexts checked, the exit goes on with the new retain ID; with none to check, memory stays. -/
theorem checked_of_endOnly {s t : State} {h ms : Nat} (hchecked : EndOnly (endOffs ++ imageRegs) (s.claimed h ms) t) :
    t.fld crnPage Fld.CRN_PWR_STATUS_STATE = 3 ∧
      t.fld (hpPage 0) Fld.HP_RETAIN_CTRL_STATE = 2 ∧ t.fld (hpPage 1) Fld.HP_RETAIN_CTRL_STATE = 2 ∧ t.draws = s.draws + 1 ∧
      t.reg (hpPage 0 + Reg.HP_RETAIN_ID) = t.reg (hpPage 1 + Reg.HP_RETAIN_ID) ∧ t.shape = s.shape := by
  obtain ⟨hpwr, h0, h1, hdraws, hids, hshape, -, -⟩ := claimed_kept s h ms
  have hid (q : Nat) : t.reg (hpPage q + Reg.HP_RETAIN_ID) = (s.claimed h ms).reg (hpPage q + Reg.HP_RETAIN_ID) :=
    hchecked.reg _ (by rw [hpPage, pgOff_page 13 q (by decide)]; decide)
  exact ⟨(hchecked.fld 0 0 Fld.CRN_PWR_STATUS_STATE (by decide)).trans hpwr,
    (hchecked.fld 13 0 Fld.HP_RETAIN_CTRL_STATE (by decide)).trans h0,
    (hchecked.fld 13 1 Fld.HP_RETAIN_CTRL_STATE (by decide)).trans h1, (congrArg State.draws hchecked.eq :).trans hdraws,
    (hid 0).trans (hids.trans (hid 1).symm), (congrArg State.shape hchecked.eq :).trans hshape⟩

theorem allChecked_endOnly (s : State) : EndOnly (endOffs ++ imageRegs) s s.allChecked :=
  (EndOnly.refl s).foldl _ _ checkContexts_endOnly

theorem allChecked_none {s : State} (h : ∀ p < 64, ∀ c < 16, (s.ctx p c).st ≠ .ready ∧ (s.ctx p c).st ≠ .suspended) :
    s.allChecked = s := by
  refine List.foldlRecOn (motive := (· = s)) _ _ rfl (fun u hu p hp => ?_)
  rw [hu]
  exact checkContexts_none (h p (List.mem_range.mp hp))

/-- What a claim that matches leaves. -/
theorem claimed_effects (s : State) (h ms : Nat) :
    (s.claimed h ms).allChecked.observe.fld crnPage Fld.CRN_PWR_STATUS_STATE = 3 ∧
      (s.claimed h ms).allChecked.observe.fld (hpPage 0) Fld.HP_RETAIN_CTRL_STATE = 2 ∧
      (s.claimed h ms).allChecked.observe.fld (hpPage 1) Fld.HP_RETAIN_CTRL_STATE = 2 ∧
      (s.claimed h ms).allChecked.observe.draws = s.draws + 1 ∧
      (s.claimed h ms).allChecked.observe.reg (hpPage 0 + Reg.HP_RETAIN_ID) =
        (s.claimed h ms).allChecked.observe.reg (hpPage 1 + Reg.HP_RETAIN_ID) ∧
      (s.claimed h ms).allChecked.observe.shape = s.shape ∧
      ((∀ p < 64, ∀ c < 16, (s.ctx p c).st ≠ .ready ∧ (s.ctx p c).st ≠ .suspended) →
        (s.claimed h ms).allChecked.observe.mem = s.mem) := by
  obtain ⟨-, -, -, -, -, -, hmem, hctxs⟩ := claimed_kept s h ms
  have hend := (allChecked_endOnly (s.claimed h ms)).trans (.observe _)
  obtain ⟨hpwr, h0, h1, hdraws, hids, hshape⟩ := checked_of_endOnly hend
  refine ⟨hpwr, h0, h1, hdraws, hids, hshape, fun hs => ?_⟩
  rw [allChecked_none (fun p hp c hc => by
    rw [State.ctx, hctxs]
    exact hs p hp c hc)]
  exact hmem

/-- Settles O46: the link's registers field by field, the loss by what each of its steps changes, the claim by its branches. -/
theorem hostLoss_clauses : Obligations.HostLoss := by
  unfold Obligations.HostLoss
  refine ⟨fun h s => ⟨fun hup => ?_, fun hh hdown hrun hmin htrim speed width cxl hspeed hwidth => ?_, fun hh hup hsh hd3 => ?_⟩,
    fun h ms v s => ?_⟩
  · exact done_eq (if_pos hup)
  · obtain ⟨hstate, hsp, hwd⟩ := linkSet_fields s h speed width cxl hspeed hwidth
    obtain ⟨hrel, hfld, hfresh, hdrawn, hkept⟩ := freshRaised_kept (s.linkSet h speed width cxl) h rfl
    have hset : UpOnly s (s.linkSet h speed width cxl) := rfl
    exact ⟨_, done_eq (linkUp_up s h speed width cxl hh hdown hrun hmin htrim),
      linked_of_state ((hfld Fld.HP_LINK_STATE (by decide)).trans hstate), (hfld Fld.HP_LINK_SPEED (by decide)).trans hsp,
      (hfld Fld.HP_LINK_WIDTH (by decide)).trans hwd, hfresh, hdrawn, hkept, (hset.trans hrel).observed⟩
  · obtain ⟨hmem, hlive, hframes, hrings, hcmds, hunc, hstroke, -⟩ := portLost_kept s h
    obtain ⟨hlink, hseq, -⟩ := linkCut_regs s h
    refine ⟨_, done_eq (hostLoss_plain hh hup hsh hd3), ?_, ?_, fun k hrun hport => ?_, fun k hst hport => ?_, fun c hc => ?_, hunc, hstroke, hmem,
      hlive, hframes⟩
    · exact unlinked_of_state ((portLost_fld s h Fld.HP_LINK_STATE (by decide)).trans hlink)
    · exact (portLost_fld s h Fld.HP_LOSS_LOSS_SEQ (by decide)).trans hseq
    · rw [show (s.portLost h).observe.ring k = ringLost h (s.ring k) from hrings k]
      exact ringLost_stopped hrun hport
    · rw [show (s.portLost h).observe.ring k = ringLost h (s.ring k) from hrings k]
      exact ringLost_lost hst hport
    · rw [observe_eq] at hc
      obtain ⟨d, hd, rfl⟩ := List.mem_map.mp hc
      rw [lookedAt_lostPorts]
      exact hcmds d hd
  intro pg soon again hin hh
  refine ⟨fun hst => ?_, fun hv => ⟨fun hst hsoon => ?_, fun hst hsoon hid => ?_, fun hst hsoon hid => ?_⟩⟩
  · exact done_eq (retainClaim_ignored hin hst)
  · exact done_eq (retainClaim_soon hin hst hv ((soonAt_iff ..).mpr hsoon))
  · exact done_eq (retainClaim_mismatch hin hst hv (Bool.eq_false_iff.mpr (mt (soonAt_iff ..).mp hsoon)) hid)
  · have heq := retainClaim_matches hin hst hv (Bool.eq_false_iff.mpr (mt (soonAt_iff ..).mp hsoon)) hid
    exact ⟨_, done_eq heq, claimed_effects s h ms⟩

end Sys2Proof.Machine
end

section
/-! The Dwerdo queue pair (R371, R372), O47. -/
namespace Sys2Proof.Machine

open Sys2Proof

/-! ### The queue pair is enabled and disabled -/

section
variable {s : State} {who : Requester} {h : Nat} {v : Word64} (hper : s.shape.persona[h]? = some 1) (hin : s.letsIn who (hpPage h))
include hper hin

theorem dwQueueEnable_disabled (hen : getBits v 4 4 = 0) : dwQueueEnable s who h v =
    (((s.setFld (hpPage h) Fld.HP_DW_CFG_LOG2 (getBits v 3 0)).setFld (hpPage h) Fld.HP_DW_CFG_EN 0).setFld (hpPage h)
      Fld.HP_DW_STATUS_STATE 0) := by
  rw [dwQueueEnable, letIn_letsIn hin]
  dsimp only
  rw [if_neg (not_not_intro hper), if_pos hen]

variable (hen : getBits v 4 4 = 1) (hoff : s.fld (hpPage h) Fld.HP_DW_CFG_EN = 0)
include hen hoff

theorem dwQueueEnable_badSize (hn : getBits v 3 0 < 4 ∨ 14 < getBits v 3 0) :
    dwQueueEnable s who h v = s.refuseF (hpPage h) 0x0102 Fld.HP_DW_CFG_LOG2 := by
  rw [dwQueueEnable, letIn_letsIn hin]
  dsimp only
  rw [if_neg (not_not_intro hper), if_neg (by omega), if_neg (by omega), if_pos hn]

/-- The queue pair starts empty, RUNNING. -/
def State.dwStarted (s : State) (h n : Nat) : State :=
  let u := ((s.setFld (hpPage h) Fld.HP_DW_CFG_LOG2 n).setFld (hpPage h) Fld.HP_DW_CFG_EN 1).modHp h (fun x => { x with dw := {} })
  let w := (u.setFld (hpPage h) Fld.HP_DW_STATUS_STATE 1).setFld (hpPage h) Fld.HP_DW_STATUS_FAULT 0
  (w.setFld (hpPage h) Fld.HP_DW_STATUS_SQ_HEAD 0).setFld (hpPage h) Fld.HP_DW_STATUS_CQ_TAIL 0

theorem dwQueueEnable_starts (hlow : 4 ≤ getBits v 3 0) (hhigh : getBits v 3 0 ≤ 14)
    (hsq : (s.reg (hpPage h + Reg.HP_DW_SQ_BASE)).toNat % 4096 = 0) (hcq : (s.reg (hpPage h + Reg.HP_DW_CQ_BASE)).toNat % 4096 = 0)
    (hevt : s.fld (hpPage h) Fld.HP_DW_EVT_BASE_ADDR % 4096 = 0)
    (hhbm : s.hbmRange 0 (s.fld (hpPage h) Fld.HP_DW_EVT_BASE_ADDR) 32768 = true) :
    dwQueueEnable s who h v = s.dwStarted h (getBits v 3 0) := by
  rw [dwQueueEnable, letIn_letsIn hin]
  dsimp only
  rw [if_neg (not_not_intro hper), if_neg (by omega), if_neg (by omega), if_neg (by omega), if_neg (not_not_intro hsq),
    if_neg (not_not_intro hcq), if_neg (not_not_intro hevt), if_neg (by simp [hhbm]), State.dwStarted]

end

/-- A queue pair that has started: its registers and its pointers. -/
theorem dwStarted_kept (s : State) (h : Nat) {n : Nat} (hn : n < 16) :
    (s.dwStarted h n).fld (hpPage h) Fld.HP_DW_CFG_LOG2 = n ∧ (s.dwStarted h n).fld (hpPage h) Fld.HP_DW_CFG_EN = 1 ∧
    (s.dwStarted h n).fld (hpPage h) Fld.HP_DW_STATUS_STATE = 1 ∧ (s.dwStarted h n).fld (hpPage h) Fld.HP_DW_STATUS_FAULT = 0 ∧
    (s.dwStarted h n).fld (hpPage h) Fld.HP_DW_STATUS_SQ_HEAD = 0 ∧ (s.dwStarted h n).fld (hpPage h) Fld.HP_DW_STATUS_CQ_TAIL = 0 ∧
    ((s.dwStarted h n).hp h).dw = {} ∧ s.dwStarted h n = { s with regs := (s.dwStarted h n).regs, hps := (s.dwStarted h n).hps } := by
  unfold State.dwStarted
  generalize hu : (s.setFld (hpPage h) Fld.HP_DW_CFG_LOG2 n).setFld (hpPage h) Fld.HP_DW_CFG_EN 1 = u
  have hcfg : u.fld (hpPage h) Fld.HP_DW_CFG_LOG2 = n ∧ u.fld (hpPage h) Fld.HP_DW_CFG_EN = 1 := by
    rw [← hu]
    refine ⟨?_, fld_setFld_fits _ _ (by decide)⟩
    rw [fld_setFld_apart _ _ _ (by decide)]
    exact fld_setFld_fits _ _ ⟨by decide, by decide, hn⟩
  have hstate : u = { s with regs := u.regs } := by
    rw [← hu]
    rfl
  extract_lets x y
  have hxu : (∀ f, x.fld (hpPage h) f = u.fld (hpPage h) f) ∧ (x.hp h).dw = {} := ⟨fun _ => rfl, congrArg HostPort.dw (hp_modHp_same ..)⟩
  have hrel : x = { s with regs := x.regs, hps := x.hps } := (congrArg (fun z : State => { z with hps := x.hps }) hstate :)
  clear_value x
  obtain ⟨hflds, hdw⟩ := hxu
  have hstatus : EndOnly [0x320] x ((y.setFld (hpPage h) Fld.HP_DW_STATUS_SQ_HEAD 0).setFld (hpPage h) Fld.HP_DW_STATUS_CQ_TAIL 0) :=
    (((EndOnly.setFld x 13 h (by decide) 1).trans (.setFld _ 13 h (by decide) 0)).trans (.setFld _ 13 h (by decide) 0)).trans
      (.setFld _ 13 h (by decide) 0)
  refine ⟨?_, ?_, ?_, ?_, ?_, fld_setFld_fits _ _ (by decide), hdw, ?_⟩
  · exact (hstatus.fld 13 h Fld.HP_DW_CFG_LOG2 (by decide)).trans ((hflds _).trans hcfg.1)
  · exact (hstatus.fld 13 h Fld.HP_DW_CFG_EN (by decide)).trans ((hflds _).trans hcfg.2)
  · rw [fld_setFld_apart _ _ _ (by decide), fld_setFld_apart _ _ _ (by decide), fld_setFld_apart _ _ _ (by decide)]
    exact fld_setFld_fits _ _ (by decide)
  · rw [fld_setFld_apart _ _ _ (by decide), fld_setFld_apart _ _ _ (by decide)]
    exact fld_setFld_fits _ _ (by decide)
  · rw [fld_setFld_apart _ _ _ (by decide)]
    exact fld_setFld_fits _ _ (by decide)
  · exact (congrArg (fun z : State => { z with
      regs := ((y.setFld (hpPage h) Fld.HP_DW_STATUS_SQ_HEAD 0).setFld (hpPage h) Fld.HP_DW_STATUS_CQ_TAIL 0).regs }) hrel :)

/-! ### The doorbells and the next command -/

section
variable {s : State} {h : Nat} (hper : s.shape.persona[h]? = some 1)
include hper

section
variable (hup : s.linked h = true)
include hup

theorem dwDoor_pf : s.dwDoor (.pf h) h = true := by
  rw [State.dwDoor, hper, hup]
  simp

theorem dwSqTailWrite_running {v : Word64} (hrun : s.fld (hpPage h) Fld.HP_DW_STATUS_STATE = 1) :
    dwSqTailWrite s (.pf h) h v = if 2 ^ s.dwLog2 h ≤ getBits v 15 0 then s.dwStop h 0x0306
      else s.modHp h (fun x => { x with dw := { x.dw with tail := getBits v 15 0 } }) := by
  rw [dwSqTailWrite]
  dsimp only
  rw [if_neg (by simp [dwDoor_pf hper hup, hrun])]

theorem dwCqHeadWrite_door {v : Word64} : dwCqHeadWrite s (.pf h) h v = if 2 ^ s.dwLog2 h ≤ getBits v 15 0 then s
      else s.modHp h (fun x => { x with dw := { x.dw with cqHead := getBits v 15 0 } }) := by
  rw [dwCqHeadWrite]
  dsimp only
  rw [dwDoor_pf hper hup, Bool.not_true, Bool.false_or]
  by_cases hbig : 2 ^ s.dwLog2 h ≤ getBits v 15 0
  · rw [if_pos hbig, if_pos (by simpa using hbig)]
  · rw [if_neg hbig, if_neg (by simpa using hbig)]

end

/-- The address of the next command of a port's queue. -/
def State.dwNextAt (s : State) (h : Nat) : Nat :=
  (s.reg (hpPage h + Reg.HP_DW_SQ_BASE)).toNat + 64 * ((s.hp h).dw.taken % 2 ^ s.dwLog2 h)

/-- The next command of a port's queue is taken. -/
def State.dwTaken (s : State) (h : Nat) : State :=
  (s.modHp h (fun x => { x with dw := { x.dw with taken := x.dw.taken + 1 } })).setFld (hpPage h) Fld.HP_DW_STATUS_SQ_HEAD
    (((s.hp h).dw.taken + 1) % 2 ^ s.dwLog2 h)

variable {r : Nat} (hrun : s.fld (hpPage h) Fld.HP_DW_STATUS_STATE = 1)
  (hmore : (s.hp h).dw.taken % 2 ^ s.dwLog2 h ≠ (s.hp h).dw.tail % 2 ^ s.dwLog2 h) (hread : s.hostCode h 0 (s.dwNextAt h) 64 = 0)
include hrun hmore hread

theorem dwCommand_unknown (hop : dwOpcode? (bitsAt (s.rdHost h (s.dwNextAt h) 64) 0 7 0) = none) :
    dwCommand s h r = (s.dwTaken h).putDw h (leAt (s.rdHost h (s.dwNextAt h) 64) 2 2) 0x0C0B 0
      (bitsAt (s.rdHost h (s.dwNextAt h) 64) 1 2 2 == 1) := by
  rw [dwCommand]
  extract_lets at' b take fail
  have hcode : ¬s.hostCode h 0 at' 64 ≠ 0 := not_not_intro hread
  have hopcode : dwOpcode? (bitsAt b 0 7 0) = none := hop
  rw [if_neg (by simp [hper, hrun, hmore]), if_neg hcode, hopcode]
  rfl

theorem dwCommand_issued {op : Nat} {body : List Byte} (hop : dwOpcode? (bitsAt (s.rdHost h (s.dwNextAt h) 64) 0 7 0) = some op)
    (hrsv : dwReserved (s.rdHost h (s.dwNextAt h) 64) = false)
    (hbody : s.dwBody h (s.rdHost h (s.dwNextAt h) 64) op ((extNeed? op).getD 0) = .ok body)
    (hring : s.dwRing h r (s.rdHost h (s.dwNextAt h) 64) = true) :
    dwCommand s h r = (s.dwTaken h).dwIssue h r (s.rdHost h (s.dwNextAt h) 64) op ((extNeed? op).getD 0) body := by
  rw [dwCommand]
  extract_lets at' b take fail
  have hcode : ¬s.hostCode h 0 at' 64 ≠ 0 := not_not_intro hread
  have hopcode : dwOpcode? (bitsAt b 0 7 0) = some op := hop
  have hsound : ¬dwReserved b = true := Bool.eq_false_iff.mp hrsv
  have hbodyAt : s.dwBody h b op ((extNeed? op).getD 0) = .ok body := hbody
  rw [if_neg (by simp [hper, hrun, hmore]), if_neg hcode, hopcode]
  dsimp -zeta only
  rw [if_neg hsound, hbodyAt]
  exact if_pos hring

end

/-- Settles O47: the queue's registers field by field, its doorbells and commands by their branches. -/
theorem dwerdoQueue : Obligations.DwerdoQueue := by
  unfold Obligations.DwerdoQueue
  intro h v s pg n q hper hup
  refine ⟨fun who hin => ⟨fun hen => ?_, fun hen hoff hn => ?_, fun hen hoff hlow hhigh hsq hcq hevt hhbm => ?_⟩,
    fun hrun => ⟨fun hn => ?_, fun hn => ?_⟩, fun hn => ?_, fun hn => ?_, fun r hrun hmore => ?_⟩
  · exact done_eq (dwQueueEnable_disabled hper hin hen)
  · exact done_eq (dwQueueEnable_badSize hper hin hen hoff hn)
  · obtain ⟨hlog, hen', hst, hfault, hhead, htail, hdw, hrel⟩ := dwStarted_kept s h (n := getBits v 3 0) (by omega)
    exact ⟨_, done_eq (dwQueueEnable_starts hper hin hen hoff hlow hhigh hsq hcq hevt hhbm), hlog, hen', hst, hfault, hhead, htail, hdw,
      congrArg State.observe hrel⟩
  · exact done_eq ((dwSqTailWrite_running hper hup hrun).trans (if_neg (Nat.not_le_of_lt hn)))
  · exact done_eq ((dwSqTailWrite_running hper hup hrun).trans (if_pos hn))
  · exact done_eq ((dwCqHeadWrite_door hper hup).trans (if_neg (Nat.not_le_of_lt hn)))
  · exact done_eq ((dwCqHeadWrite_door hper hup).trans (if_pos hn))
  · intro a b u hread
    exact ⟨fun hop => done_eq (dwCommand_unknown hper hrun hmore hread hop),
      fun op body hop hrsv hbody hring => done_eq (dwCommand_issued hper hrun hmore hread hop hrsv hbody hring)⟩

end Sys2Proof.Machine
end

section
/-! Brim ports, discovery and the announcement of an epoch (R375 to R382), O57. -/
namespace Sys2Proof.Machine

open Sys2Proof

/-! ### Port states and discovery (R375 to R378) -/

section
variable {s : State} {b : Nat}

theorem brimLinkUp_sensing (hst : s.portState b = 1) : brimLinkUp s b = ((s.draw.2.setFld (brmPage b) Fld.BRM_STATUS_RATE
    (if s.sh (brmPage b) Fld.BRM_CFG_RATE_400 = 1 then 0 else s.draw.1.toNat % 2)).setPort b 2) := by
  rw [brimLinkUp, if_pos hst]
  rfl

theorem lldpTx_trained (hst : 2 ≤ s.portState b) : lldpTx s b = s.draw.2.emit (.lldp b ⟨true, leBytes 1 7 ++ s.serialBytes,
    leBytes 1 7 ++ leBytes 1 66 ++ (if b < 10 then leBytes 1 (48 + b) else leBytes 1 (48 + b / 10) ++ leBytes 1 (48 + b % 10)),
    s.sh (brmPage b) Fld.BRM_MAC_MAC, s.draw.1.toNat % 2 ^ 16, [
    beBytes 3 0x58EFC2 ++ leBytes 1 1 ++ beBytes 4 (s.sh e0Page Fld.EDIE_SYS_SYSTEM_ID) ++ beBytes 2 s.ownNode ++ s.serialBytes,
    beBytes 3 0x58EFC2 ++ leBytes 1 2 ++ leBytes 1 b ++ leBytes 1 (s.portState b) ++ beBytes 4 s.epochNo ++
      leBytes 1 (s.sh (brmPage b) Fld.BRM_CFG_UDP + 2 * s.sh (brmPage b) Fld.BRM_CFG_PTP_EN)]⟩) := by
  rw [lldpTx, if_neg (by omega), List.append_assoc (leBytes 1 7) (leBytes 1 66)]
  rfl

variable {du : Lldpdu}

theorem lldpduRx_ignored (h : s.portState b < 2 ∨ du.valid = false) : lldpduRx s b du = s := if_pos h

/-- An LLDPDU stored for its TTL. -/
def State.heard (s : State) (b : Nat) (du : Lldpdu) : State := s.modBrim (fun x => { x with lldp := SMap.put x.lldp b du })

theorem lldpduRx_heard (hst : 2 ≤ s.portState b) (hvalid : du.valid = true) (httl : du.ttl ≠ 0) :
    lldpduRx s b du = (if s.portState b = 2 then (s.heard b du).discover b du else s.heard b du).admitPorts := by
  have hstored : s.modBrim (fun x => { x with lldp := if du.ttl = 0 then SMap.erase x.lldp b else SMap.put x.lldp b du }) = s.heard b du := by
    rw [State.heard]
    simp only [if_neg httl]
  rw [lldpduRx, if_neg (by simp [hvalid]; omega), hstored]
  rfl

variable {sys n : Nat} (hnode : du.orgs.findSome? nodeTlv? = some (sys, n))
include hnode

theorem discover_otherSystem (hsys : sys ≠ s.sh e0Page Fld.EDIE_SYS_SYSTEM_ID) :
    s.discover b du = (s.setFld (brmPage b) Fld.BRM_STATUS_MISMATCH 1).raise (brmPage b) 17 := by
  rw [State.discover, hnode]
  dsimp only
  rw [if_pos hsys]
  exact if_pos (by decide)

theorem discover_native (hsys : sys = s.sh e0Page Fld.EDIE_SYS_SYSTEM_ID) (hn : n ≠ s.ownNode) (hudp : s.sh (brmPage b) Fld.BRM_CFG_UDP = 0)
    {i : Nat} (hport : du.orgs.findSome? portTlv? = some i) :
    s.discover b du = (((((s.setFld (brmPage b) Fld.BRM_STATUS_MISMATCH 0).setFld (brmPage b) Fld.BRM_STATUS_PARTNER_NODE n).setFld
      (brmPage b) Fld.BRM_STATUS_PARTNER_PORT i).setFld (brmPage b) Fld.BRM_STATUS_PARTNER_VALID 1).modBrim
        (fun x => { x with mac := SMap.put x.mac b du.mac })).setPort b 3 := by
  have hudp' : ¬(s.setFld (brmPage b) Fld.BRM_STATUS_MISMATCH 0).sh (brmPage b) Fld.BRM_CFG_UDP = 1 := by
    rw [State.sh, State.setFld_shape, ← State.sh, hudp]
    decide
  rw [State.discover, hnode]
  dsimp only
  rw [if_neg (not_not_intro hsys), if_neg hn, if_neg (not_not_intro rfl), if_neg hudp', hport]

end

/-! ### Announcing an epoch (R380) -/

theorem firstCode_cons_iff {b : Bool} {c : Nat} {r : List (Bool × Nat)} (hc : c ≠ 0) :
    firstCode ((b, c) :: r) = 0 ↔ b = false ∧ firstCode r = 0 := by
  rw [firstCode]
  cases b <;> simp [hc]

theorem announceCode_zero_iff (s : State) (k e bm earliest : Nat) : s.announceCode k e bm earliest = 0 ↔
    k = s.epochNo + 1 ∧ earliest ≤ e ∧ bm.testBit s.ownNode = true ∧ (s.dwerdo = true → popcount 8192 bm ≤ 256) ∧ s.brim.pend = none := by
  rw [State.announceCode, firstCode_cons_iff (by decide), firstCode_cons_iff (by decide), firstCode_cons_iff (by decide),
    firstCode_cons_iff (by decide), firstCode_cons_iff (by decide)]
  simp [firstCode]

theorem announce_read {s : State} {who : Requester} (hin : s.letsIn who (page 4 0))
    (halign : s.fld e0Page Fld.EDIE_MEMB_NEXT_ADDR_ADDR % 64 = 0) {bytes : List Byte}
    (hread : s.rdDev none (s.fld e0Page Fld.EDIE_MEMB_NEXT_ADDR_ADDR) 1024 = .ok bytes) :
    announce s who 0 =
      if s.announceCode (s.fld e0Page Fld.EDIE_MEMB_NEXT_EPOCH) (s.fld e0Page Fld.EDIE_MEMB_STROKE_STROKE) (leNat bytes) (s.strokeNo + 64) ≠ 0
      then (s.announced (s.announceCode (s.fld e0Page Fld.EDIE_MEMB_NEXT_EPOCH) (s.fld e0Page Fld.EDIE_MEMB_STROKE_STROKE) (leNat bytes)
        (s.strokeNo + 64))).refuseF e0Page (s.announceCode (s.fld e0Page Fld.EDIE_MEMB_NEXT_EPOCH) (s.fld e0Page Fld.EDIE_MEMB_STROKE_STROKE)
          (leNat bytes) (s.strokeNo + 64)) Fld.EDIE_MEMB_CMD_ANNOUNCE
      else ((bitList 8192 (s.brim.members ||| leNat bytes)).filter (fun n => n != s.ownNode)).foldl
        (fun u n => u.sendAnnounce n (s.fld e0Page Fld.EDIE_MEMB_NEXT_EPOCH) (s.fld e0Page Fld.EDIE_MEMB_STROKE_STROKE) (leNat bytes))
        (s.makePending (s.fld e0Page Fld.EDIE_MEMB_NEXT_EPOCH) (s.fld e0Page Fld.EDIE_MEMB_STROKE_STROKE) (leNat bytes)) := by
  rw [announce, letIn_letsIn hin, if_neg (not_not_intro rfl)]
  dsimp only
  rw [if_neg (not_not_intro halign), hread]
  rfl

/-- Settles O57: each event by its branches. -/
theorem brimPortsAndEpochs : Obligations.BrimPortsAndEpochs := by
  unfold Obligations.BrimPortsAndEpochs
  refine ⟨fun b s => ?_, fun who s => ?_⟩
  · intro pg serial st
    refine ⟨fun hst => ?_, fun hlow hhigh => ?_, fun hst => ?_, fun hst => ?_, fun hst hudp hmis => ?_, fun hst => ?_, rfl, fun du h => ?_,
      fun du hst hvalid httl => ?_⟩
    · refine ⟨_, ?_, fun hrate => if_pos hrate, done_eq (brimLinkUp_sensing hst)⟩
      split
      · decide
      · exact Nat.mod_lt _ (by decide)
    · exact done_eq (if_pos ⟨hlow, hhigh⟩)
    · exact done_eq (if_pos hst)
    · exact done_eq (if_neg hst)
    · exact done_eq (if_pos ⟨hst, hudp, hmis⟩)
    · exact ⟨s.draw.1.toNat % 2 ^ 16, Nat.mod_lt _ (by decide), done_eq (lldpTx_trained hst)⟩
    · exact done_eq (lldpduRx_ignored h)
    · intro u
      have hheard := lldpduRx_heard hst hvalid httl
      refine ⟨fun hne => done_eq (hheard.trans ?_), fun heq sys n hnode => ⟨fun hsys => done_eq (hheard.trans ?_),
        fun hsys hn hudp i hport => done_eq (hheard.trans ?_)⟩⟩
      · rw [if_neg hne]
        rfl
      · rw [if_pos heq, discover_otherSystem (s := s.heard b du) hnode hsys]
        rfl
      · rw [if_pos heq, discover_native (s := s.heard b du) hnode hsys hn hudp hport]
        rfl
  · intro a k e hin halign bytes hread bm code
    have hrun := announce_read hin halign hread
    exact ⟨announceCode_zero_iff s k e bm (s.strokeNo + 64), fun hcode => done_eq (hrun.trans (if_pos hcode)),
      fun hcode => done_eq (hrun.trans (if_neg (not_not_intro hcode)))⟩

end Sys2Proof.Machine
end

section
/-! Received frames and retransmission (R383 to R388, R394, R395, R428), O58. -/
namespace Sys2Proof.Machine

open Sys2Proof

/-! ### Frames that are checked and dropped, or not in sequence -/

section
variable {s : State} {b : Nat} {f : BrimFrame} {apply : State → Nat → BrimFrame → State}

theorem rxFrame_unsound (hst : 3 ≤ s.portState b) (hbad : f.ver ≠ 1 ∨ f.crcOk = false) : s.rxFrame b f apply = s.dropFrame b := by
  rw [State.rxFrame, if_neg (by omega), if_pos hbad]

/-- A sound frame for this node on a MEMBER port. -/
structure FrameSound (s : State) (b : Nat) (f : BrimFrame) : Prop where
  member : s.portState b = 5
  ver : f.ver = 1
  crc : f.crcOk = true
  own : f.dst = s.ownNode

/-- The state in which a frame in sequence is judged: the next one expected, this one counted. -/
def State.inSequence (s : State) (b : Nat) (f : BrimFrame) : State :=
  (s.setConn { s.conn b f.src with rxNext := ((s.conn b f.src).rxNext + 1) % 2 ^ 32 }).addFld (brmPage b) Fld.BRM_RX_FRAMES 1

section
variable (h : FrameSound s b f)
include h

theorem rxFrame_sound (htyp : f.typ ≤ 6) : s.rxFrame b f apply =
    if f.typ = 1 then (s.addFld (brmPage b) Fld.BRM_RX_FRAMES 1).takeAck b f
    else if f.seq ≠ (s.conn b f.src).rxNext then s.sendAck b f.src
    else ((((match f.body with
      | .nak code seq => if code = 0x0D0A then s.inSequence b f else (s.inSequence b f).takeNak b f code seq
      | _ => s.inSequence b f) : State).takeAck b f).takeFrame b f apply).sendAck b f.src := by
  rw [State.rxFrame, if_neg (by rw [h.member]; decide), if_neg (by simp [h.ver, h.crc]), if_neg (by omega), if_neg (not_not_intro h.own),
    if_neg (fun hx => hx.2 h.member), if_neg (by rw [h.member]; decide)]
  rfl

theorem rxFrame_ack (htyp : f.typ = 1) : s.rxFrame b f apply = (s.addFld (brmPage b) Fld.BRM_RX_FRAMES 1).takeAck b f :=
  (rxFrame_sound h (by omega)).trans (if_pos htyp)

section
variable (htyp : f.typ ≤ 6) (hack : f.typ ≠ 1)
include htyp hack

theorem rxFrame_outOfSequence (hseq : f.seq ≠ (s.conn b f.src).rxNext) : s.rxFrame b f apply = s.sendAck b f.src :=
  ((rxFrame_sound h htyp).trans (if_neg hack)).trans (if_pos hseq)

variable (hseq : f.seq = (s.conn b f.src).rxNext)
include hseq

theorem rxFrame_taken (hnak : ∀ code q, f.body ≠ .nak code q) :
    s.rxFrame b f apply = (((s.inSequence b f).takeAck b f).takeFrame b f apply).sendAck b f.src := by
  refine (((rxFrame_sound h htyp).trans (if_neg hack)).trans (if_neg (not_not_intro hseq))).trans ?_
  cases hb : f.body with
  | nak code q => exact absurd hb (hnak code q)
  | _ => rfl

theorem rxFrame_nak {code q : Nat} (hbody : f.body = .nak code q) (hcode : code ≠ 0x0D0A) :
    s.rxFrame b f apply = ((((s.inSequence b f).takeNak b f code q).takeAck b f).takeFrame b f apply).sendAck b f.src := by
  refine (((rxFrame_sound h htyp).trans (if_neg hack)).trans (if_neg (not_not_intro hseq))).trans ?_
  rw [hbody]
  dsimp only
  rw [if_neg hcode]

end

end

/-! ### Frames of their epoch -/

/-- The credit of a frame is owed to its sender. -/
def State.owing (s : State) (b : Nat) (f : BrimFrame) : State :=
  s.setConn { s.conn b f.src with owed := (s.conn b f.src).owed + frameCost f }

section
variable (hepoch : f.epoch = s.epochNo)
include hepoch

theorem takeFrame_lost (hlost : s.brim.lost.contains f.src = true) : s.takeFrame b f apply = (s.dropFrame b).owing b f := by
  rw [State.takeFrame, if_neg (by simp [hepoch])]
  dsimp only
  rw [if_pos (by rw [hlost, Bool.true_or])]
  rfl

variable (hlost : s.brim.lost.contains f.src = false)
include hlost

theorem takeFrame_asleep {p : Nat} (hsleep : s.sleepsOn? f = some p) :
    s.takeFrame b f apply = (s.autoWake p).modBrim (fun x => { x with held := x.held ++ [(b, f)] }) := by
  rw [State.takeFrame, if_neg (by simp [hepoch])]
  dsimp only
  rw [if_neg (by rw [hlost]; simp [hepoch]), hsleep]

theorem takeFrame_applied (hsleep : s.sleepsOn? f = none) : s.takeFrame b f apply = apply (s.owing b f) b f := by
  rw [State.takeFrame, if_neg (by simp [hepoch])]
  dsimp only
  rw [if_neg (by rw [hlost]; simp [hepoch]), hsleep]
  rfl

end

/-- Only PUT and SIGNAL frames wake a partition. -/
theorem sleepsOn?_none (hput : ∀ d, f.body ≠ .put d) (hsig : ∀ op x, f.body ≠ .signal op x) : s.sleepsOn? f = none := by
  rw [State.sleepsOn?]
  cases hb : f.body with
  | put d => exact absurd hb (hput d)
  | signal op x => exact absurd hb (hsig op x)
  | _ => rfl

/-- Windows do not depend on the connections. -/
theorem inbound_modBrim (s : State) (g : Brim → Brim) (job a n : Nat) : (s.modBrim g).inbound job a n = s.inbound job a n := rfl

/-- A PUT into no window wakes nothing. -/
theorem sleepsOn?_put_none {d : List Byte} (hbody : f.body = .put d) (hin : (s.owing b f).inbound f.job f.target d.length = none) :
    s.sleepsOn? f = none := by
  have hin' : s.inbound f.job f.target d.length = none := hin
  rw [State.sleepsOn?, hbody]
  dsimp only
  rw [hin']

/-! ### What a frame does, by its body -/

theorem applyFrame_put {d : List Byte} (hbody : f.body = .put d) {p a : Nat} (hin : s.inbound f.job f.target d.length = some (p, a)) :
    s.applyFrame b f = (s.wrDev (some p) a d).1.observe := by
  have hput : s.applyPut f.job f.target d = ((s.wrDev (some p) a d).1.observe, 0) := by
    rw [State.applyPut, hin]
  rw [State.applyFrame, hbody]
  dsimp only
  rw [hput, if_pos rfl]

theorem applyFrame_put_none {d : List Byte} (hbody : f.body = .put d) (hin : s.inbound f.job f.target d.length = none) :
    s.applyFrame b f = s.sendNak b f 0x0D06 := by
  have hput : s.applyPut f.job f.target d = (s, 0x0D06) := by
    rw [State.applyPut, hin]
  rw [State.applyFrame, hbody]
  dsimp only
  rw [hput]
  exact if_neg (show ¬(0x0D06 : Code) = 0 by decide)

theorem applyFrame_coll {digest : List Nat} {rank nf : Nat} {d : List Byte} (hbody : f.body = .coll digest rank nf d) :
    s.applyFrame b f = s.takeColl f digest ⟨rank, nf, f.target % 2 ^ 32 * 64, d⟩ := by
  rw [State.applyFrame, hbody]

theorem applyFrame_vote {key params vals : List Nat} {n w : Nat} {up : Bool} {code : Nat} (hbody : f.body = .vote key params vals n w up code) :
    s.applyFrame b f = s.takeVote f.src key params vals n up code := by
  rw [State.applyFrame, hbody]

theorem applyFrame_signal {op x p a : Nat} (hbody : f.body = .signal op x) (halign : f.target % 8 = 0)
    (hin : s.inbound f.job f.target 8 = some (p, a)) {t : State} (hsig : s.applySignal (s.keyOf p a) op x = some t) :
    s.applyFrame b f = t := by
  have hremote : s.applyRemote f.job f.target op x = (t, 0) := by
    rw [State.applyRemote, if_neg (not_not_intro halign), hin]
    dsimp only
    rw [hsig]
  rw [State.applyFrame, hbody]
  dsimp only
  rw [hremote, if_pos rfl]

theorem applyFrame_announce {k e bm : Nat} (hbody : f.body = .announce k e bm) : s.applyFrame b f = s.takeAnnounce k e bm := by
  rw [State.applyFrame, hbody]

theorem applyFrame_lost {n x : Nat} (hbody : f.body = .lost n x) (htarget : f.target ≠ 1) : s.applyFrame b f = s.loseNode n := by
  rw [State.applyFrame, hbody]
  exact if_neg htarget

theorem applyFrame_nak {code q : Nat} (hbody : f.body = .nak code q) (hcode : code ≠ 0x0D0A) : s.applyFrame b f = s := by
  rw [State.applyFrame, hbody]
  exact if_neg hcode

end

/-! ### Retransmission (R385, R394) -/

/-- What a timeout resends. -/
def State.resent (s : State) (b n : Nat) : State := (s.conn b n).unacked.foldl (fun u x =>
  ((u.addFld (brmPage b) Fld.BRM_RETX_FRAMES 1).emitFrame b { x.1 with ack := (s.conn b n).rxNext })) s

section
variable {s : State} {b n : Nat} (hsome : (s.conn b n).unacked ≠ []) (hfailed : (s.conn b n).failed = false) (hst : 5 ≤ s.portState b)
include hsome hfailed hst

theorem rtoExpiry_resends : rtoExpiry s b n =
    if (s.resent b n).sh (brmPage b) Fld.BRM_CFG_RETRY_MAX ≤ (s.conn b n).timeouts + 1 then
      ((s.resent b n).setConn { s.conn b n with timeouts := (s.conn b n).timeouts + 1, failed := true }).findLost
    else (s.resent b n).setConn { s.conn b n with timeouts := (s.conn b n).timeouts + 1 } := by
  rw [rtoExpiry]
  dsimp only
  rw [if_neg (by simp [hsome, hfailed, Nat.not_lt_of_le hst])]
  rfl

end

/-! ### The rows of the frames -/

/-- The row of each type receives its frames. -/
theorem exec_frame {b : Nat} {f : BrimFrame} {i : Instr} (hi : (f.typ, i) ∈ [(0, Instr.dataRx b f), (1, .ackRx b f), (2, .voteRx b f),
    (3, .signalRx b f), (4, .announceRx b f), (5, .lostRx b f), (6, .nakRx b f)]) (s : State) :
    exec i s = State.done (s.rxFrame b f State.applyFrame) ∧ f.typ ≤ 6 := by
  have hrow (typ : Nat) (htyp : f.typ = typ) : frameRx typ s b f = s.rxFrame b f State.applyFrame := if_pos (.inl htyp)
  simp only [List.mem_cons, Prod.mk.injEq, List.not_mem_nil, or_false] at hi
  rcases hi with ⟨htyp, rfl⟩ | ⟨htyp, rfl⟩ | ⟨htyp, rfl⟩ | ⟨htyp, rfl⟩ | ⟨htyp, rfl⟩ | ⟨htyp, rfl⟩ | ⟨htyp, rfl⟩
  all_goals exact ⟨congrArg State.done (hrow _ htyp), by omega⟩

theorem exec_frame_eq {b : Nat} {f : BrimFrame} {i : Instr} (hi : (f.typ, i) ∈ [(0, Instr.dataRx b f), (1, .ackRx b f), (2, .voteRx b f),
    (3, .signalRx b f), (4, .announceRx b f), (5, .lostRx b f), (6, .nakRx b f)]) {s t : State}
    (h : s.rxFrame b f State.applyFrame = t) : exec i s = .next t.observe :=
  (exec_frame hi s).1.trans (done_eq h)

section
variable {b : Nat} {f : BrimFrame} {s : State} (hsound : FrameSound s b f) (hseq : f.seq = (s.conn b f.src).rxNext)
  (hepoch : f.epoch = ((s.inSequence b f).takeAck b f).epochNo) {i : Instr}
  (hi : (f.typ, i) ∈ [(0, Instr.dataRx b f), (1, .ackRx b f), (2, .voteRx b f), (3, .signalRx b f), (4, .announceRx b f), (5, .lostRx b f),
    (6, .nakRx b f)]) (hack : f.typ ≠ 1) (hnak : ∀ code q, f.body ≠ .nak code q)
include hsound hseq hepoch hi hack hnak

/-- A frame of its epoch, in sequence, that wakes nothing is applied and acknowledged. -/
theorem exec_applied (hlost : ((s.inSequence b f).takeAck b f).brim.lost.contains f.src = false)
    (hsleep : ((s.inSequence b f).takeAck b f).sleepsOn? f = none) {t : State}
    (h : (((s.inSequence b f).takeAck b f).owing b f).applyFrame b f = t) : exec i s = .next (t.sendAck b f.src).observe := by
  refine exec_frame_eq hi ((rxFrame_taken hsound (exec_frame hi s).2 hack hseq hnak).trans ?_)
  rw [takeFrame_applied hepoch hlost hsleep, h]

theorem exec_held (hlost : ((s.inSequence b f).takeAck b f).brim.lost.contains f.src = false) {p : Nat}
    (hsleep : ((s.inSequence b f).takeAck b f).sleepsOn? f = some p) : exec i s =
      .next (((((s.inSequence b f).takeAck b f).autoWake p).modBrim (fun x => { x with held := x.held ++ [(b, f)] })).sendAck b f.src).observe := by
  refine exec_frame_eq hi ((rxFrame_taken hsound (exec_frame hi s).2 hack hseq hnak).trans ?_)
  rw [takeFrame_asleep hepoch hlost hsleep]

theorem exec_fromLost (hlost : ((s.inSequence b f).takeAck b f).brim.lost.contains f.src = true) : exec i s =
    .next (((((s.inSequence b f).takeAck b f).dropFrame b).owing b f).sendAck b f.src).observe := by
  refine exec_frame_eq hi ((rxFrame_taken hsound (exec_frame hi s).2 hack hseq hnak).trans ?_)
  rw [takeFrame_lost hepoch hlost]

end

/-- Settles O58: a frame is checked, taken in sequence and judged by its epoch, then applied by its body. -/
theorem brimFrames : Obligations.BrimFrames := by
  unfold Obligations.BrimFrames
  intro b f s c u owed sound
  have hof (h : sound) : FrameSound s b f := ⟨h.1, h.2.1, h.2.2.1, h.2.2.2⟩
  refine ⟨fun i hi => ⟨fun hst hbad => ?_, fun h hack hseq => ?_⟩, fun h htyp => ?_, fun h hseq hepoch hlost => ?_,
    fun h htyp hseq code q hbody hcode => ?_, fun i hi hnak h hseq hepoch hlost => ?_, fun n => ?_⟩
  · exact exec_frame_eq hi (rxFrame_unsound hst hbad)
  · exact exec_frame_eq hi (rxFrame_outOfSequence (hof h) (exec_frame hi s).2 hack hseq)
  · exact exec_frame_eq (by simp [htyp]) (rxFrame_ack (hof h) htyp)
  · intro go v
    have hsleep (hput : ∀ d, f.body ≠ .put d) (hsig : ∀ op x, f.body ≠ .signal op x) : (u.takeAck b f).sleepsOn? f = none :=
      sleepsOn?_none hput hsig
    refine ⟨fun d p a htyp hbody hsl hin => ?_, fun d p htyp hbody hsl => ?_, fun d htyp hbody hin => ?_,
      fun digest rank nf d htyp hbody => ?_, fun key params vals n w up code htyp hbody => ?_, fun op x p a htyp hbody hsl halign hin t hsg => ?_,
      fun op x p htyp hbody hsl => ?_, fun k e bm htyp hbody => ?_, fun n x htyp hbody htarget => ?_⟩
    · exact exec_applied (hof h) hseq hepoch (by simp [htyp]) (by omega) (by simp [hbody]) hlost hsl (applyFrame_put hbody hin)
    · exact exec_held (hof h) hseq hepoch (by simp [htyp]) (by omega) (by simp [hbody]) hlost hsl
    · exact exec_applied (hof h) hseq hepoch (by simp [htyp]) (by omega) (by simp [hbody]) hlost (sleepsOn?_put_none hbody hin)
        (applyFrame_put_none hbody hin)
    · exact exec_applied (hof h) hseq hepoch (by simp [htyp]) (by omega) (by simp [hbody]) hlost (hsleep (by simp [hbody]) (by simp [hbody]))
        (applyFrame_coll hbody)
    · exact exec_applied (hof h) hseq hepoch (by simp [htyp]) (by omega) (by simp [hbody]) hlost (hsleep (by simp [hbody]) (by simp [hbody]))
        (applyFrame_vote hbody)
    · exact exec_applied (hof h) hseq hepoch (by simp [htyp]) (by omega) (by simp [hbody]) hlost hsl (applyFrame_signal hbody halign hin hsg)
    · exact exec_held (hof h) hseq hepoch (by simp [htyp]) (by omega) (by simp [hbody]) hlost hsl
    · exact exec_applied (hof h) hseq hepoch (by simp [htyp]) (by omega) (by simp [hbody]) hlost (hsleep (by simp [hbody]) (by simp [hbody]))
        (applyFrame_announce hbody)
    · exact exec_applied (hof h) hseq hepoch (by simp [htyp]) (by omega) (by simp [hbody]) hlost (hsleep (by simp [hbody]) (by simp [hbody]))
        (applyFrame_lost hbody htarget)
  · intro x hepoch hlost
    have hasleep : x.sleepsOn? f = none := sleepsOn?_none (by simp [hbody]) (by simp [hbody])
    refine exec_frame_eq (by simp [htyp]) ((rxFrame_nak (hof h) (by omega) (by omega) hseq hbody hcode).trans ?_)
    rw [show ((s.inSequence b f).takeNak b f code q).takeAck b f = x from rfl, takeFrame_applied hepoch hlost hasleep,
      applyFrame_nak hbody hcode]
    rfl
  · have hi' : (f.typ, i) ∈ [(0, Instr.dataRx b f), (1, .ackRx b f), (2, .voteRx b f), (3, .signalRx b f), (4, .announceRx b f),
        (5, .lostRx b f), (6, .nakRx b f)] := by
      simp only [List.mem_cons, List.not_mem_nil, or_false] at hi ⊢
      obtain hi | hi | hi | hi | hi := hi
      · exact .inl hi
      · exact .inr (.inr (.inl hi))
      · exact .inr (.inr (.inr (.inl hi)))
      · exact .inr (.inr (.inr (.inr (.inl hi))))
      · exact .inr (.inr (.inr (.inr (.inr (.inl hi)))))
    have hack : f.typ ≠ 1 := by
      simp only [List.mem_cons, Prod.mk.injEq, List.not_mem_nil, or_false] at hi
      omega
    exact exec_fromLost (hof h) hseq hepoch hi' hack hnak hlost
  · intro k hsome hfailed hst r
    have hrun := rtoExpiry_resends hsome hfailed hst
    have hr : r = s.resent b n := rfl
    have hk : k = s.conn b n := rfl
    rw [hr, hk]
    exact ⟨fun hlt => done_eq (hrun.trans (if_neg (Nat.not_le_of_lt hlt))), fun hle => done_eq (hrun.trans (if_pos hle))⟩

end Sys2Proof.Machine
end

section
/-! The error ring's head and failed units (R441, R446, R489), O55. -/
namespace Sys2Proof.Machine

open Sys2Proof

section
variable {s : State}

theorem errorRingHeadWrite_eq {who : Requester} {crown : Nat} {v : Word64} (hin : s.letsIn who (page 0 crown)) :
    errorRingHeadWrite s who crown v = if s.errHeadOk (getBits v 11 0) then s.passErrs (getBits v 11 0) else s :=
  letIn_letsIn hin _

variable (hrun : s.running = true)
include hrun

theorem meshLinkFailed_recorded {link : Nat} (h : link < 32) : Machine.meshLinkFailed s link = s.crnRecord 3 0xF009 :=
  if_neg (by simp [hrun, h])

theorem edieCrownFailed_recorded {unit : Nat} (h : unit < 6) : Machine.edieCrownFailed s unit = s.recordError {
    source := srcOf (if unit < 4 then page 4 unit else page 0 (unit - 4)), cls := 3, code := 0xF00A } :=
  if_neg (by simp [hrun, h])

theorem selfTestSweepDone_window (hmaint : s.maintStroke = true) (failing : List (Nat × Nat)) :
    Machine.selfTestSweepDone s failing = failing.foldl (fun s u =>
      if [6, 7, 10, 11, 17].contains u.1 && decide (u.2 < instances (if u.1 = 17 then 5 else u.1)) then s.failUnit u.1 u.2 else s) s :=
  if_neg (by simp [hrun, hmaint])

end

/-- Settles O55: each event by its branch. -/
theorem errorReports : Obligations.ErrorReports := by
  unfold Obligations.ErrorReports
  intro s
  refine ⟨fun who crown v hin => ⟨fun hok => ?_, fun hok => ?_⟩, fun link hrun hlink => done_eq (meshLinkFailed_recorded hrun hlink),
    fun unit hrun hunit => done_eq (edieCrownFailed_recorded hrun hunit), fun hrun hmaint => ⟨?_, fun k n hk hn => ?_⟩⟩
  · exact done_eq ((errorRingHeadWrite_eq hin).trans (if_pos hok))
  · exact done_eq ((errorRingHeadWrite_eq hin).trans (if_neg (Bool.eq_false_iff.mp hok)))
  · exact done_eq (selfTestSweepDone_window hrun hmaint [])
  · refine done_eq ((selfTestSweepDone_window hrun hmaint [(k, n)]).trans ?_)
    have hknown : [6, 7, 10, 11, 17].contains k = true := List.contains_iff_mem.mpr hk
    exact if_pos (Bool.and_eq_true_iff.mpr ⟨hknown, decide_eq_true hn⟩)

end Sys2Proof.Machine
end

section
/-! SPDM responses, anti-rollback counters, firmware updates and the debug port (R449, R460 to R467), O54. -/
namespace Sys2Proof.Machine

open Sys2Proof

/-! ### SPDM (R464, R465) -/

section
variable {s : State} {via c : Nat} (hc : s.responder? via = some c)
include hc

theorem spdmAfter_early {step : Nat} (h : SMap.getD s.sec.spdm via 0 < step) (answer : Nat → SpdmAnswer) (next : Option Nat) :
    s.spdmAfter via step answer next = s.emit (.spdm via .unexpected) := by
  unfold State.spdmAfter
  rw [hc]
  exact if_pos h

theorem spdmAfter_answers {step : Nat} (h : step ≤ SMap.getD s.sec.spdm via 0) (answer : Nat → SpdmAnswer) :
    s.spdmAfter via step answer none = s.emit (.spdm via (answer c)) := by
  unfold State.spdmAfter
  rw [hc]
  exact if_neg (Nat.not_lt_of_le h)

theorem spdmAfter_advances {step : Nat} (h : step ≤ SMap.getD s.sec.spdm via 0) (answer : Nat → SpdmAnswer) (n : Nat) :
    s.spdmAfter via step answer (some n) =
      { s with sec := { s.sec with spdm := SMap.put s.sec.spdm via n } }.emit (.spdm via (answer c)) := by
  unfold State.spdmAfter
  rw [hc]
  exact if_neg (Nat.not_lt_of_le h)

end

/-- A draw changes nothing that SPDM answers from. -/
theorem draw_responder? (s : State) (via : Nat) : s.draw.2.responder? via = s.responder? via := rfl

/-! ### Counters and firmware (R460, R461) -/

section
variable {s : State} {who : Requester} {v : Word64} (hin : s.letsIn who secPage) (hpriv : privileged who = true) (hv : getBits v 0 0 = 1)
include hin hpriv hv

theorem svnCommit_busy (hbusy : s.sec.svnBusy = true) : Machine.svnCommit s who v =
    (s.setFld secPage Fld.SEC_SVN_CMD_LAST_RESULT 0x0105).refuseF secPage 0x0105 Fld.SEC_SVN_CMD_COMMIT := by
  rw [Machine.svnCommit, letIn_letsIn hin, if_neg (by simp [hpriv, hv]), if_pos hbusy]

theorem svnCommit_free (hbusy : s.sec.svnBusy = false) : Machine.svnCommit s who v =
    if s.sec.running (s.fld secPage Fld.SEC_SVN_SEL_COUNTER) ≤ s.sec.counters.getD (s.fld secPage Fld.SEC_SVN_SEL_COUNTER) 0 then
      s.setFld secPage Fld.SEC_SVN_CMD_LAST_RESULT 0
    else ({ s.setFld secPage Fld.SEC_SVN_CMD_LAST_RESULT 0 with sec := { s.sec with svnBusy := true } }).queueNvm 4
      (s.fld secPage Fld.SEC_SVN_SEL_COUNTER) := by
  rw [Machine.svnCommit, letIn_letsIn hin, if_neg (by simp [hpriv, hv]), if_neg (by simp [hbusy])]
  rfl

end

section
variable {s : State} {m : FwImage} (hman : s.managed = true) (hslot : m.slot < 2)
include hman hslot

theorem pldmFwUpdate_closed (h : s.sec.closedSlot m.bundle = some m.slot) :
    Machine.pldmFwUpdate s m = (s.refuse secPage 0x1008).emit (.pldm 4 0x1008) := by
  rw [Machine.pldmFwUpdate, if_neg (by simp [hman, hslot]), if_pos h]

theorem pldmFwUpdate_stored (h : s.sec.closedSlot m.bundle ≠ some m.slot) : Machine.pldmFwUpdate s m =
    ({ s with sec := if m.bundle then { s.sec with bundle := s.sec.bundle.set m.slot ⟨m.valid, m.svn, m.seq, m.body⟩ }
      else { s.sec with stage := s.sec.stage.set m.slot ⟨m.valid, m.svn, m.seq, m.body⟩ } }).emit (.pldm 4 0) := by
  rw [Machine.pldmFwUpdate, if_neg (by simp [hman, hslot]), if_neg h]

end

/-! ### The debug port (R466, R467) -/

theorem mainLost_of_running {s : State} (h : s.running = true) : s.pwr.mainLost = false := by
  simp only [State.running, Bool.and_eq_true, Bool.not_eq_true'] at h
  exact h.1.1.1.1

/-- The 32 bytes of a challenge, drawn anew. -/
def State.newChallenge (s : State) : List Byte :=
  [s.draw.1, s.draw.2.draw.1, s.draw.2.draw.2.draw.1, s.draw.2.draw.2.draw.2.draw.1].flatMap (fun w => leBytes 8 w.toNat)

theorem newChallenge_length (s : State) : s.newChallenge.length = 32 := by
  simp [State.newChallenge]

section
variable {s : State} (hup : s.pwr.mainLost = false)
include hup

theorem debugChallengeRead_drawn : Machine.debugChallengeRead s =
    { s with sec := { s.sec with challenge := some s.newChallenge }, draws := s.draws + 4 }.emit (.data s.newChallenge) := by
  rw [Machine.debugChallengeRead, if_neg (by simp [hup])]
  rfl

variable {level : Nat} {sound : Bool}

theorem debugUnlockResponse_locked (h : s.fld secPage Fld.SEC_JTAG_LOCKED_OUT = 1) :
    Machine.debugUnlockResponse s level sound = (s.refuse secPage 0x1007).raise secPage 18 := by
  rw [Machine.debugUnlockResponse, if_neg (by simp [hup]), if_pos h]

variable (hopen : s.fld secPage Fld.SEC_JTAG_LOCKED_OUT = 0)
include hopen

theorem debugUnlockResponse_refused (h : s.sec.challenge = none ∨ sound = false) :
    Machine.debugUnlockResponse s level sound = s.debugRefused := by
  rw [Machine.debugUnlockResponse, if_neg (by simp [hup]), if_neg (by simp [hopen]), if_pos (by rcases h with h | h <;> simp [h])]

theorem debugUnlockResponse_opens (hch : s.sec.challenge ≠ none) (hdbg : s.fld secPage Fld.SEC_STATUS_DEBUG = 0) :
    Machine.debugUnlockResponse s 1 true = ((({ s with sec := { s.sec with challenge := none } }).setFld secPage Fld.SEC_STATUS_DEBUG
      1).setFld secPage Fld.SEC_JTAG_LEVEL 1).raise secPage 17 := by
  rw [Machine.debugUnlockResponse, if_neg (by simp [hup]), if_neg (by simp [hopen]), if_neg (by simp [hch])]
  extract_lets src u dbg w
  have hw : w = (u.setFld secPage Fld.SEC_STATUS_DEBUG 1).setFld secPage Fld.SEC_JTAG_LEVEL 1 := (if_pos rfl).trans (if_pos hdbg)
  rw [hw]

end

/-- Settles O54: each request by its branches. -/
theorem securityUnit : Obligations.SecurityUnit := by
  unfold Obligations.SecurityUnit
  refine ⟨fun via c s hc => ?_, fun s => ⟨fun who v hin hpriv hv => ?_, fun m hman hslot => ⟨fun h => ?_, fun h hb => ?_, fun h hb => ?_⟩,
    fun hman => ?_, fun hrun => ?_, rfl, fun level sound hrun => ⟨fun h => ?_, fun hopen h => ?_, ?_⟩, rfl⟩⟩
  · intro at' go
    have hdraw : s.draw.2.responder? via = some c := hc
    refine ⟨?_, fun h => ?_, fun h => ?_, fun h => ?_, fun h => ⟨?_, fun off len => ?_, fun slot off len hslot => ?_, fun hsign => ?_,
      fun i bs hbs => ?_, fun i hbs => ?_⟩, ?_⟩
    · exact done_eq (spdmAfter_advances hc (Nat.zero_le _) _ 1)
    · exact done_eq (spdmAfter_advances hc h _ 2)
    · exact done_eq (spdmAfter_advances hc h _ 3)
    · exact done_eq (spdmAfter_early hc h _ _)
    · exact done_eq (spdmAfter_answers hc h _)
    · exact done_eq (spdmAfter_answers hc h _)
    · refine done_eq ((spdmAfter_answers hc h _).trans ?_)
      rw [if_pos hslot]
    · refine done_eq ((spdmAfter_answers hdraw h _).trans ?_)
      rw [if_neg (not_not_intro rfl)]
      exact congrArg (fun a => s.draw.2.emit (.spdm via a)) (if_pos hsign)
    · refine done_eq ((spdmAfter_answers hdraw h _).trans ?_)
      refine congrArg (fun a => s.draw.2.emit (.spdm via a)) ?_
      split
      · next h' => exact absurd (hbs.symm.trans h') (by simp)
      · next h' =>
        obtain rfl := Option.some.inj (hbs.symm.trans h')
        rfl
    · refine done_eq ((spdmAfter_answers hdraw h _).trans ?_)
      refine congrArg (fun a => s.draw.2.emit (.spdm via a)) ?_
      split
      · rfl
      · next h' => exact absurd (hbs.symm.trans h') (by simp)
    · exact done_eq (spdmAfter_answers hc (Nat.zero_le _) _)
  · intro i z
    exact ⟨fun hbusy => done_eq (svnCommit_busy hin hpriv hv hbusy),
      fun hbusy hle => done_eq ((svnCommit_free hin hpriv hv hbusy).trans (if_pos hle)),
      fun hbusy hlt => done_eq ((svnCommit_free hin hpriv hv hbusy).trans (if_neg (Nat.not_le_of_lt hlt)))⟩
  · exact done_eq (pldmFwUpdate_closed hman hslot h)
  · refine done_eq ((pldmFwUpdate_stored hman hslot h).trans ?_)
    rw [if_pos hb]
  · refine done_eq ((pldmFwUpdate_stored hman hslot h).trans ?_)
    rw [if_neg (by simp [hb])]
  · exact done_eq (if_neg (by simp [hman]))
  · exact ⟨_, done_eq (debugChallengeRead_drawn (mainLost_of_running hrun)), s.newChallenge, rfl, newChallenge_length s, rfl⟩
  · exact done_eq (debugUnlockResponse_locked (mainLost_of_running hrun) h)
  · exact done_eq (debugUnlockResponse_refused (mainLost_of_running hrun) hopen h)
  · rintro hopen hch rfl rfl hdbg
    exact done_eq (debugUnlockResponse_opens (mainLost_of_running hrun) hopen hch hdbg)

end Sys2Proof.Machine
end

section
/-! Enabling, disabling and commanding a context (R402, R403, R411), O52. -/
namespace Sys2Proof.Machine

open Sys2Proof

/-! ### Which commands are left, and what a context keeps, when commands end (R84, R448) -/

/-- Where a command comes from: its ring and place there, its partition and context. -/
def InFlight.origin (f : InFlight) : Nat × Nat × Nat × Nat := (f.ring, f.seq, f.part, f.ctx)

/-- No command in flight has this one's place in its ring. -/
def State.lacks (s : State) (c : InFlight) : Prop := ∀ f ∈ s.cmds, ¬(f.ring = c.ring ∧ f.seq = c.seq)

/-- Ending work brings no new command, and of a context it touches the progress mark alone. -/
structure Ends (s t : State) : Prop where
  cmds : ∀ f ∈ t.cmds, ∃ g ∈ s.cmds, f.origin = g.origin
  ctx : ∀ p c, ∃ b, t.ctx p c = { s.ctx p c with progress := b }

namespace Ends
variable {s t u : State}

theorem of_eq (hc : t.cmds = s.cmds) (hx : t.ctxs = s.ctxs) : Ends s t where
  cmds := fun f hf => ⟨f, hc ▸ hf, rfl⟩
  ctx := fun p c => ⟨(s.ctx p c).progress, by rw [State.ctx, hx]; rfl⟩

theorem refl (s : State) : Ends s s := .of_eq rfl rfl

theorem trans (h : Ends s t) (k : Ends t u) : Ends s u where
  cmds := fun f hf => by
    obtain ⟨g, hg, hfg⟩ := k.cmds f hf
    obtain ⟨e, he, hge⟩ := h.cmds g hg
    exact ⟨e, he, hfg.trans hge⟩
  ctx := fun p c => by
    obtain ⟨b, hb⟩ := k.ctx p c
    obtain ⟨d, hd⟩ := h.ctx p c
    exact ⟨b, by rw [hb, hd]⟩

theorem lacks (h : Ends s t) {c : InFlight} (hc : s.lacks c) : t.lacks c := fun f hf he => by
  obtain ⟨g, hg, hfg⟩ := h.cmds f hf
  simp only [InFlight.origin, Prod.mk.injEq] at hfg
  exact hc g hg ⟨hfg.1 ▸ he.1, hfg.2.1 ▸ he.2⟩

theorem ite {c : Prop} [Decidable c] (h : Ends s t) (k : Ends s u) : Ends s (if c then t else u) := by
  split
  · exact h
  · exact k

theorem foldl {α : Type} (h : Ends s t) (l : List α) (f : State → α → State) (hf : ∀ u a, Ends u (f u a)) : Ends s (l.foldl f t) :=
  List.foldlRecOn l f h (fun u hu a _ => hu.trans (hf u a))

theorem of_regsOutOnly (h : RegsOutOnly s t) : Ends s t := .of_eq (congrArg State.cmds h :) (congrArg State.ctxs h :)

theorem of_memOnly (h : MemOnly s t) : Ends s t := .of_eq (congrArg State.cmds h :) (congrArg State.ctxs h :)

theorem of_errOnly (h : ErrOnly s t) : Ends s t := .of_eq (congrArg State.cmds h.eq :) (congrArg State.ctxs h.eq :)

theorem observe (s : State) : Ends s s.observe where
  cmds := fun f hf => by
    obtain ⟨g, hg, rfl⟩ := List.mem_map.mp hf
    refine ⟨g, hg, ?_⟩
    by_cases h : (g.saved || g.phase != .waiting) = true
    · rw [if_pos h]
    · rw [if_neg h]
      rfl
  ctx := fun p c => ⟨(s.ctx p c).progress, rfl⟩

theorem setFld (s : State) (pg : Nat) (f : Fld) (v : Nat) : Ends s (s.setFld pg f v) := .of_eq rfl rfl

theorem addFld (s : State) (pg : Nat) (f : Fld) (v : Nat) : Ends s (s.addFld pg f v) := .of_eq rfl rfl

theorem raise (s : State) (pg b : Nat) : Ends s (s.raise pg b) := .of_regsOutOnly (s.raise_regsOutOnly ..)

theorem emit (s : State) (o : Out) : Ends s (s.emit o) := .of_eq rfl rfl

theorem hwrs (s : State) (k : Nat) (bs : List Byte) : Ends s (s.hwrs k bs) := .of_eq (by simp) (by simp)

theorem modHp (s : State) (h : Nat) (f : HostPort → HostPort) : Ends s (s.modHp h f) := .of_eq rfl rfl

theorem setRing (s : State) (r : Nat) (x : Ring) : Ends s (s.setRing r x) := .of_eq rfl rfl

theorem modTc (s : State) (n : Nat) (f : Tc → Tc) : Ends s (s.modTc n f) := .of_eq rfl rfl

theorem dropCmd (s : State) (r q : Nat) : Ends s (s.dropCmd r q) where
  cmds := fun f hf => ⟨f, (List.mem_filter.mp hf).1, rfl⟩
  ctx := fun p c => ⟨(s.ctx p c).progress, rfl⟩

/-- A progress mark. -/
theorem marked (s : State) (p c : Nat) : Ends s (s.modCtx p c (fun x => { x with progress := true })) where
  cmds := fun f hf => ⟨f, hf, rfl⟩
  ctx := fun q d => by
    by_cases h : q * 16 + d = p * 16 + c
    · refine ⟨true, ?_⟩
      rw [State.ctx, State.ctx, h, State.modCtx, State.setCtx, SMap.getD_put_same]
      rfl
    · refine ⟨(s.ctx q d).progress, ?_⟩
      rw [State.ctx, State.modCtx, State.setCtx, SMap.getD_put_other _ _ _ h]
      rfl

end Ends

theorem dropMove_ends (s : State) (m : KvMove) : Ends s (s.dropMove m) := by
  unfold State.dropMove
  extract_lets s1 s2
  have h1 : Ends s s1 := .of_eq rfl rfl
  have h2 : Ends s s2 := h1.trans (.of_memOnly (.freeRun ..))
  exact .ite (h2.trans (.of_memOnly (.setSlotSt ..))) h2

theorem dropWork_ends (s : State) (c : InFlight) : Ends s (s.dropWork c) := by
  have habandon : Ends s (s.abandonMoves c.ring c.seq) := (Ends.refl s).foldl _ _ (fun u m => dropMove_ends u m)
  unfold State.dropWork
  split
  · exact habandon
  · exact (habandon.foldl _ _ (fun u i => .of_memOnly (.freeRun ..))).trans (.of_memOnly (.wr64 ..))

theorem performSignal_ends (s : State) (c : InFlight) : Ends s (s.performSignal c).1 := by
  unfold State.performSignal
  split
  · exact .refl s
  split
  · exact .refl s
  split
  · exact .refl s
  split
  · next k hk =>
    rw [State.applySignal]
    by_cases hbad : c.cmd.sigOp ≠ 0 ∧ s.badIn k 8 = true
    · rw [if_pos hbad]
      exact .refl s
    · rw [if_neg hbad]
      exact (Ends.of_memOnly (MemOnly.wr64 ..)).trans (.observe _)
  · exact .refl s

theorem logRecord_ends (s : State) (h : Nat) (rec : List Byte) (orig : Nat) (flushed sent : Bool) :
    Ends s (s.logRecord h rec orig flushed sent) := by
  unfold State.logRecord
  extract_lets tail entry full s1 s2 s3
  have h1 : Ends s s1 := .modHp ..
  have h2 : Ends s s2 := h1.trans (.setFld ..)
  have h3 : Ends s s3 := .ite (h2.trans ((Ends.setFld ..).trans (.addFld ..))) h2
  exact h3.trans (.raise ..)

theorem putDw_ends (s : State) (h cid status good : Nat) (irq : Bool) : Ends s (s.putDw h cid status good irq) := by
  unfold State.putDw
  split
  · exact .refl s
  extract_lets q n entry s1 s2 s3
  have h1 : Ends s s1 := .hwrs s _ _
  have h3 : Ends s s3 := (h1.trans (.modHp ..)).trans (.setFld ..)
  exact .ite (h3.trans (.emit ..)) h3

theorem putRecord_ends (s : State) (c : InFlight) (status info : Nat) : Ends s (s.putRecord c status info) := by
  unfold State.putRecord
  split
  · exact putDw_ends s ..
  extract_lets r b slot at_ adv irq
  have hirq (u : State) : Ends u (irq u) := by
    refine .ite ?_ (.refl u)
    split
    · exact .ite (.emit u _) (.refl u)
    · exact .refl u
  split
  · refine .ite (logRecord_ends s ..) ?_
    exact (((Ends.hwrs s _ _).trans (.setRing ..)).trans (.modHp ..)).trans (hirq _)
  · split
    · exact ((Ends.of_memOnly (MemOnly.wrs ..)).trans (.setRing ..)).trans (hirq _)
    · exact .refl s

theorem lateAt_ends (s : State) (late : Bool) : Ends s (s.lateAt late) :=
  .ite ((Ends.addFld s ..).trans (.raise ..)) (.refl s)

/-- A completed command leaves the list. -/
theorem complete_ends (s : State) (c : InFlight) :
    Ends s (s.complete c) ∧ (s.complete c).lacks c := by
  have hsig := performSignal_ends s c
  rw [State.complete]
  generalize s.performSignal c = x at hsig ⊢
  obtain ⟨u, status, held⟩ := x
  dsimp -zeta only at hsig ⊢
  extract_lets late s1 info s2 s3 s4
  have h1 : Ends s s1 := hsig.trans (lateAt_ends ..)
  have h2 : Ends s s2 := .ite h1 (h1.trans (putRecord_ends ..))
  have h3 : Ends s s3 := h2.trans (.dropCmd ..)
  have h4 : Ends s s4 ∧ s4.cmds = s3.cmds := by
    simp only [s4]
    split
    · exact ⟨h3.trans (.modTc ..), rfl⟩
    · exact ⟨h3, rfl⟩
  refine ⟨h4.1.trans (.marked ..), fun f hf he => ?_⟩
  have hf3 : f ∈ s3.cmds := h4.2 ▸ hf
  have hne := (List.mem_filter.mp hf3).2
  simp [he.1, he.2] at hne

/-- Work that ends takes every command picked off the list. -/
theorem endAll_ends (s : State) {pick : InFlight → Bool} (hpick : ∀ f g : InFlight, f.origin = g.origin → pick f = pick g)
    (code : Code) : Ends s (s.endAll pick code) ∧ ∀ f ∈ (s.endAll pick code).cmds, pick f = false := by
  have hfold : Ends s (s.endAll pick code) := (Ends.refl s).foldl _ _ (fun u c => (dropWork_ends u c).trans (complete_ends ..).1)
  have hgone : ∀ c ∈ s.cmds.filter pick, (s.endAll pick code).lacks c :=
    foldl_establishes (Q := fun c t => t.lacks c)
      (f := fun u c => (u.dropWork c).complete { c with status := code, phase := .ended, saved := false })
      (fun u c => (complete_ends ..).2) (fun u c d h => ((dropWork_ends u c).trans (complete_ends ..).1).lacks h) _ s
  refine ⟨hfold, fun f hf => ?_⟩
  obtain ⟨g, hg, hfg⟩ := hfold.cmds f hf
  rw [hpick f g hfg]
  refine Bool.eq_false_iff.mpr (fun hp => hgone g (List.mem_filter.mpr ⟨hg, hp⟩) f hf ?_)
  simp only [InFlight.origin, Prod.mk.injEq] at hfg
  exact ⟨hfg.1, hfg.2.1⟩

/-! ### Contexts by their index -/

theorem ctx_modCtx_same (s : State) (p c : Nat) (f : Ctx → Ctx) : (s.modCtx p c f).ctx p c = f (s.ctx p c) :=
  SMap.getD_put_same ..

theorem ctx_modCtx_other (s : State) (p : Nat) {c d : Nat} (h : d ≠ c) (f : Ctx → Ctx) : (s.modCtx p c f).ctx p d = s.ctx p d :=
  SMap.getD_put_other _ _ _ (by omega)

theorem ctx_observe (s : State) (p c : Nat) : s.observe.ctx p c = s.ctx p c := rfl

/-! ### An aborted context (R411) -/

theorem loseUnits_ends (s : State) (p : Nat) : Ends s (s.loseUnits p) :=
  (Ends.refl s).foldl _ _ (fun _ _ => .of_eq rfl rfl)

theorem clearSticky_ends (s : State) (p : Nat) : Ends s (s.clearSticky p) := by
  refine (Ends.refl s).foldl _ _ (fun u n => Ends.trans ?_ (.modTc ..))
  exact (Ends.refl u).foldl _ _ (fun _ _ => .of_eq rfl rfl)

/-- What an abort leaves: the context ABORTED with its code, none of its commands, and the other contexts' states. -/
structure AbortedCtx (p c : Nat) (code : Code) (s t : State) : Prop where
  st : (t.ctx p c).st = .aborted
  code : (t.ctx p c).lastCode = code
  image : (t.ctx p c).image = none
  cmds : ∀ f ∈ t.cmds, ¬(f.part = p ∧ f.ctx = c)
  others : ∀ d, d ≠ c → (t.ctx p d).st = (s.ctx p d).st

/-- Later endings leave an aborted context as it is. -/
theorem AbortedCtx.ends {p c : Nat} {code : Code} {s t u : State} (h : AbortedCtx p c code s t) (k : Ends t u) : AbortedCtx p c code s u where
  st := by
    obtain ⟨b, hb⟩ := k.ctx p c
    rw [hb]
    exact h.st
  code := by
    obtain ⟨b, hb⟩ := k.ctx p c
    rw [hb]
    exact h.code
  image := by
    obtain ⟨b, hb⟩ := k.ctx p c
    rw [hb]
    exact h.image
  cmds := fun f hf he => by
    obtain ⟨g, hg, hfg⟩ := k.cmds f hf
    simp only [InFlight.origin, Prod.mk.injEq] at hfg
    exact h.cmds g hg ⟨hfg.2.2.1 ▸ he.1, hfg.2.2.2 ▸ he.2⟩
  others := fun d hd => by
    obtain ⟨b, hb⟩ := k.ctx p d
    rw [hb]
    exact h.others d hd

theorem abortCtx_aborted (s : State) (p c : Nat) (lastCode status : Code) (d0 d1 : Nat) :
    AbortedCtx p c lastCode s (s.abortCtx p c lastCode status d0 d1) := by
  unfold State.abortCtx
  extract_lets held s1 rs s2 s3 s4 s5 s6
  have hend := endAll_ends s (pick := fun f => f.part == p && f.ctx == c) (fun f g h => by
    simp only [InFlight.origin, Prod.mk.injEq] at h
    simp [h.2.2.1, h.2.2.2]) status
  have h12 : Ends s1 s2 := .of_eq rfl rfl
  have h13 : Ends s1 s3 := .ite (h12.trans ((loseUnits_ends ..).trans (clearSticky_ends ..))) h12
  have h03 : Ends s s3 := hend.1.trans h13
  have h4 : AbortedCtx p c lastCode s s4 := {
    st := by rw [ctx_modCtx_same]
    code := by rw [ctx_modCtx_same]
    image := by rw [ctx_modCtx_same]
    cmds := fun f hf he => by
      obtain ⟨g, hg, hfg⟩ := h13.cmds f hf
      simp only [InFlight.origin, Prod.mk.injEq] at hfg
      have hpick := hend.2 g hg
      simp [← hfg.2.2.1, ← hfg.2.2.2, he.1, he.2] at hpick
    others := fun d hd => by
      obtain ⟨b, hb⟩ := h03.ctx p d
      rw [ctx_modCtx_other _ _ hd, hb] }
  have h6 : AbortedCtx p c lastCode s s6 := h4.ends ((Ends.raise ..).trans (.ite (.raise ..) (.refl _)))
  exact h6.ends (.of_errOnly (State.recordError_errOnly _ (Nat.le_refl 1)))

/-! ### Enabling and disabling (R402) -/

section
variable {s : State} {who : Requester} {p : Nat} (hin : s.letsIn who (partPage p))
include hin

section
variable {v : Word64} (hv : getBits v 0 0 = 1) (hen : (s.ctx p (s.ctxSel p)).en = false) (hdef : s.shape.live.defined p = true)
include hv hen hdef

theorem ctxCfgWrite_refused {code : Code} {f : Fld}
    (h : s.ctxCheck p (s.ctxSel p) { s.ctx p (s.ctxSel p) with cfg := v &&& ctxCfgMask } = .error (code, f)) :
    ctxCfgWrite s who p v = s.ctxRefuse p (s.ctxSel p) code f := by
  rw [ctxCfgWrite, letIn_letsIn hin]
  dsimp only
  rw [if_neg (by simp [hen]), if_neg (by simp [hen]), if_pos hv, if_neg (by simp [hdef]), h]

theorem ctxCfgWrite_ready {ws : List Window} {areas : List (Nat × Nat)} {bs : List Nat}
    (h : s.ctxCheck p (s.ctxSel p) { s.ctx p (s.ctxSel p) with cfg := v &&& ctxCfgMask } = .ok (ws, areas, bs)) :
    ctxCfgWrite s who p v = s.makeReady p (s.ctxSel p) { s.ctx p (s.ctxSel p) with cfg := v &&& ctxCfgMask } ws areas bs := by
  rw [ctxCfgWrite, letIn_letsIn hin]
  dsimp only
  rw [if_neg (by simp [hen]), if_neg (by simp [hen]), if_pos hv, if_neg (by simp [hdef]), h]

end

section
variable {v : Word64} (hen : (s.ctx p (s.ctxSel p)).en = true)
include hen

theorem ctxCfgWrite_locked (h : v &&& ctxCfgMask ≠ (s.ctx p (s.ctxSel p)).cfg &&& ctxCfgMask) :
    ctxCfgWrite s who p v = s.ctxRefuse p (s.ctxSel p) 0x0105 Fld.PART_CTX_CFG_QUANTUM := by
  rw [ctxCfgWrite, letIn_letsIn hin]
  exact if_pos (by simp [hen, h])

variable (hcfg : v &&& ctxCfgMask = (s.ctx p (s.ctxSel p)).cfg &&& ctxCfgMask) (hv : getBits v 0 0 = 0)
include hcfg hv

theorem ctxCfgWrite_off : ctxCfgWrite s who p v = match (s.ctx p (s.ctxSel p)).st with
    | .ready | .suspended | .aborted =>
      if s.rings.any (fun r => s.ctxRing p (s.ctxSel p) r.1 && r.2.st != 0) then
        s.ctxRefuse p (s.ctxSel p) 0x0E09 Fld.PART_CTX_CFG_EN
      else s.emptyCtx p (s.ctxSel p)
    | _ => s.ctxRefuse p (s.ctxSel p) 0x0E09 Fld.PART_CTX_CFG_EN := by
  have hoff : ¬getBits v 0 0 = 1 := by simp [hv]
  rw [ctxCfgWrite, letIn_letsIn hin]
  dsimp only
  rw [if_neg (by simp [hen, hcfg]), if_pos hen]
  exact if_neg hoff

end

end

/-! ### Commands of a context (R403) -/

/-- The states that allow a command, by its bit of PART_CTX_CMD. -/
def ctxAllows (lo : Nat) (st : CtxSt) : Bool :=
  if lo = 0 then st == .ready
  else if lo = 1 then !(st == .empty || st == .suspended || st == .aborted)
  else if lo = 2 then st == .suspended
  else !(st == .empty || st == .aborted)

section
variable {s : State} {who : Requester} {p : Nat} (hin : s.letsIn who (partPage p))
include hin

theorem ctxCmd_accepted {f : Fld} {g : State → Nat → State} {st : CtxSt} (hst : (s.ctx p (s.ctxSel p)).st = st)
    (h : ctxAllows f.lo st = true) : ctxCmd s who p f g = g s (s.ctxSel p) := by
  rw [ctxCmd, letIn_letsIn hin]
  exact if_pos ((congrArg (ctxAllows f.lo) hst).trans h)

theorem ctxCmd_refused {f : Fld} {g : State → Nat → State} (h : ctxAllows f.lo (s.ctx p (s.ctxSel p)).st = false) :
    ctxCmd s who p f g = s.ctxRefuse p (s.ctxSel p) 0x0E09 f := by
  rw [ctxCmd, letIn_letsIn hin]
  exact if_neg (Bool.eq_false_iff.mp h)

end

/-- Settles O52: the write of PART_CTX_CFG by its branches, and each command by the states that allow it. -/
theorem contextControl : Obligations.ContextControl := by
  unfold Obligations.ContextControl
  refine ⟨fun who p v s => ?_, fun who p s => ?_⟩
  · intro c x on off hin
    have hon : getBits (setBits v 0 0 1) 0 0 = 1 := getBits_setBits_same v (by decide) (by decide) 1
    have hoff : getBits (setBits v 0 0 0) 0 0 = 0 := getBits_setBits_same v (by decide) (by decide) 0
    refine ⟨fun hen hdef => ⟨fun code f h => ?_, fun ws areas bs h => ?_⟩, fun hen hcfg => ?_, fun hen hcfg => ?_⟩
    · exact done_eq (ctxCfgWrite_refused hin hon hen hdef h)
    · exact done_eq (ctxCfgWrite_ready hin hon hen hdef h)
    · intro held
      have hwrite := ctxCfgWrite_off hin hen hcfg hoff
      refine ⟨fun hst hheld => done_eq (hwrite.trans ?_), fun hst hne => done_eq (hwrite.trans ?_)⟩
      · have hnot : ¬s.rings.any (fun r => s.ctxRing p c r.1 && r.2.st != 0) = true := Bool.eq_false_iff.mp hheld
        rcases hst with h | h | h <;> (rw [show (s.ctx p (s.ctxSel p)).st = _ from h]; exact if_neg hnot)
      · have hheld {t : CtxSt} (h : x.st = t) (ht : t ≠ .resident ∧ t ≠ .saving ∧ t ≠ .restoring) : held = true := by
          simpa [h, ht.1, ht.2.1, ht.2.2] using hst
        split
        · next h => exact if_pos (hheld h (by decide))
        · next h => exact if_pos (hheld h (by decide))
        · next h => exact if_pos (hheld h (by decide))
        · rfl
    · exact done_eq (ctxCfgWrite_locked hin hen hcfg)
  · intro c st hin
    refine ⟨fun h => ?_, fun h => ?_, fun h => ?_, fun h => ?_, fun h => ?_, fun h => ?_, fun h => ?_, fun h => ?_, fun h => ?_⟩
    · exact done_eq (ctxCmd_accepted hin h rfl)
    · exact done_eq (ctxCmd_refused hin (beq_eq_false_iff_ne.mpr h))
    · refine done_eq ((ctxCmd_accepted hin h rfl).trans ?_)
      rw [show (s.ctx p (s.ctxSel p)).st = _ from h]
    · have hsave : suspendCtx s who p = (s.modCtx p c (fun x => { x with suspendPending := true })).modCtx p c
          (fun x => { x with st := .saving, drained := false }) := by
        refine (ctxCmd_accepted hin h rfl).trans ?_
        rw [show (s.ctx p (s.ctxSel p)).st = _ from h]
        exact if_pos (by rw [ctx_modCtx_same]; exact h)
      refine ⟨_, done_eq hsave, ?_, ?_, rfl⟩
      · rw [ctx_observe, ctx_modCtx_same]
      · rw [ctx_observe, ctx_modCtx_same, ctx_modCtx_same]
    · rcases h with h | h | h <;> exact done_eq (ctxCmd_refused hin (congrArg (ctxAllows 1) h))
    · exact done_eq (ctxCmd_accepted hin h rfl)
    · exact done_eq (ctxCmd_refused hin (beq_eq_false_iff_ne.mpr h))
    · refine done_eq ((ctxCmd_accepted hin h rfl).trans ?_)
      rw [show (s.ctx p (s.ctxSel p)).st = _ from h]
    · have habort : abortCmd s who p = s.abortCtx p c 0xF003 0xF003 := by
        rcases h with h | h | h | h <;>
          (refine (ctxCmd_accepted hin h rfl).trans ?_
           rw [show (s.ctx p (s.ctxSel p)).st = _ from h])
      have hab := (abortCtx_aborted s p c 0xF003 0xF003 0 0).ends (.observe _)
      exact ⟨_, done_eq habort, hab.st, hab.code, hab.image, hab.cmds, fun d _ _ hd => hab.others d hd⟩

end Sys2Proof.Machine
end

section
/-! Collectives on one node, and with a node that is gone (R389 to R395), O59. -/
namespace Sys2Proof.Machine

open Sys2Proof

/-! ### A part in segments is the part (R384, R389) -/

theorem flatMap_chunks {α : Type} (l : List α) (w m : Nat) :
    (List.range m).flatMap (fun i => (l.drop (w * i)).take w) = l.take (w * m) := by
  induction m with
  | zero => simp
  | succ m ih => rw [List.range_succ, List.flatMap_append, ih, Nat.mul_succ, List.take_add, List.flatMap_singleton]

theorem find?_map_range {α : Type} {m i : Nat} (hi : i < m) (f : Nat → α) (p : α → Bool) (hp : ∀ j, p (f j) = decide (j = i)) :
    ((List.range m).map f).find? p = some (f i) := by
  rw [List.find?_map]
  have hfun : p ∘ f = fun j => decide (j = i) := funext hp
  have hfind : (List.range m).find? (fun j => decide (j = i)) = some i := by
    refine List.find?_range_eq_some.mpr ⟨by simp, List.mem_range.mpr hi, fun j hj => ?_⟩
    simp
    omega
  rw [hfun, hfind]
  rfl

/-- The segments of one rank's part. -/
def segments (rank nf : Nat) (data : List Byte) : List CollPart :=
  (List.range (max 1 (ceilDiv data.length 4096))).map (fun i => ⟨rank, nf, 4096 * i, (data.drop (4096 * i)).take 4096⟩)

theorem bytesOf_segments (k : Coll) {rank nf : Nat} {data : List Byte} (h : k.parts = segments rank nf data) :
    k.bytesOf rank data.length = data := by
  have hseg : ∀ i ∈ List.range (ceilDiv data.length 4096), (match k.parts.find? (fun p => p.rank == rank && p.off == 4096 * i) with
      | some p => p.data | none => []) = (data.drop (4096 * i)).take 4096 := by
    intro i hi
    have hlt : i < max 1 (ceilDiv data.length 4096) := Nat.lt_of_lt_of_le (List.mem_range.mp hi) (Nat.le_max_right ..)
    rw [h, segments, find?_map_range hlt _ _ (fun j => by rw [Bool.eq_iff_iff]; simp only [Bool.and_eq_true, beq_iff_eq, true_and, decide_eq_true_eq]; omega)]
  have hlen : data.length ≤ 4096 * ceilDiv data.length 4096 := by
    rw [ceilDiv]
    omega
  calc k.bytesOf rank data.length
    _ = (List.range (ceilDiv data.length 4096)).flatMap (fun i => (data.drop (4096 * i)).take 4096) :=
      congrArg List.flatten (List.map_congr_left hseg)
    _ = data.take (4096 * ceilDiv data.length 4096) := flatMap_chunks ..
    _ = data := List.take_of_length_le hlen

/-! ### One rank alone (R389, Table 16.5) -/

/-- The opcodes of collectives. -/
def collOps : List Nat := [0x60, 0x61, 0x62, 0x63, 0x64]

section
variable {op : Nat} (hop : op ∈ collOps) {d : CollDesc} (hroot : op = 0x64 → d.root = 0)
include hop hroot

theorem collPart_alone : collPart op d 0 0 = (0, (collBytes op d 0 1).1) := by
  simp only [collOps, List.mem_cons, List.not_mem_nil, or_false] at hop
  rcases hop with rfl | rfl | rfl | rfl | rfl
  · rfl
  · simp [collPart, collBytes]
  · rfl
  · simp [collPart, collBytes]
  · simp [collPart, collBytes, hroot rfl]

theorem collOutput_copies (hred : reduces op = false) {k : Coll} {src : List Byte} (hk : k.bytesOf 0 src.length = src)
    (hlen : src.length = (collBytes op d 0 1).1) : (collOutput op d 1 0 k).1 = src := by
  have hpart : k.bytesOf 0 (collPart op d 0 0).2 = src := by rw [collPart_alone hop hroot, ← hlen, hk]
  rw [collOutput]
  dsimp only
  rw [if_neg (by simp [hred])]
  split
  · next h => rw [hroot h, hpart]
  · simp [List.range_succ, hpart]

theorem collBytes_copies (hred : reduces op = false) : (collBytes op d 0 1).1 = (collBytes op d 0 1).2 := by
  simp only [collOps, List.mem_cons, List.not_mem_nil, or_false] at hop
  rcases hop with rfl | rfl | rfl | rfl | rfl
  · cases hred
  · cases hred
  · simp [collBytes]
  · rfl
  · simp [collBytes, hroot rfl]

theorem collOutput_length {k : Coll} {src : List Byte} (hk : k.bytesOf 0 src.length = src)
    (hlen : src.length = (collBytes op d 0 1).1) : (collOutput op d 1 0 k).1.length = (collBytes op d 0 1).2 := by
  cases hred : reduces op with
  | false => rw [collOutput_copies hop hroot hred hk hlen, hlen, collBytes_copies hop hroot hred]
  | true =>
    have hsum (l : List Nat) (f : Nat → List Byte × Nat) (hf : ∀ i, (f i).1.length = redSz d.outFmt) :
        ((l.map f).flatMap (fun x => x.1)).length = l.length * redSz d.outFmt := by
      induction l with
      | nil => simp
      | cons a l ih => rw [List.map_cons, List.flatMap_cons, List.length_append, hf, ih, List.length_cons, Nat.succ_mul, Nat.add_comm]
    have hbytes : (collBytes op d 0 1).2 = d.count * redSz d.outFmt := by
      simp only [reduces, Bool.or_eq_true, beq_iff_eq] at hred
      rcases hred with rfl | rfl <;> rfl
    rw [collOutput]
    dsimp only
    rw [if_pos hred, hbytes, reduceAll]
    refine (hsum _ _ (fun i => leBytes_length ..)).trans ?_
    rw [List.length_range]

end

theorem rdDev_length {s : State} {p : Option Nat} {a n : Nat} {b : List Byte} (h : s.rdDev p a n = .ok b) : b.length = n := by
  have hmap {α β : Type} (f : α → Except Code β) (l : List α) : ∀ bs, l.mapM f = .ok bs → bs.length = l.length := by
    induction l with
    | nil => exact fun bs h => (Except.ok.inj h) ▸ rfl
    | cons x l ih =>
      intro bs h
      rw [List.mapM_cons] at h
      obtain ⟨y, -, h⟩ := bind_eq_ok h
      obtain ⟨ys, hys, h⟩ := bind_eq_ok h
      rw [← Except.ok.inj h, List.length_cons, List.length_cons, ih ys hys]
  rw [hmap _ _ b h, List.length_range]

/-! ### What a change of the Brim's state alone leaves to device memory -/

theorem wrDev_modBrim (s : State) (f : Brim → Brim) (p : Option Nat) (a : Nat) (bs : List Byte) :
    (s.modBrim f).wrDev p a bs = ((s.wrDev p a bs).1.modBrim f, (s.wrDev p a bs).2) := by
  induction bs generalizing s a with
  | nil => rfl
  | cons b bs ih =>
    rw [State.wrDev, State.wrDev, show (s.modBrim f).xlate p a = s.xlate p a from rfl]
    cases s.xlate p a with
    | error e => rfl
    | ok k =>
      have hwr : (s.modBrim f).wr k b = (s.wr k b).modBrim f := rfl
      dsimp only
      rw [hwr, ih]

/-! ### Starting with no other node (R389, R390) -/

section
variable {u : State} {c : InFlight}

/-- The non-finite elements that a participant counts in its own input. -/
def ownNonFinite (c : InFlight) (src : List Byte) : Nat := if reduces c.cmd.op then nonFiniteIn (collDesc c.ext).inFmt src else 0

/-- The collective of a command that nobody else has a part in. -/
def State.soleColl (u : State) (c : InFlight) (nf : Nat) (src : List Byte) : Coll :=
  ⟨u.job c.part, (collDesc c.ext).epoch, (collDesc c.ext).id, u.collDigest c (collDesc c.ext), some (c.ring, c.seq), segments 0 nf src⟩

theorem collJoin_fresh (hfresh : ∀ k ∈ u.brim.colls, ¬(k.job = u.job c.part ∧ k.epoch = (collDesc c.ext).epoch ∧ k.id = (collDesc c.ext).id))
    (nf : Nat) (src : List Byte) : u.collJoin c (collDesc c.ext) (u.collDigest c (collDesc c.ext)) ⟨0, nf, 0, src⟩ =
      (u.setColl (u.soleColl c nf src), u.soleColl c nf src, true) := by
  have hnone : u.brim.colls.find? (fun k => k.job == u.job c.part && k.epoch == (collDesc c.ext).epoch && k.id == (collDesc c.ext).id) =
      none := List.find?_eq_none.mpr (fun k hk h => hfresh k hk (by simpa [and_assoc] using h))
  rw [State.collJoin]
  dsimp only
  rw [hnone]
  simp [State.soleColl, segments]

variable (hnodes : collNodes u c = [u.ownNode])
include hnodes

theorem collDigest_alone : (u.collDigest c (collDesc c.ext)).getD 6 0 = 1 ∧
    (digestNodes (u.collDigest c (collDesc c.ext))).idxOf u.ownNode = 0 := by
  simp [State.collDigest, digestNodes, hnodes]

theorem myRank_alone : u.myRank c = 0 := by simp [State.myRank, hnodes]

theorem collStart_alone (hop : c.cmd.op ∈ collOps) (hroot : c.cmd.op = 0x64 → (collDesc c.ext).root = 0)
    (hlost : u.brim.lost.contains u.ownNode = false) (hmem : u.brim.members.testBit u.ownNode = true) {src : List Byte}
    (hsrc : u.rdDev (some c.part) (collDesc c.ext).src (collBytes c.cmd.op (collDesc c.ext) 0 1).1 = .ok src)
    (hfresh : ∀ k ∈ u.brim.colls, ¬(k.job = u.job c.part ∧ k.epoch = (collDesc c.ext).epoch ∧ k.id = (collDesc c.ext).id)) :
    ∃ nf, u.collStart c = (u.setColl (u.soleColl c nf src)).collTry (u.soleColl c nf src) := by
  have hreach : u.unreachable u.ownNode = false := unreachable_ownNode u
  have hpart := collPart_alone hop hroot
  have htake : src.take (collBytes c.cmd.op (collDesc c.ext) 0 1).1 = src :=
    List.take_of_length_le (Nat.le_of_eq (rdDev_length hsrc))
  refine ⟨ownNonFinite c src, ?_⟩
  rw [State.collStart]
  dsimp only
  rw [myRank_alone hnodes, hnodes]
  simp only [List.foldl_cons, List.foldl_nil, hreach, List.any_cons, List.any_nil, hlost, hmem, List.length_singleton, Bool.false_eq_true,
    if_false]
  rw [if_neg (by decide), if_neg (by simp), hsrc]
  dsimp only
  rw [List.range_one, List.foldl_cons, List.foldl_nil, if_pos rfl, hpart]
  dsimp only
  rw [List.drop_zero, htake, collJoin_fresh hfresh]
  exact if_pos rfl

end

/-! ### Its own part is all there is (R391, R393) -/

section
variable {t : State} {r q : Nat} {x : InFlight} {k : Coll} {src : List Byte} {nf : Nat} (hcmd : k.cmd = some (r, q))
  (hat : t.cmdAt? r q = some x) (hstarted : x.phase = .started) (hop : x.cmd.op ∈ collOps)
  (hroot : x.cmd.op = 0x64 → (collDesc x.ext).root = 0) (hranks : k.digest.getD 6 0 = 1)
  (hme : (digestNodes k.digest).idxOf t.ownNode = 0) (hparts : k.parts = segments 0 nf src)
  (hlen : src.length = (collBytes x.cmd.op (collDesc x.ext) 0 1).1) (hnf : (collDesc x.ext).nf = 0)
  (hw : (t.wrDev (some x.part) (collDesc x.ext).dst (collOutput x.cmd.op (collDesc x.ext) 1 0 k).1).2.2 = 0)
include hcmd hat hstarted hop hroot hranks hme hparts hlen hnf hw

theorem collTry_alone : t.collTry k = (((t.wrDev (some x.part) (collDesc x.ext).dst
      (collOutput x.cmd.op (collDesc x.ext) 1 0 k).1).1.modCmd r q (fun y => { y with
        info := y.info ||| (collOutput x.cmd.op (collDesc x.ext) 1 0 k).2 * 256 })).dropColl k).observe.endCmd r q 0
      (collBytes x.cmd.op (collDesc x.ext) 0 1).2 := by
  have hbytes : k.bytesOf 0 src.length = src := bytesOf_segments k hparts
  have hout := collOutput_length hop hroot hbytes hlen
  have hpart : (collPart x.cmd.op (collDesc x.ext) 0 0).2 = src.length := by rw [collPart_alone hop hroot, hlen]
  have hany : k.parts.any (fun p => p.rank == 0) = true := by
    rw [hparts, segments, List.any_map, List.any_eq_true]
    exact ⟨0, List.mem_range.mpr (Nat.lt_of_lt_of_le Nat.one_pos (Nat.le_max_left ..)), rfl⟩
  rw [State.collTry, hcmd]
  dsimp only
  rw [hat]
  dsimp only
  rw [hranks, hme, hw, if_neg (by simp [hstarted, hpart, hbytes, hany]), if_neg (fun h => h.2.1 hnf)]
  dsimp only
  rw [if_pos rfl, hout]

end

/-! ### With a node that is gone (R394, R395) -/

/-- The nodes of a command that cannot be reached any more are lost (R394). -/
def State.withoutUnreachable (u : State) (ns : List Nat) : State := ns.foldl (fun s n => if s.unreachable n then s.loseNode n else s) u

section
variable {u : State} {c : InFlight}
  (h : ∃ n ∈ collNodes u c, (u.withoutUnreachable (collNodes u c)).brim.lost.contains n = true ∨
    (u.withoutUnreachable (collNodes u c)).brim.members.testBit n = false)
include h

theorem any_gone : (collNodes u c).any (fun n => (u.withoutUnreachable (collNodes u c)).brim.lost.contains n ||
    !(u.withoutUnreachable (collNodes u c)).brim.members.testBit n) = true := by
  obtain ⟨n, hn, hgone⟩ := h
  refine List.any_eq_true.mpr ⟨n, hn, ?_⟩
  rcases hgone with hgone | hgone <;> simp only [hgone, Bool.true_or, Bool.not_false, Bool.or_true]

theorem collStart_gone : u.collStart c = (u.withoutUnreachable (collNodes u c)).endCmd c.ring c.seq 0x0D04 0 := if_pos (any_gone h)

theorem voteStart_gone : u.voteStart c = (u.withoutUnreachable (collNodes u c)).endCmd c.ring c.seq 0x0D04 0 := if_pos (any_gone h)

end

/-- The commands of collectives run the collective of their opcode. -/
theorem exec_collective {r q op : Nat} {i : Instr}
    (h : (op, i) ∈ [(0x60, Instr.allReduce r q), (0x61, .reduceScatter r q), (0x62, .allGather r q), (0x63, .allToAll r q),
      (0x64, .broadcast r q)]) (s : State) : exec i s = State.done (collCmd op s r q) ∧ op ∈ collOps := by
  simp only [List.mem_cons, Prod.mk.injEq, List.not_mem_nil, or_false] at h
  rcases h with ⟨rfl, rfl⟩ | ⟨rfl, rfl⟩ | ⟨rfl, rfl⟩ | ⟨rfl, rfl⟩ | ⟨rfl, rfl⟩ <;> exact ⟨rfl, by decide⟩

/-- The collectives with one put in place of any of its identity (R390). -/
def Brim.withColl (k : Coll) (x : Brim) : Brim :=
  { x with colls := x.colls.filter (fun h => !(h.job == k.job && h.epoch == k.epoch && h.id == k.id)) ++ [k] }

/-- The collectives without those of one identity. -/
def Brim.withoutColl (k : Coll) (x : Brim) : Brim :=
  { x with colls := x.colls.filter (fun h => !(h.job == k.job && h.epoch == k.epoch && h.id == k.id)) }

theorem setColl_eq (s : State) (k : Coll) : s.setColl k = s.modBrim (Brim.withColl k) := rfl

/-- A command whose own part is all there is ends with its bytes. -/
theorem collective_alone {s : State} {r q op : Nat} {c : InFlight} {src : List Byte} (hready : s.ready op r q c) (hop : op ∈ collOps)
    (hnodes : collNodes (s.atBegin c) c = [s.ownNode]) (hlost : s.brim.lost.contains s.ownNode = false)
    (hmem : s.brim.members.testBit s.ownNode = true) (hroot : op = 0x64 → (collDesc c.ext).root = 0) (hnf : (collDesc c.ext).nf = 0)
    (hsrc : (s.atBegin c).rdDev (some c.part) (collDesc c.ext).src (collBytes op (collDesc c.ext) 0 1).1 = .ok src)
    (hfresh : ∀ k ∈ s.brim.colls, ¬(k.job = s.job c.part ∧ k.epoch = (collDesc c.ext).epoch ∧ k.id = (collDesc c.ext).id))
    (hw : ∀ bs : List Byte, bs.length = (collBytes op (collDesc c.ext) 0 1).2 →
      ((s.atBegin c).wrDev (some c.part) (collDesc c.ext).dst bs).2.2 = 0) :
    ∃ (bs : List Byte) (f : Brim → Brim) (g : InFlight → InFlight), (∀ x, (g x).ring = x.ring ∧ (g x).seq = x.seq) ∧
      (reduces op = false → bs = src) ∧
      collCmd op s r q = (((((s.atBegin c).wrDev (some c.part) (collDesc c.ext).dst bs).1.modBrim f).modCmd r q g).observe).endCmd r q 0
        (collBytes op (collDesc c.ext) 0 1).2 := by
  obtain ⟨rfl, rfl⟩ := cmdAt?_pos hready.1
  obtain rfl : c.cmd.op = op := hready.2.1
  obtain ⟨nf, hstart⟩ := collStart_alone (u := s.atBegin c) hnodes hop hroot hlost hmem hsrc hfresh
  let k := (s.atBegin c).soleColl c nf src
  have hlen := rdDev_length hsrc
  have hbytes : k.bytesOf 0 src.length = src := bytesOf_segments k rfl
  have hdigest := collDigest_alone (u := s.atBegin c) hnodes
  have hout := collOutput_length hop hroot hbytes hlen
  have hwr := wrDev_modBrim (s.atBegin c) (Brim.withColl k) (some c.part) (collDesc c.ext).dst
    (collOutput c.cmd.op (collDesc c.ext) 1 0 k).1
  have htry := collTry_alone (t := (s.atBegin c).setColl k) (k := k) (nf := nf) rfl (cmdAt?_atBegin hready) rfl hop hroot hdigest.1
    hdigest.2 rfl hlen hnf (by rw [setColl_eq, hwr]; exact hw _ hout)
  rw [setColl_eq, hwr] at htry
  exact ⟨_, fun x => (x.withColl k).withoutColl k,
    fun y => { y with info := y.info ||| (collOutput c.cmd.op (collDesc c.ext) 1 0 k).2 * 256 }, fun _ => ⟨rfl, rfl⟩,
    fun hred => collOutput_copies hop hroot hred hbytes hlen, (contCmd_ready hready _ _).trans (hstart.trans htry)⟩

/-- What a command that ends with its output written leaves of the state it wrote. -/
theorem collEnd_kept (w : State) (f : Brim → Brim) (g : InFlight → InFlight) (r q n : Nat) :
    let t := (((w.modBrim f).modCmd r q g).observe.endCmd r q 0 n).observe
    t.mem = w.mem ∧ t.host = w.host ∧ t.rings = w.rings ∧ t.frames = w.frames ∧ t.out = w.out := ⟨rfl, rfl, rfl, rfl, rfl⟩

theorem atBegin_kept (s : State) (c : InFlight) : (s.atBegin c).host = s.host ∧ (s.atBegin c).rings = s.rings ∧
    (s.atBegin c).frames = s.frames ∧ (s.atBegin c).out = s.out := ⟨rfl, rfl, rfl, rfl⟩

/-- Settles O59: with no other node a collective's own part is all that it combines; with a node that is gone it ends at its start. -/
theorem collectives_alone_and_gone : Obligations.Collectives := by
  unfold Obligations.Collectives
  refine ⟨fun r q op i c src s hi hready => ?_, fun r q op i c s hi hready => ?_⟩
  · intro u d hnodes hlost hmem hroot hnf hsrc hfresh hw
    obtain ⟨hexec, hop⟩ := exec_collective hi s
    obtain ⟨bs, f, g, hg, hcopy, heq⟩ := collective_alone hready hop hnodes hlost hmem hroot hnf hsrc hfresh hw
    have hwritten : MemOnly u (u.wrDev (some c.part) d.dst bs).1 := .wrDev ..
    obtain ⟨x, hx, -⟩ := cmdAt?_observe (cmdAt?_modCmd ((cmdAt?_congr hwritten.cmds r q).trans (cmdAt?_atBegin hready)) g hg)
    obtain ⟨hmem', hhost, hrings, hframes, hout⟩ := collEnd_kept (u.wrDev (some c.part) d.dst bs).1 f g r q (collBytes op d 0 1).2
    obtain ⟨hhost0, hrings0, hframes0, hout0⟩ := atBegin_kept s c
    refine ⟨_, hexec.trans (done_eq heq), endedWith_observe (endCmd_endedWith hx ..), fun h => ?_, hhost.trans ?_, hrings.trans ?_,
      hframes.trans ?_, hout.trans ?_⟩
    · have hred : reduces op = false := by rcases h with rfl | rfl | rfl <;> rfl
      rw [hmem', hcopy hred]
    · exact (congrArg State.host hwritten :).trans hhost0
    · exact (congrArg State.rings hwritten :).trans hrings0
    · exact (congrArg State.frames hwritten :).trans hframes0
    · exact (congrArg State.out hwritten :).trans hout0
  · intro u ns v h
    obtain ⟨rfl, rfl⟩ := cmdAt?_pos hready.1
    simp only [List.mem_cons, Prod.mk.injEq, List.not_mem_nil, or_false] at hi
    rcases hi with ⟨rfl, rfl⟩ | ⟨rfl, rfl⟩ | ⟨rfl, rfl⟩ | ⟨rfl, rfl⟩ | ⟨rfl, rfl⟩ | ⟨rfl, rfl⟩
    · exact done_eq ((contCmd_ready hready _ _).trans (collStart_gone h))
    · exact done_eq ((contCmd_ready hready _ _).trans (collStart_gone h))
    · exact done_eq ((contCmd_ready hready _ _).trans (collStart_gone h))
    · exact done_eq ((contCmd_ready hready _ _).trans (collStart_gone h))
    · exact done_eq ((contCmd_ready hready _ _).trans (collStart_gone h))
    · exact done_eq ((contCmd_ready hready _ _).trans (voteStart_gone h))

end Sys2Proof.Machine
end

section
/-! Quantum expiry, drain, save, restore and the watchdogs of contexts (R404 to R411, R448), O53. -/
namespace Sys2Proof.Machine

open Sys2Proof

/-! ### What writing and loading an image changes (R407 to R409, R414) -/

/-- Images, windows and abandoned moves touch memory, the units' registers and tidy cores, the moves and the free values. -/
def ImageOnly (s t : State) : Prop := t = { s with
  regs := t.regs, tcs := t.tcs, mem := t.mem, bad := t.bad, weak := t.weak, lost := t.lost, kvMoves := t.kvMoves, draws := t.draws }

namespace ImageOnly
variable {s t u : State}

theorem refl (s : State) : ImageOnly s s := rfl

theorem trans (h : ImageOnly s t) (k : ImageOnly t u) : ImageOnly s u :=
  Eq.trans k (congrArg (fun x : State => { x with
    regs := u.regs, tcs := u.tcs, mem := u.mem, bad := u.bad, weak := u.weak, lost := u.lost, kvMoves := u.kvMoves, draws := u.draws }) h)

theorem ite {c : Prop} [Decidable c] (h : ImageOnly s t) (k : ImageOnly s u) : ImageOnly s (if c then t else u) := by
  split
  · exact h
  · exact k

theorem foldl {α : Type} (h : ImageOnly s t) (l : List α) (f : State → α → State) (hf : ∀ u a, ImageOnly u (f u a)) :
    ImageOnly s (l.foldl f t) :=
  List.foldlRecOn l f h (fun u hu a _ => hu.trans (hf u a))

theorem of_memOnly (h : MemOnly s t) : ImageOnly s t :=
  (congrArg (fun x : State => { x with regs := t.regs, tcs := t.tcs, lost := t.lost, kvMoves := t.kvMoves, draws := t.draws }) h :)

theorem wr (s : State) (k : Nat) (b : Byte) : ImageOnly s (s.wr k b) := rfl

theorem wrs (s : State) (k : Nat) (bs : List Byte) : ImageOnly s (s.wrs k bs) := .of_memOnly (.wrs ..)

theorem lose (s : State) (base len : Nat) : ImageOnly s (s.lose base len) := rfl

theorem draw (s : State) : ImageOnly s s.draw.2 := rfl

theorem setReg (s : State) (k : Nat) (v : Word64) : ImageOnly s (s.setReg k v) := rfl

theorem modTc (s : State) (n : Nat) (f : Tc → Tc) : ImageOnly s (s.modTc n f) := rfl

theorem dropMove (s : State) (m : KvMove) : ImageOnly s (s.dropMove m) := by
  unfold State.dropMove
  extract_lets s1 s2
  have h1 : ImageOnly s s1 := rfl
  have h2 : ImageOnly s s2 := h1.trans (.of_memOnly (.freeRun ..))
  exact .ite (h2.trans (.of_memOnly (.setSlotSt ..))) h2

theorem abandonMoves (s : State) (r q : Nat) : ImageOnly s (s.abandonMoves r q) := (ImageOnly.refl s).foldl _ _ dropMove

theorem copyRange (s : State) (src dst len : Nat) : ImageOnly s (s.copyRange src dst len) :=
  (ImageOnly.lose s dst len).foldl _ _ (fun u _ => .wr u ..)

theorem loseUnits (s : State) (p : Nat) : ImageOnly s (s.loseUnits p) := (ImageOnly.refl s).foldl _ _ (fun u _ => .lose u ..)

theorem clearSticky (s : State) (p : Nat) : ImageOnly s (s.clearSticky p) := by
  refine (ImageOnly.refl s).foldl _ _ (fun u n => ImageOnly.trans ?_ (.modTc ..))
  exact (ImageOnly.refl u).foldl _ _ (fun w _ => .setReg w ..)

theorem writeCoreFrame (s : State) (p c seq at_ lc n : Nat) : ImageOnly s (s.writeCoreFrame p c seq at_ lc n) := by
  have hdraw := ImageOnly.draw s
  unfold State.writeCoreFrame
  generalize s.draw = d at hdraw ⊢
  obtain ⟨crc, s0⟩ := d
  dsimp -zeta only at hdraw ⊢
  extract_lets s1 s2 cells s3
  have h2 : ImageOnly s s2 := (hdraw.trans (.lose ..)).trans (.wrs ..)
  exact (h2.foldl _ _ (fun u _ => .wr u ..)).trans (.wrs ..)

theorem writeClusterFrame (s : State) (p c seq at_ lk k keep : Nat) : ImageOnly s (s.writeClusterFrame p c seq at_ lk k keep) := by
  have hdraw := ImageOnly.draw s
  unfold State.writeClusterFrame
  generalize s.draw = d at hdraw ⊢
  obtain ⟨crc, s0⟩ := d
  dsimp -zeta only at hdraw ⊢
  extract_lets s1 s2
  have h2 : ImageOnly s s2 := (hdraw.trans (.lose ..)).trans (.wrs ..)
  exact h2.foldl _ _ (fun u _ => .wr u ..)

theorem writeFrames (s : State) (p c seq keep : Nat) (areas : List (Nat × Nat)) : ImageOnly s (s.writeFrames p c seq keep areas) := by
  refine (ImageOnly.refl s).foldl _ _ (fun u a => ?_)
  extract_lets d cores clus s1 cb s2
  have h1 : ImageOnly u s1 := (ImageOnly.refl u).foldl _ _ (fun w i => by
    split
    · exact .refl w
    · exact .writeCoreFrame ..)
  have h2 : ImageOnly u s2 := h1.foldl _ _ (fun w i => by
    split
    · exact .refl w
    · exact .writeClusterFrame ..)
  exact h2.trans (.lose ..)

theorem loadImage (s : State) (p : Nat) (im : Image) : ImageOnly s (s.loadImage p im) := by
  unfold State.loadImage
  extract_lets s1 cores clus move s2 s3
  have h1 : ImageOnly s s1 := (ImageOnly.loseUnits ..).trans (.clearSticky ..)
  have h2 : ImageOnly s s2 := h1.foldl _ _ (fun w x => by
    split
    · exact .wr ..
    · exact .refl w)
  have h3 : ImageOnly s s3 := h2.foldl _ _ (fun w x => by
    split
    · exact .modTc ..
    · exact .refl w)
  exact h3.foldl _ _ (fun w x => by
    split
    · exact .setReg ..
    · exact .refl w)

end ImageOnly

/-- What parking and unparking the windows of a context change: what an image does, and where its windows are redirected. -/
structure WindowsOnly (p c : Nat) (s t : State) : Prop where
  eq : t = { s with
    regs := t.regs, tcs := t.tcs, mem := t.mem, bad := t.bad, weak := t.weak, lost := t.lost, kvMoves := t.kvMoves, draws := t.draws,
    ctxs := t.ctxs }
  ctx : t.ctx p c = { s.ctx p c with windows := (t.ctx p c).windows }

namespace WindowsOnly
variable {p c : Nat} {s t u : State}

theorem of_imageOnly (h : ImageOnly s t) : WindowsOnly p c s t where
  eq := (congrArg (fun x : State => { x with ctxs := t.ctxs }) h :)
  ctx := by rw [State.ctx, State.ctx, (congrArg State.ctxs h :)]

theorem refl (s : State) : WindowsOnly p c s s := .of_imageOnly (.refl s)

theorem trans (h : WindowsOnly p c s t) (k : WindowsOnly p c t u) : WindowsOnly p c s u where
  eq := Eq.trans k.eq (congrArg (fun x : State => { x with
    regs := u.regs, tcs := u.tcs, mem := u.mem, bad := u.bad, weak := u.weak, lost := u.lost, kvMoves := u.kvMoves, draws := u.draws,
    ctxs := u.ctxs }) h.eq)
  ctx := Eq.trans k.ctx (congrArg (fun x : Ctx => { x with windows := (u.ctx p c).windows }) h.ctx)

theorem setWindows (s : State) (p c : Nat) (ws : List Window) :
    WindowsOnly p c s (s.modCtx p c (fun y => { y with windows := ws })) where
  eq := rfl
  ctx := by rw [ctx_modCtx_same]

end WindowsOnly

theorem parkWindows_windowsOnly (s : State) (p c : Nat) (areas : List (Nat × Nat)) : WindowsOnly p c s (s.parkWindows p c areas) := by
  refine List.foldlRecOn (motive := WindowsOnly p c s) _ _ (.refl s) (fun u hu i _ => hu.trans ?_)
  split
  · exact .refl u
  · split
    · exact (WindowsOnly.of_imageOnly (ImageOnly.copyRange ..)).trans (.setWindows _ p c _)
    · exact .refl u

/-- One window's region is copied back, and its frames go to the region again (R414). -/
def State.unparkAt (s : State) (p c i : Nat) : State :=
  match (s.ctx p c).windows[i]? with
  | none => s
  | some w => match w.redirect with
    | none => s
    | some a => (s.copyRange a (s.keyOf p w.base) w.len).modCtx p c (fun y => { y with windows := y.windows.set i { w with redirect := none } })

theorem unparkWindows_eq (s : State) (p c : Nat) :
    s.unparkWindows p c = (List.range (s.ctx p c).windows.length).foldl (fun u i => u.unparkAt p c i) s := rfl

theorem unparkAt_windowsOnly (s : State) (p c i : Nat) : WindowsOnly p c s (s.unparkAt p c i) := by
  unfold State.unparkAt
  split
  · exact .refl s
  · split
    · exact .refl s
    · exact (WindowsOnly.of_imageOnly (ImageOnly.copyRange ..)).trans (.setWindows _ p c _)

theorem copyRange_ctx (s : State) (src dst len p c : Nat) : (s.copyRange src dst len).ctx p c = s.ctx p c := by
  rw [State.ctx, State.ctx, (congrArg State.ctxs (ImageOnly.copyRange s src dst len) :)]

theorem unparkAt_windows (s : State) (p c i : Nat) :
    ((s.unparkAt p c i).ctx p c).windows.length = (s.ctx p c).windows.length ∧
      ∀ j w, ((s.unparkAt p c i).ctx p c).windows[j]? = some w → w.redirect = none ∨ j ≠ i ∧ (s.ctx p c).windows[j]? = some w := by
  unfold State.unparkAt
  split
  · next hi =>
    exact ⟨rfl, fun j w hj => .inr ⟨fun e => absurd hj (by simp [e, hi]), hj⟩⟩
  · next v hi =>
    split
    · next hv =>
      refine ⟨rfl, fun j w hj => ?_⟩
      by_cases e : j = i
      · rw [e, hi] at hj
        exact .inl (Option.some.inj hj ▸ hv)
      · exact .inr ⟨e, hj⟩
    · rw [ctx_modCtx_same, copyRange_ctx]
      refine ⟨List.length_set, fun j w hj => ?_⟩
      rw [List.getElem?_set] at hj
      split at hj
      · next e =>
        split at hj
        · exact .inl (Option.some.inj hj ▸ rfl)
        · cases hj
      · next e => exact .inr ⟨fun h => e h.symm, hj⟩

theorem unparkWindows_windowsOnly (s : State) (p c : Nat) : WindowsOnly p c s (s.unparkWindows p c) := by
  rw [unparkWindows_eq]
  exact List.foldlRecOn (motive := WindowsOnly p c s) _ _ (.refl s) (fun u hu i _ => hu.trans (unparkAt_windowsOnly u p c i))

theorem unparkWindows_home (s : State) (p c : Nat) : ∀ w ∈ ((s.unparkWindows p c).ctx p c).windows, w.redirect = none := by
  have hprefix (k : Nat) :
      (((List.range k).foldl (fun u i => u.unparkAt p c i) s).ctx p c).windows.length = (s.ctx p c).windows.length ∧
      ∀ j < k, ∀ w, (((List.range k).foldl (fun u i => u.unparkAt p c i) s).ctx p c).windows[j]? = some w → w.redirect = none := by
    induction k with
    | zero => exact ⟨rfl, fun j hj => absurd hj (Nat.not_lt_zero j)⟩
    | succ k ih =>
      rw [List.range_succ, List.foldl_append, List.foldl_cons, List.foldl_nil]
      obtain ⟨hlen, hall⟩ := unparkAt_windows ((List.range k).foldl (fun u i => u.unparkAt p c i) s) p c k
      refine ⟨hlen.trans ih.1, fun j hj w hw => ?_⟩
      rcases hall j w hw with h | ⟨hne, hold⟩
      · exact h
      · exact ih.2 j (by omega) w hold
  intro w hw
  rw [unparkWindows_eq] at hw
  obtain ⟨j, hj, hget⟩ := List.getElem_of_mem hw
  obtain ⟨hlen, hall⟩ := hprefix (s.ctx p c).windows.length
  exact hall j (hlen ▸ hj) w (by rw [← hget]; exact List.getElem?_eq_getElem hj)

/-! ### Quantum, drain and watchdogs (R404, R406, R411, R448) -/

section
variable {s : State} {p c : Nat}

theorem requestPreempt_resident (h : (s.ctx p c).st = .resident) :
    s.requestPreempt p c = s.modCtx p c (fun x => { x with st := .saving, drained := false }) := if_pos h

theorem st_of_resident? (h : s.resident? p = some c) : (s.ctx p c).st = .resident := by
  simpa using List.find?_some h

theorem st_of_ctxsIn {st : CtxSt} (h : (s.ctxsIn p st).head? = some c) : (s.ctx p c).st = st := by
  simpa using (List.mem_filter.mp (List.mem_of_head? h)).2

section
variable (h : s.resident? p = some c)
include h

theorem quantumExpiry_eq : quantumExpiry s p = if (s.ctx p c).residentStrokes < (s.ctx p c).quantum then s
    else if s.otherReady p c then s.requestPreempt p c else s.modCtx p c (fun x => { x with residentStrokes := 0 }) := by
  rw [quantumExpiry, h]

theorem progressWatchdogExpiry_eq : progressWatchdogExpiry s p = if (s.ctx p c).wdLimit = 0 ∨ (s.ctx p c).wdCount < (s.ctx p c).wdLimit
    then s else s.abortCtx p c 0xF004 0xF004 0 (s.ctx p c).wdCount := by
  rw [progressWatchdogExpiry, h]

end

section
variable (h : (s.ctxsIn p .saving).head? = some c)
include h

theorem preemptDeadlineExpiry_eq : preemptDeadlineExpiry s p = if (s.ctx p c).drained then s else s.abortCtx p c 0x0E0C 0xF003 := by
  rw [preemptDeadlineExpiry, h]

/-- The context's commands give up their moves and are saved. -/
def State.saveCmds (s : State) (p c : Nat) : State :=
  let u := (s.cmds.filter (fun f => f.part == p && f.ctx == c)).foldl (fun s f => s.abandonMoves f.ring f.seq) s
  { u with cmds := updateWhere (fun f => f.part == p && f.ctx == c) (fun f => { f with saved := true }) u.cmds }

/-- The context's windows are parked where its save areas are sound. -/
def State.parkAll (s : State) (p c : Nat) (x : Ctx) : State := match s.saveAreas p c x x.windows with
  | some as => s.parkWindows p c as
  | none => s

theorem preemptDrainDone_waits (hblock : ∃ f ∈ s.cmds, f.part = p ∧ f.ctx = c ∧ blocksDrain f = true) : preemptDrainDone s p = s := by
  obtain ⟨f, hf, hp, hc, hb⟩ := hblock
  have hany : s.cmds.any (fun f => f.part == p && f.ctx == c && blocksDrain f) = true :=
    List.any_eq_true.mpr ⟨f, hf, by simp [hp, hc, hb]⟩
  rw [preemptDrainDone, h]
  exact if_pos (by rw [hany, Bool.or_true])

theorem preemptDrainDone_drains (hdr : (s.ctx p c).drained = false)
    (hfree : ∀ f ∈ s.cmds, f.part = p → f.ctx = c → blocksDrain f = false) : preemptDrainDone s p =
      ((s.saveCmds p c).parkAll p c (s.ctx p c)).modCtx p c (fun x => { x with drained := true }) := by
  have hany : s.cmds.any (fun f => f.part == p && f.ctx == c && blocksDrain f) = false := by
    refine List.any_eq_false.mpr (fun f hf hb => ?_)
    simp only [Bool.and_eq_true, beq_iff_eq] at hb
    exact Bool.false_ne_true ((hfree f hf hb.1.1 hb.1.2).symm.trans hb.2)
  rw [preemptDrainDone, h]
  exact if_neg (by rw [hdr, hany]; decide)

end

theorem saveCmds_imageOnly (s : State) (p c : Nat) : ImageOnly { s with
    cmds := updateWhere (fun f => f.part == p && f.ctx == c) (fun f => { f with saved := true }) s.cmds } (s.saveCmds p c) := by
  have h : ImageOnly s ((s.cmds.filter (fun f => f.part == p && f.ctx == c)).foldl (fun s f => s.abandonMoves f.ring f.seq) s) :=
    (ImageOnly.refl s).foldl _ _ (fun u _ => .abandonMoves u ..)
  unfold State.saveCmds
  extract_lets u
  have hcmds : u.cmds = s.cmds := (congrArg State.cmds h :)
  rw [hcmds]
  exact (congrArg (fun x : State => { x with
    cmds := updateWhere (fun f => f.part == p && f.ctx == c) (fun f => { f with saved := true }) s.cmds }) h :)

end

theorem mem_observe {s : State} {f : InFlight} (h : f ∈ s.observe.cmds) :
    ∃ g ∈ s.cmds, f = { g with met0 := f.met0, met1 := f.met1 } := by
  obtain ⟨m, hcmds, hm⟩ := observe_cmds s
  rw [hcmds] at h
  obtain ⟨g, hg, rfl⟩ := List.mem_map.mp h
  exact ⟨g, hg, hm g⟩

theorem length_observe (s : State) : s.observe.cmds.length = s.cmds.length := List.length_map ..

/-- Every command of a context is saved, or is not. -/
def State.allSaved (s : State) (p c : Nat) (b : Bool) : Prop := ∀ f ∈ s.cmds, f.part = p → f.ctx = c → f.saved = b

theorem allSaved_update (l : List InFlight) (p c : Nat) (b : Bool) :
    ∀ f ∈ updateWhere (fun f => f.part == p && f.ctx == c) (fun f => { f with saved := b }) l, f.part = p → f.ctx = c → f.saved = b := by
  intro f hf hp hc
  obtain ⟨g, -, rfl⟩ := List.mem_map.mp hf
  by_cases h : (g.part == p && g.ctx == c) = true
  · rw [if_pos h]
  · rw [if_neg h] at hp hc
    exact absurd (by simp [hp, hc]) h

theorem allSaved_observe {s : State} {p c : Nat} {b : Bool} (h : s.allSaved p c b) : s.observe.allSaved p c b := by
  intro f hf hp hc
  obtain ⟨g, hg, hfg⟩ := mem_observe hf
  rw [hfg] at hp hc ⊢
  exact h g hg hp hc

/-! ### Saving (R410) -/

theorem ctx_modPart (s : State) (q : Nat) (f : Part → Part) (p c : Nat) : (s.modPart q f).ctx p c = s.ctx p c := rfl

theorem startRestore_kept (s : State) (p : Nat) : s.startRestore p = { s with ctxs := (s.startRestore p).ctxs, parts := (s.startRestore p).parts } ∧
    ∀ c, (s.startRestore p).ctx p c = s.ctx p c ∨ (s.startRestore p).ctx p c = { s.ctx p c with st := .restoring } := by
  unfold State.startRestore
  split
  · exact ⟨rfl, fun c => .inl rfl⟩
  · split
    · exact ⟨rfl, fun c => .inl rfl⟩
    · next d _ =>
      refine ⟨rfl, fun c => ?_⟩
      by_cases h : c = d
      · subst h
        exact .inr (by rw [ctx_modPart, ctx_modCtx_same])
      · exact .inl (by rw [ctx_modPart, ctx_modCtx_other _ _ h])

theorem contextSaveDone_saves {s : State} {p c : Nat} (h : (s.ctxsIn p .saving).head? = some c) (hdr : (s.ctx p c).drained = true)
    (hab : (s.ctx p c).abortPending = false) (hok : s.unsound p (s.ctx p c).keep (s.ctx p c).windows = false)
    {areas : List (Nat × Nat)} (hareas : s.saveAreas p c (s.ctx p c) (s.ctx p c).windows = some areas) (ns : Nat) :
    ∃ (w : State) (im : Image), contextSaveDone s p ns = (w.modCtx p c (fun y => { y with
        st := if y.suspendPending then .suspended else .ready, suspendPending := false, drained := false,
        image := some im, saveNs := min ns (2 ^ 32 - 1) })).startRestore p ∧
      ImageOnly s w ∧ im.areas = areas ∧ im.cells = s.imageCells p (s.ctx p c).keep := by
  have hw : ImageOnly s (s.draw.2.writeFrames p c s.draw.1.toNat (s.ctx p c).keep areas) := (ImageOnly.draw s).trans (.writeFrames ..)
  rw [contextSaveDone, h]
  dsimp only
  rw [if_neg (by simp [hdr]), if_neg (by simp [hab]), if_neg (by simp [hok]), hareas]
  exact ⟨_, _, rfl, hw, rfl, rfl⟩

theorem contextSaveDone_aborts {s : State} {p c : Nat} (h : (s.ctxsIn p .saving).head? = some c) (hdr : (s.ctx p c).drained = true)
    (hab : (s.ctx p c).abortPending = true) (ns : Nat) : contextSaveDone s p ns = s.abortCtx p c 0xF003 0xF003 := by
  rw [contextSaveDone, h]
  exact (if_neg (by simp [hdr])).trans (if_pos hab)

/-! ### Restoring (R410, R411, R414) -/

/-- The image of a context cannot be brought back. -/
def State.imageLost (s : State) (p : Nat) (x : Ctx) : Bool := match x.image with
  | some im => !s.imageSound p im || x.windows.any (fun w => match w.redirect with
      | some a => s.badIn a w.len
      | none => false)
  | none => false

theorem imageLost_iff (s : State) (p : Nat) (x : Ctx) : s.imageLost p x = true ↔
    ∃ im, x.image = some im ∧ (s.imageSound p im = false ∨ ∃ w ∈ x.windows, ∃ a, w.redirect = some a ∧ s.badIn a w.len = true) := by
  have hwindow (w : Window) : (match w.redirect with | some a => s.badIn a w.len | none => false) = true ↔
      ∃ a, w.redirect = some a ∧ s.badIn a w.len = true := by
    cases w.redirect <;> simp
  unfold State.imageLost
  cases x.image with
  | none => simp
  | some im => simp [hwindow]

/-- An image and its windows are brought back, or the units start afresh. -/
def State.bringBack (s : State) (p c : Nat) (x : Ctx) : State := match x.image with
  | some im => (s.loadImage p im).unparkWindows p c
  | none => (s.loseUnits p).clearSticky p

theorem bringBack_windowsOnly (s : State) (p c : Nat) (x : Ctx) : WindowsOnly p c s (s.bringBack p c x) := by
  unfold State.bringBack
  split
  · exact (WindowsOnly.of_imageOnly (.loadImage ..)).trans (unparkWindows_windowsOnly ..)
  · exact .of_imageOnly ((ImageOnly.loseUnits ..).trans (.clearSticky ..))

theorem bringBack_home (s : State) (p c : Nat) {x : Ctx} (h : x.image ≠ none) :
    ∀ w ∈ ((s.bringBack p c x).ctx p c).windows, w.redirect = none := by
  unfold State.bringBack
  split
  · exact unparkWindows_home _ p c
  · next hx => exact absurd hx h

/-- The context runs again: RESIDENT, its commands no longer saved. -/
def State.residentAgain (s : State) (p c ns : Nat) : State :=
  ({ s with cmds := updateWhere (fun f => f.part == p && f.ctx == c) (fun f => { f with saved := false }) s.cmds }).modCtx p c (fun y =>
    { y with
      st := .resident, image := none, residentStrokes := 0, wholeStroke := false, progress := true,
      switches := satAdd 32 y.switches 1, restoreNs := min ns (2 ^ 32 - 1) })

theorem residentAgain_ctx (s : State) (p c ns : Nat) : (s.residentAgain p c ns).ctx p c = { s.ctx p c with
    st := .resident, image := none, residentStrokes := 0, wholeStroke := false, progress := true,
    switches := satAdd 32 (s.ctx p c).switches 1, restoreNs := min ns (2 ^ 32 - 1) } := ctx_modCtx_same ..

theorem ctx_raised_twice (s : State) (p c : Nat) : (s.raise (partPage p) 16).observe.observe.ctx p c = s.ctx p c := by
  rw [ctx_observe, ctx_observe, State.ctx, State.raise_ctxs]
  rfl

section
variable {s : State} {p c : Nat} (h : (s.ctxsIn p .restoring).head? = some c) (ns : Nat)
include h

theorem contextRestoreDone_aborts (hlost : s.imageLost p (s.ctx p c) = true) : contextRestoreDone s p ns =
    s.abortCtx p c 0x0E0E 0xF003 (((s.ctx p c).image.bind (s.failedArea? p)).getD 0) := by
  rw [contextRestoreDone, h]
  exact if_pos hlost

theorem contextRestoreDone_restores (hlost : s.imageLost p (s.ctx p c) = false) (hsus : (s.ctx p c).suspendPending = false)
    (hhold : s.pwr.holdDue = none) (hpkg : s.pwr.pkgDue = none) : contextRestoreDone s p ns =
      ((((s.bringBack p c (s.ctx p c)).residentAgain p c ns).raise (partPage p) 16)).observe := by
  have hpwr : ((((s.bringBack p c (s.ctx p c)).residentAgain p c ns).raise (partPage p) 16)).observe.pwr = s.pwr := by
    refine (State.raise_pwr ..).trans ?_
    exact (congrArg State.pwr (bringBack_windowsOnly s p c (s.ctx p c)).eq :)
  rw [contextRestoreDone, h]
  refine (if_neg (Bool.eq_false_iff.mp hlost)).trans (if_neg (Bool.eq_false_iff.mp ?_))
  refine (congrArg (fun w : Power => (s.ctx p c).suspendPending || w.holdDue.isSome || w.pkgDue.isSome) hpwr).trans ?_
  rw [hsus, hhold, hpkg]
  rfl

end

theorem parkAll_windowsOnly (s : State) (p c : Nat) (x : Ctx) : WindowsOnly p c s (s.parkAll p c x) := by
  unfold State.parkAll
  split
  · exact parkWindows_windowsOnly ..
  · exact .refl s

/-- Settles O53: each event by its branches; what saves and restores leave alone by the relations `ImageOnly` and `WindowsOnly`. -/
theorem contextSaves : Obligations.ContextSaves := by
  unfold Obligations.ContextSaves
  refine ⟨fun p c s => ?_, fun p c s => ?_⟩
  · intro x
    refine ⟨fun h => ⟨fun hlt => ?_, fun hle hother => ?_, fun hle hother => ?_⟩, fun h hdr => ⟨fun hb => ?_, fun hfree => ?_⟩,
      fun h hdr hab hok areas ns hareas => ?_, fun h hdr hab ns => ?_⟩
    · exact done_eq ((quantumExpiry_eq h).trans (if_pos hlt))
    · rw [← requestPreempt_resident (st_of_resident? h)]
      exact done_eq ((quantumExpiry_eq h).trans ((if_neg (Nat.not_lt_of_le hle)).trans (if_pos hother)))
    · exact done_eq ((quantumExpiry_eq h).trans ((if_neg (Nat.not_lt_of_le hle)).trans (if_neg (Bool.eq_false_iff.mp hother))))
    · exact done_eq (preemptDrainDone_waits h hb)
    · have hall := (WindowsOnly.of_imageOnly (saveCmds_imageOnly s p c)).trans (parkAll_windowsOnly (s.saveCmds p c) p c (s.ctx p c))
      refine ⟨_, done_eq (preemptDrainDone_drains h hdr hfree), ?_, ?_, allSaved_observe (fun f hf => ?_), ?_, ?_, ?_, ?_⟩
      · rw [ctx_observe, ctx_modCtx_same]
      · rw [ctx_observe, ctx_modCtx_same, hall.ctx]
        exact st_of_ctxsIn h
      · exact allSaved_update s.cmds p c true f ((congrArg (f ∈ ·) (congrArg State.cmds hall.eq :)).mp hf)
      · exact (length_observe _).trans ((congrArg (fun u : State => u.cmds.length) hall.eq :).trans (List.length_map ..))
      · exact (congrArg State.rings hall.eq :)
      · exact (congrArg State.frames hall.eq :)
      · exact (congrArg State.shape hall.eq :)
    · obtain ⟨w, im, heq, hw, hareas', hcells⟩ := contextSaveDone_saves h hdr hab hok hareas ns
      have hwc : w.ctx p c = s.ctx p c := by rw [State.ctx, State.ctx, (congrArg State.ctxs hw :)]
      obtain ⟨hrest, hctx⟩ := startRestore_kept (w.modCtx p c (fun y => { y with
        st := if y.suspendPending then .suspended else .ready, suspendPending := false, drained := false,
        image := some im, saveNs := min ns (2 ^ 32 - 1) })) p
      have hst := hctx c
      rw [ctx_modCtx_same, hwc] at hst
      refine ⟨_, done_eq heq, ⟨im, ?_, hareas', hcells⟩, ?_, ?_, ?_, ?_, ?_, ?_⟩
      · rcases hst with hst | hst <;> rw [ctx_observe, hst]
      · rcases hst with hst | hst <;> rw [ctx_observe, hst]
      · rcases hst with hst | hst
        · exact .inl (by rw [ctx_observe, hst])
        · exact .inr (by rw [ctx_observe, hst])
      · exact (congrArg State.rings hrest :).trans (congrArg State.rings hw :)
      · exact (congrArg State.frames hrest :).trans (congrArg State.frames hw :)
      · exact (congrArg State.shape hrest :).trans (congrArg State.shape hw :)
      · exact (length_observe _).trans ((congrArg (fun u : State => u.cmds.length) hrest :).trans
          (congrArg (fun u : State => u.cmds.length) hw :))
    · exact done_eq (contextSaveDone_aborts h hdr hab ns)
  · intro x lost
    refine ⟨fun h ns => ⟨fun hlost => ⟨_, done_eq (contextRestoreDone_aborts h ns ((imageLost_iff ..).mpr hlost))⟩, fun hlost hsus hhold hpkg => ?_⟩,
      fun h hdr => done_eq ((preemptDeadlineExpiry_eq h).trans (if_neg (Bool.eq_false_iff.mp hdr))),
      fun h hlim => done_eq ((progressWatchdogExpiry_eq h).trans (if_pos hlim)),
      fun h hlim hle => done_eq ((progressWatchdogExpiry_eq h).trans (if_neg (fun hor => hor.elim hlim (Nat.not_lt_of_le hle))))⟩
    have hback := bringBack_windowsOnly s p c (s.ctx p c)
    have hnot : s.imageLost p (s.ctx p c) = false := Bool.eq_false_iff.mpr (fun hl => hlost ((imageLost_iff ..).mp hl))
    have hctx := (ctx_raised_twice ((s.bringBack p c (s.ctx p c)).residentAgain p c ns) p c).trans (residentAgain_ctx ..)
    refine ⟨_, done_eq (contextRestoreDone_restores h ns hnot hsus hhold hpkg), ?_, ?_, ?_, ?_,
      allSaved_observe (allSaved_observe (fun f hf => ?_)), fun himg => ?_, ?_, ?_, ?_⟩
    · rw [hctx]
    · rw [hctx]
    · rw [hctx, hback.ctx]
    · rw [hctx]
    · rw [State.raise_cmds] at hf
      exact allSaved_update _ p c false f hf
    · rw [hctx]
      exact bringBack_home s p c himg
    · exact (State.raise_rings ..).trans (congrArg State.rings hback.eq :)
    · exact (State.raise_frames ..).trans (congrArg State.frames hback.eq :)
    · exact (State.raise_shape ..).trans (congrArg State.shape hback.eq :)

end Sys2Proof.Machine
end

section
/-! The power sequence, power samples and junction temperature (R435, R437, R473 to R477), O51. -/
namespace Sys2Proof.Machine

open Sys2Proof

/-! ### Losing main power (R476) -/

theorem dropSvn_kept (s : State) : s.dropSvn = { s with sec := s.dropSvn.sec, draws := s.dropSvn.draws } := by
  unfold State.dropSvn
  split <;> rfl

/-- Everything that lies in the device is dropped. -/
theorem drop_all {m : List Host.Cell} (h : ∀ c ∈ m, c.1 < 2 ^ 51) : Memory.drop m 0 (2 ^ 51) = [] := by
  refine List.filter_eq_nil_iff.mpr (fun c hc => ?_)
  have hlt := h c hc
  simp only [Nat.not_lt_zero, decide_false, Bool.false_or, decide_eq_true_eq, Nat.zero_add]
  exact Nat.not_le_of_lt hlt

/-- What a loss of main power leaves. -/
theorem losePower_wiped {s : State} (h : s.pwr.mainLost = false) :
    let t := s.losePower
    t.pwr.mainLost = true ∧ ((∀ c ∈ s.mem, c.1 < 2 ^ 51) → t.mem = []) ∧ t.cmds = [] ∧ t.rings = [] ∧ t.ctxs = [] ∧ t.cal = s.cal ∧
      t.nvmKnownBad = s.nvmKnownBad ∧ t.host = s.host := by
  have hlose : s.losePower = { s.wiped none with pwr := { (s.wiped none).pwr with mainLost := true, coldDue := false } } :=
    if_neg (by simp [h])
  have hdrop := dropSvn_kept s
  intro t
  rw [show t = _ from hlose]
  refine ⟨rfl, fun hmem => ?_, rfl, rfl, rfl, (congrArg State.cal hdrop :), (congrArg State.nvmKnownBad hdrop :),
    (congrArg State.host hdrop :)⟩
  exact (congrArg (fun x : State => Memory.drop x.mem 0 (2 ^ 51)) hdrop :).trans (drop_all hmem)

/-! ### The supplies (R473, R475, R477) -/

theorem mainPowerApply_starts {s : State} (h : s.pwr.v48 = false) :
    mainPowerApply s = { s with pwr := { s.pwr with v48 := true, softStart := 1 } } := if_neg (by simp [h])

theorem softStartDone_ends {s : State} (h : s.pwr.softStart = 1) :
    softStartDone s = ({ s with pwr := { s.pwr with softStart := 2 } }).tryBoot := if_pos h

theorem bootComplete_boots {s : State} (h : s.pwr.booting = true) (hreset : s.pins.resetLow = false) (f : BootReport) :
    bootComplete s f = { s.boot f with pwr := { (s.boot f).pwr with booting := false } } := if_neg (by simp [h, hreset])

section
variable {s : State} (h : s.pwr.v48 = true) {mV : Nat}
include h

theorem v48Threshold_leaves (hal : s.pwr.v48Alert = false) (hbad : mV < 40000 ∨ 60000 < mV) : v48Threshold s mV =
    (({ s with pwr := { s.pwr with v48Alert := true } }).emit (.pldm 2 mV)).setAlert := by
  have hb : (decide (mV < 40000) || decide (60000 < mV)) = true := by simpa using hbad
  rw [v48Threshold]
  dsimp only
  rw [hb, if_neg (by simp [h, hal]), if_pos rfl]

theorem v48Threshold_returns (hal : s.pwr.v48Alert = true) (hlo : 40000 ≤ mV) (hhi : mV ≤ 60000) : v48Threshold s mV =
    (({ s with pwr := { s.pwr with v48Alert := false } }).emit (.pldm 3 mV)).setAlert := by
  have hb : (decide (mV < 40000) || decide (60000 < mV)) = false := by simp [hlo, hhi]
  rw [v48Threshold]
  dsimp only
  rw [hb, if_neg (by simp [h, hal]), if_neg Bool.false_ne_true]

end

theorem startBoot_mem (s : State) : s.startBoot.mem = s.mem ∧ s.startBoot.host = s.host ∧ s.startBoot.pins = s.pins := ⟨rfl, rfl, rfl⟩

theorem tryBoot_mem (s : State) : s.tryBoot.mem = s.mem ∧ s.tryBoot.host = s.host ∧ s.tryBoot.pins = s.pins := by
  unfold State.tryBoot
  split
  · exact startBoot_mem s
  · exact ⟨rfl, rfl, rfl⟩

theorem coldPowerOn_tries {s : State} (h : s.pwr.mainLost = true) (hv : s.pwr.v48 = true) : coldPowerOn s =
    ({ s with pins := { s.pins with pwrGood := true }, pwr := { s.pwr with coldDue := true } }).tryBoot := if_pos (by simp [h, hv])

/-- The always-on island as it starts where VBAT did not hold. -/
def State.islandAfresh (s : State) : State :=
  ((((({ s with pwr := { s.pwr with v12sb := true }, cal := {}, errs := { fatal := s.errs.fatal } }).setReg (ccPage + Reg.CC_TRIM)
    0).setReg (ccPage + Reg.CC_STATUS) 1).setReg 0x148 0).setReg 0x150 0).setAlert

theorem standbyPowerOn_afresh {s : State} (h : s.pwr.v12sb = false) : standbyPowerOn s false = s.islandAfresh := by
  rw [standbyPowerOn, if_neg (by simp [h])]
  rfl

theorem islandAfresh_invalid (s : State) : s.islandAfresh.fld ccPage Fld.CC_STATUS_TIME_INVALID = 1 := by
  have hreg : s.islandAfresh.reg (regKey ccPage Fld.CC_STATUS_TIME_INVALID.off) = 1 :=
    (State.reg_setReg_other _ _ (by decide)).trans ((State.reg_setReg_other _ _ (by decide)).trans (State.reg_setReg_same ..))
  rw [State.fld, hreg]
  decide

/-! ### The ACLK step (R434, R435) -/

/-- What a change of the step changes: registers, outputs and the controller's own account of its steps. -/
structure Stepped (s t : State) : Prop where
  eq : t = { s with regs := t.regs, out := t.out, pwr := t.pwr }
  pwr : t.pwr = { s.pwr with maxStep := t.pwr.maxStep, sinceStep := t.pwr.sinceStep }

theorem Stepped.of_regsOutOnly {s t : State} (h : RegsOutOnly s t) : Stepped s t :=
  ⟨(congrArg (fun x : State => { x with pwr := t.pwr }) h :), by rw [(congrArg State.pwr h :)]⟩

theorem Stepped.trans {s t u : State} (h : Stepped s t) (k : Stepped t u) : Stepped s u where
  eq := Eq.trans k.eq (congrArg (fun x : State => { x with regs := u.regs, out := u.out, pwr := u.pwr }) h.eq)
  pwr := Eq.trans k.pwr (congrArg (fun x : Power => { x with maxStep := u.pwr.maxStep, sinceStep := u.pwr.sinceStep }) h.pwr)

theorem aclkStep_lt (s : State) : s.aclkStep < 16 := fld_lt s crnPage Fld.CRN_PWR_STATUS_STEP

theorem setStep_stepped (s : State) (n : Nat) : Stepped s (s.setStep n) := by
  unfold State.setStep
  extract_lets old s1 s2
  split
  · exact .of_regsOutOnly rfl
  · have h1 : RegsOutOnly s s1 := (setFld_regsOutOnly ..).trans (State.raise_regsOutOnly ..)
    have h2 : RegsOutOnly s s2 := by
      refine iteInduction (fun _ => h1.trans (State.addFld_regsOutOnly ..)) (fun _ => h1)
    exact (Stepped.of_regsOutOnly h2).trans ⟨rfl, rfl⟩

/-- A field of CRN_PWR_STATUS after a change of the step. -/
theorem setStep_fld (s : State) (n : Nat) {f : Fld} (hoff : f.off = 0x110) (hne : n ≠ s.aclkStep) :
    (s.setStep n).fld crnPage f = (s.setFld crnPage Fld.CRN_PWR_STATUS_STEP n).fld crnPage f := by
  have hraise (u : State) : (u.raise crnPage 16).fld crnPage f = u.fld crnPage f := raise_fld _ _ _ _ _ (by rw [hoff]; decide)
  have hadd (u : State) : (u.addFld crnPage Fld.CRN_PWR_STATS_STEP_DOWNS 1).fld crnPage f = u.fld crnPage f :=
    State.fld_setFld_reg _ _ (by rw [hoff]; decide)
  unfold State.setStep
  extract_lets old s1 s2
  rw [if_neg hne]
  have h1 : s1.fld crnPage f = (s.setFld crnPage Fld.CRN_PWR_STATUS_STEP n).fld crnPage f := hraise _
  have h2 : s2.fld crnPage f = s1.fld crnPage f := by
    refine iteInduction (motive := fun x : State => x.fld crnPage f = s1.fld crnPage f) (fun _ => hadd s1) (fun _ => rfl)
  exact h2.trans h1

theorem setStep_aclkStep (s : State) (n : Nat) : (s.setStep n).aclkStep = n % 16 := by
  by_cases h : n = s.aclkStep
  · rw [State.setStep, if_pos h, h, Nat.mod_eq_of_lt (aclkStep_lt s)]
  · exact (setStep_fld s n (f := Fld.CRN_PWR_STATUS_STEP) rfl h).trans (State.fld_setFld_same _ _ _ _ (by decide) (by decide))

theorem setStep_fld_apart (s : State) (n : Nat) {f : Fld} (hoff : f.off = 0x110) (hap : 11 < f.lo ∨ f.hi < 8) :
    (s.setStep n).fld crnPage f = s.fld crnPage f := by
  by_cases h : n = s.aclkStep
  · rw [State.setStep, if_pos h]
  · exact (setStep_fld s n hoff h).trans (fld_setFld_apart _ _ _ ⟨hoff, by decide, hap⟩)

/-! ### Power samples (R435) -/

section
variable {x : Power} {step p sustain excursion floor : Nat}

theorem nextStep_excursion (h : excursion < p) : nextStep x step p sustain excursion floor = max (min (step + 2) 12) x.thermalFloor := by
  rw [nextStep]
  exact congrArg (max · x.thermalFloor) (if_pos h)

theorem nextStep_above (h : p ≤ excursion) (habove : 8000 ≤ x.aboveUs) (hsince : 100 ≤ x.sinceStep) (hrule : step < floor ∨ 8000 ≤ x.overUs) :
    nextStep x step p sustain excursion floor = max (min (step + 1) 12) x.thermalFloor := by
  rw [nextStep]
  refine congrArg (max · x.thermalFloor) ((if_neg (Nat.not_lt_of_le h)).trans ((if_pos habove).trans ((if_pos hrule).trans ?_)))
  exact if_neg (Nat.not_lt_of_le hsince)

theorem nextStep_mean (h : p ≤ excursion) (hsustain : sustain ≤ sustainedW) (hsince : 1000 ≤ x.sinceStep)
    (hmean : meanAbove x.samples 98 sustainedW = true) :
    nextStep x step p sustain excursion floor = max (min (step + 1) 12) x.thermalFloor := by
  have hmean' : meanAbove x.samples 98 sustain = true := by
    simp only [meanAbove, decide_eq_true_eq] at hmean ⊢
    exact Nat.lt_of_le_of_lt (Nat.mul_le_mul_right _ (Nat.mul_le_mul_left _ hsustain)) hmean
  have hdeeper {every : Nat} (he : every ≤ 1000) : (if x.sinceStep < every then step else min (step + 1) 12) = min (step + 1) 12 :=
    if_neg (by omega)
  rw [nextStep]
  dsimp only
  rw [hmean, hmean', if_neg (Nat.not_lt_of_le h), hdeeper (by decide), hdeeper (Nat.le_refl _), if_pos rfl, if_pos (Or.inr rfl), if_pos rfl,
    ite_self, ite_self]

end

/-- The controller's account after a sample. -/
def State.sampledPower (s : State) (p : Nat) : Power :=
  { s.pwr with
    samples := p :: s.pwr.samples.take 99999, lost := s.pwr.lost + 875 * s.aclkStep, sinceStep := s.pwr.sinceStep + 10,
    aboveUs := if 10 * s.sh crnPage Fld.CRN_PWR_CFG_SUSTAIN < p then s.pwr.aboveUs + 10 else 0,
    overUs := if sustainedW < p then s.pwr.overUs + 10 else 0,
    belowUs := if (decide (100 * p < 97 * (10 * s.sh crnPage Fld.CRN_PWR_CFG_SUSTAIN)) &&
      meanBelow (p :: s.pwr.samples.take 99999) 97 (10 * s.sh crnPage Fld.CRN_PWR_CFG_SUSTAIN)) then s.pwr.belowUs + 10 else 0,
    floorUs := if 10 * s.sh crnPage Fld.CRN_PWR_CFG_SUSTAIN < p ∧ s.sh crnPage Fld.CRN_PWR_CFG_FLOOR_STEP ≤ s.aclkStep then
      s.pwr.floorUs + 10 else 0 }

/-- A sample is shown, and reported where the floor has been held for 8 ms. -/
def State.showSample (s : State) (p : Nat) : State :=
  let u := ({ s with pwr := s.sampledPower p }).setFld crnPage Fld.CRN_PWR_STATUS_INPUT (min (p / 10) 65535)
  if 8000 ≤ (s.sampledPower p).floorUs ∧ decide (8000 ≤ s.pwr.floorUs) = false then u.raise crnPage 17 else u

/-- The step that follows a sample. -/
def State.sampleStep (s : State) (p : Nat) : Nat :=
  nextStep (s.sampledPower p) s.aclkStep p (10 * s.sh crnPage Fld.CRN_PWR_CFG_SUSTAIN)
    (10 * (s.showSample p).sh crnPage Fld.CRN_PWR_CFG_EXCURSION) (s.sh crnPage Fld.CRN_PWR_CFG_FLOOR_STEP)

/-- The clocks are gated, or are not. -/
def State.gate (s : State) (b : Bool) : State := { s with pwr := { s.pwr with gated := b } }

theorem powerSample_steps {s : State} (hrun : s.running = true) (htrip : s.pwr.tripped = false) (p : Nat) :
    ∃ gated, powerSample s p = ((s.showSample p).setStep (s.sampleStep p)).gate gated := by
  let w := (s.showSample p).setStep (s.sampleStep p)
  rw [powerSample, if_neg (by simp [hrun, htrip])]
  exact ⟨w.aclkStep == 12 && (decide (sustainedW < p) || meanAbove (p :: s.pwr.samples.take 99999) 100 sustainedW ||
    (w.pwr.gated && w.pwr.thermalFloor == 12)), rfl⟩

theorem showSample_kept (s : State) (p : Nat) : RegsOutOnly { s with pwr := s.sampledPower p } (s.showSample p) := by
  unfold State.showSample
  extract_lets u
  have hu : RegsOutOnly { s with pwr := s.sampledPower p } u := setFld_regsOutOnly ..
  exact iteInduction (fun _ => hu.trans (State.raise_regsOutOnly ..)) (fun _ => hu)

theorem showSample_input (s : State) (p : Nat) : (s.showSample p).fld crnPage Fld.CRN_PWR_STATUS_INPUT = min (p / 10) 65535 := by
  unfold State.showSample
  extract_lets u
  have hu : u.fld crnPage Fld.CRN_PWR_STATUS_INPUT = min (p / 10) 65535 :=
    fld_setFld_fits _ _ ⟨by decide, by decide, Nat.lt_of_le_of_lt (Nat.min_le_right ..) (by decide)⟩
  exact iteInduction (motive := fun x : State => x.fld crnPage Fld.CRN_PWR_STATUS_INPUT = min (p / 10) 65535)
    (fun _ => (raise_fld _ _ _ _ _ (by decide)).trans hu) (fun _ => hu)

theorem sampleStep_eq (s : State) (p : Nat) : s.sampleStep p = nextStep (s.sampledPower p) s.aclkStep p
    (10 * s.sh crnPage Fld.CRN_PWR_CFG_SUSTAIN) (10 * s.sh crnPage Fld.CRN_PWR_CFG_EXCURSION) (s.sh crnPage Fld.CRN_PWR_CFG_FLOOR_STEP) := by
  have hsh : (s.showSample p).sh crnPage Fld.CRN_PWR_CFG_EXCURSION = s.sh crnPage Fld.CRN_PWR_CFG_EXCURSION := by
    rw [State.sh, State.sh, (congrArg State.shape (showSample_kept s p) :)]
  rw [State.sampleStep, hsh]

/-! ### Junction temperature (R437) -/

/-- A record of the Crowns of any class: what it changes at most, and the registers it leaves. -/
def crnOffs : List Nat := 0x18 :: endOffs

theorem setFault_endOnly {offs : List Nat} (h18 : 0x18 ∈ offs) (h30 : 0x30 ∈ offs) (s : State) (c i : Nat) :
    EndOnly offs s (s.setFault (page c i)) :=
  .ite (.refl s) ((EndOnly.setFld s c i ⟨by decide, h18⟩ _).trans (.raise _ c i h30 1))

theorem classAct_fatal (s : State) {e : ErrInfo} (h : e.cls = 3) : s.classAct e =
    { (((s.setFault (srcPage e.source)).setFault (page 0 0)).setFault (page 0 1)).stopAllRings e.code with
      errs := { s.errs with down := true } } := by
  have herrs : ((((s.setFault (srcPage e.source)).setFault (page 0 0)).setFault (page 0 1)).stopAllRings e.code).errs = s.errs :=
    (congrArg State.errs (((setFault_regsOutOnly s (srcPage e.source)).trans (setFault_regsOutOnly _ (page 0 0))).trans
      (setFault_regsOutOnly _ (page 0 1))) :)
  rw [State.classAct, if_neg (by rw [h]; decide), if_pos h]
  dsimp only
  rw [herrs]

theorem countAll_regsOutOnly (s : State) (e : ErrInfo) : RegsOutOnly s ((s.errParts e).foldl (fun (s : State) p =>
    if partPage p = srcPage e.source then s else s.countErr (partPage p) e.cls) (s.countErr (srcPage e.source) e.cls)) := by
  have hcount (u : State) (pg k : Nat) : RegsOutOnly u (u.countErr pg k) := (State.addFld_regsOutOnly ..).trans (State.raise_regsOutOnly ..)
  exact List.foldlRecOn (motive := RegsOutOnly s) _ _ (hcount ..) (fun u hu p _ => hu.trans (iteInduction (fun _ => rfl) (fun _ => hcount ..)))

theorem countAll_endOnly (s : State) (e : ErrInfo) : EndOnly crnOffs s ((s.errParts e).foldl (fun (s : State) p =>
    if partPage p = srcPage e.source then s else s.countErr (partPage p) e.cls) (s.countErr (srcPage e.source) e.cls)) := by
  have hsub : ∀ o ∈ endOffs, o ∈ crnOffs := fun o ho => List.mem_cons_of_mem _ ho
  exact (countErr_endOnly hsub s _ _ _).foldl _ _ (fun u p => .ite (.refl u) (countErr_endOnly hsub u _ _ _))

/-- The pins but ALERT_N stay as a record is written. -/
theorem writeErr_thermtrip (s : State) (e : ErrInfo) (count : Nat) (coalesced : Bool) :
    (s.writeErr e count coalesced).pins.thermtrip = s.pins.thermtrip := by
  unfold State.writeErr
  extract_lets tail full ti fatal flags bytes alerts x er s1 s2 s3 s4 s5
  have h2 : RegsOutOnly s1 s2 := setFld_regsOutOnly ..
  have h3 : RegsOutOnly s1 s3 := iteInduction (fun _ => h2.trans (((setFld_regsOutOnly ..).trans (State.addFld_regsOutOnly ..)).trans
    (State.raise_regsOutOnly ..))) (fun _ => h2)
  have h4 : RegsOutOnly s1 s4 := h3.trans (State.raise_regsOutOnly ..)
  have h5 : RegsOutOnly s1 s5 := iteInduction (fun _ => List.foldlRecOn (motive := RegsOutOnly s1) _ _ h4
    (fun u hu h _ => hu.trans (iteInduction (fun _ => State.emit_regsOutOnly ..) (fun _ => rfl)))) (fun _ => h4)
  exact (congrArg (fun x : State => x.pins.thermtrip) h5 :)

section
variable (s : State) {e : ErrInfo} (h : e.cls = 3)
include h

/-- A device-fatal record changes registers at a few offsets, and neither memory nor the pin of a trip. -/
theorem recordError_fatal : EndOnly crnOffs s (s.recordError e) ∧ (s.recordError e).pins.thermtrip = s.pins.thermtrip ∧
    (s.recordError e).mem = s.mem := by
  have hsub : ∀ o ∈ endOffs, o ∈ crnOffs := fun o ho => List.mem_cons_of_mem _ ho
  have h18 : 0x18 ∈ crnOffs := by decide
  have h30 : 0x30 ∈ crnOffs := by decide
  have hact (u : State) : EndOnly crnOffs u (u.classAct e) ∧ (u.classAct e).pins = u.pins := by
    rw [classAct_fatal u h]
    refine ⟨(((setFault_endOnly h18 h30 u _ _).trans (setFault_endOnly h18 h30 _ 0 0)).trans (setFault_endOnly h18 h30 _ 0 1)).trans
      ⟨rfl, fun _ _ => rfl⟩, ?_⟩
    exact (congrArg State.pins (((setFault_regsOutOnly u (srcPage e.source)).trans (setFault_regsOutOnly _ (page 0 0))).trans
      (setFault_regsOutOnly _ (page 0 1))) :)
  have hcounted : EndOnly crnOffs s (s.errCounted e) := (countAll_endOnly s e).trans (hact _).1
  have hpins : (s.errCounted e).pins = s.pins := (hact _).2.trans (congrArg State.pins (countAll_regsOutOnly s e) :)
  have hrec : s.recordError e = (s.errCounted e).writeErr e 1 false := by
    rw [State.recordError_eq]
    dsimp only
    rw [if_neg (by simp [h])]
  have hmem : (s.recordError e).mem = s.mem := (congrArg State.mem (recordError_reported s e) :)
  refine ⟨?_, ?_, hmem⟩
  · rw [hrec]
    exact hcounted.trans (writeErr_endOnly hsub ..)
  · rw [hrec, writeErr_thermtrip, hpins]

end

theorem crnRecord_fatal (s : State) (code : Code) : EndOnly crnOffs s (s.crnRecord 3 code) ∧
    (s.crnRecord 3 code).pins.thermtrip = s.pins.thermtrip ∧ (s.crnRecord 3 code).mem = s.mem := recordError_fatal s rfl

/-- Every stack goes into self-refresh. -/
def State.selfRefreshAll (s : State) : State := (List.range 32).foldl (fun s k => s.setFld (stkPage k) Fld.STK_STATUS_STATE 2) s

theorem selfRefreshAll_regsOutOnly (s : State) : RegsOutOnly s s.selfRefreshAll :=
  List.foldlRecOn (motive := RegsOutOnly s) _ _ rfl (fun _ hu _ _ => hu.trans (setFld_regsOutOnly ..))

theorem selfRefreshAll_states (s : State) : ∀ k < 32, s.selfRefreshAll.fld (stkPage k) Fld.STK_STATUS_STATE = 2 := by
  have hset (u : State) (k : Nat) : (u.setFld (stkPage k) Fld.STK_STATUS_STATE 2).fld (stkPage k) Fld.STK_STATUS_STATE = 2 :=
    fld_setFld_fits u _ ⟨by decide, by decide, by decide⟩
  have hkeep (u : State) (j k : Nat) (h : u.fld (stkPage k) Fld.STK_STATUS_STATE = 2) :
      (u.setFld (stkPage j) Fld.STK_STATUS_STATE 2).fld (stkPage k) Fld.STK_STATUS_STATE = 2 := by
    by_cases hjk : regKey (stkPage k) Fld.STK_STATUS_STATE.off = regKey (stkPage j) Fld.STK_STATUS_STATE.off
    · rw [State.fld, hjk]
      exact hset u j
    · exact (State.fld_setFld_reg _ _ hjk).trans h
  exact fun k hk => foldl_establishes (Q := fun k u => u.fld (stkPage k) Fld.STK_STATUS_STATE = 2) hset hkeep _ s k (List.mem_range.mpr hk)

theorem selfRefreshAll_crn (s : State) {f : Fld} (hoff : f.off = 0x110) : s.selfRefreshAll.fld crnPage f = s.fld crnPage f := by
  refine List.foldlRecOn (motive := fun u : State => u.fld crnPage f = s.fld crnPage f) _ _ rfl (fun u hu k _ => Eq.trans ?_ hu)
  refine State.fld_setFld_reg _ _ (fun h => ?_)
  have hoffs := congrArg pgOff h
  rw [hoff, show regKey crnPage 0x110 = 0x110 from by decide, stkPage, pgOff_regKey_page 9 k (by decide)] at hoffs
  exact absurd hoffs (by decide)

/-- A trip: THERMTRIP_N, the stacks in self-refresh, and nothing of memory or the controller's account but the trip. -/
theorem thermalTrip_trips {s : State} (h : s.pwr.tripped = false) :
    let t := s.thermalTrip
    t.pwr = { s.pwr with tripped := true } ∧ t.pins.thermtrip = true ∧ t.mem = s.mem ∧
      (∀ k < 32, t.fld (stkPage k) Fld.STK_STATUS_STATE = 2) ∧
      t.fld crnPage Fld.CRN_PWR_STATUS_TJ_MAX = s.fld crnPage Fld.CRN_PWR_STATUS_TJ_MAX := by
  let u : State := { s with pwr := { s.pwr with tripped := true }, pins := { s.pins with thermtrip := true } }
  have htrip : s.thermalTrip = u.selfRefreshAll.crnRecord 3 0x0F05 := if_neg (by simp [h])
  have hself := selfRefreshAll_regsOutOnly u
  have hpwr : u.selfRefreshAll.pwr = { s.pwr with tripped := true } := (congrArg State.pwr hself :)
  have hpin : u.selfRefreshAll.pins.thermtrip = true := (congrArg (fun x : State => x.pins.thermtrip) hself :)
  have hmem : u.selfRefreshAll.mem = s.mem := (congrArg State.mem hself :)
  have hstk := selfRefreshAll_states u
  have hcrn : u.selfRefreshAll.fld crnPage Fld.CRN_PWR_STATUS_TJ_MAX = s.fld crnPage Fld.CRN_PWR_STATUS_TJ_MAX := selfRefreshAll_crn u rfl
  rw [htrip]
  generalize u.selfRefreshAll = v at hpwr hpin hmem hstk hcrn
  obtain ⟨hfatal, hpins, hmems⟩ := crnRecord_fatal v 0x0F05
  exact ⟨(congrArg State.pwr hfatal.eq :).trans hpwr, hpins.trans hpin, hmems.trans hmem,
    fun k hk => (hfatal.fld 9 k Fld.STK_STATUS_STATE (by decide)).trans (hstk k hk),
    (hfatal.fld 0 0 Fld.CRN_PWR_STATUS_TJ_MAX (by decide)).trans hcrn⟩

/-- A reading shown, with the floor and the gating it asks for, and the step not above the floor. -/
def State.afterJunction (s : State) (tj : Int) : State :=
  let f := thermalFloor s.pwr.thermalFloor tj
  let u := s.setFld crnPage Fld.CRN_PWR_STATUS_TJ_MAX (twos 8 tj)
  let u := { u with pwr := { s.pwr with thermalFloor := f, gated := decide (105 ≤ tj) || s.pwr.gated } }
  let u := if 100 ≤ tj then u.raise crnPage 18 else u
  u.setStep (max u.aclkStep f)

theorem junctionTempSample_eq {s : State} (h : s.pwr.mainLost = false) (tj : Int) :
    junctionTempSample s tj = if 110 ≤ tj then (s.afterJunction tj).thermalTrip else s.afterJunction tj := by
  rw [junctionTempSample, if_neg (by simp [h])]
  rfl

theorem afterJunction_shown (s : State) {tj : Int} (hlo : -128 ≤ tj) (hhi : tj < 128) :
    let t := s.afterJunction tj
    sext 8 (t.fld crnPage Fld.CRN_PWR_STATUS_TJ_MAX) = tj ∧ t = { s with regs := t.regs, out := t.out, pwr := t.pwr } ∧
      t.pwr = { s.pwr with
        thermalFloor := thermalFloor s.pwr.thermalFloor tj, gated := decide (105 ≤ tj) || s.pwr.gated,
        maxStep := t.pwr.maxStep, sinceStep := t.pwr.sinceStep } := by
  unfold State.afterJunction
  extract_lets f u1 pw u2 u3
  have h3 : RegsOutOnly u2 u3 := iteInduction (fun _ => State.raise_regsOutOnly ..) (fun _ => rfl)
  have hstep := setStep_stepped u3 (max u3.aclkStep f)
  have hshown : u3.fld crnPage Fld.CRN_PWR_STATUS_TJ_MAX = twos 8 tj := by
    have h2 : u2.fld crnPage Fld.CRN_PWR_STATUS_TJ_MAX = twos 8 tj := fld_setFld_fits s _ ⟨by decide, by decide, twos_lt tj⟩
    exact iteInduction (motive := fun x : State => x.fld crnPage Fld.CRN_PWR_STATUS_TJ_MAX = twos 8 tj)
      (fun _ => (raise_fld _ _ _ _ _ (by decide)).trans h2) (fun _ => h2)
  have hpwr : u3.pwr = u2.pwr := (congrArg State.pwr h3 :)
  have heq : u3 = { s with regs := u3.regs, out := u3.out, pwr := u3.pwr } := (congrArg (fun x : State => { x with pwr := u3.pwr }) h3 :)
  refine ⟨?_, ?_, ?_⟩
  · rw [setStep_fld_apart _ _ rfl (by decide), hshown, sext_twos hlo hhi]
  · exact hstep.eq.trans (congrArg (fun x : State => { x with
      regs := (u3.setStep (max u3.aclkStep f)).regs, out := (u3.setStep (max u3.aclkStep f)).out,
      pwr := (u3.setStep (max u3.aclkStep f)).pwr }) heq :)
  · exact hstep.pwr.trans (by rw [hpwr])

theorem thermalFloor_hot (old : Nat) {tj : Int} (h : 105 ≤ tj) : thermalFloor old tj = 12 := if_pos h

theorem thermalFloor_cool (old : Nat) {tj : Int} (h : tj < 98) : thermalFloor old tj = 0 := by
  rw [thermalFloor, if_neg (by omega), if_neg (by omega), if_neg (by omega)]

/-- What a sample reports, where it takes the step, and what it leaves alone. -/
theorem sampled_facts (s : State) (p : Nat) (g : Bool) :
    let t := (((s.showSample p).setStep (s.sampleStep p)).gate g).observe
    let sustain := 10 * s.sh crnPage Fld.CRN_PWR_CFG_SUSTAIN
    let floor := s.sh crnPage Fld.CRN_PWR_CFG_FLOOR_STEP
    let above := if sustain < p then s.pwr.aboveUs + 10 else 0
    t.fld crnPage Fld.CRN_PWR_STATUS_INPUT = min (p / 10) 65535 ∧ t.pwr.lost = s.pwr.lost + 875 * s.aclkStep ∧
    (10 * s.sh crnPage Fld.CRN_PWR_CFG_EXCURSION < p → t.aclkStep = max (min (s.aclkStep + 2) 12) s.pwr.thermalFloor % 16) ∧
    (p ≤ 10 * s.sh crnPage Fld.CRN_PWR_CFG_EXCURSION → 8000 ≤ above → 90 ≤ s.pwr.sinceStep →
      (s.aclkStep < floor ∨ (sustainedW < p ∧ 7990 ≤ s.pwr.overUs)) →
      t.aclkStep = max (min (s.aclkStep + 1) 12) s.pwr.thermalFloor % 16) ∧
    (p ≤ 10 * s.sh crnPage Fld.CRN_PWR_CFG_EXCURSION → s.sh crnPage Fld.CRN_PWR_CFG_SUSTAIN ≤ 1800 → 990 ≤ s.pwr.sinceStep →
      98 * 18000 * (p :: s.pwr.samples.take 99999).length < 100 * (p :: s.pwr.samples.take 99999).sum →
      t.aclkStep = max (min (s.aclkStep + 1) 12) s.pwr.thermalFloor % 16) ∧
    t.mem = s.mem ∧ t.rings = s.rings ∧ t.shape = s.shape ∧ t.cmds = s.observe.cmds := by
  have hshow := showSample_kept s p
  have hstep := setStep_stepped (s.showSample p) (s.sampleStep p)
  have haclk := setStep_aclkStep (s.showSample p) (s.sampleStep p)
  have hinput := (setStep_fld_apart (s.showSample p) (s.sampleStep p) (f := Fld.CRN_PWR_STATUS_INPUT) rfl (by decide)).trans
    (showSample_input s p)
  have hlost : (s.showSample p).pwr.lost = s.pwr.lost + 875 * s.aclkStep := (congrArg (fun x : State => x.pwr.lost) hshow :)
  have hnext := sampleStep_eq s p
  generalize hn : s.sampleStep p = n at hstep haclk hinput hnext
  generalize s.showSample p = v at hshow hstep haclk hinput hlost
  have hkept : v.setStep n = { s with regs := (v.setStep n).regs, out := (v.setStep n).out, pwr := (v.setStep n).pwr } :=
    hstep.eq.trans (congrArg (fun x : State => { x with
      regs := (v.setStep n).regs, out := (v.setStep n).out, pwr := (v.setStep n).pwr }) hshow :)
  have hto {m : Nat} (h : n = m) : ((v.setStep n).gate g).observe.aclkStep = m % 16 := haclk.trans (congrArg (· % 16) h)
  intro t sustain floor above
  refine ⟨hinput, (congrArg Power.lost hstep.pwr).trans hlost, fun h => hto (hnext.trans (nextStep_excursion h)),
    fun h habove hsince hrule => hto (hnext.trans (nextStep_above h habove (Nat.add_le_add_right hsince 10) (hrule.imp_right ?_))),
    fun h hsus hsince hmean => hto (hnext.trans (nextStep_mean h (Nat.mul_le_mul_left 10 hsus) (Nat.add_le_add_right hsince 10)
      (decide_eq_true hmean))), (congrArg State.mem hkept :), (congrArg State.rings hkept :), (congrArg State.shape hkept :),
    (congrArg (fun x : State => x.observe.cmds) hkept :)⟩
  rintro ⟨hp, hover⟩
  exact Nat.le_trans (Nat.add_le_add_right hover 10) (Nat.le_of_eq (if_pos hp).symm)

/-- Settles O51: supplies by their branches, a loss of power by what is wiped, samples by the step that the controller chooses. -/
theorem power_events : Obligations.Power := by
  unfold Obligations.Power
  refine ⟨fun s => ⟨fun h => done_eq (mainPowerApply_starts h), fun h => done_eq (softStartDone_ends h), fun h hv => ?_,
    fun f h hreset => done_eq (bootComplete_boots h hreset f), fun h => ?_, fun h => ?_,
    fun mV hv hal hbad => done_eq (v48Threshold_leaves hv hal hbad), fun mV hv hal hlo hhi => done_eq (v48Threshold_returns hv hal hlo hhi),
    fun h => ?_, fun h => ?_, fun h => ?_⟩, fun s => ⟨fun p hrun htrip => ?_, fun tj h hlo hhi => ?_⟩⟩
  · obtain ⟨hmem, hhost, hpins⟩ := tryBoot_mem { s with pins := { s.pins with pwrGood := true }, pwr := { s.pwr with coldDue := true } }
    refine ⟨_, done_eq (coldPowerOn_tries h hv), congrArg Pins.pwrGood hpins, fun ⟨hsoft, hreset, htrip⟩ => ?_, fun hreset => ?_, hmem, hhost⟩
    · rw [State.tryBoot, if_pos (by simp [hv, hsoft, hreset, htrip])]
      exact ⟨rfl, rfl⟩
    · rw [State.tryBoot, if_neg (by simp [hreset])]
      exact ⟨rfl, h⟩
  · obtain ⟨hlost, hmem, hcmds, hrings, hctxs, hcal, hnvm, hhost⟩ := losePower_wiped h
    exact ⟨_, done_eq rfl, rfl, hlost, hmem, List.map_eq_nil_iff.mpr hcmds, hrings, hctxs, hcal, hnvm, hhost⟩
  · obtain ⟨hlost, hmem, -, hrings, -⟩ := losePower_wiped h
    exact ⟨_, done_eq rfl, rfl, rfl, rfl, rfl, hlost, hmem, hrings⟩
  · exact done_eq ((if_neg (by simp [h])).trans (if_pos rfl))
  · exact ⟨_, done_eq (standbyPowerOn_afresh h), rfl, islandAfresh_invalid s, rfl, rfl, rfl, rfl⟩
  · refine done_eq ?_
    rw [standbyPowerLoss, show s.losePower = s from if_pos h]
  · obtain ⟨g, heq⟩ := powerSample_steps hrun htrip p
    exact ⟨_, done_eq heq, sampled_facts s p g⟩
  · obtain ⟨htj, hkept, hpwr⟩ := afterJunction_shown s hlo hhi
    refine ⟨_, done_eq (junctionTempSample_eq h tj), ?_⟩
    generalize s.afterJunction tj = w at htj hkept hpwr
    have hfloor : w.pwr.thermalFloor = thermalFloor s.pwr.thermalFloor tj := (congrArg Power.thermalFloor hpwr :)
    have htripped : w.pwr.tripped = s.pwr.tripped := (congrArg Power.tripped hpwr :)
    have hgated (h105 : 105 ≤ tj) : w.pwr.gated = true := (congrArg Power.gated hpwr :).trans (by simp [h105])
    by_cases h110 : 110 ≤ tj
    · rw [if_pos h110]
      by_cases ht : s.pwr.tripped = true
      · have hsame : w.thermalTrip = w := if_pos (htripped.trans ht)
        rw [hsame]
        exact ⟨htj, hfloor, fun h105 => ⟨hgated h105, hfloor.trans (thermalFloor_hot _ h105)⟩, fun h98 => absurd h110 (by omega),
          (congrArg State.mem hkept :), fun _ => ⟨htripped.trans ht, fun hf => absurd (ht.symm.trans hf) (by decide)⟩,
          fun hlt => absurd h110 (by omega)⟩
      · obtain ⟨hp, hpin, hmem, hstk, hcrn⟩ := thermalTrip_trips (htripped.trans (Bool.eq_false_iff.mpr ht))
        generalize w.thermalTrip = v at hp hpin hmem hstk hcrn
        refine ⟨(congrArg (sext 8) hcrn).trans htj, (congrArg Power.thermalFloor hp :).trans hfloor, fun h105 => ⟨?_, ?_⟩,
          fun h98 => absurd h110 (by omega), hmem.trans (congrArg State.mem hkept :), fun _ => ⟨(congrArg Power.tripped hp :), fun _ => ⟨hpin, hstk⟩⟩,
          fun hlt => absurd h110 (by omega)⟩
        · exact (congrArg Power.gated hp :).trans (hgated h105)
        · exact (congrArg Power.thermalFloor hp :).trans (hfloor.trans (thermalFloor_hot _ h105))
    · rw [if_neg h110]
      exact ⟨htj, hfloor, fun h105 => ⟨hgated h105, hfloor.trans (thermalFloor_hot _ h105)⟩, fun h98 => hfloor.trans (thermalFloor_cool _ h98),
        (congrArg State.mem hkept :), fun h => absurd h h110, fun _ => ⟨htripped, (congrArg State.rings hkept :),
        (congrArg (fun x : State => x.observe.cmds) hkept :)⟩⟩

end Sys2Proof.Machine
end

section
/-! A partition reset by the Crown or by FLR (R422, R423), O49. -/
namespace Sys2Proof.Machine

open Sys2Proof

/-! ### What the steps of a reset leave alone -/

/-- A step of a reset that brings no command, and leaves contexts, rings, windows, the Live Shape and the registers at other offsets. -/
structure UnitsKept (offs : List Nat) (s t : State) : Prop where
  cmds : ∀ f ∈ t.cmds, f ∈ s.cmds
  ctxs : t.ctxs = s.ctxs
  rings : t.rings = s.rings
  rwt : t.rwt = s.rwt
  live : t.shape.live = s.shape.live
  reg : ∀ k, pgOff k ∉ offs → t.reg k = s.reg k

namespace UnitsKept
variable {offs : List Nat} {s t u : State}

theorem refl (s : State) : UnitsKept offs s s := ⟨fun _ h => h, rfl, rfl, rfl, rfl, fun _ _ => rfl⟩

theorem trans (h : UnitsKept offs s t) (k : UnitsKept offs t u) : UnitsKept offs s u :=
  ⟨fun f hf => h.cmds f (k.cmds f hf), k.ctxs.trans h.ctxs, k.rings.trans h.rings, k.rwt.trans h.rwt, k.live.trans h.live,
    fun key hkey => (k.reg key hkey).trans (h.reg key hkey)⟩

theorem ite {c : Prop} [Decidable c] (h : UnitsKept offs s t) (k : UnitsKept offs s u) : UnitsKept offs s (if c then t else u) := by
  split
  · exact h
  · exact k

theorem foldl {α : Type} (h : UnitsKept offs s t) (l : List α) (f : State → α → State) (hf : ∀ u a, UnitsKept offs u (f u a)) :
    UnitsKept offs s (l.foldl f t) :=
  List.foldlRecOn l f h (fun u hu a _ => hu.trans (hf u a))

theorem of_regs (hregs : t.regs = s.regs) (hcmds : t.cmds = s.cmds) (hctxs : t.ctxs = s.ctxs) (hrings : t.rings = s.rings)
    (hrwt : t.rwt = s.rwt) (hlive : t.shape.live = s.shape.live) : UnitsKept offs s t :=
  ⟨fun _ hf => hcmds ▸ hf, hctxs, hrings, hrwt, hlive, fun k _ => by rw [State.reg, State.reg, hregs]⟩

theorem of_memOnly (h : MemOnly s t) : UnitsKept offs s t :=
  .of_regs (congrArg State.regs h :) (congrArg State.cmds h :) (congrArg State.ctxs h :) (congrArg State.rings h :) (congrArg State.rwt h :)
    (congrArg (fun x : State => x.shape.live) h :)

theorem setReg (s : State) {k : Nat} (hk : pgOff k ∈ offs) (v : Word64) : UnitsKept offs s (s.setReg k v) :=
  ⟨fun _ h => h, rfl, rfl, rfl, rfl, fun _ hj => State.reg_setReg_other _ _ (fun e => hj (e ▸ hk))⟩

theorem setFld (s : State) (c i : Nat) {f : Fld} (hf : f.off < 4096 ∧ f.off ∈ offs) (v : Nat) :
    UnitsKept offs s (s.setFld (page c i) f v) :=
  .setReg s (by rw [pgOff_regKey_page c i hf.1]; exact hf.2) _

theorem raise (s : State) (c i : Nat) (hoff : 0x30 ∈ offs) (b : Nat) : UnitsKept offs s (s.raise (page c i) b) := by
  have h : RegsOutOnly s (s.raise (page c i) b) := s.raise_regsOutOnly ..
  refine ⟨fun f hf => ?_, (congrArg State.ctxs h :), (congrArg State.rings h :), (congrArg State.rwt h :),
    (congrArg (fun x : State => x.shape.live) h :), fun k hk => raise_reg _ _ _ _ ?_⟩
  · rw [State.raise_cmds] at hf
    exact hf
  · rintro rfl
    exact hk (by rwa [pgOff_page c i (by decide)])

theorem lose (s : State) (base len : Nat) : UnitsKept offs s (s.lose base len) := .of_regs rfl rfl rfl rfl rfl rfl

theorem modTc (s : State) (n : Nat) (f : Tc → Tc) : UnitsKept offs s (s.modTc n f) := .of_regs rfl rfl rfl rfl rfl rfl

theorem loseUnits (s : State) (p : Nat) : UnitsKept offs s (s.loseUnits p) := (UnitsKept.refl s).foldl _ _ (fun u _ => .lose u ..)

theorem clearSticky (himg : ∀ o ∈ imageRegs, o ∈ offs) (s : State) (p : Nat) : UnitsKept offs s (s.clearSticky p) := by
  refine (UnitsKept.refl s).foldl _ _ (fun u n => UnitsKept.trans ?_ (.modTc ..))
  refine List.foldlRecOn (motive := UnitsKept offs u) imageRegs _ (.refl u) (fun w hw o ho => hw.trans (.setReg w ?_ _))
  have hlt : ∀ o ∈ imageRegs, o < 4096 := by decide
  rw [pgOff_page 7 n (hlt o ho)]
  exact himg o ho

theorem closeSessions (h30 : 0x30 ∈ offs) (s : State) (v : Nat) : UnitsKept offs s (s.closeSessions v) := by
  have hmarks (l : List Nat) (p : Nat) : UnitsKept offs s (l.foldl (fun (t : State) a => (t.wrDev (some p) a [0]).1) s) :=
    (UnitsKept.refl s).foldl _ _ (fun u a => .of_memOnly (.wrDev ..))
  have hvc (u : State) : UnitsKept offs u (u.modVc v (fun _ => {})) := .of_regs rfl rfl rfl rfl rfl rfl
  unfold State.closeSessions
  split
  · exact .refl s
  · refine UnitsKept.trans ?_ (.raise _ 11 v h30 18)
    split
    · exact (hmarks ..).trans (hvc _)
    · exact hvc _

theorem freeTable (s : State) (p : Nat) : UnitsKept offs s (s.freeTable p) := by
  have htier (u : State) (host : Bool) : MemOnly u (u.freeTier p host) := MemOnly.foldl (.refl u) _ _ (fun w _ => .setSlotW0 w ..)
  exact (UnitsKept.of_memOnly ((htier s false).trans (htier _ true))).trans (.of_regs rfl rfl rfl rfl rfl rfl)

theorem frameRetired (s : State) (t f : Nat) : UnitsKept offs s (s.frameRetired t f) := by
  have h := frameRetired_eq s t f
  exact .of_regs (congrArg State.regs h :) (congrArg State.cmds h :) (congrArg State.ctxs h :) (congrArg State.rings h :)
    (congrArg State.rwt h :) (congrArg (fun x : State => x.shape.live) h :)

theorem mapRetired (s : State) : UnitsKept offs s s.mapRetired :=
  (UnitsKept.refl s).foldl _ _ (fun u _ => (UnitsKept.refl u).foldl _ _ (fun v _ => (UnitsKept.refl v).foldl _ _ (fun w _ =>
    .ite (.refl w) (.frameRetired ..))))

theorem trimUnit (h30 : 0x30 ∈ offs) (s : State) (kind i : Nat) : UnitsKept offs s (s.trimUnit kind i) := by
  have htrim (l : List (Nat × Nat)) : UnitsKept offs s { s with trim := l } := .of_regs rfl rfl rfl rfl rfl rfl
  exact .ite (.refl s) ((htrim _).trans (.raise _ 0 0 h30 23))

theorem rebuildSet (h30 : 0x30 ∈ offs) (s : State) (t : Nat) : UnitsKept offs s (s.rebuildSet t) := by
  unfold State.rebuildSet
  extract_lets bytes outs s1 s2
  have h1 : UnitsKept offs s s1 := (UnitsKept.refl s).foldl _ _ (fun u c => .trimUnit h30 u ..)
  have h2 : UnitsKept offs s1 s2 := .of_regs rfl rfl rfl rfl rfl rfl
  exact (h1.trans h2).trans (.of_regs rfl rfl rfl rfl rfl rfl)

theorem rebuildSets (h30 : 0x30 ∈ offs) (s : State) (p : Nat) : UnitsKept offs s (s.rebuildSets p) := by
  unfold State.rebuildSets
  extract_lets own s1 retiring s2
  have h1 : UnitsKept offs s s1 := (UnitsKept.refl s).foldl _ _ (fun u t => .ite (.rebuildSet h30 ..) (.refl u))
  have h2 : UnitsKept offs s s2 := h1.foldl _ _ (fun u k => .frameRetired ..)
  exact h2.trans (.mapRetired _)

theorem takeFailed (h30 : 0x30 ∈ offs) (hsvc : Fld.CRN_SERVICE_FAILED_PENDING.off ∈ offs) (s : State) (p : Nat) :
    UnitsKept offs s (s.takeFailed p) := by
  unfold State.takeFailed
  extract_lets mine s1 s2
  have h1 : UnitsKept offs s s1 := (UnitsKept.refl s).foldl _ _ (fun u x => .trimUnit h30 ..)
  have h2 : UnitsKept offs s s2 := h1.trans (.of_regs rfl rfl rfl rfl rfl rfl)
  exact .ite (h2.trans (.setFld _ 0 0 ⟨by decide, hsvc⟩ _)) h2

end UnitsKept

/-! ### The walk epoch over the resets of its page (Table 18.4) -/

/-- The key of PART_KV_EPOCH_CUR. -/
def epochKey (p : Nat) : Nat := regKey (partPage p) 0x958

theorem epochKey_parts {p : Nat} (hp : p < 64) : epochKey p = page 14 p + 0x958 ∧ pgClass (epochKey p) = 14 ∧ pgOff (epochKey p) = 0x958 := by
  have hkey : epochKey p = page 14 p + 0x958 := by
    have hclass : pgClass (partPage p) ≠ 0 := by
      rw [partPage, pgClass_page (by decide) (by omega)]
      decide
    exact if_neg (fun h => hclass h.1)
  refine ⟨hkey, ?_, ?_⟩
  · rw [hkey, pgClass, page]
    omega
  · rw [hkey, pgOff_page 14 p (by decide)]

/-- The epoch is no RW field, so the resets of its page leave it. -/
theorem resetPageWord_epochKey {p : Nat} (hp : p < 64) : resetPageWord (epochKey p) 0 = some 0 := by
  obtain ⟨-, hclass, hoff⟩ := epochKey_parts hp
  have hreset : resetWord (epochKey p) = 0 := by
    rw [resetWord, hclass, hoff]
    decide
  rw [resetPageWord, hreset, selectsFirst, hclass, hoff, mergeBits, if_neg (by decide), if_neg (by decide), if_neg (by decide)]
  simp

theorem reg_resetPages_zero (s : State) (pick : Nat → Bool) {k : Nat} (hword : resetPageWord k 0 = some 0) (h : s.reg k = 0) :
    (s.resetPages pick).reg k = 0 := by
  rw [State.reg] at h
  rw [State.reg, State.resetPages]
  dsimp only
  generalize s.regs = m at h ⊢
  induction m with
  | nil => exact h
  | cons x m ih =>
    obtain ⟨j, v⟩ := x
    rw [SMap.get?] at h
    rw [List.filterMap_cons]
    by_cases hj : j = k
    · rw [if_pos hj] at h
      obtain rfl : v = 0 := h
      subst hj
      by_cases hp : pick (pgBase j) = true
      · dsimp only
        rw [if_pos hp, hword]
        simp [SMap.get?]
      · dsimp only
        rw [if_neg hp]
        simp [SMap.get?]
    · rw [if_neg hj] at h
      dsimp only
      split
      · exact ih h
      · next y hy =>
        have hkey : y.1 = j := by
          split at hy
          · obtain ⟨w, -, rfl⟩ := Option.map_eq_some_iff.mp hy
            rfl
          · exact (Option.some.inj hy) ▸ rfl
        obtain ⟨i, w⟩ := y
        rw [SMap.get?, if_neg (fun e => hj (hkey.symm.trans e))]
        exact ih h

/-! ### The steps of R423 -/

theorem noticeReset_shape (s : State) (p : Nat) : (s.noticeReset p).shape = s.shape := by
  have hpump (fuel : Nat) : ∀ (u : State) (c : BrimConn), (u.pump c fuel).shape = u.shape := by
    induction fuel with
    | zero => exact fun u c => rfl
    | succ fuel ih =>
      intro u c
      rw [State.pump]
      split
      · rfl
      · split
        · rfl
        · exact (ih ..).trans rfl
  have hsend (u : State) (mask : Nat) (f : BrimFrame) : (u.sendTo mask f none).shape = u.shape := by
    rw [State.sendTo]
    split
    · exact hpump ..
    · rfl
  rw [State.noticeReset]
  split
  · rfl
  · exact List.foldlRecOn (motive := fun u : State => u.shape = s.shape) _ _ rfl (fun u hu n _ => (hsend ..).trans hu)

theorem pinModel_memOnly (s : State) (i : Nat) (d : Int) : MemOnly s (s.pinModel i d) := by
  unfold State.pinModel
  split
  · exact .refl s
  · exact .wr64 ..

theorem emptyCtx_kept (s : State) (p c : Nat) : (∀ f ∈ (s.emptyCtx p c).cmds, f ∈ s.cmds) ∧ (s.emptyCtx p c).shape = s.shape := by
  have hpins : MemOnly s ((s.ctx p c).binds.foldl (fun s i => s.pinModel i (-1)) s) := MemOnly.foldl (.refl s) _ _ (fun u i => pinModel_memOnly u ..)
  refine ⟨fun f hf => ?_, (congrArg State.shape hpins :)⟩
  have hmem := (List.mem_filter.mp hf).1
  rwa [hpins.cmds] at hmem

theorem eq_zero_of_getBits {w : Word64} (h : getBits w 63 0 = 0) : w = 0 := by
  refine BitVec.eq_of_toNat_eq ?_
  rw [getBits, Nat.shiftRight_zero, Nat.mod_eq_of_lt w.isLt] at h
  exact h

/-- The offsets that the steps of a reset write, the epoch's among none. -/
def resetOffs : List Nat := [0x30, 0x1A8, 0xA48, 0xC00] ++ imageRegs

/-- What a partition reset leaves of the partition. -/
structure PartReset (p : Nat) (s t : State) : Prop where
  resetting : (t.part p).resetting = true
  cmds : ∀ c ∈ t.cmds, c.part ≠ p
  rings : ∀ r, s.shape.live.ownsRing p r = true → t.ring r = {}
  ctxs : ∀ c < 16, t.ctx p c = {}
  rwt : ∀ i, s.rwtOwns p i = true → t.rwtEntry i = RwtEntry.empty 0
  epoch : p < 64 → t.epochCur p = 0

theorem getD_dropKeys {α : Type} (m : SMap α) {pick : Nat → Bool} {k : Nat} (h : pick k = true) (d : α) :
    SMap.getD (SMap.dropKeys m pick) k d = d := by
  rw [SMap.getD, SMap.get?_dropKeys, if_pos h]
  rfl

/-- Steps 2 and 3 of R423: partners hear of the reset, the commands end and the contexts become EMPTY. -/
def State.resetFirst (s : State) (p : Nat) : State :=
  (List.range 16).foldl (fun s c => s.emptyCtx p c) ((s.noticeReset p).endAll (fun c => c.part == p) 0xF005)

/-- Step 4 of R423: the units, rings, sessions, pools and windows of the partition. -/
def State.resetUnits (s : State) (live : Bank) (p : Nat) : State :=
  let s := { s with ctxs := SMap.dropKeys s.ctxs (fun k => k / 16 == p) }
  let s := (s.loseUnits p).clearSticky p
  let s := { s with rings := SMap.dropKeys s.rings (fun r => live.ownsRing p r) }
  let s := (live.codecs p).foldl (fun s v => s.closeSessions v) s
  let s := (s.freeTable p).setFld (partPage p) Fld.PART_KV_EPOCH_CUR_CUR 0
  { s with rwt := SMap.dropKeys s.rwt (fun i => s.rwtOwns p i) }

/-- Steps 5 and 6 of R423, once the pages of the partition have been reset. -/
def State.resetEnd (s : State) (p : Nat) : State :=
  let s := (s.setFld (partPage p) Fld.PART_RT_PTR_REQ_HEAD 0).setFld (partPage p) Fld.PART_RT_PTR_RSP_TAIL 0
  let s := s.setFld (partPage p) Fld.PART_PWR_STATE 0
  let s := { s with shape := { s.shape with
    checks := SMap.dropKeys s.shape.checks (fun pg => s.pageOwner? pg == some p),
    engineResets := s.shape.engineResets.filter (fun pg => !(s.pageOwner? pg == some p)),
    halves := SMap.dropKeys s.shape.halves (fun k => s.pageOwner? (pgBase k) == some p && !(shOffs (pgClass k)).contains (pgOff k)) } }
  (s.takeFailed p).rebuildSets p

/-- The pages of a partition are reset (Table 18.4). -/
def State.resetOwnPages (s : State) (p : Nat) : State := s.resetPages (fun pg => s.pageOwner? pg == some p)

theorem resetPart_eq (s : State) (p : Nat) : s.resetPart p =
    ((((s.resetFirst p).resetUnits s.shape.live p).resetOwnPages p).resetEnd p).modPart p (fun _ => { resetting := true }) := rfl

theorem resetFirst_kept (s : State) (p : Nat) : (∀ c ∈ (s.resetFirst p).cmds, c.part ≠ p) ∧ (s.resetFirst p).shape.live = s.shape.live := by
  obtain ⟨-, hnone⟩ := endAll_ends (s.noticeReset p) (pick := fun c => c.part == p) (fun f g h => by
    simp only [InFlight.origin, Prod.mk.injEq] at h
    simp [h.2.2.1]) 0xF005
  have hend := endAll_endOnly (offs := endOffs) (fun _ h => h) (s.noticeReset p) (fun c => c.part == p) 0xF005
  have hshape : ((s.noticeReset p).endAll (fun c => c.part == p) 0xF005).shape = s.shape :=
    (congrArg State.shape hend.eq :).trans (noticeReset_shape s p)
  unfold State.resetFirst
  generalize (s.noticeReset p).endAll (fun c => c.part == p) 0xF005 = v at hnone hshape
  have h : (∀ f ∈ ((List.range 16).foldl (fun s c => s.emptyCtx p c) v).cmds, f ∈ v.cmds) ∧
      ((List.range 16).foldl (fun s c => s.emptyCtx p c) v).shape = v.shape :=
    List.foldlRecOn (motive := fun u : State => (∀ f ∈ u.cmds, f ∈ v.cmds) ∧ u.shape = v.shape) _ _ ⟨fun _ h => h, rfl⟩
      (fun u hu c _ => ⟨fun f hf => hu.1 f ((emptyCtx_kept u p c).1 f hf), (emptyCtx_kept u p c).2.trans hu.2⟩)
  refine ⟨fun c hc he => ?_, congrArg (fun x : ShapeUnit => x.live) (h.2.trans hshape)⟩
  have hpick := hnone c (h.1 c hc)
  simp [he] at hpick

/-- What the reset of a partition's units leaves of it. -/
structure UnitsReset (live : Bank) (p : Nat) (s t : State) : Prop where
  cmds : ∀ f ∈ t.cmds, f ∈ s.cmds
  rings : t.rings = SMap.dropKeys s.rings (fun r => live.ownsRing p r)
  ctxs : t.ctxs = SMap.dropKeys s.ctxs (fun k => k / 16 == p)
  rwt : ∀ i, s.rwtOwns p i = true → t.rwtEntry i = RwtEntry.empty 0
  live : t.shape.live = s.shape.live
  epoch : t.reg (epochKey p) = 0

theorem resetUnits_resets (s : State) (live : Bank) (p : Nat) : UnitsReset live p s (s.resetUnits live p) := by
  unfold State.resetUnits
  extract_lets s1 s2 s3 s4 s5
  have h12 : UnitsKept resetOffs s1 s2 := (UnitsKept.loseUnits s1 p).trans (.clearSticky (by decide) _ p)
  have h34 : UnitsKept resetOffs s3 s4 := (UnitsKept.refl s3).foldl _ _ (fun u v => .closeSessions (by decide) u v)
  have h4 : UnitsKept resetOffs s4 (s4.freeTable p) := .freeTable s4 p
  have hreg : s5.reg (epochKey p) = 0 := eq_zero_of_getBits (State.fld_setFld_same (s4.freeTable p) (partPage p)
    Fld.PART_KV_EPOCH_CUR_CUR 0 (by decide) (by decide))
  have h45 : s5.cmds = (s4.freeTable p).cmds ∧ s5.rings = (s4.freeTable p).rings ∧ s5.ctxs = (s4.freeTable p).ctxs ∧
      s5.shape = (s4.freeTable p).shape := ⟨rfl, rfl, rfl, rfl⟩
  have h3 : s3.cmds = s2.cmds ∧ s3.rings = SMap.dropKeys s2.rings (fun r => live.ownsRing p r) ∧ s3.ctxs = s2.ctxs ∧
      s3.shape = s2.shape := ⟨rfl, rfl, rfl, rfl⟩
  clear_value s5 s4 s3 s2
  have hlive : s5.shape.live = s.shape.live := by
    rw [h45.2.2.2, h4.live, h34.live, h3.2.2.2, h12.live]
  exact {
    cmds := fun f hf => h12.cmds f (h3.1 ▸ h34.cmds f (h4.cmds f (h45.1 ▸ hf)))
    rings := h45.2.1.trans (h4.rings.trans (h34.rings.trans (h3.2.1.trans (by rw [h12.rings]))))
    ctxs := h45.2.2.1.trans (h4.ctxs.trans (h34.ctxs.trans (h3.2.2.1.trans h12.ctxs)))
    rwt := fun i hi => by
      refine getD_dropKeys _ ?_ _
      rw [State.rwtOwns, hlive]
      exact hi
    live := hlive
    epoch := hreg }

theorem resetEnd_kept (s : State) (p : Nat) : UnitsKept resetOffs s (s.resetEnd p) := by
  have h30 : 0x30 ∈ resetOffs := by decide
  unfold State.resetEnd
  extract_lets s1 s2 sh s3
  have h1 : UnitsKept resetOffs s s1 := (UnitsKept.setFld s 14 p (by decide) 0).trans (.setFld _ 14 p (by decide) 0)
  have h2 : UnitsKept resetOffs s s2 := h1.trans (.setFld s1 14 p (by decide) 0)
  have h3 : UnitsKept resetOffs s2 s3 := .of_regs rfl rfl rfl rfl rfl rfl
  exact ((h2.trans h3).trans (.takeFailed h30 (by decide) s3 p)).trans (.rebuildSets h30 _ p)

theorem resetPart_resets (s : State) (p : Nat) : PartReset p s (s.resetPart p) := by
  obtain ⟨hnone, hlive⟩ := resetFirst_kept s p
  have hunits := resetUnits_resets (s.resetFirst p) s.shape.live p
  have hend := resetEnd_kept (((s.resetFirst p).resetUnits s.shape.live p).resetOwnPages p) p
  rw [resetPart_eq]
  generalize s.resetFirst p = a at hnone hlive hunits hend
  generalize a.resetUnits s.shape.live p = b at hunits hend
  have hpages : (b.resetOwnPages p).cmds = b.cmds ∧ (b.resetOwnPages p).rings = b.rings ∧ (b.resetOwnPages p).ctxs = b.ctxs ∧
      (b.resetOwnPages p).rwt = b.rwt := ⟨rfl, rfl, rfl, rfl⟩
  have hepoch (hp : p < 64) : (b.resetOwnPages p).reg (epochKey p) = 0 :=
    reg_resetPages_zero b _ (resetPageWord_epochKey hp) hunits.epoch
  generalize b.resetOwnPages p = c at hpages hepoch hend
  generalize c.resetEnd p = d at hend
  obtain ⟨hcmds, hrings, hctxs, hrwt⟩ := hpages
  have hkey (k : Nat) (hk : k < 16) : ((p * 16 + k) / 16 == p) = true := beq_iff_eq.mpr (by omega)
  exact {
    resetting := by rw [State.part, State.modPart, SMap.getD_put_same]
    cmds := fun f hf => hnone f (hunits.cmds f (hcmds ▸ hend.cmds f hf))
    rings := fun r hr => (congrArg (fun m : SMap Ring => SMap.getD m r {}) (hend.rings.trans (hrings.trans hunits.rings))).trans
      (getD_dropKeys _ (pick := fun r => s.shape.live.ownsRing p r) hr ({} : Ring))
    ctxs := fun k hk => (congrArg (fun m : SMap Ctx => SMap.getD m (p * 16 + k) {}) (hend.ctxs.trans (hctxs.trans hunits.ctxs))).trans
      (getD_dropKeys _ (pick := fun k => k / 16 == p) (hkey k hk) ({} : Ctx))
    rwt := fun i hi => by
      refine (congrArg (fun m : SMap RwtEntry => SMap.getD m i (RwtEntry.empty 0)) (hend.rwt.trans hrwt)).trans (hunits.rwt i ?_)
      rw [State.rwtOwns, hlive]
      exact hi
    epoch := fun hp => by
      have hoff : pgOff (epochKey p) ∉ resetOffs := by
        rw [(epochKey_parts hp).2.2]
        decide
      exact congrArg (fun w => getBits w 63 0) ((hend.reg _ hoff).trans (hepoch hp)) }

theorem PartReset.observe {p : Nat} {s t : State} (h : PartReset p s t) : PartReset p s t.observe where
  resetting := h.resetting
  cmds := fun c hc => by
    obtain ⟨g, hg, hcg⟩ := (Ends.observe t).cmds c hc
    simp only [InFlight.origin, Prod.mk.injEq] at hcg
    exact hcg.2.2.1 ▸ h.cmds g hg
  rings := h.rings
  ctxs := h.ctxs
  rwt := h.rwt
  epoch := h.epoch

/-! ### How a reset begins and ends (R350, R422, R423) -/

/-- A partition waking for its reset (Table 18.3). -/
def State.wakeForReset (s : State) (p : Nat) : State :=
  (s.setFld (partPage p) Fld.PART_PWR_STATE 0).setFld (partPage p) Fld.PART_PWR_DEEP_NAP 0

section
variable {s : State} {p : Nat} (hdef : s.shape.live.defined p = true) (hres : (s.part p).resetting = false)
include hdef hres

theorem startPartReset_free (h : s.shapeHolds p = false) : s.startPartReset p = (s.wakeForReset p).resetPart p := by
  rw [State.startPartReset, if_neg (by simp [hdef, hres])]
  exact if_neg (Bool.eq_false_iff.mp h)

theorem startPartReset_held (h : s.shapeHolds p = true) : s.startPartReset p =
    (s.wakeForReset p).modPart p (fun x => { x with resetting := true, resetDue := true }) := by
  rw [State.startPartReset, if_neg (by simp [hdef, hres])]
  exact if_pos h

end

section
variable {s : State} {who : Requester} {crown : Nat} {v : Word64} (hin : s.letsIn who (page 0 crown)) (hpkg : getBits v 0 0 = 0)
  (hpart : getBits v 2 2 = 1) (hstate : s.fld crnPage Fld.CRN_PWR_STATUS_STATE < 3)
include hin hpkg hpart hstate

theorem crnReset_partition : s.crnReset who crown v = if s.shape.live.defined (getBits v 8 3) then s.startPartReset (getBits v 8 3)
    else s.refuseF (page 0 crown) 0x0102 Fld.CRN_RESET_PART_IDX := by
  rw [State.crnReset, letIn_letsIn hin]
  dsimp only
  rw [hpkg, hpart, if_neg (by decide), if_neg (by omega), if_neg (by decide), if_neg (by decide)]

end

section
variable {s : State} {p : Nat} (h : (s.part p).resetting = true)
include h

theorem partitionResetDone_ends (hdue : (s.part p).resetDue = false) :
    partitionResetDone s p = s.modPart p (fun x => { x with resetting := false }) := by
  rw [partitionResetDone, if_neg (by simp [h]), if_neg (by simp [hdue])]

theorem partitionResetDone_held (hdue : (s.part p).resetDue = true) (hholds : s.shapeHolds p = true) : partitionResetDone s p = s := by
  rw [partitionResetDone, if_neg (by simp [h]), if_pos hdue, if_pos hholds]

theorem partitionResetDone_runs (hdue : (s.part p).resetDue = true) (hholds : s.shapeHolds p = false)
    (hdef : s.shape.live.defined p = true) : partitionResetDone s p = (s.resetPart p).modPart p (fun _ => {}) := by
  rw [partitionResetDone, if_neg (by simp [h]), if_pos hdue, if_neg (by simp [hholds]), if_pos hdef]

end

/-- Settles O49: the reset's start and end by their branches, what it leaves of the partition by `resetPart_resets`. -/
theorem partitionReset : Obligations.PartitionReset := by
  unfold Obligations.PartitionReset
  intro who crown p v s start hdef hres
  refine ⟨fun hin hpkg hpart hidx hstate => ?_, fun hin hpkg hpart hundef hstate => ?_, fun h w hlink hdw hvf hholds => ?_,
    fun q hq hdue => done_eq (partitionResetDone_ends hq hdue), fun q hq hdue => ⟨fun hholds => done_eq (partitionResetDone_held hq hdue hholds),
    fun hholds hqdef => done_eq (partitionResetDone_runs hq hdue hholds hqdef)⟩⟩
  · have hcrown := crnReset_partition hin hpkg hpart hstate
    rw [hidx, if_pos hdef] at hcrown
    exact ⟨fun hholds => done_eq (hcrown.trans (startPartReset_free hdef hres hholds)),
      fun hholds => done_eq (hcrown.trans (startPartReset_held hdef hres hholds))⟩
  · exact done_eq ((crnReset_partition hin hpkg hpart hstate).trans (if_neg (by simp [hundef])))
  · have hflr : flr s (.vf h w) = (start s).resetPart p := by
      rw [flr, if_neg (by simp [State.arrives, hlink, hdw])]
      rw [hvf]
      exact startPartReset_free hdef hres hholds
    have hp : p < 64 := by
      rw [Bank.vfPart?] at hvf
      split at hvf
      · rw [← Option.some.inj hvf]
        exact Nat.mod_lt _ (by decide)
      · cases hvf
    have hreset := (resetPart_resets (start s) p).observe
    exact ⟨_, done_eq hflr, rfl, hreset.resetting, hreset.cmds, hreset.rings, fun c hc => by rw [hreset.ctxs c hc],
      fun i hi => by rw [hreset.rwt i hi]; rfl, hreset.epoch hp⟩

end Sys2Proof.Machine
end

section
/-! Package resets, and what an unretained one clears (R424, R425, R431), O50. -/
namespace Sys2Proof.Machine

open Sys2Proof

/-! ### What a boot leaves (R453, Table 20.3) -/

/-- A step of the boot that leaves device memory, the Shape unit and the power controller. -/
structure BootKept (s t : State) : Prop where
  mem : t.mem = s.mem
  shape : t.shape = s.shape
  pwr : t.pwr = s.pwr

namespace BootKept
variable {s t u : State}

theorem refl (s : State) : BootKept s s := ⟨rfl, rfl, rfl⟩

theorem trans (h : BootKept s t) (k : BootKept t u) : BootKept s u := ⟨k.mem.trans h.mem, k.shape.trans h.shape, k.pwr.trans h.pwr⟩

theorem ite {c : Prop} [Decidable c] (h : BootKept s t) (k : BootKept s u) : BootKept s (if c then t else u) := by
  split
  · exact h
  · exact k

theorem foldl {α : Type} (h : BootKept s t) (l : List α) (f : State → α → State) (hf : ∀ u a, BootKept u (f u a)) :
    BootKept s (l.foldl f t) :=
  List.foldlRecOn l f h (fun u hu a _ => hu.trans (hf u a))

theorem of_regsOutOnly (h : RegsOutOnly s t) : BootKept s t := ⟨(congrArg State.mem h :), (congrArg State.shape h :), (congrArg State.pwr h :)⟩

theorem of_reported (h : Reported s t) : BootKept s t := ⟨(congrArg State.mem h :), (congrArg State.shape h :), (congrArg State.pwr h :)⟩

theorem setFld (s : State) (pg : Nat) (f : Fld) (v : Nat) : BootKept s (s.setFld pg f v) := ⟨rfl, rfl, rfl⟩

theorem raise (s : State) (pg b : Nat) : BootKept s (s.raise pg b) := .of_regsOutOnly (s.raise_regsOutOnly ..)

theorem recordError (s : State) (e : ErrInfo) : BootKept s (s.recordError e) := .of_reported (recordError_reported s e)

theorem frameRetired (s : State) (t f : Nat) : BootKept s (s.frameRetired t f) := by
  have h := frameRetired_eq s t f
  exact ⟨(congrArg State.mem h :), (congrArg State.shape h :), (congrArg State.pwr h :)⟩

theorem mapRetired (s : State) : BootKept s s.mapRetired :=
  (BootKept.refl s).foldl _ _ (fun u _ => (BootKept.refl u).foldl _ _ (fun v _ => (BootKept.refl v).foldl _ _ (fun w _ =>
    .ite (.refl w) (.frameRetired ..))))

theorem markOut (s : State) (c : Nat) : BootKept s (s.markOut c) := by
  unfold State.markOut
  split
  · exact .refl s
  extract_lets s1 om s2 s3 owner s4
  have h1 : BootKept s s1 := (BootKept.setFld ..).trans (.raise ..)
  have h3 : BootKept s s3 := h1.trans ⟨rfl, rfl, rfl⟩
  have h4 : BootKept s s4 := h3.trans (.recordError ..)
  split
  · exact h4
  · exact .ite h4 (h4.trans (.trans (t := s4.countErr (partPage _) 2) ((BootKept.setFld ..).trans (.raise ..)) (.of_reported (haltPart_reported ..))))

theorem buildTrim (s : State) (f : BootReport) : BootKept s (s.buildTrim f) := by
  unfold State.buildTrim
  extract_lets crowns found trim s1
  have h1 : BootKept s s1 := .ite (.refl s) (.raise ..)
  exact h1.trans ⟨rfl, rfl, rfl⟩

theorem trainChannels (s : State) (f : BootReport) : BootKept s (s.trainChannels f) := by
  unfold State.trainChannels
  extract_lets s1 s2
  have h1 : BootKept s s1 := ⟨rfl, rfl, rfl⟩
  have h2 : BootKept s s2 := h1.foldl _ _ (fun u k => .ite (.refl u) (.setFld ..))
  exact h2.foldl _ _ (fun u x => .ite (.refl u) (.ite (.setFld ..) (.markOut ..)))

theorem recordSlots (s : State) (slots : List FwSlot) (counter : Nat) : BootKept s (s.recordSlots slots counter) :=
  (BootKept.refl s).foldl _ _ (fun u _ => .ite (.recordError u _) (.ite (.recordError u _) (.refl u)))

theorem toRecovery (s : State) (lead : Nat) (code : Code) : BootKept s (s.toRecovery lead code) := by
  unfold State.toRecovery
  extract_lets s1
  have h1 : BootKept s s1 := .ite (.refl s) (.recordError ..)
  exact h1.trans ⟨rfl, rfl, rfl⟩

theorem bootKeys (s : State) (f : BootReport) : BootKept s (s.bootKeys f).1 := by
  unfold State.bootKeys
  extract_lets ok src s1 s2 s3 s4
  have h2 : BootKept s s2 := ⟨rfl, rfl, rfl⟩
  have h3 : BootKept s s3 := h2.foldl _ _ (fun u _ => .ite (.refl u) (.recordError ..))
  exact h3.foldl _ _ (fun u _ => .ite (.refl u) (.recordError ..))

theorem setPort (s : State) (b st : Nat) : BootKept s (s.setPort b st) := by
  unfold State.setPort
  extract_lets old s1 s2
  have h1 : BootKept s s1 := (BootKept.setFld ..).trans (.raise ..)
  have h2 : BootKept s s2 := .ite (h1.trans ⟨rfl, rfl, rfl⟩) (.ite (h1.trans ⟨rfl, rfl, rfl⟩) h1)
  exact .ite (.refl s) (.ite (h2.trans ⟨rfl, rfl, rfl⟩) h2)

theorem startPorts (s : State) : BootKept s s.startPorts :=
  (BootKept.refl s).foldl _ _ (fun u _ => .ite (.setPort ..) (.refl u))

theorem judgeService (s : State) (refclk : Bool) (lead : Nat) : BootKept s (s.judgeService refclk lead) := ⟨rfl, rfl, rfl⟩

end BootKept

/-! ### The factory default Shape has no pools -/

/-- A bank holds no word at an offset. -/
def Bank.unset (b : Bank) (off : Nat) : Prop := ∀ k, pgOff k = off → SMap.getD b.words k 0 = 0

theorem Bank.unset.setFld {b : Bank} {off : Nat} (h : b.unset off) (c i : Nat) {f : Fld} (hf : f.off < 4096 ∧ f.off ≠ off) (v : Nat) :
    (b.setFld (page c i) f v).unset off := by
  intro k hk
  have hne : k ≠ regKey (page c i) f.off := by
    rintro rfl
    rw [pgOff_regKey_page c i hf.1] at hk
    exact hf.2 hk
  exact (SMap.getD_put_other _ _ _ hne).trans (h k hk)

theorem factoryBank_unset (trim : List (Nat × Nat)) {off : Nat} (hoff : off = 0x908 ∨ off = 0x918) : (factoryBank trim).unset off := by
  have hne (f : Fld) (hf : f.off < 4096 ∧ f.off ≠ 0x908 ∧ f.off ≠ 0x918) : f.off < 4096 ∧ f.off ≠ off := by
    rcases hoff with rfl | rfl <;> simp [hf]
  unfold factoryBank
  extract_lets ok p0 b0 b1 b2 b3 b4 b5 b6 b7 b8 b9 b10 b11
  have h0 : b0.unset off := fun k _ => rfl
  have h1 : b1.unset off := ((h0.setFld 14 0 (hne _ (by decide)) _).setFld 14 0 (hne _ (by decide)) _).setFld 14 0 (hne _ (by decide)) _
  have h6 : b6.unset off := ((((h1.setFld 14 0 (hne _ (by decide)) _).setFld 14 0 (hne _ (by decide)) _).setFld 14 0
    (hne _ (by decide)) _).setFld 14 0 (hne _ (by decide)) _).setFld 14 0 (hne _ (by decide)) _
  have h8 : b8.unset off := (((h6.setFld 14 0 (hne _ (by decide)) _).setFld 14 0 (hne _ (by decide)) _).setFld 14 0
    (hne _ (by decide)) _).setFld 14 0 (hne _ (by decide)) _
  have h9 : b9.unset off := (h8.setFld 2 0 (hne _ (by decide)) _).setFld 2 0 (hne _ (by decide)) _
  have h10 : b10.unset off := List.foldlRecOn (motive := fun x : Bank => x.unset off) _ _ h9 (fun x hx i _ =>
    ((hx.setFld 12 i (hne _ (by decide)) _).setFld 12 i (hne _ (by decide)) _).setFld 12 i (hne _ (by decide)) _)
  have h11 : b11.unset off := List.foldlRecOn (motive := fun x : Bank => x.unset off) _ _ h10 (fun x hx i _ =>
    ((hx.setFld 13 i (hne _ (by decide)) _).setFld 13 i (hne _ (by decide)) _).setFld 13 i (hne _ (by decide)) _)
  exact (((h11.setFld 0 0 (hne _ (by decide)) _).setFld 0 0 (hne _ (by decide)) _).setFld 0 0 (hne _ (by decide)) _).setFld 0 0
    (hne _ (by decide)) _

theorem Bank.fld_unset {b : Bank} {f : Fld} (h : b.unset f.off) (hoff : f.off < 4096) (c i : Nat) : b.fld (page c i) f = 0 := by
  rw [Bank.fld, h _ (pgOff_regKey_page c i hoff)]
  simp [getBits]

/-- Under the factory default Shape the pools are empty, so that freeing them writes nothing. -/
theorem freePools_factory {s : State} {trim : List (Nat × Nat)} (h : s.shape.live = factoryBank trim) : s.freePools.mem = s.mem := by
  have hslots (p : Nat) : s.kvSlots p = 0 := by
    rw [State.kvSlots, State.sh, h]
    exact Bank.fld_unset (factoryBank_unset trim (.inl rfl)) (by decide) 14 p
  have hhslots (p : Nat) : s.kvHslots p = 0 := by
    rw [State.kvHslots, State.sh, h]
    exact Bank.fld_unset (factoryBank_unset trim (.inr rfl)) (by decide) 14 p
  have htier {u : State} (hu : u.shape = s.shape) (p : Nat) (host : Bool) : u.freeTier p host = u := by
    have hk : u.kvSlots p = s.kvSlots p := congrArg (fun x : ShapeUnit => x.live.fld (partPage p) Fld.PART_KV_POOL_GEOM_SLOTS) hu
    have hh : u.kvHslots p = s.kvHslots p := congrArg (fun x : ShapeUnit => x.live.fld (partPage p) Fld.PART_KV_HOST_GEOM_HSLOTS) hu
    have hnone : (u.tier p host).2 = 0 := by
      cases host
      · exact hk.trans (hslots p)
      · exact hh.trans (hhslots p)
    rw [State.freeTier, hnone]
    rfl
  have hstep {u : State} (hu : u.mem = s.mem ∧ u.shape = s.shape) (p : Nat) : (u.freeTable p).mem = s.mem ∧ (u.freeTable p).shape = s.shape := by
    rw [State.freeTable, htier hu.2, htier hu.2]
    exact hu
  unfold State.freePools
  split
  · rfl
  · exact (List.foldlRecOn (motive := fun u : State => u.mem = s.mem ∧ u.shape = s.shape) _ _ ⟨rfl, rfl⟩ (fun u hu p _ => hstep hu p)).1

theorem driveStrokeOut_kept (s : State) : BootKept s s.driveStrokeOut := .ite ⟨rfl, rfl, rfl⟩ (.ite ⟨rfl, rfl, rfl⟩ (.refl s))

theorem loadBank_kept (s : State) (b : Bank) (slot : Option Nat) :
    (s.loadBank b slot).mem = s.mem ∧ (s.loadBank b slot).shape.live = b ∧ (s.loadBank b slot).pwr = s.pwr := by
  unfold State.loadBank
  extract_lets persona old u s1 s2 src s3 s4
  have h := driveStrokeOut_kept ((s4.setFld strPage Fld.STR_STATUS_LOCK (if src = 0 then 2 else 0)).setReg (strPage + Reg.STR_COUNT) 0)
  have h12 : BootKept s1 s2 := ⟨rfl, rfl, rfl⟩
  have h24 : BootKept s2 s4 := ⟨rfl, rfl, rfl⟩
  have h1 : s1.mem = s.mem ∧ s1.shape.live = b ∧ s1.pwr = s.pwr := ⟨rfl, rfl, rfl⟩
  have h4 : BootKept s4 ((s4.setFld strPage Fld.STR_STATUS_LOCK (if src = 0 then 2 else 0)).setReg (strPage + Reg.STR_COUNT) 0) :=
    ⟨rfl, rfl, rfl⟩
  have h14 := (h12.trans h24).trans (h4.trans h)
  exact ⟨h14.mem.trans h1.1, (congrArg (fun x : ShapeUnit => x.live) h14.shape).trans h1.2.1, h14.pwr.trans h1.2.2⟩

theorem pinnedSlot?_none {s : State} (h0 : s.shape.slot0 = none) (h1 : s.shape.slot1 = none) : s.pinnedSlot? = none := by
  have hsound (i : Nat) : s.slotSound i = false := by
    have hnone : s.shape.slot? i = none := by
      rw [ShapeUnit.slot?]
      split
      · exact h0
      · exact h1
    rw [State.slotSound, hnone]
  rw [State.pinnedSlot?]
  dsimp only
  rw [hsound 0, hsound 1, Bool.false_and, if_neg Bool.false_ne_true, if_neg Bool.false_ne_true]

theorem loadShape_mem {s : State} (h0 : s.shape.slot0 = none) (h1 : s.shape.slot1 = none) (hformed : s.pwr.formed = []) :
    s.loadShape.mem = s.mem := by
  let v := ((s.loadBank (factoryBank s.trim) none).setFld shpPage Fld.SHP_STATUS_DEFAULT_APPLIED 1).recordError
    { source := srcOf shpPage, cls := 1, code := 0x020E }
  have hload : s.loadShape = v.loseReformed.freePools.mapRetired := by
    rw [State.loadShape, pinnedSlot?_none h0 h1]
    rfl
  obtain ⟨hmem, hlive, hpwr⟩ := loadBank_kept s (factoryBank s.trim) none
  have hv : BootKept (s.loadBank (factoryBank s.trim) none) v := (BootKept.setFld ..).trans (.recordError ..)
  have hforms : v.pwr.formed = [] := (congrArg Power.formed (hv.pwr.trans hpwr)).trans hformed
  have hlose : v.loseReformed = { v with pwr := { v.pwr with formed := [] } } := by
    rw [State.loseReformed]
    dsimp only
    rw [hforms]
    rfl
  have hfree : ({ v with pwr := { v.pwr with formed := [] } } : State).freePools.mem = v.mem :=
    freePools_factory (trim := s.trim) ((congrArg (fun x : ShapeUnit => x.live) hv.shape).trans hlive)
  rw [hload, hlose, (BootKept.mapRetired _).mem, hfree, hv.mem, hmem]

theorem bootService_mem {s : State} (f : BootReport) (lead a b : Nat) (h0 : s.shape.slot0 = none) (h1 : s.shape.slot1 = none)
    (hformed : s.pwr.formed = []) : (s.bootService f lead a b).mem = s.mem := by
  unfold State.bootService
  extract_lets from_ sec s1 s2 cert s3 s4
  have h13 : BootKept s s3 := ⟨rfl, rfl, rfl⟩
  have hbuilt : BootKept s ((s3.buildTrim f).trainChannels f) := (h13.trans (.buildTrim s3 f)).trans (.trainChannels _ f)
  have hload : s4.mem = s.mem := (loadShape_mem ((congrArg (fun x : ShapeUnit => x.slot0) hbuilt.shape).trans h0)
    ((congrArg (fun x : ShapeUnit => x.slot1) hbuilt.shape).trans h1) ((congrArg Power.formed hbuilt.pwr).trans hformed)).trans hbuilt.mem
  exact ((BootKept.startPorts s4).trans (.judgeService _ f.refclk lead)).mem.trans hload

theorem boot_mem {s : State} (f : BootReport) (h0 : s.shape.slot0 = none) (h1 : s.shape.slot1 = none) (hformed : s.pwr.formed = []) :
    (s.boot f).mem = s.mem := by
  have hkeys := BootKept.bootKeys s f
  unfold State.boot
  generalize s.bootKeys f = x at hkeys
  obtain ⟨u, lead⟩ := x
  dsimp -zeta only at hkeys ⊢
  split
  · exact (hkeys.trans (.toRecovery ..)).mem
  split
  · exact (hkeys.trans (.toRecovery ..)).mem
  extract_lets c0 c1 v
  have hv : BootKept s v := hkeys.trans ((BootKept.recordSlots ..).trans (.recordSlots ..))
  split
  · exact (bootService_mem f lead _ _ ((congrArg (fun x : ShapeUnit => x.slot0) hv.shape).trans h0)
      ((congrArg (fun x : ShapeUnit => x.slot1) hv.shape).trans h1) ((congrArg Power.formed hv.pwr).trans hformed)).trans hv.mem
  · exact (hv.trans (.toRecovery ..)).mem

/-! ### How a package reset begins (R424, R425, R431) -/

/-- A package reset may begin. -/
def State.resetFree (s : State) : Prop :=
  s.pwr.tripped = false ∧ s.pwr.mainLost = false ∧ s.pwr.booting = false ∧ s.pwr.pkgReset = none

section
variable {s : State} {retained : Bool} {cause : Nat} (h : s.resetFree)
include h

theorem packageReset_free : s.packageReset retained cause =
    if (retained && s.fld secPage Fld.SEC_STATUS_DEBUG != 2) && cause == 2 && (List.range 64).any (fun p => s.ctxBusy p) then
      s.ctxs.foldl (fun s x => s.requestPreempt (x.1 / 16) (x.1 % 16))
        (({ s with pwr := { s.pwr with pkgDue := some cause } }).setFld crnPage Fld.CRN_PWR_STATUS_STATE 4)
    else s.beginReset (retained && s.fld secPage Fld.SEC_STATUS_DEBUG != 2) cause := by
  obtain ⟨ht, hm, hb, hp⟩ := h
  rw [State.packageReset, ht, hm, hb, hp]
  rfl

theorem packageReset_unretained (hret : retained = false) : s.packageReset retained cause = s.beginReset false cause := by
  rw [packageReset_free h, hret]
  rfl

end

section
variable {s : State} {who : Requester} {crown : Nat} {v : Word64} (hin : s.letsIn who (page 0 crown)) (hpkg : getBits v 0 0 = 1)
include hin hpkg

theorem crnReset_under (h : s.fld crnPage Fld.CRN_PWR_STATUS_STATE = 3 ∨ s.fld crnPage Fld.CRN_PWR_STATUS_STATE = 4) :
    s.crnReset who crown v = s.refuseF (page 0 crown) 0x0F03 Fld.CRN_RESET_PKG := by
  rw [State.crnReset, letIn_letsIn hin]
  dsimp only
  rw [hpkg, if_neg (by simp)]
  exact if_pos h

variable (hstate : s.fld crnPage Fld.CRN_PWR_STATUS_STATE < 3)
include hstate

theorem crnReset_both (hpart : getBits v 2 2 = 1) : s.crnReset who crown v = s.refuseF (page 0 crown) 0x0102 Fld.CRN_RESET_PKG := by
  rw [State.crnReset, letIn_letsIn hin]
  dsimp only
  rw [hpkg, hpart, if_neg (by decide), if_neg (by omega)]
  exact if_pos (by decide)

theorem crnReset_package (hpart : getBits v 2 2 = 0) : s.crnReset who crown v = s.packageReset (getBits v 1 1 == 1) 2 := by
  rw [State.crnReset, letIn_letsIn hin]
  dsimp only
  rw [hpkg, hpart, if_neg (by decide), if_neg (by omega), if_neg (by decide)]
  exact if_pos (by decide)

end

/-- Pre-emptions requested of every context touch contexts alone. -/
theorem preemptAll_ctxs (s : State) : ∃ m, (s.ctxs.foldl (fun s x => s.requestPreempt (x.1 / 16) (x.1 % 16)) s) = { s with ctxs := m } := by
  refine List.foldlRecOn (motive := fun u : State => ∃ m, u = { s with ctxs := m }) _ _ ⟨s.ctxs, rfl⟩ (fun u hu x _ => ?_)
  obtain ⟨m, rfl⟩ := hu
  unfold State.requestPreempt
  split
  · exact ⟨_, rfl⟩
  · exact ⟨m, rfl⟩

/-! ### What an unretained reset clears (Table 18.4) -/

theorem beginReset_unretained (s : State) (cause : Nat) : s.beginReset false cause =
    (((({ s.wiped (some false) with pwr := { (s.wiped (some false)).pwr with pkgReset := some false, formed := [] } }).setFld secPage
      Fld.SEC_STATUS_DEBUG (s.fld secPage Fld.SEC_STATUS_DEBUG)).setFld crnPage Fld.CRN_PWR_STATUS_STATE 4).setFld crnPage
      Fld.CRN_PWR_STATUS_LAST_CAUSE cause).setBit crnPage Fld.CRN_PWR_STATUS_LAST_RETAINED false := rfl

/-- The last reset as CRN_PWR_STATUS reports it. -/
theorem resetReported_fields (u : State) {cause : Nat} (h : cause < 8) :
    let t := ((u.setFld crnPage Fld.CRN_PWR_STATUS_STATE 4).setFld crnPage Fld.CRN_PWR_STATUS_LAST_CAUSE cause).setBit crnPage
      Fld.CRN_PWR_STATUS_LAST_RETAINED false
    t.fld crnPage Fld.CRN_PWR_STATUS_STATE = 4 ∧ t.fld crnPage Fld.CRN_PWR_STATUS_LAST_CAUSE = cause ∧
      t.fld crnPage Fld.CRN_PWR_STATUS_LAST_RETAINED = 0 := by
  refine ⟨?_, ?_, ?_⟩
  · exact (fld_setFld_apart _ _ _ (by decide)).trans ((fld_setFld_apart _ _ _ (by decide)).trans
      (fld_setFld_fits _ _ ⟨by decide, by decide, by decide⟩))
  · exact (fld_setFld_apart _ _ _ (by decide)).trans (fld_setFld_fits _ _ ⟨by decide, by decide, h⟩)
  · exact fld_setFld_fits _ _ ⟨by decide, by decide, by decide⟩

theorem packageResetDone_ends {s : State} (f : BootReport) (hlow : s.pins.resetLow = false) (hdue : s.pwr.pkgDue = none)
    (hreset : s.pwr.pkgReset = some false) : packageResetDone s f =
      ({ s.openDebug.boot f with pwr := { (s.openDebug.boot f).pwr with pkgReset := none } }).setFld crnPage Fld.CRN_PWR_STATUS_STATE 0 := by
  rw [packageResetDone, hdue, hlow, if_neg (by simp), if_neg (by decide)]
  dsimp only
  rw [hreset]
  rfl

/-- Settles O50: how a reset begins by its branches, what the boot keeps by `boot_mem`, what is cleared by `beginReset_unretained`. -/
theorem packageReset : Obligations.PackageReset := by
  unfold Obligations.PackageReset
  refine ⟨fun who crown v s => ?_, fun cause s hcause hmem => ?_⟩
  · intro st keeps free
    refine ⟨fun hin hpkg => ⟨fun h => done_eq (crnReset_under hin hpkg h), fun h hpart => done_eq (crnReset_both hin hpkg h hpart),
      fun h hpart hfree hk => ?_, fun h hpart hfree hk hidle => ?_, fun h hpart hfree hk hbusy => ?_⟩, fun h hin hfree hdue => ?_,
      fun hgood hfree hdue hret => ?_, fun hdue => ?_, fun f hlow hdue hreset => ?_, fun f hlow => ?_⟩
    · have hret : (getBits v 1 1 == 1 && s.fld secPage Fld.SEC_STATUS_DEBUG != 2) = false :=
        Bool.eq_false_iff.mpr (fun hr => hk (by simpa using hr))
      refine done_eq ((crnReset_package hin hpkg h hpart).trans ((packageReset_free hfree).trans ?_))
      rw [hret]
      rfl
    · have hret : (getBits v 1 1 == 1 && s.fld secPage Fld.SEC_STATUS_DEBUG != 2) = true := by simpa using hk
      have hany : (List.range 64).any (fun p => s.ctxBusy p) = false :=
        List.any_eq_false.mpr (fun p hp => Bool.eq_false_iff.mp (hidle p (List.mem_range.mp hp)))
      refine done_eq ((crnReset_package hin hpkg h hpart).trans ((packageReset_free hfree).trans ?_))
      rw [hret, hany]
      rfl
    · have hret : (getBits v 1 1 == 1 && s.fld secPage Fld.SEC_STATUS_DEBUG != 2) = true := by simpa using hk
      have hany : (List.range 64).any (fun p => s.ctxBusy p) = true := by
        obtain ⟨p, hp, hb⟩ := hbusy
        exact List.any_eq_true.mpr ⟨p, List.mem_range.mpr hp, hb⟩
      obtain ⟨m, hm⟩ := preemptAll_ctxs (({ s with pwr := { s.pwr with pkgDue := some 2 } }).setFld crnPage Fld.CRN_PWR_STATUS_STATE 4)
      have heq : s.crnReset who crown v = { ({ s with pwr := { s.pwr with pkgDue := some 2 } }).setFld crnPage
          Fld.CRN_PWR_STATUS_STATE 4 with ctxs := m } := by
        refine (crnReset_package hin hpkg h hpart).trans ((packageReset_free hfree).trans ?_)
        rw [hret, hany]
        exact hm
      exact ⟨_, done_eq heq, rfl, fld_setFld_fits ({ s with pwr := { s.pwr with pkgDue := some 2 } }) crnPage ⟨by decide, by decide, by decide⟩, rfl⟩
    · refine done_eq ?_
      rw [retainDiscard, letIn_letsIn hin, hdue]
      exact packageReset_unretained hfree rfl
    · refine done_eq ((if_neg (by simp [hgood])).trans ((if_neg (by simp [hdue])).trans ?_))
      exact packageReset_unretained hfree (beq_eq_false_iff_ne.mpr (fun h1 => absurd (hret.symm.trans h1) (by decide)))
    · exact done_eq (if_neg (by simp [hdue]))
    · refine ⟨_, done_eq (packageResetDone_ends f hlow hdue hreset), rfl, fld_setFld_fits _ _ ⟨by decide, by decide, by decide⟩,
        fun hdebug h0 h1 hformed => ?_⟩
      have hopen : s.openDebug = s := if_neg hdebug
      rw [hopen]
      exact boot_mem f h0 h1 hformed
    · exact done_eq (if_pos (by simp [hlow]))
  · intro t
    have hdrop := dropSvn_kept s
    obtain ⟨hstate, hlast, hret⟩ := resetReported_fields (({ s.wiped (some false) with
      pwr := { (s.wiped (some false)).pwr with pkgReset := some false, formed := [] } }).setFld secPage Fld.SEC_STATUS_DEBUG
        (s.fld secPage Fld.SEC_STATUS_DEBUG)) hcause
    exact ⟨(congrArg (fun x : State => Memory.drop x.mem 0 (2 ^ 51)) hdrop :).trans (drop_all hmem), rfl, rfl, rfl, rfl, rfl, rfl, rfl, rfl,
      rfl, rfl, (congrArg State.host hdrop :), (congrArg State.cal hdrop :), (congrArg State.trim hdrop :),
      (congrArg State.nvmKnownBad hdrop :), rfl, hstate, hlast, hret⟩

end Sys2Proof.Machine
end

section
/-! Deep nap is asked for by PART_PWR alone (R428): no frame that lands for a partition sets the DEEP_NAP bit of a partition's page. -/
namespace Sys2Proof.Machine

open Sys2Proof

/-- No DEEP_NAP bit (bit 0 at offset 0xC00 of a page, Table 18.8) is set from `s` to `t`. -/
structure NapClear (s t : State) : Prop where
  clear : ∀ k, pgOff k = 0xC00 → getBits (s.reg k) 0 0 = 0 → getBits (t.reg k) 0 0 = 0

namespace NapClear
variable {s t u : State}

/-! ### Updates of the state -/

theorem refl (s : State) : NapClear s s := ⟨fun _ _ h => h⟩

theorem trans (h : NapClear s t) (k : NapClear t u) : NapClear s u :=
  ⟨fun key hkey h0 => k.clear key hkey (h.clear key hkey h0)⟩

theorem ite {c : Prop} [Decidable c] (h : NapClear s t) (k : NapClear s u) : NapClear s (if c then t else u) := by
  split
  · exact h
  · exact k

theorem foldl {α : Type} (h : NapClear s t) (l : List α) (f : State → α → State) (hf : ∀ u a, NapClear u (f u a)) :
    NapClear s (l.foldl f t) :=
  List.foldlRecOn l f h (fun u hu a _ => hu.trans (hf u a))

theorem of_regs (h : t.regs = s.regs) : NapClear s t := ⟨fun k _ h0 => by rwa [State.reg, h]⟩

theorem of_memOnly (h : MemOnly s t) : NapClear s t := .of_regs (congrArg State.regs h :)

theorem of_endOnly {offs : List Nat} (hoff : 0xC00 ∉ offs) (h : EndOnly offs s t) : NapClear s t :=
  ⟨fun k hk h0 => by rwa [h.reg k (hk ▸ hoff)]⟩

theorem wrDev (s : State) (p : Option Nat) (a : Nat) (bs : List Byte) : NapClear s (s.wrDev p a bs).1 := .of_regs (wrDev_regs ..)

theorem setFld (s : State) (c i : Nat) {f : Fld} (hf : f.off < 4096 ∧ f.off ≠ 0xC00) (v : Nat) : NapClear s (s.setFld (page c i) f v) :=
  .of_endOnly (by simpa using hf.2.symm) (EndOnly.setFld (offs := [f.off]) s c i ⟨hf.1, by simp⟩ v)

theorem addFld (s : State) (c i : Nat) {f : Fld} (hf : f.off < 4096 ∧ f.off ≠ 0xC00) (v : Nat) : NapClear s (s.addFld (page c i) f v) :=
  .setFld s c i hf _

theorem raise (s : State) (c i b : Nat) : NapClear s (s.raise (page c i) b) :=
  .of_endOnly (offs := [0x30]) (by decide) (.raise s c i (by decide) b)

/-- A write above bit 0. -/
theorem setUpper (s : State) (pg : Nat) {f : Fld} (hf : f.hi < 64 ∧ 0 < f.lo) (v : Nat) : NapClear s (s.setFld pg f v) := by
  refine ⟨fun k _ h0 => ?_⟩
  by_cases hk : regKey pg f.off = k
  · rw [State.setFld, hk, State.reg_setReg_same, getBits_setBits_other _ hf.1 _ (.inr hf.2), h0]
  · rwa [State.setFld, State.reg_setReg_other _ _ (Ne.symm hk)]

theorem setNap (s : State) (pg : Nat) : NapClear s (s.setFld pg Fld.PART_PWR_DEEP_NAP 0) := by
  refine ⟨fun k _ h0 => ?_⟩
  by_cases hk : regKey pg Fld.PART_PWR_DEEP_NAP.off = k
  · rw [State.setFld, hk, State.reg_setReg_same]
    exact getBits_setBits_same _ (by decide) (by decide) 0
  · rwa [State.setFld, State.reg_setReg_other _ _ (Ne.symm hk)]

theorem observe (s : State) : NapClear s s.observe := .of_regs rfl

/-! ### Errors (R440 to R443) -/

theorem setFault (s : State) (c i : Nat) : NapClear s (s.setFault (page c i)) :=
  .ite (.refl s) ((NapClear.setFld s c i (f := Fld.BLK_STATUS_FAULT) (by decide) 1).trans (.raise ..))

theorem classAct (s : State) (e : ErrInfo) : NapClear s (s.classAct e) := by
  have hsrc (u : State) : NapClear u (u.setFault (srcPage e.source)) := .setFault ..
  have hhalt (u : State) (p : Nat) : NapClear u (u.haltPart p e.code) := (NapClear.setFault u 14 p).trans (.of_regs rfl)
  have hall (u : State) : NapClear u { u.stopAllRings e.code with errs := { (u.stopAllRings e.code).errs with down := true } } := .of_regs rfl
  unfold State.classAct
  split
  · split
    · exact (hsrc s).trans (hhalt ..)
    · exact hsrc s
  · exact .ite ((((hsrc s).trans (.setFault _ 0 0)).trans (.setFault _ 0 1)).trans (hall _)) (.refl s)

theorem recordError (s : State) (e : ErrInfo) : NapClear s (s.recordError e) := by
  have hcount (u : State) (c i : Nat) : NapClear u (u.countErr (page c i) e.cls) :=
    .of_endOnly (offs := endOffs) (by decide) (countErr_endOnly (fun _ h => h) ..)
  have hcounted : NapClear s (s.errCounted e) :=
    ((hcount s _ _).foldl _ _ (fun u p => .ite (.refl u) (hcount u 14 p))).trans (.classAct ..)
  have hwrite : NapClear s ((s.errCounted e).writeErr e 1 false) :=
    hcounted.trans (.of_endOnly (offs := endOffs) (by decide) (writeErr_endOnly (fun _ h => h) ..))
  have herrs (u : State) (x : ErrRing) : NapClear u { u with errs := x } := .of_regs rfl
  rw [State.recordError_eq]
  dsimp only
  exact .ite (.ite (hcounted.trans (herrs ..)) (hwrite.trans (herrs ..))) hwrite

theorem trimUnit (s : State) (kind i : Nat) : NapClear s (s.trimUnit kind i) := by
  have htrim (l : List (Nat × Nat)) : NapClear s { s with trim := l } := .of_regs rfl
  exact .ite (.refl s) ((htrim _).trans (.raise _ 0 0 23))

theorem endAll (s : State) (pick : InFlight → Bool) (code : Code) : NapClear s (s.endAll pick code) :=
  .of_endOnly (offs := endOffs) (by decide) (endAll_endOnly (fun _ h => h) ..)

theorem unitPage_eq (kind i : Nat) : ∃ c j, unitPage kind i = page c j := by
  unfold unitPage
  split
  · exact ⟨_, _, rfl⟩
  · split
    · exact ⟨_, _, rfl⟩
    · exact ⟨_, _, rfl⟩

theorem failUnit (s : State) (kind i : Nat) : NapClear s (s.failUnit kind i) := by
  unfold State.failUnit
  split
  · exact .refl s
  extract_lets pg hit also s1 s2 s3
  have h1 : NapClear s s1 := .endAll ..
  have h2 : NapClear s s2 := by
    obtain ⟨c, j, hpg⟩ := unitPage_eq kind i
    refine (h1.trans ?_).trans (.recordError ..)
    rw [show pg = page c j from hpg]
    exact .setFault ..
  have h3 : NapClear s s3 := h2.trans (.of_regs rfl)
  have hfailed : NapClear s3 { s3 with failed := (kind, i) :: s3.failed } := .of_regs rfl
  exact .ite (h3.trans (.trimUnit ..)) ((h3.trans hfailed).trans (.setFld _ 0 0 (f := Fld.CRN_SERVICE_FAILED_PENDING) (by decide) 1))

theorem sramError (s : State) (kind i : Nat) : NapClear s (s.sramError kind i) := by
  have herrs (l : List (Nat × Nat × Nat)) : NapClear s { s with errs := { s.errs with sramErrs := l } } := .of_regs rfl
  exact .ite ((herrs _).trans (.failUnit ..)) (herrs _)

/-! ### Uncorrectable data (R310 to R312, R317, R319) -/

theorem startRetrain (s : State) (c : Nat) : NapClear s (s.startRetrain c) := by
  have hbusy (u : State) (k v : Nat) : NapClear u (u.setFld (mcPage k) Fld.MC_STATUS_STATE v) := .setFld u 8 k (by decide) v
  have hrecal (u : State) (d : Nat) : NapClear u (u.windowRecal d) := by
    obtain h | ⟨k, i, -, -, -, h⟩ := windowRecal_cases u d
    · rw [h]
      exact .refl u
    · rw [h]
      exact (hbusy u k 2).trans (.of_regs rfl)
  have hnext (u : State) (w : Bool) (d : Nat) : NapClear u (u.nextRecal w d) := .ite (hrecal ..) (.refl u)
  have hchan (u : State) (f : Chan → Chan) : NapClear u (u.modChan c f) := .of_regs rfl
  unfold State.startRetrain
  split
  · exact .refl s
  · exact (((hbusy s c 1).trans (.raise _ 8 c 16)).trans (hchan ..)).trans (hnext ..)

theorem retireRow (s : State) (c l bytes : Nat) : NapClear s (s.retireRow c l bytes) := by
  have hframe (u : State) (t f : Nat) : NapClear u (u.retireFrame c t f l bytes) := by
    have hset (x : Frame) : NapClear u (u.setFrame t f x) := .of_regs rfl
    exact .ite (.refl u) (((hset _).trans (.raise _ 8 c 20)).trans (.recordError ..))
  have hchan (f : Chan → Chan) : NapClear s (s.modChan c f) := .of_regs rfl
  have hsave (u : State) : NapClear u (u.saveRemaps c) := .of_regs rfl
  exact ((hchan _).foldl _ _ (fun u x => hframe ..)).trans (hsave _)

theorem rowFails (s : State) (c l bytes : Nat) : NapClear s (s.rowFails c l bytes) := by
  have hchan (f : Chan → Chan) : NapClear s (s.modChan c f) := .of_regs rfl
  unfold State.rowFails
  split
  · exact .refl s
  extract_lets row x owner remapped
  have hremap (u : State) : NapClear u (remapped u) := .recordError ..
  split
  · split
    · exact (hchan _).trans (hremap _)
    · exact .retireRow ..
  · split
    · extract_lets y
      split
      · exact (hchan _).trans (hremap _)
      · exact (hchan _).trans (.retireRow ..)
    · exact .retireRow ..

theorem chanBad (s : State) (c addr bytes us : Nat) : NapClear s (s.chanBad c addr bytes us) := by
  have hevents (u : State) (n : Nat) : NapClear u (u.chanEvents c us n) := by
    have hchan (f : Chan → Chan) : NapClear u (u.modChan c f) := .of_regs rfl
    exact .ite ((hchan _).trans (.startRetrain ..)) (hchan _)
  unfold State.chanBad
  extract_lets s1 s2
  have h1 : NapClear s s1 := .addFld s 8 c (by decide) 1
  have h2 : NapClear s s2 := h1.trans ((NapClear.setFld _ 8 c (f := Fld.MC_LAST_ERR_CH_ADDR) (by decide) _).trans
    (.setFld _ 8 c (f := Fld.MC_LAST_ERR_BYTES) (by decide) _))
  exact ((h2.trans (.setFld _ 8 c (f := Fld.MC_LAST_ERR_WRITE) (by decide) _)).trans (hevents ..)).trans (.rowFails ..)

theorem badSource_page (s : State) (k : Nat) : ∃ c i, (s.badSource k).1 = page c i := by
  unfold State.badSource
  split
  · split
    · exact ⟨8, _, rfl⟩
    · exact ⟨0, 0, rfl⟩
  · split
    · exact ⟨6, _, rfl⟩
    · split
      · exact ⟨7, _, rfl⟩
      · split
        · exact ⟨7, _, rfl⟩
        · exact ⟨7, _, rfl⟩

theorem spEcc (s : State) (c i k : Nat) : NapClear s (s.spEcc (page c i) k) := by
  unfold State.spEcc
  split
  · exact .refl s
  extract_lets o am s1 s2
  have h1 : NapClear s s1 := .setFld s c i (by decide) _
  have h2 : NapClear s s2 := h1.trans (.setFld _ c i (by decide) _)
  exact (h2.trans (.setFld _ c i (f := Fld.CORE_SP_ECC_IN_AM) (by decide) _)).trans
    (.addFld _ c i (f := Fld.CORE_SP_ECC_COUNT) (by decide) 1)

theorem recordBad (s : State) (k n : Nat) (part : Option Nat) (cmd : Option InFlight) : NapClear s (s.recordBad k n part cmd) := by
  unfold State.recordBad
  split
  · exact .refl s
  next b hb =>
  obtain ⟨c, i, hpage⟩ := badSource_page s b
  generalize s.badSource b = source at hpage ⊢
  obtain ⟨pg, d0, d1⟩ := source
  obtain rfl : pg = page c i := hpage
  dsimp -zeta only
  extract_lets s1 d s2
  have h1 : NapClear s s1 := .ite (.spEcc ..) (.refl s)
  have h2 : NapClear s s2 := h1.trans (.recordError ..)
  exact .ite (h2.trans (.sramError ..)) (.ite (h2.trans (.chanBad ..)) h2)

/-! ### Sending frames (R383 to R387) -/

theorem pump (s : State) (c : BrimConn) (fuel : Nat) : NapClear s (s.pump c fuel) := by
  induction fuel generalizing s c with
  | zero => exact .of_regs rfl
  | succ fuel ih =>
    have hemit (b : Nat) (f : BrimFrame) : NapClear s (s.emitFrame b f) :=
      (NapClear.addFld s 12 b (f := Fld.BRM_TX_FRAMES) (by decide) 1).trans (.of_regs rfl)
    rw [State.pump]
    split
    · exact .of_regs rfl
    · exact .ite (.of_regs rfl) ((hemit ..).trans (ih ..))

theorem sendOn (s : State) (b : Nat) (f : BrimFrame) (owner : Option (Nat × Nat)) : NapClear s (s.sendOn b f owner) := .pump ..

theorem sendTo (s : State) (mask : Nat) (f : BrimFrame) (owner : Option (Nat × Nat)) : NapClear s (s.sendTo mask f owner) := by
  rw [State.sendTo]
  split
  · exact .sendOn ..
  · exact .refl s

/-! ### Members and lost nodes (R378 to R381, R394, R395) -/

theorem raiseMembers (s : State) (bit : Nat) : NapClear s (s.raiseMembers bit) :=
  (NapClear.refl s).foldl _ _ (fun u b => .ite (.raise u 12 b bit) (.refl u))

theorem setPort (s : State) (b st : Nat) : NapClear s (s.setPort b st) := by
  have hbrim (u : State) (g : Brim → Brim) : NapClear u (u.modBrim g) := .of_regs rfl
  unfold State.setPort
  extract_lets old s1 s2
  have h1 : NapClear s s1 := (NapClear.setFld s 12 b (f := Fld.BRM_STATUS_STATE) (by decide) st).trans (.raise _ 12 b 16)
  have h2 : NapClear s s2 := .ite (h1.trans (hbrim ..)) (.ite (h1.trans (hbrim ..)) h1)
  exact .ite (.refl s) (.ite (h2.trans (hbrim ..)) h2)

theorem announced (s : State) (code : Code) : NapClear s (s.announced code) := .setFld s 4 0 (f := Fld.EDIE_MEMB_CMD_LAST_RESULT) (by decide) code

theorem makePending (s : State) (k e bm : Nat) : NapClear s (s.makePending k e bm) := by
  have hbrim (g : Brim → Brim) : NapClear s (s.modBrim g) := .of_regs rfl
  have hadmit (u : State) : NapClear u u.admitPorts := (NapClear.refl u).foldl _ _ (fun u b => .ite (.setPort ..) (.refl u))
  exact (((hbrim _).trans (.setFld _ 4 0 (f := Fld.EDIE_MEMB_CMD_PENDING) (by decide) 1)).trans (.announced ..)).trans (hadmit _)

theorem takeAnnounce (s : State) (k e bm : Nat) : NapClear s (s.takeAnnounce k e bm) :=
  .ite (.refl s) (.ite (.makePending ..) (.ite ((NapClear.announced ..).trans (.raiseMembers ..)) (.announced ..)))

theorem loseOutputs (s : State) (c : InFlight) : NapClear s (s.loseOutputs c) := by
  have hdev (u : State) (p a n : Nat) : NapClear u (u.loseDev p a n) := by
    refine (NapClear.refl u).foldl _ _ (fun w i => ?_)
    split
    · exact .of_regs rfl
    · exact .refl w
  exact .ite (.refl s) (.ite ((hdev ..).trans (hdev ..)) (hdev ..))

theorem failWhere (s : State) (n : Nat) (job : Option Nat) : NapClear s (s.failWhere n job) := by
  have hlost : NapClear s _ := (NapClear.refl s).foldl (s.cmds.filter (fun c =>
      (match job with | some k => s.job c.part == k | none => true) && s.dependsOn n c))
    (fun s c => ((s.loseOutputs c).endCmd c.ring c.seq 0x0D04 0).modCmd c.ring c.seq (fun x => { x with unacked := 0 }))
    (fun u c => (NapClear.loseOutputs u c).trans (.of_regs rfl))
  exact hlost.trans (.of_regs rfl)

theorem loseNode (s : State) (n : Nat) : NapClear s (s.loseNode n) := by
  unfold State.loseNode
  split
  · exact .refl s
  extract_lets s1 off s2 s3 s4
  have hrecord (u : State) : NapClear u (u.recordLost n) := by
    unfold State.recordLost
    exact .recordError ..
  have h1 : NapClear s s1 := .of_regs rfl
  have h2 : NapClear s s2 := iteInduction (motive := NapClear s) (fun hn => h1.trans (.of_endOnly (offs := [pgOff off])
    (by simp only [off, e0Page, Reg.EDIE_LOST0, pgOff, page, List.mem_singleton]; omega) (.setReg _ (by simp) _))) (fun _ => h1)
  have h3 : NapClear s s3 := (h2.trans (.raiseMembers ..)).trans (hrecord _)
  have h4 : NapClear s s4 := h3.foldl _ _ (fun u m => .sendTo ..)
  exact h4.trans (.failWhere ..)

/-! ### Collectives and votes (R391 to R396) -/

theorem spoilColl (s : State) (k : Coll) : NapClear s (s.spoilColl k) := by
  unfold State.spoilColl
  split
  · exact .of_regs rfl
  · exact .of_regs rfl

theorem collTry (s : State) (k : Coll) : NapClear s (s.collTry k) := by
  unfold State.collTry
  split
  · exact .refl s
  split
  · exact .of_regs rfl
  next c hc =>
  extract_lets d n me whole out w nf v s1
  have hw : NapClear s w.1 := .wrDev ..
  have hv : NapClear s v.1 := by
    simp only [v]
    split
    · exact hw.trans (.wrDev ..)
    · exact hw
  have h1 : NapClear s s1 := hv.trans (.of_regs rfl)
  exact .ite (.refl s) (h1.trans (.of_regs rfl))

theorem takeColl (s : State) (f : BrimFrame) (digest : List Nat) (p : CollPart) : NapClear s (s.takeColl f digest p) := by
  have hmis (k : Coll) (nodes : List Nat) : NapClear s (s.collMismatch k nodes) :=
    (NapClear.spoilColl s k).foldl _ _ (fun u n => .sendTo ..)
  have hset (k : Coll) : NapClear s (s.setColl k) := .of_regs rfl
  exact .ite (.refl s) (.ite (hmis ..) ((hset _).trans (.collTry ..)))

theorem releaseBarrier (s : State) (c : InFlight) (a : Nat) : NapClear s (s.releaseBarrier c a) := by
  unfold State.releaseBarrier
  extract_lets n d s1 s2 s3 s4
  have h1 : NapClear s s1 := .of_regs rfl
  have h2 : NapClear s s2 := h1.trans ((NapClear.addFld _ 2 0 (f := Fld.STR_SLIP_COUNT_COUNT) (by decide) 1).trans
    (.addFld _ 2 0 (f := Fld.STR_SLIP_STROKES_COUNT) (by decide) _))
  have h3 : NapClear s s3 := h2.trans ((NapClear.setFld _ 2 0 (f := Fld.STR_LAST_SLIP_STROKES) (by decide) _).trans
    (.setFld _ 2 0 (f := Fld.STR_LAST_SLIP_CONTEXT) (by decide) _))
  have h4 : NapClear s s4 := .ite (.refl s) (h3.trans (.raise _ 2 0 17))
  exact h4.trans (.of_regs rfl)

theorem localResult (s : State) (key : List Nat) (r q code : Nat) (vals : List Nat) : NapClear s (s.localResult key r q code vals) := by
  have hlate (u : State) : NapClear u (u.lateAt true) := .of_endOnly (offs := endOffs) (by decide) (lateAt_endOnly (fun _ h => h) ..)
  have hpounce (u : State) (c : InFlight) : NapClear u (u.pounceEnd c vals) := (NapClear.wrDev ..).trans (.of_regs rfl)
  unfold State.localResult
  extract_lets s1
  have h1 : NapClear s s1 := .of_regs rfl
  split
  · exact h1
  · exact .ite h1 (.ite (h1.trans (.of_regs rfl)) (.ite ((h1.trans (.releaseBarrier ..)).trans (hlate _))
      (.ite (h1.trans (hpounce ..)) (h1.trans (.of_regs rfl)))))

theorem deliver (s : State) (g : Group) (code : Nat) (vals : List Nat) (t : Contribution) : NapClear s (s.deliver g code vals t) := by
  rw [State.deliver]
  split
  · exact .localResult ..
  · exact .sendTo ..

theorem tryClose (s : State) (g : Group) : NapClear s (s.tryClose g) := by
  have hset (h : Group) : NapClear s (s.setGroup h) := .of_regs rfl
  unfold State.tryClose
  extract_lets total vals s1
  have h1 : NapClear s s1 := hset _
  refine .ite (hset g) ?_
  split
  · exact h1.trans (.sendTo ..)
  · exact h1.foldl _ _ (fun u t => .deliver ..)

theorem groupAdd (s : State) (key params : List Nat) (t : Contribution) : NapClear s (s.groupAdd key params t) := by
  have hbrim (u : State) (g : Brim → Brim) : NapClear u (u.modBrim g) := .of_regs rfl
  unfold State.groupAdd
  extract_lets s1
  have h1 : NapClear s s1 := .of_regs rfl
  split
  · exact h1.trans (.tryClose ..)
  · exact .ite (h1.trans (.tryClose ..)) (.ite (h1.trans (.deliver ..))
      (.ite ((h1.trans (hbrim ..)).foldl _ _ (fun u x => .deliver ..)) (h1.trans (.tryClose ..))))

theorem takeVote (s : State) (src : Nat) (key params vals : List Nat) (count : Nat) (up : Bool) (code : Nat) :
    NapClear s (s.takeVote src key params vals count up code) := by
  have hbrim (g : Brim → Brim) : NapClear s (s.modBrim g) := .of_regs rfl
  unfold State.takeVote
  refine .ite (.groupAdd ..) (.ite ?_ ?_)
  · split
    · exact .refl s
    · exact (hbrim _).foldl _ _ (fun u t => .deliver ..)
  · split
    · exact .refl s
    · exact .localResult ..

/-! ### Applying a frame (R385 to R396, R428) -/

theorem applyRemote (s : State) (job a op v : Nat) : NapClear s (s.applyRemote job a op v).1 := by
  unfold State.applyRemote
  split
  · exact .refl s
  split
  · exact .refl s
  next p to_ _ =>
  split
  · next t ht =>
    rw [State.applySignal] at ht
    split at ht
    · cases ht
    · exact Option.some.inj ht ▸ (NapClear.of_memOnly (MemOnly.wr64 ..)).trans (.observe _)
  · exact .recordBad ..

theorem applyPut (s : State) (job a : Nat) (data : List Byte) : NapClear s (s.applyPut job a data).1 := by
  unfold State.applyPut
  split
  · exact .refl s
  · exact (NapClear.wrDev ..).trans (.observe _)

theorem applyFrame (s : State) (b : Nat) (f : BrimFrame) : NapClear s (s.applyFrame b f) := by
  have hnak (w : State × Code) (h : NapClear s w.1) : NapClear s (if w.2 = 0 then w.1 else w.1.sendNak b f w.2) :=
    .ite h (h.trans (.sendOn ..))
  unfold State.applyFrame
  split
  · exact hnak _ (.applyPut ..)
  · exact .takeColl ..
  · exact hnak _ (.applyRemote ..)
  · exact .takeVote ..
  · exact .takeAnnounce ..
  · exact .ite (.failWhere ..) (.loseNode ..)
  · exact .ite (.spoilColl ..) (.refl s)
  · exact .refl s

theorem autoWake (s : State) (p : Nat) : NapClear s (s.autoWake p) := by
  have hsleep (u : State) : NapClear u ((u.setFld (partPage p) Fld.PART_PWR_STATE 3).setFld (partPage p) Fld.PART_PWR_DEEP_NAP 0) :=
    (NapClear.setUpper u _ (f := Fld.PART_PWR_STATE) (by decide) 3).trans (.setNap ..)
  exact .ite (.ite (hsleep s) (.ite (.of_regs rfl) (.refl s))) (.refl s)

theorem takeFrame (s : State) (b : Nat) (f : BrimFrame) : NapClear s (s.takeFrame b f State.applyFrame) := by
  have hbrim (u : State) (g : Brim → Brim) : NapClear u (u.modBrim g) := .of_regs rfl
  have howed (u : State) (c : BrimConn) : NapClear u (u.setConn c) := .of_regs rfl
  have hdrop : NapClear s (s.dropFrame b) := .addFld s 12 b (f := Fld.BRM_DROPPED_FRAMES) (by decide) 1
  unfold State.takeFrame
  extract_lets owed
  refine .ite (hbrim ..) (.ite (hdrop.trans (howed ..)) ?_)
  split
  · exact (NapClear.autoWake ..).trans (hbrim ..)
  · exact (howed ..).trans (.applyFrame ..)

/-- Frames held for an epoch or a waking partition land. -/
theorem releaseHeld (s : State) : NapClear s s.releaseHeld := by
  have hbrim (g : Brim → Brim) : NapClear s (s.modBrim g) := .of_regs rfl
  exact (hbrim _).foldl _ _ (fun u h => .takeFrame ..)

end NapClear

end Sys2Proof.Machine
end

section
/-! Deep nap, cluster Nap and Block-hold (R426 to R430), O48. -/
namespace Sys2Proof.Machine

open Sys2Proof

/-! ### Deep nap (R428) -/

section
variable {s : State} {who : Requester} {p : Nat} {v : Word64}

/-- The RW fields of a write of PART_PWR. -/
def State.partPwrSet (s : State) (p : Nat) (v : Word64) : State :=
  ((s.setFld (partPage p) Fld.PART_PWR_DEEP_NAP (getBits v 0 0)).setFld (partPage p) Fld.PART_PWR_RETAIN_SRAM (getBits v 1 1)).setFld
    (partPage p) Fld.PART_PWR_AUTO_WAKE (getBits v 2 2)

section
variable (hin : s.letsIn who (partPage p))
include hin

theorem partPwr_notIdle (hst : s.fld (partPage p) Fld.PART_PWR_STATE = 0) (hnap : getBits v 0 0 = 1)
    (h : s.shape.live.defined p = false ∨ s.idle p = false) :
    s.partPwr who p v = s.refuseF (partPage p) 0x0F01 Fld.PART_PWR_DEEP_NAP := by
  rw [State.partPwr, letIn_letsIn hin]
  dsimp only
  rw [if_neg (fun hc => hc.1 hst)]
  exact if_pos ⟨hnap, hst, by simpa using h⟩

theorem partPwr_enters (hst : s.fld (partPage p) Fld.PART_PWR_STATE = 0) (hnap : getBits v 0 0 = 1) (hdef : s.shape.live.defined p = true)
    (hidle : s.idle p = true) : s.partPwr who p v = (s.partPwrSet p v).setFld (partPage p) Fld.PART_PWR_STATE 1 := by
  rw [State.partPwr, letIn_letsIn hin]
  dsimp only
  rw [if_neg (fun hc => hc.1 hst), if_neg (by simp [hdef, hidle]), if_pos hnap]
  exact if_pos hst

theorem partPwr_retainChanged (hst : s.fld (partPage p) Fld.PART_PWR_STATE ≠ 0)
    (hret : getBits v 1 1 ≠ s.fld (partPage p) Fld.PART_PWR_RETAIN_SRAM) :
    s.partPwr who p v = s.refuseF (partPage p) 0x0F04 Fld.PART_PWR_RETAIN_SRAM := by
  rw [State.partPwr, letIn_letsIn hin]
  exact if_pos ⟨hst, hret⟩

theorem partPwr_wakes (hst : s.fld (partPage p) Fld.PART_PWR_STATE = 2) (hnap : getBits v 0 0 = 0)
    (hret : getBits v 1 1 = s.fld (partPage p) Fld.PART_PWR_RETAIN_SRAM) :
    s.partPwr who p v = (s.partPwrSet p v).setFld (partPage p) Fld.PART_PWR_STATE 3 := by
  rw [State.partPwr, letIn_letsIn hin]
  dsimp only
  rw [if_neg (fun hc => hc.2 hret), if_neg (by simp [hnap]), if_neg (by simp [hnap])]
  exact if_pos hst

end

/-- What the entry into Deep nap clears (Table 18.4, columns DN and DR). -/
def State.napUnits (s : State) (p : Nat) : State :=
  (if s.fld (partPage p) Fld.PART_PWR_RETAIN_SRAM = 1 then s else s.loseUnits p).clearSticky p

theorem napUnits_kept (s : State) (p : Nat) :
    (s.napUnits p).parts = s.parts ∧ (s.napUnits p).shape = s.shape ∧ (s.napUnits p).rings = s.rings := by
  have himg : ∀ o ∈ imageRegs, o ∈ imageRegs := fun _ h => h
  have hend : EndOnly imageRegs s (s.napUnits p) :=
    (EndOnly.ite (.refl s) (loseUnits_endOnly s p)).trans (clearSticky_endOnly himg _ p)
  have hunits : UnitsKept imageRegs s (s.napUnits p) := (UnitsKept.ite (.refl s) (.loseUnits s p)).trans (.clearSticky himg _ p)
  exact ⟨(congrArg State.parts hend.eq :), (congrArg State.shape hend.eq :), hunits.rings⟩

theorem deepNapEntryDone_eq (hst : s.fld (partPage p) Fld.PART_PWR_STATE = 1) : deepNapEntryDone s p =
    if (s.part p).wakeDue then
      ((((s.napUnits p).setFld (partPage p) Fld.PART_PWR_STATE 2).modPart p (fun x => { x with wakeDue := false })).setFld (partPage p)
        Fld.PART_PWR_STATE 3).setFld (partPage p) Fld.PART_PWR_DEEP_NAP 0
    else (s.napUnits p).setFld (partPage p) Fld.PART_PWR_STATE 2 := by
  have hpart : ((s.napUnits p).setFld (partPage p) Fld.PART_PWR_STATE 2).part p = s.part p :=
    congrArg (fun m : SMap Part => SMap.getD m p {}) (napUnits_kept s p).1
  rw [← hpart]
  exact if_neg (fun h => h hst)

theorem deepNapEntryDone_sleeps (hst : s.fld (partPage p) Fld.PART_PWR_STATE = 1) (hwake : (s.part p).wakeDue = false) :
    deepNapEntryDone s p = (s.napUnits p).setFld (partPage p) Fld.PART_PWR_STATE 2 := by
  rw [deepNapEntryDone_eq hst, if_neg (by simp [hwake])]

theorem wokenAtOnce_fields (u : State) (p : Nat) :
    let t := ((u.modPart p (fun x => { x with wakeDue := false })).setFld (partPage p) Fld.PART_PWR_STATE 3).setFld (partPage p)
      Fld.PART_PWR_DEEP_NAP 0
    t.fld (partPage p) Fld.PART_PWR_STATE = 3 ∧ t.fld (partPage p) Fld.PART_PWR_DEEP_NAP = 0 ∧ (t.part p).wakeDue = false := by
  refine ⟨?_, fld_setFld_fits _ _ ⟨by decide, by decide, by decide⟩, congrArg Part.wakeDue (SMap.getD_put_same ..)⟩
  rw [fld_setFld_apart (f := Fld.PART_PWR_DEEP_NAP) (f' := Fld.PART_PWR_STATE) _ 0 _ ⟨rfl, by decide, .inl (by decide)⟩]
  exact fld_setFld_fits _ _ ⟨by decide, by decide, by decide⟩

/-- A wake met during the entry follows it at once. -/
theorem deepNapEntryDone_wakes (hst : s.fld (partPage p) Fld.PART_PWR_STATE = 1) (hwake : (s.part p).wakeDue = true) :
    Runs (.deepNapEntryDone p) s (fun t => t.fld (partPage p) Fld.PART_PWR_STATE = 3 ∧ t.fld (partPage p) Fld.PART_PWR_DEEP_NAP = 0 ∧
      (t.part p).wakeDue = false ∧ t.rings = s.rings ∧ t.shape = s.shape) := by
  have hrun := deepNapEntryDone_eq hst
  rw [if_pos hwake] at hrun
  obtain ⟨-, hshape, hrings⟩ := napUnits_kept s p
  generalize s.napUnits p = u at hrun hshape hrings
  obtain ⟨hst', hnap, hdue⟩ := wokenAtOnce_fields (u.setFld (partPage p) Fld.PART_PWR_STATE 2) p
  exact ⟨_, done_eq hrun, hst', hnap, hdue, hrings, hshape⟩

/-- No frame that lands at the wake asks for Deep nap again. -/
theorem deepNapWakeDone_awake (hst : s.fld (partPage p) Fld.PART_PWR_STATE = 3) (hnap : s.fld (partPage p) Fld.PART_PWR_DEEP_NAP = 0) :
    deepNapWakeDone s p = (s.setFld (partPage p) Fld.PART_PWR_STATE 0).releaseHeld := by
  have hclear : NapClear s (s.setFld (partPage p) Fld.PART_PWR_STATE 0).releaseHeld :=
    (NapClear.setUpper s _ (f := Fld.PART_PWR_STATE) (by decide) 0).trans (.releaseHeld _)
  have hkept : (s.setFld (partPage p) Fld.PART_PWR_STATE 0).releaseHeld.fld (partPage p) Fld.PART_PWR_DEEP_NAP = 0 :=
    hclear.clear _ (pgOff_regKey_page 14 p (by decide)) hnap
  rw [deepNapWakeDone]
  dsimp only
  rw [if_neg (fun h => h hst)]
  exact if_neg (fun h => by rw [hkept] at h; cases h)

end

/-! ### Cluster Nap (R427) -/

theorem clusterNap_naps {s : State} {k : Nat} (hk : k < 128) (hrun : s.running = true) (htrim : s.trimmed 6 k = false)
    (hdelay : s.sh crnPage Fld.CRN_PWR_CFG_NAP_DELAY ≠ 0) (hawake : k ∉ s.pwr.napping) (hst : s.fld crnPage Fld.CRN_PWR_STATUS_STATE = 0)
    (hquiet : ∀ c ∈ s.cmds, c.ccp = k → c.phase = .started → c.saved = true)
    (hstill : ∀ j < 8, s.fld (page 7 (8 * k + j)) Fld.CORE_TC_STATUS_STATE ≠ 1) :
    clusterNap s k = { s with pwr := { s.pwr with napping := k :: s.pwr.napping } } := by
  have hnone : s.cmds.any (fun c => c.ccp == k && s.keepsAwake c) = false := by
    refine List.any_eq_false.mpr (fun c hc => ?_)
    rw [Bool.and_eq_true, beq_iff_eq]
    rintro ⟨hccp, hkeeps⟩
    simp only [State.keepsAwake, InFlight.issued, Bool.and_eq_true, beq_iff_eq, Bool.not_eq_true'] at hkeeps
    obtain ⟨⟨hphase, hsaved⟩, -⟩ := hkeeps
    rw [hquiet c hc hccp hphase] at hsaved
    cases hsaved
  have hall : (List.range 8).all (fun j => s.fld (page 7 (8 * k + j)) Fld.CORE_TC_STATUS_STATE != 1) = true :=
    List.all_eq_true.mpr (fun j hj => bne_iff_ne.mpr (hstill j (List.mem_range.mp hj)))
  rw [clusterNap]
  dsimp only
  rw [hnone, hall]
  exact if_neg (by simp [hrun, htrim, hdelay, hawake, hst, hk])

/-! ### D3hot and D0 (R430) -/

section
variable {s : State} {h : Nat}

/-- A PF enters D3hot. -/
def State.intoD3 (s : State) (h : Nat) : State := { s with pwr := { s.pwr with d3 := h :: s.pwr.d3 } }

/-- A PF returns to D0. -/
def State.outOfD3 (s : State) (h : Nat) : State := { s with pwr := { s.pwr with d3 := s.pwr.d3.filter (fun x => x != h) } }

theorem pfD3hot_eq (hlink : s.linked h = true) (hd0 : h ∉ s.pwr.d3) :
    pfD3hot s h = if (s.intoD3 h).allD3 then (s.intoD3 h).enterHold true else s.intoD3 h :=
  if_neg (by simp [hlink, hd0])

theorem pfD3hot_last (hlink : s.linked h = true) (hd0 : h ∉ s.pwr.d3) (hall : (s.intoD3 h).allD3 = true) :
    pfD3hot s h = (s.intoD3 h).enterHold true := by
  rw [pfD3hot_eq hlink hd0, if_pos hall]

theorem pfD3hot_alone (hlink : s.linked h = true) (hd0 : h ∉ s.pwr.d3) (hall : (s.intoD3 h).allD3 = false) :
    pfD3hot s h = s.intoD3 h := by
  rw [pfD3hot_eq hlink hd0, if_neg (by simp [hall])]

theorem pfD0_exits (hd3 : h ∈ s.pwr.d3) (hhold : s.pwr.holdByD3 = true) (hst : s.fld crnPage Fld.CRN_PWR_STATUS_STATE = 2) :
    pfD0 s h = (s.outOfD3 h).setFld crnPage Fld.CRN_PWR_STATUS_STATE 3 := by
  have hst' : (s.outOfD3 h).fld crnPage Fld.CRN_PWR_STATUS_STATE = 2 := hst
  rw [pfD0, if_neg (by simp [hd3])]
  refine (if_neg ?_).trans ((if_neg ?_).trans (if_pos hst'))
  · simp [hhold]
  · exact fun hc => absurd (hst'.symm.trans hc) (by decide)

theorem pfD0_awake (hd3 : h ∈ s.pwr.d3) (hhold : s.pwr.holdByD3 = false) : pfD0 s h = s.outOfD3 h := by
  rw [pfD0, if_neg (by simp [hd3])]
  exact if_pos (by simp [hhold])

end

/-! ### Block-hold (R369, R429) -/

/-- A step that leaves the states of the stacks and of the package, memory, rings, frames, the Shape and the power controller. -/
structure HoldKept (s t : State) : Prop where
  stk : ∀ k < 32, t.fld (stkPage k) Fld.STK_STATUS_STATE = s.fld (stkPage k) Fld.STK_STATUS_STATE
  crn : t.fld crnPage Fld.CRN_PWR_STATUS_STATE = s.fld crnPage Fld.CRN_PWR_STATUS_STATE
  rd : t.rd = s.rd
  mem : t.mem = s.mem
  rings : t.rings = s.rings
  frames : t.frames = s.frames
  shape : t.shape = s.shape
  pwr : t.pwr = s.pwr

namespace HoldKept
variable {s t u : State}

theorem refl (s : State) : HoldKept s s := ⟨fun _ _ => rfl, rfl, rfl, rfl, rfl, rfl, rfl, rfl⟩

theorem trans (h : HoldKept s t) (k : HoldKept t u) : HoldKept s u :=
  ⟨fun i hi => (k.stk i hi).trans (h.stk i hi), k.crn.trans h.crn, k.rd.trans h.rd, k.mem.trans h.mem, k.rings.trans h.rings,
    k.frames.trans h.frames, k.shape.trans h.shape, k.pwr.trans h.pwr⟩

theorem ite {c : Prop} [Decidable c] (h : HoldKept s t) (k : HoldKept s u) : HoldKept s (if c then t else u) := by
  split
  · exact h
  · exact k

theorem foldl {α : Type} (h : HoldKept s t) (l : List α) (f : State → α → State) (hf : ∀ u, ∀ a ∈ l, HoldKept u (f u a)) :
    HoldKept s (l.foldl f t) :=
  List.foldlRecOn l f h (fun u hu a ha => hu.trans (hf u a ha))

/-- A field of a page of another class than those of the stacks and the Crowns. -/
theorem setFld (s : State) {c i : Nat} (hc : 0 < c ∧ c < 16 ∧ c ≠ 9) (hi : i < 4096) {f : Fld} (hf : f.off < 4096) (v : Nat) :
    HoldKept s (s.setFld (page c i) f v) := by
  have hkey : regKey (page c i) f.off = page c i + f.off := regKey_page ⟨hc.1, hc.2.1⟩ hi f.off
  refine ⟨fun k hk => fld_setFld_other s v (.inl ?_), fld_setFld_other s v (.inl ?_), rfl, rfl, rfl, rfl, rfl, rfl⟩
  · rw [hkey, stkPage, regKey_page ⟨by decide, by decide⟩ (by omega)]
    simp only [page]
    have hoff : Fld.STK_STATUS_STATE.off = 0x108 := rfl
    omega
  · rw [hkey, show regKey crnPage Fld.CRN_PWR_STATUS_STATE.off = 0x110 from rfl]
    simp only [page]
    omega

theorem of_regsOutOnly (h : RegsOutOnly s t)
    (hstk : ∀ k < 32, t.fld (stkPage k) Fld.STK_STATUS_STATE = s.fld (stkPage k) Fld.STK_STATUS_STATE)
    (hcrn : t.fld crnPage Fld.CRN_PWR_STATUS_STATE = s.fld crnPage Fld.CRN_PWR_STATUS_STATE) : HoldKept s t :=
  ⟨hstk, hcrn, (congrArg State.rd h :), (congrArg State.mem h :), (congrArg State.rings h :), (congrArg State.frames h :),
    (congrArg State.shape h :), (congrArg State.pwr h :)⟩

/-- Interrupt bits stand in the headers. -/
theorem raise (s : State) (c i b : Nat) : HoldKept s (s.raise (page c i) b) := by
  have hkey (d j : Nat) (f : Fld) (hf : f.off < 4096 ∧ f.off ≠ 0x30) : regKey (page d j) f.off ≠ page c i + 0x30 := by
    intro e
    have hoff := congrArg pgOff e
    rw [pgOff_regKey_page d j hf.1, pgOff_page c i (by decide)] at hoff
    exact hf.2 hoff
  exact .of_regsOutOnly (s.raise_regsOutOnly ..) (fun k _ => raise_fld _ _ _ _ _ (hkey 9 k _ (by decide)))
    (raise_fld _ _ _ _ _ (hkey 0 0 _ (by decide)))

theorem setPort (s : State) {b : Nat} (hb : b < 64) (st : Nat) : HoldKept s (s.setPort b st) := by
  have hbrim (u : State) (g : Brim → Brim) : HoldKept u (u.modBrim g) := ⟨fun _ _ => rfl, rfl, rfl, rfl, rfl, rfl, rfl, rfl⟩
  unfold State.setPort
  extract_lets old s1 s2
  have h1 : HoldKept s s1 := (HoldKept.setFld s (c := 12) (by decide) (by omega) (f := Fld.BRM_STATUS_STATE) (by decide) st).trans
    (.raise _ 12 b 16)
  have h2 : HoldKept s s2 := .ite (h1.trans (hbrim ..)) (.ite (h1.trans (hbrim ..)) h1)
  exact .ite (.refl s) (.ite (h2.trans (hbrim ..)) h2)

theorem startPorts (s : State) : HoldKept s s.startPorts :=
  (HoldKept.refl s).foldl _ _ (fun u _ hb => .ite (.setPort u (List.mem_range.mp hb) 1) (.refl u))

theorem recalibrated (s : State) {c : Nat} (hc : c < 1024) : HoldKept s (s.recalibrated c) := by
  have hset (u : State) (f : Fld) (hf : f.off < 4096) (v : Nat) : HoldKept u (u.setFld (mcPage c) f v) :=
    .setFld u (c := 8) (by decide) (by omega) hf v
  have hchan (u : State) (f : Chan → Chan) : HoldKept u (u.modChan c f) := ⟨fun _ _ => rfl, rfl, rfl, rfl, rfl, rfl, rfl, rfl⟩
  unfold State.recalibrated
  exact ((hset s Fld.MC_STATUS_RECAL_DUE (by decide) 0).trans (hset _ Fld.MC_RECAL_LAST_STROKE (by decide) _)).trans (hchan ..)

end HoldKept

/-! ### Stacks into and out of self-refresh -/

theorem moveStacks_regsOutOnly (s : State) (a b : Nat) : RegsOutOnly s (s.moveStacks a b) :=
  List.foldlRecOn (motive := RegsOutOnly s) _ _ rfl (fun u hu _ _ => hu.trans (iteInduction (motive := RegsOutOnly u)
    (fun _ => setFld_regsOutOnly ..) (fun _ => rfl)))

/-- A stack whose page is not of those of a list keeps its state. -/
theorem foldl_moveStack_other (a b : Nat) {k : Nat} (l : List Nat) (hk : k ∉ l) (hl : ∀ j ∈ l, j < 32) (h32 : k < 32) (s : State) :
    (l.foldl (fun s j => if s.fld (stkPage j) Fld.STK_STATUS_STATE = a then s.setFld (stkPage j) Fld.STK_STATUS_STATE b else s) s).fld
      (stkPage k) Fld.STK_STATUS_STATE = s.fld (stkPage k) Fld.STK_STATUS_STATE := by
  refine List.foldlRecOn (motive := fun u : State => u.fld (stkPage k) Fld.STK_STATUS_STATE = s.fld (stkPage k) Fld.STK_STATUS_STATE)
    l _ rfl (fun u hu j hj => ?_)
  split
  · have hne : stkPage j ≠ stkPage k := by
      have hjk : j ≠ k := fun e => hk (e ▸ hj)
      simp only [stkPage, page]
      omega
    exact ((PageKept.setFld (unitPage_stk h32) (unitPage_stk (hl j hj)) hne u (f := Fld.STK_STATUS_STATE) (by decide) b).fld
      (unitPage_stk h32) Fld.STK_STATUS_STATE (by decide)).trans hu
  · exact hu

/-- Every stack in the one state is in the other. -/
theorem moveStacks_moved (s : State) {a b : Nat} (hb : b < 4) {k : Nat} (hk : k < 32) (h : s.fld (stkPage k) Fld.STK_STATUS_STATE = a) :
    (s.moveStacks a b).fld (stkPage k) Fld.STK_STATUS_STATE = b := by
  obtain ⟨l, r, hlr⟩ := List.append_of_mem (List.mem_range.mpr hk)
  have hnodup : (l ++ k :: r).Nodup := hlr ▸ List.nodup_range
  have hmem (j : Nat) (hj : j ∈ l ++ k :: r) : j < 32 := List.mem_range.mp (hlr ▸ hj)
  have hl : k ∉ l := fun hkl => (List.nodup_append.mp hnodup).2.2 k hkl k (by simp) rfl
  have hr : k ∉ r := (List.nodup_cons.mp (List.nodup_append.mp hnodup).2.1).1
  rw [State.moveStacks, hlr, List.foldl_append, List.foldl_cons]
  rw [foldl_moveStack_other a b r hr (fun j hj => hmem j (by simp [hj])) hk,
    if_pos ((foldl_moveStack_other a b l hl (fun j hj => hmem j (by simp [hj])) hk s).trans h)]
  exact fld_setFld_fits _ _ ⟨by decide, by decide, hb⟩

/-! ### What Block-hold clears (Table 18.4 column BH) -/

theorem getBits_mergeBits_kept (v r m : Word64) {hi lo : Nat} (h : ∀ i < hi + 1, lo ≤ i → m.getLsbD i = false) :
    getBits (mergeBits v r m) hi lo = getBits v hi lo := by
  apply Nat.eq_of_testBit_eq
  intro i
  rw [getBits_testBit, getBits_testBit]
  by_cases hw : i < hi + 1 - lo
  · have hm := h (lo + i) (by omega) (by omega)
    by_cases h64 : lo + i < 64
    · rw [BitVec.getLsbD_eq_getElem h64] at hm
      simp [mergeBits, hm, h64]
    · simp [BitVec.getLsbD_of_ge _ _ (Nat.le_of_not_lt h64)]
  · simp [hw]

/-- The resets of pages keep the fields that are not RW. -/
theorem getBits_resetPageWord {k hi lo : Nat} (h100 : 0x100 ≤ pgOff k) (hsel : selectsFirst k = false)
    (hmask : ∀ i < hi + 1, lo ≤ i → (rwMask k).getLsbD i = false) (v : Word64) :
    ∃ w, resetPageWord k v = some w ∧ getBits w hi lo = getBits v hi lo := by
  refine ⟨mergeBits v (resetWord k) (rwMask k), ?_, getBits_mergeBits_kept _ _ _ hmask⟩
  rw [resetPageWord, if_neg (by simp [hsel]; omega), if_neg (by omega)]
  exact if_neg (by omega)

theorem getBits_resetPages (s : State) (pick : Nat → Bool) {k hi lo : Nat}
    (hword : ∀ v, ∃ w, resetPageWord k v = some w ∧ getBits w hi lo = getBits v hi lo) :
    getBits ((s.resetPages pick).reg k) hi lo = getBits (s.reg k) hi lo := by
  rw [State.reg, State.reg, State.resetPages]
  dsimp only
  induction s.regs with
  | nil => rfl
  | cons x m ih =>
    obtain ⟨j, v⟩ := x
    rw [List.filterMap_cons, SMap.get?]
    by_cases hj : j = k
    · subst hj
      obtain ⟨w, hw, hbits⟩ := hword v
      by_cases hp : pick (pgBase j) = true
      · simp [hp, hw, SMap.get?, hbits]
      · simp [hp, SMap.get?]
    · rw [if_neg hj, ← ih]
      by_cases hp : pick (pgBase j) = true
      · cases hw : resetPageWord j v with
        | none => simp [hp]
        | some w => simp [hp, SMap.get?, hj]
      · simp [hp, SMap.get?, hj]

theorem HoldKept.resetPages (s : State) (pick : Nat → Bool) : HoldKept s (s.resetPages pick) := by
  refine ⟨fun k hk => ?_, ?_, rfl, rfl, rfl, rfl, rfl, rfl⟩
  · have hkey : regKey (stkPage k) Fld.STK_STATUS_STATE.off = page 9 k + 0x108 := regKey_page ⟨by decide, by decide⟩ (by omega) _
    have hclass : pgClass (page 9 k + 0x108) = 9 := by
      simp only [pgClass, page]
      omega
    have hoff : pgOff (page 9 k + 0x108) = 0x108 := pgOff_page 9 k (by decide)
    rw [State.fld, State.fld, hkey]
    refine getBits_resetPages s pick (getBits_resetPageWord (by rw [hoff]; decide) (by rw [selectsFirst, hclass]; rfl) ?_)
    rw [rwMask, hclass, hoff]
    decide
  · exact getBits_resetPages s pick (getBits_resetPageWord (k := 0x110) (by decide) (by decide) (by decide))

/-- Registers of other classes than the stacks' and the Crowns' return to their reset values. -/
theorem HoldKept.dropRegs (s : State) {pick : Nat → Bool} (hpick : ∀ k, pick k = true → pgClass k ≠ 9 ∧ pgClass k ≠ 0) :
    HoldKept s { s with regs := s.regs.filter (fun x => !pick x.1) } := by
  have hreg (k : Nat) (hk : pgClass k = 9 ∨ pgClass k = 0) :
      State.reg { s with regs := s.regs.filter (fun x => !pick x.1) } k = s.reg k := by
    have hno : ¬ pick k = true := fun h => (hpick k h).elim (fun h9 h0 => hk.elim h9 h0)
    have hget := SMap.get?_dropKeys s.regs pick k
    rw [if_neg hno] at hget
    exact congrArg (fun x : Option Word64 => x.getD (resetWord k)) hget
  refine ⟨fun k hk => ?_, ?_, rfl, rfl, rfl, rfl, rfl, rfl⟩
  · have hkey : regKey (stkPage k) Fld.STK_STATUS_STATE.off = page 9 k + 0x108 := regKey_page ⟨by decide, by decide⟩ (by omega) _
    rw [State.fld, State.fld, hkey, hreg _ (.inl (by simp only [pgClass, page]; omega))]
  · rw [State.fld, State.fld, hreg _ (.inr (by decide))]

/-- Block-hold keeps everything but the memories of the clusters and registers. -/
theorem holdState_kept (s : State) : HoldKept (s.lose cmBase (2 ^ 51 - cmBase)) s.holdState := by
  unfold State.holdState
  extract_lets s1 s2 s3 s4 s5 s6 s7 s8
  have h2 : HoldKept s1 s2 := (HoldKept.dropRegs s1 (pick := fun k => pgClass k == 7 && imageRegs.contains (pgOff k)) (fun k hk => by
    simp only [Bool.and_eq_true, beq_iff_eq] at hk
    omega)).trans ⟨fun _ _ => rfl, rfl, rfl, rfl, rfl, rfl, rfl, rfl⟩
  have h3 : HoldKept s1 s3 := h2.trans (.resetPages ..)
  have h4 : HoldKept s1 s4 := h3.trans ⟨fun _ _ => rfl, rfl, rfl, rfl, rfl, rfl, rfl, rfl⟩
  have hlock : HoldKept s4 (s4.setLock 0) :=
    .ite (.refl s4) ((HoldKept.setFld s4 (c := 2) (by decide) (by decide) (f := Fld.STR_STATUS_LOCK) (by decide) 0).trans (.raise _ 2 0 16))
  have h5 : HoldKept s1 s5 := .ite h4 (h4.trans hlock)
  have h6 : HoldKept s1 s6 := (h5.trans (.dropRegs s5
    (pick := fun k => pgClass k == 4 && decide (0x180 ≤ pgOff k) && decide (pgOff k ≤ 0x1B8)) (fun k hk => by
      simp only [Bool.and_eq_true, beq_iff_eq] at hk
      omega))).trans ⟨fun _ _ => rfl, rfl, rfl, rfl, rfl, rfl, rfl, rfl⟩
  have he0 (u : State) (f : Fld) (hf : f.off < 4096) : HoldKept u (u.setFld e0Page f 0) := .setFld u (c := 4) (by decide) (by decide) hf 0
  have h7 : HoldKept s1 s7 := (h6.trans (he0 _ Fld.EDIE_MEMB_EPOCH (by decide))).trans (he0 _ Fld.EDIE_MEMB_MEMBERS (by decide))
  have h8 : HoldKept s1 s8 := h7.trans (he0 _ Fld.EDIE_MEMB_CMD_PENDING (by decide))
  exact h8.foldl _ _ (fun u b hb => .ite (.refl u)
    (.setFld u (c := 12) (by decide) (by have := List.mem_range.mp hb; omega) (f := Fld.BRM_STATUS_STATE) (by decide) 0))

/-! ### Entry and exit -/

/-- A write of a Crown's field leaves the states of the stacks. -/
theorem stk_setFld_crn (s : State) (v : Nat) {k : Nat} (hk : k < 32) :
    (s.setFld crnPage Fld.CRN_PWR_STATUS_STATE v).fld (stkPage k) Fld.STK_STATUS_STATE = s.fld (stkPage k) Fld.STK_STATUS_STATE := by
  refine fld_setFld_other s v (.inl ?_)
  rw [stkPage, regKey_page ⟨by decide, by decide⟩ (by omega), show regKey crnPage Fld.CRN_PWR_STATUS_STATE.off = 0x110 from rfl]
  simp only [page]
  omega

/-- The package takes a power state, with an interrupt. -/
def State.crnPower (s : State) (v b : Nat) : State := (s.setFld crnPage Fld.CRN_PWR_STATUS_STATE v).raise crnPage b

theorem crnPower_fields (s : State) {v : Nat} (hv : v < 8) (b : Nat) :
    (s.crnPower v b).fld crnPage Fld.CRN_PWR_STATUS_STATE = v ∧
    (∀ k < 32, (s.crnPower v b).fld (stkPage k) Fld.STK_STATUS_STATE = s.fld (stkPage k) Fld.STK_STATUS_STATE) ∧
    RegsOutOnly s (s.crnPower v b) := by
  have h : HoldKept (s.setFld crnPage Fld.CRN_PWR_STATUS_STATE v) (s.crnPower v b) := .raise _ 0 0 b
  exact ⟨h.crn.trans (fld_setFld_fits _ _ ⟨by decide, by decide, hv⟩), fun k hk => (h.stk k hk).trans (stk_setFld_crn s v hk),
    (setFld_regsOutOnly ..).trans (State.raise_regsOutOnly ..)⟩

theorem setHeld_kept (s : State) : HoldKept s s.setHeld :=
  (HoldKept.refl s).foldl _ _ (fun u h hh => by
    have h4096 : h < 4096 := by
      simp only [List.mem_cons, List.not_mem_nil, or_false] at hh
      omega
    exact (HoldKept.setFld u (c := 13) (by decide) h4096 (f := Fld.HP_RETAIN_CTRL_STATE) (by decide) 1).trans
      (.setFld _ (c := 13) (by decide) h4096 (f := Fld.HP_RETAIN_CTRL_REFUSED) (by decide) 0))

/-- One port waits for its claim. -/
theorem heldPort_fld (s : State) (h : Nat) :
    ((s.setFld (hpPage h) Fld.HP_RETAIN_CTRL_STATE 1).setFld (hpPage h) Fld.HP_RETAIN_CTRL_REFUSED 0).fld (hpPage h)
      Fld.HP_RETAIN_CTRL_STATE = 1 :=
  (fld_setFld_apart (f := Fld.HP_RETAIN_CTRL_REFUSED) (f' := Fld.HP_RETAIN_CTRL_STATE) _ 0 _ (by decide)).trans
    (fld_setFld_fits _ _ ⟨by decide, by decide, by decide⟩)

theorem setHeld_fields (s : State) :
    s.setHeld.fld (hpPage 0) Fld.HP_RETAIN_CTRL_STATE = 1 ∧ s.setHeld.fld (hpPage 1) Fld.HP_RETAIN_CTRL_STATE = 1 := by
  refine ⟨?_, heldPort_fld _ 1⟩
  refine (fld_setFld_other (f := Fld.HP_RETAIN_CTRL_REFUSED) _ 0 (.inl (by decide))).trans ?_
  exact (fld_setFld_other (f := Fld.HP_RETAIN_CTRL_STATE) _ 1 (.inl (by decide))).trans (heldPort_fld s 0)

/-- The entry into Block-hold is no longer due. -/
def State.holdEntered (s : State) : State := { s with pwr := { s.pwr with holdDue := none } }

theorem blockHoldEntryDone_eq {s : State} (hdue : s.pwr.holdDue = some false) (hidle : ∀ p < 64, s.ctxBusy p = false) :
    blockHoldEntryDone s =
      if (((s.moveStacks 1 2).holdState.crnPower 2 19).holdEntered).pwr.holdByD3 then
        ((s.moveStacks 1 2).holdState.crnPower 2 19).holdEntered
      else ((s.moveStacks 1 2).holdState.crnPower 2 19).holdEntered.setHeld := by
  have hany : ¬ (List.range 64).any (fun p => s.ctxBusy p) = true := by
    rw [List.any_eq_true]
    rintro ⟨p, hp, hbusy⟩
    rw [hidle p (List.mem_range.mp hp)] at hbusy
    cases hbusy
  rw [blockHoldEntryDone, hdue]
  exact if_neg hany

theorem blockHoldEntryDone_holds {s : State} (hdue : s.pwr.holdDue = some false) (hidle : ∀ p < 64, s.ctxBusy p = false) :
    Runs .blockHoldEntryDone s (fun t => t.fld crnPage Fld.CRN_PWR_STATUS_STATE = 2 ∧ t.pwr.holdDue = none ∧
      (∀ k < 32, s.fld (stkPage k) Fld.STK_STATUS_STATE = 1 → t.fld (stkPage k) Fld.STK_STATUS_STATE = 2) ∧
      (s.pwr.holdByD3 = false → t.fld (hpPage 0) Fld.HP_RETAIN_CTRL_STATE = 1 ∧ t.fld (hpPage 1) Fld.HP_RETAIN_CTRL_STATE = 1) ∧
      (s.memWf → ∀ k < cmBase, t.rd k = s.rd k) ∧ t.rings = s.rings ∧ t.frames = s.frames ∧ t.shape.live = s.shape.live) := by
  have hrun := blockHoldEntryDone_eq hdue hidle
  have hmove := moveStacks_regsOutOnly s 1 2
  have hmoved (k : Nat) (hk : k < 32) := moveStacks_moved s (a := 1) (b := 2) (by decide) hk
  generalize s.moveStacks 1 2 = a at hrun hmove hmoved
  have hhold := holdState_kept a
  generalize a.holdState = b at hrun hhold
  obtain ⟨hcrn, hstk, hpower⟩ := crnPower_fields b (v := 2) (by decide) 19
  generalize b.crnPower 2 19 = c at hrun hcrn hstk hpower
  have hpwr : c.pwr = s.pwr := ((congrArg State.pwr hpower :).trans hhold.pwr).trans (congrArg State.pwr hmove :)
  have hby : c.holdEntered.pwr.holdByD3 = s.pwr.holdByD3 :=
    (congrArg Power.holdByD3 hpwr :)
  have hlast : HoldKept c.holdEntered (if c.holdEntered.pwr.holdByD3 then c.holdEntered else c.holdEntered.setHeld) :=
    .ite (.refl _) (setHeld_kept _)
  have hrd : c.rd = (s.lose cmBase (2 ^ 51 - cmBase)).rd := by
    have hlost : (a.lose cmBase (2 ^ 51 - cmBase)).rd = (s.lose cmBase (2 ^ 51 - cmBase)).rd :=
      (congrArg (fun x : State => (x.lose cmBase (2 ^ 51 - cmBase)).rd) hmove :)
    exact ((congrArg State.rd hpower :).trans hhold.rd).trans hlost
  refine ⟨_, done_eq hrun, hlast.crn.trans hcrn, (congrArg Power.holdDue hlast.pwr :), fun k hk h1 => ?_, fun h0 => ?_, fun hwf k hk => ?_,
    ?_, ?_, ?_⟩
  · exact (hlast.stk k hk).trans ((hstk k hk).trans ((hhold.stk k hk).trans (hmoved k hk h1)))
  · rw [if_neg (by simp [hby, h0])]
    exact setHeld_fields c.holdEntered
  · exact (congrFun (hlast.rd.trans hrd) k).trans (rd_lose_other hk hwf)
  · exact hlast.rings.trans (((congrArg State.rings hpower :).trans hhold.rings).trans (congrArg State.rings hmove :))
  · exact hlast.frames.trans (((congrArg State.frames hpower :).trans hhold.frames).trans (congrArg State.frames hmove :))
  · exact congrArg ShapeUnit.live (hlast.shape.trans (((congrArg State.shape hpower :).trans hhold.shape).trans (congrArg State.shape hmove :)))

/-- The recalibrations of the exit (R429). -/
def State.recalAll (s : State) : State := (List.range 1024).foldl (fun s c => if s.mcServes c then s.recalibrated c else s) s

theorem recalAll_kept (s : State) : HoldKept s s.recalAll :=
  (HoldKept.refl s).foldl _ _ (fun u _ hc => .ite (.recalibrated u (List.mem_range.mp hc)) (.refl u))

/-- The package is no longer held by D3hot. -/
def State.holdLeft (s : State) : State := { s with pwr := { s.pwr with holdByD3 := false } }

theorem blockHoldExitDone_eq {s : State} (hst : s.fld crnPage Fld.CRN_PWR_STATUS_STATE = 3) :
    blockHoldExitDone s = ((s.moveStacks 2 1).recalAll.holdLeft.crnPower 0 20).startPorts := by
  unfold blockHoldExitDone State.recalAll State.holdLeft State.crnPower
  rw [if_neg (fun h => h hst)]

/-- What the exit's last step leaves and changes, before the Brim ports start. -/
structure HoldExited (s t : State) : Prop where
  crn : t.fld crnPage Fld.CRN_PWR_STATUS_STATE = 0
  byD3 : t.pwr.holdByD3 = false
  stk : ∀ k < 32, t.fld (stkPage k) Fld.STK_STATUS_STATE = s.fld (stkPage k) Fld.STK_STATUS_STATE
  mem : t.mem = s.mem
  rings : t.rings = s.rings
  frames : t.frames = s.frames
  shape : t.shape = s.shape

theorem holdLeft_exited (s : State) : HoldExited s (s.holdLeft.crnPower 0 20) := by
  obtain ⟨hcrn, hstk, hpower⟩ := crnPower_fields s.holdLeft (v := 0) (by decide) 20
  generalize s.holdLeft.crnPower 0 20 = t at hcrn hstk hpower
  exact ⟨hcrn, (congrArg (fun x : State => x.pwr.holdByD3) hpower :), hstk, (congrArg State.mem hpower :), (congrArg State.rings hpower :),
    (congrArg State.frames hpower :), (congrArg State.shape hpower :)⟩

theorem HoldKept.exited {s t u : State} (h : HoldKept s t) (k : HoldExited t u) : HoldExited s u :=
  ⟨k.crn, k.byD3, fun i hi => (k.stk i hi).trans (h.stk i hi), k.mem.trans h.mem, k.rings.trans h.rings, k.frames.trans h.frames,
    k.shape.trans h.shape⟩

theorem HoldExited.kept {s t u : State} (h : HoldExited s t) (k : HoldKept t u) : HoldExited s u :=
  ⟨k.crn.trans h.crn, (congrArg Power.holdByD3 k.pwr).trans h.byD3, fun i hi => (k.stk i hi).trans (h.stk i hi), k.mem.trans h.mem,
    k.rings.trans h.rings, k.frames.trans h.frames, k.shape.trans h.shape⟩

theorem blockHoldExitDone_leaves {s : State} (hst : s.fld crnPage Fld.CRN_PWR_STATUS_STATE = 3) :
    Runs .blockHoldExitDone s (fun t => t.fld crnPage Fld.CRN_PWR_STATUS_STATE = 0 ∧ t.pwr.holdByD3 = false ∧
      (∀ k < 32, s.fld (stkPage k) Fld.STK_STATUS_STATE = 2 → t.fld (stkPage k) Fld.STK_STATUS_STATE = 1) ∧
      t.mem = s.mem ∧ t.rings = s.rings ∧ t.frames = s.frames ∧ t.shape = s.shape) := by
  have hmove := moveStacks_regsOutOnly s 2 1
  have hexit : HoldExited (s.moveStacks 2 1) (blockHoldExitDone s) := by
    rw [blockHoldExitDone_eq hst]
    exact ((recalAll_kept _).exited (holdLeft_exited _)).kept (.startPorts _)
  refine ⟨_, done_eq rfl, hexit.crn, hexit.byD3, fun k hk h2 => (hexit.stk k hk).trans (moveStacks_moved s (by decide) hk h2), ?_, ?_, ?_, ?_⟩
  · exact hexit.mem.trans (congrArg State.mem hmove :)
  · exact hexit.rings.trans (congrArg State.rings hmove :)
  · exact hexit.frames.trans (congrArg State.frames hmove :)
  · exact hexit.shape.trans (congrArg State.shape hmove :)

/-- Settles O48: one lemma per branch of the sleep states; a frame that lands at the wake sets no DEEP_NAP bit (`NapClear`), and Block-hold
leaves all but the cluster memories and registers (`holdState_kept`). -/
theorem sleepStates : Obligations.SleepStates := by
  unfold Obligations.SleepStates
  refine ⟨fun who p v s => ?_, fun h s => ?_⟩
  · refine ⟨fun hin hst hnap hbad => done_eq (partPwr_notIdle hin hst hnap hbad),
      fun hin hst hnap hdef hidle => done_eq (partPwr_enters hin hst hnap hdef hidle),
      fun hin hst hret => done_eq (partPwr_retainChanged hin hst hret), fun hin hst hnap hret => done_eq (partPwr_wakes hin hst hnap hret),
      fun hst hwake => ⟨fun hret => ?_, fun hret => ?_⟩, deepNapEntryDone_wakes,
      fun hst hnap => done_eq (deepNapWakeDone_awake hst hnap),
      fun k hk hrun htrim hdelay hawake hst hquiet hstill => done_eq (clusterNap_naps hk hrun htrim hdelay hawake hst hquiet hstill)⟩
    · refine done_eq ((deepNapEntryDone_sleeps hst hwake).trans ?_)
      rw [State.napUnits, if_pos hret]
    · refine done_eq ((deepNapEntryDone_sleeps hst hwake).trans ?_)
      rw [State.napUnits, if_neg (by simp [hret])]
  · exact ⟨fun hlink hd0 hall => done_eq (pfD3hot_alone hlink hd0 hall), fun hlink hd0 hall => done_eq (pfD3hot_last hlink hd0 hall),
      fun hd3 hhold hst => done_eq (pfD0_exits hd3 hhold hst), fun hd3 hhold => done_eq (pfD0_awake hd3 hhold),
      blockHoldEntryDone_holds, blockHoldExitDone_leaves⟩

end Sys2Proof.Machine
end

section
/-! The tidy core: one instruction, its queue of issued commands, its watchdog and its page (R180 to R184), O26. -/
namespace Sys2Proof.Machine

open Sys2Proof

/-! ### The core an instruction runs on -/

/-- The core after the cycles of an instruction. -/
def Tc.cycled (t : Tc) (s : State) : Tc := { t with mcycle := t.mcycle + Config.free s.draws }

/-- The state after the cycles of an instruction, a free value. -/
def State.tcCycle (s : State) (n : Nat) : State := s.draw.2.modTc n (fun t => t.cycled s)

/-- From `s` to `x` a free value is drawn, and of the rest the core `n` alone changes. -/
structure CoreStep (n : Nat) (s x : State) (t : Tc) : Prop where
  core : x.tc n = t
  others : ∀ m, m ≠ n → x.tc m = s.tc m
  eq : x = { s with draws := s.draws + 1, tcs := x.tcs }.observe

theorem tcCycle_core (s : State) (n : Nat) : (s.tcCycle n).tc n = (s.tc n).cycled s := SMap.getD_put_same ..

theorem tcCycle_modTc (s : State) (n : Nat) (f : Tc → Tc) :
    CoreStep n s ((s.tcCycle n).modTc n f).observe (f ((s.tc n).cycled s)) where
  core := (SMap.getD_put_same ..).trans (congrArg f (SMap.getD_put_same ..))
  others := fun m hm => by
    rw [State.tc, State.tc]
    exact (SMap.getD_put_other _ _ _ hm).trans (SMap.getD_put_other _ _ _ hm)
  eq := rfl

section
variable {s : State} {n w : Nat}

theorem runs_coreStep {f : Tc → Tc} (h : tcInstruction s n = (s.tcCycle n).modTc n f) :
    Runs (.tcInstruction n) s (fun x => x.tc n = f ((s.tc n).cycled s) ∧
      (∀ m, m ≠ n → x.tc m = s.tc m) ∧ x = { s with draws := s.draws + 1, tcs := x.tcs }.observe) :=
  have hstep := tcCycle_modTc s n f
  ⟨_, done_eq h, hstep.core, hstep.others, hstep.eq⟩

/-! ### Fetch (R180) -/

/-- The fetch of an instruction and its execution. -/
def State.tcFetch (s : State) (n : Nat) : State :=
  match s.tcCode? n (s.tc n).pc.toNat with
  | none => s.tcTrap n 1 (s.tc n).pc.toNat
  | some (u, lo) =>
    if lo % 4 ≠ 3 then
      (match expandC lo with
      | none => u.tcIllegal n lo
      | some w => u.tcExec n w lo 2)
    else match u.tcCode? n ((s.tc n).pc + 2).toNat with
      | none => u.tcTrap n 1 ((s.tc n).pc + 2).toNat
      | some (x, hi) => x.tcExec n (hi * 65536 + lo) (hi * 65536 + lo) 4

/-- Without uncorrectable data a fetch reads its bytes and changes nothing. -/
theorem tcCode?_read {a : Nat} {ks : List Nat} (hbad : s.bad = []) (hkeys : s.tcKeys? n a 2 = some ks) :
    s.tcCode? n a = some (s, leNat (ks.map s.rd)) := by
  have hnone : ks.find? (fun k => s.bad.contains k) = none := by simp [hbad]
  rw [State.tcCode?, hkeys, Option.map_some, State.tcRdKeys, hnone]

theorem tcFetch_word {k1 k2 : List Nat} (hbad : s.bad = []) (hw4 : w % 4 = 3)
    (hk1 : s.tcKeys? n (s.tc n).pc.toNat 2 = some k1) (hlo : leNat (k1.map s.rd) = w % 65536)
    (hk2 : s.tcKeys? n ((s.tc n).pc + 2).toNat 2 = some k2) (hhi : leNat (k2.map s.rd) = w / 65536) :
    s.tcFetch n = s.tcExec n w w 4 := by
  have hwhole : w / 65536 * 65536 + w % 65536 = w := by omega
  have hlong : ¬ (w % 65536 % 4 ≠ 3) := by omega
  simp only [State.tcFetch, tcCode?_read hbad hk1, tcCode?_read hbad hk2, hlo, hhi, if_neg hlong, hwhole]

section
variable (hrun : s.tcRuns n = true) (hst : s.tcState n = 1)
include hrun hst

theorem tcInstruction_eq : tcInstruction s n =
    if (s.tc n).meip && getBits (s.tc n).mie 11 11 == 1 && ((s.tcCycle n).tc n).mieOn then (s.tcCycle n).modTc n (fun t => t.trap 11 0 true)
    else (s.tcCycle n).tcFetch n := by
  have hawake : (if s.tcState n = 2 then s.setFld (corePage n) Fld.CORE_TC_STATUS_STATE 1 else s) = s := if_neg (by simp [hst])
  rw [tcInstruction]
  dsimp only
  rw [if_neg (by simp [hrun, hst]), hawake]
  rfl

theorem tcInstruction_interrupted (h : ((s.tc n).meip && getBits (s.tc n).mie 11 11 == 1 && (s.tc n).mieOn) = true) :
    tcInstruction s n = (s.tcCycle n).modTc n (fun t => t.trap 11 0 true) := by
  rw [tcInstruction_eq hrun hst, tcCycle_core]
  exact if_pos h

theorem tcInstruction_fetched (h : ((s.tc n).meip && getBits (s.tc n).mie 11 11 == 1 && (s.tc n).mieOn) = false) {k1 k2 : List Nat}
    (hbad : s.bad = []) (hw4 : w % 4 = 3) (hk1 : s.tcKeys? n (s.tc n).pc.toNat 2 = some k1) (hlo : leNat (k1.map s.rd) = w % 65536)
    (hk2 : s.tcKeys? n ((s.tc n).pc + 2).toNat 2 = some k2) (hhi : leNat (k2.map s.rd) = w / 65536) :
    tcInstruction s n = (s.tcCycle n).tcExec n w w 4 := by
  have hpc : ((s.tcCycle n).tc n).pc = (s.tc n).pc := (congrArg Tc.pc (tcCycle_core s n) :)
  have hfetch : (s.tcCycle n).tcFetch n = (s.tcCycle n).tcExec n w w 4 :=
    tcFetch_word (s := s.tcCycle n) hbad hw4 (by rw [hpc]; exact hk1) hlo (by rw [hpc]; exact hk2) hhi
  rw [tcInstruction_eq hrun hst, tcCycle_core, ← hfetch]
  exact if_neg (by rw [show ((s.tc n).cycled s).mieOn = (s.tc n).mieOn from rfl, h]; decide)

end

end

/-! ### Execution -/

section
variable {s : State} {n w bits len : Nat} {v : Word64}

/-- An illegal instruction is no access fault, so it traps and nothing else. -/
theorem tcIllegal_eq (s : State) (n bits : Nat) : s.tcIllegal n bits = s.modTc n (fun t => t.trap 2 (BitVec.ofNat 64 bits) false) := by
  have hcause : ¬ (2 = 1 ∨ 2 = 5 ∨ 2 = 7) := by decide
  rw [State.tcIllegal, State.tcTrap]
  exact if_neg hcause

theorem tcExec_lui (hop : ib w 6 0 = 0x37) : s.tcExec n w bits len =
    s.tcRetire n ((s.tc n).pc + BitVec.ofNat 64 len) (fun t => t.setReg (ib w 11 7) (w64 (immU w))) := by
  simp only [State.tcExec, hop]

theorem tcExec_opImm (hop : ib w 6 0 = 0x13) (hv : rvOpImm w ((s.tc n).reg (ib w 19 15)) = some v) : s.tcExec n w bits len =
    s.tcRetire n ((s.tc n).pc + BitVec.ofNat 64 len) (fun t => t.setReg (ib w 11 7) v) := by
  simp only [State.tcExec, hop, hv]

theorem tcExec_op (hop : ib w 6 0 = 0x33)
    (hv : rvOp (ib w 31 25) (ib w 14 12) ((s.tc n).reg (ib w 19 15)) ((s.tc n).reg (ib w 24 20)) = some v) : s.tcExec n w bits len =
    s.tcRetire n ((s.tc n).pc + BitVec.ofNat 64 len) (fun t => t.setReg (ib w 11 7) v) := by
  simp only [State.tcExec, hop, hv]

theorem tcExec_op_illegal (hop : ib w 6 0 = 0x33)
    (hv : rvOp (ib w 31 25) (ib w 14 12) ((s.tc n).reg (ib w 19 15)) ((s.tc n).reg (ib w 24 20)) = none) : s.tcExec n w bits len =
    s.modTc n (fun t => t.trap 2 (BitVec.ofNat 64 bits) false) := by
  simp only [State.tcExec, hop, hv, tcIllegal_eq]

theorem tcExec_jal (hop : ib w 6 0 = 0x6F) : s.tcExec n w bits len =
    s.tcRetire n ((s.tc n).pc + w64 (immJ w)) (fun t => t.setReg (ib w 11 7) ((s.tc n).pc + BitVec.ofNat 64 len)) := by
  simp only [State.tcExec, hop]

end

/-! ### Registers of the core: issue, sticky flags, watchdog, RUN and mailbox (R126, R181, R183, R184) -/

section
variable {s : State} {n : Nat}

theorem tcIssue_queued {p c addr : Nat} (hroom : (s.tc n).queue.length < 8) (hctx : s.tcCtx? n = some (p, c))
    (howns : s.shape.live.ownsRing p (s.tc n).issueRing = true) (hccp : (s.ring (s.tc n).issueRing).ccp = n / 8)
    (hring : (s.ring (s.tc n).issueRing).context = c) (halign : addr % 64 = 0) (haddr : addr < 65536) :
    tcIssue s n addr = s.modTc n (fun t => { t with
      queue := t.queue ++ [((s.tc n).issueRing, s.rds (ldmKey n addr) 64)], issued := (t.issued + 1) % 2 ^ 32 }) := by
  simp only [tcIssue, if_neg (Nat.not_le.mpr hroom), hctx, howns, hccp, hring, beq_self_eq_true, Bool.and_self, Bool.not_true,
    Bool.false_eq_true, if_false, if_pos (And.intro halign haddr)]

theorem tcIssue_full {addr : Nat} (hfull : 8 ≤ (s.tc n).queue.length) : tcIssue s n addr = s := if_pos hfull

theorem tcIssue_refused {addr : Nat} (hroom : (s.tc n).queue.length < 8)
    (hno : ∀ p c, s.tcCtx? n = some (p, c) → s.shape.live.ownsRing p (s.tc n).issueRing = false) :
    tcIssue s n addr = (s.modTc n (fun t => { t with ip := t.ip ||| 8 })).refuse (corePage n) 0x058E 0 0 := by
  rw [tcIssue]
  dsimp only
  rw [if_neg (Nat.not_le.mpr hroom)]
  cases hctx : s.tcCtx? n with
  | none => exact if_pos rfl
  | some x =>
    obtain ⟨p, c⟩ := x
    exact if_pos (by simp [hno p c hctx])

theorem tcWatchdogExpiry_warns (hwdog : (s.tc n).wdog ≠ 0) (hst : s.tcState n = 1 ∨ s.tcState n = 2) (hwarned : (s.tc n).warned = false) :
    tcWatchdogExpiry s n = (s.modTc n (fun t => { t with ip := t.ip ||| 4 })).modTc n (fun t => { t with warned := true }) := by
  rw [tcWatchdogExpiry, if_neg (by omega)]
  exact if_neg (by simp [hwarned])

theorem tcWatchdogExpiry_halts (hwdog : (s.tc n).wdog ≠ 0) (hst : s.tcState n = 1 ∨ s.tcState n = 2) (hwarned : (s.tc n).warned = true) :
    tcWatchdogExpiry s n = (((s.setFld (corePage n) Fld.CORE_TC_STATUS_STATE 3).setFld (corePage n) Fld.CORE_TC_STATUS_WDOG 1).raise
      (corePage n) 16).tcRecord n 0x0592 := by
  rw [tcWatchdogExpiry, if_neg (by omega)]
  exact if_pos hwarned

section
variable {who : Requester} {v : Word64} (hin : s.letsIn who (corePage n))
include hin

theorem tcRunWrite_starts (hrun : getBits v 0 0 = 1) (hst : s.tcState n = 0 ∨ s.tcState n = 3) : tcRunWrite s who n v =
    (((s.setFld (corePage n) Fld.CORE_TC_CTRL_RUN 1).setFld (corePage n) Fld.CORE_TC_STATUS_STATE 1).setFld (corePage n)
      Fld.CORE_TC_STATUS_WDOG 0).modTc n (fun t => { t with
        pc := BitVec.ofNat 64 (s.fld (corePage n) Fld.CORE_TC_BOOT_ADDR / 2 * 2), warned := false }) := by
  have hboot : (s.setFld (corePage n) Fld.CORE_TC_CTRL_RUN 1).fld (corePage n) Fld.CORE_TC_BOOT_ADDR =
      s.fld (corePage n) Fld.CORE_TC_BOOT_ADDR := by
    refine fld_setFld_other s 1 (.inl (fun e => ?_))
    have hoff := congrArg pgOff e
    rw [corePage, pgOff_regKey_page 7 n (by decide), pgOff_regKey_page 7 n (by decide)] at hoff
    cases hoff
  rw [tcRunWrite]
  dsimp only
  rw [letIn_letsIn hin, hrun, if_neg (by decide), if_neg (by omega), hboot]

theorem tcRunWrite_stops (hrun : getBits v 0 0 = 0) (hst : s.tcState n ≠ 3) : tcRunWrite s who n v =
    (s.setFld (corePage n) Fld.CORE_TC_CTRL_RUN 0).setFld (corePage n) Fld.CORE_TC_STATUS_STATE 0 := by
  rw [tcRunWrite]
  dsimp only
  rw [letIn_letsIn hin, hrun, if_pos rfl]
  exact if_neg hst

theorem tcMboxWrite_message : tcMboxWrite s who n v =
    (s.setReg (corePage n + Reg.CORE_TC_MBOX) v).modTc n (fun t => { t with ip := t.ip ||| 16 }) := letIn_letsIn hin _

end

end

/-- Settles O26: an instruction is its fetch and its execution on the core after its cycles (`tcInstruction_eq`), which change that core
alone (`tcCycle_modTc`); one lemma per register write. -/
theorem tidyCore : Obligations.TidyCore := by
  unfold Obligations.TidyCore
  refine ⟨fun n w k1 k2 s hrun hst => ⟨fun hintr => runs_coreStep (tcInstruction_interrupted hrun hst hintr),
    fun hintr hbad _ hw4 hk1 hlo hk2 hhi => ?_⟩, fun n v s => ?_⟩
  · have hfetch := tcInstruction_fetched hrun hst hintr hbad hw4 hk1 hlo hk2 hhi
    have hcore := tcCycle_core s n
    have hreg (r : Nat) : ((s.tcCycle n).tc n).reg r = (s.tc n).reg r := by
      rw [hcore]
      rfl
    have hpc : ((s.tcCycle n).tc n).pc = (s.tc n).pc := (congrArg Tc.pc hcore :)
    refine ⟨fun hop => ?_, fun hop v hv => ?_, fun hop v hv => ?_, fun hop hv => ?_, fun hop => ?_⟩
    · have hexec := hfetch.trans (tcExec_lui hop)
      rw [hpc] at hexec
      exact runs_coreStep hexec
    · have hexec := hfetch.trans (tcExec_opImm hop (by rw [hreg]; exact hv))
      rw [hpc] at hexec
      exact runs_coreStep hexec
    · have hexec := hfetch.trans (tcExec_op hop (by rw [hreg, hreg]; exact hv))
      rw [hpc] at hexec
      exact runs_coreStep hexec
    · exact runs_coreStep (hfetch.trans (tcExec_op_illegal hop (by rw [hreg, hreg]; exact hv)))
    · have hexec := hfetch.trans (tcExec_jal hop)
      rw [hpc] at hexec
      exact runs_coreStep hexec
  · exact ⟨fun addr p c hroom hctx howns hccp hring halign haddr => done_eq (tcIssue_queued hroom hctx howns hccp hring halign haddr),
      fun addr hfull => done_eq (tcIssue_full hfull), fun addr hroom hno => done_eq (tcIssue_refused hroom hno), done_eq rfl, done_eq rfl,
      fun hwdog hst => ⟨fun hw => done_eq (tcWatchdogExpiry_warns hwdog hst hw), fun hw => done_eq (tcWatchdogExpiry_halts hwdog hst hw)⟩,
      fun who hin => ⟨fun hrun hst => done_eq (tcRunWrite_starts hin hrun hst), fun hrun hst => done_eq (tcRunWrite_stops hin hrun hst),
        done_eq (tcMboxWrite_message hin)⟩⟩

end Sys2Proof.Machine
end
